-- ==== Sys2Proof/Word.lean ====
section
/-! DEFINITION. The words the Balinette's registers and messages are made of. -/

namespace Sys2Proof

/-- A 32-bit register word (R11). -/
abbrev Word := BitVec 32

end Sys2Proof
end

