-- ==== Sys2Proof/Config.lean ====
section
/-! DEFINITION. What one Balinette fixes: the sizes of the configuration table (R4, R391), the sampled straps (R387),
the fused values the manual names, and the free values the manual leaves open. -/

namespace Sys2Proof

/-- The configuration table of R4 and R391. -/
structure CfgTable where
  tiles : Nat
  engines : Nat
  cpu : Nat
  memif : Nat
  link : Nat
  fabric : Nat
  domains : Nat
  cells : Nat
  towers : Nat
  dies : Nat
  phVstk : Nat
  phVddm : Nat
  phVppm : Nat
  phVio : Nat
  phTotal : Nat
  cp : Nat
  sar : Nat
  slots : Nat
  tsens : Nat
  dsens : Nat
deriving DecidableEq, Repr

/-- The Reference column of R4 and R391. -/
def CfgTable.reference : CfgTable :=
  { tiles := 192, engines := 16, cpu := 12, memif := 24, link := 16, fabric := 4, domains := 248, cells := 1152,
    towers := 24, dies := 8, phVstk := 56, phVddm := 12, phVppm := 2, phVio := 2, phTotal := 72, cp := 4, sar := 16,
    slots := 512, tsens := 2912, dsens := 1024 }

/-- The straps of R387. -/
structure Straps where
  testEn : Nat
  herdRole : Nat
  phasesPop : Nat
  vstkDef : Nat
  bootMode : Nat
deriving DecidableEq, Repr

/-- The fused values that the manual names outside the configuration table. `lkTrim` lists (domain, trim) pairs that
differ from 0; `chkExp` one code per converter pair; `ovLimit` one set-point code per domain class (R104);
`words` the (word, value) pairs of the array that are not 0;
`railSet` the set-points of VDDM, VPPM and VIO in microvolts (R48);
`goose` the twelve limits of the Goose in the order of FLT_GOOSE_LIM0 to FLT_GOOSE_LIM4 (R427); `keyDigest` the fused SHA-384 digest of the image key, 48 bytes (R371, R389 to R392). -/
structure Fuses where
  revMinor : Nat
  chkExp : List Nat
  lkTrim : List (Nat × Nat)
  ovLimit : List Nat
  words : List (Nat × Nat)
  railSet : List Nat
  goose : List Nat
  keyDigest : List Nat
deriving DecidableEq, Repr

/-- What the fuse load and the strap sampling have fixed: table, its validity, straps and fused values. -/
structure Cfg where
  table : CfgTable
  valid : Bool
  straps : Straps
  fuses : Fuses
deriving DecidableEq, Repr

/-- A value the manual leaves open. The n-th open value of a run is `freeValue n`; nothing is known of it
(DESIGN CHOICE, assumption 1). -/
opaque Config.freeValue : Nat → Nat

end Sys2Proof
end

