-- ==== Sys2Proof/Syntax.lean ====
section
/-! DEFINITION. The commands and events of the Balinette, one constructor for each row of spec/opcode_table.json. Operands are
the numbers a write, a message or a measurement brings. Voltages, currents and temperatures come in the unit of the register
or rule that takes them; units are counted as R49 and R46 count them. -/

namespace Sys2Proof

/-- One reading of a droop sensor, headroom and droop in 0.5 mV (R53). -/
structure DroopReading where
  sensor : Nat
  headroom : Int
  droop : Int
deriving DecidableEq, Repr

/-- The tile set of a forecast message (R177). -/
structure TileSet where
  first : Nat
  count : Nat
  stride : Nat
deriving DecidableEq, Repr

/-- A lock-link message that has passed its CRC: header fields and the message bytes 8 to 27 (R273, R274). -/
structure LockMsg where
  flags : Nat
  group : Nat
  sender : Nat
  seq : Nat
  body : List Nat
deriving DecidableEq, Repr

/-- An endpoint of the fabric (R36, R454): the port of a domain load, a cell, a droop sensor, a temperature sensor, a converter, a
lock port, or an endpoint with none of these behind it. -/
inductive Endpoint where
  | load (d : Nat)
  | cell (c : Nat)
  | droop (x : Nat)
  | temp (x : Nat)
  | conv (c : Nat)
  | port (p : Nat)
  | other
deriving DecidableEq, Repr

/-- The commands. -/
inductive Instr where
  -- intermediate bus (R45)
  | busOutOfRange (vbus : Nat)
  | busFatal (vbus : Nat)
  -- phase groups (R68 to R93)
  | groupEnable (g : Nat)
  | groupDisable (g : Nat)
  | startDelayElapsed (g vs : Nat)
  | rampEnd (g vs : Nat)
  | foldbackEntry (g vs : Nat)
  | foldbackRecovery (g vs : Nat)
  | fbLong (g : Nat)
  | hiccupEntry (g vs : Nat)
  | hiccupWaitElapsed (g vs : Nat)
  | stopDelayElapsed (g : Nat)
  | stopRampEnd (g vs : Nat)
  | attemptsClear (g : Nat)
  | phasePulse (g : Nat)
  | valleyLimitUpdate (g vs : Nat)
  | valleyHold (p : Nat) (imon : Int)
  | pulseRiseReport (p : Nat) (rose ripple : Bool)
  | phaseSenseDisable (p : Nat)
  | tmonHotForce (p tmon : Nat)
  | phaseDisable (p : Nat)
  | phaseCheckStart (p : Nat)
  | phaseReadmit (p : Nat)
  | phaseCheckEnd (p : Nat)
  -- PMBus (R95 to R99)
  | pmbusPollCycle
  | pmbusTransactionDone (ack : Bool) (data pec : Nat)
  | pmbusBusHeld
  | pmbusBusReset
  | pmbusBusFree
  -- cells and domains (R53 to R131)
  | cellLimitReached (c : Nat)
  | cellLimitRelease (c : Nat)
  | cellLimitFold (c : Nat)
  | cellLimitRestore (c : Nat)
  | cellFailure (c cause : Nat)
  | cellIsolationConfirmed (c : Nat)
  | cellIsoFail (c : Nat)
  | cellIsolate (c : Nat)
  | cellUnisolate (c : Nat)
  | cellReadmit (c : Nat)
  | cellCheckEnd (c : Nat) (pass : Bool)
  | prechargeComplete (c : Nat)
  | headroomOffsetUpdate (d : Nat)
  | droopSample (sensors : List DroopReading) (cells : List (Nat × Int)) (vias : List (Nat × Nat))
  | droopFloorFall (d : Nat)
  | stackGateReopen
  | droopSensorRecheck (x : Nat)
  | droopRecheckPass (x : Nat)
  | wakeHeadroomMet (d : Nat)
  | wakeLate (d : Nat)
  | quiesceAck (d : Nat)
  | quiesceTimeout (d : Nat)
  | rampDownEnd (d : Nat)
  -- control engine (R132 to R162)
  | fastElementEvaluation (slot elem : Nat)
  | mediumEvaluation (missed : Nat)
  | slowEvaluation (missed : Nat)
  | deadlineMiss (slot : Nat)
  | laneRetire (lane : Nat)
  | slotOpen (slot : Nat)
  | slotClose (slot : Nat)
  -- the Rooster (R177 to R200)
  | activityToken (fmt : Nat) (set : TileSet) (start m n k tokenId : Nat)
  | barrierAnnouncement (set : TileSet) (release bid engines : Nat)
  | barrierCancel (bid : Nat)
  | prebiasFloorStart (key : Nat)
  | prebiasFloorFall (key tile : Nat)
  | waveArm
  | waveRelease (bid : Nat)
  | waveTimeout (bid : Nat)
  | startReq (port tile wclass reqId epoch : Nat) (barrier : Bool) (engines step bid : Nat)
  | startCancel (tile reqId : Nat)
  | mapNotice (tile epoch map : Nat)
  | bucketRefill
  | permitGrant
  | profileCheck (tile : Nat)
  -- power estimation (R202 to R219)
  | counterMessage (port : Nat) (valid : Bool) (dom window : Nat) (counts : List Nat)
  | counterStaleDecision
  | estimatePublish (cells : List (Nat × Nat))
  | calibrationUpdate
  -- the Ox (R222 to R243)
  | pulseEnd
  | averageUpdate
  | governorUpdate
  | fixedLost (tile : Nat)
  -- thermal sensing (R246 to R268)
  | temperatureConversion
  | temperaturePublish (results : List (Nat × Int))
  | sidebandReading (tower : Nat) (readings : List (Nat × Int))
  | clampReleaseStart (tower : Bool) (unit : Nat)
  | clampRiseStep (tower : Bool) (unit : Nat)
  | sensorDisagree (sensor : Nat) (differ : Bool)
  | sensorRecheck (sensor : Nat)
  | sensorRecheckEnd (sensor : Nat)
  | maskSensor (set slot : Nat)
  | sidebandLost (tower : Nat)
  | sidebandRecover (tower : Nat)
  | thetaUpdate
  | forecastBinShift
  | sensorConversionTimeout (sensor : Nat)
  -- Herd lock (R270 to R287)
  | herdJoin (set slot : Nat)
  | herdLeave (set slot : Nat)
  | helloReceived (port : Nat) (m : LockMsg)
  | offerReceived (port : Nat) (m : LockMsg)
  | changeReceived (m : LockMsg)
  | changeTick
  | syncReceived (m : LockMsg)
  | delayReqReceived (port : Nat) (m : LockMsg)
  | delayRespReceived (m : LockMsg)
  | excludeReceived (port : Nat) (m : LockMsg)
  | decideReceived (m : LockMsg)
  | disbandReceived (m : LockMsg)
  | syncSend
  | offerSend
  | delayReqSend
  | helloRetry
  | linkLoss (port : Nat)
  | offerRecompute
  | exclusionRecovery
  | exclWaitExpiry
  | joinTimeout
  | holdTmoExpiry
  | decideFollow (stack : Nat)
  | decideEvict (stack : Nat)
  | exclusionEntryExpiry (entry : Nat)
  | lockMessageDiscard (port : Nat) (bytes : List Nat)
  | timeSlewEnd
  -- analog measurement (R289 to R307)
  | roundStart (c : Nat)
  | conversionDone (c : Nat) (v : Int)
  | triggerHold (c : Nat)
  | triggerTimeout (c : Nat)
  | heldValueDiscard (c : Nat)
  | urgentTimerConversion (c : Nat)
  | adcUrgReq (ch gain smp : Nat)
  | converterStall (c : Nat)
  | converterWake (c : Nat) (onTime : Bool)
  | converterPowerDown (c : Nat)
  | converterOffline (c : Nat)
  | converterOnline (c : Nat)
  | converterRecheck (c : Nat)
  | converterRecheckEnd (c : Nat)
  | adcCalibrate (set slot : Nat)
  | calibrationStepDone
  | calibrationExpiry (ch : Nat)
  -- telemetry and capture (R309 to R324)
  | telemetryWindowClose
  | recordWriteAck
  | recordDrop
  | notifyWrite
  | telemetryEnable
  | telemetryStart
  | telemetryDisable
  | consWrite (value : Nat)
  | busErrorResponse (write : Nat)
  | telemetrySetup (set slot : Nat)
  | captureWaveform (set slot : Nat)
  | captureArm
  | captureDisarm
  | captureBlockEncode
  | captureTrigger
  | capturePostDone
  | captureDumpAck
  | captureWaitTimeout
  -- check-value units (R327 to R335)
  | crcStart (init u : Nat)
  | crcFinish (init u : Nat)
  | crcAbort (init u : Nat)
  | crcData32 (init u data : Nat)
  | crcData8 (init u data : Nat)
  | crcValueWrite (init u value : Nat)
  | crcSettingsWrite (init u reg value : Nat)
  | crcClaim (init : Nat)
  | crcRelease (init : Nat)
  | crcLeaseExpiry
  | crcSelfTest (u : Nat) (pass : Bool)
  -- fences by command (R118)
  | fenceDomain (set slot : Nat)
  | unfenceDomain (set slot : Nat)
  -- partners and packets (R337 to R354)
  | slotHandover (init set slot word : Nat)
  | replySlotRead (init set slot : Nat)
  | registrationSlotTimeout (slot : Nat)
  | firmwarePacketStart (set slot : Nat)
  | registerPartner (set slot : Nat)
  | renewLease (set slot : Nat)
  | releasePartner (set slot : Nat)
  | heartbeatMissed (set : Nat)
  | leaseExpiry (set : Nat)
  | partnerFree (set : Nat)
  | setOperatingPoint (set slot : Nat)
  | setPreferredPoint (set slot : Nat)
  | setPowerCap (set slot : Nat)
  | setFixedFrequency (set slot : Nat)
  -- the epoch engine (R354 to R358, R462)
  | stageConfig (set slot : Nat)
  | rweWrite (init off value : Nat)
  | commitEpoch (set slot : Nat)
  | cmdCommit (init value : Nat)
  | abortRetune (set slot : Nat)
  | validationDone
  | epochApply
  | settleDone
  | settleTimeout
  -- firmware (R361 to R385, R431)
  | loadImage (set slot : Nat)
  | imageVerifyDone
  | loadingTimeout
  | activateImage (set slot : Nat)
  | queryImage (set slot : Nat)
  | interlockQuietEnd
  | deferTimeout
  | processorSwitch (cp : Nat)
  | processorCrash (cp cause addr comp : Nat)
  | watchdogExpiry (cp : Nat)
  | watchdogKick (init cp : Nat)
  | processorRestartDone (cp : Nat) (bankGood : Bool)
  | scrubPass (corrected : List Nat) (crashed : List (Nat × Nat × Nat)) (banks : List Nat)
  | policyCycle
  | mailboxTimeout (slot : Nat)
  | debugHalt (init : Nat)
  | debugResume (init : Nat)
  | debugStep (init : Nat)
  | debugWindowWrite (init off value : Nat)
  -- faults (R412 to R432)
  | faultRaise (k : Nat)
  | fatalRaise (k : Nat)
  | fatalStopGroupNext
  | softwareWindowExpiry (sub code : Nat)
  | quietExpiry (sub code : Nat)
  | fltHandle (init sub code : Nat)
  | faultQuery (set slot : Nat)
  | faultAck (set slot : Nat)
  | cntClr (init sub code : Nat)
  | fecValidClear (init : Nat)
  | pairReadbackMismatch (t c : Nat)
  | pairReadbackAgree
  | faultLogicHeartbeat
  | gooseTrip (code index : Nat)
  -- link test and register access (R11 to R18, R455, R456)
  | linkTest (set slot : Nat)
  | linkTestEnd (link bits errors : Nat) (locked : Bool)
  | highWordLatchRead (init off : Nat)
  | registerWrite (bus : Bool) (init off size value : Nat)
  | roosterMessageDiscard (tile : Nat)
  -- bring-up, reset and the time base (R35 to R40, R386 to R409, R454)
  | aonPowerOn (selfTest : Bool)
  | gooseReset
  | powerOnEnd (straps : Straps)
  | fuseLoadDone (table : CfgTable) (fuses : Fuses) (corrected uncorrectable : List Nat)
  | flashWake
  | flashImageReadDone (bytes : List Nat)
  | imageApplyDone
  | bootRelease (init : Nat)
  | useRom (init : Nat)
  | cfgCommit (init : Nat)
  | releaseSequenceStep
  | pwrOkTmoExpiry
  | cpRst (init : Nat)
  | blockRst (init : Nat) (held : Bool)
  | blRstNLow
  | blCprstNLow
  | cpIntervalEnd
  | fuseProgram (init word : Nat)
  | fuseProgramReadback (value : Nat)
  | refclkLoss
  | refclkReturn
  | oscCalibration
  | fabricRetry (sender : Nat)
  | endpointUnreachable (what : Endpoint)
deriving DecidableEq, Repr

end Sys2Proof
end

