-- ==== Sys2Proof/Decode.lean ====
section
/-! DEFINITION. The command a table word spells. The rows of spec/opcode_table.json give no bits: a command of the Balinette is an
access, a packet, a message or an event, never one word. -/

namespace Sys2Proof

/-- The command that a word of the opcode table spells: no row gives bits, so no word spells one. -/
def decodeTableWord (_nbits _w : Nat) : Option Instr := none

end Sys2Proof
end

