-- ==== Sys2Proof/Machine/RegTable.lean ====
section
/-! DEFINITION. The register fields of the Balinette's 1 MiB window, as the register tables of spec/ give them:
one constructor of `Fld` per field, its bits, its access type and its reset value, and the register rows that place
the fields at offsets (R457). Reset values that are not one number stand in `Fld.rst` (Machine/Resets.lean). -/

namespace Sys2Proof.Machine

/-- The access types of R14. -/
inductive Acc where
  | ro
  | rw
  | rw1c
  | wo
  | rwl
  | rwe
deriving DecidableEq, Repr

/-- Where a field lies in its register, how it is written, and its reset value (0 where the table gives no number). -/
structure FldInfo where
  hi : Nat
  lo : Nat
  acc : Acc
  rst : Nat
deriving DecidableEq, Repr

/-- The register fields, one constructor each, named `<register>_<field>`. An array of registers has one constructor
per field and an item number beside it. -/
inductive Fld where
  -- GLB_ID at 0x00000 (00_scope.md)
  | GLB_ID_VENDOR
  | GLB_ID_BLOCK
  | GLB_ID_REV_MAJOR
  | GLB_ID_REV_MINOR
  -- GLB_TIME_LO at 0x00010 (01_architecture.md)
  | GLB_TIME_LO_TICKS_LO
  -- GLB_TIME_HI at 0x00014 (01_architecture.md)
  | GLB_TIME_HI_TICKS_HI
  -- GLB_TB_STATUS at 0x00018 (01_architecture.md)
  | GLB_TB_STATUS_FALLBACK_COUNT
  | GLB_TB_STATUS_CAL_OK
  | GLB_TB_STATUS_HERD_SHARED
  | GLB_TB_STATUS_FALLBACK
  -- GLB_FAB_STATUS at 0x0001C (01_architecture.md)
  | GLB_FAB_STATUS_SEG_FAIL_COUNT
  | GLB_FAB_STATUS_TREE_B_OK
  | GLB_FAB_STATUS_TREE_A_OK
  -- GLB_CFG0 at 0x00020 (17_bringup_reset.md)
  | GLB_CFG0_TILES
  | GLB_CFG0_ENGINES
  | GLB_CFG0_CPU
  -- GLB_CFG1 at 0x00024 (17_bringup_reset.md)
  | GLB_CFG1_MEMIF
  | GLB_CFG1_LINK
  | GLB_CFG1_FABRIC
  | GLB_CFG1_DOMAINS
  -- GLB_CFG2 at 0x00028 (17_bringup_reset.md)
  | GLB_CFG2_CELLS
  | GLB_CFG2_TOWERS
  | GLB_CFG2_DIES
  -- GLB_CFG3 at 0x0002C (17_bringup_reset.md)
  | GLB_CFG3_PH_VSTK
  | GLB_CFG3_PH_VDDM
  | GLB_CFG3_PH_VPPM
  | GLB_CFG3_PH_VIO
  | GLB_CFG3_PH_TOTAL
  -- GLB_CFG4 at 0x00030 (17_bringup_reset.md)
  | GLB_CFG4_CP
  | GLB_CFG4_SAR
  | GLB_CFG4_SLOTS
  | GLB_CFG4_TSENS
  -- GLB_CFG5 at 0x00034 (17_bringup_reset.md)
  | GLB_CFG5_VALID
  | GLB_CFG5_DSENS
  -- GLB_VSTK_STATUS at 0x00040 (02_power_path.md)
  | GLB_VSTK_STATUS_BUS_OOR
  | GLB_VSTK_STATUS_CLAMPED
  | GLB_VSTK_STATUS_VSTK_CODE
  | GLB_VSTK_STATUS_HEADROOM_MIN
  | GLB_VSTK_STATUS_VSTK_LIVE
  -- GLB_DESIGN_CUR at 0x00044 (02_power_path.md)
  | GLB_DESIGN_CUR_EDC_EFF
  | GLB_DESIGN_CUR_TDC_EFF
  -- GLB_BOOT_STATUS at 0x00048 (17_bringup_reset.md)
  | GLB_BOOT_STATUS_STATE
  | GLB_BOOT_STATUS_FW
  | GLB_BOOT_STATUS_CFG_COMMITTED
  | GLB_BOOT_STATUS_PWR_OK
  | GLB_BOOT_STATUS_SRC
  | GLB_BOOT_STATUS_ERR
  -- GLB_BOOT_CTRL at 0x0004C (17_bringup_reset.md)
  | GLB_BOOT_CTRL_RELEASE
  | GLB_BOOT_CTRL_USE_ROM
  | GLB_BOOT_CTRL_CFG_COMMIT
  | GLB_BOOT_CTRL_PWR_OK_TMO
  -- GLB_RST_CTRL at 0x00050 (17_bringup_reset.md)
  | GLB_RST_CTRL_CP_RST
  | GLB_RST_CTRL_BLOCK_RST
  -- GLB_RST_STATUS at 0x00054 (17_bringup_reset.md)
  | GLB_RST_STATUS_STACK_HELD
  | GLB_RST_STATUS_CP_ACTIVE
  | GLB_RST_STATUS_LAST
  | GLB_RST_STATUS_CP_COUNT
  | GLB_RST_STATUS_BLK_COUNT
  -- GLB_IMG_INFO at 0x00058 (17_bringup_reset.md)
  | GLB_IMG_INFO_VERSION
  | GLB_IMG_INFO_LEN_KIB
  -- GLB_CP_STATUS at 0x00400 (16_firmware.md)
  | GLB_CP_STATUS_STATE
  | GLB_CP_STATUS_CAUSE
  | GLB_CP_STATUS_BANK
  | GLB_CP_STATUS_CKPT_OK
  | GLB_CP_STATUS_COMP_ID
  | GLB_CP_STATUS_CRASH_COUNT
  | GLB_CP_STATUS_RESTARTS
  -- GLB_CP_FAULT at 0x00404 (16_firmware.md)
  | GLB_CP_FAULT_ADDR
  -- GLB_CP_WDT at 0x00408 (16_firmware.md)
  | GLB_CP_WDT_KICK
  | GLB_CP_WDT_WDT_MS
  -- GLB_FW_IMG at 0x00440 (16_firmware.md)
  | GLB_FW_IMG_STATE
  | GLB_FW_IMG_DAMAGED
  | GLB_FW_IMG_ERR
  | GLB_FW_IMG_RUN_MASK
  | GLB_FW_IMG_BYTES
  -- GLB_FW_CTRL at 0x00448 (16_firmware.md)
  | GLB_FW_CTRL_IL_QUIET
  | GLB_FW_CTRL_CRASH_LIMIT
  | GLB_FW_CTRL_MIN_SVN
  -- GLB_FW_IL at 0x0044C (16_firmware.md)
  | GLB_FW_IL_SET
  | GLB_FW_IL_GOOSE
  | GLB_FW_IL_GROUP
  | GLB_FW_IL_PULSE
  | GLB_FW_IL_DESCEND
  | GLB_FW_IL_LIMIT
  | GLB_FW_IL_EMERG
  -- GLB_FW_EVENT at 0x00450 (16_firmware.md)
  | GLB_FW_EVENT_DAMAGED
  | GLB_FW_EVENT_STOPPED
  | GLB_FW_EVENT_CRASH
  | GLB_FW_EVENT_DBG_REF
  | GLB_FW_EVENT_ACT_TMO
  | GLB_FW_EVENT_IMG_BAD
  | GLB_FW_EVENT_ECC_CORR
  -- GLB_FW_DBG_SEL at 0x00454 (16_firmware.md)
  | GLB_FW_DBG_SEL_BANK
  -- GLB_FW_LOAD at 0x00458 (16_firmware.md)
  | GLB_FW_LOAD_ACTIVE
  | GLB_FW_LOAD_TARGET
  | GLB_FW_LOAD_PARTNER
  -- GLB_LT_STAT at 0x00500 (20_ports_and_map.md)
  | GLB_LT_STAT_STATE
  | GLB_LT_STAT_MODE
  | GLB_LT_STAT_LOCKED
  | GLB_LT_STAT_FORCED
  | GLB_LT_STAT_LEFT_MS
  -- GLB_LT_BITS at 0x00504 (20_ports_and_map.md)
  | GLB_LT_BITS_BITS
  -- GLB_LT_ERRS at 0x00508 (20_ports_and_map.md)
  | GLB_LT_ERRS_ERRS
  -- CMD_CTRL at 0x00800 (15_commands.md)
  | CMD_CTRL_EPOCH_SETTLE
  -- CMD_STATUS at 0x00804 (15_commands.md)
  | CMD_STATUS_CP0_READY
  | CMD_STATUS_QUEUED
  | CMD_STATUS_REGISTERED
  | CMD_STATUS_STORE_USED
  -- CMD_RUN at 0x00808 (15_commands.md)
  | CMD_RUN_STATE
  | CMD_RUN_RETUNE
  | CMD_RUN_EPOCH
  | CMD_RUN_EPOCHS_M1
  | CMD_RUN_RUN_ID
  -- CMD_EVENT at 0x0080C (15_commands.md)
  | CMD_EVENT_RUN_HALT
  | CMD_EVENT_LEASE_EXP
  | CMD_EVENT_STORE_FULL
  | CMD_EVENT_LEASE_LATE
  | CMD_EVENT_FOREIGN
  | CMD_EVENT_SLOT_BUSY_WR
  -- CMD_COMMIT at 0x00810 (15_commands.md)
  | CMD_COMMIT_GO
  | CMD_COMMIT_RETUNE
  | CMD_COMMIT_DRY_RUN
  | CMD_COMMIT_RESUME
  -- CMD_COMMIT_ST at 0x00814 (15_commands.md)
  | CMD_COMMIT_ST_STATUS
  | CMD_COMMIT_ST_INITIATOR
  | CMD_COMMIT_ST_RUN_ID
  -- CMD_NOTICE_SEQ at 0x00818 (15_commands.md)
  | CMD_NOTICE_SEQ_NSEQ
  -- CMD_PRIV at 0x00880 (15_commands.md)
  | CMD_PRIV_CLASS
  -- CMD_PART_ID at 0x00900 (15_commands.md)
  | CMD_PART_ID_STATE
  | CMD_PART_ID_FLAGS
  | CMD_PART_ID_CLASS
  | CMD_PART_ID_INITIATOR
  | CMD_PART_ID_REG_EPOCH_LO
  -- CMD_PART_SLOTS at 0x00904 (15_commands.md)
  | CMD_PART_SLOTS_BUSY
  | CMD_PART_SLOTS_NEW
  | CMD_PART_SLOTS_NOTICE_NEW
  -- CMD_PART_LEASE at 0x00908 (15_commands.md)
  | CMD_PART_LEASE_LEASE_LEFT
  | CMD_PART_LEASE_LEASE_S
  -- CMD_NOTICE0 at 0x00D00 (15_commands.md)
  | CMD_NOTICE0_TYPE
  | CMD_NOTICE0_ARG
  -- CMD_NOTICE1 at 0x00D04 (15_commands.md)
  | CMD_NOTICE1_TIME_LO
  -- GLB_STRAP at 0x01000 (17_bringup_reset.md)
  | GLB_STRAP_TEST_EN
  | GLB_STRAP_HERD_ROLE
  | GLB_STRAP_PHASES_POP
  | GLB_STRAP_VSTK_DEF
  | GLB_STRAP_BOOT_MODE
  -- GLB_FUSE_SEL at 0x01004 (17_bringup_reset.md)
  | GLB_FUSE_SEL_WORD
  -- GLB_FUSE_DATA at 0x01008 (17_bringup_reset.md)
  | GLB_FUSE_DATA_DATA
  -- GLB_FUSE_STAT at 0x0100C (17_bringup_reset.md)
  | GLB_FUSE_STAT_LOADED
  | GLB_FUSE_STAT_UNCORR
  | GLB_FUSE_STAT_PROG_BUSY
  | GLB_FUSE_STAT_PROG_FAIL
  | GLB_FUSE_STAT_BAD_WORD
  | GLB_FUSE_STAT_CORR_COUNT
  -- GLB_FUSE_PROG at 0x01010 (17_bringup_reset.md)
  | GLB_FUSE_PROG_GO
  | GLB_FUSE_PROG_WORD
  -- GLB_FUSE_PDATA at 0x01014 (17_bringup_reset.md)
  | GLB_FUSE_PDATA_PDATA
  -- FLT_CTRL at 0x02000 (18_faults.md)
  | FLT_CTRL_QUIET
  | FLT_CTRL_WINDOW
  -- FLT_CTRL2 at 0x02004 (18_faults.md)
  | FLT_CTRL2_MBX_TMO
  | FLT_CTRL2_REC_THR
  -- FLT_STATUS at 0x02008 (18_faults.md)
  | FLT_STATUS_FATAL
  | FLT_STATUS_PAIR_ASSERT
  | FLT_STATUS_PAIR_T
  | FLT_STATUS_PAIR_C
  | FLT_STATUS_GOOSE_FORCE
  | FLT_STATUS_FATAL_SUB
  | FLT_STATUS_FATAL_CODE
  | FLT_STATUS_ESC_N
  | FLT_STATUS_PEND_N
  -- FLT_HANDLE at 0x0200C (18_faults.md)
  | FLT_HANDLE_GO
  | FLT_HANDLE_SUB
  | FLT_HANDLE_CODE
  -- FLT_SEQ at 0x02010 (18_faults.md)
  | FLT_SEQ_NEXT_SEQ
  -- FLT_ACK_SEQ at 0x02014 (18_faults.md)
  | FLT_ACK_SEQ_ACK_SEQ
  -- FLT_LOST at 0x02018 (18_faults.md)
  | FLT_LOST_LOST
  -- FLT_FEC_INFO at 0x0201C (18_faults.md)
  | FLT_FEC_INFO_VALID
  | FLT_FEC_INFO_MASTER
  | FLT_FEC_INFO_TYPE
  | FLT_FEC_INFO_CODE
  | FLT_FEC_INFO_SUB
  -- FLT_FEC_ADDR_LO at 0x02020 (18_faults.md)
  | FLT_FEC_ADDR_LO_ADDR_LO
  -- FLT_FEC_ADDR_HI at 0x02024 (18_faults.md)
  | FLT_FEC_ADDR_HI_ADDR_HI
  -- FLT_FEC_TIME_LO at 0x02028 (18_faults.md)
  | FLT_FEC_TIME_LO_TIME_LO
  -- FLT_FEC_TIME_HI at 0x0202C (18_faults.md)
  | FLT_FEC_TIME_HI_TIME_HI
  -- FLT_FEC_MORE at 0x02030 (18_faults.md)
  | FLT_FEC_MORE_MORE
  -- FLT_REC_SEL at 0x02040 (18_faults.md)
  | FLT_REC_SEL_SEQ
  -- FLT_REC0 at 0x02044 (18_faults.md)
  | FLT_REC0_MASTER
  | FLT_REC0_KIND
  | FLT_REC0_CODE
  | FLT_REC0_SUB
  -- FLT_REC1 at 0x02048 (18_faults.md)
  | FLT_REC1_COUNT
  | FLT_REC1_INDEX
  -- FLT_REC2 at 0x0204C (18_faults.md)
  | FLT_REC2_TIME_LO
  -- FLT_REC3 at 0x02050 (18_faults.md)
  | FLT_REC3_TIME_HI
  -- FLT_GOOSE_STATUS at 0x02060 (18_faults.md)
  | FLT_GOOSE_STATUS_ARMED
  | FLT_GOOSE_STATUS_TRIPPED
  | FLT_GOOSE_STATUS_SELFTEST_OK
  | FLT_GOOSE_STATUS_CAUSE
  | FLT_GOOSE_STATUS_INDEX
  -- FLT_GOOSE_LIM0 at 0x02064 (18_faults.md)
  | FLT_GOOSE_LIM0_DIE_LIMIT
  | FLT_GOOSE_LIM0_MEM_LIMIT
  | FLT_GOOSE_LIM0_VSTK_OV
  -- FLT_GOOSE_LIM1 at 0x02068 (18_faults.md)
  | FLT_GOOSE_LIM1_OC_VSTK
  | FLT_GOOSE_LIM1_OC_VDDM
  -- FLT_GOOSE_LIM2 at 0x0206C (18_faults.md)
  | FLT_GOOSE_LIM2_OC_VPPM
  | FLT_GOOSE_LIM2_OC_VIO
  -- FLT_GOOSE_LIM3 at 0x02070 (18_faults.md)
  | FLT_GOOSE_LIM3_DOV_TILE
  | FLT_GOOSE_LIM3_DOV_CPU
  | FLT_GOOSE_LIM3_DOV_MEMIF
  | FLT_GOOSE_LIM3_DOV_LINK
  -- FLT_GOOSE_LIM4 at 0x02074 (18_faults.md)
  | FLT_GOOSE_LIM4_DOV_FABRIC
  -- FLT_SRC at 0x02400 (18_faults.md)
  | FLT_SRC_STATE
  | FLT_SRC_CLASS
  | FLT_SRC_CNT_CLR
  | FLT_SRC_REC_COUNT
  | FLT_SRC_RAISES
  -- CRC_CFG at 0x03000 (14_checkvalue.md)
  | CRC_CFG_IRQ_EN
  | CRC_CFG_CMP_EN
  | CRC_CFG_FINAL_INV
  | CRC_CFG_REFOUT
  | CRC_CFG_REFIN
  | CRC_CFG_WIDTH_M1
  -- CRC_POLY at 0x03004 (14_checkvalue.md)
  | CRC_POLY_POLY
  -- CRC_INIT at 0x03008 (14_checkvalue.md)
  | CRC_INIT_INIT
  -- CRC_EXPECT at 0x0300C (14_checkvalue.md)
  | CRC_EXPECT_EXPECT
  -- CRC_CMD at 0x03010 (14_checkvalue.md)
  | CRC_CMD_ABORT
  | CRC_CMD_FINISH
  | CRC_CMD_START
  -- CRC_DATA32 at 0x03014 (14_checkvalue.md)
  | CRC_DATA32_DATA
  -- CRC_DATA8 at 0x03018 (14_checkvalue.md)
  | CRC_DATA8_DATA
  -- CRC_VALUE at 0x0301C (14_checkvalue.md)
  | CRC_VALUE_VALUE
  -- CRC_RESULT at 0x03020 (14_checkvalue.md)
  | CRC_RESULT_RESULT
  -- CRC_STATUS at 0x03024 (14_checkvalue.md)
  | CRC_STATUS_STATE
  | CRC_STATUS_MATCH
  | CRC_STATUS_MISMATCH
  | CRC_STATUS_DROPPED
  | CRC_STATUS_DUTY
  | CRC_STATUS_MISMATCH_COUNT
  -- CRC_LEASE at 0x03100 (14_checkvalue.md)
  | CRC_LEASE_CLAIM
  | CRC_LEASE_RELEASE
  | CRC_LEASE_HELD
  | CRC_LEASE_LEASE_TMO
  | CRC_LEASE_HOLDER
  -- CRC_EVENT at 0x03104 (14_checkvalue.md)
  | CRC_EVENT_LEASE_BROKEN
  | CRC_EVENT_FAILED
  | CRC_EVENT_MISMATCH
  -- ADC_CTRL at 0x04000 (12_measurement.md)
  | ADC_CTRL_LP_FORCE
  | ADC_CTRL_WAIT_TMO
  | ADC_CTRL_SEQ_PERIOD
  -- ADC_STATUS at 0x04004 (12_measurement.md)
  | ADC_STATUS_LP_ACTIVE
  | ADC_STATUS_PAIR_SOLO
  | ADC_STATUS_CV_OK
  -- ADC_EVENT at 0x04008 (12_measurement.md)
  | ADC_EVENT_PAIR_LOST
  | ADC_EVENT_CV_FAIL
  | ADC_EVENT_CHK_DIS
  | ADC_EVENT_OVR
  | ADC_EVENT_NO_TRIG
  | ADC_EVENT_OVERRUN
  -- ADC_URG_REQ at 0x0400C (12_measurement.md)
  | ADC_URG_REQ_GO
  | ADC_URG_REQ_CHANNEL
  | ADC_URG_REQ_GAIN
  | ADC_URG_REQ_SMP
  -- ADC_URG_RES at 0x04010 (12_measurement.md)
  | ADC_URG_RES_BUSY
  | ADC_URG_RES_DONE
  | ADC_URG_RES_OVR
  | ADC_URG_RES_REFUSED
  | ADC_URG_RES_CONV
  | ADC_URG_RES_RAW
  -- ADC_CAL_SEL at 0x04014 (12_measurement.md)
  | ADC_CAL_SEL_CHANNEL
  -- ADC_CAL at 0x04018 (12_measurement.md)
  | ADC_CAL_GAIN
  | ADC_CAL_OFS
  -- ADC_PAIR_CFG at 0x04040 (12_measurement.md)
  | ADC_PAIR_CFG_CHK_WIN
  | ADC_PAIR_CFG_CHK_ABS
  | ADC_PAIR_CFG_XR_WIN
  -- ADC_PAIR_STATUS at 0x04044 (12_measurement.md)
  | ADC_PAIR_STATUS_STATE
  | ADC_PAIR_STATUS_CHK_DIS_ST
  | ADC_PAIR_STATUS_CHK_EXP
  | ADC_PAIR_STATUS_XR_FAILS
  | ADC_PAIR_STATUS_DIS_COUNT
  -- ADC_PAIR_CHK at 0x04048 (12_measurement.md)
  | ADC_PAIR_CHK_CHK_ODD
  | ADC_PAIR_CHK_CHK_EVEN
  -- ADC_CV_CTRL at 0x04100 (12_measurement.md)
  | ADC_CV_CTRL_OFFLINE
  | ADC_CV_CTRL_RECHECK
  | ADC_CV_CTRL_SEQ_LEN_M1
  | ADC_CV_CTRL_START_DLY
  | ADC_CV_CTRL_PWM_DLY
  -- ADC_CV_STATUS at 0x04104 (12_measurement.md)
  | ADC_CV_STATUS_STATE
  | ADC_CV_STATUS_FAIL_CAUSE
  | ADC_CV_STATUS_PD
  | ADC_CV_STATUS_URG
  | ADC_CV_STATUS_POS
  | ADC_CV_STATUS_OVERRUNS
  | ADC_CV_STATUS_LOSS_COUNT
  -- ADC_CV_UT at 0x04108 (12_measurement.md)
  | ADC_CV_UT_UT_EN
  | ADC_CV_UT_UT_GAIN
  | ADC_CV_UT_UT_CH
  | ADC_CV_UT_UT_PERIOD
  | ADC_CV_UT_UT_SMP
  -- ADC_SEQ at 0x04300 (12_measurement.md)
  | ADC_SEQ_CH
  | ADC_SEQ_TRIG
  | ADC_SEQ_DLY_MODE
  | ADC_SEQ_SMP
  | ADC_SEQ_GAIN
  | ADC_SEQ_DIVL
  | ADC_SEQ_AVGL
  | ADC_SEQ_SHIFT
  | ADC_SEQ_XR
  -- ADC_RES at 0x04700 (12_measurement.md)
  | ADC_RES_RESULT
  | ADC_RES_CAL
  -- ADC_RES_ST at 0x04704 (12_measurement.md)
  | ADC_RES_ST_VALID
  | ADC_RES_ST_OVR
  | ADC_RES_ST_BY_PARTNER
  | ADC_RES_ST_XR_BAD
  | ADC_RES_ST_NO_TRIG
  | ADC_RES_ST_CAL_BUSY
  | ADC_RES_ST_AGE
  -- THM_RATE_THR at 0x05000 (10_thermal.md)
  | THM_RATE_THR_CMP_ALARM
  | THM_RATE_THR_CMP_EMERG
  | THM_RATE_THR_MEM_ALARM
  | THM_RATE_THR_MEM_EMERG
  -- THM_LIMIT at 0x05004 (10_thermal.md)
  | THM_LIMIT_CMP_LIMIT
  | THM_LIMIT_MEM_LIMIT
  | THM_LIMIT_BROKEN_DELTA
  -- THM_CLAMP_CFG at 0x05008 (10_thermal.md)
  | THM_CLAMP_CFG_RELEASE_MS
  | THM_CLAMP_CFG_RISE_MS
  -- THM_INLET at 0x0500C (10_thermal.md)
  | THM_INLET_T_IN
  | THM_INLET_INLET_SEL
  -- THM_AIR at 0x05010 (10_thermal.md)
  | THM_AIR_F_AIR
  | THM_AIR_THETA_TAU
  -- THM_FCST_CFG at 0x05014 (10_thermal.md)
  | THM_FCST_CFG_KF
  -- THM_FUSE at 0x05018 (10_thermal.md)
  | THM_FUSE_FUSE_OK
  | THM_FUSE_T_DIE_MAX
  | THM_FUSE_T_DIE_MIN
  -- THM_EVENT at 0x0501C (10_thermal.md)
  | THM_EVENT_SB_LOST
  | THM_EVENT_WP_OFF
  | THM_EVENT_LIMIT
  | THM_EVENT_EMERG
  | THM_EVENT_FUSE_REF
  | THM_EVENT_AIR
  | THM_EVENT_INLET_BAD
  | THM_EVENT_ALARM
  | THM_EVENT_BROKEN
  | THM_EVENT_DISAGREE
  -- THM_COUNT at 0x05020 (10_thermal.md)
  | THM_COUNT_EMERG_COUNT
  | THM_COUNT_WP_COUNT
  | THM_COUNT_BROKEN_COUNT
  | THM_COUNT_LIMIT_COUNT
  -- THM_TWR at 0x05100 (10_thermal.md)
  | THM_TWR_WP
  | THM_TWR_SB_OK
  | THM_TWR_CL_STATE
  | THM_TWR_CLAMP
  | THM_TWR_HOT_LAYER
  | THM_TWR_T_MAX
  -- THM_BRK_SUM at 0x05200 (10_thermal.md)
  | THM_BRK_SUM_BRK
  -- THM_DOM at 0x05400 (10_thermal.md)
  | THM_DOM_EMERG_ST
  | THM_DOM_ALARM_ST
  | THM_DOM_SUBST
  | THM_DOM_CL_STATE
  | THM_DOM_CLAMP
  | THM_DOM_RATE
  | THM_DOM_T_HOT
  -- THM_DIE at 0x05A00 (10_thermal.md)
  | THM_DIE_EMERG_ST
  | THM_DIE_ALARM_ST
  | THM_DIE_SUBST
  | THM_DIE_RATE
  | THM_DIE_T_DRAM
  -- THM_SNS_SEL at 0x05E00 (10_thermal.md)
  | THM_SNS_SEL_SENSOR
  -- THM_SNS at 0x05E04 (10_thermal.md)
  | THM_SNS_STATE
  | THM_SNS_DISAGREE
  | THM_SNS_RECHECK
  | THM_SNS_CAUSE
  | THM_SNS_READING
  -- THM_DOM_SEL at 0x05E10 (10_thermal.md)
  | THM_DOM_SEL_DOMAIN
  -- THM_DOM_THETA at 0x05E14 (10_thermal.md)
  | THM_DOM_THETA_THETA_REF
  | THM_DOM_THETA_THETA
  -- THM_DOM_FCST at 0x05E18 (10_thermal.md)
  | THM_DOM_FCST_P_FC
  | THM_DOM_FCST_T_FCST
  -- THM_LADDER at 0x05E40 (10_thermal.md)
  | THM_LADDER_FREQ
  | THM_LADDER_ISSUE
  -- HRD_CFG at 0x06000 (11_herd_lock.md)
  | HRD_CFG_LEAD
  | HRD_CFG_EXCL_PCT
  | HRD_CFG_EXCL_WAIT
  | HRD_CFG_HOLD_TMO
  -- HRD_ID at 0x06004 (11_herd_lock.md)
  | HRD_ID_GROUP_ID
  | HRD_ID_STACK_ID
  -- HRD_STATUS at 0x06008 (11_herd_lock.md)
  | HRD_STATUS_STATE
  | HRD_STATUS_ROLE
  | HRD_STATUS_IS_ROOT
  | HRD_STATUS_INCOMPLETE
  | HRD_STATUS_TB_DEG
  | HRD_STATUS_OFFSET_MODE
  | HRD_STATUS_SLEWING
  | HRD_STATUS_LEVEL
  | HRD_STATUS_PORT_UP
  -- HRD_FREQ at 0x0600C (11_herd_lock.md)
  | HRD_FREQ_PEND
  | HRD_FREQ_F_OFF
  | HRD_FREQ_F_GRP
  -- HRD_PEND at 0x06010 (11_herd_lock.md)
  | HRD_PEND_CHG_SEQ
  | HRD_PEND_F_NEW
  -- HRD_PEND_TICK_LO at 0x06014 (11_herd_lock.md)
  | HRD_PEND_TICK_LO_CT_LO
  -- HRD_PEND_TICK_HI at 0x06018 (11_herd_lock.md)
  | HRD_PEND_TICK_HI_CT_HI
  -- HRD_OFFSET_LO at 0x0601C (11_herd_lock.md)
  | HRD_OFFSET_LO_OFS_LO
  -- HRD_OFFSET_HI at 0x06020 (11_herd_lock.md)
  | HRD_OFFSET_HI_OFS_HI
  -- HRD_MEMBERS at 0x06024 (11_herd_lock.md)
  | HRD_MEMBERS_EXCL_N
  | HRD_MEMBERS_MEMBERS
  -- HRD_EXPECT at 0x06028 (11_herd_lock.md)
  | HRD_EXPECT_EXPECT
  -- HRD_EVENT at 0x0602C (11_herd_lock.md)
  | HRD_EVENT_INCOMPLETE
  | HRD_EVENT_JOIN_TMO
  | HRD_EVENT_DISBAND
  | HRD_EVENT_HOLDOVER
  | HRD_EVENT_LINK_LOST
  | HRD_EVENT_TIME_JUMP
  | HRD_EVENT_EXCL_OVF
  | HRD_EVENT_EXCL_REQ
  | HRD_EVENT_CRC_ERR
  -- HRD_EXCL_CMD at 0x06030 (11_herd_lock.md)
  | HRD_EXCL_CMD_DECISION
  | HRD_EXCL_CMD_STACK_ID
  -- HRD_PORT at 0x06040 (11_herd_lock.md)
  | HRD_PORT_UP
  | HRD_PORT_CRC_ERR
  | HRD_PORT_DROPS
  | HRD_PORT_DELAY
  -- HRD_TILE_MASK at 0x06060 (11_herd_lock.md)
  | HRD_TILE_MASK_MASK
  -- HRD_EXCL at 0x06080 (11_herd_lock.md)
  | HRD_EXCL_STATE
  | HRD_EXCL_F_OFF
  | HRD_EXCL_STACK_ID
  -- TLM_CTRL at 0x07000 (13_telemetry.md)
  | TLM_CTRL_ENABLE
  | TLM_CTRL_STACK_REC
  | TLM_CTRL_NOTIFY_MS
  | TLM_CTRL_SIZE_LOG2
  -- TLM_RING_LO at 0x07004 (13_telemetry.md)
  | TLM_RING_LO_BASE_LO
  -- TLM_RING_HI at 0x07008 (13_telemetry.md)
  | TLM_RING_HI_BASE_HI
  -- TLM_NOTIFY_LO at 0x0700C (13_telemetry.md)
  | TLM_NOTIFY_LO_NADDR_LO
  -- TLM_NOTIFY_HI at 0x07010 (13_telemetry.md)
  | TLM_NOTIFY_HI_NADDR_HI
  -- TLM_PROD at 0x07014 (13_telemetry.md)
  | TLM_PROD_PROD
  -- TLM_CONS at 0x07018 (13_telemetry.md)
  | TLM_CONS_CONS
  -- TLM_STATUS at 0x0701C (13_telemetry.md)
  | TLM_STATUS_RUNNING
  | TLM_STATUS_BUS_ERR_ST
  | TLM_STATUS_QUEUED
  -- TLM_LOST at 0x07020 (13_telemetry.md)
  | TLM_LOST_LOST
  -- TLM_EVENT at 0x07024 (13_telemetry.md)
  | TLM_EVENT_BUS_ERR
  | TLM_EVENT_CONS_BAD
  | TLM_EVENT_DROP
  -- TLM_DOM_MASK at 0x07040 (13_telemetry.md)
  | TLM_DOM_MASK_MASK
  -- TLM_CAP_CTRL at 0x07100 (13_telemetry.md)
  | TLM_CAP_CTRL_ARM
  | TLM_CAP_CTRL_TRIG_SRC
  | TLM_CAP_CTRL_POST
  | TLM_CAP_CTRL_TRIG_IDX
  -- TLM_CAP_CH at 0x07104 (13_telemetry.md)
  | TLM_CAP_CH_KIND
  | TLM_CAP_CH_INDEX
  -- TLM_CAP_DUMP_LO at 0x07124 (13_telemetry.md)
  | TLM_CAP_DUMP_LO_DUMP_LO
  -- TLM_CAP_DUMP_HI at 0x07128 (13_telemetry.md)
  | TLM_CAP_DUMP_HI_DUMP_HI
  -- TLM_CAP_TICK_LO at 0x0712C (13_telemetry.md)
  | TLM_CAP_TICK_LO_TICK_LO
  -- TLM_CAP_TICK_HI at 0x07130 (13_telemetry.md)
  | TLM_CAP_TICK_HI_TICK_HI
  -- TLM_CAP_STATUS at 0x07134 (13_telemetry.md)
  | TLM_CAP_STATUS_STATE
  | TLM_CAP_STATUS_WRAPPED
  | TLM_CAP_STATUS_BLOCKS
  -- PHS_GRP_CTRL at 0x08000 (03_phase_control.md)
  | PHS_GRP_CTRL_EN
  | PHS_GRP_CTRL_FSW
  | PHS_GRP_CTRL_RIPPLE_AMP
  -- PHS_GRP_SOFT at 0x08004 (03_phase_control.md)
  | PHS_GRP_SOFT_START_DELAY
  | PHS_GRP_SOFT_START_SLOPE
  | PHS_GRP_SOFT_STOP_DELAY
  | PHS_GRP_SOFT_STOP_SLOPE
  -- PHS_GRP_OCL at 0x08008 (03_phase_control.md)
  | PHS_GRP_OCL_VALLEY_HI
  | PHS_GRP_OCL_VALLEY_LO
  -- PHS_GRP_STATUS at 0x0800C (03_phase_control.md)
  | PHS_GRP_STATUS_STATE
  | PHS_GRP_STATUS_ATTEMPTS
  | PHS_GRP_STATUS_LIVE
  | PHS_GRP_STATUS_ROT_POS
  | PHS_GRP_STATUS_ROT_ANGLE
  -- PHS_GRP_EVENT at 0x08010 (03_phase_control.md)
  | PHS_GRP_EVENT_LATCHED
  | PHS_GRP_EVENT_HICCUP
  | PHS_GRP_EVENT_FB_LONG
  | PHS_GRP_EVENT_FOLDBACK
  | PHS_GRP_EVENT_SENSE_FAIL
  | PHS_GRP_EVENT_PHASE_OPEN
  | PHS_GRP_EVENT_TMON_HOT
  -- PHS_GRP_TON at 0x08014 (03_phase_control.md)
  | PHS_GRP_TON_VBUS_USED
  | PHS_GRP_TON_TON_BASE
  -- PHS_GRP_REF at 0x08018 (03_phase_control.md)
  | PHS_GRP_REF_VSENSE
  | PHS_GRP_REF_VREF
  -- PHS_PH_STATUS at 0x09000 (03_phase_control.md)
  | PHS_PH_STATUS_PH_STATE
  | PHS_PH_STATUS_TRIM
  | PHS_PH_STATUS_LOSS_COUNT
  | PHS_PH_STATUS_TMON_HOT
  -- PHS_PH_MEAS at 0x09004 (03_phase_control.md)
  | PHS_PH_MEAS_IMON
  | PHS_PH_MEAS_TMON
  -- PHS_PH_CTRL at 0x09008 (03_phase_control.md)
  | PHS_PH_CTRL_READMIT
  | PHS_PH_CTRL_DISABLE
  -- PHS_PMB_CTRL at 0x0A000 (03_phase_control.md)
  | PHS_PMB_CTRL_POLL_EN
  | PHS_PMB_CTRL_SPEED
  | PHS_PMB_CTRL_ADDR
  -- PHS_PMB_STATUS at 0x0A004 (03_phase_control.md)
  | PHS_PMB_STATUS_HELD
  | PHS_PMB_STATUS_LINEAR_OK
  | PHS_PMB_STATUS_BUS_RESETS
  | PHS_PMB_STATUS_PEC_ERRORS
  | PHS_PMB_STATUS_VOUT_MODE
  -- PHS_PMB_DATA0 at 0x0A008 (03_phase_control.md)
  | PHS_PMB_DATA0_READ_VIN
  | PHS_PMB_DATA0_READ_IIN
  -- PHS_PMB_DATA1 at 0x0A00C (03_phase_control.md)
  | PHS_PMB_DATA1_READ_VOUT
  | PHS_PMB_DATA1_READ_IOUT
  -- PHS_PMB_DATA2 at 0x0A010 (03_phase_control.md)
  | PHS_PMB_DATA2_READ_TEMPERATURE_1
  | PHS_PMB_DATA2_READ_TEMPERATURE_2
  -- PHS_PMB_DATA3 at 0x0A014 (03_phase_control.md)
  | PHS_PMB_DATA3_READ_POUT
  | PHS_PMB_DATA3_STATUS_WORD
  -- PHS_PMB_AGE at 0x0A018 (03_phase_control.md)
  | PHS_PMB_AGE_AGE_MS
  -- CEL_STATUS at 0x10000 (04_regulator_cells.md)
  | CEL_STATUS_STATE
  | CEL_STATUS_FAIL_CAUSE
  | CEL_STATUS_LOSS_COUNT
  | CEL_STATUS_SETPT
  -- CEL_MEAS at 0x10004 (04_regulator_cells.md)
  | CEL_MEAS_I_CELL
  | CEL_MEAS_I_LIM
  -- CEL_CTRL at 0x10008 (04_regulator_cells.md)
  | CEL_CTRL_READMIT
  | CEL_CTRL_ISOLATE
  -- DOM_DS at 0x16000 (04_regulator_cells.md)
  | DOM_DS_VALID
  | DOM_DS_RECHECK
  | DOM_DS_CAUSE
  | DOM_DS_DROOP
  | DOM_DS_HEADROOM
  -- DOM_STATUS at 0x18000 (04_regulator_cells.md)
  | DOM_STATUS_STATE
  | DOM_STATUS_WAKE_WAIT
  | DOM_STATUS_CEIL
  | DOM_STATUS_STEP
  | DOM_STATUS_CELLS_OK
  | DOM_STATUS_CELLS_ALL
  | DOM_STATUS_DS_VALID
  | DOM_STATUS_READY
  | DOM_STATUS_GATE_CLOSED
  | DOM_STATUS_DROOP_FLOOR
  -- DOM_CTRL at 0x18004 (04_regulator_cells.md)
  | DOM_CTRL_POWER
  | DOM_CTRL_QUIESCE_TMO
  | DOM_CTRL_WAKE_STEP
  -- DOM_SETPT at 0x18008 (04_regulator_cells.md)
  | DOM_SETPT_VEFF
  | DOM_SETPT_VSET
  -- DOM_MEAS at 0x1800C (04_regulator_cells.md)
  | DOM_MEAS_I_DOM
  | DOM_MEAS_HR_MIN
  | DOM_MEAS_OFFSET
  -- DOM_EVENT at 0x18010 (04_regulator_cells.md)
  | DOM_EVENT_FENCE
  | DOM_EVENT_QTMO
  | DOM_EVENT_DERATE
  | DOM_EVENT_CELL_FAIL
  | DOM_EVENT_DS_INVALID
  | DOM_EVENT_DROOP
  | DOM_EVENT_WAKE_LATE
  -- DOM_BUD_CTRL at 0x1B000 (09_budget.md)
  | DOM_BUD_CTRL_MODE
  | DOM_BUD_CTRL_CTX_ACTIVE
  | DOM_BUD_CTRL_FIXED_STEP
  | DOM_BUD_CTRL_CEIL
  -- DOM_BUD_CAP at 0x1B004 (09_budget.md)
  | DOM_BUD_CAP_P_CAP
  | DOM_BUD_CAP_STAGGER
  | DOM_BUD_CAP_WINDOW
  -- DOM_BUD_PULSE at 0x1B008 (09_budget.md)
  | DOM_BUD_PULSE_PEAK_LIM
  | DOM_BUD_PULSE_REST_MS
  | DOM_BUD_PULSE_PULSE_MS
  -- DOM_BUD_AVG at 0x1B00C (09_budget.md)
  | DOM_BUD_AVG_AVG
  -- DOM_BUD_MS at 0x1B010 (09_budget.md)
  | DOM_BUD_MS_P_MS
  | DOM_BUD_MS_P_OTHER
  -- DOM_BUD_GOV at 0x1B014 (09_budget.md)
  | DOM_BUD_GOV_PULSE
  | DOM_BUD_GOV_GOVERNED
  | DOM_BUD_GOV_PULSE_AGE
  | DOM_BUD_GOV_F_G
  -- DOM_BUD_EVENT at 0x1B018 (09_budget.md)
  | DOM_BUD_EVENT_ORD_BAD
  | DOM_BUD_EVENT_FIXED_LOST
  | DOM_BUD_EVENT_PEAK_EV
  | DOM_BUD_EVENT_GOVERNED_EV
  -- DOM_BUD_COUNT at 0x1B01C (09_budget.md)
  | DOM_BUD_COUNT_GOV_COUNT
  | DOM_BUD_COUNT_FIXED_LOST_COUNT
  -- DOM_BUD_CTX_OP at 0x1B100 (09_budget.md)
  | DOM_BUD_CTX_OP_ORD0
  | DOM_BUD_CTX_OP_ORD1
  | DOM_BUD_CTX_OP_ORD2
  | DOM_BUD_CTX_OP_BOOST_EN
  | DOM_BUD_CTX_OP_PREF_STEP
  | DOM_BUD_CTX_OP_LINK_SHARE
  -- DOM_BUD_CTX_SLOPE at 0x1B104 (09_budget.md)
  | DOM_BUD_CTX_SLOPE_ACT_UP
  | DOM_BUD_CTX_SLOPE_ACT_DN
  -- DOM_CLS_CFG at 0x1C000 (04_regulator_cells.md)
  | DOM_CLS_CFG_OV_LIMIT
  | DOM_CLS_CFG_FENCE_AT
  -- DOM_CLS_DROOP at 0x1C004 (04_regulator_cells.md)
  | DOM_CLS_DROOP_DROOP_TRIP
  | DOM_CLS_DROOP_DROOP_BOOST
  -- DOM_CLS_LADDER at 0x1C008 (04_regulator_cells.md)
  | DOM_CLS_LADDER_ILIM_ODD
  | DOM_CLS_LADDER_ILIM_EVEN
  -- DOM_TILE_PROF_NOM at 0x1D000 (07_forecast_and_starts.md)
  | DOM_TILE_PROF_NOM_SCALE
  | DOM_TILE_PROF_NOM_DELAY
  | DOM_TILE_PROF_NOM_RISE
  -- DOM_TILE_PROF_SPR at 0x1D004 (07_forecast_and_starts.md)
  | DOM_TILE_PROF_SPR_SCALE
  | DOM_TILE_PROF_SPR_DELAY
  | DOM_TILE_PROF_SPR_RISE
  -- DOM_TILE_MAP at 0x1D008 (07_forecast_and_starts.md)
  | DOM_TILE_MAP_EPOCH
  | DOM_TILE_MAP_MAP
  | DOM_TILE_MAP_EPOCH_BAD
  | DOM_TILE_MAP_MISMATCH_COUNT
  | DOM_TILE_MAP_LAST_RATIO
  -- DOM_START_SLOPE at 0x1E000 (07_forecast_and_starts.md)
  | DOM_START_SLOPE_BOOST_SLOPE
  | DOM_START_SLOPE_BASE_SLOPE
  -- DOM_START_BUCKET at 0x1E004 (07_forecast_and_starts.md)
  | DOM_START_BUCKET_CAP
  | DOM_START_BUCKET_LEVEL
  -- DOM_START_PRE at 0x1E008 (07_forecast_and_starts.md)
  | DOM_START_PRE_PRE_H
  | DOM_START_PRE_PREBIAS
  | DOM_START_PRE_PREBIAS_LEAD
  | DOM_START_PRE_HOLD
  -- DOM_START_WAVE at 0x1E00C (07_forecast_and_starts.md)
  | DOM_START_WAVE_WAVE_TMO
  | DOM_START_WAVE_AGE_PROMOTE
  | DOM_START_WAVE_MISMATCH_TOL
  -- DOM_START_ARR at 0x1E010 (07_forecast_and_starts.md)
  | DOM_START_ARR_ARR
  | DOM_START_ARR_TILE_FS
  -- DOM_FMT_STEP at 0x1E014 (07_forecast_and_starts.md)
  | DOM_FMT_STEP_STEP_ODD
  | DOM_FMT_STEP_STEP_EVEN
  -- DOM_START_STATUS at 0x1E030 (07_forecast_and_starts.md)
  | DOM_START_STATUS_BOOST
  | DOM_START_STATUS_ARMED
  | DOM_START_STATUS_PRE_ACTIVE
  | DOM_START_STATUS_WAVES
  | DOM_START_STATUS_SLOPE_EFF
  | DOM_START_STATUS_WAITING
  -- DOM_START_GRANTS at 0x1E034 (07_forecast_and_starts.md)
  | DOM_START_GRANTS_GRANTS
  -- DOM_START_COUNT at 0x1E038 (07_forecast_and_starts.md)
  | DOM_START_COUNT_LATE_TOKENS
  | DOM_START_COUNT_DROPPED_ANN
  | DOM_START_COUNT_WAVE_TMOS
  | DOM_START_COUNT_BAD_REQ
  -- DOM_START_EVENT at 0x1E03C (07_forecast_and_starts.md)
  | DOM_START_EVENT_MSG_BAD
  | DOM_START_EVENT_REQ_BAD
  | DOM_START_EVENT_ANN_DROPPED
  | DOM_START_EVENT_WAVE_TMO
  | DOM_START_EVENT_TOKEN_LATE
  | DOM_START_EVENT_EPOCH_UNKNOWN
  | DOM_START_EVENT_MISMATCH
  -- DOM_WAVE_ID at 0x1E040 (07_forecast_and_starts.md)
  | DOM_WAVE_ID_BARRIER_ID
  | DOM_WAVE_ID_ENGINES
  -- DOM_WAVE_PROG at 0x1E044 (07_forecast_and_starts.md)
  | DOM_WAVE_PROG_STATE
  | DOM_WAVE_PROG_WAVE_ARMED
  | DOM_WAVE_PROG_GRANTED
  -- DOM_STACK_CTRL at 0x1F000 (04_regulator_cells.md)
  | DOM_STACK_CTRL_STACK_TRIP
  -- CE_CTRL at 0x60000 (05_control_engine.md)
  | CE_CTRL_LOAD_LIMIT
  | CE_CTRL_FAST_LIMIT
  | CE_CTRL_MISS_ESC
  -- CE_LANES at 0x60004 (05_control_engine.md)
  | CE_LANES_IN_SERVICE
  | CE_LANES_LANE_OK
  -- CE_LOAD at 0x60008 (05_control_engine.md)
  | CE_LOAD_LOAD_MOPS
  | CE_LOAD_FAST_OPS
  -- CE_MISS_SUM at 0x60010 (05_control_engine.md)
  | CE_MISS_SUM_MISSED
  -- CE_CLAMP_SUM at 0x60050 (05_control_engine.md)
  | CE_CLAMP_SUM_CLAMPED
  -- CE_ELEM_SEL at 0x60100 (05_control_engine.md)
  | CE_ELEM_SEL_SLOT
  | CE_ELEM_SEL_ELEM
  -- CE_ELEM_REF at 0x60104 (05_control_engine.md)
  | CE_ELEM_REF_REF
  -- CE_ELEM_OUT at 0x60108 (05_control_engine.md)
  | CE_ELEM_OUT_ACT
  | CE_ELEM_OUT_Y
  -- CE_ELEM_INT_LO at 0x6010C (05_control_engine.md)
  | CE_ELEM_INT_LO_I_LO
  -- CE_ELEM_INT_HI at 0x60110 (05_control_engine.md)
  | CE_ELEM_INT_HI_I_SIGN
  | CE_ELEM_INT_HI_I_HI
  -- CE_ELEM_PROF at 0x60114 (05_control_engine.md)
  | CE_ELEM_PROF_P
  | CE_ELEM_PROF_V
  -- CE_ARB_SEL at 0x60120 (05_control_engine.md)
  | CE_ARB_SEL_KIND
  | CE_ARB_SEL_INDEX
  -- CE_ARB_VAL at 0x60124 (05_control_engine.md)
  | CE_ARB_VAL_STAGE1
  | CE_ARB_VAL_APPLIED
  -- CE_ARB_SRC at 0x60128 (05_control_engine.md)
  | CE_ARB_SRC_CLAMPED
  | CE_ARB_SRC_CLAMP_SRC
  | CE_ARB_SRC_WIN_SLOT
  | CE_ARB_SRC_WIN_ELEM
  -- CE_SD_CTRL at 0x61000 (05_control_engine.md)
  | CE_SD_CTRL_CLASS
  | CE_SD_CTRL_OPEN
  | CE_SD_CTRL_SIGN
  | CE_SD_CTRL_PROF_EN
  | CE_SD_CTRL_COMP_RIP
  | CE_SD_CTRL_COMP_OFF
  | CE_SD_CTRL_REF_PER
  | CE_SD_CTRL_ELEMS_M1
  | CE_SD_CTRL_ACT_KIND
  | CE_SD_CTRL_ACT_BASE
  -- CE_SD_MAP at 0x61004 (05_control_engine.md)
  | CE_SD_MAP_GROUP_M1
  | CE_SD_MAP_FAN_M1
  | CE_SD_MAP_OUT_SCALE
  -- CE_SD_OUT at 0x61008 (05_control_engine.md)
  | CE_SD_OUT_OUT_BASE
  | CE_SD_OUT_TRACK
  -- CE_SD_IN at 0x6100C (05_control_engine.md)
  | CE_SD_IN_IN_KIND
  | CE_SD_IN_IN_RED
  | CE_SD_IN_IN_PER_M1
  | CE_SD_IN_IN_BASE
  -- CE_SD_AUX at 0x61010 (05_control_engine.md)
  | CE_SD_AUX_AUX1_KIND
  | CE_SD_AUX_AUX1_MODE
  | CE_SD_AUX_AUX2_KIND
  | CE_SD_AUX_AUX2_MODE
  -- CE_SD_KAUX at 0x61014 (05_control_engine.md)
  | CE_SD_KAUX_K1
  | CE_SD_KAUX_K2
  -- CE_SD_LAW at 0x61018 (05_control_engine.md)
  | CE_SD_LAW_KP
  | CE_SD_LAW_GSHIFT
  | CE_SD_LAW_PSHIFT
  | CE_SD_LAW_GTAB
  -- CE_SD_REF at 0x6101C (05_control_engine.md)
  | CE_SD_REF_REF
  | CE_SD_REF_CTAB_OFF
  | CE_SD_REF_CTAB_RIP
  -- CE_SD_PROF at 0x61020 (05_control_engine.md)
  | CE_SD_PROF_VMAX
  | CE_SD_PROF_AMAX
  -- CE_SD_JERK at 0x61024 (05_control_engine.md)
  | CE_SD_JERK_JMAX
  -- CE_SLOT_STATUS at 0x69000 (05_control_engine.md)
  | CE_SLOT_STATUS_MISSED
  | CE_SLOT_STATUS_CLAMPED
  | CE_SLOT_STATUS_SAT
  | CE_SLOT_STATUS_OPEN_ST
  | CE_SLOT_STATUS_IN_INVALID
  | CE_SLOT_STATUS_TRACKING
  | CE_SLOT_STATUS_MISS_COUNT
  | CE_SLOT_STATUS_OPS
  -- CE_SLOT_EVAL at 0x69004 (05_control_engine.md)
  | CE_SLOT_EVAL_TICK_LO
  -- CE_GTAB at 0x6A000 (05_control_engine.md)
  | CE_GTAB_G_ODD
  | CE_GTAB_G_EVEN
  -- CE_CTAB at 0x6C000 (05_control_engine.md)
  | CE_CTAB_C_ODD
  | CE_CTAB_C_EVEN
  -- DOM_EST_CFG at 0x70000 (08_estimation.md)
  | DOM_EST_CFG_DIS_PCT
  | DOM_EST_CFG_AGREE_PCT
  | DOM_EST_CFG_DIS_MS
  | DOM_EST_CFG_AGREE_MS
  -- DOM_EST_SUB at 0x70004 (08_estimation.md)
  | DOM_EST_SUB_SUB_PCT
  | DOM_EST_SUB_DEADBAND
  | DOM_EST_SUB_DIS_FLOOR
  -- DOM_EST_ADAPT at 0x70008 (08_estimation.md)
  | DOM_EST_ADAPT_ADAPT_EN
  | DOM_EST_ADAPT_ACT_MIN
  -- DOM_EST_STACK at 0x70010 (08_estimation.md)
  | DOM_EST_STACK_EST_STACK
  | DOM_EST_STACK_SUBST_DOMS
  -- DOM_EST_EVENT at 0x70014 (08_estimation.md)
  | DOM_EST_EVENT_BOTH_INVALID
  | DOM_EST_EVENT_STALE
  | DOM_EST_EVENT_SUBST
  | DOM_EST_EVENT_DISAGREE
  -- DOM_EST_DIS_SUM at 0x70040 (08_estimation.md)
  | DOM_EST_DIS_SUM_DIS
  -- DOM_EST_W at 0x71000 (08_estimation.md)
  | DOM_EST_W_W3
  | DOM_EST_W_W2
  | DOM_EST_W_W1
  | DOM_EST_W_W0
  -- DOM_EST_SCALE at 0x71020 (08_estimation.md)
  | DOM_EST_SCALE_SCALE
  | DOM_EST_SCALE_LK_TRIM
  -- DOM_EST_CTRL at 0x71024 (08_estimation.md)
  | DOM_EST_CTRL_FREEZE
  -- DOM_EST_CUR at 0x71028 (08_estimation.md)
  | DOM_EST_CUR_EST_I
  | DOM_EST_CUR_LEAK_I
  -- DOM_EST_MEAN at 0x7102C (08_estimation.md)
  | DOM_EST_MEAN_MEAN_EST
  | DOM_EST_MEAN_MEAN_MEAS
  -- DOM_EST_PWR at 0x71030 (08_estimation.md)
  | DOM_EST_PWR_P_EST
  -- DOM_EST_STATUS at 0x71034 (08_estimation.md)
  | DOM_EST_STATUS_STATE
  | DOM_EST_STATUS_MEAS_INVALID
  | DOM_EST_STATUS_EST_INVALID
  | DOM_EST_STATUS_STALE_ST
  | DOM_EST_STATUS_HOLD_CAUSE
  | DOM_EST_STATUS_DIS_COUNT
  | DOM_EST_STATUS_RUN
  -- DOM_EST_LEAK at 0x78000 (08_estimation.md)
  | DOM_EST_LEAK_L_ODD
  | DOM_EST_LEAK_L_EVEN
  -- DBG_RUN at 0xC0000 (16_firmware.md)
  | DBG_RUN_STEP
  | DBG_RUN_RESUME
  | DBG_RUN_HALT
  -- DBG_PC at 0xC0004 (16_firmware.md)
  | DBG_PC_PC
  -- DBG_COMP at 0xC0008 (16_firmware.md)
  | DBG_COMP_COMP_ID
  -- DBG_CYC at 0xC000C (16_firmware.md)
  | DBG_CYC_INSTR
deriving DecidableEq, Repr

/-- Bits, access type and reset value of each field, as its register table states them. -/
def Fld.info : Fld → FldInfo
  | .GLB_ID_VENDOR => ⟨31, 24, .ro, 90⟩
  | .GLB_ID_BLOCK => ⟨23, 8, .ro, 2894⟩
  | .GLB_ID_REV_MAJOR => ⟨7, 4, .ro, 1⟩
  | .GLB_ID_REV_MINOR => ⟨3, 0, .ro, 0⟩
  | .GLB_TIME_LO_TICKS_LO => ⟨31, 0, .ro, 0⟩
  | .GLB_TIME_HI_TICKS_HI => ⟨31, 0, .ro, 0⟩
  | .GLB_TB_STATUS_FALLBACK_COUNT => ⟨15, 8, .ro, 0⟩
  | .GLB_TB_STATUS_CAL_OK => ⟨2, 2, .ro, 0⟩
  | .GLB_TB_STATUS_HERD_SHARED => ⟨1, 1, .ro, 0⟩
  | .GLB_TB_STATUS_FALLBACK => ⟨0, 0, .ro, 0⟩
  | .GLB_FAB_STATUS_SEG_FAIL_COUNT => ⟨15, 8, .ro, 0⟩
  | .GLB_FAB_STATUS_TREE_B_OK => ⟨1, 1, .ro, 1⟩
  | .GLB_FAB_STATUS_TREE_A_OK => ⟨0, 0, .ro, 1⟩
  | .GLB_CFG0_TILES => ⟨24, 16, .ro, 192⟩
  | .GLB_CFG0_ENGINES => ⟨12, 8, .ro, 16⟩
  | .GLB_CFG0_CPU => ⟨4, 0, .ro, 12⟩
  | .GLB_CFG1_MEMIF => ⟨25, 20, .ro, 24⟩
  | .GLB_CFG1_LINK => ⟨19, 15, .ro, 16⟩
  | .GLB_CFG1_FABRIC => ⟨14, 12, .ro, 4⟩
  | .GLB_CFG1_DOMAINS => ⟨8, 0, .ro, 248⟩
  | .GLB_CFG2_CELLS => ⟨26, 16, .ro, 1152⟩
  | .GLB_CFG2_TOWERS => ⟨9, 4, .ro, 24⟩
  | .GLB_CFG2_DIES => ⟨3, 0, .ro, 8⟩
  | .GLB_CFG3_PH_VSTK => ⟨24, 18, .ro, 56⟩
  | .GLB_CFG3_PH_VDDM => ⟨17, 13, .ro, 12⟩
  | .GLB_CFG3_PH_VPPM => ⟨12, 10, .ro, 2⟩
  | .GLB_CFG3_PH_VIO => ⟨9, 7, .ro, 2⟩
  | .GLB_CFG3_PH_TOTAL => ⟨6, 0, .ro, 72⟩
  | .GLB_CFG4_CP => ⟨31, 29, .ro, 4⟩
  | .GLB_CFG4_SAR => ⟨28, 24, .ro, 16⟩
  | .GLB_CFG4_SLOTS => ⟨23, 14, .ro, 512⟩
  | .GLB_CFG4_TSENS => ⟨12, 0, .ro, 2912⟩
  | .GLB_CFG5_VALID => ⟨31, 31, .ro, 1⟩
  | .GLB_CFG5_DSENS => ⟨10, 0, .ro, 1024⟩
  | .GLB_VSTK_STATUS_BUS_OOR => ⟨31, 31, .ro, 0⟩
  | .GLB_VSTK_STATUS_CLAMPED => ⟨30, 30, .ro, 0⟩
  | .GLB_VSTK_STATUS_VSTK_CODE => ⟨25, 16, .ro, 0⟩
  | .GLB_VSTK_STATUS_HEADROOM_MIN => ⟨15, 8, .ro, 255⟩
  | .GLB_VSTK_STATUS_VSTK_LIVE => ⟨6, 0, .ro, 0⟩
  | .GLB_DESIGN_CUR_EDC_EFF => ⟨26, 16, .ro, 1700⟩
  | .GLB_DESIGN_CUR_TDC_EFF => ⟨10, 0, .ro, 1100⟩
  | .GLB_BOOT_STATUS_STATE => ⟨31, 29, .ro, 0⟩
  | .GLB_BOOT_STATUS_FW => ⟨28, 28, .ro, 0⟩
  | .GLB_BOOT_STATUS_CFG_COMMITTED => ⟨27, 27, .ro, 0⟩
  | .GLB_BOOT_STATUS_PWR_OK => ⟨26, 26, .ro, 0⟩
  | .GLB_BOOT_STATUS_SRC => ⟨25, 24, .ro, 3⟩
  | .GLB_BOOT_STATUS_ERR => ⟨23, 20, .ro, 0⟩
  | .GLB_BOOT_CTRL_RELEASE => ⟨31, 31, .wo, 0⟩
  | .GLB_BOOT_CTRL_USE_ROM => ⟨30, 30, .wo, 0⟩
  | .GLB_BOOT_CTRL_CFG_COMMIT => ⟨29, 29, .wo, 0⟩
  | .GLB_BOOT_CTRL_PWR_OK_TMO => ⟨7, 0, .rwl, 10⟩
  | .GLB_RST_CTRL_CP_RST => ⟨31, 31, .wo, 0⟩
  | .GLB_RST_CTRL_BLOCK_RST => ⟨30, 30, .wo, 0⟩
  | .GLB_RST_STATUS_STACK_HELD => ⟨31, 31, .ro, 0⟩
  | .GLB_RST_STATUS_CP_ACTIVE => ⟨30, 30, .ro, 0⟩
  | .GLB_RST_STATUS_LAST => ⟨29, 27, .ro, 0⟩
  | .GLB_RST_STATUS_CP_COUNT => ⟨15, 8, .ro, 0⟩
  | .GLB_RST_STATUS_BLK_COUNT => ⟨7, 0, .ro, 0⟩
  | .GLB_IMG_INFO_VERSION => ⟨31, 16, .ro, 0⟩
  | .GLB_IMG_INFO_LEN_KIB => ⟨15, 0, .ro, 0⟩
  | .GLB_CP_STATUS_STATE => ⟨31, 29, .ro, 0⟩
  | .GLB_CP_STATUS_CAUSE => ⟨28, 26, .ro, 0⟩
  | .GLB_CP_STATUS_BANK => ⟨25, 25, .ro, 0⟩
  | .GLB_CP_STATUS_CKPT_OK => ⟨24, 24, .ro, 0⟩
  | .GLB_CP_STATUS_COMP_ID => ⟨23, 20, .ro, 0⟩
  | .GLB_CP_STATUS_CRASH_COUNT => ⟨15, 8, .ro, 0⟩
  | .GLB_CP_STATUS_RESTARTS => ⟨7, 0, .ro, 0⟩
  | .GLB_CP_FAULT_ADDR => ⟨31, 0, .ro, 0⟩
  | .GLB_CP_WDT_KICK => ⟨31, 31, .wo, 0⟩
  | .GLB_CP_WDT_WDT_MS => ⟨7, 0, .rwl, 10⟩
  | .GLB_FW_IMG_STATE => ⟨31, 29, .ro, 0⟩
  | .GLB_FW_IMG_DAMAGED => ⟨28, 28, .ro, 0⟩
  | .GLB_FW_IMG_ERR => ⟨27, 25, .ro, 0⟩
  | .GLB_FW_IMG_RUN_MASK => ⟨24, 21, .ro, 0⟩
  | .GLB_FW_IMG_BYTES => ⟨20, 0, .ro, 0⟩
  | .GLB_FW_CTRL_IL_QUIET => ⟨31, 24, .rwl, 10⟩
  | .GLB_FW_CTRL_CRASH_LIMIT => ⟨23, 16, .rwl, 3⟩
  | .GLB_FW_CTRL_MIN_SVN => ⟨15, 0, .ro, 0⟩
  | .GLB_FW_IL_SET => ⟨31, 31, .ro, 0⟩
  | .GLB_FW_IL_GOOSE => ⟨5, 5, .ro, 0⟩
  | .GLB_FW_IL_GROUP => ⟨4, 4, .ro, 0⟩
  | .GLB_FW_IL_PULSE => ⟨3, 3, .ro, 0⟩
  | .GLB_FW_IL_DESCEND => ⟨2, 2, .ro, 0⟩
  | .GLB_FW_IL_LIMIT => ⟨1, 1, .ro, 0⟩
  | .GLB_FW_IL_EMERG => ⟨0, 0, .ro, 0⟩
  | .GLB_FW_EVENT_DAMAGED => ⟨6, 6, .rw1c, 0⟩
  | .GLB_FW_EVENT_STOPPED => ⟨5, 5, .rw1c, 0⟩
  | .GLB_FW_EVENT_CRASH => ⟨4, 4, .rw1c, 0⟩
  | .GLB_FW_EVENT_DBG_REF => ⟨3, 3, .rw1c, 0⟩
  | .GLB_FW_EVENT_ACT_TMO => ⟨2, 2, .rw1c, 0⟩
  | .GLB_FW_EVENT_IMG_BAD => ⟨1, 1, .rw1c, 0⟩
  | .GLB_FW_EVENT_ECC_CORR => ⟨0, 0, .rw1c, 0⟩
  | .GLB_FW_DBG_SEL_BANK => ⟨1, 0, .rw, 0⟩
  | .GLB_FW_LOAD_ACTIVE => ⟨31, 31, .ro, 0⟩
  | .GLB_FW_LOAD_TARGET => ⟨30, 30, .ro, 0⟩
  | .GLB_FW_LOAD_PARTNER => ⟨5, 0, .ro, 0⟩
  | .GLB_LT_STAT_STATE => ⟨31, 30, .ro, 0⟩
  | .GLB_LT_STAT_MODE => ⟨29, 28, .ro, 0⟩
  | .GLB_LT_STAT_LOCKED => ⟨27, 27, .ro, 0⟩
  | .GLB_LT_STAT_FORCED => ⟨26, 26, .ro, 0⟩
  | .GLB_LT_STAT_LEFT_MS => ⟨15, 0, .ro, 0⟩
  | .GLB_LT_BITS_BITS => ⟨31, 0, .ro, 0⟩
  | .GLB_LT_ERRS_ERRS => ⟨31, 0, .ro, 0⟩
  | .CMD_CTRL_EPOCH_SETTLE => ⟨7, 0, .rwl, 6⟩
  | .CMD_STATUS_CP0_READY => ⟨31, 31, .ro, 0⟩
  | .CMD_STATUS_QUEUED => ⟨28, 26, .ro, 0⟩
  | .CMD_STATUS_REGISTERED => ⟨23, 18, .ro, 0⟩
  | .CMD_STATUS_STORE_USED => ⟨13, 0, .ro, 0⟩
  | .CMD_RUN_STATE => ⟨31, 29, .ro, 0⟩
  | .CMD_RUN_RETUNE => ⟨28, 28, .ro, 0⟩
  | .CMD_RUN_EPOCH => ⟨27, 22, .ro, 0⟩
  | .CMD_RUN_EPOCHS_M1 => ⟨21, 16, .ro, 0⟩
  | .CMD_RUN_RUN_ID => ⟨15, 0, .ro, 0⟩
  | .CMD_EVENT_RUN_HALT => ⟨5, 5, .rw1c, 0⟩
  | .CMD_EVENT_LEASE_EXP => ⟨4, 4, .rw1c, 0⟩
  | .CMD_EVENT_STORE_FULL => ⟨3, 3, .rw1c, 0⟩
  | .CMD_EVENT_LEASE_LATE => ⟨2, 2, .rw1c, 0⟩
  | .CMD_EVENT_FOREIGN => ⟨1, 1, .rw1c, 0⟩
  | .CMD_EVENT_SLOT_BUSY_WR => ⟨0, 0, .rw1c, 0⟩
  | .CMD_COMMIT_GO => ⟨31, 31, .wo, 0⟩
  | .CMD_COMMIT_RETUNE => ⟨30, 30, .wo, 0⟩
  | .CMD_COMMIT_DRY_RUN => ⟨29, 29, .wo, 0⟩
  | .CMD_COMMIT_RESUME => ⟨28, 28, .wo, 0⟩
  | .CMD_COMMIT_ST_STATUS => ⟨31, 24, .ro, 0⟩
  | .CMD_COMMIT_ST_INITIATOR => ⟨23, 16, .ro, 0⟩
  | .CMD_COMMIT_ST_RUN_ID => ⟨15, 0, .ro, 0⟩
  | .CMD_NOTICE_SEQ_NSEQ => ⟨31, 0, .ro, 0⟩
  | .CMD_PRIV_CLASS => ⟨31, 0, .rwl, 0⟩
  | .CMD_PART_ID_STATE => ⟨31, 30, .ro, 0⟩
  | .CMD_PART_ID_FLAGS => ⟨29, 28, .ro, 0⟩
  | .CMD_PART_ID_CLASS => ⟨27, 24, .ro, 0⟩
  | .CMD_PART_ID_INITIATOR => ⟨23, 16, .ro, 0⟩
  | .CMD_PART_ID_REG_EPOCH_LO => ⟨15, 0, .ro, 0⟩
  | .CMD_PART_SLOTS_BUSY => ⟨31, 24, .ro, 0⟩
  | .CMD_PART_SLOTS_NEW => ⟨23, 16, .rw1c, 0⟩
  | .CMD_PART_SLOTS_NOTICE_NEW => ⟨0, 0, .rw1c, 0⟩
  | .CMD_PART_LEASE_LEASE_LEFT => ⟨31, 16, .ro, 0⟩
  | .CMD_PART_LEASE_LEASE_S => ⟨5, 0, .ro, 0⟩
  | .CMD_NOTICE0_TYPE => ⟨31, 28, .ro, 0⟩
  | .CMD_NOTICE0_ARG => ⟨15, 0, .ro, 0⟩
  | .CMD_NOTICE1_TIME_LO => ⟨31, 0, .ro, 0⟩
  | .GLB_STRAP_TEST_EN => ⟨10, 10, .ro, 0⟩
  | .GLB_STRAP_HERD_ROLE => ⟨9, 8, .ro, 0⟩
  | .GLB_STRAP_PHASES_POP => ⟨7, 5, .ro, 0⟩
  | .GLB_STRAP_VSTK_DEF => ⟨4, 2, .ro, 0⟩
  | .GLB_STRAP_BOOT_MODE => ⟨1, 0, .ro, 0⟩
  | .GLB_FUSE_SEL_WORD => ⟨9, 0, .rw, 0⟩
  | .GLB_FUSE_DATA_DATA => ⟨31, 0, .ro, 0⟩
  | .GLB_FUSE_STAT_LOADED => ⟨31, 31, .ro, 0⟩
  | .GLB_FUSE_STAT_UNCORR => ⟨30, 30, .ro, 0⟩
  | .GLB_FUSE_STAT_PROG_BUSY => ⟨29, 29, .ro, 0⟩
  | .GLB_FUSE_STAT_PROG_FAIL => ⟨28, 28, .rw1c, 0⟩
  | .GLB_FUSE_STAT_BAD_WORD => ⟨25, 16, .ro, 0⟩
  | .GLB_FUSE_STAT_CORR_COUNT => ⟨7, 0, .ro, 0⟩
  | .GLB_FUSE_PROG_GO => ⟨31, 31, .wo, 0⟩
  | .GLB_FUSE_PROG_WORD => ⟨9, 0, .wo, 0⟩
  | .GLB_FUSE_PDATA_PDATA => ⟨31, 0, .rw, 0⟩
  | .FLT_CTRL_QUIET => ⟨31, 16, .rwl, 50⟩
  | .FLT_CTRL_WINDOW => ⟨15, 0, .rwl, 200⟩
  | .FLT_CTRL2_MBX_TMO => ⟨15, 8, .rwl, 20⟩
  | .FLT_CTRL2_REC_THR => ⟨7, 0, .rwl, 16⟩
  | .FLT_STATUS_FATAL => ⟨31, 31, .ro, 0⟩
  | .FLT_STATUS_PAIR_ASSERT => ⟨30, 30, .ro, 1⟩
  | .FLT_STATUS_PAIR_T => ⟨29, 29, .ro, 0⟩
  | .FLT_STATUS_PAIR_C => ⟨28, 28, .ro, 1⟩
  | .FLT_STATUS_GOOSE_FORCE => ⟨27, 27, .ro, 0⟩
  | .FLT_STATUS_FATAL_SUB => ⟨23, 16, .ro, 0⟩
  | .FLT_STATUS_FATAL_CODE => ⟨15, 12, .ro, 0⟩
  | .FLT_STATUS_ESC_N => ⟨11, 6, .ro, 0⟩
  | .FLT_STATUS_PEND_N => ⟨5, 0, .ro, 0⟩
  | .FLT_HANDLE_GO => ⟨31, 31, .wo, 0⟩
  | .FLT_HANDLE_SUB => ⟨15, 8, .wo, 0⟩
  | .FLT_HANDLE_CODE => ⟨3, 0, .wo, 0⟩
  | .FLT_SEQ_NEXT_SEQ => ⟨31, 0, .ro, 1⟩
  | .FLT_ACK_SEQ_ACK_SEQ => ⟨31, 0, .ro, 0⟩
  | .FLT_LOST_LOST => ⟨31, 0, .ro, 0⟩
  | .FLT_FEC_INFO_VALID => ⟨31, 31, .rw1c, 0⟩
  | .FLT_FEC_INFO_MASTER => ⟨23, 16, .ro, 0⟩
  | .FLT_FEC_INFO_TYPE => ⟨15, 12, .ro, 0⟩
  | .FLT_FEC_INFO_CODE => ⟨11, 8, .ro, 0⟩
  | .FLT_FEC_INFO_SUB => ⟨7, 0, .ro, 0⟩
  | .FLT_FEC_ADDR_LO_ADDR_LO => ⟨31, 0, .ro, 0⟩
  | .FLT_FEC_ADDR_HI_ADDR_HI => ⟨31, 0, .ro, 0⟩
  | .FLT_FEC_TIME_LO_TIME_LO => ⟨31, 0, .ro, 0⟩
  | .FLT_FEC_TIME_HI_TIME_HI => ⟨31, 0, .ro, 0⟩
  | .FLT_FEC_MORE_MORE => ⟨7, 0, .ro, 0⟩
  | .FLT_REC_SEL_SEQ => ⟨31, 0, .rw, 1⟩
  | .FLT_REC0_MASTER => ⟨31, 24, .ro, 0⟩
  | .FLT_REC0_KIND => ⟨23, 16, .ro, 0⟩
  | .FLT_REC0_CODE => ⟨11, 8, .ro, 0⟩
  | .FLT_REC0_SUB => ⟨7, 0, .ro, 0⟩
  | .FLT_REC1_COUNT => ⟨31, 16, .ro, 0⟩
  | .FLT_REC1_INDEX => ⟨15, 0, .ro, 0⟩
  | .FLT_REC2_TIME_LO => ⟨31, 0, .ro, 0⟩
  | .FLT_REC3_TIME_HI => ⟨31, 0, .ro, 0⟩
  | .FLT_GOOSE_STATUS_ARMED => ⟨31, 31, .ro, 0⟩
  | .FLT_GOOSE_STATUS_TRIPPED => ⟨30, 30, .ro, 0⟩
  | .FLT_GOOSE_STATUS_SELFTEST_OK => ⟨29, 29, .ro, 0⟩
  | .FLT_GOOSE_STATUS_CAUSE => ⟨23, 20, .ro, 0⟩
  | .FLT_GOOSE_STATUS_INDEX => ⟨11, 0, .ro, 0⟩
  | .FLT_GOOSE_LIM0_DIE_LIMIT => ⟨31, 24, .ro, 115⟩
  | .FLT_GOOSE_LIM0_MEM_LIMIT => ⟨23, 16, .ro, 105⟩
  | .FLT_GOOSE_LIM0_VSTK_OV => ⟨11, 0, .ro, 1200⟩
  | .FLT_GOOSE_LIM1_OC_VSTK => ⟨31, 16, .ro, 2500⟩
  | .FLT_GOOSE_LIM1_OC_VDDM => ⟨15, 0, .ro, 470⟩
  | .FLT_GOOSE_LIM2_OC_VPPM => ⟨31, 16, .ro, 24⟩
  | .FLT_GOOSE_LIM2_OC_VIO => ⟨15, 0, .ro, 60⟩
  | .FLT_GOOSE_LIM3_DOV_TILE => ⟨31, 24, .ro, 110⟩
  | .FLT_GOOSE_LIM3_DOV_CPU => ⟨23, 16, .ro, 110⟩
  | .FLT_GOOSE_LIM3_DOV_MEMIF => ⟨15, 8, .ro, 108⟩
  | .FLT_GOOSE_LIM3_DOV_LINK => ⟨7, 0, .ro, 108⟩
  | .FLT_GOOSE_LIM4_DOV_FABRIC => ⟨7, 0, .ro, 109⟩
  | .FLT_SRC_STATE => ⟨31, 29, .ro, 0⟩
  | .FLT_SRC_CLASS => ⟨28, 27, .ro, 0⟩
  | .FLT_SRC_CNT_CLR => ⟨26, 26, .wo, 0⟩
  | .FLT_SRC_REC_COUNT => ⟨15, 8, .ro, 0⟩
  | .FLT_SRC_RAISES => ⟨7, 0, .ro, 0⟩
  | .CRC_CFG_IRQ_EN => ⟨9, 9, .rw, 0⟩
  | .CRC_CFG_CMP_EN => ⟨8, 8, .rw, 0⟩
  | .CRC_CFG_FINAL_INV => ⟨7, 7, .rw, 1⟩
  | .CRC_CFG_REFOUT => ⟨6, 6, .rw, 1⟩
  | .CRC_CFG_REFIN => ⟨5, 5, .rw, 1⟩
  | .CRC_CFG_WIDTH_M1 => ⟨4, 0, .rw, 31⟩
  | .CRC_POLY_POLY => ⟨31, 0, .rw, 517762881⟩
  | .CRC_INIT_INIT => ⟨31, 0, .rw, 4294967295⟩
  | .CRC_EXPECT_EXPECT => ⟨31, 0, .rw, 0⟩
  | .CRC_CMD_ABORT => ⟨2, 2, .wo, 0⟩
  | .CRC_CMD_FINISH => ⟨1, 1, .wo, 0⟩
  | .CRC_CMD_START => ⟨0, 0, .wo, 0⟩
  | .CRC_DATA32_DATA => ⟨31, 0, .wo, 0⟩
  | .CRC_DATA8_DATA => ⟨7, 0, .wo, 0⟩
  | .CRC_VALUE_VALUE => ⟨31, 0, .rw, 0⟩
  | .CRC_RESULT_RESULT => ⟨31, 0, .ro, 0⟩
  | .CRC_STATUS_STATE => ⟨31, 30, .ro, 0⟩
  | .CRC_STATUS_MATCH => ⟨29, 29, .ro, 0⟩
  | .CRC_STATUS_MISMATCH => ⟨28, 28, .ro, 0⟩
  | .CRC_STATUS_DROPPED => ⟨27, 27, .rw1c, 0⟩
  | .CRC_STATUS_DUTY => ⟨26, 24, .ro, 0⟩
  | .CRC_STATUS_MISMATCH_COUNT => ⟨7, 0, .ro, 0⟩
  | .CRC_LEASE_CLAIM => ⟨31, 31, .wo, 0⟩
  | .CRC_LEASE_RELEASE => ⟨30, 30, .wo, 0⟩
  | .CRC_LEASE_HELD => ⟨29, 29, .ro, 1⟩
  | .CRC_LEASE_LEASE_TMO => ⟨23, 16, .rw, 10⟩
  | .CRC_LEASE_HOLDER => ⟨7, 0, .ro, 255⟩
  | .CRC_EVENT_LEASE_BROKEN => ⟨8, 8, .rw1c, 0⟩
  | .CRC_EVENT_FAILED => ⟨7, 4, .rw1c, 0⟩
  | .CRC_EVENT_MISMATCH => ⟨3, 0, .rw1c, 0⟩
  | .ADC_CTRL_LP_FORCE => ⟨31, 31, .rw, 0⟩
  | .ADC_CTRL_WAIT_TMO => ⟨23, 16, .rwl, 18⟩
  | .ADC_CTRL_SEQ_PERIOD => ⟨15, 8, .rwl, 30⟩
  | .ADC_STATUS_LP_ACTIVE => ⟨31, 31, .ro, 1⟩
  | .ADC_STATUS_PAIR_SOLO => ⟨23, 16, .ro, 0⟩
  | .ADC_STATUS_CV_OK => ⟨15, 0, .ro, 65535⟩
  | .ADC_EVENT_PAIR_LOST => ⟨5, 5, .rw1c, 0⟩
  | .ADC_EVENT_CV_FAIL => ⟨4, 4, .rw1c, 0⟩
  | .ADC_EVENT_CHK_DIS => ⟨3, 3, .rw1c, 0⟩
  | .ADC_EVENT_OVR => ⟨2, 2, .rw1c, 0⟩
  | .ADC_EVENT_NO_TRIG => ⟨1, 1, .rw1c, 0⟩
  | .ADC_EVENT_OVERRUN => ⟨0, 0, .rw1c, 0⟩
  | .ADC_URG_REQ_GO => ⟨31, 31, .wo, 0⟩
  | .ADC_URG_REQ_CHANNEL => ⟨23, 16, .wo, 0⟩
  | .ADC_URG_REQ_GAIN => ⟨15, 14, .wo, 0⟩
  | .ADC_URG_REQ_SMP => ⟨5, 0, .wo, 0⟩
  | .ADC_URG_RES_BUSY => ⟨31, 31, .ro, 0⟩
  | .ADC_URG_RES_DONE => ⟨30, 30, .ro, 0⟩
  | .ADC_URG_RES_OVR => ⟨29, 29, .ro, 0⟩
  | .ADC_URG_RES_REFUSED => ⟨28, 28, .ro, 0⟩
  | .ADC_URG_RES_CONV => ⟨27, 24, .ro, 0⟩
  | .ADC_URG_RES_RAW => ⟨11, 0, .ro, 0⟩
  | .ADC_CAL_SEL_CHANNEL => ⟨7, 0, .rw, 0⟩
  | .ADC_CAL_GAIN => ⟨31, 17, .rwe, 8192⟩
  | .ADC_CAL_OFS => ⟨16, 0, .rwe, 0⟩
  | .ADC_PAIR_CFG_CHK_WIN => ⟨31, 24, .rwl, 8⟩
  | .ADC_PAIR_CFG_CHK_ABS => ⟨23, 16, .rwl, 24⟩
  | .ADC_PAIR_CFG_XR_WIN => ⟨15, 8, .rwl, 32⟩
  | .ADC_PAIR_STATUS_STATE => ⟨31, 30, .ro, 0⟩
  | .ADC_PAIR_STATUS_CHK_DIS_ST => ⟨29, 29, .ro, 0⟩
  | .ADC_PAIR_STATUS_CHK_EXP => ⟨27, 16, .ro, 0⟩
  | .ADC_PAIR_STATUS_XR_FAILS => ⟨15, 8, .ro, 0⟩
  | .ADC_PAIR_STATUS_DIS_COUNT => ⟨7, 0, .ro, 0⟩
  | .ADC_PAIR_CHK_CHK_ODD => ⟨27, 16, .ro, 0⟩
  | .ADC_PAIR_CHK_CHK_EVEN => ⟨11, 0, .ro, 0⟩
  | .ADC_CV_CTRL_OFFLINE => ⟨31, 31, .rw, 0⟩
  | .ADC_CV_CTRL_RECHECK => ⟨30, 30, .wo, 0⟩
  | .ADC_CV_CTRL_SEQ_LEN_M1 => ⟨19, 16, .rwe, 0⟩
  | .ADC_CV_CTRL_START_DLY => ⟨15, 8, .rwe, 0⟩
  | .ADC_CV_CTRL_PWM_DLY => ⟨7, 0, .rwe, 0⟩
  | .ADC_CV_STATUS_STATE => ⟨31, 29, .ro, 0⟩
  | .ADC_CV_STATUS_FAIL_CAUSE => ⟨28, 26, .ro, 0⟩
  | .ADC_CV_STATUS_PD => ⟨25, 25, .ro, 0⟩
  | .ADC_CV_STATUS_URG => ⟨24, 24, .ro, 0⟩
  | .ADC_CV_STATUS_POS => ⟨23, 20, .ro, 0⟩
  | .ADC_CV_STATUS_OVERRUNS => ⟨15, 8, .ro, 0⟩
  | .ADC_CV_STATUS_LOSS_COUNT => ⟨7, 0, .ro, 0⟩
  | .ADC_CV_UT_UT_EN => ⟨31, 31, .rwl, 0⟩
  | .ADC_CV_UT_UT_GAIN => ⟨29, 28, .rwl, 0⟩
  | .ADC_CV_UT_UT_CH => ⟨23, 16, .rwl, 0⟩
  | .ADC_CV_UT_UT_PERIOD => ⟨15, 8, .rwl, 10⟩
  | .ADC_CV_UT_UT_SMP => ⟨5, 0, .rwl, 20⟩
  | .ADC_SEQ_CH => ⟨31, 24, .rwe, 0⟩
  | .ADC_SEQ_TRIG => ⟨23, 23, .rwe, 0⟩
  | .ADC_SEQ_DLY_MODE => ⟨22, 21, .rwe, 0⟩
  | .ADC_SEQ_SMP => ⟨20, 15, .rwe, 0⟩
  | .ADC_SEQ_GAIN => ⟨14, 13, .rwe, 0⟩
  | .ADC_SEQ_DIVL => ⟨12, 10, .rwe, 0⟩
  | .ADC_SEQ_AVGL => ⟨9, 6, .rwe, 0⟩
  | .ADC_SEQ_SHIFT => ⟨5, 2, .rwe, 0⟩
  | .ADC_SEQ_XR => ⟨1, 1, .rwe, 0⟩
  | .ADC_RES_RESULT => ⟨31, 16, .ro, 0⟩
  | .ADC_RES_CAL => ⟨15, 0, .ro, 0⟩
  | .ADC_RES_ST_VALID => ⟨31, 31, .ro, 0⟩
  | .ADC_RES_ST_OVR => ⟨30, 30, .ro, 0⟩
  | .ADC_RES_ST_BY_PARTNER => ⟨29, 29, .ro, 0⟩
  | .ADC_RES_ST_XR_BAD => ⟨28, 28, .ro, 0⟩
  | .ADC_RES_ST_NO_TRIG => ⟨27, 27, .ro, 0⟩
  | .ADC_RES_ST_CAL_BUSY => ⟨26, 26, .ro, 0⟩
  | .ADC_RES_ST_AGE => ⟨15, 0, .ro, 65535⟩
  | .THM_RATE_THR_CMP_ALARM => ⟨31, 24, .rwl, 32⟩
  | .THM_RATE_THR_CMP_EMERG => ⟨23, 16, .rwl, 80⟩
  | .THM_RATE_THR_MEM_ALARM => ⟨15, 8, .rwl, 8⟩
  | .THM_RATE_THR_MEM_EMERG => ⟨7, 0, .rwl, 24⟩
  | .THM_LIMIT_CMP_LIMIT => ⟨31, 24, .rwl, 105⟩
  | .THM_LIMIT_MEM_LIMIT => ⟨23, 16, .rwl, 100⟩
  | .THM_LIMIT_BROKEN_DELTA => ⟨15, 8, .ro, 16⟩
  | .THM_CLAMP_CFG_RELEASE_MS => ⟨31, 24, .rwl, 10⟩
  | .THM_CLAMP_CFG_RISE_MS => ⟨23, 16, .rwl, 1⟩
  | .THM_INLET_T_IN => ⟨31, 20, .ro, 0⟩
  | .THM_INLET_INLET_SEL => ⟨16, 0, .rwl, 15⟩
  | .THM_AIR_F_AIR => ⟨31, 16, .ro, 32768⟩
  | .THM_AIR_THETA_TAU => ⟨7, 0, .rwl, 20⟩
  | .THM_FCST_CFG_KF => ⟨15, 0, .rwe, 1024⟩
  | .THM_FUSE_FUSE_OK => ⟨31, 31, .ro, 0⟩
  | .THM_FUSE_T_DIE_MAX => ⟨23, 12, .ro, 0⟩
  | .THM_FUSE_T_DIE_MIN => ⟨11, 0, .ro, 0⟩
  | .THM_EVENT_SB_LOST => ⟨9, 9, .rw1c, 0⟩
  | .THM_EVENT_WP_OFF => ⟨8, 8, .rw1c, 0⟩
  | .THM_EVENT_LIMIT => ⟨7, 7, .rw1c, 0⟩
  | .THM_EVENT_EMERG => ⟨6, 6, .rw1c, 0⟩
  | .THM_EVENT_FUSE_REF => ⟨5, 5, .rw1c, 0⟩
  | .THM_EVENT_AIR => ⟨4, 4, .rw1c, 0⟩
  | .THM_EVENT_INLET_BAD => ⟨3, 3, .rw1c, 0⟩
  | .THM_EVENT_ALARM => ⟨2, 2, .rw1c, 0⟩
  | .THM_EVENT_BROKEN => ⟨1, 1, .rw1c, 0⟩
  | .THM_EVENT_DISAGREE => ⟨0, 0, .rw1c, 0⟩
  | .THM_COUNT_EMERG_COUNT => ⟨31, 24, .ro, 0⟩
  | .THM_COUNT_WP_COUNT => ⟨23, 16, .ro, 0⟩
  | .THM_COUNT_BROKEN_COUNT => ⟨15, 8, .ro, 0⟩
  | .THM_COUNT_LIMIT_COUNT => ⟨7, 0, .ro, 0⟩
  | .THM_TWR_WP => ⟨31, 31, .ro, 0⟩
  | .THM_TWR_SB_OK => ⟨30, 30, .ro, 0⟩
  | .THM_TWR_CL_STATE => ⟨29, 28, .ro, 0⟩
  | .THM_TWR_CLAMP => ⟨27, 24, .ro, 15⟩
  | .THM_TWR_HOT_LAYER => ⟨14, 12, .ro, 0⟩
  | .THM_TWR_T_MAX => ⟨11, 0, .ro, 0⟩
  | .THM_BRK_SUM_BRK => ⟨31, 0, .ro, 0⟩
  | .THM_DOM_EMERG_ST => ⟨31, 31, .ro, 0⟩
  | .THM_DOM_ALARM_ST => ⟨30, 30, .ro, 0⟩
  | .THM_DOM_SUBST => ⟨29, 29, .ro, 0⟩
  | .THM_DOM_CL_STATE => ⟨28, 27, .ro, 0⟩
  | .THM_DOM_CLAMP => ⟨26, 23, .ro, 15⟩
  | .THM_DOM_RATE => ⟨22, 13, .ro, 0⟩
  | .THM_DOM_T_HOT => ⟨11, 0, .ro, 0⟩
  | .THM_DIE_EMERG_ST => ⟨31, 31, .ro, 0⟩
  | .THM_DIE_ALARM_ST => ⟨30, 30, .ro, 0⟩
  | .THM_DIE_SUBST => ⟨29, 29, .ro, 0⟩
  | .THM_DIE_RATE => ⟨22, 13, .ro, 0⟩
  | .THM_DIE_T_DRAM => ⟨11, 0, .ro, 0⟩
  | .THM_SNS_SEL_SENSOR => ⟨11, 0, .rw, 0⟩
  | .THM_SNS_STATE => ⟨31, 30, .ro, 0⟩
  | .THM_SNS_DISAGREE => ⟨29, 29, .ro, 0⟩
  | .THM_SNS_RECHECK => ⟨28, 28, .wo, 0⟩
  | .THM_SNS_CAUSE => ⟨27, 26, .ro, 0⟩
  | .THM_SNS_READING => ⟨11, 0, .ro, 0⟩
  | .THM_DOM_SEL_DOMAIN => ⟨8, 0, .rw, 0⟩
  | .THM_DOM_THETA_THETA_REF => ⟨31, 16, .rwe, 0⟩
  | .THM_DOM_THETA_THETA => ⟨15, 0, .ro, 0⟩
  | .THM_DOM_FCST_P_FC => ⟨31, 16, .ro, 0⟩
  | .THM_DOM_FCST_T_FCST => ⟨11, 0, .ro, 0⟩
  | .THM_LADDER_FREQ => ⟨27, 16, .rwe, 0⟩
  | .THM_LADDER_ISSUE => ⟨4, 0, .rwe, 0⟩
  | .HRD_CFG_LEAD => ⟨31, 24, .rwe, 5⟩
  | .HRD_CFG_EXCL_PCT => ⟨23, 16, .rwe, 5⟩
  | .HRD_CFG_EXCL_WAIT => ⟨15, 8, .rwe, 5⟩
  | .HRD_CFG_HOLD_TMO => ⟨7, 0, .rwe, 10⟩
  | .HRD_ID_GROUP_ID => ⟨31, 16, .ro, 0⟩
  | .HRD_ID_STACK_ID => ⟨15, 0, .ro, 0⟩
  | .HRD_STATUS_STATE => ⟨31, 29, .ro, 0⟩
  | .HRD_STATUS_ROLE => ⟨28, 27, .ro, 0⟩
  | .HRD_STATUS_IS_ROOT => ⟨26, 26, .ro, 0⟩
  | .HRD_STATUS_INCOMPLETE => ⟨25, 25, .ro, 0⟩
  | .HRD_STATUS_TB_DEG => ⟨24, 24, .ro, 0⟩
  | .HRD_STATUS_OFFSET_MODE => ⟨23, 23, .ro, 0⟩
  | .HRD_STATUS_SLEWING => ⟨22, 22, .ro, 0⟩
  | .HRD_STATUS_LEVEL => ⟨19, 16, .ro, 0⟩
  | .HRD_STATUS_PORT_UP => ⟨11, 8, .ro, 0⟩
  | .HRD_FREQ_PEND => ⟨31, 31, .ro, 0⟩
  | .HRD_FREQ_F_OFF => ⟨27, 16, .ro, 4095⟩
  | .HRD_FREQ_F_GRP => ⟨11, 0, .ro, 0⟩
  | .HRD_PEND_CHG_SEQ => ⟨31, 16, .ro, 0⟩
  | .HRD_PEND_F_NEW => ⟨11, 0, .ro, 0⟩
  | .HRD_PEND_TICK_LO_CT_LO => ⟨31, 0, .ro, 0⟩
  | .HRD_PEND_TICK_HI_CT_HI => ⟨31, 0, .ro, 0⟩
  | .HRD_OFFSET_LO_OFS_LO => ⟨31, 0, .ro, 0⟩
  | .HRD_OFFSET_HI_OFS_HI => ⟨31, 0, .ro, 0⟩
  | .HRD_MEMBERS_EXCL_N => ⟨31, 24, .ro, 0⟩
  | .HRD_MEMBERS_MEMBERS => ⟨16, 0, .ro, 0⟩
  | .HRD_EXPECT_EXPECT => ⟨16, 0, .rw, 0⟩
  | .HRD_EVENT_INCOMPLETE => ⟨8, 8, .rw1c, 0⟩
  | .HRD_EVENT_JOIN_TMO => ⟨7, 7, .rw1c, 0⟩
  | .HRD_EVENT_DISBAND => ⟨6, 6, .rw1c, 0⟩
  | .HRD_EVENT_HOLDOVER => ⟨5, 5, .rw1c, 0⟩
  | .HRD_EVENT_LINK_LOST => ⟨4, 4, .rw1c, 0⟩
  | .HRD_EVENT_TIME_JUMP => ⟨3, 3, .rw1c, 0⟩
  | .HRD_EVENT_EXCL_OVF => ⟨2, 2, .rw1c, 0⟩
  | .HRD_EVENT_EXCL_REQ => ⟨1, 1, .rw1c, 0⟩
  | .HRD_EVENT_CRC_ERR => ⟨0, 0, .rw1c, 0⟩
  | .HRD_EXCL_CMD_DECISION => ⟨31, 30, .wo, 0⟩
  | .HRD_EXCL_CMD_STACK_ID => ⟨15, 0, .wo, 0⟩
  | .HRD_PORT_UP => ⟨31, 31, .ro, 0⟩
  | .HRD_PORT_CRC_ERR => ⟨23, 16, .ro, 0⟩
  | .HRD_PORT_DROPS => ⟨15, 8, .ro, 0⟩
  | .HRD_PORT_DELAY => ⟨7, 0, .ro, 0⟩
  | .HRD_TILE_MASK_MASK => ⟨31, 0, .rw, 4294967295⟩
  | .HRD_EXCL_STATE => ⟨31, 30, .ro, 0⟩
  | .HRD_EXCL_F_OFF => ⟨27, 16, .ro, 0⟩
  | .HRD_EXCL_STACK_ID => ⟨15, 0, .ro, 0⟩
  | .TLM_CTRL_ENABLE => ⟨31, 31, .rw, 0⟩
  | .TLM_CTRL_STACK_REC => ⟨30, 30, .rw, 1⟩
  | .TLM_CTRL_NOTIFY_MS => ⟨23, 16, .rw, 0⟩
  | .TLM_CTRL_SIZE_LOG2 => ⟨4, 0, .rw, 12⟩
  | .TLM_RING_LO_BASE_LO => ⟨31, 12, .rw, 0⟩
  | .TLM_RING_HI_BASE_HI => ⟨31, 0, .rw, 0⟩
  | .TLM_NOTIFY_LO_NADDR_LO => ⟨31, 2, .rw, 0⟩
  | .TLM_NOTIFY_HI_NADDR_HI => ⟨31, 0, .rw, 0⟩
  | .TLM_PROD_PROD => ⟨31, 0, .ro, 0⟩
  | .TLM_CONS_CONS => ⟨31, 0, .rw, 0⟩
  | .TLM_STATUS_RUNNING => ⟨31, 31, .ro, 0⟩
  | .TLM_STATUS_BUS_ERR_ST => ⟨30, 30, .ro, 0⟩
  | .TLM_STATUS_QUEUED => ⟨9, 0, .ro, 0⟩
  | .TLM_LOST_LOST => ⟨31, 0, .ro, 0⟩
  | .TLM_EVENT_BUS_ERR => ⟨2, 2, .rw1c, 0⟩
  | .TLM_EVENT_CONS_BAD => ⟨1, 1, .rw1c, 0⟩
  | .TLM_EVENT_DROP => ⟨0, 0, .rw1c, 0⟩
  | .TLM_DOM_MASK_MASK => ⟨31, 0, .rw, 4294967295⟩
  | .TLM_CAP_CTRL_ARM => ⟨31, 31, .rw, 0⟩
  | .TLM_CAP_CTRL_TRIG_SRC => ⟨30, 28, .rw, 0⟩
  | .TLM_CAP_CTRL_POST => ⟨25, 16, .rw, 128⟩
  | .TLM_CAP_CTRL_TRIG_IDX => ⟨8, 0, .rw, 0⟩
  | .TLM_CAP_CH_KIND => ⟨31, 29, .rw, 0⟩
  | .TLM_CAP_CH_INDEX => ⟨10, 0, .rw, 0⟩
  | .TLM_CAP_DUMP_LO_DUMP_LO => ⟨31, 12, .rw, 0⟩
  | .TLM_CAP_DUMP_HI_DUMP_HI => ⟨31, 0, .rw, 0⟩
  | .TLM_CAP_TICK_LO_TICK_LO => ⟨31, 0, .rw, 0⟩
  | .TLM_CAP_TICK_HI_TICK_HI => ⟨31, 0, .rw, 0⟩
  | .TLM_CAP_STATUS_STATE => ⟨31, 29, .ro, 0⟩
  | .TLM_CAP_STATUS_WRAPPED => ⟨28, 28, .ro, 0⟩
  | .TLM_CAP_STATUS_BLOCKS => ⟨15, 0, .ro, 0⟩
  | .PHS_GRP_CTRL_EN => ⟨31, 31, .rw, 0⟩
  | .PHS_GRP_CTRL_FSW => ⟨23, 16, .rwl, 60⟩
  | .PHS_GRP_CTRL_RIPPLE_AMP => ⟨15, 8, .rwl, 40⟩
  | .PHS_GRP_SOFT_START_DELAY => ⟨31, 24, .rwl, 10⟩
  | .PHS_GRP_SOFT_START_SLOPE => ⟨23, 16, .rwl, 20⟩
  | .PHS_GRP_SOFT_STOP_DELAY => ⟨15, 8, .rwl, 0⟩
  | .PHS_GRP_SOFT_STOP_SLOPE => ⟨7, 0, .rwl, 20⟩
  | .PHS_GRP_OCL_VALLEY_HI => ⟨23, 16, .rwl, 0⟩
  | .PHS_GRP_OCL_VALLEY_LO => ⟨15, 8, .rwl, 0⟩
  | .PHS_GRP_STATUS_STATE => ⟨31, 28, .ro, 0⟩
  | .PHS_GRP_STATUS_ATTEMPTS => ⟨27, 26, .ro, 0⟩
  | .PHS_GRP_STATUS_LIVE => ⟨23, 17, .ro, 0⟩
  | .PHS_GRP_STATUS_ROT_POS => ⟨16, 10, .ro, 0⟩
  | .PHS_GRP_STATUS_ROT_ANGLE => ⟨9, 4, .ro, 0⟩
  | .PHS_GRP_EVENT_LATCHED => ⟨6, 6, .rw1c, 0⟩
  | .PHS_GRP_EVENT_HICCUP => ⟨5, 5, .rw1c, 0⟩
  | .PHS_GRP_EVENT_FB_LONG => ⟨4, 4, .rw1c, 0⟩
  | .PHS_GRP_EVENT_FOLDBACK => ⟨3, 3, .rw1c, 0⟩
  | .PHS_GRP_EVENT_SENSE_FAIL => ⟨2, 2, .rw1c, 0⟩
  | .PHS_GRP_EVENT_PHASE_OPEN => ⟨1, 1, .rw1c, 0⟩
  | .PHS_GRP_EVENT_TMON_HOT => ⟨0, 0, .rw1c, 0⟩
  | .PHS_GRP_TON_VBUS_USED => ⟨31, 16, .ro, 0⟩
  | .PHS_GRP_TON_TON_BASE => ⟨11, 0, .ro, 0⟩
  | .PHS_GRP_REF_VSENSE => ⟨28, 16, .ro, 0⟩
  | .PHS_GRP_REF_VREF => ⟨12, 0, .ro, 0⟩
  | .PHS_PH_STATUS_PH_STATE => ⟨31, 29, .ro, 0⟩
  | .PHS_PH_STATUS_TRIM => ⟨23, 16, .ro, 0⟩
  | .PHS_PH_STATUS_LOSS_COUNT => ⟨15, 8, .ro, 0⟩
  | .PHS_PH_STATUS_TMON_HOT => ⟨0, 0, .ro, 0⟩
  | .PHS_PH_MEAS_IMON => ⟨31, 16, .ro, 0⟩
  | .PHS_PH_MEAS_TMON => ⟨7, 0, .ro, 0⟩
  | .PHS_PH_CTRL_READMIT => ⟨1, 1, .wo, 0⟩
  | .PHS_PH_CTRL_DISABLE => ⟨0, 0, .rw, 0⟩
  | .PHS_PMB_CTRL_POLL_EN => ⟨31, 31, .rw, 1⟩
  | .PHS_PMB_CTRL_SPEED => ⟨30, 30, .rwl, 0⟩
  | .PHS_PMB_CTRL_ADDR => ⟨6, 0, .rwl, 16⟩
  | .PHS_PMB_STATUS_HELD => ⟨31, 31, .ro, 0⟩
  | .PHS_PMB_STATUS_LINEAR_OK => ⟨30, 30, .ro, 0⟩
  | .PHS_PMB_STATUS_BUS_RESETS => ⟨23, 16, .ro, 0⟩
  | .PHS_PMB_STATUS_PEC_ERRORS => ⟨15, 8, .ro, 0⟩
  | .PHS_PMB_STATUS_VOUT_MODE => ⟨7, 0, .ro, 0⟩
  | .PHS_PMB_DATA0_READ_VIN => ⟨31, 16, .ro, 0⟩
  | .PHS_PMB_DATA0_READ_IIN => ⟨15, 0, .ro, 0⟩
  | .PHS_PMB_DATA1_READ_VOUT => ⟨31, 16, .ro, 0⟩
  | .PHS_PMB_DATA1_READ_IOUT => ⟨15, 0, .ro, 0⟩
  | .PHS_PMB_DATA2_READ_TEMPERATURE_1 => ⟨31, 16, .ro, 0⟩
  | .PHS_PMB_DATA2_READ_TEMPERATURE_2 => ⟨15, 0, .ro, 0⟩
  | .PHS_PMB_DATA3_READ_POUT => ⟨31, 16, .ro, 0⟩
  | .PHS_PMB_DATA3_STATUS_WORD => ⟨15, 0, .ro, 0⟩
  | .PHS_PMB_AGE_AGE_MS => ⟨15, 0, .ro, 65535⟩
  | .CEL_STATUS_STATE => ⟨31, 29, .ro, 0⟩
  | .CEL_STATUS_FAIL_CAUSE => ⟨28, 25, .ro, 0⟩
  | .CEL_STATUS_LOSS_COUNT => ⟨17, 10, .ro, 0⟩
  | .CEL_STATUS_SETPT => ⟨9, 0, .ro, 0⟩
  | .CEL_MEAS_I_CELL => ⟨27, 16, .ro, 0⟩
  | .CEL_MEAS_I_LIM => ⟨11, 0, .ro, 3000⟩
  | .CEL_CTRL_READMIT => ⟨1, 1, .wo, 0⟩
  | .CEL_CTRL_ISOLATE => ⟨0, 0, .rw, 0⟩
  | .DOM_DS_VALID => ⟨31, 31, .ro, 1⟩
  | .DOM_DS_RECHECK => ⟨30, 30, .wo, 0⟩
  | .DOM_DS_CAUSE => ⟨29, 28, .ro, 0⟩
  | .DOM_DS_DROOP => ⟨23, 16, .ro, 0⟩
  | .DOM_DS_HEADROOM => ⟨11, 0, .ro, 0⟩
  | .DOM_STATUS_STATE => ⟨31, 29, .ro, 0⟩
  | .DOM_STATUS_WAKE_WAIT => ⟨28, 28, .ro, 0⟩
  | .DOM_STATUS_CEIL => ⟨27, 24, .ro, 15⟩
  | .DOM_STATUS_STEP => ⟨23, 20, .ro, 0⟩
  | .DOM_STATUS_CELLS_OK => ⟨19, 16, .ro, 0⟩
  | .DOM_STATUS_CELLS_ALL => ⟨15, 12, .ro, 0⟩
  | .DOM_STATUS_DS_VALID => ⟨11, 8, .ro, 0⟩
  | .DOM_STATUS_READY => ⟨2, 2, .ro, 0⟩
  | .DOM_STATUS_GATE_CLOSED => ⟨1, 1, .ro, 0⟩
  | .DOM_STATUS_DROOP_FLOOR => ⟨0, 0, .ro, 0⟩
  | .DOM_CTRL_POWER => ⟨31, 31, .rwe, 0⟩
  | .DOM_CTRL_QUIESCE_TMO => ⟨23, 16, .rw, 20⟩
  | .DOM_CTRL_WAKE_STEP => ⟨10, 0, .rw, 0⟩
  | .DOM_SETPT_VEFF => ⟨25, 16, .ro, 0⟩
  | .DOM_SETPT_VSET => ⟨9, 0, .rwe, 0⟩
  | .DOM_MEAS_I_DOM => ⟨31, 16, .ro, 0⟩
  | .DOM_MEAS_HR_MIN => ⟨15, 8, .ro, 255⟩
  | .DOM_MEAS_OFFSET => ⟨7, 0, .ro, 0⟩
  | .DOM_EVENT_FENCE => ⟨6, 6, .rw1c, 0⟩
  | .DOM_EVENT_QTMO => ⟨5, 5, .rw1c, 0⟩
  | .DOM_EVENT_DERATE => ⟨4, 4, .rw1c, 0⟩
  | .DOM_EVENT_CELL_FAIL => ⟨3, 3, .rw1c, 0⟩
  | .DOM_EVENT_DS_INVALID => ⟨2, 2, .rw1c, 0⟩
  | .DOM_EVENT_DROOP => ⟨1, 1, .rw1c, 0⟩
  | .DOM_EVENT_WAKE_LATE => ⟨0, 0, .rw1c, 0⟩
  | .DOM_BUD_CTRL_MODE => ⟨31, 31, .rwe, 0⟩
  | .DOM_BUD_CTRL_CTX_ACTIVE => ⟨26, 24, .rwe, 0⟩
  | .DOM_BUD_CTRL_FIXED_STEP => ⟨19, 16, .rwe, 15⟩
  | .DOM_BUD_CTRL_CEIL => ⟨11, 8, .ro, 15⟩
  | .DOM_BUD_CAP_P_CAP => ⟨26, 16, .rwe, 1100⟩
  | .DOM_BUD_CAP_STAGGER => ⟨14, 10, .rwe, 5⟩
  | .DOM_BUD_CAP_WINDOW => ⟨8, 0, .rwe, 100⟩
  | .DOM_BUD_PULSE_PEAK_LIM => ⟨31, 24, .rwl, 200⟩
  | .DOM_BUD_PULSE_REST_MS => ⟨15, 8, .rwl, 40⟩
  | .DOM_BUD_PULSE_PULSE_MS => ⟨7, 0, .rwl, 10⟩
  | .DOM_BUD_AVG_AVG => ⟨31, 0, .ro, 0⟩
  | .DOM_BUD_MS_P_MS => ⟨31, 16, .ro, 0⟩
  | .DOM_BUD_MS_P_OTHER => ⟨15, 0, .ro, 0⟩
  | .DOM_BUD_GOV_PULSE => ⟨31, 31, .ro, 0⟩
  | .DOM_BUD_GOV_GOVERNED => ⟨30, 30, .ro, 0⟩
  | .DOM_BUD_GOV_PULSE_AGE => ⟨29, 16, .ro, 0⟩
  | .DOM_BUD_GOV_F_G => ⟨15, 0, .ro, 32768⟩
  | .DOM_BUD_EVENT_ORD_BAD => ⟨3, 3, .rw1c, 0⟩
  | .DOM_BUD_EVENT_FIXED_LOST => ⟨2, 2, .rw1c, 0⟩
  | .DOM_BUD_EVENT_PEAK_EV => ⟨1, 1, .rw1c, 0⟩
  | .DOM_BUD_EVENT_GOVERNED_EV => ⟨0, 0, .rw1c, 0⟩
  | .DOM_BUD_COUNT_GOV_COUNT => ⟨31, 24, .ro, 0⟩
  | .DOM_BUD_COUNT_FIXED_LOST_COUNT => ⟨23, 16, .ro, 0⟩
  | .DOM_BUD_CTX_OP_ORD0 => ⟨31, 30, .rw, 0⟩
  | .DOM_BUD_CTX_OP_ORD1 => ⟨29, 28, .rw, 0⟩
  | .DOM_BUD_CTX_OP_ORD2 => ⟨27, 26, .rw, 0⟩
  | .DOM_BUD_CTX_OP_BOOST_EN => ⟨24, 24, .rw, 0⟩
  | .DOM_BUD_CTX_OP_PREF_STEP => ⟨19, 16, .rw, 0⟩
  | .DOM_BUD_CTX_OP_LINK_SHARE => ⟨15, 0, .rw, 0⟩
  | .DOM_BUD_CTX_SLOPE_ACT_UP => ⟨15, 8, .rw, 0⟩
  | .DOM_BUD_CTX_SLOPE_ACT_DN => ⟨7, 0, .rw, 0⟩
  | .DOM_CLS_CFG_OV_LIMIT => ⟨25, 16, .ro, 0⟩
  | .DOM_CLS_CFG_FENCE_AT => ⟨3, 0, .rwl, 0⟩
  | .DOM_CLS_DROOP_DROOP_TRIP => ⟨31, 24, .rwl, 60⟩
  | .DOM_CLS_DROOP_DROOP_BOOST => ⟨23, 16, .rwl, 12⟩
  | .DOM_CLS_LADDER_ILIM_ODD => ⟨31, 16, .rwe, 0⟩
  | .DOM_CLS_LADDER_ILIM_EVEN => ⟨15, 0, .rwe, 0⟩
  | .DOM_TILE_PROF_NOM_SCALE => ⟨31, 24, .rwe, 0⟩
  | .DOM_TILE_PROF_NOM_DELAY => ⟨23, 16, .rwe, 0⟩
  | .DOM_TILE_PROF_NOM_RISE => ⟨9, 0, .rwe, 0⟩
  | .DOM_TILE_PROF_SPR_SCALE => ⟨31, 24, .rwe, 0⟩
  | .DOM_TILE_PROF_SPR_DELAY => ⟨23, 16, .rwe, 0⟩
  | .DOM_TILE_PROF_SPR_RISE => ⟨9, 0, .rwe, 0⟩
  | .DOM_TILE_MAP_EPOCH => ⟨31, 28, .ro, 0⟩
  | .DOM_TILE_MAP_MAP => ⟨27, 27, .ro, 0⟩
  | .DOM_TILE_MAP_EPOCH_BAD => ⟨26, 26, .ro, 0⟩
  | .DOM_TILE_MAP_MISMATCH_COUNT => ⟨15, 8, .ro, 0⟩
  | .DOM_TILE_MAP_LAST_RATIO => ⟨7, 0, .ro, 0⟩
  | .DOM_START_SLOPE_BOOST_SLOPE => ⟨25, 16, .rwe, 200⟩
  | .DOM_START_SLOPE_BASE_SLOPE => ⟨9, 0, .rwe, 60⟩
  | .DOM_START_BUCKET_CAP => ⟨27, 16, .rwe, 800⟩
  | .DOM_START_BUCKET_LEVEL => ⟨11, 0, .ro, 800⟩
  | .DOM_START_PRE_PRE_H => ⟨31, 24, .rwe, 80⟩
  | .DOM_START_PRE_PREBIAS => ⟨23, 16, .rwe, 8⟩
  | .DOM_START_PRE_PREBIAS_LEAD => ⟨15, 8, .rwe, 10⟩
  | .DOM_START_PRE_HOLD => ⟨7, 0, .rwe, 20⟩
  | .DOM_START_WAVE_WAVE_TMO => ⟨31, 24, .rwe, 50⟩
  | .DOM_START_WAVE_AGE_PROMOTE => ⟨23, 16, .rwe, 20⟩
  | .DOM_START_WAVE_MISMATCH_TOL => ⟨15, 8, .rwe, 25⟩
  | .DOM_START_ARR_ARR => ⟨31, 16, .rwl, 128⟩
  | .DOM_START_ARR_TILE_FS => ⟨15, 0, .rwl, 6400⟩
  | .DOM_FMT_STEP_STEP_ODD => ⟨31, 16, .rwe, 0⟩
  | .DOM_FMT_STEP_STEP_EVEN => ⟨15, 0, .rwe, 0⟩
  | .DOM_START_STATUS_BOOST => ⟨31, 31, .ro, 0⟩
  | .DOM_START_STATUS_ARMED => ⟨30, 30, .ro, 0⟩
  | .DOM_START_STATUS_PRE_ACTIVE => ⟨29, 29, .ro, 0⟩
  | .DOM_START_STATUS_WAVES => ⟨28, 26, .ro, 0⟩
  | .DOM_START_STATUS_SLOPE_EFF => ⟨25, 16, .ro, 60⟩
  | .DOM_START_STATUS_WAITING => ⟨10, 0, .ro, 0⟩
  | .DOM_START_GRANTS_GRANTS => ⟨31, 0, .ro, 0⟩
  | .DOM_START_COUNT_LATE_TOKENS => ⟨31, 24, .ro, 0⟩
  | .DOM_START_COUNT_DROPPED_ANN => ⟨23, 16, .ro, 0⟩
  | .DOM_START_COUNT_WAVE_TMOS => ⟨15, 8, .ro, 0⟩
  | .DOM_START_COUNT_BAD_REQ => ⟨7, 0, .ro, 0⟩
  | .DOM_START_EVENT_MSG_BAD => ⟨6, 6, .rw1c, 0⟩
  | .DOM_START_EVENT_REQ_BAD => ⟨5, 5, .rw1c, 0⟩
  | .DOM_START_EVENT_ANN_DROPPED => ⟨4, 4, .rw1c, 0⟩
  | .DOM_START_EVENT_WAVE_TMO => ⟨3, 3, .rw1c, 0⟩
  | .DOM_START_EVENT_TOKEN_LATE => ⟨2, 2, .rw1c, 0⟩
  | .DOM_START_EVENT_EPOCH_UNKNOWN => ⟨1, 1, .rw1c, 0⟩
  | .DOM_START_EVENT_MISMATCH => ⟨0, 0, .rw1c, 0⟩
  | .DOM_WAVE_ID_BARRIER_ID => ⟨31, 16, .ro, 0⟩
  | .DOM_WAVE_ID_ENGINES => ⟨12, 0, .ro, 0⟩
  | .DOM_WAVE_PROG_STATE => ⟨31, 30, .ro, 0⟩
  | .DOM_WAVE_PROG_WAVE_ARMED => ⟨29, 29, .ro, 0⟩
  | .DOM_WAVE_PROG_GRANTED => ⟨12, 0, .ro, 0⟩
  | .DOM_STACK_CTRL_STACK_TRIP => ⟨31, 24, .rwl, 30⟩
  | .CE_CTRL_LOAD_LIMIT => ⟨31, 24, .rwl, 90⟩
  | .CE_CTRL_FAST_LIMIT => ⟨23, 16, .rwl, 50⟩
  | .CE_CTRL_MISS_ESC => ⟨15, 8, .rwl, 16⟩
  | .CE_LANES_IN_SERVICE => ⟨20, 16, .ro, 16⟩
  | .CE_LANES_LANE_OK => ⟨15, 0, .ro, 65535⟩
  | .CE_LOAD_LOAD_MOPS => ⟨31, 16, .ro, 0⟩
  | .CE_LOAD_FAST_OPS => ⟨15, 0, .ro, 0⟩
  | .CE_MISS_SUM_MISSED => ⟨31, 0, .ro, 0⟩
  | .CE_CLAMP_SUM_CLAMPED => ⟨31, 0, .ro, 0⟩
  | .CE_ELEM_SEL_SLOT => ⟨24, 16, .rw, 0⟩
  | .CE_ELEM_SEL_ELEM => ⟨7, 0, .rw, 0⟩
  | .CE_ELEM_REF_REF => ⟨15, 0, .rwe, 0⟩
  | .CE_ELEM_OUT_ACT => ⟨31, 16, .ro, 0⟩
  | .CE_ELEM_OUT_Y => ⟨15, 0, .ro, 0⟩
  | .CE_ELEM_INT_LO_I_LO => ⟨31, 0, .ro, 0⟩
  | .CE_ELEM_INT_HI_I_SIGN => ⟨31, 8, .ro, 0⟩
  | .CE_ELEM_INT_HI_I_HI => ⟨7, 0, .ro, 0⟩
  | .CE_ELEM_PROF_P => ⟨31, 16, .ro, 0⟩
  | .CE_ELEM_PROF_V => ⟨15, 0, .ro, 0⟩
  | .CE_ARB_SEL_KIND => ⟨18, 16, .rw, 0⟩
  | .CE_ARB_SEL_INDEX => ⟨12, 0, .rw, 0⟩
  | .CE_ARB_VAL_STAGE1 => ⟨31, 16, .ro, 0⟩
  | .CE_ARB_VAL_APPLIED => ⟨15, 0, .ro, 0⟩
  | .CE_ARB_SRC_CLAMPED => ⟨31, 31, .ro, 0⟩
  | .CE_ARB_SRC_CLAMP_SRC => ⟨30, 27, .ro, 0⟩
  | .CE_ARB_SRC_WIN_SLOT => ⟨24, 16, .ro, 0⟩
  | .CE_ARB_SRC_WIN_ELEM => ⟨7, 0, .ro, 0⟩
  | .CE_SD_CTRL_CLASS => ⟨31, 30, .rwe, 0⟩
  | .CE_SD_CTRL_OPEN => ⟨29, 29, .rw, 0⟩
  | .CE_SD_CTRL_SIGN => ⟨28, 28, .rwe, 0⟩
  | .CE_SD_CTRL_PROF_EN => ⟨27, 27, .rwe, 0⟩
  | .CE_SD_CTRL_COMP_RIP => ⟨26, 26, .rwe, 0⟩
  | .CE_SD_CTRL_COMP_OFF => ⟨25, 25, .rwe, 0⟩
  | .CE_SD_CTRL_REF_PER => ⟨24, 24, .rwe, 0⟩
  | .CE_SD_CTRL_ELEMS_M1 => ⟨23, 16, .rwe, 0⟩
  | .CE_SD_CTRL_ACT_KIND => ⟨15, 13, .rwe, 0⟩
  | .CE_SD_CTRL_ACT_BASE => ⟨12, 0, .rwe, 0⟩
  | .CE_SD_MAP_GROUP_M1 => ⟨31, 29, .rwe, 0⟩
  | .CE_SD_MAP_FAN_M1 => ⟨28, 21, .rwe, 0⟩
  | .CE_SD_MAP_OUT_SCALE => ⟨15, 0, .rwe, 0⟩
  | .CE_SD_OUT_OUT_BASE => ⟨31, 16, .rwe, 0⟩
  | .CE_SD_OUT_TRACK => ⟨15, 0, .rwe, 0⟩
  | .CE_SD_IN_IN_KIND => ⟨31, 26, .rwe, 0⟩
  | .CE_SD_IN_IN_RED => ⟨25, 24, .rwe, 0⟩
  | .CE_SD_IN_IN_PER_M1 => ⟨23, 18, .rwe, 0⟩
  | .CE_SD_IN_IN_BASE => ⟨15, 0, .rwe, 0⟩
  | .CE_SD_AUX_AUX1_KIND => ⟨31, 26, .rwe, 0⟩
  | .CE_SD_AUX_AUX1_MODE => ⟨25, 24, .rwe, 0⟩
  | .CE_SD_AUX_AUX2_KIND => ⟨23, 18, .rwe, 0⟩
  | .CE_SD_AUX_AUX2_MODE => ⟨17, 16, .rwe, 0⟩
  | .CE_SD_KAUX_K1 => ⟨31, 16, .rwe, 0⟩
  | .CE_SD_KAUX_K2 => ⟨15, 0, .rwe, 0⟩
  | .CE_SD_LAW_KP => ⟨31, 16, .rwe, 0⟩
  | .CE_SD_LAW_GSHIFT => ⟨15, 12, .rwe, 0⟩
  | .CE_SD_LAW_PSHIFT => ⟨11, 8, .rwe, 0⟩
  | .CE_SD_LAW_GTAB => ⟨5, 0, .rwe, 0⟩
  | .CE_SD_REF_REF => ⟨31, 16, .rwe, 0⟩
  | .CE_SD_REF_CTAB_OFF => ⟨9, 5, .rwe, 0⟩
  | .CE_SD_REF_CTAB_RIP => ⟨4, 0, .rwe, 0⟩
  | .CE_SD_PROF_VMAX => ⟨31, 16, .rwe, 0⟩
  | .CE_SD_PROF_AMAX => ⟨15, 0, .rwe, 0⟩
  | .CE_SD_JERK_JMAX => ⟨31, 16, .rwe, 0⟩
  | .CE_SLOT_STATUS_MISSED => ⟨31, 31, .rw1c, 0⟩
  | .CE_SLOT_STATUS_CLAMPED => ⟨30, 30, .ro, 0⟩
  | .CE_SLOT_STATUS_SAT => ⟨29, 29, .rw1c, 0⟩
  | .CE_SLOT_STATUS_OPEN_ST => ⟨28, 28, .ro, 0⟩
  | .CE_SLOT_STATUS_IN_INVALID => ⟨27, 27, .ro, 0⟩
  | .CE_SLOT_STATUS_TRACKING => ⟨26, 26, .ro, 0⟩
  | .CE_SLOT_STATUS_MISS_COUNT => ⟨23, 16, .ro, 0⟩
  | .CE_SLOT_STATUS_OPS => ⟨15, 0, .ro, 0⟩
  | .CE_SLOT_EVAL_TICK_LO => ⟨31, 0, .ro, 0⟩
  | .CE_GTAB_G_ODD => ⟨31, 16, .rwe, 0⟩
  | .CE_GTAB_G_EVEN => ⟨15, 0, .rwe, 0⟩
  | .CE_CTAB_C_ODD => ⟨31, 16, .rwe, 0⟩
  | .CE_CTAB_C_EVEN => ⟨15, 0, .rwe, 0⟩
  | .DOM_EST_CFG_DIS_PCT => ⟨31, 24, .rwe, 25⟩
  | .DOM_EST_CFG_AGREE_PCT => ⟨23, 16, .rwe, 20⟩
  | .DOM_EST_CFG_DIS_MS => ⟨15, 8, .rwe, 10⟩
  | .DOM_EST_CFG_AGREE_MS => ⟨7, 0, .rwe, 10⟩
  | .DOM_EST_SUB_SUB_PCT => ⟨31, 24, .rwe, 15⟩
  | .DOM_EST_SUB_DEADBAND => ⟨23, 16, .rwe, 8⟩
  | .DOM_EST_SUB_DIS_FLOOR => ⟨11, 0, .rwe, 500⟩
  | .DOM_EST_ADAPT_ADAPT_EN => ⟨31, 31, .rwe, 1⟩
  | .DOM_EST_ADAPT_ACT_MIN => ⟨11, 0, .rwe, 64⟩
  | .DOM_EST_STACK_EST_STACK => ⟨31, 16, .ro, 0⟩
  | .DOM_EST_STACK_SUBST_DOMS => ⟨8, 0, .ro, 0⟩
  | .DOM_EST_EVENT_BOTH_INVALID => ⟨3, 3, .rw1c, 0⟩
  | .DOM_EST_EVENT_STALE => ⟨2, 2, .rw1c, 0⟩
  | .DOM_EST_EVENT_SUBST => ⟨1, 1, .rw1c, 0⟩
  | .DOM_EST_EVENT_DISAGREE => ⟨0, 0, .rw1c, 0⟩
  | .DOM_EST_DIS_SUM_DIS => ⟨31, 0, .ro, 0⟩
  | .DOM_EST_W_W3 => ⟨31, 24, .rwe, 0⟩
  | .DOM_EST_W_W2 => ⟨23, 16, .rwe, 0⟩
  | .DOM_EST_W_W1 => ⟨15, 8, .rwe, 0⟩
  | .DOM_EST_W_W0 => ⟨7, 0, .rwe, 0⟩
  | .DOM_EST_SCALE_SCALE => ⟨31, 16, .rwe, 0⟩
  | .DOM_EST_SCALE_LK_TRIM => ⟨15, 0, .rwe, 0⟩
  | .DOM_EST_CTRL_FREEZE => ⟨31, 31, .rw, 0⟩
  | .DOM_EST_CUR_EST_I => ⟨31, 16, .ro, 0⟩
  | .DOM_EST_CUR_LEAK_I => ⟨15, 0, .ro, 0⟩
  | .DOM_EST_MEAN_MEAN_EST => ⟨31, 16, .ro, 0⟩
  | .DOM_EST_MEAN_MEAN_MEAS => ⟨15, 0, .ro, 0⟩
  | .DOM_EST_PWR_P_EST => ⟨31, 16, .ro, 0⟩
  | .DOM_EST_STATUS_STATE => ⟨31, 30, .ro, 0⟩
  | .DOM_EST_STATUS_MEAS_INVALID => ⟨29, 29, .ro, 0⟩
  | .DOM_EST_STATUS_EST_INVALID => ⟨28, 28, .ro, 0⟩
  | .DOM_EST_STATUS_STALE_ST => ⟨27, 27, .ro, 0⟩
  | .DOM_EST_STATUS_HOLD_CAUSE => ⟨26, 24, .ro, 0⟩
  | .DOM_EST_STATUS_DIS_COUNT => ⟨23, 16, .ro, 0⟩
  | .DOM_EST_STATUS_RUN => ⟨15, 8, .ro, 0⟩
  | .DOM_EST_LEAK_L_ODD => ⟨31, 16, .rwe, 0⟩
  | .DOM_EST_LEAK_L_EVEN => ⟨15, 0, .rwe, 0⟩
  | .DBG_RUN_STEP => ⟨2, 2, .wo, 0⟩
  | .DBG_RUN_RESUME => ⟨1, 1, .wo, 0⟩
  | .DBG_RUN_HALT => ⟨0, 0, .wo, 0⟩
  | .DBG_PC_PC => ⟨31, 0, .ro, 0⟩
  | .DBG_COMP_COMP_ID => ⟨3, 0, .ro, 0⟩
  | .DBG_CYC_INSTR => ⟨31, 0, .ro, 0⟩

/-- Width of a field in bits. -/
def Fld.width (f : Fld) : Nat := f.info.hi - f.info.lo + 1

/-- A register row: item i of the array stands at `base + s1 * (i / n2) + s2 * (i % n2)`. -/
structure RegRow where
  base : Nat
  s1 : Nat
  n2 : Nat
  s2 : Nat
  count : Nat
  flds : List Fld
deriving DecidableEq, Repr

/-- The registers of 00_scope.md. -/
def regRowsScope : List RegRow := [
  ⟨0x00000, 0, 1, 0, 1, [.GLB_ID_VENDOR, .GLB_ID_BLOCK, .GLB_ID_REV_MAJOR, .GLB_ID_REV_MINOR]⟩]

/-- The registers of 01_architecture.md. -/
def regRowsArchitecture : List RegRow := [
  ⟨0x00010, 0, 1, 0, 1, [.GLB_TIME_LO_TICKS_LO]⟩,
  ⟨0x00014, 0, 1, 0, 1, [.GLB_TIME_HI_TICKS_HI]⟩,
  ⟨0x00018, 0, 1, 0, 1, [.GLB_TB_STATUS_FALLBACK_COUNT, .GLB_TB_STATUS_CAL_OK, .GLB_TB_STATUS_HERD_SHARED, .GLB_TB_STATUS_FALLBACK]⟩,
  ⟨0x0001C, 0, 1, 0, 1, [.GLB_FAB_STATUS_SEG_FAIL_COUNT, .GLB_FAB_STATUS_TREE_B_OK, .GLB_FAB_STATUS_TREE_A_OK]⟩]

/-- The registers of 17_bringup_reset.md. -/
def regRowsBringupReset : List RegRow := [
  ⟨0x00020, 0, 1, 0, 1, [.GLB_CFG0_TILES, .GLB_CFG0_ENGINES, .GLB_CFG0_CPU]⟩,
  ⟨0x00024, 0, 1, 0, 1, [.GLB_CFG1_MEMIF, .GLB_CFG1_LINK, .GLB_CFG1_FABRIC, .GLB_CFG1_DOMAINS]⟩,
  ⟨0x00028, 0, 1, 0, 1, [.GLB_CFG2_CELLS, .GLB_CFG2_TOWERS, .GLB_CFG2_DIES]⟩,
  ⟨0x0002C, 0, 1, 0, 1, [.GLB_CFG3_PH_VSTK, .GLB_CFG3_PH_VDDM, .GLB_CFG3_PH_VPPM, .GLB_CFG3_PH_VIO, .GLB_CFG3_PH_TOTAL]⟩,
  ⟨0x00030, 0, 1, 0, 1, [.GLB_CFG4_CP, .GLB_CFG4_SAR, .GLB_CFG4_SLOTS, .GLB_CFG4_TSENS]⟩,
  ⟨0x00034, 0, 1, 0, 1, [.GLB_CFG5_VALID, .GLB_CFG5_DSENS]⟩,
  ⟨0x00048, 0, 1, 0, 1, [.GLB_BOOT_STATUS_STATE, .GLB_BOOT_STATUS_FW, .GLB_BOOT_STATUS_CFG_COMMITTED, .GLB_BOOT_STATUS_PWR_OK, .GLB_BOOT_STATUS_SRC, .GLB_BOOT_STATUS_ERR]⟩,
  ⟨0x0004C, 0, 1, 0, 1, [.GLB_BOOT_CTRL_RELEASE, .GLB_BOOT_CTRL_USE_ROM, .GLB_BOOT_CTRL_CFG_COMMIT, .GLB_BOOT_CTRL_PWR_OK_TMO]⟩,
  ⟨0x00050, 0, 1, 0, 1, [.GLB_RST_CTRL_CP_RST, .GLB_RST_CTRL_BLOCK_RST]⟩,
  ⟨0x00054, 0, 1, 0, 1, [.GLB_RST_STATUS_STACK_HELD, .GLB_RST_STATUS_CP_ACTIVE, .GLB_RST_STATUS_LAST, .GLB_RST_STATUS_CP_COUNT, .GLB_RST_STATUS_BLK_COUNT]⟩,
  ⟨0x00058, 0, 1, 0, 1, [.GLB_IMG_INFO_VERSION, .GLB_IMG_INFO_LEN_KIB]⟩,
  ⟨0x01000, 0, 1, 0, 1, [.GLB_STRAP_TEST_EN, .GLB_STRAP_HERD_ROLE, .GLB_STRAP_PHASES_POP, .GLB_STRAP_VSTK_DEF, .GLB_STRAP_BOOT_MODE]⟩,
  ⟨0x01004, 0, 1, 0, 1, [.GLB_FUSE_SEL_WORD]⟩,
  ⟨0x01008, 0, 1, 0, 1, [.GLB_FUSE_DATA_DATA]⟩,
  ⟨0x0100C, 0, 1, 0, 1, [.GLB_FUSE_STAT_LOADED, .GLB_FUSE_STAT_UNCORR, .GLB_FUSE_STAT_PROG_BUSY, .GLB_FUSE_STAT_PROG_FAIL, .GLB_FUSE_STAT_BAD_WORD, .GLB_FUSE_STAT_CORR_COUNT]⟩,
  ⟨0x01010, 0, 1, 0, 1, [.GLB_FUSE_PROG_GO, .GLB_FUSE_PROG_WORD]⟩,
  ⟨0x01014, 0, 1, 0, 1, [.GLB_FUSE_PDATA_PDATA]⟩]

/-- The registers of 02_power_path.md. -/
def regRowsPowerPath : List RegRow := [
  ⟨0x00040, 0, 1, 0, 1, [.GLB_VSTK_STATUS_BUS_OOR, .GLB_VSTK_STATUS_CLAMPED, .GLB_VSTK_STATUS_VSTK_CODE, .GLB_VSTK_STATUS_HEADROOM_MIN, .GLB_VSTK_STATUS_VSTK_LIVE]⟩,
  ⟨0x00044, 0, 1, 0, 1, [.GLB_DESIGN_CUR_EDC_EFF, .GLB_DESIGN_CUR_TDC_EFF]⟩]

/-- The registers of 16_firmware.md. -/
def regRowsFirmware : List RegRow := [
  ⟨0x00400, 16, 1, 0, 4, [.GLB_CP_STATUS_STATE, .GLB_CP_STATUS_CAUSE, .GLB_CP_STATUS_BANK, .GLB_CP_STATUS_CKPT_OK, .GLB_CP_STATUS_COMP_ID, .GLB_CP_STATUS_CRASH_COUNT, .GLB_CP_STATUS_RESTARTS]⟩,
  ⟨0x00404, 16, 1, 0, 4, [.GLB_CP_FAULT_ADDR]⟩,
  ⟨0x00408, 16, 1, 0, 4, [.GLB_CP_WDT_KICK, .GLB_CP_WDT_WDT_MS]⟩,
  ⟨0x00440, 4, 1, 0, 2, [.GLB_FW_IMG_STATE, .GLB_FW_IMG_DAMAGED, .GLB_FW_IMG_ERR, .GLB_FW_IMG_RUN_MASK, .GLB_FW_IMG_BYTES]⟩,
  ⟨0x00448, 0, 1, 0, 1, [.GLB_FW_CTRL_IL_QUIET, .GLB_FW_CTRL_CRASH_LIMIT, .GLB_FW_CTRL_MIN_SVN]⟩,
  ⟨0x0044C, 0, 1, 0, 1, [.GLB_FW_IL_SET, .GLB_FW_IL_GOOSE, .GLB_FW_IL_GROUP, .GLB_FW_IL_PULSE, .GLB_FW_IL_DESCEND, .GLB_FW_IL_LIMIT, .GLB_FW_IL_EMERG]⟩,
  ⟨0x00450, 0, 1, 0, 1, [.GLB_FW_EVENT_DAMAGED, .GLB_FW_EVENT_STOPPED, .GLB_FW_EVENT_CRASH, .GLB_FW_EVENT_DBG_REF, .GLB_FW_EVENT_ACT_TMO, .GLB_FW_EVENT_IMG_BAD, .GLB_FW_EVENT_ECC_CORR]⟩,
  ⟨0x00454, 0, 1, 0, 1, [.GLB_FW_DBG_SEL_BANK]⟩,
  ⟨0x00458, 0, 1, 0, 1, [.GLB_FW_LOAD_ACTIVE, .GLB_FW_LOAD_TARGET, .GLB_FW_LOAD_PARTNER]⟩,
  ⟨0xC0000, 0, 1, 0, 1, [.DBG_RUN_STEP, .DBG_RUN_RESUME, .DBG_RUN_HALT]⟩,
  ⟨0xC0004, 0, 1, 0, 1, [.DBG_PC_PC]⟩,
  ⟨0xC0008, 0, 1, 0, 1, [.DBG_COMP_COMP_ID]⟩,
  ⟨0xC000C, 0, 1, 0, 1, [.DBG_CYC_INSTR]⟩]

/-- The registers of 20_ports_and_map.md. -/
def regRowsPortsAndMap : List RegRow := [
  ⟨0x00500, 16, 1, 0, 7, [.GLB_LT_STAT_STATE, .GLB_LT_STAT_MODE, .GLB_LT_STAT_LOCKED, .GLB_LT_STAT_FORCED, .GLB_LT_STAT_LEFT_MS]⟩,
  ⟨0x00504, 16, 1, 0, 7, [.GLB_LT_BITS_BITS]⟩,
  ⟨0x00508, 16, 1, 0, 7, [.GLB_LT_ERRS_ERRS]⟩]

/-- The registers of 15_commands.md. -/
def regRowsCommands : List RegRow := [
  ⟨0x00800, 0, 1, 0, 1, [.CMD_CTRL_EPOCH_SETTLE]⟩,
  ⟨0x00804, 0, 1, 0, 1, [.CMD_STATUS_CP0_READY, .CMD_STATUS_QUEUED, .CMD_STATUS_REGISTERED, .CMD_STATUS_STORE_USED]⟩,
  ⟨0x00808, 0, 1, 0, 1, [.CMD_RUN_STATE, .CMD_RUN_RETUNE, .CMD_RUN_EPOCH, .CMD_RUN_EPOCHS_M1, .CMD_RUN_RUN_ID]⟩,
  ⟨0x0080C, 0, 1, 0, 1, [.CMD_EVENT_RUN_HALT, .CMD_EVENT_LEASE_EXP, .CMD_EVENT_STORE_FULL, .CMD_EVENT_LEASE_LATE, .CMD_EVENT_FOREIGN, .CMD_EVENT_SLOT_BUSY_WR]⟩,
  ⟨0x00810, 0, 1, 0, 1, [.CMD_COMMIT_GO, .CMD_COMMIT_RETUNE, .CMD_COMMIT_DRY_RUN, .CMD_COMMIT_RESUME]⟩,
  ⟨0x00814, 0, 1, 0, 1, [.CMD_COMMIT_ST_STATUS, .CMD_COMMIT_ST_INITIATOR, .CMD_COMMIT_ST_RUN_ID]⟩,
  ⟨0x00818, 0, 1, 0, 1, [.CMD_NOTICE_SEQ_NSEQ]⟩,
  ⟨0x00880, 4, 1, 0, 32, [.CMD_PRIV_CLASS]⟩,
  ⟨0x00900, 16, 1, 0, 64, [.CMD_PART_ID_STATE, .CMD_PART_ID_FLAGS, .CMD_PART_ID_CLASS, .CMD_PART_ID_INITIATOR, .CMD_PART_ID_REG_EPOCH_LO]⟩,
  ⟨0x00904, 16, 1, 0, 64, [.CMD_PART_SLOTS_BUSY, .CMD_PART_SLOTS_NEW, .CMD_PART_SLOTS_NOTICE_NEW]⟩,
  ⟨0x00908, 16, 1, 0, 64, [.CMD_PART_LEASE_LEASE_LEFT, .CMD_PART_LEASE_LEASE_S]⟩,
  ⟨0x00D00, 8, 1, 0, 32, [.CMD_NOTICE0_TYPE, .CMD_NOTICE0_ARG]⟩,
  ⟨0x00D04, 8, 1, 0, 32, [.CMD_NOTICE1_TIME_LO]⟩]

/-- The registers of 18_faults.md. -/
def regRowsFaults : List RegRow := [
  ⟨0x02000, 0, 1, 0, 1, [.FLT_CTRL_QUIET, .FLT_CTRL_WINDOW]⟩,
  ⟨0x02004, 0, 1, 0, 1, [.FLT_CTRL2_MBX_TMO, .FLT_CTRL2_REC_THR]⟩,
  ⟨0x02008, 0, 1, 0, 1, [.FLT_STATUS_FATAL, .FLT_STATUS_PAIR_ASSERT, .FLT_STATUS_PAIR_T, .FLT_STATUS_PAIR_C, .FLT_STATUS_GOOSE_FORCE, .FLT_STATUS_FATAL_SUB, .FLT_STATUS_FATAL_CODE, .FLT_STATUS_ESC_N, .FLT_STATUS_PEND_N]⟩,
  ⟨0x0200C, 0, 1, 0, 1, [.FLT_HANDLE_GO, .FLT_HANDLE_SUB, .FLT_HANDLE_CODE]⟩,
  ⟨0x02010, 0, 1, 0, 1, [.FLT_SEQ_NEXT_SEQ]⟩,
  ⟨0x02014, 0, 1, 0, 1, [.FLT_ACK_SEQ_ACK_SEQ]⟩,
  ⟨0x02018, 0, 1, 0, 1, [.FLT_LOST_LOST]⟩,
  ⟨0x0201C, 0, 1, 0, 1, [.FLT_FEC_INFO_VALID, .FLT_FEC_INFO_MASTER, .FLT_FEC_INFO_TYPE, .FLT_FEC_INFO_CODE, .FLT_FEC_INFO_SUB]⟩,
  ⟨0x02020, 0, 1, 0, 1, [.FLT_FEC_ADDR_LO_ADDR_LO]⟩,
  ⟨0x02024, 0, 1, 0, 1, [.FLT_FEC_ADDR_HI_ADDR_HI]⟩,
  ⟨0x02028, 0, 1, 0, 1, [.FLT_FEC_TIME_LO_TIME_LO]⟩,
  ⟨0x0202C, 0, 1, 0, 1, [.FLT_FEC_TIME_HI_TIME_HI]⟩,
  ⟨0x02030, 0, 1, 0, 1, [.FLT_FEC_MORE_MORE]⟩,
  ⟨0x02040, 0, 1, 0, 1, [.FLT_REC_SEL_SEQ]⟩,
  ⟨0x02044, 0, 1, 0, 1, [.FLT_REC0_MASTER, .FLT_REC0_KIND, .FLT_REC0_CODE, .FLT_REC0_SUB]⟩,
  ⟨0x02048, 0, 1, 0, 1, [.FLT_REC1_COUNT, .FLT_REC1_INDEX]⟩,
  ⟨0x0204C, 0, 1, 0, 1, [.FLT_REC2_TIME_LO]⟩,
  ⟨0x02050, 0, 1, 0, 1, [.FLT_REC3_TIME_HI]⟩,
  ⟨0x02060, 0, 1, 0, 1, [.FLT_GOOSE_STATUS_ARMED, .FLT_GOOSE_STATUS_TRIPPED, .FLT_GOOSE_STATUS_SELFTEST_OK, .FLT_GOOSE_STATUS_CAUSE, .FLT_GOOSE_STATUS_INDEX]⟩,
  ⟨0x02064, 0, 1, 0, 1, [.FLT_GOOSE_LIM0_DIE_LIMIT, .FLT_GOOSE_LIM0_MEM_LIMIT, .FLT_GOOSE_LIM0_VSTK_OV]⟩,
  ⟨0x02068, 0, 1, 0, 1, [.FLT_GOOSE_LIM1_OC_VSTK, .FLT_GOOSE_LIM1_OC_VDDM]⟩,
  ⟨0x0206C, 0, 1, 0, 1, [.FLT_GOOSE_LIM2_OC_VPPM, .FLT_GOOSE_LIM2_OC_VIO]⟩,
  ⟨0x02070, 0, 1, 0, 1, [.FLT_GOOSE_LIM3_DOV_TILE, .FLT_GOOSE_LIM3_DOV_CPU, .FLT_GOOSE_LIM3_DOV_MEMIF, .FLT_GOOSE_LIM3_DOV_LINK]⟩,
  ⟨0x02074, 0, 1, 0, 1, [.FLT_GOOSE_LIM4_DOV_FABRIC]⟩,
  ⟨0x02400, 4, 1, 0, 288, [.FLT_SRC_STATE, .FLT_SRC_CLASS, .FLT_SRC_CNT_CLR, .FLT_SRC_REC_COUNT, .FLT_SRC_RAISES]⟩]

/-- The registers of 14_checkvalue.md. -/
def regRowsCheckvalue : List RegRow := [
  ⟨0x03000, 64, 1, 0, 4, [.CRC_CFG_IRQ_EN, .CRC_CFG_CMP_EN, .CRC_CFG_FINAL_INV, .CRC_CFG_REFOUT, .CRC_CFG_REFIN, .CRC_CFG_WIDTH_M1]⟩,
  ⟨0x03004, 64, 1, 0, 4, [.CRC_POLY_POLY]⟩,
  ⟨0x03008, 64, 1, 0, 4, [.CRC_INIT_INIT]⟩,
  ⟨0x0300C, 64, 1, 0, 4, [.CRC_EXPECT_EXPECT]⟩,
  ⟨0x03010, 64, 1, 0, 4, [.CRC_CMD_ABORT, .CRC_CMD_FINISH, .CRC_CMD_START]⟩,
  ⟨0x03014, 64, 1, 0, 4, [.CRC_DATA32_DATA]⟩,
  ⟨0x03018, 64, 1, 0, 4, [.CRC_DATA8_DATA]⟩,
  ⟨0x0301C, 64, 1, 0, 4, [.CRC_VALUE_VALUE]⟩,
  ⟨0x03020, 64, 1, 0, 4, [.CRC_RESULT_RESULT]⟩,
  ⟨0x03024, 64, 1, 0, 4, [.CRC_STATUS_STATE, .CRC_STATUS_MATCH, .CRC_STATUS_MISMATCH, .CRC_STATUS_DROPPED, .CRC_STATUS_DUTY, .CRC_STATUS_MISMATCH_COUNT]⟩,
  ⟨0x03100, 0, 1, 0, 1, [.CRC_LEASE_CLAIM, .CRC_LEASE_RELEASE, .CRC_LEASE_HELD, .CRC_LEASE_LEASE_TMO, .CRC_LEASE_HOLDER]⟩,
  ⟨0x03104, 0, 1, 0, 1, [.CRC_EVENT_LEASE_BROKEN, .CRC_EVENT_FAILED, .CRC_EVENT_MISMATCH]⟩]

/-- The registers of 12_measurement.md. -/
def regRowsMeasurement : List RegRow := [
  ⟨0x04000, 0, 1, 0, 1, [.ADC_CTRL_LP_FORCE, .ADC_CTRL_WAIT_TMO, .ADC_CTRL_SEQ_PERIOD]⟩,
  ⟨0x04004, 0, 1, 0, 1, [.ADC_STATUS_LP_ACTIVE, .ADC_STATUS_PAIR_SOLO, .ADC_STATUS_CV_OK]⟩,
  ⟨0x04008, 0, 1, 0, 1, [.ADC_EVENT_PAIR_LOST, .ADC_EVENT_CV_FAIL, .ADC_EVENT_CHK_DIS, .ADC_EVENT_OVR, .ADC_EVENT_NO_TRIG, .ADC_EVENT_OVERRUN]⟩,
  ⟨0x0400C, 0, 1, 0, 1, [.ADC_URG_REQ_GO, .ADC_URG_REQ_CHANNEL, .ADC_URG_REQ_GAIN, .ADC_URG_REQ_SMP]⟩,
  ⟨0x04010, 0, 1, 0, 1, [.ADC_URG_RES_BUSY, .ADC_URG_RES_DONE, .ADC_URG_RES_OVR, .ADC_URG_RES_REFUSED, .ADC_URG_RES_CONV, .ADC_URG_RES_RAW]⟩,
  ⟨0x04014, 0, 1, 0, 1, [.ADC_CAL_SEL_CHANNEL]⟩,
  ⟨0x04018, 0, 1, 0, 1, [.ADC_CAL_GAIN, .ADC_CAL_OFS]⟩,
  ⟨0x04040, 16, 1, 0, 8, [.ADC_PAIR_CFG_CHK_WIN, .ADC_PAIR_CFG_CHK_ABS, .ADC_PAIR_CFG_XR_WIN]⟩,
  ⟨0x04044, 16, 1, 0, 8, [.ADC_PAIR_STATUS_STATE, .ADC_PAIR_STATUS_CHK_DIS_ST, .ADC_PAIR_STATUS_CHK_EXP, .ADC_PAIR_STATUS_XR_FAILS, .ADC_PAIR_STATUS_DIS_COUNT]⟩,
  ⟨0x04048, 16, 1, 0, 8, [.ADC_PAIR_CHK_CHK_ODD, .ADC_PAIR_CHK_CHK_EVEN]⟩,
  ⟨0x04100, 32, 1, 0, 16, [.ADC_CV_CTRL_OFFLINE, .ADC_CV_CTRL_RECHECK, .ADC_CV_CTRL_SEQ_LEN_M1, .ADC_CV_CTRL_START_DLY, .ADC_CV_CTRL_PWM_DLY]⟩,
  ⟨0x04104, 32, 1, 0, 16, [.ADC_CV_STATUS_STATE, .ADC_CV_STATUS_FAIL_CAUSE, .ADC_CV_STATUS_PD, .ADC_CV_STATUS_URG, .ADC_CV_STATUS_POS, .ADC_CV_STATUS_OVERRUNS, .ADC_CV_STATUS_LOSS_COUNT]⟩,
  ⟨0x04108, 32, 1, 0, 16, [.ADC_CV_UT_UT_EN, .ADC_CV_UT_UT_GAIN, .ADC_CV_UT_UT_CH, .ADC_CV_UT_UT_PERIOD, .ADC_CV_UT_UT_SMP]⟩,
  ⟨0x04300, 64, 16, 4, 256, [.ADC_SEQ_CH, .ADC_SEQ_TRIG, .ADC_SEQ_DLY_MODE, .ADC_SEQ_SMP, .ADC_SEQ_GAIN, .ADC_SEQ_DIVL, .ADC_SEQ_AVGL, .ADC_SEQ_SHIFT, .ADC_SEQ_XR]⟩,
  ⟨0x04700, 8, 1, 0, 236, [.ADC_RES_RESULT, .ADC_RES_CAL]⟩,
  ⟨0x04704, 8, 1, 0, 236, [.ADC_RES_ST_VALID, .ADC_RES_ST_OVR, .ADC_RES_ST_BY_PARTNER, .ADC_RES_ST_XR_BAD, .ADC_RES_ST_NO_TRIG, .ADC_RES_ST_CAL_BUSY, .ADC_RES_ST_AGE]⟩]

/-- The registers of 10_thermal.md. -/
def regRowsThermal : List RegRow := [
  ⟨0x05000, 0, 1, 0, 1, [.THM_RATE_THR_CMP_ALARM, .THM_RATE_THR_CMP_EMERG, .THM_RATE_THR_MEM_ALARM, .THM_RATE_THR_MEM_EMERG]⟩,
  ⟨0x05004, 0, 1, 0, 1, [.THM_LIMIT_CMP_LIMIT, .THM_LIMIT_MEM_LIMIT, .THM_LIMIT_BROKEN_DELTA]⟩,
  ⟨0x05008, 0, 1, 0, 1, [.THM_CLAMP_CFG_RELEASE_MS, .THM_CLAMP_CFG_RISE_MS]⟩,
  ⟨0x0500C, 0, 1, 0, 1, [.THM_INLET_T_IN, .THM_INLET_INLET_SEL]⟩,
  ⟨0x05010, 0, 1, 0, 1, [.THM_AIR_F_AIR, .THM_AIR_THETA_TAU]⟩,
  ⟨0x05014, 0, 1, 0, 1, [.THM_FCST_CFG_KF]⟩,
  ⟨0x05018, 0, 1, 0, 1, [.THM_FUSE_FUSE_OK, .THM_FUSE_T_DIE_MAX, .THM_FUSE_T_DIE_MIN]⟩,
  ⟨0x0501C, 0, 1, 0, 1, [.THM_EVENT_SB_LOST, .THM_EVENT_WP_OFF, .THM_EVENT_LIMIT, .THM_EVENT_EMERG, .THM_EVENT_FUSE_REF, .THM_EVENT_AIR, .THM_EVENT_INLET_BAD, .THM_EVENT_ALARM, .THM_EVENT_BROKEN, .THM_EVENT_DISAGREE]⟩,
  ⟨0x05020, 0, 1, 0, 1, [.THM_COUNT_EMERG_COUNT, .THM_COUNT_WP_COUNT, .THM_COUNT_BROKEN_COUNT, .THM_COUNT_LIMIT_COUNT]⟩,
  ⟨0x05100, 4, 1, 0, 32, [.THM_TWR_WP, .THM_TWR_SB_OK, .THM_TWR_CL_STATE, .THM_TWR_CLAMP, .THM_TWR_HOT_LAYER, .THM_TWR_T_MAX]⟩,
  ⟨0x05200, 4, 1, 0, 128, [.THM_BRK_SUM_BRK]⟩,
  ⟨0x05400, 4, 1, 0, 324, [.THM_DOM_EMERG_ST, .THM_DOM_ALARM_ST, .THM_DOM_SUBST, .THM_DOM_CL_STATE, .THM_DOM_CLAMP, .THM_DOM_RATE, .THM_DOM_T_HOT]⟩,
  ⟨0x05A00, 4, 1, 0, 256, [.THM_DIE_EMERG_ST, .THM_DIE_ALARM_ST, .THM_DIE_SUBST, .THM_DIE_RATE, .THM_DIE_T_DRAM]⟩,
  ⟨0x05E00, 0, 1, 0, 1, [.THM_SNS_SEL_SENSOR]⟩,
  ⟨0x05E04, 0, 1, 0, 1, [.THM_SNS_STATE, .THM_SNS_DISAGREE, .THM_SNS_RECHECK, .THM_SNS_CAUSE, .THM_SNS_READING]⟩,
  ⟨0x05E10, 0, 1, 0, 1, [.THM_DOM_SEL_DOMAIN]⟩,
  ⟨0x05E14, 0, 1, 0, 1, [.THM_DOM_THETA_THETA_REF, .THM_DOM_THETA_THETA]⟩,
  ⟨0x05E18, 0, 1, 0, 1, [.THM_DOM_FCST_P_FC, .THM_DOM_FCST_T_FCST]⟩,
  ⟨0x05E40, 64, 16, 4, 80, [.THM_LADDER_FREQ, .THM_LADDER_ISSUE]⟩]

/-- The registers of 11_herd_lock.md. -/
def regRowsHerdLock : List RegRow := [
  ⟨0x06000, 0, 1, 0, 1, [.HRD_CFG_LEAD, .HRD_CFG_EXCL_PCT, .HRD_CFG_EXCL_WAIT, .HRD_CFG_HOLD_TMO]⟩,
  ⟨0x06004, 0, 1, 0, 1, [.HRD_ID_GROUP_ID, .HRD_ID_STACK_ID]⟩,
  ⟨0x06008, 0, 1, 0, 1, [.HRD_STATUS_STATE, .HRD_STATUS_ROLE, .HRD_STATUS_IS_ROOT, .HRD_STATUS_INCOMPLETE, .HRD_STATUS_TB_DEG, .HRD_STATUS_OFFSET_MODE, .HRD_STATUS_SLEWING, .HRD_STATUS_LEVEL, .HRD_STATUS_PORT_UP]⟩,
  ⟨0x0600C, 0, 1, 0, 1, [.HRD_FREQ_PEND, .HRD_FREQ_F_OFF, .HRD_FREQ_F_GRP]⟩,
  ⟨0x06010, 0, 1, 0, 1, [.HRD_PEND_CHG_SEQ, .HRD_PEND_F_NEW]⟩,
  ⟨0x06014, 0, 1, 0, 1, [.HRD_PEND_TICK_LO_CT_LO]⟩,
  ⟨0x06018, 0, 1, 0, 1, [.HRD_PEND_TICK_HI_CT_HI]⟩,
  ⟨0x0601C, 0, 1, 0, 1, [.HRD_OFFSET_LO_OFS_LO]⟩,
  ⟨0x06020, 0, 1, 0, 1, [.HRD_OFFSET_HI_OFS_HI]⟩,
  ⟨0x06024, 0, 1, 0, 1, [.HRD_MEMBERS_EXCL_N, .HRD_MEMBERS_MEMBERS]⟩,
  ⟨0x06028, 0, 1, 0, 1, [.HRD_EXPECT_EXPECT]⟩,
  ⟨0x0602C, 0, 1, 0, 1, [.HRD_EVENT_INCOMPLETE, .HRD_EVENT_JOIN_TMO, .HRD_EVENT_DISBAND, .HRD_EVENT_HOLDOVER, .HRD_EVENT_LINK_LOST, .HRD_EVENT_TIME_JUMP, .HRD_EVENT_EXCL_OVF, .HRD_EVENT_EXCL_REQ, .HRD_EVENT_CRC_ERR]⟩,
  ⟨0x06030, 0, 1, 0, 1, [.HRD_EXCL_CMD_DECISION, .HRD_EXCL_CMD_STACK_ID]⟩,
  ⟨0x06040, 4, 1, 0, 4, [.HRD_PORT_UP, .HRD_PORT_CRC_ERR, .HRD_PORT_DROPS, .HRD_PORT_DELAY]⟩,
  ⟨0x06060, 4, 1, 0, 8, [.HRD_TILE_MASK_MASK]⟩,
  ⟨0x06080, 4, 1, 0, 16, [.HRD_EXCL_STATE, .HRD_EXCL_F_OFF, .HRD_EXCL_STACK_ID]⟩]

/-- The registers of 13_telemetry.md. -/
def regRowsTelemetry : List RegRow := [
  ⟨0x07000, 0, 1, 0, 1, [.TLM_CTRL_ENABLE, .TLM_CTRL_STACK_REC, .TLM_CTRL_NOTIFY_MS, .TLM_CTRL_SIZE_LOG2]⟩,
  ⟨0x07004, 0, 1, 0, 1, [.TLM_RING_LO_BASE_LO]⟩,
  ⟨0x07008, 0, 1, 0, 1, [.TLM_RING_HI_BASE_HI]⟩,
  ⟨0x0700C, 0, 1, 0, 1, [.TLM_NOTIFY_LO_NADDR_LO]⟩,
  ⟨0x07010, 0, 1, 0, 1, [.TLM_NOTIFY_HI_NADDR_HI]⟩,
  ⟨0x07014, 0, 1, 0, 1, [.TLM_PROD_PROD]⟩,
  ⟨0x07018, 0, 1, 0, 1, [.TLM_CONS_CONS]⟩,
  ⟨0x0701C, 0, 1, 0, 1, [.TLM_STATUS_RUNNING, .TLM_STATUS_BUS_ERR_ST, .TLM_STATUS_QUEUED]⟩,
  ⟨0x07020, 0, 1, 0, 1, [.TLM_LOST_LOST]⟩,
  ⟨0x07024, 0, 1, 0, 1, [.TLM_EVENT_BUS_ERR, .TLM_EVENT_CONS_BAD, .TLM_EVENT_DROP]⟩,
  ⟨0x07040, 4, 1, 0, 11, [.TLM_DOM_MASK_MASK]⟩,
  ⟨0x07100, 0, 1, 0, 1, [.TLM_CAP_CTRL_ARM, .TLM_CAP_CTRL_TRIG_SRC, .TLM_CAP_CTRL_POST, .TLM_CAP_CTRL_TRIG_IDX]⟩,
  ⟨0x07104, 4, 1, 0, 8, [.TLM_CAP_CH_KIND, .TLM_CAP_CH_INDEX]⟩,
  ⟨0x07124, 0, 1, 0, 1, [.TLM_CAP_DUMP_LO_DUMP_LO]⟩,
  ⟨0x07128, 0, 1, 0, 1, [.TLM_CAP_DUMP_HI_DUMP_HI]⟩,
  ⟨0x0712C, 0, 1, 0, 1, [.TLM_CAP_TICK_LO_TICK_LO]⟩,
  ⟨0x07130, 0, 1, 0, 1, [.TLM_CAP_TICK_HI_TICK_HI]⟩,
  ⟨0x07134, 0, 1, 0, 1, [.TLM_CAP_STATUS_STATE, .TLM_CAP_STATUS_WRAPPED, .TLM_CAP_STATUS_BLOCKS]⟩]

/-- The registers of 03_phase_control.md. -/
def regRowsPhaseControl : List RegRow := [
  ⟨0x08000, 256, 1, 0, 4, [.PHS_GRP_CTRL_EN, .PHS_GRP_CTRL_FSW, .PHS_GRP_CTRL_RIPPLE_AMP]⟩,
  ⟨0x08004, 256, 1, 0, 4, [.PHS_GRP_SOFT_START_DELAY, .PHS_GRP_SOFT_START_SLOPE, .PHS_GRP_SOFT_STOP_DELAY, .PHS_GRP_SOFT_STOP_SLOPE]⟩,
  ⟨0x08008, 256, 1, 0, 4, [.PHS_GRP_OCL_VALLEY_HI, .PHS_GRP_OCL_VALLEY_LO]⟩,
  ⟨0x0800C, 256, 1, 0, 4, [.PHS_GRP_STATUS_STATE, .PHS_GRP_STATUS_ATTEMPTS, .PHS_GRP_STATUS_LIVE, .PHS_GRP_STATUS_ROT_POS, .PHS_GRP_STATUS_ROT_ANGLE]⟩,
  ⟨0x08010, 256, 1, 0, 4, [.PHS_GRP_EVENT_LATCHED, .PHS_GRP_EVENT_HICCUP, .PHS_GRP_EVENT_FB_LONG, .PHS_GRP_EVENT_FOLDBACK, .PHS_GRP_EVENT_SENSE_FAIL, .PHS_GRP_EVENT_PHASE_OPEN, .PHS_GRP_EVENT_TMON_HOT]⟩,
  ⟨0x08014, 256, 1, 0, 4, [.PHS_GRP_TON_VBUS_USED, .PHS_GRP_TON_TON_BASE]⟩,
  ⟨0x08018, 256, 1, 0, 4, [.PHS_GRP_REF_VSENSE, .PHS_GRP_REF_VREF]⟩,
  ⟨0x09000, 16, 1, 0, 96, [.PHS_PH_STATUS_PH_STATE, .PHS_PH_STATUS_TRIM, .PHS_PH_STATUS_LOSS_COUNT, .PHS_PH_STATUS_TMON_HOT]⟩,
  ⟨0x09004, 16, 1, 0, 96, [.PHS_PH_MEAS_IMON, .PHS_PH_MEAS_TMON]⟩,
  ⟨0x09008, 16, 1, 0, 96, [.PHS_PH_CTRL_READMIT, .PHS_PH_CTRL_DISABLE]⟩,
  ⟨0x0A000, 0, 1, 0, 1, [.PHS_PMB_CTRL_POLL_EN, .PHS_PMB_CTRL_SPEED, .PHS_PMB_CTRL_ADDR]⟩,
  ⟨0x0A004, 0, 1, 0, 1, [.PHS_PMB_STATUS_HELD, .PHS_PMB_STATUS_LINEAR_OK, .PHS_PMB_STATUS_BUS_RESETS, .PHS_PMB_STATUS_PEC_ERRORS, .PHS_PMB_STATUS_VOUT_MODE]⟩,
  ⟨0x0A008, 0, 1, 0, 1, [.PHS_PMB_DATA0_READ_VIN, .PHS_PMB_DATA0_READ_IIN]⟩,
  ⟨0x0A00C, 0, 1, 0, 1, [.PHS_PMB_DATA1_READ_VOUT, .PHS_PMB_DATA1_READ_IOUT]⟩,
  ⟨0x0A010, 0, 1, 0, 1, [.PHS_PMB_DATA2_READ_TEMPERATURE_1, .PHS_PMB_DATA2_READ_TEMPERATURE_2]⟩,
  ⟨0x0A014, 0, 1, 0, 1, [.PHS_PMB_DATA3_READ_POUT, .PHS_PMB_DATA3_STATUS_WORD]⟩,
  ⟨0x0A018, 0, 1, 0, 1, [.PHS_PMB_AGE_AGE_MS]⟩]

/-- The registers of 04_regulator_cells.md. -/
def regRowsRegulatorCells : List RegRow := [
  ⟨0x10000, 16, 1, 0, 1536, [.CEL_STATUS_STATE, .CEL_STATUS_FAIL_CAUSE, .CEL_STATUS_LOSS_COUNT, .CEL_STATUS_SETPT]⟩,
  ⟨0x10004, 16, 1, 0, 1536, [.CEL_MEAS_I_CELL, .CEL_MEAS_I_LIM]⟩,
  ⟨0x10008, 16, 1, 0, 1536, [.CEL_CTRL_READMIT, .CEL_CTRL_ISOLATE]⟩,
  ⟨0x16000, 4, 1, 0, 1536, [.DOM_DS_VALID, .DOM_DS_RECHECK, .DOM_DS_CAUSE, .DOM_DS_DROOP, .DOM_DS_HEADROOM]⟩,
  ⟨0x18000, 32, 1, 0, 324, [.DOM_STATUS_STATE, .DOM_STATUS_WAKE_WAIT, .DOM_STATUS_CEIL, .DOM_STATUS_STEP, .DOM_STATUS_CELLS_OK, .DOM_STATUS_CELLS_ALL, .DOM_STATUS_DS_VALID, .DOM_STATUS_READY, .DOM_STATUS_GATE_CLOSED, .DOM_STATUS_DROOP_FLOOR]⟩,
  ⟨0x18004, 32, 1, 0, 324, [.DOM_CTRL_POWER, .DOM_CTRL_QUIESCE_TMO, .DOM_CTRL_WAKE_STEP]⟩,
  ⟨0x18008, 32, 1, 0, 324, [.DOM_SETPT_VEFF, .DOM_SETPT_VSET]⟩,
  ⟨0x1800C, 32, 1, 0, 324, [.DOM_MEAS_I_DOM, .DOM_MEAS_HR_MIN, .DOM_MEAS_OFFSET]⟩,
  ⟨0x18010, 32, 1, 0, 324, [.DOM_EVENT_FENCE, .DOM_EVENT_QTMO, .DOM_EVENT_DERATE, .DOM_EVENT_CELL_FAIL, .DOM_EVENT_DS_INVALID, .DOM_EVENT_DROOP, .DOM_EVENT_WAKE_LATE]⟩,
  ⟨0x1C000, 64, 1, 0, 5, [.DOM_CLS_CFG_OV_LIMIT, .DOM_CLS_CFG_FENCE_AT]⟩,
  ⟨0x1C004, 64, 1, 0, 5, [.DOM_CLS_DROOP_DROOP_TRIP, .DOM_CLS_DROOP_DROOP_BOOST]⟩,
  ⟨0x1C008, 64, 8, 4, 40, [.DOM_CLS_LADDER_ILIM_ODD, .DOM_CLS_LADDER_ILIM_EVEN]⟩,
  ⟨0x1F000, 0, 1, 0, 1, [.DOM_STACK_CTRL_STACK_TRIP]⟩]

/-- The registers of 09_budget.md. -/
def regRowsBudget : List RegRow := [
  ⟨0x1B000, 0, 1, 0, 1, [.DOM_BUD_CTRL_MODE, .DOM_BUD_CTRL_CTX_ACTIVE, .DOM_BUD_CTRL_FIXED_STEP, .DOM_BUD_CTRL_CEIL]⟩,
  ⟨0x1B004, 0, 1, 0, 1, [.DOM_BUD_CAP_P_CAP, .DOM_BUD_CAP_STAGGER, .DOM_BUD_CAP_WINDOW]⟩,
  ⟨0x1B008, 0, 1, 0, 1, [.DOM_BUD_PULSE_PEAK_LIM, .DOM_BUD_PULSE_REST_MS, .DOM_BUD_PULSE_PULSE_MS]⟩,
  ⟨0x1B00C, 0, 1, 0, 1, [.DOM_BUD_AVG_AVG]⟩,
  ⟨0x1B010, 0, 1, 0, 1, [.DOM_BUD_MS_P_MS, .DOM_BUD_MS_P_OTHER]⟩,
  ⟨0x1B014, 0, 1, 0, 1, [.DOM_BUD_GOV_PULSE, .DOM_BUD_GOV_GOVERNED, .DOM_BUD_GOV_PULSE_AGE, .DOM_BUD_GOV_F_G]⟩,
  ⟨0x1B018, 0, 1, 0, 1, [.DOM_BUD_EVENT_ORD_BAD, .DOM_BUD_EVENT_FIXED_LOST, .DOM_BUD_EVENT_PEAK_EV, .DOM_BUD_EVENT_GOVERNED_EV]⟩,
  ⟨0x1B01C, 0, 1, 0, 1, [.DOM_BUD_COUNT_GOV_COUNT, .DOM_BUD_COUNT_FIXED_LOST_COUNT]⟩,
  ⟨0x1B100, 16, 1, 0, 8, [.DOM_BUD_CTX_OP_ORD0, .DOM_BUD_CTX_OP_ORD1, .DOM_BUD_CTX_OP_ORD2, .DOM_BUD_CTX_OP_BOOST_EN, .DOM_BUD_CTX_OP_PREF_STEP, .DOM_BUD_CTX_OP_LINK_SHARE]⟩,
  ⟨0x1B104, 16, 1, 0, 8, [.DOM_BUD_CTX_SLOPE_ACT_UP, .DOM_BUD_CTX_SLOPE_ACT_DN]⟩]

/-- The registers of 07_forecast_and_starts.md. -/
def regRowsForecastAndStarts : List RegRow := [
  ⟨0x1D000, 16, 1, 0, 256, [.DOM_TILE_PROF_NOM_SCALE, .DOM_TILE_PROF_NOM_DELAY, .DOM_TILE_PROF_NOM_RISE]⟩,
  ⟨0x1D004, 16, 1, 0, 256, [.DOM_TILE_PROF_SPR_SCALE, .DOM_TILE_PROF_SPR_DELAY, .DOM_TILE_PROF_SPR_RISE]⟩,
  ⟨0x1D008, 16, 1, 0, 256, [.DOM_TILE_MAP_EPOCH, .DOM_TILE_MAP_MAP, .DOM_TILE_MAP_EPOCH_BAD, .DOM_TILE_MAP_MISMATCH_COUNT, .DOM_TILE_MAP_LAST_RATIO]⟩,
  ⟨0x1E000, 0, 1, 0, 1, [.DOM_START_SLOPE_BOOST_SLOPE, .DOM_START_SLOPE_BASE_SLOPE]⟩,
  ⟨0x1E004, 0, 1, 0, 1, [.DOM_START_BUCKET_CAP, .DOM_START_BUCKET_LEVEL]⟩,
  ⟨0x1E008, 0, 1, 0, 1, [.DOM_START_PRE_PRE_H, .DOM_START_PRE_PREBIAS, .DOM_START_PRE_PREBIAS_LEAD, .DOM_START_PRE_HOLD]⟩,
  ⟨0x1E00C, 0, 1, 0, 1, [.DOM_START_WAVE_WAVE_TMO, .DOM_START_WAVE_AGE_PROMOTE, .DOM_START_WAVE_MISMATCH_TOL]⟩,
  ⟨0x1E010, 0, 1, 0, 1, [.DOM_START_ARR_ARR, .DOM_START_ARR_TILE_FS]⟩,
  ⟨0x1E014, 4, 1, 0, 4, [.DOM_FMT_STEP_STEP_ODD, .DOM_FMT_STEP_STEP_EVEN]⟩,
  ⟨0x1E030, 0, 1, 0, 1, [.DOM_START_STATUS_BOOST, .DOM_START_STATUS_ARMED, .DOM_START_STATUS_PRE_ACTIVE, .DOM_START_STATUS_WAVES, .DOM_START_STATUS_SLOPE_EFF, .DOM_START_STATUS_WAITING]⟩,
  ⟨0x1E034, 0, 1, 0, 1, [.DOM_START_GRANTS_GRANTS]⟩,
  ⟨0x1E038, 0, 1, 0, 1, [.DOM_START_COUNT_LATE_TOKENS, .DOM_START_COUNT_DROPPED_ANN, .DOM_START_COUNT_WAVE_TMOS, .DOM_START_COUNT_BAD_REQ]⟩,
  ⟨0x1E03C, 0, 1, 0, 1, [.DOM_START_EVENT_MSG_BAD, .DOM_START_EVENT_REQ_BAD, .DOM_START_EVENT_ANN_DROPPED, .DOM_START_EVENT_WAVE_TMO, .DOM_START_EVENT_TOKEN_LATE, .DOM_START_EVENT_EPOCH_UNKNOWN, .DOM_START_EVENT_MISMATCH]⟩,
  ⟨0x1E040, 8, 1, 0, 4, [.DOM_WAVE_ID_BARRIER_ID, .DOM_WAVE_ID_ENGINES]⟩,
  ⟨0x1E044, 8, 1, 0, 4, [.DOM_WAVE_PROG_STATE, .DOM_WAVE_PROG_WAVE_ARMED, .DOM_WAVE_PROG_GRANTED]⟩]

/-- The registers of 05_control_engine.md. -/
def regRowsControlEngine : List RegRow := [
  ⟨0x60000, 0, 1, 0, 1, [.CE_CTRL_LOAD_LIMIT, .CE_CTRL_FAST_LIMIT, .CE_CTRL_MISS_ESC]⟩,
  ⟨0x60004, 0, 1, 0, 1, [.CE_LANES_IN_SERVICE, .CE_LANES_LANE_OK]⟩,
  ⟨0x60008, 0, 1, 0, 1, [.CE_LOAD_LOAD_MOPS, .CE_LOAD_FAST_OPS]⟩,
  ⟨0x60010, 4, 1, 0, 16, [.CE_MISS_SUM_MISSED]⟩,
  ⟨0x60050, 4, 1, 0, 16, [.CE_CLAMP_SUM_CLAMPED]⟩,
  ⟨0x60100, 0, 1, 0, 1, [.CE_ELEM_SEL_SLOT, .CE_ELEM_SEL_ELEM]⟩,
  ⟨0x60104, 0, 1, 0, 1, [.CE_ELEM_REF_REF]⟩,
  ⟨0x60108, 0, 1, 0, 1, [.CE_ELEM_OUT_ACT, .CE_ELEM_OUT_Y]⟩,
  ⟨0x6010C, 0, 1, 0, 1, [.CE_ELEM_INT_LO_I_LO]⟩,
  ⟨0x60110, 0, 1, 0, 1, [.CE_ELEM_INT_HI_I_SIGN, .CE_ELEM_INT_HI_I_HI]⟩,
  ⟨0x60114, 0, 1, 0, 1, [.CE_ELEM_PROF_P, .CE_ELEM_PROF_V]⟩,
  ⟨0x60120, 0, 1, 0, 1, [.CE_ARB_SEL_KIND, .CE_ARB_SEL_INDEX]⟩,
  ⟨0x60124, 0, 1, 0, 1, [.CE_ARB_VAL_STAGE1, .CE_ARB_VAL_APPLIED]⟩,
  ⟨0x60128, 0, 1, 0, 1, [.CE_ARB_SRC_CLAMPED, .CE_ARB_SRC_CLAMP_SRC, .CE_ARB_SRC_WIN_SLOT, .CE_ARB_SRC_WIN_ELEM]⟩,
  ⟨0x61000, 64, 1, 0, 512, [.CE_SD_CTRL_CLASS, .CE_SD_CTRL_OPEN, .CE_SD_CTRL_SIGN, .CE_SD_CTRL_PROF_EN, .CE_SD_CTRL_COMP_RIP, .CE_SD_CTRL_COMP_OFF, .CE_SD_CTRL_REF_PER, .CE_SD_CTRL_ELEMS_M1, .CE_SD_CTRL_ACT_KIND, .CE_SD_CTRL_ACT_BASE]⟩,
  ⟨0x61004, 64, 1, 0, 512, [.CE_SD_MAP_GROUP_M1, .CE_SD_MAP_FAN_M1, .CE_SD_MAP_OUT_SCALE]⟩,
  ⟨0x61008, 64, 1, 0, 512, [.CE_SD_OUT_OUT_BASE, .CE_SD_OUT_TRACK]⟩,
  ⟨0x6100C, 64, 1, 0, 512, [.CE_SD_IN_IN_KIND, .CE_SD_IN_IN_RED, .CE_SD_IN_IN_PER_M1, .CE_SD_IN_IN_BASE]⟩,
  ⟨0x61010, 64, 1, 0, 512, [.CE_SD_AUX_AUX1_KIND, .CE_SD_AUX_AUX1_MODE, .CE_SD_AUX_AUX2_KIND, .CE_SD_AUX_AUX2_MODE]⟩,
  ⟨0x61014, 64, 1, 0, 512, [.CE_SD_KAUX_K1, .CE_SD_KAUX_K2]⟩,
  ⟨0x61018, 64, 1, 0, 512, [.CE_SD_LAW_KP, .CE_SD_LAW_GSHIFT, .CE_SD_LAW_PSHIFT, .CE_SD_LAW_GTAB]⟩,
  ⟨0x6101C, 64, 1, 0, 512, [.CE_SD_REF_REF, .CE_SD_REF_CTAB_OFF, .CE_SD_REF_CTAB_RIP]⟩,
  ⟨0x61020, 64, 1, 0, 512, [.CE_SD_PROF_VMAX, .CE_SD_PROF_AMAX]⟩,
  ⟨0x61024, 64, 1, 0, 512, [.CE_SD_JERK_JMAX]⟩,
  ⟨0x69000, 8, 1, 0, 512, [.CE_SLOT_STATUS_MISSED, .CE_SLOT_STATUS_CLAMPED, .CE_SLOT_STATUS_SAT, .CE_SLOT_STATUS_OPEN_ST, .CE_SLOT_STATUS_IN_INVALID, .CE_SLOT_STATUS_TRACKING, .CE_SLOT_STATUS_MISS_COUNT, .CE_SLOT_STATUS_OPS]⟩,
  ⟨0x69004, 8, 1, 0, 512, [.CE_SLOT_EVAL_TICK_LO]⟩,
  ⟨0x6A000, 128, 32, 4, 2048, [.CE_GTAB_G_ODD, .CE_GTAB_G_EVEN]⟩,
  ⟨0x6C000, 128, 32, 4, 1024, [.CE_CTAB_C_ODD, .CE_CTAB_C_EVEN]⟩]

/-- The registers of 08_estimation.md. -/
def regRowsEstimation : List RegRow := [
  ⟨0x70000, 0, 1, 0, 1, [.DOM_EST_CFG_DIS_PCT, .DOM_EST_CFG_AGREE_PCT, .DOM_EST_CFG_DIS_MS, .DOM_EST_CFG_AGREE_MS]⟩,
  ⟨0x70004, 0, 1, 0, 1, [.DOM_EST_SUB_SUB_PCT, .DOM_EST_SUB_DEADBAND, .DOM_EST_SUB_DIS_FLOOR]⟩,
  ⟨0x70008, 0, 1, 0, 1, [.DOM_EST_ADAPT_ADAPT_EN, .DOM_EST_ADAPT_ACT_MIN]⟩,
  ⟨0x70010, 0, 1, 0, 1, [.DOM_EST_STACK_EST_STACK, .DOM_EST_STACK_SUBST_DOMS]⟩,
  ⟨0x70014, 0, 1, 0, 1, [.DOM_EST_EVENT_BOTH_INVALID, .DOM_EST_EVENT_STALE, .DOM_EST_EVENT_SUBST, .DOM_EST_EVENT_DISAGREE]⟩,
  ⟨0x70040, 4, 1, 0, 11, [.DOM_EST_DIS_SUM_DIS]⟩,
  ⟨0x71000, 64, 8, 4, 2592, [.DOM_EST_W_W3, .DOM_EST_W_W2, .DOM_EST_W_W1, .DOM_EST_W_W0]⟩,
  ⟨0x71020, 64, 1, 0, 324, [.DOM_EST_SCALE_SCALE, .DOM_EST_SCALE_LK_TRIM]⟩,
  ⟨0x71024, 64, 1, 0, 324, [.DOM_EST_CTRL_FREEZE]⟩,
  ⟨0x71028, 64, 1, 0, 324, [.DOM_EST_CUR_EST_I, .DOM_EST_CUR_LEAK_I]⟩,
  ⟨0x7102C, 64, 1, 0, 324, [.DOM_EST_MEAN_MEAN_EST, .DOM_EST_MEAN_MEAN_MEAS]⟩,
  ⟨0x71030, 64, 1, 0, 324, [.DOM_EST_PWR_P_EST]⟩,
  ⟨0x71034, 64, 1, 0, 324, [.DOM_EST_STATUS_STATE, .DOM_EST_STATUS_MEAS_INVALID, .DOM_EST_STATUS_EST_INVALID, .DOM_EST_STATUS_STALE_ST, .DOM_EST_STATUS_HOLD_CAUSE, .DOM_EST_STATUS_DIS_COUNT, .DOM_EST_STATUS_RUN]⟩,
  ⟨0x78000, 256, 64, 4, 320, [.DOM_EST_LEAK_L_ODD, .DOM_EST_LEAK_L_EVEN]⟩]

/-- Every register of the window but the slots and the debug SRAM window. -/
def regRows : List RegRow :=
  regRowsScope ++ regRowsArchitecture ++ regRowsBringupReset ++ regRowsPowerPath ++ regRowsFirmware ++ regRowsPortsAndMap ++ regRowsCommands ++ regRowsFaults ++ regRowsCheckvalue ++ regRowsMeasurement ++ regRowsThermal ++ regRowsHerdLock ++ regRowsTelemetry ++ regRowsPhaseControl ++ regRowsRegulatorCells ++ regRowsBudget ++ regRowsForecastAndStarts ++ regRowsControlEngine ++ regRowsEstimation

/-- The item of a register row that stands at an offset, if one does. -/
def RegRow.itemAt (r : RegRow) (off : Nat) : Option Nat :=
  if off < r.base then none
  else
    let d := off - r.base
    let q := if r.s1 = 0 then 0 else d / r.s1
    let m := if r.s1 = 0 then d else d % r.s1
    let k := if r.s2 = 0 then 0 else m / r.s2
    let e := if r.s2 = 0 then m else m % r.s2
    let i := q * r.n2 + k
    if e = 0 ∧ k < r.n2 ∧ i < r.count then some i else none

/-- The register row and item at an offset of the window (R457); none is an offset no chapter assigns (R13). -/
def regAt (off : Nat) : Option (RegRow × Nat) :=
  regRows.findSome? (fun r => (r.itemAt off).map (fun i => (r, i)))

end Sys2Proof.Machine
end

