-- ==== Sys2Proof/Machine/Tables.lean ====
section
/-! DEFINITION. Sparse tables: a list of key and value pairs in rising key order, an unlisted key reading as a value
that the reader names. Register fields, per-unit state and addressed memory are all held this way. -/

namespace Sys2Proof.Machine

/-- A sparse table: rows of key and value, keys strictly rising. -/
abbrev Tbl (κ α : Type) := List (κ × α)

/-- The value of a key; `d` where no row lists it. -/
def Tbl.get {κ α : Type} [DecidableEq κ] (d : α) (t : Tbl κ α) (k : κ) : α :=
  match t with
  | [] => d
  | (k', v) :: r => if k' = k then v else Tbl.get d r k

/-- The table without the rows of a key. -/
def Tbl.erase {κ α : Type} [DecidableEq κ] (t : Tbl κ α) (k : κ) : Tbl κ α :=
  t.filter (fun p => p.1 ≠ k)

/-- The table with a row put in before the first row of a higher rank. -/
def Tbl.insert {κ α : Type} (rank : κ → Nat) (t : Tbl κ α) (k : κ) (v : α) : Tbl κ α :=
  match t with
  | [] => [(k, v)]
  | (k', v') :: r => if rank k < rank k' then (k, v) :: (k', v') :: r else (k', v') :: Tbl.insert rank r k v

/-- The table with the value of a key replaced. -/
def Tbl.set {κ α : Type} [DecidableEq κ] (rank : κ → Nat) (t : Tbl κ α) (k : κ) (v : α) : Tbl κ α :=
  Tbl.insert rank (Tbl.erase t k) k v

/-- `Tbl.set` over number keys. -/
def Tbl.put {α : Type} (t : Tbl Nat α) (k : Nat) (v : α) : Tbl Nat α := Tbl.set id t k v

/-- Replaces the value of a number key in a table whose unlisted keys read `d`: a row equal to `d` is not listed, so that
equal contents are equal tables. -/
def Tbl.putD {α : Type} [DecidableEq α] (d : α) (t : Tbl Nat α) (k : Nat) (v : α) : Tbl Nat α :=
  if v = d then Tbl.erase t k else Tbl.put t k v

/-- Keys strictly rising. -/
def Tbl.sorted {κ α : Type} (rank : κ → Nat) (t : Tbl κ α) : Prop :=
  t.Pairwise (fun a b => rank a.1 < rank b.1)

/-- The canonical form of a table whose unlisted keys read `d`: keys strictly rising and no row equal to `d`. -/
def Tbl.canon {α : Type} (d : α) (t : Tbl Nat α) : Prop :=
  Tbl.sorted id t ∧ ∀ p ∈ t, p.2 ≠ d

end Sys2Proof.Machine
end

