-- ==== Sys2Proof/Machine/Layout.lean ====
section
/-! DEFINITION. The numbering of domains, cells, droop sensors, phases and temperature sensors that the configuration table
fixes (R5, R46, R47, R49), the class figures of R50, R103 to R107, and the classes of the fault sources (R413). -/

namespace Sys2Proof

/-- The straps before they are sampled (assumption 2). -/
def Straps.unsampled : Straps := { testEn := 0, herdRole := 0, phasesPop := 0, vstkDef := 0, bootMode := 0 }

/-- The fused values before the fuse load (assumption 2); OV_LIMIT as R104 gives it per class, the
fixed rails as R46 gives them, the Goose limits as the
Reference column of FLT_GOOSE_LIM0 to FLT_GOOSE_LIM4 gives them. -/
def Fuses.reference : Fuses :=
  { revMinor := 0, chkExp := [], lkTrim := [], ovLimit := [840, 840, 824, 824, 832], words := [],
    railSet := [1050000, 1800000, 1200000],
    goose := [115, 105, 1200, 2500, 470, 24, 60, 110, 110, 108, 108, 109], keyDigest := [] }

/-- The configuration before the fuse load: the reference configuration of R4 (assumption 2). -/
def Cfg.reference : Cfg :=
  { table := CfgTable.reference, valid := false, straps := Straps.unsampled, fuses := Fuses.reference }

/-! ### Domains (R5, R49): classes 0 tile, 1 CPU, 2 memory-interface, 3 link, 4 fabric -/

/-- First domain of each class. -/
def CfgTable.firstDom (t : CfgTable) (k : Nat) : Nat :=
  match k with
  | 0 => 0
  | 1 => t.tiles
  | 2 => t.tiles + t.cpu
  | 3 => t.tiles + t.cpu + t.memif
  | _ => t.tiles + t.cpu + t.memif + t.link

/-- Class of a domain (R104 codes). -/
def CfgTable.domClass (t : CfgTable) (d : Nat) : Nat :=
  if d < t.tiles then 0
  else if d < t.tiles + t.cpu then 1
  else if d < t.tiles + t.cpu + t.memif then 2
  else if d < t.tiles + t.cpu + t.memif + t.link then 3
  else 4

/-- Cells of a domain of each class (R49). -/
def classCells (k : Nat) : Nat := [5, 8, 2, 2, 4].getD k 0

/-- Droop sensors of a domain of each class (R49). -/
def classSensors (k : Nat) : Nat := [4, 8, 4, 2, 8].getD k 0

/-- Class peak of R50 in 1/64 A. -/
def classPeak (k : Nat) : Nat := [480, 640, 192, 192, 320].getD k 0

/-- First cell of a class (R49). -/
def CfgTable.firstCellOfClass (t : CfgTable) (k : Nat) : Nat :=
  match k with
  | 0 => 0
  | 1 => 5 * t.tiles
  | 2 => 5 * t.tiles + 8 * t.cpu
  | 3 => 5 * t.tiles + 8 * t.cpu + 2 * t.memif
  | _ => 5 * t.tiles + 8 * t.cpu + 2 * t.memif + 32

/-- First droop sensor of a class (R49). -/
def CfgTable.firstSensorOfClass (t : CfgTable) (k : Nat) : Nat :=
  match k with
  | 0 => 0
  | 1 => 4 * t.tiles
  | 2 => 4 * t.tiles + 8 * t.cpu
  | 3 => 4 * t.tiles + 8 * t.cpu + 4 * t.memif
  | _ => 4 * t.tiles + 8 * t.cpu + 4 * t.memif + 32

/-- Number of a domain within its class. -/
def CfgTable.domIndex (t : CfgTable) (d : Nat) : Nat := d - t.firstDom (t.domClass d)

/-- First cell of a domain (R49). -/
def CfgTable.firstCell (t : CfgTable) (d : Nat) : Nat :=
  t.firstCellOfClass (t.domClass d) + classCells (t.domClass d) * t.domIndex d

/-- The cells of a domain. -/
def CfgTable.domCells (t : CfgTable) (d : Nat) : List Nat :=
  (List.range (classCells (t.domClass d))).map (fun i => t.firstCell d + i)

/-- First droop sensor of a domain (R49). -/
def CfgTable.firstSensor (t : CfgTable) (d : Nat) : Nat :=
  t.firstSensorOfClass (t.domClass d) + classSensors (t.domClass d) * t.domIndex d

/-- The droop sensors of a domain. -/
def CfgTable.domSensors (t : CfgTable) (d : Nat) : List Nat :=
  (List.range (classSensors (t.domClass d))).map (fun i => t.firstSensor d + i)

/-- The domain of a unit that stands in consecutive runs of `per` units a domain, by class. -/
def CfgTable.domOf (t : CfgTable) (first : Nat → Nat) (per : Nat → Nat) (u : Nat) : Nat :=
  let k := if u < first 1 then 0 else if u < first 2 then 1 else if u < first 3 then 2 else if u < first 4 then 3 else 4
  t.firstDom k + (u - first k) / per k

/-- The domain a cell feeds (R49). -/
def CfgTable.cellDom (t : CfgTable) (c : Nat) : Nat := t.domOf t.firstCellOfClass classCells c

/-- The domain of a droop sensor (R49). -/
def CfgTable.sensorDom (t : CfgTable) (x : Nat) : Nat := t.domOf t.firstSensorOfClass classSensors x

/-- Tiles above one tower (R391). -/
def CfgTable.towerTiles (t : CfgTable) : Nat := t.tiles / t.towers

/-- The tower above which a tile stands: tower w stands above tiles w × TILES / TOWERS onward (R391). -/
def CfgTable.tileTower (t : CfgTable) (tile : Nat) : Nat := tile / t.towerTiles

/-! ### Phase groups (R46, R47): 0 VSTK, 1 VDDM, 2 VPPM, 3 VIO -/

/-- Phases of a group. -/
def CfgTable.groupSize (t : CfgTable) (g : Nat) : Nat := [t.phVstk, t.phVddm, t.phVppm, t.phVio].getD g 0

/-- First phase of a group. -/
def CfgTable.groupFirst (t : CfgTable) (g : Nat) : Nat :=
  [0, t.phVstk, t.phVstk + t.phVddm, t.phVstk + t.phVddm + t.phVppm].getD g 0

/-- The phases of a group, ascending. -/
def CfgTable.groupPhases (t : CfgTable) (g : Nat) : List Nat :=
  (List.range (t.groupSize g)).map (fun i => t.groupFirst g + i)

/-- The group of a phase. -/
def CfgTable.phaseGroup (t : CfgTable) (p : Nat) : Nat :=
  if p < t.groupFirst 1 then 0 else if p < t.groupFirst 2 then 1 else if p < t.groupFirst 3 then 2 else 3

/-- Populated VSTK phases under PHASES_POP (R388). -/
def Cfg.vstkPopulated (c : Cfg) : Nat := c.table.phVstk - 4 * c.straps.phasesPop

/-- Whether a phase is populated (R388). -/
def Cfg.populated (c : Cfg) (p : Nat) : Bool :=
  p < c.table.phTotal ∧ (c.table.phVstk ≤ p ∨ p < c.vstkPopulated)

/-- Populated phases of a group. -/
def Cfg.groupPopulated (c : Cfg) (g : Nat) : Nat := if g = 0 then c.vstkPopulated else c.table.groupSize g

/-- Per-phase limit of a group in A (R46). -/
def phaseLimit (g : Nat) : Nat := [40, 35, 10, 25].getD g 0

/-- EDC of a group in A (R46). -/
def groupEdc (g : Nat) : Nat := [1700, 300, 8, 20].getD g 0

/-- TDC of a group in A (R46). -/
def groupTdc (g : Nat) : Nat := [1100, 200, 5, 12].getD g 0

/-- `min(x, A / 1.22)` rounded down to a whole ampere, for `n` live phases of group `g` (R62, R63). -/
def designCurrent (g n x : Nat) : Nat := min x (n * phaseLimit g * 100 / 122)

/-! ### Classes of the fault sources (R413) -/

/-- The class of a source by the class tables R413 names: 0 unused, 1 corrected, 2 contained, 3 fatal. -/
def sourceClass (sub code : Nat) : Nat :=
  let t : List Nat := match sub with
    | 0x01 => [1, 2, 2, 1, 2, 2, 3, 0, 1, 2, 2, 2, 3, 1]
    | 0x02 => [1, 1, 1, 2, 2, 2, 2, 0, 2, 3, 1]
    | 0x03 => [1, 2, 2, 3]
    | 0x04 => [1, 1, 1, 1, 1, 1, 1]
    | 0x05 => [1, 1, 1, 2]
    | 0x06 => [1, 1, 1, 1]
    | 0x07 => [1, 1, 1, 1, 1, 1, 2, 2, 2, 2]
    | 0x08 => [1, 1, 1, 1, 2, 2, 2, 2, 2]
    | 0x09 => [1, 1, 1, 1, 2, 2]
    | 0x0A => [1, 1, 2]
    | 0x0B => [0, 0, 0, 0, 2, 2, 2, 2, 1, 0, 0, 0, 3]
    | 0x0C => [1, 1, 1, 1, 2, 2]
    | 0x0D => [1, 1, 1, 1, 2, 2, 2]
    | 0x0E => [1, 1, 1, 2, 2, 3]
    | 0x0F => [2, 2, 1, 1, 1, 0, 1]
    | 0x10 => [0, 3, 3, 3, 3, 3, 3, 3]
    | 0x11 => [1, 2]
    | _ => []
  t.getD code 0

end Sys2Proof
end

