-- ==== Sys2Proof/Machine/Resets.lean ====
section
/-! DEFINITION. Reset values of the register fields: one number from the field's register table, or, where the table reads
"strap", "fuse", "class", "table", "per R81", "source", "unit" or "image", the value that the chapter or the built-in ROM
image of R396 gives. -/

namespace Sys2Proof.Machine

/-- The classes of the ROM image for initiators 8j to 8j + 7, four bits each (R396, R350). -/
def privRom (j : Nat) : Nat :=
  let cls : Nat := if j < 2 then 5 else if j < 4 then 4 else if j < 8 then 3 else if j < 16 then 2 else if j < 30 then 1 else 0
  cls * 0x11111111

/-- Class orders, PREF_STEP, BOOST_EN, ACT_UP, ACT_DN and LINK_SHARE of the reset contexts (R232): classes 0 compute,
1 memory, 2 link. -/
def contextRom (c : Nat) : List Nat :=
  match c with
  | 1 => [0, 2, 1, 12, 1, 5, 5, 0x400]
  | 2 => [0, 1, 2, 8, 0, 10, 10, 0x800]
  | 3 => [0, 1, 2, 4, 0, 5, 5, 0x200]
  | _ => [0, 2, 1, 13, 1, 10, 10, 0x400]

/-- One entry of a converter's sequence (R294). -/
structure SeqEntry where
  ch : Nat
  trig : Nat
  dly : Nat
  smp : Nat
  divl : Nat
  avgl : Nat
  shift : Nat
  xr : Nat
deriving DecidableEq, Repr

/-- The reference sequence of converter `c` (R299). -/
def seqRom (t : CfgTable) (c : Nat) : List SeqEntry :=
  let imon := ((List.range 96).filter (fun p => p < t.phTotal ∧ p % 16 = c)).map
    (fun p => (⟨p, 1, 1, 20, 0, 0, 0, 1⟩ : SeqEntry))
  let tmon := ((List.range 96).filter (fun p => p < t.phTotal ∧ (p + 8) % 16 = c)).map
    (fun p => (⟨96 + p, 0, 0, 40, 2, 0, 0, 0⟩ : SeqEntry))
  let sense : List SeqEntry := if c % 4 = 0 then [⟨192 + c / 4, 0, 0, 20, 0, 0, 0, 0⟩] else []
  let misc : List SeqEntry := if 1 ≤ c then [⟨212 + c, 0, 0, 20, 5, 0, 0, 0⟩] else []
  [⟨228 + c / 2, 0, 0, 20, 0, 0, 0, 0⟩] ++ imon ++ tmon ++ sense ++ [⟨196 + c, 0, 0, 60, 5, 2, 2, 0⟩] ++ misc

/-- Entry `16 c + e` of the reference sequences; an entry past the sequence's length reads 0. -/
def seqRomAt (t : CfgTable) (i : Nat) : SeqEntry := (seqRom t (i / 16)).getD (i % 16) ⟨0, 0, 0, 0, 0, 0, 0, 0⟩

/-- Reset values of the fields whose register table gives no one number. -/
def Fld.rst (c : Cfg) (f : Fld) (i : Nat) : Nat :=
  match f with
  | .GLB_ID_REV_MINOR => c.fuses.revMinor % 16
  | .GLB_VSTK_STATUS_VSTK_CODE => 320 + 80 * c.straps.vstkDef
  | .GLB_VSTK_STATUS_VSTK_LIVE => c.vstkPopulated
  | .GLB_DESIGN_CUR_EDC_EFF => designCurrent 0 c.vstkPopulated (groupEdc 0)
  | .GLB_DESIGN_CUR_TDC_EFF => designCurrent 0 c.vstkPopulated (groupTdc 0)
  | .PHS_GRP_OCL_VALLEY_HI => [0xC0, 0xA8, 0x30, 0x78].getD i 0
  | .PHS_GRP_OCL_VALLEY_LO => [0x3C, 0x34, 0x0F, 0x26].getD i 0
  | .PHS_GRP_STATUS_LIVE => c.groupPopulated i
  | .PHS_PH_STATUS_PH_STATE => if c.populated i then 1 else 0
  | .DOM_STATUS_CELLS_OK => classCells (c.table.domClass i)
  | .DOM_STATUS_CELLS_ALL => classCells (c.table.domClass i)
  | .DOM_STATUS_DS_VALID => classSensors (c.table.domClass i)
  | .DOM_CTRL_POWER => 1
  | .DOM_CTRL_WAKE_STEP => [250, 400, 100, 100, 200].getD (c.table.domClass i) 0
  | .DOM_SETPT_VSET => 600
  | .DOM_CLS_CFG_OV_LIMIT => c.fuses.ovLimit.getD i 0
  | .DOM_CLS_CFG_FENCE_AT => [2, 2, 0, 0, 0].getD i 0
  | .DOM_CLS_LADDER_ILIM_ODD => (2 * (i % 8) + 2) * (classPeak (i / 8) / 16)
  | .DOM_CLS_LADDER_ILIM_EVEN => (2 * (i % 8) + 1) * (classPeak (i / 8) / 16)
  | .DOM_FMT_STEP_STEP_ODD => [360, 250, 400, 30].getD i 0
  | .DOM_FMT_STEP_STEP_EVEN => [300, 400, 400, 400].getD i 0
  | .DOM_TILE_PROF_NOM_SCALE => 128
  | .DOM_TILE_PROF_NOM_DELAY => 24
  | .DOM_TILE_PROF_NOM_RISE => 255
  | .DOM_TILE_PROF_SPR_SCALE => 128
  | .DOM_TILE_PROF_SPR_DELAY => 25
  | .DOM_TILE_PROF_SPR_RISE => 256
  | .DOM_EST_SCALE_LK_TRIM => Tbl.get 0 c.fuses.lkTrim i
  | .DOM_BUD_CTX_OP_ORD0 => (contextRom i).getD 0 0
  | .DOM_BUD_CTX_OP_ORD1 => (contextRom i).getD 1 0
  | .DOM_BUD_CTX_OP_ORD2 => (contextRom i).getD 2 0
  | .DOM_BUD_CTX_OP_PREF_STEP => (contextRom i).getD 3 0
  | .DOM_BUD_CTX_OP_BOOST_EN => (contextRom i).getD 4 0
  | .DOM_BUD_CTX_SLOPE_ACT_UP => (contextRom i).getD 5 0
  | .DOM_BUD_CTX_SLOPE_ACT_DN => (contextRom i).getD 6 0
  | .DOM_BUD_CTX_OP_LINK_SHARE => (contextRom i).getD 7 0
  | .THM_LADDER_FREQ =>
      if i < 16 then [100, 100, 100, 100, 100, 100, 110, 120, 130, 140, 150, 160, 170, 180, 190, 200].getD i 0 else 0
  | .THM_LADDER_ISSUE =>
      if i < 16 then [4, 6, 8, 10, 12, 16, 16, 16, 16, 16, 16, 16, 16, 16, 16, 16].getD i 0 else i % 16 + 1
  | .HRD_STATUS_ROLE => c.straps.herdRole
  | .ADC_PAIR_STATUS_CHK_EXP => c.fuses.chkExp.getD i 0
  | .ADC_CV_CTRL_SEQ_LEN_M1 => (seqRom c.table i).length - 1
  | .ADC_CV_UT_UT_EN => if i = 0 then 1 else 0
  | .ADC_CV_UT_UT_CH => if i = 0 then 0xD4 else 0
  | .ADC_SEQ_CH => (seqRomAt c.table i).ch
  | .ADC_SEQ_TRIG => (seqRomAt c.table i).trig
  | .ADC_SEQ_DLY_MODE => (seqRomAt c.table i).dly
  | .ADC_SEQ_SMP => (seqRomAt c.table i).smp
  | .ADC_SEQ_DIVL => (seqRomAt c.table i).divl
  | .ADC_SEQ_AVGL => (seqRomAt c.table i).avgl
  | .ADC_SEQ_SHIFT => (seqRomAt c.table i).shift
  | .ADC_SEQ_XR => (seqRomAt c.table i).xr
  | .CRC_STATUS_DUTY => i
  | .CMD_PRIV_CLASS => privRom i
  | .GLB_FW_CTRL_MIN_SVN =>
      (List.range 8).foldl (fun m k => max m (Tbl.get 0 c.fuses.words (992 + k) % 65536)) 0
  | .GLB_CFG0_TILES => c.table.tiles
  | .GLB_CFG0_ENGINES => c.table.engines
  | .GLB_CFG0_CPU => c.table.cpu
  | .GLB_CFG1_MEMIF => c.table.memif
  | .GLB_CFG1_LINK => c.table.link
  | .GLB_CFG1_FABRIC => c.table.fabric
  | .GLB_CFG1_DOMAINS => c.table.domains
  | .GLB_CFG2_CELLS => c.table.cells
  | .GLB_CFG2_TOWERS => c.table.towers
  | .GLB_CFG2_DIES => c.table.dies
  | .GLB_CFG3_PH_VSTK => c.table.phVstk
  | .GLB_CFG3_PH_VDDM => c.table.phVddm
  | .GLB_CFG3_PH_VPPM => c.table.phVppm
  | .GLB_CFG3_PH_VIO => c.table.phVio
  | .GLB_CFG3_PH_TOTAL => c.table.phTotal
  | .GLB_CFG4_CP => c.table.cp
  | .GLB_CFG4_SAR => c.table.sar
  | .GLB_CFG4_SLOTS => c.table.slots
  | .GLB_CFG4_TSENS => c.table.tsens
  | .GLB_CFG5_DSENS => c.table.dsens
  | .GLB_CFG5_VALID => if c.valid then 1 else 0
  | .GLB_STRAP_TEST_EN => c.straps.testEn
  | .GLB_STRAP_HERD_ROLE => c.straps.herdRole
  | .GLB_STRAP_PHASES_POP => c.straps.phasesPop
  | .GLB_STRAP_VSTK_DEF => c.straps.vstkDef
  | .GLB_STRAP_BOOT_MODE => c.straps.bootMode
  | .FLT_GOOSE_LIM0_DIE_LIMIT => c.fuses.goose.getD 0 0
  | .FLT_GOOSE_LIM0_MEM_LIMIT => c.fuses.goose.getD 1 0
  | .FLT_GOOSE_LIM0_VSTK_OV => c.fuses.goose.getD 2 0
  | .FLT_GOOSE_LIM1_OC_VSTK => c.fuses.goose.getD 3 0
  | .FLT_GOOSE_LIM1_OC_VDDM => c.fuses.goose.getD 4 0
  | .FLT_GOOSE_LIM2_OC_VPPM => c.fuses.goose.getD 5 0
  | .FLT_GOOSE_LIM2_OC_VIO => c.fuses.goose.getD 6 0
  | .FLT_GOOSE_LIM3_DOV_TILE => c.fuses.goose.getD 7 0
  | .FLT_GOOSE_LIM3_DOV_CPU => c.fuses.goose.getD 8 0
  | .FLT_GOOSE_LIM3_DOV_MEMIF => c.fuses.goose.getD 9 0
  | .FLT_GOOSE_LIM3_DOV_LINK => c.fuses.goose.getD 10 0
  | .FLT_GOOSE_LIM4_DOV_FABRIC => c.fuses.goose.getD 11 0
  | .FLT_SRC_CLASS => sourceClass (i / 16) (i % 16)
  | _ => f.info.rst

end Sys2Proof.Machine
end

