-- ==== Sys2Proof/Machine/State.lean ====
section
/-! DEFINITION. The state of the Balinette as plain data: the register fields of every chapter in one sparse table, and beside
them, chapter by chapter, what the rules keep that no register shows. `State.reset` is the block at AON power-on, before its
fuses are read. -/

namespace Sys2Proof.Machine

/-- How the phases of a group conduct (R73, R82): in diode emulation no current flows back, in forced continuous conduction it
may, and while a group stops it may down to minus a limit in 0.25 A. -/
inductive Conduction where
  | diode
  | forced
  | down (limit : Nat)
deriving DecidableEq, Repr

/-- A message, or a change of a line, that the Balinette sends to its surroundings. -/
inductive OutMsg where
  /-- One on-time pulse of a phase: its on-time code (R68), its start in 0.25 ns of the time base (R69), and how the phase
  conducts (R73, R82). -/
  | pulse (phase tcode start : Nat) (mode : Conduction)
  /-- A PMBus read transaction: the 7-bit address, 1 MHz instead of 400 kHz, the command code and the data bytes read (R95). -/
  | pmbusRead (addr : Nat) (fast : Bool) (code bytes : Nat)
  /-- A bus reset on the PMBus segment (R99). -/
  | pmbusReset
  /-- STEP_SET (R257): domain, step, FREQ, ISSUE and the time of the change. -/
  | stepSet (dom step freq issue time : Nat)
  /-- QUIESCE_REQ to the load of a domain (R126). -/
  | quiesceReq (dom : Nat)
  /-- PERMIT (R190): tile, REQ_ID, CHARGE and the grant time. -/
  | permit (tile reqId charge time : Nat)
  /-- DENY (R190): tile, REQ_ID and REASON. -/
  | deny (tile reqId reason : Nat)
  /-- SLOPE_SET (R237) to one tile: its 16 bytes. -/
  | slopeSet (tile : Nat) (bytes : List Nat)
  /-- The write-permit level of a tower (R261). -/
  | writePermit (tower : Nat) (level : Bool)
  /-- A lock-link message on a port: its 32 bytes (R273). -/
  | lock (port : Nat) (bytes : List Nat)
  /-- A command on the serial flash bus and its address (R393). -/
  | flash (cmd addr : Nat)
  /-- A write on the bus-master port: host address and bytes (R452). -/
  | busWrite (addr : Nat) (bytes : List Nat)
  /-- An interrupt to a processor (R332, R416). -/
  | irq (cp : Nat)
  /-- What a read of the window returns to its initiator (R11, R18). -/
  | readData (init off value : Nat)
  /-- An error response on the target port (R11, R451). -/
  | errorResponse (init off : Nat)
deriving DecidableEq, Repr

/-! ### Faults (chapter Fault Collection and Reaction) -/

/-- A raise on its way to the fault logic (R416, R418): its source, unit, access and time. -/
structure Raise where
  sub : Nat
  code : Nat
  index : Nat
  master : Nat
  addr : Nat
  typ : Nat
  time : Nat
deriving DecidableEq, Repr

/-- A held fault record of R414 with its sequence number. -/
structure FltRec where
  seq : Nat
  sub : Nat
  code : Nat
  cls : Nat
  esc : Bool
  recov : Bool
  fec : Bool
  master : Nat
  index : Nat
  count : Nat
  time : Nat
deriving DecidableEq, Repr

/-- Fault logic, error pair and Goose beside their registers (R415, R423, R426 to R429). `stop` is true while the fatal stop
of R423 runs; `pairForced` while R426 drives asserted levels; `gooseShut` lists the outputs the Goose holds shut: 0 to 3 the
phases of a group, 4 every cell, 5 + d every cell of domain d; `pendTime` holds the TIME of the raise that opened a source's window or the
count at which it entered QUIET_WAIT, `pendIdx` that raise's INDEX, `newest` the number of a source's newest record, by 16 × SUB + CODE;
`beat` is the time of the last heartbeat to the Goose; `treeB` the senders whose messages travel on tree B (R35); `powerOn` is true from AON power-on until the end of FUSE_LOAD, while the pair is asserted (R424). -/
structure FltState where
  recs : List FltRec
  pendTime : Tbl Nat Nat
  pendIdx : Tbl Nat Nat
  newest : Tbl Nat Nat
  stop : Bool
  pairForced : Bool
  powerOn : Bool
  gooseShut : List Nat
  beat : Nat
  treeB : List Nat
deriving DecidableEq, Repr

/-! ### Phase groups -/

/-- The pulse tests of one phase (R87 to R89, R93). -/
structure PhaseTest where
  openRun : Nat
  senseRun : Nat
  rangeRun : Nat
  xrRun : Nat
  declared : Bool
  origin : Nat
  faulty : Bool
deriving DecidableEq, Repr

/-- Phase groups and PMBus host beside their registers: the tests of each phase, the valley limit of each group in 0.25 A
(R80), the phases whose next pulse is held (R79), the sensed voltage at entry into STOP_RAMP, the groups with a fatal cause
pending and those whose STOP_DELAY has passed (R82); `grpAt` when each group entered its state, `rampFrom` and `rampAt` the
voltage in microvolts and the time from which its ramp reference moves (R82 to R84); `pass` the phases that are still to
take their pulse in the pass in progress (R70), `restAt` the end of each phase's minimum off-time and `nextAt` the earliest
start of a group's next pulse, both in 0.25 ns (R69); `design` the effective EDC and TDC of a group in A (R63); the PMBus
reads still to do in the slot (command codes), whether a poll cycle is among them, whether the read in progress has been
retried, the rotation of R96, the slots in a row with a failed read, whether this slot has one, the time of the last
complete cycle, that of the last good READ_TEMPERATURE_2 (R265), and the decoded words of R97 by command code, as mantissa
and exponent of two. -/
structure PhsState where
  tests : Tbl Nat PhaseTest
  valley : Tbl Nat Nat
  held : Tbl Nat Bool
  vEntry : Tbl Nat Nat
  fatal : Tbl Nat Bool
  stopGo : Tbl Nat Bool
  grpAt : Tbl Nat Nat
  rampFrom : Tbl Nat Nat
  rampAt : Tbl Nat Nat
  pass : Tbl Nat (List Nat)
  restAt : Tbl Nat Nat
  nextAt : Tbl Nat Nat
  design : Tbl Nat (Nat × Nat)
  pmbReads : List Nat
  pmbCycle : Bool
  pmbRetried : Bool
  pmbRot : Nat
  pmbFailRun : Nat
  pmbSlotFailed : Bool
  pmbLast : Option Nat
  pmbT2 : Option Nat
  pmbVal : Tbl Nat (Int × Int)
deriving DecidableEq, Repr

/-! ### Cells and domains -/

/-- The runs of consecutive samples of one droop sensor's tests (R129): samples out of range, samples of one unchanged reading
with the lowest and highest domain current in mA over them, samples that disagree, the last reading, and whether the return
test runs. -/
structure SensorRun where
  range : Nat
  stuck : Nat
  stuckLo : Nat
  stuckHi : Nat
  disagree : Nat
  lastHr : Int
  lastDroop : Nat
  recheck : Bool
deriving DecidableEq, Repr

/-- The sense test of one cell (R110 cause 4): readings in a row out of range, and readings in a row equal to the last. -/
structure CellRun where
  outRun : Nat
  sameRun : Nat
  last : Int
deriving DecidableEq, Repr

/-- Cells and domains beside their registers. Per cell: `checking` a READMIT check runs (R112); `rejoin` PRECHARGE with the
isolation switch open (R109); `cellRun` the sense test. Per domain: `iHist` its current at the last 16 droop samples, newest first, in mA; `admitted` the wake has been admitted (R118); `fenceReq`
a fence request is pending; `quiesceCeil` the quiesce ceiling of R118; `ramping` the ramp-down has begun (R119); `lossFence`
step 0 of R114 acts; `floor` 0 without a droop floor, and one more than its height above stage 1 in codes with one (R130); `floorFalling` the floor falls;
`viaDrop` the measured drop P of R60 in microvolts; `hrDom` the
domain minimum of the tree in 0.5 mV, where the domain is a member; `dsRun` the tests of a droop sensor. For the stack:
`hrStack` the stack minimum in 0.5 mV; `hrGate` the minimum over domains other than WAKING (R131); `hrOkAt` since when the stack minimum has stood at or above
H − 2.5 mV (R358); `hadMember` the tree has
had a member since the engine started (R59); `stackGate` the gates are closed by R131; `gateAll` every gate is closed by a
fatal raise (R422); `powerGo` the domains that POWER may wake: 0 none, 1 fabric, 2 all (R399); `forced` a quiesce that has
timed out. -/
structure DomState where
  checking : Tbl Nat Bool
  rejoin : Tbl Nat Bool
  cellRun : Tbl Nat CellRun
  iHist : Tbl Nat (List Nat)
  admitted : Tbl Nat Bool
  fenceReq : Tbl Nat Bool
  quiesceCeil : Tbl Nat Nat
  ramping : Tbl Nat Bool
  lossFence : Tbl Nat Bool
  floor : Tbl Nat Nat
  floorFalling : Tbl Nat Bool
  viaDrop : Tbl Nat Nat
  hrDom : Tbl Nat Int
  dsRun : Tbl Nat SensorRun
  hrStack : Option Int
  hrGate : Option Int
  hrOkAt : Option Nat
  hadMember : Bool
  stackGate : Bool
  gateAll : Bool
  powerGo : Nat
  forced : Tbl Nat Bool
deriving DecidableEq, Repr

/-! ### Control engine -/

/-- One element (R135, R145, R147): integrator `integ` in Q10.30, output `y`, `act`, profile position, speed and acceleration
with 8 fraction bits, the terms of the last output other than the integrator (`rest`, Q10.30), the primary value of the last
evaluation for DELTA, and its flags. `reopen` marks the resume of R161 at the next evaluation; `evals` counts evaluations
since the last start or closing, up to 2 (R171); `paced` and `changedAt` the pacing of R258; `fastAt` the 1 µs period of the
last evaluation of a fast element (R137). -/
structure Elem where
  started : Bool
  integ : Int
  y : Int
  act : Int
  p : Int
  v : Int
  a : Int
  rest : Int
  prevX : Option Int
  invalid : Bool
  tracking : Bool
  reopen : Bool
  evals : Nat
  paced : Bool
  changedAt : Option Nat
  fastAt : Option Nat
deriving DecidableEq, Repr

/-- What a staged entry does to one field of an item: the entry's number in its set, and mask and value at the field's own
bit 0 (R356). -/
structure Piece where
  entry : Nat
  fld : Fld
  item : Nat
  mask : Nat
  val : Nat
deriving DecidableEq, Repr

/-- A value that a slow slot still uses although a commit has replaced it: the slot, the field's item and the value (R162). -/
structure HeldParam where
  slot : Nat
  fld : Fld
  item : Nat
  val : Nat
deriving DecidableEq, Repr

/-- The engine beside its registers: elements at 256 × slot + element, whether it runs (R399), the missed periods in a row of
each slot with the number of the last one (R157), the slots whose OPEN is in effect (R159), the committed changes of slow
slots that wait for the next slow tick, and the table entries that slow slots use until then (R162). -/
structure EngState where
  running : Bool
  elems : Tbl Nat Elem
  missRun : Tbl Nat (Nat × Nat)
  opened : Tbl Nat Bool
  defer : List Piece
  held : List HeldParam
deriving DecidableEq, Repr

/-! ### The Rooster -/

/-- A waiting request: a tile's START_REQ, or the admission of a waking domain (R190, R197). `bid` is the barrier it names;
`known` is false for an unknown map epoch; `delay` and `rise` are the cycles of the profile in use (R198, R199); `moved`
is set by a ladder change after the request (R435). -/
structure StartReq where
  dom : Nat
  wake : Bool
  reqId : Nat
  wclass : Nat
  arrival : Nat
  bid : Option Nat
  engines : Nat
  step : Nat
  scale : Nat
  delay : Nat
  rise : Nat
  known : Bool
  moved : Bool
deriving DecidableEq, Repr

/-- An active wave (R178, R186 to R189) in one of the four wave slots; `floors` is the key of its pre-bias floors. -/
structure Wave where
  slot : Nat
  bid : Nat
  floors : Nat
  release : Nat
  tiles : List Nat
  engines : Nat
  granted : Nat
  armed : Bool
  released : Bool
deriving DecidableEq, Repr

/-- The pre-bias floors of one token or announcement (R185): `start` is its START or RELEASE, `wave` marks those of an announcement,
`heights` the height in codes above stage 1 of each tile whose floor has begun to fall, `covered` the tiles with a covered
permit and its profile end. -/
structure FloorSet where
  key : Nat
  start : Nat
  wave : Bool
  tiles : List Nat
  acting : Bool
  heights : Tbl Nat Nat
  covered : Tbl Nat Nat
deriving DecidableEq, Repr

/-- A permitted start whose profile is still to be checked (R200): t_on and t_end, the tick of the first of the two samples; the
tile's current in mA at the grant and at the last droop sample before t_on, its highest rise since the grant before
t_on − 100 ns, and its current at the first droop sample at or after t_end, none before it. `disturbed` is set when another
start, a ladder change or a CANCEL of the tile falls between the two samples. -/
structure ProfCheck where
  tile : Nat
  charge : Nat
  on : Nat
  fin : Nat
  first : Nat
  base : Int
  before : Int
  early : Int
  after : Option Int
  disturbed : Bool
deriving DecidableEq, Repr

/-- The Rooster beside its registers; `moved` is the time of each tile's last start, ladder change or CANCEL (R200). -/
structure StartState where
  queue : List StartReq
  waves : List Wave
  floors : List FloorSet
  nextFloor : Nat
  checks : List ProfCheck
  moved : Tbl Nat Nat
deriving DecidableEq, Repr

/-! ### Power estimation -/

/-- One domain's estimation state (R204 to R219). `counts` the last counter set that was not stale; `arrived` the set that has
arrived for the window just closed and `decided` whether it stands decided that none will be taken (R204); `iDyn`, `iLk`, `iEst`, `iMeas` in 1/16 mA; `weights` the 20-bit W_i (empty until an update has moved
them from the weight registers); sums of the millisecond; hold causes noted in it; `undo` the weights before the last update with
the window from which that update applies (R217). -/
structure EstDom where
  counts : List Nat
  arrived : Option (List Nat)
  decided : Bool
  staleRun : Nat
  iEst : Nat
  iLk : Nat
  iMeas : Nat
  estOut : Nat
  iDom : Nat
  pDom : Nat
  weights : List Int
  sumEst : Nat
  sumMeas : Nat
  sumErr : Int
  sumCounts : List Nat
  holds : List Nat
  disRun : Nat
  agrRun : Nat
  substituted : Bool
  failedCell : Bool
  undo : Option (Nat × List Int)
deriving DecidableEq, Repr

/-- A value of a weight, scale, trim or leakage field that windows before `upto` still use (R208, R217). -/
structure OldParam where
  fld : Fld
  item : Nat
  val : Nat
  upto : Nat
deriving DecidableEq, Repr

/-- What R222 takes at the close of a window: the window, VSENSE of VSTK, the power of the other groups in 1/64 µW, and the cells in
ON or LIMITED. -/
structure WinClose where
  win : Nat
  vs : Nat
  oth : Int
  cells : Nat
deriving DecidableEq, Repr

/-- The estimation engine beside its registers: per domain, values that a commit or an update has replaced and that open windows
still use, the stack sources in 1/16 mA once a window has been published, the close of the last window, and the window last
published. -/
structure EstState where
  dom : Tbl Nat EstDom
  old : List OldParam
  estStack : Option Nat
  iStack : Option Nat
  close : Option WinClose
  published : Option Nat
deriving DecidableEq, Repr

/-! ### The Ox -/

/-- The Ox beside its registers: sums of the millisecond in progress in 1/64 microwatt and its windows, P_ms and P_other in
1/1,024 W, whether A has been set since release (R223), the start of the pulse and the instant since which I_STACK has
rested, F_PEAK of the last medium tick, the governed values' factor, the slopes in effect and the fields of the context last
applied, its class order and LINK_SHARE among them (R233), P_CAP last applied by CP1, and the tiles that have counted in the present FIXED_LOST interval. -/
structure BudState where
  sumP : Int
  sumOther : Int
  windows : Nat
  pMs : Int
  pOther : Int
  avgSet : Bool
  pulseStart : Option Nat
  restSince : Option Nat
  fPeak : Nat
  actUp : Nat
  actDn : Nat
  ordApplied : List Nat
  linkApplied : Nat
  ctxApplied : Option Nat
  prefStep : Nat
  boostEn : Bool
  airApplied : Nat
  fixedLost : List Nat
deriving DecidableEq, Repr

/-! ### Thermal -/

/-- One temperature sensor beside THM_SNS (R249 to R254): the results that stand for it at the last ticks, newest first (at
most five), failing samples in a row, whether a recheck runs, whether it has failed and its samples so far; at the even sensor of
a pair, the publications in a row at which the pair stood on the other side of 6 °C than DISAGREE says (R251). -/
structure SnsState where
  good : List Int
  failRun : Nat
  recheck : Bool
  recheckBad : Bool
  recheckRun : Nat
  pairRun : Nat
deriving DecidableEq, Repr

/-- Detector runs of one hot spot (R255), whether its maximum has a contributing sensor, and whether its limit condition
holds (R259). -/
structure HotRun where
  published : Bool
  alarmRun : Nat
  emergRun : Nat
  limit : Bool
deriving DecidableEq, Repr

/-- One tower beside its register (R261, R264): whether its sideband is lost, good ticks in a row for the write-permit, whether
the sideband has delivered in this period, and the periods in a row without readings and with complete ones. -/
structure TwrRun where
  lost : Bool
  wpRun : Nat
  delivered : Bool
  gap : Nat
  full : Nat
deriving DecidableEq, Repr

/-- Thermal sensing beside its registers: sensors, hot spots of domains and dies, towers; die readings of the period in
progress; whether the inlet temperature can be used; theta filters in 2^-16 units; forecast bins at 50 × tile +
millisecond in femtojoules as fractions (numerator, denominator); whether a temperature period is in progress; the count from which
each clamp unit's waits of R259 run, by unit (a tower w at 512 + w). -/
structure ThmState where
  sns : Tbl Nat SnsState
  period : Tbl Nat Int
  dom : Tbl Nat HotRun
  die : Tbl Nat HotRun
  twr : Tbl Nat TwrRun
  theta : Tbl Nat Int
  pf : Int
  thetaOk : Tbl Nat Bool
  bins : Tbl Nat (Nat × Nat)
  started : Bool
  clSince : Tbl Nat Nat
deriving DecidableEq, Repr

/-! ### Herd lock -/

/-- One lock-link port (R273 to R276): whether HERD_JOIN enabled it, a LINK_TEST has taken it, HELLO has been sent and received
since the link was last lost, CRC failures in a row, the next SEQ to send, and what the last OFFER of a down link said (R279). -/
structure HrdPort where
  enabled : Bool
  tested : Bool
  sent : Bool
  got : Bool
  crcRun : Nat
  txSeq : Nat
  fMin : Nat
  minId : Nat
  members : Nat
  exclN : Nat
deriving DecidableEq, Repr

/-- Herd lock beside its registers: the ports; whether a CHANGE has set F_GRP since the stack took its place in the group
(R280) and the CHG_SEQ last applied; the content of the last OFFER sent; REQ_SEQ and whether a request is open (R282); whether
no new request may be raised before the next CT, and the time before which none may be raised; REQ_SEQ of the root's entries;
the one-way delay of the up link in ticks (R284); ticks still to correct and the edges since the last correction (R284,
R285). -/
structure HrdState where
  ports : Tbl Nat HrdPort
  agreed : Bool
  lastSeq : Option Nat
  lastOffer : Option (Nat × Nat × Nat × Nat)
  reqSeq : Nat
  reqOpen : Bool
  barCt : Bool
  barUntil : Nat
  exclSeq : Tbl Nat Nat
  delay : Option Nat
  corr : Int
  edge : Nat
deriving DecidableEq, Repr


/-! ### Telemetry and capture -/

/-- What the droop samples of one 1 µs window say of a domain: the highest droop, and the sum and number of the headroom readings of
its valid sensors, in 0.5 mV (R66, R310). -/
structure DroopWin where
  droop : Nat
  hrSum : Int
  hrN : Nat
deriving DecidableEq, Repr

/-- What a telemetry window has gathered of one domain so far (R309, R310): metered windows, sums and extremes of current
(1/16 mA), voltage (0.25 mV), power and cell input power (1/64 µW), the estimate (1/16 mA), hot-spot maxima (1/8 °C), tree
minimum and droop (0.5 mV), steps, permits and substituted windows; the 1 µs window in progress, and the one that has closed and
is not yet published. -/
structure DomAcc where
  cover : Nat
  iSum : Nat
  iPeak : Nat
  vSum : Int
  vMin : Option Int
  pSum : Nat
  pPeak : Nat
  pInSum : Nat
  estSum : Nat
  estInvalid : Bool
  tSum : Int
  tCount : Nat
  tMax : Option Int
  tSubst : Bool
  hrMin : Option Int
  droopMax : Nat
  stepLo : Option Nat
  stepHi : Nat
  permits : Nat
  substWin : Nat
  win : DroopWin
  closed : Option DroopWin
deriving DecidableEq, Repr

/-- What a telemetry window has gathered of the stack (R311): windows, VSTK current sum and peak in 1/16 mA, the lowest stack
minimum, and permits. -/
structure StackAcc where
  windows : Nat
  iSum : Nat
  iPeak : Nat
  hrMin : Option Int
  grants : Nat
deriving DecidableEq, Repr

/-- A record formed and not yet written: its 64 bytes and the time it was formed (R309, R311, R315). -/
structure TlmRec where
  bytes : List Nat
  born : Nat
deriving DecidableEq, Repr

/-- One encoded block of a capture (R321): its bytes and whether the trigger instant lies in it. -/
structure CapBlock where
  bytes : List Nat
  trig : Bool
deriving DecidableEq, Repr

/-- The capture beside its registers (R320 to R324): sample instants latched and not yet encoded, oldest first, each the
time, whether a source gave no value, and one sample a channel; the whole blocks in the buffer, oldest first; whether a
trigger event has met the armed capture; the index in `inst` of the trigger instant, once it is known and while its block is
not yet encoded; the time of the trigger instant; blocks still to encode in POST; dump writes not yet acknowledged and whether
the next of them is on the port; the count at which ARMED was entered. -/
structure CapState where
  inst : List (Nat × Bool × List (Nat × Int))
  blocks : List CapBlock
  hit : Bool
  trigAt : Option Nat
  trigTime : Option Nat
  postLeft : Nat
  dumpLeft : Nat
  issued : Bool
  armedAt : Nat
deriving DecidableEq, Repr

/-- The telemetry engine beside its registers: records waiting, the next SEQ, whether records have been dropped since the last
one written, whether an ENABLE or its withdrawal waits for the slow tick, whether records are formed, windows since the last
notice and, for each notice that is due, the records that go before it (R317); the number of the slow tick that last closed a
window, the gathered windows, the energy of each domain since AON power-on in 1/64 pJ (R310), and the capture. -/
structure TlmState where
  queue : List TlmRec
  seq : Nat
  lostBefore : Bool
  startWait : Bool
  stopWait : Bool
  forming : Bool
  notifyRun : Nat
  notices : List Nat
  lastTick : Nat
  dom : Tbl Nat DomAcc
  stack : StackAcc
  energy : Tbl Nat Nat
  cap : CapState
deriving DecidableEq, Repr


/-! ### Partners and command packets -/

/-- A handed-over packet (R337, R341): the initiator that wrote the slot, its header and payload bytes, and the count of
hand-overs at its hand-over, which orders packets (R343). -/
structure Packet where
  init : Nat
  op : Nat
  flags : Nat
  pid : Nat
  ver : Nat
  tag : Nat
  len : Nat
  epoch : Nat
  crc : Nat
  payload : List Nat
  order : Nat
deriving DecidableEq, Repr

/-- Where a packet in flight stands (R343, R344, R366): waiting to be taken by intake, taken by intake with its checks passed, in
CP0's firmware queue, in the mailbox from CP0 to CP1, started, or pending with its final reply to come. -/
inductive PktPhase where
  | intake
  | taken
  | queued
  | boxed
  | started
  | pending
deriving DecidableEq, Repr

/-- A busy slot: its packet, where it stands, the time of its hand-over, and the count of packets that intake had passed to CP0
before it, which orders CP0's queue (R366). -/
structure InFlight where
  pkt : Packet
  phase : PktPhase
  began : Nat
  passed : Nat
deriving DecidableEq, Repr

/-- The tag, CRC and final reply of a completed packet (R345): the reply's words as written. -/
structure TagRec where
  tag : Nat
  crc : Nat
  reply : List Nat
deriving DecidableEq, Repr

/-- A partner set beside its registers (R346, R347): full REG_EPOCH, the time of its last accepted packet, and the last 16
completed tags, newest first. -/
structure Partner where
  epoch : Nat
  last : Nat
  tags : List TagRec
deriving DecidableEq, Repr

/-- The kinds of standing request that a release settles (R348). -/
inductive StandKind where
  | cap (watts : Nat)
  | fixed
  | telemetry
  | capture
  | herd
  | staged
deriving DecidableEq, Repr

/-- A standing request: its partner, none while it is kept unowned, and its initiator (R348). -/
structure Standing where
  owner : Option Nat
  init : Nat
  kind : StandKind
deriving DecidableEq, Repr

/-- A staged entry (R354): offset, mask and value, and the item a selector of its set chose. -/
structure Entry where
  off : Nat
  mask : Nat
  val : Nat
  item : Nat
deriving DecidableEq, Repr

/-- One initiator's staged set with its private selectors: CE_ELEM_SEL, THM_DOM_SEL and ADC_CAL_SEL words (R354). -/
structure StagedSet where
  entries : List Entry
  ceSel : Nat
  thmSel : Nat
  adcSel : Nat
deriving DecidableEq, Repr

/-- One journal line: a field, its item and the value before the epoch (R358). -/
structure JournalLine where
  fld : Fld
  item : Nat
  old : Nat
deriving DecidableEq, Repr

/-- A committed run (R355 to R358, R409, R462): identifier, RETUNE, DRY_RUN, EXPECT_N, the initiator; whether CMD_COMMIT made
it, the partner whose COMMIT_EPOCH made it, and the slot that waits for its final reply; its entries and their pieces, its
epochs, the journal of each epoch applied, newest first; the slot of the ABORT_RETUNE that waits for it and whether one is held;
epochs undone so far; whether it halted in a walk-back, whether an epoch or record has been applied and settles, whether
its next one waits for the end of the control-plane interval, and when the last one was applied. -/
structure Run where
  id : Nat
  retune : Bool
  dry : Bool
  expectN : Nat
  init : Nat
  direct : Bool
  part : Option Nat
  slot : Option Nat
  entries : List Entry
  pieces : List Piece
  epochs : List (List Piece)
  journal : List (List JournalLine)
  abortSlot : Option Nat
  abortHeld : Bool
  undone : Nat
  back : Bool
  settling : Bool
  barred : Bool
  appliedAt : Nat
deriving DecidableEq, Repr

/-- The command interface beside its registers. Slot s of set p is key 8 p + s. `slotMem` holds the words of the command slots
and `replyMem` those of the reply slots, by word number from the start of their area; `latch` the initiator of each latched
registration slot and `readBack` the registration slots whose final reply is written; `standing` the standing requests in
order; `sets` the staged sets by initiator; `hiLatch` the high-word latches (R18): initiator and quantity with the word. -/
structure CmdState where
  slotMem : Tbl Nat Nat
  replyMem : Tbl Nat Nat
  inflight : Tbl Nat InFlight
  latch : Tbl Nat Nat
  readBack : List Nat
  partners : Tbl Nat Partner
  epochCtr : Nat
  orderCtr : Nat
  passCtr : Nat
  standing : List Standing
  sets : Tbl Nat StagedSet
  runs : List Run
  runState : Nat
  runCtr : Nat
  intakeTurn : Nat
  hiLatch : List (Nat × Nat × Nat)
deriving DecidableEq, Repr



/-! ### Bring-up and reset -/

/-- A configuration image that has passed its checks (R394, R395): its VERSION, its LEN and its value words with their
offsets, in image order. -/
structure FlashImage where
  version : Nat
  len : Nat
  words : List (Nat × Nat)
deriving DecidableEq, Repr

/-- Bring-up beside its registers: the step of the release sequence (R399): 0 none, 1 bus wait, 2 converters, 3 VPPM, 4 VDDM,
5 VIO, 6 VSTK, 7 engine and fabric domains, 8 the other domains; whether the stack has been released since the last block reset
(R334, R399); whether an ordered block reset stops the stack (R405); an
image load with the ROM image alone (R398); whether the flash has been woken (R393) and the backup copy is read next; the
flash image to apply; the count since which MISC0 has read from 10.8 V to 13.2 V (R399); whether BL_CPRST_N is low (R406); the customer fuse word being programmed with its bits, and the
customer bits programmed so far, which no reset clears (R403). -/
structure BootState where
  release : Nat
  released : Bool
  blockStop : Bool
  romOnly : Bool
  flashAwake : Bool
  backup : Bool
  image : Option FlashImage
  cpPin : Bool
  progWord : Option (Nat × Nat)
  burned : Tbl Nat Nat
  busOk : Option Nat
deriving DecidableEq, Repr


/-! ### Analog measurement -/

/-- What a running conversion of a converter is for (R294, R296, R297): an entry of the sequence it runs, a cross-read of a partner's
channel with the partner's calibrated code and the gain, a calibration conversion, ADC_URG_REQ, or the urgent timer of a converter. -/
inductive Conv where
  | entry (e : Nat)
  | cross (ch cal gain : Nat)
  | calib
  | urgent
  | timer (owner : Nat)
deriving DecidableEq, Repr

/-- One converter beside its registers (R293 to R305): whether it is in a round, whether the next round waits for its end, the
round number and the converter whose sequence it runs; the entry it is on is POS: `waits` for its pulse, `ready` to convert;
the running conversion, the count at its start, and GAIN and OFS of its channel then; the converters whose urgent timers wait for
it, and the tick its own timer last took; a cross-read that waits (channel, calibrated code, gain); checks out of bounds in a row; the entry last
cross-read and whether this round has had its cross-read; the recheck's conversions so far, whether one was out of bounds, and
whether it has passed. -/
structure AdcCv where
  inRound : Bool
  late : Bool
  rnd : Nat
  seqOf : Nat
  waits : Bool
  ready : Bool
  cur : Option Conv
  start : Nat
  cal : Nat × Int
  timers : List Nat
  utAt : Option Nat
  cross : Option (Nat × Nat × Nat)
  badChk : Nat
  xrLast : Nat
  xrDone : Bool
  rcN : Nat
  rcBad : Bool
  rcDone : Bool
deriving DecidableEq, Repr

/-- The accumulation of an entry with AVGL above 0 (R295). -/
structure AdcAvg where
  n : Nat
  sum : Nat
  ovr : Bool
deriving DecidableEq, Repr

/-- The check comparison of a pair (R302): the round and reading of each converter's last check in bounds, the round last compared,
and rounds in a row that disagree or agree. -/
structure PairChk where
  even : Option (Nat × Nat)
  odd : Option (Nat × Nat)
  last : Option Nat
  disRun : Nat
  agrRun : Nat
deriving DecidableEq, Repr

/-- The calibration step in progress (R301): channel, step, target, the slot of its command and the count at its acceptance;
whether a conversion waits or runs, the conversions done and the sum of their raw codes. -/
structure CalStep where
  ch : Nat
  step : Nat
  target : Nat
  slot : Nat
  at_ : Nat
  due : Bool
  n : Nat
  sum : Nat
deriving DecidableEq, Repr

/-- The converters beside their registers: averages and timeout skips in a row by 16 × converter + entry; the channel and gain
of an urgent request that waits or converts; the time of each channel's last publication; the calibration step, the readings
and targets of ZERO steps, and GAIN and OFS of the configuration image by channel. -/
structure AdcState where
  cv : Tbl Nat AdcCv
  avg : Tbl Nat AdcAvg
  skips : Tbl Nat Nat
  chk : Tbl Nat PairChk
  urgCh : Option Nat
  pubTime : Tbl Nat Nat
  step : Option CalStep
  zero : Tbl Nat (Int × Nat)
  calImg : Tbl Nat (Nat × Nat)
deriving DecidableEq, Repr


/-! ### Firmware and link test -/

/-- An activation that has been accepted (R376, R377): the slots of the ACTIVATE_IMAGE packets that wait for it, the processor mask, the bank, the
processors that have still to switch in order, and whether switching has begun. -/
structure Activation where
  slots : List Nat
  mask : Nat
  bank : Nat
  left : List Nat
  begun : Bool
deriving DecidableEq, Repr

/-- What CP1 has been asked for, as the run it has committed took it (R231, R367): the context, the mode with its step, STAGGER,
WINDOW and the cap. -/
structure CpWants where
  ctx : Option Nat
  mode : Option (Nat × Nat)
  stagger : Option Nat
  window : Option Nat
  cap : Nat
deriving DecidableEq, Repr

/-- Firmware beside its registers: the bytes each bank holds; the slot of the LAST block under verification (R373); the
activation in progress; the IF_VERSION of each processor's checkpoint (R368); the crash times of each processor, newest first
(R382); the context and the mode with its step that partners have asked of CP1 and CP1 has not applied, STAGGER and WINDOW of the latest
SET_POWER_CAP, those of them that CP1's run has taken and the identifier of that run, whether CP1 is to reapply in full (R231, R378), P_AIR of its last change and whether it has shared a cap yet (R230, R267); the SRAM words that the copy of
an image or a debug write has left, at 65,536 × processor + word, the MPU table that each processor has loaded (R364), and when
the watchdog of each processor started last (R379). -/
structure FwState where
  banks : Tbl Nat (List Nat)
  verify : Option Nat
  act : Option Activation
  ckpt : Tbl Nat Nat
  crashes : Tbl Nat (List Nat)
  wantCtx : Option Nat
  wantMode : Option (Nat × Nat)
  wantStagger : Option Nat
  wantWindow : Option Nat
  taken : CpWants
  cpRun : Option Nat
  reapply : Bool
  pAir : Nat
  shared : Bool
  sram : Tbl Nat Nat
  mpu : Tbl Nat (List Nat)
  kicks : Tbl Nat Nat
deriving DecidableEq, Repr

/-- The link tests that run: the slot of each link's LINK_TEST (R455, R456), and the end of its duration. -/
structure LtState where
  runs : Tbl Nat (Nat × Nat)
deriving DecidableEq, Repr



/-! ### The whole state -/

/-- The Balinette. `time` is the time-base count (R37); `cfg` what straps and fuses have fixed; `fields` the register fields
that differ from their reset values or have been written; `raiseQ` the raises on their way to the fault logic; `out` the
messages sent to the surroundings, oldest first; `freeCtr` counts the open values taken so far (the model's own field);
`pending` the commands that wait. -/
structure State where
  time : Nat
  cfg : Cfg
  fields : Tbl Fld (Tbl Nat Nat)
  raiseQ : List Raise
  out : List OutMsg
  freeCtr : Nat
  flt : FltState
  phs : PhsState
  dom : DomState
  eng : EngState
  start : StartState
  est : EstState
  bud : BudState
  thm : ThmState
  hrd : HrdState
  tlm : TlmState
  cmd : CmdState
  boot : BootState
  adc : AdcState
  fw : FwState
  lt : LtState
  pending : List Instr
deriving DecidableEq, Repr

/-- Why a command stops the block. The Balinette answers every access and every event (R11, R13), so nothing stops it: the
type has no constructor that a meaning raises. -/
inductive Fault where
  /-- Never raised (safe: no run ends in it). -/
  | none
deriving DecidableEq, Repr

/-- Why a command has no meaning. -/
inductive Refusal where
  /-- The command of that mnemonic is not modelled yet; raised by its arm of `exec` alone (safe: the model stops). -/
  | notModelled (mnemonic : String)
deriving DecidableEq, Repr

/-! ### Reset (R404, AON power-on) -/

/-- The fault logic at AON power-on: the pair is asserted until the end of FUSE_LOAD (R424). -/
def FltState.reset : FltState :=
  { recs := [], pendTime := [], pendIdx := [], newest := [], stop := false, pairForced := false, powerOn := true, gooseShut := [], beat := 0,
    treeB := [] }

/-- The phase groups at reset. -/
def PhsState.reset : PhsState :=
  { tests := [], valley := [], held := [], vEntry := [], fatal := [], stopGo := [], grpAt := [], rampFrom := [],
    rampAt := [], pass := [], restAt := [], nextAt := [], design := [], pmbReads := [], pmbCycle := false,
    pmbRetried := false, pmbRot := 0, pmbFailRun := 0, pmbSlotFailed := false, pmbLast := none, pmbT2 := none, pmbVal := [] }

/-- Cells and domains at reset. -/
def DomState.reset : DomState :=
  { checking := [], rejoin := [], cellRun := [], iHist := [], admitted := [], fenceReq := [], quiesceCeil := [], ramping := [],
    lossFence := [], floor := [], floorFalling := [], viaDrop := [], hrDom := [], dsRun := [], hrStack := none,
    hrGate := none, hrOkAt := none, hadMember := false, stackGate := false, gateAll := false,
    powerGo := 0, forced := [] }

/-- The control engine at reset: it does not run before release (R399). -/
def EngState.reset : EngState := { running := false, elems := [], missRun := [], opened := [], defer := [], held := [] }

/-- The Rooster at reset. -/
def StartState.reset : StartState := { queue := [], waves := [], floors := [], nextFloor := 0, checks := [], moved := [] }

/-- The estimation engine at reset. -/
def EstState.reset : EstState := { dom := [], old := [], estStack := none, iStack := none, close := none, published := none }

/-- The Ox at reset: the slopes and the fields of context 0 (R232). -/
def BudState.reset : BudState :=
  { sumP := 0, sumOther := 0, windows := 0, pMs := 0, pOther := 0, avgSet := false, pulseStart := none, restSince := none,
    fPeak := 32768, actUp := 10, actDn := 10, ordApplied := [0, 2, 1], linkApplied := 0x400, ctxApplied := none, prefStep := 13, boostEn := true, airApplied := 32768,
    fixedLost := [] }

/-- Thermal sensing at reset. -/
def ThmState.reset : ThmState :=
  { sns := [], period := [], dom := [], die := [], twr := [], theta := [], pf := 0, thetaOk := [], bins := [],
    started := false, clSince := [] }

/-- Herd lock at reset. -/
def HrdState.reset : HrdState :=
  { ports := [], agreed := false, lastSeq := none, lastOffer := none, reqSeq := 0, reqOpen := false, barCt := false,
    barUntil := 0, exclSeq := [], delay := none, corr := 0, edge := 64 }


/-- A 1 µs window before its first droop sample. -/
def DroopWin.empty : DroopWin := { droop := 0, hrSum := 0, hrN := 0 }

/-- A domain's telemetry window at its start. -/
def DomAcc.empty : DomAcc :=
  { cover := 0, iSum := 0, iPeak := 0, vSum := 0, vMin := none, pSum := 0, pPeak := 0, pInSum := 0, estSum := 0,
    estInvalid := false, tSum := 0, tCount := 0, tMax := none, tSubst := false, hrMin := none, droopMax := 0, stepLo := none,
    stepHi := 0, permits := 0, substWin := 0, win := DroopWin.empty, closed := none }

/-- The stack's telemetry window at its start. -/
def StackAcc.empty : StackAcc := { windows := 0, iSum := 0, iPeak := 0, hrMin := none, grants := 0 }

/-- The capture at reset. -/
def CapState.reset : CapState :=
  { inst := [], blocks := [], hit := false, trigAt := none, trigTime := none, postLeft := 0, dumpLeft := 0, issued := false,
    armedAt := 0 }

/-- The telemetry engine at reset. -/
def TlmState.reset : TlmState :=
  { queue := [], seq := 0, lostBefore := false, startWait := false, stopWait := false, forming := false, notifyRun := 0,
    notices := [], lastTick := 0, dom := [], stack := StackAcc.empty, energy := [], cap := CapState.reset }


/-- The command interface at AON power-on. -/
def CmdState.reset : CmdState :=
  { slotMem := [], replyMem := [], inflight := [], latch := [], readBack := [], partners := [], epochCtr := 0, orderCtr := 0, passCtr := 0,
    standing := [], sets := [], runs := [], runState := 0, runCtr := 0, intakeTurn := 0, hiLatch := [] }


/-- Bring-up at AON power-on. -/
def BootState.reset : BootState :=
  { release := 0, released := false, blockStop := false, romOnly := false, flashAwake := false, backup := false, image := none, cpPin := false,
    progWord := none, burned := [], busOk := none }


/-- The converters at AON power-on. -/
def AdcState.reset : AdcState :=
  { cv := [], avg := [], skips := [], chk := [], urgCh := none, pubTime := [], step := none, zero := [], calImg := [] }


/-- Firmware at AON power-on: both banks EMPTY, every processor OFF. -/
def FwState.reset : FwState :=
  { banks := [], verify := none, act := none, ckpt := [], crashes := [], wantCtx := none, wantMode := none,
    wantStagger := none, wantWindow := none, taken := { ctx := none, mode := none, stagger := none, window := none, cap := 1100 },
    cpRun := none, reapply := false, pAir := 1100, shared := false, sram := [], mpu := [], kicks := [] }

/-- No link test at reset. -/
def LtState.reset : LtState := { runs := [] }

/-- The block at AON power-on: POWER_ON, the count at 0, nothing read from fuses, straps or flash, no command waiting. -/
def State.reset : State :=
  { time := 0, cfg := Cfg.reference, fields := [], raiseQ := [], out := [], freeCtr := 0, flt := FltState.reset,
    phs := PhsState.reset, dom := DomState.reset, eng := EngState.reset, start := StartState.reset, est := EstState.reset,
    bud := BudState.reset, thm := ThmState.reset,
    hrd := HrdState.reset,
    tlm := TlmState.reset,
    cmd := CmdState.reset,
    boot := BootState.reset,
    adc := AdcState.reset,
    fw := FwState.reset,
    lt := LtState.reset,
    pending := [] }

end Sys2Proof.Machine
end

