-- ==== Sys2Proof/Machine/Ops.lean ====
section
/-! DEFINITION. The operations every meaning is written with: reading and writing a register field, saturating counts,
signed fields, rounding, open values, messages to the surroundings, and raising a fault. -/

namespace Sys2Proof.Machine

/-! ### Register fields -/

/-- The stored value of item `i` of a register field; its reset value where nothing has been stored. -/
def State.getF (s : State) (f : Fld) (i : Nat) : Nat :=
  Tbl.get (Fld.rst s.cfg f i) (Tbl.get [] s.fields f) i

/-- Stores `v`, cut to the field's width, in item `i` of a register field. -/
def State.setF (s : State) (f : Fld) (i : Nat) (v : Nat) : State :=
  { s with fields := Tbl.set Fld.ctorIdx s.fields f (Tbl.put (Tbl.get [] s.fields f) i (v % 2 ^ f.width)) }

/-- Stores a truth value in a one-bit field. -/
def State.setB (s : State) (f : Fld) (i : Nat) (b : Bool) : State := s.setF f i (if b then 1 else 0)

/-- Whether a field reads other than 0. -/
def State.isSet (s : State) (f : Fld) (i : Nat) : Bool := s.getF f i ≠ 0

/-- A count that stops at the top of its field. -/
def State.bumpF (s : State) (f : Fld) (i : Nat) : State :=
  s.setF f i (min (s.getF f i + 1) (2 ^ f.width - 1))

/-- A count that stops at the top of its field, raised by `n`. -/
def State.addSatF (s : State) (f : Fld) (i n : Nat) : State :=
  s.setF f i (min (s.getF f i + n) (2 ^ f.width - 1))

/-- A count that wraps at the top of its field. -/
def State.incF (s : State) (f : Fld) (i : Nat) : State := s.setF f i (s.getF f i + 1)

/-- The signed value of a `w`-bit two's complement pattern. -/
def toS (w n : Nat) : Int := if n % 2 ^ w < 2 ^ (w - 1) then (n % 2 ^ w : Nat) else (n % 2 ^ w : Nat) - (2 ^ w : Nat)

/-- The `w`-bit two's complement pattern of a value. -/
def toU (w : Nat) (x : Int) : Nat := (x % (2 ^ w : Nat)).toNat

/-- A field read as two's complement. -/
def State.getS (s : State) (f : Fld) (i : Nat) : Int := toS f.width (s.getF f i)

/-- A field written as two's complement. -/
def State.setS (s : State) (f : Fld) (i : Nat) (x : Int) : State := s.setF f i (toU f.width x)

/-! ### Arithmetic -/

/-- Quotient rounded to nearest, ties to even (R68, R143). -/
def rneDiv (a : Int) (d : Nat) : Int :=
  let q := a / (d : Int)
  let r := a - q * d
  if 2 * r > d ∨ (2 * r = d ∧ q % 2 = 1) then q + 1 else q

/-- `a / 2^k` rounded to nearest, ties to even (R143). -/
def rne (a : Int) (k : Nat) : Int := rneDiv a (2 ^ k)

/-- A value held between two ends. -/
def clampI (lo hi x : Int) : Int := if x < lo then lo else if hi < x then hi else x

/-- A value held between two ends. -/
def clampN (lo hi x : Nat) : Nat := if x < lo then lo else if hi < x then hi else x

/-- Quotient rounded up. -/
def ceilDiv (a d : Nat) : Nat := (a + d - 1) / d

/-- Bit `i` of a word. -/
def bitOf (w i : Nat) : Bool := (w / 2 ^ i) % 2 = 1

/-- Bits `hi:lo` of a word. -/
def bitsOf (w hi lo : Nat) : Nat := (w / 2 ^ lo) % 2 ^ (hi - lo + 1)

/-- A word with bit `i` set to `b`. -/
def setBit (w i : Nat) (b : Bool) : Nat :=
  if bitOf w i = b then w else if b then w + 2 ^ i else w - 2 ^ i

/-- Width mask of a field. -/
def Fld.ones (f : Fld) : Nat := 2 ^ f.width - 1

/-- A value with the bits of a mask replaced. -/
def withMask (old mask val : Nat) : Nat := old - Nat.land old mask + Nat.land val mask

/-! ### Units -/

/-- A fold of an action over a list of unit numbers. -/
def State.each (s : State) (l : List Nat) (f : Nat → State → State) : State := l.foldl (fun t i => f i t) s

/-- A step taken only where a condition holds. -/
def State.when (s : State) (c : Bool) (f : State → State) : State := if c then f s else s

/-- An open value of the manual (assumption 1), and the state with the count of open values advanced. -/
def State.fresh (s : State) : Nat × State := (Config.freeValue s.freeCtr, { s with freeCtr := s.freeCtr + 1 })

/-- Whether the time base stands at a multiple of a period, the ticks at which a periodic activity fires (R38). -/
def State.onTick (s : State) (period : Nat) : Bool := s.time % period = 0

/-- A quotient whose rounding the manual leaves open: exact where it divides, otherwise the whole number below or the one
above. -/
def State.openDiv (s : State) (a : Int) (d : Nat) : Int × State :=
  if a % (d : Int) = 0 then (a / (d : Int), s) else (a / (d : Int) + (s.fresh.1 % 2 : Nat), s.fresh.2)

/-- Sends a message or drives a line to the surroundings. -/
def State.emit (s : State) (m : OutMsg) : State := { s with out := s.out ++ [m] }

/-- Ticks since an instant of the time base. -/
def State.since (s : State) (t : Nat) : Nat := (s.time + 2 ^ 64 - t) % 2 ^ 64

/-! ### Raising a fault (R412, R413, R416, R418) -/

/-- The offset of a register field's item (R457). -/
def fldOffset (f : Fld) (i : Nat) : Nat :=
  match regRows.find? (fun r => r.flds.contains f) with
  | none => 0
  | some r => r.base + r.s1 * (i / r.n2) + r.s2 * (i % r.n2)

/-- Raises a source without an access: the raise waits for the fault logic to take it (R416). `addr` is the offset of the
sticky event register that holds the event's bit, or 0 (R418). -/
def State.raiseAt (s : State) (sub code index addr : Nat) : State :=
  { s with raiseQ := s.raiseQ ++ [{ sub := sub, code := code, index := index, master := 0xFE, addr := addr, typ := 0,
                                    time := s.time }] }

/-- Raises a source that has no sticky event register. -/
def State.raise (s : State) (sub code index : Nat) : State := s.raiseAt sub code index 0

/-- Raises a source by an access (R418): initiator, address and access type are recorded. -/
def State.raiseAccess (s : State) (sub code index master addr typ : Nat) : State :=
  { s with raiseQ := s.raiseQ ++ [{ sub := sub, code := code, index := index, master := master, addr := addr, typ := typ,
                                    time := s.time }] }

/-- Sets a sticky event bit and raises its source: the bit's number in its register is the source's code (R413). -/
def State.event (s : State) (f : Fld) (i sub index : Nat) : State :=
  (s.setF f i 1).raiseAt sub f.info.lo index (fldOffset f i)

/-! ### The error pair (R424, R426) -/

/-- Drives the error pair: asserted while a source is ESCALATED or LATCHED, while the Goose or a read-back mismatch forces it, and
from AON power-on to the end of FUSE_LOAD. While a mismatch lasts, the levels read back stay those it reported. -/
def State.showPair (s : State) : State :=
  let a : Bool := (Tbl.get [] s.fields .FLT_SRC_STATE).any (fun q => q.2 = 2 ∨ q.2 = 4) ∨ s.isSet .FLT_STATUS_GOOSE_FORCE 0 ∨
    s.flt.powerOn ∨ s.flt.pairForced
  let s := s.setB .FLT_STATUS_PAIR_ASSERT 0 a
  if s.flt.pairForced then s else (s.setB .FLT_STATUS_PAIR_T 0 (¬ a)).setB .FLT_STATUS_PAIR_C 0 a

/-! ### The converters' mode (R307) -/

/-- State of a converter. -/
def State.cvSt (s : State) (c : Nat) : Nat := s.getF .ADC_CV_STATUS_STATE c

/-- The state of a converter in service that is not suspect. -/
def State.cvNormal (s : State) : Nat := if s.isSet .ADC_STATUS_LP_ACTIVE 0 then 0 else 1

/-- LOW_POWER and ACTIVE: the mode moves every converter in service that is not suspect (R307). -/
def State.setLowPower (s : State) (b : Bool) : State :=
  let s := s.setB .ADC_STATUS_LP_ACTIVE 0 b
  s.each (List.range 16) (fun c s =>
    if s.cvSt c ≤ 1 then (s.setF .ADC_CV_STATUS_STATE c s.cvNormal).when b (fun s => s.setF .ADC_CV_STATUS_PD c 0) else s)

/-! ### The emergency interlock (R375) -/

/-- A condition of the emergency interlock holds: it is set. -/
def State.ilSet (s : State) : State := s.setF .GLB_FW_IL_SET 0 1

/-! ### Capture trigger events (R324) -/

/-- A trigger event meets the capture: it counts while the capture is ARMED on that source, and for sources 1, 3 and 5 on
that domain. -/
def State.capEvent (s : State) (src idx : Nat) : State :=
  if s.getF .TLM_CAP_STATUS_STATE 0 = 1 ∧ s.getF .TLM_CAP_CTRL_TRIG_SRC 0 = src ∧
      ((src = 1 ∨ src = 3 ∨ src = 5) → s.getF .TLM_CAP_CTRL_TRIG_IDX 0 = idx) then
    { s with tlm := { s.tlm with cap := { s.tlm.cap with hit := true } } }
  else s

/-! ### What a telemetry window gathers (R309, R310) -/

/-- Whether a domain is metered: in WAKING, LIVE, DERATED or QUIESCING (R309). -/
def State.metered (s : State) (d : Nat) : Bool := 1 ≤ s.getF .DOM_STATUS_STATE d ∧ s.getF .DOM_STATUS_STATE d ≤ 4

/-- What the telemetry window in progress has gathered of a domain. -/
def State.acc (s : State) (d : Nat) : DomAcc := Tbl.get DomAcc.empty s.tlm.dom d

/-- Replaces what the telemetry window in progress has gathered of a domain. -/
def State.setAcc (s : State) (d : Nat) (a : DomAcc) : State :=
  { s with tlm := { s.tlm with dom := Tbl.putD DomAcc.empty s.tlm.dom d a } }

/-- A ladder step applied to a metered domain enters STEPS. -/
def State.accStep (s : State) (d st : Nat) : State :=
  if s.metered d then
    let a := s.acc d
    s.setAcc d { a with stepLo := some (min st (a.stepLo.getD st)), stepHi := max st a.stepHi }
  else s

/-- A permit with a non-zero charge enters PERMITS of the domain and GRANTS of the stack record. -/
def State.accPermit (s : State) (d : Nat) : State :=
  let a := s.acc d
  let s := s.setAcc d { a with permits := a.permits + 1 }
  { s with tlm := { s.tlm with stack := { s.tlm.stack with grants := s.tlm.stack.grants + 1 } } }

end Sys2Proof.Machine
end

