-- ==== Sys2Proof/Machine/CrcOps.lean ====
section
/-! DEFINITION. The computation of the check-value units (R328, R329, R333) and the jobs of their hardware duties (R327). -/

namespace Sys2Proof.Machine

/-- One bit of input to a register of width `w` (R328). -/
def crcBit (w poly reg bit : Nat) : Nat :=
  let top := reg / 2 ^ (w - 1) % 2
  let r := reg * 2 % 2 ^ w
  if (top + bit) % 2 = 1 then Nat.xor r (poly % 2 ^ w) else r

/-- One byte of input, bit 0 first where `refin` holds (R328). -/
def crcByte (w poly : Nat) (refin : Bool) (reg b : Nat) : Nat :=
  (List.range 8).foldl (fun r j => crcBit w poly r (b / 2 ^ (if refin then j else 7 - j) % 2)) reg

/-- A run of bytes. -/
def crcBytes (w poly : Nat) (refin : Bool) (reg : Nat) (l : List Nat) : Nat := l.foldl (crcByte w poly refin) reg

/-- The `w` low bits in reverse order. -/
def reflectBits (w n : Nat) : Nat := (List.range w).foldl (fun r j => 2 * r + n / 2 ^ j % 2) 0

/-- The result formed at FINISH (R328). -/
def crcFinish (w : Nat) (refout inv : Bool) (reg : Nat) : Nat :=
  let r := if refout then reflectBits w reg else reg
  if inv then 2 ^ w - 1 - r else r

/-- The register after a run under the standard settings (R333). -/
def crc32cReg (l : List Nat) : Nat := crcBytes 32 0x1EDC6F41 true 0xFFFFFFFF l

/-- CRC-32C of a run of bytes (R333). -/
def crc32c (l : List Nat) : Nat := crcFinish 32 true true (crc32cReg l)

/-- The bytes of a word, bits 7:0 first. -/
def wordBytes (w : Nat) : List Nat := [w % 256, w / 256 % 256, w / 65536 % 256, w / 16777216 % 256]

/-- The word of four bytes, the first in bits 7:0. -/
def bytesWord (l : List Nat) : Nat := l.getD 0 0 + 256 * l.getD 1 0 + 65536 * l.getD 2 0 + 16777216 * l.getD 3 0

/-- Bytes in little-endian words, the last one padded with zeros. -/
def wordsOf (l : List Nat) : List Nat := (List.range ((l.length + 3) / 4)).map (fun j => bytesWord (l.drop (4 * j)))

/-- The `n` little-endian bytes of a number. -/
def leBytes (n v : Nat) : List Nat := (List.range n).map (fun j => v / 256 ^ j % 256)

/-- The number that `n` bytes from position `i` spell, little-endian. -/
def leAt (l : List Nat) (i n : Nat) : Nat := (List.range n).foldl (fun a j => a + l.getD (i + j) 0 * 256 ^ j) 0

/-- The unit that carries a duty: its own, or unit 0 where the duty has moved there; a second failed duty stays on its failed unit,
which absorbs nothing (R335). -/
def State.dutyUnit (s : State) (duty : Nat) : Nat :=
  if s.getF .CRC_STATUS_STATE duty = 3 ∧ s.getF .CRC_STATUS_DUTY 0 = duty then 0 else duty

/-- Interrupts the processor that a duty's mismatches go to: that of the lease holder for unit 0's own duty, CP2 for packets and
lock links, none for telemetry. The image loader is a program of CP0, which is its processor (R327, R332, R372; DEDUCED,
assumption 110). -/
def State.crcIrq (s : State) (duty : Nat) : State :=
  let h := s.getF .CRC_LEASE_HOLDER 0
  if duty = 0 ∨ duty = 4 then s.emit (.irq (if h = 0xFF then 0 else h % 16))
  else if duty = 3 then s
  else s.emit (.irq 2)

/-- A mismatch found by a unit on a duty (R332): its count, its event, and the interrupt where IRQ_EN asks for it. -/
def State.crcMismatch (s : State) (u duty : Nat) : State :=
  let s := (s.bumpF .CRC_STATUS_MISMATCH_COUNT u).setF .CRC_EVENT_MISMATCH 0 (setBit (s.getF .CRC_EVENT_MISMATCH 0) u true)
  s.when (s.isSet .CRC_CFG_IRQ_EN u) (fun s => s.crcIrq duty)

/-- The outcome of a comparison: MATCH and MISMATCH, which read 0 where none is made (R332). -/
def State.crcOutcome (s : State) (u duty : Nat) (same : Bool) : State :=
  if s.isSet .CRC_CFG_CMP_EN u then
    ((s.setB .CRC_STATUS_MATCH u same).setB .CRC_STATUS_MISMATCH u (¬ same)).when (¬ same) (fun s => s.crcMismatch u duty)
  else (s.setF .CRC_STATUS_MATCH u 0).setF .CRC_STATUS_MISMATCH u 0

/-- One job of a hardware duty on its unit under the standard settings (R327, R330, R332): it ends in DONE, and compares with
an expected value where the unit's CMP_EN is set. A failed unit absorbs nothing. -/
def State.dutyJob (s : State) (duty : Nat) (l : List Nat) (want : Option Nat) : State :=
  let u := s.dutyUnit duty
  let reg := crc32cReg l
  let res := crcFinish 32 true true reg
  if s.getF .CRC_STATUS_STATE u = 3 then s else
  let s := ((s.setF .CRC_STATUS_STATE u 2).setF .CRC_VALUE_VALUE u reg).setF .CRC_RESULT_RESULT u res
  match want with
  | none => s
  | some e => s.crcOutcome u duty (res = e)

/-! ### Registers of a unit (R328 to R336) -/

/-- Whether the configuration commit has taken place (R402). -/
def State.committed (s : State) : Bool := s.isSet .GLB_BOOT_STATUS_CFG_COMMITTED 0

/-- Records an access refused for its initiator (R459). -/
def State.refuseInit (s : State) (init addr : Nat) : State := s.raiseAccess 0x0F 4 init init addr 2

/-- Records a write to a locked field (R16). -/
def State.refuseLocked (s : State) (init addr : Nat) : State := s.raiseAccess 0x0F 3 init init addr 2

/-- W of a unit. -/
def State.crcW (s : State) (u : Nat) : Nat := s.getF .CRC_CFG_WIDTH_M1 u + 1

/-- A write to a unit: unit 0 takes it from its holder alone; units 1 to 3 take none after the configuration commit, which is
recorded unless the write would leave a locked field at its value, as `same` says (R16, R333, R334). -/
def State.crcWrite (s : State) (init u addr : Nat) (same : Bool) (f : State → State) : State :=
  if 4 ≤ u then s
  else if u = 0 then
    if s.isSet .CRC_LEASE_HELD 0 ∧ s.getF .CRC_LEASE_HOLDER 0 = init then f s else s.refuseInit init addr
  else if s.committed then (if same then s else s.refuseLocked init addr)
  else f s

/-- A unit's state. -/
def State.crcSt (s : State) (u : Nat) : Nat := s.getF .CRC_STATUS_STATE u

/-- Enters ACTIVE with a running value (R330, R331). -/
def State.crcGo (s : State) (u v : Nat) : State :=
  if s.crcSt u = 3 then s else (s.setF .CRC_STATUS_STATE u 1).setF .CRC_VALUE_VALUE u (v % 2 ^ s.crcW u)

/-- Enters IDLE, where the running value is lost (R330, R334). -/
def State.crcIdle (s : State) (u : Nat) : State :=
  if s.crcSt u = 3 then s
  else ((s.fresh.2).setF .CRC_STATUS_STATE u 0).setF .CRC_VALUE_VALUE u (s.fresh.1 % 2 ^ s.crcW u)

/-- Absorbs bytes in ACTIVE; in IDLE and DONE the write is dropped (R329, R330). -/
def State.crcFeed (s : State) (u : Nat) (l : List Nat) : State :=
  if s.crcSt u = 3 then s
  else if s.crcSt u = 1 then
    s.setF .CRC_VALUE_VALUE u
      (crcBytes (s.crcW u) (s.getF .CRC_POLY_POLY u) (s.isSet .CRC_CFG_REFIN u) (s.getF .CRC_VALUE_VALUE u) l)
  else s.setF .CRC_STATUS_DROPPED u 1

/-- The duty that a unit serves: its own, or the one that unit 0 carries (R327, R335). -/
def State.dutyOf (s : State) (u : Nat) : Nat := if u = 0 then s.getF .CRC_STATUS_DUTY 0 else u

/-- FINISH (R328, R332): RESULT, and the comparison with EXPECT. -/
def State.crcEnd (s : State) (u : Nat) : State :=
  if s.crcSt u = 0 then s.setF .CRC_STATUS_DROPPED u 1
  else if s.crcSt u = 1 then
    let w := s.crcW u
    let res := crcFinish w (s.isSet .CRC_CFG_REFOUT u) (s.isSet .CRC_CFG_FINAL_INV u) (s.getF .CRC_VALUE_VALUE u)
    let s := (s.setF .CRC_STATUS_STATE u 2).setF .CRC_RESULT_RESULT u res
    s.crcOutcome u (s.dutyOf u) (res = s.getF .CRC_EXPECT_EXPECT u % 2 ^ w)
  else s

/-- Breaks the lease of unit 0 (R334, R336). -/
def State.breakLease (s : State) : State :=
  if s.isSet .CRC_LEASE_HELD 0 then ((s.crcIdle 0).setF .CRC_LEASE_HELD 0 0).event .CRC_EVENT_LEASE_BROKEN 0 0x0B 0 else s

/-- MATCH and MISMATCH read 0 while a unit does not compare (R332). -/
def State.crcHide (s : State) (u : Nat) : State :=
  s.when (¬ s.isSet .CRC_CFG_CMP_EN u) (fun s => (s.setF .CRC_STATUS_MATCH u 0).setF .CRC_STATUS_MISMATCH u 0)

/-- A unit enters FAILED: its duty moves to unit 0, or has no unit (R335, R336). -/
def State.crcFail (s : State) (u : Nat) : State :=
  let carried := s.getF .CRC_STATUS_DUTY 0
  let s := (s.setF .CRC_STATUS_STATE u 3).setF .CRC_RESULT_RESULT u 0
  let s := (s.setF .CRC_EVENT_FAILED 0 (setBit (s.getF .CRC_EVENT_FAILED 0) u true)).raiseAt 0x0B (4 + u) u
    (fldOffset .CRC_EVENT_FAILED 0)
  let noUnit : Bool := if u = 0 then 1 ≤ carried ∧ carried ≤ 3 else s.crcSt 0 = 3 ∨ (1 ≤ carried ∧ carried ≤ 3)
  if noUnit then s.raiseAt 0x0B 12 u (fldOffset .CRC_EVENT_FAILED 0)
  else if u = 0 then s.breakLease
  else
    let s := s.breakLease
    let s := s.each [0] (fun z s =>
      (((((s.setF .CRC_CFG_IRQ_EN z (s.getF .CRC_CFG_IRQ_EN u)).setF .CRC_CFG_CMP_EN z (s.getF .CRC_CFG_CMP_EN u)).setF
        .CRC_CFG_FINAL_INV z (s.getF .CRC_CFG_FINAL_INV u)).setF .CRC_CFG_REFOUT z (s.getF .CRC_CFG_REFOUT u)).setF
        .CRC_CFG_REFIN z (s.getF .CRC_CFG_REFIN u)).setF .CRC_CFG_WIDTH_M1 z (s.getF .CRC_CFG_WIDTH_M1 u))
    (((s.setF .CRC_POLY_POLY 0 (s.getF .CRC_POLY_POLY u)).setF .CRC_INIT_INIT 0 (s.getF .CRC_INIT_INIT u)).setF .CRC_STATUS_DUTY 0
      u).crcHide 0

/-- The settings registers of a unit by number: 0 CRC_CFG, 1 CRC_POLY, 2 CRC_INIT. -/
def State.crcSettings (s : State) (u reg v : Nat) : State :=
  match reg with
  | 0 =>
    ((((((s.setF .CRC_CFG_IRQ_EN u (v / 512)).setF .CRC_CFG_CMP_EN u (v / 256)).setF .CRC_CFG_FINAL_INV u (v / 128)).setF
      .CRC_CFG_REFOUT u (v / 64)).setF .CRC_CFG_REFIN u (v / 32)).setF .CRC_CFG_WIDTH_M1 u v).crcHide u
  | 1 => s.setF .CRC_POLY_POLY u (v % 2 ^ s.crcW u)
  | _ => s.setF .CRC_INIT_INIT u (v % 2 ^ s.crcW u)

/-- Whether a write of the settings, of EXPECT (3) or of VALUE (7) gives every field the value it holds (R16). -/
def State.crcSame (s : State) (u reg v : Nat) : Bool :=
  match reg with
  | 0 => v % 1024 = 512 * s.getF .CRC_CFG_IRQ_EN u + 256 * s.getF .CRC_CFG_CMP_EN u + 128 * s.getF .CRC_CFG_FINAL_INV u +
      64 * s.getF .CRC_CFG_REFOUT u + 32 * s.getF .CRC_CFG_REFIN u + s.getF .CRC_CFG_WIDTH_M1 u
  | 1 => v % 2 ^ s.crcW u = s.getF .CRC_POLY_POLY u % 2 ^ s.crcW u
  | 2 => v % 2 ^ s.crcW u = s.getF .CRC_INIT_INIT u % 2 ^ s.crcW u
  | 3 => v % 2 ^ s.crcW u = s.getF .CRC_EXPECT_EXPECT u % 2 ^ s.crcW u
  | 7 => v % 2 ^ s.crcW u = s.getF .CRC_VALUE_VALUE u % 2 ^ s.crcW u
  | _ => false

end Sys2Proof.Machine
end

