-- ==== Sys2Proof/Machine/CommandOps.lean ====
section
/-! DEFINITION. Replies, notices and slots (chapter Partners and Command Packets): what every other chapter's commands use to
answer the partner that asked. Slot s of set p has key 8 p + s. -/

namespace Sys2Proof.Machine

/-! ### Status codes (R342) -/

/-- OK. -/
def stOk : Nat := 0x00
/-- ACCEPTED_PENDING. -/
def stPending : Nat := 0x01
/-- DEFERRED. -/
def stDeferred : Nat := 0x02
/-- BAD_OPCODE. -/
def stBadOpcode : Nat := 0x10
/-- BAD_LENGTH. -/
def stBadLength : Nat := 0x11
/-- BAD_PARAM. -/
def stBadParam : Nat := 0x12
/-- CRC_FAIL. -/
def stCrcFail : Nat := 0x13
/-- NOT_PERMITTED. -/
def stNotPermitted : Nat := 0x20
/-- BUSY. -/
def stBusy : Nat := 0x21
/-- ABANDONED. -/
def stAbandoned : Nat := 0x30
/-- TIMEOUT. -/
def stTimeout : Nat := 0x31
/-- INTERNAL_FAULT. -/
def stInternal : Nat := 0x40

/-- Whether a status ends its packet (R340). -/
def statusFinal (st : Nat) : Bool := st ≠ stPending ∧ st ≠ stDeferred

/-! ### Notices (R353) -/

/-- Logs a notice and sets NOTICE_NEW of every partner registered with NOTICE = 1. -/
def State.notice (s : State) (typ arg : Nat) : State :=
  let n := s.getF .CMD_NOTICE_SEQ_NSEQ 0
  let e := n % 32
  let s := (((s.setF .CMD_NOTICE0_TYPE e typ).setF .CMD_NOTICE0_ARG e arg).setF .CMD_NOTICE1_TIME_LO e s.time).incF
    .CMD_NOTICE_SEQ_NSEQ 0
  s.each ((s.cmd.partners.map (fun p => p.1)).filter (fun p => 2 ≤ s.getF .CMD_PART_ID_FLAGS p)) (fun p s =>
    s.setF .CMD_PART_SLOTS_NOTICE_NEW p 1)

/-! ### Slots (R337 to R340) -/

/-- The packet in flight in a slot. -/
def State.slotPkt (s : State) (k : Nat) : Option InFlight := (s.cmd.inflight.find? (fun p => p.1 = k)).map (fun p => p.2)

/-- Shows a slot as busy or free. -/
def State.setBusy (s : State) (k : Nat) (b : Bool) : State :=
  s.setF .CMD_PART_SLOTS_BUSY (k / 8) (setBit (s.getF .CMD_PART_SLOTS_BUSY (k / 8)) (k % 8) b)

/-- Puts a packet in flight in its slot. -/
def State.putFlight (s : State) (k : Nat) (f : InFlight) : State :=
  ({ s with cmd := { s.cmd with inflight := s.cmd.inflight.put k f } }).setBusy k true

/-- Moves a packet in flight to another phase. -/
def State.setPhase (s : State) (k : Nat) (ph : PktPhase) : State :=
  { s with cmd := { s.cmd with
      inflight := s.cmd.inflight.map (fun p => if p.1 = k then (p.1, { p.2 with phase := ph }) else p) } }

/-- The 16 header bytes and payload of a reply (R341). -/
def replyBytes (op st pid tag time : Nat) (payload : List Nat) : List Nat :=
  let h := [op, st, pid, 1] ++ leBytes 2 tag ++ leBytes 2 payload.length ++ leBytes 4 time
  h ++ leBytes 4 (crc32c (h ++ payload)) ++ payload

/-- Writes words into consecutive places of a memory whose unlisted words read 0. -/
def putWords (m : Tbl Nat Nat) (at_ : Nat) (l : List Nat) : Tbl Nat Nat :=
  l.zipIdx.foldl (fun m p => Tbl.putD 0 m (at_ + p.2) p.1) m

/-- A partner set before its first registration. -/
def Partner.empty : Partner := { epoch := 0, last := 0, tags := [] }

/-- A partner set. -/
def State.partner (s : State) (p : Nat) : Partner := Tbl.get Partner.empty s.cmd.partners p

/-- Replaces a partner set. -/
def State.setPartner (s : State) (p : Nat) (x : Partner) : State :=
  { s with cmd := { s.cmd with partners := s.cmd.partners.put p x } }

/-- Writes reply words into a reply slot and sets its NEW bit (R340); the reply carries a check value of unit 1 (R327). -/
def State.writeReply (s : State) (k : Nat) (words : List Nat) : State :=
  let s := { s with cmd := { s.cmd with replyMem := putWords s.cmd.replyMem (64 * k) words } }
  s.setF .CMD_PART_SLOTS_NEW (k / 8) (setBit (s.getF .CMD_PART_SLOTS_NEW (k / 8)) (k % 8) true)

/-! ### Opcodes (R344, R350, R351) -/

/-- The classes permitted for an opcode; none is an opcode not defined. -/
def opClasses (op : Nat) : Option (List Nat) :=
  if [0x01, 0x02, 0x03, 0x32, 0x50].contains op then some [1, 2, 3, 4, 5]
  else if [0x10, 0x11, 0x13, 0x20, 0x21, 0x70, 0x71, 0x80, 0x81].contains op then some [3, 5]
  else if op = 0x12 then some [3, 4, 5]
  else if [0x40, 0x41, 0x51, 0x52].contains op then some [4, 5]
  else if [0x22, 0x30, 0x31, 0x60, 0x90].contains op then some [5]
  else none

/-- Whether a payload length is the one an opcode requires. -/
def opLength (op len : Nat) : Bool :=
  match op with
  | 0x01 => len = 8
  | 0x11 => len = 8
  | 0x12 => len = 8
  | 0x20 => len % 12 = 4 ∧ 16 ≤ len ∧ len ≤ 232
  | 0x21 => len = 8
  | 0x30 => 12 ≤ len ∧ len ≤ 240
  | 0x40 => len = 24
  | 0x41 => len = 56
  | 0x70 => len = 12
  | 0x90 => len = 12
  | _ => if [0x02, 0x03, 0x32, 0x71].contains op then len = 0 else len = 4

/-- Whether intake executes an opcode in hardware. -/
def opHardware (op : Nat) : Bool :=
  [0x01, 0x02, 0x03, 0x20, 0x21, 0x22, 0x30, 0x31, 0x32, 0x40, 0x41, 0x50, 0x51, 0x52, 0x80, 0x81].contains op

/-- Whether CP1 executes a firmware opcode, which CP0 then hands over through the mailbox. -/
def opCp1 (op : Nat) : Bool := op = 0x10 ∨ op = 0x12 ∨ op = 0x13

/-! ### Processors, partners and initiators -/

/-- State of a processor. -/
def State.cpSt (s : State) (c : Nat) : Nat := s.getF .GLB_CP_STATUS_STATE c

/-- State of a partner set. -/
def State.partSt (s : State) (p : Nat) : Nat := s.getF .CMD_PART_ID_STATE p

/-- The class of an initiator by CMD_PRIV; codes 6 to 15 are used as NONE (R350). -/
def State.initClass (s : State) (init : Nat) : Nat :=
  let c := s.getF .CMD_PRIV_CLASS (init / 8) / 16 ^ (init % 8) % 16
  if c ≤ 5 then c else 0

/-! ### Answers of intake (R341, R345) -/

/-- The bytes of a command slot. -/
def State.slotBytes (s : State) (k : Nat) : List Nat :=
  (List.range 64).flatMap (fun w => wordBytes (Tbl.get 0 s.cmd.slotMem (64 * k + w)))

/-- Writes reply words and frees the slot, with no record of the tag (R341, R345). -/
def State.answerSlot (s : State) (k : Nat) (words : List Nat) : State :=
  let s := s.writeReply k words
  let s : State := { s with cmd := { s.cmd with
    inflight := s.cmd.inflight.erase k,
    readBack := if k / 8 = 0 then s.cmd.readBack ++ [k] else s.cmd.readBack } }
  s.setBusy k false

/-- A reply to a failed check of R341; unit 1 forms its check value (R327). -/
def State.failReply (s : State) (k : Nat) (p : Packet) (st : Nat) (payload : List Nat) : State :=
  let bytes := replyBytes p.op st (k / 8) p.tag s.time payload
  (s.dutyJob 1 (bytes.take 12 ++ payload) none).answerSlot k (wordsOf bytes)

/-- The first failed check of R341 from 1 to 7: its status, none where all pass. -/
def State.firstCheck (s : State) (k : Nat) (p : Packet) (crcOk : Bool) : Option Nat :=
  let set := k / 8
  let epoch := if set = 0 then 0 else (s.partner set).epoch
  let cls := if set = 0 then s.initClass p.init else s.getF .CMD_PART_ID_CLASS set
  if p.len % 4 ≠ 0 ∨ 240 < p.len then some stBadLength
  else if ¬ crcOk then some stCrcFail
  else if p.pid ≠ set ∨ p.epoch ≠ epoch then some stNotPermitted
  else if p.ver ≠ 1 ∨ 1 < p.flags then some stBadParam
  else match opClasses p.op with
    | none => some stBadOpcode
    | some l =>
      if ¬ l.contains cls ∨ (p.op = 0x01 ↔ set ≠ 0) then some stNotPermitted
      else if ¬ opLength p.op p.len then some stBadLength
      else none

/-- Whether a packet passes checks 1 to 3, which restarts heartbeat and lease (R341, R347). -/
def State.accepted (s : State) (k : Nat) (p : Packet) (crcOk : Bool) : Bool :=
  p.len % 4 = 0 ∧ p.len ≤ 240 ∧ crcOk ∧ p.pid = k / 8 ∧ p.epoch = (if k / 8 = 0 then 0 else (s.partner (k / 8)).epoch)

/-- An accepted packet restarts its partner's heartbeat and lease. -/
def State.restartLease (s : State) (set : Nat) : State :=
  if set = 0 then s
  else
    (s.setPartner set { s.partner set with last := s.time }).when (s.partSt set = 2) (fun s => s.setF .CMD_PART_ID_STATE set 1)

/-- Writes the reply to the packet in flight in a slot (R340, R345): an intermediate reply leaves the slot busy; a final one frees it,
keeps tag, CRC and reply among the partner's last 16, and leaves a registration slot latched until it is read. -/
def State.replyRaw (s : State) (k st : Nat) (payload : List Nat) : State :=
  match s.slotPkt k with
  | none => s
  | some f =>
    let bytes := replyBytes f.pkt.op st (k / 8) f.pkt.tag s.time payload
    let s := (s.dutyJob 1 (bytes.take 12 ++ payload) none).writeReply k (wordsOf bytes)
    if ¬ statusFinal st then s.setPhase k .pending
    else
      let p := k / 8
      let part := s.partner p
      let s := s.when (p ≠ 0 ∧ f.pkt.tag ≠ 0) (fun s => s.setPartner p { part with
        tags := ({ tag := f.pkt.tag, crc := f.pkt.crc, reply := wordsOf bytes } :: part.tags).take 16 })
      let s : State := { s with cmd := { s.cmd with
        inflight := s.cmd.inflight.erase k,
        readBack := if p = 0 then s.cmd.readBack ++ [k] else s.cmd.readBack } }
      s.setBusy k false

/-! ### Intake (R341, R343 to R345) -/

/-- Whether a packet has not started yet. -/
def PktPhase.waits (ph : PktPhase) : Bool := ph = .intake ∨ ph = .taken ∨ ph = .queued

/-- Whether the packet in a slot may start: every earlier packet of its partner has started, and for ORDERED every one has its
final reply (R343). -/
def State.inOrder (s : State) (k : Nat) (f : InFlight) : Bool :=
  s.cmd.inflight.all (fun q => q.1 / 8 ≠ k / 8 ∨ f.pkt.order ≤ q.2.pkt.order ∨ (f.pkt.flags % 2 = 0 ∧ ¬ q.2.phase.waits))

/-- Turns that intake has to go from the partner it served last to a partner (R343). -/
def State.turns (s : State) (p : Nat) : Nat := (p + 63 - s.cmd.intakeTurn % 64) % 64

/-- Whether no image is ACTIVE on CP0: it is OFF or STOPPED (R344, R382). -/
def State.cp0Gone (s : State) : Bool := s.cpSt 0 = 0 ∨ s.cpSt 0 = 4

/-- Whether CP0's firmware queue is full (R366). -/
def State.queueFull (s : State) : Bool := 32 ≤ (s.cmd.inflight.filter (fun q => q.2.phase = .queued)).length

/-- Whether intake may take the packet in a slot: it waits there and may start, and a firmware packet finds room in CP0's queue
(R343, R366). -/
def State.mayTake (s : State) (k : Nat) (f : InFlight) : Bool :=
  f.phase = .intake ∧ s.inOrder k f ∧
    (opHardware f.pkt.op ∨ (opClasses f.pkt.op).isNone ∨ s.cp0Gone ∨ ¬ s.queueFull)

/-- The packet that intake takes next: none while it executes one, else that of the partner whose turn comes first (R343). -/
def State.nextTaken (s : State) : Option (Nat × InFlight) :=
  if s.cmd.inflight.any (fun q => q.2.phase = .taken) then none
  else s.cmd.inflight.find? (fun q => s.mayTake q.1 q.2 ∧
    s.cmd.inflight.all (fun r => ¬ s.mayTake r.1 r.2 ∨ s.turns (q.1 / 8) ≤ s.turns (r.1 / 8)))

/-- A firmware packet joins CP0's queue (R344, R366). -/
def State.passOn (s : State) (k : Nat) : State :=
  { s with cmd := { s.cmd with
      passCtr := s.cmd.passCtr + 1,
      inflight := s.cmd.inflight.map (fun q =>
        if q.1 = k then (q.1, { q.2 with phase := .queued, passed := s.cmd.passCtr }) else q) } }

/-- Intake takes a packet: it makes the checks of R341 in order, unit 1 forming the check value (R327), and answers the first
failure; a packet that passes stands ready for its opcode's execution, or goes to CP0, or completes BUSY where no image is
ACTIVE there (R341, R343 to R345, R347). -/
def State.takePacket (s : State) (k : Nat) (f : InFlight) : State :=
  let set := k / 8
  let p := f.pkt
  let s : State := { s with cmd := { s.cmd with intakeTurn := set } }
  let body := (s.slotBytes k).take 12 ++ p.payload
  let crcOk : Bool := crc32c body = p.crc
  let s := s.when (p.len % 4 = 0 ∧ p.len ≤ 240) (fun s => s.dutyJob 1 body (some p.crc))
  let s := s.when (s.accepted k p crcOk) (fun s => s.restartLease set)
  match s.firstCheck k p crcOk with
  | some st => s.failReply k p st []
  | none =>
    let checked : Bool := set ≠ 0 ∧ p.tag ≠ 0
    let done := if checked then (s.partner set).tags.find? (fun t => t.tag = p.tag) else none
    let same : Bool := checked ∧ s.cmd.inflight.any (fun q =>
      q.1 / 8 = set ∧ q.2.pkt.tag = p.tag ∧ q.2.pkt.order < p.order)
    match done with
    | some t => if t.crc = p.crc then s.answerSlot k t.reply else s.failReply k p stBadParam [4, 0, 0, 0]
    | none =>
      if same then s.failReply k p stBusy []
      else if s.partSt set = 3 ∧ set ≠ 0 then s.replyRaw k stAbandoned []
      else if opHardware p.op then s.setPhase k .taken
      else if s.cp0Gone then s.replyRaw k stBusy []
      else s.passOn k

/-- Intake takes up to `n` packets, one after another. -/
def State.serveN (n : Nat) (s : State) : State :=
  match n with
  | 0 => s
  | n + 1 => match s.nextTaken with
    | none => s
    | some (k, f) => (s.takePacket k f).serveN n

/-- Intake serves the packets handed over until one waits for the execution of its opcode, or none can be taken (R343). -/
def State.serveIntake (s : State) : State := s.serveN s.cmd.inflight.length

/-! ### Answering (R340) -/

/-- Answers the packet in flight in a slot, after which intake goes on. -/
def State.reply (s : State) (k st : Nat) (payload : List Nat) : State := (s.replyRaw k st payload).serveIntake

/-- A final BAD_PARAM reply naming the offset of the first offending byte (R341). -/
def State.badParam (s : State) (k off : Nat) : State := s.reply k stBadParam (leBytes 2 off ++ [0, 0])

/-- A reply to a packet of an opcode that is pending in a slot. -/
def State.replyOp (s : State) (k op st : Nat) (payload : List Nat) : State :=
  if (s.slotPkt k).any (fun f => f.pkt.op = op ∧ f.phase = .pending) then s.reply k st payload else s

/-- Answers every pending packet of an opcode that a test picks. -/
def State.replyAll (s : State) (op : Nat) (pick : Packet → Bool) (st : Nat) (payload : List Nat) : State :=
  s.each ((s.cmd.inflight.filter (fun p => p.2.phase = .pending ∧ p.2.pkt.op = op ∧ pick p.2.pkt)).map (fun p => p.1)) (fun k s =>
    s.reply k st payload)

/-! ### Starting a packet (R343, R344, R351) -/

/-- The packet of an opcode that is ready to execute in a slot: taken by intake, or started on CP0 (R344, R366). -/
def State.ready (s : State) (k op : Nat) : Option Packet :=
  match s.slotPkt k with
  | none => none
  | some f =>
    if f.pkt.op = op ∧ (f.phase = .started ∨ f.phase = .taken) then some f.pkt else none

/-- The offset of the first payload byte with a reserved bit set; `masks` gives the defined bits of each byte, and bytes
beyond it are free (R351). -/
def firstBad (masks l : List Nat) : Option Nat :=
  (List.range masks.length).find? (fun i => Nat.land (l.getD i 0) (masks.getD i 0) ≠ l.getD i 0)

/-- Executes the packet of an opcode in a slot: a reserved bit completes BAD_PARAM, and otherwise the opcode runs; then intake goes
on (R343, R351). -/
def State.command (s : State) (set slot op : Nat) (masks : List Nat) (run : Packet → State → State) : State :=
  if 64 ≤ set ∨ 8 ≤ slot then s
  else
    match s.ready (8 * set + slot) op with
    | none => s
    | some p =>
      let s := s.setPhase (8 * set + slot) .started
      let t := match firstBad masks p.payload with
        | some o => s.badParam (8 * set + slot) o
        | none => run p s
      t.serveIntake

/-- `n` whole bytes in a payload layout. -/
def whole (n : Nat) : List Nat := List.replicate n 255

/-! ### Standing requests (R348) -/

/-- The standing requests without those a test picks. -/
def State.dropStanding (s : State) (pick : Standing → Bool) : State :=
  { s with cmd := { s.cmd with standing := s.cmd.standing.filter (fun r => ¬ pick r) } }

/-- A partner's request becomes the standing one of its kind. -/
def State.stand (s : State) (k : Nat) (p : Packet) (kind : StandKind) : State :=
  { s with cmd := { s.cmd with standing := s.cmd.standing ++ [{ owner := some (k / 8), init := p.init, kind := kind }] } }

end Sys2Proof.Machine
end

