-- ==== Sys2Proof/Machine/PhaseOps.lean ====
section
/-! DEFINITION. Shared operations of the phase groups (chapter Phase Groups and Constant On-Time Control, R62, R63). Group
states: 0 OFF, 1 DELAY, 2 RAMP, 3 REGULATE, 4 FOLDBACK, 5 HICCUP_WAIT, 6 LATCHED_OFF, 7 STOP_RAMP. Phase states: 0 UNPOPULATED,
1 LIVE, 2 OPEN_DROPPED, 3 SENSE_DISABLED, 4 HOST_DISABLED, 5 CHECKING. -/

namespace Sys2Proof.Machine

/-- State of a group (R82). -/
def State.grp (s : State) (g : Nat) : Nat := s.getF .PHS_GRP_STATUS_STATE g

/-- State of a phase. -/
def State.ph (s : State) (p : Nat) : Nat := s.getF .PHS_PH_STATUS_PH_STATE p

/-- Voltage of a VSTK code in microvolts (R51). -/
def vstkUV (code : Nat) : Nat := 500000 + 625 * code

/-- The voltage a group regulates to, in microvolts: that of the VSTK code in effect, or the fuse-held set-point of a fixed
rail (R48). -/
def State.targetUV (s : State) (g : Nat) : Nat :=
  if g = 0 then vstkUV (s.getF .GLB_VSTK_STATUS_VSTK_CODE 0) else s.cfg.fuses.railSet.getD (g - 1) 0

/-- A slope code of R84 as it is used. A code gives code × 0.05 V/ms, half a microvolt for each tick. -/
def slopeCode (c : Nat) : Nat := clampN 1 200 c

/-- How far the ramp reference of a group has moved, in microvolts, at a slope code (R84). -/
def State.rampMoved (s : State) (g code : Nat) : Nat := slopeCode code * s.since (Tbl.get 0 s.phs.rampAt g) / 2

/-- The ramp reference of a group in microvolts: in RAMP from the measured start to the target at START_SLOPE, in STOP_RAMP
down to 0 V at STOP_SLOPE once STOP_DELAY has passed (R82 to R84). -/
def State.rampUV (s : State) (g : Nat) : Nat :=
  let v := Tbl.get 0 s.phs.rampFrom g
  if s.grp g = 2 then
    let m := s.rampMoved g (s.getF .PHS_GRP_SOFT_START_SLOPE g)
    if v ≤ s.targetUV g then min (s.targetUV g) (v + m) else max (s.targetUV g) (v - m)
  else if Tbl.get false s.phs.stopGo g then v - s.rampMoved g (s.getF .PHS_GRP_SOFT_STOP_SLOPE g)
  else v

/-- V_ref of a group in microvolts: its target in REGULATE and FOLDBACK, the ramp reference in RAMP and STOP_RAMP (R68); a
group without output keeps the last. -/
def State.refUV (s : State) (g : Nat) : Nat :=
  if s.grp g = 3 ∨ s.grp g = 4 then s.targetUV g
  else if s.grp g = 2 ∨ s.grp g = 7 then s.rampUV g
  else s.getF .PHS_GRP_REF_VREF g * 500

/-- F_sw in 10 kHz units as it is used (PHS_GRP_CTRL.FSW). -/
def State.fsw (s : State) (g : Nat) : Nat := clampN 40 80 (s.getF .PHS_GRP_CTRL_FSW g)

/-- base_code of R68 for V_ref in microvolts, V_bus_used in mV and F_sw in 10 kHz; 0 while no bus sample has been taken. -/
def tonBase (refUV vbus fsw : Nat) : Nat := if vbus = 0 then 0 else (rneDiv (refUV * 400 : Nat) (vbus * fsw)).toNat

/-- Recomputes V_ref and base_code of a group (R68). -/
def State.updTon (s : State) (g : Nat) : State :=
  let r := s.refUV g
  let s := s.setF .PHS_GRP_REF_VREF g (rneDiv r 500).toNat
  s.setF .PHS_GRP_TON_TON_BASE g (tonBase r (s.getF .PHS_GRP_TON_VBUS_USED g) (s.fsw g))

/-- The ramp of a group starts, from a voltage in microvolts (R83). -/
def State.startRampAt (s : State) (g v : Nat) : State :=
  ({ s with phs := { s.phs with rampFrom := s.phs.rampFrom.put g v, rampAt := s.phs.rampAt.put g s.time } } : State).updTon g

/-- A LINEAR11 word as mantissa and exponent of two (R97). -/
def linear11 (w : Nat) : Int × Int := (toS 11 (w % 2048), toS 5 (w / 2048))

/-- `n` times a decoded word, as a fraction. -/
def timesPow (n : Int) (v : Int × Int) : Int × Nat :=
  if 0 ≤ v.2 then (n * v.1 * (2 ^ v.2.toNat : Nat), 1) else (n * v.1, 2 ^ (-v.2).toNat)

/-- The pulse tests of a phase at their start. -/
def PhaseTest.clear : PhaseTest :=
  { openRun := 0, senseRun := 0, rangeRun := 0, xrRun := 0, declared := false, origin := 0, faulty := false }

/-- The pulse tests of a phase. -/
def State.phTest (s : State) (p : Nat) : PhaseTest := Tbl.get PhaseTest.clear s.phs.tests p

/-- Replaces the pulse tests of a phase. -/
def State.setPhTest (s : State) (p : Nat) (t : PhaseTest) : State :=
  { s with phs := { s.phs with tests := s.phs.tests.put p t } }

/-- Live phases of a group (R62). -/
def State.liveCount (s : State) (g : Nat) : Nat := ((s.cfg.table.groupPhases g).filter (fun p => s.ph p = 1)).length

/-- A CHECKING phase returns at once to the state it came from, without a loss counted (R93). -/
def State.cutCheck (s : State) (p : Nat) : State :=
  if s.ph p = 5 then
    ((s.setF .PHS_PH_STATUS_PH_STATE p (s.phTest p).origin).setF .PHS_PH_STATUS_TRIM p 0).setPhTest p PhaseTest.clear
  else s

/-- The runs of a phase's tests start again; a failure already declared stands (R87, R88, R91). -/
def State.restartTests (s : State) (p : Nat) : State :=
  s.setPhTest p { s.phTest p with openRun := 0, senseRun := 0, rangeRun := 0, xrRun := 0 }

/-- Whether a group gives pulses: in RAMP, REGULATE, FOLDBACK and STOP_RAMP (R82). -/
def pulses (st : Nat) : Bool := st = 2 ∨ st = 3 ∨ st = 4 ∨ st = 7

/-- Records the entry of a group into a state; a group whose outputs go tri-state ends its pass (R70, R82). -/
def State.enterGrp (s : State) (g st : Nat) : State :=
  { s with phs := { s.phs with
      grpAt := s.phs.grpAt.put g s.time, pass := if pulses st then s.phs.pass else s.phs.pass.put g [] } }

/-- Moves a group to a state; leaving REGULATE cuts the checks of its phases (R93), and the tests of R87 and R88 start again when
the group next enters REGULATE or FOLDBACK (R91). A group in FOLDBACK or HICCUP_WAIT sets the emergency interlock (R375). -/
def State.setGrp (s : State) (g st : Nat) : State :=
  let leaves : Bool := s.grp g = 3 ∧ st ≠ 3
  let stops : Bool := (s.grp g = 3 ∨ s.grp g = 4) ∧ st ≠ 3 ∧ st ≠ 4
  let s := ((s.enterGrp g st).setF .PHS_GRP_STATUS_STATE g st).when leaves (fun s =>
    s.each (s.cfg.table.groupPhases g) (fun p s => s.cutCheck p))
  let s := s.when stops (fun s => s.each (s.cfg.table.groupPhases g) (fun p s => s.restartTests p))
  let hold : Bool := [0, 1, 2, 3].any (fun k => s.grp k = 4 ∨ s.grp k = 5)
  (s.setB .GLB_FW_IL_GROUP 0 hold).when hold State.ilSet

/-- Enters SAFE with an error code; the converters are in LOW_POWER there (R398). -/
def State.enterSafe (s : State) (err : Nat) : State :=
  let s : State := { s with boot := { s.boot with release := 0 } }
  let s := ((s.setF .GLB_BOOT_STATUS_STATE 0 4).setF .GLB_BOOT_STATUS_ERR 0 err).setF .GLB_BOOT_STATUS_PWR_OK 0 0
  s.when (¬ s.isSet .ADC_STATUS_LP_ACTIVE 0) (fun s => s.setLowPower true)

/-- A group enters LATCHED_OFF: its outputs go tri-state and a fatal fault is raised (R82, R94). In RELEASE the block enters SAFE
with ERR 8, unless the fatal stop runs (R398). -/
def State.latchOff (s : State) (g : Nat) : State :=
  let s := (s.setGrp g 6).event .PHS_GRP_EVENT_LATCHED g 0x01 g
  s.when (s.getF .GLB_BOOT_STATUS_STATE 0 = 5 ∧ ¬ s.flt.stop) (fun s => s.enterSafe 8)

/-- A group enters OFF: its outputs go tri-state and ATTEMPTS clears (R82, R85). -/
def State.grpOff (s : State) (g : Nat) : State :=
  (((s.setGrp g 0).setF .PHS_GRP_STATUS_ATTEMPTS g 0).setF .PHS_GRP_REF_VREF g 0).updTon g

/-- A group in RAMP, REGULATE or FOLDBACK enters STOP_RAMP (R82); `fatal` makes it end in LATCHED_OFF. -/
def State.stopRamp (s : State) (g : Nat) (fatal : Bool) : State :=
  let v := s.getF .PHS_GRP_REF_VSENSE g
  let r := s.refUV g
  let s := (s.setGrp g 7).setF .PHS_GRP_REF_VREF g (rneDiv r 500).toNat
  { s with phs := { s.phs with vEntry := s.phs.vEntry.put g v, fatal := s.phs.fatal.put g fatal,
                               stopGo := s.phs.stopGo.put g false, rampFrom := s.phs.rampFrom.put g r } }

/-- A fatal cause of R45 meets a group (R45, R82). -/
def State.groupFatal (s : State) (g : Nat) : State :=
  match s.grp g with
  | 1 => s.latchOff g
  | 2 => s.stopRamp g true
  | 3 => s.stopRamp g true
  | 4 => s.stopRamp g true
  | 5 => s.latchOff g
  | 7 => { s with phs := { s.phs with fatal := s.phs.fatal.put g true } }
  | _ => s

/-- The effective EDC and TDC of a group in A, as last computed (R63). -/
def State.design (s : State) (g : Nat) : Nat × Nat :=
  let n := s.cfg.groupPopulated g
  Tbl.get (designCurrent g n (groupEdc g), designCurrent g n (groupTdc g)) s.phs.design g

/-- Counts the live phases of a group again and recomputes its design currents (R62, R63), which GLB_DESIGN_CUR reports for VSTK;
a group in REGULATE or FOLDBACK with none left latches off (R65, R82). -/
def State.recount (s : State) (g : Nat) : State :=
  let n := s.liveCount g
  let s := s.setF .PHS_GRP_STATUS_LIVE g n
  let s : State := { s with phs := { s.phs with
    design := s.phs.design.put g (designCurrent g n (groupEdc g), designCurrent g n (groupTdc g)) } }
  let s := s.when (g = 0) (fun s =>
    ((s.setF .GLB_VSTK_STATUS_VSTK_LIVE 0 n).setF .GLB_DESIGN_CUR_EDC_EFF 0 (designCurrent 0 n (groupEdc 0))).setF
      .GLB_DESIGN_CUR_TDC_EFF 0 (designCurrent 0 n (groupTdc 0)))
  s.when (n = 0 ∧ (s.grp g = 3 ∨ s.grp g = 4)) (fun s => s.latchOff g)

/-- A phase's current sense is declared failed: it counts at its limit and leaves the share loop with its trim frozen
(R88, R89). SENSE_FAIL is set at the declaration, as the example of R93 shows (assumption 10). -/
def State.senseFail (s : State) (p : Nat) : State :=
  if (s.phTest p).declared then s
  else (s.setPhTest p { s.phTest p with declared := true }).event .PHS_GRP_EVENT_SENSE_FAIL (s.cfg.table.phaseGroup p) 0x01 p

/-- The current that a phase counts for in a group sum, in 1/64 A: its limit while a sense failure is declared, nothing
once it is out of the rotation, and its IMON sample otherwise (R89). -/
def State.phaseCurrent (s : State) (p : Nat) : Int :=
  if s.ph p = 1 ∨ s.ph p = 5 then
    if (s.phTest p).declared then (phaseLimit (s.cfg.table.phaseGroup p) * 64 : Nat) else s.getS .PHS_PH_MEAS_IMON p
  else 0

/-- The current of a group, in 1/64 A. -/
def State.groupCurrent (s : State) (g : Nat) : Int :=
  ((s.cfg.table.groupPhases g).map s.phaseCurrent).foldl (· + ·) 0

/-- The checks of R87 and R88 run in REGULATE and FOLDBACK only (R91). -/
def State.checksRun (s : State) (g : Nat) : Bool := s.grp g = 3 ∨ s.grp g = 4

/-- The valley limit of R80 in 0.25 A units, for f in Q1.15. -/
def valleyLimit (hi lo f : Nat) : Nat :=
  let lo := if hi < lo then hi else lo
  if 9 * 32768 ≤ 10 * f then hi
  else if 10 * f ≤ 2 * 32768 then lo
  else lo + (hi - lo) * (10 * f - 2 * 32768) / (7 * 32768)

/-- f of R80 in Q1.15, for V_sense in 0.5 mV and V_target in microvolts; its rounding at that place is open (assumption 122). -/
def State.foldF (s : State) (vs targetUV : Nat) : Nat × State :=
  let q := s.openDiv (min (vs * 500) targetUV * 32768 : Nat) targetUV
  (min 32767 q.1.toNat, q.2)

/-- The phases that a new pass of a group takes in: the live ones and those in CHECKING (R70, R93). -/
def State.rotation (s : State) (g : Nat) : List Nat :=
  (s.cfg.table.groupPhases g).filter (fun p => s.ph p = 1 ∨ s.ph p = 5)

/-- The phases still to take their pulse in the pass in progress. A phase that becomes live enters at the next pass, and one that
is taken out leaves with it (R70, R87, R93). -/
def State.passOf (s : State) (g : Nat) : List Nat := Tbl.get [] s.phs.pass g

/-- Replaces what is left of the pass in progress. -/
def State.setPass (s : State) (g : Nat) (l : List Nat) : State := { s with phs := { s.phs with pass := s.phs.pass.put g l } }

/-- The phase that takes the next pulse: the lowest that the pass in progress still holds, or the lowest of the rotation with a
new pass (R70). The rule does not say where the rotation begins; the first pass after a group has been without output begins at
its lowest phase (DESIGN CHOICE, assumption 101). -/
def State.nextPhase (s : State) (g : Nat) : Option Nat :=
  match s.passOf g with
  | p :: _ => some p
  | [] => (s.rotation g).head?

/-- What is left of the pass once the next phase has taken its pulse. -/
def State.passLeft (s : State) (g : Nat) : List Nat :=
  match s.passOf g with
  | _ :: r => r
  | [] => (s.rotation g).drop 1

/-- How the phases of a group conduct (R73, R82). -/
def State.conduction (s : State) (g : Nat) : Conduction :=
  if s.grp g = 2 then .diode
  else if s.grp g = 7 then .down (min (s.getF .PHS_GRP_OCL_VALLEY_LO g) (s.getF .PHS_GRP_OCL_VALLEY_HI g))
  else .forced

/-- The start of a group's next pulse in 0.25 ns: the present tick, or 2 ns after the start of the last pulse (R69). -/
def State.pulseStart (s : State) (g : Nat) : Nat := max (40 * s.time) (Tbl.get 0 s.phs.nextAt g)

/-- Whether the modulator gives a phase a pulse now: no valley hold (R79), the minimum off-time over (R69), and in RAMP the ramp
reference above V_sense (R83). A pulse whose 2 ns would carry it into the next tick waits for that tick. -/
def State.givesPulse (s : State) (g p : Nat) : Bool :=
  ¬ Tbl.get false s.phs.held p ∧ s.pulseStart g < 40 * (s.time + 1) ∧ Tbl.get 0 s.phs.restAt p ≤ s.pulseStart g ∧
    (s.grp g = 2 → s.getF .PHS_GRP_REF_VSENSE g * 500 < s.refUV g)

/-- The on-time code of one pulse of a phase (R68). -/
def pulseCode (base : Nat) (trim : Int) : Nat := clampN 80 4000 (rneDiv (base * (256 + trim)) 256).toNat

/-- Records one pulse: the phase rests for 80 ns after it, and the group's next starts 2 ns after its start at the earliest
(R69). -/
def State.notePulse (s : State) (g p start code : Nat) : State :=
  { s with phs := { s.phs with restAt := s.phs.restAt.put p (start + code + 320), nextAt := s.phs.nextAt.put g (start + 8) } }

/-- Whether the bus has read from 10.8 V to 13.2 V for 1 ms without a break (R399). -/
def State.busReady (s : State) : Bool := s.boot.busOk.any (fun t => 100000 ≤ s.since t)

/-- A sample of the intermediate bus in mV: V_bus_used of every group, since when the bus has been in range, and the end of BUS_OOR,
which stays set while release waits for the bus (R45, R68, R399). -/
def State.busSample (s : State) (mv : Nat) : State :=
  let s := s.each [0, 1, 2, 3] (fun g s => (s.setF .PHS_GRP_TON_VBUS_USED g (clampN 9000 14000 mv)).updTon g)
  let ok : Option Nat := if 10800 ≤ mv ∧ mv ≤ 13200 then some (s.boot.busOk.getD s.time) else none
  let s : State := { s with boot := { s.boot with busOk := ok } }
  s.when (¬ ((9000 ≤ mv ∧ mv < 10800) ∨ (13200 < mv ∧ mv ≤ 14000)) ∧ ¬ (s.boot.release = 1 ∧ ¬ s.busReady))
    (fun s => s.setF .GLB_VSTK_STATUS_BUS_OOR 0 0)

/-! ### PMBus reads (R95, R96) -/

/-- The data bytes of a read: one for VOUT_MODE, two for the others (R95, R96). -/
def pmbBytes (cmd : Nat) : Nat := if cmd = 0x20 then 1 else 2

/-- Starts the read in front: address, speed, command and length (R95). -/
def State.pmbIssue (s : State) : State :=
  match s.phs.pmbReads with
  | [] => s
  | cmd :: _ => s.emit (.pmbusRead (s.getF .PHS_PMB_CTRL_ADDR 0) (s.isSet .PHS_PMB_CTRL_SPEED 0) cmd (pmbBytes cmd))

/-- A read of VOUT_MODE is asked for: it starts at once on an idle segment, and next after a read in progress (R96). -/
def State.pmbAsk (s : State) : State :=
  match s.phs.pmbReads with
  | [] => ({ s with phs := { s.phs with pmbReads := [0x20], pmbRetried := false } } : State).pmbIssue
  | cmd :: r => { s with phs := { s.phs with pmbReads := cmd :: 0x20 :: r } }

end Sys2Proof.Machine
end

