-- ==== Sys2Proof/Machine/EngineOps.lean ====
section
/-! DEFINITION. The arithmetic of the control engine, its sources, the evaluation of one element, and the arbitration of the
actuators (chapter Control Engine, R135 to R173). Elements stand at 256 × slot + element. -/

namespace Sys2Proof.Machine

/-! ### Arithmetic (R142, R143, R146, R147) -/

/-- Saturation to Q1.15. -/
def sat16 (x : Int) : Int := clampI (-32768) 32767 x

/-- Saturation of the accumulator to 40 bits. -/
def sat40 (x : Int) : Int := clampI (-(2 ^ 39)) (2 ^ 39 - 1) x

/-- The gain law over 64 entries (R146). -/
def interpGain (g : Nat → Int) (e : Int) : Int :=
  let u := (e + 32768).toNat
  let i := u / 1024
  let f := u % 1024
  if 63 ≤ i then g 63 else g i + rne ((g (i + 1) - g i) * f) 10

/-- The static-offset table at an actuator code (R149). -/
def interpOffset (c : Nat → Int) (code : Nat) : Int :=
  let i := code / 16
  let f := code % 16
  if 63 ≤ i then c 63 else c i + rne ((c (i + 1) - c i) * f) 4

/-- One step of the profile generator: target, limits, and position, speed and acceleration with 8 fraction bits (R147). -/
def profileStep (t p v a : Int) (vmax amax jmax : Nat) : Int × Int × Int :=
  let d := t - p
  if d = 0 ∧ v = 0 then (p, v, 0)
  else
    let s : Int := if d ≠ 0 then d.sign else - v.sign
    let w := s * v
    let ad : Int := d.natAbs
    let (v', a') :=
      if amax = 0 then (s * (if vmax = 0 then ad else min (vmax : Int) ad), (0 : Int))
      else
        let am : Int := amax
        let aim : Int :=
          if w < 0 then s * am
          else if 2 * am * ad < w * (w + am) then - s * am
          else if (vmax = 0 ∨ w < vmax) ∧ (w + am) * (w + 2 * am) ≤ 2 * am * ad then s * am
          else 0
        let a1 := if jmax = 0 then aim else a + clampI (-(jmax : Int)) jmax (aim - a)
        let v1 := v + a1
        (if vmax = 0 then v1 else clampI (-(vmax : Int)) vmax v1, a1)
    if s * (t - p - v') ≤ 0 ∨ (d.natAbs ≤ v'.natAbs ∧ v'.natAbs ≤ amax) then (t, 0, 0) else (p + v', v', a')

/-! ### Descriptors (R135, R150) -/

/-- Class of a slot: 0 empty, 1 fast, 2 medium, 3 slow. -/
def State.slotClass (s : State) (n : Nat) : Nat := s.getF .CE_SD_CTRL_CLASS n

/-- Actuator kind of a slot. -/
def State.slotKind (s : State) (n : Nat) : Nat := s.getF .CE_SD_CTRL_ACT_KIND n

/-- Elements of a slot. -/
def State.slotElems (s : State) (n : Nat) : Nat := s.getF .CE_SD_CTRL_ELEMS_M1 n + 1

/-- The slots that hold a loop, ascending: CLASS resets to 0, so only slots whose CLASS has been written can. -/
def State.usedSlots (s : State) : List Nat :=
  ((Tbl.get [] s.fields .CE_SD_CTRL_CLASS).filter (fun p => p.2 ≠ 0)).map (fun p => p.1)

/-- Key of an element. -/
def elemKey (n k : Nat) : Nat := 256 * n + k

/-- An element that has not started. -/
def Elem.empty : Elem :=
  { started := false, integ := 0, y := 0, act := 0, p := 0, v := 0, a := 0, rest := 0, prevX := none, invalid := false,
    tracking := false, reopen := false, evals := 0, paced := false, changedAt := none,
    fastAt := none }

/-- An element's state. -/
def State.elem (s : State) (n k : Nat) : Elem := Tbl.get Elem.empty s.eng.elems (elemKey n k)

/-- Replaces an element's state. -/
def State.setElem (s : State) (n k : Nat) (e : Elem) : State :=
  { s with eng := { s.eng with elems := s.eng.elems.put (elemKey n k) e } }

/-- The actuators an element targets (R150). -/
def State.targets (s : State) (n k : Nat) : List Nat :=
  let grp := s.getF .CE_SD_MAP_GROUP_M1 n + 1
  let fan := s.getF .CE_SD_MAP_FAN_M1 n + 1
  (List.range fan).map (fun j => s.getF .CE_SD_CTRL_ACT_BASE n + k / grp * fan + j)

/-- Whether a domain is neither DARK nor FENCED. -/
def State.domUp (s : State) (d : Nat) : Bool :=
  s.getF .DOM_STATUS_STATE d ≠ 0 ∧ s.getF .DOM_STATUS_STATE d ≠ 5

/-- Whether an actuator can take a value: a live phase, or a domain that is up (R139). -/
def State.targetUp (s : State) (kind i : Nat) : Bool :=
  match kind with
  | 1 => s.ph i = 1 ∧ ¬ (s.phTest i).declared
  | 2 => s.domUp i
  | 3 => s.domUp i
  | 4 => s.domUp i
  | _ => true

/-- The elements that present to an actuator: started, with the actuator among their targets and up (R139, R151). -/
def State.presenters (s : State) (kind i : Nat) : List (Nat × Nat) :=
  if ¬ s.targetUp kind i then []
  else
    (s.usedSlots.filter (fun n => s.slotKind n = kind ∧ s.getF .CE_SD_CTRL_ACT_BASE n ≤ i)).flatMap (fun n =>
      let grp := s.getF .CE_SD_MAP_GROUP_M1 n + 1
      let fan := s.getF .CE_SD_MAP_FAN_M1 n + 1
      let g := (i - s.getF .CE_SD_CTRL_ACT_BASE n) / fan
      (((List.range grp).map (fun j => g * grp + j)).filter
        (fun k => k < s.slotElems n ∧ (s.elem n k).started)).map (fun k => (n, k)))

/-! ### Ladders (R107, R152) -/

/-- The written current limit of a step of a class, in 1/64 A. -/
def State.ladderRaw (s : State) (k st : Nat) : Nat :=
  if st % 2 = 1 then s.getF .DOM_CLS_LADDER_ILIM_ODD (8 * k + st / 2) else s.getF .DOM_CLS_LADDER_ILIM_EVEN (8 * k + st / 2)

/-- The current limit of a step of a class: the lowest committed value at or above the step (R107). -/
def State.ilimClass (s : State) (k st : Nat) : Nat :=
  ((List.range (16 - st)).map (fun j => s.ladderRaw k (st + j))).foldl min (s.ladderRaw k 15)

/-- The current limit of a step of a domain, in 1/64 A. -/
def State.ilim (s : State) (d st : Nat) : Nat := s.ilimClass (s.cfg.table.domClass d) st

/-- The highest step whose limit is at or below a kind-3 value; step 0 where none is (R152). -/
def State.stepOf (s : State) (d : Nat) (v : Int) : Nat :=
  ((List.range 16).filter (fun st => (s.ilim d st : Int) ≤ v)).foldl max 0

/-- FREQ of a step of a class in 10 MHz units: the lowest committed value at or above the step (R256). -/
def State.freqOf (s : State) (k st : Nat) : Nat :=
  ((List.range (16 - st)).map (fun j => s.getF .THM_LADDER_FREQ (16 * k + st + j))).foldl min
    (s.getF .THM_LADDER_FREQ (16 * k + 15))

/-- ISSUE of a step of a class as it is used, from 1 to 16 (R256). -/
def State.issueOf (s : State) (k st : Nat) : Nat :=
  ((List.range (16 - st)).map (fun j => clampN 1 16 (s.getF .THM_LADDER_ISSUE (16 * k + st + j)))).foldl min
    (clampN 1 16 (s.getF .THM_LADDER_ISSUE (16 * k + 15)))

/-! ### Headroom target, dropout demand and cap (R56, R57, R60, R186) -/

/-- REF of slot 0 in 0.5 mV units, with its fraction of 1/64 kept: Q1.15 of 256 mV is 1/128 mV. -/
def State.refH (s : State) : Nat := s.getF .CE_SD_REF_REF 0

/-- PRE_H' of R186 in Q1.15 of 256 mV: nothing without an active wave. -/
def State.preRaise (s : State) : Nat :=
  if s.start.waves = [] then 0 else min (s.getF .DOM_START_PRE_PRE_H 0 * 64) (0x2800 - s.refH)

/-- Whether a pre-raise that has ended has still to fall back to the slot 0 reference through its profile (R186). -/
def State.preFalls (s : State) : Bool :=
  s.start.waves = [] ∧ s.isSet .CE_SD_CTRL_PROF_EN 0 ∧ (s.elem 0 0).started ∧ (s.refH : Int) * 256 < (s.elem 0 0).p

/-- Shows PRE_ACTIVE: 1 from the first wave until the slot 0 reference has fallen back after the last (R186;
19_event_timelines.md). -/
def State.showPre (s : State) : State :=
  s.setB .DOM_START_STATUS_PRE_ACTIVE 0
    (s.start.waves ≠ [] ∨ (s.isSet .DOM_START_STATUS_PRE_ACTIVE 0 ∧ s.preFalls))

/-- H in 1/128 mV: the slot 0 reference with the pre-raise (R57, R61, R186). -/
def State.hTarget (s : State) : Nat := s.refH + s.preRaise

/-- Cells of a domain in ON or LIMITED. -/
def State.cellsOn (s : State) (d : Nat) : Nat :=
  ((s.cfg.table.domCells d).filter (fun c => s.getF .CEL_STATUS_STATE c = 2 ∨ s.getF .CEL_STATUS_STATE c = 3)).length

/-- n of R56: cells in ON or LIMITED, n_avail in WAKING, never below 1. -/
def State.dropoutN (s : State) (d : Nat) : Nat :=
  max 1 (if s.getF .DOM_STATUS_STATE d = 1 then s.getF .DOM_STATUS_CELLS_OK d else s.cellsOn d)

/-- The dropout demand D of R56 over 64 n, in mV: 25 × I_lim + 160 n, with I_lim in 1/64 A. -/
def State.dropoutNum (s : State) (d : Nat) : Nat :=
  25 * s.ilim d (s.getF .DOM_STATUS_STEP d) + 160 * s.dropoutN d

/-- The offset of R56 in 0.5 mV units, rounded up: max(0, D − H). -/
def State.offsetOf (s : State) (d : Nat) : Nat :=
  -- D = num / (64 n) mV; H = hTarget / 128 mV; in 0.5 mV: 2 D − 2 H = (2 num − n hTarget) / (64 n)
  ceilDiv (2 * s.dropoutNum d - s.dropoutN d * s.hTarget) (64 * s.dropoutN d)

/-- The cap of R60 as a cell code: the lower of 1.00 V and 1.100 V − P − max(H, D), rounded down to a 1.25 mV step. -/
def State.capCode (s : State) (d : Nat) : Nat :=
  let n := s.dropoutN d
  -- in units of 1/(128 n) µV: D = 2000 num, H = 1000 n hTarget
  let hd := max (2000 * s.dropoutNum d) (1000 * n * s.hTarget)
  let top := 128 * n * (1100000 - Tbl.get 0 s.dom.viaDrop d)
  min 800 ((top - hd) / (128 * n * 1250))

/-! ### Sources (R144) -/

/-- A value over its full scale as Q1.15. -/
def toQ15 (v : Int) (fs : Nat) : Int := sat16 (rneDiv (v * 32768) fs)

/-- An estimation record before its first window. -/
def EstDom.empty : EstDom :=
  { counts := [], arrived := none, decided := false, staleRun := 0, iEst := 0, iLk := 0, iMeas := 0, estOut := 0, iDom := 0, pDom := 0,
    weights := [], sumEst := 0, sumMeas := 0, sumErr := 0, sumCounts := [], holds := [], disRun := 0, agrRun := 0,
    substituted := false, failedCell := false, undo := none }

/-- A domain's estimation record. -/
def State.estDom (s : State) (d : Nat) : EstDom := Tbl.get EstDom.empty s.est.dom d

/-- A hot spot before its first publication. -/
def HotRun.empty : HotRun := { published := false, alarmRun := 0, emergRun := 0, limit := false }

/-- A tower before its first period. -/
def TwrRun.empty : TwrRun := { lost := false, wpRun := 0, delivered := false, gap := 0, full := 0 }

/-- The ceiling of the stack (R234). -/
def State.stackCeil (s : State) : Nat :=
  if s.isSet .DOM_BUD_CTRL_MODE 0 then s.getF .DOM_BUD_CTRL_FIXED_STEP 0
  else if s.bud.boostEn then 15 else s.bud.prefStep

/-- The HERD_STEP source: with a frequency agreed, the highest step of the tile ladder whose FREQ is at or below F_GRP, or step
0; otherwise the ceiling (R234, R277, R280). -/
def State.herdStep (s : State) : Nat :=
  if s.hrd.agreed then
    ((List.range 16).filter (fun st => s.freqOf 0 st ≤ s.getF .HRD_FREQ_F_GRP 0)).foldl max 0
  else s.stackCeil

/-- Whether a domain takes part in estimation: WAKING, LIVE, DERATED or QUIESCING. -/
def State.domMeasured (s : State) (d : Nat) : Bool :=
  1 ≤ s.getF .DOM_STATUS_STATE d ∧ s.getF .DOM_STATUS_STATE d ≤ 4

/-- Whether the inputs of a die are valid: it has a contributing sensor and its tower's sideband is not lost (R246, R264). -/
def State.dieLive (s : State) (j : Nat) : Bool :=
  ¬ (Tbl.get TwrRun.empty s.thm.twr (j / 8)).lost ∧ (Tbl.get HotRun.empty s.thm.die j).published

/-- The Q1.15 value a source delivers, none where it delivers none (R144). -/
def State.source (s : State) (kind i : Nat) : Option Int :=
  match kind with
  | 1 => s.dom.hrStack.map (fun h => sat16 (h * 64))
  | 2 => if s.dom.hrDom.any (fun p => p.1 = i) then some (sat16 (Tbl.get 0 s.dom.hrDom i * 64)) else none
  | 3 => if s.isSet .DOM_DS_VALID i ∧ s.domUp (s.cfg.table.sensorDom i) then some (sat16 (s.getF .DOM_DS_DROOP i * 64)) else none
  | 4 => if s.ph i = 1 ∧ ¬ (s.phTest i).declared ∧ s.isSet .ADC_RES_ST_VALID i then some (sat16 (s.getS .PHS_PH_MEAS_IMON i * 8)) else none
  | 5 => if s.domMeasured i then some (toQ15 (s.estDom i).iDom 256000) else none
  | 6 => if s.domMeasured i then some (toQ15 (s.estDom i).estOut 256000) else none
  | 7 => s.est.iStack.map (fun v => toQ15 v 65536000)
  | 8 => s.est.estStack.map (fun v => toQ15 v 65536000)
  | 9 => if (Tbl.get HotRun.empty s.thm.dom i).published then some (sat16 (s.getS .THM_DOM_T_HOT i * 16)) else none
  | 10 => if (Tbl.get HotRun.empty s.thm.dom i).published then some (sat16 (s.getS .THM_DOM_RATE i * 128)) else none
  | 11 => if (Tbl.get HotRun.empty s.thm.dom i).published then some (sat16 (s.getS .THM_DOM_FCST_T_FCST i * 16)) else none
  | 12 => if s.dieLive i then some (sat16 (s.getS .THM_DIE_T_DRAM i * 16)) else none
  | 13 => if s.dieLive i then some (sat16 (s.getS .THM_DIE_RATE i * 128)) else none
  | 14 => if s.domMeasured i then some (toQ15 (s.estDom i).pDom 65536) else none
  | 15 => if s.bud.avgSet then some (toQ15 (s.getF .DOM_BUD_AVG_AVG 0) (4096 * 1024)) else none
  | 16 =>
    let d := s.cfg.table.firstDom 3 + i
    if s.domMeasured d then some (toQ15 (s.estDom d).pDom 65536) else none
  | 17 => some (sat16 (s.herdStep * 2048))
  | _ => none

/-! ### Arbitration (R27, R151 to R155, R173) -/

/-- REF6 of a domain: the unscaled reference of slot 6, or of its extension slot 17 from domain 256 on (R164, R242). -/
def State.ref6 (s : State) (d : Nat) : Int :=
  if d < 256 then toS 16 (s.getF .CE_ELEM_REF_REF (elemKey 6 d)) else toS 16 (s.getF .CE_ELEM_REF_REF (elemKey 17 (d - 256)))

/-- The governed value of R242 while F_G is below 32,768. -/
def State.governed (s : State) (d : Nat) : Option Int :=
  let f := s.getF .DOM_BUD_GOV_F_G 0
  if f < 32768 ∧ s.domUp d then some (rne (rne (s.ref6 d * f) 15 * 1024) 15) else none

/-- The lower of two presented values, ties to the lower slot and then the lower element (R153). -/
def lowerOf (a b : Int × Nat × Nat) : Int × Nat × Nat :=
  if b.1 < a.1 ∨ (b.1 = a.1 ∧ (b.2.1 < a.2.1 ∨ (b.2.1 = a.2.1 ∧ b.2.2 < a.2.2))) then b else a

/-- The lowest of presented values, with the slot and element that presented it. -/
def lowest (l : List (Int × Nat × Nat)) : Option (Int × Nat × Nat) :=
  match l with
  | [] => none
  | x :: r => some (r.foldl lowerOf x)

/-- The values the elements present to an actuator. -/
def State.presented (s : State) (kind i : Nat) : List (Int × Nat × Nat) :=
  (s.presenters kind i).map (fun e => ((s.elem e.1 e.2).act, e.1, e.2))

/-- The slot and element of the Ox for a domain: slot 15, or its extension slot 19 from domain 256 on (R164). -/
def oxElem (d : Nat) : Nat × Nat := if d < 256 then (15, d) else (19, d - 256)

/-- Stage 1 of kind 3: the elements and the pulse governor, which stands for the Ox (R242). -/
def State.stage1Limit (s : State) (d : Nat) : Option (Int × Nat × Nat) :=
  lowest (s.presented 3 d ++ match s.governed d with
    | some g => [(g, oxElem d)]
    | none => [])

/-- The applied kind-3 value: stage 1 held between the ends of the ladder (R173). -/
def State.appliedLimit (s : State) (d : Nat) : Option Int :=
  (s.stage1Limit d).map (fun w => clampI (s.ilim d 0) (s.ilim d 15) w.1)

/-- Stage 1 of an actuator: value, slot and element of the winner (R151, R153). Kind 4 also takes the kind-3 result (R152). -/
def State.stage1 (s : State) (kind i : Nat) : Option (Int × Nat × Nat) :=
  match kind with
  | 3 => s.stage1Limit i
  | 4 =>
    lowest (s.presented 4 i ++ match s.stage1Limit i, s.appliedLimit i with
      | some w, some v => [((s.stepOf i v : Int), w.2.1, w.2.2)]
      | _, _ => [])
  | _ => lowest (s.presented kind i)

/-- BASE_SLOPE as it is used. -/
def State.baseSlope (s : State) : Nat := clampN 10 400 (s.getF .DOM_START_SLOPE_BASE_SLOPE 0)

/-- The Rooster's slope in effect: boosted while BOOST is set (R187). -/
def State.roosterSlope (s : State) : Nat :=
  if s.isSet .DOM_START_STATUS_BOOST 0 then max s.baseSlope (min 400 (s.getF .DOM_START_SLOPE_BOOST_SLOPE 0)) else s.baseSlope

/-- The height of one pre-bias floor over a tile: PREBIAS until it begins to fall (R185). -/
def State.floorHeight (s : State) (f : FloorSet) (d : Nat) : Nat :=
  if f.acting ∧ f.tiles.contains d then Tbl.get (s.getF .DOM_START_PRE_PREBIAS 0) f.heights d else 0

/-- The height of a domain's pre-bias floor above stage 1, in codes: the highest that acts (R185). -/
def State.prebias (s : State) (d : Nat) : Nat := s.start.floors.foldl (fun m f => max m (s.floorHeight f d)) 0

/-- The stage-2 clamps of a ladder step with their CLAMP_SRC codes (R58, R113, R114, R118, R151, R259). -/
def State.stepClamps (s : State) (d : Nat) (st1 : Int) : List (Int × Nat) :=
  let t := s.cfg.table
  ([((15 : Int), 1), ((s.getF .DOM_STATUS_CEIL d : Int), 5)] : List (Int × Nat)) ++
    (if Tbl.get false s.dom.lossFence d then [(0, 6)] else []) ++
    (if s.isSet .THM_DOM_CL_STATE d then [((s.getF .THM_DOM_CLAMP d : Int), 7)] else []) ++
    (if d < t.tiles ∧ s.isSet .THM_TWR_CL_STATE (t.tileTower d) then [((s.getF .THM_TWR_CLAMP (t.tileTower d) : Int), 7)] else []) ++
    (if s.getF .DOM_STATUS_DS_VALID d = 0 then [(max 0 (st1 - 1), 8)] else []) ++
    (if s.getF .DOM_STATUS_STATE d = 4 then [(((Tbl.get 15 s.dom.quiesceCeil d : Nat) : Int), 11)] else [])

/-- The clamp that acts hardest: the lowest value, and among equal ones the lowest code. -/
def hardest (l : List (Int × Nat)) : Int × Nat :=
  l.foldl (fun a b => if b.1 < a.1 ∨ (b.1 = a.1 ∧ b.2 < a.2) then b else a) (1024, 15)

/-- Stage 2 of an actuator over its stage-1 value: the applied value and CLAMP_SRC, 0 where no clamp acts (R27, R151). -/
def State.stage2 (s : State) (kind i : Nat) (v : Int) : Int × Nat :=
  match kind with
  | 0 => let a := clampI 160 960 v; (a, if a = v then 0 else 1)
  | 1 =>
    if s.isSet .PHS_PH_STATUS_TMON_HOT i then (-64, if v = -64 then 0 else 9)
    else let a := clampI (-64) 63 v; (a, if a = v then 0 else 1)
  | 2 =>
    let ov : Int := s.getF .DOM_CLS_CFG_OV_LIMIT (s.cfg.table.domClass i)
    let v1 := min v (s.capCode i)
    let v2 := clampI 360 ov v1
    let fl := Tbl.get 0 s.dom.floor i
    let pb := s.prebias i
    let droopFloor : Int := if fl = 0 then 0 else min ov (v + fl - 1)
    let preFloor : Int := if pb = 0 then 0 else min ov (v + pb)
    let v3 := max v2 (max droopFloor preFloor)
    let src := if v3 ≠ v2 then (if preFloor ≤ droopFloor then 3 else 4) else if v2 ≠ v1 then 1 else if v1 ≠ v then 2 else 0
    (v3, src)
  | 3 => let a := clampI (s.ilim i 0) (s.ilim i 15) v; (a, if a = v then 0 else 1)
  | 4 =>
    let h := hardest (s.stepClamps i v)
    if v < 0 then (0, 1) else if h.1 < v then h else (v, 0)
  | 5 =>
    let r : Int := s.roosterSlope
    if v < 0 then (0, 1) else if r < v then (r, 10) else (v, 0)
  | _ => (v, 0)

/-- The value an actuator applies, none with no presenter. -/
def State.applied (s : State) (kind i : Nat) : Option Int := (s.stage1 kind i).map (fun w => (s.stage2 kind i w.1).1)

/-- Whether a clamp or floor of one actuator freezes an element that presents `act` to it: the applied value differs from
stage 1 and the element stands on the far side of it (R154). A kind-3 element also freezes under the clamps of kind 4. -/
def State.frozenAt (s : State) (kind i : Nat) (act : Int) : Bool :=
  let far (kind : Nat) (v : Int) : Bool := match s.stage1 kind i with
    | none => false
    | some w =>
      let a := (s.stage2 kind i w.1).1
      (a < w.1 ∧ a < v) ∨ (w.1 < a ∧ v < a)
  if kind = 3 then far 3 act ∨ far 4 (s.stepOf i (clampI (s.ilim i 0) (s.ilim i 15) act) : Int) else far kind act

/-- Whether an element is frozen by a clamp, a floor or the pacing of R258. -/
def State.clampFrozen (s : State) (n k : Nat) : Bool :=
  (s.elem n k).paced ∨ (s.targets n k).any (fun i => s.targetUp (s.slotKind n) i ∧ s.frozenAt (s.slotKind n) i (s.elem n k).act)

/-- Another start, a ladder change or a CANCEL of a tile spoils its open profile checks that stand between their two samples
(R200). -/
def State.spoilChecks (s : State) (tile : Nat) : State :=
  { s with start := { s.start with
      moved := s.start.moved.put tile s.time,
      checks := s.start.checks.map (fun c =>
        if c.tile = tile ∧ c.first ≤ s.time ∧ c.after = none then { c with disturbed := true } else c) } }

/-- A ladder change of a tile falls between the samples of its open profile checks, and after its waiting requests (R200,
R435). -/
def State.ladderMoved (s : State) (d : Nat) : State :=
  let s := s.spoilChecks d
  { s with start := { s.start with queue := s.start.queue.map (fun r => if r.dom = d then { r with moved := true } else r) } }

/-- Drives the applied value of an actuator to it (R52, R103, R152, R193, R257). -/
def State.drive (s : State) (kind i : Nat) (v : Int) : State :=
  match kind with
  | 0 =>
    let st1 := (s.stage1 0 0).map (fun w => w.1)
    ((s.setF .GLB_VSTK_STATUS_VSTK_CODE 0 v.toNat).setB .GLB_VSTK_STATUS_CLAMPED 0 (st1 ≠ some v)).updTon 0
  | 1 => s.setS .PHS_PH_STATUS_TRIM i v
  | 2 =>
    let cells := (s.cfg.table.domCells i).filter (fun c => s.getF .CEL_STATUS_STATE c ≤ 3)
    (s.setF .DOM_SETPT_VEFF i v.toNat).each cells (fun c s => s.setF .CEL_STATUS_SETPT c v.toNat)
  | 4 =>
    let old := s.getF .DOM_STATUS_STEP i
    let st := v.toNat
    let s := (s.setF .DOM_STATUS_STEP i st).accStep i st
    let s : State := { s with bud := { s.bud with
      fixedLost := s.bud.fixedLost.filter (fun t => t ≠ i ∨ st < s.getF .DOM_BUD_CTRL_FIXED_STEP 0) } }
    let s := s.when (s.getF .DOM_STATUS_STATE i = 4) (fun s =>
      { s with dom := { s.dom with quiesceCeil := s.dom.quiesceCeil.put i (min st (Tbl.get 15 s.dom.quiesceCeil i)) } })
    let k := s.cfg.table.domClass i
    s.when (old ≠ st) (fun s => (s.emit (.stepSet i st (s.freqOf k st) (s.issueOf k st) s.time)).ladderMoved i)
  | 5 => s.setF .DOM_START_STATUS_SLOPE_EFF 0 v.toNat
  | _ => s

/-- The tree of an actuator re-forms and its value is driven (R153). A kind-3 result goes on to kind 4. -/
def State.rearb (s : State) (kind i : Nat) : State :=
  match kind with
  | 3 => match s.applied 4 i with
    | some v => s.drive 4 i v
    | none => s
  | 5 => match s.applied 5 0 with
    | some v => s.drive 5 0 v
    | none => s.drive 5 0 s.roosterSlope
  | _ => match s.applied kind i with
    | some v => s.drive kind i v
    | none => s

/-- Re-forms the trees of kinds 2 and 4 of a domain after one of its clamps or floors has changed. -/
def State.rearbDom (s : State) (d : Nat) : State := (s.rearb 2 d).rearb 4 d

/-! ### Starting and tracking (R139, R155, R156) -/

/-- act of R145 for an output: base + rne(y × OUT_SCALE, 15). -/
def actOf (base : Int) (scale : Nat) (y : Int) : Int := base + rne (y * scale) 15

/-- The largest y of a range whose act is at or below a value, by halving (`fuel` halvings). -/
def yMaxFor (base : Int) (scale : Nat) (a lo hi : Int) (fuel : Nat) : Int :=
  match fuel with
  | 0 => lo
  | fuel + 1 =>
    let mid := (lo + hi + 1) / 2
    if actOf base scale mid ≤ a then yMaxFor base scale a mid hi fuel else yMaxFor base scale a lo (mid - 1) fuel

/-- The Q1.15 outputs whose act is exact, or the next lower act: the highest of them and how many there are (R155). -/
def yFor (base : Int) (scale : Nat) (a : Int) : Int × Nat :=
  let hi := yMaxFor base scale a (-32768) 32767 17
  let below := yMaxFor base scale (actOf base scale hi - 1) (-32768) 32767 17
  let lo := if actOf base scale below < actOf base scale hi then below + 1 else -32768
  (hi, (hi - lo + 1).toNat)

/-- The base of an element's act: the domain VSET, profiled, for kind 2, OUT_BASE otherwise (R145). -/
def State.actBase (s : State) (n k : Nat) : Int :=
  if s.slotKind n = 2 then
    if s.isSet .CE_SD_CTRL_PROF_EN n ∧ (s.elem n k).started then rne (s.elem n k).p 8
    else (s.getF .DOM_SETPT_VSET ((s.targets n k).headD 0) : Nat)
  else s.getS .CE_SD_OUT_OUT_BASE n

/-- A sum of the accumulator: one addition that saturates, and whether any has (R142). -/
def accAdd (a : Int × Bool) (x : Int) : Int × Bool := (sat40 (a.1 + x), a.2 || sat40 (a.1 + x) ≠ a.1 + x)

/-- A value entering the accumulator by a left shift (R142). -/
def accShl (x : Int) (k : Nat) : Int × Bool := (sat40 (x * 2 ^ k), sat40 (x * 2 ^ k) ≠ x * 2 ^ k)

/-- Kinds of source whose kind-4 elements are paced (R258). -/
def pacedKind (kind : Nat) : Bool := 9 ≤ kind ∧ kind ≤ 13

/-- The paced act of a thermal kind-4 element: at most one step, no sooner than 100 µs after its last change (R258). -/
def paceAct (old want : Int) (changedAt : Option Nat) (now : Nat) : Int :=
  if want = old then old
  else if (match changedAt with | none => true | some c => c + 10000 ≤ now) then old + (want - old).sign
  else old

/-- Whether the act of a slot's elements is paced (R258). -/
def State.slotPaced (s : State) (n : Nat) : Bool := s.slotKind n = 4 ∧ pacedKind (s.getF .CE_SD_IN_IN_KIND n)

/-- The representable act that stands for a value: the value, or the next lower act (R155). -/
def State.actFor (s : State) (n k : Nat) (a : Int) : Int :=
  actOf (s.actBase n k) (s.getF .CE_SD_MAP_OUT_SCALE n) (yFor (s.actBase n k) (s.getF .CE_SD_MAP_OUT_SCALE n) a).1

/-- Sets an element's integrator so that its act equals a value, or the next lower act (R155, R156). Which of the outputs of
one act is taken is an open value. -/
def State.setAct (s : State) (n k : Nat) (a : Int) : State :=
  let base := s.actBase n k
  let scale := s.getF .CE_SD_MAP_OUT_SCALE n
  let r := yFor base scale a
  let s' := s.fresh.2
  let y := r.1 - (s.fresh.1 % max 1 r.2 : Nat)
  let e := s.elem n k
  let i := accAdd (y * 32768, false) (- e.rest)
  (s'.setElem n k { e with y := y, act := actOf base scale y, integ := i.1 }).when i.2 (fun s => s.setF .CE_SLOT_STATUS_SAT n 1)

/-- Sets an element's act as it moves by tracking: a paced element moves by one step, no sooner than 100 µs after its last
change, and the instant of its change is kept (R155, R258). -/
def State.moveAct (s : State) (n k : Nat) (a : Int) : State :=
  let e := s.elem n k
  if s.slotPaced n then
    let next := paceAct e.act (s.actFor n k a) e.changedAt s.time
    if next = e.act then s
    else
      let s := s.setAct n k next
      s.setElem n k { s.elem n k with changedAt := some s.time }
  else s.setAct n k a

/-- The reference of an element before the profile: its own or the slot's, scaled by the Ox for design-current loops
(R145, R169). -/
def State.elemRef (s : State) (n k : Nat) : Int :=
  let r := if s.isSet .CE_SD_CTRL_REF_PER n then toS 16 (s.getF .CE_ELEM_REF_REF (elemKey n k)) else s.getS .CE_SD_REF_REF n
  let r := if n = 0 then r + s.preRaise else r
  if s.slotKind n = 3 ∧ s.getF .CE_SD_IN_IN_KIND n = 5 then rne (r * (s.getF .GLB_DESIGN_CUR_EDC_EFF 0 * 32768 / 1700 : Nat)) 15
  else if s.slotKind n = 3 ∧ s.getF .CE_SD_IN_IN_KIND n = 15 then rne (r * (s.getF .GLB_DESIGN_CUR_TDC_EFF 0 * 32768 / 1100 : Nat)) 15
  else r

/-- The target of an element's profile generator, with 8 fraction bits (R148). -/
def State.profTarget (s : State) (n k : Nat) : Int :=
  (if s.slotKind n = 2 then (s.getF .DOM_SETPT_VSET ((s.targets n k).headD 0) : Int) else s.elemRef n k) * 256

/-- The value in effect that a starting element takes where the actuator has none (R156). -/
def State.topValue (s : State) (kind i : Nat) : Int :=
  match kind with
  | 0 => (s.getF .GLB_VSTK_STATUS_VSTK_CODE 0 : Nat)
  | 1 => 0
  | 2 => (s.getF .DOM_SETPT_VSET i : Nat)
  | 3 => (s.ilim i 15 : Nat)
  | 4 => 15
  | _ => 1023

/-- The elements of a slot that target an actuator. -/
def State.elemsOn (s : State) (n i : Nat) : List Nat :=
  (List.range (s.slotElems n)).filter (fun k => (s.targets n k).contains i)

/-- Every element on an actuator that has not started starts, from one value: the value in effect, with TRACK where another
presenter stands, or the top value where the actuator has none (R148, R156). An element on several actuators starts from the
one named (DESIGN CHOICE, assumption 103). -/
def State.startElems (s : State) (kind i : Nat) (v : Option Int) : State :=
  if s.eng.running then
    let todo := (s.usedSlots.filter (fun n => s.slotKind n = kind)).flatMap (fun n =>
      ((s.elemsOn n i).filter (fun k => ¬ (s.elem n k).started)).map (fun k => (n, k)))
    let joins := (s.stage1 kind i).isSome
    todo.foldl (fun t e =>
      let t := t.setElem e.1 e.2 { Elem.empty with started := true, p := t.profTarget e.1 e.2 }
      t.setAct e.1 e.2 (match v with
        | some a => if joins then a + (t.getF .CE_SD_OUT_TRACK e.1 : Nat) else a
        | none => t.topValue kind i)) s
  else s

/-- When a target comes back or an element's slot is new, the elements on it start at the value in effect (R139, R156). -/
def State.startOn (s : State) (kind i : Nat) : State :=
  if s.eng.running then (s.startElems kind i (s.applied kind i)).rearb kind i else s

/-- The elements on a domain that leaves DARK or FENCED start in one cycle, each from the top of its kind's range: its
actuators have no value in effect (R139, R156). -/
def State.startDomain (s : State) (d : Nat) : State :=
  if s.eng.running then
    ((((s.startElems 2 d none).startElems 3 d none).startElems 4 d none).rearb 2 d).rearb 4 d
  else s

/-- Elements whose every target has gone stop presenting (R139). -/
def State.stopOn (s : State) (kind i : Nat) : State :=
  (s.usedSlots.filter (fun n => s.slotKind n = kind)).foldl (fun t n =>
    (t.elemsOn n i).foldl (fun t k =>
      if (t.targets n k).all (fun j => ¬ t.targetUp kind j) then t.setElem n k Elem.empty else t) t) s

/-- A presenter that loses stage 1 on all its actuators and is not frozen tracks the winner; it stays held while its act is
the one tracking gave it (R155). -/
def State.trackElem (s : State) (n k : Nat) : State :=
  let kind := s.slotKind n
  let e := s.elem n k
  let vals := ((s.targets n k).filter (fun i => s.targetUp kind i)).filterMap (fun i => (s.stage1 kind i).map (fun w => w.1))
  let off := if e.tracking then s.setElem n k { e with tracking := false } else s
  match vals with
  | [] => off
  | v :: r =>
    let m := r.foldl max v + (s.getF .CE_SD_OUT_TRACK n : Nat)
    if Tbl.get false s.eng.opened n ∨ e.invalid ∨ s.clampFrozen n k then off
    else if m < e.act then
      let s := s.moveAct n k m
      s.setElem n k { s.elem n k with tracking := true }
    else if e.act = s.actFor n k m then s
    else off

/-- After stage 1 of an actuator has changed: the tree re-forms and the losers track, those of kind 4 also after a change of
kind 3. -/
def State.settle (s : State) (kind i : Nat) : State :=
  let s := s.rearb kind i
  let s := (s.presenters kind i).foldl (fun t e => t.trackElem e.1 e.2) s
  if kind = 3 then (s.presenters 4 i).foldl (fun t e => t.trackElem e.1 e.2) s else s

/-! ### Evaluating one element (R145) -/

/-- A table entry as slot n uses it: a slow slot keeps the replaced value up to its next slow tick (R162). -/
def State.tabEntry (s : State) (n : Nat) (f : Fld) (i : Nat) : Int :=
  match s.eng.held.find? (fun h => h.slot = n ∧ h.fld = f ∧ h.item = i) with
  | some h => toS f.width h.val
  | none => s.getS f i

/-- Entry j of gain table t as slot n uses it. -/
def State.gtab (s : State) (n t j : Nat) : Int :=
  s.tabEntry n (if j % 2 = 1 then .CE_GTAB_G_ODD else .CE_GTAB_G_EVEN) (32 * t + j / 2)

/-- Entry j of compensation table u as slot n uses it. -/
def State.ctab (s : State) (n u j : Nat) : Int :=
  s.tabEntry n (if j % 2 = 1 then .CE_CTAB_C_ODD else .CE_CTAB_C_EVEN) (32 * u + j / 2)

/-- Whether every entry of a gain table is 0 (R171). -/
def State.zeroTable (s : State) (n t : Nat) : Bool := (List.range 64).all (fun j => s.gtab n t j = 0)

/-- The primary sources of an element. -/
def State.primaries (s : State) (n k : Nat) : List Nat :=
  let per := s.getF .CE_SD_IN_IN_PER_M1 n + 1
  (List.range per).map (fun j => s.getF .CE_SD_IN_IN_BASE n + k * per + j)

/-- The values a list of sources deliver, none if any delivers none. -/
def State.sources (s : State) (kind : Nat) (l : List Nat) : Option (List Int) :=
  l.foldr (fun i acc => match s.source kind i, acc with
    | some v, some r => some (v :: r)
    | _, _ => none) (some [])

/-- The auxiliary inputs in use with their values: coefficient, mode and value; none if one delivers none. -/
def State.auxes (s : State) (n k : Nat) : Option (List (Int × Nat × Int)) :=
  let i := (s.primaries n k).headD 0
  let one (kind mode : Nat) (coef : Int) (acc : Option (List (Int × Nat × Int))) : Option (List (Int × Nat × Int)) :=
    if kind = 0 then acc
    else match s.source kind i, acc with
      | some v, some r => some ((coef, mode, v) :: r)
      | _, _ => none
  one (s.getF .CE_SD_AUX_AUX1_KIND n) (s.getF .CE_SD_AUX_AUX1_MODE n) (s.getS .CE_SD_KAUX_K1 n)
    (one (s.getF .CE_SD_AUX_AUX2_KIND n) (s.getF .CE_SD_AUX_AUX2_MODE n) (s.getS .CE_SD_KAUX_K2 n) (some []))

/-- The primary value by IN_RED: DIRECT, MIN, MAX, or DELTA against the last evaluation (R145). -/
def reduceIn (red : Nat) (l : List Int) (prev : Int) : Int :=
  match red with
  | 1 => l.foldl min (l.headD 0)
  | 2 => l.foldl max (l.headD 0)
  | 3 => sat16 (l.headD 0 - prev)
  | _ => l.headD 0

/-- The current-share error of R77: (I_p − I_m) / I_lim in Q1.15. -/
def State.shareError (s : State) (p : Nat) : Int :=
  let g := s.cfg.table.phaseGroup p
  let live := (s.cfg.table.groupPhases g).filter (fun q => s.ph q = 1 ∧ ¬ (s.phTest q).declared)
  let sum := (live.map (fun q => s.getS .PHS_PH_MEAS_IMON q)).foldl (· + ·) 0
  let m := max 1 live.length
  sat16 (rneDiv ((s.getS .PHS_PH_MEAS_IMON p * m - sum) * 32768) (m * phaseLimit g * 64))

/-- The mean of the live trims of a phase's group with one act put in, removed from that act, clamped (R77, R145); a phase
that R89 has taken out of the share loop counts as none. -/
def State.trimAct (s : State) (p : Nat) (act : Int) : Int :=
  let g := s.cfg.table.phaseGroup p
  let live := (s.cfg.table.groupPhases g).filter (fun q => s.ph q = 1 ∧ ¬ (s.phTest q).declared)
  let sum := (live.map (fun q => if q = p then act else s.getS .PHS_PH_STATUS_TRIM q)).foldl (· + ·) 0
  clampI (-64) 63 (act - rneDiv sum (max 1 live.length))

/-- The compensation c of R149. -/
def State.compensation (s : State) (n k : Nat) : Int :=
  let kind := s.slotKind n
  let i := (s.targets n k).headD 0
  let code := if kind = 0 then s.getF .GLB_VSTK_STATUS_VSTK_CODE 0 else s.getF .DOM_SETPT_VEFF i
  let angle := s.getF .PHS_GRP_STATUS_ROT_ANGLE (if kind = 1 then s.cfg.table.phaseGroup i else 0)
  (if s.isSet .CE_SD_CTRL_COMP_OFF n then interpOffset (s.ctab n (s.getF .CE_SD_REF_CTAB_OFF n)) code else 0) +
    (if s.isSet .CE_SD_CTRL_COMP_RIP n then s.ctab n (s.getF .CE_SD_REF_CTAB_RIP n) angle else 0)

/-- The value an element keeps for DELTA: an open value before its first evaluation. -/
def State.prevOf (s : State) (n k : Nat) : Int × State :=
  match (s.elem n k).prevX with
  | some p => (p, s)
  | none => if s.getF .CE_SD_IN_IN_RED n = 3 then (toS 16 s.fresh.1, s.fresh.2) else (0, s)

/-- An element with an invalid input holds its output and does not track (R144, R155); the VSTK headroom loop whose tree has
lost every member holds code 160 (R59). -/
def State.holdInvalid (s : State) (n k : Nat) : State :=
  let e := { s.elem n k with tracking := false }
  if s.slotKind n = 0 ∧ s.getF .CE_SD_IN_IN_KIND n = 1 ∧ s.dom.hadMember then
    (s.setElem n k { e with invalid := true, y := 0, act := 160, integ := 0, rest := 0 }).settle 0 0
  else s.setElem n k { e with invalid := true }

/-- One evaluation with valid inputs (R145, R161, R171): primaries `l`, auxiliary inputs `aux`. -/
def State.evalWith (s : State) (n k : Nat) (l : List Int) (aux : List (Int × Nat × Int)) : State :=
  let kind := s.slotKind n
  let prev := s.prevOf n k
  let s := prev.2
  let e0 := s.elem n k
  let frozen := s.clampFrozen n k
  let zs := aux.map (fun a => (a.2.1, sat16 (rne (a.1 * a.2.2) 15)))
  let x0 := reduceIn (s.getF .CE_SD_IN_IN_RED n) l prev.1
  let x := zs.foldl (fun x z => if z.1 = 1 then max x z.2 else if z.1 = 2 then min x z.2 else x) x0
  let yff := (zs.filter (fun z => z.1 = 0)).foldl (fun acc z => accAdd acc (z.2 * 32768)) (0, false)
  let usesProf : Bool := s.isSet .CE_SD_CTRL_PROF_EN n ∧ kind ≠ 1
  let pr := if usesProf then profileStep (s.profTarget n k) e0.p e0.v e0.a (s.getF .CE_SD_PROF_VMAX n) (s.getF .CE_SD_PROF_AMAX n)
      (s.getF .CE_SD_JERK_JMAX n) else (e0.p, e0.v, e0.a)
  let err :=
    if kind = 1 then s.shareError ((s.targets n k).headD 0)
    else
      let r := if usesProf ∧ kind ≠ 2 then rne pr.1 8 else s.elemRef n k
      sat16 (if s.isSet .CE_SD_CTRL_SIGN n then x - r else r - x)
  let t := s.getF .CE_SD_LAW_GTAB n
  let g := interpGain (s.gtab n t) err
  let prop := accShl (s.getS .CE_SD_LAW_KP n * err) (s.getF .CE_SD_LAW_PSHIFT n)
  let inc := accShl (g * err) (s.getF .CE_SD_LAW_GSHIFT n)
  let c := accShl (s.compensation n k) 15
  let i0 : Int × Bool :=
    if e0.reopen then accAdd (accAdd (accAdd (e0.y * 32768, false) (- prop.1)) (- yff.1)) (- c.1) else (e0.integ, false)
  let i1 := if frozen then i0 else accAdd (i0.1, i0.2 || inc.2) inc.1
  let evals := if e0.reopen then 1 else min 2 (e0.evals + 1)
  let i2 := if evals = 2 ∧ e0.evals = 1 ∧ s.zeroTable n t then 0 else i1.1
  let rest := accAdd (accAdd (prop.1, prop.2 || yff.2 || c.2) yff.1) c.1
  let sum := accAdd (accAdd (accAdd (i2, i1.2) prop.1) yff.1) c.1
  let y := sat16 (rne sum.1 15)
  let saturated : Bool := sum.2 || prop.2 || yff.2 || c.2
  let base := if kind = 2 then (if usesProf then rne pr.1 8 else (s.getF .DOM_SETPT_VSET ((s.targets n k).headD 0) : Int))
    else s.getS .CE_SD_OUT_OUT_BASE n
  let a0 := actOf base (s.getF .CE_SD_MAP_OUT_SCALE n) y
  let want := if kind = 1 then s.trimAct ((s.targets n k).headD 0) a0 else a0
  let act := if s.slotPaced n then paceAct e0.act want e0.changedAt s.time else want
  let e : Elem :=
    { e0 with integ := i2, y := y, act := act, p := pr.1, v := pr.2.1, a := pr.2.2, rest := rest.1,
              prevX := some (l.headD 0), invalid := false, tracking := false, reopen := false, evals := evals, paced := act ≠ want,
              changedAt := if act = e0.act then e0.changedAt else some s.time }
  let s := ((s.setElem n k e).when saturated (fun s => s.setF .CE_SLOT_STATUS_SAT n 1)).when (n = 0) State.showPre
  s.each ((s.targets n k).filter (fun i => s.targetUp kind i)) (fun i s => s.settle kind i)

/-- Evaluates element k of slot n: nothing while its slot is open or it presents nothing; a hold with an invalid input
(R139, R144, R145, R159). -/
def State.evalElem (s : State) (n k : Nat) : State :=
  if ¬ s.eng.running ∨ s.slotClass n = 0 ∨ s.slotElems n ≤ k ∨ ¬ (s.elem n k).started ∨ Tbl.get false s.eng.opened n then s
  else match s.sources (s.getF .CE_SD_IN_IN_KIND n) (s.primaries n k), s.auxes n k with
    | some l, some aux => s.evalWith n k l aux
    | _, _ => s.holdInvalid n k

/-- Evaluates every element of a slot in order and stamps it (R136, R138). -/
def State.evalSlot (s : State) (n : Nat) : State :=
  (s.each (List.range (s.slotElems n)) (fun k s => s.evalElem n k)).setF .CE_SLOT_EVAL_TICK_LO n s.time

/-! ### Cost and load (R134, R140, R141) -/

/-- Operations of one element of a slot (R140). -/
def State.elemOps (s : State) (n : Nat) : Nat :=
  let aux := (if s.getF .CE_SD_AUX_AUX1_KIND n = 0 then 0 else 1) + (if s.getF .CE_SD_AUX_AUX2_KIND n = 0 then 0 else 1)
  2 * (s.getF .CE_SD_IN_IN_PER_M1 n + 1) + 2 * aux + 6 + 3 + 5 * s.getF .CE_SD_CTRL_PROF_EN n +
    3 * (s.getF .CE_SD_CTRL_COMP_OFF n + s.getF .CE_SD_CTRL_COMP_RIP n) + 2 + (if s.slotKind n = 1 then 2 else 0)

/-- Operations of one evaluation of a slot (R140). -/
def State.slotOps (s : State) (n : Nat) : Nat := if s.slotClass n = 0 then 0 else s.slotElems n * s.elemOps n + 8

/-- Class rate in kHz. -/
def classRate (c : Nat) : Nat := [0, 1000, 100, 1].getD c 0

/-- The committed load in thousands of operations per second (R140). -/
def State.loadKops (s : State) : Nat :=
  (s.usedSlots.map (fun n => s.slotOps n * classRate (s.slotClass n))).foldl (· + ·) 0

/-- Fast operations per 1 µs. -/
def State.fastOps (s : State) : Nat :=
  ((s.usedSlots.filter (fun n => s.slotClass n = 1)).map s.slotOps).foldl (· + ·) 0

/-- Worst-case capacity of `n` lanes in thousands of operations per second: one operation in 3.75 ns (R132). -/
def laneKops (n : Nat) : Nat := n * 1000000000 / 3750

/-- The value a piece gives its field. -/
def State.pieceVal (s : State) (p : Piece) : Nat := withMask (s.getF p.fld p.item) p.mask p.val

/-- The fields of pieces written, with no other effect. -/
def State.rawPieces (s : State) (l : List Piece) : State := l.foldl (fun t p => t.setF p.fld p.item (t.pieceVal p)) s

/-- The committed fields: those of slow slots also where they still wait for their slow tick (R162). -/
def State.withDeferred (s : State) : State := s.rawPieces s.eng.defer

/-- Whether the committed load exceeds the worst-case capacity of the lanes in service (R134). -/
def State.overloaded (s : State) : Bool := laneKops (s.getF .CE_LANES_IN_SERVICE 0) < s.withDeferred.loadKops

/-- Records the load of the committed loop set in CE_LOAD (R140). -/
def State.recordLoad (s : State) : State :=
  (s.setF .CE_LOAD_LOAD_MOPS 0 (ceilDiv s.withDeferred.loadKops 1000)).setF .CE_LOAD_FAST_OPS 0 s.withDeferred.fastOps

/-! ### Evaluations that miss (R134, R138, R157) -/

/-- Ticks in a period of a class (R38). -/
def classPeriod (c : Nat) : Nat := [1, 100, 1000, 100000].getD c 1

/-- The elements of a slot that hold lane time: those that present, of a slot that is not open (R139, R159). -/
def State.evalKeys (s : State) (n : Nat) : List Nat :=
  if Tbl.get false s.eng.opened n then [] else (List.range (s.slotElems n)).filter (fun k => (s.elem n k).started)

/-- The slots of a class, ascending. -/
def State.classSlots (s : State) (c : Nat) : List Nat := s.usedSlots.filter (fun n => s.slotClass n = c)

/-- The elements of a class in the order of R138, each with its operations; a slot's own 8 go with its first element. -/
def State.classWork (s : State) (c : Nat) : List ((Nat × Nat) × Nat) :=
  (s.classSlots c).flatMap (fun n => (s.evalKeys n).zipIdx.map (fun p => ((n, p.1), s.elemOps n + if p.2 = 0 then 8 else 0)))

/-- Operations of one evaluation of a class. -/
def State.classOps (s : State) (c : Nat) : Nat := ((s.classWork c).map (fun w => w.2)).foldl (· + ·) 0

/-- Operations that the lanes in service complete for a class in one of its periods at the worst case, once the classes before
it have had theirs (R132, R138). -/
def State.classRoom (s : State) (c : Nat) : Nat :=
  let period := [0, 1, 10, 1000].getD c 0
  let all := s.getF .CE_LANES_IN_SERVICE 0 * (period * 100000) / 375
  let before := (if 2 ≤ c then period * s.classOps 1 else 0) + (if 3 ≤ c then 100 * s.classOps 2 else 0)
  all - before

/-- The work that does not fit the room left, in order. -/
def overRoom (room : Nat) (l : List ((Nat × Nat) × Nat)) : List (Nat × Nat) :=
  match l with
  | [] => []
  | w :: r => if w.2 ≤ room then overRoom (room - w.2) r else (w :: r).map (fun x => x.1)

/-- The evaluations of a class that may be waiting or in progress at their deadline: those past the worst-case capacity, slow
work before medium and medium before fast, the highest slots and elements first (R134; assumption 104). -/
def State.lateWork (s : State) (c : Nat) : List (Nat × Nat) := overRoom (s.classRoom c) (s.classWork c)

/-- The last `n` evaluations of a class that miss, no more of them than may. -/
def State.missing (s : State) (c n : Nat) : List (Nat × Nat) :=
  let l := s.lateWork c
  l.drop (l.length - n)

end Sys2Proof.Machine
end

