-- ==== Sys2Proof/Machine/RoosterOps.lean ====
section
/-! DEFINITION. Shared operations of the Rooster (chapter Forecasts, Barriers and the Rooster): waves, the queue of start
requests, grants, refusals, floors and profiles. -/

namespace Sys2Proof.Machine

/-! ### Waves (R186 to R189) -/

/-- Whether a domain is in LIVE or DERATED. -/
def State.domLive (s : State) (d : Nat) : Bool := s.getF .DOM_STATUS_STATE d = 2 ∨ s.getF .DOM_STATUS_STATE d = 3

/-- E of R189: the engines of a wave less 16 for each tile of its set that is not in LIVE or DERATED at the instant of the check; a
tile that was down at the announcement (R180) and has become LIVE since counts again (DEDUCED, assumption 116). -/
def State.waveE (s : State) (w : Wave) : Nat := w.engines - 16 * (w.tiles.filter (fun t => ¬ s.domLive t)).length

/-- Writes one wave register pair: zero for a free slot. -/
def State.showWave (s : State) (k : Nat) : State :=
  match s.start.waves.find? (fun w => w.slot = k) with
  | none =>
    ((((s.setF .DOM_WAVE_ID_BARRIER_ID k 0).setF .DOM_WAVE_ID_ENGINES k 0).setF .DOM_WAVE_PROG_STATE k 0).setF
      .DOM_WAVE_PROG_WAVE_ARMED k 0).setF .DOM_WAVE_PROG_GRANTED k 0
  | some w =>
    ((((s.setF .DOM_WAVE_ID_BARRIER_ID k w.bid).setF .DOM_WAVE_ID_ENGINES k (s.waveE w)).setF .DOM_WAVE_PROG_STATE k
      (if w.released then 2 else 1)).setB .DOM_WAVE_PROG_WAVE_ARMED k w.armed).setF .DOM_WAVE_PROG_GRANTED k w.granted

/-- Writes the wave registers, and the BOOST of R187: set by a wave that is armed and released, until the last active wave
ends. -/
def State.showWaves (s : State) : State :=
  let ws := s.start.waves
  let boost : Bool := ws ≠ [] ∧ (s.isSet .DOM_START_STATUS_BOOST 0 ∨ ws.any (fun w => w.armed ∧ w.released))
  (((((s.each [0, 1, 2, 3] (fun k s => s.showWave k)).setF .DOM_START_STATUS_WAVES 0 ws.length).showPre).setB
    .DOM_START_STATUS_ARMED 0 (ws.any (fun w => w.armed))).setB .DOM_START_STATUS_BOOST 0 boost).rearb 5 0

/-- Replaces the active waves. -/
def State.setWaves (s : State) (ws : List Wave) : State := ({ s with start := { s.start with waves := ws } }).showWaves

/-- The active wave of a barrier. -/
def State.findWave (s : State) (bid : Nat) : Option Wave := s.start.waves.find? (fun w => w.bid = bid)

/-- Replaces one wave in its slot. -/
def State.putWave (s : State) (w : Wave) : State := s.setWaves (s.start.waves.map (fun x => if x.slot = w.slot then w else x))

/-- The wave of a barrier ends (R189). Floors of its announcement that have not begun to act never will. -/
def State.endWave (s : State) (bid : Nat) : State :=
  let keys := (s.start.waves.filter (fun w => w.bid = bid)).map (fun w => w.floors)
  ({ s with start := { s.start with floors := s.start.floors.filter (fun f => f.acting ∨ ¬ keys.contains f.key) } }).setWaves
    (s.start.waves.filter (fun w => w.bid ≠ bid))

/-- Ends every wave whose granted engines have reached E (R189). -/
def State.checkWaves (s : State) : State :=
  let done := s.start.waves.filter (fun w => s.waveE w ≤ w.granted)
  (done.foldl (fun t w => t.endWave w.bid) s).showWaves

/-! ### The queue (R190 to R197) -/

/-- Replaces the waiting requests. -/
def State.setQueue (s : State) (q : List StartReq) : State :=
  ({ s with start := { s.start with queue := q } }).setF .DOM_START_STATUS_WAITING 0 q.length

/-- CAP as it is used. -/
def State.cap (s : State) : Nat := max 100 (s.getF .DOM_START_BUCKET_CAP 0)

/-- The charge of a request (R193). -/
def State.charge (s : State) (r : StartReq) : Nat :=
  min s.cap (if r.wake then s.getF .DOM_CTRL_WAKE_STEP r.dom else ceilDiv (r.step * r.scale) 128)

/-- The effective class of a request (R194). -/
def State.effClass (s : State) (r : StartReq) : Nat :=
  r.wclass - (s.time - r.arrival) / (10 * max 1 (s.getF .DOM_START_WAVE_AGE_PROMOTE 0))

/-- Whether the stack minimum has stood at or above H − 2.5 mV for 10 µs (R118, R125). -/
def State.wakeHeadroom (s : State) : Bool := s.dom.hrOkAt.any (fun t => t + 1000 ≤ s.time)

/-- Whether a request is passed over: the permit gate it waits behind is closed by a fatal fault, by a stack crossing or, for a
tile's request, by its domain, or it is a wake whose headroom condition is no longer met (R125, R130, R131, R197, R422). -/
def State.gateClosed (s : State) (r : StartReq) : Bool :=
  s.dom.gateAll ∨ s.dom.stackGate ∨ (if r.wake then ¬ s.wakeHeadroom else s.isSet .DOM_STATUS_GATE_CLOSED r.dom)

/-- The earlier of two requests by effective class and arrival; the queue is in order of arrival. -/
def State.soonerReq (s : State) (a b : StartReq) : StartReq := if s.effClass b < s.effClass a then b else a

/-- The first request in order among those whose gate is open (R194). -/
def State.firstReq (s : State) : Option StartReq :=
  match s.start.queue.filter (fun r => ¬ s.gateClosed r) with
  | [] => none
  | r :: rest => some (rest.foldl s.soonerReq r)

/-- Refuses a request (R190, R196). -/
def State.sendDeny (s : State) (tile reqId reason : Nat) : State := s.emit (.deny tile reqId reason)

/-- A domain is no longer one that starts: its waiting requests are answered DENY with REASON 1 and its wake request, which
has no port, is dropped; the waves are counted again (R128, R196). -/
def State.denyDomain (s : State) (d : Nat) : State :=
  let gone := s.start.queue.filter (fun r => r.dom = d ∧ ¬ r.wake)
  let s := gone.foldl (fun t r => t.sendDeny d r.reqId 1) s
  (s.setQueue (s.start.queue.filter (fun r => r.dom ≠ d))).checkWaves

/-- Ticks that `n` cycles of a tile take at its ladder step in effect, rounded up; nothing while FREQ is 0. -/
def State.cycleTicks (s : State) (tile n : Nat) : Nat :=
  let f := s.freqOf 0 (s.getF .DOM_STATUS_STEP tile)
  if f = 0 then 0 else ceilDiv (n * 10) f

/-- The floors that a permit covers take the end of its profile: those that act over its tile and have not begun to fall, a
token's always, an announcement's when the permit counts toward its wave (R185). -/
def State.coverFloors (s : State) (r : StartReq) : State :=
  let fin := s.time + s.cycleTicks r.dom (r.delay + r.rise)
  let key := (r.bid.bind s.findWave).map (fun w => w.floors)
  { s with start := { s.start with
      floors := s.start.floors.map (fun f =>
        if f.acting ∧ f.tiles.contains r.dom ∧ ¬ f.heights.any (fun p => p.1 = r.dom) ∧ (¬ f.wave ∨ key = some f.key)
        then { f with covered := f.covered.put r.dom fin } else f) } }

/-- A grant counts toward the wave its request names (R189). -/
def State.countGrant (s : State) (r : StartReq) : State :=
  match r.bid with
  | none => s
  | some b =>
    match s.findWave b with
    | none => s
    | some w => if w.tiles.contains r.dom then (s.putWave { w with granted := w.granted + r.engines }).checkWaves else s

/-- The sum of a domain's cell readings in mA. -/
def State.domSum (s : State) (d : Nat) : Nat :=
  ((s.cfg.table.domCells d).map (fun c => s.getF .CEL_MEAS_I_CELL c)).foldl (· + ·) 0

/-- Opens the profile check of a start with a charge of 20 or more on a known epoch (R199, R200, R435); `last` is the time of the
tile's last start, ladder change or CANCEL before it, which spoils the check where the first sample was taken before that. -/
def State.openCheck (s : State) (r : StartReq) (c : Nat) (last : Option Nat) : State :=
  if 20 ≤ c ∧ r.known ∧ ¬ r.moved then
    let on := s.time + s.cycleTicks r.dom r.delay
    let first := (on - 1) / 10 * 10
    let i : Int := (s.domSum r.dom : Nat)
    { s with start := { s.start with
        checks := s.start.checks ++ [{ tile := r.dom, charge := c, on := on, fin := on + s.cycleTicks r.dom r.rise + 20, first := first,
                                       base := i, before := i, early := 0, after := none,
                                       disturbed := last.any (fun t => first ≤ t) }] } }
  else s

/-- Sends PERMIT for a tile's request with its charge (R190, R192, R193). -/
def State.sendPermit (s : State) (r : StartReq) (c : Nat) : State :=
  let last := (s.start.moved.find? (fun p => p.1 = r.dom)).map (fun p => p.2)
  ((((s.spoilChecks r.dom).emit (.permit r.dom r.reqId c s.time)).coverFloors r).openCheck r c last).countGrant r

/-! ### Profiles (R198, R199) -/

/-- SCALE as it is used. -/
def scaleUsed (n : Nat) : Nat := max 64 n

/-- The profile of a request: scale, delay, rise, and whether its epoch is known. -/
def State.profileOf (s : State) (tile epoch : Nat) : Nat × Nat × Nat × Bool :=
  let ns := scaleUsed (s.getF .DOM_TILE_PROF_NOM_SCALE tile)
  let nd := s.getF .DOM_TILE_PROF_NOM_DELAY tile
  let nr := s.getF .DOM_TILE_PROF_NOM_RISE tile
  let ss := scaleUsed (s.getF .DOM_TILE_PROF_SPR_SCALE tile)
  let sd := s.getF .DOM_TILE_PROF_SPR_DELAY tile
  let sr := s.getF .DOM_TILE_PROF_SPR_RISE tile
  if epoch = s.getF .DOM_TILE_MAP_EPOCH tile then
    if s.isSet .DOM_TILE_MAP_MAP tile then (ss, sd, sr, true) else (ns, nd, nr, true)
  else if nd + nr < sd + sr then (max ns ss, sd, sr, false) else (max ns ss, nd, nr, false)

/-! ### Forecast messages (R177 to R184) -/

/-- The tiles a set names within the configured tile count, each once, in order (R177, R180). -/
def State.setTiles (s : State) (t : TileSet) : List Nat :=
  (((List.range t.count).map (fun j => t.first + j * max 1 t.stride)).filter (fun x => x < s.cfg.table.tiles)).dedup

/-- A Rooster event of an announcement, whose record names no one tile: INDEX is an open value. -/
def State.roosterEvent (s : State) (f : Fld) : State := s.fresh.2.event f 0 0x04 (s.fresh.1 % 65536)

/-- A Rooster event of an activity token, whose TOKEN_ID its record echoes (R177): its low 16 bits stand in INDEX (DEDUCED,
assumption 111). -/
def State.tokenEvent (s : State) (f : Fld) (tokenId : Nat) : State := s.event f 0 0x04 (tokenId % 65536)

/-- Whether a set names a tile at or above the tile count, which sets MSG_BAD (R180). -/
def State.setBad (s : State) (t : TileSet) : Bool :=
  (List.range t.count).any (fun j => s.cfg.table.tiles ≤ t.first + j * max 1 t.stride)

/-- Holds the floors of a message over its tiles in LIVE or DERATED (R180, R185). -/
def State.addFloors (s : State) (tiles : List Nat) (start : Nat) (wave acting : Bool) : State :=
  let f : FloorSet := { key := s.start.nextFloor, start := start, wave := wave, tiles := tiles.filter (fun t => s.domLive t),
                        acting := acting, heights := [], covered := [] }
  { s with start := { s.start with floors := s.start.floors ++ [f], nextFloor := s.start.nextFloor + 1 } }

/-- FMT_STEP of a format class in mA. -/
def State.fmtStep (s : State) (f : Nat) : Nat :=
  if f % 2 = 1 then s.getF .DOM_FMT_STEP_STEP_ODD (f % 8 / 2) else s.getF .DOM_FMT_STEP_STEP_EVEN (f % 8 / 2)

/-- STEP_Q and the cycles of DUR of a token (R182). -/
def State.tokenStep (s : State) (fmt m n k : Nat) : Nat × Nat :=
  let arr := max 1 (s.getF .DOM_START_ARR_ARR 0)
  let fs := max 1 (s.getF .DOM_START_ARR_TILE_FS 0)
  if m = 0 ∨ n = 0 ∨ k = 0 then (0, 0)
  else
    let blocks := ceilDiv m arr * ceilDiv n arr
    let engines := min 16 blocks
    (min 64 (rneDiv (engines * s.fmtStep fmt * m * n * 64 : Nat) (blocks * arr * arr * fs)).toNat,
      ceilDiv blocks engines * (k + 2 * arr))

/-- The sum of two fractions. -/
def addFrac (a b : Nat × Nat) : Nat × Nat :=
  let n := a.1 * b.2 + b.1 * a.2
  let d := a.2 * b.2
  (n / Nat.gcd n d, d / Nat.gcd n d)

/-- Enters a token's energy into the forecast bins of its tiles (R184, R268): STEP_Q × TILE_FS / 64 mA over DUR at VEFF, in
femtojoules. -/
def State.forecast (s : State) (tiles : List Nat) (start q cycles : Nat) : State :=
  let f := match tiles with
    | [] => 0
    | t :: _ => s.freqOf 0 (s.getF .DOM_STATUS_STEP t)
  if f = 0 ∨ q = 0 ∨ cycles = 0 then s
  else
    let fs := max 1 (s.getF .DOM_START_ARR_TILE_FS 0)
    let bin := min 49 (start / 100000 - s.time / 100000)
    s.each tiles (fun t s =>
      let e := (q * fs * cycles * 125 * s.getF .DOM_SETPT_VEFF t, 64 * f)
      let k := 50 * t + bin
      { s with thm := { s.thm with bins := s.thm.bins.put k (addFrac (Tbl.get (0, 1) s.thm.bins k) e) } })

end Sys2Proof.Machine
end

