-- ==== Sys2Proof/Machine/DomainOps.lean ====
section
/-! DEFINITION. Shared operations of cells and domains (chapter Regulator Cells and Domains, R53 to R60). Cell states: 0 OFF,
1 PRECHARGE, 2 ON, 3 LIMITED, 4 FAILED, 5 ISOLATED. Domain states: 0 DARK, 1 WAKING, 2 LIVE, 3 DERATED, 4 QUIESCING,
5 FENCED. -/

namespace Sys2Proof.Machine

/-- State of a domain. -/
def State.domSt (s : State) (d : Nat) : Nat := s.getF .DOM_STATUS_STATE d

/-- State of a cell. -/
def State.cellSt (s : State) (c : Nat) : Nat := s.getF .CEL_STATUS_STATE c

/-- Whether a domain is in LIVE, DERATED or QUIESCING. -/
def State.powered (s : State) (d : Nat) : Bool := 2 ≤ s.domSt d ∧ s.domSt d ≤ 4

/-- The domain numbers. -/
def State.doms (s : State) : List Nat := List.range s.cfg.table.domains

/-- Whether every domain is DARK or FENCED. -/
def State.allDown (s : State) : Bool := s.doms.all (fun d => s.domSt d = 0 ∨ s.domSt d = 5)

/-- Whether every domain that is not a fabric domain is DARK or FENCED (R121). -/
def State.nonFabricDown (s : State) : Bool :=
  s.doms.all (fun d => s.cfg.table.domClass d = 4 ∨ s.domSt d = 0 ∨ s.domSt d = 5)

/-- n_avail: cells of a domain in OFF, PRECHARGE, ON or LIMITED. -/
def State.navail (s : State) (d : Nat) : Nat := ((s.cfg.table.domCells d).filter (fun c => s.cellSt c ≤ 3)).length

/-- The ceiling of R113 for a count of available cells. -/
def State.ceilOf (s : State) (d n : Nat) : Nat :=
  ((List.range 16).filter (fun st => s.ilim d st ≤ 128 * n)).foldl max 0

/-- FENCE_AT of a class as it is used (R115). -/
def State.fenceAt (s : State) (k : Nat) : Nat :=
  clampN ([2, 2, 0, 0, 0].getD k 0) (classCells k - 1) (s.getF .DOM_CLS_CFG_FENCE_AT k)

/-- Whether a domain may stand in LIVE no longer: a ceiling below 15, or no valid droop sensor (R58, R118). -/
def State.derated (s : State) (d : Nat) : Bool := s.getF .DOM_STATUS_CEIL d < 15 ∨ s.getF .DOM_STATUS_DS_VALID d = 0

/-- Shows the permit gate of a domain (R130, R131, R422). -/
def State.showGate (s : State) (d : Nat) : State :=
  s.setB .DOM_STATUS_GATE_CLOSED d (s.dom.gateAll ∨ s.dom.stackGate ∨ Tbl.get 0 s.dom.floor d ≠ 0)

/-- Sets the droop floor of a domain, 0 for none and one more than its height in codes otherwise, and whether it falls (R130). -/
def State.setFloor (s : State) (d h : Nat) (falls : Bool) : State :=
  let s : State := { s with dom := { s.dom with floor := Tbl.putD 0 s.dom.floor d h, floorFalling := Tbl.putD false s.dom.floorFalling d falls } }
  ((s.setB .DOM_STATUS_DROOP_FLOOR d (h ≠ 0)).showGate d).rearb 2 d

/-- Replaces a domain's estimation record. -/
def State.setEst (s : State) (d : Nat) (e : EstDom) : State :=
  { s with est := { s.est with dom := Tbl.putD EstDom.empty s.est.dom d e } }

/-- Notes a hold cause of R216 in the millisecond in progress. -/
def State.estHold (s : State) (d cause : Nat) : State :=
  let e := s.estDom d
  if e.holds.contains cause then s else s.setEst d { e with holds := e.holds ++ [cause] }

/-- Moves a cell to a state. A cell that enters or leaves PRECHARGE, ON and LIMITED holds the calibration of its domain, and
one that enters FAILED makes the measurement of the window invalid (R210, R216). -/
def State.setCell (s : State) (c st : Nat) : State :=
  let d := s.cfg.table.cellDom c
  let old := s.cellSt c
  let s := s.setF .CEL_STATUS_STATE c st
  let s := s.when (decide (1 ≤ old ∧ old ≤ 3) ≠ decide (1 ≤ st ∧ st ≤ 3)) (fun s => s.estHold d 6)
  s.when (st = 4) (fun s => s.setEst d { s.estDom d with failedCell := true })

/-- Whether the Goose holds the cells of a domain open (R427, R429). -/
def State.gooseOpens (s : State) (d : Nat) : Bool := s.flt.gooseShut.contains 4 ∨ s.flt.gooseShut.contains (5 + d)

/-- The cells of a domain enter OFF (R109, R119). -/
def State.cellsOff (s : State) (d : Nat) : State :=
  let s := s.each ((s.cfg.table.domCells d).filter (fun c => 1 ≤ s.cellSt c ∧ s.cellSt c ≤ 3)) (fun c s => s.setCell c 0)
  { s with dom := { s.dom with rejoin := s.dom.rejoin.filter (fun p => ¬ (s.cfg.table.domCells d).contains p.1) } }

/-- What a domain does on entering DARK or FENCED (R118, R127, R139). -/
def State.enterDown (s : State) (d : Nat) : State :=
  let s := (s.cellsOff d).setFloor d 0 false
  let s : State := { s with dom := { s.dom with
    ramping := s.dom.ramping.put d false, lossFence := s.dom.lossFence.put d false, fenceReq := s.dom.fenceReq.put d false } }
  ((s.stopOn 2 d).stopOn 3 d).stopOn 4 d

/-- What a domain does on entering QUIESCING (R118, R126). -/
def State.enterQuiesce (s : State) (d : Nat) : State :=
  let s : State := { s with dom := { s.dom with
    quiesceCeil := s.dom.quiesceCeil.put d (s.getF .DOM_STATUS_STEP d), forced := s.dom.forced.put d false,
    ramping := s.dom.ramping.put d false } }
  s.emit (.quiesceReq d)

/-- What a domain does on entering FENCED (R117, R353, and the final reply of FENCE_DOMAIN in R351). -/
def State.enterFenced (s : State) (d : Nat) : State :=
  let f := if Tbl.get false s.dom.forced d then 1 else 0
  ((s.event .DOM_EVENT_FENCE d 0x02 d).notice 1 d).replyAll 0x80 (fun p => leAt p.payload 0 2 = d) stOk [f, 0, 0, 0]

/-- Moves a domain to a state, with everything R118 gives that entry. -/
def State.domEnter (s : State) (d new : Nat) : State :=
  let old := s.domSt d
  if old = new then s
  else
    let s := (s.setF .DOM_STATUS_STATE d new).setB .DOM_STATUS_READY d (new = 2 ∨ new = 3)
    let s := (s.setB .DOM_STATUS_WAKE_WAIT d (new = 1)).when (old = 1) (fun s =>
      { s with dom := { s.dom with admitted := s.dom.admitted.put d false } })
    let s := s.when (new ≠ 2 ∧ new ≠ 3) (fun s =>
      ({ s with bud := { s.bud with fixedLost := s.bud.fixedLost.filter (fun t => t ≠ d) } } : State).estHold d 1)
    let s := s.when (new = 0 ∨ new = 5) (fun s => s.enterDown d)
    let s := s.when (old = 5) (fun s => s.notice 2 d)
    let s := s.when (new = 1) (fun s => s.startDomain d)
    let s := s.when (new = 4) (fun s => s.enterQuiesce d)
    let s := s.when (new = 3) (fun s => (s.event .DOM_EVENT_DERATE d 0x02 d).notice 3 d)
    let s := s.when (new = 5) (fun s => s.enterFenced d)
    let s := s.when (new = 0 ∨ new = 5) (fun s => { s with dom := { s.dom with forced := s.dom.forced.put d false } })
    let s := s.when (1 ≤ new ∧ new ≤ 4) (fun s => (s.rearb 2 d).rearb 4 d)
    if new = 0 ∨ new = 4 ∨ new = 5 then s.denyDomain d else s.checkWaves

/-- Whether the release sequence lets POWER wake a domain (R118, R399). -/
def State.mayPower (s : State) (d : Nat) : Bool :=
  s.dom.powerGo = 2 ∨ (s.dom.powerGo = 1 ∧ s.cfg.table.domClass d = 4)

/-- Moves a domain to a state; a domain that reaches DARK with POWER = 1 enters WAKING at once (R120). -/
def State.domGo (s : State) (d new : Nat) : State :=
  let s := s.domEnter d new
  s.when (new = 0 ∧ s.domSt d = 0 ∧ s.isSet .DOM_CTRL_POWER d ∧ s.mayPower d) (fun s => s.domEnter d 1)

/-- A domain acts on its POWER field (R118, R120, R128). -/
def State.powerActs (s : State) (d : Nat) : State :=
  match s.domSt d, s.isSet .DOM_CTRL_POWER d with
  | 0, true => s.when (s.mayPower d) (fun s => s.domEnter d 1)
  | 1, false => s.domGo d 0
  | 2, false => s.domGo d 4
  | 3, false => s.domGo d 4
  | _, _ => s

/-- A fence request meets a domain (R118, R128); `loss` marks the cell-loss fence, which also holds the ladder at step 0
(R114). -/
def State.fence (s : State) (d : Nat) (loss : Bool) : State :=
  match s.domSt d with
  | 0 => s.domGo d 5
  | 1 => s.domGo d 5
  | 5 => s
  | st =>
    let s : State := { s with dom := { s.dom with
      fenceReq := s.dom.fenceReq.put d true,
      lossFence := if loss then s.dom.lossFence.put d true else s.dom.lossFence } }
    if st = 4 then s.rearb 4 d else s.domGo d 4

/-- The end of a domain's quiesce: FENCED with a fence request pending, DARK without (R118, R127). -/
def State.quiesceEnd (s : State) (d : Nat) : State := s.domGo d (if Tbl.get false s.dom.fenceReq d then 5 else 0)

/-- Every quiescing domain ends at once (R127). -/
def State.endQuiescing (s : State) : State := s.each (s.doms.filter (fun d => s.domSt d = 4)) (fun d s => s.quiesceEnd d)

/-- A fatal stop meets a domain (R127, R423). -/
def State.fatalQuiesce (s : State) (d : Nat) : State :=
  if 1 ≤ s.domSt d ∧ s.domSt d ≤ 4 then s.fence d false else s

/-- LIVE and DERATED follow the ceiling and the droop sensors of the domain (R58, R118). -/
def State.derateCheck (s : State) (d : Nat) : State :=
  if s.domSt d = 2 ∧ s.derated d then s.domGo d 3
  else if s.domSt d = 3 ∧ ¬ s.derated d then s.domGo d 2
  else s

/-- Counts the available cells of a domain again: n_avail, ceiling, cell-loss fence and DERATED (R113, R114, R116); a loss in
QUIESCING makes FENCED its end state (R128). -/
def State.cellsChanged (s : State) (d : Nat) : State :=
  let n := s.navail d
  let was := s.getF .DOM_STATUS_CELLS_OK d
  let k := s.cfg.table.domClass d
  let s := ((s.setF .DOM_STATUS_CELLS_OK d n).setF .DOM_STATUS_CEIL d (s.ceilOf d n)).rearbDom d
  let s := s.when (k = 4 ∧ n = 0 ∧ was ≠ 0) (fun s => s.raise 0x02 9 d)
  let s := s.when (n < was ∧ s.domSt d = 4) (fun s => s.fence d false)
  if n ≤ s.fenceAt k ∧ s.domSt d ≠ 5 then s.fence d true else s.derateCheck d

/-- The cell-loss fence meets the domains of a class again, as FENCE_AT of the class has been written (R113, R115). -/
def State.fenceCheck (s : State) (k : Nat) : State :=
  s.each (s.doms.filter (fun d => s.cfg.table.domClass d = k)) (fun d s =>
    if s.navail d ≤ s.fenceAt k ∧ s.domSt d ≠ 5 then s.fence d true else s)

/-- A waking domain whose every available cell is in ON goes LIVE, or DERATED (R118). -/
def State.wakeDone (s : State) (d : Nat) : State :=
  let avail := (s.cfg.table.domCells d).filter (fun c => s.cellSt c ≤ 3)
  if s.domSt d = 1 ∧ Tbl.get false s.dom.admitted d ∧ avail ≠ [] ∧ avail.all (fun c => s.cellSt c = 2) then
    s.domGo d (if s.derated d then 3 else 2)
  else s

/-- A cell counts as lost: LOSS_COUNT, DOM_EVENT.CELL_FAIL and its contained source (R112, R117). -/
def State.cellLoss (s : State) (c : Nat) : State :=
  let d := s.cfg.table.cellDom c
  (s.bumpF .CEL_STATUS_LOSS_COUNT c).event .DOM_EVENT_CELL_FAIL d 0x02 d

/-- A cell enters FAILED (R109, R110). -/
def State.cellFail (s : State) (c cause : Nat) : State :=
  if s.cellSt c ≤ 3 then
    let d := s.cfg.table.cellDom c
    let s := (s.setCell c 4).setF .CEL_STATUS_FAIL_CAUSE c cause
    (((s.cellLoss c).capEvent 3 d).cellsChanged d).wakeDone d
  else s

/-- Whether a cell number is in use. -/
def State.cellIs (s : State) (c : Nat) : Bool := c < s.cfg.table.cells

/-- Sets whether a READMIT check runs on a cell (R112). -/
def State.setChecking (s : State) (c : Nat) (b : Bool) : State :=
  { s with dom := { s.dom with checking := s.dom.checking.put c b } }

/-! ### The minimum tree (R53 to R59) -/

/-- H in 0.5 mV units. -/
def State.hHalf (s : State) : Int := rneDiv s.hTarget 64

/-- The valid sensors of a domain. -/
def State.validSensors (s : State) (d : Nat) : List Nat :=
  (s.cfg.table.domSensors d).filter (fun x => s.isSet .DOM_DS_VALID x)

/-- The entry of a domain in the tree: its lowest valid headroom less the offset in use, or H with no valid sensor (R56, R58). -/
def State.domEntry (s : State) (d : Nat) : Int :=
  match (s.validSensors d).map (fun x => s.getS .DOM_DS_HEADROOM x) with
  | [] => s.hHalf
  | x :: r => r.foldl min x - s.getF .DOM_MEAS_OFFSET d

/-- A headroom as an 8-bit register shows it: 0xFF for 127.5 mV or more, 0 below 0. -/
def hrCode (h : Int) : Nat := (clampI 0 255 h).toNat

/-- The lowest of a list. -/
def minOf (l : List Int) : Option Int :=
  match l with
  | [] => none
  | x :: r => some (r.foldl min x)

/-- Forms the stack minima from the domain entries (R53, R59, R122, R131), and notes since when the minimum stands at or above
H − 2.5 mV; with no member none lies below (R358; assumption 108). -/
def State.formStack (s : State) : State :=
  let all := minOf (s.dom.hrDom.map (fun p => p.2))
  let gate := minOf ((s.dom.hrDom.filter (fun p => s.domSt p.1 ≠ 1)).map (fun p => p.2))
  let ok : Bool := all.all (fun h => (s.hTarget : Int) ≤ 64 * h + 320)
  let s : State := { s with dom := { s.dom with hrStack := all, hrGate := gate,
                                                 hrOkAt := if ok then some (s.dom.hrOkAt.getD s.time) else none,
                                                 hadMember := s.dom.hadMember ∨ (s.eng.running ∧ all ≠ none) } }
  s.setF .GLB_VSTK_STATUS_HEADROOM_MIN 0 (match all with
    | none => 255
    | some h => hrCode h)

/-- Puts the entry of one domain into the tree, or takes it out (R54). -/
def State.formDom (s : State) (d : Nat) : State :=
  if 1 ≤ s.domSt d ∧ s.domSt d ≤ 4 then
    let h := s.domEntry d
    ({ s with dom := { s.dom with hrDom := s.dom.hrDom.put d h } } : State).setF .DOM_MEAS_HR_MIN d (hrCode h)
  else ({ s with dom := { s.dom with hrDom := s.dom.hrDom.erase d } } : State).setF .DOM_MEAS_HR_MIN d 255

/-- Forms the whole tree at a droop sample. -/
def State.formTree (s : State) : State := (s.each s.doms (fun d s => s.formDom d)).formStack

end Sys2Proof.Machine
end

