-- ==== Sys2Proof/Machine/BootOps.lean ====
section
/-! DEFINITION. Shared operations of bring-up and reset (chapter Bring-Up, Straps and Reset): entry into RUN and SAFE, and what a
block reset leaves standing. Boot states: 0 POWER_ON, 1 FUSE_LOAD, 2 IMAGE_LOAD, 3 HOLD, 4 SAFE, 5 RELEASE, 6 RUN. -/

namespace Sys2Proof.Machine

/-- The boot state. -/
def State.boot_ (s : State) : Nat := s.getF .GLB_BOOT_STATUS_STATE 0

/-- Whether every domain with POWER = 1 that a test picks is LIVE or DERATED. -/
def State.poweredLive (s : State) (pick : Nat → Bool) : Bool :=
  s.doms.all (fun d => ¬ pick d ∨ ¬ s.isSet .DOM_CTRL_POWER d ∨ s.domLive d)

/-- Enters RUN once the release sequence has started every domain, every group is in REGULATE and every powered domain is LIVE
or DERATED (R400). -/
def State.enterRunIfReady (s : State) : State :=
  if s.boot_ = 5 ∧ s.boot.release = 8 ∧ ¬ s.isSet .FLT_STATUS_FATAL 0 ∧ [0, 1, 2, 3].all (fun g => s.grp g = 3) ∧ s.poweredLive (fun _ => true) then
    (s.setF .GLB_BOOT_STATUS_PWR_OK 0 1).setF .GLB_BOOT_STATUS_STATE 0 6
  else s

/-- Register fields that a block reset keeps (R407, R432): time base, latched faults and their records, the Goose, reset
history, and the counters since AON power-on with the notices that one of them numbers. -/
def Fld.kept (f : Fld) : Bool :=
  match f with
  | .GLB_TB_STATUS_FALLBACK_COUNT => true
  | .GLB_TB_STATUS_CAL_OK => true
  | .GLB_TB_STATUS_FALLBACK => true
  | .GLB_FAB_STATUS_SEG_FAIL_COUNT => true
  | .GLB_FAB_STATUS_TREE_A_OK => true
  | .GLB_FAB_STATUS_TREE_B_OK => true
  | .GLB_RST_STATUS_STACK_HELD => true
  | .GLB_RST_STATUS_CP_COUNT => true
  | .GLB_RST_STATUS_BLK_COUNT => true
  | .FLT_STATUS_FATAL => true
  | .FLT_STATUS_PAIR_ASSERT => true
  | .FLT_STATUS_PAIR_T => true
  | .FLT_STATUS_PAIR_C => true
  | .FLT_STATUS_GOOSE_FORCE => true
  | .FLT_STATUS_FATAL_SUB => true
  | .FLT_STATUS_FATAL_CODE => true
  | .FLT_SEQ_NEXT_SEQ => true
  | .FLT_ACK_SEQ_ACK_SEQ => true
  | .FLT_LOST_LOST => true
  | .FLT_FEC_INFO_VALID => true
  | .FLT_FEC_INFO_MASTER => true
  | .FLT_FEC_INFO_TYPE => true
  | .FLT_FEC_INFO_CODE => true
  | .FLT_FEC_INFO_SUB => true
  | .FLT_FEC_ADDR_LO_ADDR_LO => true
  | .FLT_FEC_ADDR_HI_ADDR_HI => true
  | .FLT_FEC_TIME_LO_TIME_LO => true
  | .FLT_FEC_TIME_HI_TIME_HI => true
  | .FLT_FEC_MORE_MORE => true
  | .FLT_GOOSE_STATUS_ARMED => true
  | .FLT_GOOSE_STATUS_TRIPPED => true
  | .FLT_GOOSE_STATUS_SELFTEST_OK => true
  | .FLT_GOOSE_STATUS_CAUSE => true
  | .FLT_GOOSE_STATUS_INDEX => true
  | .FLT_SRC_REC_COUNT => true
  | .FLT_SRC_RAISES => true
  | .PHS_PH_STATUS_LOSS_COUNT => true
  | .CEL_STATUS_LOSS_COUNT => true
  | .CE_SLOT_STATUS_MISS_COUNT => true
  | .CE_LANES_IN_SERVICE => true
  | .CE_LANES_LANE_OK => true
  | .HRD_STATUS_TB_DEG => true
  | .DOM_START_GRANTS_GRANTS => true
  | .DOM_TILE_MAP_MISMATCH_COUNT => true
  | .DOM_EST_STATUS_DIS_COUNT => true
  | .DOM_BUD_COUNT_GOV_COUNT => true
  | .DOM_BUD_COUNT_FIXED_LOST_COUNT => true
  | .THM_COUNT_EMERG_COUNT => true
  | .THM_COUNT_WP_COUNT => true
  | .THM_COUNT_BROKEN_COUNT => true
  | .THM_COUNT_LIMIT_COUNT => true
  | .HRD_PORT_DROPS => true
  | .ADC_PAIR_STATUS_XR_FAILS => true
  | .ADC_PAIR_STATUS_DIS_COUNT => true
  | .ADC_CV_STATUS_OVERRUNS => true
  | .TLM_LOST_LOST => true
  | .CRC_STATUS_MISMATCH_COUNT => true
  | .CMD_NOTICE_SEQ_NSEQ => true
  | .CMD_NOTICE0_TYPE => true
  | .CMD_NOTICE0_ARG => true
  | .CMD_NOTICE1_TIME_LO => true
  | .GLB_CP_STATUS_CRASH_COUNT => true
  | .GLB_CP_STATUS_RESTARTS => true
  | _ => false

/-- Whether a check-value unit has failed, which only the removal of power mends (R330). -/
def crcFailed (rows : Tbl Nat Nat) : Tbl Nat Nat := rows.filter (fun p => p.2 = 3)

/-- The duty of a failed unit that unit 0 carries (R335). -/
def movedDuty (rows : Tbl Nat Nat) : Tbl Nat Nat := rows.filter (fun p => p.1 = 0 ∧ 1 ≤ p.2 ∧ p.2 ≤ 3)

/-- The register fields after a block reset: those kept, the groups in LATCHED_OFF, the LATCHED sources, and the FAILED
check-value units with the duty that unit 0 carries for one of them (R330, R335, R407, R432). -/
def keptFields (t : Tbl Fld (Tbl Nat Nat)) : Tbl Fld (Tbl Nat Nat) :=
  t.filterMap (fun p =>
    if p.1.kept then some p
    else if p.1 = .PHS_GRP_STATUS_STATE then some (p.1, p.2.filter (fun q => q.2 = 6))
    else if p.1 = .FLT_SRC_STATE then some (p.1, p.2.filter (fun q => q.2 = 4))
    else if p.1 = .CRC_STATUS_STATE then some (p.1, crcFailed p.2)
    else if p.1 = .CRC_STATUS_DUTY then some (p.1, movedDuty p.2)
    else none)

/-- A block reset applies (R404 to R407, R432): POWER_ON, every phase tri-state and every cell open, all but the kept state at
its reset value. `last` is its code in GLB_RST_STATUS. -/
def State.blockResetApply (s : State) (last : Nat) : State :=
  let s := s.bumpF .GLB_RST_STATUS_BLK_COUNT 0
  let s : State :=
    { s with
      fields := keptFields s.fields,
      flt := { s.flt with pendTime := [], pendIdx := [], stop := false, treeB := [] },
      phs := PhsState.reset, dom := DomState.reset, eng := EngState.reset, start := StartState.reset, est := EstState.reset,
      bud := BudState.reset, thm := ThmState.reset, hrd := HrdState.reset,
      adc := AdcState.reset, fw := { FwState.reset with crashes := s.fw.crashes }, lt := LtState.reset,
      tlm := { TlmState.reset with energy := s.tlm.energy },
      cmd := { CmdState.reset with epochCtr := s.cmd.epochCtr },
      boot := { BootState.reset with burned := s.boot.burned } }
  (s.setF .GLB_RST_STATUS_LAST 0 last).showPair

/-- The order in which an ordered stop takes the groups: VSTK, VIO, VDDM, VPPM (R405, R423). -/
def stopOrder : List Nat := [0, 3, 1, 2]

/-- The groups in the order of the stop: each stops when the one before it is OFF; one without output is OFF at once, a latched
one stays as it is, and after the last the reset applies (R82, R405). -/
def State.stopTurn (s : State) (l : List Nat) : State :=
  match l with
  | [] => s.blockResetApply 2
  | g :: r =>
    if s.grp g = 0 ∨ s.grp g = 6 then s.stopTurn r
    else if s.grp g = 1 ∨ s.grp g = 5 then (s.grpOff g).stopTurn r
    else if s.grp g = 7 then s
    else s.stopRamp g false

/-- One turn of the ordered stop of a block reset, once every domain is DARK or FENCED (R405). -/
def State.blockResetAdvance (s : State) : State :=
  if s.boot.blockStop ∧ s.allDown then s.stopTurn stopOrder else s

end Sys2Proof.Machine
end

