-- ==== Sys2Proof/Machine/AdcOps.lean ====
section
/-! DEFINITION. Shared operations of the converters (chapter Analog Measurement Subsystem, R289 to R307). Converter states:
0 LOW_POWER, 1 ACTIVE, 2 SUSPECT, 3 FAILED, 4 OFFLINE, 5 RECHECKING. Pair states: 0 DUAL, 1 SOLO on 2k + 1, 2 SOLO on 2k,
3 LOST. -/

namespace Sys2Proof.Machine

/-! ### Channels (R289, R290) -/

/-- Whether a channel code names a signal. -/
def chDefined (t : CfgTable) (ch : Nat) : Bool :=
  ch < t.phTotal ∨ (96 ≤ ch ∧ ch < 96 + t.phTotal) ∨ (192 ≤ ch ∧ ch < 236)

/-- The home converter of a channel; of a check reference, the even converter of its pair. -/
def chHome (ch : Nat) : Nat :=
  if ch < 96 then ch % 16
  else if ch < 192 then (ch - 96 + 8) % 16
  else if ch < 196 then 4 * (ch - 192)
  else if ch < 212 then ch - 196
  else if ch < 228 then ch - 212
  else 2 * (ch - 228)

/-- The other converter of a pair. -/
def cvPartner (c : Nat) : Nat := if c % 2 = 0 then c + 1 else c - 1

/-! ### Converters -/

/-- A converter at rest. -/
def AdcCv.empty : AdcCv :=
  { inRound := false, late := false, rnd := 0, seqOf := 0, waits := false, ready := false, cur := none, start := 0,
    cal := (0x2000, 0), timers := [], utAt := none, cross := none, badChk := 0, xrLast := 15, xrDone := false, rcN := 0, rcBad := false, rcDone := false }

/-- A converter beside its registers. -/
def State.cv (s : State) (c : Nat) : AdcCv := Tbl.get AdcCv.empty s.adc.cv c

/-- Replaces a converter. -/
def State.setCv (s : State) (c : Nat) (x : AdcCv) : State :=
  { s with adc := { s.adc with cv := Tbl.putD AdcCv.empty s.adc.cv c x } }

/-- Whether a converter is in service: LOW_POWER, ACTIVE or SUSPECT. -/
def State.cvServes (s : State) (c : Nat) : Bool := s.cvSt c ≤ 2

/-- State of a pair. -/
def State.pairSt (s : State) (k : Nat) : Nat := s.getF .ADC_PAIR_STATUS_STATE k

/-- Sets the state of a pair and its SOLO bit. -/
def State.setPair (s : State) (k st : Nat) : State :=
  (s.setF .ADC_PAIR_STATUS_STATE k st).setF .ADC_STATUS_PAIR_SOLO 0
    (setBit (s.getF .ADC_STATUS_PAIR_SOLO 0) k (decide (st = 1 ∨ st = 2)))

/-- Shows whether a converter is in service. -/
def State.setOk (s : State) (c : Nat) (b : Bool) : State :=
  s.setF .ADC_STATUS_CV_OK 0 (setBit (s.getF .ADC_STATUS_CV_OK 0) c b)

/-- The converter that serves a channel: its home, or the survivor of its pair (R304). -/
def State.cvFor (s : State) (ch : Nat) : Option Nat :=
  let c := chHome ch
  if s.cvServes c then some c else if s.cvServes (cvPartner c) then some (cvPartner c) else none

/-! ### Calibrated values (R300) -/

/-- CAL of a mean in 1/16 LSB, with GAIN and OFS as they stood when the conversion of a converter started (R300, R301). -/
def State.calOf (s : State) (c : Nat) (m16 : Int) : Nat :=
  (clampI 0 65535 (rne ((m16 - (s.cv c).cal.2) * (s.cv c).cal.1) 13)).toNat

/-! ### Raw codes (R290) -/

/-- The input of a conversion, in nV as the converter sees it with its errors of R290, in 1 / 1,500,000,000 of an LSB at a gain
code. -/
def inputUnits (v : Int) (gain : Nat) : Int := v * 2 ^ gain * 4096

/-- The raw code of an input at a gain code (R290); a tie goes to the even code (DEDUCED, assumption 123). -/
def rawCode (v : Int) (gain : Nat) : Nat := (clampI 0 4095 (rneDiv (inputUnits v gain) 1500000000)).toNat

/-- OVR of an input at a gain code: above the top of the range, or below 0 V, by more than half an LSB (R290). -/
def rawOvr (v : Int) (gain : Nat) : Bool :=
  8193 * 1500000000 < 2 * inputUnits v gain ∨ 2 * inputUnits v gain < -1500000000

/-- A sense test of a phase has failed: a live phase is declared, one in CHECKING is marked (R88, R93). -/
def State.senseTest (s : State) (p : Nat) (bad : Bool) : State :=
  if ¬ bad then s
  else if s.ph p = 5 then s.setPhTest p { s.phTest p with faulty := true }
  else if s.ph p = 1 then s.senseFail p
  else s

/-- The range test of R88 on one IMON sample. -/
def State.rangeTest (s : State) (p : Nat) (ovr : Bool) : State :=
  if s.checksRun (s.cfg.table.phaseGroup p) ∧ (s.ph p = 1 ∨ s.ph p = 5) then
    let n := if ovr then (s.phTest p).rangeRun + 1 else 0
    (s.setPhTest p { s.phTest p with rangeRun := n }).senseTest p (4 ≤ n)
  else s

/-- A published value reaches its consumer (R300). -/
def State.consume (s : State) (ch cal : Nat) (ovr : Bool) : State :=
  if ch < 96 then
    (s.setS .PHS_PH_MEAS_IMON ch (rne ((cal : Int) - 32768) 3)).rangeTest ch ovr
  else if ch < 192 then
    let p := ch - 96
    let t := min 255 (rne cal 8).toNat
    let s := s.setF .PHS_PH_MEAS_TMON p t
    s.when (t < 155 ∧ s.isSet .PHS_PH_STATUS_TMON_HOT p) (fun s => (s.setF .PHS_PH_STATUS_TMON_HOT p 0).rearb 1 p)
  else if ch < 196 then s.setF .PHS_GRP_REF_VSENSE (ch - 192) (rne cal 4).toNat
  else if ch = 212 then s.busSample (rne cal 2).toNat
  else s

/-- Publishes a result made by a converter; a suspect one's is withheld, a SOLO survivor's carries BY_PARTNER (R295, R300, R302,
R304, R308). -/
def State.publishRes (s : State) (c ch result : Nat) (m16 : Int) (ovr : Bool) : State :=
  if s.cvSt c = 2 then s
  else
    let cal := s.calOf c m16
    let k := c / 2
    let busy := s.isSet .ADC_RES_ST_CAL_BUSY ch
    let s := (s.setF .ADC_RES_RESULT ch (min 65535 result)).setF .ADC_RES_CAL ch cal
    let s := ((s.setB .ADC_RES_ST_OVR ch ovr).setB .ADC_RES_ST_BY_PARTNER ch (s.pairSt k = 1 ∨ s.pairSt k = 2)).setB
      .ADC_RES_ST_VALID ch (!busy)
    let s : State := { s with adc := { s.adc with pubTime := s.adc.pubTime.put ch s.time } }
    let s := s.when ovr (fun s => s.event .ADC_EVENT_OVR 0 0x09 ch)
    s.when (!busy) (fun s => s.consume ch cal ovr)

/-- A scheduled sample of a channel of a LOST pair (R306). -/
def State.lostSample (s : State) (ch : Nat) : State :=
  let s := (s.setF .ADC_RES_ST_OVR ch 1).setF .ADC_RES_ST_VALID ch 0
  let s : State := { s with adc := { s.adc with pubTime := s.adc.pubTime.put ch s.time } }
  s.when (ch < 96) (fun s => s.rangeTest ch true)

/-! ### Urgent requests (R297) -/

/-- Ends the urgent request without a result. -/
def State.refuseUrg (s : State) : State :=
  let s : State := { s with adc := { s.adc with urgCh := none } }
  ((s.setF .ADC_URG_RES_BUSY 0 0).setF .ADC_URG_RES_REFUSED 0 1)

/-! ### Rounds (R293, R294) -/

/-- Entry `e` of the sequence of converter `q`. -/
def State.seqCh (s : State) (q e : Nat) : Nat := s.getF .ADC_SEQ_CH (16 * q + e)

/-- Whether an entry is active in a round; in SOLO the round counts by twos (R294, R304). -/
def State.entryActive (s : State) (q e r : Nat) (solo : Bool) : Bool :=
  let m := 2 ^ s.getF .ADC_SEQ_DIVL (16 * q + e)
  (if solo then r / 2 else r) % 128 % m = e % m

/-- Whether an entry that waits for pulses can see one: its phase is LIVE or CHECKING in a group in RAMP, REGULATE, FOLDBACK or
STOP_RAMP. -/
def State.pulsed (s : State) (ch : Nat) : Bool :=
  let p := if ch < 96 then ch else ch - 96
  let g := s.cfg.table.phaseGroup p
  ch < 192 ∧ p < s.cfg.table.phTotal ∧ (s.ph p = 1 ∨ s.ph p = 5) ∧
    (s.grp g = 2 ∨ s.grp g = 3 ∨ s.grp g = 4 ∨ s.grp g = 7)

/-- Moves a converter in a round to its first entry at or after `e`: skipped entries set NO_TRIG; past the last one the round
ends. -/
def State.seekEntry (s : State) (c e fuel : Nat) : State :=
  match fuel with
  | 0 => s.setCv c { s.cv c with inRound := false, waits := false, ready := false }
  | fuel + 1 =>
    let x := s.cv c
    let q := x.seqOf
    let i := 16 * q + e
    if s.getF .ADC_CV_CTRL_SEQ_LEN_M1 q < e then s.setCv c { x with inRound := false, waits := false, ready := false }
    else if ¬ s.entryActive q e x.rnd (s.pairSt (c / 2) ≠ 0) ∨ (q ≠ c ∧ 228 ≤ s.seqCh q e) then s.seekEntry c (e + 1) fuel
    else
      let s := s.setF .ADC_CV_STATUS_POS c e
      if s.isSet .ADC_SEQ_TRIG i then
        if s.pulsed (s.seqCh q e) then s.setCv c { x with waits := true, ready := false }
        else (s.setF .ADC_RES_ST_NO_TRIG (s.seqCh q e) 1).seekEntry c (e + 1) fuel
      else s.setCv c { x with waits := false, ready := true }

/-- The conversion time of a converter in ticks (R292, R307). -/
def State.cvTicks (s : State) (c : Nat) : Nat := if s.cvSt c = 0 then 400 else 100

/-- The converter that takes the urgent timer of a converter: itself, or its partner while it is suspect or out of service (R302,
R304). -/
def State.utBy (s : State) (o : Nat) : Nat := if s.cvSt o ≤ 1 ∨ 2 < s.cvSt (cvPartner o) then o else cvPartner o

/-- Whether an urgent timer runs on a defined channel. -/
def State.utRuns (s : State) (o : Nat) : Bool := s.isSet .ADC_CV_UT_UT_EN o ∧ chDefined s.cfg.table (s.getF .ADC_CV_UT_UT_CH o)

/-- UT_PERIOD in ticks as it is used. -/
def State.utTicks (s : State) (o : Nat) : Nat := 100 * max 10 (s.getF .ADC_CV_UT_UT_PERIOD o)

/-- Whether an urgent timer that a converter serves has a tick within a number of ticks from now, or at this tick and not yet taken
(R296, R307). -/
def State.utAhead (s : State) (c n : Nat) : Bool :=
  [c, cvPartner c].any (fun o =>
    let p := s.utTicks o
    s.utRuns o ∧ s.utBy o = c ∧ ((s.time / p + 1) * p < s.time + n ∨ (s.time % p = 0 ∧ (s.cv o).utAt ≠ some s.time)))

/-- A conversion of a channel starts on a converter; an urgent one shows in URG (R292, R297, R301). -/
def State.convert (s : State) (c ch : Nat) (v : Conv) : State :=
  let s := s.setCv c { s.cv c with
    cur := some v, start := s.time, cal := (s.getF .ADC_CAL_GAIN ch, s.getS .ADC_CAL_OFS ch) }
  match v with
  | .entry _ => s
  | _ => s.setF .ADC_CV_STATUS_URG c 1

/-- A free converter that is awake takes up its next conversion: an urgent timer; with no timer's tick inside the conversion, a
cross-read, a calibration conversion, ADC_URG_REQ, then the entry it is on (R296, R297, R307). -/
def State.serve (s : State) (c : Nat) : State :=
  let x := s.cv c
  let other := (s.cv (cvPartner c)).cur
  if x.cur ≠ none ∨ ¬ s.cvServes c ∨ s.isSet .ADC_CV_STATUS_PD c then s
  else
    match x.timers with
    | o :: l => (s.setCv c { x with timers := l }).convert c (s.getF .ADC_CV_UT_UT_CH o) (.timer o)
    | [] =>
      if s.utAhead c (s.cvTicks c) then s
      else
        match x.cross with
        | some p => (s.setCv c { x with cross := none }).convert c p.1 (.cross p.1 p.2.1 p.2.2)
        | none =>
          let cal := (s.adc.step.filter (fun t => t.due ∧ s.cvFor t.ch = some c ∧ other ≠ some .calib)).map (fun t => t.ch)
          let urg := s.adc.urgCh.filter (fun ch => s.cvFor ch = some c ∧ other ≠ some .urgent)
          match cal, urg with
          | some ch, _ => s.convert c ch .calib
          | none, some ch => s.convert c ch .urgent
          | none, none =>
            if x.inRound ∧ x.ready then
              let e := s.getF .ADC_CV_STATUS_POS c
              (s.setCv c { x with ready := false, waits := false }).convert c (s.seqCh x.seqOf e) (.entry e)
            else s

/-- A round begins on a converter (R293, R304): a SOLO survivor runs its partner's sequence in odd rounds. -/
def State.beginRound (s : State) (c r : Nat) : State :=
  let k := c / 2
  let q := if s.pairSt k ≠ 0 ∧ r % 2 = 1 then cvPartner c else c
  let s := (s.setCv c { s.cv c with inRound := true, rnd := r, seqOf := q, xrDone := false }).setF .ADC_CV_STATUS_PD c 0
  (s.seekEntry c 0 17).serve c

/-- The entry a converter is on is done: the next one, or the end of the round and at once the round that has waited for it. -/
def State.nextEntry (s : State) (c : Nat) : State :=
  let s := s.seekEntry c (s.getF .ADC_CV_STATUS_POS c + 1) 17
  let x := s.cv c
  if ¬ x.inRound ∧ x.late then (s.setCv c { x with late := false }).beginRound c (x.rnd + 1) else s

/-- The number of the round that starts now on a converter; in LOW_POWER rounds are four times as long (R293, R307). -/
def State.roundNo (s : State) (c : Nat) : Nat :=
  let per := 100 * max 10 (s.getF .ADC_CTRL_SEQ_PERIOD 0) * (if s.isSet .ADC_STATUS_LP_ACTIVE 0 then 4 else 1)
  (s.time - 10 * s.getF .ADC_CV_CTRL_START_DLY c) / per

/-! ### Health (R302 to R306) -/

/-- The channels of a pair. -/
def pairChannels (k : Nat) : List Nat := (List.range 228).filter (fun ch => chHome ch / 2 = k)

/-- A converter fails for a cause: its pair enters SOLO, or LOST where the partner does not serve either. -/
def State.cvFail (s : State) (c cause : Nat) : State :=
  let k := c / 2
  let other := cvPartner c
  let s := ((s.setF .ADC_CV_STATUS_STATE c 3).setF .ADC_CV_STATUS_FAIL_CAUSE c cause).bumpF .ADC_CV_STATUS_LOSS_COUNT c
  let s := (((s.setOk c false).setF .ADC_CV_STATUS_URG c 0).setCv c { AdcCv.empty with xrLast := (s.cv c).xrLast }).event
    .ADC_EVENT_CV_FAIL 0 0x09 c
  if s.cvServes other then
    ((s.setPair k (if c % 2 = 0 then 1 else 2)).setCv other { s.cv other with cross := none }).serve other
  else
    let s := (s.setPair k 3).event .ADC_EVENT_PAIR_LOST 0 0x09 k
    let s := s.each (pairChannels k) (fun ch s => if s.isSet .ADC_RES_ST_VALID ch then s.setF .ADC_RES_ST_VALID ch 0 else s)
    s.when (s.adc.urgCh.any (fun ch => chHome ch / 2 = k)) (fun s => s.refuseUrg)

/-- A converter that has passed its recheck returns to service (R305). -/
def State.cvReturn (s : State) (c : Nat) : State :=
  let k := c / 2
  let s := ((s.setF .ADC_CV_STATUS_STATE c s.cvNormal).setF .ADC_CV_STATUS_FAIL_CAUSE c 0).setOk c true
  let s := s.setCv c { AdcCv.empty with xrLast := (s.cv c).xrLast }
  s.setPair k (if s.cvServes (cvPartner c) then 0 else if c % 2 = 0 then 2 else 1)

/-- The recheck of a converter starts (R305). -/
def State.recheckStart (s : State) (c : Nat) : State :=
  (s.setF .ADC_CV_STATUS_STATE c 5).setCv c { AdcCv.empty with xrLast := (s.cv c).xrLast }

/-- Whether a check reading lies within CHK_EXP ± CHK_ABS. -/
def State.chkOk (s : State) (k raw : Nat) : Bool :=
  ((raw : Int) - s.getF .ADC_PAIR_STATUS_CHK_EXP k).natAbs ≤ s.getF .ADC_PAIR_CFG_CHK_ABS k

/-- The check comparison of a pair before its first reading. -/
def PairChk.empty : PairChk := { even := none, odd := none, last := none, disRun := 0, agrRun := 0 }

/-- The check comparison of a pair. -/
def State.pairChk (s : State) (k : Nat) : PairChk := Tbl.get PairChk.empty s.adc.chk k

/-- Replaces the check comparison of a pair. -/
def State.setPairChk (s : State) (k : Nat) (x : PairChk) : State :=
  { s with adc := { s.adc with chk := Tbl.putD PairChk.empty s.adc.chk k x } }

/-- Whether the check of a pair agrees in a round: both readings within bounds and within CHK_WIN. -/
def State.chkAgrees (s : State) (k r : Nat) : Bool :=
  match (s.pairChk k).even, (s.pairChk k).odd with
  | some a, some b => a.1 = r ∧ b.1 = r ∧ ((a.2 : Int) - b.2).natAbs ≤ s.getF .ADC_PAIR_CFG_CHK_WIN k
  | _, _ => false

/-- A check reading within bounds enters the comparison of the pair: 8 rounds in a row set or clear CHK_DIS_ST; a round without a
comparison ends the run. -/
def State.chkCompare (s : State) (c raw : Nat) : State :=
  let k := c / 2
  let r := (s.cv c).rnd
  let x := s.pairChk k
  let x := if c % 2 = 0 then { x with even := some (r, raw) } else { x with odd := some (r, raw) }
  let s := s.setPairChk k x
  let both : Bool := match x.even, x.odd with
    | some a, some b => a.1 = b.1
    | _, _ => false
  if ¬ both ∨ s.pairSt k ≠ 0 then s
  else
    let x := if x.last.any (fun l => l + 1 = r) then { x with last := some r }
      else { x with last := some r, disRun := 0, agrRun := 0 }
    let x := if s.chkAgrees k r then { x with disRun := 0, agrRun := min 8 (x.agrRun + 1) }
      else { x with disRun := min 8 (x.disRun + 1), agrRun := 0 }
    let st := s.isSet .ADC_PAIR_STATUS_CHK_DIS_ST k
    let s := s.setPairChk k x
    if x.disRun = 8 ∧ ¬ st then
      ((s.setF .ADC_PAIR_STATUS_CHK_DIS_ST k 1).bumpF .ADC_PAIR_STATUS_DIS_COUNT k).event .ADC_EVENT_CHK_DIS 0 0x09 k
    else if x.agrRun = 8 then s.setF .ADC_PAIR_STATUS_CHK_DIS_ST k 0
    else s

/-- A check-reference reading of a converter (R302): out of bounds it is suspect, waiting cross-reads of the pair end (R303), and the
third in a row fails it. -/
def State.chkReading (s : State) (c raw : Nat) : State :=
  let k := c / 2
  let s := s.setF (if c % 2 = 0 then .ADC_PAIR_CHK_CHK_EVEN else .ADC_PAIR_CHK_CHK_ODD) k raw
  if s.chkOk k raw then
    let s := s.setCv c { s.cv c with badChk := 0 }
    (s.when (s.cvSt c = 2) (fun s => s.setF .ADC_CV_STATUS_STATE c s.cvNormal)).chkCompare c raw
  else
    let n := (s.cv c).badChk + 1
    let s := (s.setCv c { s.cv c with badChk := n, cross := none }).setF .ADC_CV_STATUS_STATE c 2
    let s := s.setCv (cvPartner c) { s.cv (cvPartner c) with cross := none }
    if 3 ≤ n then s.cvFail c 1 else s

/-! ### Cross-reads (R303) -/

/-- The entry of a sequence that is cross-read next: the first in rotation after the last one, among the IMON entries with
XR = 1 that can see a pulse. -/
def State.nextCross (s : State) (c : Nat) : Option Nat :=
  let l := ((List.range (s.getF .ADC_CV_CTRL_SEQ_LEN_M1 c + 1)).filter (fun e =>
    s.isSet .ADC_SEQ_XR (16 * c + e) ∧ s.seqCh c e < 96 ∧ s.pulsed (s.seqCh c e)))
  match l.find? (fun e => (s.cv c).xrLast < e) with
  | some e => some e
  | none => l.head?

/-- The conversion of an entry has ended: where it is the one to cross-read, the partner takes a request for the same value. -/
def State.crossRequest (s : State) (c e raw : Nat) : State :=
  let o := cvPartner c
  let x := s.cv c
  if x.seqOf = c ∧ ¬ x.xrDone ∧ s.pairSt (c / 2) = 0 ∧ s.cvSt c ≤ 1 ∧ s.cvSt o ≤ 1 ∧ s.nextCross c = some e then
    let ch := s.seqCh c e
    let s := s.setCv c { x with xrDone := true, xrLast := e }
    (s.setCv o { s.cv o with cross := some (ch, s.calOf c (16 * raw), s.getF .ADC_SEQ_GAIN (16 * c + e)) }).serve o
  else s

/-- The partner's reading of a cross-read channel; none is made of it once a converter of the pair is not in service or suspect
(R88, R303). -/
def State.crossResult (s : State) (c ch cal raw : Nat) : State :=
  let k := c / 2
  let far : Bool := 16 * s.getF .ADC_PAIR_CFG_XR_WIN k < ((cal : Int) - s.calOf c (16 * raw)).natAbs
  if 1 < s.cvSt c ∨ 1 < s.cvSt (cvPartner c) then s
  else
  let s := s.setB .ADC_RES_ST_XR_BAD ch far
  let s := s.when far (fun s => s.bumpF .ADC_PAIR_STATUS_XR_FAILS k)
  if s.chkAgrees k (s.cv (cvPartner c)).rnd ∧ s.checksRun (s.cfg.table.phaseGroup ch) ∧ (s.ph ch = 1 ∨ s.ph ch = 5) then
    let n := if far then (s.phTest ch).xrRun + 1 else 0
    (s.setPhTest ch { s.phTest ch with xrRun := n }).senseTest ch (4 ≤ n)
  else s

/-! ### Results (R295) -/

/-- The accumulation of an entry at its start. -/
def AdcAvg.empty : AdcAvg := { n := 0, sum := 0, ovr := false }

/-- The conversion of an entry gives a raw code: a check, a result at once, or one more of an average. -/
def State.entryResult (s : State) (c e raw : Nat) (ovr : Bool) : State :=
  let q := (s.cv c).seqOf
  let i := 16 * q + e
  let ch := s.seqCh q e
  let s := s.setF .ADC_RES_ST_NO_TRIG ch 0
  let s : State := { s with adc := { s.adc with skips := Tbl.putD 0 s.adc.skips i 0 } }
  let s := s.when (228 ≤ ch) (fun s => s.chkReading c raw)
  let k := min 8 (s.getF .ADC_SEQ_AVGL i)
  let sh := min 8 (s.getF .ADC_SEQ_SHIFT i)
  if 2 ≤ s.cvSt c then s
  else if k = 0 then s.publishRes c ch (raw / 2 ^ sh) (16 * raw) ovr
  else
    let a := Tbl.get AdcAvg.empty s.adc.avg i
    let a := { n := a.n + 1, sum := a.sum + raw, ovr := a.ovr || ovr : AdcAvg }
    if a.n < 2 ^ k then { s with adc := { s.adc with avg := s.adc.avg.put i a } }
    else
      let s : State := { s with adc := { s.adc with avg := s.adc.avg.erase i } }
      s.publishRes c ch (rne a.sum sh).toNat (rne (16 * a.sum : Nat) k) a.ovr

/-! ### Calibration (R301) -/

/-- Sets GAIN and OFS of a channel. -/
def State.setCal (s : State) (ch gain : Nat) (ofs : Int) : State :=
  (s.setF .ADC_CAL_GAIN ch gain).setS .ADC_CAL_OFS ch ofs

/-- RESTORE: GAIN and OFS of the configuration image. -/
def State.restoreCal (s : State) (ch : Nat) : State :=
  let v := Tbl.get (0x2000, 0) s.adc.calImg ch
  (s.setF .ADC_CAL_GAIN ch v.1).setF .ADC_CAL_OFS ch v.2

/-- Ends the procedure of a channel. -/
def State.endCal (s : State) (ch : Nat) : State :=
  ({ s with adc := { s.adc with zero := s.adc.zero.erase ch } } : State).setF .ADC_RES_ST_CAL_BUSY ch 0

/-- Opens the procedure of a channel: its consumers see VALID = 0. -/
def State.openCal (s : State) (ch : Nat) : State :=
  (s.setF .ADC_RES_ST_CAL_BUSY ch 1).setF .ADC_RES_ST_VALID ch 0

/-- Whether a step is permitted on a channel: IMON and TMON with the phase out of service or its group OFF, MISC0 with every
group OFF. -/
def State.calPermitted (s : State) (ch : Nat) : Bool :=
  if ch < 192 then
    let p := if ch < 96 then ch else ch - 96
    s.ph p = 4 ∨ s.ph p = 0 ∨ s.grp (s.cfg.table.phaseGroup p) = 0
  else if ch = 212 then [0, 1, 2, 3].all (fun g => s.grp g = 0)
  else true

/-- A FULL step's GAIN, 0 where F16 does not lie above Z16, and OFS. -/
def fullCal (z16 f16 : Int) (zt ft : Nat) : Int × Int :=
  let g := if z16 < f16 then rneDiv (((ft : Int) - zt) * 131072) (f16 - z16).toNat else 0
  (g, if 0 < g then z16 - rneDiv (zt * 131072 : Nat) g.toNat else 0)

/-- The gain code of a channel's calibration conversions: that of the entry of its home converter that reads it, else 0; the spec
does not say (DESIGN CHOICE, assumption 124). -/
def State.calGain (s : State) (ch : Nat) : Nat :=
  let c := chHome ch
  match (List.range (s.getF .ADC_CV_CTRL_SEQ_LEN_M1 c + 1)).find? (fun e => s.seqCh c e = ch) with
  | some e => s.getF .ADC_SEQ_GAIN (16 * c + e)
  | none => 0

/-- A calibration conversion is requested, and the converter of its channel takes it up where it is free (R297, R301). -/
def State.calRequest (s : State) : State :=
  match s.adc.step with
  | none => s
  | some t =>
    let s : State := { s with adc := { s.adc with step := some { t with due := true } } }
    match s.cvFor t.ch with
    | some c => s.serve c
    | none => s

/-- A calibration conversion gives a raw code; a suspect converter's is withheld (R301, R302). -/
def State.calResult (s : State) (c raw : Nat) : State :=
  match s.adc.step with
  | none => s
  | some t =>
    let t := if s.cvSt c = 2 then { t with due := false } else { t with due := false, n := t.n + 1, sum := t.sum + raw }
    { s with adc := { s.adc with step := some t } }

/-- One conversion of a step is requested every 10 µs, up to 64; `was` is the count before the edge (R301). -/
def State.calTick (s : State) (was : Nat) : State :=
  match s.adc.step with
  | none => s
  | some t => if ¬ t.due ∧ t.n < 64 ∧ (s.time - t.at_) / 1000 ≠ (was - t.at_) / 1000 then s.calRequest else s

end Sys2Proof.Machine
end

