-- ==== Sys2Proof/Machine/Adc.lean ====
section
/-! DEFINITION. The commands of the converters (chapter Analog Measurement Subsystem, R289 to R308), but for ADC_CALIBRATE, which
is a command packet. -/

namespace Sys2Proof.Machine

open Host (Outcome)

/-- A round starts at its tick (R293, R305, R306). -/
def execRoundStart (c : Nat) (s : State) : Outcome State Fault Refusal :=
  .next (
    if c ≥ 16 then s
    else
      let r := s.roundNo c
      let s := s.when (s.cvSt c = 5 ∧ (s.cv c).rcDone) (fun s => s.cvReturn c)
      if s.pairSt (c / 2) = 3 then
        s.each ((List.range (s.getF .ADC_CV_CTRL_SEQ_LEN_M1 c + 1)).filter (fun e =>
          s.entryActive c e r false ∧ s.seqCh c e < 228)) (fun e s => s.lostSample (s.seqCh c e))
      else if ¬ s.cvServes c then s
      else if (s.cv c).inRound then
        let s := (s.setCv c { s.cv c with late := true }).bumpF .ADC_CV_STATUS_OVERRUNS c
        s.when (¬ s.isSet .ADC_STATUS_LP_ACTIVE 0) (fun s => s.event .ADC_EVENT_OVERRUN 0 0x09 c)
      else s.beginRound c r)

/-- The result of ADC_URG_REQ; a suspect converter's is withheld (R297, R302). -/
def State.urgResult (s : State) (c raw : Nat) (ovr : Bool) : State :=
  let s := ({ s with adc := { s.adc with urgCh := none } } : State).setF .ADC_URG_RES_BUSY 0 0
  if s.cvSt c = 2 then s
  else (((s.setF .ADC_URG_RES_DONE 0 1).setB .ADC_URG_RES_OVR 0 ovr).setF .ADC_URG_RES_CONV 0 c).setF .ADC_URG_RES_RAW 0 raw

/-- The running conversion of a converter ends; `v` is its input in nV (R290, R292, R295 to R297, R302, R303). In a recheck it is one
of the 64 check readings (R305). -/
def execConversionDone (c : Nat) (v : Int) (s : State) : Outcome State Fault Refusal :=
  let x := s.cv c
  let free := (s.setCv c { x with cur := none }).setF .ADC_CV_STATUS_URG c 0
  .next (
    if c ≥ 16 then s
    else if s.cvSt c = 5 then
      s.setCv c { x with
        rcN := min 64 (x.rcN + 1), rcBad := x.rcBad || !s.chkOk (c / 2) (rawCode v (s.getF .ADC_SEQ_GAIN (16 * c))) }
    else
      match x.cur with
      | none => s
      | some (.entry e) =>
        let g := s.getF .ADC_SEQ_GAIN (16 * x.seqOf + e)
        let t := free.entryResult c e (rawCode v g) (rawOvr v g)
        if t.cvServes c then ((t.crossRequest c e (rawCode v g)).nextEntry c).serve c else t
      | some (.cross ch cal g) => (free.crossResult c ch cal (rawCode v g)).serve c
      | some .calib => (free.calResult c (rawCode v ((s.adc.step.map (fun t => s.calGain t.ch)).getD 0))).serve c
      | some .urgent =>
        let g := s.getF .ADC_URG_REQ_GAIN 0
        (free.urgResult c (rawCode v g) (rawOvr v g)).serve c
      | some (.timer o) =>
        let g := s.getF .ADC_CV_UT_UT_GAIN o
        (free.publishRes c (s.getF .ADC_CV_UT_UT_CH o) (rawCode v g) (16 * rawCode v g) (rawOvr v g)).serve c)

/-- A pulse and its delay reach the hold instant of the entry a converter waits on (R294). -/
def execTriggerHold (c : Nat) (s : State) : Outcome State Fault Refusal :=
  .next (
    if c < 16 ∧ s.cvServes c ∧ (s.cv c).inRound ∧ (s.cv c).waits ∧ ¬ (s.cv c).ready then
      (s.setCv c { s.cv c with ready := true }).serve c
    else s)

/-- An entry has seen no pulse within WAIT_TMO: it is skipped, and the fourth skip in a row raises NO_TRIG (R294). -/
def execTriggerTimeout (c : Nat) (s : State) : Outcome State Fault Refusal :=
  .next (
    if c < 16 ∧ s.cvServes c ∧ (s.cv c).inRound ∧ (s.cv c).waits ∧ ¬ (s.cv c).ready then
      let e := s.getF .ADC_CV_STATUS_POS c
      let i := 16 * (s.cv c).seqOf + e
      let ch := s.seqCh (s.cv c).seqOf e
      let n := Tbl.get 0 s.adc.skips i + 1
      let s := ({ s with adc := { s.adc with skips := s.adc.skips.put i n } } : State).setF .ADC_RES_ST_NO_TRIG ch 1
      let s := s.when (n = 4) (fun s => s.event .ADC_EVENT_NO_TRIG 0 0x09 ch)
      (s.nextEntry c).serve c
    else s)

/-- A held value that has waited 4 µs is discarded, and its entry waits for the next pulse (R294). -/
def execHeldValueDiscard (c : Nat) (s : State) : Outcome State Fault Refusal :=
  .next (
    if c < 16 ∧ (s.cv c).inRound ∧ (s.cv c).waits ∧ (s.cv c).ready then s.setCv c { s.cv c with ready := false } else s)

/-- The tick of a converter's urgent timer: the conversion starts on it, or on its partner where it is suspect or out of service;
of a LOST pair the sample is lost (R296, R302, R304, R306). -/
def execUrgentTimerConversion (c : Nat) (s : State) : Outcome State Fault Refusal :=
  .next (
    if c < 16 ∧ s.utRuns c ∧ s.onTick (s.utTicks c) ∧ (s.cv c).utAt ≠ some s.time then
      let b := s.utBy c
      let s := s.setCv c { s.cv c with utAt := some s.time }
      if s.pairSt (c / 2) = 3 then s.lostSample (s.getF .ADC_CV_UT_UT_CH c)
      else ((s.setF .ADC_CV_STATUS_PD b 0).setCv b { s.cv b with timers := (s.cv b).timers ++ [c] }).serve b
    else s)

/-- GO written to ADC_URG_REQ (R297): no effect while BUSY, refused for an undefined channel or a LOST pair. -/
def execAdcUrgReq (ch gain smp : Nat) (s : State) : Outcome State Fault Refusal :=
  .next (
    if s.isSet .ADC_URG_RES_BUSY 0 then s
    else
      let s := ((s.setF .ADC_URG_REQ_CHANNEL 0 ch).setF .ADC_URG_REQ_GAIN 0 gain).setF .ADC_URG_REQ_SMP 0 (clampN 10 60 smp)
      let s := (s.setF .ADC_URG_RES_DONE 0 0).setF .ADC_URG_RES_REFUSED 0 0
      let ch := ch % 256
      match if chDefined s.cfg.table ch then s.cvFor ch else none with
      | none => s.setF .ADC_URG_RES_REFUSED 0 1
      | some c =>
        (({ s with adc := { s.adc with urgCh := some ch } } : State).setF .ADC_URG_RES_BUSY 0 1).serve c)

/-- A conversion has not ended 2.0 µs after it started, 8.0 µs in LOW_POWER (R304). -/
def execConverterStall (c : Nat) (s : State) : Outcome State Fault Refusal :=
  .next (
    if c < 16 ∧ s.cvServes c ∧ (s.cv c).cur ≠ none ∧ 2 * s.cvTicks c ≤ s.time - (s.cv c).start then s.cvFail c 2 else s)

/-- A powered-down converter wakes, in time or not (R304, R307). -/
def execConverterWake (c : Nat) (onTime : Bool) (s : State) : Outcome State Fault Refusal :=
  .next (
    if c < 16 ∧ s.cvServes c ∧ s.isSet .ADC_CV_STATUS_PD c then
      let s := s.setF .ADC_CV_STATUS_PD c 0
      if onTime then s.serve c else s.cvFail c 3
    else s)

/-- A converter in ACTIVE with its round ended and no urgent tick near powers down (R307). -/
def execConverterPowerDown (c : Nat) (s : State) : Outcome State Fault Refusal :=
  .next (
    if c < 16 ∧ (s.cvSt c = 1 ∨ s.cvSt c = 2) ∧ ¬ s.isSet .ADC_STATUS_LP_ACTIVE 0 ∧ ¬ (s.cv c).inRound ∧ (s.cv c).cur = none ∧
        ¬ s.utAhead c 101 then
      s.setF .ADC_CV_STATUS_PD c 1
    else s)

/-- OFFLINE written 1 (R304). -/
def execConverterOffline (c : Nat) (s : State) : Outcome State Fault Refusal :=
  .next (
    if c < 16 then
      let s := s.setF .ADC_CV_CTRL_OFFLINE c 1
      if s.cvSt c = 3 then s else s.cvFail c 4
    else s)

/-- OFFLINE written 0 (R305). -/
def execConverterOnline (c : Nat) (s : State) : Outcome State Fault Refusal :=
  .next (
    if c < 16 then
      let s := s.setF .ADC_CV_CTRL_OFFLINE c 0
      if s.cvSt c = 3 then s.recheckStart c else s
    else s)

/-- RECHECK written 1 (R305). -/
def execConverterRecheck (c : Nat) (s : State) : Outcome State Fault Refusal :=
  .next (if c < 16 ∧ s.cvSt c = 3 then s.recheckStart c else s)

/-- The recheck ends: with 64 conversions within bounds the converter returns at its next round start (R305). -/
def execConverterRecheckEnd (c : Nat) (s : State) : Outcome State Fault Refusal :=
  .next (
    if c < 16 ∧ s.cvSt c = 5 ∧ ¬ (s.cv c).rcDone then
      if (s.cv c).rcN = 64 ∧ ¬ (s.cv c).rcBad then s.setCv c { s.cv c with rcDone := true }
      else (s.setF .ADC_CV_STATUS_STATE c 3).bumpF .ADC_CV_STATUS_LOSS_COUNT c
    else s)

/-- The 64 conversions of a calibration step are done (R301). Where the pair of its channel is LOST none is made any more, and the
mean is free (DESIGN CHOICE, assumption 125). -/
def execCalibrationStepDone (s : State) : Outcome State Fault Refusal :=
  .next (
    match s.adc.step with
    | none => s
    | some st =>
      if st.n < 64 ∧ s.cvFor st.ch ≠ none then s else
      let m16 : Int := if st.n < 64 then s.fresh.1 else rne (16 * st.sum : Nat) 6
      let s := if st.n < 64 then s.fresh.2 else s
      let s : State := { s with adc := { s.adc with step := none } }
      let bad (s : State) (o : Nat) : State := s.replyOp st.slot 0x60 stBadParam (leBytes 2 o ++ [0, 0])
      let ok (s : State) : State := s.replyOp st.slot 0x60 stOk
        (leBytes 2 (s.getF .ADC_CAL_GAIN st.ch) ++ [0, 0] ++ leBytes 4 (toU 32 (s.getS .ADC_CAL_OFS st.ch)))
      match st.step with
      | 1 => ok { s with adc := { s.adc with zero := s.adc.zero.put st.ch (m16, st.target) } }
      | 2 =>
        match s.adc.zero.find? (fun p => p.1 = st.ch) with
        | none => bad s 1
        | some z =>
          let g := fullCal z.2.1 m16 z.2.2 st.target
          if st.target < z.2.2 + 256 then bad s 2
          else if g.1 < 4096 ∨ 16384 < g.1 then bad s 0xFFFF
          else ok ((s.setCal st.ch g.1.toNat g.2).endCal st.ch)
      | 3 => ok ((s.setCal st.ch (s.getF .ADC_CAL_GAIN st.ch)
          (m16 - rneDiv (st.target * 131072 : Nat) (max 1 (s.getF .ADC_CAL_GAIN st.ch)))).endCal st.ch)
      | _ => ok ((s.restoreCal st.ch).endCal st.ch))

/-- A procedure that has not ended 10 s after its last step ends with RESTORE (R301). -/
def execCalibrationExpiry (ch : Nat) (s : State) : Outcome State Fault Refusal :=
  .next (if s.isSet .ADC_RES_ST_CAL_BUSY ch ∧ ¬ s.adc.step.any (fun t => t.ch = ch) then (s.restoreCal ch).endCal ch else s)

end Sys2Proof.Machine
end

