-- ==== Sys2Proof/Machine/DroopOps.lean ====
section
/-! DEFINITION. What a droop sample does (R53, R110, R129 to R131, R320): the tests of cells and droop sensors, the crossings, what
telemetry gathers of it, and the samples the capture latches. -/

namespace Sys2Proof.Machine

/-! ### Cell readings (R110 cause 4) -/

/-- The sense test of a cell before its first reading. -/
def CellRun.clear : CellRun := { outRun := 0, sameRun := 0, last := 0 }

/-- The domain currents at the last droop samples. -/
def State.iHistOf (s : State) (d : Nat) : List Nat := Tbl.get [] s.dom.iHist d

/-- The difference of the highest and lowest of a list. -/
def spread (l : List Nat) : Nat := l.foldl max 0 - l.foldl min (l.headD 0)

/-- Stores a cell's reading in mA; a reverse current reads 0. -/
def State.cellReading (s : State) (c : Nat) (i : Int) : State :=
  let r := Tbl.get CellRun.clear s.dom.cellRun c
  let r : CellRun := { outRun := if i < 0 ∨ 4095 < i then r.outRun + 1 else 0,
                       sameRun := if i = r.last ∧ r.sameRun ≠ 0 then r.sameRun + 1 else 1, last := i }
  ({ s with dom := { s.dom with cellRun := s.dom.cellRun.put c r } } : State).setF .CEL_MEAS_I_CELL c (clampI 0 4095 i).toNat

/-- The sense test of a cell after the readings of a sample: 16 readings in a row out of range, or 16 equal readings while the
domain current moved by more than 0.5 A for each conducting cell. -/
def State.cellTest (s : State) (c : Nat) : State :=
  let r := Tbl.get CellRun.clear s.dom.cellRun c
  let d := s.cfg.table.cellDom c
  let h := s.iHistOf d
  let stuck : Bool := 16 ≤ r.sameRun ∧ h.length = 16 ∧ 500 * s.cellsOn d < spread h
  if 16 ≤ r.outRun ∨ stuck then s.cellFail c 4 else s

/-- Takes the cell readings of one sample. -/
def State.cellSample (s : State) (cells : List (Nat × Int)) : State :=
  let cells := cells.filter (fun p => s.cellIs p.1)
  let s := cells.foldl (fun t p => t.cellReading p.1 p.2) s
  let ds := (cells.map (fun p => s.cfg.table.cellDom p.1)).dedup
  let s := s.each ds (fun d s =>
    { s with dom := { s.dom with iHist := s.dom.iHist.put d ((s.domSum d :: s.iHistOf d).take 16) } })
  cells.foldl (fun t p => t.cellTest p.1) s

/-! ### Droop sensors (R129) -/

/-- The tests of a droop sensor before any sample counts. -/
def SensorRun.clear : SensorRun :=
  { range := 0, stuck := 0, stuckLo := 0, stuckHi := 0, disagree := 0, lastHr := 0, lastDroop := 0, recheck := false }

/-- The tests of a droop sensor. -/
def State.dsRunOf (s : State) (x : Nat) : SensorRun := Tbl.get SensorRun.clear s.dom.dsRun x

/-- Replaces the tests of a droop sensor. -/
def State.setDsRun (s : State) (x : Nat) (r : SensorRun) : State := { s with dom := { s.dom with dsRun := s.dom.dsRun.put x r } }

/-- Stores a reading, saturated to its fields. -/
def State.dsReading (s : State) (r : DroopReading) : State :=
  (s.setS .DOM_DS_HEADROOM r.sensor (clampI (-2048) 2047 r.headroom)).setF .DOM_DS_DROOP r.sensor (clampI 0 255 r.droop).toNat

/-- Twice the median of a list; the median of an even count is the mean of the middle two. -/
def median2 (l : List Int) : Int :=
  let m := l.mergeSort (fun a b => a ≤ b)
  let n := m.length
  if n % 2 = 1 then 2 * m.getD (n / 2) 0 else m.getD (n / 2 - 1) 0 + m.getD (n / 2) 0

/-- Whether a sensor differs from the median of the other valid sensors of its domain by more than 80 mV. Of the two readings of a
sensor the headroom is compared; R129 says only "the reading" (DESIGN CHOICE, assumption 114). -/
def State.disagrees (s : State) (d x : Nat) : Bool :=
  let others := (s.validSensors d).filter (fun y => y ≠ x)
  3 ≤ (s.validSensors d).length ∧
    320 < (2 * s.getS .DOM_DS_HEADROOM x - median2 (others.map (fun y => s.getS .DOM_DS_HEADROOM y))).natAbs

/-- One more sample for the tests of a sensor, which run in LIVE, DERATED and QUIESCING. -/
def State.dsCount (s : State) (x : Nat) : State :=
  let d := s.cfg.table.sensorDom x
  let r := s.dsRunOf x
  if s.powered d then
    let hr := s.getS .DOM_DS_HEADROOM x
    let dr := s.getF .DOM_DS_DROOP x
    let i := s.domSum d
    let same : Bool := hr = r.lastHr ∧ dr = r.lastDroop ∧ r.stuck ≠ 0
    s.setDsRun x
      { range := if hr < -100 ∨ 800 < hr then r.range + 1 else 0,
        stuck := if same then r.stuck + 1 else 1,
        stuckLo := if same then min i r.stuckLo else i,
        stuckHi := if same then max i r.stuckHi else i,
        disagree := if s.disagrees d x then r.disagree + 1 else 0,
        lastHr := hr, lastDroop := dr, recheck := r.recheck }
  else s.setDsRun x { SensorRun.clear with recheck := r.recheck }

/-- The test of R129 that a sensor fails, 0 for none. -/
def SensorRun.fails (r : SensorRun) : Nat :=
  if 4 ≤ r.range then 1
  else if 10000 ≤ r.stuck ∧ 1000 < r.stuckHi - r.stuckLo then 2
  else if 1000 ≤ r.disagree then 3
  else 0

/-- Counts the valid sensors of a domain; with the last one lost the domain is DERATED by R58, and one that is DERATED already
raises its contained fault again. -/
def State.dsCounted (s : State) (d : Nat) : State :=
  let n := (s.validSensors d).length
  let lost : Bool := n = 0 ∧ s.getF .DOM_STATUS_DS_VALID d ≠ 0
  let s := s.setF .DOM_STATUS_DS_VALID d n
  let s := s.when (lost ∧ s.domSt d = 3) (fun s => s.event .DOM_EVENT_DERATE d 0x02 d)
  (s.derateCheck d).rearb 4 d

/-- A sensor fails for a cause: a valid one is invalid and leaves the tree (R58, R129); for an invalid one the test is recorded. -/
def State.dsFail (s : State) (x cause : Nat) : State :=
  let d := s.cfg.table.sensorDom x
  let s := s.setF .DOM_DS_CAUSE x cause
  if s.isSet .DOM_DS_VALID x then ((s.setF .DOM_DS_VALID x 0).event .DOM_EVENT_DS_INVALID d 0x02 d).dsCounted d else s

/-- The tests of a sensor after a sample (R129). -/
def State.dsTest (s : State) (x : Nat) : State :=
  let f := (s.dsRunOf x).fails
  if f = 0 then s else s.dsFail x f

/-- Takes the sensor readings of one sample. -/
def State.dsSample (s : State) (l : List DroopReading) : State :=
  let l := l.filter (fun r => r.sensor < s.cfg.table.dsens)
  let s := l.foldl (fun t r => t.dsReading r) s
  let s := l.foldl (fun t r => t.dsCount r.sensor) s
  l.foldl (fun t r => t.dsTest r.sensor) s

/-! ### Crossings (R130, R131) -/

/-- DROOP_TRIP of a domain's class. -/
def State.droopTrip (s : State) (d : Nat) : Nat := s.getF .DOM_CLS_DROOP_DROOP_TRIP (s.cfg.table.domClass d)

/-- DROOP_BOOST of a domain's class. -/
def State.droopBoost (s : State) (d : Nat) : Nat := s.getF .DOM_CLS_DROOP_DROOP_BOOST (s.cfg.table.domClass d)

/-- The highest droop of the valid sensors of a domain. -/
def State.droopOf (s : State) (d : Nat) : Nat :=
  ((s.validSensors d).map (fun x => s.getF .DOM_DS_DROOP x)).foldl max 0

/-- Whether a valid sensor of a domain reads droop at or above half of DROOP_TRIP. -/
def State.droopHolds (s : State) (d : Nat) : Bool :=
  (s.validSensors d).any (fun x => s.droopTrip d ≤ 2 * s.getF .DOM_DS_DROOP x)

/-- The droop of a domain meets its detectors: a crossing raises the full floor, closes the gate and triggers the capture;
droop at half of DROOP_TRIP holds a falling floor at its height. A further reading at DROOP_TRIP while the full floor stands and
has not begun to fall belongs to the same crossing (DESIGN CHOICE, assumption 115). -/
def State.droopCross (s : State) (d : Nat) : State :=
  if ¬ s.powered d then s
  else
    let falls := Tbl.get false s.dom.floorFalling d
    let full := s.droopBoost d + 1
    if (s.validSensors d).any (fun x => s.droopTrip d ≤ s.getF .DOM_DS_DROOP x) then
      if Tbl.get 0 s.dom.floor d = full ∧ ¬ falls then s
      else ((s.setFloor d full false).event .DOM_EVENT_DROOP d 0x02 d).capEvent 1 d
    else if falls ∧ s.droopHolds d then s.setFloor d (Tbl.get 0 s.dom.floor d) false
    else s

/-- STACK_TRIP. -/
def State.stackTrip (s : State) : Int := s.getF .DOM_STACK_CTRL_STACK_TRIP 0

/-- Opens or closes every permit gate for the stack (R131). -/
def State.setStackGate (s : State) (b : Bool) : State :=
  let s : State := { s with dom := { s.dom with stackGate := b } }
  s.each s.doms (fun d s => s.showGate d)

/-- The stack minimum over domains other than WAKING meets STACK_TRIP (R122, R131). -/
def State.stackCross (s : State) : State :=
  match s.dom.hrGate with
  | none => s
  | some h => if h < s.stackTrip ∧ ¬ s.dom.stackGate then (s.setStackGate true).capEvent 2 0 else s

/-! ### Profile checks (R200) -/

/-- What one profile check takes of a droop sample: the tile's current `i` at the last sample before t_on, its highest rise before
t_on − 100 ns, and its current at the first sample at or after t_end. -/
def ProfCheck.sample (c : ProfCheck) (now : Nat) (i : Int) : ProfCheck :=
  if now < c.on then { c with before := i, early := if now + 10 < c.on then max c.early (i - c.base) else c.early }
  else if c.fin ≤ now ∧ c.after = none then { c with after := some i }
  else c

/-- The open profile checks take a droop sample. -/
def State.checkSample (s : State) : State :=
  { s with start := { s.start with checks := s.start.checks.map (fun c => c.sample s.time (s.domSum c.tile : Int)) } }

/-! ### Telemetry and capture (R309 to R311, R320) -/

/-- The lower of a value and one that may be absent. -/
def minOpt (a : Option Int) (x : Int) : Option Int := some (match a with
  | none => x
  | some y => min x y)

/-- What the telemetry window gathers of one domain at a droop sample. -/
def State.accDroop (s : State) (d : Nat) : State :=
  let a := s.acc d
  let a := if s.metered d then
      let m := s.droopOf d
      let l := (s.validSensors d).map (fun x => s.getS .DOM_DS_HEADROOM x)
      { a with
        win := { droop := max a.win.droop m, hrSum := a.win.hrSum + l.foldl (· + ·) 0, hrN := a.win.hrN + l.length }
        droopMax := max a.droopMax m }
    else a
  s.setAcc d (if s.dom.hrDom.any (fun p => p.1 = d) then { a with hrMin := minOpt a.hrMin (Tbl.get 0 s.dom.hrDom d) } else a)

/-- What the telemetry window gathers at a droop sample. -/
def State.accSample (s : State) : State :=
  let s := s.each (s.doms.filter (fun d => s.metered d)) (fun d s => s.accDroop d)
  match s.dom.hrStack with
  | none => s
  | some h => { s with tlm := { s.tlm with stack := { s.tlm.stack with hrMin := minOpt s.tlm.stack.hrMin h } } }

/-- The channels of the capture that are on: number, kind and index. -/
def State.capChannels (s : State) : List (Nat × Nat × Nat) :=
  ((List.range 8).map (fun c => (c, s.getF .TLM_CAP_CH_KIND c, s.getF .TLM_CAP_CH_INDEX c))).filter
    (fun p => 1 ≤ p.2.1 ∧ p.2.1 ≤ 4)

/-- The value a channel's source has at a sample instant, none where it has none (R320). An invalid droop sensor goes on
delivering its readings (R129). -/
def State.capValue (s : State) (kind i : Nat) : Option Int :=
  match kind with
  | 1 => if i < s.cfg.table.dsens then some (s.getS .DOM_DS_HEADROOM i) else none
  | 2 => if i < s.cfg.table.cells ∧ s.cellSt i ≤ 3 then some (s.getF .CEL_MEAS_I_CELL i : Nat) else none
  | 3 => s.dom.hrStack.map (fun h => clampI (-2048) 2047 h)
  | 4 => if s.dom.hrDom.any (fun p => p.1 = i) then some (min 4095 (s.domSum i / 4) : Nat) else none
  | _ => none

/-- Whether a channel's sample sets SRC_GAP: a source with no value, and an invalid sensor, which R320 names beside it
(DEDUCED, assumption 120). -/
def State.capGap (s : State) (kind i : Nat) : Bool :=
  s.capValue kind i = none ∨ (kind = 1 ∧ ¬ s.isSet .DOM_DS_VALID i)

/-- TLM_CAP_TICK. -/
def State.capTick (s : State) : Nat := s.getF .TLM_CAP_TICK_LO_TICK_LO 0 + 2 ^ 32 * s.getF .TLM_CAP_TICK_HI_TICK_HI 0

/-- Whether the trigger source has met the armed capture by a sample instant (R324). -/
def State.capDue (s : State) : Bool :=
  s.getF .TLM_CAP_STATUS_STATE 0 = 1 ∧ s.tlm.cap.trigTime = none ∧
    (s.tlm.cap.hit ∨ s.getF .TLM_CAP_CTRL_TRIG_SRC 0 = 0 ∨
      (s.getF .TLM_CAP_CTRL_TRIG_SRC 0 = 6 ∧ s.tlm.cap.armedAt ≤ s.capTick ∧ s.capTick ≤ s.time))

/-- Latches one sample of every channel while the capture is ARMED or in POST (R320, R323); the first instant at or after the
trigger event is the trigger instant (R324). A domain current that is no whole number of 4 mA is rounded down or up, which is
open. -/
def State.capLatch (s : State) : State :=
  if s.getF .TLM_CAP_STATUS_STATE 0 = 1 ∨ s.getF .TLM_CAP_STATUS_STATE 0 = 2 then
    let vals := s.capChannels.map (fun p => (p.1, p.2.1, p.2.2, s.capValue p.2.1 p.2.2))
    let gap := vals.any (fun p => s.capGap p.2.1 p.2.2.1)
    let up := s.fresh.1
    let s := s.fresh.2
    let row := vals.map (fun p =>
      let v : Int := p.2.2.2.getD 0
      if p.2.1 = 4 ∧ p.2.2.2 ≠ none ∧ s.domSum p.2.2.1 % 4 ≠ 0 then (p.1, min (4095 : Int) (v + ((up % 2 : Nat) : Int)))
      else (p.1, v))
    let c := s.tlm.cap
    let due := s.capDue
    { s with tlm := { s.tlm with cap := { c with
        inst := c.inst ++ [(s.time, gap, row)]
        trigAt := if due then some c.inst.length else c.trigAt
        trigTime := if due then some s.time else c.trigTime } } }
  else s

end Sys2Proof.Machine
end

