-- ==== Sys2Proof/Machine/HerdOps.lean ====
section
/-! DEFINITION. Shared operations of the Herd lock (chapter Herd Lock Across Stacks, R270 to R287). Port 0 is the up port, ports 1
to 3 the down ports. States: 0 IDLE, 1 JOINING, 2 LOCKED, 3 EXCL_PENDING, 4 RELAY, 5 HOLDOVER. -/

namespace Sys2Proof.Machine

/-! ### Ports (R270, R276) -/

/-- A port before HERD_JOIN enables it. -/
def HrdPort.empty : HrdPort :=
  { enabled := false, tested := false, sent := false, got := false, crcRun := 0, txSeq := 0, fMin := 0xFFF, minId := 0,
    members := 0, exclN := 0 }

/-- A port. -/
def State.port (s : State) (p : Nat) : HrdPort := Tbl.get HrdPort.empty s.hrd.ports p

/-- Replaces a port. -/
def State.setPort (s : State) (p : Nat) (x : HrdPort) : State :=
  { s with hrd := { s.hrd with ports := Tbl.putD HrdPort.empty s.hrd.ports p x } }

/-- Member state. -/
def State.herdSt (s : State) : Nat := s.getF .HRD_STATUS_STATE 0

/-- Whether the link of a port is up. -/
def State.linkUp (s : State) (p : Nat) : Bool := s.isSet .HRD_PORT_UP p

/-- The down ports whose link is up. -/
def State.downLinks (s : State) : List Nat := [1, 2, 3].filter (fun p => s.linkUp p)

/-- Whether an uncalibrated fallback holds the lock-link ports down (R40). -/
def State.portsHeld (s : State) : Bool := s.isSet .GLB_TB_STATUS_FALLBACK 0 ∧ ¬ s.isSet .GLB_TB_STATUS_CAL_OK 0

/-- Shows a link as up or down. -/
def State.setUp (s : State) (p : Nat) (b : Bool) : State :=
  (s.setB .HRD_PORT_UP p b).setF .HRD_STATUS_PORT_UP 0 (setBit (s.getF .HRD_STATUS_PORT_UP 0) p b)

/-! ### Messages (R273, R274) -/

/-- Bytes 0 to 27 of a message. -/
def lockBytes (typ flags group sender seq : Nat) (body : List Nat) : List Nat :=
  [typ, flags % 256] ++ leBytes 2 group ++ leBytes 2 sender ++ leBytes 2 seq ++
    (List.range 20).map (fun i => body.getD i 0 % 256)

/-- Sends a message on a port with the SEQ of the port and its CRC from unit 2 (R327). -/
def State.sendLock (s : State) (p typ flags sender : Nat) (body : List Nat) : State :=
  let x := s.port p
  if x.tested ∨ s.portsHeld then s
  else
    let b := lockBytes typ flags (s.getF .HRD_ID_GROUP_ID 0) sender x.txSeq body
    ((s.dutyJob 2 b none).setPort p { x with txSeq := (x.txSeq + 1) % 65536 }).emit (.lock p (b ++ leBytes 4 (crc32c b)))

/-- Sends a message of this stack. -/
def State.sendOwn (s : State) (p typ : Nat) (body : List Nat) : State :=
  s.sendLock p typ (s.getF .HRD_STATUS_TB_DEG 0) (s.getF .HRD_ID_STACK_ID 0) body

/-- Sends a message of this stack on every down link that is up. -/
def State.sendDown (s : State) (typ : Nat) (body : List Nat) : State :=
  s.each s.downLinks (fun p s => s.sendOwn p typ body)

/-- Forwards a message down with its sender's header (R274). -/
def State.forwardDown (s : State) (typ : Nat) (m : LockMsg) : State :=
  s.each s.downLinks (fun p s => s.sendLock p typ m.flags m.sender m.body)

/-- Whether a port takes no messages: none exists, the strap permits no role, LINK_TEST has it, or the ports are held down
(R40, R272, R276). -/
def State.portShut (s : State) (p : Nat) : Bool := p > 3 ∨ s.cfg.straps.herdRole = 0 ∨ (s.port p).tested ∨ s.portsHeld

/-- A message that passes its CRC: its check runs on unit 2 and ends the port's run of failures (R273, R276, R327). -/
def State.rxMsg (s : State) (p typ : Nat) (m : LockMsg) (f : State → State) : State :=
  if s.portShut p then s
  else
    let b := lockBytes typ m.flags m.group m.sender m.seq m.body
    f ((s.dutyJob 2 b (some (crc32c b))).setPort p { s.port p with crcRun := 0 })

/-- A message that passes its CRC is taken where the port's link is up and its GROUP_ID is this stack's (R273). -/
def State.rxLock (s : State) (p typ : Nat) (m : LockMsg) (f : State → State) : State :=
  s.rxMsg p typ m (fun s => if ¬ s.linkUp p ∨ m.group % 65536 ≠ s.getF .HRD_ID_GROUP_ID 0 then s else f s)

/-- Sends HELLO (R274). -/
def State.sendHello (s : State) (p : Nat) : State :=
  let body := [if s.isSet .HRD_STATUS_IS_ROOT 0 then 1 else 2, s.getF .HRD_STATUS_LEVEL 0] ++
    leBytes 2 (s.getF .HRD_FREQ_F_GRP 0) ++ leBytes 2 (s.getF .HRD_PEND_CHG_SEQ 0) ++ [s.getF .HRD_FREQ_PEND 0]
  let s := s.sendOwn p 0x66 body
  if (s.port p).tested ∨ s.portsHeld then s else s.setPort p { s.port p with sent := true }

/-! ### Changes (R279, R280) -/

/-- The first slow tick at or after a count. -/
def slowTick (x : Nat) : Nat := ceilDiv x 100000 * 100000

/-- LEAD in ticks. -/
def State.lead (s : State) : Nat := 1000 * clampN 5 100 (s.getF .HRD_CFG_LEAD 0)

/-- Holds a change until its tick. -/
def State.holdChange (s : State) (fNew seq ct : Nat) : State :=
  ((((s.setF .HRD_PEND_CHG_SEQ 0 seq).setF .HRD_PEND_F_NEW 0 fNew).setF .HRD_PEND_TICK_LO_CT_LO 0 ct).setF
    .HRD_PEND_TICK_HI_CT_HI 0 (ct / 2 ^ 32)).setF .HRD_FREQ_PEND 0 1

/-- The change held is applied (R280): F_GRP, and the end of a bar on new requests 1 ms later (R282). -/
def State.applyChange (s : State) : State :=
  let s := (s.setF .HRD_FREQ_F_GRP 0 (s.getF .HRD_PEND_F_NEW 0)).setF .HRD_FREQ_PEND 0 0
  { s with hrd := { s.hrd with
      agreed := true, lastSeq := some (s.getF .HRD_PEND_CHG_SEQ 0), barCt := false,
      barUntil := if s.hrd.barCt then s.time + 100000 else s.hrd.barUntil } }

/-! ### The offer (R278, R279) -/

/-- The step a tile would take without the presenters that follow HERD_STEP; the top step with no presenter. -/
def State.stepAlone (s : State) (d : Nat) : Nat :=
  let l := (s.presenters 4 d).filter (fun e => s.getF .CE_SD_IN_IN_KIND e.1 ≠ 17)
  let own := l.map (fun e => ((s.elem e.1 e.2).act, e.1, e.2))
  let lim := match s.stage1Limit d, s.appliedLimit d with
    | some w, some v => [((s.stepOf d v : Int), w.2.1, w.2.2)]
    | _, _ => []
  let st1 : Int := match lowest (own ++ lim) with
    | some w => w.1
    | none => 15
  (s.stage2 4 d st1).1.toNat

/-- The tiles that count toward the offer. -/
def State.offerTiles (s : State) : List Nat :=
  (List.range s.cfg.table.tiles).filter (fun t =>
    bitOf (s.getF .HRD_TILE_MASK_MASK (t / 32)) (t % 32) ∧ s.domLive t)

/-- F_OFF. -/
def State.offer (s : State) : Nat :=
  match s.offerTiles.map (fun t => s.stepAlone t) with
  | [] => 0xFFF
  | x :: r => s.freqOf 0 (min (r.foldl min x) s.stackCeil)

/-- The content of OFFER: lowest offer and its holder, members, open requests. Of equal offers the own one stands, then the
lowest port. -/
def State.offerContent (s : State) : Nat × Nat × Nat × Nat :=
  let st := s.herdSt
  let own := if st = 2 then (s.getF .HRD_FREQ_F_OFF 0, s.getF .HRD_ID_STACK_ID 0) else (0xFFF, s.getF .HRD_ID_STACK_ID 0)
  let l := s.downLinks.map (fun p => s.port p)
  let best := l.foldl (fun a x => if x.fMin < a.1 then (x.fMin, x.minId) else a) own
  (best.1, best.2, (l.map (fun x => x.members)).foldl (· + ·) (if st = 2 ∨ st = 3 then 1 else 0),
    (l.map (fun x => x.exclN)).foldl (· + ·) (if s.hrd.reqOpen then 1 else 0))

/-- Sends OFFER up. -/
def State.sendOffer (s : State) : State :=
  let c := s.offerContent
  s.sendOwn 0 0x60 (leBytes 2 c.1 ++ leBytes 2 c.2.1 ++ leBytes 4 (c.2.2.1 % 2 ^ 17) ++ leBytes 2 c.2.2.2)

/-- The root holds the group while members are missing, and issues a change where the group minimum differs (R279). -/
def State.rootCheck (s : State) : State :=
  if ¬ s.isSet .HRD_STATUS_IS_ROOT 0 then s
  else
    let c := s.offerContent
    if c.2.2.1 < s.getF .HRD_EXPECT_EXPECT 0 then
      if s.isSet .HRD_STATUS_INCOMPLETE 0 then s
      else
        let i := s.fresh.1 % 4
        ((s.fresh.2).setF .HRD_STATUS_INCOMPLETE 0 1).event .HRD_EVENT_INCOMPLETE 0 0x08 i
    else
      let s := s.setF .HRD_STATUS_INCOMPLETE 0 0
      if c.1 ≠ s.getF .HRD_FREQ_F_GRP 0 ∧ c.1 ≠ 0xFFF ∧ ¬ s.isSet .HRD_FREQ_PEND 0 then
        let ct := slowTick (s.time + s.lead)
        let seq := (s.getF .HRD_PEND_CHG_SEQ 0 + 1) % 65536
        (s.holdChange c.1 seq ct).sendDown 0x61 (leBytes 2 c.1 ++ leBytes 2 seq ++ leBytes 8 ct)
      else s

/-- The content of the offer has changed, or may have: counts, OFFER up on a change, and the root's check (R275, R279). -/
def State.offerUpdate (s : State) : State :=
  let c := s.offerContent
  let s := (s.setF .HRD_MEMBERS_MEMBERS 0 c.2.2.1).setF .HRD_MEMBERS_EXCL_N 0 (min 255 c.2.2.2)
  let s := s.when (s.hrd.lastOffer ≠ some c) (fun s =>
    let s : State := { s with hrd := { s.hrd with lastOffer := some c } }
    s.when (s.linkUp 0) (fun s => s.sendOffer))
  s.rootCheck

/-! ### Exclusion (R282, R283) -/

/-- EXCL_PCT as it is used. -/
def State.exclPct (s : State) : Nat := clampN 1 50 (s.getF .HRD_CFG_EXCL_PCT 0)

/-- Whether the offer lies below the threshold. -/
def State.exclLow (s : State) : Bool :=
  s.getF .HRD_FREQ_F_OFF 0 * 100 < s.getF .HRD_FREQ_F_GRP 0 * (100 - s.exclPct)

/-- Sends DECIDE down. -/
def State.sendDecide (s : State) (target seq code : Nat) : State :=
  s.sendDown 0x67 (leBytes 2 target ++ leBytes 2 seq ++ [code])

/-- Ends a slew where it stands (R277, R285). -/
def State.endSlew (s : State) : State :=
  if s.isSet .HRD_STATUS_SLEWING 0 then
    { s.setF .HRD_STATUS_SLEWING 0 0 with hrd := { s.hrd with corr := 0 } }
  else s

/-- EXCL_PENDING ends in LOCKED; `barred` keeps new requests off until the next CT and 1 ms (R282). -/
def State.exclEnd (s : State) (barred : Bool) : State :=
  let s : State := { s with hrd := { s.hrd with reqOpen := false, barCt := s.hrd.barCt ∨ barred } }
  (s.setF .HRD_STATUS_STATE 0 2).offerUpdate

/-- Enters RELAY: the own offer counts no more and HERD_STEP delivers the ceiling; the count stays as it is, and a slew ends (R277,
R287). -/
def State.toRelay (s : State) : State :=
  let s := ((s.setF .HRD_STATUS_STATE 0 4).setF .HRD_FREQ_F_GRP 0 0).setF .HRD_FREQ_PEND 0 0
  let s := s.endSlew
  let s : State := { s with hrd := { s.hrd with agreed := false, reqOpen := false, barCt := false } }
  s.offerUpdate

/-- A decision on this member's open request: FOLLOW bars new requests until the next CT and 1 ms, EVICT makes it a RELAY (R282,
R283). -/
def State.takeDecide (s : State) (target seq code : Nat) : State :=
  if s.herdSt = 3 ∧ s.hrd.reqOpen ∧ target = s.getF .HRD_ID_STACK_ID 0 ∧ seq = s.hrd.reqSeq then
    if code = 1 then s.exclEnd true else if code = 2 then s.toRelay else s
  else s

/-- The root meets an exclusion message of a stack (R283): action 1 takes a free entry, or is decided FOLLOW at once, its own too; action 2
frees the entry. -/
def State.rootExclude (s : State) (port stack fOff seq action : Nat) : State :=
  let at_ := (List.range 16).find? (fun i => s.getF .HRD_EXCL_STATE i ≠ 0 ∧ s.getF .HRD_EXCL_STACK_ID i = stack)
  if action = 2 then
    match at_ with
    | none => s
    | some i => ((s.setF .HRD_EXCL_STATE i 0).setF .HRD_EXCL_F_OFF i 0).setF .HRD_EXCL_STACK_ID i 0
  else if action = 1 then
    match at_.or ((List.range 16).find? (fun i => s.getF .HRD_EXCL_STATE i = 0)) with
    | none => ((s.event .HRD_EVENT_EXCL_OVF 0 0x08 port).sendDecide stack seq 1).takeDecide stack seq 1
    | some i =>
      let s := ((s.setF .HRD_EXCL_STATE i 1).setF .HRD_EXCL_F_OFF i fOff).setF .HRD_EXCL_STACK_ID i stack
      let s : State := { s with hrd := { s.hrd with exclSeq := s.hrd.exclSeq.put i seq } }
      (s.event .HRD_EVENT_EXCL_REQ 0 0x08 port).notice 6 stack
  else s

/-- Sends EXCLUDE up; the root takes its own. -/
def State.sendExclude (s : State) (action : Nat) : State :=
  if s.isSet .HRD_STATUS_IS_ROOT 0 then
    s.rootExclude 0 (s.getF .HRD_ID_STACK_ID 0) (s.getF .HRD_FREQ_F_OFF 0) s.hrd.reqSeq action
  else if s.linkUp 0 then
    s.sendOwn 0 0x65 (leBytes 2 (s.getF .HRD_FREQ_F_OFF 0) ++ leBytes 2 (s.getF .HRD_FREQ_F_GRP 0) ++ leBytes 2 s.hrd.reqSeq ++
      [action])
  else s

/-- A member in LOCKED whose offer lies below the threshold, and that may raise a request, enters EXCL_PENDING (R282). -/
def State.exclCheck (s : State) : State :=
  if s.herdSt = 2 ∧ s.exclLow ∧ ¬ s.hrd.barCt ∧ s.hrd.barUntil ≤ s.time then
    let s : State := { s with hrd := { s.hrd with reqSeq := (s.hrd.reqSeq + 1) % 65536, reqOpen := true } }
    let s := ((s.setF .HRD_STATUS_STATE 0 3).event .HRD_EVENT_EXCL_REQ 0 0x08 0).sendExclude 1
    s.offerUpdate
  else s

/-! ### Entering and leaving states (R277, R286, R287) -/

/-- Enters IDLE: ports answer HELLO only, HERD_STEP delivers the ceiling, HERD_SHARED is 0. -/
def State.toIdle (s : State) : State :=
  let s := s.each [0, 1, 2, 3] (fun p s =>
    (s.setPort p { HrdPort.empty with tested := (s.port p).tested, txSeq := (s.port p).txSeq }).setUp p false)
  let s := s.each (List.range 16) (fun i s =>
    if s.getF .HRD_EXCL_STATE i = 0 then s
    else ((s.setF .HRD_EXCL_STATE i 0).setF .HRD_EXCL_F_OFF i 0).setF .HRD_EXCL_STACK_ID i 0)
  let s := ((((s.setF .HRD_STATUS_STATE 0 0).setF .HRD_STATUS_IS_ROOT 0 0).setF .HRD_STATUS_INCOMPLETE 0 0).setF
    .HRD_STATUS_OFFSET_MODE 0 0).setF .HRD_STATUS_SLEWING 0 0
  let s := ((((s.setF .HRD_STATUS_LEVEL 0 0).setF .HRD_FREQ_PEND 0 0).setF .HRD_FREQ_F_GRP 0 0).setF .HRD_MEMBERS_MEMBERS 0 0).setF
    .HRD_MEMBERS_EXCL_N 0 0
  let s := s.setF .GLB_TB_STATUS_HERD_SHARED 0 0
  { s with hrd := { HrdState.reset with ports := s.hrd.ports, reqSeq := s.hrd.reqSeq } }

/-- A link is lost (R276, R279, R286). -/
def State.loseLink (s : State) (p : Nat) : State :=
  if ¬ s.linkUp p then s
  else
    let x := s.port p
    let s := (s.setPort p { HrdPort.empty with enabled := x.enabled, tested := x.tested, txSeq := x.txSeq }).setUp p false
    let s := (s.bumpF .HRD_PORT_DROPS p).event .HRD_EVENT_LINK_LOST 0 0x08 p
    if p = 0 then
      let s : State := { s with hrd := { s.hrd with delay := none } }
      if s.herdSt = 2 ∨ s.herdSt = 3 then
        let s : State := { s.endSlew with hrd := { s.endSlew.hrd with reqOpen := false, corr := 0 } }
        ((s.setF .HRD_STATUS_STATE 0 5).event .HRD_EVENT_HOLDOVER 0 0x08 0).offerUpdate
      else s
    else if s.herdSt = 4 ∧ s.downLinks = [] then s.toIdle
    else s.offerUpdate

/-- Sends DISBAND down and enters IDLE (R286, R287). -/
def State.disband (s : State) : State := ((s.sendDown 0x68 []).event .HRD_EVENT_DISBAND 0 0x08 0).toIdle

/-- Enters LOCKED: a HERD_JOIN that waits completes OK with the LEVEL (R351). -/
def State.toLocked (s : State) : State :=
  let s := s.setF .HRD_STATUS_STATE 0 2
  let s := s.replyAll 0x70 (fun _ => true) stOk [s.getF .HRD_STATUS_LEVEL 0, 0, 0, 0]
  (s.offerUpdate).exclCheck

/-! ### Time (R284, R285) -/

/-- Shows the group count less the own count. -/
def State.showOffset (s : State) (o : Int) : State :=
  (s.setF .HRD_OFFSET_LO_OFS_LO 0 (toU 64 o)).setF .HRD_OFFSET_HI_OFS_HI 0 (toU 64 o / 2 ^ 32)

/-- Sets the ticks still to correct. -/
def State.setCorr (s : State) (c : Int) : State := { s with hrd := { s.hrd with corr := c } }

/-- A member aligns its count by an offset on entry to LOCKED (R285). -/
def State.align (s : State) (o : Int) : State :=
  if 0 ≤ o then
    let s : State := { s with time := (s.time + o.toNat) % 2 ^ 64 }
    (((s.showOffset 0).setCorr 0).setF .GLB_TB_STATUS_HERD_SHARED 0 1).event .HRD_EVENT_TIME_JUMP 0 0x08 0
  else if -100000 ≤ o then
    (((s.showOffset o).setCorr o).setF .HRD_STATUS_SLEWING 0 1).setF .GLB_TB_STATUS_HERD_SHARED 0 0
  else
    (((s.showOffset o).setF .HRD_STATUS_OFFSET_MODE 0 1).setF .GLB_TB_STATUS_HERD_SHARED 0 0).event .HRD_EVENT_TIME_JUMP 0 0x08 0

/-- The offset that HRD_OFFSET holds. -/
def State.heldOffset (s : State) : Int := toS 64 (s.getF .HRD_OFFSET_LO_OFS_LO 0 + 2 ^ 32 * s.getF .HRD_OFFSET_HI_OFS_HI 0)

/-- The offset of a SYNC meets a member: in offset mode, which only a new HERD_JOIN ends, the correction keeps the offset held; else
it aligns in JOINING and HOLDOVER, and corrects its count in the other states (R284, R285). -/
def State.syncOffset (s : State) (o : Int) : State :=
  let st := s.herdSt
  if s.isSet .HRD_STATUS_OFFSET_MODE 0 then (s.setCorr (o - s.heldOffset)).when (st = 5) (fun s => s.toLocked)
  else if st = 1 ∨ st = 5 then (s.align o).toLocked
  else (s.showOffset o).setCorr o

/-- One edge of the time base (R37, R284, R285): the count advances by one tick, and by 0 or 2 where a correction is due, at most
once in 64 edges, or in 16 in fallback outside a slew. -/
def State.tick (s : State) : State :=
  let gap := if s.isSet .GLB_TB_STATUS_FALLBACK 0 ∧ ¬ s.isSet .HRD_STATUS_SLEWING 0 then 16 else 64
  let h := s.hrd
  if h.corr ≠ 0 ∧ gap ≤ h.edge + 1 then
    let up := decide (0 < h.corr)
    { s with
      time := (s.time + (if up then 2 else 0)) % 2 ^ 64
      hrd := { h with corr := if up then h.corr - 1 else h.corr + 1, edge := 0 } }
  else { s with time := (s.time + 1) % 2 ^ 64, hrd := { h with edge := min 64 (h.edge + 1) } }

/-! ### HERD_JOIN and HERD_LEAVE (R272, R287) -/

/-- Whether the strap permits a role: 1 root, 2 member. -/
def State.rolePermitted (s : State) (role : Nat) : Bool :=
  s.cfg.straps.herdRole = 3 ∨ s.cfg.straps.herdRole = role

/-- A HERD_JOIN that has passed its checks: identity, ports and state. The root passes straight to LOCKED; a member that was a
RELAY keeps the links that its new group and ports allow, and the delay measured with its up link; offset mode ends, and with
another group the changes applied before count no more (R277, R280, R285). -/
def State.joinHerd (s : State) (group stack role ports expect : Nat) : State :=
  let root := decide (role = 1)
  let same := decide (group = s.getF .HRD_ID_GROUP_ID 0)
  let s := s.each [0, 1, 2, 3] (fun p s =>
    let on := bitOf ports p ∧ ¬ (root ∧ p = 0)
    let keep := on ∧ same ∧ ¬ root
    let x := s.port p
    if keep then s.setPort p { x with enabled := true }
    else (s.setPort p { HrdPort.empty with enabled := on, tested := x.tested, txSeq := x.txSeq }).setUp p false)
  let s := (s.setF .HRD_ID_GROUP_ID 0 group).setF .HRD_ID_STACK_ID 0 stack
  if root then
    let s := ((s.setF .HRD_STATUS_IS_ROOT 0 1).setF .HRD_STATUS_LEVEL 0 0).setF .HRD_EXPECT_EXPECT 0 expect
    (s.setF .GLB_TB_STATUS_HERD_SHARED 0 1).toLocked
  else
    let s := (s.endSlew.setF .HRD_STATUS_STATE 0 1).setF .HRD_STATUS_OFFSET_MODE 0 0
    let s : State := { s with hrd := { s.hrd with
      corr := 0, delay := if s.linkUp 0 then s.hrd.delay else none, lastSeq := if same then s.hrd.lastSeq else none } }
    s.offerUpdate

/-- HERD_LEAVE by state (R277, R287). -/
def State.leaveHerd (s : State) : State :=
  let st := s.herdSt
  if st = 0 then s
  else if s.isSet .HRD_STATUS_IS_ROOT 0 then s.disband
  else
    let s := s.when (st = 3) (fun s => s.sendExclude 2)
    let s := s.when (st = 1) (fun s => s.replyAll 0x70 (fun _ => true) stAbandoned [])
    if s.downLinks = [] then s.toIdle else s.toRelay

end Sys2Proof.Machine
end

