-- ==== Sys2Proof/Machine/EstOps.lean ====
section
/-! DEFINITION. Shared operations of the power estimation engine and of stack power (chapters Power Estimation Engine and Power
Budget and Operating Points). Currents are in 1/16 mA, powers of one window in 1/64 microwatt. -/

namespace Sys2Proof.Machine

/-! ### Parameters of a window (R208, R217) -/

/-- The window whose close the engine works on: window n ends at tick 100 (n + 1). -/
def State.window (s : State) : Nat := s.time / 100 - 1

/-- A weight, scale, trim or leakage field as window `n` uses it. -/
def State.estParam (s : State) (f : Fld) (i n : Nat) : Nat :=
  match s.est.old.find? (fun p => p.fld = f ∧ p.item = i ∧ n < p.upto) with
  | some p => p.val
  | none => s.getF f i

/-- Keeps the value that the windows before `upto` use of a field; the field's new value then applies from `upto` on, in place of
one that would have applied only later (R208). -/
def State.keepParam (s : State) (f : Fld) (i upto : Nat) : State :=
  let val := s.estParam f i (upto - 1)
  { s with est := { s.est with
      old := s.est.old.filter (fun p => p.fld ≠ f ∨ p.item ≠ i ∨ p.upto < upto) ++ [{ fld := f, item := i, val := val, upto := upto }] } }

/-- Drops the kept values that no window after `n` uses. -/
def State.dropParams (s : State) (n : Nat) : State :=
  { s with est := { s.est with old := s.est.old.filter (fun p => n + 1 < p.upto) } }

/-- The register field of the weight of a counter; its item is 8 d + c / 4. -/
def weightFld (c : Nat) : Fld :=
  match c % 4 with
  | 0 => .DOM_EST_W_W0
  | 1 => .DOM_EST_W_W1
  | 2 => .DOM_EST_W_W2
  | _ => .DOM_EST_W_W3

/-- The weight of a counter in a window. -/
def State.weight (s : State) (d c n : Nat) : Int := toS 8 (s.estParam (weightFld c) (8 * d + c / 4) n)

/-- Entry L[r][col] of the leakage table of a class in a window. -/
def State.leakAt (s : State) (k r col n : Nat) : Int :=
  s.estParam (if col % 2 = 1 then .DOM_EST_LEAK_L_ODD else .DOM_EST_LEAK_L_EVEN) (64 * k + 4 * r + col / 2) n

/-! ### The estimate (R205 to R207) -/

/-- T_HOT as the leakage term reads it: 960 without a published maximum or a contributing sensor. -/
def State.leakTemp (s : State) (d : Nat) : Int :=
  if (Tbl.get HotRun.empty s.thm.dom d).published then s.getS .THM_DOM_T_HOT d else 960

/-- The interpolation of R206. -/
def leakInterp (l : Nat → Nat → Int) (tHot code : Int) : Int :=
  let tq := (clampI 0 960 tHot).toNat
  let r := tq / 64
  let f : Int := (tq % 64 : Nat)
  let kq := (clampI 320 880 code).toNat - 320
  let col := kq / 80
  let g : Int := (kq % 80 : Nat)
  let r1 := min (r + 1) 15
  let c1 := min (col + 1) 7
  let a := l r col + rne ((l r1 col - l r col) * f) 6
  let b := l r c1 + rne ((l r1 c1 - l r c1) * f) 6
  a + rneDiv ((b - a) * g) 80

/-- The dynamic term of R205. -/
def dynTerm (w : Nat → Int) (counts : List Nat) (scale : Int) : Nat :=
  let acc := (List.range 32).foldl (fun a i => a + w i * (counts.getD i 0 : Nat)) 0
  (rne (acc * max 0 scale) 15).toNat

/-- The leakage term of R205. -/
def State.lkTerm (s : State) (d n : Nat) : Nat :=
  (rne (leakInterp (fun r col => s.leakAt (s.cfg.table.domClass d) r col n) (s.leakTemp d) (s.getF .DOM_SETPT_VEFF d) *
    (s.estParam .DOM_EST_SCALE_LK_TRIM d n : Nat)) 14).toNat

/-- A power of R207 and R461 in 1/1,024 W: a current at the cell code in effect. -/
def State.codePower (s : State) (d i : Nat) : Nat := (rneDiv (i * s.getF .DOM_SETPT_VEFF d : Nat) 12500).toNat

/-- The substitute of R211. -/
def State.substitute (s : State) (iEst : Nat) : Nat :=
  min 256000 (ceilDiv (iEst * (100 + max 15 (s.getF .DOM_EST_SUB_SUB_PCT 0))) 100)

/-! ### Counter sets (R202, R204) -/

/-- A counter set is declared stale: the run goes on and STALE is set. -/
def State.staleSet (s : State) (d : Nat) : State :=
  let e := s.estDom d
  (s.setEst d { e with decided := true, arrived := none, staleRun := e.staleRun + 1 }).event .DOM_EST_EVENT_STALE 0 0x05 d

/-- The decision of R204 on one domain: a set that has arrived is taken, a missing one is stale. -/
def State.decideSet (s : State) (d : Nat) : State :=
  let e := s.estDom d
  if e.decided then s
  else
    match e.arrived with
    | some c => s.setEst d { e with decided := true, arrived := some c, counts := c, staleRun := 0 }
    | none => s.staleSet d

/-! ### The measurement (R209, R210) -/

/-- The window reading of a cell, none where it has not arrived. -/
def readingOf (l : List (Nat × Nat)) (c : Nat) : Option Nat := (l.find? (fun p => p.1 = c)).map (fun p => min 4095 p.2)

/-- The measured domain current of a window in mA. -/
def State.windowSum (s : State) (l : List (Nat × Nat)) (d : Nat) : Nat :=
  ((s.cfg.table.domCells d).map (fun c => (readingOf l c).getD 0)).foldl (· + ·) 0

/-- Whether the measurement of a window is invalid. -/
def State.measBad (s : State) (l : List (Nat × Nat)) (d : Nat) : Bool :=
  (s.estDom d).failedCell ∨
    (s.cfg.table.domCells d).any (fun c =>
      s.cellSt c = 4 ∨ (1 ≤ s.cellSt c ∧ s.cellSt c ≤ 3 ∧ readingOf l c = none) ∨ readingOf l c = some 4095)

/-! ### One domain's window (R205 to R212, R214, R461) -/

/-- Adds a window to the sums and hold causes of the millisecond (R214, R216). -/
def EstDom.sum (e : EstDom) (iEst iMeas : Nat) (bad stale : Bool) (holds : List Nat) : EstDom :=
  { e with
    sumEst := e.sumEst + iEst
    sumMeas := if bad then e.sumMeas else e.sumMeas + iMeas
    sumErr := if bad then e.sumErr else e.sumErr + ((iMeas : Int) - iEst)
    sumCounts := (List.range 32).map (fun i => e.sumCounts.getD i 0 + e.counts.getD i 0)
    holds := e.holds ++ ((if bad then [2] else []) ++ (if stale then [3] else []) ++ holds).filter (fun h => ¬ e.holds.contains h) }

/-- The hold causes that stand in a domain: its state, FREEZE and ADAPT_EN (R216). -/
def State.standingHolds (s : State) (d : Nat) : List Nat :=
  (if s.domLive d then [] else [1]) ++ (if s.isSet .DOM_EST_CTRL_FREEZE d then [4] else []) ++
    (if s.isSet .DOM_EST_ADAPT_ADAPT_EN 0 then [] else [5])

/-- The power lost in the cells of a domain over a window, in 1/64 µW: its current times the mean headroom of its valid sensors'
readings, and a bias of at most 1.0 mA a cell in ON or LIMITED at the cell input voltage. The bias, and the loss where no valid
sensor has read, are free (R66, R310; DEDUCED, assumption 126). -/
def State.windowLoss (s : State) (d i : Nat) (v : Int) (w : DroopWin) : Int × State :=
  let f := s.fresh.1
  if w.hrN = 0 then ((f : Int), s.fresh.2)
  else
    let h := 2 * w.hrSum
    (rneDiv (h * i) w.hrN + (f % (16 * s.cellsOn d + 1) : Nat) * (v + rneDiv h w.hrN), s.fresh.2)

/-- What the telemetry window gathers of one domain from a window (R309, R310). -/
def State.accWindow (s : State) (d : Nat) : State :=
  let a := s.acc d
  let e := s.estDom d
  let w := a.closed.getD a.win
  let v : Int := (5 * s.getF .DOM_SETPT_VEFF d : Nat) - (2 * w.droop : Nat)
  let p := (v * e.iDom).toNat
  let loss := s.windowLoss d e.iDom v w
  let s := loss.2
  let st := s.getF .DOM_STATUS_STEP d
  let a := { a with
    cover := a.cover + 1, iSum := a.iSum + e.iDom, iPeak := max a.iPeak e.iDom, vSum := a.vSum + v,
    vMin := some (match a.vMin with
      | none => v
      | some x => min x v),
    pSum := a.pSum + p, pPeak := max a.pPeak p, pInSum := a.pInSum + ((p : Int) + loss.1).toNat, estSum := a.estSum + e.iEst,
    estInvalid := a.estInvalid ∨ 4 ≤ e.staleRun, stepLo := some (min st (a.stepLo.getD st)), stepHi := max st a.stepHi,
    substWin := a.substWin + (if e.substituted then 1 else 0),
    win := if a.closed = none then DroopWin.empty else a.win, closed := none }
  let s := s.setAcc d a
  { s with tlm := { s.tlm with energy := Tbl.putD 0 s.tlm.energy d (Tbl.get 0 s.tlm.energy d + p) } }

/-- Publishes window `n` of a metered domain. -/
def State.publishDom (s : State) (l : List (Nat × Nat)) (d n : Nat) : State :=
  let s := s.decideSet d
  let e := s.estDom d
  let stale := e.staleRun ≠ 0
  let estBad : Bool := 4 ≤ e.staleRun
  let lk := s.lkTerm d n
  let iEst := min 256000 (dynTerm (fun c => s.weight d c n) e.counts (toS 16 (s.estParam .DOM_EST_SCALE_SCALE d n)) + lk)
  let iMeas := 16 * s.windowSum l d
  let bad := s.measBad l d
  let lim := 250 * s.ilim d (s.getF .DOM_STATUS_STEP d)
  let iDom := if bad then (if estBad then lim else s.substitute iEst) else iMeas
  let estOut := if estBad then (if bad then lim else iMeas) else iEst
  let e := { e with
    arrived := none, decided := false, iEst := iEst, iLk := lk, iMeas := iMeas, estOut := estOut, iDom := iDom,
    pDom := s.codePower d iDom, substituted := bad,
    failedCell := (s.cfg.table.domCells d).any (fun c => s.cellSt c = 4) }
  let s := s.setEst d (e.sum iEst iMeas bad stale (s.standingHolds d))
  let s := (((s.setF .DOM_EST_CUR_EST_I d (rneDiv iEst 16).toNat).setF .DOM_EST_CUR_LEAK_I d
    (min 65535 (rneDiv lk 16).toNat)).setF .DOM_EST_PWR_P_EST d (s.codePower d iEst)).setF .DOM_MEAS_I_DOM d (iMeas / 16)
  let s := ((s.setB .DOM_EST_STATUS_MEAS_INVALID d bad).setB .DOM_EST_STATUS_EST_INVALID d estBad).setB .DOM_EST_STATUS_STALE_ST d
    stale
  let s := s.when bad (fun s => s.event .DOM_EST_EVENT_SUBST 0 0x05 d)
  let s := s.when (bad ∧ estBad) (fun s => s.event .DOM_EST_EVENT_BOTH_INVALID 0 0x05 d)
  s.accWindow d

/-- A domain in DARK or FENCED has no estimate (R205). -/
def State.publishNone (s : State) (d : Nat) : State :=
  let e := s.estDom d
  let s := s.setEst d { e with arrived := none, decided := false, iEst := 0, iLk := 0, iMeas := 0, estOut := 0, iDom := 0, pDom := 0,
                               substituted := false, failedCell := false }
  (((s.setF .DOM_EST_CUR_EST_I d 0).setF .DOM_EST_CUR_LEAK_I d 0).setF .DOM_EST_PWR_P_EST d 0).setF .DOM_MEAS_I_DOM d 0

/-! ### The stack (R207, R222, R241, R311) -/

/-- Cells of the stack in ON or LIMITED. -/
def State.stackCellsOn (s : State) : Nat := (s.doms.map s.cellsOn).foldl (· + ·) 0

/-- Σ V_ref × IMON of the live phases of VDDM, VPPM and VIO in 1/64 µW (R222). -/
def State.otherPower (s : State) : Int :=
  ([1, 2, 3].map (fun g =>
    (s.targetUV g : Int) * (((s.cfg.table.groupPhases g).filter (fun p => s.ph p = 1)).map s.phaseCurrent).foldl (· + ·) 0)).foldl
      (· + ·) 0

/-- A pulse starts with the first window in which I_STACK reads above TDC_EFF, and the rest runs from the first window after it
at or below (R241, R243). -/
def State.pulseWatch (s : State) (iStack : Nat) : State :=
  if 16000 * s.getF .GLB_DESIGN_CUR_TDC_EFF 0 < iStack then
    let s : State := { s with bud := { s.bud with
      pulseStart := some (s.bud.pulseStart.getD s.time), restSince := none } }
    s.setF .DOM_BUD_GOV_PULSE 0 1
  else { s with bud := { s.bud with restSince := some (s.bud.restSince.getD s.time) } }

/-- What stands at this instant of the values that R222 takes at the close of a window. -/
def State.winNow (s : State) : WinClose :=
  { win := s.window, vs := s.getF .PHS_GRP_REF_VSENSE 0, oth := s.otherPower, cells := s.stackCellsOn }

/-- The droop samples so far belong to the window that closes. -/
def DomAcc.shut (a : DomAcc) : DomAcc := { a with closed := some a.win, win := DroopWin.empty }

/-- A window closes as the time base reaches a tick: what R222 takes then is kept, and the droop samples of the window (R222,
R310). -/
def State.closeWindow (s : State) : State :=
  { s with
    est := { s.est with close := some s.winNow }
    tlm := { s.tlm with dom := s.tlm.dom.map (fun p => (p.1, p.2.shut)) } }

/-- What R222 takes of the window that has just closed. -/
def State.winClosed (s : State) : WinClose := (s.est.close.filter (fun c => c.win = s.window)).getD s.winNow

/-- Publishes the stack sources of a window, forms its stack power and gathers the stack record. -/
def State.publishStack (s : State) : State :=
  let up := s.doms.filter (fun d => s.domMeasured d)
  let close := s.winClosed
  let bias := 16 * close.cells
  let est := (up.map (fun d => (s.estDom d).estOut)).foldl (· + ·) 0 + bias
  let i := (up.map (fun d => (s.estDom d).iDom)).foldl (· + ·) 0 + bias
  let oth := close.oth
  let p : Int := 2 * (close.vs : Int) * i + oth
  let st := s.tlm.stack
  let s : State := { s with
    est := { s.est with estStack := some est, iStack := some i }
    bud := { s.bud with sumP := s.bud.sumP + p, sumOther := s.bud.sumOther + oth, windows := s.bud.windows + 1 }
    tlm := { s.tlm with stack := { st with windows := st.windows + 1, iSum := st.iSum + i, iPeak := max st.iPeak i } } }
  let s := (s.setF .DOM_EST_STACK_EST_STACK 0 (min 65535 (rneDiv est 1000).toNat)).setF .DOM_EST_STACK_SUBST_DOMS 0
    ((up.filter (fun d => (s.estDom d).substituted)).length)
  s.pulseWatch i

/-! ### Calibration (R215 to R219) -/

/-- The 20-bit weights W_i of a domain. -/
def State.wide (s : State) (d : Nat) : List Int :=
  let e := s.estDom d
  if e.weights = [] then (List.range 32).map (fun c => toS 8 (s.getF (weightFld c) (8 * d + c / 4)) * 4096) else e.weights

/-- The 8-bit weight that shows a 20-bit W_i (R217). -/
def shownWeight (w : Int) : Nat := toU 8 (clampI (-128) 127 (rne w 12))

/-- The update of R217: each active weight moves one step toward the error, from the window `upto` on. -/
def State.lmsUpdate (s : State) (d upto : Nat) : State :=
  let e := s.estDom d
  if e.sumErr.natAbs ≤ 16000 * s.getF .DOM_EST_SUB_DEADBAND 0 then s
  else
    let sg : Int := if 0 < e.sumErr then 1 else -1
    let act := 1000 * s.getF .DOM_EST_ADAPT_ACT_MIN 0
    let ws := (s.wide d).zipIdx.map (fun p =>
      if act ≤ e.sumCounts.getD p.2 0 then clampI (-128 * 4096) (127 * 4096) (p.1 + sg) else p.1)
    let s := s.setEst d { e with weights := ws, undo := some (upto, s.wide d) }
    ws.zipIdx.foldl (fun t p =>
      let f := weightFld p.2
      let i := 8 * d + p.2 / 4
      let w := shownWeight p.1
      if w = t.getF f i then t else (t.keepParam f i upto).setF f i w) s

/-- The class of a valid millisecond (R218): 0 between, 1 disagreeing, 2 agreeing. -/
def State.msClass (s : State) (meanE meanM : Nat) : Nat :=
  let d := 100 * ((meanE : Int) - meanM).natAbs
  let r := max meanM (s.getF .DOM_EST_SUB_DIS_FLOOR 0)
  let dis := max 1 (s.getF .DOM_EST_CFG_DIS_PCT 0)
  if dis * r < d then 1 else if d ≤ min dis (s.getF .DOM_EST_CFG_AGREE_PCT 0) * r then 2 else 0

/-- The state of R219 after a slow tick: 0 ADAPTING, 1 HELD, 2 DISAGREE. -/
def nextAdapt (st disRun agrRun disMs agreeMs : Nat) (hold : Bool) : Nat :=
  if st = 2 then (if agreeMs ≤ agrRun then (if hold then 1 else 0) else 2)
  else if disMs ≤ disRun then 2
  else if hold then 1 else 0

/-- The slow tick of one domain (R214 to R219): the millisecond that begins has the hold causes that stand. -/
def State.calibrate (s : State) (d : Nat) : State :=
  let e := s.estDom d
  let holds := e.holds ++ s.standingHolds d
  let valid := holds.all (fun h => h = 4 ∨ h = 5)
  let hold : Bool := holds ≠ []
  let meanE := (rne e.sumEst 4).toNat / 1000
  let meanM := (rne e.sumMeas 4).toNat / 1000
  let cls := s.msClass meanE meanM
  let e := if ¬ valid then e
    else { e with disRun := if cls = 1 then e.disRun + 1 else 0, agrRun := if cls = 2 then e.agrRun + 1 else 0 }
  let s := s.setEst d e
  let old := s.getF .DOM_EST_STATUS_STATE d
  let new := nextAdapt old e.disRun e.agrRun (max 1 (s.getF .DOM_EST_CFG_DIS_MS 0)) (max 1 (s.getF .DOM_EST_CFG_AGREE_MS 0)) hold
  let s := s.setF .DOM_EST_STATUS_STATE d new
  let s := s.when (new = 2 ∧ old ≠ 2) (fun s =>
    (s.bumpF .DOM_EST_STATUS_DIS_COUNT d).event .DOM_EST_EVENT_DISAGREE 0 0x05 d)
  let s := s.when (new = 0 ∧ ¬ hold) (fun s => s.lmsUpdate d (s.time / 100 + 1))
  let s := ((s.setF .DOM_EST_STATUS_HOLD_CAUSE d (holds.foldl min (holds.headD 0))).setF .DOM_EST_STATUS_RUN d
    (min 255 (if new = 2 then e.agrRun else e.disRun)))
  let s := (s.setF .DOM_EST_MEAN_MEAN_EST d (min 65535 meanE)).setF .DOM_EST_MEAN_MEAN_MEAS d (min 65535 meanM)
  s.setEst d { s.estDom d with sumEst := 0, sumMeas := 0, sumErr := 0, sumCounts := [], holds := s.standingHolds d }

/-! ### Commits (R208, R216, R217, R219) -/

/-- The domains whose estimates use a parameter of R208. -/
def State.estDomains (s : State) (f : Fld) (i : Nat) : List Nat :=
  match f with
  | .DOM_EST_SCALE_SCALE => [i]
  | .DOM_EST_SCALE_LK_TRIM => [i]
  | .DOM_EST_LEAK_L_ODD => s.doms.filter (fun d => s.cfg.table.domClass d = i / 64)
  | .DOM_EST_LEAK_L_EVEN => s.doms.filter (fun d => s.cfg.table.domClass d = i / 64)
  | _ => [i / 8]

/-- A commit that takes effect in the same window as an update wins: the update of that millisecond is discarded (R217). -/
def State.discardUpdate (s : State) (d upto : Nat) : State :=
  match (s.estDom d).undo with
  | some (u, ws) =>
    if u ≠ upto then s
    else
      let s := s.setEst d { s.estDom d with weights := ws, undo := none }
      ws.zipIdx.foldl (fun t p => t.setF (weightFld p.2) (8 * d + p.2 / 4) (shownWeight p.1)) s
  | none => s

/-- What goes before a commit of a parameter of R208 is written: an update of the same window is discarded, and the windows before
keep the old value (R208, R217). -/
def State.commitParam (s : State) (f : Fld) (i upto : Nat) : State :=
  (s.each (s.estDomains f i) (fun d s => s.discardUpdate d upto)).keepParam f i upto

/-- A commit of estimation parameters takes effect for a domain: its runs clear and the millisecond is held. -/
def State.estCommit (s : State) (d : Nat) : State :=
  (s.setEst d { s.estDom d with disRun := 0, agrRun := 0 }).estHold d 7

/-- A committed weight sets W_i = w_i × 4,096. -/
def State.weightCommit (s : State) (d c : Nat) : State :=
  let e := s.estDom d
  if e.weights = [] then s
  else s.setEst d { e with weights := e.weights.set c (toS 8 (s.getF (weightFld c) (8 * d + c / 4)) * 4096) }

/-- The effect of a commit on an estimation field of item `i`, after the field has been written. -/
def State.estCommitFld (s : State) (f : Fld) (i : Nat) : State :=
  match f with
  | .DOM_EST_W_W0 => (s.weightCommit (i / 8) (4 * (i % 8))).estCommit (i / 8)
  | .DOM_EST_W_W1 => (s.weightCommit (i / 8) (4 * (i % 8) + 1)).estCommit (i / 8)
  | .DOM_EST_W_W2 => (s.weightCommit (i / 8) (4 * (i % 8) + 2)).estCommit (i / 8)
  | .DOM_EST_W_W3 => (s.weightCommit (i / 8) (4 * (i % 8) + 3)).estCommit (i / 8)
  | .DOM_EST_SCALE_SCALE => s.estCommit i
  | .DOM_EST_SCALE_LK_TRIM => s.estCommit i
  | .DOM_EST_LEAK_L_ODD => s.each (s.estDomains f i) (fun d s => s.estCommit d)
  | .DOM_EST_LEAK_L_EVEN => s.each (s.estDomains f i) (fun d s => s.estCommit d)
  | .DOM_EST_ADAPT_ADAPT_EN => s.when (¬ s.isSet .DOM_EST_ADAPT_ADAPT_EN 0) (fun s => s.each s.doms (fun d s => s.estHold d 5))
  | _ => s

/-- Whether a field is a parameter of R208, whose old value the open window still uses. -/
def estFld (f : Fld) : Bool :=
  match f with
  | .DOM_EST_W_W0 => true
  | .DOM_EST_W_W1 => true
  | .DOM_EST_W_W2 => true
  | .DOM_EST_W_W3 => true
  | .DOM_EST_SCALE_SCALE => true
  | .DOM_EST_SCALE_LK_TRIM => true
  | .DOM_EST_LEAK_L_ODD => true
  | .DOM_EST_LEAK_L_EVEN => true
  | _ => false

end Sys2Proof.Machine
end

