-- ==== Sys2Proof/Machine/BudOps.lean ====
section
/-! DEFINITION. Shared operations of the Ox: the pulse governor, and contexts as they are applied (chapter Power Budget and
Operating Points, R232 to R243). -/

namespace Sys2Proof.Machine

/-- A pulse ends. -/
def State.endPulse (s : State) : State :=
  ({ s with bud := { s.bud with pulseStart := none } } : State).setF .DOM_BUD_GOV_PULSE 0 0

/-! ### The governor (R242, R243) -/

/-- Whether the pulse has reached PULSE_MS less 40 µs. -/
def State.pulseLate (s : State) : Bool :=
  s.bud.pulseStart.any (fun t => 100000 * clampN 1 10 (s.getF .DOM_BUD_PULSE_PULSE_MS 0) ≤ s.time - t + 4000)

/-- Whether I_STACK has rested for REST_MS. -/
def State.rested (s : State) : Bool :=
  s.bud.restSince.any (fun t => 100000 * max 1 (s.getF .DOM_BUD_PULSE_REST_MS 0) ≤ s.time - t)

/-- GOVERNED at a medium tick: it clears after the rest, which also ends the pulse, and is set by a late pulse. -/
def State.governedMove (s : State) : State :=
  if s.isSet .DOM_BUD_GOV_GOVERNED 0 then
    if s.rested then (s.setF .DOM_BUD_GOV_GOVERNED 0 0).endPulse else s
  else if s.pulseLate then
    ((s.setF .DOM_BUD_GOV_GOVERNED 0 1).bumpF .DOM_BUD_COUNT_GOV_COUNT 0).event .DOM_BUD_EVENT_GOVERNED_EV 0 0x06 0
  else s

/-- F_TIME. -/
def State.fTime (s : State) : Nat :=
  if s.isSet .DOM_BUD_GOV_GOVERNED 0 then min 32768 (s.getF .GLB_DESIGN_CUR_TDC_EFF 0 * 32768 / 1700) else 32768

/-- F_PEAK: V_code of VSTK code c is (800 + c) / 1,600 V. -/
def State.fPeakNow (s : State) : Nat :=
  let room : Int := (10240 * min 200 (s.getF .DOM_BUD_PULSE_PEAK_LIM 0) : Nat) - s.bud.pOther
  min 32768 ((51200 * room) / ((1700 * (800 + s.getF .GLB_VSTK_STATUS_VSTK_CODE 0) : Nat) : Int)).toNat

/-- Writes F_G; a change re-forms the kind-3 tree of every domain. -/
def State.setFG (s : State) (f : Nat) : State :=
  if s.getF .DOM_BUD_GOV_F_G 0 = f then s else (s.setF .DOM_BUD_GOV_F_G 0 f).each s.doms (fun d s => s.settle 3 d)

/-- The governor at a medium tick. -/
def State.govern (s : State) : State :=
  let s := s.governedMove
  let was := s.bud.fPeak
  let f := s.fPeakNow
  let s : State := { s with bud := { s.bud with fPeak := f } }
  let s := s.when (f < 32768 ∧ was = 32768) (fun s => s.event .DOM_BUD_EVENT_PEAK_EV 0 0x06 0)
  let s := s.when (f < 32768 ∨ s.isSet .DOM_BUD_GOV_GOVERNED 0) State.ilSet
  s.setFG (min s.fTime f)

/-! ### Contexts (R232, R233, R236, R237) -/

/-- Whether the ORD fields of a context are a permutation of the three classes. -/
def State.ordOk (s : State) (c : Nat) : Bool :=
  let o := [s.getF .DOM_BUD_CTX_OP_ORD0 c, s.getF .DOM_BUD_CTX_OP_ORD1 c, s.getF .DOM_BUD_CTX_OP_ORD2 c]
  o.contains 0 ∧ o.contains 1 ∧ o.contains 2

/-- The class at position `j` of a context as it is applied. -/
def State.ordAt (s : State) (c j : Nat) : Nat :=
  let c := if s.ordOk c then c else 0
  s.getF ([Fld.DOM_BUD_CTX_OP_ORD0, .DOM_BUD_CTX_OP_ORD1, .DOM_BUD_CTX_OP_ORD2].getD j .DOM_BUD_CTX_OP_ORD2) c

/-- ACT_UP and ACT_DN of a context as they are used. -/
def State.slopesOf (s : State) (c : Nat) : Nat × Nat :=
  (clampN 1 100 (s.getF .DOM_BUD_CTX_SLOPE_ACT_UP c), clampN 5 100 (s.getF .DOM_BUD_CTX_SLOPE_ACT_DN c))

/-- The 16 bytes of SLOPE_SET (R237). -/
def slopeBytes (up dn ctx time : Nat) : List Nat := [0x30, up, dn, ctx % 8, 0, 0, 0, 0] ++ leBytes 8 time

/-- Sends SLOPE_SET to every tile with the slopes of a context, which then are in effect (R237). -/
def State.sendSlopes (s : State) (c : Nat) : State :=
  let p := s.slopesOf c
  let s := s.each (List.range s.cfg.table.tiles) (fun t s => s.emit (.slopeSet t (slopeBytes p.1 p.2 c s.time)))
  { s with bud := { s.bud with actUp := p.1, actDn := p.2 } }

/-- HERD_STEP delivers another value after a change of the ceiling: CEIL shows it (R234). -/
def State.showCeil (s : State) : State := s.setF .DOM_BUD_CTRL_CEIL 0 s.stackCeil

/-- A tile at or above FIXED_STEP, or any tile in capped mode, ends its interval of R239. -/
def State.pruneFixed (s : State) : State :=
  { s with bud := { s.bud with fixedLost := s.bud.fixedLost.filter (fun t =>
      s.isSet .DOM_BUD_CTRL_MODE 0 ∧ s.getF .DOM_STATUS_STEP t < s.getF .DOM_BUD_CTRL_FIXED_STEP 0) } }

/-- The fields of a context other than its slopes take effect, with the order of context 0 for one that is no permutation (R232,
R233). -/
def State.takeContext (s : State) (c : Nat) : State :=
  { s with bud := { s.bud with
      ordApplied := [s.ordAt c 0, s.ordAt c 1, s.ordAt c 2], linkApplied := s.getF .DOM_BUD_CTX_OP_LINK_SHARE c,
      prefStep := s.getF .DOM_BUD_CTX_OP_PREF_STEP c, boostEn := s.isSet .DOM_BUD_CTX_OP_BOOST_EN c } }

/-- A context is applied: its present fields take effect (R232, R233, R237). -/
def State.applyContext (s : State) (c : Nat) : State :=
  let s := s.takeContext c
  let s : State := { s with bud := { s.bud with ctxApplied := some c } }
  let s := s.when (¬ s.ordOk c) (fun s => s.event .DOM_BUD_EVENT_ORD_BAD 0 0x06 0)
  let s := s.when (s.slopesOf c ≠ (s.bud.actUp, s.bud.actDn)) (fun s => s.sendSlopes c)
  s.showCeil

end Sys2Proof.Machine
end

