-- ==== Sys2Proof/Machine/RegOps.lean ====
section
/-! DEFINITION. The register window by offset (R11 to R17, R457, R458): which register and item an offset names, which of its
bits a mask or a value touches, and what fields of a selected unit a selector puts behind one offset. -/

namespace Sys2Proof.Machine

/-- The item a CE_ELEM_SEL word names: 256 × slot + element, the key of an element. -/
def ceItem (w : Nat) : Nat := 256 * bitsOf w 24 16 + bitsOf w 7 0

/-- The item behind a register with the selectors given: the CE_ELEM_SEL, THM_DOM_SEL and ADC_CAL_SEL words choose for the
registers that follow them. -/
def selectedItem (ce thm adc : Nat) (r : RegRow) (i : Nat) : Nat :=
  if r.base = 0x60104 then ceItem ce
  else if r.base = 0x05E14 ∨ r.base = 0x05E18 then thm % 512
  else if r.base = 0x04018 then adc % 256
  else i

/-- Whether the unit of a register exists: its index lies below its count in the configuration table (R458). -/
def unitExists (t : CfgTable) (r : RegRow) (i : Nat) : Bool :=
  let b := r.base
  if b = 0x05100 then i < t.towers
  else if b = 0x05400 ∨ b = 0x05E14 ∨ b = 0x05E18 then i < t.domains
  else if b = 0x05A00 then i < t.towers * t.dies
  else if 0x09000 ≤ b ∧ b ≤ 0x09008 then i < t.phTotal
  else if 0x10000 ≤ b ∧ b ≤ 0x10008 then i < t.cells
  else if b = 0x16000 then i < t.dsens
  else if 0x18000 ≤ b ∧ b ≤ 0x18010 then i < t.domains
  else if 0x1D000 ≤ b ∧ b ≤ 0x1D008 then i < t.tiles
  else if b = 0x71000 then i / 8 < t.domains
  else if 0x71020 ≤ b ∧ b ≤ 0x71034 then i < t.domains
  else if b = 0x05E04 then i < t.tsens
  else if b = 0x04018 ∨ b = 0x04700 ∨ b = 0x04704 then i < t.phTotal ∨ (96 ≤ i ∧ i < 96 + t.phTotal) ∨ (192 ≤ i ∧ i < 236)
  else true

/-- The bits of a word that fall on a field, at the field's own bit 0. -/
def Fld.part (f : Fld) (w : Nat) : Nat := w / 2 ^ f.info.lo % 2 ^ f.width

/-- The bits of a register that its fields of one access type hold. -/
def RegRow.bits (r : RegRow) (a : Acc) : Nat :=
  ((r.flds.filter (fun f => f.info.acc = a)).map (fun f => f.ones * 2 ^ f.info.lo)).foldl Nat.lor 0

end Sys2Proof.Machine
end

