-- ==== Sys2Proof/Machine/SliceOps.lean ====
section
/-! DEFINITION. Slicing, validating and applying the epochs of a run (R141, R160, R162, R174, R175, R298, R356, R357). -/

namespace Sys2Proof.Machine

/-! ### Pieces of an entry -/

/-- The pieces of the entries of a set: one for each RWE field an entry's mask touches. A field that two entries stage has one
staged value, so the later entry takes over the earlier one's piece (R354). -/
def addPiece (l : List Piece) (p : Piece) : List Piece :=
  match l.find? (fun q => q.fld = p.fld ∧ q.item = p.item) with
  | none => l ++ [p]
  | some q =>
    l.filter (fun r => ¬ (r.fld = p.fld ∧ r.item = p.item)) ++
      [{ p with mask := Nat.lor q.mask p.mask, val := withMask q.val p.mask p.val }]

/-- The pieces of one entry. -/
def entryPieces (k : Nat) (e : Entry) : List Piece :=
  match regAt e.off with
  | none => []
  | some (r, _) =>
    ((r.flds.filter (fun f => f.info.acc = .rwe)).filter (fun f => f.part e.mask ≠ 0)).map (fun f =>
      { entry := k, fld := f, item := e.item, mask := f.part e.mask, val := f.part e.val })

/-- The pieces of a committed set. -/
def piecesOf (l : List Entry) : List Piece :=
  (l.zipIdx.flatMap (fun p => entryPieces p.2 p.1)).foldl addPiece []

/-! ### Classes and directions (R356) -/

/-- Whether the reference set has its extension slots 17 to 19 (R164). -/
def State.extended (s : State) : Bool := 256 < s.cfg.table.domains

/-- The slot of the reference set whose rules a slot follows (R164). -/
def State.refSlot (s : State) (n : Nat) : Option Nat :=
  if n ≤ 16 then some n
  else if s.extended then (match n with
    | 17 => some 6
    | 18 => some 12
    | 19 => some 15
    | _ => none)
  else none

/-- The slot whose reference a piece writes. -/
def Piece.refOf (p : Piece) : Option Nat :=
  match p.fld with
  | .CE_SD_REF_REF => some p.item
  | .CE_ELEM_REF_REF => some (p.item / 256)
  | _ => none

/-- The ceiling of the stack once a list of pieces has been applied (R234). -/
def State.ceilAfter (s : State) (l : List Piece) : Nat :=
  let t := s.rawPieces (l.filter (fun p =>
    p.fld = .DOM_BUD_CTRL_MODE ∨ p.fld = .DOM_BUD_CTRL_CTX_ACTIVE ∨ p.fld = .DOM_BUD_CTRL_FIXED_STEP))
  let c := t.getF .DOM_BUD_CTRL_CTX_ACTIVE 0
  let b := if l.any (fun p => p.fld = .DOM_BUD_CTRL_CTX_ACTIVE) then
    { t.bud with prefStep := t.getF .DOM_BUD_CTX_OP_PREF_STEP c, boostEn := t.isSet .DOM_BUD_CTX_OP_BOOST_EN c } else t.bud
  State.stackCeil { t with bud := b }

/-- Class of a piece: 0 VOLT, 1 FREQ, 2 NEUTRAL. -/
def State.pieceClass (s : State) (p : Piece) : Nat :=
  match p.fld with
  | .DOM_SETPT_VSET => 0
  | .THM_LADDER_FREQ => 1
  | .THM_LADDER_ISSUE => 1
  | .DOM_CLS_LADDER_ILIM_ODD => 1
  | .DOM_CLS_LADDER_ILIM_EVEN => 1
  | .DOM_BUD_CTRL_MODE => 1
  | .DOM_BUD_CTRL_CTX_ACTIVE => 1
  | .DOM_BUD_CTRL_FIXED_STEP => 1
  | .DOM_START_SLOPE_BOOST_SLOPE => 1
  | .DOM_START_SLOPE_BASE_SLOPE => 1
  | _ => match p.refOf.bind s.refSlot with
    | some n =>
      if n = 0 ∨ (7 ≤ n ∧ n ≤ 11) then 0
      else if n = 5 ∨ n = 6 ∨ (12 ≤ n ∧ n ≤ 16) then 1 else 2
    | none => 2

/-- Whether a piece is up: it raises a voltage, or lets a load run faster or draw more current. A lower droop reference raises
the cell codes, and a lower bias of the Herd follower raises the step. `l` holds the run's pieces. -/
def State.pieceUp (s : State) (l : List Piece) (p : Piece) : Bool :=
  let o := s.getF p.fld p.item
  let n := s.pieceVal p
  match p.refOf with
  | some k =>
    let so := toS 16 o
    let sn := toS 16 n
    let m := (s.refSlot k).getD k
    if (7 ≤ m ∧ m ≤ 11) ∨ m = 16 then sn < so else so < sn
  | none =>
    if p.fld = .DOM_BUD_CTRL_MODE ∨ p.fld = .DOM_BUD_CTRL_CTX_ACTIVE ∨ p.fld = .DOM_BUD_CTRL_FIXED_STEP then
      s.stackCeil < s.ceilAfter l
    else o < n

/-- The phase of the slicing that takes a piece, from 0 (R356). -/
def State.piecePhase (s : State) (l : List Piece) (p : Piece) : Nat :=
  match s.pieceClass p, s.pieceUp l p with
  | 0, true => 0
  | 1, false => 0
  | 0, false => 2
  | 1, true => 3
  | _, _ => 1

/-- The domain a piece belongs to: that of a domain-indexed register, or of an element reference whose element targets domains;
none is a global piece. -/
def State.pieceDom (s : State) (p : Piece) : Option Nat :=
  match p.fld with
  | .DOM_CTRL_POWER => some p.item
  | .DOM_SETPT_VSET => some p.item
  | .DOM_EST_SCALE_SCALE => some p.item
  | .DOM_EST_SCALE_LK_TRIM => some p.item
  | .DOM_EST_W_W0 => some (p.item / 8)
  | .DOM_EST_W_W1 => some (p.item / 8)
  | .DOM_EST_W_W2 => some (p.item / 8)
  | .DOM_EST_W_W3 => some (p.item / 8)
  | .THM_DOM_THETA_THETA_REF => some p.item
  | .DOM_TILE_PROF_NOM_SCALE => some p.item
  | .DOM_TILE_PROF_NOM_DELAY => some p.item
  | .DOM_TILE_PROF_NOM_RISE => some p.item
  | .DOM_TILE_PROF_SPR_SCALE => some p.item
  | .DOM_TILE_PROF_SPR_DELAY => some p.item
  | .DOM_TILE_PROF_SPR_RISE => some p.item
  | .CE_ELEM_REF_REF =>
    let k := s.slotKind (p.item / 256)
    if k = 2 ∨ k = 3 ∨ k = 4 then (s.targets (p.item / 256) (p.item % 256)).head? else none
  | _ => none

/-- The domains that pieces belong to, ascending. -/
def State.pieceDoms (s : State) (l : List Piece) : List Nat :=
  let ds := l.filterMap s.pieceDom
  (List.range 512).filter (fun d => ds.contains d)

/-- A list cut into runs of 64 (`fuel` runs at most). -/
def cut64 (l : List Nat) (fuel : Nat) : List (List Nat) :=
  match fuel with
  | 0 => []
  | fuel + 1 => if l = [] then [] else l.take 64 :: cut64 (l.drop 64) fuel

/-- The pieces of one phase cut into epochs: at most 64 domains each, global pieces in the first. -/
def State.phaseEpochs (s : State) (l : List Piece) : List (List Piece) :=
  match cut64 (s.pieceDoms l) 8 with
  | [] => if l = [] then [] else [l]
  | g :: gs =>
    let takes (ds : List Nat) (glob : Bool) : List Piece :=
      l.filter (fun p => match s.pieceDom p with
        | some d => ds.contains d
        | none => glob)
    takes g true :: gs.map (fun ds => takes ds false)

/-- The epochs of a run (R356). -/
def State.slice (s : State) (l : List Piece) : List (List Piece) :=
  [0, 1, 2, 3].flatMap (fun ph => s.phaseEpochs (l.filter (fun p => s.piecePhase l p = ph)))

/-- Whether a piece belongs to an element reference of a domain. -/
def State.domRef (s : State) (p : Piece) : Bool := p.fld = .CE_ELEM_REF_REF ∧ (s.pieceDom p).isSome

/-- The slices of a run of CP1 (R228): lowered references first, raised ones after them; the global pieces in the first slice
where the ceiling does not rise, and those of the ceiling in the last where it does. The context named again goes in the first
slice (R237). -/
def State.sliceCp1 (s : State) (l : List Piece) : List (List Piece) :=
  let refs := l.filter s.domRef
  let ceil (p : Piece) : Bool :=
    p.fld = .DOM_BUD_CTRL_MODE ∨ (p.fld = .DOM_BUD_CTRL_CTX_ACTIVE ∧ s.pieceVal p ≠ s.getF p.fld p.item) ∨
      p.fld = .DOM_BUD_CTRL_FIXED_STEP
  let rises : Bool := s.stackCeil < s.ceilAfter l
  let first := l.filter (fun p => ¬ s.domRef p ∧ ¬ (rises ∧ ceil p))
  let last := l.filter (fun p => ¬ s.domRef p ∧ rises ∧ ceil p)
  let es := s.phaseEpochs (refs.filter (fun p => ¬ s.pieceUp l p)) ++ s.phaseEpochs (refs.filter (fun p => s.pieceUp l p))
  match es with
  | [] => if first ++ last = [] then [] else [first ++ last]
  | e :: r =>
    let es := (first ++ e) :: r
    es.dropLast ++ [es.getLastD [] ++ last]

/-! ### Validation (R357) -/

/-- The structural fields of R158. -/
def strFld (f : Fld) : Bool :=
  match f with
  | .CE_SD_CTRL_CLASS => true
  | .CE_SD_CTRL_REF_PER => true
  | .CE_SD_CTRL_ELEMS_M1 => true
  | .CE_SD_CTRL_ACT_KIND => true
  | .CE_SD_CTRL_ACT_BASE => true
  | .CE_SD_MAP_GROUP_M1 => true
  | .CE_SD_MAP_FAN_M1 => true
  | .CE_SD_IN_IN_KIND => true
  | .CE_SD_IN_IN_RED => true
  | .CE_SD_IN_IN_PER_M1 => true
  | .CE_SD_IN_IN_BASE => true
  | .CE_SD_AUX_AUX1_KIND => true
  | .CE_SD_AUX_AUX1_MODE => true
  | .CE_SD_AUX_AUX2_KIND => true
  | .CE_SD_AUX_AUX2_MODE => true
  | _ => false

/-- Whether a field is one of a loop slot, other than its reference. -/
def slotFld (f : Fld) : Bool :=
  f ≠ .CE_SD_REF_REF ∧ (regRows.find? (fun r => r.flds.contains f)).any (fun r => 0x61000 ≤ r.base ∧ r.base ≤ 0x61024)

/-- Whether a descriptor carries a defined code in every field for its actuator kind, and a fast element costs at most 24
operations (R141, checks 1 and 4). -/
def State.slotOk (s : State) (n : Nat) : Bool :=
  let k := s.slotKind n
  let per := s.getF .CE_SD_IN_IN_PER_M1 n
  let red := s.getF .CE_SD_IN_IN_RED n
  let ik := s.getF .CE_SD_IN_IN_KIND n
  s.slotClass n = 0 ∨
    ((s.slotClass n = 1 → s.elemOps n ≤ 24) ∧ k ≤ 5 ∧ 1 ≤ ik ∧ ik ≤ 17 ∧ ((red = 0 ∨ red = 3) → per = 0) ∧
      s.getF .CE_SD_AUX_AUX1_KIND n ≤ 17 ∧ s.getF .CE_SD_AUX_AUX2_KIND n ≤ 17 ∧
      s.getF .CE_SD_AUX_AUX1_MODE n < 3 ∧ s.getF .CE_SD_AUX_AUX2_MODE n < 3 ∧
      (s.isSet .CE_SD_CTRL_COMP_OFF n → (k = 0 ∨ k = 2)) ∧ (s.isSet .CE_SD_CTRL_COMP_RIP n → k ≤ 2))

/-- Whether the counts of R135 hold. -/
def State.countsOk (s : State) : Bool :=
  (s.usedSlots.map s.slotElems).foldl (· + ·) 0 ≤ 4096 ∧ (s.usedSlots.filter (fun n => s.slotClass n = 1)).length ≤ 32

/-- Whether the load fits the lanes in service but one (R141, checks 2 and 3). -/
def State.loadFits (s : State) : Bool :=
  let n := s.getF .CE_LANES_IN_SERVICE 0 - 1
  s.loadKops * 375 ≤ min 90 (s.getF .CE_CTRL_LOAD_LIMIT 0) * n * 1000000 ∧
    s.fastOps * 375 ≤ min 50 (s.getF .CE_CTRL_FAST_LIMIT 0) * n * 1000

/-- The entry of the first piece of an epoch that makes a test fail, the pieces taken one after another. -/
def firstFail (bad : State → Piece → State → Bool) (s : State) (l : List Piece) : Option Nat :=
  match l with
  | [] => none
  | p :: r =>
    let t := s.rawPieces [p]
    if bad s p t then some p.entry else firstFail bad t r

/-- Check 1 of an epoch that changes the loop set: none, or the failing entry (assumption 65 where no entry of the epoch is at
fault). -/
def State.checkOne (s : State) (l : List Piece) : Option Nat :=
  let l := l.filter (fun p => slotFld p.fld)
  let t := s.rawPieces l
  if l ≠ [] ∧ t.usedSlots.any (fun n => ¬ t.slotOk n) then
    some ((firstFail (fun _ p u => ¬ t.slotOk p.item ∧ ¬ u.slotOk p.item) s l).getD
      (((l.find? (fun p => ¬ t.slotOk p.item)).or l.head?).elim 0 (fun p => p.entry)))
  else if l ≠ [] ∧ ¬ t.countsOk then
    some ((firstFail (fun _ _ t => ¬ t.countsOk) s l).getD 0)
  else if (s.loadKops < t.loadKops ∨ s.fastOps < t.fastOps) ∧ ¬ t.loadFits then
    some ((firstFail (fun s _ t => s.loadKops < t.loadKops ∨ s.fastOps < t.fastOps) s l).getD 0)
  else none

/-- Check 2: a structural change of the reference set, or CLASS = 0 written to it (R174). -/
def State.checkTwo (s : State) (l : List Piece) : Option Nat :=
  (l.find? (fun p => strFld p.fld ∧ (s.refSlot p.item).isSome ∧
    (s.pieceVal p ≠ s.getF p.fld p.item ∨ (p.fld = .CE_SD_CTRL_CLASS ∧ s.pieceVal p = 0)))).map (fun p => p.entry)

/-- The range of a reference of the reference set; that of a domain limit ends at the class peak (R50, R175). -/
def State.refRange (s : State) (m n k : Nat) : Option (Int × Int) :=
  match m with
  | 0 => some (0x0C80, 0x2800)
  | 5 => some (0x0140, 0x0C80)
  | 6 => some (0, toQ15 (classPeak (s.cfg.table.domClass (if n = 17 then 256 + k else k)) : Nat) 1024)
  | 12 => some (0x2300, 0x3200)
  | 13 => some (0x2300, 0x2E80)
  | 14 => some (0, 0x1000)
  | 15 => some (0x0320, 0x2260)
  | 16 => some (0, 0x2000)
  | _ => if 7 ≤ m ∧ m ≤ 11 then some (0, 0x0500) else none

/-- Check 3: a reference in use set outside its range (R175). -/
def State.checkThree (s : State) (l : List Piece) : Option Nat :=
  (l.find? (fun p => match p.refOf with
    | none => false
    | some n =>
      (decide (p.fld = .CE_ELEM_REF_REF) = s.isSet .CE_SD_CTRL_REF_PER n) &&
        ((s.refSlot n).bind (fun m => s.refRange m n (p.item % 256))).any (fun r =>
          toS 16 (s.pieceVal p) < r.1 ∨ r.2 < toS 16 (s.pieceVal p)))).map (fun p => p.entry)

/-- Duration of a sequence entry in 2.5 ns (R298). -/
def State.entryTime (s : State) (c i : Nat) : Nat :=
  if s.isSet .ADC_SEQ_TRIG i then
    40 * max 1 (s.getF .ADC_CTRL_WAIT_TMO 0) + 400 +
      (match s.getF .ADC_SEQ_DLY_MODE i with
        | 0 => 0
        | 1 => 200
        | 2 => 400
        | _ => s.getF .ADC_CV_CTRL_PWM_DLY c)
  else 400

/-- SEQ_PERIOD in µs; values below 10 count as 10. -/
def State.seqPeriod (s : State) : Nat := max 10 (s.getF .ADC_CTRL_SEQ_PERIOD 0)

/-- Urgent conversions of a converter's timer in one round. -/
def State.nUt (s : State) (c : Nat) : Nat :=
  if s.isSet .ADC_CV_UT_UT_EN c then ceilDiv s.seqPeriod (max 10 (s.getF .ADC_CV_UT_UT_PERIOD c)) else 0

/-- The entries of a converter's sequence. -/
def State.seqEntries (s : State) (c : Nat) : List Nat := List.range (s.getF .ADC_CV_CTRL_SEQ_LEN_M1 c + 1)

/-- The worst round of a converter in 2.5 ns (R298). -/
def State.worstRound (s : State) (c : Nat) : Nat :=
  let sum (r : Nat) : Nat := (((s.seqEntries c).filter (fun e => s.entryActive c e r false)).map (fun e =>
    s.entryTime c (16 * c + e))).foldl (· + ·) 0
  40 * s.getF .ADC_CV_CTRL_START_DLY c + ((List.range 128).map sum).foldl max 0 +
    (s.nUt c + s.nUt (cvPartner c) + 2) * 400

/-- Whether a converter passes R298. -/
def State.cvOk (s : State) (c : Nat) : Bool :=
  s.worstRound c ≤ 400 * s.seqPeriod ∧
    (s.seqEntries c).all (fun e =>
      let ch := s.seqCh c e
      chDefined s.cfg.table ch ∧ chHome ch / 2 = c / 2 ∧ (s.isSet .ADC_SEQ_TRIG (16 * c + e) → ch ≤ 191)) ∧
    (s.isSet .ADC_CV_UT_UT_EN c → chDefined s.cfg.table (s.getF .ADC_CV_UT_UT_CH c))

/-- Whether a field belongs to the converter sequences. -/
def seqFld (f : Fld) : Bool :=
  (regRows.find? (fun r => r.flds.contains f)).any (fun r => r.base = 0x04100 ∨ r.base = 0x04300)

/-- The converter a sequence field belongs to. -/
def seqCv (p : Piece) : Nat :=
  match p.fld with
  | .ADC_CV_CTRL_SEQ_LEN_M1 => p.item
  | .ADC_CV_CTRL_START_DLY => p.item
  | .ADC_CV_CTRL_PWM_DLY => p.item
  | _ => p.item / 16

/-- Check 4: the rounds of every converter, outside low-power mode (R298; assumption 65 where no entry of the epoch is at
fault). -/
def State.checkFour (s : State) (l : List Piece) : Option Nat :=
  if s.isSet .ADC_STATUS_LP_ACTIVE 0 then none
  else
    let t := s.rawPieces l
    let bad (u : State) : Bool := (List.range 16).any (fun c => ¬ u.cvOk c)
    if bad t then
      some (((firstFail (fun u p v => seqFld p.fld ∧ ¬ t.cvOk (seqCv p) ∧ ¬ v.cvOk (seqCv p) ∧ u.cvOk (seqCv p)) s l).getD
        (((l.find? (fun p => seqFld p.fld ∧ ¬ t.cvOk (seqCv p))).or l.head?).elim 0 (fun p => p.entry))))
    else none

/-- The first failing check of the state after an epoch: its code and entry. -/
def State.checkEpoch (s : State) (l : List Piece) : Option (Nat × Nat) :=
  match s.checkOne l, s.checkTwo l, s.checkThree l, s.checkFour l with
  | some e, _, _, _ => some (1, e)
  | _, some e, _, _ => some (2, e)
  | _, _, some e, _ => some (3, e)
  | _, _, _, some e => some (4, e)
  | _, _, _, _ => none

/-- Validation of epochs in order. -/
def State.checkEpochs (s : State) (es : List (List Piece)) : Option (Nat × Nat) :=
  match es with
  | [] => none
  | e :: r =>
    match s.checkEpoch e with
    | some x => some x
    | none => (s.rawPieces e).checkEpochs r

/-- The verdict on a run: none, or CHECK with the failing entry index (R357). -/
def State.validate (s : State) (r : Run) : Option (Nat × Nat) :=
  if r.expectN ≠ 0 ∧ r.expectN ≠ r.entries.length then some (6, 0xFFFFFFFF)
  else if (if r.retune then 64 else 16) < r.epochs.length then some (5, 0xFFFFFFFF)
  else s.withDeferred.checkEpochs r.epochs

/-! ### Applying an epoch (R160, R162, R358) -/

/-- A piece that the Balinette ignores as it takes effect: POWER 0 to a fabric domain with other domains up (R121). -/
def State.pieceIgnored (s : State) (p : Piece) : Bool :=
  p.fld = .DOM_CTRL_POWER ∧ s.pieceVal p = 0 ∧ s.isSet .DOM_CTRL_POWER p.item ∧ s.cfg.table.domClass p.item = 4 ∧
    ¬ s.nonFabricDown

/-- Whether a slot uses a compensation table. -/
def State.usesCtab (s : State) (n u : Nat) : Bool :=
  (s.isSet .CE_SD_CTRL_COMP_OFF n ∧ s.getF .CE_SD_REF_CTAB_OFF n = u) ∨
    (s.isSet .CE_SD_CTRL_COMP_RIP n ∧ s.getF .CE_SD_REF_CTAB_RIP n = u)

/-- The slots whose coefficients a piece changes: those that use the table entry, or the slot of the field. -/
def State.coefSlots (s : State) (p : Piece) : List Nat :=
  match p.fld with
  | .CE_GTAB_G_ODD => s.usedSlots.filter (fun n => s.getF .CE_SD_LAW_GTAB n = p.item / 32)
  | .CE_GTAB_G_EVEN => s.usedSlots.filter (fun n => s.getF .CE_SD_LAW_GTAB n = p.item / 32)
  | .CE_CTAB_C_ODD => s.usedSlots.filter (fun n => s.usesCtab n (p.item / 32))
  | .CE_CTAB_C_EVEN => s.usedSlots.filter (fun n => s.usesCtab n (p.item / 32))
  | f => if slotFld f ∧ ¬ strFld f then [p.item] else []

/-- A closed slot whose coefficients change opens and closes within the epoch: its elements resume at their next evaluation. -/
def State.reopenSlot (s : State) (n : Nat) : State :=
  if s.isSet .CE_SD_CTRL_OPEN n then s
  else s.each (List.range (s.slotElems n)) (fun k s =>
    if (s.elem n k).started then s.setElem n k { s.elem n k with reopen := true } else s)

/-- The actuators that the elements of a slot target, with its kind. -/
def State.slotTargets (s : State) (n : Nat) : List (Nat × Nat) :=
  if s.slotClass n = 0 then []
  else ((List.range (s.slotElems n)).flatMap (fun k => s.targets n k)).dedup.map (fun i => (s.slotKind n, i))

/-- The elements of a slot stop. -/
def State.clearSlot (s : State) (n : Nat) : State :=
  { s with eng := { s.eng with elems := s.eng.elems.filter (fun p => p.1 / 256 ≠ n) } }

/-- What FREQ and ISSUE a domain's load has at its applied step. -/
def State.loadRate (s : State) (d : Nat) : Nat × Nat :=
  let k := s.cfg.table.domClass d
  (s.freqOf k (s.getF .DOM_STATUS_STEP d), s.issueOf k (s.getF .DOM_STATUS_STEP d))

/-- STEP_SET to the domains whose frequency or issue rate at the applied step differs from that of an earlier state (R257). -/
def State.resendSteps (s t : State) : State :=
  s.each (s.doms.filter (fun d => s.domUp d ∧ s.loadRate d ≠ t.loadRate d)) (fun d s =>
    (s.emit (.stepSet d (s.getF .DOM_STATUS_STEP d) (s.loadRate d).1 (s.loadRate d).2 s.time)).ladderMoved d)

/-- What a field written at an epoch sets in motion beyond its value. -/
def State.fieldActs (s : State) (p : Piece) : State :=
  match p.fld with
  | .DOM_CTRL_POWER => s.powerActs p.item
  | .DOM_SETPT_VSET => s.rearb 2 p.item
  | .DOM_CLS_LADDER_ILIM_ODD => s.each (s.doms.filter (fun d => s.cfg.table.domClass d = p.item / 8)) (fun d s => (s.cellsChanged d).settle 3 d)
  | .DOM_CLS_LADDER_ILIM_EVEN => s.each (s.doms.filter (fun d => s.cfg.table.domClass d = p.item / 8)) (fun d s => (s.cellsChanged d).settle 3 d)
  | .DOM_BUD_CTRL_CTX_ACTIVE => (s.applyContext (s.getF .DOM_BUD_CTRL_CTX_ACTIVE 0)).pruneFixed
  | .DOM_BUD_CTRL_MODE => s.showCeil.pruneFixed
  | .DOM_BUD_CTRL_FIXED_STEP => s.showCeil.pruneFixed
  | .DOM_START_SLOPE_BASE_SLOPE => s.rearb 5 0
  | .DOM_START_SLOPE_BOOST_SLOPE => s.rearb 5 0
  | .DOM_START_PRE_PREBIAS => s.each (s.doms.filter (fun d => s.prebias d ≠ 0)) (fun d s => s.rearb 2 d)
  | .HRD_CFG_EXCL_PCT => s.exclCheck
  | f => s.estCommitFld f p.item

/-- The slot that a piece belongs to. -/
def Piece.slotOf (p : Piece) : Option Nat := if slotFld p.fld then some p.item else p.refOf

/-- Whether a piece belongs to a slow slot, or to an empty one that becomes slow: it takes effect at the next slow tick (R162). -/
def State.waitsSlow (s : State) (l : List Piece) (p : Piece) : Bool :=
  s.eng.running ∧ p.slotOf.any (fun n =>
    s.slotClass n = 3 ∨ (s.slotClass n = 0 ∧ (s.rawPieces (s.eng.defer ++ l)).slotClass n = 3))

/-- The slow slots that use a table entry keep its old value up to their next slow tick (R162). -/
def State.holdTab (s : State) (p : Piece) : State :=
  let slots := (s.coefSlots p).filter (fun n => ¬ slotFld p.fld ∧ s.slotClass n = 3 ∧ s.eng.running ∧
    ¬ s.eng.held.any (fun h => h.slot = n ∧ h.fld = p.fld ∧ h.item = p.item))
  { s with eng := { s.eng with
      held := s.eng.held ++ slots.map (fun n => { slot := n, fld := p.fld, item := p.item, val := s.getF p.fld p.item }) } }

/-- Pieces take effect in one cycle. Parameters of R208 keep their old values for the open window; slots whose coefficients
change reopen, slots whose structure changes start again at the values in effect (R156, R160); then each field acts. The
context is applied where its number changes, and by CP1 where it is named again (R237). -/
def State.takePieces (s : State) (l : List Piece) (cp1 : Bool) : State :=
  let bad := l.filter s.pieceIgnored
  let l := l.filter (fun p => ¬ s.pieceIgnored p)
  let moved := l.filter (fun p => s.pieceVal p ≠ s.getF p.fld p.item)
  let s := bad.foldl (fun t p => t.raise 0x02 10 p.item) s
  let s := (moved.filter (fun p => estFld p.fld)).foldl (fun t p => t.commitParam p.fld p.item (ceilDiv t.time 100)) s
  let strs := ((moved.filter (fun p => strFld p.fld)).map (fun p => p.item)).dedup
  let coefs := (moved.flatMap s.coefSlots).dedup
  let old := strs.flatMap s.slotTargets
  let before := s
  let s := s.each (coefs.filter (fun n => ¬ strs.contains n)) (fun n s => s.reopenSlot n)
  let s := moved.foldl (fun t p => t.holdTab p) s
  let s := s.rawPieces l
  let s := s.each strs (fun n s => s.clearSlot n)
  let new := (strs.flatMap s.slotTargets).filter (fun x => s.targetUp x.1 x.2)
  let s := new.foldl (fun t x => t.startElems x.1 x.2 (before.applied x.1 x.2)) s
  let s := (new ++ old).foldl (fun t x => t.rearb x.1 x.2) s
  let s := (l.filter (fun p => p.fld ≠ .DOM_BUD_CTRL_CTX_ACTIVE ∨ cp1 ∨ moved.contains p)).foldl (fun t p => t.fieldActs p) s
  let s := s.when (moved.any (fun p => p.fld = .THM_LADDER_FREQ ∨ p.fld = .THM_LADDER_ISSUE)) (fun s => s.resendSteps before)
  s.when (moved.any (fun p => slotFld p.fld)) (fun s =>
    let s := s.recordLoad
    s.when (s.overloaded ∧ ¬ before.overloaded) (fun s => s.raise 0x03 3 0))

/-- An epoch applies: the changes of slow slots wait for their slow tick, all others take effect in one cycle (R162, R358). -/
def State.applyPieces (s : State) (l : List Piece) (cp1 : Bool) : State :=
  let later := l.filter (fun p => s.waitsSlow l p)
  let s := s.takePieces (l.filter (fun p => ¬ s.waitsSlow l p)) cp1
  if later = [] then s
  else
    let before := s
    let s : State := { s with eng := { s.eng with defer := s.eng.defer ++ later } }
    s.when (later.any (fun p => slotFld p.fld)) (fun s =>
      let s := s.recordLoad
      s.when (s.overloaded ∧ ¬ before.overloaded) (fun s => s.raise 0x03 3 0))

/-- At a slow tick the changes that wait for it take effect, and no slow slot keeps an old table entry (R162). -/
def State.applyDeferred (s : State) : State :=
  let l := s.eng.defer
  let s : State := { s with eng := { s.eng with defer := [], held := [] } }
  if l = [] then s else s.takePieces l false

end Sys2Proof.Machine
end

