-- ==== Sys2Proof/Machine/EpochOps.lean ====
section
/-! DEFINITION. The staging store and the runs of the epoch engine (R354 to R358, R409, R462). Run states: 0 IDLE, 1 VALIDATE,
2 APPLY, 3 SETTLE, 4 HALTED, 5 WALKBACK. -/

namespace Sys2Proof.Machine

/-! ### The staging store (R354, R355) -/

/-- A staged set with nothing in it. -/
def StagedSet.empty : StagedSet := { entries := [], ceSel := 0, thmSel := 0, adcSel := 0 }

/-- The staged set of an initiator. -/
def State.stagedSet (s : State) (init : Nat) : StagedSet := Tbl.get StagedSet.empty s.cmd.sets init

/-- Entries in the store: each staged entry once, each entry of a committed run twice. -/
def State.storeUsed (s : State) : Nat :=
  (s.cmd.sets.map (fun p => p.2.entries.length)).foldl (· + ·) 0 + 2 * (s.cmd.runs.map (fun r => r.entries.length)).foldl (· + ·) 0

/-- Runs that wait behind the one in progress. -/
def State.runsWaiting (s : State) : Nat := if s.cmd.runState = 0 then s.cmd.runs.length else s.cmd.runs.length - 1

/-- Shows the store and the queue in CMD_STATUS. -/
def State.showStore (s : State) : State :=
  (s.setF .CMD_STATUS_STORE_USED 0 s.storeUsed).setF .CMD_STATUS_QUEUED 0 s.runsWaiting

/-- Replaces the staged sets. -/
def State.setSets (s : State) (t : Tbl Nat StagedSet) : State := ({ s with cmd := { s.cmd with sets := t } }).showStore

/-- Replaces an initiator's staged set; an empty one is not listed. -/
def State.putSet (s : State) (init : Nat) (x : StagedSet) : State := s.setSets (Tbl.putD StagedSet.empty s.cmd.sets init x)

/-- The bits of the whole RWE fields that an entry's mask touches. -/
def Entry.fieldBits (x : Entry) : Nat :=
  match regAt x.off with
  | none => x.mask
  | some (r, _) =>
    ((r.flds.filter (fun f => f.info.acc = .rwe ∧ f.part x.mask ≠ 0)).map (fun f => f.ones * 2 ^ f.info.lo)).foldl Nat.lor 0

/-- An entry without the fields that another entry stages: a field leaves whole (R354). -/
def Entry.without (e x : Entry) : Entry :=
  if e.off = x.off ∧ e.item = x.item then { e with mask := e.mask - Nat.land e.mask x.fieldBits } else e

/-- An entry with what another set has staged of its fields: a field moves whole, and the entry's own bits take its value
(R354; assumption 107). -/
def Entry.taking (x e : Entry) : Entry :=
  if e.off = x.off ∧ e.item = x.item then
    let m := Nat.land e.mask x.fieldBits
    { x with mask := Nat.lor x.mask m, val := withMask (Nat.land e.val m) x.mask x.val }
  else x

/-- Entries without the fields of another entry; one left with none goes. -/
def withoutEntry (l : List Entry) (x : Entry) : List Entry :=
  l.filterMap (fun e => if e.mask ≠ 0 ∧ (e.without x).mask = 0 then none else some (e.without x))

/-- A staging that has succeeded, met a full store, or been refused with the byte at fault: 0 the offset, 4 the mask. -/
inductive Staging where
  | ok (s : State)
  | full
  | bad (byte : Nat)

/-- An entry joins an initiator's set: other sets lose its fields, and a new set or entry needs room (R354). -/
def State.stageEntry (s : State) (init : Nat) (e : Entry) : Staging :=
  let others := s.cmd.sets.map (fun p => if p.1 = init then p else (p.1, { p.2 with entries := withoutEntry p.2.entries e }))
  let t := s.setSets (others.filter (fun p => p.2 ≠ StagedSet.empty))
  let e := ((s.cmd.sets.filter (fun p => p.1 ≠ init)).flatMap (fun p => p.2.entries)).foldl Entry.taking e
  let x := t.stagedSet init
  let held := (t.cmd.sets.filter (fun p => p.1 ≠ init ∧ p.2.entries ≠ [])).length
  if 8192 ≤ t.storeUsed ∨ (x.entries = [] ∧ 16 ≤ held) then .full
  else .ok (t.putSet init { x with entries := x.entries ++ [e] })

/-- A selector write in STAGE_CONFIG (R354). -/
def StagedSet.select (x : StagedSet) (off mask val : Nat) : StagedSet :=
  if off = 0x60100 then { x with ceSel := withMask x.ceSel mask val }
  else if off = 0x05E10 then { x with thmSel := withMask x.thmSel mask val }
  else { x with adcSel := withMask x.adcSel mask val }

/-- One write of an offset, a mask and a value to an initiator's set, through the selectors of the set (R354, R458). -/
def State.stageWrite (s : State) (init off mask val : Nat) : Staging :=
  match regAt off with
  | none => .bad 0
  | some (r, i) =>
    if off = 0x60100 ∨ off = 0x05E10 ∨ off = 0x04014 then
      if Nat.land mask (r.bits .rw) ≠ mask then .bad 4
      else .ok (s.putSet init ((s.stagedSet init).select off mask val))
    else
      let x := s.stagedSet init
      let item := selectedItem x.ceSel x.thmSel x.adcSel r i
      if r.bits .rwe = 0 ∨ ¬ unitExists s.cfg.table r item then .bad 0
      else if Nat.land mask (r.bits .rwe) ≠ mask then .bad 4
      else s.stageEntry init { off := off, mask := mask, val := val, item := item }

/-- A full store refuses a staging (R360). -/
def State.storeFull (s : State) (index : Nat) : State := s.event .CMD_EVENT_STORE_FULL 0 0x0C index

/-! ### Runs (R355, R358) -/

/-- The run at the head of the queue. -/
def State.headRun (s : State) : Option Run := s.cmd.runs.head?

/-- Shows the run in progress in CMD_RUN. -/
def State.showRun (s : State) : State :=
  match s.cmd.runState, s.headRun with
  | 0, _ => s.setF .CMD_RUN_STATE 0 0
  | st, some r =>
    let applied := if st = 2 then r.journal.length - 1 else r.journal.length
    (((((s.setF .CMD_RUN_STATE 0 st).setB .CMD_RUN_RETUNE 0 r.retune).setF .CMD_RUN_EPOCH 0 applied).setF .CMD_RUN_EPOCHS_M1 0
      (r.epochs.length - 1)).setF .CMD_RUN_RUN_ID 0 r.id)
  | _, none => s

/-- Replaces the run in progress and its state. -/
def State.putRun (s : State) (r : Run) (st : Nat) : State :=
  ({ s with cmd := { s.cmd with runs := r :: s.cmd.runs.drop 1, runState := st } }).showRun

/-- Whether a control-plane interval acts (R406, R409). -/
def State.cpActive (s : State) : Bool := s.isSet .GLB_RST_STATUS_CP_ACTIVE 0

/-- The epochs of a run: CP1 slices its own (R228, R356). -/
def State.epochsOf (s : State) (init : Nat) (ps : List Piece) : List (List Piece) :=
  if init = 0xF1 then s.withDeferred.sliceCp1 ps else s.withDeferred.slice ps

/-- The head of the queue enters VALIDATE when no run is in progress and no control-plane interval acts. -/
def State.startRun (s : State) : State :=
  match s.cmd.runState, s.headRun with
  | 0, some r => if s.cpActive then s.showStore else (s.putRun { r with epochs := s.epochsOf r.init r.pieces } 1).showStore
  | _, _ => s.showStore

/-- The reply payload of COMMIT_EPOCH. -/
def commitBytes (epochs check id entry : Nat) : List Nat := [min 255 epochs, check] ++ leBytes 2 id ++ leBytes 4 entry

/-- The result of a commit reaches whoever made it: the slot of its packet, or CMD_COMMIT_ST (R355); CP1's own commits report to
no one. -/
def State.reportCommit (s : State) (r : Run) (st check entry : Nat) : State :=
  let s := match r.slot with
    | some k => s.reply k st (commitBytes r.epochs.length check r.id entry)
    | none => s
  s.when (r.direct ∧ s.getF .CMD_COMMIT_ST_RUN_ID 0 = r.id ∧ s.getF .CMD_COMMIT_ST_INITIATOR 0 = r.init) (fun s =>
    s.setF .CMD_COMMIT_ST_STATUS 0 st)

/-- The result of an abort reaches its packet (R358, R462). -/
def State.reportAbort (s : State) (r : Run) (st : Nat) : State :=
  match r.abortSlot with
  | some k => s.reply k st [min 255 r.undone, 0, 0, 0]
  | none => s

/-- The index of a run's events (R413). -/
def Run.index (r : Run) : Nat := r.part.getD (0x100 + r.init)

/-- The lowest standing cap, or 1,100 W (R225, R349). -/
def State.capWanted (s : State) : Nat :=
  clampN 150 1100 ((s.cmd.standing.filterMap (fun r => match r.kind with
    | .cap w => some w
    | _ => none)).foldl min 1100)

/-- What CP1 is asked for. -/
def State.wantsNow (s : State) : CpWants :=
  { ctx := s.fw.wantCtx, mode := s.fw.wantMode, stagger := s.fw.wantStagger, window := s.fw.wantWindow, cap := s.capWanted }

/-- The packets that CP1's run has taken complete with it; one that a newer request has superseded completes with the newer.
SET_POWER_CAP answers P_CAP in effect (R367). -/
def State.answerCp1 (s : State) (st : Nat) : State :=
  let w := s.wantsNow
  let t := s.fw.taken
  let bad : Bool := st = stBadParam
  let none_ : List Nat := if bad then [255, 255, 0, 0] else []
  let cap : List Nat := if st = stOk then leBytes 2 (s.getF .DOM_BUD_CAP_P_CAP 0) ++ [0, 0] else none_
  let s := s.when (w.ctx = t.ctx) (fun s => s.replyAll 0x10 (fun _ => true) st none_)
  let s := s.when (w.stagger = t.stagger ∧ w.window = t.window ∧ w.cap = t.cap) (fun s => s.replyAll 0x12 (fun _ => true) st cap)
  s.when (w.mode = t.mode) (fun s => s.replyAll 0x13 (fun _ => true) st none_)

/-- What CP1's run has taken is asked for no longer. -/
def State.dropTaken (s : State) : State :=
  let t := s.fw.taken
  { s with fw := { s.fw with
      wantCtx := if s.fw.wantCtx = t.ctx then none else s.fw.wantCtx,
      wantMode := if s.fw.wantMode = t.mode then none else s.fw.wantMode,
      wantStagger := if s.fw.wantStagger = t.stagger then none else s.fw.wantStagger,
      wantWindow := if s.fw.wantWindow = t.window then none else s.fw.wantWindow,
      reapply := false, cpRun := none } }

/-- Whether a run is the one CP1 has committed since it last started. -/
def State.isCpRun (s : State) (r : Run) : Bool := r.init = 0xF1 ∧ s.fw.cpRun = some r.id

/-- The end of CP1's run reaches the packets it has taken. -/
def State.endCpRun (s : State) (r : Run) (st : Nat) : State := if s.isCpRun r then (s.answerCp1 st).dropTaken else s

/-- The run in progress ends: it leaves the store, its end is a notice, and the next run starts (R353, R358). `st` is how the
commit completes. -/
def State.endRun (s : State) (r : Run) (st check entry : Nat) : State :=
  let s := s.reportCommit r st check entry
  let s := s.endCpRun r st
  let s : State := { s with cmd := { s.cmd with runs := s.cmd.runs.drop 1, runState := 0 } }
  ((s.notice 4 r.id).showRun).startRun

/-- The set of a dry run returns to its initiator, without the fields that other sets have staged since (R357). -/
def State.returnSet (s : State) (r : Run) : State :=
  let others := (s.cmd.sets.filter (fun p => p.1 ≠ r.init)).flatMap (fun p => p.2.entries)
  let x := s.stagedSet r.init
  s.putSet r.init { x with entries := others.foldl withoutEntry r.entries ++ x.entries }

/-- The prior values of an epoch, as committed (R162). -/
def State.journalOf (s : State) (l : List Piece) : List JournalLine :=
  let t := s.withDeferred
  l.map (fun p => { fld := p.fld, item := p.item, old := t.getF p.fld p.item })

/-- A run enters APPLY for its next epoch: the prior values go to the journal (R358). -/
def State.enterApply (s : State) (r : Run) : State :=
  s.putRun { r with journal := s.journalOf (r.epochs.getD r.journal.length []) :: r.journal, settling := false,
                    barred := s.cpActive } 2

/-- A run enters WALKBACK. -/
def State.enterWalkback (s : State) (r : Run) : State :=
  if r.journal = [] then
    let s := s.reportAbort r stOk
    s.endRun r stAbandoned 0 0xFFFFFFFF
  else s.putRun { r with settling := false, barred := s.cpActive, abortHeld := false } 5

/-- A journal record as pieces. -/
def journalPieces (l : List JournalLine) : List Piece :=
  l.map (fun j => { entry := 0, fld := j.fld, item := j.item, mask := j.fld.ones, val := j.old })

/-- Commits entries as a run; none where it completes BUSY (R355). -/
def State.commitRun (s : State) (r : Run) : Option State :=
  let n := r.entries.length
  if (s.cmd.runs ≠ [] ∧ 4 ≤ s.runsWaiting) ∨ 8192 < s.storeUsed + 2 * n then none
  else some ({ s with cmd := { s.cmd with runs := s.cmd.runs ++ [r], runCtr := r.id } }).startRun

/-- The identifier of the next run: it counts from 1 and wraps past 0. -/
def State.nextRunId (s : State) : Nat := s.cmd.runCtr % 65535 + 1

/-- A run as it is committed. -/
def newRun (id init : Nat) (retune dry : Bool) (expectN : Nat) (direct : Bool) (part slot : Option Nat) (es : List Entry) : Run :=
  { id := id, retune := retune, dry := dry, expectN := expectN, init := init, direct := direct, part := part, slot := slot,
    entries := es, pieces := piecesOf es, epochs := [], journal := [], abortSlot := none, abortHeld := false, undone := 0,
    back := false, settling := false, barred := false, appliedAt := 0 }

/-- Commits the staged set of an initiator: the set leaves the store and starts empty again. -/
def State.commitSet (s : State) (init : Nat) (retune dry : Bool) (expectN : Nat) (direct : Bool) (part slot : Option Nat) :
    Option (State × Run) :=
  let r := newRun s.nextRunId init retune dry expectN direct part slot (s.stagedSet init).entries
  let r := { r with epochs := s.epochsOf init r.pieces }
  ((s.putSet init { s.stagedSet init with entries := [] }).commitRun r).map (fun t => (t, r))

/-- The run that a RESUME of an initiator continues (R358, R462). -/
def State.resumable (s : State) (init : Nat) : Option Run :=
  match s.headRun with
  | some r => if s.cmd.runState = 4 ∧ ¬ r.back ∧ r.init = init then some r else none
  | none => none

/-- A run no longer answers a packet of a slot that has completed otherwise. -/
def State.orphanSlot (s : State) (k : Nat) : State :=
  { s with cmd := { s.cmd with runs := s.cmd.runs.map (fun r =>
      { r with slot := if r.slot = some k then none else r.slot, abortSlot := if r.abortSlot = some k then none else r.abortSlot }) } }

end Sys2Proof.Machine
end

