-- ==== Sys2Proof/Machine/TlmOps.lean ====
section
/-! DEFINITION. Shared operations of telemetry and capture (chapter Telemetry and Capture, R309 to R324): the layout of the records,
the ring and its queue, the block encoder, and the moves of the capture. Capture states: 0 IDLE, 1 ARMED, 2 POST, 3 DUMPING,
4 DONE. -/

namespace Sys2Proof.Machine

/-! ### Records (R309 to R311) -/

/-- A mean rounded to nearest, ties to even, saturated to 16 bits. -/
def mean16 (sum d : Nat) : Nat := if d = 0 then 0 else min 65535 (rneDiv (sum : Int) d).toNat

/-- A highest value rounded up, saturated to 16 bits. -/
def up16 (x d : Nat) : Nat := min 65535 (ceilDiv x d)

/-- SEQ and TIME, bytes 4 to 15 of a record. -/
def recHead (seq time : Nat) : List Nat := leBytes 4 (seq % 2 ^ 32) ++ leBytes 8 time

/-- The measured fields of a domain record, bytes 16 to 40 (R309, R310, R325). A mean of no maxima is an open value. -/
def State.recMeasured (s : State) (d : Nat) : List Nat × State :=
  let a := s.acc d
  let n := a.cover
  if n = 0 then (List.replicate 25 0, s)
  else
    let tNone := s.fresh.1
    let s := s.fresh.2
    let tAvg := if a.tCount = 0 then tNone % 65536 else toU 16 (rneDiv a.tSum a.tCount)
    let tMax := match a.tMax with
      | none => tNone % 65536
      | some t => toU 16 t
    let hr := match a.hrMin with
      | none => 0xFFFF
      | some h => toU 16 h
    (leBytes 2 (mean16 a.iSum (128 * n)) ++ leBytes 2 (up16 a.iPeak 128) ++
      leBytes 2 (clampI 0 65535 (rneDiv a.vSum (2 * n))).toNat ++ leBytes 2 (clampI 0 65535 ((a.vMin.getD 0) / 2)).toNat ++
      leBytes 2 (mean16 a.pSum (62500 * n)) ++ leBytes 2 (mean16 a.pPeak 62500) ++ leBytes 2 (mean16 a.pInSum (62500 * n)) ++
      leBytes 2 (mean16 a.estSum (128 * n)) ++ leBytes 2 tAvg ++ leBytes 2 tMax ++ leBytes 2 hr ++
      leBytes 2 (min 65535 a.droopMax) ++ [a.stepLo.getD 0 + 16 * a.stepHi], s)

/-- The count of the slow tick at or before now. -/
def State.slowTickNow (s : State) : Nat := s.time - s.time % 100000

/-- Bytes 0 to 59 of a domain record (R309). -/
def State.domRecord (s : State) (d : Nat) : List Nat × State :=
  let a := s.acc d
  let m := s.recMeasured d
  let flags := (if a.substWin = 0 then 0 else 1) + (if a.estInvalid then 2 else 0) + (if a.tSubst then 4 else 0) +
    (if a.cover < 1000 then 8 else 0)
  ([0x40, flags] ++ leBytes 2 (d + 512 * s.getF .DOM_STATUS_STATE d + 4096 * s.getF .DOM_STATUS_STEP d) ++
    recHead s.tlm.seq s.slowTickNow ++ m.1 ++ [0] ++ leBytes 2 (min 65535 a.permits) ++
    leBytes 8 (Tbl.get 0 s.tlm.energy d / 64000000) ++ leBytes 2 a.cover ++ leBytes 2 a.substWin ++ [0, 0, 0, 0], m.2)

/-- FLAGS of the stack record without LOST_BEFORE (R311): a flag of R309 holds where it holds of some domain, and PARTIAL where
fewer than 1,000 windows were summed (DEDUCED, assumption 61). -/
def State.stackFlags (s : State) : Nat :=
  (if s.tlm.dom.any (fun p => p.2.substWin ≠ 0) then 1 else 0) + (if s.tlm.dom.any (fun p => p.2.estInvalid) then 2 else 0) +
    (if s.tlm.dom.any (fun p => p.2.tSubst) then 4 else 0) + (if s.tlm.stack.windows < 1000 then 8 else 0)

/-- Bytes 0 to 59 of the stack record (R311). A mean of no windows and a minimum of none are open values. -/
def State.stackRecord (s : State) : List Nat × State :=
  let a := s.tlm.stack
  let flags := s.stackFlags
  let none1 := s.fresh.1 % 65536
  let s := s.fresh.2
  let avg := if a.windows = 0 then none1 else mean16 a.iSum (1000 * a.windows)
  let peak := if a.windows = 0 then none1 else up16 a.iPeak 1000
  let hr := match a.hrMin with
    | none => none1
    | some h => toU 16 h
  let ctx := s.stackCeil % 16 + 16 * s.getF .DOM_BUD_CTRL_CTX_ACTIVE 0 + 128 * s.getF .DOM_BUD_CTRL_MODE 0
  let grp := if s.getF .HRD_STATUS_STATE 0 = 0 ∨ s.getF .HRD_STATUS_STATE 0 = 4 then 0 else s.getF .HRD_FREQ_F_GRP 0
  ([0x41, flags, 0, 0] ++ recHead s.tlm.seq s.slowTickNow ++ leBytes 2 avg ++ leBytes 2 peak ++
    leBytes 2 (s.getF .GLB_VSTK_STATUS_VSTK_CODE 0) ++ leBytes 2 hr ++ leBytes 4 (toU 32 s.bud.pMs) ++
    leBytes 4 (s.getF .DOM_BUD_AVG_AVG 0) ++ leBytes 2 (s.getF .DOM_BUD_MS_P_OTHER 0) ++
    leBytes 2 (s.getF .GLB_DESIGN_CUR_EDC_EFF 0) ++ leBytes 2 (s.getF .GLB_DESIGN_CUR_TDC_EFF 0) ++
    [ctx, s.getF .GLB_VSTK_STATUS_VSTK_LIVE 0 % 256] ++ leBytes 2 (s.getF .DOM_BUD_GOV_F_G 0) ++
    leBytes 2 (s.getF .THM_AIR_F_AIR 0) ++ leBytes 2 (min 65535 a.grants) ++ leBytes 2 grp ++ List.replicate 12 0, s)

/-! ### The ring and its queue (R312 to R316) -/

/-- Records the ring holds. -/
def State.ringSize (s : State) : Nat := 2 ^ clampN 8 20 (s.getF .TLM_CTRL_SIZE_LOG2 0)

/-- PROD − CONS modulo 2^32. -/
def State.ringUsed (s : State) : Nat := (s.getF .TLM_PROD_PROD 0 + 2 ^ 32 - s.getF .TLM_CONS_CONS 0) % 2 ^ 32

/-- Whether the records before the next notice have been written (R317). -/
def State.noticeReady (s : State) : Bool := s.getF .TLM_CTRL_NOTIFY_MS 0 ≠ 0 ∧ s.tlm.notices.head? = some 0

/-- Whether a record waits and can be written: the ring has room and no notice goes before it (R313, R317). -/
def State.recordReady (s : State) : Bool := s.tlm.queue ≠ [] ∧ s.ringUsed ≠ s.ringSize ∧ ¬ s.noticeReady

/-- The oldest record leaves the queue: every notice has one record fewer before it. -/
def State.popRecord (s : State) : State :=
  { s with tlm := { s.tlm with queue := s.tlm.queue.drop 1, notices := s.tlm.notices.map (fun n => n - 1) } }

/-- Shows how many records wait, and RUNNING (R316). -/
def State.showQueue (s : State) : State :=
  (s.setF .TLM_STATUS_QUEUED 0 s.tlm.queue.length).setB .TLM_STATUS_RUNNING 0 (s.tlm.forming ∨ s.tlm.queue ≠ [])

/-- Counts and announces a dropped record (R315). -/
def State.dropRecord (s : State) : State :=
  let s : State := { s with tlm := { s.tlm with lostBefore := true } }
  (s.bumpF .TLM_LOST_LOST 0).event .TLM_EVENT_DROP 0 0x0A 0

/-- Queues a record just formed, or drops it where the queue is full; SEQ counts it either way (R314, R315). -/
def State.queueRecord (r : List Nat × State) : State :=
  let s := r.2
  let s : State := { s with tlm := { s.tlm with seq := (s.tlm.seq + 1) % 2 ^ 32 } }
  if 512 ≤ s.tlm.queue.length then s.dropRecord
  else { s with tlm := { s.tlm with queue := s.tlm.queue ++ [{ bytes := r.1, born := s.time }] } }

/-- The domains that receive records (R309). -/
def State.recordDoms (s : State) : List Nat :=
  (List.range s.cfg.table.domains).filter (fun d => bitOf (s.getF .TLM_DOM_MASK_MASK (d / 32)) (d % 32))

/-- The 64 bytes of a record as it is written: LOST_BEFORE where records were dropped since the last written one, and the CRC of
unit 3 (R309, R315). -/
def sealRecord (bytes : List Nat) (lost : Bool) : List Nat :=
  let b := bytes.set 1 (bytes.getD 1 0 + (if lost then 32 else 0))
  b ++ leBytes 4 (crc32c b)

/-- The host address of ring slot `i`. -/
def State.ringAddr (s : State) (i : Nat) : Nat :=
  s.getF .TLM_RING_HI_BASE_HI 0 * 2 ^ 32 + s.getF .TLM_RING_LO_BASE_LO 0 * 4096 + 64 * (i % s.ringSize)

/-- The host address of the notice. -/
def State.noticeAddr (s : State) : Nat := s.getF .TLM_NOTIFY_HI_NADDR_HI 0 * 2 ^ 32 + s.getF .TLM_NOTIFY_LO_NADDR_LO 0 * 4

/-- ENABLE written (R316, R319). -/
def State.writeEnable (s : State) (on : Bool) : State :=
  let s := s.setB .TLM_CTRL_ENABLE 0 on
  if on then
    ({ s with tlm := { s.tlm with startWait := ¬ s.tlm.forming, stopWait := false } } : State).setF .TLM_STATUS_BUS_ERR_ST 0 0
  else { s with tlm := { s.tlm with startWait := false, stopWait := s.tlm.forming } }

/-- CONS written (R313). -/
def State.writeCons (s : State) (v : Nat) : State :=
  if s.ringSize < (s.getF .TLM_PROD_PROD 0 + 2 ^ 32 - v % 2 ^ 32) % 2 ^ 32 then s.event .TLM_EVENT_CONS_BAD 0 0x0A 0
  else s.setF .TLM_CONS_CONS 0 v

/-! ### The block encoder (R321, R322) -/

/-- The level of a delta's magnitude. -/
def capLevel (a : Nat) : Nat := if a ≤ 7 then a else if a ≤ 15 then a / 2 + 4 else a / 4 + 8

/-- The magnitude a level stands for. -/
def capMag (l : Nat) : Nat := if l ≤ 7 then l else if l ≤ 11 then 2 * l - 7 else 4 * l - 30

/-- A code and its width in bits. -/
abbrev CapCode := Nat × Nat

/-- A sample escaped. -/
def capEscape (x : Int) : CapCode := (32 + 64 * toU 12 x, 18)

/-- The codes of a run of zero deltas: runs of 2 to 32, and level 0 for a single one. -/
def capRun (n : Nat) : List CapCode :=
  List.replicate (n / 32) (63, 6) ++ (if n % 32 = 0 then [] else if n % 32 = 1 then [(0, 6)] else [(31 + n % 32, 6)])

/-- The code of a sample that differs from the reconstruction `r`, and its own reconstruction, inside `lo` to `hi`. -/
def capDelta (lo hi r x : Int) : CapCode × Int :=
  let a := (x - r).natAbs
  let m : Int := capMag (capLevel a)
  let y := if x < r then r - m else r + m
  if a ≤ 31 ∧ lo ≤ y ∧ y ≤ hi then (((if x < r then 16 else 0) + capLevel a, 6), y) else (capEscape x, x)

/-- The codes of the samples after the first, with the reconstruction so far and the zero deltas that wait. -/
def capGo (lo hi r : Int) (zeros : Nat) (l : List Int) : List CapCode :=
  match l with
  | [] => capRun zeros
  | x :: t =>
    if x = r then capGo lo hi r (zeros + 1) t
    else capRun zeros ++ (capDelta lo hi r x).1 :: capGo lo hi (capDelta lo hi r x).2 0 t

/-- The codes of one stream. -/
def capCodes (lo hi : Int) (l : List Int) : List CapCode :=
  match l with
  | [] => []
  | x :: t => capEscape x :: capGo lo hi x 0 t

/-- Codes packed from the least significant bit upward, padded with zeros to a whole word. -/
def capPack (l : List CapCode) : List Nat :=
  let p := l.foldl (fun (a : Nat × Nat) c => (a.1 + c.1 * 2 ^ a.2, a.2 + c.2)) (0, 0)
  leBytes (4 * ceilDiv p.2 32) p.1

/-- The range of a kind's samples (R320). -/
def capRange (kind : Nat) : Int × Int := if kind = 1 ∨ kind = 3 then (-2048, 2047) else (0, 4095)

/-- A block from 64 latched instants, with the trigger instant's place in it (R321). -/
def State.capBlock (s : State) (l : List (Nat × Bool × List (Nat × Int))) (trig : Option Nat) : CapBlock :=
  let chans := s.capChannels
  let streams := chans.flatMap (fun c =>
    let r := capRange c.2.1
    capPack (capCodes r.1 r.2 (l.map (fun i => (Tbl.get 0 i.2.2 c.1)))))
  let gap := l.any (fun i => i.2.1)
  let time := (l.map (fun i => i.1)).headD 0
  let mask := chans.foldl (fun m c => m + 2 ^ c.1) 0
  { bytes := leBytes 8 time ++ leBytes 2 (16 + streams.length) ++
      [mask, (if trig = none then 0 else 1) + (if gap then 2 else 0)] ++ leBytes 2 (trig.getD 0xFFFF) ++ [0, 0] ++ streams,
    trig := trig ≠ none }

/-! ### The capture buffer (R323) -/

/-- Bytes that blocks take. -/
def capBytes (l : List CapBlock) : Nat := (l.map (fun b => b.bytes.length)).foldl (· + ·) 0

/-- The blocks without the oldest ones that a new block of `n` bytes needs, out of 64 KiB. -/
def capRoom (n : Nat) (l : List CapBlock) : List CapBlock :=
  match l with
  | [] => []
  | b :: t => if capBytes (b :: t) + n ≤ 65536 then b :: t else capRoom n t

/-- Capture state. -/
def State.capSt (s : State) : Nat := s.getF .TLM_CAP_STATUS_STATE 0

/-- Moves the capture. -/
def State.capGo (s : State) (st : Nat) : State := s.setF .TLM_CAP_STATUS_STATE 0 st

/-- Replaces the blocks held. -/
def State.setBlocks (s : State) (l : List CapBlock) : State :=
  ({ s with tlm := { s.tlm with cap := { s.tlm.cap with blocks := l } } } : State).setF .TLM_CAP_STATUS_BLOCKS 0 l.length

/-- ARM written 1 enters ARMED from IDLE with a channel on, and from DONE (R323). -/
def State.capArm (s : State) : State :=
  let s := s.setF .TLM_CAP_CTRL_ARM 0 1
  if (s.capSt = 0 ∧ s.capChannels ≠ []) ∨ s.capSt = 4 then
    let s : State := { s with tlm := { s.tlm with cap := { CapState.reset with armedAt := s.time } } }
    ((s.setF .TLM_CAP_STATUS_BLOCKS 0 0).setF .TLM_CAP_STATUS_WRAPPED 0 0).capGo 1
  else s

/-- ARM written 0: in ARMED or POST the capture returns to IDLE (R323). -/
def State.capOff (s : State) : State :=
  let s := s.setF .TLM_CAP_CTRL_ARM 0 0
  s.when (s.capSt = 1 ∨ s.capSt = 2) (fun s => s.capGo 0)

/-- ARM written 0, which also ends a CAPTURE_WAVEFORM that waits (R323, R351). -/
def State.capDisarm (s : State) : State := s.capOff.replyAll 0x41 (fun _ => true) stAbandoned []

/-- The host address of dump write `i`, from 0 to 1,023. -/
def State.dumpAddr (s : State) (i : Nat) : Nat :=
  s.getF .TLM_CAP_DUMP_HI_DUMP_HI 0 * 2 ^ 32 + s.getF .TLM_CAP_DUMP_LO_DUMP_LO 0 * 4096 + 64 * i

/-- The 64 bytes of dump write `i`: the blocks from the oldest on, then zeros (R323). -/
def State.dumpBytes (s : State) (i : Nat) : List Nat :=
  let all := s.tlm.cap.blocks.flatMap (fun b => b.bytes)
  (List.range 64).map (fun j => all.getD (64 * i + j) 0)

/-- The next dump write goes onto the port, unless a ring record goes before it (R319). -/
def State.issueDump (s : State) : State :=
  if s.capSt = 3 ∧ 0 < s.tlm.cap.dumpLeft ∧ ¬ s.tlm.cap.issued ∧ ¬ s.recordReady then
    { s with tlm := { s.tlm with cap := { s.tlm.cap with issued := true } } }
  else s

/-- A domain's gathering starts anew with a telemetry window; droop samples of a 1 µs window not yet published stay. -/
def DomAcc.next (a : DomAcc) : DomAcc := { DomAcc.empty with win := a.win, closed := a.closed }

end Sys2Proof.Machine
end

