-- ==== Sys2Proof/Machine/PartnerOps.lean ====
section
/-! DEFINITION. Shared operations of partners, slots and CP1's policy (R337 to R352, R225 to R231, R267, R367, R368). Partner
states: 0 FREE, 1 REGISTERED, 2 LEASE_LATE, 3 RELEASED. Processor states: 0 OFF, 1 STARTING, 2 RUNNING, 3 HALTED, 4 STOPPED,
5 DEBUG. -/

namespace Sys2Proof.Machine

/-! ### Hand-over (R337 to R339) -/

/-- Raises a sticky event by an access to a slot (R360, R418). -/
def State.slotEvent (s : State) (f : Fld) (index init addr : Nat) : State :=
  (s.setF f 0 1).raiseAccess 0x0C f.info.lo index init addr 4

/-- The packet in a command slot. -/
def State.readPacket (s : State) (k init : Nat) : Packet :=
  let b := s.slotBytes k
  { init := init, op := leAt b 0 1, flags := leAt b 1 1, pid := leAt b 2 1, ver := leAt b 3 1, tag := leAt b 4 2,
    len := leAt b 6 2, epoch := leAt b 8 4, crc := leAt b 12 4, payload := (b.drop 16).take (leAt b 6 2),
    order := s.cmd.orderCtr }

/-- A packet is handed over: it is busy from now on and waits for intake, which goes on (R337, R343). -/
def State.handOver (s : State) (k init : Nat) : State :=
  let p := s.readPacket k init
  let s : State := { s with cmd := { s.cmd with orderCtr := s.cmd.orderCtr + 1, readBack := s.cmd.readBack.filter (fun x => x ≠ k) } }
  (s.putFlight k { pkt := p, phase := .intake, began := s.time, passed := 0 }).serveIntake

/-- A write to word `w` of a command slot (R337 to R339). -/
def State.slotWrite (s : State) (init set slot w v : Nat) : State :=
  let k := 8 * set + slot
  let addr := 0x20000 + 0x800 * set + 0x100 * slot + 4 * w
  let busy := bitOf (s.getF .CMD_PART_SLOTS_BUSY set) slot
  let store (s : State) : State :=
    let s : State := { s with cmd := { s.cmd with slotMem := Tbl.putD 0 s.cmd.slotMem (64 * k + w) (v % 2 ^ 32) } }
    if w = 63 then s.handOver k init else s
  if set = 0 then
    let holder := Tbl.get init s.cmd.latch k
    if holder ≠ init then s
    else if busy then s.slotEvent .CMD_EVENT_SLOT_BUSY_WR (0x100 + init) init addr
    else store { s with cmd := { s.cmd with latch := s.cmd.latch.put k init } }
  else if s.partSt set = 0 ∨ s.getF .CMD_PART_ID_INITIATOR set ≠ init then s.slotEvent .CMD_EVENT_FOREIGN set init addr
  else if busy then s.slotEvent .CMD_EVENT_SLOT_BUSY_WR set init addr
  else store s

/-- A registration slot frees (R339). -/
def State.freeRegSlot (s : State) (k : Nat) : State :=
  if s.cmd.readBack.contains k then
    { s with cmd := { s.cmd with readBack := s.cmd.readBack.filter (fun x => x ≠ k), latch := s.cmd.latch.erase k } }
  else s

/-- What a read of word `w` of a reply slot returns: 0 to an initiator that the slot is not bound or latched to (R338, R339). -/
def State.replyWord (s : State) (init set slot w : Nat) : Nat :=
  let mine : Bool := if set = 0 then Tbl.get 0x100 s.cmd.latch slot = init
    else s.partSt set ≠ 0 ∧ s.getF .CMD_PART_ID_INITIATOR set = init
  if mine then Tbl.get 0 s.cmd.replyMem (64 * (8 * set + slot) + w) else 0

/-- The number of the last word of the reply that stands in a reply slot: its header holds the length of its payload (R339). -/
def State.lastWord (s : State) (k : Nat) : Nat := (16 + Tbl.get 0 s.cmd.replyMem (64 * k + 1) / 65536) / 4 - 1

/-- A read of word `w` of a reply slot: the read of the last word of the reply frees a registration slot for its initiator, and a
foreign initiator's read of a partner's slot is recorded (R338, R339). -/
def State.readReply (s : State) (init set slot w : Nat) : State :=
  let off := 0x40000 + 0x800 * set + 0x100 * slot + 4 * w
  let s := s.emit (.readData init off (s.replyWord init set slot w))
  if set = 0 then
    if w = s.lastWord slot ∧ Tbl.get 0x100 s.cmd.latch slot = init then s.freeRegSlot slot else s
  else if s.partSt set = 0 ∨ s.getF .CMD_PART_ID_INITIATOR set ≠ init then
    s.slotEvent .CMD_EVENT_FOREIGN set init off
  else s

/-! ### CP1's policy (R225 to R231, R267, R349, R367, R368) -/

/-- STAGGER that CP1 would have in effect. -/
def State.staggerWanted (s : State) : Nat := s.fw.wantStagger.getD (s.getF .DOM_BUD_CAP_STAGGER 0)

/-- P_AIR of the standing cap and F_AIR (R267). -/
def State.pAirNow (s : State) : Nat := max 150 (s.capWanted * s.getF .THM_AIR_F_AIR 0 / 32768)

/-- The context CP1 would have in effect. -/
def State.ctxWanted (s : State) : Nat := s.fw.wantCtx.getD (s.getF .DOM_BUD_CTRL_CTX_ACTIVE 0)

/-- Whether CP1's next commit applies a context (R233, R237): one named, another than that in effect, or in full. `fresh` is
false where the run that is recomputed has applied what it was asked for. -/
def State.ctxNew (s : State) (fresh : Bool) : Bool :=
  (s.fw.reapply ∧ fresh) ∨ (s.fw.wantCtx.isSome ∧ fresh) ∨ s.ctxWanted ≠ s.getF .DOM_BUD_CTRL_CTX_ACTIVE 0

/-- Whether CP1 changes the sharing for another reason than P_AIR. -/
def State.shareMoves (s : State) (fresh : Bool) : Bool :=
  s.ctxNew fresh ∨ s.fw.reapply ∨ ¬ s.fw.shared ∨ s.capWanted ≠ s.getF .DOM_BUD_CAP_P_CAP 0 ∨
    s.staggerWanted ≠ s.getF .DOM_BUD_CAP_STAGGER 0

/-- P_AIR that CP1 shares: the last one where nothing else changes, it has moved by less than 5 W and F_AIR stands below 32,768
(R267). -/
def State.pAirUsed (s : State) (fresh : Bool) : Nat :=
  let p := s.pAirNow
  if s.shareMoves fresh ∨ p ≥ s.fw.pAir + 5 ∨ s.fw.pAir ≥ p + 5 ∨ s.getF .THM_AIR_F_AIR 0 = 32768 then p else s.fw.pAir

/-- The position of a domain in the sharing: 0 to 2 by a class order, 3 infrastructure (R226). Budget classes: 0 compute, 1
memory, 2 link. -/
def State.sharePos (s : State) (order : List Nat) (d : Nat) : Nat :=
  let cls := match s.cfg.table.domClass d with
    | 0 => some 0
    | 2 => some 1
    | 3 => some 2
    | _ => none
  match cls with
  | none => 3
  | some c => ([0, 1, 2].find? (fun j => order.getD j 0 = c)).getD 3

/-- Whether CP1 has anything to share: a context or a cap asked for, a reapplication, or a sharing it already holds (R230). -/
def State.sharing (s : State) : Bool :=
  s.fw.shared ∨ s.fw.reapply ∨ s.fw.wantCtx.isSome ∨ s.capWanted ≠ s.getF .DOM_BUD_CAP_P_CAP 0 ∨
    s.staggerWanted ≠ s.getF .DOM_BUD_CAP_STAGGER 0

/-- The element references that CP1 writes: key of the element and value (R227). The class order and LINK_SHARE are those of
the context it applies, and else those its last application applied (R233). -/
def State.refsWanted (s : State) (fresh : Bool) : List (Nat × Nat) :=
  let p := s.pAirUsed fresh
  let ctx := s.ctxWanted
  let new := s.ctxNew fresh
  let order := if new then [s.ordAt ctx 0, s.ordAt ctx 1, s.ordAt ctx 2] else s.bud.ordApplied
  let link := min 0x1000 (if new then s.getF .DOM_BUD_CTX_OP_LINK_SHARE ctx else s.bud.linkApplied)
  let stag := min 16 s.staggerWanted
  let cap (d : Nat) : Nat := let j := s.sharePos order d; if j < 3 then (p - (3 - j) * stag) * 8 else p * 8
  let ox (n first : Nat) : List (Nat × Nat) :=
    if s.slotClass n = 0 then [] else (List.range (s.slotElems n)).map (fun k => (elemKey n k, cap (first + k)))
  let links := if s.slotClass 14 = 0 then [] else (List.range (s.slotElems 14)).map (fun k => (elemKey 14 k, link))
  ox 15 0 ++ (if s.extended then ox 19 256 else []) ++ links

/-- A staged entry of one field. -/
def fieldEntry (f : Fld) (item off v : Nat) : Entry :=
  { off := off, mask := f.ones * 2 ^ f.info.lo, val := v * 2 ^ f.info.lo, item := item }

/-- The entries of CP1's next commit, for the committed values of `s` (R227, R228, R368): those that differ, the context also
when it is named again, and all of them when CP1 reapplies in full. -/
def State.policyEntries (s : State) (fresh : Bool) : List Entry :=
  let all : Bool := s.fw.reapply ∧ fresh
  let one (f : Fld) (off v : Nat) : List Entry := if all ∨ s.getF f 0 ≠ v then [fieldEntry f 0 off v] else []
  let ctx := if s.ctxNew fresh then [fieldEntry .DOM_BUD_CTRL_CTX_ACTIVE 0 0x1B000 s.ctxWanted] else []
  let mode := match s.fw.wantMode with
    | none => []
    | some (m, st) => one .DOM_BUD_CTRL_MODE 0x1B000 m ++ one .DOM_BUD_CTRL_FIXED_STEP 0x1B000 st
  let cap := one .DOM_BUD_CAP_P_CAP 0x1B004 s.capWanted ++ one .DOM_BUD_CAP_STAGGER 0x1B004 s.staggerWanted ++
    one .DOM_BUD_CAP_WINDOW 0x1B004 (s.fw.wantWindow.getD (s.getF .DOM_BUD_CAP_WINDOW 0))
  let refs := if s.sharing then
    ((s.refsWanted fresh).filter (fun r => all ∨ s.getF .CE_ELEM_REF_REF r.1 ≠ r.2)).map (fun r =>
      fieldEntry .CE_ELEM_REF_REF r.1 0x60104 r.2) else []
  ctx ++ mode ++ cap ++ refs

/-- CP1 notes the sharing it commits, and what its run takes of what it is asked for. -/
def State.noteShare (s : State) (fresh : Bool) : State :=
  let s : State := { s with fw := { s.fw with taken := s.wantsNow } }
  if s.sharing then { s with fw := { s.fw with pAir := s.pAirUsed fresh, shared := true } } else s

/-- The state in which a run's epochs so far, the one in APPLY included, have applied. -/
def State.afterEpoch (s : State) (r : Run) : State :=
  let s := s.withDeferred
  if s.cmd.runState = 2 then s.rawPieces (r.epochs.getD (r.journal.length - 1) []) else s

/-- CP1's run with the epochs it has entered kept and the rest recomputed against the newest values (R231, R367); the rest stays
as it was where it would fail the checks of R357. -/
def State.recompute (s : State) (r : Run) (moving : Bool) : Run :=
  let t := if moving then s.afterEpoch r else s.withDeferred
  let es := t.policyEntries (¬ moving)
  let n := if moving then r.journal.length else 0
  let rest := t.sliceCp1 (piecesOf es)
  if moving ∧ (t.checkEpochs rest).isSome then r
  else { r with entries := es, pieces := piecesOf es, epochs := r.epochs.take n ++ rest }

/-- Entries join an initiator's set one after another; none where the store is full (R354). -/
def State.stageEntries (s : State) (init : Nat) (l : List Entry) : Option State :=
  match l with
  | [] => some s
  | e :: r => match s.stageEntry init e with
    | .ok t => t.stageEntries init r
    | _ => none

/-- The fields that entries write leave the sets of other initiators (R354). -/
def State.claimFields (s : State) (init : Nat) (l : List Entry) : State :=
  s.setSets ((s.cmd.sets.map (fun p => if p.1 = init then p else (p.1, { p.2 with entries := l.foldl withoutEntry p.2.entries }))).filter
    (fun p => p.2 ≠ StagedSet.empty))

/-- CP1 commits what differs from the values in effect, through its own set (R227, R228, R352, R355, R367, R368): a run of its
own that has not ended is recomputed, a new one waits behind any earlier run, and where nothing differs its packets
complete. -/
def State.cp1Commit (s : State) : State :=
  if s.cpSt 1 ≠ 2 then s
  else
    match s.cmd.runs.find? s.isCpRun with
    | some r =>
      let head : Bool := s.headRun = some r ∧ s.cmd.runState ≠ 0
      if head ∧ 4 ≤ s.cmd.runState then s
      else
        let moving : Bool := head ∧ 2 ≤ s.cmd.runState
        let r' := s.recompute r moving
        let s := (s.noteShare (¬ moving)).claimFields 0xF1 r'.entries
        (({ s with cmd := { s.cmd with runs := s.cmd.runs.map (fun x => if x = r then r' else x) } }).showRun).showStore
    | none =>
      let es := s.withDeferred.policyEntries true
      let s' := s.noteShare true
      if es = [] then (s'.answerCp1 stOk).dropTaken
      else
        match (s'.stageEntries 0xF1 es).bind (fun t => t.commitSet 0xF1 false false 0 false none none) with
        | some (t, r) => { t with fw := { t.fw with cpRun := some r.id } }
        | none => s

/-! ### Leases and standing requests (R347, R348) -/

/-- Whether a standing request belongs to a partner. -/
def Standing.ownedBy (r : Standing) (p : Nat) : Bool := r.owner = some p

/-- A standing request is withdrawn (R348). -/
def State.withdraw (s : State) (r : Standing) : State :=
  match r.kind with
  | .cap _ => s
  | .fixed => { s with fw := { s.fw with wantMode := some (0, s.getF .DOM_BUD_CTRL_FIXED_STEP 0) } }
  | .telemetry => s.writeEnable false
  | .capture => s.capDisarm
  | .herd => s.leaveHerd
  | .staged => s

/-- The standing requests of a partner are kept unowned, or withdrawn (R348). -/
def State.settleStanding (s : State) (p init : Nat) (keep : Bool) : State :=
  if keep then
    let staged : List Standing := if (s.stagedSet init).entries = [] then [] else [{ owner := none, init := init, kind := .staged }]
    let kept := s.cmd.standing.map (fun r => if r.ownedBy p then { r with owner := none } else r)
    { s with cmd := { s.cmd with standing := kept ++ staged } }
  else
    let mine := s.cmd.standing.filter (fun r => r.ownedBy p)
    let s := s.dropStanding (fun r => r.ownedBy p)
    let s := mine.foldl (fun t r => t.withdraw r) s
    s.putSet init StagedSet.empty

/-- Whether something keeps the converters in LOW_POWER: before the second step of release, in SAFE, LP_FORCE, or a power-stage
test (R307, R399). -/
def State.lowPowerHeld (s : State) : Bool :=
  s.boot_ < 5 ∨ (s.boot_ = 5 ∧ s.boot.release < 2) ∨ s.isSet .ADC_CTRL_LP_FORCE 0 ∨ s.lt.runs.any (fun p => p.1 = 4)

/-- Moves the converters to the mode that what keeps them there asks for (R307). -/
def State.lpUpdate (s : State) : State :=
  if s.lowPowerHeld = s.isSet .ADC_STATUS_LP_ACTIVE 0 then s else s.setLowPower s.lowPowerHeld

/-- Ends the link tests whose packet stands in a slot that a test picks; what a test cut short has counted is open (R456). -/
def State.dropTests (s : State) (pick : Nat → Bool) : State :=
  let gone := s.lt.runs.filter (fun p => pick p.2.1)
  let s : State := { s with lt := { s.lt with runs := s.lt.runs.filter (fun p => ¬ pick p.2.1) } }
  let s := s.each (gone.map (fun p => p.1)) (fun l s =>
    let s := s.setF .GLB_LT_STAT_STATE l 2
    let s := (s.fresh.2).setF .GLB_LT_STAT_LOCKED l s.fresh.1
    let s := (s.fresh.2).setF .GLB_LT_BITS_BITS l s.fresh.1
    let s := (s.fresh.2).setF .GLB_LT_ERRS_ERRS l s.fresh.1
    s.when (l < 4) (fun s => s.setPort l { s.port l with tested := false, sent := false, got := false }))
  s.when (gone.any (fun p => p.1 = 4)) State.lpUpdate

/-- The image loader is done with unit 0: after release it frees the lease it holds, and unit 0 carries its duty no more (R334,
R335). -/
def State.freeLoader (s : State) : State :=
  let s := s.when (s.isSet .CRC_LEASE_HELD 0 ∧ s.getF .CRC_LEASE_HOLDER 0 = 0xFF ∧ s.boot.released) (fun s =>
    (s.crcIdle 0).setF .CRC_LEASE_HELD 0 0)
  s.when (s.getF .CRC_STATUS_DUTY 0 = 4) (fun s => s.setF .CRC_STATUS_DUTY 0 0)

/-- A bank in LOADING returns to EMPTY (R372 to R374). -/
def State.dropLoading (s : State) : State :=
  if s.isSet .GLB_FW_LOAD_ACTIVE 0 then
    let b := s.getF .GLB_FW_LOAD_TARGET 0
    let s := ((s.setF .GLB_FW_IMG_STATE b 0).setF .GLB_FW_IMG_BYTES b 0).setF .GLB_FW_LOAD_ACTIVE 0 0
    let s : State := { s with fw := { s.fw with banks := s.fw.banks.erase b, verify := none } }
    s.freeLoader
  else s

/-- Every packet in flight of a partner completes ABANDONED, and what waited for it waits no longer. -/
def State.abandonSet (s : State) (p : Nat) : State :=
  let ks := (s.cmd.inflight.filter (fun q => q.1 / 8 = p)).map (fun q => q.1)
  let s := s.dropTests (fun k => k / 8 = p)
  (s.each ks (fun k s => (s.replyRaw k stAbandoned []).orphanSlot k)).serveIntake

/-- A partner enters RELEASED (R347, R348). -/
def State.releaseSet (s : State) (p : Nat) : State :=
  let init := s.getF .CMD_PART_ID_INITIATOR p
  let keep := s.getF .CMD_PART_ID_FLAGS p % 2 = 1
  let s := s.setF .CMD_PART_ID_STATE p 3
  let s := s.when (s.isSet .GLB_FW_LOAD_ACTIVE 0 ∧ s.getF .GLB_FW_LOAD_PARTNER 0 = p) (fun s => s.dropLoading)
  (s.abandonSet p).settleStanding p init keep

/-- Partners that are not FREE. -/
def State.showRegistered (s : State) : State :=
  s.setF .CMD_STATUS_REGISTERED 0 (((List.range 64).filter (fun p => s.partSt p ≠ 0)).length)

/-- A partner set becomes FREE. -/
def State.freeSet (s : State) (p : Nat) : State :=
  (((((((s.setF .CMD_PART_ID_STATE p 0).setF .CMD_PART_ID_FLAGS p 0).setF .CMD_PART_ID_CLASS p 0).setF .CMD_PART_ID_INITIATOR p 0).setF
    .CMD_PART_ID_REG_EPOCH_LO p 0).setF .CMD_PART_LEASE_LEASE_S p 0)).showRegistered

/-- Time until a partner's lease expires, in ms. -/
def State.leaseLeft (s : State) (p : Nat) : Nat :=
  ((s.partner p).last + s.getF .CMD_PART_LEASE_LEASE_S p * 100000000 - s.time) / 100000

end Sys2Proof.Machine
end

