-- ==== Sys2Proof/Machine/FaultOps.lean ====
section
/-! DEFINITION. Shared operations of the fault logic and the Goose (chapter Fault Collection and Reaction, R412 to R432). Source states:
0 CLEAR, 1 PENDING, 2 ESCALATED, 3 QUIET_WAIT, 4 LATCHED. A source has key 16 × SUB + CODE. -/

namespace Sys2Proof.Machine

/-! ### Records (R414 to R417) -/

/-- Class of a raise. -/
def Raise.cls (r : Raise) : Nat := sourceClass r.sub r.code

/-- Key of a raise's source. -/
def Raise.key (r : Raise) : Nat := 16 * r.sub + r.code

/-- The 16 bytes of a record (R414). -/
def FltRec.bytes (r : FltRec) : List Nat :=
  let kind := r.cls + (if r.esc then 4 else 0) + (if r.recov then 8 else 0) + (if r.fec then 16 else 0)
  [r.sub % 256, r.code % 16, kind, r.master % 256] ++ leBytes 2 r.index ++ leBytes 2 r.count ++ leBytes 8 r.time

/-- The highest acknowledged record. -/
def State.ackSeq (s : State) : Nat := s.getF .FLT_ACK_SEQ_ACK_SEQ 0

/-- The record that gives way to a new one: the oldest acknowledged, else the oldest corrected, else the oldest (R415). -/
def State.victim (s : State) : Option FltRec :=
  match s.flt.recs.find? (fun r => r.seq ≤ s.ackSeq) with
  | some r => some r
  | none => match s.flt.recs.find? (fun r => r.cls = 1) with
    | some r => some r
    | none => s.flt.recs.head?

/-- Makes room for a record: the store keeps 512 (R415). -/
def State.makeRoom (s : State) : State :=
  if s.flt.recs.length < 512 then s
  else match s.victim with
    | none => s
    | some v =>
      let s : State := { s with flt := { s.flt with recs := s.flt.recs.filter (fun r => r.seq ≠ v.seq) } }
      if v.seq ≤ s.ackSeq then s else (s.bumpF .FLT_LOST_LOST 0).raise 0x11 0 0

/-- Writes a new record, which interrupts CP2 (R415, R416). -/
def State.addRecord (s : State) (r : FltRec) : State :=
  let s := s.makeRoom
  let n := s.getF .FLT_SEQ_NEXT_SEQ 0
  let s : State := { s with flt := { s.flt with
    recs := s.flt.recs ++ [{ r with seq := n }], newest := s.flt.newest.put (16 * r.sub + r.code) n } }
  (s.incF .FLT_SEQ_NEXT_SEQ 0).emit (.irq 2)

/-- Whether a record is one of a raise's source and unit. -/
def FltRec.ofUnit (r : FltRec) (x : Raise) : Bool := r.sub = x.sub ∧ r.code = x.code ∧ r.index = x.index

/-- A raise is merged into the newest record of its SUB, CODE and INDEX, or gets one of its own (R415). -/
def State.recordRaise (s : State) (x : Raise) (fec : Bool) : State :=
  match s.flt.recs.reverse.find? (fun r => r.ofUnit x) with
  | some r =>
    if ¬ r.esc ∧ x.time < r.time + 100000 then
      let r' := { r with count := min 65535 (r.count + 1), fec := r.fec ∨ fec }
      { s with flt := { s.flt with recs := s.flt.recs.map (fun q => if q.seq = r.seq then r' else q) } }
    else s.addRecord { seq := 0, sub := x.sub, code := x.code, cls := x.cls, esc := false, recov := false, fec := fec,
                       master := x.master, index := x.index, count := 1, time := x.time }
  | none => s.addRecord { seq := 0, sub := x.sub, code := x.code, cls := x.cls, esc := false, recov := false, fec := fec,
                          master := x.master, index := x.index, count := 1, time := x.time }

/-- The first-error capture takes a raise, or counts it (R418). -/
def State.capture (s : State) (x : Raise) : State :=
  if s.isSet .FLT_FEC_INFO_VALID 0 then s.bumpF .FLT_FEC_MORE_MORE 0
  else
    let s := ((((s.setF .FLT_FEC_INFO_VALID 0 1).setF .FLT_FEC_INFO_MASTER 0 x.master).setF .FLT_FEC_INFO_TYPE 0 x.typ).setF
      .FLT_FEC_INFO_CODE 0 x.code).setF .FLT_FEC_INFO_SUB 0 x.sub
    (((s.setF .FLT_FEC_ADDR_LO_ADDR_LO 0 x.addr).setF .FLT_FEC_ADDR_HI_ADDR_HI 0 (x.addr / 2 ^ 32)).setF
      .FLT_FEC_TIME_LO_TIME_LO 0 x.time).setF .FLT_FEC_TIME_HI_TIME_HI 0 (x.time / 2 ^ 32)

/-- The fault logic takes a raise: RAISES, the capture and the record (R415, R418, R419). -/
def State.takeRaise (s : State) (x : Raise) : State :=
  let fec : Bool := ¬ s.isSet .FLT_FEC_INFO_VALID 0
  ((s.bumpF .FLT_SRC_RAISES x.key).capture x).recordRaise x fec

/-! ### Contained sources (R419 to R421) -/

/-- State of a source. -/
def State.srcSt (s : State) (key : Nat) : Nat := s.getF .FLT_SRC_STATE key

/-- Moves a source; the error pair follows (R424). -/
def State.setSrc (s : State) (key st : Nat) : State := (s.setF .FLT_SRC_STATE key st).showPair

/-- A source enters QUIET_WAIT, from which QUIET counts (R419). -/
def State.quietSrc (s : State) (key : Nat) : State :=
  ({ s with flt := { s.flt with pendTime := s.flt.pendTime.put key s.time } }).setSrc key 3

/-- WINDOW in ticks: 1 to 10,000 units of 10 µs (R419). -/
def State.windowTicks (s : State) : Nat := 1000 * clampN 1 10000 (s.getF .FLT_CTRL_WINDOW 0)

/-- QUIET in ticks: 1 to 6,000 units of 10 ms (R419). -/
def State.quietTicks (s : State) : Nat := 1000000 * clampN 1 6000 (s.getF .FLT_CTRL_QUIET 0)

/-- A source escalates, with a record of its own (R414, R419). -/
def State.escalate (s : State) (key index : Nat) (recov : Bool) : State :=
  (s.addRecord { seq := 0, sub := key / 16, code := key % 16, cls := 2, esc := true, recov := recov, fec := false,
                 master := 0xFE, index := index, count := 1, time := s.time }).setSrc key 2

/-- A contained raise meets its source (R419, R421). -/
def State.contained (s : State) (x : Raise) : State :=
  let thr := s.getF .FLT_CTRL2_REC_THR 0
  if s.srcSt x.key = 0 ∨ s.srcSt x.key = 3 then
    if thr ≠ 0 ∧ thr ≤ s.getF .FLT_SRC_REC_COUNT x.key then s.escalate x.key x.index true
    else
      let s : State := { s with flt := { s.flt with
        pendTime := s.flt.pendTime.put x.key x.time, pendIdx := s.flt.pendIdx.put x.key x.index } }
      s.setSrc x.key 1
  else s

/-- What sends a raise to the fault logic: the part its SUB names with the unit of its INDEX (DEDUCED, assumption 119). -/
def Raise.sender (r : Raise) : Nat × Nat := (r.sub, r.index)

/-- The k-th waiting raise of a class that a test picks, with the others left waiting. Raises of one sender arrive in the order
sent (R32), so one that stands behind an earlier raise of its sender, given in `seen`, does not count. -/
def pickRaise (test : Raise → Bool) (seen : List (Nat × Nat)) (l : List Raise) (k : Nat) : Option (Raise × List Raise) :=
  match l with
  | [] => none
  | x :: r =>
    if test x ∧ ¬ seen.contains x.sender then
      match k with
      | 0 => some (x, r)
      | k + 1 => (pickRaise test (x.sender :: seen) r k).map (fun p => (p.1, x :: p.2))
    else (pickRaise test seen r k).map (fun p => (p.1, x :: p.2))

/-- Whether a raise of a source waits to be taken (R421). -/
def State.raiseWaits (s : State) (key : Nat) : Bool := s.raiseQ.any (fun x => x.key = key)

/-- A source that is PENDING or ESCALATED and whose newest record is acknowledged enters QUIET_WAIT (R419 to R421). -/
def State.acknowledge (s : State) (key : Nat) : State :=
  let n := Tbl.get 0 s.flt.newest key
  if (s.srcSt key = 1 ∨ s.srcSt key = 2) ∧ 0 < n ∧ n ≤ s.ackSeq ∧ ¬ s.raiseWaits key then s.quietSrc key else s

/-! ### Fatal faults (R422, R423) -/

/-- The fatal stop has ended: SAFE with ERR 9; POWER_ON, FUSE_LOAD and SAFE stay (R398, R423). -/
def State.fatalDone (s : State) : State :=
  let s : State := { s with flt := { s.flt with stop := false } }
  let b := s.boot_
  s.when (b = 2 ∨ b = 3 ∨ b = 5 ∨ b = 6) (fun s => s.enterSafe 9)

/-- The groups in the order of the stop: each stops when the one before it has left STOP_RAMP (R423). -/
def State.fatalTurn (s : State) (l : List Nat) : State :=
  match l with
  | [] => s.fatalDone
  | g :: r =>
    if s.grp g = 0 ∨ s.grp g = 6 then s.fatalTurn r
    else if s.grp g = 7 then s
    else if s.grp g = 1 ∨ s.grp g = 5 then (s.groupFatal g).fatalTurn r
    else s.groupFatal g

/-- One turn of the fatal stop, once every domain is DARK or FENCED (R423). -/
def State.fatalAdvance (s : State) : State := if s.flt.stop ∧ s.allDown then s.fatalTurn stopOrder else s

/-- A fatal raise: the source is LATCHED, BL_PWR_OK falls, every gate closes and the stop begins (R422, R423). After a trip for the
heartbeat the ordered stop does not run (R428). -/
def State.fatal (s : State) (x : Raise) : State :=
  let first : Bool := ¬ s.isSet .FLT_STATUS_FATAL 0
  let s := (s.setSrc x.key 4).setF .FLT_STATUS_FATAL 0 1
  let s := s.when first (fun s => (s.setF .FLT_STATUS_FATAL_SUB 0 x.sub).setF .FLT_STATUS_FATAL_CODE 0 x.code)
  let s := s.setF .GLB_BOOT_STATUS_PWR_OK 0 0
  let s : State := { s with dom := { s.dom with gateAll := true } }
  let s := s.each s.doms (fun d s => s.showGate d)
  if x.key = 0x107 then s
  else
    let s : State := { s with flt := { s.flt with stop := true } }
    (s.each s.doms (fun d s => s.fatalQuiesce d)).fatalAdvance

/-! ### The Goose (R427 to R429) -/

/-- Every cell of the domains given opens. -/
def State.openCells (s : State) (l : List Nat) : State := s.each l (fun d s => s.cellsOff d)

/-- The outputs of a group shut: it reads LATCHED_OFF (R82, R429). VSTK that leaves STOP_RAMP so ends every quiesce at once
(R118, R127). -/
def State.shutGroup (s : State) (g : Nat) : State :=
  if s.grp g = 6 then s else (s.latchOff g).when (g = 0 ∧ s.grp 0 = 7) State.endQuiescing

/-- The outputs that a trip shuts: 0 to 3 the phases of a group, 4 every cell, 5 + d the cells of a domain (R427). -/
def gooseOutputs (code index : Nat) : List Nat :=
  match code with
  | 1 => [0, 4]
  | 2 => [5 + index]
  | 3 => [0, 4]
  | 4 => [0, 1, 2, 3, 4]
  | 5 => [index % 4]
  | 7 => [0, 1, 2, 3, 4]
  | _ => []

/-- Shuts outputs. -/
def State.gooseShuts (s : State) (l : List Nat) : State :=
  let s : State := { s with flt := { s.flt with gooseShut := s.flt.gooseShut ++ l.filter (fun o => ¬ s.flt.gooseShut.contains o) } }
  s.each l (fun o s =>
    if o < 4 then s.shutGroup o else if o = 4 then s.openCells s.doms else s.openCells [o - 5])

/-- A Goose trip: outputs shut, pair and BL_PWR_OK forced, the interlock set, a power-stage test ended, and the fatal source raised
(R375, R427 to R429, R456). -/
def State.gooseTrip (s : State) (code index : Nat) : State :=
  let s := s.when (¬ s.isSet .FLT_GOOSE_STATUS_TRIPPED 0) (fun s =>
    ((s.setF .FLT_GOOSE_STATUS_TRIPPED 0 1).setF .FLT_GOOSE_STATUS_CAUSE 0 code).setF .FLT_GOOSE_STATUS_INDEX 0 index)
  let s := ((s.setF .FLT_STATUS_GOOSE_FORCE 0 1).showPair).setF .GLB_BOOT_STATUS_PWR_OK 0 0
  let s := s.ilSet.gooseShuts (gooseOutputs code index)
  let tests := s.lt.runs.filter (fun p => p.1 = 4)
  let s := s.each (tests.map (fun p => p.2.1)) (fun k s => s.replyOp k 0x90 stInternal [])
  let s := s.dropTests (fun k => tests.any (fun p => p.2.1 = k))
  s.raise 0x10 code index

end Sys2Proof.Machine
end

