-- ==== Sys2Proof/Machine/Crypto.lean ====
section
/-! DEFINITION. The digest and the signature of a Cloren image: SHA-384 and ECDSA over the curve P-384, which R371 names. Words
are 64-bit numbers; points are pairs of coordinates, none the point at infinity. -/

namespace Sys2Proof.Machine

/-! ### SHA-384 -/

/-- Round constants 0 to 19. -/
def shaK0 : List Nat := [
  0x428A2F98D728AE22, 0x7137449123EF65CD, 0xB5C0FBCFEC4D3B2F, 0xE9B5DBA58189DBBC,
  0x3956C25BF348B538, 0x59F111F1B605D019, 0x923F82A4AF194F9B, 0xAB1C5ED5DA6D8118,
  0xD807AA98A3030242, 0x12835B0145706FBE, 0x243185BE4EE4B28C, 0x550C7DC3D5FFB4E2,
  0x72BE5D74F27B896F, 0x80DEB1FE3B1696B1, 0x9BDC06A725C71235, 0xC19BF174CF692694,
  0xE49B69C19EF14AD2, 0xEFBE4786384F25E3, 0x0FC19DC68B8CD5B5, 0x240CA1CC77AC9C65]

/-- Round constants 20 to 39. -/
def shaK1 : List Nat := [
  0x2DE92C6F592B0275, 0x4A7484AA6EA6E483, 0x5CB0A9DCBD41FBD4, 0x76F988DA831153B5,
  0x983E5152EE66DFAB, 0xA831C66D2DB43210, 0xB00327C898FB213F, 0xBF597FC7BEEF0EE4,
  0xC6E00BF33DA88FC2, 0xD5A79147930AA725, 0x06CA6351E003826F, 0x142929670A0E6E70,
  0x27B70A8546D22FFC, 0x2E1B21385C26C926, 0x4D2C6DFC5AC42AED, 0x53380D139D95B3DF,
  0x650A73548BAF63DE, 0x766A0ABB3C77B2A8, 0x81C2C92E47EDAEE6, 0x92722C851482353B]

/-- Round constants 40 to 59. -/
def shaK2 : List Nat := [
  0xA2BFE8A14CF10364, 0xA81A664BBC423001, 0xC24B8B70D0F89791, 0xC76C51A30654BE30,
  0xD192E819D6EF5218, 0xD69906245565A910, 0xF40E35855771202A, 0x106AA07032BBD1B8,
  0x19A4C116B8D2D0C8, 0x1E376C085141AB53, 0x2748774CDF8EEB99, 0x34B0BCB5E19B48A8,
  0x391C0CB3C5C95A63, 0x4ED8AA4AE3418ACB, 0x5B9CCA4F7763E373, 0x682E6FF3D6B2B8A3,
  0x748F82EE5DEFB2FC, 0x78A5636F43172F60, 0x84C87814A1F0AB72, 0x8CC702081A6439EC]

/-- Round constants 60 to 79. -/
def shaK3 : List Nat := [
  0x90BEFFFA23631E28, 0xA4506CEBDE82BDE9, 0xBEF9A3F7B2C67915, 0xC67178F2E372532B,
  0xCA273ECEEA26619C, 0xD186B8C721C0C207, 0xEADA7DD6CDE0EB1E, 0xF57D4F7FEE6ED178,
  0x06F067AA72176FBA, 0x0A637DC5A2C898A6, 0x113F9804BEF90DAE, 0x1B710B35131C471B,
  0x28DB77F523047D84, 0x32CAAB7B40C72493, 0x3C9EBE0A15C9BEBC, 0x431D67C49C100D4C,
  0x4CC5D4BECB3E42B6, 0x597F299CFC657E2A, 0x5FCB6FAB3AD6FAEC, 0x6C44198C4A475817]

/-- The round constants. -/
def shaK : List Nat := shaK0 ++ shaK1 ++ shaK2 ++ shaK3

/-- The initial hash value. -/
def shaH : List Nat := [
  0xCBBB9D5DC1059ED8, 0x629A292A367CD507, 0x9159015A3070DD17, 0x152FECD8F70E5939,
  0x67332667FFC00B31, 0x8EB44A8768581511, 0xDB0C2E0D64F98FA7, 0x47B5481DBEFA4FA4]

/-- A 64-bit sum. -/
def add64 (a b : Nat) : Nat := (a + b) % 2 ^ 64

/-- Rotation of a 64-bit word to the right. -/
def rotr (n x : Nat) : Nat := Nat.lor (x / 2 ^ n) (x * 2 ^ (64 - n) % 2 ^ 64)

/-- Exclusive or of three words. -/
def xor3 (a b c : Nat) : Nat := Nat.xor (Nat.xor a b) c

/-- The complement of a word. -/
def not64 (x : Nat) : Nat := 2 ^ 64 - 1 - x

/-- The words of a block's schedule, newest first, from the words so far (`n` words to go). -/
def shaSchedule (l : List Nat) (n : Nat) : List Nat :=
  match n with
  | 0 => l
  | n + 1 =>
    let w2 := l.getD 1 0
    let w15 := l.getD 14 0
    let s1 := xor3 (rotr 19 w2) (rotr 61 w2) (w2 / 2 ^ 6)
    let s0 := xor3 (rotr 1 w15) (rotr 8 w15) (w15 / 2 ^ 7)
    shaSchedule (add64 (add64 s1 (l.getD 6 0)) (add64 s0 (l.getD 15 0)) :: l) n

/-- One round on the working variables a to h with a schedule word and a constant. -/
def shaRound (v : List Nat) (wk : Nat × Nat) : List Nat :=
  let a := v.getD 0 0
  let b := v.getD 1 0
  let c := v.getD 2 0
  let e := v.getD 4 0
  let f := v.getD 5 0
  let g := v.getD 6 0
  let ch := Nat.xor (Nat.land e f) (Nat.land (not64 e) g)
  let maj := xor3 (Nat.land a b) (Nat.land a c) (Nat.land b c)
  let t1 := add64 (add64 (v.getD 7 0) (xor3 (rotr 14 e) (rotr 18 e) (rotr 41 e))) (add64 ch (add64 wk.1 wk.2))
  let t2 := add64 (xor3 (rotr 28 a) (rotr 34 a) (rotr 39 a)) maj
  [add64 t1 t2, a, b, c, add64 (v.getD 3 0) t1, e, f, g]

/-- The number that bytes spell, the first the highest. -/
def beNat (l : List Nat) : Nat := l.foldl (fun a b => a * 256 + b) 0

/-- One block of 128 bytes. -/
def shaBlock (h : List Nat) (block : List Nat) : List Nat :=
  let w := (List.range 16).map (fun i => beNat ((block.drop (8 * i)).take 8))
  let ws := (shaSchedule w.reverse 64).reverse
  let v := (ws.zip shaK).foldl shaRound h
  (h.zip v).map (fun p => add64 p.1 p.2)

/-- A message with its padding: bit 1, zeros, and the length in bits in 16 bytes. -/
def shaPad (l : List Nat) : List Nat :=
  let n := l.length
  let z := (128 - (n + 17) % 128) % 128
  l ++ [0x80] ++ List.replicate z 0 ++ (List.range 16).map (fun i => 8 * n / 256 ^ (15 - i) % 256)

/-- The blocks of a padded message, `n` of them. -/
def shaBlocks (h l : List Nat) (n : Nat) : List Nat :=
  match n with
  | 0 => h
  | n + 1 => shaBlocks (shaBlock h (l.take 128)) (l.drop 128) n

/-- The SHA-384 digest of bytes: 48 bytes. -/
def sha384 (l : List Nat) : List Nat :=
  let p := shaPad l
  ((shaBlocks shaH p (p.length / 128)).take 6).flatMap (fun w => (List.range 8).map (fun i => w / 256 ^ (7 - i) % 256))

/-! ### ECDSA over P-384 -/

/-- The prime of the field. -/
def ecP : Nat := 2 ^ 384 - 2 ^ 128 - 2 ^ 96 + 2 ^ 32 - 1

/-- The coefficient b of the curve; a is -3. -/
def ecB : Nat := 0xB3312FA7E23EE7E4988E056BE3F82D19181D9C6EFE8141120314088F5013875AC656398D8A2ED19D2A85C8EDD3EC2AEF

/-- The order of the base point. -/
def ecN : Nat := 0xFFFFFFFFFFFFFFFFFFFFFFFFFFFFFFFFFFFFFFFFFFFFFFFFC7634D81F4372DDF581A0DB248B0A77AECEC196ACCC52973

/-- The base point. -/
def ecG : Option (Nat × Nat) := some (
  0xAA87CA22BE8B05378EB1C71EF320AD746E1D3B628BA79B9859F741E082542A385502F25DBF55296C3A545E3872760AB7,
  0x3617DE4A96262C6F5D9E98BF9292DC29F8F41DBD289A147CE9DA3113B5F0B8C00A60B1CE1D7E819D7A431D7C90EA0E5F)

/-- A power modulo `m`, by the `n` low bits of the exponent. -/
def powMod (m b e n : Nat) : Nat :=
  match n with
  | 0 => 1
  | n + 1 =>
    let r := powMod m (b * b % m) (e / 2) n
    if e % 2 = 1 then r * b % m else r

/-- The inverse modulo a prime. -/
def invMod (m a : Nat) : Nat := powMod m (a % m) (m - 2) 384

/-- A difference modulo `m`. -/
def subMod (m a b : Nat) : Nat := (a + m - b % m) % m

/-- The sum of two points. -/
def ecAdd (s t : Option (Nat × Nat)) : Option (Nat × Nat) :=
  match s, t with
  | none, q => q
  | p, none => p
  | some (x1, y1), some (x2, y2) =>
    if x1 = x2 ∧ (y1 + y2) % ecP = 0 then none
    else
      let l := if x1 = x2 then subMod ecP (3 * x1 * x1) 3 * invMod ecP (2 * y1) % ecP
        else subMod ecP y2 y1 * invMod ecP (subMod ecP x2 x1) % ecP
      let x := subMod ecP (l * l) (x1 + x2)
      some (x, subMod ecP (l * subMod ecP x1 x) y1)

/-- A multiple of a point, by the `n` low bits of the factor. -/
def ecMul (p : Option (Nat × Nat)) (k n : Nat) : Option (Nat × Nat) :=
  match n with
  | 0 => none
  | n + 1 =>
    let r := ecMul (ecAdd p p) (k / 2) n
    if k % 2 = 1 then ecAdd r p else r

/-- Whether a point lies on the curve. -/
def ecOn (x y : Nat) : Bool := x < ecP ∧ y < ecP ∧ y * y % ecP = (x * x * x + (ecP - 3) * x + ecB) % ecP

/-- Whether a signature (r, s) of a digest verifies under a public key. -/
def ecdsaOk (qx qy r s e : Nat) : Bool :=
  let w := invMod ecN s
  ecOn qx qy ∧ 1 ≤ r ∧ r < ecN ∧ 1 ≤ s ∧ s < ecN ∧
    (ecAdd (ecMul ecG (e * w % ecN) 384) (ecMul (some (qx, qy)) (r * w % ecN) 384)).any (fun p => p.1 % ecN = r)

end Sys2Proof.Machine
end

