-- ==== Sys2Proof/Machine/ThermalOps.lean ====
section
/-! DEFINITION. Shared operations of thermal sensing and throttling (chapter Thermal Sensing and Throttling, R246 to R268).
Temperatures are in 1/8 °C. Sensor states: 0 HEALTHY, 1 BROKEN, 2 MASKED. Clamp states: 0 NONE, 1 DESCEND, 2 HOLD,
3 RELEASE. -/

namespace Sys2Proof.Machine

/-! ### Numbering (R246) -/

/-- The number of on-die sensors, S_D. -/
def State.onDie (s : State) : Nat := 6 * s.cfg.table.tiles + 4 * (s.cfg.table.domains - s.cfg.table.tiles)

/-- The sensors of a domain's hot spot. -/
def State.domSns (s : State) (d : Nat) : List Nat :=
  let t := s.cfg.table.tiles
  if d < t then (List.range 6).map (fun i => 6 * d + i) else (List.range 4).map (fun i => 6 * t + 4 * (d - t) + i)

/-- The sensors of a die. -/
def State.dieSns (s : State) (j : Nat) : List Nat := (List.range 8).map (fun i => s.onDie + 8 * j + i)

/-- The partner of a sensor. -/
def partnerOf (x : Nat) : Nat := if x % 2 = 0 then x + 1 else x - 1

/-! ### Sensors (R249 to R253) -/

/-- A sensor before its first sample. -/
def SnsState.empty : SnsState :=
  { good := [], failRun := 0, recheck := false, recheckBad := false, recheckRun := 0, pairRun := 0 }

/-- A sensor's runs. -/
def State.sns (s : State) (x : Nat) : SnsState := Tbl.get SnsState.empty s.thm.sns x

/-- Replaces a sensor's runs. -/
def State.setSns (s : State) (x : Nat) (r : SnsState) : State :=
  { s with thm := { s.thm with sns := Tbl.putD SnsState.empty s.thm.sns x r } }

/-- State of a sensor. -/
def State.snsSt (s : State) (x : Nat) : Nat := s.getF .THM_SNS_STATE x

/-- The even sensor of a sensor's pair, which holds what the pair has in common. -/
def pairOf (x : Nat) : Nat := x / 2 * 2

/-- Moves a sensor to a state: its results so far count no more, and a pair that no longer has two healthy partners does not
disagree (R251, R254). -/
def State.snsGo (s : State) (x st : Nat) : State :=
  let s := (s.setF .THM_SNS_STATE x st).setSns x SnsState.empty
  let s := s.setSns (pairOf x) { s.sns (pairOf x) with pairRun := 0 }
  s.when (st ≠ 0) (fun s => (s.setF .THM_SNS_DISAGREE x 0).setF .THM_SNS_DISAGREE (partnerOf x) 0)

/-- Whether a result lies in the range of R249. -/
def inRange (v : Int) : Bool := -320 ≤ v ∧ v ≤ 1200

/-- The last result that passed stands in for a healthy sensor without a good result at this tick (R249). -/
def State.standIn (s : State) (x : Nat) : State :=
  let r := s.sns x
  match r.good with
  | [] => s
  | g :: _ => s.setSns x { r with good := (g :: r.good).take 5 }

/-- A healthy sensor is BROKEN for a cause (R249). -/
def State.snsBreak (s : State) (x cause : Nat) : State :=
  (((s.snsGo x 1).setF .THM_SNS_CAUSE x cause).bumpF .THM_COUNT_BROKEN_COUNT 0).event .THM_EVENT_BROKEN 0 0x07 x

/-- A sample of a sensor fails R249 for a cause: 1 range, 2 conversion not completed. Two in a row break a healthy sensor; one
fails a recheck. -/
def State.snsFail (s : State) (x cause : Nat) : State :=
  let r := s.sns x
  match s.snsSt x with
  | 0 =>
    if r.failRun = 0 then s.setSns x { r with failRun := 1 } else s.snsBreak x cause
  | 1 => if r.recheck then s.setSns x { r with recheckBad := true, recheckRun := r.recheckRun + 1 } else s
  | _ => s

/-- A result of a sensor (R247, R249). -/
def State.snsSample (s : State) (x : Nat) (v : Int) : State :=
  let s := s.setS .THM_SNS_READING x (clampI (-2048) 2047 v)
  if inRange v then
    if s.snsSt x = 0 then
      let r := s.sns x
      s.setSns x { r with good := (v :: r.good).take 5, failRun := 0 }
    else
      let r := s.sns x
      if r.recheck then s.setSns x { r with recheckRun := r.recheckRun + 1 } else s
  else (if s.snsSt x = 0 then s.standIn x else s).snsFail x 1

/-- Whether two healthy partners differ by more than 6 °C at this publication; none where the pair is not compared (R251). -/
def State.pairFar (s : State) (x : Nat) : Option Bool :=
  let p := partnerOf x
  match s.snsSt x, s.snsSt p, (s.sns x).good, (s.sns p).good with
  | 0, 0, a :: _, b :: _ => some (48 < (a - b).natAbs)
  | _, _, _, _ => none

/-- One publication of a pair counts toward the change of DISAGREE, or starts its 100 ms anew (R251). -/
def State.pairCount (s : State) (x : Nat) : State :=
  let r := s.sns x
  let against : Bool := (s.pairFar x).any (fun far => far ≠ s.isSet .THM_SNS_DISAGREE x)
  s.setSns x { r with pairRun := if against then r.pairRun + 1 else 0 }

/-! ### Hot spots (R248, R250, R254, R255) -/

/-- CMP_LIMIT in 1/8 °C. -/
def State.cmpLimit (s : State) : Int := 8 * min 105 (s.getF .THM_LIMIT_CMP_LIMIT 0)

/-- MEM_LIMIT in 1/8 °C. -/
def State.memLimit (s : State) : Int := 8 * min 100 (s.getF .THM_LIMIT_MEM_LIMIT 0)

/-- The reference of slot 12 in effect for a domain, its extension slot 18's from domain 256 on, or of slot 13 for a die (R164,
R250). -/
def State.hotRef (s : State) (die : Bool) (i : Nat) : Int :=
  if die then s.elemRef 13 i else if i < 256 then s.elemRef 12 i else s.elemRef 18 (i - 256)

/-- The substitute of a broken sensor of a domain, or of a die (R250). -/
def State.snsSubst (s : State) (die : Bool) (i : Nat) : Int :=
  let ref := rne (s.hotRef die i) 4 + s.getF .THM_LIMIT_BROKEN_DELTA 0
  if die then min (min ref (s.memLimit - 8)) 760 else min ref (s.cmpLimit - 8)

/-- What a hot spot shows after a tick: its maximum, none without a contributing sensor, whether a substitute stands in it, and
its rate (R248, R254). -/
def State.hotSpot (s : State) (l : List Nat) (sub : Int) : Option Int × Bool × Int :=
  let vals := l.flatMap (fun x =>
    if s.snsSt x = 1 then [sub] else if s.snsSt x = 0 then (s.sns x).good.take 1 else [])
  let rates := l.flatMap (fun x =>
    let g := (s.sns x).good
    if s.snsSt x = 0 ∧ g.length = 5 then [5 * (g.getD 0 0 - g.getD 4 0)] else [])
  let top (l : List Int) : Option Int := match l with
    | [] => none
    | v :: r => some (r.foldl max v)
  (top vals, l.any (fun x => s.snsSt x = 1), (top rates).getD 0)

/-- The runs of a hot spot. -/
def State.hot (s : State) (die : Bool) (i : Nat) : HotRun := Tbl.get HotRun.empty (if die then s.thm.die else s.thm.dom) i

/-- Replaces the runs of a hot spot. -/
def State.setHot (s : State) (die : Bool) (i : Nat) (r : HotRun) : State :=
  if die then { s with thm := { s.thm with die := Tbl.putD HotRun.empty s.thm.die i r } }
  else { s with thm := { s.thm with dom := Tbl.putD HotRun.empty s.thm.dom i r } }

/-- Whether a hot spot is in alarm, in emergency, or in its limit condition. -/
def State.hotFlags (s : State) (die : Bool) (i : Nat) : Bool × Bool × Bool :=
  let r := s.hot die i
  (2 ≤ r.alarmRun, 2 ≤ r.emergRun, r.limit)

/-- Alarm and emergency thresholds of a kind of hot spot (R255). -/
def State.rateThr (s : State) (die : Bool) : Nat × Nat :=
  let a := s.getF (if die then .THM_RATE_THR_MEM_ALARM else .THM_RATE_THR_CMP_ALARM) 0
  (a, max a (s.getF (if die then .THM_RATE_THR_MEM_EMERG else .THM_RATE_THR_CMP_EMERG) 0))

/-- The detectors of a hot spot meet its new maximum and rate (R255, R259). -/
def State.hotDetect (s : State) (die : Bool) (i : Nat) (v : Option Int) (rate : Int) : State :=
  let thr := s.rateThr die
  let old := s.hot die i
  let r : HotRun :=
    { published := v ≠ none
      alarmRun := if (thr.1 : Int) ≤ rate then min 2 (old.alarmRun + 1) else 0
      emergRun := if (thr.2 : Int) ≤ rate then min 2 (old.emergRun + 1) else 0
      limit := v.any (fun t => (if die then s.memLimit else s.cmpLimit) ≤ t) }
  let s := (s.setHot die i r).when (r.emergRun = 2 ∨ r.limit) State.ilSet
  let s := s.when (r.alarmRun = 2 ∧ old.alarmRun ≠ 2) (fun s => s.event .THM_EVENT_ALARM 0 0x07 i)
  let s := s.when (r.emergRun = 2 ∧ old.emergRun ≠ 2) (fun s =>
    ((s.bumpF .THM_COUNT_EMERG_COUNT 0).event .THM_EVENT_EMERG 0 0x07 i).when (¬ die) (fun s => s.capEvent 5 i))
  s.when (r.limit ∧ ¬ old.limit) (fun s => (s.bumpF .THM_COUNT_LIMIT_COUNT 0).event .THM_EVENT_LIMIT 0 0x07 i)

/-- Publishes the hot spot of a domain (R248, R254, R309). -/
def State.publishHot (s : State) (d : Nat) : State :=
  let h := s.hotSpot (s.domSns d) (s.snsSubst false d)
  let s := (s.hotDetect false d h.1 h.2.2).setB .THM_DOM_SUBST d h.2.1
  let s := s.setS .THM_DOM_RATE d (clampI (-512) 511 h.2.2)
  let s := (s.setB .THM_DOM_ALARM_ST d (s.hotFlags false d).1).setB .THM_DOM_EMERG_ST d (s.hotFlags false d).2.1
  match h.1 with
  | none => s
  | some t =>
    let s := s.setS .THM_DOM_T_HOT d t
    if s.metered d then
      let a := s.acc d
      s.setAcc d { a with
        tSum := a.tSum + t, tCount := a.tCount + 1, tSubst := a.tSubst ∨ h.2.1,
        tMax := some (match a.tMax with
          | none => t
          | some m => max m t) }
    else s

/-- Publishes the hot spot of a die. -/
def State.publishDie (s : State) (j : Nat) : State :=
  let h := s.hotSpot (s.dieSns j) (s.snsSubst true j)
  let s := (s.hotDetect true j h.1 h.2.2).setB .THM_DIE_SUBST j h.2.1
  let s := s.setS .THM_DIE_RATE j (clampI (-512) 511 h.2.2)
  let s := (s.setB .THM_DIE_ALARM_ST j (s.hotFlags true j).1).setB .THM_DIE_EMERG_ST j (s.hotFlags true j).2.1
  match h.1 with
  | none => s
  | some t => s.setS .THM_DIE_T_DRAM j t

/-! ### The thermal clamp (R259, R260) -/

/-- The dies of a tower. -/
def towerDies (w : Nat) : List Nat := (List.range 8).map (fun l => 8 * w + l)

/-- The tiles above a tower. -/
def State.tilesOver (s : State) (w : Nat) : List Nat :=
  (List.range s.cfg.table.towerTiles).map (fun i => w * s.cfg.table.towerTiles + i)

/-- Clamp state of a unit. -/
def State.clSt (s : State) (tower : Bool) (i : Nat) : Nat := s.getF (if tower then .THM_TWR_CL_STATE else .THM_DOM_CL_STATE) i

/-- Clamp step C of a unit. -/
def State.clC (s : State) (tower : Bool) (i : Nat) : Nat := s.getF (if tower then .THM_TWR_CLAMP else .THM_DOM_CLAMP) i

/-- The domains a unit clamps. -/
def State.clTargets (s : State) (tower : Bool) (i : Nat) : List Nat := if tower then s.tilesOver i else [i]

/-- The reference step of a unit. -/
def State.clRef (s : State) (tower : Bool) (i : Nat) : Nat :=
  ((s.clTargets tower i).map (fun d => s.getF .DOM_STATUS_STEP d)).foldl max 0

/-- Where the record of a unit's waits stands. -/
def clKey (tower : Bool) (i : Nat) : Nat := if tower then 512 + i else i

/-- The waits of a unit run from now on (R259). -/
def State.clMark (s : State) (tower : Bool) (i : Nat) : State :=
  { s with thm := { s.thm with clSince := s.thm.clSince.put (clKey tower i) s.time } }

/-- Whether a wait of a number of milliseconds, 0 used as 1, has passed for a unit (R259). -/
def State.clWaited (s : State) (tower : Bool) (i ms : Nat) : Bool :=
  100000 * max 1 ms ≤ s.time - Tbl.get 0 s.thm.clSince (clKey tower i)

/-- Sets a unit's state and step, from which its waits run; the ladders it clamps follow. -/
def State.clSet (s : State) (tower : Bool) (i st c : Nat) : State :=
  let s := s.clMark tower i
  if s.clSt tower i = st ∧ s.clC tower i = c then s
  else
    let s := (s.setF (if tower then .THM_TWR_CL_STATE else .THM_DOM_CL_STATE) i st).setF
      (if tower then .THM_TWR_CLAMP else .THM_DOM_CLAMP) i c
    let s := s.when (st = 1) State.ilSet
    s.each (s.clTargets tower i) (fun d s => s.rearb 4 d)

/-- Whether a hot spot of a unit is in alarm, in emergency, or in its limit condition. -/
def State.clFlags (s : State) (tower : Bool) (i : Nat) : Bool × Bool × Bool :=
  if tower then
    let l := (towerDies i).map (fun j => s.hotFlags true j)
    (l.any (fun f => f.1), l.any (fun f => f.2.1), l.any (fun f => f.2.2))
  else s.hotFlags false i

/-- One tick of a unit; an alarm in HOLD starts RELEASE_MS anew. -/
def State.clTick (s : State) (tower : Bool) (i : Nat) : State :=
  let f := s.clFlags tower i
  let st := s.clSt tower i
  let c := s.clC tower i
  if st = 1 then
    if f.1 ∨ f.2.2 then s.clSet tower i 1 (c - 1) else s.clSet tower i 2 c
  else if f.2.1 ∨ f.2.2 then s.clSet tower i 1 (min c (s.clRef tower i) - 1)
  else if st = 3 ∧ f.1 then s.clSet tower i 2 c
  else if st = 2 ∧ f.1 then s.clMark tower i
  else s

/-! ### Towers (R261, R264) -/

/-- A tower's runs. -/
def State.twr (s : State) (w : Nat) : TwrRun := Tbl.get TwrRun.empty s.thm.twr w

/-- Replaces a tower's runs. -/
def State.setTwr (s : State) (w : Nat) (r : TwrRun) : State :=
  { s with thm := { s.thm with twr := Tbl.putD TwrRun.empty s.thm.twr w r } }

/-- Drives the write-permit of a tower; a fall raises WP_OFF. -/
def State.setWp (s : State) (w : Nat) (b : Bool) : State :=
  if s.isSet .THM_TWR_WP w = b then s
  else
    let s := (s.setB .THM_TWR_WP w b).emit (.writePermit w b)
    s.when (¬ b) (fun s => (s.bumpF .THM_COUNT_WP_COUNT 0).event .THM_EVENT_WP_OFF 0 0x07 w)

/-- Whether every die of a tower has a healthy sensor. -/
def State.diesSensed (s : State) (w : Nat) : Bool := (towerDies w).all (fun j => (s.dieSns j).any (fun x => s.snsSt x = 0))

/-- The healthy die sensors of a tower. -/
def State.towerSns (s : State) (w : Nat) : List Nat :=
  (towerDies w).flatMap (fun j => (s.dieSns j).filter (fun x => s.snsSt x = 0))

/-- The write-permit of a tower at a tick: it falls at once, and rises after 10 good ticks in a row, not before release. -/
def State.wpTick (s : State) (w : Nat) : State :=
  let got := (s.towerSns w).map (fun x => (s.thm.period.find? (fun p => p.1 = x)).map (fun p => p.2))
  let t := s.twr w
  let bad : Bool := t.lost ∨ ¬ s.diesSensed w ∨ got.any (fun v => v.any (fun v => v < 0 ∨ 760 < v))
  let fine : Bool := s.isSet .THM_TWR_SB_OK w ∧ s.diesSensed w ∧ got.all (fun v => v.any (fun v => 16 ≤ v ∧ v ≤ 744))
  let n := if fine then min 10 (t.wpRun + 1) else 0
  let s := s.setTwr w { t with wpRun := n }
  if bad then s.setWp w false else if n = 10 ∧ s.boot.released then s.setWp w true else s

/-- Shows the hottest die of a tower. -/
def State.showTower (s : State) (w : Nat) : State :=
  let l := (towerDies w).filter (fun j => (s.hot true j).published)
  match l with
  | [] => s
  | j :: r =>
    let b := r.foldl (fun b j => if s.getS .THM_DIE_T_DRAM b < s.getS .THM_DIE_T_DRAM j then j else b) j
    (s.setF .THM_TWR_HOT_LAYER w (b % 8)).setS .THM_TWR_T_MAX w (s.getS .THM_DIE_T_DRAM b)

/-! ### The fuse gate (R263) -/

/-- Shows whether fuses may be programmed, and the ends of the healthy on-die readings. -/
def State.showFuse (s : State) : State :=
  let l := List.range s.onDie
  let h := l.filter (fun x => s.snsSt x = 0)
  let got := h.filter (fun x => (s.sns x).good ≠ [] ∨ (s.sns x).failRun ≠ 0)
  let r := got.map (fun x => s.getS .THM_SNS_READING x)
  let ok : Bool := l.all (fun x => s.snsSt x ≠ 1) ∧ got.length = h.length ∧ r.all (fun v => 0 ≤ v ∧ v ≤ 680)
  let s := s.setB .THM_FUSE_FUSE_OK 0 ok
  match r with
  | [] => s
  | v :: t => (s.setS .THM_FUSE_T_DIE_MAX 0 (t.foldl max v)).setS .THM_FUSE_T_DIE_MIN 0 (t.foldl min v)

/-! ### Forecast (R268) -/

/-- The energy in the bins of a tile. -/
def State.binSum (s : State) (tile : Nat) : Nat × Nat :=
  (List.range 50).foldl (fun a b => match s.thm.bins.find? (fun p => p.1 = 50 * tile + b) with
    | none => a
    | some p => addFrac a p.2) (0, 1)

/-- Forms P_fc and T_FCST of a domain; 50 ms of 1/1,024 W are 48,828,125,000 fJ. -/
def State.forecastDom (s : State) (d : Nat) : State :=
  if ¬ (s.hot false d).published then s
  else
    let p := (s.estDom d).pDom
    let t := s.getS .THM_DOM_T_HOT d
    let e := if d < s.cfg.table.tiles then s.binSum d else (0, 1)
    let q := s.openDiv e.1 (e.2 * 48828125000)
    let s := q.2
    let pf : Int := max (p : Int) q.1
    let v := if d < s.cfg.table.tiles then t + rne ((s.getF .THM_FCST_CFG_KF 0 : Int) * (pf - p)) 15 else t
    (s.setF .THM_DOM_FCST_P_FC d (min 65535 pf.toNat)).setS .THM_DOM_FCST_T_FCST d (clampI (-2048) 2047 v)

/-! ### MASK_SENSOR (R252) -/

/-- Masks (1) or unmasks (2) a sensor: whether it is permitted, and the state after it. -/
def State.maskMove (s : State) (x act : Nat) : Bool × State :=
  let st := s.snsSt x
  if act = 2 then (true, if st = 2 then s.snsGo x 0 else s)
  else if st = 2 then (false, s)
  else if s.snsSt (partnerOf x) = 0 ∧ (st = 1 ∨ s.isSet .THM_SNS_DISAGREE x) then (true, s.snsGo x 2)
  else (false, s)

end Sys2Proof.Machine
end

