-- ==== Sys2Proof/Machine/FwOps.lean ====
section
/-! DEFINITION. Shared operations of processors and Cloren images (chapter Control Processors and Firmware, R361 to R385). Image
states: 0 EMPTY, 1 LOADING, 2 VERIFIED, 3 ARMED, 4 ACTIVE, 5 RETIRED. -/

namespace Sys2Proof.Machine

/-! ### The image (R369 to R371, R373) -/

/-- State of a bank. -/
def State.bankSt (s : State) (b : Nat) : Nat := s.getF .GLB_FW_IMG_STATE b

/-- The bytes of a bank. -/
def State.bank (s : State) (b : Nat) : List Nat := Tbl.get [] s.fw.banks b

/-- One segment: processor, kind, reserved bytes, offset in the image, length and load address. -/
structure Segment where
  cp : Nat
  kind : Nat
  res : Nat
  ofs : Nat
  len : Nat
  load : Nat
deriving DecidableEq, Repr

/-- The segment table of an image. -/
def imgSegments (b : List Nat) : List Segment :=
  (List.range (leAt b 22 1)).map (fun i =>
    let e := (b.drop (32 + 12 * i)).take 12
    { cp := leAt e 0 1, kind := leAt e 1 1, res := leAt e 2 2, ofs := leAt e 4 4, len := leAt e 8 4 % 2 ^ 18,
      load := leAt e 8 4 / 2 ^ 18 * 16 })

/-- Whether two runs of bytes are disjoint. -/
def apart (a n b m : Nat) : Bool := a + n ≤ b ∨ b + m ≤ a

/-- Whether each element of a list and each later one pass a test. -/
def eachPair (f : Segment → Segment → Bool) (l : List Segment) : Bool :=
  match l with
  | [] => true
  | x :: r => r.all (f x) && eachPair f r

/-- Check 1: the header. -/
def imgHeaderOk (b : List Nat) : Bool :=
  leAt b 16 4 = b.length ∧ leAt b 0 4 = 0x4E524C43 ∧ leAt b 4 2 = 1 ∧ leAt b 6 2 = 256 ∧ leAt b 24 4 = 0xF

/-- Check 2: the segment table obeys R370; segments lie between the header and the signature block, and in the SRAM. -/
def imgSegmentsOk (b : List Nat) : Bool :=
  let l := imgSegments b
  1 ≤ leAt b 22 1 ∧ leAt b 22 1 ≤ 16 ∧
    l.all (fun x => x.cp ≤ 3 ∧ (x.kind = 1 ∨ x.kind = 2) ∧ x.res = 0 ∧ x.ofs % 16 = 0 ∧ 256 ≤ x.ofs ∧
      x.ofs + x.len + 192 ≤ b.length ∧ x.load + x.len ≤ 0x40000) ∧
    eachPair (fun x y => apart x.ofs x.len y.ofs y.len) l ∧
    eachPair (fun x y => x.cp ≠ y.cp ∨ apart x.load x.len y.load y.len) l ∧
    [0, 1, 2, 3].all (fun c =>
      ((l.filter (fun x => x.cp = c ∧ x.kind = 2)).map (fun x => x.len)) = [224] ∧ l.any (fun x => x.cp = c ∧ x.kind = 1))

/-- Check 5: the signature over bytes 0 to TOTAL_LEN − 97. -/
def imgSigned (b : List Nat) : Bool :=
  let sig := b.drop (b.length - 192)
  let num (i : Nat) : Nat := beNat ((sig.drop (48 * i)).take 48)
  ecdsaOk (num 0) (num 1) (num 2) (num 3) (beNat (sha384 (b.take (b.length - 96))))

/-- The first failing check of R373, 0 where all pass. -/
def State.imgError (s : State) (b : List Nat) : Nat :=
  if ¬ imgHeaderOk b then 1
  else if ¬ imgSegmentsOk b then 2
  else if sha384 ((b.drop (b.length - 192)).take 96) ≠ s.cfg.fuses.keyDigest then 3
  else if leAt b 20 2 < s.getF .GLB_FW_CTRL_MIN_SVN 0 then 4
  else if ¬ imgSigned b then 5
  else 0

/-- IF_VERSION of the image in a bank. -/
def State.ifVersion (s : State) (b : Nat) : Nat := leAt (s.bank b) 12 4

/-! ### Loading (R372) -/

/-- The bank that the loader fills: the one that loads, else the lowest that no processor runs. -/
def State.loadTarget (s : State) : Option Nat :=
  if s.isSet .GLB_FW_LOAD_ACTIVE 0 then some (s.getF .GLB_FW_LOAD_TARGET 0)
  else [0, 1].find? (fun b => s.getF .GLB_FW_IMG_RUN_MASK b = 0 ∧ s.bankSt b ≠ 4)

/-- The reply payload of LOAD_IMAGE. -/
def State.loadBytes (s : State) (b : Nat) : List Nat := [s.bankSt b, 0, 0, 0] ++ leBytes 4 (s.getF .GLB_FW_IMG_BYTES b)

/-- A bank is emptied and begins LOADING for a partner; the loader claims unit 0. -/
def State.beginLoading (s : State) (b set : Nat) : State :=
  let s := ((s.setF .GLB_FW_IMG_STATE b 1).setF .GLB_FW_IMG_BYTES b 0).setF .GLB_FW_IMG_DAMAGED b 0
  let s := ((s.setF .GLB_FW_LOAD_ACTIVE 0 1).setF .GLB_FW_LOAD_TARGET 0 b).setF .GLB_FW_LOAD_PARTNER 0 set
  let s : State := { s with fw := { s.fw with banks := s.fw.banks.put b [], verify := none } }
  ((s.setF .CRC_LEASE_HELD 0 1).setF .CRC_LEASE_HOLDER 0 0xFF).setF .CRC_STATUS_DUTY 0 4

/-- The loader frees unit 0 and its bank leaves LOADING. -/
def State.endLoading (s : State) : State :=
  (s.setF .GLB_FW_LOAD_ACTIVE 0 0).freeLoader

/-! ### The interlock (R375) -/

/-- The conditions of the interlock that hold: EMERG, LIMIT, DESCEND, PULSE, GROUP and GOOSE, at bits 0 to 5. -/
def State.ilBits (s : State) : List Bool :=
  let hot (f : HotRun → Bool) : Bool := s.thm.dom.any (fun p => f p.2) ∨ s.thm.die.any (fun p => f p.2)
  [hot (fun r => r.emergRun = 2), hot (fun r => r.limit),
    s.doms.any (fun d => s.clSt false d = 1) ∨ (List.range s.cfg.table.towers).any (fun w => s.clSt true w = 1),
    s.isSet .DOM_BUD_GOV_GOVERNED 0 ∨ s.bud.fPeak < 32768,
    [0, 1, 2, 3].any (fun g => s.grp g = 4 ∨ s.grp g = 5), s.isSet .FLT_GOOSE_STATUS_TRIPPED 0]

/-- Whether the interlock is set. -/
def State.interlock (s : State) : Bool := s.isSet .GLB_FW_IL_SET 0 ∨ s.ilBits.any id

/-! ### Processors (R377 to R384) -/

/-- What hangs on the processors' states: GLB_BOOT_STATUS.FW, CP0_READY and the masks of the banks (R401). -/
def State.showCps (s : State) : State :=
  let onBank (b c : Nat) : Bool := (s.cpSt c = 1 ∨ s.cpSt c = 2 ∨ s.cpSt c = 3 ∨ s.cpSt c = 5) ∧ s.getF .GLB_CP_STATUS_BANK c = b
  let mask (b : Nat) : Nat := ([0, 1, 2, 3].map (fun c => if onBank b c then 2 ^ c else 0)).foldl (· + ·) 0
  let s := (s.setF .GLB_FW_IMG_RUN_MASK 0 (mask 0)).setF .GLB_FW_IMG_RUN_MASK 1 (mask 1)
  let fw : Bool := [0, 1, 2, 3].any (fun c => (onBank 0 c ∧ s.bankSt 0 = 4) ∨ (onBank 1 c ∧ s.bankSt 1 = 4))
  (s.setB .GLB_BOOT_STATUS_FW 0 fw).setB .CMD_STATUS_CP0_READY 0 (s.cpSt 0 = 2)

/-- A bank that an ACTIVE image no longer serves any processor is RETIRED (R374). -/
def State.retireBanks (s : State) : State :=
  s.each [0, 1] (fun b s => if s.bankSt b = 4 ∧ s.getF .GLB_FW_IMG_RUN_MASK b = 0 then s.setF .GLB_FW_IMG_STATE b 5 else s)

/-- Sets a processor's state. -/
def State.setCp (s : State) (c st : Nat) : State := (s.setF .GLB_CP_STATUS_STATE c st).showCps

/-- Whether a packet in flight is in execution on a processor (R366, R380). -/
def onCp (c : Nat) (f : InFlight) : Bool :=
  if c = 0 then ¬ opHardware f.pkt.op ∧ ¬ opCp1 f.pkt.op ∧ (f.phase = .started ∨ f.phase = .pending)
  else c = 1 ∧ opCp1 f.pkt.op ∧ f.phase = .pending

/-- The mailbox to CP1 is emptied: its packet completes ABANDONED (R431). -/
def State.breakBox (s : State) (k : Nat) : State := (((s.replyRaw k stAbandoned []).orphanSlot k).raise 0x0F 6 0).serveIntake

/-- What the SRAM of a processor holds is no longer known: its program has run (R384, assumption 69). -/
def State.dropSram (s : State) (c : Nat) : State :=
  { s with fw := { s.fw with sram := s.fw.sram.filter (fun p => p.1 / 65536 ≠ c) } }

/-- A processor halts (R380, R431): its lease of unit 0 breaks, its packets complete ABANDONED, and boxes addressed to it are
emptied; CP1 then reapplies in full the context and the cap in effect, and standing requests stay (R231, R348). -/
def State.haltCp (s : State) (c : Nat) : State :=
  let s := s.dropSram c
  let s := s.when (s.isSet .CRC_LEASE_HELD 0 ∧ s.getF .CRC_LEASE_HOLDER 0 = 0xF0 + c) State.breakLease
  let s := s.each ((s.cmd.inflight.filter (fun q => onCp c q.2)).map (fun q => q.1)) (fun k s =>
    ((s.replyRaw k stAbandoned []).orphanSlot k).serveIntake)
  let s := s.when (c = 1) (fun s =>
    let s := s.each ((s.cmd.inflight.filter (fun q => q.2.phase = .boxed)).map (fun q => q.1)) (fun k s => s.breakBox k)
    { s with fw := { s.fw with wantCtx := none, cpRun := none, reapply := true } })
  s

/-- A processor starts, or starts again, from a bank (R381). -/
def State.beginStart (s : State) (c b : Nat) (again : Bool) : State :=
  ((s.when again (fun s => s.bumpF .GLB_CP_STATUS_RESTARTS c)).setF .GLB_CP_STATUS_BANK c b).setCp c 1

/-- With no image ACTIVE on CP0 its waiting packets complete BUSY (R344, R382). -/
def State.rejectQueued (s : State) : State :=
  (s.each ((s.cmd.inflight.filter (fun q => q.2.phase = .queued)).map (fun q => q.1)) (fun k s => s.replyRaw k stBusy [])).serveIntake

/-- A processor enters STOPPED (R381, R382). -/
def State.stopCp (s : State) (c : Nat) : State :=
  (((s.setCp c 4).event .GLB_FW_EVENT_STOPPED 0 0x0D c).retireBanks).when (c = 0) State.rejectQueued

/-- A processor crashes (R380, R382): CRASH_LIMIT crashes within 60 s stop it, fewer restart it from its bank. -/
def State.crashCp (s : State) (c cause addr comp : Nat) : State :=
  let s := ((s.setF .GLB_CP_STATUS_CAUSE c cause).setF .GLB_CP_STATUS_COMP_ID c comp).setF .GLB_CP_FAULT_ADDR c addr
  let s := s.haltCp c
  let s := (s.event .GLB_FW_EVENT_CRASH 0 0x0D c).bumpF .GLB_CP_STATUS_CRASH_COUNT c
  let times := s.time :: (Tbl.get [] s.fw.crashes c).filter (fun t => s.time < t + 6000000000)
  let s : State := { s with fw := { s.fw with crashes := s.fw.crashes.put c times } }
  if max 1 (s.getF .GLB_FW_CTRL_CRASH_LIMIT 0) ≤ times.length then s.stopCp c
  else s.beginStart c (s.getF .GLB_CP_STATUS_BANK c) true

/-- The private SRAM of a processor after its restart: the words of its segments, all others 0 (R381). -/
def State.loadSram (s : State) (c : Nat) : State :=
  let b := s.bank (s.getF .GLB_CP_STATUS_BANK c)
  let segs := (imgSegments b).filter (fun x => x.cp = c)
  let clear := s.fw.sram.filter (fun p => p.1 / 65536 ≠ c)
  let mem := segs.foldl (fun m x => putWords m (65536 * c + x.load / 4) (wordsOf ((b.drop x.ofs).take x.len))) clear
  let table := (segs.find? (fun x => x.kind = 2)).elim [] (fun x => (b.drop x.ofs).take x.len)
  let entry := (segs.find? (fun x => x.kind = 1)).elim 0 (fun x => x.load)
  let s : State := { s with fw := { s.fw with sram := mem, mpu := s.fw.mpu.put c table } }
  ((s.setF .DBG_PC_PC c entry).setF .DBG_COMP_COMP_ID c 0).setF .DBG_CYC_INSTR c 0

/-! ### Memory protection (R363 to R365) -/

/-- The kinds of access that R363's map gives a processor at an address, as the bits X, W, R of a region: the SRAM, the boot ROM
(execute only), the register window, its own quarter of the checkpoint area (CP3 reads the others) and the mailboxes. -/
def mapKinds (c a : Nat) : Nat :=
  if a < 0x40000 then 7
  else if 0x100000 ≤ a ∧ a < 0x110000 then 4
  else if 0x40000000 ≤ a ∧ a < 0x40080000 then 7
  else if 0x50000000 ≤ a ∧ a < 0x50010000 then (if (a - 0x50000000) / 0x4000 = c then 7 else if c = 3 then 1 else 0)
  else if 0x51000000 ≤ a ∧ a < 0x51001000 then 7
  else 0

/-- The kinds of access that the loaded regions 2 to 15 of a processor permit a component over a run of bytes: the union over the
regions that contain all of it and admit the component (R364, R370; the limit is a region's last byte, assumption 127). -/
def State.regionKinds (s : State) (c comp a n : Nat) : Nat :=
  let t := Tbl.get [] s.fw.mpu c
  (List.range 14).foldl (fun k i =>
    let e := (t.drop (16 * i)).take 16
    if e ≠ [] ∧ leAt e 0 4 ≤ a ∧ a + n ≤ leAt e 4 4 + 1 ∧ bitOf (leAt e 8 2) comp then k ||| leAt e 10 1 % 8 else k) 0

/-- Whether an access of a component at an address can be denied (R363 to R365): for some length of 1, 2 or 4 bytes the map and
the regions do not permit every kind of access. Regions 0 and 1 permit no writes of the boot ROM and no execution of a mailbox. -/
def State.mayDeny (s : State) (c comp a : Nat) : Bool :=
  [1, 2, 4].any (fun n => s.regionKinds c comp a n &&& mapKinds c a &&& mapKinds c (a + n - 1) ≠ 7)

/-- Whether a start of a processor resumes from its checkpoint (R378). -/
def State.resumes (s : State) (c : Nat) : Bool :=
  (s.fw.ckpt.find? (fun p => p.1 = c)).any (fun p => p.2 = s.ifVersion (s.getF .GLB_CP_STATUS_BANK c))

/-- Answers the packets that wait for an activation (R376). -/
def State.replyAct (s : State) (a : Activation) (st : Nat) (payload : List Nat) : State :=
  s.each a.slots (fun k s => s.replyOp k 0x31 st payload)

/-- The activation goes on with the processors given, or is complete: OK and the notice (R353, R376). -/
def State.actNext (s : State) (a : Activation) (left : List Nat) : State :=
  if left = [] then
    let s : State := { s with fw := { s.fw with act := none } }
    let s := s.when (s.bankSt a.bank = 3) (fun s => s.setF .GLB_FW_IMG_STATE a.bank 2)
    (s.replyAct a stOk [s.bankSt a.bank, 0, 0, 0]).when (a.mask ≠ 0) (fun s => s.notice 5 a.mask)
  else { s with fw := { s.fw with act := some { a with left := left } } }

/-- A processor is RUNNING (R374, R378, R381). -/
def State.cpRuns (s : State) (c : Nat) : State :=
  let b := s.getF .GLB_CP_STATUS_BANK c
  let ok := s.resumes c
  let s := (s.loadSram c).setB .GLB_CP_STATUS_CKPT_OK c ok
  let s := s.when (c = 1 ∧ ¬ ok) (fun s => { s with fw := { s.fw with reapply := true } })
  let s := (s.when (s.bankSt b = 2 ∨ s.bankSt b = 3) (fun s => s.setF .GLB_FW_IMG_STATE b 4)).setCp c 2
  let s : State := { s with fw := { s.fw with kicks := s.fw.kicks.put c s.time } }
  s.retireBanks

/-- Switching begins (R376, R377): with no processor RUNNING every named one starts at once, otherwise they switch one at a time
from CP3 down. -/
def State.beginSwitch (s : State) (a : Activation) : State :=
  let named := [3, 2, 1, 0].filter (fun c => bitOf a.mask c)
  let s : State := { s with fw := { s.fw with act := some { a with left := named, begun := true } } }
  if [0, 1, 2, 3].any (fun c => s.cpSt c = 2) then s
  else s.each named (fun c s =>
    (s.haltCp c).beginStart c a.bank (s.cpSt c ≠ 0))

/-- A write of the debug window is refused (R384). -/
def State.dbgRefuse (s : State) (init addr : Nat) : State :=
  (s.setF .GLB_FW_EVENT_DBG_REF 0 1).raiseAccess 0x0D 3 (s.getF .GLB_FW_DBG_SEL_BANK 0) init addr 5

/-- The core state of a processor after it has run on: open values, and an SRAM that its program may have written (R384). -/
def State.dbgMoved (s : State) (c : Nat) (cyc : Nat) : State :=
  let s := s.dropSram c
  let s := (s.fresh.2).setF .DBG_PC_PC c s.fresh.1
  let s := (s.fresh.2).setF .DBG_COMP_COMP_ID c s.fresh.1
  s.setF .DBG_CYC_INSTR c cyc

/-- HALT, RESUME and STEP of the run-control register (R384). The watchdog pauses while the halt acts: what has run of it is kept
in place of its start (R379). -/
def State.dbgHalt (s : State) : State :=
  let c := s.getF .GLB_FW_DBG_SEL_BANK 0
  if s.cpSt c = 2 then
    let t := (s.fresh.2.dbgMoved c s.fresh.1).setCp c 5
    { t with fw := { t.fw with kicks := t.fw.kicks.put c (s.since (Tbl.get 0 s.fw.kicks c)) } }
  else s

/-- RESUME leaves DEBUG for RUNNING, and the watchdog runs on. -/
def State.dbgResume (s : State) : State :=
  let c := s.getF .GLB_FW_DBG_SEL_BANK 0
  if s.cpSt c = 5 then
    let t := s.setCp c 2
    { t with fw := { t.fw with kicks := t.fw.kicks.put c ((s.time + 2 ^ 64 - Tbl.get 0 s.fw.kicks c) % 2 ^ 64) } }
  else s

/-- STEP runs one instruction in DEBUG. -/
def State.dbgStep (s : State) : State :=
  let c := s.getF .GLB_FW_DBG_SEL_BANK 0
  if s.cpSt c = 5 then s.dbgMoved c (s.getF .DBG_CYC_INSTR c + 1) else s

/-- The word of the debug window at an offset of its SRAM part, where it is known: the processor shown has not run since the word
was written there (R384, assumption 69). -/
def State.sramWord (s : State) (off : Nat) : Option Nat :=
  let c := s.getF .GLB_FW_DBG_SEL_BANK 0
  if s.cpSt c = 2 then none
  else (s.fw.sram.find? (fun p => p.1 = 65536 * c + (off - 0x80000) / 4)).map (fun p => p.2)

/-- A write in the debug window (R384). -/
def State.dbgWrite (s : State) (init off v : Nat) : State :=
  let c := s.getF .GLB_FW_DBG_SEL_BANK 0
  if off < 0x80000 ∨ 0xC000C < off then s
  else if s.cfg.straps.testEn = 0 then s.dbgRefuse init off
  else if off < 0xC0000 then
    { s with fw := { s.fw with sram := s.fw.sram.put (65536 * c + (off - 0x80000) / 4) (v % 2 ^ 32) } }
  else if off = 0xC0000 then
    ((s.when (bitOf v 0) State.dbgHalt).when (bitOf v 2) State.dbgStep).when (bitOf v 1) State.dbgResume
  else s

end Sys2Proof.Machine
end

