-- ==== Sys2Proof/Machine/LoopSet.lean ====
section
/-! DEFINITION. The reference loop set that the built-in ROM image writes (chapter Reference Loop Set, R164 to R167), sized from the
configuration table. -/

namespace Sys2Proof.Machine

/-- One row of the loop set: the descriptor fields of a slot, those not named 0. Signed fields are given as written. -/
structure LoopRow where
  slot : Nat
  cls : Nat
  elems : Nat
  kind : Nat
  base : Nat
  group : Nat
  fan : Nat
  inKind : Nat
  inRed : Nat
  inPer : Nat
  inBase : Nat
  aux1 : Nat
  mode1 : Nat
  aux2 : Nat
  sign : Nat
  refPer : Nat
  ref : Nat
  gtab : Nat
  kp : Nat
  outBase : Nat
  outScale : Nat
  track : Nat
  k1 : Nat
  k2 : Nat
  vmax : Nat
  amax : Nat
  jmax : Nat
  prof : Nat
  off : Nat
  rip : Nat
deriving DecidableEq, Repr

/-- A row with the fields that most rows share. -/
def LoopRow.plain : LoopRow :=
  { slot := 0, cls := 1, elems := 1, kind := 0, base := 0, group := 1, fan := 1, inKind := 0, inRed := 0, inPer := 1, inBase := 0,
    aux1 := 0, mode1 := 0, aux2 := 0, sign := 0, refPer := 0, ref := 0, gtab := 0, kp := 0, outBase := 0, outScale := 0, track := 0,
    k1 := 0, k2 := 0, vmax := 0, amax := 0, jmax := 0, prof := 0, off := 0, rip := 0 }

/-- A current share slot of a group (slots 1 to 4). -/
def shareRow (t : CfgTable) (slot g : Nat) : LoopRow :=
  { LoopRow.plain with
    slot := slot, elems := t.groupSize g, kind := 1, base := t.groupFirst g, inKind := 4, inBase := t.groupFirst g, gtab := 1,
    outScale := 64 }

/-- A droop margin slot of a domain class (slots 7 to 11). -/
def droopRow (t : CfgTable) (slot k elems : Nat) : LoopRow :=
  { LoopRow.plain with
    slot := slot, cls := 2, elems := elems, kind := 2, base := t.firstDom k, inKind := 3, inRed := 2, inPer := classSensors k,
    inBase := t.firstSensorOfClass k, sign := 1, ref := 0x0140, gtab := 4, outScale := 32, track := 1, vmax := 0x0800,
    amax := 0x0200, jmax := 0x0080, prof := 1, off := 1 }

/-- The domain limit slot over `elems` domains from `base` (slots 6 and 17). -/
def limitRow (slot base elems : Nat) : LoopRow :=
  { LoopRow.plain with
    slot := slot, cls := 2, elems := elems, kind := 3, base := base, inKind := 5, inBase := base, aux1 := 6, mode1 := 1, refPer := 1,
    gtab := 3, kp := 0x2000, outScale := 1024, track := 16, k1 := 0x7FFF }

/-- The temperature ladder slot (slots 12 and 18). -/
def tempRow (slot base elems : Nat) : LoopRow :=
  { LoopRow.plain with
    slot := slot, cls := 2, elems := elems, kind := 4, base := base, inKind := 9, inBase := base, aux1 := 11, mode1 := 1, aux2 := 10,
    ref := 0x2F80, gtab := 5, outBase := 15, outScale := 16, track := 1, k1 := 0x7FFF, k2 := 0xC000, vmax := 0x0100, prof := 1 }

/-- The Ox (slots 15 and 19). -/
def oxRow (slot base elems : Nat) : LoopRow :=
  { LoopRow.plain with
    slot := slot, cls := 3, elems := elems, kind := 3, base := base, inKind := 15, inBase := base, aux1 := 11, refPer := 1, gtab := 8,
    outScale := 1024, track := 16, k1 := 0x8000, vmax := 0x0800, prof := 1 }

/-- The rows of slots 0 to 16, and of slots 17 to 19 where a stack has more than 256 domains (R164, R165). -/
def loopRows (t : CfgTable) : List LoopRow :=
  let n := min 256 t.domains
  [{ LoopRow.plain with
      inKind := 1, ref := 0x1400, kp := 0x0400, outBase := 160, outScale := 800, track := 1, vmax := 0x4000, amax := 0x1000,
      prof := 1, off := 1, rip := 1 },
    shareRow t 1 0, shareRow t 2 1, shareRow t 3 2, shareRow t 4 3,
    { LoopRow.plain with
      slot := 5, kind := 5, inKind := 7, inRed := 3, aux1 := 1, ref := 0x06E0, gtab := 2, outScale := 1024, track := 8,
      k1 := 0x4000 },
    limitRow 6 0 n,
    droopRow t 7 0 t.tiles, droopRow t 8 1 t.cpu, droopRow t 9 2 t.memif, droopRow t 10 3 t.link, droopRow t 11 4 t.fabric,
    tempRow 12 0 n,
    { LoopRow.plain with
      slot := 13, cls := 2, elems := t.towers * 8, kind := 4, group := 8, fan := t.towerTiles, inKind := 12, aux1 := 13,
      ref := 0x2D00, gtab := 6, outBase := 15, outScale := 16, track := 1, k1 := 0x8000, vmax := 0x0100, prof := 1 },
    { LoopRow.plain with
      slot := 14, cls := 2, elems := t.link, kind := 3, base := t.firstDom 3, inKind := 16, refPer := 1, gtab := 7, outBase := 192,
      outScale := 192, track := 16, vmax := 0x2000, prof := 1 },
    oxRow 15 0 n,
    { LoopRow.plain with
      slot := 16, cls := 3, elems := t.tiles, kind := 4, inKind := 17, sign := 1, gtab := 9, kp := 0x7FFF, outScale := 16,
      track := 32, vmax := 0x0100, prof := 1 }] ++
  (if 256 < t.domains then
    [limitRow 17 256 (t.domains - 256), tempRow 18 256 (t.domains - 256), oxRow 19 256 (t.domains - 256)]
   else [])

/-- The descriptor fields with the value each row gives them. -/
def loopFields : List (Fld × (LoopRow → Nat)) :=
  [(.CE_SD_CTRL_CLASS, (·.cls)), (.CE_SD_CTRL_SIGN, (·.sign)), (.CE_SD_CTRL_PROF_EN, (·.prof)), (.CE_SD_CTRL_COMP_RIP, (·.rip)),
    (.CE_SD_CTRL_COMP_OFF, (·.off)), (.CE_SD_CTRL_REF_PER, (·.refPer)), (.CE_SD_CTRL_ELEMS_M1, (·.elems - 1)),
    (.CE_SD_CTRL_ACT_KIND, (·.kind)), (.CE_SD_CTRL_ACT_BASE, (·.base)), (.CE_SD_MAP_GROUP_M1, (·.group - 1)),
    (.CE_SD_MAP_FAN_M1, (·.fan - 1)), (.CE_SD_MAP_OUT_SCALE, (·.outScale)), (.CE_SD_OUT_OUT_BASE, (·.outBase)),
    (.CE_SD_OUT_TRACK, (·.track)), (.CE_SD_IN_IN_KIND, (·.inKind)), (.CE_SD_IN_IN_RED, (·.inRed)),
    (.CE_SD_IN_IN_PER_M1, (·.inPer - 1)), (.CE_SD_IN_IN_BASE, (·.inBase)), (.CE_SD_AUX_AUX1_KIND, (·.aux1)),
    (.CE_SD_AUX_AUX1_MODE, (·.mode1)), (.CE_SD_AUX_AUX2_KIND, (·.aux2)), (.CE_SD_AUX_AUX2_MODE, fun _ => 0),
    (.CE_SD_KAUX_K1, (·.k1)), (.CE_SD_KAUX_K2, (·.k2)), (.CE_SD_LAW_KP, (·.kp)), (.CE_SD_LAW_GSHIFT, fun _ => 0),
    (.CE_SD_LAW_PSHIFT, fun _ => 0), (.CE_SD_LAW_GTAB, (·.gtab)), (.CE_SD_REF_REF, (·.ref)),
    (.CE_SD_REF_CTAB_OFF, fun r => if r.kind = 2 then 2 else 0), (.CE_SD_REF_CTAB_RIP, fun r => if r.slot = 0 then 1 else 0),
    (.CE_SD_PROF_VMAX, (·.vmax)), (.CE_SD_PROF_AMAX, (·.amax)), (.CE_SD_JERK_JMAX, (·.jmax))]

/-- The reference of one element of a slot with references per element, 0 in the others (R165). -/
def elemRefRom (t : CfgTable) (n k : Nat) : Nat :=
  match n with
  | 6 => [0x3C00, 0x5000, 0x1800, 0x1800, 0x2800].getD (t.domClass k) 0
  | 14 => 0x0800
  | 15 => 0x2260
  | 17 => [0x3C00, 0x5000, 0x1800, 0x1800, 0x2800].getD (t.domClass (k + 256)) 0
  | 19 => 0x2260
  | _ => 0

/-- Entry G[j] of gain table `n` for |k| and the sign of k, k = j − 32, in two's complement (R166). -/
def gainRom (n j : Nat) : Nat :=
  let a := if j < 32 then 32 - j else j - 32
  match n with
  | 0 => 4096 + 4096 * min a 6
  | 1 => 65536 - 1024 - 1024 * min a 3
  | 2 => 2048
  | 3 => if j < 32 then 16384 else 8192
  | 4 => 4096
  | 5 => if a = 0 then 4096 else if a = 1 then 8192 else 16384
  | 6 => if a = 0 then 4096 else if a = 1 then 8192 else 16384
  | 7 => 4096
  | 8 => if j < 32 then 4096 else 1024
  | _ => 0

/-- A table of items with the zero values left out. -/
def nonZero (l : List (Nat × Nat)) : Tbl Nat Nat := l.filter (fun p => p.2 ≠ 0)

/-- The loop set as register fields with their items (R164 to R167). -/
def loopSet (t : CfgTable) : List (Fld × Tbl Nat Nat) :=
  let rows := loopRows t
  let refs := (rows.filter (fun r => r.refPer = 1)).flatMap (fun r =>
    (List.range r.elems).map (fun k => (elemKey r.slot k, elemRefRom t r.slot k)))
  let gains (odd : Nat) := (List.range 320).map (fun i => (i, gainRom (i / 32) (2 * (i % 32) + odd)))
  loopFields.map (fun f => (f.1, nonZero (rows.map (fun r => (r.slot, f.2 r))))) ++
    [(.CE_ELEM_REF_REF, nonZero refs), (.CE_GTAB_G_EVEN, nonZero (gains 0)), (.CE_GTAB_G_ODD, nonZero (gains 1)),
      (.CE_CTAB_C_EVEN, []), (.CE_CTAB_C_ODD, [])]

end Sys2Proof.Machine
end

