-- ==== Sys2Proof/Machine/ImageOps.lean ====
section
/-! DEFINITION. Shared operations of fuses, configuration images, the release sequence and the resets (chapter Bring-Up, Straps and
Reset, R386 to R411). -/

namespace Sys2Proof.Machine

/-! ### Fuses and the configuration table (R388 to R392) -/

/-- The fields of the configuration table that have a block limit, with the limit (R4), the phase groups with that of R47. -/
def tableLimits (t : CfgTable) : List (Nat × Nat) :=
  [(t.tiles, 256), (t.engines, 16), (t.cpu, 16), (t.memif, 32), (t.link, 16), (t.fabric, 4), (t.domains, 324), (t.cells, 1536),
    (t.towers, 32), (t.dies, 8), (t.phVstk, 72), (t.phVddm, 16), (t.phVppm, 4), (t.phVio, 4), (t.phTotal, 96), (t.cp, 4),
    (t.sar, 16), (t.slots, 512), (t.tsens, 4096), (t.dsens, 1536)]

/-- Whether the equations of R391 and the phase rule of R388 hold. -/
def tableSums (t : CfgTable) (pop : Nat) : Bool :=
  t.link = 16 ∧ t.fabric = 4 ∧ t.cp = 4 ∧ t.sar = 16 ∧ t.slots = 512 ∧ t.domains = t.tiles + t.cpu + t.memif + 20 ∧
    t.cells = 5 * t.tiles + 8 * t.cpu + 2 * t.memif + 48 ∧ t.dsens = 4 * t.tiles + 8 * t.cpu + 4 * t.memif + 64 ∧
    t.towers = t.memif ∧ t.dies = 8 ∧ t.tsens = 6 * t.tiles + 4 * (t.domains - t.tiles) + 8 * t.towers * t.dies ∧
    t.phTotal = t.phVstk + t.phVddm + t.phVppm + t.phVio ∧ t.tiles % t.towers = 0 ∧ 4 * pop + 8 ≤ t.phVstk

/-- The code of an invalid configuration table, 0 where it is valid (R391). -/
def tableError (t : CfgTable) (pop : Nat) (uncorr : Bool) : Nat :=
  if uncorr then 3
  else if (tableLimits t).any (fun p => p.1 = 0 ∨ p.2 < p.1) then 1
  else if tableSums t pop then 0 else 2

/-- The fused words with the customer bits programmed so far; an uncorrectable customer word reads 0 (R390, R403). -/
def loadedWords (words : Tbl Nat Nat) (burned : Tbl Nat Nat) (bad : List Nat) : Tbl Nat Nat :=
  let t := burned.foldl (fun t p => Tbl.putD 0 t p.1 (Nat.lor (Tbl.get 0 t p.1) p.2)) words
  t.filter (fun p => ¬ (992 ≤ p.1 ∧ bad.contains p.1))

/-! ### Images (R393 to R397) -/

/-- The bits of a register that an image may write. -/
def RegRow.imageBits (r : RegRow) : Nat := Nat.lor (Nat.lor (r.bits .rw) (r.bits .rwl)) (r.bits .rwe)

/-- Whether one word of a record may be written (code 7 of R395). -/
def imageWordOk (t : CfgTable) (off v : Nat) : Bool :=
  (off < 0x20000 ∨ (0x60000 ≤ off ∧ off < 0x80000)) ∧
    (regAt off).any (fun p => p.1.imageBits ≠ 0 ∧ unitExists t p.1 p.2 ∧ Nat.land v p.1.imageBits = v)

/-- The words of an image's records, or the code of the first fault (R394, R395). -/
def takeRecords (t : CfgTable) (fuel : Nat) (ws : List Nat) (acc : List (Nat × Nat)) : Nat × List (Nat × Nat) :=
  match fuel, ws with
  | 0, _ => (0, acc)
  | _, [] => (0, acc)
  | fuel + 1, c :: r =>
    let n := bitsOf c 27 20 + 1
    let kind := c / 2 ^ 28
    let need := if kind = 1 then 1 else n
    if r.length < need then (5, [])
    else if 1 < kind then (7, [])
    else
      let l := (List.range n).map (fun j => (c % 2 ^ 20 + 4 * j, r.getD (if kind = 1 then 0 else j) 0))
      if l.all (fun p => imageWordOk t p.1 p.2) then takeRecords t fuel (r.drop need) (acc ++ l) else (7, [])

/-- The checks of an image as its bytes arrive: the code of the first fault, or 0 with the image (R395). -/
def checkImage (t : CfgTable) (b : List Nat) : Nat × FlashImage :=
  let len := leAt b 8 4
  let none_ : FlashImage := { version := 0, len := 0, words := [] }
  if (b.take 4).all (fun x => x = 0xFF) ∨ (b.take 4).all (fun x => x = 0) then (4, none_)
  else if leAt b 0 4 ≠ 0x47494643 ∨ leAt b 4 2 ≠ 1 ∨ len % 4 ≠ 0 ∨ len < 36 ∨ 262144 < len ∨ len ≠ b.length ∨
      leAt b 12 2 ≠ t.domains ∨ leAt b 14 2 ≠ t.cells then (5, none_)
  else
    let ws := wordsOf ((b.take (len - 4)).drop 32)
    let p := takeRecords t ws.length ws []
    if p.1 ≠ 0 then (p.1, none_)
    else if crc32c (b.take (len - 4)) ≠ leAt b (len - 4) 4 then (6, none_)
    else (0, { version := leAt b 6 2, len := len, words := p.2 })

/-- One word that the loader applies: every writable field takes its bits at once (R397). -/
def State.imageWrite (s : State) (off v : Nat) : State :=
  match regAt off with
  | none => s
  | some (r, i) =>
    let item := selectedItem (s.getF .CE_ELEM_SEL_SLOT 0 * 2 ^ 16 + s.getF .CE_ELEM_SEL_ELEM 0) (s.getF .THM_DOM_SEL_DOMAIN 0)
      (s.getF .ADC_CAL_SEL_CHANNEL 0) r i
    (r.flds.filter (fun f => f.info.acc = .rw ∨ f.info.acc = .rwl ∨ f.info.acc = .rwe)).foldl (fun t f => t.setF f item (f.part v)) s

/-- The fields of the ROM image whose values stand as reset values: profiles, sequences with their period, waits and delays, POWER,
VSET, calibrations and classes (R299, R396). -/
def romFields : List Fld :=
  [.DOM_CTRL_POWER, .DOM_SETPT_VSET, .DOM_TILE_PROF_NOM_SCALE, .DOM_TILE_PROF_NOM_DELAY, .DOM_TILE_PROF_NOM_RISE,
    .DOM_TILE_PROF_SPR_SCALE, .DOM_TILE_PROF_SPR_DELAY, .DOM_TILE_PROF_SPR_RISE, .ADC_CV_CTRL_SEQ_LEN_M1, .ADC_SEQ_CH,
    .ADC_SEQ_TRIG, .ADC_SEQ_DLY_MODE, .ADC_SEQ_SMP, .ADC_SEQ_GAIN, .ADC_SEQ_DIVL, .ADC_SEQ_AVGL, .ADC_SEQ_SHIFT, .ADC_SEQ_XR,
    .ADC_CTRL_SEQ_PERIOD, .ADC_CTRL_WAIT_TMO, .ADC_CV_CTRL_START_DLY, .ADC_CV_CTRL_PWM_DLY, .ADC_CAL_GAIN, .ADC_CAL_OFS,
    .CMD_PRIV_CLASS]

/-- The ROM image is applied (R396): the fields of the image return to their reset values, and the loop set is stored. -/
def State.applyRom (s : State) : State :=
  let l := loopSet s.cfg.table
  let s : State := { s with
    fields := s.fields.filter (fun p => ¬ romFields.contains p.1 ∧ ¬ (l.map (fun q => q.1)).contains p.1) }
  l.foldl (fun s p => p.2.foldl (fun s q => s.setF p.1 q.1 q.2) s) s

/-- Notes GAIN and OFS of every channel as the images leave them, which RESTORE and block reset return to (R301). -/
def State.noteCal (s : State) : State :=
  let chs := ((Tbl.get [] s.fields .ADC_CAL_GAIN).map (fun p => p.1)) ++ ((Tbl.get [] s.fields .ADC_CAL_OFS).map (fun p => p.1))
  let img : Tbl Nat (Nat × Nat) := chs.foldl (fun t ch => Tbl.put t ch (s.getF .ADC_CAL_GAIN ch, s.getF .ADC_CAL_OFS ch)) []
  { s with adc := { s.adc with calImg := img } }

/-! ### Boot states (R398 to R400) -/

/-- Whether no flash image is loaded: ROM modes, and USE_ROM (R387, R398). -/
def State.romMode (s : State) : Bool := 2 ≤ s.cfg.straps.bootMode ∨ s.boot.romOnly

/-- Enters IMAGE_LOAD, or SAFE with a latched fatal fault (R398). -/
def State.enterImageLoad (s : State) (romOnly : Bool) : State :=
  if s.isSet .FLT_STATUS_FATAL 0 then s.enterSafe 9
  else
    let s : State := { s with boot := { s.boot with romOnly := romOnly, flashAwake := false, backup := false, image := none } }
    (s.setF .GLB_BOOT_STATUS_STATE 0 2).setF .GLB_BOOT_STATUS_ERR 0 0

/-- Release: the loader frees unit 0 unless it loads a Cloren image, and the release sequence begins (R334, R399). -/
def State.enterRelease (s : State) : State :=
  let s : State := { s with boot := { s.boot with release := 1, released := true } }
  let s := s.setF .GLB_BOOT_STATUS_STATE 0 5
  s.when (s.getF .CRC_LEASE_HOLDER 0 = 0xFF ∧ ¬ s.isSet .GLB_FW_LOAD_ACTIVE 0) (fun s => s.setF .CRC_LEASE_HELD 0 0)

/-- The release sequence sets EN of a group: one in OFF starts (R399). -/
def State.releaseGroup (s : State) (g : Nat) : State :=
  if s.grp g = 0 then (s.setF .PHS_GRP_CTRL_EN g 1).setGrp g 1 else s

/-- The control engine starts, and the powered fabric domains wake (R156, R399). -/
def State.engineStart (s : State) : State :=
  let s : State := { s with eng := { s.eng with running := true }, dom := { s.dom with powerGo := 1 } }
  let s := s.startOn 0 0
  let s := s.each ((List.range s.cfg.table.phTotal).filter (fun p => s.ph p = 1)) (fun p s => s.startOn 1 p)
  let s := s.startOn 5 0
  s.each (s.doms.filter (fun d => s.cfg.table.domClass d = 4)) (fun d s => s.powerActs d)

/-- The next step of the release sequence, once the step before it is complete (R399). -/
def State.releaseNext (s : State) : State :=
  let go (n : Nat) (s : State) : State := { s with boot := { s.boot with release := n } }
  match s.boot.release with
  | 1 =>
    if s.busReady then
      (((((go 2 s).setF .GLB_VSTK_STATUS_BUS_OOR 0 0).lpUpdate).takeContext 0).showCeil.sendSlopes 0).pmbAsk
    else s
  | 2 => (go 3 s).releaseGroup 2
  | 3 => if s.grp 2 = 3 then (go 4 s).releaseGroup 1 else s
  | 4 => if s.grp 1 = 3 then (go 5 s).releaseGroup 3 else s
  | 5 => if s.grp 3 = 3 then (go 6 s).releaseGroup 0 else s
  | 6 => if s.grp 0 = 3 then ((go 7 s).engineStart) else s
  | 7 =>
    if s.poweredLive (fun d => s.cfg.table.domClass d = 4) then
      let s := go 8 s
      let s : State := { s with dom := { s.dom with powerGo := 2 } }
      (s.each s.doms (fun d s => s.powerActs d)).enterRunIfReady
    else s
  | _ => s.enterRunIfReady

/-! ### Resets (R404 to R410) -/

/-- Records a refused reset or fuse programming (R404, R411). -/
def State.refuseReset (s : State) (init addr : Nat) : State := s.raiseAccess 0x0E 2 0 init addr 2

/-- A partner set becomes FREE in a control-plane reset, its standing requests kept (R408). -/
def State.resetSet (s : State) (p : Nat) : State :=
  (s.when (s.partSt p ≠ 3) (fun s => s.settleStanding p (s.getF .CMD_PART_ID_INITIATOR p) true)).freeSet p

/-- A control-plane reset begins; one that meets a block reset is void, and one that meets another changes nothing more (R406 to
R409). `last` is its code in GLB_RST_STATUS. -/
def State.cpReset (s : State) (last : Nat) : State :=
  if s.boot.blockStop ∨ s.cpActive then s
  else
    let s := ((s.bumpF .GLB_RST_STATUS_CP_COUNT 0).setF .GLB_RST_STATUS_LAST 0 last).setF .GLB_RST_STATUS_CP_ACTIVE 0 1
    let s := s.dropTests (fun _ => true)
    let s := s.each (s.cmd.inflight.map (fun q => q.1)) (fun k s => (s.replyRaw k stAbandoned []).orphanSlot k)
    let s := s.setSets []
    let s := s.each ((s.cmd.partners.map (fun p => p.1)).filter (fun p => s.partSt p ≠ 0)) (fun p s => s.resetSet p)
    let s := s.each [0, 1, 2, 3] (fun c s =>
      if s.cpSt c = 0 then s else (s.haltCp c).beginStart c (s.getF .GLB_CP_STATUS_BANK c) true)
    { s with
      fw := { s.fw with ckpt := [] },
      cmd := { s.cmd with runs := s.cmd.runs.map (fun r => { r with barred := true }) } }

/-- An ordered stop meets a domain: WAKING ends in DARK, LIVE and DERATED quiesce (R405). -/
def State.blockStopDom (s : State) (d : Nat) : State :=
  match s.domSt d with
  | 1 => s.domGo d 0
  | 2 => s.domGo d 4
  | 3 => s.domGo d 4
  | _ => s

/-- The ordered stop of a block reset begins (R405). -/
def State.blockStopBegin (s : State) : State :=
  let s : State := { s with boot := { s.boot with blockStop := true, cpPin := false }, dom := { s.dom with powerGo := 0 } }
  let s := (s.setF .GLB_BOOT_STATUS_PWR_OK 0 0).setF .GLB_RST_STATUS_CP_ACTIVE 0 0
  (s.each s.doms (fun d s => s.blockStopDom d)).blockResetAdvance

/-- AON power is gone, or has just arrived: everything but what the surroundings and the fuse array hold is as at power-on (R404,
R407). -/
def State.aonReset (s : State) : State :=
  { State.reset with
    pending := s.pending, out := s.out, freeCtr := s.freeCtr, boot := { BootState.reset with burned := s.boot.burned } }

end Sys2Proof.Machine
end

