-- ==== Sys2Proof/Machine/Boot.lean ====
section
/-! DEFINITION. The commands of bring-up and reset (chapter Bring-Up, Straps and Reset), of the time base (R35 to R40) and of the
fabric's endpoints (R454). -/

namespace Sys2Proof.Machine

open Host (Outcome)

/-! ### From AON power to IMAGE_LOAD -/

/-- AON power arrives: the Goose tests itself and arms, or trips with code 6 (R37, R389, R398, R427). -/
def execAonPowerOn (selfTest : Bool) (s : State) : Outcome State Fault Refusal :=
  .next (
    if selfTest then (s.aonReset.setF .FLT_GOOSE_STATUS_SELFTEST_OK 0 1).setF .FLT_GOOSE_STATUS_ARMED 0 1
    else s.aonReset.gooseTrip 6 0)

/-- AON has been below 0.70 V for 1 µs (R404, R407). -/
def execGooseReset (s : State) : Outcome State Fault Refusal := .next s.aonReset

/-- POWER_ON ends: the straps are sampled (R386, R398). -/
def execPowerOnEnd (straps : Straps) (s : State) : Outcome State Fault Refusal :=
  .next (
    if s.boot_ = 0 then
      let s : State := { s with cfg := { s.cfg with straps := straps } }
      s.setF .GLB_BOOT_STATUS_STATE 0 1
    else s)

/-- The fuse load ends with the table and the fused values read, the words corrected and those uncorrectable: IMAGE_LOAD, or SAFE
(R390, R391, R398, R411, R424). -/
def execFuseLoadDone (table : CfgTable) (fuses : Fuses) (corrected uncorrectable : List Nat) (s : State) :
    Outcome State Fault Refusal :=
  .next (
    if s.boot_ ≠ 1 then s
    else
      let bad := uncorrectable.filter (fun w => w < 992)
      let first (l : List Nat) : Nat := l.foldl min (l.headD 0)
      let e := tableError table s.cfg.straps.phasesPop (bad ≠ [])
      let s : State := { s with
        cfg := { s.cfg with
          table := table, valid := e = 0,
          fuses := { fuses with words := loadedWords fuses.words s.boot.burned uncorrectable } },
        flt := { s.flt with powerOn := false } }
      let s := (((s.setF .GLB_FUSE_STAT_LOADED 0 1).setB .GLB_FUSE_STAT_UNCORR 0 (bad ≠ [])).setF .GLB_FUSE_STAT_BAD_WORD 0
        (first uncorrectable)).setF .GLB_FUSE_STAT_CORR_COUNT 0 (min 255 corrected.length)
      let s := (s.each corrected (fun w s => s.raise 0x0E 0 w)).showPair
      if e = 0 then s.enterImageLoad false
      else if e = 3 then (s.enterSafe 3).raise 0x0E 5 (first bad)
      else ((s.fresh.2).enterSafe e).raise 0x0E 5 (s.fresh.1 % 65536))

/-! ### Images (R393 to R398) -/

/-- The flash is released from deep power-down, and the read of the primary image follows (R393). -/
def execFlashWake (s : State) : Outcome State Fault Refusal :=
  .next (
    if s.boot_ = 2 ∧ ¬ s.romMode ∧ ¬ s.boot.flashAwake then
      (({ s with boot := { s.boot with flashAwake := true } }).emit (.flash 0xAB 0)).emit (.flash 0x03 0)
    else s)

/-- The bytes of an image have been read from the flash: it passes, or the backup is read, or both have failed (R395). -/
def execFlashImageReadDone (bytes : List Nat) (s : State) : Outcome State Fault Refusal :=
  .next (
    if s.boot_ = 2 ∧ ¬ s.romMode ∧ s.boot.flashAwake ∧ s.boot.image = none then
      let s := s.dutyJob 0 (bytes.take (bytes.length - 4)) (some (leAt bytes (bytes.length - 4) 4))
      let c := checkImage s.cfg.table bytes
      if c.1 = 0 then { s with boot := { s.boot with image := some c.2 } }
      else
        let s := s.setF .GLB_BOOT_STATUS_ERR 0 c.1
        if s.boot.backup then (s.enterSafe c.1).raise 0x0E 3 0
        else ({ s with boot := { s.boot with backup := true } }).emit (.flash 0x03 0x40000)
    else s)

/-- The images have been applied: HOLD, or release (R396 to R398). -/
def execImageApplyDone (s : State) : Outcome State Fault Refusal :=
  .next (
    if s.boot_ ≠ 2 ∨ ¬ (s.romMode ∨ s.boot.image.isSome) then s
    else if s.isSet .FLT_STATUS_FATAL 0 then s.enterSafe 9
    else
      let img := s.boot.image.getD { version := 0, len := 0, words := [] }
      let src := if s.romMode then 2 else if s.boot.backup then 1 else 0
      let s := (img.words.foldl (fun t w => t.imageWrite w.1 w.2) s.applyRom).noteCal
      let s := ((s.setF .GLB_IMG_INFO_VERSION 0 img.version).setF .GLB_IMG_INFO_LEN_KIB 0 (ceilDiv img.len 1024)).setF
        .GLB_BOOT_STATUS_SRC 0 src
      let s := s.when (src = 1) (fun s => s.raise 0x0E 1 0)
      let s : State := { s with boot := { s.boot with image := none } }
      if s.cfg.straps.bootMode % 2 = 1 then s.setF .GLB_BOOT_STATUS_STATE 0 3 else s.enterRelease)

/-- RELEASE written 1 (R398, R459). -/
def execBootRelease (init : Nat) (s : State) : Outcome State Fault Refusal :=
  .next (
    if s.initClass init ≠ 5 then s.refuseInit init (fldOffset .GLB_BOOT_CTRL_RELEASE 0)
    else if s.boot_ = 3 then s.enterRelease else s)

/-- USE_ROM written 1 (R398, R459). -/
def execUseRom (init : Nat) (s : State) : Outcome State Fault Refusal :=
  .next (
    let e := s.getF .GLB_BOOT_STATUS_ERR 0
    if s.initClass init ≠ 5 then s.refuseInit init (fldOffset .GLB_BOOT_CTRL_USE_ROM 0)
    else if s.boot_ = 4 ∧ 4 ≤ e ∧ e ≤ 7 then s.enterImageLoad true else s)

/-- CFG_COMMIT written 1 (R402, R459). -/
def execCfgCommit (init : Nat) (s : State) : Outcome State Fault Refusal :=
  .next (
    if s.initClass init ≠ 5 then s.refuseInit init (fldOffset .GLB_BOOT_CTRL_CFG_COMMIT 0)
    else s.setF .GLB_BOOT_STATUS_CFG_COMMITTED 0 1)

/-! ### Release (R399, R400) -/

/-- The step of the release sequence in progress has completed: the next one starts (R399). -/
def execReleaseSequenceStep (s : State) : Outcome State Fault Refusal :=
  .next (
    if s.boot_ = 5 ∧ ¬ s.boot.blockStop ∧ ¬ s.isSet .FLT_STATUS_FATAL 0 ∧ ¬ s.lt.runs.any (fun p => p.1 = 4) then s.releaseNext else s)

/-- PWR_OK_TMO has elapsed since release (R400, R411). -/
def execPwrOkTmoExpiry (s : State) : Outcome State Fault Refusal :=
  .next (
    let t := s.enterRunIfReady
    if t.boot_ = 5 then (t.setF .GLB_BOOT_STATUS_ERR 0 10).raise 0x0E 4 0 else t)

/-! ### Resets (R404 to R410) -/

/-- CP_RST written 1 (R404, R406). -/
def execCpRst (init : Nat) (s : State) : Outcome State Fault Refusal :=
  .next (
    if s.initClass init = 5 ∨ s.initClass init = 4 then s.cpReset 3
    else s.refuseReset init (fldOffset .GLB_RST_CTRL_CP_RST 0))

/-- BLOCK_RST written 1, with the level of BL_STACK_HELD (R404, R405). -/
def execBlockRst (init : Nat) (held : Bool) (s : State) : Outcome State Fault Refusal :=
  .next (
    let s := s.setB .GLB_RST_STATUS_STACK_HELD 0 held
    if s.initClass init = 5 ∧ held then (if s.boot.blockStop then s else s.blockStopBegin)
    else s.refuseReset init (fldOffset .GLB_RST_CTRL_BLOCK_RST 0))

/-- BL_RST_N low: the reset applies at once (R404, R405). -/
def execBlRstNLow (s : State) : Outcome State Fault Refusal := .next (s.blockResetApply 1)

/-- BL_CPRST_N low (R404, R406). -/
def execBlCprstNLow (s : State) : Outcome State Fault Refusal :=
  .next (
    let s := s.cpReset 4
    s.when (s.cpActive) (fun s => { s with boot := { s.boot with cpPin := true } }))

/-- The control-plane interval ends: the epoch engine goes on (R406, R409). -/
def execCpIntervalEnd (s : State) : Outcome State Fault Refusal :=
  .next (
    if ¬ s.cpActive then s
    else
      let s := s.setF .GLB_RST_STATUS_CP_ACTIVE 0 0
      let runs := s.cmd.runs.map (fun r => ({ r with barred := false } : Run))
      let s : State := { s with boot := { s.boot with cpPin := false }, cmd := { s.cmd with runs := runs } }
      s.startRun)

/-! ### Fuse programming (R263, R403) -/

/-- GO written 1 with WORD: the word is programmed with PDATA, or refused (R263, R403). -/
def execFuseProgram (init word : Nat) (s : State) : Outcome State Fault Refusal :=
  .next (
    let ok := s.isSet .THM_FUSE_FUSE_OK 0
    if s.initClass init ≠ 5 then s.refuseInit init (fldOffset .GLB_FUSE_PROG_GO 0)
    else if s.cfg.straps.testEn = 1 ∧ 992 ≤ word ∧ word < 1024 ∧ ok ∧ s.boot.progWord = none then
      let s : State := { s with boot := { s.boot with progWord := some (word, s.getF .GLB_FUSE_PDATA_PDATA 0) } }
      s.setF .GLB_FUSE_STAT_PROG_BUSY 0 1
    else
      let s := (s.setF .GLB_FUSE_STAT_PROG_FAIL 0 1).refuseReset init (fldOffset .GLB_FUSE_PROG_GO 0)
      s.when (¬ ok) (fun s => s.event .THM_EVENT_FUSE_REF 0 0x07 0))

/-- The word is read back: PROG_FAIL where a requested bit reads 0 (R403). -/
def execFuseProgramReadback (value : Nat) (s : State) : Outcome State Fault Refusal :=
  .next (
    match s.boot.progWord with
    | none => s
    | some (w, bits) =>
      let v := value % 2 ^ 32
      let s : State := { s with boot := { s.boot with
        progWord := none, burned := Tbl.putD 0 s.boot.burned w (Nat.lor (Tbl.get 0 s.boot.burned w) v) } }
      let s := s.setF .GLB_FUSE_STAT_PROG_BUSY 0 0
      s.when (Nat.land v bits ≠ bits) (fun s => s.setF .GLB_FUSE_STAT_PROG_FAIL 0 1))

/-! ### Time base (R39, R40) -/

/-- BL_REFCLK shows no edge for 40 ns: the time base falls back; an uncalibrated oscillator drops the lock links (R39, R40). -/
def execRefclkLoss (s : State) : Outcome State Fault Refusal :=
  .next (
    if s.isSet .GLB_TB_STATUS_FALLBACK 0 then s
    else
      let s := (s.setF .GLB_TB_STATUS_FALLBACK 0 1).bumpF .GLB_TB_STATUS_FALLBACK_COUNT 0
      let s := (s.setF .HRD_STATUS_TB_DEG 0 1).raise 0x0F 1 0
      s.when s.portsHeld (fun s => s.each [0, 1, 2, 3] (fun p s => s.loseLink p)))

/-- 1,000 good edges: the time base returns to BL_REFCLK (R39). -/
def execRefclkReturn (s : State) : Outcome State Fault Refusal :=
  .next (
    if s.isSet .GLB_TB_STATUS_FALLBACK 0 then (s.setF .GLB_TB_STATUS_FALLBACK 0 0).setF .HRD_STATUS_TB_DEG 0 0 else s)

/-- The fallback oscillator completes a calibration against BL_REFCLK (R39). -/
def execOscCalibration (s : State) : Outcome State Fault Refusal :=
  .next (if s.isSet .GLB_TB_STATUS_FALLBACK 0 then s else s.setF .GLB_TB_STATUS_CAL_OK 0 1)

/-! ### Fabric (R35, R36, R454) -/

/-- Marks a segment failed: SEG_FAIL_COUNT and the contained source with the INDEX given (R36, R454). -/
def State.segFail (s : State) (index : Nat) : State := (s.bumpF .GLB_FAB_STATUS_SEG_FAIL_COUNT 0).raise 0x0F 0 index

/-- A message of a sender on tree A is not acknowledged and goes out on tree B: the segment is marked failed, and the sender's later
messages travel on tree B, so that it sends none again (R35, R36). -/
def execFabricRetry (sender : Nat) (s : State) : Outcome State Fault Refusal :=
  .next (
    if s.flt.treeB.contains sender then s
    else
      let s : State := { s with flt := { s.flt with treeB := s.flt.treeB ++ [sender] } }
      (s.setF .GLB_FAB_STATUS_TREE_A_OK 0 0).segFail 0)

/-- What is behind a lost endpoint fails as its own chapter says (R36). Which cause a cell, sensor or converter then shows is open
(DESIGN CHOICE, assumption 112). -/
def State.loseEndpoint (s : State) (e : Endpoint) : State :=
  let t := s.fresh.2
  let v := s.fresh.1
  match e with
  | .load d => s.when (d < s.cfg.table.domains) (fun s => s.fence d false)
  | .cell c => if s.cellIs c then t.cellFail c (1 + v % 4) else s
  | .droop x => if x < s.cfg.table.dsens then t.dsFail x (1 + v % 3) else s
  | .temp x => if x < s.cfg.table.tsens ∧ s.snsSt x = 0 then (t.snsBreak x (1 + v % 2)).showFuse else s
  | .conv c => if c < s.cfg.table.sar ∧ s.cvSt c ≤ 2 then t.cvFail c (1 + v % 4) else s
  | .port p => s.when (p < 4) (fun s => s.loseLink p)
  | .other => s

/-- An endpoint is unreachable on both trees: a segment of each has failed, and what is behind the endpoint is lost (R36, R454). The
record of a domain load carries its domain. -/
def execEndpointUnreachable (what : Endpoint) (s : State) : Outcome State Fault Refusal :=
  .next (
    let s := (s.setF .GLB_FAB_STATUS_TREE_A_OK 0 0).setF .GLB_FAB_STATUS_TREE_B_OK 0 0
    (s.segFail (match what with
      | .load d => d
      | _ => 0)).loseEndpoint what)

end Sys2Proof.Machine
end

