-- ==== Sys2Proof/Machine/Budget.lean ====
section
/-! DEFINITION. The commands of the Ox (chapter Power Budget and Operating Points, R222 to R243). -/

namespace Sys2Proof.Machine

open Host (Outcome)

/-- I_STACK has stayed at or below TDC_EFF for 1 ms: the pulse ends (R241). -/
def execPulseEnd (s : State) : Outcome State Fault Refusal :=
  .next (if s.bud.pulseStart ≠ none ∧ s.bud.restSince.any (fun t => 100000 ≤ s.time - t) then s.endPulse else s)

/-- The slow tick of the Ox: P_ms, P_other and the windowed average (R222 to R224). -/
def execAverageUpdate (s : State) : Outcome State Fault Refusal :=
  let b := s.bud
  let s := s.when (b.windows ≠ 0) (fun s =>
    let pMs := rneDiv b.sumP (62500 * b.windows)
    let pOther := rneDiv b.sumOther (62500 * b.windows)
    let s : State := { s with bud := { s.bud with sumP := 0, sumOther := 0, windows := 0, pMs := pMs, pOther := pOther } }
    (s.setF .DOM_BUD_MS_P_MS 0 (clampI 0 65535 (rneDiv pMs 64)).toNat).setF .DOM_BUD_MS_P_OTHER 0
      (clampI 0 65535 (rneDiv pOther 64)).toNat)
  .next (s.when s.boot.released (fun s =>
    let a : Int := s.getF .DOM_BUD_AVG_AVG 0
    let alpha := rneDiv (2 ^ 24) (100 * clampN 10 300 (s.getF .DOM_BUD_CAP_WINDOW 0))
    let a' := if s.bud.avgSet then a + rne ((s.bud.pMs - a) * alpha) 24 else s.bud.pMs
    ({ s with bud := { s.bud with avgSet := true } } : State).setF .DOM_BUD_AVG_AVG 0 a'.toNat))

/-- The medium tick of the pulse governor (R38, R242, R243). -/
def execGovernorUpdate (s : State) : Outcome State Fault Refusal := .next (s.when (s.onTick 1000) State.govern)

/-- A tile has stayed below FIXED_STEP for 1 ms in fixed-frequency mode; it counts once an interval (R239). -/
def execFixedLost (tile : Nat) (s : State) : Outcome State Fault Refusal :=
  .next (
    if s.isSet .DOM_BUD_CTRL_MODE 0 ∧ tile < s.cfg.table.tiles ∧ s.domLive tile ∧
        s.getF .DOM_STATUS_STEP tile < s.getF .DOM_BUD_CTRL_FIXED_STEP 0 ∧ ¬ s.bud.fixedLost.contains tile then
      let s : State := { s with bud := { s.bud with fixedLost := s.bud.fixedLost ++ [tile] } }
      (s.bumpF .DOM_BUD_COUNT_FIXED_LOST_COUNT 0).event .DOM_BUD_EVENT_FIXED_LOST 0 0x06 tile
    else s)

end Sys2Proof.Machine
end

