-- ==== Sys2Proof/Machine/Crc.lean ====
section
/-! DEFINITION. The commands of the check-value units (chapter Check-Value Units, R327 to R335). A unit's registers stand at
0x0_3000 + 0x40 × unit. -/

namespace Sys2Proof.Machine

open Host (Outcome)

/-- START loads INIT (R330). -/
def execCrcStart (init u : Nat) (s : State) : Outcome State Fault Refusal :=
  .next (s.crcWrite init u (fldOffset .CRC_CMD_START u) false (fun s => s.crcGo u (s.getF .CRC_INIT_INIT u)))

/-- FINISH forms RESULT and compares (R332). -/
def execCrcFinish (init u : Nat) (s : State) : Outcome State Fault Refusal :=
  .next (s.crcWrite init u (fldOffset .CRC_CMD_FINISH u) false (fun s => s.crcEnd u))

/-- ABORT returns the unit to IDLE (R330). -/
def execCrcAbort (init u : Nat) (s : State) : Outcome State Fault Refusal :=
  .next (s.crcWrite init u (fldOffset .CRC_CMD_ABORT u) false (fun s => s.crcIdle u))

/-- Four bytes (R329). -/
def execCrcData32 (init u data : Nat) (s : State) : Outcome State Fault Refusal :=
  .next (s.crcWrite init u (fldOffset .CRC_DATA32_DATA u) false (fun s => s.crcFeed u (wordBytes data)))

/-- One byte (R329). -/
def execCrcData8 (init u data : Nat) (s : State) : Outcome State Fault Refusal :=
  .next (s.crcWrite init u (fldOffset .CRC_DATA8_DATA u) false (fun s => s.crcFeed u [data % 256]))

/-- VALUE written: the check resumes from it (R331). -/
def execCrcValueWrite (init u value : Nat) (s : State) : Outcome State Fault Refusal :=
  .next (s.crcWrite init u (fldOffset .CRC_VALUE_VALUE u) (s.crcSame u 7 value) (fun s => s.crcGo u value))

/-- CRC_CFG (`reg` 0), CRC_POLY (1) or CRC_INIT (2) written: RWL for units 1 to 3, and taken in IDLE and DONE (R330, R333). -/
def execCrcSettingsWrite (init u reg value : Nat) (s : State) : Outcome State Fault Refusal :=
  let take (s : State) : State :=
    if s.crcSt u = 0 ∨ s.crcSt u = 2 then s.crcSettings u reg value else s.setF .CRC_STATUS_DROPPED u 1
  .next (
    if 4 ≤ u ∨ 3 ≤ reg then s
    else s.crcWrite init u (fldOffset .CRC_CFG_IRQ_EN u + 4 * reg) (s.crcSame u reg value) take)

/-- CLAIM written 1 (R334, R335). -/
def execCrcClaim (init : Nat) (s : State) : Outcome State Fault Refusal :=
  .next (
    if ¬ s.isSet .CRC_LEASE_HELD 0 ∧ ¬ (1 ≤ s.getF .CRC_STATUS_DUTY 0 ∧ s.getF .CRC_STATUS_DUTY 0 ≤ 3) then
      (s.setF .CRC_LEASE_HELD 0 1).setF .CRC_LEASE_HOLDER 0 init
    else s)

/-- RELEASE written 1: the holder frees the unit (R334). -/
def execCrcRelease (init : Nat) (s : State) : Outcome State Fault Refusal :=
  .next (
    if s.isSet .CRC_LEASE_HELD 0 ∧ s.getF .CRC_LEASE_HOLDER 0 = init then s.setF .CRC_LEASE_HELD 0 0
    else s.refuseInit init (fldOffset .CRC_LEASE_RELEASE 0))

/-- No write of the holder for LEASE_TMO, after release; the image loader renews its lease while a bank is
LOADING (R334, R372). -/
def execCrcLeaseExpiry (s : State) : Outcome State Fault Refusal :=
  .next (s.when (s.boot.released ∧ ¬ (s.getF .CRC_LEASE_HOLDER 0 = 0xFF ∧ s.isSet .GLB_FW_LOAD_ACTIVE 0)) (fun s => s.breakLease))

/-- Whether a unit may test itself now: at release, where the sequence of R399 runs, in any state, and else with no job in
hand and, for unit 0, no lease. Unit 0 may stand in ACTIVE with no lease, left there by a RELEASE (R335). -/
def State.testsNow (s : State) (u : Nat) : Bool :=
  s.crcSt u ≠ 3 ∧ (s.boot_ = 5 ∨ (if u = 0 then ¬ s.isSet .CRC_LEASE_HELD 0 else s.crcSt u ≠ 1))

/-- The self-test of a unit (R335): `pass` says whether its result was right. -/
def execCrcSelfTest (u : Nat) (pass : Bool) (s : State) : Outcome State Fault Refusal :=
  .next (if u < 4 ∧ s.testsNow u ∧ ¬ pass then s.crcFail u else s)

end Sys2Proof.Machine
end

