-- ==== Sys2Proof/Machine/Domains.lean ====
section
/-! DEFINITION. The commands of regulator cells, droop sensors and domains (chapter Regulator Cells and Domains, R53 to R60). A
command whose cell, sensor or domain is not in the state its row names changes nothing. -/

namespace Sys2Proof.Machine

open Host (Outcome)

/-! ### Cells (R105, R109 to R116) -/

/-- The cell's current reaches its hardware limit (R105, R109). -/
def execCellLimitReached (c : Nat) (s : State) : Outcome State Fault Refusal :=
  .next (if s.cellIs c ∧ s.cellSt c = 2 then s.setCell c 3 else s)

/-- Below the limit minus 0.1 A for 1 µs (R109); the cell conducts in ON as in LIMITED, so a wake may complete. -/
def execCellLimitRelease (c : Nat) (s : State) : Outcome State Fault Refusal :=
  .next (
    if s.cellIs c ∧ s.cellSt c = 3 then (s.setCell c 2).wakeDone (s.cfg.table.cellDom c) else s)

/-- More than 2.0 A for 50 µs: the limit falls to 2.0 A (R105). -/
def execCellLimitFold (c : Nat) (s : State) : Outcome State Fault Refusal :=
  .next (if s.cellIs c ∧ 1 ≤ s.cellSt c ∧ s.cellSt c ≤ 3 then s.setF .CEL_MEAS_I_LIM c 2000 else s)

/-- Less than 1.8 A for 450 µs: the limit returns to 3.0 A (R105). -/
def execCellLimitRestore (c : Nat) (s : State) : Outcome State Fault Refusal :=
  .next (if s.cellIs c then s.setF .CEL_MEAS_I_LIM c 3000 else s)

/-- One of causes 1 to 4 of R110 is detected, NO_REG of a cell in ON only; other causes have rows of their own. -/
def execCellFailure (c cause : Nat) (s : State) : Outcome State Fault Refusal :=
  .next (if s.cellIs c ∧ 1 ≤ cause ∧ cause ≤ 4 ∧ (cause = 1 → s.cellSt c = 2) then s.cellFail c cause else s)

/-- Less than 10 mA through the switch (R109). -/
def execCellIsolationConfirmed (c : Nat) (s : State) : Outcome State Fault Refusal :=
  .next (if s.cellIs c ∧ s.cellSt c = 4 then s.setCell c 5 else s)

/-- Isolation not confirmed within 10 µs: the cell stays in FAILED and its domain is fenced (R111). -/
def execCellIsoFail (c : Nat) (s : State) : Outcome State Fault Refusal :=
  .next (
    if s.cellIs c ∧ s.cellSt c = 4 then
      let d := s.cfg.table.cellDom c
      ((s.setF .CEL_STATUS_FAIL_CAUSE c 5).raise 0x02 8 d).fence d true
    else s)

/-- ISOLATE written 1: straight to ISOLATED with cause HOST, no loss counted and no fault (R109, R110). -/
def execCellIsolate (c : Nat) (s : State) : Outcome State Fault Refusal :=
  .next (
    if s.cellIs c then
      let d := s.cfg.table.cellDom c
      let s := (s.setF .CEL_CTRL_ISOLATE c 1).setChecking c false
      (((s.setCell c 5).setF .CEL_STATUS_FAIL_CAUSE c 7).cellsChanged d).wakeDone d
    else s)

/-- ISOLATE written 0: a host-isolated cell starts the check (R112). -/
def execCellUnisolate (c : Nat) (s : State) : Outcome State Fault Refusal :=
  .next (
    if s.cellIs c then
      let s := s.setF .CEL_CTRL_ISOLATE c 0
      s.when (s.cellSt c = 5 ∧ s.getF .CEL_STATUS_FAIL_CAUSE c = 7) (fun s => s.setChecking c true)
    else s)

/-- READMIT written 1 to an isolated cell (R112). -/
def execCellReadmit (c : Nat) (s : State) : Outcome State Fault Refusal :=
  .next (if s.cellIs c ∧ s.cellSt c = 5 then s.setChecking c true else s)

/-- The check ends after 50 µs (R109, R112). A cell that passes while its domain is powered, or waking after its admission, raises
its output before it closes its switch. -/
def execCellCheckEnd (c : Nat) (pass : Bool) (s : State) : Outcome State Fault Refusal :=
  .next (
    if s.cellIs c ∧ s.cellSt c = 5 ∧ Tbl.get false s.dom.checking c then
      let d := s.cfg.table.cellDom c
      let s := s.setChecking c false
      if pass then
        let joins : Bool := ¬ s.gooseOpens d ∧ (s.powered d ∨ (s.domSt d = 1 ∧ Tbl.get false s.dom.admitted d))
        let s := (s.setCell c (if joins then 1 else 0)).setF .CEL_STATUS_SETPT c (s.getF .DOM_SETPT_VEFF d)
        let s : State := { s with dom := { s.dom with rejoin := s.dom.rejoin.put c joins } }
        s.cellsChanged d
      else (s.setF .CEL_STATUS_FAIL_CAUSE c 6).cellLoss c
    else s)

/-- The grid is within 10 mV of the set-point, or a rejoining cell has closed its switch (R109); the domain may go LIVE (R118) and
the Balinette enter RUN (R400). -/
def execPrechargeComplete (c : Nat) (s : State) : Outcome State Fault Refusal :=
  .next (
    if s.cellIs c ∧ s.cellSt c = 1 then
      let s : State := { s with dom := { s.dom with rejoin := s.dom.rejoin.put c false } }
      ((s.setCell c 2).wakeDone (s.cfg.table.cellDom c)).enterRunIfReady
    else s)

/-! ### The tree, droop and crossings (R53 to R60, R129 to R131) -/

/-- The offset of a domain goes into its tree entries and DOM_MEAS.OFFSET together (R56); the cap of R60 follows D. An offset above
127.5 mV, which the 8-bit field cannot show, is used and shown as 127.5 mV (DESIGN CHOICE, assumption 113). -/
def execHeadroomOffsetUpdate (d : Nat) (s : State) : Outcome State Fault Refusal :=
  .next (
    if d < s.cfg.table.domains then
      let s := s.setF .DOM_MEAS_OFFSET d (min 255 (s.offsetOf d))
      let s := s.when (s.dom.hrDom.any (fun p => p.1 = d)) (fun s => s.formDom d)
      s.formStack.rearb 2 d
    else s)

/-- Stores the measured via drops of domains in microvolts; the cap of R60 follows. -/
def State.viaSample (s : State) (vias : List (Nat × Nat)) : State :=
  (vias.filter (fun p => p.1 < s.cfg.table.domains)).foldl (fun t p =>
    ({ t with dom := { t.dom with viaDrop := Tbl.putD 0 t.dom.viaDrop p.1 p.2 } } : State).rearb 2 p.1) s

/-- One droop sample of the whole stack, at the ticks of R38 (R53): cell readings in mA, measured via drops, sensor readings, the tests, the tree,
the crossings, and the samples of telemetry and capture. -/
def execDroopSample (sensors : List DroopReading) (cells : List (Nat × Int)) (vias : List (Nat × Nat)) (s : State) :
    Outcome State Fault Refusal :=
  .next (
    if ¬ s.onTick 10 then s
    else
      let s := (((s.cellSample cells).viaSample vias).dsSample sensors).checkSample
      let s := s.formTree
      let ds := (sensors.map (fun r => s.cfg.table.sensorDom r.sensor)).dedup.filter (fun d => d < s.cfg.table.domains)
      ((s.each ds (fun d s => s.droopCross d)).stackCross).accSample.capLatch)

/-- 2 µs below half of DROOP_TRIP, and every 100 ns after: the floor falls one code, and the gate reopens with the floor gone
(R130). -/
def execDroopFloorFall (d : Nat) (s : State) : Outcome State Fault Refusal :=
  .next (
    let h := Tbl.get 0 s.dom.floor d
    if h = 0 ∨ s.droopHolds d then s else s.setFloor d (if h ≤ 2 then 0 else h - 1) true)

/-- The stack minimum has stood at or above STACK_TRIP + 5 mV for 2 µs (R131); a tree without a member other than in WAKING holds
no gate shut. -/
def execStackGateReopen (s : State) : Outcome State Fault Refusal :=
  .next (
    if s.dom.stackGate ∧ s.dom.hrGate.all (fun h => s.stackTrip + 10 ≤ h) then s.setStackGate false
    else s)

/-- RECHECK written 1 to an invalid sensor (R129). -/
def execDroopSensorRecheck (x : Nat) (s : State) : Outcome State Fault Refusal :=
  .next (
    if x < s.cfg.table.dsens ∧ ¬ s.isSet .DOM_DS_VALID x then s.setDsRun x { SensorRun.clear with recheck := true } else s)

/-- All three tests have passed for 1 ms of samples: the sensor is valid again (R129), and R58 may end. -/
def execDroopRecheckPass (x : Nat) (s : State) : Outcome State Fault Refusal :=
  .next (
    if x < s.cfg.table.dsens ∧ ¬ s.isSet .DOM_DS_VALID x ∧ (s.dsRunOf x).recheck then
      let s := s.setDsRun x { s.dsRunOf x with recheck := false }
      (s.setF .DOM_DS_VALID x 1).dsCounted (s.cfg.table.sensorDom x)
    else s)

/-! ### Domain states (R118 to R128) -/

/-- The wake request of a domain (R197). -/
def State.wakeReq (s : State) (d : Nat) : StartReq :=
  { dom := d, wake := true, reqId := 0, wclass := 1, arrival := s.time, bid := none, engines := 0, step := 0, scale := 0,
    delay := 0, rise := 0, known := false, moved := false }

/-- The stack minimum has been at or above H − 2.5 mV for 10 µs: a waking domain asks the Rooster (R118, R197). -/
def execWakeHeadroomMet (d : Nat) (s : State) : Outcome State Fault Refusal :=
  .next (
    if s.domSt d = 1 ∧ ¬ Tbl.get false s.dom.admitted d ∧ ¬ s.start.queue.any (fun r => r.dom = d ∧ r.wake) ∧
        s.dom.hrDom.any (fun p => p.1 = d) ∧ s.wakeHeadroom then
      s.setQueue (s.start.queue ++ [s.wakeReq d])
    else s)

/-- A wake held in WAKING for more than 1 ms (R125). -/
def execWakeLate (d : Nat) (s : State) : Outcome State Fault Refusal :=
  .next (if s.domSt d = 1 then s.event .DOM_EVENT_WAKE_LATE d 0x02 d else s)

/-- Starts the ramp-down of a quiescing domain (R119). -/
def State.startRamp (s : State) (d : Nat) : State := { s with dom := { s.dom with ramping := s.dom.ramping.put d true } }

/-- QUIESCE_ACK (R126, R127). -/
def execQuiesceAck (d : Nat) (s : State) : Outcome State Fault Refusal :=
  .next (if s.domSt d = 4 ∧ ¬ Tbl.get false s.dom.ramping d then s.startRamp d else s)

/-- QUIESCE_TMO elapses: a forced ramp-down and the contained fault (R127). -/
def execQuiesceTimeout (d : Nat) (s : State) : Outcome State Fault Refusal :=
  .next (
    if s.domSt d = 4 ∧ ¬ Tbl.get false s.dom.ramping d then
      let s : State := { s with dom := { s.dom with forced := s.dom.forced.put d true } }
      (s.event .DOM_EVENT_QTMO d 0x02 d).startRamp d
    else s)

/-- The cells have ramped the domain to 0.45 V, code 360, and enter OFF: DARK or FENCED (R118 to R120); an ordered block reset goes
on (R405). -/
def execRampDownEnd (d : Nat) (s : State) : Outcome State Fault Refusal :=
  .next (
    if s.domSt d = 4 ∧ Tbl.get false s.dom.ramping d then
      let s := (s.setF .DOM_SETPT_VEFF d 360).each ((s.cfg.table.domCells d).filter (fun c => s.cellSt c ≤ 3)) (fun c s =>
        s.setF .CEL_STATUS_SETPT c 360)
      (s.quiesceEnd d).blockResetAdvance
    else s)

end Sys2Proof.Machine
end

