-- ==== Sys2Proof/Machine/Engine.lean ====
section
/-! DEFINITION. The commands of the control engine (chapter Control Engine, R132 to R163). A class tick evaluates every slot of its
class; its operand says how many evaluations will not write back by their deadline and are abandoned (R134, R157). -/

namespace Sys2Proof.Machine

open Host (Outcome)

/-- A sample of a fast element's primary source arrives: the first of a 1 µs period evaluates it (R137). -/
def execFastElementEvaluation (slot elem : Nat) (s : State) : Outcome State Fault Refusal :=
  .next (
    if s.slotClass slot = 1 ∧ (s.evalKeys slot).contains elem ∧ (s.elem slot elem).fastAt ≠ some (s.time / 100) then
      let s := s.evalElem slot elem
      (s.setElem slot elem { s.elem slot elem with fastAt := some (s.time / 100) }).setF .CE_SLOT_EVAL_TICK_LO slot s.time
    else s)

/-- Evaluates a slot but for the elements that miss; an evaluation that is complete is stamped (R138, R157). -/
def State.evalSlotBut (s : State) (missed : List (Nat × Nat)) (n : Nat) : State :=
  let ks := (List.range (s.slotElems n)).filter (fun k => ¬ missed.contains (n, k))
  let t := s.each ks (fun k s => s.evalElem n k)
  if ks.length = s.slotElems n then t.setF .CE_SLOT_EVAL_TICK_LO n s.time else t

/-- Evaluates every slot of a class, lower slots first, but for the last `missed` elements that may miss (R134, R136, R138). -/
def State.evalClass (s : State) (c missed : Nat) : State :=
  let l := s.missing c missed
  s.each (s.classSlots c) (fun n s => s.evalSlotBut l n)

/-- The medium tick (R38, R136). -/
def execMediumEvaluation (missed : Nat) (s : State) : Outcome State Fault Refusal :=
  .next (s.when (s.onTick 1000) (fun s => s.evalClass 2 missed))

/-- The slow tick (R38): the changes that wait for it take effect, then the slow slots evaluate (R136, R162). -/
def execSlowEvaluation (missed : Nat) (s : State) : Outcome State Fault Refusal :=
  .next (s.when (s.onTick 100000) (fun s => s.applyDeferred.evalClass 3 missed))

/-- Raises the fatal source while the committed load exceeds the capacity of the lanes in service (R134). -/
def State.checkLoad (s : State) : State := s.when (s.overloaded ∧ s.getF .FLT_SRC_STATE 51 ≠ 4) (fun s => s.raise 0x03 3 0)

/-- A deadline of a slot passes with an element that has not written back, one of those that may miss (R134, R157): the period
counts once, whatever the number of its elements. Period numbers are counts of the time base over the class period. The
contained source is raised in the period in which the run reaches MISS_ESC, and not again in the same run (DESIGN CHOICE,
assumption 105). -/
def execDeadlineMiss (slot : Nat) (s : State) : Outcome State Fault Refusal :=
  .next (
    if s.slotClass slot = 0 ∨ ¬ (s.lateWork (s.slotClass slot)).any (fun e => e.1 = slot) then s
    else
      let now := s.time / classPeriod (s.slotClass slot)
      let last := (s.eng.missRun.find? (fun p => p.1 = slot)).map (fun p => p.2)
      if last.any (fun l => l.2 = now) then s.setF .CE_SLOT_STATUS_MISSED slot 1
      else
        let run := (match last with
          | none => 1
          | some l => if l.2 + 1 = now then l.1 + 1 else 1)
        let s : State := { s with eng := { s.eng with missRun := s.eng.missRun.put slot (run, now) } }
        let s := ((s.setF .CE_SLOT_STATUS_MISSED slot 1).bumpF .CE_SLOT_STATUS_MISS_COUNT slot).raise 0x03 0 slot
        (s.when (run = max 1 (s.getF .CE_CTRL_MISS_ESC 0)) (fun s => s.raise 0x03 1 slot)).checkLoad)

/-- A residue mismatch retires a lane; its element is evaluated by another lane with the same inputs (R133, R134). -/
def execLaneRetire (lane : Nat) (s : State) : Outcome State Fault Refusal :=
  .next (
    if lane < 16 ∧ bitOf (s.getF .CE_LANES_LANE_OK 0) lane then
      let s := s.setF .CE_LANES_LANE_OK 0 (setBit (s.getF .CE_LANES_LANE_OK 0) lane false)
      ((s.setF .CE_LANES_IN_SERVICE 0 (s.getF .CE_LANES_IN_SERVICE 0 - 1)).raise 0x03 2 lane).checkLoad
    else s)

/-- Puts OPEN of a slot into effect, or ends it; the elements of an open slot are frozen and do not track (R155, R159). -/
def State.setOpen (s : State) (n : Nat) (b : Bool) : State :=
  let s : State := { s with eng := { s.eng with opened := Tbl.putD false s.eng.opened n b } }
  let s := s.each ((List.range (s.slotElems n)).filter (fun k => (s.elem n k).tracking)) (fun k s =>
    s.setElem n k { s.elem n k with tracking := false })
  (s.setB .CE_SD_CTRL_OPEN n b).setB .CE_SLOT_STATUS_OPEN_ST n b

/-- Closes an open slot: each element that presents resumes from its held output at its next evaluation (R161). -/
def State.closeSlot (s : State) (n : Nat) : State :=
  s.each ((List.range (s.slotElems n)).filter (fun k => (s.elem n k).started)) (fun k s =>
    s.setElem n k { s.elem n k with reopen := true }) |>.setOpen n false

/-- OPEN written 1: from the next boundary of each element its slot presents the last outputs and is not evaluated (R159). -/
def execSlotOpen (slot : Nat) (s : State) : Outcome State Fault Refusal :=
  .next (if slot < 512 then s.setOpen slot true else s)

/-- OPEN written 0 (R161). -/
def execSlotClose (slot : Nat) (s : State) : Outcome State Fault Refusal :=
  .next (if slot < 512 ∧ Tbl.get false s.eng.opened slot then s.closeSlot slot else s)

end Sys2Proof.Machine
end

