-- ==== Sys2Proof/Machine/Epochs.lean ====
section
/-! DEFINITION. Staging, commits and the run of the epoch engine (R354 to R358, R409, R462). -/

namespace Sys2Proof.Machine

open Host

/-- The staging of one entry of a STAGE_CONFIG payload; the byte at fault counts from the payload's start. -/
def State.stageOne (s : State) (init : Nat) (l : List Nat) (i : Nat) : Staging :=
  let at_ := 4 + 12 * i
  if 16 ≤ leAt l (at_ + 2) 2 then .bad (at_ + (if leAt l (at_ + 2) 1 < 16 then 3 else 2))
  else match s.stageWrite init (leAt l at_ 4) (leAt l (at_ + 4) 4) (leAt l (at_ + 8) 4) with
    | .ok t => .ok t
    | .full => .full
    | .bad b => .bad (at_ + b)

/-- A staging that goes on only where the one before it succeeded. -/
def Staging.andThen (r : Staging) (f : State → Staging) : Staging :=
  match r with
  | .ok t => f t
  | .full => .full
  | .bad b => .bad b

/-- The entries of a STAGE_CONFIG payload staged one after another. -/
def State.stageAll (s : State) (init : Nat) (l : List Nat) (n : Nat) : Staging :=
  (List.range n).foldl (fun r i => r.andThen (fun t => t.stageOne init l i)) (.ok s)

/-- The domains that a set touches. -/
def State.setDomains (s : State) (l : List Entry) : Nat := (s.pieceDoms (piecesOf l)).length

/-- STAGE_CONFIG: all of its entries are staged, or none (R354). -/
def execStageConfig (set slot : Nat) (s : State) : Outcome State Fault Refusal :=
  .next (s.command set slot 0x20 [255, 1, 0, 0] (fun p s =>
    let k := 8 * set + slot
    let n := leAt p.payload 0 1
    if p.payload.length ≠ 4 + 12 * n then s.badParam k 0
    else
      let t := if leAt p.payload 1 1 = 1 then s.putSet p.init { s.stagedSet p.init with entries := [] } else s
      match t.stageAll p.init p.payload n with
      | .ok t =>
        let es := (t.stagedSet p.init).entries
        t.reply k stOk (leBytes 2 es.length ++ leBytes 2 (t.setDomains es))
      | .full => (s.storeFull set).reply k stBusy []
      | .bad o => s.badParam k o))

/-- A register write to RWE fields goes to the writer's staged set, through the selector registers (R354, R457). -/
def State.stageRegister (s : State) (init off value : Nat) : State :=
  match regAt off with
  | none => s
  | some (r, i) =>
    let item := selectedItem (s.getF .CE_ELEM_SEL_SLOT 0 * 2 ^ 16 + s.getF .CE_ELEM_SEL_ELEM 0) (s.getF .THM_DOM_SEL_DOMAIN 0)
      (s.getF .ADC_CAL_SEL_CHANNEL 0) r i
    if r.bits .rwe = 0 ∨ ¬ unitExists s.cfg.table r item then s
    else match s.stageEntry init { off := off, mask := r.bits .rwe, val := Nat.land value (r.bits .rwe), item := item } with
      | .ok t => t
      | .full => s.storeFull (0x100 + init)
      | .bad _ => s

/-- RWE_WRITE: a write to the RWE fields of a register (R354). -/
def execRweWrite (init off value : Nat) (s : State) : Outcome State Fault Refusal := .next (s.stageRegister init off value)

/-- COMMIT_EPOCH: a set becomes a run, or a RESUME continues a HALTED one (R355, R358, R462). -/
def execCommitEpoch (set slot : Nat) (s : State) : Outcome State Fault Refusal :=
  .next (s.command set slot 0x21 ([7, 0, 0, 0] ++ whole 4) (fun p s =>
    let k := 8 * set + slot
    let b := leAt p.payload 0 1
    if bitOf b 2 then
      match s.resumable p.init with
      | none => s.reply k stNotPermitted []
      | some r =>
        (s.reply k stPending (commitBytes r.epochs.length 0 r.id 0xFFFFFFFF)).enterApply { r with slot := some k, direct := false }
    else
      match s.commitSet p.init (bitOf b 0) (bitOf b 1) (leAt p.payload 4 4) false (some set) (some k) with
      | none => s.reply k stBusy []
      | some (t, r) => t.reply k stPending (commitBytes r.epochs.length 0 r.id 0xFFFFFFFF)))

/-- The result of a direct commit (R355). -/
def State.showDirect (s : State) (init st id : Nat) : State :=
  ((s.setF .CMD_COMMIT_ST_STATUS 0 st).setF .CMD_COMMIT_ST_INITIATOR 0 init).setF .CMD_COMMIT_ST_RUN_ID 0 id

/-- GO written to CMD_COMMIT (R355, R462). -/
def execCmdCommit (init value : Nat) (s : State) : Outcome State Fault Refusal :=
  .next (
    if ¬ bitOf value 31 then s
    else if bitOf value 28 then
      match s.resumable init with
      | none => s.showDirect init stNotPermitted 0
      | some r => (s.showDirect init stPending r.id).enterApply { r with slot := none, direct := true }
    else
      match s.commitSet init (bitOf value 30) (bitOf value 29) 0 true none none with
      | none => s.showDirect init stBusy 0
      | some (t, r) => t.showDirect init stPending r.id)

/-- ABORT_RETUNE on the run in progress, by state (R358, R462). -/
def State.abortHead (s : State) (k : Nat) (r : Run) : State :=
  let zero := [0, 0, 0, 0]
  if s.cmd.runState = 5 ∨ r.abortHeld then s.reply k stOk zero
  else
    let s := s.reply k stPending zero
    let r := { r with abortSlot := some k }
    match s.cmd.runState with
    | 1 => s.putRun { r with abortHeld := true } 1
    | 2 => s.putRun { r with abortHeld := true } 2
    | _ => s.enterWalkback { r with undone := r.undone }

/-- A queued run leaves the queue with nothing applied: its commit completes ABANDONED (R462). -/
def State.dropQueued (s : State) (q : Run) : State :=
  let s := (s.reportCommit q stAbandoned 0 0xFFFFFFFF).endCpRun q stAbandoned
  let s : State := { s with cmd := { s.cmd with runs := s.cmd.runs.filter (fun x => x.id ≠ q.id) } }
  s.showStore

/-- ABORT_RETUNE (R358, R410, R462). -/
def execAbortRetune (set slot : Nat) (s : State) : Outcome State Fault Refusal :=
  .next (s.command set slot 0x22 [255, 255, 0, 0] (fun p s =>
    let k := 8 * set + slot
    let id := leAt p.payload 0 2
    let head := if s.cmd.runState = 0 then none else s.headRun
    match head with
    | some r =>
      if id = 0 ∨ id = r.id then s.abortHead k r
      else match s.cmd.runs.find? (fun q => q.id = id) with
        | none => s.badParam k 0
        | some q => (s.dropQueued q).reply k stOk [0, 0, 0, 0]
    | none =>
      match s.cmd.runs.find? (fun q => q.id = id ∧ id ≠ 0) with
      | none => s.badParam k 0
      | some q => (s.dropQueued q).reply k stOk [0, 0, 0, 0]))

/-- Validation ends: a failure ends the run with nothing applied, a dry run returns its set, a held abort ends the run, and
otherwise it enters APPLY (R357, R358). An abort that is held completes OK in every one of the three. -/
def execValidationDone (s : State) : Outcome State Fault Refusal :=
  .next (
    match s.cmd.runState, s.headRun with
    | 1, some r =>
      match s.validate r with
      | some (c, e) => (s.reportAbort r stOk).endRun r stBadParam c e
      | none =>
        if r.dry then ((s.returnSet r).reportAbort r stOk).endRun r stOk 0 0xFFFFFFFF
        else if r.abortHeld then (s.reportAbort r stOk).endRun r stAbandoned 0 0xFFFFFFFF
        else if r.epochs = [] then s.endRun r stOk 0 0xFFFFFFFF
        else s.enterApply r
    | _, _ => s)

/-- The partner that last set MODE holds the fixed frequency as its standing request (R348): by a commit of its own here, and
by SET_FIXED_FREQUENCY as that opcode executes. -/
def State.ownMode (s : State) (r : Run) (l : List Piece) : State :=
  if r.init ≠ 0xF1 ∧ l.any (fun p => p.fld = .DOM_BUD_CTRL_MODE) then
    let s := s.dropStanding (fun x => x.kind = .fixed)
    match r.part with
    | some p => if s.isSet .DOM_BUD_CTRL_MODE 0 then
        { s with cmd := { s.cmd with standing := s.cmd.standing ++ [{ owner := some p, init := r.init, kind := .fixed }] } } else s
    | none => s
  else s

/-- The medium tick at which an epoch, or a journal record in a walk-back, applies (R358, R409). -/
def execEpochApply (s : State) : Outcome State Fault Refusal :=
  .next (
    match s.cmd.runState, s.headRun with
    | 2, some r =>
      if ¬ s.onTick 1000 ∨ (r.barred ∧ s.cpActive) then s
      else
        let l := r.epochs.getD (r.journal.length - 1) []
        let r' := { r with settling := true, barred := false, appliedAt := s.time }
        let s := ((s.applyPieces l (r.init = 0xF1)).ownMode r l).putRun r' 3
        if r.abortHeld then s.enterWalkback r' else s
    | 5, some r =>
      if ¬ s.onTick 1000 ∨ (r.barred ∧ s.cpActive) ∨ r.settling then s
      else match r.journal with
        | [] => s
        | j :: rest =>
          (s.applyPieces (journalPieces j) (r.init = 0xF1)).putRun
            { r with journal := rest, undone := r.undone + 1, settling := true, barred := false, appliedAt := s.time } 5
    | _, _ => s)

/-- Whether the VSET profiles of the elements that drive a domain's cells have landed (R148). -/
def State.vsetLanded (s : State) (d : Nat) : Bool :=
  (s.presenters 2 d).all (fun e => ¬ s.isSet .CE_SD_CTRL_PROF_EN e.1 ∨
    ((s.elem e.1 e.2).p = s.profTarget e.1 e.2 ∧ (s.elem e.1 e.2).v = 0))

/-- The fields and items of the epoch or record applied last: a record is undone in reverse, so those of the record after the
journal that is left. -/
def Run.lastItems (r : Run) (st : Nat) : List (Fld × Nat) :=
  let l := if st = 5 then r.epochs.getD r.journal.length [] else r.epochs.getD (r.journal.length - 1) []
  l.map (fun p => (p.fld, p.item))

/-- Whether what was applied last has settled (R358): 30 µs elapsed, its VSET profiles landed, and the stack minimum at or above
H − 2.5 mV for 10 µs. -/
def State.settled (s : State) (r : Run) : Bool :=
  3000 ≤ s.since r.appliedAt ∧
    (r.lastItems s.cmd.runState).all (fun x => x.1 ≠ .DOM_SETPT_VSET ∨ s.vsetLanded x.2) ∧
    (s.dom.hrStack = none ∨ s.dom.hrOkAt.any (fun t => 1000 ≤ s.since t))

/-- EPOCH_SETTLE in ticks: 1 to 6 units of 100 µs. -/
def State.settleLimit (s : State) : Nat := 10000 * clampN 1 6 (s.getF .CMD_CTRL_EPOCH_SETTLE 0)

/-- An epoch or a record has settled: the next one follows, or the run ends (R358). -/
def execSettleDone (s : State) : Outcome State Fault Refusal :=
  .next (
    match s.cmd.runState, s.headRun with
    | 3, some r =>
      if ¬ s.settled r then s
      else if r.journal.length < r.epochs.length then s.enterApply r else s.endRun r stOk 0 0xFFFFFFFF
    | 5, some r =>
      if ¬ r.settling ∨ ¬ s.settled r then s
      else if r.journal = [] then (s.reportAbort r stOk).endRun r stAbandoned 0 0xFFFFFFFF
      else s.putRun { r with settling := false, barred := s.cpActive } 5
    | _, _ => s)

/-- EPOCH_SETTLE elapses: the run is HALTED (R358, R360). -/
def execSettleTimeout (s : State) : Outcome State Fault Refusal :=
  .next (
    match s.cmd.runState, s.headRun with
    | 3, some r =>
      if s.since r.appliedAt < s.settleLimit then s
      else
        let s := s.reportCommit r stTimeout 0 0xFFFFFFFF
        let s := s.when (s.isCpRun r) (fun s => s.answerCp1 stInternal)
        (s.putRun { r with slot := none, settling := false } 4).event .CMD_EVENT_RUN_HALT 0 0x0C r.index
    | 5, some r =>
      if ¬ r.settling ∨ s.since r.appliedAt < s.settleLimit then s
      else
        let s := (s.reportAbort r stTimeout).reportCommit r stAbandoned 0 0xFFFFFFFF
        (s.putRun { r with slot := none, abortSlot := none, settling := false, back := true } 4).event .CMD_EVENT_RUN_HALT 0 0x0C
          r.index
    | _, _ => s)

end Sys2Proof.Machine
end

