-- ==== Sys2Proof/Machine/Estimation.lean ====
section
/-! DEFINITION. The commands of the power estimation engine (chapter Power Estimation Engine, R202 to R220). -/

namespace Sys2Proof.Machine

open Host (Outcome)

/-- A COUNT message reaches the port of a domain: fields as R202 lays them out. It is discarded without a metered domain, past
the deadline, or once the window is decided; VALID = 0, another DOMAIN or another WINDOW makes the set stale (R204). -/
def execCounterMessage (port : Nat) (valid : Bool) (dom window : Nat) (counts : List Nat) (s : State) :
    Outcome State Fault Refusal :=
  let e := s.estDom port
  .next (
    if port < s.cfg.table.domains ∧ s.domMeasured port ∧ 100 ≤ s.time ∧ s.time % 100 ≤ 50 ∧ ¬ e.decided then
      if valid ∧ dom % 512 = port ∧ window % 2 ^ 32 = s.window % 2 ^ 32 then
        if e.arrived = none then
          s.setEst port { e with arrived := some ((List.range 32).map (fun i => counts.getD i 0 % 4096)) }
        else s
      else s.staleSet port
    else s)

/-- The stale decision of every metered domain (R204). -/
def execCounterStaleDecision (s : State) : Outcome State Fault Refusal :=
  .next (s.each (s.doms.filter (fun d => s.domMeasured d)) (fun d s => s.decideSet d))

/-- The estimates and measurements of the window just closed are published, each window once; the operand lists the window readings
of the cells in mA that have arrived by the deadline (R205 to R214, R222, R241, R461). -/
def execEstimatePublish (cells : List (Nat × Nat)) (s : State) : Outcome State Fault Refusal :=
  let n := s.window
  .next (
    if s.time < 100 ∨ s.est.published = some n then s
    else
      let s := s.each s.doms (fun d s =>
        if s.domMeasured d then s.publishDom cells d n else if s.estDom d = EstDom.empty then s else s.publishNone d)
      let s := (s.publishStack).dropParams n
      { s with est := { s.est with published := some n } })

/-- One edge of the time base; where its count reaches or passes the tick that closes a window, the window closes, and where the
bar on new exclusion requests ends, one may be raised; a calibration step requests its conversions (R37, R222, R282, R301). -/
def State.advance (s : State) : State :=
  let t := (s.tick.when (s.tick.time / 100 ≠ s.time / 100) State.closeWindow).calTick s.time
  t.when (s.time < s.hrd.barUntil ∧ s.hrd.barUntil ≤ t.time) State.exclCheck

/-- The slow tick of the calibration (R214 to R219). -/
def execCalibrationUpdate (s : State) : Outcome State Fault Refusal :=
  .next (s.each s.doms (fun d s => s.calibrate d))

end Sys2Proof.Machine
end

