-- ==== Sys2Proof/Machine/Faults.lean ====
section
/-! DEFINITION. The commands of the fault logic, the error pair and the Goose (chapter Fault Collection and Reaction). -/

namespace Sys2Proof.Machine

open Host (Outcome)

/-- The fault logic takes the k-th of the corrected and contained raises that may arrive next (R32, R415 to R421); CP2, where it runs, classifies the fault
and writes its checkpoint (R368). -/
def execFaultRaise (k : Nat) (s : State) : Outcome State Fault Refusal :=
  .next (
    match pickRaise (fun x => x.cls ≠ 3) [] s.raiseQ k with
    | none => s
    | some (x, rest) =>
      let s : State := { s with raiseQ := rest }
      let s := (s.takeRaise x).when (x.cls = 2) (fun s => s.contained x)
      s.when (s.cpSt 2 = 2) (fun s =>
        { s with fw := { s.fw with ckpt := s.fw.ckpt.put 2 (leAt (Tbl.get [] s.fw.banks (s.getF .GLB_CP_STATUS_BANK 2)) 12 4) } }))

/-- The fault logic takes the k-th of the fatal raises that may arrive next (R32, R422, R423). -/
def execFatalRaise (k : Nat) (s : State) : Outcome State Fault Refusal :=
  .next (
    match pickRaise (fun x => x.cls = 3) [] s.raiseQ k with
    | none => s
    | some (x, rest) => (({ s with raiseQ := rest }).takeRaise x).fatal x)

/-- The next group of the fatal stop enters STOP_RAMP, or the stop ends in SAFE (R423). -/
def execFatalStopGroupNext (s : State) : Outcome State Fault Refusal := .next s.fatalAdvance

/-- WINDOW of a source in PENDING elapses, counted from the TIME of the raise (R419). -/
def execSoftwareWindowExpiry (sub code : Nat) (s : State) : Outcome State Fault Refusal :=
  .next (
    let key := 16 * sub + code
    if code < 16 ∧ s.srcSt key = 1 ∧ s.windowTicks ≤ s.since (Tbl.get 0 s.flt.pendTime key) then s.escalate key (Tbl.get 0 s.flt.pendIdx key) false else s)

/-- QUIET of a source in QUIET_WAIT elapses; a raise that waits counts first (R419, R421). -/
def execQuietExpiry (sub code : Nat) (s : State) : Outcome State Fault Refusal :=
  .next (
    let key := 16 * sub + code
    if code < 16 ∧ s.srcSt key = 3 ∧ ¬ s.raiseWaits key ∧ s.quietTicks ≤ s.since (Tbl.get 0 s.flt.pendTime key) then
      (s.setSrc key 0).bumpF .FLT_SRC_REC_COUNT key else s)

/-- FLT_HANDLE written with GO = 1 (R420). -/
def execFltHandle (init sub code : Nat) (s : State) : Outcome State Fault Refusal :=
  .next (
    let key := 16 * sub + code
    if init ≠ 0xF2 then s.refuseInit init (fldOffset .FLT_HANDLE_GO 0)
    else if code < 16 ∧ s.srcSt key = 1 then s.quietSrc key
    else s)

/-- FAULT_QUERY (R417). -/
def execFaultQuery (set slot : Nat) (s : State) : Outcome State Fault Refusal :=
  .next (s.command set slot 0x50 (whole 4) (fun p s =>
    let l := (s.flt.recs.filter (fun r => leAt p.payload 0 4 ≤ r.seq)).take 14
    let next := l.getLast?.elim (s.getF .FLT_SEQ_NEXT_SEQ 0) (fun r => r.seq + 1)
    s.reply (8 * set + slot) stOk (leBytes 4 next ++ [l.length, 0, 0, 0] ++ l.flatMap FltRec.bytes)))

/-- FAULT_ACK (R417, R419, R420). -/
def execFaultAck (set slot : Nat) (s : State) : Outcome State Fault Refusal :=
  .next (s.command set slot 0x51 (whole 4) (fun p s =>
    let s := s.setF .FLT_ACK_SEQ_ACK_SEQ 0 (max s.ackSeq (min (leAt p.payload 0 4) (s.getF .FLT_SEQ_NEXT_SEQ 0 - 1)))
    let s := s.each (s.flt.newest.map (fun q => q.1)) (fun key s => s.acknowledge key)
    s.reply (8 * set + slot) stOk []))

/-- CNT_CLR of a source, for a HOST initiator (R421, R459). -/
def execCntClr (init sub code : Nat) (s : State) : Outcome State Fault Refusal :=
  .next (
    let key := 16 * sub + code
    if sourceClass sub code = 0 then s
    else if s.initClass init = 5 then s.setF .FLT_SRC_REC_COUNT key 0
    else s.refuseInit init (fldOffset .FLT_SRC_CNT_CLR key))

/-- VALID of the capture written 1, for a HOST initiator or CP2 (R418, R459). -/
def execFecValidClear (init : Nat) (s : State) : Outcome State Fault Refusal :=
  .next (
    if s.initClass init = 5 ∨ init = 0xF2 then (s.setF .FLT_FEC_INFO_VALID 0 0).setF .FLT_FEC_MORE_MORE 0 0
    else s.refuseInit init (fldOffset .FLT_FEC_INFO_VALID 0))

/-- The levels read back differ from those driven for 1 µs (R426). -/
def execPairReadbackMismatch (t c : Nat) (s : State) : Outcome State Fault Refusal :=
  .next (
    let a := s.getF .FLT_STATUS_PAIR_ASSERT 0
    if t % 2 = 1 - a ∧ c % 2 = a then s
    else
      let s := (s.setF .FLT_STATUS_PAIR_T 0 t).setF .FLT_STATUS_PAIR_C 0 c
      (({ s with flt := { s.flt with pairForced := true } }).showPair).raise 0x11 1 0)

/-- The levels read back have agreed for 1 ms (R426). -/
def execPairReadbackAgree (s : State) : Outcome State Fault Refusal :=
  .next (({ s with flt := { s.flt with pairForced := false } }).showPair)

/-- The fault logic sends the Goose its heartbeat (R428). -/
def execFaultLogicHeartbeat (s : State) : Outcome State Fault Refusal := .next { s with flt := { s.flt with beat := s.time } }

/-- A limit of the Goose is crossed: an armed Goose trips, and the self-test fails before it arms (R427). A heartbeat is missed no
sooner than 80 µs after the last, which the Goose's oscillator can count as 100 µs (assumption 128); whether the fault logic takes
part in that trip is open (R428). -/
def execGooseTrip (code index : Nat) (s : State) : Outcome State Fault Refusal :=
  .next (
    let armed := s.isSet .FLT_GOOSE_STATUS_ARMED 0
    if code = 7 then
      if ¬ armed ∨ s.since s.flt.beat < 8000 then s else
      let t := s.fresh.2.gooseTrip code index
      if s.fresh.1 % 2 = 0 then { t with raiseQ := s.raiseQ } else t
    else if (1 ≤ code ∧ code ≤ 5 ∧ armed) ∨ (code = 6 ∧ ¬ armed) then s.gooseTrip code index
    else s)

end Sys2Proof.Machine
end

