-- ==== Sys2Proof/Machine/Firmware.lean ====
section
/-! DEFINITION. The commands of images and processors (chapter Control Processors and Firmware, R361 to R385, and R431). -/

namespace Sys2Proof.Machine

open Host (Outcome)

/-! ### Loading (R372, R373) -/

/-- A block that the loader takes: its check value is formed on unit 0, its bytes are kept, and the last one starts the checks of
the image. -/
def State.takeBlock (s : State) (k b : Nat) (p : Packet) : State :=
  let data := p.payload.drop 8
  let img := data.take (data.length - 4)
  let want := leAt data (data.length - 4) 4
  let s := s.dutyJob 0 img (some want)
  if crc32c img ≠ want then s.badParam k 8
  else
    let bytes := s.bank b ++ img
    let s : State := { s with fw := { s.fw with banks := s.fw.banks.put b bytes } }
    let s := s.setF .GLB_FW_IMG_BYTES b bytes.length
    if bitOf (leAt p.payload 0 1) 1 then
      ({ s with fw := { s.fw with verify := some k } }).reply k stPending (s.loadBytes b)
    else s.reply k stOk (s.loadBytes b)

/-- LOAD_IMAGE (R372). A block that finds unit 0 carrying a moved duty, with the loader's lease broken by R335, completes BUSY as a
FIRST block does (DEDUCED, assumption 106). -/
def execLoadImage (set slot : Nat) (s : State) : Outcome State Fault Refusal :=
  .next (s.command set slot 0x30 ([3, 0, 0, 0] ++ whole 4) (fun p s =>
    let k := 8 * set + slot
    let first := bitOf (leAt p.payload 0 1) 0
    let ofs := leAt p.payload 4 4
    let duty := s.getF .CRC_STATUS_DUTY 0
    match s.loadTarget with
    | none => s.reply k stBusy []
    | some b =>
      if s.cpSt 0 = 1 ∨ s.bankSt b = 3 ∨ s.fw.verify.isSome ∨
          (s.isSet .GLB_FW_LOAD_ACTIVE 0 ∧ s.getF .GLB_FW_LOAD_PARTNER 0 ≠ set) then s.reply k stBusy []
      else if first then
        if s.crcSt 0 = 3 then s.reply k stInternal []
        else if (s.isSet .CRC_LEASE_HELD 0 ∧ s.getF .CRC_LEASE_HOLDER 0 ≠ 0xFF) ∨ (1 ≤ duty ∧ duty ≤ 3) then s.reply k stBusy []
        else if ofs ≠ 0 then s.badParam k 4
        else (s.beginLoading b set).takeBlock k b p
      else if ¬ s.isSet .GLB_FW_LOAD_ACTIVE 0 ∨ ofs ≠ s.getF .GLB_FW_IMG_BYTES b ∨ 1048576 < ofs + (p.payload.length - 12) then
        s.badParam k 4
      else if s.crcSt 0 = 3 then s.reply k stInternal []
      else if 1 ≤ duty ∧ duty ≤ 3 then s.reply k stBusy []
      else s.takeBlock k b p))

/-- The checks of the image end (R373, R374). -/
def execImageVerifyDone (s : State) : Outcome State Fault Refusal :=
  .next (
    match s.fw.verify with
    | none => s
    | some k =>
      let b := s.getF .GLB_FW_LOAD_TARGET 0
      let e := s.imgError (s.bank b)
      if e = 0 then
        let s := (s.setF .GLB_FW_IMG_STATE b 2).endLoading
        let s : State := { s with fw := { s.fw with verify := none } }
        s.replyOp k 0x30 stOk (s.loadBytes b)
      else
        let s := ((s.dropLoading).setF .GLB_FW_IMG_ERR b e).replyOp k 0x30 stBadParam [0xFF, 0xFF, 0, 0]
        s.event .GLB_FW_EVENT_IMG_BAD 0 0x0D b)

/-- 10 s pass between two blocks (R372). -/
def execLoadingTimeout (s : State) : Outcome State Fault Refusal :=
  .next (if s.fw.verify.isSome then s else s.dropLoading)

/-! ### Activation (R376, R377) -/

/-- Whether the processors would be left on images of different IF_VERSION (R376). -/
def State.splitsVersions (s : State) (mask b : Nat) : Bool :=
  [0, 1, 2, 3].any (fun c => ¬ bitOf mask c ∧ s.cpSt c ≠ 0 ∧ s.cpSt c ≠ 4 ∧
    s.ifVersion (s.getF .GLB_CP_STATUS_BANK c) ≠ s.ifVersion b)

/-- A further ACTIVATE_IMAGE names processors for the bank that is ARMED: it joins the activation under way and completes with it
(DESIGN CHOICE, assumption 109). -/
def State.joinAct (s : State) (k mask : Nat) (a : Activation) : State :=
  let more := [3, 2, 1, 0].filter (fun c => bitOf mask c ∧ ¬ bitOf a.mask c)
  let a' : Activation := { a with
    slots := a.slots ++ [k], mask := Nat.lor a.mask mask, left := if a.begun then a.left ++ more else a.left }
  ({ s with fw := { s.fw with act := some a' } }).reply k (if a.begun then stPending else stDeferred) [s.bankSt a.bank, 0, 0, 0]

/-- ACTIVATE_IMAGE (R374, R376, R402). While an activation is under way on one bank, a VERIFIED image in the other is not taken up:
NOT_PERMITTED (DESIGN CHOICE, assumption 109). -/
def execActivateImage (set slot : Nat) (s : State) : Outcome State Fault Refusal :=
  .next (s.command set slot 0x31 [15, 0, 255, 255] (fun p s =>
    let k := 8 * set + slot
    let mask := leAt p.payload 0 1
    match s.fw.act with
    | some a =>
      if s.bankSt a.bank ≠ 3 ∨ mask = 0 ∨ s.splitsVersions (Nat.lor a.mask mask) a.bank then s.reply k stNotPermitted []
      else s.joinAct k mask a
    | none =>
      match [0, 1].find? (fun b => s.bankSt b = 2) with
      | none => s.reply k stNotPermitted []
      | some b =>
        if mask = 0 ∨ s.splitsVersions mask b then s.reply k stNotPermitted []
        else
          let a : Activation := { slots := [k], mask := mask, bank := b, left := [], begun := false }
          let s := s.when s.boot.released (fun s => s.setF .GLB_BOOT_STATUS_CFG_COMMITTED 0 1)
          let s := s.setF .GLB_FW_IMG_STATE b 3
          if s.interlock then ({ s with fw := { s.fw with act := some a } }).reply k stDeferred [3, 0, 0, 0]
          else (s.reply k stPending [3, 0, 0, 0]).beginSwitch a))

/-- QUERY_IMAGE: the ACTIVE image, CP0's where there are two, and the image of the other bank, or of the loaded bank where none
is ACTIVE. -/
def execQueryImage (set slot : Nat) (s : State) : Outcome State Fault Refusal :=
  .next (s.command set slot 0x32 [] (fun _ s =>
    let own := s.getF .GLB_CP_STATUS_BANK 0
    let active := [own, 0, 1].find? (fun b => s.bankSt b = 4)
    let loaded := match active with
      | some a => some (1 - a)
      | none => [0, 1].find? (fun b => s.bankSt b ≠ 0)
    let version (b : Option Nat) : Nat := b.elim 0 (fun b => leAt (s.bank b) 8 4)
    let st (b : Option Nat) : Nat := b.elim 0 (fun b => s.bankSt b)
    s.reply (8 * set + slot) stOk (leBytes 4 (version active) ++ leBytes 4 (version loaded) ++ [st active, st loaded, 0, 0] ++
      leBytes 4 (loaded.elim 0 (fun b => s.getF .GLB_FW_IMG_BYTES b)))))

/-- IL_QUIET after the last condition: the interlock clears, and an activation that waited begins (R375, R376). -/
def execInterlockQuietEnd (s : State) : Outcome State Fault Refusal :=
  .next (
    if ¬ s.isSet .GLB_FW_IL_SET 0 ∨ s.ilBits.any id then s
    else
      let s := s.setF .GLB_FW_IL_SET 0 0
      match s.fw.act with
      | some a => if a.begun then s else s.beginSwitch a
      | none => s)

/-- DEFER_MS passes with the interlock set (R376, R385). -/
def execDeferTimeout (s : State) : Outcome State Fault Refusal :=
  .next (
    match s.fw.act with
    | none => s
    | some a =>
      if a.begun ∨ ¬ s.interlock then s
      else
        let s : State := { s with fw := { s.fw with act := none } }
        let s := (s.setF .GLB_FW_IMG_STATE a.bank 2).replyAct a stTimeout [2, 0, 0, 0]
        (s.fresh.2).event .GLB_FW_EVENT_ACT_TMO 0 0x0D (s.fresh.1 % 65536))

/-- The next named processor reaches the end of its policy cycle, halts, and starts from the new bank (R377). -/
def execProcessorSwitch (cp : Nat) (s : State) : Outcome State Fault Refusal :=
  .next (
    match s.fw.act with
    | none => s
    | some a =>
      if a.begun ∧ a.left.head? = some cp ∧ ¬ a.left.any (fun c => s.cpSt c = 1) then
        ((s.haltCp cp).beginStart cp a.bank (s.cpSt cp ≠ 0)).retireBanks
      else s)

/-! ### Restarts and crashes (R378 to R383) -/

/-- A start ends: the processor runs, or a bad bank stops it (R378, R381, R383). -/
def execProcessorRestartDone (cp : Nat) (bankGood : Bool) (s : State) : Outcome State Fault Refusal :=
  .next (
    if 4 ≤ cp ∨ s.cpSt cp ≠ 1 then s
    else
      let bank := s.getF .GLB_CP_STATUS_BANK cp
      let bad : Bool := ¬ bankGood ∨ s.isSet .GLB_FW_IMG_DAMAGED bank
      let t := if bad then s.stopCp cp else s.cpRuns cp
      match s.fw.act with
      | none => t
      | some a =>
        if a.begun ∧ a.bank = bank ∧ a.left.contains cp then
          let left := a.left.filter (fun c => c ≠ cp)
          if bad then (t.replyAct a stInternal []).actNext { a with mask := setBit a.mask cp false } left
          else t.actNext a left
        else t)

/-- A processor crashes of cause MPU, ECC or EXCEPTION (R365, R379, R380): MPU only where the access can be denied. -/
def execProcessorCrash (cp cause addr comp : Nat) (s : State) : Outcome State Fault Refusal :=
  .next (if cp < 4 ∧ s.cpSt cp = 2 ∧ ((cause = 1 ∧ s.mayDeny cp comp addr) ∨ cause = 3 ∨ cause = 4) then s.crashCp cp cause addr comp else s)

/-- The watchdog of a processor expires, WDT_MS after its start or its last KICK: a crash of cause WDT, whose address is 0
(R379, R380). -/
def execWatchdogExpiry (cp : Nat) (s : State) : Outcome State Fault Refusal :=
  .next (if cp < 4 ∧ s.cpSt cp = 2 ∧ 100000 * max 1 (s.getF .GLB_CP_WDT_WDT_MS cp) ≤ s.since (Tbl.get 0 s.fw.kicks cp) then (s.fresh.2).crashCp cp 2 0 s.fresh.1 else s)

/-- KICK written 1: its processor restarts its watchdog, and the write of another has no effect (R379, R459). -/
def execWatchdogKick (init cp : Nat) (s : State) : Outcome State Fault Refusal :=
  .next (
    if 4 ≤ cp then s
    else if init = 0xF0 + cp then { s with fw := { s.fw with kicks := s.fw.kicks.put cp s.time } }
    else s.refuseInit init (fldOffset .GLB_CP_WDT_KICK cp))

/-- A pass of the scrubber: processors with a corrected error, processors with an uncorrectable one, and banks with an
uncorrectable one (R362, R383). -/
def execScrubPass (corrected : List Nat) (crashed : List (Nat × Nat × Nat)) (banks : List Nat) (s : State) :
    Outcome State Fault Refusal :=
  .next (
    let s := s.each (corrected.filter (fun c => c < 4)) (fun c s => s.event .GLB_FW_EVENT_ECC_CORR 0 0x0D c)
    let s := crashed.foldl (fun t e => if e.1 < 4 ∧ (t.cpSt e.1 = 2 ∨ t.cpSt e.1 = 5) then t.crashCp e.1 3 e.2.1 e.2.2 else t) s
    s.each banks (fun b s =>
      if b < 2 ∧ s.bankSt b = 4 then (s.setF .GLB_FW_IMG_DAMAGED b 1).event .GLB_FW_EVENT_DAMAGED 0 0x0D b else s))

/-! ### Policy cycles and mailboxes (R366, R368, R431) -/

/-- The policy cycle of each slow tick: CP1 commits what differs, and CP0 to CP2 write their checkpoints (R368). -/
def execPolicyCycle (s : State) : Outcome State Fault Refusal :=
  .next (
    s.cp1Commit.each [0, 1, 2] (fun c s =>
      if s.cpSt c = 2 then { s with fw := { s.fw with ckpt := s.fw.ckpt.put c (s.ifVersion (s.getF .GLB_CP_STATUS_BANK c)) } } else s))

/-- MBX_TMO passes before a box is read: it is emptied and its packet completes ABANDONED (R431). -/
def execMailboxTimeout (slot : Nat) (s : State) : Outcome State Fault Refusal :=
  .next (if (s.slotPkt slot).any (fun f => f.phase = .boxed) then s.breakBox slot else s)

/-! ### Debug window (R384) -/

/-- HALT written 1 to the run-control register. -/
def execDebugHalt (init : Nat) (s : State) : Outcome State Fault Refusal := .next (s.dbgWrite init 0xC0000 1)

/-- RESUME written 1 to the run-control register. -/
def execDebugResume (init : Nat) (s : State) : Outcome State Fault Refusal := .next (s.dbgWrite init 0xC0000 2)

/-- STEP written 1 to the run-control register. -/
def execDebugStep (init : Nat) (s : State) : Outcome State Fault Refusal := .next (s.dbgWrite init 0xC0000 4)

/-- A write in the debug window. -/
def execDebugWindowWrite (init off value : Nat) (s : State) : Outcome State Fault Refusal := .next (s.dbgWrite init off value)

end Sys2Proof.Machine
end

