-- ==== Sys2Proof/Machine/Herd.lean ====
section
/-! DEFINITION. The commands of the Herd lock (chapter Herd Lock Across Stacks, R270 to R288), but for HERD_JOIN and HERD_LEAVE,
which are command packets. A message operand carries the fields of R273 and R274; it has passed its CRC. -/

namespace Sys2Proof.Machine

open Host (Outcome)

/-- A HELLO on an enabled port of this group counts where the levels agree; the up port takes its level from it. While the link
is not up it is answered, and the link is up once HELLO has gone both ways (R276). A member takes F_GRP of its parent's HELLO
with its up link (R280). -/
def State.takeHello (s : State) (p : Nat) (m : LockMsg) : State :=
  let lvl := leAt m.body 1 1
  let own := s.getF .HRD_STATUS_LEVEL 0
  let ok : Bool := if p = 0 then lvl ≤ 14 else own ≤ 14 ∧ lvl = own + 1
  if ¬ ok ∨ s.linkUp p then s
  else
    let s := s.when (p = 0) (fun s => s.setF .HRD_STATUS_LEVEL 0 (lvl + 1))
    let s := (s.setPort p { s.port p with got := true, crcRun := 0 }).sendHello p
    if ¬ (s.port p).sent then s
    else
      let s := s.setUp p true
      if p = 0 then
        let f := leAt m.body 2 2 % 4096
        let s := s.when (f ≠ 0 ∧ s.herdSt ≠ 4) (fun s => s.holdChange f (leAt m.body 4 2) (slowTick (s.time + s.lead)))
        s.offerUpdate
      else s.offerUpdate

/-- HELLO received (R276, R277). -/
def execHelloReceived (port : Nat) (m : LockMsg) (s : State) : Outcome State Fault Refusal :=
  .next (s.rxMsg port 0x66 m (fun s =>
    if s.herdSt = 0 then s.sendHello port
    else if ¬ (s.port port).enabled then s
    else if m.group % 65536 ≠ s.getF .HRD_ID_GROUP_ID 0 then s.loseLink port
    else
      let t := s.takeHello port m
      if ¬ s.linkUp port ∧ ¬ t.linkUp port ∧ ¬ (t.port port).got then t.sendHello port else t))

/-- OFFER received from a down link (R279). -/
def execOfferReceived (port : Nat) (m : LockMsg) (s : State) : Outcome State Fault Refusal :=
  .next (
    if 1 ≤ port ∧ port ≤ 3 then
      s.rxLock port 0x60 m (fun s =>
        (s.setPort port { s.port port with
          fMin := leAt m.body 0 2 % 4096, minId := leAt m.body 2 2, members := leAt m.body 4 4 % 2 ^ 17,
          exclN := leAt m.body 8 2 }).offerUpdate)
    else s)

/-- The own count at which a group count CT stands: CT, or CT less the offset held in offset mode (R285). -/
def State.ownCt (s : State) (ct : Nat) : Int :=
  if s.isSet .HRD_STATUS_OFFSET_MODE 0 then (ct : Int) - s.heldOffset else ct

/-- Whether the change held is due: at CT, in offset mode at the first slow tick from there on (R280, R285). -/
def State.changeDue (s : State) : Bool :=
  let at_ := s.ownCt (s.getF .HRD_PEND_TICK_LO_CT_LO 0 + 2 ^ 32 * s.getF .HRD_PEND_TICK_HI_CT_HI 0)
  if s.isSet .HRD_STATUS_OFFSET_MODE 0 then slowTick at_.toNat ≤ s.time else at_ ≤ s.time

/-- CHANGE received from the parent (R279, R280): forwarded, held until CT, or applied at once where CT has passed. -/
def execChangeReceived (m : LockMsg) (s : State) : Outcome State Fault Refusal :=
  .next (s.rxLock 0 0x61 m (fun s =>
    let seq := leAt m.body 2 2
    if s.hrd.lastSeq.any (fun n => seq ≤ n) then s
    else
      let s := s.forwardDown 0x61 m
      if s.herdSt = 2 ∨ s.herdSt = 3 ∨ s.herdSt = 5 then
        let ct := leAt m.body 4 8
        let s := s.holdChange (leAt m.body 0 2 % 4096) seq ct
        if s.ownCt ct < s.time then (s.applyChange).exclCheck else s
      else s))

/-- The change tick: F_GRP = F_NEW, and HERD_STEP follows (R280, R172). -/
def execChangeTick (s : State) : Outcome State Fault Refusal :=
  .next (if s.isSet .HRD_FREQ_PEND 0 ∧ s.changeDue then ((s.applyChange).exclCheck).rootCheck else s)

/-- SYNC received: the offset is T_SEND + delay − the own count (R284, R285). -/
def execSyncReceived (m : LockMsg) (s : State) : Outcome State Fault Refusal :=
  .next (s.rxLock 0 0x62 m (fun s =>
    match s.hrd.delay with
    | none => s
    | some d => if s.herdSt = 0 then s else s.syncOffset ((leAt m.body 0 8 : Int) + d - s.time)))

/-- DELAY_REQ received: answered with T1, T2 and RES (R274, R284). -/
def execDelayReqReceived (port : Nat) (m : LockMsg) (s : State) : Outcome State Fault Refusal :=
  .next (
    if 1 ≤ port ∧ port ≤ 3 then
      s.rxLock port 0x63 m (fun s => s.sendOwn port 0x64 ((List.range 8).map (fun i => m.body.getD i 0) ++ leBytes 8 s.time ++
        [0, 0, 0, 0]))
    else s)

/-- DELAY_RESP received: the one-way delay is ((T4 − T1) − RES) / 2 (R284); an odd sum leaves the half tick open. -/
def execDelayRespReceived (m : LockMsg) (s : State) : Outcome State Fault Refusal :=
  .next (s.rxLock 0 0x64 m (fun s =>
    let q := s.openDiv ((s.time : Int) - leAt m.body 0 8 - leAt m.body 16 4) 2
    let d := q.1.toNat
    let s : State := { q.2 with hrd := { q.2.hrd with delay := some d } }
    s.setF .HRD_PORT_DELAY 0 (min 255 d)))

/-- EXCLUDE received: recorded at the root, forwarded up elsewhere (R283). -/
def execExcludeReceived (port : Nat) (m : LockMsg) (s : State) : Outcome State Fault Refusal :=
  .next (
    if 1 ≤ port ∧ port ≤ 3 then
      s.rxLock port 0x65 m (fun s =>
        if s.isSet .HRD_STATUS_IS_ROOT 0 then
          s.rootExclude port (m.sender % 65536) (leAt m.body 0 2 % 4096) (leAt m.body 4 2) (leAt m.body 6 1)
        else if s.linkUp 0 then s.sendLock 0 0x65 m.flags m.sender m.body
        else s)
    else s)

/-- DECIDE received: forwarded, and acted on where it names this member's open request (R283). -/
def execDecideReceived (m : LockMsg) (s : State) : Outcome State Fault Refusal :=
  .next (s.rxLock 0 0x67 m (fun s =>
    (s.forwardDown 0x67 m).takeDecide (leAt m.body 0 2) (leAt m.body 2 2) (leAt m.body 4 1)))

/-- DISBAND received: forwarded, and the member enters IDLE (R286). -/
def execDisbandReceived (m : LockMsg) (s : State) : Outcome State Fault Refusal :=
  .next (s.rxLock 0 0x68 m (fun s => ((s.forwardDown 0x68 m).event .HRD_EVENT_DISBAND 0 0x08 0).toIdle))

/-- SYNC goes down every link that is up (R275). -/
def execSyncSend (s : State) : Outcome State Fault Refusal := .next (s.sendDown 0x62 (leBytes 8 s.time))

/-- OFFER goes up (R275). -/
def execOfferSend (s : State) : Outcome State Fault Refusal :=
  .next (if s.linkUp 0 then s.sendOffer else s)

/-- DELAY_REQ goes up (R275). -/
def execDelayReqSend (s : State) : Outcome State Fault Refusal :=
  .next (if s.linkUp 0 then s.sendOwn 0 0x63 (leBytes 8 s.time) else s)

/-- Every enabled link that is not up is retried with HELLO (R276). -/
def execHelloRetry (s : State) : Outcome State Fault Refusal :=
  .next (
    if s.herdSt = 0 then s
    else s.each ([0, 1, 2, 3].filter (fun p => (s.port p).enabled ∧ ¬ s.linkUp p ∧ ¬ (s.port p).tested)) (fun p s => s.sendHello p))

/-- A link has had no valid message for 50 µs (R276). -/
def execLinkLoss (port : Nat) (s : State) : Outcome State Fault Refusal := .next (if port ≤ 3 then s.loseLink port else s)

/-- F_OFF is formed again, and its consequences follow (R278, R279, R282). -/
def execOfferRecompute (s : State) : Outcome State Fault Refusal :=
  let s := s.setF .HRD_FREQ_F_OFF 0 s.offer
  .next (if s.herdSt = 0 then s else (s.exclCheck).offerUpdate)

/-- The exclusion condition has been false for 1 ms: the request is withdrawn (R282). -/
def execExclusionRecovery (s : State) : Outcome State Fault Refusal :=
  .next (if s.herdSt = 3 ∧ ¬ s.exclLow then (s.sendExclude 2).exclEnd false else s)

/-- EXCL_WAIT has passed without a decision (R282). -/
def execExclWaitExpiry (s : State) : Outcome State Fault Refusal := .next (if s.herdSt = 3 then s.exclEnd true else s)

/-- JOINING has lasted 10 ms (R277). -/
def execJoinTimeout (s : State) : Outcome State Fault Refusal :=
  .next (
    if s.herdSt = 1 then ((s.toIdle).event .HRD_EVENT_JOIN_TMO 0 0x08 0).replyAll 0x70 (fun _ => true) stTimeout [] else s)

/-- HOLD_TMO has passed in HOLDOVER (R277, R286). -/
def execHoldTmoExpiry (s : State) : Outcome State Fault Refusal := .next (if s.herdSt = 5 then s.disband else s)

/-- A decision written at the root goes down the tree (R283). -/
def State.decideSent (s : State) (stack code : Nat) : State :=
  match (List.range 16).find? (fun i => s.getF .HRD_EXCL_STATE i = 1 ∧ s.getF .HRD_EXCL_STACK_ID i = stack) with
  | none => s
  | some i =>
    if ¬ s.isSet .HRD_STATUS_IS_ROOT 0 then s
    else
      let seq := Tbl.get 0 s.hrd.exclSeq i
      ((s.when (code = 2) (fun s => s.setF .HRD_EXCL_STATE i 2)).sendDecide stack seq code).takeDecide stack seq code

/-- FOLLOW decided at the root (R283). -/
def execDecideFollow (stack : Nat) (s : State) : Outcome State Fault Refusal := .next (s.decideSent (stack % 65536) 1)

/-- EVICT decided at the root (R283). -/
def execDecideEvict (stack : Nat) (s : State) : Outcome State Fault Refusal := .next (s.decideSent (stack % 65536) 2)

/-- The window of an open entry at the root ends (R283). -/
def execExclusionEntryExpiry (entry : Nat) (s : State) : Outcome State Fault Refusal :=
  .next (
    if entry < 16 ∧ s.isSet .HRD_STATUS_IS_ROOT 0 ∧ s.isSet .HRD_EXCL_STATE entry then
      ((s.setF .HRD_EXCL_STATE entry 0).setF .HRD_EXCL_F_OFF entry 0).setF .HRD_EXCL_STACK_ID entry 0
    else s)

/-- A message that the receiver discards (R273): a failed CRC is counted, and the fourth in a row loses the link (R276). -/
def execLockMessageDiscard (port : Nat) (bytes : List Nat) (s : State) : Outcome State Fault Refusal :=
  let b := (List.range 28).map (fun i => bytes.getD i 0 % 256)
  let want := leAt bytes 28 4
  .next (
    if s.portShut port then s
    else
      let s := s.dutyJob 2 b (some want)
      if crc32c b = want then s.setPort port { s.port port with crcRun := 0 }
      else
        let n := (s.port port).crcRun + 1
        let s := (s.setPort port { s.port port with crcRun := n }).bumpF .HRD_PORT_CRC_ERR port
        let s := s.event .HRD_EVENT_CRC_ERR 0 0x08 port
        s.when (n = 4) (fun s => s.loseLink port))

/-- The slew's offset has reached 0 (R285). -/
def execTimeSlewEnd (s : State) : Outcome State Fault Refusal :=
  .next (
    if s.isSet .HRD_STATUS_SLEWING 0 then
      ((s.setCorr 0).setF .HRD_STATUS_SLEWING 0 0).setF .GLB_TB_STATUS_HERD_SHARED 0 1
    else s)

end Sys2Proof.Machine
end

