-- ==== Sys2Proof/Machine/LinkTest.lean ====
section
/-! DEFINITION. Link tests (chapter Ports, Test and Register Map, R455 and R456). Links: 0 to 3 the lock ports, 4 the power-stage
interface, 5 PMBus, 6 the serial flash. -/

namespace Sys2Proof.Machine

open Host (Outcome)

/-- Whether a link may be tested: the power-stage interface with every group OFF, a lock port with its link down or by FORCE
(R351). -/
def State.testPermitted (s : State) (l : Nat) (force : Bool) : Bool :=
  if l = 4 then [0, 1, 2, 3].all (fun g => s.grp g = 0) else if l < 4 then force ∨ ¬ s.linkUp l else true

/-- A test of a link begins: the last result goes, and a lock port leaves its link (R456). -/
def State.beginTest (s : State) (l mode ms k : Nat) : State :=
  let up : Bool := l < 4 ∧ s.linkUp l
  let s := s.when up (fun s => s.loseLink l)
  let s := s.when (l < 4) (fun s => s.setPort l { s.port l with tested := true })
  let s := (((s.setF .GLB_LT_STAT_STATE l 1).setF .GLB_LT_STAT_MODE l mode).setF .GLB_LT_STAT_LOCKED l 0).setB
    .GLB_LT_STAT_FORCED l up
  let s := (s.setF .GLB_LT_BITS_BITS l 0).setF .GLB_LT_ERRS_ERRS l 0
  let s : State := { s with lt := { s.lt with runs := s.lt.runs.put l (k, s.time + max 1 ms * 100000) } }
  s.when (l = 4) State.lpUpdate

/-- LINK_TEST (R351, R456). -/
def execLinkTest (set slot : Nat) (s : State) : Outcome State Fault Refusal :=
  .next (s.command set slot 0x90 ([255, 255, 1, 0, 255, 255, 0, 0] ++ whole 4) (fun p s =>
    let k := 8 * set + slot
    let l := leAt p.payload 0 1
    let mode := leAt p.payload 1 1
    if 6 < l then s.badParam k 0
    else if mode = 0 ∨ 3 < mode then s.badParam k 1
    else if mode = 3 ∧ leAt p.payload 8 4 = 0 then s.badParam k 8
    else if s.lt.runs.any (fun q => q.1 = l) then s.reply k stBusy []
    else if ¬ s.testPermitted l (bitOf (leAt p.payload 2 1) 0) then s.reply k stNotPermitted []
    else (s.reply k stPending [0, 0, 0, 0, 0, 0, 0, 0]).beginTest l mode (leAt p.payload 4 2) k))

/-- The duration of a test has passed, with the bits and errors that its checker counted from lock onward (R455, R456). -/
def execLinkTestEnd (link bits errors : Nat) (locked : Bool) (s : State) : Outcome State Fault Refusal :=
  .next (
    match s.lt.runs.find? (fun p => p.1 = link) with
    | none => s
    | some p =>
      if s.time < p.2.2 then s else
      let units := if locked then min (bits / 1024) (2 ^ 32 - 1) else 0
      let errs := if locked then min errors (2 ^ 32 - 1) else 0
      let s : State := { s with lt := { s.lt with runs := s.lt.runs.erase link } }
      let s := (s.setF .GLB_LT_STAT_STATE link 2).setB .GLB_LT_STAT_LOCKED link locked
      let s := (s.setF .GLB_LT_BITS_BITS link units).setF .GLB_LT_ERRS_ERRS link errs
      let s := s.when (link < 4) (fun s => s.setPort link { s.port link with tested := false, sent := false, got := false })
      let s := s.when (link = 4) State.lpUpdate
      s.replyOp p.2.1 0x90 stOk (leBytes 4 units ++ leBytes 4 errs))

/-- The level of BL_GRP_EN of a group: 1 from DELAY to STOP_RAMP, 0 in OFF and LATCHED_OFF, while the power-stage interface is under
test, and after a Goose trip on the group (R443). -/
def State.grpEnPin (s : State) (g : Nat) : Bool :=
  s.grp g ≠ 0 ∧ s.grp g ≠ 6 ∧ ¬ s.lt.runs.any (fun p => p.1 = 4) ∧ ¬ s.flt.gooseShut.contains g

end Sys2Proof.Machine
end

