-- ==== Sys2Proof/Machine/Packets.lean ====
section
/-! DEFINITION. The command packets of sensors, calibration, the Herd lock and fences (R118, R252, R272, R287, R301, R351). -/

namespace Sys2Proof.Machine

open Host (Outcome)

/-- MASK_SENSOR (R252). -/
def execMaskSensor (set slot : Nat) (s : State) : Outcome State Fault Refusal :=
  .next (s.command set slot 0x52 [255, 255, 3, 0] (fun p s =>
    let k := 8 * set + slot
    let x := leAt p.payload 0 2
    let act := leAt p.payload 2 1
    if s.cfg.table.tsens ≤ x then s.badParam k 0
    else if act ≠ 1 ∧ act ≠ 2 then s.badParam k 2
    else
      let r := s.maskMove x act
      (if r.1 then r.2.showFuse else s).reply k (if r.1 then stOk else stNotPermitted) [r.2.snsSt x, 0, 0, 0]))

/-- ADC_CALIBRATE: the step is accepted and measures (R301). -/
def execAdcCalibrate (set slot : Nat) (s : State) : Outcome State Fault Refusal :=
  .next (s.command set slot 0x60 (whole 4) (fun p s =>
    let k := 8 * set + slot
    let ch := leAt p.payload 0 1
    let st := leAt p.payload 1 1
    let t := leAt p.payload 2 2
    if s.adc.step.isSome then s.reply k stBusy []
    else if ¬ chDefined s.cfg.table ch then s.badParam k 0
    else if st = 0 ∨ 4 < st then s.badParam k 1
    else if st = 1 ∧ 2048 < t then s.badParam k 2
    else if ¬ s.calPermitted ch then s.reply k stNotPermitted []
    else
      let s := s.reply k stPending (leBytes 2 (s.getF .ADC_CAL_GAIN ch) ++ [0, 0] ++ leBytes 4 (toU 32 (s.getS .ADC_CAL_OFS ch)))
      let s : State := { s with adc := { s.adc with
        step := some { ch := ch, step := st, target := t, slot := k, at_ := s.time, due := true, n := 0, sum := 0 } } }
      (s.when (st = 1 ∨ st = 3) (fun s => s.openCal ch)).calRequest))

/-- Whether the HERD_ROLE strap permits a role, 1 root or 2 member (R272). -/
def roleAllowed (strap role : Nat) : Bool := (role = 1 ∧ bitOf strap 0) ∨ (role = 2 ∧ bitOf strap 1)

/-- HERD_JOIN (R272, R277). -/
def execHerdJoin (set slot : Nat) (s : State) : Outcome State Fault Refusal :=
  .next (s.command set slot 0x70 (whole 5 ++ [15, 0, 0, 255, 255, 1, 0]) (fun p s =>
    let k := 8 * set + slot
    let role := leAt p.payload 4 1
    if s.herdSt ≠ 0 ∧ s.herdSt ≠ 4 then s.reply k stBusy []
    else if role ≠ 1 ∧ role ≠ 2 then s.badParam k 4
    else if ¬ roleAllowed s.cfg.straps.herdRole role then s.reply k stNotPermitted []
    else if s.freqOf 0 15 = 0 then s.badParam k 0xFFFF
    else
      let s := s.dropStanding (fun r => r.kind = .herd)
      let s := (s.reply k stPending [s.getF .HRD_STATUS_LEVEL 0, 0, 0, 0]).stand k p .herd
      s.joinHerd (leAt p.payload 0 2) (leAt p.payload 2 2) role (leAt p.payload 5 1) (leAt p.payload 8 4)))

/-- HERD_LEAVE (R277, R287). -/
def execHerdLeave (set slot : Nat) (s : State) : Outcome State Fault Refusal :=
  .next (s.command set slot 0x71 [] (fun _ s =>
    ((s.dropStanding (fun r => r.kind = .herd)).leaveHerd).reply (8 * set + slot) stOk []))

/-- Whether a domain that is not a fabric domain is neither DARK nor FENCED (R121). -/
def State.nonFabricUp (s : State) : Bool :=
  s.doms.any (fun d => s.cfg.table.domClass d ≠ 4 ∧ s.domSt d ≠ 0 ∧ s.domSt d ≠ 5)

/-- FENCE_DOMAIN (R118, R351). -/
def execFenceDomain (set slot : Nat) (s : State) : Outcome State Fault Refusal :=
  .next (s.command set slot 0x80 [255, 255, 0, 0] (fun p s =>
    let k := 8 * set + slot
    let d := leAt p.payload 0 2
    if s.cfg.table.domains ≤ d then s.badParam k 0
    else if s.cfg.table.domClass d = 4 ∧ s.nonFabricUp then s.reply k stNotPermitted []
    else
      let s := s.reply k stPending [0, 0, 0, 0]
      if s.domSt d = 5 then s.reply k stOk [0, 0, 0, 0] else s.fence d false))

/-- UNFENCE_DOMAIN (R118, R351). -/
def execUnfenceDomain (set slot : Nat) (s : State) : Outcome State Fault Refusal :=
  .next (s.command set slot 0x81 [255, 255, 0, 0] (fun p s =>
    let k := 8 * set + slot
    let d := leAt p.payload 0 2
    if s.cfg.table.domains ≤ d then s.badParam k 0
    else if s.domSt d ≠ 5 ∨ s.navail d ≤ s.fenceAt (s.cfg.table.domClass d) then s.reply k stNotPermitted []
    else (s.domGo d 0).reply k stOk []))

end Sys2Proof.Machine
end

