-- ==== Sys2Proof/Machine/Partners.lean ====
section
/-! DEFINITION. Slots, partners and the commands of operating points (chapter Partners and Command Packets; R233, R238, R349). -/

namespace Sys2Proof.Machine

open Host

/-- A write of the last word of a command slot hands its packet over (R337). -/
def execSlotHandover (init set slot word : Nat) (s : State) : Outcome State Fault Refusal :=
  .next (if set < 64 ∧ slot < 8 then s.slotWrite init set slot 63 word else s)

/-- A read of the last word of the reply in a reply slot (R338, R339). -/
def execReplySlotRead (init set slot : Nat) (s : State) : Outcome State Fault Refusal :=
  .next (if 64 ≤ set ∨ 8 ≤ slot then s else s.readReply init set slot (s.lastWord (8 * set + slot)))

/-- 10 ms after its final reply a registration slot frees (R339). -/
def execRegistrationSlotTimeout (slot : Nat) (s : State) : Outcome State Fault Refusal :=
  .next (if slot < 8 then s.freeRegSlot slot else s)

/-- CP0 starts a queued packet, or sends it through the mailbox to CP1; while CP1 does not run, the packet keeps its place with an
intermediate reply (R366). -/
def execFirmwarePacketStart (set slot : Nat) (s : State) : Outcome State Fault Refusal :=
  let k := 8 * set + slot
  .next (
    match s.slotPkt k with
    | none => s
    | some f =>
      let ahead := s.cmd.inflight.filter (fun q => q.2.phase = .queued ∧ q.2.passed < f.passed)
      let running := s.cmd.inflight.filter (fun q => ¬ opHardware q.2.pkt.op ∧
        (q.2.phase = .started ∨ q.2.phase = .pending ∨ q.2.phase = .boxed))
      let held (q : Nat × InFlight) : Bool := ¬ s.inOrder q.1 q.2 ∨ (opCp1 q.2.pkt.op ∧ s.cpSt 1 ≠ 2)
      if f.phase ≠ .queued ∨ s.cpSt 0 ≠ 2 ∨ 8 ≤ running.length ∨ ¬ s.inOrder k f ∨ ¬ ahead.all held then s
      else if opCp1 f.pkt.op then
        if s.cpSt 1 ≠ 2 then (s.replyRaw k stPending []).setPhase k .queued
        else if s.cmd.inflight.any (fun q => q.2.phase = .boxed) then s
        else ((s.replyRaw k stPending []).setPhase k .boxed).serveIntake
      else (s.setPhase k .started).serveIntake)

/-- REGISTER_PARTNER (R346, R348, R351). -/
def execRegisterPartner (set slot : Nat) (s : State) : Outcome State Fault Refusal :=
  .next (s.command set slot 0x01 ([255, 255, 3, 0] ++ whole 4) (fun p s =>
    let k := 8 * set + slot
    let lease := if leAt p.payload 0 2 = 0 then 3 else leAt p.payload 0 2
    let cls := s.initClass p.init
    if lease < 2 ∨ 60 < lease then s.badParam k 0
    else if cls = 0 then s.reply k stNotPermitted []
    else match ((List.range 64).drop 1).find? (fun q => s.partSt q = 0) with
      | none => s.reply k stBusy []
      | some q =>
        let e := (s.cmd.epochCtr + 1) % 2 ^ 32
        let adopts : Bool := s.cmd.standing.any (fun r => r.owner = none ∧ r.init = p.init)
        let standing := (s.cmd.standing.map (fun r => if r.owner = none ∧ r.init = p.init then { r with owner := some q } else r)).filter
          (fun r => ¬ (r.kind = .staged ∧ r.owner ≠ none))
        let s : State := { s with cmd := { s.cmd with epochCtr := e, standing := standing } }
        let s := s.setPartner q { epoch := e, last := s.time, tags := [] }
        let s := (((((s.setF .CMD_PART_ID_STATE q 1).setF .CMD_PART_ID_FLAGS q (leAt p.payload 2 1)).setF .CMD_PART_ID_CLASS q
          cls).setF .CMD_PART_ID_INITIATOR q p.init).setF .CMD_PART_ID_REG_EPOCH_LO q e).setF .CMD_PART_LEASE_LEASE_S q lease
        s.showRegistered.reply k stOk ([q, cls + (if adopts then 16 else 0), 0, 0] ++ leBytes 4 e)))

/-- RENEW_LEASE: the accepted packet has restarted the lease (R347). -/
def execRenewLease (set slot : Nat) (s : State) : Outcome State Fault Refusal :=
  .next (s.command set slot 0x02 [] (fun _ s => s.reply (8 * set + slot) stOk (leBytes 4 (s.leaseLeft set))))

/-- RELEASE_PARTNER (R347, R348). -/
def execReleasePartner (set slot : Nat) (s : State) : Outcome State Fault Refusal :=
  .next (s.command set slot 0x03 [] (fun _ s => (s.reply (8 * set + slot) stOk []).releaseSet set))

/-- 1 s without an accepted packet (R347). -/
def execHeartbeatMissed (set : Nat) (s : State) : Outcome State Fault Refusal :=
  .next (
    if set < 64 ∧ s.partSt set = 1 then (s.setF .CMD_PART_ID_STATE set 2).event .CMD_EVENT_LEASE_LATE 0 0x0C set else s)

/-- LEASE_S has passed since the last accepted packet (R347). -/
def execLeaseExpiry (set : Nat) (s : State) : Outcome State Fault Refusal :=
  .next (if set < 64 ∧ s.partSt set = 2 then (s.event .CMD_EVENT_LEASE_EXP 0 0x0C set).releaseSet set else s)

/-- 10 ms after RELEASED (R347). -/
def execPartnerFree (set : Nat) (s : State) : Outcome State Fault Refusal :=
  .next (if set < 64 ∧ s.partSt set = 3 then s.freeSet set else s)

/-- CP1 takes a packet of an opcode of its own out of the mailbox: a reserved bit completes it, otherwise it is in execution. -/
def State.cp1Packet (s : State) (set slot op : Nat) (masks : List Nat) (run : Packet → State → State) : State :=
  let k := 8 * set + slot
  match s.slotPkt k with
  | none => s
  | some f =>
    if f.pkt.op ≠ op ∨ f.phase ≠ .boxed ∨ s.cpSt 1 ≠ 2 then s
    else match firstBad masks f.pkt.payload with
      | some o => s.badParam k o
      | none => (run f.pkt (s.setPhase k .pending)).cp1Commit.serveIntake

/-- SET_OPERATING_POINT: CP1 applies the context; a newer one supersedes it (R233, R367). -/
def execSetOperatingPoint (set slot : Nat) (s : State) : Outcome State Fault Refusal :=
  .next (s.cp1Packet set slot 0x10 [7, 0, 0, 0] (fun p s =>
    { s with fw := { s.fw with wantCtx := some (leAt p.payload 0 1) } }))

/-- SET_PREFERRED_POINT writes the fields of one context (R233). -/
def execSetPreferredPoint (set slot : Nat) (s : State) : Outcome State Fault Refusal :=
  .next (s.command set slot 0x11 ([7, 63, 31, 0] ++ whole 4) (fun p s =>
    let c := leAt p.payload 0 1
    let o := leAt p.payload 1 1
    let b := leAt p.payload 2 1
    let s := ((s.setF .DOM_BUD_CTX_OP_ORD0 c o).setF .DOM_BUD_CTX_OP_ORD1 c (o / 4)).setF .DOM_BUD_CTX_OP_ORD2 c (o / 16)
    let s := (s.setF .DOM_BUD_CTX_OP_PREF_STEP c b).setF .DOM_BUD_CTX_OP_BOOST_EN c (b / 16)
    let s := (s.setF .DOM_BUD_CTX_SLOPE_ACT_UP c (leAt p.payload 4 1)).setF .DOM_BUD_CTX_SLOPE_ACT_DN c (leAt p.payload 5 1)
    (s.setF .DOM_BUD_CTX_OP_LINK_SHARE c (leAt p.payload 6 2)).reply (8 * set + slot) stOk []))

/-- SET_POWER_CAP: the partner's new cap replaces its own, and CP1 applies the lowest (R349, R367). -/
def execSetPowerCap (set slot : Nat) (s : State) : Outcome State Fault Refusal :=
  .next (s.cp1Packet set slot 0x12 ([255, 255, 255, 0, 255, 255, 0, 0]) (fun p s =>
    let mine (r : Standing) : Bool := r.ownedBy set && (match r.kind with
      | .cap _ => true
      | _ => false)
    let s := (s.dropStanding mine).stand (8 * set + slot) p (.cap (leAt p.payload 0 2))
    let w := leAt p.payload 4 2
    { s with fw := { s.fw with
      wantStagger := some (min 31 (leAt p.payload 2 1)), wantWindow := if w = 0 then s.fw.wantWindow else some (min 511 w) } }))

/-- SET_FIXED_FREQUENCY: MODE and FIXED_STEP (R238, R348). -/
def execSetFixedFrequency (set slot : Nat) (s : State) : Outcome State Fault Refusal :=
  .next (s.cp1Packet set slot 0x13 [1, 15, 0, 0] (fun p s =>
    let s := (s.dropStanding (fun r => r.kind = .fixed)).stand (8 * set + slot) p .fixed
    let m := leAt p.payload 0 1
    let st := if m = 0 then s.getF .DOM_BUD_CTRL_FIXED_STEP 0 else leAt p.payload 1 1
    { s with fw := { s.fw with wantMode := some (m, st) } }))

end Sys2Proof.Machine
end

