-- ==== Sys2Proof/Machine/Phases.lean ====
section
/-! DEFINITION. The commands of the phase groups and the PMBus host (chapter Phase Groups and Constant On-Time Control) and of
the intermediate bus (R45). Voltages `vs` are remote-sense readings in 0.5 mV units; `vbus` is in mV. A command whose group
is not in the state its row names, or whose condition its reading does not meet, changes nothing. -/

namespace Sys2Proof.Machine

open Host (Outcome)

/-- A phase takes a new state: its trim is zeroed and its share element stops (R78, R139), the group is counted again (R90). A live
phase that is dropped open or disabled for its sense is a trigger of the capture (R324). -/
def State.phaseOut (s : State) (p st : Nat) : State :=
  let lost : Bool := s.ph p = 1 ∧ (st = 2 ∨ st = 3)
  let s := s.when lost (fun s => s.capEvent 4 0)
  ((((s.setF .PHS_PH_STATUS_PH_STATE p st).setF .PHS_PH_STATUS_TRIM p 0).setPhTest p PhaseTest.clear).stopOn 1 p).recount
    (s.cfg.table.phaseGroup p)

/-- A phase has failed open (R87). -/
def State.openDrop (s : State) (p : Nat) : State :=
  ((s.bumpF .PHS_PH_STATUS_LOSS_COUNT p).event .PHS_GRP_EVENT_PHASE_OPEN (s.cfg.table.phaseGroup p) 0x01 p).phaseOut p 2

/-- A reading below `num`/100 of the group's target. -/
def State.below (s : State) (g vs num : Nat) : Bool := vs * 500 * 100 < s.targetUV g * num

/-- Records a remote-sense reading. -/
def State.sense (s : State) (g vs : Nat) : State := s.setF .PHS_GRP_REF_VSENSE g vs

/-- EN written 1: only OFF takes it, and no group during a power-stage test (R82, R86, R456). -/
def execGroupEnable (g : Nat) (s : State) : Outcome State Fault Refusal :=
  .next (if g < 4 ∧ s.grp g = 0 ∧ ¬ s.lt.runs.any (fun p => p.1 = 4) then (s.setF .PHS_GRP_CTRL_EN g 1).setGrp g 1 else s)

/-- EN written 0 (R82, R86): ignored and recorded for VSTK while a domain is other than DARK or FENCED. For VSTK in LATCHED_OFF or
STOP_RAMP two sentences of R86 apply, and the write has no effect and is not recorded (DESIGN CHOICE, assumption 101). -/
def execGroupDisable (g : Nat) (s : State) : Outcome State Fault Refusal :=
  .next (
    if 4 ≤ g ∨ s.grp g = 0 ∨ s.grp g = 6 ∨ s.grp g = 7 then s
    else if g = 0 ∧ ¬ s.allDown then s.raise 0x01 13 0
    else
      let s := s.setF .PHS_GRP_CTRL_EN g 0
      if s.grp g = 1 ∨ s.grp g = 5 then s.grpOff g else s.stopRamp g false)

/-- How long a group has been in its state, in ticks. -/
def State.grpFor (s : State) (g : Nat) : Nat := s.since (Tbl.get 0 s.phs.grpAt g)

/-- A delay code of R84 in ticks: code × 100 µs. -/
def delayTicks (code : Nat) : Nat := 10000 * code

/-- A group enters RAMP, from the measured voltage (R82, R83). -/
def State.enterRamp (s : State) (g vs : Nat) : State := ((s.setGrp g 2).sense g vs).startRampAt g (vs * 500)

/-- START_DELAY has elapsed: RAMP from the measured voltage (R82 to R84). -/
def execStartDelayElapsed (g vs : Nat) (s : State) : Outcome State Fault Refusal :=
  .next (
    if g < 4 ∧ s.grp g = 1 ∧ delayTicks (s.getF .PHS_GRP_SOFT_START_DELAY g) ≤ s.grpFor g then s.enterRamp g vs else s)

/-- The ramp reference stands at V_target: REGULATE at 90 % or above, FOLDBACK below, and LATCHED_OFF at once
where no phase is live (R82); RUN may follow (R400). -/
def execRampEnd (g vs : Nat) (s : State) : Outcome State Fault Refusal :=
  .next (
    if g < 4 ∧ s.grp g = 2 ∧ s.rampUV g = s.targetUV g then
      let s := s.sense g vs
      if s.liveCount g = 0 then (s.setGrp g 3).latchOff g
      else if s.below g vs 90 then ((s.setGrp g 4).updTon g).event .PHS_GRP_EVENT_FOLDBACK g 0x01 g
      else ((s.setGrp g 3).updTon g).enterRunIfReady
    else s)

/-- V_sense below 90 % for 2 µs while a valley hold acts (R82). -/
def execFoldbackEntry (g vs : Nat) (s : State) : Outcome State Fault Refusal :=
  .next (
    if g < 4 ∧ s.grp g = 3 ∧ s.below g vs 90 ∧ (s.rotation g).any (fun p => Tbl.get false s.phs.held p) then
      ((s.sense g vs).setGrp g 4).event .PHS_GRP_EVENT_FOLDBACK g 0x01 g
    else s)

/-- V_sense at or above 92 % for 10 µs (R82). -/
def execFoldbackRecovery (g vs : Nat) (s : State) : Outcome State Fault Refusal :=
  .next (if g < 4 ∧ s.grp g = 4 ∧ ¬ s.below g vs 92 then ((s.sense g vs).setGrp g 3).enterRunIfReady else s)

/-- FOLDBACK held for 10 ms (R82). -/
def execFbLong (g : Nat) (s : State) : Outcome State Fault Refusal :=
  .next (if g < 4 ∧ s.grp g = 4 ∧ 1000000 ≤ s.grpFor g then s.event .PHS_GRP_EVENT_FB_LONG g 0x01 g else s)

/-- V_sense below 50 % for 500 µs in FOLDBACK: HICCUP_WAIT, or LATCHED_OFF on the third attempt (R82). -/
def execHiccupEntry (g vs : Nat) (s : State) : Outcome State Fault Refusal :=
  .next (
    if g < 4 ∧ s.grp g = 4 ∧ s.below g vs 50 then
      let s := s.sense g vs
      let n := s.getF .PHS_GRP_STATUS_ATTEMPTS g
      if n ≥ 2 then s.latchOff g
      else ((s.setGrp g 5).setF .PHS_GRP_STATUS_ATTEMPTS g (n + 1)).event .PHS_GRP_EVENT_HICCUP g 0x01 g
    else s)

/-- The 50 ms wait has elapsed: RAMP again, with no delay (R82). -/
def execHiccupWaitElapsed (g vs : Nat) (s : State) : Outcome State Fault Refusal :=
  .next (if g < 4 ∧ s.grp g = 5 ∧ 5000000 ≤ s.grpFor g then s.enterRamp g vs else s)

/-- The reference of a stopping group starts to fall. -/
def State.startFall (s : State) (g : Nat) : State :=
  { s with phs := { s.phs with stopGo := s.phs.stopGo.put g true, rampAt := s.phs.rampAt.put g s.time } }

/-- STOP_DELAY has elapsed: the reference starts to fall (R82, R84). -/
def execStopDelayElapsed (g : Nat) (s : State) : Outcome State Fault Refusal :=
  .next (
    if g < 4 ∧ s.grp g = 7 ∧ ¬ Tbl.get false s.phs.stopGo g ∧ delayTicks (s.getF .PHS_GRP_SOFT_STOP_DELAY g) ≤ s.grpFor g then
      s.startFall g
    else s)

/-- Whether a stopping group has stopped: V_sense below 5 % of its value at entry, or the reference at 0 V (R82). -/
def State.stopEnds (s : State) (g vs : Nat) : Bool := 20 * vs < Tbl.get 0 s.phs.vEntry g ∨ s.rampUV g = 0

/-- STOP_RAMP ends: LATCHED_OFF with a fatal cause pending, OFF without (R82). When VSTK leaves STOP_RAMP, every quiescing
domain ends at once (R127); an ordered block reset goes on (R405). -/
def execStopRampEnd (g vs : Nat) (s : State) : Outcome State Fault Refusal :=
  .next (
    if g < 4 ∧ s.grp g = 7 ∧ Tbl.get false s.phs.stopGo g ∧ s.stopEnds g vs then
      let s := (s.sense g vs).setF .PHS_GRP_REF_VREF g 0
      let s := if Tbl.get false s.phs.fatal g then s.latchOff g else s.grpOff g
      (s.when (g = 0) State.endQuiescing).blockResetAdvance
    else s)

/-- 1 s in REGULATE without a break (R85). -/
def execAttemptsClear (g : Nat) (s : State) : Outcome State Fault Refusal :=
  .next (if g < 4 ∧ s.grp g = 3 ∧ 100000000 ≤ s.grpFor g then s.setF .PHS_GRP_STATUS_ATTEMPTS g 0 else s)

/-- The rotation angle of a pulse to a phase among the live phases of its group (R71). The angle of a pulse to a phase that is not
live is an open value. -/
def State.setAngle (s : State) (g p : Nat) : State :=
  let live := (s.cfg.table.groupPhases g).filter (fun q => s.ph q = 1)
  if s.ph p = 1 then s.setF .PHS_GRP_STATUS_ROT_ANGLE g ((live.filter (fun q => q < p)).length * 64 / live.length)
  else s.fresh.2.setF .PHS_GRP_STATUS_ROT_ANGLE g s.fresh.1

/-- One pulse to a phase: on-time code, position, angle, and what is left of the pass (R68, R70, R71, R73). -/
def State.pulseTo (s : State) (g p : Nat) : State :=
  let start := s.pulseStart g
  let left := s.passLeft g
  let s := ((s.updTon g).setF .PHS_GRP_STATUS_ROT_POS g (p - s.cfg.table.groupFirst g)).setAngle g p
  let code := pulseCode (s.getF .PHS_GRP_TON_TON_BASE g) (s.getS .PHS_PH_STATUS_TRIM p)
  ((s.setPass g left).notePulse g p start code).emit (.pulse p code start (s.conduction g))

/-- The comparator fires: one pulse to the next phase of the rotation, unless the valley limit holds that phase, its minimum
off-time lasts, or a ramp has not passed the output voltage (R68 to R71, R79, R83). -/
def execPhasePulse (g : Nat) (s : State) : Outcome State Fault Refusal :=
  .next (
    if g < 4 ∧ pulses (s.grp g) then
      match s.nextPhase g with
      | none => s
      | some p => if s.givesPulse g p then s.pulseTo g p else s
    else s)

/-- Every 100 ns the valley limit of every phase is recomputed (R80). In OFF, DELAY, HICCUP_WAIT and LATCHED_OFF the outputs
are tri-state and the limit stands. -/
def execValleyLimitUpdate (g vs : Nat) (s : State) : Outcome State Fault Refusal :=
  .next (
    if g < 4 then
      let s := s.sense g vs
      let q := s.foldF vs (s.targetUV g)
      let s := q.2
      let lim := valleyLimit (s.getF .PHS_GRP_OCL_VALLEY_HI g) (s.getF .PHS_GRP_OCL_VALLEY_LO g) q.1
      { s with phs := { s.phs with valley := s.phs.valley.put g lim } }
    else s)

/-- The valley comparator of a phase: `imon` in 1/64 A against the limit in effect (R79). -/
def execValleyHold (p : Nat) (imon : Int) (s : State) : Outcome State Fault Refusal :=
  .next (
    if s.cfg.populated p then
      let lim := Tbl.get 0 s.phs.valley (s.cfg.table.phaseGroup p)
      { s with phs := { s.phs with held := s.phs.held.put p ((lim * 16 : Nat) < imon) } }
    else s)

/-- The pulse-rise detector's report after one on-time: `rose` a rise of 1 A or more, `ripple` a ripple step in the phase's
slot (R87, R88). A phase in CHECKING is only marked (R93). -/
def execPulseRiseReport (p : Nat) (rose ripple : Bool) (s : State) : Outcome State Fault Refusal :=
  .next (
    if s.cfg.populated p ∧ s.checksRun (s.cfg.table.phaseGroup p) ∧ (s.ph p = 1 ∨ s.ph p = 5) then
      let t := s.phTest p
      let t := { t with openRun := if rose ∨ ripple then 0 else t.openRun + 1,
                        senseRun := if ¬ rose ∧ ripple then t.senseRun + 1 else 0 }
      let s := s.setPhTest p t
      if s.ph p = 5 then
        s.when (16 ≤ t.openRun ∨ 16 ≤ t.senseRun) (fun s => s.setPhTest p { t with faulty := true })
      else if 16 ≤ t.openRun then s.openDrop p
      else if 16 ≤ t.senseRun then s.senseFail p
      else s
    else s)

/-- At the end of the pass the phase with a declared sense failure goes tri-state (R89). -/
def execPhaseSenseDisable (p : Nat) (s : State) : Outcome State Fault Refusal :=
  .next (
    if s.cfg.populated p ∧ s.ph p = 1 ∧ (s.phTest p).declared then
      let trim := s.getF .PHS_PH_STATUS_TRIM p
      let s := ((s.bumpF .PHS_PH_STATUS_LOSS_COUNT p).phaseOut p 3).setF .PHS_PH_STATUS_TRIM p trim
      let g := s.cfg.table.phaseGroup p
      s.setPass g ((s.passOf g).filter (fun q => q ≠ p))
    else s)

/-- TMON of 125 °C or more (code 165) for 100 µs: the trim is forced to −64 (R92). -/
def execTmonHotForce (p tmon : Nat) (s : State) : Outcome State Fault Refusal :=
  .next (
    if s.cfg.populated p ∧ 165 ≤ tmon ∧ s.getF .ADC_PAIR_STATUS_STATE (chHome (96 + p) / 2) ≠ 3 then
      (((s.setF .PHS_PH_MEAS_TMON p tmon).setS .PHS_PH_STATUS_TRIM p (-64)).setF .PHS_PH_STATUS_TMON_HOT p 1).event
        .PHS_GRP_EVENT_TMON_HOT (s.cfg.table.phaseGroup p) 0x01 p
    else s)

/-- DISABLE written 1 (R93): the phase is no longer live, and leaves the rotation at the next pass. One in OPEN_DROPPED or
SENSE_DISABLED keeps its state, and a READMIT then checks it with DISABLE at 1, so that it may end LIVE; the rule does not say
(DESIGN CHOICE, assumption 101). -/
def execPhaseDisable (p : Nat) (s : State) : Outcome State Fault Refusal :=
  .next (
    if p < s.cfg.table.phTotal then
      let s := s.setF .PHS_PH_CTRL_DISABLE p 1
      if s.ph p = 1 ∨ s.ph p = 5 then s.phaseOut p 4 else s
    else s)

/-- Starts the check of a phase: pulses at trim −64, not live (R93). -/
def State.startCheck (s : State) (p : Nat) : State :=
  let o := s.ph p
  ((s.setF .PHS_PH_STATUS_PH_STATE p 5).setS .PHS_PH_STATUS_TRIM p (-64)).setPhTest p { PhaseTest.clear with origin := o }

/-- DISABLE written 0: a check starts in REGULATE; outside it the write has no effect (R93, R460). -/
def execPhaseCheckStart (p : Nat) (s : State) : Outcome State Fault Refusal :=
  .next (
    if p < s.cfg.table.phTotal ∧ s.isSet .PHS_PH_CTRL_DISABLE p ∧ s.grp (s.cfg.table.phaseGroup p) = 3 then
      let s := s.setF .PHS_PH_CTRL_DISABLE p 0
      if 2 ≤ s.ph p ∧ s.ph p ≤ 4 then s.startCheck p else s
    else s)

/-- READMIT written to a phase in OPEN_DROPPED or SENSE_DISABLED, in REGULATE (R93). -/
def execPhaseReadmit (p : Nat) (s : State) : Outcome State Fault Refusal :=
  .next (
    if p < s.cfg.table.phTotal ∧ (s.ph p = 2 ∨ s.ph p = 3) ∧ s.grp (s.cfg.table.phaseGroup p) = 3 then s.startCheck p
    else s)

/-- 64 switching periods of the check have passed (R93); with the phase LIVE its share element starts again at trim 0 (R139, R156). A
phase whose TMON_HOT is still set then reads trim 0 until the force of R92 acts at the next evaluation: R92 asks for −64 and R93
for 0 (DESIGN CHOICE, assumption 101). -/
def execPhaseCheckEnd (p : Nat) (s : State) : Outcome State Fault Refusal :=
  .next (
    if p < s.cfg.table.phTotal ∧ s.ph p = 5 then
      let t := s.phTest p
      if t.faulty then (s.bumpF .PHS_PH_STATUS_LOSS_COUNT p).phaseOut p t.origin
      else ((s.phaseOut p 1).startOn 1 p).setF .PHS_PH_STATUS_TRIM p 0
    else s)

/-! ### PMBus (R95 to R99) -/

/-- The value read in a cycle of rotation position `k`: READ_VIN, READ_IIN, READ_POUT, READ_TEMPERATURE_2 (R96). -/
def pmbRotating (k : Nat) : Nat := [0x88, 0x89, 0x96, 0x8E].getD (k % 4) 0x88

/-- The packet error code of a read: the CRC-8 with polynomial 0x07 over the address byte of the write, the command, the address
byte of the read and the data, low byte first (R95; PRESUMED from SMBus, assumption 102). -/
def pmbPec (addr cmd data : Nat) : Nat :=
  crcBytes 8 0x07 false 0 ([2 * addr, cmd, 2 * addr + 1, data % 256] ++ (if pmbBytes cmd = 2 then [data / 256 % 256] else []))

/-- One 1 ms slot: the reads of a poll cycle are queued behind a VOUT_MODE read that waits; a PMBus test
pauses the polling (R96, R456). -/
def execPmbusPollCycle (s : State) : Outcome State Fault Refusal :=
  .next (
    if s.isSet .PHS_PMB_CTRL_POLL_EN 0 ∧ ¬ s.isSet .PHS_PMB_STATUS_HELD 0 ∧ ¬ s.lt.runs.any (fun p => p.1 = 5) then
      let idle : Bool := s.phs.pmbReads = []
      let s : State := { s with phs := { s.phs with
        pmbReads := s.phs.pmbReads ++ [0x79, 0x8B, 0x8C, 0x8D, pmbRotating s.phs.pmbRot], pmbCycle := true,
        pmbRot := (s.phs.pmbRot + 1) % 4, pmbSlotFailed := false, pmbRetried := false } }
      s.when idle State.pmbIssue
    else s)

/-- Holds the decoded value of a word (R97). -/
def State.setPmbVal (s : State) (cmd : Nat) (v : Int × Int) : State :=
  { s with phs := { s.phs with pmbVal := s.phs.pmbVal.put cmd v } }

/-- Stores the word of a successful read and decodes it: READ_VOUT as an unsigned mantissa with the exponent of VOUT_MODE, while that
reports linear format, the other readings as LINEAR11 (R97, R98). With pair 0 of the converters lost, READ_VIN supervises
the intermediate bus in place of MISC0 (R306). -/
def State.pmbStore (s : State) (cmd data : Nat) : State :=
  match cmd with
  | 0x79 => s.setF .PHS_PMB_DATA3_STATUS_WORD 0 data
  | 0x8B =>
    (s.setF .PHS_PMB_DATA1_READ_VOUT 0 data).when (s.isSet .PHS_PMB_STATUS_LINEAR_OK 0) (fun s =>
      s.setPmbVal 0x8B ((data % 65536 : Nat), toS 5 (s.getF .PHS_PMB_STATUS_VOUT_MODE 0)))
  | 0x8C => (s.setF .PHS_PMB_DATA1_READ_IOUT 0 data).setPmbVal 0x8C (linear11 data)
  | 0x8D => (s.setF .PHS_PMB_DATA2_READ_TEMPERATURE_1 0 data).setPmbVal 0x8D (linear11 data)
  | 0x88 =>
    let v := timesPow 1000 (linear11 data)
    ((s.setF .PHS_PMB_DATA0_READ_VIN 0 data).setPmbVal 0x88 (linear11 data)).when (s.getF .ADC_PAIR_STATUS_STATE 0 = 3) (fun s =>
      s.busSample (rneDiv v.1 v.2).toNat)
  | 0x89 => (s.setF .PHS_PMB_DATA0_READ_IIN 0 data).setPmbVal 0x89 (linear11 data)
  | 0x96 => (s.setF .PHS_PMB_DATA3_READ_POUT 0 data).setPmbVal 0x96 (linear11 data)
  | 0x8E =>
    (({ s with phs := { s.phs with pmbT2 := some s.time } } : State).setF .PHS_PMB_DATA2_READ_TEMPERATURE_2 0 data).setPmbVal
      0x8E (linear11 data)
  | 0x20 =>
    let s := s.setF .PHS_PMB_STATUS_VOUT_MODE 0 data
    if data / 32 % 8 = 0 then s.setF .PHS_PMB_STATUS_LINEAR_OK 0 1
    else (s.setF .PHS_PMB_STATUS_LINEAR_OK 0 0).raise 0x01 10 0
  | _ => s

/-- The read in front has ended for good and the next one starts; after the last one of a poll cycle the cycle is judged. A
VOUT_MODE read alone is no cycle (R96, R98). -/
def State.pmbNext (s : State) : State :=
  let rest := s.phs.pmbReads.drop 1
  let cycle := s.phs.pmbCycle
  let s : State := { s with phs := { s.phs with pmbReads := rest, pmbRetried := false } }
  if rest ≠ [] then s.pmbIssue
  else if ¬ cycle then s
  else
    let s : State := { s with phs := { s.phs with pmbCycle := false } }
    if s.phs.pmbSlotFailed then
      let n := s.phs.pmbFailRun + 1
      let s : State := { s with phs := { s.phs with pmbFailRun := n } }
      s.when (n = 8) (fun s => s.raise 0x01 9 0)
    else { s with phs := { s.phs with pmbFailRun := 0, pmbLast := some s.time } }

/-- A PMBus read ends: `ack` whether every byte was acknowledged, the data and the PEC byte received. One that fails is retried once
in its slot (R98). -/
def execPmbusTransactionDone (ack : Bool) (data pec : Nat) (s : State) : Outcome State Fault Refusal :=
  .next (
    match s.phs.pmbReads with
    | [] => s
    | cmd :: _ =>
      if ack ∧ pec = pmbPec (s.getF .PHS_PMB_CTRL_ADDR 0) cmd data then (s.pmbStore cmd data).pmbNext
      else if ¬ s.phs.pmbRetried then ({ s with phs := { s.phs with pmbRetried := true } } : State).pmbIssue
      else
        let s := (s.bumpF .PHS_PMB_STATUS_PEC_ERRORS 0).raise 0x01 8 0
        ({ s with phs := { s.phs with pmbSlotFailed := true } } : State).pmbNext)

/-- SCL or SDA low for 25 ms: the host stops driving (R99). -/
def execPmbusBusHeld (s : State) : Outcome State Fault Refusal :=
  .next (
    if s.isSet .PHS_PMB_STATUS_HELD 0 then s
    else
      let s := (s.setF .PHS_PMB_STATUS_HELD 0 1).raise 0x01 9 0
      { s with phs := { s.phs with pmbReads := [], pmbCycle := false, pmbRetried := false } })

/-- A bus reset: nine SCL pulses with SDA released, then a STOP (R99). -/
def execPmbusBusReset (s : State) : Outcome State Fault Refusal :=
  .next (if s.isSet .PHS_PMB_STATUS_HELD 0 then s.emit .pmbusReset else s)

/-- The bus is free again: VOUT_MODE is read first (R96, R99). -/
def execPmbusBusFree (s : State) : Outcome State Fault Refusal :=
  .next (
    if s.isSet .PHS_PMB_STATUS_HELD 0 then
      let s := (s.setF .PHS_PMB_STATUS_HELD 0 0).bumpF .PHS_PMB_STATUS_BUS_RESETS 0
      ({ s with phs := { s.phs with pmbReads := [], pmbCycle := false } } : State).pmbAsk
    else s)

/-! ### Intermediate bus (R45) -/

/-- The bus has been in a contained range for 100 µs (R45). -/
def execBusOutOfRange (vbus : Nat) (s : State) : Outcome State Fault Refusal :=
  .next (
    if (9000 ≤ vbus ∧ vbus < 10800) ∨ (13200 < vbus ∧ vbus ≤ 14000) then
      (s.setF .GLB_VSTK_STATUS_BUS_OOR 0 1).raise 0x01 11 0
    else s)

/-- The bus has been below 9.0 V or above 14.0 V for 50 µs: the fatal source, a fatal cause for every group, and every live
domain quiesces with FENCED as its end state (R45, R127). -/
def execBusFatal (vbus : Nat) (s : State) : Outcome State Fault Refusal :=
  .next (
    if vbus < 9000 ∨ 14000 < vbus then
      let s := s.raise 0x01 12 0
      let s := s.each [0, 1, 2, 3] (fun g s => s.groupFatal g)
      s.each (List.range s.cfg.table.domains) (fun d s => s.fatalQuiesce d)
    else s)

end Sys2Proof.Machine
end

