-- ==== Sys2Proof/Machine/Telemetry.lean ====
section
/-! DEFINITION. The commands of telemetry and capture (chapter Telemetry and Capture, R309 to R324, R351). -/

namespace Sys2Proof.Machine

open Host (Outcome)

/-- The records of the window that has closed are formed and queued, and a notice after them where one is due (R309, R311, R314 to
R317). -/
def State.formRecords (s : State) : State :=
  let s := s.each s.recordDoms (fun d s => State.queueRecord (s.domRecord d))
  let s := if s.isSet .TLM_CTRL_STACK_REC 0 then State.queueRecord s.stackRecord else s
  let n := s.getF .TLM_CTRL_NOTIFY_MS 0
  if n = 0 then { s with tlm := { s.tlm with notices := [] } }
  else if n ≤ s.tlm.notifyRun + 1 then
    { s with tlm := { s.tlm with notifyRun := 0, notices := s.tlm.notices ++ [s.tlm.queue.length] } }
  else { s with tlm := { s.tlm with notifyRun := s.tlm.notifyRun + 1 } }

/-- The slow tick that closes a telemetry window, each once: its records are formed, and the next window starts empty (R38, R309,
R311, R314 to R317). A withdrawal of ENABLE stops the forming at this tick. -/
def execTelemetryWindowClose (s : State) : Outcome State Fault Refusal :=
  .next (
    if s.time / 100000 ≤ s.tlm.lastTick then s
    else
      let s : State := if s.tlm.stopWait then { s with tlm := { s.tlm with stopWait := false, forming := false } } else s
      let s := s.when s.tlm.forming State.formRecords
      ({ s with tlm := { s.tlm with
        lastTick := s.time / 100000, dom := s.tlm.dom.map (fun p => (p.1, p.2.next)), stack := StackAcc.empty } } : State).showQueue)

/-- The interconnect acknowledges the write of the oldest record: PROD advances (R314 to R317). -/
def execRecordWriteAck (s : State) : Outcome State Fault Refusal :=
  .next (match s.tlm.queue with
    | [] => s
    | r :: _ =>
      if ¬ s.recordReady then s
      else
        let s := s.dutyJob 3 (r.bytes.set 1 (r.bytes.getD 1 0 + (if s.tlm.lostBefore then 32 else 0))) none
        let s := s.emit (.busWrite (s.ringAddr (s.getF .TLM_PROD_PROD 0)) (sealRecord r.bytes s.tlm.lostBefore))
        let s := s.popRecord
        let s : State := { s with tlm := { s.tlm with lostBefore := false } }
        ((s.incF .TLM_PROD_PROD 0).showQueue).issueDump)

/-- The oldest record has waited 2 ms (R315). -/
def execRecordDrop (s : State) : Outcome State Fault Refusal :=
  .next (match s.tlm.queue with
    | [] => s
    | r :: _ => if s.time - r.born < 200000 then s else ((s.popRecord.dropRecord).showQueue).issueDump)

/-- The notice follows the last record of its window (R317). -/
def execNotifyWrite (s : State) : Outcome State Fault Refusal :=
  .next (
    if s.noticeReady then
      let s : State := { s with tlm := { s.tlm with notices := s.tlm.notices.drop 1 } }
      s.emit (.busWrite s.noticeAddr (leBytes 4 (s.getF .TLM_PROD_PROD 0)))
    else s)

/-- ENABLE written 1 (R316, R319). -/
def execTelemetryEnable (s : State) : Outcome State Fault Refusal := .next (s.writeEnable true)

/-- The slow tick at which ENABLE takes effect (R314, R316). -/
def execTelemetryStart (s : State) : Outcome State Fault Refusal :=
  .next (
    if s.tlm.startWait then
      let s : State := { s with tlm := { s.tlm with startWait := false, forming := true, seq := 0, notifyRun := 0 } }
      ((s.setF .TLM_PROD_PROD 0 0).setF .TLM_CONS_CONS 0 0).showQueue
    else s)

/-- ENABLE written 0 (R316). -/
def execTelemetryDisable (s : State) : Outcome State Fault Refusal := .next (s.writeEnable false)

/-- The host writes CONS (R313). -/
def execConsWrite (value : Nat) (s : State) : Outcome State Fault Refusal := .next (s.writeCons value)

/-- An error response to a write of the engine (R319): `write` is 0 for the oldest record, 1 for the notice and 2 for the dump
write. -/
def execBusErrorResponse (write : Nat) (s : State) : Outcome State Fault Refusal :=
  let dump : Bool := s.capSt = 3 ∧ 0 < s.tlm.cap.dumpLeft ∧ s.tlm.cap.issued
  let out : Bool := match write with
    | 0 => s.recordReady
    | 1 => s.noticeReady
    | 2 => dump
    | _ => false
  let addr := match write with
    | 0 => s.ringAddr (s.getF .TLM_PROD_PROD 0)
    | 1 => s.noticeAddr
    | _ => s.dumpAddr (1024 - s.tlm.cap.dumpLeft)
  .next (
    if out then
      let lost := s.tlm.queue.length
      let s := (s.setF .TLM_CTRL_ENABLE 0 0).addSatF .TLM_LOST_LOST 0 lost
      let s : State := { s with tlm := { s.tlm with
        queue := [], forming := false, startWait := false, stopWait := false, notices := [],
        lostBefore := s.tlm.lostBefore ∨ lost ≠ 0 } }
      let s := ((s.setF .TLM_STATUS_BUS_ERR_ST 0 1).setF .TLM_EVENT_BUS_ERR 0 1).raiseAccess 0x0A 2 0 0xFD addr 3
      (s.when (s.capSt = 3) (fun s => (s.capGo 0).replyAll 0x41 (fun _ => true) stInternal [])).showQueue
    else s)

/-- TELEMETRY_SETUP: ring, notice and enable fields (R312, R351). -/
def execTelemetrySetup (set slot : Nat) (s : State) : Outcome State Fault Refusal :=
  .next (s.command set slot 0x40 ([0, 240] ++ whole 6 ++ [31, 255, 3, 0, 252] ++ whole 7 ++ [0, 0, 0, 0]) (fun p s =>
    let k := 8 * set + slot
    let base := leAt p.payload 0 8
    let size := leAt p.payload 8 1
    let differs : Bool := s.getF .TLM_RING_LO_BASE_LO 0 ≠ base / 4096 % 2 ^ 20 ∨ s.getF .TLM_RING_HI_BASE_HI 0 ≠ base / 2 ^ 32 ∨
      s.getF .TLM_CTRL_SIZE_LOG2 0 ≠ size
    if size < 8 ∨ 20 < size then s.badParam k 8
    else if s.isSet .TLM_STATUS_RUNNING 0 ∧ differs then s.reply k stBusy []
    else
      let s := ((s.setF .TLM_RING_LO_BASE_LO 0 (base / 4096)).setF .TLM_RING_HI_BASE_HI 0 (base / 2 ^ 32)).setF
        .TLM_CTRL_SIZE_LOG2 0 size
      let s := (s.setF .TLM_CTRL_NOTIFY_MS 0 (leAt p.payload 9 1)).setF .TLM_CTRL_STACK_REC 0 (leAt p.payload 10 1 / 2)
      let s := (s.setF .TLM_NOTIFY_LO_NADDR_LO 0 (leAt p.payload 12 4 / 4)).setF .TLM_NOTIFY_HI_NADDR_HI 0 (leAt p.payload 16 4)
      let s := s.writeEnable (leAt p.payload 10 1 % 2 = 1)
      ((s.dropStanding (fun r => r.kind = .telemetry)).stand k p .telemetry).reply k stOk []))

/-- CAPTURE_WAVEFORM: the capture registers, and the arming (R323, R351). -/
def execCaptureWaveform (set slot : Nat) (s : State) : Outcome State Fault Refusal :=
  .next (s.command set slot 0x41 ([7, 0, 255, 1, 255, 3, 255, 255, 0, 240] ++ whole 14 ++
      (List.replicate 8 [255, 7, 7, 0]).flatten) (fun p s =>
    let k := 8 * set + slot
    let on := (List.range 8).any (fun c => 1 ≤ leAt p.payload (26 + 4 * c) 1 ∧ leAt p.payload (26 + 4 * c) 1 ≤ 4)
    if s.capSt ≠ 0 ∧ s.capSt ≠ 4 then s.reply k stBusy []
    else if ¬ on then s.badParam k 0xFFFF
    else
      let s := ((s.setF .TLM_CAP_CTRL_TRIG_SRC 0 (leAt p.payload 0 1)).setF .TLM_CAP_CTRL_TRIG_IDX 0 (leAt p.payload 2 2)).setF
        .TLM_CAP_CTRL_POST 0 (leAt p.payload 4 2)
      let s := (s.setF .TLM_CAP_DUMP_LO_DUMP_LO 0 (leAt p.payload 8 4 / 4096)).setF .TLM_CAP_DUMP_HI_DUMP_HI 0
        (leAt p.payload 12 4)
      let s := (s.setF .TLM_CAP_TICK_LO_TICK_LO 0 (leAt p.payload 16 4)).setF .TLM_CAP_TICK_HI_TICK_HI 0 (leAt p.payload 20 4)
      let s := s.each (List.range 8) (fun c s =>
        (s.setF .TLM_CAP_CH_INDEX c (leAt p.payload (24 + 4 * c) 2)).setF .TLM_CAP_CH_KIND c (leAt p.payload (26 + 4 * c) 1))
      (((s.capArm).dropStanding (fun r => r.kind = .capture)).stand k p .capture).reply k stPending []))

/-- ARM written 1 (R323). -/
def execCaptureArm (s : State) : Outcome State Fault Refusal := .next s.capArm

/-- ARM written 0 (R323). -/
def execCaptureDisarm (s : State) : Outcome State Fault Refusal := .next s.capDisarm

/-- 64 instants are encoded into a block (R321, R323). In POST a block that needs the trigger block's place ends the encoding. -/
def execCaptureBlockEncode (s : State) : Outcome State Fault Refusal :=
  let c := s.tlm.cap
  .next (
    if (s.capSt = 1 ∨ (s.capSt = 2 ∧ (c.trigAt ≠ none ∨ 0 < c.postLeft))) ∧ 64 ≤ c.inst.length then
      let here := match c.trigAt with
        | none => none
        | some i => if i < 64 then some i else none
      let b := s.capBlock (c.inst.take 64) here
      let kept := capRoom b.bytes.length c.blocks
      let held : Bool := c.blocks.any (fun x => x.trig) ∧ ¬ kept.any (fun x => x.trig)
      let c := { c with
        inst := c.inst.drop 64
        trigAt := if here = none then c.trigAt.map (fun i => i - 64) else none
        postLeft := if held then 0 else if s.capSt = 2 ∧ c.trigAt = none then c.postLeft - 1 else c.postLeft }
      let s : State := { s with tlm := { s.tlm with cap := c } }
      if held ∧ s.capSt = 2 then s
      else (s.when (kept.length < s.tlm.cap.blocks.length) (fun s => s.setF .TLM_CAP_STATUS_WRAPPED 0 1)).setBlocks (kept ++ [b])
    else s)

/-- The first sample instant at or after the trigger event has been latched (R324). -/
def execCaptureTrigger (s : State) : Outcome State Fault Refusal :=
  .next (
    if s.capSt = 1 ∧ s.tlm.cap.trigTime ≠ none then
      ({ s with tlm := { s.tlm with cap := { s.tlm.cap with postLeft := s.getF .TLM_CAP_CTRL_POST 0 } } } : State).capGo 2
    else s)

/-- POST ends: the trigger's block and the blocks after it are encoded, and the dump starts (R323). -/
def execCapturePostDone (s : State) : Outcome State Fault Refusal :=
  .next (
    if s.capSt = 2 ∧ s.tlm.cap.trigAt = none ∧ s.tlm.cap.postLeft = 0 then
      (({ s with tlm := { s.tlm with cap := { s.tlm.cap with dumpLeft := 1024, inst := [] } } } : State).capGo 3).issueDump
    else s)

/-- A dump write is acknowledged; after the last one the capture is DONE and its command completes (R323, R351). -/
def execCaptureDumpAck (s : State) : Outcome State Fault Refusal :=
  let c := s.tlm.cap
  .next (
    if s.capSt = 3 ∧ 0 < c.dumpLeft ∧ c.issued then
      let i := 1024 - c.dumpLeft
      let s := s.emit (.busWrite (s.dumpAddr i) (s.dumpBytes i))
      let s : State := { s with tlm := { s.tlm with cap := { c with dumpLeft := c.dumpLeft - 1, issued := false } } }
      if c.dumpLeft = 1 then
        (s.capGo 4).replyAll 0x41 (fun _ => true) stOk
          (leBytes 2 c.blocks.length ++ [s.getF .TLM_CAP_STATUS_WRAPPED 0, 0] ++ leBytes 8 (c.trigTime.getD 0))
      else s.issueDump
    else s)

/-- WAIT_S has passed since CAPTURE_WAVEFORM armed the capture (R351). -/
def execCaptureWaitTimeout (s : State) : Outcome State Fault Refusal :=
  .next (
    if s.cmd.inflight.any (fun q => q.2.phase = .pending ∧ q.2.pkt.op = 0x41) then
      s.capOff.replyAll 0x41 (fun _ => true) stTimeout []
    else s)

end Sys2Proof.Machine
end

