-- ==== Sys2Proof/Machine/Thermal.lean ====
section
/-! DEFINITION. The commands of thermal sensing and throttling (chapter Thermal Sensing and Throttling, R246 to R268), but for
MASK_SENSOR, which is a command packet, and THETA_UPDATE, which reads the converters. -/

namespace Sys2Proof.Machine

open Host (Outcome)

/-- A temperature period ends for a tower: it had no readings, complete ones, or some (R264). -/
def State.twrPeriod (s : State) (w : Nat) : State :=
  let t := s.twr w
  let all : Bool := (List.range 64).all (fun i => s.thm.period.any (fun p => p.1 = s.onDie + 64 * w + i))
  s.setTwr w { t with
    gap := if t.delivered then 0 else t.gap + 1, full := if all then t.full + 1 else 0, delivered := false }

/-- The temperature tick: the period before it counts for each sideband, every sensor starts a conversion, and no tower has
delivered (R38, R247, R264). -/
def execTemperatureConversion (s : State) : Outcome State Fault Refusal :=
  .next (s.when (s.onTick 10000) (fun s =>
    let s := s.when s.thm.started (fun s => s.each (List.range s.cfg.table.towers) (fun w s => s.twrPeriod w))
    { s with thm := { s.thm with period := [], started := true } }))

/-- The results of the conversion are published: on-die results as the operand lists them, die readings as the sidebands have
delivered them; a healthy sensor without a result is stood in for, and partners are compared (R248 to R263, R268). -/
def execTemperaturePublish (results : List (Nat × Int)) (s : State) : Outcome State Fault Refusal :=
  let got := (results.filter (fun r => r.1 < s.onDie)) ++ s.thm.period
  let idle := (s.thm.sns.map (fun p => p.1)).filter (fun x => s.snsSt x = 0 ∧ ¬ got.any (fun r => r.1 = x))
  let s := s.each idle (fun x s => s.standIn x)
  let s := got.foldl (fun s r => s.snsSample r.1 r.2) s
  let s := s.each ((s.thm.sns.map (fun p => p.1)).filter (fun x => x % 2 = 0)) (fun x s => s.pairCount x)
  let dies := List.range (8 * s.cfg.table.towers)
  let s := (s.each s.doms (fun d s => s.publishHot d)).each dies (fun j s => s.publishDie j)
  let s := s.each s.doms (fun d s => s.clTick false d)
  let s := s.each (List.range s.cfg.table.towers) (fun w s => ((s.showTower w).wpTick w).clTick true w)
  .next ((s.each s.doms (fun d s => s.forecastDom d)).showFuse)

/-- A tower delivers readings of its die sensors over its sideband (R247, R264). -/
def execSidebandReading (tower : Nat) (readings : List (Nat × Int)) (s : State) : Outcome State Fault Refusal :=
  .next (
    if tower < s.cfg.table.towers then
      let mine := readings.filter (fun r => s.onDie + 64 * tower ≤ r.1 ∧ r.1 < s.onDie + 64 * tower + 64)
      let s : State := { s with thm := { s.thm with period := mine.foldl (fun t r => t.put r.1 r.2) s.thm.period } }
      s.when (mine ≠ []) (fun s => s.setTwr tower { s.twr tower with delivered := true })
    else s)

/-- Whether a clamp unit exists. -/
def State.clIs (s : State) (tower : Bool) (i : Nat) : Bool :=
  if tower then i < s.cfg.table.towers else i < s.cfg.table.domains

/-- RELEASE_MS have passed in HOLD without alarm and limit condition, with a good sideband for a tower (R259). -/
def execClampReleaseStart (tower : Bool) (unit : Nat) (s : State) : Outcome State Fault Refusal :=
  let f := s.clFlags tower unit
  .next (
    if s.clIs tower unit ∧ s.clSt tower unit = 2 ∧ ¬ f.1 ∧ ¬ f.2.2 ∧ (tower → s.isSet .THM_TWR_SB_OK unit) ∧
        s.clWaited tower unit (s.getF .THM_CLAMP_CFG_RELEASE_MS 0) then
      s.clSet tower unit 3 (s.clC tower unit)
    else s)

/-- RISE_MS have passed in RELEASE: C rises by one, and past 15 the clamp ends (R259). -/
def execClampRiseStep (tower : Bool) (unit : Nat) (s : State) : Outcome State Fault Refusal :=
  .next (
    if s.clIs tower unit ∧ s.clSt tower unit = 3 ∧ s.clWaited tower unit (s.getF .THM_CLAMP_CFG_RISE_MS 0) then
      let c := s.clC tower unit + 1
      if c = 16 then s.clSet tower unit 0 15 else s.clSet tower unit 3 c
    else s)

/-- Two partners have differed by more than 6 °C on every sample for 100 ms, which is 1,000 samples, or stayed within 6 °C for
100 ms (R251). -/
def execSensorDisagree (sensor : Nat) (differ : Bool) (s : State) : Outcome State Fault Refusal :=
  let p := partnerOf sensor
  .next (
    if sensor < s.cfg.table.tsens ∧ s.pairFar sensor = some differ ∧ 1000 ≤ (s.sns (pairOf sensor)).pairRun ∧
        s.isSet .THM_SNS_DISAGREE sensor ≠ differ then
      let s := s.setSns (pairOf sensor) { s.sns (pairOf sensor) with pairRun := 0 }
      let s := (s.setB .THM_SNS_DISAGREE sensor differ).setB .THM_SNS_DISAGREE p differ
      s.when differ (fun s => s.event .THM_EVENT_DISAGREE 0 0x07 (min sensor p))
    else s)

/-- RECHECK written 1 for a sensor: a broken one starts its 100 ms (R253). -/
def execSensorRecheck (sensor : Nat) (s : State) : Outcome State Fault Refusal :=
  .next (
    if sensor < s.cfg.table.tsens ∧ s.snsSt sensor = 1 then
      s.setSns sensor { s.sns sensor with recheck := true, recheckBad := false, recheckRun := 0 }
    else s)

/-- The 100 ms of a recheck, 1,000 samples, are over: every result passed, or the sensor stays BROKEN (R253). -/
def execSensorRecheckEnd (sensor : Nat) (s : State) : Outcome State Fault Refusal :=
  let r := s.sns sensor
  .next (
    if s.snsSt sensor = 1 ∧ r.recheck ∧ 1000 ≤ r.recheckRun then
      if r.recheckBad then s.setSns sensor { r with recheck := false, recheckBad := false }
      else ((s.snsGo sensor 0).setF .THM_SNS_CAUSE sensor 0).showFuse
    else s)

/-- A tower's sideband is lost after 3 periods without readings (R264). -/
def execSidebandLost (tower : Nat) (s : State) : Outcome State Fault Refusal :=
  .next (
    if tower < s.cfg.table.towers ∧ ¬ (s.twr tower).lost ∧ ¬ (s.twr tower).delivered ∧ 3 ≤ (s.twr tower).gap then
      let s := (s.setTwr tower { s.twr tower with lost := true, wpRun := 0 }).setF .THM_TWR_SB_OK tower 0
      let s := (s.setWp tower false).clSet true tower 2 (s.clRef true tower)
      s.event .THM_EVENT_SB_LOST 0 0x07 tower
    else s)

/-- A tower's sideband is good after 10 periods of complete readings (R264). -/
def execSidebandRecover (tower : Nat) (s : State) : Outcome State Fault Refusal :=
  .next (
    if tower < s.cfg.table.towers ∧ 10 ≤ (s.twr tower).full then
      (s.setTwr tower { s.twr tower with lost := false }).setF .THM_TWR_SB_OK tower 1
    else s)

/-- The slow tick of the forecast (R38): every bin moves one millisecond nearer, and the energy of the one just passed leaves (R268). -/
def execForecastBinShift (s : State) : Outcome State Fault Refusal :=
  .next (s.when (s.onTick 100000) (fun s => { s with thm := { s.thm with
    bins := s.thm.bins.filterMap (fun p => if p.1 % 50 = 0 then none else some (p.1 - 1, p.2)) } }))

/-- A conversion or sideband reading has not completed 40 µs after its tick (R249). -/
def execSensorConversionTimeout (sensor : Nat) (s : State) : Outcome State Fault Refusal :=
  .next (if sensor < s.cfg.table.tsens ∧ ¬ s.thm.period.any (fun p => p.1 = sensor) then (s.snsFail sensor 2).showFuse else s)

end Sys2Proof.Machine
end

