-- ==== Sys2Proof/Machine/Views.lean ====
section
/-! DEFINITION. What registers read (R12 to R14, R17, R18, R457): the stored value of a field, or the value the state gives it
at the instant of the read. -/

namespace Sys2Proof.Machine

/-- The item of the element that CE_ELEM_SEL names. -/
def State.selElem (s : State) : Elem :=
  s.elem (s.getF .CE_ELEM_SEL_SLOT 0) (s.getF .CE_ELEM_SEL_ELEM 0)

/-- The kind and index of the actuator that CE_ARB_SEL names. -/
def State.selArb (s : State) : Nat × Nat := (s.getF .CE_ARB_SEL_KIND 0, s.getF .CE_ARB_SEL_INDEX 0)

/-- The selected actuator's stage-1 value with its winner. -/
def State.selStage1 (s : State) : Option (Int × Nat × Nat) := s.stage1 s.selArb.1 s.selArb.2

/-- The selected actuator's applied value and CLAMP_SRC. -/
def State.selStage2 (s : State) : Int × Nat :=
  s.selStage1.elim (0, 0) (fun w => s.stage2 s.selArb.1 s.selArb.2 w.1)

/-- Bytes of the record that FLT_REC_SEL names; zeros where it is not held. -/
def State.selRec (s : State) : List Nat :=
  (s.flt.recs.find? (fun r => r.seq = s.getF .FLT_REC_SEL_SEQ 0)).elim [] FltRec.bytes

/-- 32 flags as a word, the flag of unit 32 j + b in bit b. -/
def sumWord (j : Nat) (flag : Nat → Bool) : Nat :=
  ((List.range 32).filter (fun b => flag (32 * j + b))).foldl (fun w b => w + 2 ^ b) 0

/-- Whether any element of a slot has a flag. -/
def State.anyElem (s : State) (n : Nat) (flag : Nat → Elem → Bool) : Bool :=
  (List.range (s.slotElems n)).any (fun k => flag k (s.elem n k))

/-- Whether an element of a slot is frozen by a clamp or floor (R154). -/
def State.slotClamped (s : State) (n : Nat) : Bool :=
  s.slotClass n ≠ 0 ∧ s.anyElem n (fun k e => e.started ∧ s.clampFrozen n k)

/-- Bit `i` of GLB_FW_IL (R375). -/
def State.ilBit (s : State) (i : Nat) : Nat := if s.ilBits.getD i false then 1 else 0

/-- Whole units of time since an instant, at most `top`; `top` where there is none. -/
def State.ageOf (s : State) (t : Option Nat) (unit top : Nat) : Nat := t.elim top (fun t => min top ((s.time - t) / unit))

/-- Slots of a partner set that are not free: busy ones, and in the registration set also those an initiator has latched (R339). -/
def State.slotsBusy (s : State) (p : Nat) : Nat :=
  let busy := s.getF .CMD_PART_SLOTS_BUSY p
  if p ≠ 0 then busy else s.cmd.latch.foldl (fun w q => setBit w q.1 true) busy

/-- What a field of item `i` reads. -/
def State.view (s : State) (f : Fld) (i : Nat) : Nat :=
  match f with
  | .GLB_TIME_LO_TICKS_LO => s.time % 2 ^ 32
  | .GLB_TIME_HI_TICKS_HI => s.time / 2 ^ 32 % 2 ^ 32
  | .GLB_FW_IL_EMERG => s.ilBit 0
  | .GLB_FW_IL_LIMIT => s.ilBit 1
  | .GLB_FW_IL_DESCEND => s.ilBit 2
  | .GLB_FW_IL_PULSE => s.ilBit 3
  | .GLB_FW_IL_GROUP => s.ilBit 4
  | .GLB_FW_IL_GOOSE => s.ilBit 5
  | .GLB_LT_STAT_LEFT_MS => (s.lt.runs.find? (fun p => p.1 = i)).elim 0 (fun p => (p.2.2 - s.time) / 100000)
  | .CMD_PART_LEASE_LEASE_LEFT => if s.partSt i = 0 then 0 else min 65535 (s.leaseLeft i)
  | .GLB_FUSE_DATA_DATA => Tbl.get 0 s.cfg.fuses.words (s.getF .GLB_FUSE_SEL_WORD 0)
  | .FLT_STATUS_ESC_N => min 63 ((Tbl.get [] s.fields .FLT_SRC_STATE).filter (fun p => p.2 = 2)).length
  | .FLT_STATUS_PEND_N => min 63 ((Tbl.get [] s.fields .FLT_SRC_STATE).filter (fun p => p.2 = 1)).length
  | .FLT_REC0_MASTER => leAt s.selRec 3 1
  | .FLT_REC0_KIND => leAt s.selRec 2 1
  | .FLT_REC0_CODE => leAt s.selRec 1 1
  | .FLT_REC0_SUB => leAt s.selRec 0 1
  | .FLT_REC1_COUNT => leAt s.selRec 6 2
  | .FLT_REC1_INDEX => leAt s.selRec 4 2
  | .FLT_REC2_TIME_LO => leAt s.selRec 8 4
  | .FLT_REC3_TIME_HI => leAt s.selRec 12 4
  | .ADC_RES_ST_AGE => s.ageOf ((s.adc.pubTime.find? (fun p => p.1 = i)).map (fun p => p.2)) 100 65535
  | .PHS_GRP_REF_VREF => (rneDiv (s.refUV i) 500).toNat
  | .PHS_PMB_AGE_AGE_MS => s.ageOf s.phs.pmbLast 100000 65535
  | .DOM_BUD_GOV_PULSE_AGE => if s.bud.pulseStart = none then 0 else s.ageOf s.bud.pulseStart 10000 16383
  | .THM_BRK_SUM_BRK => sumWord i (fun x => s.snsSt x = 1)
  | .CE_MISS_SUM_MISSED => sumWord i (fun n => s.isSet .CE_SLOT_STATUS_MISSED n)
  | .CE_CLAMP_SUM_CLAMPED => sumWord i (fun n => s.slotClamped n)
  | .DOM_EST_DIS_SUM_DIS => sumWord i (fun d => s.getF .DOM_EST_STATUS_STATE d = 2)
  | .CE_ELEM_OUT_ACT => toU 16 s.selElem.act
  | .CE_ELEM_OUT_Y => toU 16 s.selElem.y
  | .CE_ELEM_INT_LO_I_LO => toU 40 s.selElem.integ % 2 ^ 32
  | .CE_ELEM_INT_HI_I_SIGN => toU 64 s.selElem.integ / 2 ^ 40
  | .CE_ELEM_INT_HI_I_HI => toU 40 s.selElem.integ / 2 ^ 32
  | .CE_ELEM_PROF_P => toU 16 (rne s.selElem.p 8)
  | .CE_ELEM_PROF_V => toU 16 s.selElem.v
  | .CE_ARB_VAL_STAGE1 => toU 16 (s.selStage1.elim 0 (fun w => w.1))
  | .CE_ARB_VAL_APPLIED => toU 16 s.selStage2.1
  | .CE_ARB_SRC_CLAMPED => if s.selStage1.any (fun w => s.selStage2.1 ≠ w.1) then 1 else 0
  | .CE_ARB_SRC_CLAMP_SRC => s.selStage2.2
  | .CE_ARB_SRC_WIN_SLOT => s.selStage1.elim 0 (fun w => w.2.1)
  | .CE_ARB_SRC_WIN_ELEM => s.selStage1.elim 0 (fun w => w.2.2)
  | .CE_SLOT_STATUS_CLAMPED => if s.slotClamped i then 1 else 0
  | .CE_SLOT_STATUS_IN_INVALID => if s.slotClass i ≠ 0 ∧ s.anyElem i (fun _ e => e.invalid) then 1 else 0
  | .CE_SLOT_STATUS_TRACKING => if s.slotClass i ≠ 0 ∧ s.anyElem i (fun _ e => e.tracking) then 1 else 0
  | .CE_SLOT_STATUS_OPS => s.slotOps i % 65536
  | .CRC_POLY_POLY => s.getF .CRC_POLY_POLY i % 2 ^ s.crcW i
  | .CRC_INIT_INIT => s.getF .CRC_INIT_INIT i % 2 ^ s.crcW i
  | .CRC_EXPECT_EXPECT => s.getF .CRC_EXPECT_EXPECT i % 2 ^ s.crcW i
  | .CRC_VALUE_VALUE => s.getF .CRC_VALUE_VALUE i % 2 ^ s.crcW i
  | .CRC_RESULT_RESULT => s.getF .CRC_RESULT_RESULT i % 2 ^ s.crcW i
  | .CMD_PART_SLOTS_BUSY => s.slotsBusy i
  | f => if f.info.acc = .wo then 0 else s.getF f i

/-- The item a register reads or writes: the registers behind a selector take the selected unit. -/
def State.itemAt (s : State) (r : RegRow) (i : Nat) : Nat :=
  if r.base = 0x05E04 then s.getF .THM_SNS_SEL_SENSOR 0
  else selectedItem (s.getF .CE_ELEM_SEL_SLOT 0 * 2 ^ 16 + s.getF .CE_ELEM_SEL_ELEM 0) (s.getF .THM_DOM_SEL_DOMAIN 0)
    (s.getF .ADC_CAL_SEL_CHANNEL 0) r i

/-- What the register at an offset reads: its fields over zeros (R12), and 0 at an offset or a unit that is not there
(R13, R458). -/
def State.readWord (s : State) (off : Nat) : Nat :=
  match regAt off with
  | none => 0
  | some (r, i) =>
    let item := s.itemAt r i
    if ¬ unitExists s.cfg.table r item then 0
    else r.flds.foldl (fun w f => w + s.view f item % 2 ^ f.width * 2 ^ f.info.lo) 0

/-! ### 64-bit quantities (R18) -/

/-- The 64-bit quantities of the window: the offset of the low word, the high word standing 4 above it. -/
def wideRegs : List Nat :=
  [0x00010, 0x02020, 0x02028, 0x0204C, 0x06014, 0x0601C, 0x07004, 0x0700C, 0x07124, 0x0712C, 0x6010C]

/-- What an initiator's latch records: the quantity, by the offset of its low word, and the high word latched. -/
def State.latchOf (s : State) (init : Nat) : Option (Nat × Nat) :=
  (s.cmd.hiLatch.find? (fun p => p.1 = init)).map (fun p => p.2)

/-- Replaces what an initiator's latch records. -/
def State.setLatch (s : State) (init : Nat) (q : Option (Nat × Nat)) : State :=
  let l := s.cmd.hiLatch.filter (fun p => p.1 ≠ init)
  { s with cmd := { s.cmd with hiLatch := q.elim l (fun q => (init, q) :: l) } }

/-- The value that a read of an initiator returns: a high word recorded by its latch reads as latched (R18), and a known word of
the SRAM that the debug window shows as it was written (R384). -/
def State.readBy (s : State) (init off : Nat) : Nat :=
  if 0x80000 ≤ off ∧ off < 0xC0000 then (s.sramWord off).getD 0
  else match s.latchOf init with
  | some (q, w) => if off = q + 4 then w else s.readWord off
  | none => s.readWord off

/-- Whether a read returns an open value, because the manual states none: a word of a command slot, a word of SRAM that is not
known, and any register of the debug window read by an initiator that is not of class HOST (R337, R384, DESIGN CHOICE,
assumption 100). -/
def State.readOpen (s : State) (init off : Nat) : Bool :=
  (0x20000 ≤ off ∧ off < 0x40000) ∨
  (0x80000 ≤ off ∧ off ≤ 0xC000C ∧ (s.initClass init ≠ 5 ∨ (off < 0xC0000 ∧ s.sramWord off = none)))

end Sys2Proof.Machine
end

