-- ==== Sys2Proof/Machine/RegWrite.lean ====
section
/-! DEFINITION. Register accesses: a write of the window by field types (R11 to R16, R338, R451, R457 to R460), the high-word
latch (R18), and a discarded message of the Rooster (R180). -/

namespace Sys2Proof.Machine

open Host (Outcome)

/-- The state that the meaning of another command answers. -/
def State.then_ (s : State) (f : State → Outcome State Fault Refusal) : State :=
  match f s with
  | .next t => t
  | _ => s

/-! ### Fields by type (R14, R16) -/

/-- Whether a write is not accepted by a field while something runs (R312, R323, R460). -/
def State.holdsOff (s : State) (f : Fld) : Bool :=
  match f with
  | .TLM_CTRL_SIZE_LOG2 => s.isSet .TLM_STATUS_RUNNING 0
  | .TLM_RING_LO_BASE_LO => s.isSet .TLM_STATUS_RUNNING 0
  | .TLM_RING_HI_BASE_HI => s.isSet .TLM_STATUS_RUNNING 0
  | .TLM_CAP_CTRL_TRIG_SRC => s.capSt ≠ 0 ∧ s.capSt ≠ 4
  | .TLM_CAP_CTRL_POST => s.capSt ≠ 0 ∧ s.capSt ≠ 4
  | .TLM_CAP_CTRL_TRIG_IDX => s.capSt ≠ 0 ∧ s.capSt ≠ 4
  | .TLM_CAP_CH_KIND => s.capSt ≠ 0 ∧ s.capSt ≠ 4
  | .TLM_CAP_CH_INDEX => s.capSt ≠ 0 ∧ s.capSt ≠ 4
  | .TLM_CAP_DUMP_LO_DUMP_LO => s.capSt ≠ 0 ∧ s.capSt ≠ 4
  | .TLM_CAP_DUMP_HI_DUMP_HI => s.capSt ≠ 0 ∧ s.capSt ≠ 4
  | _ => false

/-- The RW fields whose write is an act of its own, which the register's action carries out. -/
def actingFields : List Fld :=
  [.ADC_CV_CTRL_OFFLINE, .TLM_CTRL_ENABLE, .TLM_CONS_CONS, .TLM_CAP_CTRL_ARM, .PHS_GRP_CTRL_EN, .PHS_PH_CTRL_DISABLE,
    .CEL_CTRL_ISOLATE, .CE_SD_CTRL_OPEN, .FLT_FEC_INFO_VALID]

/-- One field of a written register: RW takes the value, RW1C loses the bits written 1, and RWL takes the value until the
configuration commit. RO fields take nothing, WO fields act with their register, and RWE fields are staged with it (R14). -/
def State.writeField (s : State) (f : Fld) (i w : Nat) : State :=
  if actingFields.contains f ∨ s.holdsOff f then s
  else match f.info.acc with
    | .rw => s.setF f i (f.part w)
    | .rw1c => s.setF f i (s.getF f i - Nat.land (s.getF f i) (f.part w))
    | .rwl => if s.committed then s else s.setF f i (f.part w)
    | _ => s

/-- Whether a write would change an RWL field (R16). -/
def State.changesLocked (s : State) (r : RegRow) (i w : Nat) : Bool :=
  r.flds.any (fun f => f.info.acc = .rwl ∧ f.part w ≠ s.getF f i)

/-! ### Registers that act -/

/-- The check-value unit `u` written at one of its registers (R330 to R334), RESULT among them, which takes nothing. CRC_CMD acts in the order ABORT, START, FINISH. -/
def State.writeCrc (s : State) (init u reg off w : Nat) : State :=
  match reg with
  | 0 => s.then_ (execCrcSettingsWrite init u 0 w)
  | 1 => s.then_ (execCrcSettingsWrite init u 1 w)
  | 2 => s.then_ (execCrcSettingsWrite init u 2 w)
  | 3 => s.crcWrite init u off (s.crcSame u 3 w) (fun s => s.setF .CRC_EXPECT_EXPECT u (w % 2 ^ s.crcW u))
  | 4 => s.crcWrite init u off false (fun s =>
      ((s.when (bitOf w 2) (fun s => s.crcIdle u)).when (bitOf w 0) (fun s => s.crcGo u (s.getF .CRC_INIT_INIT u))).when
        (bitOf w 1) (fun s => s.crcEnd u))
  | 5 => s.then_ (execCrcData32 init u w)
  | 6 => s.then_ (execCrcData8 init u w)
  | 7 => s.then_ (execCrcValueWrite init u w)
  | 8 => s.crcWrite init u off false id
  | 9 => s.crcWrite init u off false (fun s => s.when (bitOf w 27) (fun s => s.setF .CRC_STATUS_DROPPED u 0))
  | _ => s

/-- GLB_BOOT_CTRL: its actions are a HOST initiator's (R398, R402, R459). -/
def State.writeBoot (s : State) (init off w : Nat) : State :=
  if bitsOf w 31 29 = 0 then s
  else if s.initClass init ≠ 5 then s.refuseInit init off
  else ((s.when (bitOf w 31) (fun s => s.then_ (execBootRelease init))).when (bitOf w 30) (fun s => s.then_ (execUseRom init))).when
    (bitOf w 29) (fun s => s.then_ (execCfgCommit init))

/-- GLB_RST_CTRL: with BLOCK_RST the level of BL_STACK_HELD is sampled, which this command does not bring (R404). -/
def State.writeReset (s : State) (init w : Nat) : State :=
  (s.when (bitOf w 31) (fun s => s.then_ (execCpRst init))).when (bitOf w 30) (fun s =>
    s.fresh.2.then_ (execBlockRst init (s.fresh.1 % 2 = 1)))

/-- What writing a register does beyond the values of its fields: the actions of its WO fields, and of the RW fields whose write
acts. -/
def State.regAct (s : State) (init off w : Nat) (r : RegRow) (i : Nat) : State :=
  match r.base with
  | 0x0004C => s.writeBoot init off w
  | 0x00050 => s.writeReset init w
  | 0x00408 => s.when (bitOf w 31) (fun s => s.then_ (execWatchdogKick init i))
  | 0x00810 => s.then_ (execCmdCommit init w)
  | 0x01010 => s.when (bitOf w 31) (fun s => s.then_ (execFuseProgram init (bitsOf w 9 0)))
  | 0x0200C => s.when (bitOf w 31 ∨ init ≠ 0xF2) (fun s => s.then_ (execFltHandle init (bitsOf w 15 8) (bitsOf w 3 0)))
  | 0x0201C => s.when (bitOf w 31) (fun s => s.then_ (execFecValidClear init))
  | 0x02400 => s.when (bitOf w 26) (fun s => s.then_ (execCntClr init (i / 16) (i % 16)))
  | 0x03100 => (s.when (bitOf w 31) (fun s => s.then_ (execCrcClaim init))).when (bitOf w 30) (fun s =>
      s.then_ (execCrcRelease init))
  | 0x04000 => s.lpUpdate
  | 0x0400C => s.when (bitOf w 31) (fun s => s.then_ (execAdcUrgReq (bitsOf w 23 16) (bitsOf w 15 14) (bitsOf w 5 0)))
  | 0x04100 => (s.then_ (if bitOf w 31 then execConverterOffline i else execConverterOnline i)).when
      (bitOf w 30 ∧ ¬ bitOf w 31) (fun s => s.then_ (execConverterRecheck i))
  | 0x05E04 => s.when (bitOf w 28) (fun s => s.then_ (execSensorRecheck i))
  | 0x06028 => s.rootCheck
  | 0x06030 => (s.when (bitsOf w 31 30 = 1) (fun s => s.then_ (execDecideFollow (bitsOf w 15 0)))).when (bitsOf w 31 30 = 2) (fun s =>
      s.then_ (execDecideEvict (bitsOf w 15 0)))
  | 0x07000 => s.writeEnable (bitOf w 31)
  | 0x07018 => s.writeCons w
  | 0x07100 => if bitOf w 31 then s.capArm else s.capDisarm
  | 0x08000 => (s.when (s.grp i ≠ 0) (fun s => s.updTon i)).then_ (if bitOf w 31 then execGroupEnable i else execGroupDisable i)
  | 0x09008 => (s.then_ (if bitOf w 0 then execPhaseDisable i else execPhaseCheckStart i)).when (bitOf w 1) (fun s =>
      s.then_ (execPhaseReadmit i))
  | 0x10008 => (s.then_ (if bitOf w 0 then execCellIsolate i else execCellUnisolate i)).when (bitOf w 1 ∧ ¬ bitOf w 0) (fun s =>
      s.then_ (execCellReadmit i))
  | 0x16000 => s.when (bitOf w 30) (fun s => s.then_ (execDroopSensorRecheck i))
  | 0x1C000 => s.fenceCheck i
  | 0x71024 => s.when (bitOf w 31) (fun s => s.estHold i 4)
  | 0x61000 => s.then_ (if bitOf w 29 then execSlotOpen i else execSlotClose i)
  | _ => s

/-- A register of the window takes a write: the values of its fields by their types, a record where a locked field would change,
the RWE fields into the writer's staged set, and its actions. The registers of a check-value unit take it as the unit's rules
say. -/
def State.writeRow (s : State) (init off w : Nat) (r : RegRow) (i : Nat) : State :=
  if 0x03000 ≤ r.base ∧ r.base < 0x03040 then s.writeCrc init i ((r.base - 0x03000) / 4) off w
  else
    let t := s.when (s.committed ∧ s.changesLocked r i w) (fun s => s.refuseLocked init off)
    let t := r.flds.foldl (fun t f => t.writeField f i w) t
    let t := t.when (r.bits .rwe ≠ 0) (fun t => t.stageRegister init off w)
    t.regAct init off w r i

/-- An aligned 32-bit write at an offset of the window. -/
def State.writeWord (s : State) (init off w : Nat) : State :=
  if 0x20000 ≤ off ∧ off < 0x40000 then
    s.slotWrite init ((off - 0x20000) / 0x800) (off / 0x100 % 8) (off / 4 % 64) w
  else if 0x80000 ≤ off then s.dbgWrite init off w
  else match regAt off with
    | none => s
    | some (r, i) =>
      let item := s.itemAt r i
      if unitExists s.cfg.table r item then s.writeRow init off w r item else s

/-- A write access to the window (R11, R14, R451): `bus` is true where it comes from the target port and not from a processor
of the Balinette; `size` is its width in bytes. -/
def execRegisterWrite (bus : Bool) (init off size value : Nat) (s : State) : Outcome State Fault Refusal :=
  .next (
    if 2 ^ 20 ≤ off then s
    else if size ≠ 4 ∨ off % 4 ≠ 0 ∨ (bus ∧ 0xF0 ≤ init) then
      (s.raiseAccess 0x0F 2 init init off 2).emit (.errorResponse init off)
    else s.writeWord init off (value % 2 ^ 32))

/-- A read access to the window (R11, R18, R338, R384): the low word of a 64-bit quantity loads its initiator's latch, and the high
word that the latch records clears it. -/
def execHighWordLatchRead (init off : Nat) (s : State) : Outcome State Fault Refusal :=
  .next (
    if 2 ^ 20 ≤ off then s
    else if off % 4 ≠ 0 then (s.raiseAccess 0x0F 2 init init off 1).emit (.errorResponse init off)
    else if 0x40000 ≤ off ∧ off < 0x60000 then
      s.readReply init ((off - 0x40000) / 0x800) (off / 0x100 % 8) (off / 4 % 64)
    else if s.readOpen init off then s.fresh.2.emit (.readData init off (s.fresh.1 % 2 ^ 32))
    else
      let v := s.readBy init off
      let s := s.emit (.readData init off v)
      if wideRegs.contains off then s.setLatch init (some (off, s.readWord (off + 4)))
      else if (s.latchOf init).any (fun q => off = q.1 + 4) then s.setLatch init none
      else s)

/-- A FORECAST or PERMIT message of an undefined TYPE is discarded (R180); `tile` is the source's INDEX. -/
def execRoosterMessageDiscard (tile : Nat) (s : State) : Outcome State Fault Refusal :=
  .next (s.event .DOM_START_EVENT_MSG_BAD 0 0x04 tile)

end Sys2Proof.Machine
end

