-- ==== Sys2Proof/Machine/Rooster.lean ====
section
/-! DEFINITION. The commands of the Rooster (chapter Forecasts, Barriers and the Rooster, R177 to R200). Times are counts of the
time base. -/

namespace Sys2Proof.Machine

open Host (Outcome)

/-- An activity token (R177, R180 to R184). A START closer than PREBIAS_LEAD applies its floor at once; a START that has
passed applies none; both are late. -/
def execActivityToken (fmt : Nat) (set : TileSet) (start m n k tokenId : Nat) (s : State) : Outcome State Fault Refusal :=
  .next (
    let s := s.when (s.setBad set) (fun s => s.tokenEvent .DOM_START_EVENT_MSG_BAD tokenId)
    let tiles := s.setTiles set
    let q := s.tokenStep fmt m n k
    let s := s.forecast tiles start q.1 q.2
    let lead := 10 * s.getF .DOM_START_PRE_PREBIAS_LEAD 0
    let late (s : State) : State :=
      (s.bumpF .DOM_START_COUNT_LATE_TOKENS 0).tokenEvent .DOM_START_EVENT_TOKEN_LATE tokenId
    if start < s.time then late s
    else if start - s.time < lead then
      let s := (late s).addFloors tiles start false true
      s.each tiles (fun d s => s.rearb 2 d)
    else s.addFloors tiles start false false)

/-- A barrier announcement (R178, R180, R186, R188): it replaces the wave of the same barrier, takes the lowest free wave
slot, or is discarded. -/
def execBarrierAnnouncement (set : TileSet) (release bid engines : Nat) (s : State) : Outcome State Fault Refusal :=
  .next (
    let s := s.when (s.setBad set) (fun s => s.roosterEvent .DOM_START_EVENT_MSG_BAD)
    let tiles := s.setTiles set
    let e := min engines (16 * set.count)
    let key := s.start.nextFloor
    match s.findWave bid with
    | some w =>
      let s : State := { s with start := { s.start with floors := s.start.floors.filter (fun f => f.acting ∨ f.key ≠ w.floors) } }
      let s := s.addFloors tiles release true false
      (s.putWave { w with floors := key, release := release, tiles := tiles, engines := e,
                          released := w.released ∧ release ≤ s.time }).checkWaves
    | none =>
      match [0, 1, 2, 3].find? (fun k => ¬ s.start.waves.any (fun w => w.slot = k)) with
      | none => (s.bumpF .DOM_START_COUNT_DROPPED_ANN 0).roosterEvent .DOM_START_EVENT_ANN_DROPPED
      | some k =>
        let s := s.addFloors tiles release true false
        (s.setWaves (s.start.waves ++ [{ slot := k, bid := bid, floors := key, release := release, tiles := tiles, engines := e,
                                         granted := 0, armed := false, released := false }])).checkWaves)

/-- A barrier cancel (R178, R188, R189). -/
def execBarrierCancel (bid : Nat) (s : State) : Outcome State Fault Refusal :=
  .next (if (s.findWave bid).isSome then s.endWave bid else s)

/-- The floors of one message begin to act (R185). -/
def execPrebiasFloorStart (key : Nat) (s : State) : Outcome State Fault Refusal :=
  .next (
    match s.start.floors.find? (fun f => f.key = key ∧ ¬ f.acting) with
    | none => s
    | some g =>
      let s : State := { s with start := { s.start with
        floors := s.start.floors.map (fun f => if f.key = key then { f with acting := true } else f) } }
      s.each g.tiles (fun d s => s.rearb 2 d))

/-- The floor of one tile of a message falls by one code, down to nothing (R185). A floor of an announcement that covers no
permit does not fall while its wave is active. -/
def execPrebiasFloorFall (key tile : Nat) (s : State) : Outcome State Fault Refusal :=
  .next (
    match s.start.floors.find? (fun f => f.key = key ∧ f.acting ∧ f.tiles.contains tile) with
    | none => s
    | some g =>
      if g.wave ∧ ¬ g.covered.any (fun p => p.1 = tile) ∧ s.start.waves.any (fun w => w.floors = key) then s
      else
        let h := s.floorHeight g tile - 1
        let g' : FloorSet :=
          if h = 0 then { g with tiles := g.tiles.filter (fun t => t ≠ tile), heights := g.heights.erase tile }
          else { g with heights := g.heights.put tile h }
        let floors := (s.start.floors.map (fun f => if f.key = key then g' else f)).filter (fun f => f.tiles ≠ [])
        ({ s with start := { s.start with floors := floors } } : State).rearb 2 tile)

/-- The stack minimum over domains other than WAKING has held the raised threshold REF + PRE_H' − 2.5 mV for 2 µs while a
pre-raise acts: the active waves are armed (R187). -/
def execWaveArm (s : State) : Outcome State Fault Refusal :=
  .next (
    match s.dom.hrGate with
    | none => s
    | some h =>
      if s.start.waves ≠ [] ∧ (s.hTarget : Int) - 320 ≤ 64 * h then
        s.setWaves (s.start.waves.map (fun w => { w with armed := true }))
      else s)

/-- The time base reaches a wave's RELEASE (R187). -/
def execWaveRelease (bid : Nat) (s : State) : Outcome State Fault Refusal :=
  .next (
    match s.findWave bid with
    | none => s
    | some w => (s.putWave { w with released := true }).capEvent 7 0)

/-- WAVE_TMO after RELEASE (R189). -/
def execWaveTimeout (bid : Nat) (s : State) : Outcome State Fault Refusal :=
  .next (
    match s.findWave bid with
    | none => s
    | some w =>
      if w.released then
        ((s.bumpF .DOM_START_COUNT_WAVE_TMOS 0).roosterEvent .DOM_START_EVENT_WAVE_TMO).endWave bid
      else s)

/-- A tile's START_REQ on its port (R190 to R192, R196 to R199). A request of a barrier takes class 0 by the waves active at its
arrival (DESIGN CHOICE, assumption 117), and one that R191 refuses is refused whatever READY reads (DESIGN CHOICE, assumption
118). -/
def execStartReq (port tile wclass reqId epoch : Nat) (barrier : Bool) (engines step bid : Nat) (s : State) :
    Outcome State Fault Refusal :=
  .next (
    if s.cfg.table.tiles ≤ port then s
    else if tile ≠ port ∨ s.start.queue.any (fun r => r.dom = port ∧ ¬ r.wake ∧ r.reqId = reqId) then
      ((s.bumpF .DOM_START_COUNT_BAD_REQ 0).event .DOM_START_EVENT_REQ_BAD 0 0x04 port).sendDeny port reqId 3
    else if ¬ s.isSet .DOM_STATUS_READY port then s.sendDeny port reqId 1
    else
      let pr := s.profileOf port (epoch % 16)
      let s := s.setB .DOM_TILE_MAP_EPOCH_BAD port (¬ pr.2.2.2)
      let s := s.when (¬ pr.2.2.2) (fun s => s.event .DOM_START_EVENT_EPOCH_UNKNOWN 0 0x04 port)
      let wc := if barrier ∧ (s.findWave bid).isSome then 0 else min 2 wclass
      let r : StartReq := { dom := port, wake := false, reqId := reqId, wclass := wc, arrival := s.time,
                            bid := if barrier then some bid else none, engines := engines, step := step, scale := pr.1,
                            delay := pr.2.1, rise := pr.2.2.1, known := pr.2.2.2, moved := false }
      if step ≤ 5 then s.sendPermit r 0
      else s.setQueue (s.start.queue ++ [r]))

/-- A CANCEL of a waiting request (R190, R196); it also spoils the tile's open profile checks (R200). -/
def execStartCancel (tile reqId : Nat) (s : State) : Outcome State Fault Refusal :=
  .next (
    if s.cfg.table.tiles ≤ tile then s
    else
      let s := s.spoilChecks tile
      if s.start.queue.any (fun r => r.dom = tile ∧ ¬ r.wake ∧ r.reqId = reqId) then
        (s.setQueue (s.start.queue.filter (fun r => ¬ (r.dom = tile ∧ ¬ r.wake ∧ r.reqId = reqId)))).sendDeny tile reqId 2
      else s)

/-- A MAP_NOTICE (R190, R199). -/
def execMapNotice (tile epoch map : Nat) (s : State) : Outcome State Fault Refusal :=
  .next (
    if s.cfg.table.tiles ≤ tile then s
    else (s.setF .DOM_TILE_MAP_EPOCH tile epoch).setF .DOM_TILE_MAP_MAP tile map)

/-- One tick of the bucket: L = min(CAP, L + S), with S the applied value of actuator kind 5 (R193). -/
def execBucketRefill (s : State) : Outcome State Fault Refusal :=
  .next (s.setF .DOM_START_BUCKET_LEVEL 0
    (min s.cap (s.getF .DOM_START_BUCKET_LEVEL 0 + s.getF .DOM_START_STATUS_SLOPE_EFF 0)))

/-- Starts the cells of an admitted wake (R109, R118, R197). -/
def State.admitWake (s : State) (d : Nat) : State :=
  let s : State := { s with dom := { s.dom with admitted := s.dom.admitted.put d true } }
  let s := s.setF .DOM_STATUS_WAKE_WAIT d 0
  s.each ((s.cfg.table.domCells d).filter (fun c => s.getF .CEL_STATUS_STATE c = 0 ∧ ¬ s.gooseOpens d)) (fun c s =>
    s.setCell c 1)

/-- The first request in order is charged and granted once the level covers its charge (R193, R194, R197). -/
def execPermitGrant (s : State) : Outcome State Fault Refusal :=
  .next (
    match s.firstReq with
    | none => s
    | some r =>
      let c := s.charge r
      let l := s.getF .DOM_START_BUCKET_LEVEL 0
      if l < c then s
      else
        let s := s.setF .DOM_START_BUCKET_LEVEL 0 (l - c)
        let s := s.when (c ≠ 0) (fun s => (s.incF .DOM_START_GRANTS_GRANTS 0).accPermit r.dom)
        let s := s.setQueue (s.start.queue.erase r)
        if r.wake then s.admitWake r.dom else s.sendPermit r c)

/-- The profile check of a tile's oldest start whose two samples have been taken (R200). LAST_RATIO between two codes is an open
value. -/
def execProfileCheck (tile : Nat) (s : State) : Outcome State Fault Refusal :=
  .next (
    match s.start.checks.find? (fun c => c.tile = tile) with
    | none => s
    | some c => match c.after with
      | none => s
      | some i =>
        let s : State := { s with start := { s.start with checks := s.start.checks.erase c } }
        let measured := i - c.before
        let want : Int := 10 * c.charge
        let tol : Int := max 1 (s.getF .DOM_START_WAVE_MISMATCH_TOL 0)
        if c.disturbed ∨ ((measured - want).natAbs * 100 ≤ tol * want ∧ c.early * 100 ≤ tol * want) then s
        else
          let q := measured * 128 / want
          let s' := s.fresh.2
          let ratio := if measured * 128 % want = 0 then q else q + (s.fresh.1 % 2 : Nat)
          ((s'.bumpF .DOM_TILE_MAP_MISMATCH_COUNT tile).setF .DOM_TILE_MAP_LAST_RATIO tile (clampI 0 255 ratio).toNat).event
            .DOM_START_EVENT_MISMATCH 0 0x04 tile)

end Sys2Proof.Machine
end

