-- ==== Sys2Proof/Machine/Theta.lean ====
section
/-! DEFINITION. Thermal resistance and airflow (chapter Thermal Sensing and Throttling, R265 to R267). -/

namespace Sys2Proof.Machine

open Host (Outcome)

/-- The usable inlet readings in 1/8 °C: selected thermistor channels and READ_TEMPERATURE_2, valid and no older than 10 ms
(R265, R300). -/
def State.inlets (s : State) : List Int :=
  let sel := s.getF .THM_INLET_INLET_SEL 0
  let th := ((List.range 16).filter (fun c =>
    bitOf sel c ∧ s.isSet .ADC_RES_ST_VALID (196 + c) ∧
      (s.adc.pubTime.find? (fun p => p.1 = 196 + c)).any (fun p => s.time - p.2 ≤ 1000000))).map (fun c =>
        rne (s.getF .ADC_RES_CAL (196 + c)) 4 - 320)
  let t2 : List Int := if bitOf sel 16 ∧ s.phs.pmbT2.any (fun t => s.time - t ≤ 1000000) then
      let v := timesPow 8 (Tbl.get (0, 0) s.phs.pmbVal 0x8E)
      [rneDiv v.1 v.2]
    else []
  th ++ t2

/-- THETA_TAU in ms as it is used. -/
def State.thetaTau (s : State) : Nat := 1000 * clampN 1 60 (s.getF .THM_AIR_THETA_TAU 0)

/-- Whether a domain is tracked (R266). -/
def State.thetaOn (s : State) (d : Nat) : Bool :=
  s.domLive d ∧ (s.hot false d).published ∧ (s.domSns d).all (fun x => s.snsSt x ≠ 1)

/-- The filter and θ of one domain; filters are in 2^-16 °C and 2^-16 W, and the rounding at that place is open. -/
def State.thetaDom (s : State) (d : Nat) (tIn : Int) : State :=
  let old := Tbl.get 0 s.thm.theta d
  let q := s.openDiv ((s.getS .THM_DOM_T_HOT d - tIn) * 8192 - old) s.thetaTau
  let s := q.2
  let dt := old + q.1
  let s : State := { s with thm := { s.thm with theta := s.thm.theta.put d dt } }
  if 200 * 65536 ≤ s.thm.pf then
    let r := s.openDiv (dt * 65536) s.thm.pf.toNat
    let s := r.2
    let s : State := { s with thm := { s.thm with thetaOk := s.thm.thetaOk.put d true } }
    s.setF .THM_DOM_THETA_THETA d (clampI 0 65535 r.1).toNat
  else s

/-- F_AIR (R267): the lowest ratio of reference to θ over the domains with a reference and a θ; a θ of 0 gives no limit. -/
def State.airFactor (s : State) : Nat :=
  ((s.thm.thetaOk.filter (fun p => p.2 ∧ s.isSet .THM_DOM_THETA_THETA_REF p.1 ∧ s.isSet .THM_DOM_THETA_THETA p.1)).map (fun p =>
    32768 * s.getF .THM_DOM_THETA_THETA_REF p.1 / s.getF .THM_DOM_THETA_THETA p.1)).foldl min 32768

/-- Shows F_AIR; a fall below 32,768 raises AIR once. -/
def State.showAir (s : State) : State :=
  let f := s.airFactor
  let was := s.getF .THM_AIR_F_AIR 0
  (s.setF .THM_AIR_F_AIR 0 f).when (f < 32768 ∧ was = 32768) (fun s => s.event .THM_EVENT_AIR 0 0x07 0)

/-- The slow tick of the thermal-resistance tracking (R265 to R267). -/
def execThetaUpdate (s : State) : Outcome State Fault Refusal :=
  .next (
    match s.inlets with
    | [] => (s.event .THM_EVENT_INLET_BAD 0 0x07 0).showAir
    | t :: r =>
      let tIn := r.foldl min t
      let s := s.setS .THM_INLET_T_IN 0 (clampI (-2048) 2047 tIn)
      let l := s.doms.filter (fun d => s.thetaOn d)
      let s := s.when (l ≠ []) (fun s =>
        let q := s.openDiv (64 * s.bud.pMs - s.thm.pf) s.thetaTau
        { q.2 with thm := { q.2.thm with pf := s.thm.pf + q.1 } })
      (s.each l (fun d s => s.thetaDom d tIn)).showAir)

end Sys2Proof.Machine
end

