-- ==== Sys2Proof/Machine/Dispatch.lean ====
section
/-! DEFINITION. The effect of one command: one arm for each constructor of `Instr`, in the order of Syntax.lean. -/

namespace Sys2Proof.Machine

/-- The effect of one command on everything but the queue of waiting commands. -/
def exec (i : Instr) (s : State) : Host.Outcome State Fault Refusal :=
  match i with
  | .busOutOfRange vbus => Sys2Proof.Machine.execBusOutOfRange vbus s
  | .busFatal vbus => Sys2Proof.Machine.execBusFatal vbus s
  | .groupEnable g => Sys2Proof.Machine.execGroupEnable g s
  | .groupDisable g => Sys2Proof.Machine.execGroupDisable g s
  | .startDelayElapsed g vs => Sys2Proof.Machine.execStartDelayElapsed g vs s
  | .rampEnd g vs => Sys2Proof.Machine.execRampEnd g vs s
  | .foldbackEntry g vs => Sys2Proof.Machine.execFoldbackEntry g vs s
  | .foldbackRecovery g vs => Sys2Proof.Machine.execFoldbackRecovery g vs s
  | .fbLong g => Sys2Proof.Machine.execFbLong g s
  | .hiccupEntry g vs => Sys2Proof.Machine.execHiccupEntry g vs s
  | .hiccupWaitElapsed g vs => Sys2Proof.Machine.execHiccupWaitElapsed g vs s
  | .stopDelayElapsed g => Sys2Proof.Machine.execStopDelayElapsed g s
  | .stopRampEnd g vs => Sys2Proof.Machine.execStopRampEnd g vs s
  | .attemptsClear g => Sys2Proof.Machine.execAttemptsClear g s
  | .phasePulse g => Sys2Proof.Machine.execPhasePulse g s
  | .valleyLimitUpdate g vs => Sys2Proof.Machine.execValleyLimitUpdate g vs s
  | .valleyHold p imon => Sys2Proof.Machine.execValleyHold p imon s
  | .pulseRiseReport p rose ripple => Sys2Proof.Machine.execPulseRiseReport p rose ripple s
  | .phaseSenseDisable p => Sys2Proof.Machine.execPhaseSenseDisable p s
  | .tmonHotForce p tmon => Sys2Proof.Machine.execTmonHotForce p tmon s
  | .phaseDisable p => Sys2Proof.Machine.execPhaseDisable p s
  | .phaseCheckStart p => Sys2Proof.Machine.execPhaseCheckStart p s
  | .phaseReadmit p => Sys2Proof.Machine.execPhaseReadmit p s
  | .phaseCheckEnd p => Sys2Proof.Machine.execPhaseCheckEnd p s
  | .pmbusPollCycle => Sys2Proof.Machine.execPmbusPollCycle s
  | .pmbusTransactionDone ack data pec => Sys2Proof.Machine.execPmbusTransactionDone ack data pec s
  | .pmbusBusHeld => Sys2Proof.Machine.execPmbusBusHeld s
  | .pmbusBusReset => Sys2Proof.Machine.execPmbusBusReset s
  | .pmbusBusFree => Sys2Proof.Machine.execPmbusBusFree s
  | .cellLimitReached c => Sys2Proof.Machine.execCellLimitReached c s
  | .cellLimitRelease c => Sys2Proof.Machine.execCellLimitRelease c s
  | .cellLimitFold c => Sys2Proof.Machine.execCellLimitFold c s
  | .cellLimitRestore c => Sys2Proof.Machine.execCellLimitRestore c s
  | .cellFailure c cause => Sys2Proof.Machine.execCellFailure c cause s
  | .cellIsolationConfirmed c => Sys2Proof.Machine.execCellIsolationConfirmed c s
  | .cellIsoFail c => Sys2Proof.Machine.execCellIsoFail c s
  | .cellIsolate c => Sys2Proof.Machine.execCellIsolate c s
  | .cellUnisolate c => Sys2Proof.Machine.execCellUnisolate c s
  | .cellReadmit c => Sys2Proof.Machine.execCellReadmit c s
  | .cellCheckEnd c pass => Sys2Proof.Machine.execCellCheckEnd c pass s
  | .prechargeComplete c => Sys2Proof.Machine.execPrechargeComplete c s
  | .headroomOffsetUpdate d => Sys2Proof.Machine.execHeadroomOffsetUpdate d s
  | .droopSample sensors cells vias => Sys2Proof.Machine.execDroopSample sensors cells vias s
  | .droopFloorFall d => Sys2Proof.Machine.execDroopFloorFall d s
  | .stackGateReopen => Sys2Proof.Machine.execStackGateReopen s
  | .droopSensorRecheck x => Sys2Proof.Machine.execDroopSensorRecheck x s
  | .droopRecheckPass x => Sys2Proof.Machine.execDroopRecheckPass x s
  | .wakeHeadroomMet d => Sys2Proof.Machine.execWakeHeadroomMet d s
  | .wakeLate d => Sys2Proof.Machine.execWakeLate d s
  | .quiesceAck d => Sys2Proof.Machine.execQuiesceAck d s
  | .quiesceTimeout d => Sys2Proof.Machine.execQuiesceTimeout d s
  | .rampDownEnd d => Sys2Proof.Machine.execRampDownEnd d s
  | .fastElementEvaluation slot elem => Sys2Proof.Machine.execFastElementEvaluation slot elem s
  | .mediumEvaluation missed => Sys2Proof.Machine.execMediumEvaluation missed s
  | .slowEvaluation missed => Sys2Proof.Machine.execSlowEvaluation missed s
  | .deadlineMiss slot => Sys2Proof.Machine.execDeadlineMiss slot s
  | .laneRetire lane => Sys2Proof.Machine.execLaneRetire lane s
  | .slotOpen slot => Sys2Proof.Machine.execSlotOpen slot s
  | .slotClose slot => Sys2Proof.Machine.execSlotClose slot s
  | .activityToken fmt set start m n k tokenId => Sys2Proof.Machine.execActivityToken fmt set start m n k tokenId s
  | .barrierAnnouncement set release bid engines => Sys2Proof.Machine.execBarrierAnnouncement set release bid engines s
  | .barrierCancel bid => Sys2Proof.Machine.execBarrierCancel bid s
  | .prebiasFloorStart key => Sys2Proof.Machine.execPrebiasFloorStart key s
  | .prebiasFloorFall key tile => Sys2Proof.Machine.execPrebiasFloorFall key tile s
  | .waveArm => Sys2Proof.Machine.execWaveArm s
  | .waveRelease bid => Sys2Proof.Machine.execWaveRelease bid s
  | .waveTimeout bid => Sys2Proof.Machine.execWaveTimeout bid s
  | .startReq port tile wclass reqId epoch barrier engines step bid => Sys2Proof.Machine.execStartReq port tile wclass reqId epoch barrier engines step bid s
  | .startCancel tile reqId => Sys2Proof.Machine.execStartCancel tile reqId s
  | .mapNotice tile epoch map => Sys2Proof.Machine.execMapNotice tile epoch map s
  | .bucketRefill => Sys2Proof.Machine.execBucketRefill s
  | .permitGrant => Sys2Proof.Machine.execPermitGrant s
  | .profileCheck tile => Sys2Proof.Machine.execProfileCheck tile s
  | .counterMessage port valid dom window counts => Sys2Proof.Machine.execCounterMessage port valid dom window counts s
  | .counterStaleDecision => Sys2Proof.Machine.execCounterStaleDecision s
  | .estimatePublish cells => Sys2Proof.Machine.execEstimatePublish cells s
  | .calibrationUpdate => Sys2Proof.Machine.execCalibrationUpdate s
  | .pulseEnd => Sys2Proof.Machine.execPulseEnd s
  | .averageUpdate => Sys2Proof.Machine.execAverageUpdate s
  | .governorUpdate => Sys2Proof.Machine.execGovernorUpdate s
  | .fixedLost tile => Sys2Proof.Machine.execFixedLost tile s
  | .temperatureConversion => Sys2Proof.Machine.execTemperatureConversion s
  | .temperaturePublish results => Sys2Proof.Machine.execTemperaturePublish results s
  | .sidebandReading tower readings => Sys2Proof.Machine.execSidebandReading tower readings s
  | .clampReleaseStart tower unit => Sys2Proof.Machine.execClampReleaseStart tower unit s
  | .clampRiseStep tower unit => Sys2Proof.Machine.execClampRiseStep tower unit s
  | .sensorDisagree sensor differ => Sys2Proof.Machine.execSensorDisagree sensor differ s
  | .sensorRecheck sensor => Sys2Proof.Machine.execSensorRecheck sensor s
  | .sensorRecheckEnd sensor => Sys2Proof.Machine.execSensorRecheckEnd sensor s
  | .maskSensor set slot => Sys2Proof.Machine.execMaskSensor set slot s
  | .sidebandLost tower => Sys2Proof.Machine.execSidebandLost tower s
  | .sidebandRecover tower => Sys2Proof.Machine.execSidebandRecover tower s
  | .thetaUpdate => Sys2Proof.Machine.execThetaUpdate s
  | .forecastBinShift => Sys2Proof.Machine.execForecastBinShift s
  | .sensorConversionTimeout sensor => Sys2Proof.Machine.execSensorConversionTimeout sensor s
  | .herdJoin set slot => Sys2Proof.Machine.execHerdJoin set slot s
  | .herdLeave set slot => Sys2Proof.Machine.execHerdLeave set slot s
  | .helloReceived port m => Sys2Proof.Machine.execHelloReceived port m s
  | .offerReceived port m => Sys2Proof.Machine.execOfferReceived port m s
  | .changeReceived m => Sys2Proof.Machine.execChangeReceived m s
  | .changeTick => Sys2Proof.Machine.execChangeTick s
  | .syncReceived m => Sys2Proof.Machine.execSyncReceived m s
  | .delayReqReceived port m => Sys2Proof.Machine.execDelayReqReceived port m s
  | .delayRespReceived m => Sys2Proof.Machine.execDelayRespReceived m s
  | .excludeReceived port m => Sys2Proof.Machine.execExcludeReceived port m s
  | .decideReceived m => Sys2Proof.Machine.execDecideReceived m s
  | .disbandReceived m => Sys2Proof.Machine.execDisbandReceived m s
  | .syncSend => Sys2Proof.Machine.execSyncSend s
  | .offerSend => Sys2Proof.Machine.execOfferSend s
  | .delayReqSend => Sys2Proof.Machine.execDelayReqSend s
  | .helloRetry => Sys2Proof.Machine.execHelloRetry s
  | .linkLoss port => Sys2Proof.Machine.execLinkLoss port s
  | .offerRecompute => Sys2Proof.Machine.execOfferRecompute s
  | .exclusionRecovery => Sys2Proof.Machine.execExclusionRecovery s
  | .exclWaitExpiry => Sys2Proof.Machine.execExclWaitExpiry s
  | .joinTimeout => Sys2Proof.Machine.execJoinTimeout s
  | .holdTmoExpiry => Sys2Proof.Machine.execHoldTmoExpiry s
  | .decideFollow stack => Sys2Proof.Machine.execDecideFollow stack s
  | .decideEvict stack => Sys2Proof.Machine.execDecideEvict stack s
  | .exclusionEntryExpiry entry => Sys2Proof.Machine.execExclusionEntryExpiry entry s
  | .lockMessageDiscard port bytes => Sys2Proof.Machine.execLockMessageDiscard port bytes s
  | .timeSlewEnd => Sys2Proof.Machine.execTimeSlewEnd s
  | .roundStart c => Sys2Proof.Machine.execRoundStart c s
  | .conversionDone c v => Sys2Proof.Machine.execConversionDone c v s
  | .triggerHold c => Sys2Proof.Machine.execTriggerHold c s
  | .triggerTimeout c => Sys2Proof.Machine.execTriggerTimeout c s
  | .heldValueDiscard c => Sys2Proof.Machine.execHeldValueDiscard c s
  | .urgentTimerConversion c => Sys2Proof.Machine.execUrgentTimerConversion c s
  | .adcUrgReq ch gain smp => Sys2Proof.Machine.execAdcUrgReq ch gain smp s
  | .converterStall c => Sys2Proof.Machine.execConverterStall c s
  | .converterWake c onTime => Sys2Proof.Machine.execConverterWake c onTime s
  | .converterPowerDown c => Sys2Proof.Machine.execConverterPowerDown c s
  | .converterOffline c => Sys2Proof.Machine.execConverterOffline c s
  | .converterOnline c => Sys2Proof.Machine.execConverterOnline c s
  | .converterRecheck c => Sys2Proof.Machine.execConverterRecheck c s
  | .converterRecheckEnd c => Sys2Proof.Machine.execConverterRecheckEnd c s
  | .adcCalibrate set slot => Sys2Proof.Machine.execAdcCalibrate set slot s
  | .calibrationStepDone => Sys2Proof.Machine.execCalibrationStepDone s
  | .calibrationExpiry ch => Sys2Proof.Machine.execCalibrationExpiry ch s
  | .telemetryWindowClose => Sys2Proof.Machine.execTelemetryWindowClose s
  | .recordWriteAck => Sys2Proof.Machine.execRecordWriteAck s
  | .recordDrop => Sys2Proof.Machine.execRecordDrop s
  | .notifyWrite => Sys2Proof.Machine.execNotifyWrite s
  | .telemetryEnable => Sys2Proof.Machine.execTelemetryEnable s
  | .telemetryStart => Sys2Proof.Machine.execTelemetryStart s
  | .telemetryDisable => Sys2Proof.Machine.execTelemetryDisable s
  | .consWrite value => Sys2Proof.Machine.execConsWrite value s
  | .busErrorResponse write => Sys2Proof.Machine.execBusErrorResponse write s
  | .telemetrySetup set slot => Sys2Proof.Machine.execTelemetrySetup set slot s
  | .captureWaveform set slot => Sys2Proof.Machine.execCaptureWaveform set slot s
  | .captureArm => Sys2Proof.Machine.execCaptureArm s
  | .captureDisarm => Sys2Proof.Machine.execCaptureDisarm s
  | .captureBlockEncode => Sys2Proof.Machine.execCaptureBlockEncode s
  | .captureTrigger => Sys2Proof.Machine.execCaptureTrigger s
  | .capturePostDone => Sys2Proof.Machine.execCapturePostDone s
  | .captureDumpAck => Sys2Proof.Machine.execCaptureDumpAck s
  | .captureWaitTimeout => Sys2Proof.Machine.execCaptureWaitTimeout s
  | .crcStart init u => Sys2Proof.Machine.execCrcStart init u s
  | .crcFinish init u => Sys2Proof.Machine.execCrcFinish init u s
  | .crcAbort init u => Sys2Proof.Machine.execCrcAbort init u s
  | .crcData32 init u data => Sys2Proof.Machine.execCrcData32 init u data s
  | .crcData8 init u data => Sys2Proof.Machine.execCrcData8 init u data s
  | .crcValueWrite init u value => Sys2Proof.Machine.execCrcValueWrite init u value s
  | .crcSettingsWrite init u reg value => Sys2Proof.Machine.execCrcSettingsWrite init u reg value s
  | .crcClaim init => Sys2Proof.Machine.execCrcClaim init s
  | .crcRelease init => Sys2Proof.Machine.execCrcRelease init s
  | .crcLeaseExpiry => Sys2Proof.Machine.execCrcLeaseExpiry s
  | .crcSelfTest u pass => Sys2Proof.Machine.execCrcSelfTest u pass s
  | .fenceDomain set slot => Sys2Proof.Machine.execFenceDomain set slot s
  | .unfenceDomain set slot => Sys2Proof.Machine.execUnfenceDomain set slot s
  | .slotHandover init set slot word => Sys2Proof.Machine.execSlotHandover init set slot word s
  | .replySlotRead init set slot => Sys2Proof.Machine.execReplySlotRead init set slot s
  | .registrationSlotTimeout slot => Sys2Proof.Machine.execRegistrationSlotTimeout slot s
  | .firmwarePacketStart set slot => Sys2Proof.Machine.execFirmwarePacketStart set slot s
  | .registerPartner set slot => Sys2Proof.Machine.execRegisterPartner set slot s
  | .renewLease set slot => Sys2Proof.Machine.execRenewLease set slot s
  | .releasePartner set slot => Sys2Proof.Machine.execReleasePartner set slot s
  | .heartbeatMissed set => Sys2Proof.Machine.execHeartbeatMissed set s
  | .leaseExpiry set => Sys2Proof.Machine.execLeaseExpiry set s
  | .partnerFree set => Sys2Proof.Machine.execPartnerFree set s
  | .setOperatingPoint set slot => Sys2Proof.Machine.execSetOperatingPoint set slot s
  | .setPreferredPoint set slot => Sys2Proof.Machine.execSetPreferredPoint set slot s
  | .setPowerCap set slot => Sys2Proof.Machine.execSetPowerCap set slot s
  | .setFixedFrequency set slot => Sys2Proof.Machine.execSetFixedFrequency set slot s
  | .stageConfig set slot => Sys2Proof.Machine.execStageConfig set slot s
  | .rweWrite init off value => Sys2Proof.Machine.execRweWrite init off value s
  | .commitEpoch set slot => Sys2Proof.Machine.execCommitEpoch set slot s
  | .cmdCommit init value => Sys2Proof.Machine.execCmdCommit init value s
  | .abortRetune set slot => Sys2Proof.Machine.execAbortRetune set slot s
  | .validationDone => Sys2Proof.Machine.execValidationDone s
  | .epochApply => Sys2Proof.Machine.execEpochApply s
  | .settleDone => Sys2Proof.Machine.execSettleDone s
  | .settleTimeout => Sys2Proof.Machine.execSettleTimeout s
  | .loadImage set slot => Sys2Proof.Machine.execLoadImage set slot s
  | .imageVerifyDone => Sys2Proof.Machine.execImageVerifyDone s
  | .loadingTimeout => Sys2Proof.Machine.execLoadingTimeout s
  | .activateImage set slot => Sys2Proof.Machine.execActivateImage set slot s
  | .queryImage set slot => Sys2Proof.Machine.execQueryImage set slot s
  | .interlockQuietEnd => Sys2Proof.Machine.execInterlockQuietEnd s
  | .deferTimeout => Sys2Proof.Machine.execDeferTimeout s
  | .processorSwitch cp => Sys2Proof.Machine.execProcessorSwitch cp s
  | .processorCrash cp cause addr comp => Sys2Proof.Machine.execProcessorCrash cp cause addr comp s
  | .watchdogExpiry cp => Sys2Proof.Machine.execWatchdogExpiry cp s
  | .watchdogKick init cp => Sys2Proof.Machine.execWatchdogKick init cp s
  | .processorRestartDone cp bankGood => Sys2Proof.Machine.execProcessorRestartDone cp bankGood s
  | .scrubPass corrected crashed banks => Sys2Proof.Machine.execScrubPass corrected crashed banks s
  | .policyCycle => Sys2Proof.Machine.execPolicyCycle s
  | .mailboxTimeout slot => Sys2Proof.Machine.execMailboxTimeout slot s
  | .debugHalt init => Sys2Proof.Machine.execDebugHalt init s
  | .debugResume init => Sys2Proof.Machine.execDebugResume init s
  | .debugStep init => Sys2Proof.Machine.execDebugStep init s
  | .debugWindowWrite init off value => Sys2Proof.Machine.execDebugWindowWrite init off value s
  | .faultRaise k => Sys2Proof.Machine.execFaultRaise k s
  | .fatalRaise k => Sys2Proof.Machine.execFatalRaise k s
  | .fatalStopGroupNext => Sys2Proof.Machine.execFatalStopGroupNext s
  | .softwareWindowExpiry sub code => Sys2Proof.Machine.execSoftwareWindowExpiry sub code s
  | .quietExpiry sub code => Sys2Proof.Machine.execQuietExpiry sub code s
  | .fltHandle init sub code => Sys2Proof.Machine.execFltHandle init sub code s
  | .faultQuery set slot => Sys2Proof.Machine.execFaultQuery set slot s
  | .faultAck set slot => Sys2Proof.Machine.execFaultAck set slot s
  | .cntClr init sub code => Sys2Proof.Machine.execCntClr init sub code s
  | .fecValidClear init => Sys2Proof.Machine.execFecValidClear init s
  | .pairReadbackMismatch t c => Sys2Proof.Machine.execPairReadbackMismatch t c s
  | .pairReadbackAgree => Sys2Proof.Machine.execPairReadbackAgree s
  | .faultLogicHeartbeat => Sys2Proof.Machine.execFaultLogicHeartbeat s
  | .gooseTrip code index => Sys2Proof.Machine.execGooseTrip code index s
  | .linkTest set slot => Sys2Proof.Machine.execLinkTest set slot s
  | .linkTestEnd link bits errors locked => Sys2Proof.Machine.execLinkTestEnd link bits errors locked s
  | .highWordLatchRead init off => Sys2Proof.Machine.execHighWordLatchRead init off s
  | .registerWrite bus init off size value => Sys2Proof.Machine.execRegisterWrite bus init off size value s
  | .roosterMessageDiscard tile => Sys2Proof.Machine.execRoosterMessageDiscard tile s
  | .aonPowerOn selfTest => Sys2Proof.Machine.execAonPowerOn selfTest s
  | .gooseReset => Sys2Proof.Machine.execGooseReset s
  | .powerOnEnd straps => Sys2Proof.Machine.execPowerOnEnd straps s
  | .fuseLoadDone table fuses corrected uncorrectable => Sys2Proof.Machine.execFuseLoadDone table fuses corrected uncorrectable s
  | .flashWake => Sys2Proof.Machine.execFlashWake s
  | .flashImageReadDone bytes => Sys2Proof.Machine.execFlashImageReadDone bytes s
  | .imageApplyDone => Sys2Proof.Machine.execImageApplyDone s
  | .bootRelease init => Sys2Proof.Machine.execBootRelease init s
  | .useRom init => Sys2Proof.Machine.execUseRom init s
  | .cfgCommit init => Sys2Proof.Machine.execCfgCommit init s
  | .releaseSequenceStep => Sys2Proof.Machine.execReleaseSequenceStep s
  | .pwrOkTmoExpiry => Sys2Proof.Machine.execPwrOkTmoExpiry s
  | .cpRst init => Sys2Proof.Machine.execCpRst init s
  | .blockRst init held => Sys2Proof.Machine.execBlockRst init held s
  | .blRstNLow => Sys2Proof.Machine.execBlRstNLow s
  | .blCprstNLow => Sys2Proof.Machine.execBlCprstNLow s
  | .cpIntervalEnd => Sys2Proof.Machine.execCpIntervalEnd s
  | .fuseProgram init word => Sys2Proof.Machine.execFuseProgram init word s
  | .fuseProgramReadback value => Sys2Proof.Machine.execFuseProgramReadback value s
  | .refclkLoss => Sys2Proof.Machine.execRefclkLoss s
  | .refclkReturn => Sys2Proof.Machine.execRefclkReturn s
  | .oscCalibration => Sys2Proof.Machine.execOscCalibration s
  | .fabricRetry sender => Sys2Proof.Machine.execFabricRetry sender s
  | .endpointUnreachable what => Sys2Proof.Machine.execEndpointUnreachable what s

end Sys2Proof.Machine
end

