-- ==== Sys2Proof/Machine/Step.lean ====
section
/-! DEFINITION. One step of the Balinette: the command at the front of the queue, or one tick of the time base where none waits. -/

namespace Sys2Proof.Machine

/-- A command put at the front of the queue. -/
def State.push (s : State) (i : Instr) : State := { s with pending := i :: s.pending }

/-- The state with the command that a table word spells at the front of its queue. -/
def State.withFetchWord (s : State) (nbits w : Nat) : State :=
  match decodeTableWord nbits w with
  | some i => s.push i
  | none => s

/-- One step: the front command acts on the state with the rest of the queue; with no command waiting, the time base advances
by one tick (R37, DESIGN CHOICE, assumption 3). -/
def step (s : State) : Host.Outcome State Fault Refusal :=
  match s.pending with
  | [] => .next s.advance
  | i :: rest => exec i { s with pending := rest }

end Sys2Proof.Machine
end

