-- ==== Sys2Proof/Safety.lean ====
section
/-! DEFINITION. What a safe run is, in the terms the statements use: a step that does not stop, and the invariants of a state that
no run leaves. -/

namespace Sys2Proof.Machine

/-- A step answers a next state: it neither faults nor refuses. -/
def State.runs (s : State) : Prop := ∃ t, step s = .next t

/-- The register table is in its canonical form: fields in rising order, the items of each field in rising order, and every stored
value within its field's width (R14). -/
def State.fieldsOk (s : State) : Prop :=
  Tbl.sorted Fld.ctorIdx s.fields ∧ ∀ p ∈ s.fields, Tbl.sorted id p.2 ∧ ∀ q ∈ p.2, q.2 < 2 ^ p.1.width

/-- Every high-word latch records a 64-bit quantity of the window (R18). -/
def State.latchesOk (s : State) : Prop := ∀ p ∈ s.cmd.hiLatch, p.2.1 ∈ wideRegs

/-- The registers whose write is an act beyond the values of their fields (R14): boot, reset, kick, commit, fuse, fault, lease,
power, urgent, converter, sensor, herd, telemetry, capture, group, phase, cell, droop-sensor, class, estimation and slot controls,
and the registers of the check-value units. -/
def actingRegs : List Nat :=
  [0x0004C, 0x00050, 0x00408, 0x00810, 0x01010, 0x0200C, 0x0201C, 0x02400, 0x03100, 0x04000, 0x0400C, 0x04100, 0x05E04,
    0x06028, 0x06030, 0x07000, 0x07018, 0x07100, 0x08000, 0x09008, 0x10008, 0x16000, 0x1C000, 0x61000, 0x71024] ++
  (List.range 16).map (fun j => 0x03000 + 4 * j)

/-! ### What a command may change -/

/-- The chapters that the commands of the table belong to. -/
inductive Family where
  | phases
  | domains
  | engine
  | rooster
  | power
  | thermal
  | packets
  | herd
  | adc
  | telemetry
  | crc
  | epochs
  | firmware
  | faults
  | access
  | boot
deriving DecidableEq, Repr

/-- The parts of the state beside the register table and the queue of commands. -/
inductive Part where
  | time
  | cfg
  | raiseQ
  | out
  | freeCtr
  | flt
  | phs
  | dom
  | eng
  | start
  | est
  | bud
  | thm
  | hrd
  | tlm
  | cmd
  | boot
  | adc
  | fw
  | lt
deriving DecidableEq, Repr

/-- A part of the state is the same in two states. -/
def Part.same (p : Part) (s t : State) : Prop :=
  match p with
  | .time => t.time = s.time
  | .cfg => t.cfg = s.cfg
  | .raiseQ => t.raiseQ = s.raiseQ
  | .out => t.out = s.out
  | .freeCtr => t.freeCtr = s.freeCtr
  | .flt => t.flt = s.flt
  | .phs => t.phs = s.phs
  | .dom => t.dom = s.dom
  | .eng => t.eng = s.eng
  | .start => t.start = s.start
  | .est => t.est = s.est
  | .bud => t.bud = s.bud
  | .thm => t.thm = s.thm
  | .hrd => t.hrd = s.hrd
  | .tlm => t.tlm = s.tlm
  | .cmd => t.cmd = s.cmd
  | .boot => t.boot = s.boot
  | .adc => t.adc = s.adc
  | .fw => t.fw = s.fw
  | .lt => t.lt = s.lt

/-- From `s` to `t` no field outside `fs` reads another value, and no part outside `ps` differs. -/
def State.onlyChanges (s t : State) (fs : List Fld) (ps : List Part) : Prop :=
  (∀ f i, f ∉ fs → t.getF f i = s.getF f i) ∧ ∀ p, p ∉ ps → p.same s t

/-- The fields that a domain changing state may touch (R113 to R128). -/
def domEnterFields : List Fld :=
  [.CEL_STATUS_SETPT, .CEL_STATUS_STATE, .CE_SLOT_STATUS_SAT, .CMD_NOTICE0_ARG, .CMD_NOTICE0_TYPE, .CMD_NOTICE1_TIME_LO,
   .CMD_NOTICE_SEQ_NSEQ, .CMD_PART_ID_STATE, .CMD_PART_SLOTS_BUSY, .CMD_PART_SLOTS_NEW, .CMD_PART_SLOTS_NOTICE_NEW,
   .CRC_EVENT_MISMATCH, .CRC_RESULT_RESULT, .CRC_STATUS_MATCH, .CRC_STATUS_MISMATCH, .CRC_STATUS_MISMATCH_COUNT,
   .CRC_STATUS_STATE, .CRC_VALUE_VALUE, .DOM_EVENT_DERATE, .DOM_EVENT_FENCE, .DOM_SETPT_VEFF, .DOM_START_STATUS_ARMED,
   .DOM_START_STATUS_BOOST, .DOM_START_STATUS_PRE_ACTIVE, .DOM_START_STATUS_SLOPE_EFF, .DOM_START_STATUS_WAITING,
   .DOM_START_STATUS_WAVES, .DOM_STATUS_DROOP_FLOOR, .DOM_STATUS_GATE_CLOSED, .DOM_STATUS_READY, .DOM_STATUS_STATE,
   .DOM_STATUS_STEP, .DOM_STATUS_WAKE_WAIT, .DOM_WAVE_ID_BARRIER_ID, .DOM_WAVE_ID_ENGINES, .DOM_WAVE_PROG_GRANTED,
   .DOM_WAVE_PROG_STATE, .DOM_WAVE_PROG_WAVE_ARMED, .GLB_VSTK_STATUS_CLAMPED, .GLB_VSTK_STATUS_VSTK_CODE,
   .PHS_GRP_REF_VREF, .PHS_GRP_TON_TON_BASE, .PHS_PH_STATUS_TRIM]

/-- The fields of a check-value unit that a hardware job may touch (R332). -/
def dutyFields : List Fld :=
  [.CRC_EVENT_MISMATCH, .CRC_RESULT_RESULT, .CRC_STATUS_MATCH, .CRC_STATUS_MISMATCH, .CRC_STATUS_MISMATCH_COUNT,
   .CRC_STATUS_STATE, .CRC_VALUE_VALUE]

/-- The fields that the herd state going IDLE may touch (R276). -/
def idleFields : List Fld :=
  [.GLB_TB_STATUS_HERD_SHARED, .HRD_EXCL_F_OFF, .HRD_EXCL_STACK_ID, .HRD_EXCL_STATE, .HRD_FREQ_F_GRP, .HRD_FREQ_PEND,
   .HRD_MEMBERS_EXCL_N, .HRD_MEMBERS_MEMBERS, .HRD_PORT_UP, .HRD_STATUS_INCOMPLETE, .HRD_STATUS_IS_ROOT,
   .HRD_STATUS_LEVEL, .HRD_STATUS_OFFSET_MODE, .HRD_STATUS_PORT_UP, .HRD_STATUS_SLEWING, .HRD_STATUS_STATE]

/-- The fields that an arbitration of one actuator may touch (R147). -/
def driveFields : List Fld :=
  [.CEL_STATUS_SETPT, .DOM_SETPT_VEFF, .DOM_START_STATUS_SLOPE_EFF, .DOM_STATUS_STEP, .GLB_VSTK_STATUS_CLAMPED,
   .GLB_VSTK_STATUS_VSTK_CODE, .PHS_GRP_REF_VREF, .PHS_GRP_TON_TON_BASE, .PHS_PH_STATUS_TRIM]

/-- The fields that a root's check of the excluded steps may touch (R283). -/
def exclFields : List Fld :=
  [.CMD_NOTICE0_ARG, .CMD_NOTICE0_TYPE, .CMD_NOTICE1_TIME_LO, .CMD_NOTICE_SEQ_NSEQ, .CMD_PART_SLOTS_NOTICE_NEW,
   .CRC_EVENT_MISMATCH, .CRC_RESULT_RESULT, .CRC_STATUS_MATCH, .CRC_STATUS_MISMATCH, .CRC_STATUS_MISMATCH_COUNT,
   .CRC_STATUS_STATE, .CRC_VALUE_VALUE, .HRD_EVENT_EXCL_OVF, .HRD_EVENT_EXCL_REQ, .HRD_EVENT_INCOMPLETE,
   .HRD_EXCL_F_OFF, .HRD_EXCL_STACK_ID, .HRD_EXCL_STATE, .HRD_FREQ_F_GRP, .HRD_FREQ_PEND, .HRD_MEMBERS_EXCL_N,
   .HRD_MEMBERS_MEMBERS, .HRD_PEND_CHG_SEQ, .HRD_PEND_F_NEW, .HRD_PEND_TICK_HI_CT_HI, .HRD_PEND_TICK_LO_CT_LO,
   .HRD_STATUS_INCOMPLETE, .HRD_STATUS_SLEWING, .HRD_STATUS_STATE]

/-- The fields that a latching phase group may touch (R68). -/
def latchFields : List Fld :=
  [.ADC_CV_STATUS_PD, .ADC_CV_STATUS_STATE, .ADC_STATUS_LP_ACTIVE, .GLB_BOOT_STATUS_ERR, .GLB_BOOT_STATUS_PWR_OK,
   .GLB_BOOT_STATUS_STATE, .GLB_FW_IL_GROUP, .GLB_FW_IL_SET, .PHS_GRP_EVENT_LATCHED, .PHS_GRP_STATUS_STATE,
   .PHS_PH_STATUS_PH_STATE, .PHS_PH_STATUS_TRIM]

/-- The fields that the settling of a standing request may touch (R348, R351). -/
def settleFields : List Fld :=
  [.CMD_NOTICE0_ARG, .CMD_NOTICE0_TYPE, .CMD_NOTICE1_TIME_LO, .CMD_NOTICE_SEQ_NSEQ, .CMD_PART_ID_STATE,
   .CMD_PART_SLOTS_BUSY, .CMD_PART_SLOTS_NEW, .CMD_PART_SLOTS_NOTICE_NEW, .CMD_STATUS_QUEUED, .CMD_STATUS_STORE_USED,
   .CRC_EVENT_MISMATCH, .CRC_RESULT_RESULT, .CRC_STATUS_MATCH, .CRC_STATUS_MISMATCH, .CRC_STATUS_MISMATCH_COUNT,
   .CRC_STATUS_STATE, .CRC_VALUE_VALUE, .FLT_FEC_ADDR_HI_ADDR_HI, .FLT_FEC_ADDR_LO_ADDR_LO, .FLT_FEC_INFO_CODE,
   .FLT_FEC_INFO_MASTER, .FLT_FEC_INFO_SUB, .FLT_FEC_INFO_TYPE, .FLT_FEC_INFO_VALID, .FLT_FEC_MORE_MORE,
   .FLT_FEC_TIME_HI_TIME_HI, .FLT_FEC_TIME_LO_TIME_LO, .GLB_TB_STATUS_HERD_SHARED, .HRD_EVENT_DISBAND,
   .HRD_EVENT_EXCL_OVF, .HRD_EVENT_EXCL_REQ, .HRD_EVENT_INCOMPLETE, .HRD_EXCL_F_OFF, .HRD_EXCL_STACK_ID,
   .HRD_EXCL_STATE, .HRD_FREQ_F_GRP, .HRD_FREQ_PEND, .HRD_MEMBERS_EXCL_N, .HRD_MEMBERS_MEMBERS, .HRD_PEND_CHG_SEQ,
   .HRD_PEND_F_NEW, .HRD_PEND_TICK_HI_CT_HI, .HRD_PEND_TICK_LO_CT_LO, .HRD_PORT_UP, .HRD_STATUS_INCOMPLETE,
   .HRD_STATUS_IS_ROOT, .HRD_STATUS_LEVEL, .HRD_STATUS_OFFSET_MODE, .HRD_STATUS_PORT_UP, .HRD_STATUS_SLEWING,
   .HRD_STATUS_STATE, .TLM_CAP_CTRL_ARM, .TLM_CAP_STATUS_STATE, .TLM_CTRL_ENABLE, .TLM_STATUS_BUS_ERR_ST]

/-- The fields that the start of a ramp may touch (R70). -/
def rampFields : List Fld :=
  [.CMD_RUN_EPOCH, .CMD_RUN_EPOCHS_M1, .CMD_RUN_RETUNE, .CMD_RUN_RUN_ID, .CMD_RUN_STATE, .CMD_STATUS_QUEUED,
   .CMD_STATUS_STORE_USED]

/-- The fields that show the waves (R192). -/
def waveFields : List Fld :=
  [.CEL_STATUS_SETPT, .DOM_SETPT_VEFF, .DOM_START_STATUS_ARMED, .DOM_START_STATUS_BOOST, .DOM_START_STATUS_PRE_ACTIVE,
   .DOM_START_STATUS_SLOPE_EFF, .DOM_START_STATUS_WAVES, .DOM_STATUS_STEP, .DOM_WAVE_ID_BARRIER_ID,
   .DOM_WAVE_ID_ENGINES, .DOM_WAVE_PROG_GRANTED, .DOM_WAVE_PROG_STATE, .DOM_WAVE_PROG_WAVE_ARMED,
   .GLB_VSTK_STATUS_CLAMPED, .GLB_VSTK_STATUS_VSTK_CODE, .PHS_GRP_REF_VREF, .PHS_GRP_TON_TON_BASE, .PHS_PH_STATUS_TRIM]

/-- The fields that a reply may touch (R340, R343). -/
def replyFields : List Fld :=
  [.CMD_PART_ID_STATE, .CMD_PART_SLOTS_BUSY, .CMD_PART_SLOTS_NEW, .CRC_EVENT_MISMATCH, .CRC_RESULT_RESULT,
   .CRC_STATUS_MATCH, .CRC_STATUS_MISMATCH, .CRC_STATUS_MISMATCH_COUNT, .CRC_STATUS_STATE, .CRC_VALUE_VALUE]

/-- The fields that a processor changing state may touch (R386). -/
def cpFields : List Fld :=
  [.CMD_STATUS_CP0_READY, .GLB_BOOT_STATUS_FW, .GLB_CP_STATUS_STATE, .GLB_FW_IMG_RUN_MASK]

/-- The fields that an OFFER may touch (R277). -/
def offerFields : List Fld :=
  [.CRC_EVENT_MISMATCH, .CRC_RESULT_RESULT, .CRC_STATUS_MATCH, .CRC_STATUS_MISMATCH, .CRC_STATUS_MISMATCH_COUNT,
   .CRC_STATUS_STATE, .CRC_VALUE_VALUE, .HRD_EVENT_INCOMPLETE, .HRD_FREQ_PEND, .HRD_MEMBERS_EXCL_N,
   .HRD_MEMBERS_MEMBERS, .HRD_PEND_CHG_SEQ, .HRD_PEND_F_NEW, .HRD_PEND_TICK_HI_CT_HI, .HRD_PEND_TICK_LO_CT_LO,
   .HRD_STATUS_INCOMPLETE]

/-- The fields that a failing converter may touch (R301). -/
def converterFields : List Fld :=
  [.ADC_CV_STATUS_FAIL_CAUSE, .ADC_CV_STATUS_LOSS_COUNT, .ADC_CV_STATUS_STATE, .ADC_CV_STATUS_URG, .ADC_EVENT_CV_FAIL,
   .ADC_EVENT_PAIR_LOST, .ADC_PAIR_STATUS_STATE, .ADC_RES_ST_VALID, .ADC_STATUS_CV_OK, .ADC_STATUS_PAIR_SOLO,
   .ADC_URG_RES_BUSY, .ADC_URG_RES_REFUSED]

/-- The fields of a fault source (R418). -/
def sourceFields : List Fld :=
  [.FLT_SRC_STATE, .FLT_STATUS_PAIR_ASSERT, .FLT_STATUS_PAIR_C, .FLT_STATUS_PAIR_T]

end Sys2Proof.Machine

namespace Sys2Proof

open Machine

/-- The family of a command. -/
def Instr.family (c : Instr) : Family :=
  match c with
  | .busOutOfRange .. | .busFatal .. | .groupEnable .. | .groupDisable .. | .startDelayElapsed .. | .rampEnd ..
  | .foldbackEntry .. | .foldbackRecovery .. | .fbLong .. | .hiccupEntry .. | .hiccupWaitElapsed .. | .stopDelayElapsed ..
  | .stopRampEnd .. | .attemptsClear .. | .phasePulse .. | .valleyLimitUpdate .. | .valleyHold .. | .pulseRiseReport ..
  | .phaseSenseDisable .. | .tmonHotForce .. | .phaseDisable .. | .phaseCheckStart .. | .phaseReadmit ..
  | .phaseCheckEnd .. | .pmbusPollCycle .. | .pmbusTransactionDone .. | .pmbusBusHeld .. | .pmbusBusReset ..
  | .pmbusBusFree .. => .phases
  | .cellLimitReached .. | .cellLimitRelease .. | .cellLimitFold .. | .cellLimitRestore .. | .cellFailure ..
  | .cellIsolationConfirmed .. | .cellIsoFail .. | .cellIsolate .. | .cellUnisolate .. | .cellReadmit .. | .cellCheckEnd ..
  | .prechargeComplete .. | .headroomOffsetUpdate .. | .droopSample .. | .droopFloorFall .. | .stackGateReopen ..
  | .droopSensorRecheck .. | .droopRecheckPass .. | .wakeHeadroomMet .. | .wakeLate .. | .quiesceAck ..
  | .quiesceTimeout .. | .rampDownEnd .. => .domains
  | .fastElementEvaluation .. | .mediumEvaluation .. | .slowEvaluation .. | .deadlineMiss .. | .laneRetire ..
  | .slotOpen .. | .slotClose .. => .engine
  | .activityToken .. | .barrierAnnouncement .. | .barrierCancel .. | .prebiasFloorStart .. | .prebiasFloorFall ..
  | .waveArm .. | .waveRelease .. | .waveTimeout .. | .startReq .. | .startCancel .. | .mapNotice .. | .bucketRefill ..
  | .permitGrant .. | .profileCheck .. | .roosterMessageDiscard .. => .rooster
  | .counterMessage .. | .counterStaleDecision .. | .estimatePublish .. | .calibrationUpdate .. | .pulseEnd ..
  | .averageUpdate .. | .governorUpdate .. | .fixedLost .. => .power
  | .temperatureConversion .. | .temperaturePublish .. | .sidebandReading .. | .clampReleaseStart .. | .clampRiseStep ..
  | .sensorDisagree .. | .sensorRecheck .. | .sensorRecheckEnd .. | .sidebandLost .. | .sidebandRecover ..
  | .thetaUpdate .. | .forecastBinShift .. | .sensorConversionTimeout .. => .thermal
  | .maskSensor .. | .herdJoin .. | .herdLeave .. | .adcCalibrate .. | .fenceDomain .. | .unfenceDomain ..
  | .slotHandover .. | .replySlotRead .. | .registrationSlotTimeout .. | .firmwarePacketStart .. | .registerPartner ..
  | .renewLease .. | .releasePartner .. | .heartbeatMissed .. | .leaseExpiry .. | .partnerFree .. | .setOperatingPoint ..
  | .setPreferredPoint .. | .setPowerCap .. | .setFixedFrequency .. => .packets
  | .helloReceived .. | .offerReceived .. | .changeReceived .. | .changeTick .. | .syncReceived .. | .delayReqReceived ..
  | .delayRespReceived .. | .excludeReceived .. | .decideReceived .. | .disbandReceived .. | .syncSend .. | .offerSend ..
  | .delayReqSend .. | .helloRetry .. | .linkLoss .. | .offerRecompute .. | .exclusionRecovery .. | .exclWaitExpiry ..
  | .joinTimeout .. | .holdTmoExpiry .. | .decideFollow .. | .decideEvict .. | .exclusionEntryExpiry ..
  | .lockMessageDiscard .. | .timeSlewEnd .. => .herd
  | .roundStart .. | .conversionDone .. | .triggerHold .. | .triggerTimeout .. | .heldValueDiscard ..
  | .urgentTimerConversion .. | .adcUrgReq .. | .converterStall .. | .converterWake .. | .converterPowerDown ..
  | .converterOffline .. | .converterOnline .. | .converterRecheck .. | .converterRecheckEnd .. | .calibrationStepDone ..
  | .calibrationExpiry .. => .adc
  | .telemetryWindowClose .. | .recordWriteAck .. | .recordDrop .. | .notifyWrite .. | .telemetryEnable ..
  | .telemetryStart .. | .telemetryDisable .. | .consWrite .. | .busErrorResponse .. | .telemetrySetup ..
  | .captureWaveform .. | .captureArm .. | .captureDisarm .. | .captureBlockEncode .. | .captureTrigger ..
  | .capturePostDone .. | .captureDumpAck .. | .captureWaitTimeout .. => .telemetry
  | .crcStart .. | .crcFinish .. | .crcAbort .. | .crcData32 .. | .crcData8 .. | .crcValueWrite .. | .crcSettingsWrite ..
  | .crcClaim .. | .crcRelease .. | .crcLeaseExpiry .. | .crcSelfTest .. => .crc
  | .stageConfig .. | .rweWrite .. | .commitEpoch .. | .cmdCommit .. | .abortRetune .. | .validationDone ..
  | .epochApply .. | .settleDone .. | .settleTimeout .. => .epochs
  | .loadImage .. | .imageVerifyDone .. | .loadingTimeout .. | .activateImage .. | .queryImage .. | .interlockQuietEnd ..
  | .deferTimeout .. | .processorSwitch .. | .processorCrash .. | .watchdogExpiry .. | .watchdogKick ..
  | .processorRestartDone .. | .scrubPass .. | .policyCycle .. | .mailboxTimeout .. | .debugHalt .. | .debugResume ..
  | .debugStep .. | .debugWindowWrite .. => .firmware
  | .faultRaise .. | .fatalRaise .. | .fatalStopGroupNext .. | .softwareWindowExpiry .. | .quietExpiry .. | .fltHandle ..
  | .faultQuery .. | .faultAck .. | .cntClr .. | .fecValidClear .. | .pairReadbackMismatch .. | .pairReadbackAgree ..
  | .faultLogicHeartbeat .. | .gooseTrip .. => .faults
  | .linkTest .. | .linkTestEnd .. | .highWordLatchRead .. | .registerWrite .. => .access
  | .aonPowerOn .. | .gooseReset .. | .powerOnEnd .. | .fuseLoadDone .. | .flashWake .. | .flashImageReadDone ..
  | .imageApplyDone .. | .bootRelease .. | .useRom .. | .cfgCommit .. | .releaseSequenceStep .. | .pwrOkTmoExpiry ..
  | .cpRst .. | .blockRst .. | .blRstNLow .. | .blCprstNLow .. | .cpIntervalEnd .. | .fuseProgram ..
  | .fuseProgramReadback .. | .refclkLoss .. | .refclkReturn .. | .oscCalibration .. | .fabricRetry ..
  | .endpointUnreachable .. => .boot

/-- The register fields that a command may change. None where it may change any field, and the rule of the command says which: the
resets, the ends of a power-on and of a fuse load, the application of an image or an epoch, a ramp's end that lets a held
reset through, a slow evaluation, which applies what was deferred to its slots (R162), and a register write, which changes the fields of the register it names. -/
def Instr.writes (c : Instr) : Option (List Fld) :=
  match c with
  | .busOutOfRange .. => some [.GLB_VSTK_STATUS_BUS_OOR]
  | .busFatal .. | .fatalStopGroupNext .. =>
    some ([.FLT_STATUS_FATAL, .FLT_STATUS_FATAL_CODE, .FLT_STATUS_FATAL_SUB] ++ domEnterFields ++ latchFields ++ sourceFields)
  | .groupEnable .. =>
    some [.GLB_FW_IL_GROUP, .GLB_FW_IL_SET, .PHS_GRP_CTRL_EN, .PHS_GRP_STATUS_STATE, .PHS_PH_STATUS_PH_STATE,
      .PHS_PH_STATUS_TRIM]
  | .groupDisable .. =>
    some ([.FLT_STATUS_FATAL, .FLT_STATUS_FATAL_CODE, .FLT_STATUS_FATAL_SUB, .PHS_GRP_CTRL_EN, .PHS_GRP_STATUS_ATTEMPTS] ++ domEnterFields ++ latchFields ++ sourceFields)
  | .startDelayElapsed .. | .hiccupWaitElapsed .. =>
    some [.GLB_FW_IL_GROUP, .GLB_FW_IL_SET, .PHS_GRP_REF_VREF, .PHS_GRP_REF_VSENSE, .PHS_GRP_STATUS_STATE,
      .PHS_GRP_TON_TON_BASE, .PHS_PH_STATUS_PH_STATE, .PHS_PH_STATUS_TRIM]
  | .rampEnd .. =>
    some ([.PHS_GRP_EVENT_FOLDBACK, .PHS_GRP_REF_VREF, .PHS_GRP_REF_VSENSE, .PHS_GRP_TON_TON_BASE] ++ latchFields)
  | .foldbackEntry .. =>
    some [.GLB_FW_IL_GROUP, .GLB_FW_IL_SET, .PHS_GRP_EVENT_FOLDBACK, .PHS_GRP_REF_VSENSE, .PHS_GRP_STATUS_STATE,
      .PHS_PH_STATUS_PH_STATE, .PHS_PH_STATUS_TRIM]
  | .foldbackRecovery .. =>
    some [.GLB_BOOT_STATUS_PWR_OK, .GLB_BOOT_STATUS_STATE, .GLB_FW_IL_GROUP, .GLB_FW_IL_SET, .PHS_GRP_REF_VSENSE,
      .PHS_GRP_STATUS_STATE, .PHS_PH_STATUS_PH_STATE, .PHS_PH_STATUS_TRIM]
  | .fbLong .. => some [.PHS_GRP_EVENT_FB_LONG]
  | .hiccupEntry .. => some ([.PHS_GRP_EVENT_HICCUP, .PHS_GRP_REF_VSENSE, .PHS_GRP_STATUS_ATTEMPTS] ++ latchFields)
  | .stopDelayElapsed .. | .valleyHold .. | .pmbusPollCycle .. | .pmbusBusReset .. | .cellReadmit ..
  | .droopSensorRecheck .. | .quiesceAck .. | .temperatureConversion .. | .sidebandReading .. | .sensorRecheck ..
  | .forecastBinShift .. | .heldValueDiscard .. | .notifyWrite .. | .registrationSlotTimeout .. | .watchdogKick ..
  | .faultLogicHeartbeat .. | .flashWake .. => some []
  | .stopRampEnd .. | .rampDownEnd .. | .slowEvaluation .. | .epochApply .. | .registerWrite .. | .aonPowerOn ..
  | .gooseReset .. | .powerOnEnd .. | .fuseLoadDone .. | .imageApplyDone .. | .blockRst .. | .blRstNLow .. => none
  | .attemptsClear .. => some [.PHS_GRP_STATUS_ATTEMPTS]
  | .phasePulse .. => some [.PHS_GRP_REF_VREF, .PHS_GRP_STATUS_ROT_ANGLE, .PHS_GRP_STATUS_ROT_POS, .PHS_GRP_TON_TON_BASE]
  | .valleyLimitUpdate .. => some [.PHS_GRP_REF_VSENSE]
  | .pulseRiseReport .. =>
    some ([.GLB_DESIGN_CUR_EDC_EFF, .GLB_DESIGN_CUR_TDC_EFF, .GLB_VSTK_STATUS_VSTK_LIVE, .PHS_GRP_EVENT_PHASE_OPEN,
      .PHS_GRP_EVENT_SENSE_FAIL, .PHS_GRP_STATUS_LIVE, .PHS_PH_STATUS_LOSS_COUNT] ++ latchFields)
  | .phaseSenseDisable .. =>
    some ([.GLB_DESIGN_CUR_EDC_EFF, .GLB_DESIGN_CUR_TDC_EFF, .GLB_VSTK_STATUS_VSTK_LIVE, .PHS_GRP_STATUS_LIVE,
      .PHS_PH_STATUS_LOSS_COUNT] ++ latchFields)
  | .tmonHotForce .. => some [.PHS_GRP_EVENT_TMON_HOT, .PHS_PH_MEAS_TMON, .PHS_PH_STATUS_TMON_HOT, .PHS_PH_STATUS_TRIM]
  | .phaseDisable .. =>
    some ([.GLB_DESIGN_CUR_EDC_EFF, .GLB_DESIGN_CUR_TDC_EFF, .GLB_VSTK_STATUS_VSTK_LIVE, .PHS_GRP_STATUS_LIVE,
      .PHS_PH_CTRL_DISABLE] ++ latchFields)
  | .phaseCheckStart .. => some [.PHS_PH_CTRL_DISABLE, .PHS_PH_STATUS_PH_STATE, .PHS_PH_STATUS_TRIM]
  | .phaseReadmit .. => some [.PHS_PH_STATUS_PH_STATE, .PHS_PH_STATUS_TRIM]
  | .phaseCheckEnd .. =>
    some ([.CE_SLOT_STATUS_SAT, .GLB_DESIGN_CUR_EDC_EFF, .GLB_DESIGN_CUR_TDC_EFF, .GLB_VSTK_STATUS_VSTK_LIVE,
      .PHS_GRP_STATUS_LIVE, .PHS_PH_STATUS_LOSS_COUNT] ++ latchFields ++ driveFields)
  | .pmbusTransactionDone .. =>
    some [.GLB_VSTK_STATUS_BUS_OOR, .PHS_GRP_REF_VREF, .PHS_GRP_TON_TON_BASE, .PHS_GRP_TON_VBUS_USED, .PHS_PMB_DATA0_READ_IIN,
      .PHS_PMB_DATA0_READ_VIN, .PHS_PMB_DATA1_READ_IOUT, .PHS_PMB_DATA1_READ_VOUT, .PHS_PMB_DATA2_READ_TEMPERATURE_1,
      .PHS_PMB_DATA2_READ_TEMPERATURE_2, .PHS_PMB_DATA3_READ_POUT, .PHS_PMB_DATA3_STATUS_WORD, .PHS_PMB_STATUS_LINEAR_OK,
      .PHS_PMB_STATUS_PEC_ERRORS, .PHS_PMB_STATUS_VOUT_MODE]
  | .pmbusBusHeld .. => some [.PHS_PMB_STATUS_HELD]
  | .pmbusBusFree .. => some [.PHS_PMB_STATUS_BUS_RESETS, .PHS_PMB_STATUS_HELD]
  | .cellLimitReached .. | .cellIsolationConfirmed .. => some [.CEL_STATUS_STATE]
  | .cellLimitRelease .. | .fenceDomain .. | .unfenceDomain .. => some domEnterFields
  | .cellLimitFold .. | .cellLimitRestore .. => some [.CEL_MEAS_I_LIM]
  | .cellFailure .. | .cellCheckEnd .. =>
    some ([.CEL_STATUS_FAIL_CAUSE, .CEL_STATUS_LOSS_COUNT, .DOM_EVENT_CELL_FAIL, .DOM_STATUS_CEIL, .DOM_STATUS_CELLS_OK] ++ domEnterFields)
  | .cellIsoFail .. => some ([.CEL_STATUS_FAIL_CAUSE] ++ domEnterFields)
  | .cellIsolate .. =>
    some ([.CEL_CTRL_ISOLATE, .CEL_STATUS_FAIL_CAUSE, .DOM_STATUS_CEIL, .DOM_STATUS_CELLS_OK] ++ domEnterFields)
  | .cellUnisolate .. => some [.CEL_CTRL_ISOLATE]
  | .prechargeComplete .. => some ([.GLB_BOOT_STATUS_PWR_OK, .GLB_BOOT_STATUS_STATE] ++ domEnterFields)
  | .headroomOffsetUpdate .. => some ([.DOM_MEAS_HR_MIN, .DOM_MEAS_OFFSET, .GLB_VSTK_STATUS_HEADROOM_MIN] ++ driveFields)
  | .droopSample .. =>
    some ([.CEL_MEAS_I_CELL, .CEL_STATUS_FAIL_CAUSE, .CEL_STATUS_LOSS_COUNT, .DOM_DS_CAUSE, .DOM_DS_DROOP, .DOM_DS_HEADROOM,
      .DOM_DS_VALID, .DOM_EVENT_CELL_FAIL, .DOM_EVENT_DROOP, .DOM_EVENT_DS_INVALID, .DOM_MEAS_HR_MIN, .DOM_STATUS_CEIL,
      .DOM_STATUS_CELLS_OK, .DOM_STATUS_DS_VALID, .GLB_VSTK_STATUS_HEADROOM_MIN] ++ domEnterFields)
  | .droopFloorFall .. => some ([.DOM_STATUS_DROOP_FLOOR, .DOM_STATUS_GATE_CLOSED] ++ driveFields)
  | .stackGateReopen .. => some [.DOM_STATUS_GATE_CLOSED]
  | .droopRecheckPass .. => some ([.DOM_DS_VALID, .DOM_STATUS_DS_VALID] ++ domEnterFields)
  | .wakeHeadroomMet .. | .startCancel .. => some [.DOM_START_STATUS_WAITING]
  | .wakeLate .. => some [.DOM_EVENT_WAKE_LATE]
  | .quiesceTimeout .. => some [.DOM_EVENT_QTMO]
  | .fastElementEvaluation .. | .mediumEvaluation .. =>
    some ([.CE_SLOT_EVAL_TICK_LO, .CE_SLOT_STATUS_SAT, .DOM_START_STATUS_PRE_ACTIVE] ++ driveFields)
  | .deadlineMiss .. => some [.CE_SLOT_STATUS_MISSED, .CE_SLOT_STATUS_MISS_COUNT]
  | .laneRetire .. => some [.CE_LANES_IN_SERVICE, .CE_LANES_LANE_OK]
  | .slotOpen .. | .slotClose .. => some [.CE_SD_CTRL_OPEN, .CE_SLOT_STATUS_OPEN_ST]
  | .activityToken .. =>
    some ([.DOM_START_COUNT_LATE_TOKENS, .DOM_START_EVENT_MSG_BAD, .DOM_START_EVENT_TOKEN_LATE] ++ driveFields)
  | .barrierAnnouncement .. =>
    some ([.DOM_START_COUNT_DROPPED_ANN, .DOM_START_EVENT_ANN_DROPPED, .DOM_START_EVENT_MSG_BAD] ++ waveFields)
  | .barrierCancel .. | .waveArm .. | .waveRelease .. => some waveFields
  | .prebiasFloorStart .. | .prebiasFloorFall .. => some driveFields
  | .waveTimeout .. => some ([.DOM_START_COUNT_WAVE_TMOS, .DOM_START_EVENT_WAVE_TMO] ++ waveFields)
  | .startReq .. =>
    some ([.DOM_START_COUNT_BAD_REQ, .DOM_START_EVENT_EPOCH_UNKNOWN, .DOM_START_EVENT_REQ_BAD, .DOM_START_STATUS_WAITING,
      .DOM_TILE_MAP_EPOCH_BAD] ++ waveFields)
  | .mapNotice .. => some [.DOM_TILE_MAP_EPOCH, .DOM_TILE_MAP_MAP]
  | .bucketRefill .. => some [.DOM_START_BUCKET_LEVEL]
  | .permitGrant .. =>
    some ([.CEL_STATUS_STATE, .DOM_START_BUCKET_LEVEL, .DOM_START_GRANTS_GRANTS, .DOM_START_STATUS_WAITING, .DOM_STATUS_WAKE_WAIT] ++ waveFields)
  | .profileCheck .. => some [.DOM_START_EVENT_MISMATCH, .DOM_TILE_MAP_LAST_RATIO, .DOM_TILE_MAP_MISMATCH_COUNT]
  | .counterMessage .. | .counterStaleDecision .. => some [.DOM_EST_EVENT_STALE]
  | .estimatePublish .. =>
    some [.DOM_BUD_GOV_PULSE, .DOM_EST_CUR_EST_I, .DOM_EST_CUR_LEAK_I, .DOM_EST_EVENT_BOTH_INVALID, .DOM_EST_EVENT_STALE,
      .DOM_EST_EVENT_SUBST, .DOM_EST_PWR_P_EST, .DOM_EST_SCALE_SCALE, .DOM_EST_STACK_EST_STACK, .DOM_EST_STACK_SUBST_DOMS,
      .DOM_EST_STATUS_EST_INVALID, .DOM_EST_STATUS_MEAS_INVALID, .DOM_EST_STATUS_STALE_ST, .DOM_MEAS_I_DOM]
  | .calibrationUpdate .. =>
    some [.DOM_EST_EVENT_DISAGREE, .DOM_EST_MEAN_MEAN_EST, .DOM_EST_MEAN_MEAN_MEAS, .DOM_EST_STATUS_DIS_COUNT,
      .DOM_EST_STATUS_HOLD_CAUSE, .DOM_EST_STATUS_RUN, .DOM_EST_STATUS_STATE, .DOM_EST_W_W0, .DOM_EST_W_W1, .DOM_EST_W_W2,
      .DOM_EST_W_W3]
  | .pulseEnd .. => some [.DOM_BUD_GOV_PULSE]
  | .averageUpdate .. => some [.DOM_BUD_AVG_AVG, .DOM_BUD_MS_P_MS, .DOM_BUD_MS_P_OTHER]
  | .governorUpdate .. =>
    some ([.CE_SLOT_STATUS_SAT, .DOM_BUD_COUNT_GOV_COUNT, .DOM_BUD_EVENT_GOVERNED_EV, .DOM_BUD_EVENT_PEAK_EV, .DOM_BUD_GOV_F_G,
      .DOM_BUD_GOV_GOVERNED, .DOM_BUD_GOV_PULSE, .GLB_FW_IL_SET] ++ driveFields)
  | .fixedLost .. => some [.DOM_BUD_COUNT_FIXED_LOST_COUNT, .DOM_BUD_EVENT_FIXED_LOST]
  | .temperaturePublish .. =>
    some ([.GLB_FW_IL_SET, .THM_COUNT_BROKEN_COUNT, .THM_COUNT_EMERG_COUNT, .THM_COUNT_LIMIT_COUNT, .THM_COUNT_WP_COUNT,
      .THM_DIE_ALARM_ST, .THM_DIE_EMERG_ST, .THM_DIE_RATE, .THM_DIE_SUBST, .THM_DIE_T_DRAM, .THM_DOM_ALARM_ST,
      .THM_DOM_CLAMP, .THM_DOM_CL_STATE, .THM_DOM_EMERG_ST, .THM_DOM_FCST_P_FC, .THM_DOM_FCST_T_FCST, .THM_DOM_RATE,
      .THM_DOM_SUBST, .THM_DOM_T_HOT, .THM_EVENT_ALARM, .THM_EVENT_BROKEN, .THM_EVENT_EMERG, .THM_EVENT_LIMIT,
      .THM_EVENT_WP_OFF, .THM_FUSE_FUSE_OK, .THM_FUSE_T_DIE_MAX, .THM_FUSE_T_DIE_MIN, .THM_SNS_CAUSE, .THM_SNS_DISAGREE,
      .THM_SNS_READING, .THM_SNS_STATE, .THM_TWR_CLAMP, .THM_TWR_CL_STATE, .THM_TWR_HOT_LAYER, .THM_TWR_T_MAX, .THM_TWR_WP] ++ driveFields)
  | .clampReleaseStart .. | .clampRiseStep .. =>
    some ([.GLB_FW_IL_SET, .THM_DOM_CLAMP, .THM_DOM_CL_STATE, .THM_TWR_CLAMP, .THM_TWR_CL_STATE] ++ driveFields)
  | .sensorDisagree .. => some [.THM_EVENT_DISAGREE, .THM_SNS_DISAGREE]
  | .sensorRecheckEnd .. =>
    some [.THM_FUSE_FUSE_OK, .THM_FUSE_T_DIE_MAX, .THM_FUSE_T_DIE_MIN, .THM_SNS_CAUSE, .THM_SNS_DISAGREE, .THM_SNS_STATE]
  | .maskSensor .. =>
    some ([.THM_FUSE_FUSE_OK, .THM_FUSE_T_DIE_MAX, .THM_FUSE_T_DIE_MIN, .THM_SNS_DISAGREE, .THM_SNS_STATE] ++ replyFields)
  | .sidebandLost .. =>
    some ([.GLB_FW_IL_SET, .THM_COUNT_WP_COUNT, .THM_DOM_CLAMP, .THM_DOM_CL_STATE, .THM_EVENT_SB_LOST, .THM_EVENT_WP_OFF,
      .THM_TWR_CLAMP, .THM_TWR_CL_STATE, .THM_TWR_SB_OK, .THM_TWR_WP] ++ driveFields)
  | .sidebandRecover .. => some [.THM_TWR_SB_OK]
  | .thetaUpdate .. => some [.THM_AIR_F_AIR, .THM_DOM_THETA_THETA, .THM_EVENT_AIR, .THM_EVENT_INLET_BAD, .THM_INLET_T_IN]
  | .sensorConversionTimeout .. =>
    some [.THM_COUNT_BROKEN_COUNT, .THM_EVENT_BROKEN, .THM_FUSE_FUSE_OK, .THM_FUSE_T_DIE_MAX, .THM_FUSE_T_DIE_MIN,
      .THM_SNS_CAUSE, .THM_SNS_DISAGREE, .THM_SNS_STATE]
  | .herdJoin .. =>
    some ([.HRD_EXPECT_EXPECT, .HRD_ID_GROUP_ID, .HRD_ID_STACK_ID] ++ exclFields ++ idleFields ++ replyFields)
  | .herdLeave .. => some ([.HRD_EVENT_DISBAND] ++ exclFields ++ idleFields ++ replyFields)
  | .helloReceived .. | .linkLoss .. =>
    some ([.HRD_EVENT_HOLDOVER, .HRD_EVENT_LINK_LOST, .HRD_PORT_DROPS] ++ idleFields ++ offerFields)
  | .offerReceived .. => some offerFields
  | .changeReceived .. | .changeTick .. | .excludeReceived .. | .exclusionRecovery .. => some exclFields
  | .syncReceived .. =>
    some ([.GLB_TB_STATUS_HERD_SHARED, .HRD_EVENT_TIME_JUMP, .HRD_OFFSET_HI_OFS_HI, .HRD_OFFSET_LO_OFS_LO,
      .HRD_STATUS_OFFSET_MODE] ++ exclFields ++ replyFields)
  | .delayReqReceived .. | .syncSend .. | .offerSend .. | .delayReqSend .. | .helloRetry .. => some dutyFields
  | .delayRespReceived .. => some ([.HRD_PORT_DELAY] ++ dutyFields)
  | .decideReceived .. => some ([.HRD_FREQ_F_GRP, .HRD_STATUS_SLEWING, .HRD_STATUS_STATE] ++ offerFields)
  | .disbandReceived .. | .holdTmoExpiry .. => some ([.HRD_EVENT_DISBAND] ++ idleFields ++ dutyFields)
  | .offerRecompute .. => some ([.HRD_FREQ_F_OFF] ++ exclFields)
  | .exclWaitExpiry .. => some ([.HRD_STATUS_STATE] ++ offerFields)
  | .joinTimeout .. => some ([.HRD_EVENT_JOIN_TMO] ++ idleFields ++ replyFields)
  | .decideFollow .. | .decideEvict .. =>
    some ([.HRD_EXCL_STATE, .HRD_FREQ_F_GRP, .HRD_STATUS_SLEWING, .HRD_STATUS_STATE] ++ offerFields)
  | .exclusionEntryExpiry .. => some [.HRD_EXCL_F_OFF, .HRD_EXCL_STACK_ID, .HRD_EXCL_STATE]
  | .lockMessageDiscard .. =>
    some ([.HRD_EVENT_CRC_ERR, .HRD_EVENT_HOLDOVER, .HRD_EVENT_LINK_LOST, .HRD_PORT_CRC_ERR, .HRD_PORT_DROPS] ++ idleFields ++ offerFields)
  | .timeSlewEnd .. => some [.GLB_TB_STATUS_HERD_SHARED, .HRD_STATUS_SLEWING]
  | .roundStart .. =>
    some [.ADC_CV_STATUS_FAIL_CAUSE, .ADC_CV_STATUS_OVERRUNS, .ADC_CV_STATUS_PD, .ADC_CV_STATUS_POS, .ADC_CV_STATUS_STATE,
      .ADC_CV_STATUS_URG, .ADC_EVENT_OVERRUN, .ADC_PAIR_STATUS_STATE, .ADC_RES_ST_NO_TRIG, .ADC_RES_ST_OVR,
      .ADC_RES_ST_VALID, .ADC_STATUS_CV_OK, .ADC_STATUS_PAIR_SOLO, .PHS_GRP_EVENT_SENSE_FAIL]
  | .conversionDone .. =>
    some ([.ADC_CV_STATUS_PD, .ADC_CV_STATUS_POS, .ADC_EVENT_CHK_DIS, .ADC_EVENT_OVR, .ADC_PAIR_CHK_CHK_EVEN,
      .ADC_PAIR_CHK_CHK_ODD, .ADC_PAIR_STATUS_CHK_DIS_ST, .ADC_PAIR_STATUS_DIS_COUNT, .ADC_PAIR_STATUS_XR_FAILS,
      .ADC_RES_CAL, .ADC_RES_RESULT, .ADC_RES_ST_BY_PARTNER, .ADC_RES_ST_NO_TRIG, .ADC_RES_ST_OVR, .ADC_RES_ST_XR_BAD,
      .ADC_URG_RES_CONV, .ADC_URG_RES_DONE, .ADC_URG_RES_OVR, .ADC_URG_RES_RAW, .GLB_VSTK_STATUS_BUS_OOR,
      .PHS_GRP_EVENT_SENSE_FAIL, .PHS_GRP_REF_VSENSE, .PHS_GRP_TON_VBUS_USED, .PHS_PH_MEAS_IMON, .PHS_PH_MEAS_TMON,
      .PHS_PH_STATUS_TMON_HOT] ++ converterFields ++ driveFields)
  | .triggerHold .. => some [.ADC_CV_STATUS_URG]
  | .triggerTimeout .. =>
    some [.ADC_CV_STATUS_PD, .ADC_CV_STATUS_POS, .ADC_CV_STATUS_URG, .ADC_EVENT_NO_TRIG, .ADC_RES_ST_NO_TRIG]
  | .urgentTimerConversion .. =>
    some [.ADC_CV_STATUS_PD, .ADC_CV_STATUS_URG, .ADC_RES_ST_OVR, .ADC_RES_ST_VALID, .PHS_GRP_EVENT_SENSE_FAIL]
  | .adcUrgReq .. =>
    some [.ADC_CV_STATUS_URG, .ADC_URG_REQ_CHANNEL, .ADC_URG_REQ_GAIN, .ADC_URG_REQ_SMP, .ADC_URG_RES_BUSY, .ADC_URG_RES_DONE,
      .ADC_URG_RES_REFUSED]
  | .converterStall .. => some converterFields
  | .converterWake .. => some ([.ADC_CV_STATUS_PD] ++ converterFields)
  | .converterPowerDown .. => some [.ADC_CV_STATUS_PD]
  | .converterOffline .. => some ([.ADC_CV_CTRL_OFFLINE] ++ converterFields)
  | .converterOnline .. => some [.ADC_CV_CTRL_OFFLINE, .ADC_CV_STATUS_STATE]
  | .converterRecheck .. => some [.ADC_CV_STATUS_STATE]
  | .converterRecheckEnd .. => some [.ADC_CV_STATUS_LOSS_COUNT, .ADC_CV_STATUS_STATE]
  | .adcCalibrate .. => some ([.ADC_CV_STATUS_URG, .ADC_RES_ST_CAL_BUSY, .ADC_RES_ST_VALID] ++ replyFields)
  | .calibrationStepDone .. => some ([.ADC_CAL_GAIN, .ADC_CAL_OFS, .ADC_RES_ST_CAL_BUSY] ++ replyFields)
  | .calibrationExpiry .. => some [.ADC_CAL_GAIN, .ADC_CAL_OFS, .ADC_RES_ST_CAL_BUSY]
  | .telemetryWindowClose .. | .recordDrop .. =>
    some [.TLM_EVENT_DROP, .TLM_LOST_LOST, .TLM_STATUS_QUEUED, .TLM_STATUS_RUNNING]
  | .recordWriteAck .. => some ([.TLM_PROD_PROD, .TLM_STATUS_QUEUED, .TLM_STATUS_RUNNING] ++ dutyFields)
  | .telemetryEnable .. | .telemetryDisable .. => some [.TLM_CTRL_ENABLE, .TLM_STATUS_BUS_ERR_ST]
  | .telemetryStart .. => some [.TLM_CONS_CONS, .TLM_PROD_PROD, .TLM_STATUS_QUEUED, .TLM_STATUS_RUNNING]
  | .consWrite .. => some [.TLM_CONS_CONS, .TLM_EVENT_CONS_BAD]
  | .busErrorResponse .. =>
    some ([.TLM_CAP_STATUS_STATE, .TLM_CTRL_ENABLE, .TLM_EVENT_BUS_ERR, .TLM_LOST_LOST, .TLM_STATUS_BUS_ERR_ST,
      .TLM_STATUS_QUEUED, .TLM_STATUS_RUNNING] ++ replyFields)
  | .telemetrySetup .. =>
    some ([.TLM_CTRL_ENABLE, .TLM_CTRL_NOTIFY_MS, .TLM_CTRL_SIZE_LOG2, .TLM_CTRL_STACK_REC, .TLM_NOTIFY_HI_NADDR_HI,
      .TLM_NOTIFY_LO_NADDR_LO, .TLM_RING_HI_BASE_HI, .TLM_RING_LO_BASE_LO, .TLM_STATUS_BUS_ERR_ST] ++ replyFields)
  | .captureWaveform .. =>
    some ([.TLM_CAP_CH_INDEX, .TLM_CAP_CH_KIND, .TLM_CAP_CTRL_ARM, .TLM_CAP_CTRL_POST, .TLM_CAP_CTRL_TRIG_IDX,
      .TLM_CAP_CTRL_TRIG_SRC, .TLM_CAP_DUMP_HI_DUMP_HI, .TLM_CAP_DUMP_LO_DUMP_LO, .TLM_CAP_STATUS_BLOCKS,
      .TLM_CAP_STATUS_STATE, .TLM_CAP_STATUS_WRAPPED, .TLM_CAP_TICK_HI_TICK_HI, .TLM_CAP_TICK_LO_TICK_LO] ++ replyFields)
  | .captureArm .. => some [.TLM_CAP_CTRL_ARM, .TLM_CAP_STATUS_BLOCKS, .TLM_CAP_STATUS_STATE, .TLM_CAP_STATUS_WRAPPED]
  | .captureDisarm .. | .captureWaitTimeout .. => some ([.TLM_CAP_CTRL_ARM, .TLM_CAP_STATUS_STATE] ++ replyFields)
  | .captureBlockEncode .. => some [.TLM_CAP_STATUS_BLOCKS, .TLM_CAP_STATUS_WRAPPED]
  | .captureTrigger .. | .capturePostDone .. => some [.TLM_CAP_STATUS_STATE]
  | .captureDumpAck .. => some ([.TLM_CAP_STATUS_STATE] ++ replyFields)
  | .crcStart .. | .crcAbort .. | .crcValueWrite .. => some [.CRC_STATUS_STATE, .CRC_VALUE_VALUE]
  | .crcFinish .. =>
    some [.CRC_EVENT_MISMATCH, .CRC_RESULT_RESULT, .CRC_STATUS_DROPPED, .CRC_STATUS_MATCH, .CRC_STATUS_MISMATCH,
      .CRC_STATUS_MISMATCH_COUNT, .CRC_STATUS_STATE]
  | .crcData32 .. | .crcData8 .. => some [.CRC_STATUS_DROPPED, .CRC_VALUE_VALUE]
  | .crcSettingsWrite .. =>
    some [.CRC_CFG_CMP_EN, .CRC_CFG_FINAL_INV, .CRC_CFG_IRQ_EN, .CRC_CFG_REFIN, .CRC_CFG_REFOUT, .CRC_CFG_WIDTH_M1,
      .CRC_INIT_INIT, .CRC_POLY_POLY, .CRC_STATUS_DROPPED, .CRC_STATUS_MATCH, .CRC_STATUS_MISMATCH]
  | .crcClaim .. => some [.CRC_LEASE_HELD, .CRC_LEASE_HOLDER]
  | .crcRelease .. => some [.CRC_LEASE_HELD]
  | .crcLeaseExpiry .. => some [.CRC_EVENT_LEASE_BROKEN, .CRC_LEASE_HELD, .CRC_STATUS_STATE, .CRC_VALUE_VALUE]
  | .crcSelfTest .. =>
    some [.CRC_CFG_CMP_EN, .CRC_CFG_FINAL_INV, .CRC_CFG_IRQ_EN, .CRC_CFG_REFIN, .CRC_CFG_REFOUT, .CRC_CFG_WIDTH_M1,
      .CRC_EVENT_FAILED, .CRC_EVENT_LEASE_BROKEN, .CRC_INIT_INIT, .CRC_LEASE_HELD, .CRC_POLY_POLY, .CRC_RESULT_RESULT,
      .CRC_STATUS_DUTY, .CRC_STATUS_MATCH, .CRC_STATUS_MISMATCH, .CRC_STATUS_STATE, .CRC_VALUE_VALUE]
  | .slotHandover .. => some ([.CMD_EVENT_FOREIGN, .CMD_EVENT_SLOT_BUSY_WR] ++ replyFields)
  | .replySlotRead .. | .highWordLatchRead .. => some [.CMD_EVENT_FOREIGN]
  | .firmwarePacketStart .. | .renewLease .. | .queryImage .. | .mailboxTimeout .. | .faultQuery .. => some replyFields
  | .registerPartner .. =>
    some ([.CMD_PART_ID_CLASS, .CMD_PART_ID_FLAGS, .CMD_PART_ID_INITIATOR, .CMD_PART_ID_REG_EPOCH_LO, .CMD_PART_LEASE_LEASE_S,
      .CMD_STATUS_REGISTERED] ++ replyFields)
  | .releasePartner .. =>
    some ([.ADC_CV_STATUS_PD, .ADC_CV_STATUS_STATE, .ADC_STATUS_LP_ACTIVE, .CRC_LEASE_HELD, .CRC_STATUS_DUTY, .GLB_FW_IMG_BYTES,
      .GLB_FW_IMG_STATE, .GLB_FW_LOAD_ACTIVE, .GLB_LT_BITS_BITS, .GLB_LT_ERRS_ERRS, .GLB_LT_STAT_LOCKED, .GLB_LT_STAT_STATE] ++ settleFields)
  | .heartbeatMissed .. => some [.CMD_EVENT_LEASE_LATE, .CMD_PART_ID_STATE]
  | .leaseExpiry .. =>
    some ([.ADC_CV_STATUS_PD, .ADC_CV_STATUS_STATE, .ADC_STATUS_LP_ACTIVE, .CMD_EVENT_LEASE_EXP, .CRC_LEASE_HELD,
      .CRC_STATUS_DUTY, .GLB_FW_IMG_BYTES, .GLB_FW_IMG_STATE, .GLB_FW_LOAD_ACTIVE, .GLB_LT_BITS_BITS, .GLB_LT_ERRS_ERRS,
      .GLB_LT_STAT_LOCKED, .GLB_LT_STAT_STATE] ++ settleFields)
  | .partnerFree .. =>
    some [.CMD_PART_ID_CLASS, .CMD_PART_ID_FLAGS, .CMD_PART_ID_INITIATOR, .CMD_PART_ID_REG_EPOCH_LO, .CMD_PART_ID_STATE,
      .CMD_PART_LEASE_LEASE_S, .CMD_STATUS_REGISTERED]
  | .setOperatingPoint .. | .setPowerCap .. | .setFixedFrequency .. | .commitEpoch .. | .policyCycle .. =>
    some (replyFields ++ rampFields)
  | .setPreferredPoint .. =>
    some ([.DOM_BUD_CTX_OP_BOOST_EN, .DOM_BUD_CTX_OP_LINK_SHARE, .DOM_BUD_CTX_OP_ORD0, .DOM_BUD_CTX_OP_ORD1,
      .DOM_BUD_CTX_OP_ORD2, .DOM_BUD_CTX_OP_PREF_STEP, .DOM_BUD_CTX_SLOPE_ACT_DN, .DOM_BUD_CTX_SLOPE_ACT_UP] ++ replyFields)
  | .stageConfig .. => some ([.CMD_EVENT_STORE_FULL, .CMD_STATUS_QUEUED, .CMD_STATUS_STORE_USED] ++ replyFields)
  | .rweWrite .. => some [.CMD_EVENT_STORE_FULL, .CMD_STATUS_QUEUED, .CMD_STATUS_STORE_USED]
  | .cmdCommit .. => some ([.CMD_COMMIT_ST_INITIATOR, .CMD_COMMIT_ST_RUN_ID, .CMD_COMMIT_ST_STATUS] ++ rampFields)
  | .abortRetune .. | .validationDone .. | .settleDone .. =>
    some ([.CMD_COMMIT_ST_STATUS, .CMD_NOTICE0_ARG, .CMD_NOTICE0_TYPE, .CMD_NOTICE1_TIME_LO, .CMD_NOTICE_SEQ_NSEQ,
      .CMD_PART_SLOTS_NOTICE_NEW] ++ replyFields ++ rampFields)
  | .settleTimeout .. =>
    some ([.CMD_COMMIT_ST_STATUS, .CMD_EVENT_RUN_HALT, .CMD_RUN_EPOCH, .CMD_RUN_EPOCHS_M1, .CMD_RUN_RETUNE, .CMD_RUN_RUN_ID,
      .CMD_RUN_STATE] ++ replyFields)
  | .loadImage .. =>
    some ([.CRC_LEASE_HELD, .CRC_LEASE_HOLDER, .CRC_STATUS_DUTY, .GLB_FW_IMG_BYTES, .GLB_FW_IMG_DAMAGED, .GLB_FW_IMG_STATE,
      .GLB_FW_LOAD_ACTIVE, .GLB_FW_LOAD_PARTNER, .GLB_FW_LOAD_TARGET] ++ replyFields)
  | .imageVerifyDone .. =>
    some ([.CRC_LEASE_HELD, .CRC_STATUS_DUTY, .GLB_FW_EVENT_IMG_BAD, .GLB_FW_IMG_BYTES, .GLB_FW_IMG_ERR, .GLB_FW_IMG_STATE,
      .GLB_FW_LOAD_ACTIVE] ++ replyFields)
  | .loadingTimeout .. =>
    some [.CRC_LEASE_HELD, .CRC_STATUS_DUTY, .CRC_STATUS_STATE, .CRC_VALUE_VALUE, .GLB_FW_IMG_BYTES, .GLB_FW_IMG_STATE,
      .GLB_FW_LOAD_ACTIVE]
  | .activateImage .. =>
    some ([.CRC_EVENT_LEASE_BROKEN, .CRC_LEASE_HELD, .GLB_BOOT_STATUS_CFG_COMMITTED, .GLB_CP_STATUS_BANK,
      .GLB_CP_STATUS_RESTARTS, .GLB_FW_IMG_STATE] ++ replyFields ++ cpFields)
  | .interlockQuietEnd .. =>
    some ([.CRC_EVENT_LEASE_BROKEN, .CRC_LEASE_HELD, .GLB_CP_STATUS_BANK, .GLB_CP_STATUS_RESTARTS, .GLB_FW_IL_SET] ++ replyFields ++ cpFields)
  | .deferTimeout .. => some ([.GLB_FW_EVENT_ACT_TMO, .GLB_FW_IMG_STATE] ++ replyFields)
  | .processorSwitch .. =>
    some ([.CRC_EVENT_LEASE_BROKEN, .CRC_LEASE_HELD, .GLB_CP_STATUS_BANK, .GLB_CP_STATUS_RESTARTS, .GLB_FW_IMG_STATE] ++ replyFields ++ cpFields)
  | .processorCrash .. | .watchdogExpiry .. =>
    some ([.CRC_EVENT_LEASE_BROKEN, .CRC_LEASE_HELD, .GLB_CP_FAULT_ADDR, .GLB_CP_STATUS_BANK, .GLB_CP_STATUS_CAUSE,
      .GLB_CP_STATUS_COMP_ID, .GLB_CP_STATUS_CRASH_COUNT, .GLB_CP_STATUS_RESTARTS, .GLB_FW_EVENT_CRASH,
      .GLB_FW_EVENT_STOPPED, .GLB_FW_IMG_STATE] ++ replyFields ++ cpFields)
  | .processorRestartDone .. =>
    some ([.CMD_NOTICE0_ARG, .CMD_NOTICE0_TYPE, .CMD_NOTICE1_TIME_LO, .CMD_NOTICE_SEQ_NSEQ, .CMD_PART_SLOTS_NOTICE_NEW,
      .DBG_COMP_COMP_ID, .DBG_CYC_INSTR, .DBG_PC_PC, .GLB_CP_STATUS_CKPT_OK, .GLB_FW_EVENT_STOPPED, .GLB_FW_IMG_STATE] ++ replyFields ++ cpFields)
  | .scrubPass .. =>
    some ([.CRC_EVENT_LEASE_BROKEN, .CRC_LEASE_HELD, .GLB_CP_FAULT_ADDR, .GLB_CP_STATUS_BANK, .GLB_CP_STATUS_CAUSE,
      .GLB_CP_STATUS_COMP_ID, .GLB_CP_STATUS_CRASH_COUNT, .GLB_CP_STATUS_RESTARTS, .GLB_FW_EVENT_CRASH,
      .GLB_FW_EVENT_DAMAGED, .GLB_FW_EVENT_ECC_CORR, .GLB_FW_EVENT_STOPPED, .GLB_FW_IMG_DAMAGED, .GLB_FW_IMG_STATE] ++ replyFields ++ cpFields)
  | .debugHalt .. | .debugResume .. | .debugStep .. | .debugWindowWrite .. =>
    some ([.DBG_COMP_COMP_ID, .DBG_CYC_INSTR, .DBG_PC_PC, .GLB_FW_EVENT_DBG_REF] ++ cpFields)
  | .faultRaise .. =>
    some ([.FLT_FEC_ADDR_HI_ADDR_HI, .FLT_FEC_ADDR_LO_ADDR_LO, .FLT_FEC_INFO_CODE, .FLT_FEC_INFO_MASTER, .FLT_FEC_INFO_SUB,
      .FLT_FEC_INFO_TYPE, .FLT_FEC_INFO_VALID, .FLT_FEC_MORE_MORE, .FLT_FEC_TIME_HI_TIME_HI, .FLT_FEC_TIME_LO_TIME_LO,
      .FLT_LOST_LOST, .FLT_SEQ_NEXT_SEQ, .FLT_SRC_RAISES] ++ sourceFields)
  | .fatalRaise .. =>
    some ([.FLT_FEC_ADDR_HI_ADDR_HI, .FLT_FEC_ADDR_LO_ADDR_LO, .FLT_FEC_INFO_CODE, .FLT_FEC_INFO_MASTER, .FLT_FEC_INFO_SUB,
      .FLT_FEC_INFO_TYPE, .FLT_FEC_INFO_VALID, .FLT_FEC_MORE_MORE, .FLT_FEC_TIME_HI_TIME_HI, .FLT_FEC_TIME_LO_TIME_LO,
      .FLT_LOST_LOST, .FLT_SEQ_NEXT_SEQ, .FLT_SRC_RAISES, .FLT_STATUS_FATAL, .FLT_STATUS_FATAL_CODE, .FLT_STATUS_FATAL_SUB] ++ domEnterFields ++ latchFields ++ sourceFields)
  | .softwareWindowExpiry .. => some ([.FLT_LOST_LOST, .FLT_SEQ_NEXT_SEQ] ++ sourceFields)
  | .quietExpiry .. => some ([.FLT_SRC_REC_COUNT] ++ sourceFields)
  | .fltHandle .. => some sourceFields
  | .faultAck .. => some ([.FLT_ACK_SEQ_ACK_SEQ] ++ replyFields ++ sourceFields)
  | .cntClr .. => some [.FLT_SRC_REC_COUNT]
  | .fecValidClear .. => some [.FLT_FEC_INFO_VALID, .FLT_FEC_MORE_MORE]
  | .pairReadbackMismatch .. | .pairReadbackAgree .. =>
    some [.FLT_STATUS_PAIR_ASSERT, .FLT_STATUS_PAIR_C, .FLT_STATUS_PAIR_T]
  | .gooseTrip .. =>
    some ([.FLT_GOOSE_STATUS_CAUSE, .FLT_GOOSE_STATUS_INDEX, .FLT_GOOSE_STATUS_TRIPPED, .FLT_STATUS_GOOSE_FORCE,
      .FLT_STATUS_PAIR_ASSERT, .FLT_STATUS_PAIR_C, .FLT_STATUS_PAIR_T, .GLB_LT_BITS_BITS, .GLB_LT_ERRS_ERRS,
      .GLB_LT_STAT_LOCKED, .GLB_LT_STAT_STATE] ++ domEnterFields ++ latchFields)
  | .linkTest .. =>
    some ([.ADC_CV_STATUS_PD, .ADC_CV_STATUS_STATE, .ADC_STATUS_LP_ACTIVE, .GLB_LT_BITS_BITS, .GLB_LT_ERRS_ERRS,
      .GLB_LT_STAT_FORCED, .GLB_LT_STAT_LOCKED, .GLB_LT_STAT_MODE, .GLB_LT_STAT_STATE, .HRD_EVENT_HOLDOVER,
      .HRD_EVENT_LINK_LOST, .HRD_PORT_DROPS] ++ idleFields ++ offerFields ++ replyFields)
  | .linkTestEnd .. =>
    some ([.ADC_CV_STATUS_PD, .ADC_CV_STATUS_STATE, .ADC_STATUS_LP_ACTIVE, .GLB_LT_BITS_BITS, .GLB_LT_ERRS_ERRS,
      .GLB_LT_STAT_LOCKED, .GLB_LT_STAT_STATE] ++ replyFields)
  | .roosterMessageDiscard .. => some [.DOM_START_EVENT_MSG_BAD]
  | .flashImageReadDone .. =>
    some ([.ADC_CV_STATUS_PD, .ADC_CV_STATUS_STATE, .ADC_STATUS_LP_ACTIVE, .GLB_BOOT_STATUS_ERR, .GLB_BOOT_STATUS_PWR_OK,
      .GLB_BOOT_STATUS_STATE] ++ dutyFields)
  | .bootRelease .. => some [.CRC_LEASE_HELD, .GLB_BOOT_STATUS_STATE]
  | .useRom .. =>
    some [.ADC_CV_STATUS_PD, .ADC_CV_STATUS_STATE, .ADC_STATUS_LP_ACTIVE, .GLB_BOOT_STATUS_ERR, .GLB_BOOT_STATUS_PWR_OK,
      .GLB_BOOT_STATUS_STATE]
  | .cfgCommit .. => some [.GLB_BOOT_STATUS_CFG_COMMITTED]
  | .releaseSequenceStep .. =>
    some ([.ADC_CV_STATUS_PD, .ADC_CV_STATUS_STATE, .ADC_STATUS_LP_ACTIVE, .DOM_BUD_CTRL_CEIL, .GLB_BOOT_STATUS_PWR_OK,
      .GLB_BOOT_STATUS_STATE, .GLB_FW_IL_GROUP, .GLB_FW_IL_SET, .GLB_VSTK_STATUS_BUS_OOR, .PHS_GRP_CTRL_EN,
      .PHS_GRP_STATUS_STATE, .PHS_PH_STATUS_PH_STATE] ++ domEnterFields)
  | .pwrOkTmoExpiry .. => some [.GLB_BOOT_STATUS_ERR, .GLB_BOOT_STATUS_PWR_OK, .GLB_BOOT_STATUS_STATE]
  | .cpRst .. | .blCprstNLow .. =>
    some ([.ADC_CV_STATUS_PD, .ADC_CV_STATUS_STATE, .ADC_STATUS_LP_ACTIVE, .CMD_PART_ID_CLASS, .CMD_PART_ID_FLAGS,
      .CMD_PART_ID_INITIATOR, .CMD_PART_ID_REG_EPOCH_LO, .CMD_PART_LEASE_LEASE_S, .CMD_STATUS_REGISTERED,
      .CRC_EVENT_LEASE_BROKEN, .CRC_LEASE_HELD, .GLB_CP_STATUS_BANK, .GLB_CP_STATUS_RESTARTS, .GLB_LT_BITS_BITS,
      .GLB_LT_ERRS_ERRS, .GLB_LT_STAT_LOCKED, .GLB_LT_STAT_STATE, .GLB_RST_STATUS_CP_ACTIVE, .GLB_RST_STATUS_CP_COUNT,
      .GLB_RST_STATUS_LAST] ++ settleFields ++ cpFields)
  | .cpIntervalEnd .. => some ([.GLB_RST_STATUS_CP_ACTIVE] ++ rampFields)
  | .fuseProgram .. => some [.GLB_FUSE_STAT_PROG_BUSY, .GLB_FUSE_STAT_PROG_FAIL, .THM_EVENT_FUSE_REF]
  | .fuseProgramReadback .. => some [.GLB_FUSE_STAT_PROG_BUSY, .GLB_FUSE_STAT_PROG_FAIL]
  | .refclkLoss .. =>
    some ([.GLB_TB_STATUS_FALLBACK, .GLB_TB_STATUS_FALLBACK_COUNT, .HRD_EVENT_HOLDOVER, .HRD_EVENT_LINK_LOST, .HRD_PORT_DROPS,
      .HRD_STATUS_TB_DEG] ++ idleFields ++ offerFields)
  | .refclkReturn .. => some [.GLB_TB_STATUS_FALLBACK, .HRD_STATUS_TB_DEG]
  | .oscCalibration .. => some [.GLB_TB_STATUS_CAL_OK]
  | .fabricRetry .. => some [.GLB_FAB_STATUS_SEG_FAIL_COUNT, .GLB_FAB_STATUS_TREE_A_OK]
  | .endpointUnreachable .. =>
    some ([.CEL_STATUS_FAIL_CAUSE, .CEL_STATUS_LOSS_COUNT, .DOM_DS_CAUSE, .DOM_DS_VALID, .DOM_EVENT_CELL_FAIL,
      .DOM_EVENT_DS_INVALID, .DOM_STATUS_CEIL, .DOM_STATUS_CELLS_OK, .DOM_STATUS_DS_VALID, .GLB_FAB_STATUS_SEG_FAIL_COUNT,
      .GLB_FAB_STATUS_TREE_A_OK, .GLB_FAB_STATUS_TREE_B_OK, .HRD_EVENT_HOLDOVER, .HRD_EVENT_LINK_LOST, .HRD_PORT_DROPS,
      .THM_COUNT_BROKEN_COUNT, .THM_EVENT_BROKEN, .THM_FUSE_FUSE_OK, .THM_FUSE_T_DIE_MAX, .THM_FUSE_T_DIE_MIN,
      .THM_SNS_CAUSE, .THM_SNS_DISAGREE, .THM_SNS_STATE] ++ domEnterFields ++ idleFields ++ offerFields ++ converterFields)

/-- The parts beside the register table that a command may change. -/
def Instr.parts (c : Instr) : List Part :=
  match c with
  | .busOutOfRange .. | .fbLong .. | .tmonHotForce .. | .wakeLate .. | .laneRetire .. | .consWrite .. | .crcStart ..
  | .crcData32 .. | .crcData8 .. | .crcValueWrite .. | .crcSettingsWrite .. | .crcRelease .. | .heartbeatMissed ..
  | .cntClr .. | .fecValidClear .. | .roosterMessageDiscard .. | .cfgCommit .. | .pwrOkTmoExpiry .. => [.raiseQ]
  | .busFatal .. | .groupDisable .. | .fatalRaise .. | .fatalStopGroupNext .. =>
    [.raiseQ, .out, .freeCtr, .flt, .phs, .dom, .eng, .start, .est, .bud, .tlm, .cmd, .boot]
  | .groupEnable .. | .startDelayElapsed .. | .foldbackRecovery .. | .hiccupWaitElapsed .. | .stopDelayElapsed ..
  | .valleyHold .. | .phaseCheckStart .. | .phaseReadmit .. => [.phs]
  | .rampEnd .. | .hiccupEntry .. => [.raiseQ, .phs, .boot]
  | .foldbackEntry .. | .pmbusBusHeld .. => [.raiseQ, .phs]
  | .stopRampEnd .. | .rampDownEnd .. | .registerWrite .. | .blockRst .. =>
    [.raiseQ, .out, .freeCtr, .flt, .phs, .dom, .eng, .start, .est, .bud, .thm, .hrd, .tlm, .cmd, .boot, .adc, .fw, .lt]
  | .attemptsClear .. | .cellLimitFold .. | .cellLimitRestore .. | .mapNotice .. | .bucketRefill ..
  | .exclusionEntryExpiry .. | .converterPowerDown .. | .crcClaim .. | .partnerFree .. | .quietExpiry .. | .refclkReturn ..
  | .oscCalibration .. => []
  | .phasePulse .. => [.out, .freeCtr, .phs]
  | .valleyLimitUpdate .. => [.freeCtr, .phs]
  | .pulseRiseReport .. | .phaseSenseDisable .. | .phaseDisable .. => [.raiseQ, .phs, .eng, .tlm, .boot]
  | .phaseCheckEnd .. => [.raiseQ, .out, .freeCtr, .phs, .dom, .eng, .start, .bud, .tlm, .boot]
  | .pmbusPollCycle .. | .pmbusBusFree .. => [.out, .phs]
  | .pmbusTransactionDone .. => [.raiseQ, .out, .phs, .boot]
  | .pmbusBusReset .. => [.out]
  | .cellLimitReached .. | .cellIsolationConfirmed .. => [.est]
  | .cellLimitRelease .. | .cellFailure .. | .cellIsoFail .. | .cellIsolate .. | .cellCheckEnd .. | .prechargeComplete ..
  | .droopSample .. | .droopRecheckPass .. | .fenceDomain .. | .unfenceDomain .. =>
    [.raiseQ, .out, .freeCtr, .dom, .eng, .start, .est, .bud, .tlm, .cmd]
  | .cellUnisolate .. | .cellReadmit .. | .stackGateReopen .. | .droopSensorRecheck .. | .quiesceAck .. => [.dom]
  | .headroomOffsetUpdate .. | .droopFloorFall .. | .barrierCancel .. | .prebiasFloorStart .. | .prebiasFloorFall ..
  | .waveArm .. | .waveRelease .. => [.out, .dom, .start, .bud, .tlm]
  | .wakeHeadroomMet .. => [.start]
  | .quiesceTimeout .. => [.raiseQ, .dom]
  | .fastElementEvaluation .. | .mediumEvaluation .. => [.out, .freeCtr, .dom, .eng, .start, .bud, .tlm]
  | .slowEvaluation .. => [.raiseQ, .out, .freeCtr, .dom, .eng, .start, .est, .bud, .hrd, .tlm, .cmd]
  | .deadlineMiss .. => [.raiseQ, .eng]
  | .slotOpen .. | .slotClose .. => [.eng]
  | .activityToken .. | .sidebandLost .. => [.raiseQ, .out, .dom, .start, .bud, .thm, .tlm]
  | .barrierAnnouncement .. | .waveTimeout .. => [.raiseQ, .out, .freeCtr, .dom, .start, .bud, .tlm]
  | .startReq .. => [.raiseQ, .out, .dom, .start, .bud, .tlm]
  | .startCancel .. => [.out, .start]
  | .permitGrant .. => [.out, .dom, .start, .est, .bud, .tlm]
  | .profileCheck .. => [.raiseQ, .freeCtr, .start]
  | .counterMessage .. | .counterStaleDecision .. | .calibrationUpdate .. => [.raiseQ, .est]
  | .estimatePublish .. => [.raiseQ, .freeCtr, .est, .bud, .tlm]
  | .pulseEnd .. | .averageUpdate .. => [.bud]
  | .governorUpdate .. => [.raiseQ, .out, .freeCtr, .dom, .eng, .start, .bud, .tlm]
  | .fixedLost .. => [.raiseQ, .bud]
  | .temperatureConversion .. | .sidebandReading .. | .sensorRecheck .. | .sensorRecheckEnd .. | .sidebandRecover ..
  | .forecastBinShift .. => [.thm]
  | .temperaturePublish .. => [.raiseQ, .out, .freeCtr, .dom, .start, .bud, .thm, .tlm]
  | .clampReleaseStart .. | .clampRiseStep .. => [.out, .dom, .start, .bud, .thm, .tlm]
  | .sensorDisagree .. | .sensorConversionTimeout .. => [.raiseQ, .thm]
  | .maskSensor .. => [.out, .thm, .cmd]
  | .thetaUpdate .. => [.raiseQ, .freeCtr, .thm]
  | .herdJoin .. | .herdLeave .. => [.raiseQ, .out, .freeCtr, .hrd, .cmd]
  | .helloReceived .. | .offerReceived .. | .changeReceived .. | .changeTick .. | .excludeReceived .. | .decideReceived ..
  | .linkLoss .. | .offerRecompute .. | .exclusionRecovery .. | .exclWaitExpiry .. | .decideFollow .. | .decideEvict ..
  | .lockMessageDiscard .. | .refclkLoss .. => [.raiseQ, .out, .freeCtr, .hrd]
  | .syncReceived .. => [.time, .raiseQ, .out, .freeCtr, .hrd, .cmd]
  | .delayReqReceived .. | .syncSend .. | .offerSend .. | .delayReqSend .. | .helloRetry .. => [.out, .hrd]
  | .delayRespReceived .. => [.out, .freeCtr, .hrd]
  | .disbandReceived .. | .holdTmoExpiry .. => [.raiseQ, .out, .hrd]
  | .joinTimeout .. => [.raiseQ, .out, .hrd, .cmd]
  | .timeSlewEnd .. => [.hrd]
  | .roundStart .. | .urgentTimerConversion .. => [.raiseQ, .phs, .adc]
  | .conversionDone .. => [.raiseQ, .out, .phs, .dom, .start, .bud, .tlm, .boot, .adc]
  | .triggerHold .. | .heldValueDiscard .. | .adcUrgReq .. | .converterOnline .. | .converterRecheck ..
  | .converterRecheckEnd .. | .calibrationExpiry .. => [.adc]
  | .triggerTimeout .. | .converterStall .. | .converterWake .. | .converterOffline .. => [.raiseQ, .adc]
  | .adcCalibrate .. => [.out, .cmd, .adc]
  | .calibrationStepDone .. => [.out, .freeCtr, .cmd, .adc]
  | .telemetryWindowClose .. => [.raiseQ, .freeCtr, .tlm]
  | .recordWriteAck .. | .notifyWrite .. => [.out, .tlm]
  | .recordDrop .. => [.raiseQ, .tlm]
  | .telemetryEnable .. | .telemetryStart .. | .telemetryDisable .. | .captureArm .. | .captureBlockEncode ..
  | .captureTrigger .. | .capturePostDone .. => [.tlm]
  | .busErrorResponse .. => [.raiseQ, .out, .tlm, .cmd]
  | .telemetrySetup .. | .captureWaveform .. | .captureDumpAck .. => [.out, .tlm, .cmd]
  | .captureDisarm .. | .captureWaitTimeout .. | .firmwarePacketStart .. | .registerPartner .. | .renewLease ..
  | .setPreferredPoint .. | .commitEpoch .. | .queryImage .. | .faultQuery .. => [.out, .cmd]
  | .crcFinish .. => [.raiseQ, .out]
  | .crcAbort .. | .crcLeaseExpiry .. | .crcSelfTest .. => [.raiseQ, .freeCtr]
  | .slotHandover .. | .replySlotRead .. | .stageConfig .. | .settleTimeout .. | .mailboxTimeout .. =>
    [.raiseQ, .out, .cmd]
  | .registrationSlotTimeout .. | .cmdCommit .. => [.cmd]
  | .releasePartner .. | .leaseExpiry .. | .cpRst .. => [.raiseQ, .out, .freeCtr, .hrd, .tlm, .cmd, .fw, .lt]
  | .setOperatingPoint .. | .setPowerCap .. | .setFixedFrequency .. | .abortRetune .. | .validationDone .. | .settleDone ..
  | .loadImage .. | .policyCycle .. => [.out, .cmd, .fw]
  | .rweWrite .. => [.raiseQ, .cmd]
  | .epochApply .. => [.raiseQ, .out, .freeCtr, .dom, .eng, .start, .est, .bud, .hrd, .tlm, .cmd, .fw]
  | .imageVerifyDone .. | .activateImage .. | .interlockQuietEnd .. | .deferTimeout .. | .processorSwitch ..
  | .processorCrash .. | .watchdogExpiry .. | .scrubPass .. => [.raiseQ, .out, .freeCtr, .cmd, .fw]
  | .loadingTimeout .. => [.freeCtr, .fw]
  | .watchdogKick .. => [.raiseQ, .fw]
  | .processorRestartDone .. => [.raiseQ, .out, .cmd, .fw]
  | .debugHalt .. | .debugResume .. | .debugStep .. | .debugWindowWrite .. => [.raiseQ, .freeCtr, .fw]
  | .faultRaise .. => [.raiseQ, .out, .flt, .fw]
  | .softwareWindowExpiry .. => [.raiseQ, .out, .flt]
  | .fltHandle .. | .pairReadbackMismatch .. | .fabricRetry .. => [.raiseQ, .flt]
  | .faultAck .. => [.out, .flt, .cmd]
  | .pairReadbackAgree .. | .faultLogicHeartbeat .. => [.flt]
  | .gooseTrip .. => [.raiseQ, .out, .freeCtr, .flt, .phs, .dom, .eng, .start, .est, .bud, .hrd, .tlm, .cmd, .boot, .lt]
  | .linkTest .. => [.raiseQ, .out, .freeCtr, .hrd, .cmd, .lt]
  | .linkTestEnd .. => [.out, .hrd, .cmd, .lt]
  | .highWordLatchRead .. => [.raiseQ, .out, .freeCtr, .cmd]
  | .aonPowerOn .. =>
    [.time, .cfg, .raiseQ, .out, .freeCtr, .flt, .phs, .dom, .eng, .start, .est, .bud, .thm, .hrd, .tlm, .cmd, .boot, .adc, .fw, .lt]
  | .gooseReset .. =>
    [.time, .cfg, .raiseQ, .flt, .phs, .dom, .eng, .start, .est, .bud, .thm, .hrd, .tlm, .cmd, .boot, .adc, .fw, .lt]
  | .powerOnEnd .. => [.cfg]
  | .fuseLoadDone .. => [.cfg, .raiseQ, .freeCtr, .flt, .boot]
  | .flashWake .. => [.out, .boot]
  | .flashImageReadDone .. => [.raiseQ, .out, .boot]
  | .imageApplyDone .. => [.raiseQ, .boot, .adc]
  | .bootRelease .. | .useRom .. | .fuseProgram .. => [.raiseQ, .boot]
  | .releaseSequenceStep .. => [.raiseQ, .out, .freeCtr, .phs, .dom, .eng, .start, .est, .bud, .tlm, .cmd, .boot]
  | .blRstNLow .. => [.flt, .phs, .dom, .eng, .start, .est, .bud, .thm, .hrd, .tlm, .cmd, .boot, .adc, .fw, .lt]
  | .blCprstNLow .. => [.raiseQ, .out, .freeCtr, .hrd, .tlm, .cmd, .boot, .fw, .lt]
  | .cpIntervalEnd .. => [.cmd, .boot]
  | .fuseProgramReadback .. => [.boot]
  | .endpointUnreachable .. => [.raiseQ, .out, .freeCtr, .dom, .eng, .start, .est, .bud, .thm, .hrd, .tlm, .cmd, .adc]

end Sys2Proof
end

