-- ==== Sys2Proof/Certificates/Slice0/Obligations.lean ====
section
/-! DEFINITION. The statements for the provers. A statement about commands lists clauses: for every state and operands that meet
the clause's hypotheses, exec of the command answers a next state, of which the clause says what it holds. -/

section

open Sys2Proof Sys2Proof.Machine Host

/-- A step runs the command at the front of the queue. For every command c, state s and rest of the queue: a step of s
with c at the front of its queue is exec of c on s with the rest of the queue. The queue is the model's form of the row's
commands; the manual's own queues are state beside it. (R11, R337) -/
def Obligations.StepRunsTheFrontCommand : Prop :=
  (∀ (c : Instr) (rest : List Instr) (s : State), step { s with pending := c :: rest } = exec c { s with pending := rest }) ∧
  (∀ (c : Instr) (s : State), step (s.push c) = exec c s)

/-- With no command waiting a step is one edge of the time base (the model's choice, log entry 3). On an empty queue a
step answers a next state. The count advances by one tick modulo 2^64 where no correction is due; by two or by none where
one is, which takes one correction off and needs 64 edges since the last, or 16 in fallback outside a slew. Where the edge
stays inside its window, no calibration step is open and the herd's bar has ended before, nothing but the count and the
edges since the last correction changes. Where the edge begins a window, what R222 takes at its close is what stands at
it. Whatever the edge, the queue stays empty, and only the time base, the herd, the window's sums, the converters, the
raises, the messages out and the free-value counter change, with no field but those listed. That an idle step is an edge
is the model's choice (log entry 3); what an edge does is R37, R222, R282, R285 and R301. (R37, R222, R282, R285, R301) -/
def Obligations.EmptyQueueStepsTheTimeBase : Prop :=
  (∀ (s : State), s.pending = [] → ∃ t, step s = .next t ∧ t.pending = [] ∧
    (∀ p : Part, p ∉ ([.time, .hrd, .est, .tlm, .adc, .raiseQ, .out, .freeCtr] : List Part) → p.same s t) ∧
    (∀ f i, f ∉ ([.ADC_CV_STATUS_URG, .CMD_NOTICE0_ARG, .CMD_NOTICE0_TYPE, .CMD_NOTICE1_TIME_LO, .CMD_NOTICE_SEQ_NSEQ,
        .CMD_PART_SLOTS_NOTICE_NEW, .CRC_EVENT_MISMATCH, .CRC_RESULT_RESULT, .CRC_STATUS_MATCH, .CRC_STATUS_MISMATCH,
        .CRC_STATUS_MISMATCH_COUNT, .CRC_STATUS_STATE, .CRC_VALUE_VALUE, .HRD_EVENT_EXCL_OVF, .HRD_EVENT_EXCL_REQ,
        .HRD_EVENT_INCOMPLETE, .HRD_EXCL_F_OFF, .HRD_EXCL_STACK_ID, .HRD_EXCL_STATE, .HRD_FREQ_F_GRP, .HRD_FREQ_PEND,
        .HRD_MEMBERS_EXCL_N, .HRD_MEMBERS_MEMBERS, .HRD_PEND_CHG_SEQ, .HRD_PEND_F_NEW, .HRD_PEND_TICK_HI_CT_HI,
        .HRD_PEND_TICK_LO_CT_LO, .HRD_STATUS_INCOMPLETE, .HRD_STATUS_SLEWING, .HRD_STATUS_STATE] : List Fld) →
      t.getF f i = s.getF f i)) ∧
  (∀ (s : State), s.pending = [] → s.hrd.corr = 0 → (s.time + 1) % 2 ^ 64 / 100 = s.time / 100 → s.adc.step = none →
    s.hrd.barUntil ≤ s.time →
    step s = .next { s with time := (s.time + 1) % 2 ^ 64, hrd := { s.hrd with edge := min 64 (s.hrd.edge + 1) } }) ∧
  (∀ (s : State), s.pending = [] → s.hrd.corr = 0 → ∃ t, step s = .next t ∧ t.time = (s.time + 1) % 2 ^ 64) ∧
  (∀ (s : State), s.pending = [] → 0 < s.hrd.corr →
    (64 ≤ s.hrd.edge + 1 ∨ (s.isSet .GLB_TB_STATUS_FALLBACK 0 = true ∧ s.isSet .HRD_STATUS_SLEWING 0 = false ∧ 16 ≤ s.hrd.edge + 1)) →
    ∃ t, step s = .next t ∧ t.time = (s.time + 2) % 2 ^ 64 ∧ t.hrd.corr = s.hrd.corr - 1 ∧ t.hrd.edge = 0) ∧
  (∀ (s : State), s.pending = [] → s.hrd.corr < 0 →
    (64 ≤ s.hrd.edge + 1 ∨ (s.isSet .GLB_TB_STATUS_FALLBACK 0 = true ∧ s.isSet .HRD_STATUS_SLEWING 0 = false ∧ 16 ≤ s.hrd.edge + 1)) →
    ∃ t, step s = .next t ∧ t.time = s.time % 2 ^ 64 ∧ t.hrd.corr = s.hrd.corr + 1 ∧ t.hrd.edge = 0) ∧
  (∀ (s : State), s.pending = [] → s.hrd.corr ≠ 0 → s.hrd.edge + 1 < 16 →
    ∃ t, step s = .next t ∧ t.time = (s.time + 1) % 2 ^ 64 ∧ t.hrd.corr = s.hrd.corr ∧ t.hrd.edge = min 64 (s.hrd.edge + 1)) ∧
  (∀ (s : State), s.pending = [] → s.tick.time / 100 ≠ s.time / 100 →
    ∃ t, step s = .next t ∧ t.est.close = some s.tick.winNow)

/-- Every command of the table answers a next state. For each of the 255 commands of the table and every state, exec
answers a next state: no command of this block stops it, whatever its operands, and every step answers a next state. What
each answers is said command by command in the statements of its family, whose clauses conclude the next state. (R14, R82,
R109, R390) -/
def Obligations.EveryCommandCompletes : Prop :=
  (∀ (c : Instr) (s : State), ∃ t, exec c s = .next t) ∧ (∀ (s : State), s.runs)

/-- The state after reset. In the state after reset every field of every register reads its reset value in the reference
configuration, the boot state is 0, the count of the time base is 0, no raise, message or command waits, and no fault
record, partner packet or run is held. The configuration before the straps and the fuses are read is the model's choice
(log entry 2). (R14, R390, R391) -/
def Obligations.ResetStateReadsResetValues : Prop :=
  (∀ (f : Fld) (i : Nat), State.reset.getF f i = Fld.rst Cfg.reference f i) ∧ State.reset.boot_ = 0 ∧
  State.reset.time = 0 ∧ State.reset.raiseQ = [] ∧ State.reset.out = [] ∧ State.reset.pending = [] ∧
  State.reset.flt.recs = [] ∧ State.reset.cmd.inflight = [] ∧ State.reset.cmd.runs = [] ∧ State.reset.tlm.queue = []

/-- The invariants hold in the state after reset. After reset the register table is in its canonical form, with every
stored value within its field's width, and every high-word latch records a 64-bit quantity. (R14, R18) -/
def Obligations.ResetStateIsWellFormed : Prop :=
  State.reset.fieldsOk ∧ State.reset.latchesOk

/-- Every step keeps the register table in its canonical form. For every state whose register table is in its canonical
form (fields and items strictly rising, every stored value within its field's width), the next state of any step has that
form too. (R14) -/
def Obligations.StepsKeepTheRegisterTable : Prop :=
  ∀ (s t : State), s.fieldsOk → step s = .next t → t.fieldsOk

/-- Every step keeps the high-word latches on 64-bit quantities. For every state whose high-word latches record 64-bit
quantities of the window only, so do those of the next state of any step. (R18) -/
def Obligations.StepsKeepTheLatches : Prop :=
  ∀ (s t : State), s.latchesOk → step s = .next t → t.latchesOk

/-- No command changes the queue of waiting commands. The effect of a command is on everything but the queue: exec of any
command leaves pending as it was. (R14) -/
def Obligations.CommandsKeepTheQueue : Prop :=
  ∀ (c : Instr) (s t : State), exec c s = .next t → t.pending = s.pending

/-- Only power-on and the loads of straps and fuses change the configuration. Any command other than AON_POWER_ON,
GOOSE_RESET, POWER_ON_END and FUSE_LOAD_DONE leaves the configuration: straps, fuse words and configuration table. So a
programmed fuse word takes effect at the next fuse load and not before. (R391, R393, R403) -/
def Obligations.ConfigurationIsLoadedOnlyAtPowerOn : Prop :=
  ∀ (c : Instr) (s t : State), exec c s = .next t → t.cfg = s.cfg ∨
    (match c with
      | .aonPowerOn .. | .gooseReset .. | .powerOnEnd .. | .fuseLoadDone .. => True
      | _ => False)

/-- A programmed fuse bit stays 1. No command, reset or power-on takes a programmed bit back: a bit of a fuse word that is
programmed in a state is programmed in the next state of any step. (R403) -/
def Obligations.ProgrammedBitsStay : Prop :=
  ∀ (s t : State) (w b : Nat), step s = .next t → bitOf (Tbl.get 0 s.boot.burned w) b = true →
    bitOf (Tbl.get 0 t.boot.burned w) b = true

/-- What the resets and the other wide commands leave. AON_POWER_ON, GOOSE_RESET, POWER_ON_END, FUSE_LOAD_DONE, the ends
of the stop ramps, IMAGE_APPLY_DONE, BLOCK_RST, BL_RST_N low, EPOCH_APPLY and a register write leave every part of the
state outside their parts. (R390, R391, R404, R406, R407) -/
def Obligations.ResetsKeepWhatTheyDoNotReset : Prop :=
  (∀ (c : Instr) (s t : State) (p : Part), c.writes = none → exec c s = .next t → p ∉ c.parts → p.same s t)

/-- Enabling, disabling and starting a phase group. For every state and operands that meet a clause's conditions the
command answers a next state with the effect the clause names. GROUP_ENABLE: a group in OFF, with no power-stage test
running, enters DELAY with EN at 1. GROUP_DISABLE: a group in DELAY or HICCUP_WAIT enters OFF with EN and ATTEMPTS
cleared, and one in RAMP, REGULATE or FOLDBACK enters STOP_RAMP with EN cleared; for VSTK both need every domain DARK or
FENCED, and with a domain other than that VSTK in states 1 to 5 only records SUB 0x01 CODE 13. START_DELAY_ELAPSED after
START_DELAY x 100 us in DELAY, and HICCUP_WAIT_ELAPSED after 50 ms in HICCUP_WAIT: the group enters RAMP, and its ramp
reference begins at the measured voltage. (R82, R83, R84, R85, R86) -/
def Obligations.GroupCommandsMoveTheGroup : Prop :=
  (∀ (s : State) (g : Nat), g < 4 → s.grp g = 0 → (∀ r ∈ s.lt.runs, r.1 ≠ 4) → ∃ t, exec (.groupEnable g) s = .next t ∧
    t.grp g = 1 ∧ t.getF .PHS_GRP_CTRL_EN g = 1) ∧
  (∀ (s : State) (g : Nat), g < 4 → (s.grp g = 1 ∨ s.grp g = 5) → (g = 0 → s.allDown = true) →
    ∃ t, exec (.groupDisable g) s = .next t ∧ t.grp g = 0 ∧ t.getF .PHS_GRP_CTRL_EN g = 0 ∧
    t.getF .PHS_GRP_STATUS_ATTEMPTS g = 0) ∧
  (∀ (s : State) (g : Nat), g < 4 → (s.grp g = 2 ∨ s.grp g = 3 ∨ s.grp g = 4) → (g = 0 → s.allDown = true) →
    ∃ t, exec (.groupDisable g) s = .next t ∧ t.grp g = 7 ∧ t.getF .PHS_GRP_CTRL_EN g = 0) ∧
  (∀ (s : State), 1 ≤ s.grp 0 → s.grp 0 ≤ 5 → s.allDown = false → exec (.groupDisable 0) s = .next (s.raise 0x01 13 0)) ∧
  (∀ (s : State) (g vs : Nat), g < 4 → vs < 2 ^ 13 → s.grp g = 1 →
    10000 * s.getF .PHS_GRP_SOFT_START_DELAY g ≤ s.grpFor g → ∃ t, exec (.startDelayElapsed g vs) s = .next t ∧
    t.grp g = 2 ∧ t.getF .PHS_GRP_REF_VSENSE g = vs ∧ Tbl.get 0 t.phs.rampFrom g = vs * 500 ∧
    Tbl.get 0 t.phs.rampAt g = s.time) ∧
  (∀ (s : State) (g vs : Nat), g < 4 → vs < 2 ^ 13 → s.grp g = 5 → 5000000 ≤ s.grpFor g →
    ∃ t, exec (.hiccupWaitElapsed g vs) s = .next t ∧ t.grp g = 2 ∧ t.getF .PHS_GRP_REF_VSENSE g = vs ∧
    Tbl.get 0 t.phs.rampFrom g = vs * 500 ∧ Tbl.get 0 t.phs.rampAt g = s.time)

/-- The state table of a phase group, from the ramp end to the stop. For every state and operands that meet a clause's
conditions the command answers a next state with the effect the clause names. RAMP_END, in RAMP with the ramp reference at
the target: V_sense at 90 % of the target or above gives REGULATE, below it FOLDBACK with its event, and with no live
phase LATCHED_OFF with its event. FOLDBACK_ENTRY: in REGULATE a sense below 90 % with a valley hold on a phase of the
rotation gives FOLDBACK with its event. In FOLDBACK: FOLDBACK_RECOVERY at 92 % gives REGULATE; FB_LONG after 10 ms sets
the FB_LONG event; HICCUP_ENTRY below 50 % gives HICCUP_WAIT with ATTEMPTS counted and its event, or with ATTEMPTS at 2 or
more LATCHED_OFF with its event. STOP_DELAY_ELAPSED after STOP_DELAY x 100 us lets the reference fall. STOP_RAMP_END, once
V_sense is below 5 % of its value at entry or the reference at 0 V, ends in LATCHED_OFF with a fatal cause pending and in
OFF without. ATTEMPTS_CLEAR after 1 s of REGULATE clears ATTEMPTS. How long a sense must last (2 us, 10 us) is the
sender's (log entry 3). (R82, R84, R85, R94) -/
def Obligations.GroupEventsMoveTheGroup : Prop :=
  (∀ (s : State) (g vs : Nat), g < 4 → vs < 2 ^ 13 → s.grp g = 2 → s.rampUV g = s.targetUV g → 0 < s.liveCount g →
    s.targetUV g * 90 ≤ vs * 500 * 100 → ∃ t, exec (.rampEnd g vs) s = .next t ∧ t.grp g = 3 ∧
    t.getF .PHS_GRP_REF_VSENSE g = vs) ∧
  (∀ (s : State) (g vs : Nat), g < 4 → s.grp g = 2 → s.rampUV g = s.targetUV g → 0 < s.liveCount g →
    vs * 500 * 100 < s.targetUV g * 90 → ∃ t, exec (.rampEnd g vs) s = .next t ∧ t.grp g = 4 ∧
    t.getF .PHS_GRP_EVENT_FOLDBACK g = 1) ∧
  (∀ (s : State) (g vs : Nat), g < 4 → s.grp g = 2 → s.rampUV g = s.targetUV g → s.liveCount g = 0 →
    ∃ t, exec (.rampEnd g vs) s = .next t ∧ t.grp g = 6 ∧ t.getF .PHS_GRP_EVENT_LATCHED g = 1) ∧
  (∀ (s : State) (g vs : Nat), g < 4 → s.grp g = 3 → vs * 500 * 100 < s.targetUV g * 90 →
    (∃ p ∈ s.rotation g, Tbl.get false s.phs.held p = true) → ∃ t, exec (.foldbackEntry g vs) s = .next t ∧ t.grp g = 4 ∧
    t.getF .PHS_GRP_EVENT_FOLDBACK g = 1) ∧
  (∀ (s : State) (g vs : Nat), g < 4 → s.grp g = 4 → s.targetUV g * 92 ≤ vs * 500 * 100 →
    ∃ t, exec (.foldbackRecovery g vs) s = .next t ∧ t.grp g = 3) ∧
  (∀ (s : State) (g : Nat), g < 4 → s.grp g = 4 → 1000000 ≤ s.grpFor g →
    exec (.fbLong g) s = .next (s.event .PHS_GRP_EVENT_FB_LONG g 0x01 g)) ∧
  (∀ (s : State) (g vs : Nat), g < 4 → s.grp g = 4 → vs * 500 * 100 < s.targetUV g * 50 →
    s.getF .PHS_GRP_STATUS_ATTEMPTS g < 2 → ∃ t, exec (.hiccupEntry g vs) s = .next t ∧ t.grp g = 5 ∧
    t.getF .PHS_GRP_STATUS_ATTEMPTS g = s.getF .PHS_GRP_STATUS_ATTEMPTS g + 1 ∧ t.getF .PHS_GRP_EVENT_HICCUP g = 1) ∧
  (∀ (s : State) (g vs : Nat), g < 4 → s.grp g = 4 → vs * 500 * 100 < s.targetUV g * 50 →
    2 ≤ s.getF .PHS_GRP_STATUS_ATTEMPTS g → ∃ t, exec (.hiccupEntry g vs) s = .next t ∧ t.grp g = 6 ∧
    t.getF .PHS_GRP_EVENT_LATCHED g = 1) ∧
  (∀ (s : State) (g : Nat), g < 4 → s.grp g = 7 → Tbl.get false s.phs.stopGo g = false →
    10000 * s.getF .PHS_GRP_SOFT_STOP_DELAY g ≤ s.grpFor g → ∃ t, exec (.stopDelayElapsed g) s = .next t ∧
    Tbl.get false t.phs.stopGo g = true ∧ Tbl.get 0 t.phs.rampAt g = s.time ∧ t.grp g = 7) ∧
  (∀ (s : State) (g vs : Nat), g < 4 → s.grp g = 7 → Tbl.get false s.phs.stopGo g = true →
    (20 * vs < Tbl.get 0 s.phs.vEntry g ∨ s.rampUV g = 0) → s.boot.blockStop = false →
    ∃ t, exec (.stopRampEnd g vs) s = .next t ∧ (t.grp g = if Tbl.get false s.phs.fatal g then 6 else 0) ∧
    t.getF .PHS_GRP_REF_VREF g = 0) ∧
  (∀ (s : State) (g : Nat), g < 4 → s.grp g = 3 → 100000000 ≤ s.grpFor g →
    exec (.attemptsClear g) s = .next (s.setF .PHS_GRP_STATUS_ATTEMPTS g 0))

/-- What the commands of one phase do. For every state and operands that meet a clause's conditions the command answers a
next state with the effect the clause names. PHASE_PULSE, in RAMP, REGULATE, FOLDBACK or STOP_RAMP, with a next phase that
is live and that no valley hold, off-time, spacing or ramp start holds: one pulse of the code of R68 at its start to that
phase, which conducts as the group's state says, and its position and angle are stored. VALLEY_LIMIT_UPDATE and
VALLEY_HOLD compute the limit of R80 and the hold of R79. PULSE_RISE_REPORT: a rise clears both counts; the sixteenth
report in a row with neither rise nor ripple drops a live phase open with its event and a loss counted, and the sixteenth
with ripple alone declares its sense failed. PHASE_SENSE_DISABLE puts the declared phase in SENSE_DISABLED with its trim
held. TMON_HOT_FORCE at code 165 or more on a pair that is not LOST: trim -64, the flag and the event. PHASE_DISABLE puts
a live phase in state 4 with its trim discarded. PHASE_CHECK_START of a disabled phase in states 2 to 4 and PHASE_READMIT
of one in state 2 or 3, with the group in REGULATE, begin its check at trim -64. PHASE_CHECK_END: a phase without a fault
becomes LIVE with trim 0, and one with a fault returns to the state it came from with a loss counted. (R68, R69, R71, R73,
R79, R80, R83, R87, R88, R89, R92, R93) -/
def Obligations.PhasesTakePulsesAndFail : Prop :=
  (∀ (s : State) (g p : Nat), g < 4 → (s.grp g = 2 ∨ s.grp g = 3 ∨ s.grp g = 4 ∨ s.grp g = 7) → s.nextPhase g = some p →
    s.ph p = 1 → s.givesPulse g p = true → ∃ t, exec (.phasePulse g) s = .next t ∧
    t.out = s.out ++ [.pulse p (pulseCode ((s.updTon g).getF .PHS_GRP_TON_TON_BASE g) (s.getS .PHS_PH_STATUS_TRIM p))
      (s.pulseStart g) (s.conduction g)] ∧ t.getF .PHS_GRP_STATUS_ROT_POS g = (p - s.cfg.table.groupFirst g) % 128 ∧
    t.getF .PHS_GRP_STATUS_ROT_ANGLE g = ((s.cfg.table.groupPhases g).filter (fun q => decide (s.ph q = 1 ∧ q <
      p))).length * 64 / ((s.cfg.table.groupPhases g).filter (fun q => decide (s.ph q = 1))).length % 64) ∧
  (∀ (s : State) (g vs : Nat), g < 4 → ∃ t, exec (.valleyLimitUpdate g vs) s = .next t ∧
    Tbl.get 0 t.phs.valley g = valleyLimit (s.getF .PHS_GRP_OCL_VALLEY_HI g) (s.getF .PHS_GRP_OCL_VALLEY_LO g) (s.foldF
      vs (s.targetUV g)).1 ∧ t.getF .PHS_GRP_REF_VSENSE g = vs % 2 ^ 13) ∧
  (∀ (s : State) (p : Nat) (imon : Int), s.cfg.populated p = true → ∃ t, exec (.valleyHold p imon) s = .next t ∧
    Tbl.get false t.phs.held p = decide (((Tbl.get 0 s.phs.valley (s.cfg.table.phaseGroup p) * 16 : Nat) : Int) < imon)) ∧
  (∀ (s : State) (p : Nat), s.cfg.populated p = true → s.checksRun (s.cfg.table.phaseGroup p) = true → s.ph p = 1 →
    ∃ t, exec (.pulseRiseReport p true false) s = .next t ∧ (t.phTest p).openRun = 0 ∧ (t.phTest p).senseRun = 0 ∧
    t.ph p = 1) ∧
  (∀ (s : State) (p : Nat), s.cfg.populated p = true → s.checksRun (s.cfg.table.phaseGroup p) = true → s.ph p = 1 →
    (s.phTest p).openRun = 15 → ∃ t, exec (.pulseRiseReport p false false) s = .next t ∧ t.ph p = 2 ∧
    t.getF .PHS_GRP_EVENT_PHASE_OPEN (s.cfg.table.phaseGroup p) = 1 ∧
    t.getF .PHS_PH_STATUS_LOSS_COUNT p = min (s.getF .PHS_PH_STATUS_LOSS_COUNT p + 1) (2 ^ Fld.width
      .PHS_PH_STATUS_LOSS_COUNT - 1)) ∧
  (∀ (s : State) (p : Nat), s.cfg.populated p = true → s.checksRun (s.cfg.table.phaseGroup p) = true → s.ph p = 1 →
    (s.phTest p).senseRun = 15 → (s.phTest p).openRun < 15 → ∃ t, exec (.pulseRiseReport p false true) s = .next t ∧
    (t.phTest p).declared = true ∧ t.ph p = 1) ∧
  (∀ (s : State) (p : Nat), s.cfg.populated p = true → s.ph p = 1 → (s.phTest p).declared = true →
    ∃ t, exec (.phaseSenseDisable p) s = .next t ∧ t.ph p = 3 ∧
    t.getF .PHS_PH_STATUS_TRIM p = s.getF .PHS_PH_STATUS_TRIM p % 2 ^ Fld.width .PHS_PH_STATUS_TRIM) ∧
  (∀ (s : State) (p tmon : Nat), s.cfg.populated p = true → 165 ≤ tmon →
    s.getF .ADC_PAIR_STATUS_STATE (chHome (96 + p) / 2) ≠ 3 → ∃ t, exec (.tmonHotForce p tmon) s = .next t ∧
    t.getS .PHS_PH_STATUS_TRIM p = -64 ∧ t.getF .PHS_PH_STATUS_TMON_HOT p = 1 ∧
    t.getF .PHS_GRP_EVENT_TMON_HOT (s.cfg.table.phaseGroup p) = 1) ∧
  (∀ (s : State) (p : Nat), p < s.cfg.table.phTotal → s.ph p = 1 → ∃ t, exec (.phaseDisable p) s = .next t ∧
    t.getF .PHS_PH_CTRL_DISABLE p = 1 ∧ t.ph p = 4 ∧ t.getF .PHS_PH_STATUS_TRIM p = 0) ∧
  (∀ (s : State) (p : Nat), p < s.cfg.table.phTotal → s.isSet .PHS_PH_CTRL_DISABLE p = true →
    s.grp (s.cfg.table.phaseGroup p) = 3 → 2 ≤ s.ph p → s.ph p ≤ 4 → ∃ t, exec (.phaseCheckStart p) s = .next t ∧
    t.getF .PHS_PH_CTRL_DISABLE p = 0 ∧ t.ph p = 5 ∧ t.getS .PHS_PH_STATUS_TRIM p = -64) ∧
  (∀ (s : State) (p : Nat), p < s.cfg.table.phTotal → (s.ph p = 2 ∨ s.ph p = 3) → s.grp (s.cfg.table.phaseGroup p) = 3 →
    ∃ t, exec (.phaseReadmit p) s = .next t ∧ t.ph p = 5 ∧ t.getS .PHS_PH_STATUS_TRIM p = -64 ∧
    (t.phTest p).origin = s.ph p) ∧
  (∀ (s : State) (p : Nat), p < s.cfg.table.phTotal → s.ph p = 5 → ∃ t, exec (.phaseCheckEnd p) s = .next t ∧
    ((s.phTest p).faulty = false → t.ph p = 1) ∧
    ((s.phTest p).faulty = true → (s.phTest p).origin < 5 → t.ph p = (s.phTest p).origin ∧ t.getF
      .PHS_PH_STATUS_LOSS_COUNT p = min (s.getF .PHS_PH_STATUS_LOSS_COUNT p + 1) (2 ^ Fld.width .PHS_PH_STATUS_LOSS_COUNT
      - 1)) ∧ t.getF .PHS_PH_STATUS_TRIM p = 0)

/-- The PMBus host and the supervision of the intermediate bus. For every state and operands that meet a clause's
conditions the command answers a next state with the effect the clause names. PMBUS_POLL_CYCLE, with polling enabled, the
bus not held and no PMBus test running, queues the four fixed reads and the next of the rotation, and starts the first at
once on an idle segment. PMBUS_TRANSACTION_DONE of the read in front: acknowledged and with the right PEC it stores the
word in the register of its command; a bad one is retried once, and a second failure leaves every register as it was and
counts PEC_ERRORS; the read then leaves the queue. PMBUS_BUS_HELD on a bus not held sets HELD, raises SUB 0x01 CODE 9 and
drops the reads; PMBUS_BUS_RESET drives a bus reset while it is held; PMBUS_BUS_FREE clears HELD, counts the reset and
reads VOUT_MODE first. BUS_OUT_OF_RANGE, in a contained range of R45, sets BUS_OOR and raises SUB 0x01 CODE 11. BUS_FATAL,
in a fatal range, raises CODE 12, puts every group in RAMP, REGULATE or FOLDBACK into STOP_RAMP with a fatal cause and
every group in DELAY or HICCUP_WAIT into LATCHED_OFF, and every domain in LIVE or DERATED into QUIESCING with FENCED as
its end state. The PEC is that of SMBus (the model's presumption, log entry 102). (R45, R82, R95, R96, R97, R98, R99,
R127) -/
def Obligations.PmbusHostAndBusSupervision : Prop :=
  (∀ (s : State), s.isSet .PHS_PMB_CTRL_POLL_EN 0 = true → s.isSet .PHS_PMB_STATUS_HELD 0 = false →
    (∀ r ∈ s.lt.runs, r.1 ≠ 5) → ∃ t, exec (.pmbusPollCycle) s = .next t ∧
    t.phs.pmbReads = s.phs.pmbReads ++ [0x79, 0x8B, 0x8C, 0x8D, pmbRotating s.phs.pmbRot] ∧
    t.phs.pmbRot = (s.phs.pmbRot + 1) % 4 ∧ t.phs.pmbCycle = true ∧
    (s.phs.pmbReads = [] → t.out = s.out ++ [.pmbusRead (s.getF .PHS_PMB_CTRL_ADDR 0) (s.isSet .PHS_PMB_CTRL_SPEED 0)
      0x79 2])) ∧
  (∀ (s : State) (data cmd : Nat) (rest : List Nat), s.phs.pmbReads = cmd :: rest →
    ∃ t, exec (.pmbusTransactionDone true data (pmbPec (s.getF .PHS_PMB_CTRL_ADDR 0) cmd data)) s = .next t ∧
    (cmd = 0x79 → t.getF .PHS_PMB_DATA3_STATUS_WORD 0 = data % 2 ^ 16) ∧
    (cmd = 0x8B → t.getF .PHS_PMB_DATA1_READ_VOUT 0 = data % 2 ^ 16) ∧
    (cmd = 0x8C → t.getF .PHS_PMB_DATA1_READ_IOUT 0 = data % 2 ^ 16) ∧
    (cmd = 0x8D → t.getF .PHS_PMB_DATA2_READ_TEMPERATURE_1 0 = data % 2 ^ 16) ∧
    (cmd = 0x88 → t.getF .PHS_PMB_DATA0_READ_VIN 0 = data % 2 ^ 16) ∧
    (cmd = 0x89 → t.getF .PHS_PMB_DATA0_READ_IIN 0 = data % 2 ^ 16) ∧
    (cmd = 0x96 → t.getF .PHS_PMB_DATA3_READ_POUT 0 = data % 2 ^ 16) ∧
    (cmd = 0x8E → t.getF .PHS_PMB_DATA2_READ_TEMPERATURE_2 0 = data % 2 ^ 16) ∧
    (cmd = 0x20 → t.getF .PHS_PMB_STATUS_VOUT_MODE 0 = data % 2 ^ 8 ∧ t.getF .PHS_PMB_STATUS_LINEAR_OK 0 = if data / 32 %
      8 = 0 then 1 else 0) ∧ t.phs.pmbReads = rest) ∧
  (∀ (s : State) (ack : Bool) (data pec cmd : Nat) (rest : List Nat), s.phs.pmbReads = cmd :: rest →
    (ack = false ∨ pec ≠ pmbPec (s.getF .PHS_PMB_CTRL_ADDR 0) cmd data) → s.phs.pmbRetried = false →
    ∃ t, exec (.pmbusTransactionDone ack data pec) s = .next t ∧ t.phs.pmbReads = s.phs.pmbReads ∧
    t.phs.pmbRetried = true ∧
    t.out = s.out ++ [.pmbusRead (s.getF .PHS_PMB_CTRL_ADDR 0) (s.isSet .PHS_PMB_CTRL_SPEED 0) cmd (pmbBytes cmd)] ∧
    t.fields = s.fields) ∧
  (∀ (s : State) (ack : Bool) (data pec cmd : Nat) (rest : List Nat), s.phs.pmbReads = cmd :: rest →
    (ack = false ∨ pec ≠ pmbPec (s.getF .PHS_PMB_CTRL_ADDR 0) cmd data) → s.phs.pmbRetried = true →
    ∃ t, exec (.pmbusTransactionDone ack data pec) s = .next t ∧
    t.getF .PHS_PMB_STATUS_PEC_ERRORS 0 = min (s.getF .PHS_PMB_STATUS_PEC_ERRORS 0 + 1) (2 ^ Fld.width
      .PHS_PMB_STATUS_PEC_ERRORS - 1) ∧
    (∀ f ∈ ([.PHS_PMB_STATUS_VOUT_MODE, .PHS_PMB_STATUS_LINEAR_OK, .PHS_PMB_DATA3_STATUS_WORD, .PHS_PMB_DATA1_READ_VOUT,
      .PHS_PMB_DATA1_READ_IOUT, .PHS_PMB_DATA2_READ_TEMPERATURE_1, .PHS_PMB_DATA0_READ_VIN, .PHS_PMB_DATA0_READ_IIN,
      .PHS_PMB_DATA3_READ_POUT, .PHS_PMB_DATA2_READ_TEMPERATURE_2] : List Fld), t.getF f 0 = s.getF f 0) ∧
    t.phs.pmbReads = rest ∧ t.phs.pmbRetried = false) ∧
  (∀ (s : State), s.isSet .PHS_PMB_STATUS_HELD 0 = false → ∃ t, exec (.pmbusBusHeld) s = .next t ∧
    t.getF .PHS_PMB_STATUS_HELD 0 = 1 ∧ t.phs.pmbReads = [] ∧ t.raiseQ = (s.raise 0x01 9 0).raiseQ) ∧
  (∀ (s : State), s.isSet .PHS_PMB_STATUS_HELD 0 = true → exec (.pmbusBusReset) s = .next (s.emit .pmbusReset)) ∧
  (∀ (s : State), s.isSet .PHS_PMB_STATUS_HELD 0 = true → ∃ t, exec (.pmbusBusFree) s = .next t ∧
    t.getF .PHS_PMB_STATUS_HELD 0 = 0 ∧
    t.getF .PHS_PMB_STATUS_BUS_RESETS 0 = min (s.getF .PHS_PMB_STATUS_BUS_RESETS 0 + 1) (2 ^ Fld.width
      .PHS_PMB_STATUS_BUS_RESETS - 1) ∧ t.phs.pmbReads = [0x20] ∧
    t.out = s.out ++ [.pmbusRead (s.getF .PHS_PMB_CTRL_ADDR 0) (s.isSet .PHS_PMB_CTRL_SPEED 0) 0x20 1]) ∧
  (∀ (s : State) (vbus : Nat), ((9000 ≤ vbus ∧ vbus < 10800) ∨ (13200 < vbus ∧ vbus ≤ 14000)) →
    ∃ t, exec (.busOutOfRange vbus) s = .next t ∧ t.getF .GLB_VSTK_STATUS_BUS_OOR 0 = 1 ∧
    t.raiseQ = (s.raise 0x01 11 0).raiseQ) ∧
  (∀ (s : State) (vbus g : Nat), (vbus < 9000 ∨ 14000 < vbus) → g < 4 → (s.grp g = 2 ∨ s.grp g = 3 ∨ s.grp g = 4) →
    ∃ t, exec (.busFatal vbus) s = .next t ∧ t.grp g = 7 ∧ Tbl.get false t.phs.fatal g = true ∧
    (s.raise 0x01 12 0).raiseQ <+: t.raiseQ) ∧
  (∀ (s : State) (vbus d : Nat), (vbus < 9000 ∨ 14000 < vbus) → d < s.cfg.table.domains →
    (s.domSt d = 2 ∨ s.domSt d = 3) → ∃ t, exec (.busFatal vbus) s = .next t ∧ t.domSt d = 4 ∧
    Tbl.get false t.dom.fenceReq d = true) ∧
  (∀ (s : State) (vbus g : Nat), (vbus < 9000 ∨ 14000 < vbus) → g < 4 → (s.grp g = 1 ∨ s.grp g = 5) →
    ∃ t, exec (.busFatal vbus) s = .next t ∧ t.grp g = 6 ∧ t.getF .PHS_GRP_EVENT_LATCHED g = 1)

/-- The state table of a regulator cell. For every state and operands that meet a clause's conditions the command answers
a next state with the effect the clause names. CELL_LIMIT_REACHED: a cell in ON enters LIMITED; CELL_LIMIT_RELEASE: one in
LIMITED returns to ON. CELL_LIMIT_FOLD of a cell in PRECHARGE, ON or LIMITED sets its limit to 2.0 A, CELL_LIMIT_RESTORE
to 3.0 A. CELL_FAILURE of causes 1 to 4 in states 0 to 3 (cause 1 in ON only) gives FAILED with the cause, one loss
counted, CELL_FAIL set and the available cells counted again; a LIVE domain that is left with FENCE_AT cells or fewer
enters QUIESCING with a fence request and the cell-loss fence. CELL_ISOLATION_CONFIRMED gives ISOLATED; CELL_ISO_FAIL
leaves FAILED with cause 5, raises SUB 0x02 CODE 8 and fences a domain in states 2 to 4. CELL_ISOLATE takes a cell
straight to ISOLATED with cause 7 and no loss; CELL_UNISOLATE of such a cell and CELL_READMIT of an isolated cell start
its check. CELL_CHECK_END: a failed check keeps ISOLATED with cause 6 and one loss; a passed one, with no domain shut by
the Goose, gives PRECHARGE in a powered domain and OFF in a DARK one. PRECHARGE_COMPLETE gives ON. (R105, R109, R110,
R111, R112, R113) -/
def Obligations.CellCommandsMoveTheCell : Prop :=
  (∀ (s : State) (c : Nat), c < s.cfg.table.cells → s.cellSt c = 2 → ∃ t, exec (.cellLimitReached c) s = .next t ∧
    t.cellSt c = 3) ∧
  (∀ (s : State) (c : Nat), c < s.cfg.table.cells → s.cellSt c = 3 → ∃ t, exec (.cellLimitRelease c) s = .next t ∧
    t.cellSt c = 2) ∧
  (∀ (s : State) (c : Nat), c < s.cfg.table.cells → 1 ≤ s.cellSt c → s.cellSt c ≤ 3 →
    exec (.cellLimitFold c) s = .next (s.setF .CEL_MEAS_I_LIM c 2000)) ∧
  (∀ (s : State) (c : Nat), c < s.cfg.table.cells →
    exec (.cellLimitRestore c) s = .next (s.setF .CEL_MEAS_I_LIM c 3000)) ∧
  (∀ (s : State) (c cause : Nat), c < s.cfg.table.cells → s.cellSt c ≤ 3 → 1 ≤ cause → cause ≤ 4 →
    (cause = 1 → s.cellSt c = 2) → ∃ t, exec (.cellFailure c cause) s = .next t ∧ t.cellSt c = 4 ∧
    t.getF .CEL_STATUS_FAIL_CAUSE c = cause ∧
    t.getF .CEL_STATUS_LOSS_COUNT c = min (s.getF .CEL_STATUS_LOSS_COUNT c + 1) (2 ^ Fld.width .CEL_STATUS_LOSS_COUNT -
      1) ∧ t.getF .DOM_EVENT_CELL_FAIL (s.cfg.table.cellDom c) = 1 ∧
    t.getF .DOM_STATUS_CELLS_OK (s.cfg.table.cellDom c) = t.navail (s.cfg.table.cellDom c)) ∧
  (∀ (s : State) (c cause : Nat), c < s.cfg.table.cells → s.cellSt c ≤ 3 → 1 ≤ cause → cause ≤ 4 →
    (cause = 1 → s.cellSt c = 2) → s.domSt (s.cfg.table.cellDom c) = 2 →
    s.navail (s.cfg.table.cellDom c) ≤ s.fenceAt (s.cfg.table.domClass (s.cfg.table.cellDom c)) + 1 →
    ∃ t, exec (.cellFailure c cause) s = .next t ∧ t.domSt (s.cfg.table.cellDom c) = 4 ∧
    Tbl.get false t.dom.fenceReq (s.cfg.table.cellDom c) = true ∧
    Tbl.get false t.dom.lossFence (s.cfg.table.cellDom c) = true) ∧
  (∀ (s : State) (c : Nat), c < s.cfg.table.cells → s.cellSt c = 4 → ∃ t, exec (.cellIsolationConfirmed c) s = .next t ∧
    t.cellSt c = 5) ∧
  (∀ (s : State) (c : Nat), c < s.cfg.table.cells → s.cellSt c = 4 → ∃ t, exec (.cellIsoFail c) s = .next t ∧
    t.cellSt c = 4 ∧ t.getF .CEL_STATUS_FAIL_CAUSE c = 5 ∧
    t.getF .CEL_STATUS_LOSS_COUNT c = s.getF .CEL_STATUS_LOSS_COUNT c ∧
    (s.raise 0x02 8 (s.cfg.table.cellDom c)).raiseQ <+: t.raiseQ ∧
    (2 ≤ s.domSt (s.cfg.table.cellDom c) → s.domSt (s.cfg.table.cellDom c) ≤ 4 → t.domSt (s.cfg.table.cellDom c) = 4 ∧
      Tbl.get false t.dom.fenceReq (s.cfg.table.cellDom c) = true)) ∧
  (∀ (s : State) (c : Nat), c < s.cfg.table.cells → ∃ t, exec (.cellIsolate c) s = .next t ∧ t.cellSt c = 5 ∧
    t.getF .CEL_CTRL_ISOLATE c = 1 ∧ t.getF .CEL_STATUS_FAIL_CAUSE c = 7 ∧
    t.getF .CEL_STATUS_LOSS_COUNT c = s.getF .CEL_STATUS_LOSS_COUNT c ∧
    t.getF .DOM_EVENT_CELL_FAIL (s.cfg.table.cellDom c) = s.getF .DOM_EVENT_CELL_FAIL (s.cfg.table.cellDom c)) ∧
  (∀ (s : State) (c : Nat), c < s.cfg.table.cells → s.cellSt c = 5 → s.getF .CEL_STATUS_FAIL_CAUSE c = 7 →
    ∃ t, exec (.cellUnisolate c) s = .next t ∧ t.getF .CEL_CTRL_ISOLATE c = 0 ∧ Tbl.get false t.dom.checking c = true ∧
    t.cellSt c = 5) ∧
  (∀ (s : State) (c : Nat), c < s.cfg.table.cells → s.cellSt c = 5 →
    exec (.cellReadmit c) s = .next (s.setChecking c true)) ∧
  (∀ (s : State) (c : Nat), c < s.cfg.table.cells → s.cellSt c = 5 → Tbl.get false s.dom.checking c = true →
    ∃ t, exec (.cellCheckEnd c false) s = .next t ∧ t.cellSt c = 5 ∧ t.getF .CEL_STATUS_FAIL_CAUSE c = 6 ∧
    t.getF .CEL_STATUS_LOSS_COUNT c = min (s.getF .CEL_STATUS_LOSS_COUNT c + 1) (2 ^ Fld.width .CEL_STATUS_LOSS_COUNT -
      1) ∧ t.getF .DOM_EVENT_CELL_FAIL (s.cfg.table.cellDom c) = 1) ∧
  (∀ (s : State) (c : Nat), c < s.cfg.table.cells → s.cellSt c = 5 → Tbl.get false s.dom.checking c = true →
    s.flt.gooseShut = [] → ∃ t, exec (.cellCheckEnd c true) s = .next t ∧
    (s.powered (s.cfg.table.cellDom c) = true → t.cellSt c = 1) ∧ (s.domSt (s.cfg.table.cellDom c) = 0 → t.cellSt c = 0) ∧
    Tbl.get false t.dom.checking c = false) ∧
  (∀ (s : State) (c : Nat), c < s.cfg.table.cells → s.cellSt c = 1 → ∃ t, exec (.prechargeComplete c) s = .next t ∧
    t.cellSt c = 2)

/-- Waking and quiescing of a domain. For every state and operands that meet a clause's conditions the command answers a
next state with the effect the clause names. PRECHARGE_COMPLETE of the last available cell of an admitted waking domain:
the domain goes LIVE, or DERATED where it is derated. WAKE_HEADROOM_MET of a waking domain with a tree entry, not
admitted, with no wake request waiting and the stack minimum at or above H - 2.5 mV: its wake request joins the queue of
the Rooster. WAKE_LATE in WAKING sets the WAKE_LATE event. In QUIESCING before the ramp-down QUIESCE_ACK starts it, and
QUIESCE_TIMEOUT forces it and sets the QTMO event. RAMP_DOWN_END, with no ordered block reset in progress: FENCED with a
fence request pending; without one DARK while POWER is 0, and WAKING with WAKE_WAIT while POWER is 1 and the domain may be
powered; in the first two cases every cell of the domain that has not failed is OFF and READY is 0. (R109, R118, R119,
R125, R126, R127, R197) -/
def Obligations.WakingDomainGoesLive : Prop :=
  (∀ (s : State) (c : Nat), c < s.cfg.table.cells → s.cellSt c = 1 → s.domSt (s.cfg.table.cellDom c) = 1 →
    Tbl.get false s.dom.admitted (s.cfg.table.cellDom c) = true → c ∈ s.cfg.table.domCells (s.cfg.table.cellDom c) →
    (∀ q ∈ s.cfg.table.domCells (s.cfg.table.cellDom c), q = c ∨ s.cellSt q = 2 ∨ 4 ≤ s.cellSt q) →
    ∃ t, exec (.prechargeComplete c) s = .next t ∧
    (t.domSt (s.cfg.table.cellDom c) = if s.derated (s.cfg.table.cellDom c) then 3 else 2)) ∧
  (∀ (s : State) (d : Nat), s.domSt d = 1 → Tbl.get false s.dom.admitted d = false →
    s.start.queue.any (fun r => decide (r.dom = d) && r.wake) = false →
    s.dom.hrDom.any (fun p => decide (p.1 = d)) = true → s.wakeHeadroom = true →
    ∃ t, exec (.wakeHeadroomMet d) s = .next t ∧ t.start.queue = s.start.queue ++ [s.wakeReq d] ∧ t.domSt d = 1) ∧
  (∀ (s : State) (d : Nat), s.domSt d = 1 → exec (.wakeLate d) s = .next (s.event .DOM_EVENT_WAKE_LATE d 0x02 d)) ∧
  (∀ (s : State) (d : Nat), s.domSt d = 4 → Tbl.get false s.dom.ramping d = false →
    ∃ t, exec (.quiesceAck d) s = .next t ∧ Tbl.get false t.dom.ramping d = true ∧ t.domSt d = 4 ∧
    Tbl.get false t.dom.forced d = Tbl.get false s.dom.forced d) ∧
  (∀ (s : State) (d : Nat), s.domSt d = 4 → Tbl.get false s.dom.ramping d = false →
    ∃ t, exec (.quiesceTimeout d) s = .next t ∧ Tbl.get false t.dom.ramping d = true ∧
    Tbl.get false t.dom.forced d = true ∧ t.getF .DOM_EVENT_QTMO d = 1 ∧
    t.raiseQ = (s.event .DOM_EVENT_QTMO d 0x02 d).raiseQ) ∧
  (∀ (s : State) (d : Nat), s.domSt d = 4 → Tbl.get false s.dom.ramping d = true → s.boot.blockStop = false →
    (s.isSet .DOM_CTRL_POWER d = false ∨ Tbl.get false s.dom.fenceReq d = true) → ∃ t, exec (.rampDownEnd d) s = .next t ∧
    (t.domSt d = if Tbl.get false s.dom.fenceReq d then 5 else 0) ∧ t.getF .DOM_STATUS_READY d = 0 ∧
    (∀ c ∈ s.cfg.table.domCells d, s.cellSt c ≤ 3 → t.cellSt c = 0)) ∧
  (∀ (s : State) (d : Nat), s.domSt d = 4 → Tbl.get false s.dom.ramping d = true → s.boot.blockStop = false →
    s.isSet .DOM_CTRL_POWER d = true → Tbl.get false s.dom.fenceReq d = false → s.mayPower d = true →
    ∃ t, exec (.rampDownEnd d) s = .next t ∧ t.domSt d = 1 ∧ t.getF .DOM_STATUS_WAKE_WAIT d = 1)

/-- Droop samples, the droop floor, the stack gate and the recheck of a sensor. For every state and operands that meet a
clause's conditions the command answers a next state with the effect the clause names. DROOP_SAMPLE, at a tick of R38: a
reading of a sensor of a DARK domain is stored saturated to its field and VALID stays; one reading of a valid sensor of a
LIVE domain without a floor at DROOP_TRIP or above, in no run of the tests of R129, raises the full floor, closes the gate
of the domain and sets DROOP. DROOP_FLOOR_FALL, with no reading that holds the floor: it falls one code with the gate
closed, and with the last code it is gone and the gate opens unless another cause closes it. STACK_GATE_REOPEN, with the
minimum 5 mV above STACK_TRIP, opens the stack gate. DROOP_SENSOR_RECHECK of an invalid sensor starts its tests again, and
DROOP_RECHECK_PASS of one under recheck makes it valid and counts the valid sensors again. HEADROOM_OFFSET_UPDATE writes
the offset of R56 to DOM_MEAS.OFFSET; the cap at 255 is the model's choice (log entry 113). (R38, R53, R56, R129, R130,
R131) -/
def Obligations.DroopAndHeadroomSupervision : Prop :=
  (∀ (s : State) (x : Nat) (h dr : Int), s.onTick 10 = true → x < s.cfg.table.dsens →
    s.domSt (s.cfg.table.sensorDom x) = 0 →
    ∃ t, exec (.droopSample [{ sensor := x, headroom := h, droop := dr }] [] []) s = .next t ∧
    t.getS .DOM_DS_HEADROOM x = clampI (-2048) 2047 h ∧ t.getF .DOM_DS_DROOP x = (clampI 0 255 dr).toNat ∧
    t.getF .DOM_DS_VALID x = s.getF .DOM_DS_VALID x) ∧
  (∀ (s : State) (x : Nat) (dr : Int), s.onTick 10 = true → x < s.cfg.table.dsens →
    s.domSt (s.cfg.table.sensorDom x) = 2 → s.isSet .DOM_DS_VALID x = true → (s.dsRunOf x).range = 0 →
    (s.dsRunOf x).stuck = 0 → (s.dsRunOf x).disagree = 0 → (s.droopTrip (s.cfg.table.sensorDom x) : Int) ≤ dr → dr ≤ 255 →
    Tbl.get 0 s.dom.floor (s.cfg.table.sensorDom x) = 0 →
    ∃ t, exec (.droopSample [{ sensor := x, headroom := 100, droop := dr }] [] []) s = .next t ∧
    Tbl.get 0 t.dom.floor (s.cfg.table.sensorDom x) = s.droopBoost (s.cfg.table.sensorDom x) + 1 ∧
    t.getF .DOM_EVENT_DROOP (s.cfg.table.sensorDom x) = 1 ∧
    t.getF .DOM_STATUS_GATE_CLOSED (s.cfg.table.sensorDom x) = 1) ∧
  (∀ (s : State) (d : Nat), 2 < Tbl.get 0 s.dom.floor d → s.droopHolds d = false →
    ∃ t, exec (.droopFloorFall d) s = .next t ∧ Tbl.get 0 t.dom.floor d = Tbl.get 0 s.dom.floor d - 1 ∧
    t.getF .DOM_STATUS_GATE_CLOSED d = 1) ∧
  (∀ (s : State) (d : Nat), 1 ≤ Tbl.get 0 s.dom.floor d → Tbl.get 0 s.dom.floor d ≤ 2 → s.droopHolds d = false →
    ∃ t, exec (.droopFloorFall d) s = .next t ∧ Tbl.get 0 t.dom.floor d = 0 ∧ t.getF .DOM_STATUS_DROOP_FLOOR d = 0 ∧
    (t.getF .DOM_STATUS_GATE_CLOSED d = if s.dom.gateAll || s.dom.stackGate then 1 else 0)) ∧
  (∀ (s : State) (d : Nat), s.dom.stackGate = true → s.dom.hrGate.all (fun h => decide (s.stackTrip + 10 ≤ h)) = true →
    d < s.cfg.table.domains → ∃ t, exec (.stackGateReopen) s = .next t ∧ t.dom.stackGate = false ∧
    (t.getF .DOM_STATUS_GATE_CLOSED d = if s.dom.gateAll || decide (Tbl.get 0 s.dom.floor d ≠ 0) then 1 else 0)) ∧
  (∀ (s : State) (x : Nat), x < s.cfg.table.dsens → s.isSet .DOM_DS_VALID x = false →
    ∃ t, exec (.droopSensorRecheck x) s = .next t ∧ t.dsRunOf x = { SensorRun.clear with recheck := true } ∧
    t.getF .DOM_DS_VALID x = 0) ∧
  (∀ (s : State) (x : Nat), x < s.cfg.table.dsens → s.isSet .DOM_DS_VALID x = false → (s.dsRunOf x).recheck = true →
    ∃ t, exec (.droopRecheckPass x) s = .next t ∧ t.getF .DOM_DS_VALID x = 1 ∧ (t.dsRunOf x).recheck = false ∧
    t.getF .DOM_STATUS_DS_VALID (s.cfg.table.sensorDom x) = (t.validSensors (s.cfg.table.sensorDom x)).length) ∧
  (∀ (s : State) (d : Nat), d < s.cfg.table.domains → ∃ t, exec (.headroomOffsetUpdate d) s = .next t ∧
    t.getF .DOM_MEAS_OFFSET d = min 255 (s.offsetOf d))

/-- What an evaluation of the control engine does to an element. For every state and operands that meet a clause's
conditions the command answers a next state with the effect the clause names. FAST_ELEMENT_EVALUATION of a presenting
element of a fast slot that is not open, at its first sample in a period of 1 us: with valid inputs its last input,
evaluation count and the slot's stamp are stored; for the only element of the slope actuator, without profile and
compensation, not resuming, not tracking, not frozen and with a gain table that is not all 0, integrator, output and act
follow the arithmetic of R145; with an invalid input it turns invalid and keeps the rest. An open slot is not evaluated.
MEDIUM_EVALUATION at a medium tick and SLOW_EVALUATION at a slow tick with no change waiting for it, where one slot is in
the class, store the same of its element; where its one evaluation is late and misses, the element and the stamp stay.
(R38, R134, R136, R137, R138, R144, R145, R157, R159) -/
def Obligations.EngineEvaluatesElements : Prop :=
  (∀ (s : State) (n k : Nat) (l : List Int) (aux : List (Int × Nat × Int)), s.slotClass n = 1 → s.eng.running = true →
    k < s.slotElems n → k < 256 → (s.elem n k).started = true → Tbl.get false s.eng.opened n = false →
    (s.elem n k).fastAt ≠ some (s.time / 100) → s.sources (s.getF .CE_SD_IN_IN_KIND n) (s.primaries n k) = some l →
    s.auxes n k = some aux → ∃ t, exec (.fastElementEvaluation n k) s = .next t ∧ (t.elem n k).prevX = some (l.headD 0) ∧
    (t.elem n k).invalid = false ∧
    ((t.elem n k).evals = if (s.elem n k).reopen then 1 else min 2 ((s.elem n k).evals + 1)) ∧
    t.getF .CE_SLOT_EVAL_TICK_LO n = s.time % 2 ^ 32) ∧
  (∀ (s : State) (n : Nat) (x : Int), s.slotClass n = 1 → s.slotKind n = 5 → s.eng.running = true → s.slotElems n = 1 →
    s.targets n 0 = [0] → s.presenters 5 0 = [(n, 0)] → (s.elem n 0).started = true → (s.elem n 0).reopen = false →
    (s.elem n 0).tracking = false → Tbl.get false s.eng.opened n = false → (s.elem n 0).fastAt ≠ some (s.time / 100) →
    s.getF .CE_SD_IN_IN_RED n = 0 → s.sources (s.getF .CE_SD_IN_IN_KIND n) (s.primaries n 0) = some [x] →
    s.auxes n 0 = some [] → s.isSet .CE_SD_CTRL_PROF_EN n = false → s.isSet .CE_SD_CTRL_COMP_OFF n = false →
    s.isSet .CE_SD_CTRL_COMP_RIP n = false → s.isSet .CE_SD_CTRL_SIGN n = false → s.clampFrozen n 0 = false →
    s.zeroTable n (s.getF .CE_SD_LAW_GTAB n) = false → ∃ t, exec (.fastElementEvaluation n 0) s = .next t ∧
    (t.elem n 0).integ = sat40 ((s.elem n 0).integ + sat40 (interpGain (s.gtab n (s.getF .CE_SD_LAW_GTAB n)) (sat16
      (s.elemRef n 0 - x)) * sat16 (s.elemRef n 0 - x) * 2 ^ s.getF .CE_SD_LAW_GSHIFT n)) ∧
    (t.elem n 0).y = sat16 (rne (sat40 ((t.elem n 0).integ + sat40 (s.getS .CE_SD_LAW_KP n * sat16 (s.elemRef n 0 - x) *
      2 ^ s.getF .CE_SD_LAW_PSHIFT n))) 15) ∧
    (t.elem n 0).act = actOf (s.getS .CE_SD_OUT_OUT_BASE n) (s.getF .CE_SD_MAP_OUT_SCALE n) (t.elem n 0).y) ∧
  (∀ (s : State) (n k : Nat), s.slotClass n = 1 → s.eng.running = true → k < s.slotElems n → k < 256 →
    (s.elem n k).started = true → Tbl.get false s.eng.opened n = false → (s.elem n k).fastAt ≠ some (s.time / 100) →
    s.sources (s.getF .CE_SD_IN_IN_KIND n) (s.primaries n k) = none → s.slotKind n ≠ 0 →
    ∃ t, exec (.fastElementEvaluation n k) s = .next t ∧
    t.elem n k = { s.elem n k with invalid := true, tracking := false, fastAt := some (s.time / 100) } ∧
    t.getF .CE_SLOT_EVAL_TICK_LO n = s.time % 2 ^ 32) ∧
  (∀ (s : State) (n k : Nat), s.slotClass n = 1 → Tbl.get false s.eng.opened n = true →
    exec (.fastElementEvaluation n k) s = .next (s)) ∧
  (∀ (s : State) (n : Nat) (l : List Int) (aux : List (Int × Nat × Int)), s.onTick 1000 = true → s.classSlots 2 = [n] →
    s.eng.running = true → s.slotElems n = 1 → (s.elem n 0).started = true → Tbl.get false s.eng.opened n = false →
    s.sources (s.getF .CE_SD_IN_IN_KIND n) (s.primaries n 0) = some l → s.auxes n 0 = some aux →
    ∃ t, exec (.mediumEvaluation 0) s = .next t ∧ (t.elem n 0).prevX = some (l.headD 0) ∧
    ((t.elem n 0).evals = if (s.elem n 0).reopen then 1 else min 2 ((s.elem n 0).evals + 1)) ∧
    t.getF .CE_SLOT_EVAL_TICK_LO n = s.time % 2 ^ 32) ∧
  (∀ (s : State) (n : Nat), s.onTick 1000 = true → s.classSlots 2 = [n] → s.slotElems n = 1 → s.lateWork 2 = [(n, 0)] →
    ∃ t, exec (.mediumEvaluation 1) s = .next t ∧ t.elem n 0 = s.elem n 0 ∧
    t.getF .CE_SLOT_EVAL_TICK_LO n = s.getF .CE_SLOT_EVAL_TICK_LO n) ∧
  (∀ (s : State) (n : Nat) (l : List Int) (aux : List (Int × Nat × Int)), s.onTick 100000 = true → s.eng.defer = [] →
    s.classSlots 3 = [n] → s.eng.running = true → s.slotElems n = 1 → (s.elem n 0).started = true →
    Tbl.get false s.eng.opened n = false → s.sources (s.getF .CE_SD_IN_IN_KIND n) (s.primaries n 0) = some l →
    s.auxes n 0 = some aux → ∃ t, exec (.slowEvaluation 0) s = .next t ∧ (t.elem n 0).prevX = some (l.headD 0) ∧
    ((t.elem n 0).evals = if (s.elem n 0).reopen then 1 else min 2 ((s.elem n 0).evals + 1)) ∧
    t.getF .CE_SLOT_EVAL_TICK_LO n = s.time % 2 ^ 32)

/-- Deadline misses, retired lanes, and slots opened and closed. For every state and operands that meet a clause's
conditions the command answers a next state with the effect the clause names. DEADLINE_MISS of a slot with an evaluation
that does not fit the worst-case capacity: the first of its slot sets MISSED, counts once and raises SUB 0x03 CODE 0; a
further one in the same period counts nothing more. LANE_RETIRE of a lane that is in service clears its LANE_OK bit,
lowers IN_SERVICE and raises CODE 2. SLOT_OPEN puts a slot out of evaluation, and SLOT_CLOSE of an open slot ends that and
makes its first element, where it presents, resume from its held output. (R133, R134, R157, R159, R161) -/
def Obligations.EngineSlotsAndLanes : Prop :=
  (∀ (s : State) (n : Nat), s.slotClass n ≠ 0 → (s.lateWork (s.slotClass n)).any (fun e => decide (e.1 = n)) = true →
    s.eng.missRun.find? (fun p => decide (p.1 = n)) = none → ∃ t, exec (.deadlineMiss n) s = .next t ∧
    t.getF .CE_SLOT_STATUS_MISSED n = 1 ∧
    t.getF .CE_SLOT_STATUS_MISS_COUNT n = min (s.getF .CE_SLOT_STATUS_MISS_COUNT n + 1) (2 ^ Fld.width
      .CE_SLOT_STATUS_MISS_COUNT - 1) ∧ (s.raise 0x03 0 n).raiseQ <+: t.raiseQ) ∧
  (∀ (s : State) (n run : Nat), s.slotClass n = 1 → (s.lateWork 1).any (fun e => decide (e.1 = n)) = true →
    s.eng.missRun.find? (fun p => decide (p.1 = n)) = some (n, run, s.time / 100) →
    exec (.deadlineMiss n) s = .next (s.setF .CE_SLOT_STATUS_MISSED n 1)) ∧
  (∀ (s : State) (lane : Nat), lane < 16 → bitOf (s.getF .CE_LANES_LANE_OK 0) lane = true →
    ∃ t, exec (.laneRetire lane) s = .next t ∧ bitOf (t.getF .CE_LANES_LANE_OK 0) lane = false ∧
    t.getF .CE_LANES_IN_SERVICE 0 = (s.getF .CE_LANES_IN_SERVICE 0 - 1) % 2 ^ Fld.width .CE_LANES_IN_SERVICE ∧
    (s.raise 0x03 2 lane).raiseQ <+: t.raiseQ) ∧
  (∀ (s : State) (n : Nat), n < 512 → ∃ t, exec (.slotOpen n) s = .next t ∧ Tbl.get false t.eng.opened n = true ∧
    t.getF .CE_SD_CTRL_OPEN n = 1 ∧ t.getF .CE_SLOT_STATUS_OPEN_ST n = 1) ∧
  (∀ (s : State) (n : Nat), n < 512 → Tbl.get false s.eng.opened n = true → ∃ t, exec (.slotClose n) s = .next t ∧
    Tbl.get false t.eng.opened n = false ∧ t.getF .CE_SLOT_STATUS_OPEN_ST n = 0 ∧
    ((s.elem n 0).started = true → t.elem n 0 = { s.elem n 0 with reopen := true }))

/-- Tokens, announcements, waves and pre-bias floors. For every state and operands that meet a clause's conditions the
command answers a next state with the effect the clause names. ACTIVITY_TOKEN: one whose START has passed is counted, sets
TOKEN_LATE and holds no floor; one whose START lies PREBIAS_LEAD or more ahead holds a floor over its tiles in LIVE or
DERATED that does not act yet. BARRIER_ANNOUNCEMENT: with no wave active and engines left after its tiles that are down,
it takes wave slot 0 and sets PRE_ACTIVE; with all four slots taken by other barriers it is dropped and counted.
BARRIER_CANCEL of an active wave ends it. PREBIAS_FLOOR_START of a waiting floor makes it act; PREBIAS_FLOOR_FALL of a
token's floor of 2 codes or more takes it down one code. WAVE_ARM, with the stack minimum at the raised threshold less 2.5
mV, arms every active wave; WAVE_RELEASE releases its wave; WAVE_TIMEOUT of a released wave ends it, counts it and sets
WAVE_TMO. ROOSTER_MESSAGE_DISCARD sets MSG_BAD. (R177, R178, R180, R183, R185, R186, R187, R188, R189) -/
def Obligations.ForecastsAndBarriersAct : Prop :=
  (∀ (s : State) (fmt start m n k id : Nat) (set : TileSet), start < s.time →
    ∃ t, exec (.activityToken fmt set start m n k id) s = .next t ∧
    t.getF .DOM_START_COUNT_LATE_TOKENS 0 = min (s.getF .DOM_START_COUNT_LATE_TOKENS 0 + 1) (2 ^ Fld.width
      .DOM_START_COUNT_LATE_TOKENS - 1) ∧ t.getF .DOM_START_EVENT_TOKEN_LATE 0 = 1 ∧
    ((s.setBad set = false → t.raiseQ = (s.event .DOM_START_EVENT_TOKEN_LATE 0 0x04 (id % 65536)).raiseQ)) ∧
    t.start.floors = s.start.floors) ∧
  (∀ (s : State) (fmt start m n k id : Nat) (set : TileSet), s.time + 10 * s.getF .DOM_START_PRE_PREBIAS_LEAD 0 ≤ start →
    ∃ t, exec (.activityToken fmt set start m n k id) s = .next t ∧
    t.start.floors = s.start.floors ++ [{ key := s.start.nextFloor, start := start, wave := false, tiles := (s.setTiles
                                          set).filter (fun d => s.domLive d), acting := false, heights := [], covered :=
                                          [] }] ∧
    t.getF .DOM_START_COUNT_LATE_TOKENS 0 = s.getF .DOM_START_COUNT_LATE_TOKENS 0) ∧
  (∀ (s : State) (release bid engines : Nat) (set : TileSet), s.start.waves = [] → bid < 2 ^ 12 →
    16 * ((s.setTiles set).filter (fun d => decide (s.domLive d = false))).length < min engines (16 * set.count) →
    ∃ t, exec (.barrierAnnouncement set release bid engines) s = .next t ∧
    t.start.waves = [{ slot := 0, bid := bid, floors := s.start.nextFloor, release := release, tiles := s.setTiles set,
                       engines := min engines (16 * set.count), granted := 0, armed := false, released := false }] ∧
    t.getF .DOM_WAVE_ID_BARRIER_ID 0 = bid ∧ t.getF .DOM_START_STATUS_PRE_ACTIVE 0 = 1) ∧
  (∀ (s : State) (release bid engines : Nat) (set : TileSet), s.start.waves.map (fun w => w.slot) = [0, 1, 2, 3] →
    s.findWave bid = none → ∃ t, exec (.barrierAnnouncement set release bid engines) s = .next t ∧
    t.start.waves = s.start.waves ∧
    t.getF .DOM_START_COUNT_DROPPED_ANN 0 = min (s.getF .DOM_START_COUNT_DROPPED_ANN 0 + 1) (2 ^ Fld.width
      .DOM_START_COUNT_DROPPED_ANN - 1) ∧ t.getF .DOM_START_EVENT_ANN_DROPPED 0 = 1) ∧
  (∀ (s : State) (bid : Nat), (s.findWave bid).isSome = true → ∃ t, exec (.barrierCancel bid) s = .next t ∧
    t.start.waves = s.start.waves.filter (fun w => decide (w.bid ≠ bid))) ∧
  (∀ (s : State) (key : Nat) (f : FloorSet),
    s.start.floors.find? (fun f => decide (f.key = key ∧ ¬ f.acting = true)) = some f →
    ∃ t, exec (.prebiasFloorStart key) s = .next t ∧
    (t.start.floors = s.start.floors.map (fun f => if f.key = key then { f with acting := true } else f))) ∧
  (∀ (s : State) (key tile : Nat) (f : FloorSet), s.start.floors = [f] → f.key = key → f.acting = true →
    f.tiles.contains tile = true → f.wave = false → 2 ≤ s.floorHeight f tile →
    ∃ t, exec (.prebiasFloorFall key tile) s = .next t ∧
    t.start.floors = [{ f with heights := f.heights.put tile (s.floorHeight f tile - 1) }] ∧
    t.prebias tile = s.prebias tile - 1) ∧
  (∀ (s : State) (h : Int), s.start.waves ≠ [] → s.dom.hrGate = some h → (s.hTarget : Int) - 320 ≤ 64 * h →
    ∃ t, exec (.waveArm) s = .next t ∧ t.start.waves = s.start.waves.map (fun w => { w with armed := true }) ∧
    t.getF .DOM_START_STATUS_ARMED 0 = 1) ∧
  (∀ (s : State) (bid : Nat) (w : Wave), s.findWave bid = some w → ∃ t, exec (.waveRelease bid) s = .next t ∧
    (t.start.waves = s.start.waves.map (fun x => if x.slot = w.slot then { w with released := true } else x))) ∧
  (∀ (s : State) (bid : Nat) (w : Wave), s.findWave bid = some w → w.released = true →
    ∃ t, exec (.waveTimeout bid) s = .next t ∧ t.start.waves = s.start.waves.filter (fun w => decide (w.bid ≠ bid)) ∧
    t.getF .DOM_START_COUNT_WAVE_TMOS 0 = min (s.getF .DOM_START_COUNT_WAVE_TMOS 0 + 1) (2 ^ Fld.width
      .DOM_START_COUNT_WAVE_TMOS - 1) ∧ t.getF .DOM_START_EVENT_WAVE_TMO 0 = 1) ∧
  (∀ (s : State) (tile : Nat),
    exec (.roosterMessageDiscard tile) s = .next (s.event .DOM_START_EVENT_MSG_BAD 0 0x04 tile))

/-- Start requests, the bucket and permits. For every state and operands that meet a clause's conditions the command
answers a next state with the effect the clause names. START_REQ with nothing waiting: of a ready tile with a step above 5
and a known epoch it waits; with a step of at most 5 it is permitted at once with charge 0; of a tile not ready it is
denied with reason 1. START_REQ that names another tile than its port's is bad, counted and denied with reason 3, whatever
READY reads (the model's choice, log entry 118). START_CANCEL removes the waiting request and denies it with reason 2.
MAP_NOTICE stores the epoch and the map. BUCKET_REFILL fills the bucket by the slope in effect up to CAP. PERMIT_GRANT:
the first request in order whose charge the level covers is granted and the charge taken off, a tile's by its permit, a
wake by starting the cells of its domain; one whose charge is above the level waits. PROFILE_CHECK of a tile's one open,
undisturbed check whose measured step is out of tolerance counts a mismatch and sets MISMATCH. (R190, R192, R193, R194,
R196, R197, R199, R200) -/
def Obligations.StartsAreChargedAndGranted : Prop :=
  (∀ (s : State) (port wclass reqId epoch engines step bid : Nat) (barrier : Bool), port < s.cfg.table.tiles →
    s.start.queue = [] → s.isSet .DOM_STATUS_READY port = true → 5 < step → (s.profileOf port (epoch % 16)).2.2.2 = true →
    ∃ t, exec (.startReq port port wclass reqId epoch barrier engines step bid) s = .next t ∧
    t.start.queue.map (fun r => (r.dom, r.wake, r.reqId, r.step, r.arrival)) = [(port, false, reqId, step, s.time)] ∧
    t.start.queue.map (fun r => r.wclass) = [if barrier = true ∧ (s.findWave bid).isSome = true then 0 else min 2 wclass]
      ∧ t.getF .DOM_START_STATUS_WAITING 0 = 1) ∧
  (∀ (s : State) (port wclass reqId epoch engines step bid : Nat) (barrier : Bool), port < s.cfg.table.tiles →
    s.start.queue = [] → s.isSet .DOM_STATUS_READY port = true → step ≤ 5 →
    ∃ t, exec (.startReq port port wclass reqId epoch barrier engines step bid) s = .next t ∧
    t.out = s.out ++ [.permit port reqId 0 s.time] ∧ t.start.queue = []) ∧
  (∀ (s : State) (port wclass reqId epoch engines step bid : Nat) (barrier : Bool), port < s.cfg.table.tiles →
    s.start.queue = [] → s.isSet .DOM_STATUS_READY port = false →
    exec (.startReq port port wclass reqId epoch barrier engines step bid) s = .next (s.sendDeny port reqId 1)) ∧
  (∀ (s : State) (port tile wclass reqId epoch engines step bid : Nat) (barrier : Bool), port < s.cfg.table.tiles →
    tile ≠ port → ∃ t, exec (.startReq port tile wclass reqId epoch barrier engines step bid) s = .next t ∧
    t.getF .DOM_START_COUNT_BAD_REQ 0 = min (s.getF .DOM_START_COUNT_BAD_REQ 0 + 1) (2 ^ Fld.width
      .DOM_START_COUNT_BAD_REQ - 1) ∧ t.getF .DOM_START_EVENT_REQ_BAD 0 = 1 ∧ t.out = s.out ++ [.deny port reqId 3] ∧
    t.start = s.start) ∧
  (∀ (s : State) (tile reqId : Nat), tile < s.cfg.table.tiles →
    s.start.queue.any (fun r => decide (r.dom = tile ∧ r.wake = false ∧ r.reqId = reqId)) = true →
    ∃ t, exec (.startCancel tile reqId) s = .next t ∧
    t.start.queue = s.start.queue.filter (fun r => decide (¬ (r.dom = tile ∧ r.wake = false ∧ r.reqId = reqId))) ∧
    t.out = s.out ++ [.deny tile reqId 2]) ∧
  (∀ (s : State) (tile epoch map : Nat), tile < s.cfg.table.tiles →
    exec (.mapNotice tile epoch map) s = .next ((s.setF .DOM_TILE_MAP_EPOCH tile epoch).setF .DOM_TILE_MAP_MAP tile map))
      ∧
  (∀ (s : State),
    exec (.bucketRefill) s = .next (s.setF .DOM_START_BUCKET_LEVEL 0 (min (max 100 (s.getF .DOM_START_BUCKET_CAP 0))
      (s.getF .DOM_START_BUCKET_LEVEL 0 + s.getF .DOM_START_STATUS_SLOPE_EFF 0)))) ∧
  (∀ (s : State) (r : StartReq), s.firstReq = some r → s.charge r ≤ s.getF .DOM_START_BUCKET_LEVEL 0 → r.wake = false →
    ∃ t, exec (.permitGrant) s = .next t ∧ t.out = s.out ++ [.permit r.dom r.reqId (s.charge r) s.time] ∧
    t.start.queue = s.start.queue.erase r ∧
    t.getF .DOM_START_BUCKET_LEVEL 0 = (s.getF .DOM_START_BUCKET_LEVEL 0 - s.charge r) % 2 ^ Fld.width
      .DOM_START_BUCKET_LEVEL) ∧
  (∀ (s : State) (r : StartReq) (c : Nat), s.firstReq = some r → s.charge r ≤ s.getF .DOM_START_BUCKET_LEVEL 0 →
    r.wake = true → s.flt.gooseShut = [] → c ∈ s.cfg.table.domCells r.dom → s.cellSt c = 0 →
    ∃ t, exec (.permitGrant) s = .next t ∧ Tbl.get false t.dom.admitted r.dom = true ∧ t.cellSt c = 1 ∧
    t.getF .DOM_STATUS_WAKE_WAIT r.dom = 0) ∧
  (∀ (s : State) (r : StartReq), s.firstReq = some r → s.getF .DOM_START_BUCKET_LEVEL 0 < s.charge r →
    exec (.permitGrant) s = .next (s)) ∧
  (∀ (s : State) (tile : Nat) (c : ProfCheck) (i : Int), s.start.checks = [c] → c.tile = tile → c.after = some i →
    c.disturbed = false →
    (max 1 (s.getF .DOM_START_WAVE_MISMATCH_TOL 0) : Int) * (10 * c.charge) < (i - c.before - 10 * c.charge).natAbs * 100
      → ∃ t, exec (.profileCheck tile) s = .next t ∧ t.start.checks = [] ∧
    t.getF .DOM_TILE_MAP_MISMATCH_COUNT tile = min (s.getF .DOM_TILE_MAP_MISMATCH_COUNT tile + 1) (2 ^ Fld.width
      .DOM_TILE_MAP_MISMATCH_COUNT - 1) ∧ t.getF .DOM_START_EVENT_MISMATCH 0 = 1)

/-- Counter sets, the estimate, calibration and the power budget. For every state and operands that meet a clause's
conditions the command answers a next state with the effect the clause names. COUNTER_MESSAGE of a metered domain before
the deadline: the first valid set of the window is held, and one with VALID 0 or a wrong DOMAIN or WINDOW makes the set
stale with STALE set; outside these conditions it is discarded. COUNTER_STALE_DECISION, with one metered domain: a set
that has arrived is taken, and a missing one is stale with STALE set and the old counts. ESTIMATE_PUBLISH of a window not
yet published: the one metered domain shows the sum of its cells' window readings, its invalid flag and the count of
substituted domains, and a domain without an estimate shows zeros. CALIBRATION_UPDATE forms the millisecond's means and
starts the sums and hold causes again; a disagreeing valid millisecond that makes the run DIS_MS gives DISAGREE with one
count. PULSE_END after 1 ms at or below TDC_EFF ends the pulse, and before that changes nothing. AVERAGE_UPDATE: with
windows published P_MS is their mean; after release with none A moves by alpha toward it. GOVERNOR_UPDATE at a medium tick
sets GOVERNED for a late pulse, counts it, and clears it after the rest, which ends the pulse. FIXED_LOST: a tile below
FIXED_STEP in fixed-frequency mode counts once. (R202, R204, R205, R209, R210, R214, R219, R222, R223, R239, R241, R242)
-/
def Obligations.EstimatesAndBudgetWork : Prop :=
  (∀ (s : State) (port dom window : Nat) (counts : List Nat), port < s.cfg.table.domains → s.domMeasured port = true →
    100 ≤ s.time → s.time % 100 ≤ 50 → (s.estDom port).decided = false → (s.estDom port).arrived = none →
    dom % 512 = port → window % 2 ^ 32 = s.window % 2 ^ 32 →
    exec (.counterMessage port true dom window counts) s = .next (s.setEst port
      { s.estDom port with arrived := some ((List.range 32).map (fun i => counts.getD i 0 % 4096)) })) ∧
  (∀ (s : State) (port dom window : Nat) (valid : Bool) (counts : List Nat), port < s.cfg.table.domains →
    s.domMeasured port = true → 100 ≤ s.time → s.time % 100 ≤ 50 → (s.estDom port).decided = false →
    (valid = false ∨ dom % 512 ≠ port ∨ window % 2 ^ 32 ≠ s.window % 2 ^ 32) →
    ∃ t, exec (.counterMessage port valid dom window counts) s = .next t ∧ (t.estDom port).decided = true ∧
    (t.estDom port).arrived = none ∧ (t.estDom port).staleRun = (s.estDom port).staleRun + 1 ∧
    t.getF .DOM_EST_EVENT_STALE 0 = 1 ∧ t.raiseQ = (s.event .DOM_EST_EVENT_STALE 0 0x05 port).raiseQ) ∧
  (∀ (s : State) (port dom window : Nat) (valid : Bool) (counts : List Nat),
    (s.domMeasured port = false ∨ 50 < s.time % 100 ∨ (s.estDom port).decided = true) →
    exec (.counterMessage port valid dom window counts) s = .next (s)) ∧
  (∀ (s : State) (d : Nat) (c : List Nat), s.doms.filter (fun x => s.domMeasured x) = [d] → (s.estDom d).decided = false →
    (s.estDom d).arrived = some c →
    exec (.counterStaleDecision) s = .next (s.setEst d { s.estDom d with decided := true, counts := c, staleRun := 0 })) ∧
  (∀ (s : State) (d : Nat), s.doms.filter (fun x => s.domMeasured x) = [d] → (s.estDom d).decided = false →
    (s.estDom d).arrived = none → ∃ t, exec (.counterStaleDecision) s = .next t ∧
    (t.estDom d).staleRun = (s.estDom d).staleRun + 1 ∧ (t.estDom d).counts = (s.estDom d).counts ∧
    t.getF .DOM_EST_EVENT_STALE 0 = 1) ∧
  (∀ (s : State) (cells : List (Nat × Nat)) (d : Nat), 100 ≤ s.time → s.est.published ≠ some s.window →
    d < s.cfg.table.domains → s.doms.filter (fun x => s.domMeasured x) = [d] →
    s.windowSum cells d < 2 ^ Fld.width .DOM_MEAS_I_DOM → ∃ t, exec (.estimatePublish cells) s = .next t ∧
    t.getF .DOM_MEAS_I_DOM d = s.windowSum cells d ∧ t.isSet .DOM_EST_STATUS_MEAS_INVALID d = s.measBad cells d ∧
    (t.getF .DOM_EST_STACK_SUBST_DOMS 0 = if s.measBad cells d = true then 1 else 0)) ∧
  (∀ (s : State) (cells : List (Nat × Nat)) (d : Nat), 100 ≤ s.time → s.est.published ≠ some s.window →
    d < s.cfg.table.domains → s.domMeasured d = false → s.estDom d ≠ EstDom.empty →
    ∃ t, exec (.estimatePublish cells) s = .next t ∧ t.getF .DOM_EST_CUR_EST_I d = 0 ∧ t.getF .DOM_EST_CUR_LEAK_I d = 0 ∧
    t.getF .DOM_EST_PWR_P_EST d = 0 ∧ t.getF .DOM_MEAS_I_DOM d = 0) ∧
  (∀ (s : State) (d : Nat), d < s.cfg.table.domains → ∃ t, exec (.calibrationUpdate) s = .next t ∧
    (t.estDom d).sumEst = 0 ∧ (t.estDom d).sumMeas = 0 ∧ (t.estDom d).sumErr = 0 ∧ (t.estDom d).sumCounts = [] ∧
    (t.estDom d).holds = t.standingHolds d ∧
    t.getF .DOM_EST_MEAN_MEAN_EST d = min 65535 ((rne (s.estDom d).sumEst 4).toNat / 1000) ∧
    t.getF .DOM_EST_MEAN_MEAN_MEAS d = min 65535 ((rne (s.estDom d).sumMeas 4).toNat / 1000)) ∧
  (∀ (s : State) (d : Nat), d < s.cfg.table.domains → s.standingHolds d = [] → (s.estDom d).holds = [] →
    s.getF .DOM_EST_STATUS_STATE d = 0 →
    s.msClass ((rne (s.estDom d).sumEst 4).toNat / 1000) ((rne (s.estDom d).sumMeas 4).toNat / 1000) = 1 →
    max 1 (s.getF .DOM_EST_CFG_DIS_MS 0) ≤ (s.estDom d).disRun + 1 → ∃ t, exec (.calibrationUpdate) s = .next t ∧
    t.getF .DOM_EST_STATUS_STATE d = 2 ∧
    t.getF .DOM_EST_STATUS_DIS_COUNT d = min (s.getF .DOM_EST_STATUS_DIS_COUNT d + 1) (2 ^ Fld.width
      .DOM_EST_STATUS_DIS_COUNT - 1) ∧ t.getF .DOM_EST_EVENT_DISAGREE 0 = 1) ∧
  (∀ (s : State), s.bud.pulseStart ≠ none → s.bud.restSince.any (fun r => decide (100000 ≤ s.time - r)) = true →
    ∃ t, exec (.pulseEnd) s = .next t ∧ t.bud.pulseStart = none ∧ t.getF .DOM_BUD_GOV_PULSE 0 = 0) ∧
  (∀ (s : State), (s.bud.pulseStart = none ∨ s.bud.restSince.any (fun r => decide (100000 ≤ s.time - r)) = false) →
    exec (.pulseEnd) s = .next (s)) ∧
  (∀ (s : State), s.bud.windows ≠ 0 → ∃ t, exec (.averageUpdate) s = .next t ∧
    t.bud.pMs = rneDiv s.bud.sumP (62500 * s.bud.windows) ∧ t.bud.pOther = rneDiv s.bud.sumOther (62500 * s.bud.windows) ∧
    t.bud.windows = 0 ∧ t.bud.sumP = 0 ∧ t.getF .DOM_BUD_MS_P_MS 0 = (clampI 0 65535 (rneDiv t.bud.pMs 64)).toNat) ∧
  (∀ (s : State), s.boot.released = true → s.bud.windows = 0 → s.bud.avgSet = true →
    0 ≤ (s.getF .DOM_BUD_AVG_AVG 0 : Int) + rne ((s.bud.pMs - s.getF .DOM_BUD_AVG_AVG 0) * rneDiv (2 ^ 24) (100 * clampN
      10 300 (s.getF .DOM_BUD_CAP_WINDOW 0))) 24 →
    (s.getF .DOM_BUD_AVG_AVG 0 : Int) + rne ((s.bud.pMs - s.getF .DOM_BUD_AVG_AVG 0) * rneDiv (2 ^ 24) (100 * clampN 10
      300 (s.getF .DOM_BUD_CAP_WINDOW 0))) 24 < 2 ^ Fld.width .DOM_BUD_AVG_AVG → ∃ t, exec (.averageUpdate) s = .next t ∧
    (t.getF .DOM_BUD_AVG_AVG 0 : Int) = s.getF .DOM_BUD_AVG_AVG 0 + rne ((s.bud.pMs - s.getF .DOM_BUD_AVG_AVG 0) * rneDiv
      (2 ^ 24) (100 * clampN 10 300 (s.getF .DOM_BUD_CAP_WINDOW 0))) 24) ∧
  (∀ (s : State), s.onTick 1000 = true → s.isSet .DOM_BUD_GOV_GOVERNED 0 = false → s.pulseLate = true →
    ∃ t, exec (.governorUpdate) s = .next t ∧ t.getF .DOM_BUD_GOV_GOVERNED 0 = 1 ∧
    t.getF .DOM_BUD_COUNT_GOV_COUNT 0 = min (s.getF .DOM_BUD_COUNT_GOV_COUNT 0 + 1) (2 ^ Fld.width
      .DOM_BUD_COUNT_GOV_COUNT - 1) ∧ t.getF .DOM_BUD_EVENT_GOVERNED_EV 0 = 1) ∧
  (∀ (s : State), s.onTick 1000 = true → s.isSet .DOM_BUD_GOV_GOVERNED 0 = true → s.rested = true →
    ∃ t, exec (.governorUpdate) s = .next t ∧ t.getF .DOM_BUD_GOV_GOVERNED 0 = 0 ∧ t.bud.pulseStart = none) ∧
  (∀ (s : State) (tile : Nat), s.isSet .DOM_BUD_CTRL_MODE 0 = true → tile < s.cfg.table.tiles → s.domLive tile = true →
    s.getF .DOM_STATUS_STEP tile < s.getF .DOM_BUD_CTRL_FIXED_STEP 0 → s.bud.fixedLost.contains tile = false →
    ∃ t, exec (.fixedLost tile) s = .next t ∧ t.bud.fixedLost = s.bud.fixedLost ++ [tile] ∧
    t.getF .DOM_BUD_COUNT_FIXED_LOST_COUNT 0 = min (s.getF .DOM_BUD_COUNT_FIXED_LOST_COUNT 0 + 1) (2 ^ Fld.width
      .DOM_BUD_COUNT_FIXED_LOST_COUNT - 1) ∧ t.getF .DOM_BUD_EVENT_FIXED_LOST 0 = 1) ∧
  (∀ (s : State) (tile : Nat), s.bud.fixedLost.contains tile = true → exec (.fixedLost tile) s = .next (s))

/-- Temperature sensors, sidebands, clamps, airflow and the forecast. For every state and operands that meet a clause's
conditions the command answers a next state with the effect the clause names. TEMPERATURE_CONVERSION at a temperature tick
empties the period and counts the one before it for each sideband. TEMPERATURE_PUBLISH of one healthy on-die sensor: a
result from -40 to 150 degrees C is its reading; a second result in a row outside breaks it with cause 1. SIDEBAND_READING
holds the reading of a die sensor of its tower. CLAMP_RELEASE_START after RELEASE_MS in HOLD without alarm and limit
condition, for a tower with a good sideband, gives RELEASE with the step kept, and in any other state changes nothing.
CLAMP_RISE_STEP after RISE_MS in RELEASE raises the step by one, and past step 15 the clamp ends. SENSOR_DISAGREE after
1,000 samples: two healthy partners whose last good readings differ by more than 6 degrees C both show DISAGREE with its
event, and within 6 degrees both clear it. SENSOR_RECHECK of a broken sensor starts its recheck; SENSOR_RECHECK_END after
1,000 samples makes it healthy if all passed, and leaves it BROKEN if one did not. SIDEBAND_LOST after 3 periods without
readings takes the write-permit and clamps the tower in HOLD with its event; SIDEBAND_RECOVER after 10 complete periods
shows SB_OK. THETA_UPDATE without an inlet reading sets INLET_BAD; with two it takes the lower, and shows F_AIR.
FORECAST_BIN_SHIFT at a slow tick moves the bins one millisecond nearer. SENSOR_CONVERSION_TIMEOUT of a healthy sensor
counts once, and the second in a row breaks it with cause 2, one count and the event. (R38, R247, R249, R251, R253, R255,
R259, R261, R264, R265, R267, R268) -/
def Obligations.SensorsTowersAndClampsMove : Prop :=
  (∀ (s : State) (w : Nat), s.onTick 10000 = true → s.thm.started = true → w < s.cfg.table.towers →
    ∃ t, exec (.temperatureConversion) s = .next t ∧ t.thm.period = [] ∧ (t.twr w).delivered = false ∧
    ((t.twr w).gap = if (s.twr w).delivered then 0 else (s.twr w).gap + 1) ∧ (t.twr w).lost = (s.twr w).lost ∧
    t.fields = s.fields) ∧
  (∀ (s : State) (x : Nat) (v : Int), x < s.onDie → s.thm.period = [] → s.snsSt x = 0 → -320 ≤ v → v ≤ 1200 →
    ∃ t, exec (.temperaturePublish [(x, v)]) s = .next t ∧ t.getS .THM_SNS_READING x = v ∧
    (t.sns x).good = (v :: (s.sns x).good).take 5 ∧ t.snsSt x = 0) ∧
  (∀ (s : State) (x : Nat) (v : Int), x < s.onDie → s.thm.period = [] → s.snsSt x = 0 → (s.sns x).failRun = 1 →
    (v < -320 ∨ 1200 < v) → ∃ t, exec (.temperaturePublish [(x, v)]) s = .next t ∧ t.snsSt x = 1 ∧
    t.getF .THM_SNS_CAUSE x = 1 ∧ t.getF .THM_EVENT_BROKEN 0 = 1) ∧
  (∀ (s : State) (tower x : Nat) (v : Int), tower < s.cfg.table.towers → s.onDie + 64 * tower ≤ x →
    x < s.onDie + 64 * tower + 64 → ∃ t, exec (.sidebandReading tower [(x, v)]) s = .next t ∧
    t.thm.period = s.thm.period.put x v ∧ (t.twr tower).delivered = true) ∧
  (∀ (s : State) (unit : Nat), unit < s.cfg.table.domains → s.clSt false unit = 2 → (s.clFlags false unit).1 = false →
    (s.clFlags false unit).2.2 = false → s.clWaited false unit (s.getF .THM_CLAMP_CFG_RELEASE_MS 0) = true →
    ∃ t, exec (.clampReleaseStart false unit) s = .next t ∧ t.clSt false unit = 3 ∧ t.clC false unit = s.clC false unit) ∧
  (∀ (s : State) (unit : Nat), unit < s.cfg.table.towers → s.clSt true unit = 2 → (s.clFlags true unit).1 = false →
    (s.clFlags true unit).2.2 = false → s.isSet .THM_TWR_SB_OK unit = true →
    s.clWaited true unit (s.getF .THM_CLAMP_CFG_RELEASE_MS 0) = true →
    ∃ t, exec (.clampReleaseStart true unit) s = .next t ∧ t.clSt true unit = 3 ∧ t.clC true unit = s.clC true unit) ∧
  (∀ (s : State) (tower : Bool) (unit : Nat), s.clSt tower unit ≠ 2 →
    exec (.clampReleaseStart tower unit) s = .next (s)) ∧
  (∀ (s : State) (tower : Bool) (unit : Nat), s.clIs tower unit = true → s.clSt tower unit = 3 →
    s.clWaited tower unit (s.getF .THM_CLAMP_CFG_RISE_MS 0) = true → s.clC tower unit < 15 →
    ∃ t, exec (.clampRiseStep tower unit) s = .next t ∧ t.clSt tower unit = 3 ∧ t.clC tower unit = s.clC tower unit + 1) ∧
  (∀ (s : State) (tower : Bool) (unit : Nat), s.clIs tower unit = true → s.clSt tower unit = 3 →
    s.clWaited tower unit (s.getF .THM_CLAMP_CFG_RISE_MS 0) = true → s.clC tower unit = 15 →
    ∃ t, exec (.clampRiseStep tower unit) s = .next t ∧ t.clSt tower unit = 0 ∧ t.clC tower unit = 15) ∧
  (∀ (s : State) (sensor : Nat) (a b : Int) (g h : List Int), sensor < s.cfg.table.tsens → s.snsSt sensor = 0 →
    s.snsSt (partnerOf sensor) = 0 → (s.sns sensor).good = a :: g → (s.sns (partnerOf sensor)).good = b :: h →
    48 < (a - b).natAbs → 1000 ≤ (s.sns (pairOf sensor)).pairRun → s.isSet .THM_SNS_DISAGREE sensor = false →
    ∃ t, exec (.sensorDisagree sensor true) s = .next t ∧ t.getF .THM_SNS_DISAGREE sensor = 1 ∧
    t.getF .THM_SNS_DISAGREE (partnerOf sensor) = 1 ∧ t.getF .THM_EVENT_DISAGREE 0 = 1) ∧
  (∀ (s : State) (sensor : Nat) (a b : Int) (g h : List Int), sensor < s.cfg.table.tsens → s.snsSt sensor = 0 →
    s.snsSt (partnerOf sensor) = 0 → (s.sns sensor).good = a :: g → (s.sns (partnerOf sensor)).good = b :: h →
    (a - b).natAbs ≤ 48 → 1000 ≤ (s.sns (pairOf sensor)).pairRun → s.isSet .THM_SNS_DISAGREE sensor = true →
    ∃ t, exec (.sensorDisagree sensor false) s = .next t ∧ t.getF .THM_SNS_DISAGREE sensor = 0 ∧
    t.getF .THM_SNS_DISAGREE (partnerOf sensor) = 0 ∧ t.raiseQ = s.raiseQ) ∧
  (∀ (s : State) (sensor : Nat), sensor < s.cfg.table.tsens → s.snsSt sensor = 1 →
    exec (.sensorRecheck sensor) s = .next (s.setSns sensor
      { s.sns sensor with recheck := true, recheckBad := false, recheckRun := 0 })) ∧
  (∀ (s : State) (sensor : Nat), sensor < s.cfg.table.tsens → s.snsSt sensor = 1 → (s.sns sensor).recheck = true →
    1000 ≤ (s.sns sensor).recheckRun → (s.sns sensor).recheckBad = false →
    ∃ t, exec (.sensorRecheckEnd sensor) s = .next t ∧ t.snsSt sensor = 0 ∧ t.getF .THM_SNS_CAUSE sensor = 0) ∧
  (∀ (s : State) (sensor : Nat), s.snsSt sensor = 1 → (s.sns sensor).recheck = true → 1000 ≤ (s.sns sensor).recheckRun →
    (s.sns sensor).recheckBad = true → ∃ t, exec (.sensorRecheckEnd sensor) s = .next t ∧ t.snsSt sensor = 1 ∧
    (t.sns sensor).recheck = false) ∧
  (∀ (s : State) (tower : Nat), tower < s.cfg.table.towers → (s.twr tower).lost = false →
    (s.twr tower).delivered = false → 3 ≤ (s.twr tower).gap → ∃ t, exec (.sidebandLost tower) s = .next t ∧
    (t.twr tower).lost = true ∧ t.getF .THM_TWR_SB_OK tower = 0 ∧ t.getF .THM_TWR_WP tower = 0 ∧ t.clSt true tower = 2 ∧
    t.getF .THM_EVENT_SB_LOST 0 = 1) ∧
  (∀ (s : State) (tower : Nat), tower < s.cfg.table.towers → 10 ≤ (s.twr tower).full →
    ∃ t, exec (.sidebandRecover tower) s = .next t ∧ (t.twr tower).lost = false ∧ t.getF .THM_TWR_SB_OK tower = 1) ∧
  (∀ (s : State), s.inlets = [] → exec (.thetaUpdate) s = .next ((s.event .THM_EVENT_INLET_BAD 0 0x07 0).showAir)) ∧
  (∀ (s : State) (a b : Int), s.inlets = [a, b] → -2048 ≤ min b a → min b a ≤ 2047 →
    ∃ t, exec (.thetaUpdate) s = .next t ∧ t.getS .THM_INLET_T_IN 0 = min a b ∧ t.getF .THM_AIR_F_AIR 0 = t.airFactor) ∧
  (∀ (s : State), s.onTick 100000 = true →
    exec (.forecastBinShift) s = .next ({ s with
        thm := { s.thm with bins := s.thm.bins.filterMap (fun p => if p.1 % 50 = 0 then none else some (p.1 - 1, p.2)) }
        })) ∧
  (∀ (s : State) (sensor : Nat), sensor < s.cfg.table.tsens → s.thm.period.any (fun p => decide (p.1 = sensor)) = false →
    s.snsSt sensor = 0 → (s.sns sensor).failRun ≠ 0 → ∃ t, exec (.sensorConversionTimeout sensor) s = .next t ∧
    t.snsSt sensor = 1 ∧ t.getF .THM_SNS_CAUSE sensor = 2 ∧
    t.getF .THM_COUNT_BROKEN_COUNT 0 = min (s.getF .THM_COUNT_BROKEN_COUNT 0 + 1) (2 ^ Fld.width .THM_COUNT_BROKEN_COUNT
      - 1) ∧ t.getF .THM_EVENT_BROKEN 0 = 1 ∧
    (t.getF .THM_FUSE_FUSE_OK 0 = if sensor < s.onDie then 0 else t.getF .THM_FUSE_FUSE_OK 0)) ∧
  (∀ (s : State) (sensor : Nat), sensor < s.cfg.table.tsens → s.thm.period.any (fun p => decide (p.1 = sensor)) = false →
    s.snsSt sensor = 0 → (s.sns sensor).failRun = 0 → ∃ t, exec (.sensorConversionTimeout sensor) s = .next t ∧
    t.snsSt sensor = 0 ∧ (t.sns sensor).failRun = 1 ∧ t.raiseQ = s.raiseQ)

/-- The links of the Herd, its time and its messages. For every state and operands that meet a clause's conditions the
command answers a next state with the effect the clause names. Messages are those of a port that takes them.
HELLO_RECEIVED: in IDLE it is only answered; in another state one of this group on enabled port 1 with its level one above
and this stack's HELLO gone brings the link up, and one of another group on an enabled port leaves it down. LINK_LOSS: a
lost down link, with no exclusion condition and not of a RELAY, counts a drop, sets LINK_LOST and keeps the state; a lost
up link of a member in LOCKED or EXCL_PENDING gives HOLDOVER with its event, without a delay and a correction; a link that
is down loses nothing. SYNC_RECEIVED in LOCKED with a known delay, not in offset mode, sets the offset T_SEND + delay -
own count, which is corrected; with the up link down it corrects nothing. DELAY_REQ_RECEIVED is answered with T1, T2 and
RES; DELAY_RESP_RECEIVED with an even sum holds half the sum as the delay. SYNC_SEND sends SYNC on the one down link that
is up, and nothing without one; DELAY_REQ_SEND sends DELAY_REQ up. HELLO_RETRY: nothing in IDLE, and HELLO on the one
enabled port whose link is down. LOCK_MESSAGE_DISCARD of a message with a wrong CRC counts it; the fourth in a row loses
the link of a down port. TIME_SLEW_END shares the count. (R273, R275, R276, R277, R284, R285, R286) -/
def Obligations.HerdLinksComeUpAndGo : Prop :=
  (∀ (s : State) (port : Nat) (m : LockMsg), port ≤ 3 → s.portShut port = false → s.herdSt = 0 →
    ∃ t, exec (.helloReceived port m) s = .next t ∧
    t.out = s.out ++ [.lock port ((fun b => b ++ leBytes 4 (crc32c b)) (lockBytes 0x66 (s.getF .HRD_STATUS_TB_DEG 0)
      (s.getF .HRD_ID_GROUP_ID 0) (s.getF .HRD_ID_STACK_ID 0) (s.port port).txSeq ([if s.isSet .HRD_STATUS_IS_ROOT 0 then
      1 else 2, s.getF .HRD_STATUS_LEVEL 0] ++ leBytes 2 (s.getF .HRD_FREQ_F_GRP 0) ++ leBytes 2 (s.getF
      .HRD_PEND_CHG_SEQ 0) ++ [s.getF .HRD_FREQ_PEND 0])))] ∧ t.herdSt = 0 ∧ t.linkUp port = s.linkUp port) ∧
  (∀ (s : State) (m : LockMsg), s.portShut 1 = false → (s.port 1).sent = true → (s.port 1).enabled = true → s.herdSt ≠ 0 →
    m.group % 65536 = s.getF .HRD_ID_GROUP_ID 0 → leAt m.body 1 1 = s.getF .HRD_STATUS_LEVEL 0 + 1 → s.linkUp 1 = false →
    ∃ t, exec (.helloReceived 1 m) s = .next t ∧ t.linkUp 1 = true ∧ (t.port 1).crcRun = 0) ∧
  (∀ (s : State) (port : Nat) (m : LockMsg), port ≤ 3 → s.portShut port = false → (s.port port).enabled = true →
    s.herdSt ≠ 0 → m.group % 65536 ≠ s.getF .HRD_ID_GROUP_ID 0 → ∃ t, exec (.helloReceived port m) s = .next t ∧
    t.linkUp port = false ∧
    ((s.linkUp port = true → t.getF .HRD_PORT_DROPS port = min (s.getF .HRD_PORT_DROPS port + 1) (2 ^ Fld.width
      .HRD_PORT_DROPS - 1)))) ∧
  (∀ (s : State) (port : Nat), 1 ≤ port → port ≤ 3 → s.linkUp port = true → s.herdSt ≠ 4 → s.exclLow = false →
    ∃ t, exec (.linkLoss port) s = .next t ∧ t.linkUp port = false ∧
    t.getF .HRD_PORT_DROPS port = min (s.getF .HRD_PORT_DROPS port + 1) (2 ^ Fld.width .HRD_PORT_DROPS - 1) ∧
    t.getF .HRD_EVENT_LINK_LOST 0 = 1 ∧ (t.port port).enabled = (s.port port).enabled ∧ t.herdSt = s.herdSt) ∧
  (∀ (s : State), s.linkUp 0 = true → (s.herdSt = 2 ∨ s.herdSt = 3) → ∃ t, exec (.linkLoss 0) s = .next t ∧
    t.linkUp 0 = false ∧ t.herdSt = 5 ∧ t.hrd.delay = none ∧ t.hrd.corr = 0 ∧ t.getF .HRD_EVENT_LINK_LOST 0 = 1 ∧
    t.getF .HRD_EVENT_HOLDOVER 0 = 1) ∧
  (∀ (s : State) (port : Nat), s.linkUp port = false → exec (.linkLoss port) s = .next (s)) ∧
  (∀ (s : State) (m : LockMsg) (d : Nat), s.linkUp 0 = true → s.portShut 0 = false →
    m.group % 65536 = s.getF .HRD_ID_GROUP_ID 0 → s.hrd.delay = some d → s.herdSt = 2 →
    s.isSet .HRD_STATUS_OFFSET_MODE 0 = false → ∃ t, exec (.syncReceived m) s = .next t ∧
    t.hrd.corr = (leAt m.body 0 8 : Int) + d - s.time ∧
    t.getF .HRD_OFFSET_LO_OFS_LO 0 = toU 64 ((leAt m.body 0 8 : Int) + d - s.time) % 2 ^ 32 ∧
    t.getF .HRD_OFFSET_HI_OFS_HI 0 = toU 64 ((leAt m.body 0 8 : Int) + d - s.time) / 2 ^ 32 % 2 ^ 32 ∧ t.time = s.time) ∧
  (∀ (s : State) (m : LockMsg), s.linkUp 0 = false → ∃ t, exec (.syncReceived m) s = .next t ∧ t.hrd.corr = s.hrd.corr ∧
    t.time = s.time ∧ t.herdSt = s.herdSt) ∧
  (∀ (s : State) (port : Nat) (m : LockMsg), 1 ≤ port → port ≤ 3 → s.linkUp port = true → s.portShut port = false →
    m.group % 65536 = s.getF .HRD_ID_GROUP_ID 0 → ∃ t, exec (.delayReqReceived port m) s = .next t ∧
    t.out = s.out ++ [.lock port ((fun b => b ++ leBytes 4 (crc32c b)) (lockBytes 0x64 (s.getF .HRD_STATUS_TB_DEG 0)
      (s.getF .HRD_ID_GROUP_ID 0) (s.getF .HRD_ID_STACK_ID 0) (s.port port).txSeq ((List.range 8).map (fun i =>
      m.body.getD i 0) ++ leBytes 8 s.time ++ [0, 0, 0, 0])))] ∧
    (t.port port).txSeq = ((s.port port).txSeq + 1) % 65536) ∧
  (∀ (s : State) (m : LockMsg) (k : Nat), s.linkUp 0 = true → s.portShut 0 = false →
    m.group % 65536 = s.getF .HRD_ID_GROUP_ID 0 → (s.time : Int) - leAt m.body 0 8 - leAt m.body 16 4 = 2 * (k : Int) →
    ∃ t, exec (.delayRespReceived m) s = .next t ∧ t.hrd.delay = some k ∧ t.getF .HRD_PORT_DELAY 0 = min 255 k) ∧
  (∀ (s : State), s.downLinks = [] → exec (.syncSend) s = .next (s)) ∧
  (∀ (s : State) (p : Nat), s.downLinks = [p] → (s.port p).tested = false → s.portsHeld = false →
    ∃ t, exec (.syncSend) s = .next t ∧
    t.out = s.out ++ [.lock p ((fun b => b ++ leBytes 4 (crc32c b)) (lockBytes 0x62 (s.getF .HRD_STATUS_TB_DEG 0) (s.getF
      .HRD_ID_GROUP_ID 0) (s.getF .HRD_ID_STACK_ID 0) (s.port p).txSeq (leBytes 8 s.time)))]) ∧
  (∀ (s : State), s.linkUp 0 = true → (s.port 0).tested = false → s.portsHeld = false →
    ∃ t, exec (.delayReqSend) s = .next t ∧
    t.out = s.out ++ [.lock 0 ((fun b => b ++ leBytes 4 (crc32c b)) (lockBytes 0x63 (s.getF .HRD_STATUS_TB_DEG 0) (s.getF
      .HRD_ID_GROUP_ID 0) (s.getF .HRD_ID_STACK_ID 0) (s.port 0).txSeq (leBytes 8 s.time)))] ∧
    (t.port 0).txSeq = ((s.port 0).txSeq + 1) % 65536) ∧
  (∀ (s : State), s.herdSt = 0 → exec (.helloRetry) s = .next (s)) ∧
  (∀ (s : State) (p : Nat), s.herdSt ≠ 0 →
    [0, 1, 2, 3].filter (fun p => decide ((s.port p).enabled = true ∧ ¬ s.linkUp p = true ∧ ¬ (s.port p).tested = true))
      = [p] → s.portsHeld = false → exec (.helloRetry) s = .next (s.sendHello p)) ∧
  (∀ (s : State) (port : Nat) (bytes : List Nat), port ≤ 3 → s.portShut port = false →
    crc32c ((List.range 28).map (fun i => bytes.getD i 0 % 256)) ≠ leAt bytes 28 4 → (s.port port).crcRun < 3 →
    ∃ t, exec (.lockMessageDiscard port bytes) s = .next t ∧ (t.port port).crcRun = (s.port port).crcRun + 1 ∧
    t.getF .HRD_PORT_CRC_ERR port = min (s.getF .HRD_PORT_CRC_ERR port + 1) (2 ^ Fld.width .HRD_PORT_CRC_ERR - 1) ∧
    t.getF .HRD_EVENT_CRC_ERR 0 = 1 ∧ t.linkUp port = s.linkUp port) ∧
  (∀ (s : State) (port : Nat) (bytes : List Nat), 1 ≤ port → port ≤ 3 → s.portShut port = false →
    crc32c ((List.range 28).map (fun i => bytes.getD i 0 % 256)) ≠ leAt bytes 28 4 → (s.port port).crcRun = 3 →
    ∃ t, exec (.lockMessageDiscard port bytes) s = .next t ∧ t.linkUp port = false ∧
    t.getF .HRD_PORT_CRC_ERR port = min (s.getF .HRD_PORT_CRC_ERR port + 1) (2 ^ Fld.width .HRD_PORT_CRC_ERR - 1)) ∧
  (∀ (s : State), s.isSet .HRD_STATUS_SLEWING 0 = true →
    exec (.timeSlewEnd) s = .next (((s.setCorr 0).setF .HRD_STATUS_SLEWING 0 0).setF .GLB_TB_STATUS_HERD_SHARED 0 1))

/-- Offers, changes, exclusion and the end of a Herd. For every state and operands that meet a clause's conditions the
command answers a next state with the effect the clause names. Messages are those of a port that takes them, whose link is
up and whose GROUP_ID is this stack's. OFFER_RECEIVED of a down link, not at the root, is kept for its port.
CHANGE_RECEIVED in LOCKED, before any change and with its CT still to come, is held until CT; CHANGE_TICK of a due change
in HOLDOVER gives F_GRP the value F_NEW, and without a change held nothing. EXCLUDE_RECEIVED: the root gives a stack
without an entry the lowest free one and sets EXCL_REQ; another stack sends it up. DECIDE_RECEIVED of the own open request
in EXCL_PENDING: FOLLOW returns the member to LOCKED and bars new requests until the next CT, EVICT makes it a RELAY.
DISBAND_RECEIVED ends in IDLE with its event. OFFER_SEND sends OFFER up a link that is up. OFFER_RECOMPUTE forms F_OFF
again; in LOCKED with the exclusion condition and no bar, not at the root, the member enters EXCL_PENDING with a new
request. EXCLUSION_RECOVERY and EXCL_WAIT_EXPIRY in EXCL_PENDING end in LOCKED, the second with the bar. JOIN_TIMEOUT in
JOINING and HOLD_TMO_EXPIRY in HOLDOVER end in IDLE with their events. DECIDE_FOLLOW and DECIDE_EVICT at the root of an
open request: the decision goes down the one down link that is up, and EVICT marks the entry. EXCLUSION_ENTRY_EXPIRY frees
an open entry of the root. (R277, R278, R279, R280, R282, R283, R286) -/
def Obligations.HerdAgreesAndExcludes : Prop :=
  (∀ (s : State) (port : Nat) (m : LockMsg), 1 ≤ port → port ≤ 3 → s.linkUp port = true → s.portShut port = false →
    m.group % 65536 = s.getF .HRD_ID_GROUP_ID 0 → s.isSet .HRD_STATUS_IS_ROOT 0 = false →
    ∃ t, exec (.offerReceived port m) s = .next t ∧ (t.port port).fMin = leAt m.body 0 2 % 4096 ∧
    (t.port port).minId = leAt m.body 2 2 ∧ (t.port port).members = leAt m.body 4 4 % 2 ^ 17 ∧
    (t.port port).exclN = leAt m.body 8 2) ∧
  (∀ (s : State) (m : LockMsg), s.linkUp 0 = true → s.portShut 0 = false → m.group % 65536 = s.getF .HRD_ID_GROUP_ID 0 →
    s.hrd.lastSeq = none → s.herdSt = 2 → (s.time : Int) ≤ s.ownCt (leAt m.body 4 8) →
    ∃ t, exec (.changeReceived m) s = .next t ∧ t.getF .HRD_FREQ_PEND 0 = 1 ∧
    t.getF .HRD_PEND_F_NEW 0 = leAt m.body 0 2 % 4096 ∧ t.getF .HRD_PEND_CHG_SEQ 0 = leAt m.body 2 2 % 65536 ∧
    t.getF .HRD_PEND_TICK_LO_CT_LO 0 = leAt m.body 4 8 % 2 ^ 32 ∧
    t.getF .HRD_PEND_TICK_HI_CT_HI 0 = leAt m.body 4 8 / 2 ^ 32 % 2 ^ 32 ∧
    t.getF .HRD_FREQ_F_GRP 0 = s.getF .HRD_FREQ_F_GRP 0) ∧
  (∀ (s : State), s.isSet .HRD_FREQ_PEND 0 = true → s.isSet .HRD_STATUS_IS_ROOT 0 = false → s.herdSt = 5 →
    s.changeDue = true → ∃ t, exec (.changeTick) s = .next t ∧
    t.getF .HRD_FREQ_F_GRP 0 = s.getF .HRD_PEND_F_NEW 0 % 4096 ∧ t.getF .HRD_FREQ_PEND 0 = 0 ∧
    t.hrd.lastSeq = some (s.getF .HRD_PEND_CHG_SEQ 0) ∧ t.hrd.agreed = true) ∧
  (∀ (s : State), s.isSet .HRD_FREQ_PEND 0 = false → exec (.changeTick) s = .next (s)) ∧
  (∀ (s : State) (port i : Nat) (m : LockMsg), 1 ≤ port → port ≤ 3 → s.linkUp port = true → s.portShut port = false →
    m.group % 65536 = s.getF .HRD_ID_GROUP_ID 0 → s.isSet .HRD_STATUS_IS_ROOT 0 = true → leAt m.body 6 1 = 1 →
    (List.range 16).find? (fun i => decide (s.getF .HRD_EXCL_STATE i ≠ 0 ∧ s.getF .HRD_EXCL_STACK_ID i = m.sender %
      65536)) = none → (List.range 16).find? (fun i => decide (s.getF .HRD_EXCL_STATE i = 0)) = some i →
    ∃ t, exec (.excludeReceived port m) s = .next t ∧ t.getF .HRD_EXCL_STATE i = 1 ∧
    t.getF .HRD_EXCL_STACK_ID i = m.sender % 65536 ∧ t.getF .HRD_EXCL_F_OFF i = leAt m.body 0 2 % 4096 ∧
    t.getF .HRD_EVENT_EXCL_REQ 0 = 1) ∧
  (∀ (s : State) (port : Nat) (m : LockMsg), 1 ≤ port → port ≤ 3 → s.linkUp port = true → s.portShut port = false →
    m.group % 65536 = s.getF .HRD_ID_GROUP_ID 0 → s.isSet .HRD_STATUS_IS_ROOT 0 = false → s.linkUp 0 = true →
    (s.port 0).tested = false → ∃ t, exec (.excludeReceived port m) s = .next t ∧
    t.out = s.out ++ [.lock 0 ((fun b => b ++ leBytes 4 (crc32c b)) (lockBytes 0x65 m.flags (s.getF .HRD_ID_GROUP_ID 0)
      m.sender (s.port 0).txSeq m.body))]) ∧
  (∀ (s : State) (m : LockMsg), s.linkUp 0 = true → s.portShut 0 = false → m.group % 65536 = s.getF .HRD_ID_GROUP_ID 0 →
    s.herdSt = 3 → s.hrd.reqOpen = true → leAt m.body 0 2 = s.getF .HRD_ID_STACK_ID 0 → leAt m.body 2 2 = s.hrd.reqSeq →
    leAt m.body 4 1 = 1 → ∃ t, exec (.decideReceived m) s = .next t ∧ t.herdSt = 2 ∧ t.hrd.reqOpen = false ∧
    t.hrd.barCt = true) ∧
  (∀ (s : State) (m : LockMsg), s.linkUp 0 = true → s.portShut 0 = false → m.group % 65536 = s.getF .HRD_ID_GROUP_ID 0 →
    s.herdSt = 3 → s.hrd.reqOpen = true → leAt m.body 0 2 = s.getF .HRD_ID_STACK_ID 0 → leAt m.body 2 2 = s.hrd.reqSeq →
    leAt m.body 4 1 = 2 → ∃ t, exec (.decideReceived m) s = .next t ∧ t.herdSt = 4 ∧ t.hrd.reqOpen = false) ∧
  (∀ (s : State) (m : LockMsg), s.linkUp 0 = true → s.portShut 0 = false → m.group % 65536 = s.getF .HRD_ID_GROUP_ID 0 →
    ∃ t, exec (.disbandReceived m) s = .next t ∧ t.herdSt = 0 ∧ t.linkUp 0 = false ∧ t.getF .HRD_EVENT_DISBAND 0 = 1) ∧
  (∀ (s : State), s.linkUp 0 = true → exec (.offerSend) s = .next (s.sendOffer)) ∧
  (∀ (s : State), s.herdSt = 0 → exec (.offerRecompute) s = .next (s.setF .HRD_FREQ_F_OFF 0 s.offer)) ∧
  (∀ (s : State), s.herdSt = 2 → s.hrd.barCt = false → s.hrd.barUntil ≤ s.time →
    (s.setF .HRD_FREQ_F_OFF 0 s.offer).exclLow = true → s.isSet .HRD_STATUS_IS_ROOT 0 = false →
    ∃ t, exec (.offerRecompute) s = .next t ∧ t.herdSt = 3 ∧ t.hrd.reqOpen = true ∧
    t.hrd.reqSeq = (s.hrd.reqSeq + 1) % 65536 ∧ t.getF .HRD_EVENT_EXCL_REQ 0 = 1) ∧
  (∀ (s : State), s.herdSt = 3 → s.exclLow = false → s.isSet .HRD_STATUS_IS_ROOT 0 = false →
    ∃ t, exec (.exclusionRecovery) s = .next t ∧ t.herdSt = 2 ∧ t.hrd.reqOpen = false) ∧
  (∀ (s : State), s.herdSt = 3 → ∃ t, exec (.exclWaitExpiry) s = .next t ∧ t.herdSt = 2 ∧ t.hrd.reqOpen = false ∧
    t.hrd.barCt = true) ∧
  (∀ (s : State), s.herdSt = 1 → ∃ t, exec (.joinTimeout) s = .next t ∧ t.herdSt = 0 ∧ t.getF .HRD_EVENT_JOIN_TMO 0 = 1) ∧
  (∀ (s : State), s.herdSt = 5 → ∃ t, exec (.holdTmoExpiry) s = .next t ∧ t.herdSt = 0 ∧ t.getF .HRD_EVENT_DISBAND 0 = 1 ∧
    t.getF .GLB_TB_STATUS_HERD_SHARED 0 = 0) ∧
  (∀ (s : State) (stack i : Nat),
    (List.range 16).find? (fun i => decide (s.getF .HRD_EXCL_STATE i = 1 ∧ s.getF .HRD_EXCL_STACK_ID i = stack % 65536))
      = some i → s.isSet .HRD_STATUS_IS_ROOT 0 = true → s.downLinks = [] → s.herdSt ≠ 3 →
    exec (.decideFollow stack) s = .next (s)) ∧
  (∀ (s : State) (stack i : Nat),
    (List.range 16).find? (fun i => decide (s.getF .HRD_EXCL_STATE i = 1 ∧ s.getF .HRD_EXCL_STACK_ID i = stack % 65536))
      = some i → s.isSet .HRD_STATUS_IS_ROOT 0 = true → s.downLinks = [2] → s.herdSt = 2 → (s.port 2).tested = false →
    s.portsHeld = false → ∃ t, exec (.decideFollow stack) s = .next t ∧
    t.out = s.out ++ [.lock 2 ((fun b => b ++ leBytes 4 (crc32c b)) (lockBytes 0x67 (s.getF .HRD_STATUS_TB_DEG 0) (s.getF
      .HRD_ID_GROUP_ID 0) (s.getF .HRD_ID_STACK_ID 0) (s.port 2).txSeq (leBytes 2 (stack % 65536) ++ leBytes 2 (Tbl.get 0
      s.hrd.exclSeq i) ++ [1])))]) ∧
  (∀ (s : State) (stack i : Nat),
    (List.range 16).find? (fun i => decide (s.getF .HRD_EXCL_STATE i = 1 ∧ s.getF .HRD_EXCL_STACK_ID i = stack % 65536))
      = some i → s.isSet .HRD_STATUS_IS_ROOT 0 = true → s.herdSt = 2 → ∃ t, exec (.decideEvict stack) s = .next t ∧
    t.getF .HRD_EXCL_STATE i = 2 ∧ t.herdSt = 2) ∧
  (∀ (s : State) (entry : Nat), entry < 16 → s.isSet .HRD_STATUS_IS_ROOT 0 = true → s.isSet .HRD_EXCL_STATE entry = true →
    exec (.exclusionEntryExpiry entry) s = .next (((s.setF .HRD_EXCL_STATE entry 0).setF .HRD_EXCL_F_OFF entry 0).setF
      .HRD_EXCL_STACK_ID entry 0))

/-- Rounds, results, held values and urgent conversions of the converters. For every state and operands that meet a
clause's conditions the command answers a next state with the effect the clause names. ROUND_START of a converter in
service: while a round runs it is counted as an overrun and the round waits; on a free one its round begins; a rechecked
one returns to service first. CONVERSION_DONE gives the raw code and OVR of R290 from the input and the gain: one more
check reading of a converter in recheck, the result of ADC_URG_REQ (withheld of a suspect converter), of an urgent timer,
or of an entry without averaging on a channel from 192 to 227 other than MISC0, published with RESULT, CAL, OVR and VALID;
on a free converter nothing. TRIGGER_HOLD starts the conversion of the waiting entry on a converter that is free and awake
with nothing before it. TRIGGER_TIMEOUT skips the waiting entry, and the fourth skip in a row raises NO_TRIG.
HELD_VALUE_DISCARD discards the held value. URGENT_TIMER_CONVERSION at a tick of an enabled timer wakes the converter that
takes it and, where that is free, starts the conversion; of a LOST pair the sample is lost; a timer that is off does
nothing. ADC_URG_REQ is BUSY until its result, is refused for an undefined channel or without a converter in service, and
has no effect while BUSY. (R290, R293, R294, R295, R296, R297, R300, R302, R304, R305, R306, R307) -/
def Obligations.ConvertersConvertAndFail : Prop :=
  (∀ (s : State) (c : Nat), c < 16 → s.cvSt c ≤ 2 → s.pairSt (c / 2) ≠ 3 → (s.cv c).inRound = true →
    ∃ t, exec (.roundStart c) s = .next t ∧ (t.cv c).late = true ∧
    t.getF .ADC_CV_STATUS_OVERRUNS c = min (s.getF .ADC_CV_STATUS_OVERRUNS c + 1) (2 ^ Fld.width .ADC_CV_STATUS_OVERRUNS
      - 1) ∧ (t.cv c).inRound = true) ∧
  (∀ (s : State) (c : Nat), c < 16 → s.cvSt c ≤ 2 → s.pairSt (c / 2) ≠ 3 → (s.cv c).inRound = false →
    exec (.roundStart c) s = .next (s.beginRound c (s.roundNo c))) ∧
  (∀ (s : State) (c : Nat), c < 16 → s.cvSt c = 5 → (s.cv c).rcDone = true → (s.cv c).inRound = false →
    exec (.roundStart c) s = .next ((s.cvReturn c).beginRound c (s.roundNo c))) ∧
  (∀ (s : State) (c : Nat) (v : Int), c < 16 → s.cvSt c = 5 →
    exec (.conversionDone c v) s = .next (s.setCv c { s.cv c with
        rcN := min 64 ((s.cv c).rcN + 1), rcBad := (s.cv c).rcBad || !s.chkOk (c / 2) (rawCode v (s.getF .ADC_SEQ_GAIN
        (16 * c))) })) ∧
  (∀ (s : State) (c : Nat) (v : Int), c < 16 → s.cvSt c ≤ 1 → (s.cv c).cur = some .urgent →
    ∃ t, exec (.conversionDone c v) s = .next t ∧ t.getF .ADC_URG_RES_BUSY 0 = 0 ∧ t.getF .ADC_URG_RES_DONE 0 = 1 ∧
    t.getF .ADC_URG_RES_CONV 0 = c ∧ t.getF .ADC_URG_RES_RAW 0 = rawCode v (s.getF .ADC_URG_REQ_GAIN 0) ∧
    t.isSet .ADC_URG_RES_OVR 0 = rawOvr v (s.getF .ADC_URG_REQ_GAIN 0) ∧ t.adc.urgCh = none) ∧
  (∀ (s : State) (c : Nat) (v : Int), c < 16 → s.cvSt c = 2 → (s.cv c).cur = some .urgent →
    ∃ t, exec (.conversionDone c v) s = .next t ∧ t.getF .ADC_URG_RES_BUSY 0 = 0 ∧
    t.getF .ADC_URG_RES_DONE 0 = s.getF .ADC_URG_RES_DONE 0 ∧ t.getF .ADC_URG_RES_RAW 0 = s.getF .ADC_URG_RES_RAW 0 ∧
    t.adc.urgCh = none) ∧
  (∀ (s : State) (c e ch g : Nat) (v : Int), c < 16 → s.cvSt c ≤ 1 → (s.cv c).cur = some (.entry e) →
    s.seqCh (s.cv c).seqOf e = ch → s.getF .ADC_SEQ_GAIN (16 * (s.cv c).seqOf + e) = g → 192 ≤ ch → ch < 228 → ch ≠ 212 →
    s.getF .ADC_SEQ_AVGL (16 * (s.cv c).seqOf + e) = 0 → ∃ t, exec (.conversionDone c v) s = .next t ∧
    t.getF .ADC_RES_RESULT ch = rawCode v g / 2 ^ min 8 (s.getF .ADC_SEQ_SHIFT (16 * (s.cv c).seqOf + e)) ∧
    t.getF .ADC_RES_CAL ch = s.calOf c (16 * (rawCode v g : Nat)) ∧ t.isSet .ADC_RES_ST_OVR ch = rawOvr v g ∧
    t.isSet .ADC_RES_ST_VALID ch = !s.isSet .ADC_RES_ST_CAL_BUSY ch) ∧
  (∀ (s : State) (c o ch : Nat) (v : Int), c < 16 → s.cvSt c ≤ 1 → (s.cv c).cur = some (.timer o) →
    s.getF .ADC_CV_UT_UT_CH o = ch → 192 ≤ ch → ch < 228 → ch ≠ 212 → ∃ t, exec (.conversionDone c v) s = .next t ∧
    t.getF .ADC_RES_RESULT ch = rawCode v (s.getF .ADC_CV_UT_UT_GAIN o) ∧
    t.getF .ADC_RES_CAL ch = s.calOf c (16 * (rawCode v (s.getF .ADC_CV_UT_UT_GAIN o) : Nat)) ∧
    t.isSet .ADC_RES_ST_OVR ch = rawOvr v (s.getF .ADC_CV_UT_UT_GAIN o) ∧
    t.isSet .ADC_RES_ST_VALID ch = !s.isSet .ADC_RES_ST_CAL_BUSY ch) ∧
  (∀ (s : State) (c : Nat) (v : Int), c < 16 → s.cvSt c ≠ 5 → (s.cv c).cur = none →
    exec (.conversionDone c v) s = .next (s)) ∧
  (∀ (s : State) (c : Nat), c < 16 → s.cvServes c = true → (s.cv c).inRound = true → (s.cv c).waits = true →
    (s.cv c).ready = false → (s.cv c).cur = none → (s.cv c).timers = [] → (s.cv c).cross = none →
    s.isSet .ADC_CV_STATUS_PD c = false → s.utAhead c (s.cvTicks c) = false → s.adc.step = none → s.adc.urgCh = none →
    ∃ t, exec (.triggerHold c) s = .next t ∧ (t.cv c).cur = some (.entry (s.getF .ADC_CV_STATUS_POS c)) ∧
    (t.cv c).start = s.time) ∧
  (∀ (s : State) (c ch : Nat), c < 16 → s.cvServes c = true → (s.cv c).inRound = true → (s.cv c).waits = true →
    (s.cv c).ready = false → (s.cv c).late = false → s.seqCh (s.cv c).seqOf (s.getF .ADC_CV_STATUS_POS c) = ch →
    Tbl.get 0 s.adc.skips (16 * (s.cv c).seqOf + s.getF .ADC_CV_STATUS_POS c) = 3 →
    ∃ t, exec (.triggerTimeout c) s = .next t ∧ t.getF .ADC_RES_ST_NO_TRIG ch = 1 ∧ t.getF .ADC_EVENT_NO_TRIG 0 = 1 ∧
    Tbl.get 0 t.adc.skips (16 * (s.cv c).seqOf + s.getF .ADC_CV_STATUS_POS c) = 4) ∧
  (∀ (s : State) (c : Nat), c < 16 → (s.cv c).inRound = true → (s.cv c).waits = true → (s.cv c).ready = true →
    exec (.heldValueDiscard c) s = .next (s.setCv c { s.cv c with ready := false })) ∧
  (∀ (s : State) (c b : Nat), c < 16 → s.utRuns c = true → s.onTick (s.utTicks c) = true → (s.cv c).utAt ≠ some s.time →
    s.pairSt (c / 2) ≠ 3 → s.utBy c = b → s.cvServes b = true → (s.cv b).cur = none → (s.cv b).timers = [] →
    ∃ t, exec (.urgentTimerConversion c) s = .next t ∧ (t.cv b).cur = some (.timer c) ∧ (t.cv b).start = s.time ∧
    (t.cv b).cal = (s.getF .ADC_CAL_GAIN (s.getF .ADC_CV_UT_UT_CH c), s.getS .ADC_CAL_OFS (s.getF .ADC_CV_UT_UT_CH c)) ∧
    t.getF .ADC_CV_STATUS_PD b = 0) ∧
  (∀ (s : State) (c : Nat), c < 16 → s.utRuns c = true → s.onTick (s.utTicks c) = true → (s.cv c).utAt ≠ some s.time →
    s.pairSt (c / 2) = 3 → ∃ t, exec (.urgentTimerConversion c) s = .next t ∧
    t.getF .ADC_RES_ST_OVR (s.getF .ADC_CV_UT_UT_CH c) = 1 ∧ t.getF .ADC_RES_ST_VALID (s.getF .ADC_CV_UT_UT_CH c) = 0) ∧
  (∀ (s : State) (c : Nat), s.isSet .ADC_CV_UT_UT_EN c = false → exec (.urgentTimerConversion c) s = .next (s)) ∧
  (∀ (s : State) (ch gain smp : Nat), s.isSet .ADC_URG_RES_BUSY 0 = true → exec (.adcUrgReq ch gain smp) s = .next (s)) ∧
  (∀ (s : State) (ch gain smp c : Nat), s.isSet .ADC_URG_RES_BUSY 0 = false → chDefined s.cfg.table (ch % 256) = true →
    s.cvFor (ch % 256) = some c → ∃ t, exec (.adcUrgReq ch gain smp) s = .next t ∧ t.getF .ADC_URG_RES_BUSY 0 = 1 ∧
    t.getF .ADC_URG_RES_DONE 0 = 0 ∧ t.getF .ADC_URG_RES_REFUSED 0 = 0 ∧ t.getF .ADC_URG_REQ_CHANNEL 0 = ch % 256 ∧
    t.adc.urgCh = some (ch % 256)) ∧
  (∀ (s : State) (ch gain smp : Nat), s.isSet .ADC_URG_RES_BUSY 0 = false →
    (chDefined s.cfg.table (ch % 256) = false ∨ s.cvFor (ch % 256) = none) →
    ∃ t, exec (.adcUrgReq ch gain smp) s = .next t ∧ t.getF .ADC_URG_RES_BUSY 0 = 0 ∧ t.getF .ADC_URG_RES_DONE 0 = 0 ∧
    t.getF .ADC_URG_RES_REFUSED 0 = 1 ∧ t.adc = s.adc)

/-- Stalled, woken, offline, rechecked and calibrated converters. For every state and operands that meet a clause's
conditions the command answers a next state with the effect the clause names. CONVERTER_STALL of a converter whose
conversion has lasted twice its time, and CONVERTER_OFFLINE of one not failed: it fails with the cause 2 or 4, and its
pair is SOLO on its partner, or LOST with the event where the partner does not serve; a stall also counts a loss and sets
CV_FAIL. CONVERTER_WAKE of a powered-down converter: one that is ready serves what waits, and a late one fails with cause
3. CONVERTER_POWER_DOWN of an idle ACTIVE or SUSPECT converter with no urgent tick near sets PD. CONVERTER_ONLINE and
CONVERTER_RECHECK of a failed converter start its recheck; CONVERTER_RECHECK_END with 64 conversions within bounds lets it
return at its next round, and otherwise fails it again with a loss counted. CALIBRATION_STEP_DONE after 64 conversions:
ZERO keeps its reading and target, FULL with targets 256 apart and a GAIN in range sets GAIN and ends the procedure, OFS
sets OFS and ends it; before the 64th, with a converter for the channel, and without a step it does nothing.
CALIBRATION_EXPIRY of an open procedure with no step in progress restores GAIN and OFS and ends it. (R293, R301, R304,
R305, R306, R307) -/
def Obligations.ConverterHealthMoves : Prop :=
  (∀ (s : State) (c : Nat), c < 16 → s.cvSt c ≤ 2 → (s.cv c).cur ≠ none → 2 * s.cvTicks c ≤ s.time - (s.cv c).start →
    s.cvSt (cvPartner c) ≤ 2 → ∃ t, exec (.converterStall c) s = .next t ∧ t.cvSt c = 3 ∧
    t.getF .ADC_CV_STATUS_FAIL_CAUSE c = 2 ∧
    t.getF .ADC_CV_STATUS_LOSS_COUNT c = min (s.getF .ADC_CV_STATUS_LOSS_COUNT c + 1) (2 ^ Fld.width
      .ADC_CV_STATUS_LOSS_COUNT - 1) ∧ t.getF .ADC_EVENT_CV_FAIL 0 = 1 ∧
    (t.pairSt (c / 2) = if c % 2 = 0 then 1 else 2)) ∧
  (∀ (s : State) (c : Nat), c < 16 → s.cvSt c ≤ 2 → s.isSet .ADC_CV_STATUS_PD c = true →
    exec (.converterWake c true) s = .next ((s.setF .ADC_CV_STATUS_PD c 0).serve c)) ∧
  (∀ (s : State) (c : Nat), c < 16 → s.cvSt c ≤ 2 → s.isSet .ADC_CV_STATUS_PD c = true → s.cvSt (cvPartner c) ≤ 2 →
    ∃ t, exec (.converterWake c false) s = .next t ∧ t.cvSt c = 3 ∧ t.getF .ADC_CV_STATUS_FAIL_CAUSE c = 3 ∧
    (t.pairSt (c / 2) = if c % 2 = 0 then 1 else 2)) ∧
  (∀ (s : State) (c : Nat), c < 16 → (s.cvSt c = 1 ∨ s.cvSt c = 2) → s.utAhead c 101 = false →
    s.isSet .ADC_STATUS_LP_ACTIVE 0 = false → (s.cv c).inRound = false → (s.cv c).cur = none →
    exec (.converterPowerDown c) s = .next (s.setF .ADC_CV_STATUS_PD c 1)) ∧
  (∀ (s : State) (c : Nat), c < 16 → s.cvSt c ≠ 3 → s.cvSt (cvPartner c) ≤ 2 →
    ∃ t, exec (.converterOffline c) s = .next t ∧ t.getF .ADC_CV_CTRL_OFFLINE c = 1 ∧ t.cvSt c = 3 ∧
    t.getF .ADC_CV_STATUS_FAIL_CAUSE c = 4) ∧
  (∀ (s : State) (c : Nat), c < 16 → s.cvSt c ≠ 3 → 2 < s.cvSt (cvPartner c) →
    ∃ t, exec (.converterOffline c) s = .next t ∧ t.cvSt c = 3 ∧ t.pairSt (c / 2) = 3 ∧
    t.getF .ADC_EVENT_PAIR_LOST 0 = 1) ∧
  (∀ (s : State) (c : Nat), c < 16 → s.cvSt c = 3 → ∃ t, exec (.converterOnline c) s = .next t ∧
    t.getF .ADC_CV_CTRL_OFFLINE c = 0 ∧ t.cvSt c = 5 ∧ (t.cv c).rcN = 0 ∧ (t.cv c).rcBad = false) ∧
  (∀ (s : State) (c : Nat), c < 16 → s.cvSt c = 3 → exec (.converterRecheck c) s = .next (s.recheckStart c)) ∧
  (∀ (s : State) (c : Nat), c < 16 → s.cvSt c = 5 → (s.cv c).rcDone = false → (s.cv c).rcN = 64 → (s.cv c).rcBad = false →
    exec (.converterRecheckEnd c) s = .next (s.setCv c { s.cv c with rcDone := true })) ∧
  (∀ (s : State) (c : Nat), c < 16 → s.cvSt c = 5 → (s.cv c).rcDone = false →
    ((s.cv c).rcN < 64 ∨ (s.cv c).rcBad = true) → ∃ t, exec (.converterRecheckEnd c) s = .next t ∧ t.cvSt c = 3 ∧
    t.getF .ADC_CV_STATUS_LOSS_COUNT c = min (s.getF .ADC_CV_STATUS_LOSS_COUNT c + 1) (2 ^ Fld.width
      .ADC_CV_STATUS_LOSS_COUNT - 1)) ∧
  (∀ (s : State) (st : CalStep), s.adc.step = some st → st.step = 1 → 64 ≤ st.n →
    ∃ t, exec (.calibrationStepDone) s = .next t ∧
    t.adc.zero = s.adc.zero.put st.ch (rne (16 * st.sum : Nat) 6, st.target) ∧ t.adc.step = none ∧
    t.getF .ADC_CAL_GAIN st.ch = s.getF .ADC_CAL_GAIN st.ch) ∧
  (∀ (s : State) (zt : Nat) (z : Int) (st : CalStep), s.adc.step = some st → st.step = 2 → 64 ≤ st.n →
    s.adc.zero.find? (fun p => decide (p.1 = st.ch)) = some (st.ch, (z, zt)) → zt + 256 ≤ st.target →
    4096 ≤ (fullCal z (rne (16 * st.sum : Nat) 6) zt st.target).1 →
    (fullCal z (rne (16 * st.sum : Nat) 6) zt st.target).1 ≤ 16384 → ∃ t, exec (.calibrationStepDone) s = .next t ∧
    (t.getF .ADC_CAL_GAIN st.ch : Int) = (fullCal z (rne (16 * st.sum : Nat) 6) zt st.target).1 ∧
    t.getF .ADC_RES_ST_CAL_BUSY st.ch = 0 ∧ t.adc.step = none) ∧
  (∀ (s : State) (st : CalStep), s.adc.step = some st → st.step = 3 → 64 ≤ st.n →
    ∃ t, exec (.calibrationStepDone) s = .next t ∧
    t.getF .ADC_CAL_OFS st.ch = toU (Fld.width .ADC_CAL_OFS) (rne (16 * st.sum : Nat) 6 - rneDiv (st.target * 131072 :
      Nat) (max 1 (s.getF .ADC_CAL_GAIN st.ch))) ∧ t.getF .ADC_CAL_GAIN st.ch = s.getF .ADC_CAL_GAIN st.ch ∧
    t.getF .ADC_RES_ST_CAL_BUSY st.ch = 0 ∧ t.adc.step = none) ∧
  (∀ (s : State) (st : CalStep), s.adc.step = some st → st.n < 64 → s.cvFor st.ch ≠ none →
    exec (.calibrationStepDone) s = .next (s)) ∧
  (∀ (s : State), s.adc.step = none → exec (.calibrationStepDone) s = .next (s)) ∧
  (∀ (s : State) (ch : Nat), s.isSet .ADC_RES_ST_CAL_BUSY ch = true →
    s.adc.step.any (fun t => decide (t.ch = ch)) = false →
    exec (.calibrationExpiry ch) s = .next ((s.restoreCal ch).endCal ch))

/-- The commands of the check-value units. For every state and operands that meet a clause's conditions the command
answers a next state with the effect the clause names. On units 1 to 3 before the configuration commit, not FAILED:
CRC_START loads INIT and CRC_VALUE_WRITE the value written, both cut to the width, in ACTIVE; CRC_DATA32 and CRC_DATA8
absorb their bytes in ACTIVE, and CRC_DATA8 is dropped with DROPPED in IDLE and DONE; CRC_FINISH in ACTIVE without
comparison forms RESULT and DONE; CRC_ABORT gives IDLE; CRC_SETTINGS_WRITE of CRC_CFG is taken in IDLE and DONE, and any
setting is dropped with DROPPED in ACTIVE and FAILED. CRC_START on unit 0 is taken from the holder of its lease, and of
another it is recorded as 0x0F/4; after the commit CRC_START on units 1 to 3 is recorded as 0x0F/3. CRC_CLAIM takes a free
lease while unit 0 carries no moved duty, and a held one stays; CRC_RELEASE of the holder frees it; CRC_LEASE_EXPIRY after
release of a lease not held by the image loader breaks it. CRC_SELF_TEST that fails, of units 1 to 3 that test now with
unit 0 free: FAILED, RESULT 0, and the duty and settings move to unit 0; one that passes changes nothing. (R16, R328,
R329, R330, R331, R332, R333, R334, R335) -/
def Obligations.CheckValueUnitsCompute : Prop :=
  (∀ (s : State) (u init : Nat), 1 ≤ u → u ≤ 3 → s.committed = false → s.crcSt u ≠ 3 →
    ∃ t, exec (.crcStart init u) s = .next t ∧ t.crcSt u = 1 ∧
    t.getF .CRC_VALUE_VALUE u = s.getF .CRC_INIT_INIT u % 2 ^ s.crcW u) ∧
  (∀ (s : State) (init : Nat), s.isSet .CRC_LEASE_HELD 0 = true → s.getF .CRC_LEASE_HOLDER 0 = init → s.crcSt 0 ≠ 3 →
    ∃ t, exec (.crcStart init 0) s = .next t ∧ t.crcSt 0 = 1 ∧
    t.getF .CRC_VALUE_VALUE 0 = s.getF .CRC_INIT_INIT 0 % 2 ^ s.crcW 0) ∧
  (∀ (s : State) (init : Nat), (s.isSet .CRC_LEASE_HELD 0 = false ∨ s.getF .CRC_LEASE_HOLDER 0 ≠ init) →
    exec (.crcStart init 0) s = .next (s.raiseAccess 0x0F 4 init init (fldOffset .CRC_CMD_START 0) 2)) ∧
  (∀ (s : State) (u init : Nat), 1 ≤ u → u ≤ 3 → s.committed = true →
    exec (.crcStart init u) s = .next (s.raiseAccess 0x0F 3 init init (fldOffset .CRC_CMD_START u) 2)) ∧
  (∀ (s : State) (u init : Nat), 1 ≤ u → u ≤ 3 → s.committed = false → s.crcSt u = 1 → s.isSet .CRC_CFG_CMP_EN u = false →
    ∃ t, exec (.crcFinish init u) s = .next t ∧ t.crcSt u = 2 ∧
    t.getF .CRC_RESULT_RESULT u = crcFinish (s.crcW u) (s.isSet .CRC_CFG_REFOUT u) (s.isSet .CRC_CFG_FINAL_INV u) (s.getF
      .CRC_VALUE_VALUE u) % 2 ^ 32 ∧ t.getF .CRC_STATUS_MATCH u = 0 ∧ t.getF .CRC_STATUS_MISMATCH u = 0) ∧
  (∀ (s : State) (u init : Nat), 1 ≤ u → u ≤ 3 → s.committed = false → s.crcSt u ≠ 3 →
    ∃ t, exec (.crcAbort init u) s = .next t ∧ t.crcSt u = 0) ∧
  (∀ (s : State) (u init data : Nat), 1 ≤ u → u ≤ 3 → s.committed = false → s.crcSt u = 1 → s.crcW u ≤ 32 →
    ∃ t, exec (.crcData32 init u data) s = .next t ∧
    t.getF .CRC_VALUE_VALUE u = crcBytes (s.crcW u) (s.getF .CRC_POLY_POLY u) (s.isSet .CRC_CFG_REFIN u) (s.getF
      .CRC_VALUE_VALUE u) (wordBytes data) % 2 ^ 32 ∧ t.crcSt u = 1) ∧
  (∀ (s : State) (u init data : Nat), 1 ≤ u → u ≤ 3 → s.committed = false → s.crcSt u = 1 →
    ∃ t, exec (.crcData8 init u data) s = .next t ∧
    t.getF .CRC_VALUE_VALUE u = crcByte (s.crcW u) (s.getF .CRC_POLY_POLY u) (s.isSet .CRC_CFG_REFIN u) (s.getF
      .CRC_VALUE_VALUE u) (data % 256) % 2 ^ 32) ∧
  (∀ (s : State) (u init data : Nat), 1 ≤ u → u ≤ 3 → s.committed = false → (s.crcSt u = 0 ∨ s.crcSt u = 2) →
    exec (.crcData8 init u data) s = .next (s.setF .CRC_STATUS_DROPPED u 1)) ∧
  (∀ (s : State) (u init value : Nat), 1 ≤ u → u ≤ 3 → s.committed = false → s.crcSt u ≠ 3 →
    ∃ t, exec (.crcValueWrite init u value) s = .next t ∧ t.crcSt u = 1 ∧
    t.getF .CRC_VALUE_VALUE u = value % 2 ^ s.crcW u) ∧
  (∀ (s : State) (u init value : Nat), 1 ≤ u → u ≤ 3 → s.committed = false → (s.crcSt u = 0 ∨ s.crcSt u = 2) →
    ∃ t, exec (.crcSettingsWrite init u 0 value) s = .next t ∧ t.getF .CRC_CFG_WIDTH_M1 u = value % 32 ∧
    t.getF .CRC_CFG_REFIN u = value / 32 % 2 ∧ t.getF .CRC_CFG_REFOUT u = value / 64 % 2 ∧
    t.getF .CRC_CFG_FINAL_INV u = value / 128 % 2 ∧ t.getF .CRC_CFG_CMP_EN u = value / 256 % 2 ∧
    t.getF .CRC_CFG_IRQ_EN u = value / 512 % 2) ∧
  (∀ (s : State) (u init reg value : Nat), 1 ≤ u → u ≤ 3 → reg < 3 → s.committed = false →
    (s.crcSt u = 1 ∨ s.crcSt u = 3) →
    exec (.crcSettingsWrite init u reg value) s = .next (s.setF .CRC_STATUS_DROPPED u 1)) ∧
  (∀ (s : State) (init : Nat), s.isSet .CRC_LEASE_HELD 0 = false →
    (s.getF .CRC_STATUS_DUTY 0 = 0 ∨ 3 < s.getF .CRC_STATUS_DUTY 0) →
    exec (.crcClaim init) s = .next ((s.setF .CRC_LEASE_HELD 0 1).setF .CRC_LEASE_HOLDER 0 init)) ∧
  (∀ (s : State) (init : Nat), s.isSet .CRC_LEASE_HELD 0 = true → exec (.crcClaim init) s = .next (s)) ∧
  (∀ (s : State) (init : Nat), s.isSet .CRC_LEASE_HELD 0 = true → s.getF .CRC_LEASE_HOLDER 0 = init →
    exec (.crcRelease init) s = .next (s.setF .CRC_LEASE_HELD 0 0)) ∧
  (∀ (s : State), s.boot.released = true → s.isSet .CRC_LEASE_HELD 0 = true → s.getF .CRC_LEASE_HOLDER 0 ≠ 0xFF →
    ∃ t, exec (.crcLeaseExpiry) s = .next t ∧ t.getF .CRC_LEASE_HELD 0 = 0 ∧
    (t.crcSt 0 = if s.crcSt 0 = 3 then 3 else 0) ∧ t.getF .CRC_EVENT_LEASE_BROKEN 0 = 1) ∧
  (∀ (s : State) (u : Nat), 1 ≤ u → u ≤ 3 → s.testsNow u = true → s.crcSt 0 ≠ 3 → s.getF .CRC_STATUS_DUTY 0 = 0 →
    ∃ t, exec (.crcSelfTest u false) s = .next t ∧ t.crcSt u = 3 ∧ t.getF .CRC_RESULT_RESULT u = 0 ∧
    t.getF .CRC_STATUS_DUTY 0 = u ∧ t.getF .CRC_LEASE_HELD 0 = 0 ∧
    t.getF .CRC_POLY_POLY 0 = s.getF .CRC_POLY_POLY u % 2 ^ 32) ∧
  (∀ (s : State) (u : Nat), exec (.crcSelfTest u true) s = .next (s))

/-- The telemetry ring. For every state and operands that meet a clause's conditions the command answers a next state with
the effect the clause names. TELEMETRY_WINDOW_CLOSE of a slow tick not yet closed, with no stop waiting: the sums start
again; without forming nothing is queued, and with forming and the stack record alone that record is queued under the next
SEQ. RECORD_WRITE_ACK of a record that can be written puts the oldest one on the bus at its place of the ring with its
check value and advances PROD. RECORD_DROP of one that has waited 2 ms counts in LOST and sets DROP. NOTIFY_WRITE of a
notice whose records are written carries PROD. TELEMETRY_ENABLE and TELEMETRY_DISABLE write ENABLE and let the forming
start or stop at a slow tick; TELEMETRY_START of a waiting ENABLE starts the forming with PROD, CONS and SEQ at 0, and
otherwise does nothing. BUS_ERROR_RESPONSE to the oldest record's write clears ENABLE and the queue, counts it in LOST and
raises SUB 0x0A CODE 2 with its address; to a dump write it ends the capture; with no write out it does nothing.
TELEMETRY_SETUP with a SIZE_LOG2 of 8 to 20 and the engine at rest writes ring, notice and enable and answers OK; with
another SIZE_LOG2 it answers BAD_PARAM and writes nothing. (R309, R313, R314, R315, R316, R317, R319, R351) -/
def Obligations.TelemetryRunsItsRing : Prop :=
  (∀ (s : State), s.tlm.lastTick < s.time / 100000 → s.tlm.stopWait = false → s.tlm.forming = false →
    ∃ t, exec (.telemetryWindowClose) s = .next t ∧ t.tlm.dom = s.tlm.dom.map (fun p => (p.1, p.2.next)) ∧
    t.tlm.lastTick = s.time / 100000 ∧ t.tlm.stack = StackAcc.empty ∧ t.tlm.queue = s.tlm.queue ∧ t.out = s.out) ∧
  (∀ (s : State), s.tlm.lastTick < s.time / 100000 → s.tlm.stopWait = false → s.tlm.forming = true → s.recordDoms = [] →
    s.isSet .TLM_CTRL_STACK_REC 0 = true → s.tlm.queue = [] → ∃ t, exec (.telemetryWindowClose) s = .next t ∧
    t.tlm.queue = [{ bytes := s.stackRecord.1, born := s.time }] ∧ t.tlm.seq = (s.tlm.seq + 1) % 2 ^ 32 ∧
    t.tlm.stack = StackAcc.empty ∧ t.getF .TLM_STATUS_QUEUED 0 = 1) ∧
  (∀ (s : State) (r : TlmRec) (rest : List TlmRec), s.tlm.queue = r :: rest → s.recordReady = true →
    ∃ t, exec (.recordWriteAck) s = .next t ∧ t.tlm.queue = rest ∧
    t.getF .TLM_PROD_PROD 0 = (s.getF .TLM_PROD_PROD 0 + 1) % 2 ^ 32 ∧
    t.out = s.out ++ [.busWrite (s.ringAddr (s.getF .TLM_PROD_PROD 0)) (sealRecord r.bytes s.tlm.lostBefore)] ∧
    t.tlm.lostBefore = false) ∧
  (∀ (s : State) (r : TlmRec) (rest : List TlmRec), s.tlm.queue = r :: rest → 200000 ≤ s.time - r.born →
    ∃ t, exec (.recordDrop) s = .next t ∧ t.tlm.queue = rest ∧
    t.getF .TLM_LOST_LOST 0 = min (s.getF .TLM_LOST_LOST 0 + 1) (2 ^ Fld.width .TLM_LOST_LOST - 1) ∧
    t.getF .TLM_EVENT_DROP 0 = 1 ∧ t.tlm.lostBefore = true) ∧
  (∀ (s : State), s.noticeReady = true → ∃ t, exec (.notifyWrite) s = .next t ∧
    t.out = s.out ++ [.busWrite s.noticeAddr (leBytes 4 (s.getF .TLM_PROD_PROD 0))] ∧
    t.tlm.notices = s.tlm.notices.drop 1) ∧
  (∀ (s : State), ∃ t, exec (.telemetryEnable) s = .next t ∧ t.getF .TLM_CTRL_ENABLE 0 = 1 ∧
    t.tlm.startWait = !s.tlm.forming ∧ t.tlm.stopWait = false ∧ t.getF .TLM_STATUS_BUS_ERR_ST 0 = 0) ∧
  (∀ (s : State), ∃ t, exec (.telemetryDisable) s = .next t ∧ t.getF .TLM_CTRL_ENABLE 0 = 0 ∧ t.tlm.startWait = false ∧
    t.tlm.stopWait = s.tlm.forming) ∧
  (∀ (s : State), s.tlm.startWait = true → ∃ t, exec (.telemetryStart) s = .next t ∧ t.tlm.forming = true ∧
    t.tlm.startWait = false ∧ t.tlm.seq = 0 ∧ t.getF .TLM_PROD_PROD 0 = 0 ∧ t.getF .TLM_CONS_CONS 0 = 0 ∧
    t.getF .TLM_STATUS_RUNNING 0 = 1) ∧
  (∀ (s : State), s.tlm.startWait = false → exec (.telemetryStart) s = .next (s)) ∧
  (∀ (s : State) (r : TlmRec) (rest : List TlmRec), s.tlm.queue = r :: rest → s.recordReady = true →
    ∃ t, exec (.busErrorResponse 0) s = .next t ∧ t.getF .TLM_CTRL_ENABLE 0 = 0 ∧ t.tlm.queue = [] ∧
    t.tlm.forming = false ∧
    t.getF .TLM_LOST_LOST 0 = min (s.getF .TLM_LOST_LOST 0 + s.tlm.queue.length) (2 ^ Fld.width .TLM_LOST_LOST - 1) ∧
    t.getF .TLM_STATUS_BUS_ERR_ST 0 = 1 ∧ t.getF .TLM_EVENT_BUS_ERR 0 = 1 ∧
    (s.raiseAccess 0x0A 2 0 0xFD (s.ringAddr (s.getF .TLM_PROD_PROD 0)) 3).raiseQ <+: t.raiseQ) ∧
  (∀ (s : State) (write : Nat), s.tlm.queue = [] → s.noticeReady = false → s.capSt ≠ 3 →
    exec (.busErrorResponse write) s = .next (s)) ∧
  (∀ (s : State), s.capSt = 3 → 0 < s.tlm.cap.dumpLeft → s.tlm.cap.issued = true →
    ∃ t, exec (.busErrorResponse 2) s = .next t ∧ t.capSt = 0 ∧ t.getF .TLM_CTRL_ENABLE 0 = 0 ∧ t.tlm.queue = [] ∧
    t.getF .TLM_STATUS_BUS_ERR_ST 0 = 1 ∧
    (s.raiseAccess 0x0A 2 0 0xFD (s.dumpAddr (1024 - s.tlm.cap.dumpLeft)) 3).raiseQ <+: t.raiseQ) ∧
  (∀ (s : State) (set slot : Nat) (p : Packet), set < 64 → slot < 8 → s.ready (8 * set + slot) 0x40 = some p →
    firstBad ([0, 240] ++ whole 6 ++ [31, 255, 3, 0, 252] ++ whole 7 ++ [0, 0, 0, 0]) p.payload = none →
    8 ≤ leAt p.payload 8 1 → leAt p.payload 8 1 ≤ 20 → s.isSet .TLM_STATUS_RUNNING 0 = false →
    ∃ t, exec (.telemetrySetup set slot) s = .next t ∧
    t.getF .TLM_RING_LO_BASE_LO 0 = leAt p.payload 0 8 / 4096 % 2 ^ 20 ∧
    t.getF .TLM_RING_HI_BASE_HI 0 = leAt p.payload 0 8 / 2 ^ 32 % 2 ^ 32 ∧
    t.getF .TLM_CTRL_SIZE_LOG2 0 = leAt p.payload 8 1 ∧ t.getF .TLM_CTRL_NOTIFY_MS 0 = leAt p.payload 9 1 % 256 ∧
    t.isSet .TLM_CTRL_ENABLE 0 = decide (leAt p.payload 10 1 % 2 = 1) ∧ t.slotPkt (8 * set + slot) = none ∧
    Tbl.get 0 t.cmd.replyMem (64 * (8 * set + slot)) / 256 % 256 = stOk) ∧
  (∀ (s : State) (set slot : Nat) (p : Packet), set < 64 → slot < 8 → s.ready (8 * set + slot) 0x40 = some p →
    firstBad ([0, 240] ++ whole 6 ++ [31, 255, 3, 0, 252] ++ whole 7 ++ [0, 0, 0, 0]) p.payload = none →
    (leAt p.payload 8 1 < 8 ∨ 20 < leAt p.payload 8 1) → ∃ t, exec (.telemetrySetup set slot) s = .next t ∧
    t.slotPkt (8 * set + slot) = none ∧ Tbl.get 0 t.cmd.replyMem (64 * (8 * set + slot)) / 256 % 256 = stBadParam ∧
    t.getF .TLM_CTRL_SIZE_LOG2 0 = s.getF .TLM_CTRL_SIZE_LOG2 0)

/-- The capture of waveforms. For every state and operands that meet a clause's conditions the command answers a next
state with the effect the clause names. CAPTURE_ARM in IDLE with a channel on, and in DONE, enters ARMED with an empty
buffer; in ARMED, POST and DUMPING, and in IDLE without a channel, it only sets ARM. CAPTURE_DISARM with no packet in
flight returns ARMED and POST to IDLE. CAPTURE_TRIGGER with the trigger latched enters POST with POST blocks to come.
CAPTURE_BLOCK_ENCODE in ARMED, before any block and trigger: 64 instants leave the instants and give a block; fewer give
none. CAPTURE_POST_DONE starts the dump of 1,024 writes. CAPTURE_DUMP_ACK of a write on the port puts its 64 bytes on the
bus; the last one gives DONE. CAPTURE_WAIT_TIMEOUT of the one packet in flight, a waiting CAPTURE_WAVEFORM, disarms and
answers TIMEOUT. CAPTURE_WAVEFORM in IDLE with a channel on sets the capture up, arms it and stays pending. (R319, R321,
R323, R324, R351) -/
def Obligations.CaptureRecordsAndDumps : Prop :=
  (∀ (s : State), (s.capSt = 4 ∨ (s.capSt = 0 ∧ s.capChannels ≠ [])) → ∃ t, exec (.captureArm) s = .next t ∧ t.capSt = 1 ∧
    t.getF .TLM_CAP_CTRL_ARM 0 = 1 ∧ t.getF .TLM_CAP_STATUS_BLOCKS 0 = 0 ∧ t.getF .TLM_CAP_STATUS_WRAPPED 0 = 0 ∧
    t.tlm.cap = { CapState.reset with armedAt := s.time }) ∧
  (∀ (s : State), (s.capSt = 1 ∨ s.capSt = 2 ∨ s.capSt = 3 ∨ (s.capSt = 0 ∧ s.capChannels = [])) →
    exec (.captureArm) s = .next (s.setF .TLM_CAP_CTRL_ARM 0 1)) ∧
  (∀ (s : State), s.cmd.inflight = [] → (s.capSt = 1 ∨ s.capSt = 2) → ∃ t, exec (.captureDisarm) s = .next t ∧
    t.capSt = 0 ∧ t.getF .TLM_CAP_CTRL_ARM 0 = 0) ∧
  (∀ (s : State), s.capSt = 1 → 64 ≤ s.tlm.cap.inst.length → s.tlm.cap.trigAt = none → s.tlm.cap.blocks = [] →
    ∃ t, exec (.captureBlockEncode) s = .next t ∧ t.tlm.cap.inst = s.tlm.cap.inst.drop 64 ∧
    t.tlm.cap.blocks = [s.capBlock (s.tlm.cap.inst.take 64) none] ∧ t.getF .TLM_CAP_STATUS_BLOCKS 0 = 1) ∧
  (∀ (s : State), s.tlm.cap.inst.length < 64 → exec (.captureBlockEncode) s = .next (s)) ∧
  (∀ (s : State), s.capSt = 1 → s.tlm.cap.trigTime ≠ none → ∃ t, exec (.captureTrigger) s = .next t ∧ t.capSt = 2 ∧
    t.tlm.cap.postLeft = s.getF .TLM_CAP_CTRL_POST 0 ∧ t.tlm.cap.trigTime = s.tlm.cap.trigTime) ∧
  (∀ (s : State), s.capSt = 2 → s.tlm.cap.trigAt = none → s.tlm.cap.postLeft = 0 →
    ∃ t, exec (.capturePostDone) s = .next t ∧ t.capSt = 3 ∧ t.tlm.cap.dumpLeft = 1024 ∧
    t.tlm.cap.blocks = s.tlm.cap.blocks) ∧
  (∀ (s : State), s.capSt = 3 → 1 < s.tlm.cap.dumpLeft → s.tlm.cap.issued = true →
    ∃ t, exec (.captureDumpAck) s = .next t ∧
    t.out = s.out ++ [.busWrite (s.dumpAddr (1024 - s.tlm.cap.dumpLeft)) (s.dumpBytes (1024 - s.tlm.cap.dumpLeft))] ∧
    t.tlm.cap.dumpLeft = s.tlm.cap.dumpLeft - 1 ∧ t.capSt = 3) ∧
  (∀ (s : State), s.capSt = 3 → s.tlm.cap.dumpLeft = 1 → s.tlm.cap.issued = true →
    ∃ t, exec (.captureDumpAck) s = .next t ∧ t.capSt = 4 ∧ t.tlm.cap.dumpLeft = 0) ∧
  (∀ (s : State) (k : Nat) (f : InFlight), s.cmd.inflight = [(k, f)] → f.phase = .pending → f.pkt.op = 0x41 →
    s.capSt = 1 → ∃ t, exec (.captureWaitTimeout) s = .next t ∧ t.capSt = 0 ∧ t.cmd.inflight = [] ∧
    Tbl.get 0 t.cmd.replyMem (64 * k) / 256 % 256 = stTimeout) ∧
  (∀ (s : State) (set slot : Nat) (p : Packet), set < 64 → slot < 8 → s.ready (8 * set + slot) 0x41 = some p →
    firstBad ([7, 0, 255, 1, 255, 3, 255, 255, 0, 240] ++ whole 14 ++ (List.replicate 8 [255, 7, 7, 0]).flatten)
      p.payload = none → s.capSt = 0 →
    (List.range 8).any (fun c => decide (1 ≤ leAt p.payload (26 + 4 * c) 1 ∧ leAt p.payload (26 + 4 * c) 1 ≤ 4)) = true →
    ∃ t, exec (.captureWaveform set slot) s = .next t ∧ t.capSt = 1 ∧
    t.getF .TLM_CAP_CTRL_POST 0 = leAt p.payload 4 2 % 1024 ∧
    t.getF .TLM_CAP_TICK_LO_TICK_LO 0 = leAt p.payload 16 4 % 2 ^ 32 ∧
    (t.slotPkt (8 * set + slot)).map (fun f => f.phase) = some .pending ∧
    Tbl.get 0 t.cmd.replyMem (64 * (8 * set + slot)) / 256 % 256 = stPending)

/-- Slots, registration, leases and the start of firmware packets. For every state and operands that meet a clause's
conditions the command answers a next state with the effect the clause names. SLOT_HANDOVER into a partner set: of another
initiator it is recorded as SLOT_FOREIGN and stores nothing, into a busy slot as SLOT_BUSY_WR, and otherwise word 63 is
stored and the packet handed over. REPLY_SLOT_READ reads the last word of the reply: its owner gets the word, another gets
0 and is recorded; on a registration slot it frees the latched slot. REGISTRATION_SLOT_TIMEOUT frees a registration slot
whose reply is out. FIRMWARE_PACKET_START of the only packet in flight, queued, with CP0 running: an opcode of CP0 is
started, and one of CP1, running, goes to the mailbox with a PENDING reply. REGISTER_PARTNER with a lease of 2 to 60 s of
a permitted initiator gives the lowest free set its state, class, initiator, lease and a new epoch. RENEW_LEASE answers OK
with what is left of the lease. RELEASE_PARTNER gives RELEASED. HEARTBEAT_MISSED of a registered partner gives LEASE_LATE
and its event; LEASE_EXPIRY of a late one gives RELEASED and its event, and of no other does anything. PARTNER_FREE of a
released set clears it to FREE. (R337, R338, R339, R346, R347, R348, R366) -/
def Obligations.PartnersComeAndGo : Prop :=
  (∀ (s : State) (init set slot word : Nat), 1 ≤ set → set < 64 → slot < 8 →
    (s.partSt set = 0 ∨ s.getF .CMD_PART_ID_INITIATOR set ≠ init) →
    exec (.slotHandover init set slot word) s = .next (s.slotEvent .CMD_EVENT_FOREIGN set init (0x20000 + 0x800 * set +
      0x100 * slot + 4 * 63))) ∧
  (∀ (s : State) (init set slot word : Nat), 1 ≤ set → set < 64 → slot < 8 → s.partSt set ≠ 0 →
    s.getF .CMD_PART_ID_INITIATOR set = init → bitOf (s.getF .CMD_PART_SLOTS_BUSY set) slot = true →
    exec (.slotHandover init set slot word) s = .next (s.slotEvent .CMD_EVENT_SLOT_BUSY_WR set init (0x20000 + 0x800 *
      set + 0x100 * slot + 4 * 63))) ∧
  (∀ (s : State) (init set slot word : Nat), 1 ≤ set → set < 64 → slot < 8 → s.partSt set ≠ 0 →
    s.getF .CMD_PART_ID_INITIATOR set = init → bitOf (s.getF .CMD_PART_SLOTS_BUSY set) slot = false →
    ∃ t, exec (.slotHandover init set slot word) s = .next t ∧
    Tbl.get 0 t.cmd.slotMem (64 * (8 * set + slot) + 63) = word % 2 ^ 32 ∧ t.cmd.orderCtr = s.cmd.orderCtr + 1) ∧
  (∀ (s : State) (init set slot : Nat), 1 ≤ set → set < 64 → slot < 8 → s.partSt set ≠ 0 →
    s.getF .CMD_PART_ID_INITIATOR set = init → ∃ t, exec (.replySlotRead init set slot) s = .next t ∧
    t.out = s.out ++ [.readData init (0x40000 + 0x800 * set + 0x100 * slot + 4 * s.lastWord (8 * set + slot)) (Tbl.get 0
      s.cmd.replyMem (64 * (8 * set + slot) + s.lastWord (8 * set + slot)))] ∧ t.raiseQ = s.raiseQ) ∧
  (∀ (s : State) (init set slot : Nat), 1 ≤ set → set < 64 → slot < 8 →
    (s.partSt set = 0 ∨ s.getF .CMD_PART_ID_INITIATOR set ≠ init) → ∃ t, exec (.replySlotRead init set slot) s = .next t ∧
    t.out = s.out ++ [.readData init (0x40000 + 0x800 * set + 0x100 * slot + 4 * s.lastWord (8 * set + slot)) 0] ∧
    t.getF .CMD_EVENT_FOREIGN 0 = 1) ∧
  (∀ (s : State) (init slot : Nat), slot < 8 → init ≠ 0x100 → Tbl.get 0x100 s.cmd.latch slot = init →
    s.cmd.readBack = [slot] → ∃ t, exec (.replySlotRead init 0 slot) s = .next t ∧ t.cmd.readBack = [] ∧
    t.out = s.out ++ [.readData init (0x40000 + 0x100 * slot + 4 * s.lastWord slot) (Tbl.get 0 s.cmd.replyMem (64 * slot
      + s.lastWord slot))]) ∧
  (∀ (s : State) (slot : Nat), slot < 8 → s.cmd.readBack.contains slot = true →
    ∃ t, exec (.registrationSlotTimeout slot) s = .next t ∧
    t.cmd.readBack = s.cmd.readBack.filter (fun x => decide (x ≠ slot)) ∧ t.cmd.latch = s.cmd.latch.erase slot) ∧
  (∀ (s : State) (set slot : Nat) (f : InFlight), s.slotPkt (8 * set + slot) = some f → f.phase = .queued → s.cpSt 0 = 2 →
    s.cmd.inflight = [(8 * set + slot, f)] → opCp1 f.pkt.op = false →
    exec (.firmwarePacketStart set slot) s = .next (s.setPhase (8 * set + slot) .started)) ∧
  (∀ (s : State) (set slot : Nat) (f : InFlight), s.slotPkt (8 * set + slot) = some f → f.phase = .queued → s.cpSt 0 = 2 →
    s.cpSt 1 = 2 → s.cmd.inflight = [(8 * set + slot, f)] → opCp1 f.pkt.op = true →
    ∃ t, exec (.firmwarePacketStart set slot) s = .next t ∧
    (t.slotPkt (8 * set + slot)).map (fun f => f.phase) = some .boxed ∧
    Tbl.get 0 t.cmd.replyMem (64 * (8 * set + slot)) / 256 % 256 = stPending) ∧
  (∀ (s : State) (slot q : Nat) (p : Packet), slot < 8 → s.ready slot 0x01 = some p →
    firstBad ([255, 255, 3, 0] ++ whole 4) p.payload = none → 2 ≤ leAt p.payload 0 2 → leAt p.payload 0 2 ≤ 60 →
    s.initClass p.init ≠ 0 → ((List.range 64).drop 1).find? (fun q => decide (s.partSt q = 0)) = some q →
    ∃ t, exec (.registerPartner 0 slot) s = .next t ∧ t.partSt q = 1 ∧ t.getF .CMD_PART_ID_CLASS q = s.initClass p.init ∧
    t.getF .CMD_PART_ID_INITIATOR q = p.init % 256 ∧ t.getF .CMD_PART_LEASE_LEASE_S q = leAt p.payload 0 2 ∧
    t.cmd.epochCtr = (s.cmd.epochCtr + 1) % 2 ^ 32 ∧ (t.partner q).epoch = (s.cmd.epochCtr + 1) % 2 ^ 32 ∧
    Tbl.get 0 t.cmd.replyMem (64 * slot) / 256 % 256 = stOk ∧ t.cmd.readBack = s.cmd.readBack ++ [slot]) ∧
  (∀ (s : State) (set slot : Nat) (p : Packet), set < 64 → slot < 8 → s.ready (8 * set + slot) 0x02 = some p →
    ∃ t, exec (.renewLease set slot) s = .next t ∧ t.slotPkt (8 * set + slot) = none ∧
    Tbl.get 0 t.cmd.replyMem (64 * (8 * set + slot)) / 256 % 256 = stOk ∧
    Tbl.get 0 t.cmd.replyMem (64 * (8 * set + slot) + 4) = s.leaseLeft set % 2 ^ 32) ∧
  (∀ (s : State) (set slot : Nat) (p : Packet), 1 ≤ set → set < 64 → slot < 8 → s.ready (8 * set + slot) 0x03 = some p →
    ∃ t, exec (.releasePartner set slot) s = .next t ∧ t.partSt set = 3 ∧ t.slotPkt (8 * set + slot) = none) ∧
  (∀ (s : State) (set : Nat), set < 64 → s.partSt set = 1 → ∃ t, exec (.heartbeatMissed set) s = .next t ∧
    t.partSt set = 2 ∧ t.getF .CMD_EVENT_LEASE_LATE 0 = 1 ∧
    t.raiseQ = (s.event .CMD_EVENT_LEASE_LATE 0 0x0C set).raiseQ) ∧
  (∀ (s : State) (set : Nat), set < 64 → s.partSt set = 2 → ∃ t, exec (.leaseExpiry set) s = .next t ∧ t.partSt set = 3 ∧
    t.getF .CMD_EVENT_LEASE_EXP 0 = 1) ∧
  (∀ (s : State) (set : Nat), s.partSt set ≠ 2 → exec (.leaseExpiry set) s = .next (s)) ∧
  (∀ (s : State) (set : Nat), set < 64 → s.partSt set = 3 → ∃ t, exec (.partnerFree set) s = .next t ∧ t.partSt set = 0 ∧
    t.getF .CMD_PART_ID_INITIATOR set = 0 ∧ t.getF .CMD_PART_ID_CLASS set = 0 ∧ t.getF .CMD_PART_LEASE_LEASE_S set = 0)

/-- The packets of operating points, sensors, calibration, the Herd and fences. For every state and operands that meet a
clause's conditions the command answers a next state with the effect the clause names. Each clause has the packet of its
opcode in the slot, ready or, for the opcodes of CP1, in CP1's mailbox with CP1 running. SET_OPERATING_POINT with no run
in progress: CP1 takes the context named; with a bad parameter it answers BAD_PARAM and CP1's state stays.
SET_PREFERRED_POINT writes the fields of one context and answers OK. SET_POWER_CAP and SET_FIXED_FREQUENCY with no
standing request: the request stands for its partner. MASK_SENSOR masks a broken sensor with a healthy partner and answers
OK; with a partner not healthy it answers NOT_PERMITTED and the sensor stays. ADC_CALIBRATE of step 1, with no step open
and the channel permitted, opens its step and stays pending with CAL_BUSY set and VALID clear. HERD_JOIN as a member in
IDLE, the role allowed by the strap and the ladder filled, gives JOINING and stays pending. HERD_LEAVE in IDLE answers OK.
FENCE_DOMAIN of a DARK domain outside the infrastructure gives FENCED, and UNFENCE_DOMAIN of a FENCED one with cells above
FENCE_AT gives DARK and answers OK. (R118, R226, R233, R238, R252, R277, R287, R301, R349, R351, R367) -/
def Obligations.PacketsSetPointsAndUnits : Prop :=
  (∀ (s : State) (set slot : Nat) (f : InFlight), s.slotPkt (8 * set + slot) = some f → f.pkt.op = 0x10 →
    f.phase = .boxed → s.cpSt 1 = 2 → firstBad [7, 0, 0, 0] f.pkt.payload = none → s.cmd.runs = [] →
    ∃ t, exec (.setOperatingPoint set slot) s = .next t ∧ t.fw.wantCtx = some (leAt f.pkt.payload 0 1)) ∧
  (∀ (s : State) (set slot : Nat) (f : InFlight), s.slotPkt (8 * set + slot) = some f → f.pkt.op = 0x10 →
    f.phase = .boxed → s.cpSt 1 = 2 → firstBad [7, 0, 0, 0] f.pkt.payload ≠ none →
    ∃ t, exec (.setOperatingPoint set slot) s = .next t ∧ t.slotPkt (8 * set + slot) = none ∧
    Tbl.get 0 t.cmd.replyMem (64 * (8 * set + slot)) / 256 % 256 = stBadParam ∧ t.fw = s.fw) ∧
  (∀ (s : State) (set slot c : Nat) (p : Packet), set < 64 → slot < 8 → s.ready (8 * set + slot) 0x11 = some p →
    firstBad ([7, 63, 31, 0] ++ whole 4) p.payload = none → leAt p.payload 0 1 = c →
    ∃ t, exec (.setPreferredPoint set slot) s = .next t ∧ t.getF .DOM_BUD_CTX_OP_ORD0 c = leAt p.payload 1 1 % 4 ∧
    t.getF .DOM_BUD_CTX_OP_ORD1 c = leAt p.payload 1 1 / 4 % 4 ∧
    t.getF .DOM_BUD_CTX_OP_ORD2 c = leAt p.payload 1 1 / 16 % 4 ∧
    t.getF .DOM_BUD_CTX_OP_PREF_STEP c = leAt p.payload 2 1 % 16 ∧
    t.getF .DOM_BUD_CTX_OP_BOOST_EN c = leAt p.payload 2 1 / 16 % 2 ∧
    t.getF .DOM_BUD_CTX_SLOPE_ACT_UP c = leAt p.payload 4 1 % 2 ^ Fld.width .DOM_BUD_CTX_SLOPE_ACT_UP ∧
    t.getF .DOM_BUD_CTX_SLOPE_ACT_DN c = leAt p.payload 5 1 % 2 ^ Fld.width .DOM_BUD_CTX_SLOPE_ACT_DN ∧
    t.getF .DOM_BUD_CTX_OP_LINK_SHARE c = leAt p.payload 6 2 % 2 ^ Fld.width .DOM_BUD_CTX_OP_LINK_SHARE ∧
    t.slotPkt (8 * set + slot) = none) ∧
  (∀ (s : State) (set slot : Nat) (f : InFlight), s.slotPkt (8 * set + slot) = some f → slot < 8 → f.pkt.op = 0x12 →
    f.phase = .boxed → s.cpSt 1 = 2 → firstBad [255, 255, 255, 0, 255, 255, 0, 0] f.pkt.payload = none →
    s.cmd.standing = [] → ∃ t, exec (.setPowerCap set slot) s = .next t ∧
    t.cmd.standing = [{ owner := some set, init := f.pkt.init, kind := .cap (leAt f.pkt.payload 0 2) }]) ∧
  (∀ (s : State) (set slot : Nat) (f : InFlight), s.slotPkt (8 * set + slot) = some f → slot < 8 → f.pkt.op = 0x13 →
    f.phase = .boxed → s.cpSt 1 = 2 → firstBad [1, 15, 0, 0] f.pkt.payload = none → s.cmd.standing = [] →
    ∃ t, exec (.setFixedFrequency set slot) s = .next t ∧
    t.cmd.standing = [{ owner := some set, init := f.pkt.init, kind := .fixed }]) ∧
  (∀ (s : State) (set slot x : Nat) (p : Packet), set < 64 → slot < 8 → s.ready (8 * set + slot) 0x52 = some p →
    firstBad [255, 255, 3, 0] p.payload = none → leAt p.payload 0 2 = x → leAt p.payload 2 1 = 1 → x < s.cfg.table.tsens →
    s.snsSt x = 1 → s.snsSt (partnerOf x) = 0 → ∃ t, exec (.maskSensor set slot) s = .next t ∧ t.snsSt x = 2 ∧
    t.slotPkt (8 * set + slot) = none ∧ Tbl.get 0 t.cmd.replyMem (64 * (8 * set + slot)) / 256 % 256 = stOk) ∧
  (∀ (s : State) (set slot x : Nat) (p : Packet), set < 64 → slot < 8 → s.ready (8 * set + slot) 0x52 = some p →
    firstBad [255, 255, 3, 0] p.payload = none → leAt p.payload 0 2 = x → leAt p.payload 2 1 = 1 → x < s.cfg.table.tsens →
    s.snsSt x = 1 → s.snsSt (partnerOf x) ≠ 0 → ∃ t, exec (.maskSensor set slot) s = .next t ∧ t.snsSt x = 1 ∧
    t.slotPkt (8 * set + slot) = none ∧ Tbl.get 0 t.cmd.replyMem (64 * (8 * set + slot)) / 256 % 256 = stNotPermitted) ∧
  (∀ (s : State) (set slot : Nat) (p : Packet), set < 64 → slot < 8 → s.ready (8 * set + slot) 0x60 = some p →
    s.adc.step = none → chDefined s.cfg.table (leAt p.payload 0 1) = true → firstBad (whole 4) p.payload = none →
    leAt p.payload 1 1 = 1 → leAt p.payload 2 2 ≤ 2048 → s.calPermitted (leAt p.payload 0 1) = true →
    ∃ t, exec (.adcCalibrate set slot) s = .next t ∧
    t.adc.step.map (fun c => (c.ch, c.step, c.target, c.slot, c.at_)) = some (leAt p.payload 0 1, 1, leAt p.payload 2 2,
      8 * set + slot, s.time) ∧ t.getF .ADC_RES_ST_CAL_BUSY (leAt p.payload 0 1) = 1 ∧
    t.getF .ADC_RES_ST_VALID (leAt p.payload 0 1) = 0 ∧
    (t.slotPkt (8 * set + slot)).map (fun f => f.phase) = some .pending) ∧
  (∀ (s : State) (set slot : Nat) (p : Packet), set < 64 → slot < 8 → s.ready (8 * set + slot) 0x70 = some p →
    firstBad (whole 5 ++ [15, 0, 0, 255, 255, 1, 0]) p.payload = none → s.herdSt = 0 → leAt p.payload 4 1 = 2 →
    roleAllowed s.cfg.straps.herdRole 2 = true → s.freqOf 0 15 ≠ 0 → ∃ t, exec (.herdJoin set slot) s = .next t ∧
    t.herdSt = 1 ∧ t.getF .HRD_ID_GROUP_ID 0 = leAt p.payload 0 2 % 65536 ∧
    t.getF .HRD_ID_STACK_ID 0 = leAt p.payload 2 2 % 65536 ∧
    (t.slotPkt (8 * set + slot)).map (fun f => f.phase) = some .pending) ∧
  (∀ (s : State) (set slot : Nat) (p : Packet), set < 64 → slot < 8 → s.ready (8 * set + slot) 0x71 = some p →
    s.herdSt = 0 → ∃ t, exec (.herdLeave set slot) s = .next t ∧ t.herdSt = 0 ∧ t.slotPkt (8 * set + slot) = none ∧
    Tbl.get 0 t.cmd.replyMem (64 * (8 * set + slot)) / 256 % 256 = stOk) ∧
  (∀ (s : State) (set slot d : Nat) (p : Packet), set < 64 → slot < 8 → s.ready (8 * set + slot) 0x80 = some p →
    firstBad [255, 255, 0, 0] p.payload = none → leAt p.payload 0 2 = d → d < s.cfg.table.domains →
    s.cfg.table.domClass d ≠ 4 → s.domSt d = 0 → ∃ t, exec (.fenceDomain set slot) s = .next t ∧ t.domSt d = 5) ∧
  (∀ (s : State) (set slot d : Nat) (p : Packet), set < 64 → slot < 8 → s.ready (8 * set + slot) 0x81 = some p →
    firstBad [255, 255, 0, 0] p.payload = none → leAt p.payload 0 2 = d → d < s.cfg.table.domains → s.domSt d = 5 →
    s.fenceAt (s.cfg.table.domClass d) < s.navail d → ∃ t, exec (.unfenceDomain set slot) s = .next t ∧ t.domSt d = 0 ∧
    t.slotPkt (8 * set + slot) = none ∧ Tbl.get 0 t.cmd.replyMem (64 * (8 * set + slot)) / 256 % 256 = stOk)

/-- Staging, commits and the run of the epoch engine. For every state and operands that meet a clause's conditions the
command answers a next state with the effect the clause names. STAGE_CONFIG of one entry of the P_CAP register with room
and no set staged stages that entry and answers OK; one whose length does not fit its count answers BAD_PARAM and stages
nothing. RWE_WRITE of that register joins the writer's set and changes no value. COMMIT_EPOCH and CMD_COMMIT with GO, with
no run, no block reset and a set of at most 4,096 entries: the set becomes the run, in VALIDATE, and the direct commit
shows PENDING; COMMIT_EPOCH with RESUME and no halted run answers NOT_PERMITTED, and CMD_COMMIT without GO does nothing.
ABORT_RETUNE of a run in VALIDATE is held, and with no run answers BAD_PARAM. VALIDATION_DONE, no abort held: a run that
passes enters APPLY with the prior values in its journal, one that fails leaves with a notice, and a dry run returns its
set. EPOCH_APPLY at a medium tick of an epoch of one piece of DIS_MS writes it and enters SETTLE; barred by a block reset
in progress it does nothing. SETTLE_DONE of a settled last epoch ends the run with a notice, of an earlier one enters
APPLY again, and before the settling does nothing. SETTLE_TIMEOUT at EPOCH_SETTLE (1 to 6 units of 100 µs) halts the run
with its event, and earlier does nothing. (R354, R355, R357, R358, R462) -/
def Obligations.StagedSetsBecomeRuns : Prop :=
  (∀ (s : State) (set slot : Nat) (p : Packet), set < 64 → slot < 8 → s.ready (8 * set + slot) 0x20 = some p →
    p.payload.length = 16 → leAt p.payload 0 2 = 1 → leAt p.payload 2 2 = 0 → leAt p.payload 4 4 = 0x1B004 →
    Nat.land (leAt p.payload 8 4) 0x07FF0000 = leAt p.payload 8 4 → firstBad [255, 1, 0, 0] p.payload = none →
    s.cmd.sets = [] → s.storeUsed < 8192 → ∃ t, exec (.stageConfig set slot) s = .next t ∧
    (t.stagedSet p.init).entries =
      [{ off := 0x1B004, mask := leAt p.payload 8 4, val := leAt p.payload 12 4, item := 0 }] ∧
    t.slotPkt (8 * set + slot) = none ∧ Tbl.get 0 t.cmd.replyMem (64 * (8 * set + slot)) / 256 % 256 = stOk) ∧
  (∀ (s : State) (set slot : Nat) (p : Packet), set < 64 → slot < 8 → s.ready (8 * set + slot) 0x20 = some p →
    firstBad [255, 1, 0, 0] p.payload = none → p.payload.length ≠ 4 + 12 * leAt p.payload 0 1 →
    ∃ t, exec (.stageConfig set slot) s = .next t ∧ t.cmd.sets = s.cmd.sets ∧ t.slotPkt (8 * set + slot) = none ∧
    Tbl.get 0 t.cmd.replyMem (64 * (8 * set + slot)) / 256 % 256 = stBadParam) ∧
  (∀ (s : State) (init value : Nat), s.cmd.sets = [] → s.storeUsed < 8192 →
    ∃ t, exec (.rweWrite init 0x1B004 value) s = .next t ∧
    (t.stagedSet init).entries.map (fun e => (e.off, e.item)) = [(0x1B004, 0)] ∧
    t.getF .DOM_BUD_CAP_P_CAP 0 = s.getF .DOM_BUD_CAP_P_CAP 0) ∧
  (∀ (s : State) (set slot : Nat) (p : Packet) (x : StagedSet), set < 64 → slot < 8 →
    s.ready (8 * set + slot) 0x21 = some p → firstBad ([7, 0, 0, 0] ++ whole 4) p.payload = none →
    bitOf (leAt p.payload 0 1) 2 = false → s.cmd.runs = [] → s.cmd.runState = 0 → s.cpActive = false →
    s.cmd.sets = [(p.init, x)] → x.entries.length ≤ 4096 → ∃ t, exec (.commitEpoch set slot) s = .next t ∧
    t.cmd.runState = 1 ∧
    t.cmd.runs.map (fun r => (r.id, r.init, r.slot)) = [(s.nextRunId, p.init, some (8 * set + slot))] ∧
    t.cmd.runs.map (fun r => r.entries) = [x.entries] ∧ (t.stagedSet p.init).entries = [] ∧
    (t.slotPkt (8 * set + slot)).map (fun f => f.phase) = some .pending) ∧
  (∀ (s : State) (set slot : Nat) (p : Packet), set < 64 → slot < 8 → s.ready (8 * set + slot) 0x21 = some p →
    firstBad ([7, 0, 0, 0] ++ whole 4) p.payload = none → bitOf (leAt p.payload 0 1) 2 = true → s.cmd.runState ≠ 4 →
    ∃ t, exec (.commitEpoch set slot) s = .next t ∧ t.cmd.runs = s.cmd.runs ∧ t.slotPkt (8 * set + slot) = none ∧
    Tbl.get 0 t.cmd.replyMem (64 * (8 * set + slot)) / 256 % 256 = stNotPermitted) ∧
  (∀ (s : State) (init value : Nat) (x : StagedSet), bitOf value 31 = true → bitOf value 28 = false → s.cmd.runs = [] →
    s.cmd.runState = 0 → s.cpActive = false → s.cmd.sets = [(init, x)] → x.entries.length ≤ 4096 →
    ∃ t, exec (.cmdCommit init value) s = .next t ∧ t.cmd.runState = 1 ∧
    t.cmd.runs.map (fun r => (r.id, r.init, r.direct)) = [(s.nextRunId, init, true)] ∧
    t.cmd.runs.map (fun r => (r.retune, r.dry)) = [(bitOf value 30, bitOf value 29)] ∧
    t.getF .CMD_COMMIT_ST_STATUS 0 = stPending ∧ t.getF .CMD_COMMIT_ST_RUN_ID 0 = s.nextRunId) ∧
  (∀ (s : State) (init value : Nat), bitOf value 31 = false → exec (.cmdCommit init value) s = .next (s)) ∧
  (∀ (s : State) (set slot : Nat) (p : Packet) (r : Run) (rest : List Run), set < 64 → slot < 8 →
    s.ready (8 * set + slot) 0x22 = some p → firstBad [255, 255, 0, 0] p.payload = none → leAt p.payload 0 2 = 0 →
    s.cmd.runState = 1 → s.cmd.runs = r :: rest → r.abortHeld = false → ∃ t, exec (.abortRetune set slot) s = .next t ∧
    t.cmd.runState = 1 ∧ t.cmd.runs = { r with abortSlot := some (8 * set + slot), abortHeld := true } :: rest ∧
    (t.slotPkt (8 * set + slot)).map (fun f => f.phase) = some .pending) ∧
  (∀ (s : State) (set slot : Nat) (p : Packet), set < 64 → slot < 8 → s.ready (8 * set + slot) 0x22 = some p →
    firstBad [255, 255, 0, 0] p.payload = none → s.cmd.runState = 0 → s.cmd.runs = [] →
    ∃ t, exec (.abortRetune set slot) s = .next t ∧ t.slotPkt (8 * set + slot) = none ∧
    Tbl.get 0 t.cmd.replyMem (64 * (8 * set + slot)) / 256 % 256 = stBadParam) ∧
  (∀ (s : State) (r : Run) (rest : List Run), s.cmd.runState = 1 → s.cmd.runs = r :: rest → r.abortHeld = false →
    r.dry = false → r.epochs ≠ [] → s.validate r = none → ∃ t, exec (.validationDone) s = .next t ∧ t.cmd.runState = 2 ∧
    t.cmd.runs.map (fun q => q.journal) = (s.journalOf (r.epochs.getD r.journal.length []) :: r.journal) :: rest.map (fun
      q => q.journal)) ∧
  (∀ (s : State) (r : Run) (c e : Nat), s.cmd.runState = 1 → s.cmd.runs = [r] → r.abortHeld = false →
    s.validate r = some (c, e) → ∃ t, exec (.validationDone) s = .next t ∧ t.cmd.runState = 0 ∧ t.cmd.runs = [] ∧
    t.getF .CMD_NOTICE0_TYPE (s.getF .CMD_NOTICE_SEQ_NSEQ 0 % 32) = 4 ∧
    t.getF .CMD_NOTICE0_ARG (s.getF .CMD_NOTICE_SEQ_NSEQ 0 % 32) = r.id % 65536) ∧
  (∀ (s : State) (r : Run), s.cmd.runState = 1 → s.cmd.runs = [r] → r.abortHeld = false → r.dry = true →
    s.validate r = none → s.cmd.sets = [] → r.entries ≠ [] → ∃ t, exec (.validationDone) s = .next t ∧
    t.cmd.runState = 0 ∧ t.cmd.runs = [] ∧ (t.stagedSet r.init).entries = r.entries) ∧
  (∀ (s : State) (r : Run) (j : List JournalLine) (p : Piece), s.cmd.runState = 2 → s.cmd.runs = [r] → r.barred = false →
    r.abortHeld = false → r.journal = [j] → r.epochs = [[p]] → p.fld = .DOM_EST_CFG_DIS_MS → p.item = 0 →
    ∃ t, exec (.epochApply) s = .next t ∧ t.cmd.runState = 3 ∧
    t.cmd.runs = [{ r with settling := true, barred := false }] ∧
    t.getF .DOM_EST_CFG_DIS_MS 0 = s.pieceVal p % 2 ^ Fld.width .DOM_EST_CFG_DIS_MS) ∧
  (∀ (s : State) (r : Run), s.cmd.runState = 2 → s.cmd.runs = [r] → r.barred = true → s.cpActive = true →
    exec (.epochApply) s = .next (s)) ∧
  (∀ (s : State) (r : Run), s.cmd.runState = 3 → s.cmd.runs = [r] → r.epochs.length ≤ r.journal.length →
    s.settled r = true → ∃ t, exec (.settleDone) s = .next t ∧ t.cmd.runState = 0 ∧ t.cmd.runs = [] ∧
    t.getF .CMD_NOTICE0_TYPE (s.getF .CMD_NOTICE_SEQ_NSEQ 0 % 32) = 4) ∧
  (∀ (s : State) (r : Run) (rest : List Run), s.cmd.runState = 3 → s.cmd.runs = r :: rest →
    r.journal.length < r.epochs.length → s.settled r = true → ∃ t, exec (.settleDone) s = .next t ∧ t.cmd.runState = 2 ∧
    t.cmd.runs = { r with
        journal := s.journalOf (r.epochs.getD r.journal.length []) :: r.journal, settling := false, barred := s.cpActive
        } :: rest) ∧
  (∀ (s : State) (r : Run), s.cmd.runState = 3 → s.cmd.runs = [r] → s.settled r = false →
    exec (.settleDone) s = .next (s)) ∧
  (∀ (s : State) (r : Run), s.cmd.runState = 3 → s.cmd.runs = [r] → s.since r.appliedAt < s.settleLimit →
    exec (.settleTimeout) s = .next (s)) ∧
  (∀ (s : State) (r : Run) (rest : List Run), s.cmd.runState = 3 → s.cmd.runs = r :: rest →
    s.settleLimit ≤ s.since r.appliedAt → ∃ t, exec (.settleTimeout) s = .next t ∧ t.cmd.runState = 4 ∧
    t.cmd.runs = { r with slot := none, settling := false } :: rest ∧ t.getF .CMD_EVENT_RUN_HALT 0 = 1 ∧
    t.getF .CMD_RUN_STATE 0 = 4)

/-- Images are loaded, verified and activated. For every state and operands that meet a clause's conditions the command
answers a next state with the effect the clause names. LOAD_IMAGE of a FIRST block that is not LAST, at offset 0 with a
right check value, with a bank to load, CP0 not starting, no load or verification in progress and unit 0 sound, unleased
and without a moved duty: the bank holds the block in LOADING, unit 0 is leased to the loader, and it answers OK.
IMAGE_VERIFY_DONE of a load: a sound image is VERIFIED, and a bad one leaves the bank EMPTY with the number of its check
and IMG_BAD. LOADING_TIMEOUT with no verification empties a bank that loads, and without a load does nothing.
ACTIVATE_IMAGE with bank 0 VERIFIED and no activation: with the interlock set the bank is ARMED and the packet DEFERRED;
with CP3 named, no processor running and the interlock clear CP3 starts from the bank. QUERY_IMAGE answers OK and changes
nothing of the firmware. INTERLOCK_QUIET_END without a condition or an activation clears the interlock. DEFER_TIMEOUT of a
waiting activation drops it, returns its bank to VERIFIED and sets its event. PROCESSOR_SWITCH of the last named
processor, running, starts it from the bank and counts. PROCESSOR_RESTART_DONE with no activation: from a good bank
RUNNING with the watchdog started, from a bad one STOPPED with its event. (R362, R371, R372, R373, R374, R375, R376, R377,
R378, R381) -/
def Obligations.ImagesLoadAndProcessorsRun : Prop :=
  (∀ (s : State) (set slot b : Nat) (p : Packet), set < 64 → slot < 8 → s.ready (8 * set + slot) 0x30 = some p →
    firstBad ([3, 0, 0, 0] ++ whole 4) p.payload = none → bitOf (leAt p.payload 0 1) 0 = true →
    bitOf (leAt p.payload 0 1) 1 = false → leAt p.payload 4 4 = 0 → s.loadTarget = some b →
    s.isSet .GLB_FW_LOAD_ACTIVE 0 = false → s.cpSt 0 ≠ 1 → s.bankSt b ≠ 3 → s.fw.verify = none → s.crcSt 0 ≠ 3 →
    s.isSet .CRC_LEASE_HELD 0 = false → s.getF .CRC_STATUS_DUTY 0 = 0 →
    crc32c ((p.payload.drop 8).take ((p.payload.drop 8).length - 4)) = leAt (p.payload.drop 8) ((p.payload.drop 8).length
      - 4) 4 → ∃ t, exec (.loadImage set slot) s = .next t ∧ t.bankSt b = 1 ∧
    t.bank b = (p.payload.drop 8).take ((p.payload.drop 8).length - 4) ∧
    t.getF .GLB_FW_IMG_BYTES b = ((p.payload.drop 8).length - 4) % 2 ^ Fld.width .GLB_FW_IMG_BYTES ∧
    t.getF .GLB_FW_LOAD_ACTIVE 0 = 1 ∧ t.getF .GLB_FW_LOAD_PARTNER 0 = set ∧ t.getF .CRC_LEASE_HOLDER 0 = 0xFF ∧
    t.getF .CRC_LEASE_HELD 0 = 1 ∧ Tbl.get 0 t.cmd.replyMem (64 * (8 * set + slot)) / 256 % 256 = stOk) ∧
  (∀ (s : State) (k : Nat), s.fw.verify = some k → s.isSet .GLB_FW_LOAD_ACTIVE 0 = true →
    ∃ t, exec (.imageVerifyDone) s = .next t ∧
    t.bankSt (s.getF .GLB_FW_LOAD_TARGET 0) = (if s.imgError (s.bank (s.getF .GLB_FW_LOAD_TARGET 0)) = 0 then 2 else 0) ∧
    t.getF .GLB_FW_LOAD_ACTIVE 0 = 0 ∧ t.fw.verify = none ∧
    (s.imgError (s.bank (s.getF .GLB_FW_LOAD_TARGET 0)) ≠ 0 → t.getF .GLB_FW_IMG_ERR (s.getF .GLB_FW_LOAD_TARGET 0) =
      s.imgError (s.bank (s.getF .GLB_FW_LOAD_TARGET 0)) ∧ t.getF .GLB_FW_EVENT_IMG_BAD 0 = 1)) ∧
  (∀ (s : State), s.fw.verify = none → s.isSet .GLB_FW_LOAD_ACTIVE 0 = true → ∃ t, exec (.loadingTimeout) s = .next t ∧
    t.bankSt (s.getF .GLB_FW_LOAD_TARGET 0) = 0 ∧ t.getF .GLB_FW_IMG_BYTES (s.getF .GLB_FW_LOAD_TARGET 0) = 0 ∧
    t.getF .GLB_FW_LOAD_ACTIVE 0 = 0) ∧
  (∀ (s : State), s.fw.verify = none → s.isSet .GLB_FW_LOAD_ACTIVE 0 = false → exec (.loadingTimeout) s = .next (s)) ∧
  (∀ (s : State) (set slot : Nat) (p : Packet), set < 64 → slot < 8 → s.ready (8 * set + slot) 0x31 = some p →
    firstBad [15, 0, 255, 255] p.payload = none → leAt p.payload 0 1 = 15 → s.bankSt 0 = 2 → s.fw.act = none →
    s.interlock = true → ∃ t, exec (.activateImage set slot) s = .next t ∧ t.bankSt 0 = 3 ∧
    t.fw.act = some { slots := [8 * set + slot], mask := 15, bank := 0, left := [], begun := false } ∧
    (t.slotPkt (8 * set + slot)).map (fun f => f.phase) = some .pending ∧
    Tbl.get 0 t.cmd.replyMem (64 * (8 * set + slot)) / 256 % 256 = stDeferred) ∧
  (∀ (s : State) (set slot : Nat) (p : Packet), set < 64 → slot < 8 → s.ready (8 * set + slot) 0x31 = some p →
    firstBad [15, 0, 255, 255] p.payload = none → leAt p.payload 0 1 = 8 → s.bankSt 0 = 2 → s.fw.act = none →
    s.interlock = false → s.cpSt 0 = 0 → s.cpSt 1 = 0 → s.cpSt 2 = 0 → s.cpSt 3 = 0 →
    ∃ t, exec (.activateImage set slot) s = .next t ∧ t.cpSt 3 = 1 ∧ t.getF .GLB_CP_STATUS_BANK 3 = 0 ∧ t.cpSt 0 = 0 ∧
    t.fw.act = some { slots := [8 * set + slot], mask := 8, bank := 0, left := [3], begun := true }) ∧
  (∀ (s : State) (set slot : Nat) (p : Packet), set < 64 → slot < 8 → s.ready (8 * set + slot) 0x32 = some p →
    ∃ t, exec (.queryImage set slot) s = .next t ∧ t.slotPkt (8 * set + slot) = none ∧
    Tbl.get 0 t.cmd.replyMem (64 * (8 * set + slot)) / 256 % 256 = stOk ∧ t.fw = s.fw) ∧
  (∀ (s : State), s.isSet .GLB_FW_IL_SET 0 = true → s.ilBits.any id = false → s.fw.act = none →
    exec (.interlockQuietEnd) s = .next (s.setF .GLB_FW_IL_SET 0 0)) ∧
  (∀ (s : State) (a : Activation), s.fw.act = some a → a.begun = false → s.interlock = true →
    ∃ t, exec (.deferTimeout) s = .next t ∧ t.fw.act = none ∧ t.bankSt a.bank = 2 ∧ t.getF .GLB_FW_EVENT_ACT_TMO 0 = 1) ∧
  (∀ (s : State) (cp : Nat) (a : Activation), cp < 4 → s.fw.act = some a → a.begun = true → a.left = [cp] →
    s.cpSt cp = 2 → ∃ t, exec (.processorSwitch cp) s = .next t ∧ t.cpSt cp = 1 ∧
    t.getF .GLB_CP_STATUS_BANK cp = a.bank % 2 ∧
    t.getF .GLB_CP_STATUS_RESTARTS cp = min (s.getF .GLB_CP_STATUS_RESTARTS cp + 1) (2 ^ Fld.width
      .GLB_CP_STATUS_RESTARTS - 1)) ∧
  (∀ (s : State) (cp : Nat), cp < 4 → s.cpSt cp = 1 →
    s.isSet .GLB_FW_IMG_DAMAGED (s.getF .GLB_CP_STATUS_BANK cp) = false → s.fw.act = none →
    ∃ t, exec (.processorRestartDone cp true) s = .next t ∧ t.cpSt cp = 2 ∧
    t.getF .GLB_CP_STATUS_BANK cp = s.getF .GLB_CP_STATUS_BANK cp ∧ Tbl.get 0 t.fw.kicks cp = s.time) ∧
  (∀ (s : State) (cp : Nat), cp < 4 → s.cpSt cp = 1 → s.fw.act = none →
    ∃ t, exec (.processorRestartDone cp false) s = .next t ∧ t.cpSt cp = 4 ∧ t.getF .GLB_FW_EVENT_STOPPED 0 = 1)

/-- Crashes, watchdogs, scrubbing, the policy, mailboxes and the debug window. For every state and operands that meet a
clause's conditions the command answers a next state with the effect the clause names. PROCESSOR_CRASH of a running
processor by a permission that can be denied, ECC or an exception: below the limit it records cause and address, counts,
sets the event and restarts; at a limit of 1 or less it stops. WATCHDOG_EXPIRY of a running processor at WDT_MS after its
last kick, with no other crash and a limit of 2 or more: a crash of cause 2 with address 0; earlier it does nothing.
WATCHDOG_KICK of the processor itself notes the instant; of another it is recorded as 0x0F/4. SCRUB_PASS with one damaged
ACTIVE bank marks it DAMAGED with its event; with one corrected error it sets that event. POLICY_CYCLE with CP0, CP1 and
CP2 not running does nothing, and with CP0 alone running writes CP0's checkpoint. MAILBOX_TIMEOUT of a boxed packet
answers ABANDONED and raises 0x0F/6. DEBUG_HALT without TEST_EN is refused and recorded; with TEST_EN DEBUG_HALT of a
running processor gives DEBUG, DEBUG_RESUME of a halted one gives RUNNING, and DEBUG_STEP keeps DEBUG and counts an
instruction. DEBUG_WINDOW_WRITE in the SRAM writes its word with TEST_EN, and without it sets DBG_REF and writes nothing.
(R367, R368, R378, R379, R380, R381, R382, R383, R384, R431) -/
def Obligations.ProcessorsCrashAndAreWatched : Prop :=
  (∀ (s : State) (cp cause addr comp : Nat), cp < 4 → s.cpSt cp = 2 →
    ((cause = 1 ∧ s.mayDeny cp comp addr = true) ∨ cause = 3 ∨ cause = 4) →
    (Tbl.get [] s.fw.crashes cp).filter (fun t => decide (s.time < t + 6000000000)) = [] →
    2 ≤ s.getF .GLB_FW_CTRL_CRASH_LIMIT 0 → ∃ t, exec (.processorCrash cp cause addr comp) s = .next t ∧ t.cpSt cp = 1 ∧
    t.getF .GLB_CP_STATUS_CAUSE cp = cause ∧ t.getF .GLB_CP_FAULT_ADDR cp = addr % 2 ^ Fld.width .GLB_CP_FAULT_ADDR ∧
    t.getF .GLB_CP_STATUS_CRASH_COUNT cp = min (s.getF .GLB_CP_STATUS_CRASH_COUNT cp + 1) (2 ^ Fld.width
      .GLB_CP_STATUS_CRASH_COUNT - 1) ∧ t.getF .GLB_FW_EVENT_CRASH 0 = 1) ∧
  (∀ (s : State) (cp cause addr comp : Nat), cp < 4 → s.cpSt cp = 2 →
    ((cause = 1 ∧ s.mayDeny cp comp addr = true) ∨ cause = 3 ∨ cause = 4) → s.getF .GLB_FW_CTRL_CRASH_LIMIT 0 ≤ 1 →
    ∃ t, exec (.processorCrash cp cause addr comp) s = .next t ∧ t.cpSt cp = 4 ∧ t.getF .GLB_CP_STATUS_CAUSE cp = cause ∧
    t.getF .GLB_FW_EVENT_STOPPED 0 = 1) ∧
  (∀ (s : State) (cp : Nat), cp < 4 → s.cpSt cp = 2 →
    (Tbl.get [] s.fw.crashes cp).filter (fun t => decide (s.time < t + 6000000000)) = [] →
    2 ≤ s.getF .GLB_FW_CTRL_CRASH_LIMIT 0 →
    100000 * max 1 (s.getF .GLB_CP_WDT_WDT_MS cp) ≤ s.since (Tbl.get 0 s.fw.kicks cp) →
    ∃ t, exec (.watchdogExpiry cp) s = .next t ∧ t.cpSt cp = 1 ∧ t.getF .GLB_CP_STATUS_CAUSE cp = 2 ∧
    t.getF .GLB_CP_FAULT_ADDR cp = 0) ∧
  (∀ (s : State) (cp : Nat), s.since (Tbl.get 0 s.fw.kicks cp) < 100000 * max 1 (s.getF .GLB_CP_WDT_WDT_MS cp) →
    exec (.watchdogExpiry cp) s = .next (s)) ∧
  (∀ (s : State) (cp : Nat), cp < 4 →
    exec (.watchdogKick (0xF0 + cp) cp) s = .next ({ s with fw := { s.fw with kicks := s.fw.kicks.put cp s.time } })) ∧
  (∀ (s : State) (init cp : Nat), cp < 4 → init ≠ 0xF0 + cp →
    exec (.watchdogKick init cp) s = .next (s.raiseAccess 0x0F 4 init init (fldOffset .GLB_CP_WDT_KICK cp) 2)) ∧
  (∀ (s : State) (b : Nat), b < 2 → s.bankSt b = 4 →
    exec (.scrubPass [] [] [b]) s = .next ((s.setF .GLB_FW_IMG_DAMAGED b 1).event .GLB_FW_EVENT_DAMAGED 0 0x0D b)) ∧
  (∀ (s : State) (c : Nat), c < 4 → exec (.scrubPass [c] [] []) s = .next (s.event .GLB_FW_EVENT_ECC_CORR 0 0x0D c)) ∧
  (∀ (s : State), s.cpSt 0 ≠ 2 → s.cpSt 1 ≠ 2 → s.cpSt 2 ≠ 2 → exec (.policyCycle) s = .next (s)) ∧
  (∀ (s : State), s.cpSt 0 = 2 → s.cpSt 1 ≠ 2 → s.cpSt 2 ≠ 2 →
    exec (.policyCycle) s = .next
      ({ s with fw := { s.fw with ckpt := s.fw.ckpt.put 0 (s.ifVersion (s.getF .GLB_CP_STATUS_BANK 0)) } })) ∧
  (∀ (s : State) (slot : Nat) (f : InFlight), s.slotPkt slot = some f → f.phase = .boxed →
    ∃ t, exec (.mailboxTimeout slot) s = .next t ∧ t.slotPkt slot = none ∧
    Tbl.get 0 t.cmd.replyMem (64 * slot) / 256 % 256 = stAbandoned ∧ (s.raise 0x0F 6 0).raiseQ = t.raiseQ) ∧
  (∀ (s : State) (init : Nat), s.cfg.straps.testEn = 0 → exec (.debugHalt init) s = .next (s.dbgRefuse init 0xC0000)) ∧
  (∀ (s : State) (init : Nat), s.cfg.straps.testEn ≠ 0 → s.getF .GLB_FW_DBG_SEL_BANK 0 < 4 →
    s.cpSt (s.getF .GLB_FW_DBG_SEL_BANK 0) = 2 → ∃ t, exec (.debugHalt init) s = .next t ∧
    t.cpSt (s.getF .GLB_FW_DBG_SEL_BANK 0) = 5) ∧
  (∀ (s : State) (init : Nat), s.cfg.straps.testEn ≠ 0 → s.getF .GLB_FW_DBG_SEL_BANK 0 < 4 →
    s.cpSt (s.getF .GLB_FW_DBG_SEL_BANK 0) = 5 → ∃ t, exec (.debugResume init) s = .next t ∧
    t.cpSt (s.getF .GLB_FW_DBG_SEL_BANK 0) = 2) ∧
  (∀ (s : State) (init : Nat), s.cfg.straps.testEn ≠ 0 → s.getF .GLB_FW_DBG_SEL_BANK 0 < 4 →
    s.cpSt (s.getF .GLB_FW_DBG_SEL_BANK 0) = 5 → ∃ t, exec (.debugStep init) s = .next t ∧
    t.cpSt (s.getF .GLB_FW_DBG_SEL_BANK 0) = 5 ∧
    t.getF .DBG_CYC_INSTR (s.getF .GLB_FW_DBG_SEL_BANK 0) = (s.getF .DBG_CYC_INSTR (s.getF .GLB_FW_DBG_SEL_BANK 0) + 1) %
      2 ^ Fld.width .DBG_CYC_INSTR) ∧
  (∀ (s : State) (init off value : Nat), s.cfg.straps.testEn ≠ 0 → 0x80000 ≤ off → off < 0xC0000 →
    ∃ t, exec (.debugWindowWrite init off value) s = .next t ∧
    Tbl.get 0 t.fw.sram (65536 * s.getF .GLB_FW_DBG_SEL_BANK 0 + (off - 0x80000) / 4) = value % 2 ^ 32 ∧
    t.fields = s.fields) ∧
  (∀ (s : State) (init off value : Nat), s.cfg.straps.testEn = 0 → 0x80000 ≤ off → off ≤ 0xC000C →
    ∃ t, exec (.debugWindowWrite init off value) s = .next t ∧ t.getF .GLB_FW_EVENT_DBG_REF 0 = 1 ∧ t.fw = s.fw)

/-- Raises, records, sources, the error pair and the Goose. For every state and operands that meet a clause's conditions
the command answers a next state with the effect the clause names. FAULT_RAISE of the first raise: a contained one of a
CLEAR source makes it PENDING, counts it in RAISES and has the capture hold something, or below a reached REC_THR makes it
ESCALATED; a corrected one with an empty store and capture writes its record, fills the capture and interrupts CP2, and
one within 1 ms of its unit's record is merged and counts in MORE. FATAL_RAISE of the only raise, not of the heartbeat,
with FATAL clear latches its source, sets FATAL with SUB and CODE, clears PWR_OK and closes the gates.
FATAL_STOP_GROUP_NEXT without a stop does nothing, and with every domain and group down in RUN ends it in SAFE with ERR 9.
SOFTWARE_WINDOW_EXPIRY of a PENDING source at WINDOW escalates it with a record, and earlier does nothing. QUIET_EXPIRY of
a source in QUIET_WAIT with no raise waiting at QUIET clears and counts it, and earlier does nothing. FLT_HANDLE of CP2
moves a PENDING source to QUIET_WAIT; of another it is recorded. FAULT_QUERY answers the number of records from the one
asked for, at most 14. FAULT_ACK moves ACK_SEQ up to what exists, and an ESCALATED source whose newest record is
acknowledged goes to QUIET_WAIT. CNT_CLR of a HOST initiator clears the count of a source, and of another is recorded.
FEC_VALID_CLEAR of CP2 empties the capture. PAIR_READBACK_MISMATCH of levels that differ forces the pair and raises
0x11/1; PAIR_READBACK_AGREE ends that. FAULT_LOGIC_HEARTBEAT notes its instant. GOOSE_TRIP of cause 2 of an armed
untripped Goose records cause and index, forces the pair, clears PWR_OK and shuts its domain; of causes up to 5 unarmed it
does nothing. (R415, R417, R418, R419, R420, R421, R422, R423, R426, R427, R428, R429) -/
def Obligations.FaultsAreTakenAndRecorded : Prop :=
  (∀ (s : State) (x : Raise) (rest : List Raise), s.raiseQ = x :: rest → x.cls = 2 → x.code < 16 → s.srcSt x.key = 0 →
    (s.getF .FLT_CTRL2_REC_THR 0 = 0 ∨ s.getF .FLT_SRC_REC_COUNT x.key < s.getF .FLT_CTRL2_REC_THR 0) →
    ∃ t, exec (.faultRaise 0) s = .next t ∧ t.srcSt x.key = 1 ∧
    t.getF .FLT_SRC_RAISES x.key = min (s.getF .FLT_SRC_RAISES x.key + 1) (2 ^ Fld.width .FLT_SRC_RAISES - 1) ∧
    t.isSet .FLT_FEC_INFO_VALID 0 = true ∧ Tbl.get 0 t.flt.pendIdx x.key = x.index) ∧
  (∀ (s : State) (x : Raise) (rest : List Raise), s.raiseQ = x :: rest → x.cls = 2 → x.code < 16 → s.srcSt x.key = 0 →
    0 < s.getF .FLT_CTRL2_REC_THR 0 → s.getF .FLT_CTRL2_REC_THR 0 ≤ s.getF .FLT_SRC_REC_COUNT x.key →
    ∃ t, exec (.faultRaise 0) s = .next t ∧ t.srcSt x.key = 2) ∧
  (∀ (s : State) (x : Raise), s.raiseQ = [x] → x.cls = 1 → x.code < 16 → s.flt.recs = [] →
    s.isSet .FLT_FEC_INFO_VALID 0 = false → ∃ t, exec (.faultRaise 0) s = .next t ∧ t.raiseQ = [] ∧
    t.flt.recs = [{ seq := s.getF .FLT_SEQ_NEXT_SEQ 0, sub := x.sub, code := x.code, cls := 1, esc := false, recov :=
                    false, fec := true, master := x.master, index := x.index, count := 1, time := x.time }] ∧
    t.getF .FLT_SEQ_NEXT_SEQ 0 = (s.getF .FLT_SEQ_NEXT_SEQ 0 + 1) % 2 ^ 32 ∧
    t.getF .FLT_FEC_INFO_MASTER 0 = x.master % 256 ∧ t.getF .FLT_FEC_INFO_CODE 0 = x.code % 16 ∧
    t.getF .FLT_FEC_TIME_LO_TIME_LO 0 = x.time % 2 ^ 32 ∧ t.out = s.out ++ [.irq 2]) ∧
  (∀ (s : State) (x : Raise) (r : FltRec), s.raiseQ = [x] → x.cls = 1 → x.code < 16 → s.flt.recs = [r] → r.sub = x.sub →
    r.code = x.code → r.index = x.index → r.esc = false → x.time < r.time + 100000 →
    s.isSet .FLT_FEC_INFO_VALID 0 = true → ∃ t, exec (.faultRaise 0) s = .next t ∧
    t.flt.recs = [{ r with count := min 65535 (r.count + 1) }] ∧ t.getF .FLT_SEQ_NEXT_SEQ 0 = s.getF .FLT_SEQ_NEXT_SEQ 0 ∧
    t.getF .FLT_FEC_MORE_MORE 0 = min (s.getF .FLT_FEC_MORE_MORE 0 + 1) (2 ^ Fld.width .FLT_FEC_MORE_MORE - 1)) ∧
  (∀ (s : State) (x : Raise), s.raiseQ = [x] → x.cls = 3 → x.code < 16 → x.key ≠ 0x107 →
    s.isSet .FLT_STATUS_FATAL 0 = false → ∃ t, exec (.fatalRaise 0) s = .next t ∧ t.srcSt x.key = 4 ∧
    t.getF .FLT_STATUS_FATAL 0 = 1 ∧ t.getF .FLT_STATUS_FATAL_SUB 0 = x.sub % 2 ^ Fld.width .FLT_STATUS_FATAL_SUB ∧
    t.getF .FLT_STATUS_FATAL_CODE 0 = x.code ∧ t.getF .GLB_BOOT_STATUS_PWR_OK 0 = 0 ∧ t.dom.gateAll = true) ∧
  (∀ (s : State), s.flt.stop = false → exec (.fatalStopGroupNext) s = .next (s)) ∧
  (∀ (s : State), s.flt.stop = true → s.allDown = true → s.grp 0 = 0 → s.grp 1 = 0 → s.grp 2 = 0 → s.grp 3 = 6 →
    s.boot_ = 6 → ∃ t, exec (.fatalStopGroupNext) s = .next t ∧ t.flt.stop = false ∧ t.boot_ = 4 ∧
    t.getF .GLB_BOOT_STATUS_ERR 0 = 9) ∧
  (∀ (s : State) (sub code : Nat), code < 16 → s.srcSt (16 * sub + code) = 1 →
    s.windowTicks ≤ s.since (Tbl.get 0 s.flt.pendTime (16 * sub + code)) →
    ∃ t, exec (.softwareWindowExpiry sub code) s = .next t ∧ t.srcSt (16 * sub + code) = 2 ∧
    t.getF .FLT_SEQ_NEXT_SEQ 0 = (s.getF .FLT_SEQ_NEXT_SEQ 0 + 1) % 2 ^ 32) ∧
  (∀ (s : State) (sub code : Nat), s.since (Tbl.get 0 s.flt.pendTime (16 * sub + code)) < s.windowTicks →
    exec (.softwareWindowExpiry sub code) s = .next (s)) ∧
  (∀ (s : State) (sub code : Nat), code < 16 → s.srcSt (16 * sub + code) = 3 → s.raiseWaits (16 * sub + code) = false →
    s.quietTicks ≤ s.since (Tbl.get 0 s.flt.pendTime (16 * sub + code)) → ∃ t, exec (.quietExpiry sub code) s = .next t ∧
    t.srcSt (16 * sub + code) = 0 ∧
    t.getF .FLT_SRC_REC_COUNT (16 * sub + code) = min (s.getF .FLT_SRC_REC_COUNT (16 * sub + code) + 1) (2 ^ Fld.width
      .FLT_SRC_REC_COUNT - 1)) ∧
  (∀ (s : State) (sub code : Nat), s.since (Tbl.get 0 s.flt.pendTime (16 * sub + code)) < s.quietTicks →
    exec (.quietExpiry sub code) s = .next (s)) ∧
  (∀ (s : State) (sub code : Nat), code < 16 → s.srcSt (16 * sub + code) = 1 →
    ∃ t, exec (.fltHandle 0xF2 sub code) s = .next t ∧ t.srcSt (16 * sub + code) = 3) ∧
  (∀ (s : State) (init sub code : Nat), init ≠ 0xF2 →
    exec (.fltHandle init sub code) s = .next (s.raiseAccess 0x0F 4 init init (fldOffset .FLT_HANDLE_GO 0) 2)) ∧
  (∀ (s : State) (set slot : Nat) (p : Packet), set < 64 → slot < 8 → s.ready (8 * set + slot) 0x50 = some p →
    firstBad (whole 4) p.payload = none → ∃ t, exec (.faultQuery set slot) s = .next t ∧
    t.slotPkt (8 * set + slot) = none ∧ Tbl.get 0 t.cmd.replyMem (64 * (8 * set + slot)) / 256 % 256 = stOk ∧
    Tbl.get 0 t.cmd.replyMem (64 * (8 * set + slot) + 5) = min 14 (s.flt.recs.filter (fun r => decide (leAt p.payload 0 4
      ≤ r.seq))).length ∧ t.flt = s.flt) ∧
  (∀ (s : State) (set slot : Nat) (p : Packet), set < 64 → slot < 8 → s.ready (8 * set + slot) 0x51 = some p →
    firstBad (whole 4) p.payload = none → ∃ t, exec (.faultAck set slot) s = .next t ∧
    t.getF .FLT_ACK_SEQ_ACK_SEQ 0 = max (s.getF .FLT_ACK_SEQ_ACK_SEQ 0) (min (leAt p.payload 0 4) (s.getF
      .FLT_SEQ_NEXT_SEQ 0 - 1)) % 2 ^ 32 ∧ t.slotPkt (8 * set + slot) = none) ∧
  (∀ (s : State) (set slot key : Nat) (p : Packet), set < 64 → slot < 8 → s.ready (8 * set + slot) 0x51 = some p →
    firstBad (whole 4) p.payload = none → s.flt.newest = [(key, 5)] → 5 ≤ leAt p.payload 0 4 →
    5 < s.getF .FLT_SEQ_NEXT_SEQ 0 → s.srcSt key = 2 → s.raiseWaits key = false →
    ∃ t, exec (.faultAck set slot) s = .next t ∧ t.srcSt key = 3) ∧
  (∀ (s : State) (init sub code : Nat), sourceClass sub code ≠ 0 → s.initClass init = 5 →
    exec (.cntClr init sub code) s = .next (s.setF .FLT_SRC_REC_COUNT (16 * sub + code) 0)) ∧
  (∀ (s : State) (init sub code : Nat), sourceClass sub code ≠ 0 → s.initClass init ≠ 5 →
    exec (.cntClr init sub code) s = .next (s.raiseAccess 0x0F 4 init init (fldOffset .FLT_SRC_CNT_CLR (16 * sub + code))
      2)) ∧
  (∀ (s : State), exec (.fecValidClear 0xF2) s = .next ((s.setF .FLT_FEC_INFO_VALID 0 0).setF .FLT_FEC_MORE_MORE 0 0)) ∧
  (∀ (s : State) (tt c : Nat),
    ¬ (tt % 2 = 1 - s.getF .FLT_STATUS_PAIR_ASSERT 0 ∧ c % 2 = s.getF .FLT_STATUS_PAIR_ASSERT 0) →
    ∃ t, exec (.pairReadbackMismatch tt c) s = .next t ∧ t.flt.pairForced = true ∧ t.getF .FLT_STATUS_PAIR_ASSERT 0 = 1 ∧
    t.raiseQ = (s.raise 0x11 1 0).raiseQ) ∧
  (∀ (s : State), ∃ t, exec (.pairReadbackAgree) s = .next t ∧ t.flt.pairForced = false ∧ t.raiseQ = s.raiseQ) ∧
  (∀ (s : State), exec (.faultLogicHeartbeat) s = .next ({ s with flt := { s.flt with beat := s.time } })) ∧
  (∀ (s : State) (index : Nat), s.isSet .FLT_GOOSE_STATUS_ARMED 0 = true → s.isSet .FLT_GOOSE_STATUS_TRIPPED 0 = false →
    index < s.cfg.table.domains → ∃ t, exec (.gooseTrip 2 index) s = .next t ∧ t.getF .FLT_GOOSE_STATUS_TRIPPED 0 = 1 ∧
    t.getF .FLT_GOOSE_STATUS_CAUSE 0 = 2 ∧
    t.getF .FLT_GOOSE_STATUS_INDEX 0 = index % 2 ^ Fld.width .FLT_GOOSE_STATUS_INDEX ∧
    t.getF .FLT_STATUS_GOOSE_FORCE 0 = 1 ∧ t.getF .FLT_STATUS_PAIR_ASSERT 0 = 1 ∧ t.getF .GLB_BOOT_STATUS_PWR_OK 0 = 0 ∧
    5 + index ∈ t.flt.gooseShut) ∧
  (∀ (s : State) (code index : Nat), code ≤ 5 → s.isSet .FLT_GOOSE_STATUS_ARMED 0 = false →
    exec (.gooseTrip code index) s = .next (s))

/-- Register writes, reads and link tests. For every state and operands that meet a clause's conditions the command
answers a next state with the effect the clause names. REGISTER_WRITE of another size or alignment, or with a reserved
initiator from the bus, gets an error response and is recorded. One of TLM_NOTIFY_LO takes its field, one of DOM_EST_EVENT
clears the bits written 1, one of CMD_PRIV that would change it after the configuration commit is recorded and leaves it,
and one before the commit takes it. HIGH_WORD_LATCH_READ outside the slots and the debug window, of no wide register and
with no word latched, answers what the register at the offset reads. A read that the manual gives no value answers a free
value (log entry 100). A foreign read of a reply slot returns 0 and is recorded, and a HOST read of the one known word of
the SRAM of a processor in DEBUG answers it. LINK_TEST of PMBus in mode 1 with no test in progress starts its test and
stays pending, and of a link above 6 answers BAD_PARAM. LINK_TEST_END of a running test at its end time with lock shows
bits and errors; before that time, and with no test of the link, it does nothing. (R11, R14, R16, R18, R338, R384, R451,
R455, R456, R459) -/
def Obligations.AccessesReachTheirRegisters : Prop :=
  (∀ (s : State) (bus : Bool) (init off size value : Nat), off < 2 ^ 20 →
    (size ≠ 4 ∨ off % 4 ≠ 0 ∨ (bus = true ∧ 0xF0 ≤ init)) →
    exec (.registerWrite bus init off size value) s = .next ((s.raiseAccess 0x0F 2 init init off 2).emit (.errorResponse
      init off))) ∧
  (∀ (s : State) (bus : Bool) (init value : Nat), (bus = false ∨ init < 0xF0) →
    exec (.registerWrite bus init 0x0700C 4 value) s = .next (s.setF .TLM_NOTIFY_LO_NADDR_LO 0 (value % 2 ^ 32 / 4))) ∧
  (∀ (s : State) (init value : Nat), s.getF .DOM_EST_EVENT_STALE 0 < 2 → s.getF .DOM_EST_EVENT_BOTH_INVALID 0 < 2 →
    ∃ t, exec (.registerWrite false init 0x70014 4 value) s = .next t ∧
    t.getF .DOM_EST_EVENT_STALE 0 = (if bitOf value 2 = true then 0 else s.getF .DOM_EST_EVENT_STALE 0) ∧
    t.getF .DOM_EST_EVENT_BOTH_INVALID 0 = (if bitOf value 3 = true then 0 else s.getF .DOM_EST_EVENT_BOTH_INVALID 0)) ∧
  (∀ (s : State) (init value : Nat), s.committed = true → value % 2 ^ 32 ≠ s.getF .CMD_PRIV_CLASS 0 →
    exec (.registerWrite false init (fldOffset .CMD_PRIV_CLASS 0) 4 value) s = .next (s.raiseAccess 0x0F 3 init init
      (fldOffset .CMD_PRIV_CLASS 0) 2)) ∧
  (∀ (s : State) (init value : Nat), s.committed = false →
    exec (.registerWrite false init (fldOffset .CMD_PRIV_CLASS 0) 4 value) s = .next (s.setF .CMD_PRIV_CLASS 0 value)) ∧
  (∀ (s : State) (init off : Nat), (off < 0x20000 ∨ (0x60000 ≤ off ∧ off < 0x80000)) → off % 4 = 0 → off ∉ wideRegs →
    s.latchOf init = none → exec (.highWordLatchRead init off) s = .next (s.emit (.readData init off (s.readWord off)))) ∧
  (∀ (s : State) (init off : Nat),
    ((0x20000 ≤ off ∧ off < 0x40000) ∨ (0x80000 ≤ off ∧ off < 0xC0000 ∧ s.cpSt (s.getF .GLB_FW_DBG_SEL_BANK 0) = 2) ∨
      (0x80000 ≤ off ∧ off ≤ 0xC000C ∧ s.initClass init ≠ 5)) → off % 4 = 0 →
    ∃ t, exec (.highWordLatchRead init off) s = .next t ∧
    t.out = s.out ++ [.readData init off (Config.freeValue s.freeCtr % 2 ^ 32)] ∧ t.freeCtr = s.freeCtr + 1 ∧
    t.fields = s.fields) ∧
  (∀ (s : State) (init set slot w : Nat), 1 ≤ set → set < 64 → slot < 8 → w < 64 →
    (s.partSt set = 0 ∨ s.getF .CMD_PART_ID_INITIATOR set ≠ init) →
    ∃ t, exec (.highWordLatchRead init (0x40000 + 0x800 * set + 0x100 * slot + 4 * w)) s = .next t ∧
    t.out = s.out ++ [.readData init (0x40000 + 0x800 * set + 0x100 * slot + 4 * w) 0] ∧ t.getF .CMD_EVENT_FOREIGN 0 = 1 ∧
    t.raiseQ = (s.raiseAccess 0x0C (Fld.info .CMD_EVENT_FOREIGN).lo set init (0x40000 + 0x800 * set + 0x100 * slot + 4 *
      w) 4).raiseQ) ∧
  (∀ (s : State) (init off v : Nat), 0x80000 ≤ off → off < 0xC0000 → off % 4 = 0 → s.initClass init = 5 →
    s.cpSt (s.getF .GLB_FW_DBG_SEL_BANK 0) = 5 →
    s.fw.sram = [(65536 * s.getF .GLB_FW_DBG_SEL_BANK 0 + (off - 0x80000) / 4, v)] →
    exec (.highWordLatchRead init off) s = .next (s.emit (.readData init off v))) ∧
  (∀ (s : State) (set slot : Nat) (p : Packet), set < 64 → slot < 8 → s.ready (8 * set + slot) 0x90 = some p →
    firstBad ([255, 255, 1, 0, 255, 255, 0, 0] ++ whole 4) p.payload = none → leAt p.payload 0 1 = 5 →
    leAt p.payload 1 1 = 1 → s.lt.runs = [] → ∃ t, exec (.linkTest set slot) s = .next t ∧
    t.getF .GLB_LT_STAT_STATE 5 = 1 ∧ t.getF .GLB_LT_STAT_MODE 5 = 1 ∧ t.getF .GLB_LT_BITS_BITS 5 = 0 ∧
    t.getF .GLB_LT_ERRS_ERRS 5 = 0 ∧ t.lt.runs = [(5, (8 * set + slot, s.time + max 1 (leAt p.payload 4 2) * 100000))] ∧
    (t.slotPkt (8 * set + slot)).map (fun f => f.phase) = some .pending) ∧
  (∀ (s : State) (set slot : Nat) (p : Packet), set < 64 → slot < 8 → s.ready (8 * set + slot) 0x90 = some p →
    firstBad ([255, 255, 1, 0, 255, 255, 0, 0] ++ whole 4) p.payload = none → 6 < leAt p.payload 0 1 →
    ∃ t, exec (.linkTest set slot) s = .next t ∧ t.slotPkt (8 * set + slot) = none ∧
    Tbl.get 0 t.cmd.replyMem (64 * (8 * set + slot)) / 256 % 256 = stBadParam ∧ t.lt = s.lt) ∧
  (∀ (s : State) (link bits errors k e : Nat), link < 7 → s.lt.runs = [(link, (k, e))] → e ≤ s.time →
    ∃ t, exec (.linkTestEnd link bits errors true) s = .next t ∧ t.getF .GLB_LT_STAT_STATE link = 2 ∧
    t.getF .GLB_LT_STAT_LOCKED link = 1 ∧ t.getF .GLB_LT_BITS_BITS link = min (bits / 1024) (2 ^ 32 - 1) ∧
    t.getF .GLB_LT_ERRS_ERRS link = min errors (2 ^ 32 - 1) ∧ t.lt.runs = []) ∧
  (∀ (s : State) (link bits errors k e : Nat) (locked : Bool), s.lt.runs = [(link, (k, e))] → s.time < e →
    exec (.linkTestEnd link bits errors locked) s = .next (s)) ∧
  (∀ (s : State) (link bits errors : Nat) (locked : Bool), s.lt.runs.find? (fun p => decide (p.1 = link)) = none →
    exec (.linkTestEnd link bits errors locked) s = .next (s))

/-- Power-on, fuses, images and the release sequence. For every state and operands that meet a clause's conditions the
command answers a next state with the effect the clause names. AON_POWER_ON gives the state of power-on with an armed
Goose, keeping burned fuses and the queue, or on a failed self-test a trip of code 6; GOOSE_RESET gives the state of
reset, keeping the queue, what has left the block, the free-value counter and burned fuses. POWER_ON_END in POWER_ON
samples the straps and gives FUSE_LOAD, and in no other state does anything. FUSE_LOAD_DONE in FUSE_LOAD: with a valid
table and no fatal fault IMAGE_LOAD, with a table of error 1 or 2 SAFE with that ERR, and with an uncorrectable word below
992 SAFE with ERR 3. FLASH_WAKE in IMAGE_LOAD off the ROM wakes the flash and reads it. FLASH_IMAGE_READ_DONE of a good
image keeps it; of a bad primary it notes ERR and reads the backup, and of a bad backup gives SAFE. IMAGE_APPLY_DONE of
the ROM image gives HOLD or RELEASE by BOOT_MODE, and with a fatal fault SAFE with ERR 9. BOOT_RELEASE of a HOST initiator
in HOLD begins the release, and of another is recorded. USE_ROM of a HOST initiator in SAFE with ERR 4 to 7 loads the ROM
image, and otherwise does nothing. CFG_COMMIT of a HOST initiator commits. RELEASE_SEQUENCE_STEP in RELEASE with no stop,
fault or link test: steps 2 and 3 enable VIO and VPPM when the one before regulates, a group not in REGULATE holds the
sequence, and step 8 with every group in REGULATE and the powered domains LIVE enters RUN with PWR_OK. PWR_OK_TMO_EXPIRY
before step 8 sets ERR 10 and raises 0x0E/4. (R390, R391, R393, R395, R398, R399, R400, R402, R404, R405, R406, R407) -/
def Obligations.BringUpAndResetMoveTheBlock : Prop :=
  (∀ (s : State), ∃ t, exec (.aonPowerOn true) s = .next t ∧ t.boot_ = 0 ∧ t.time = 0 ∧
    t.getF .FLT_GOOSE_STATUS_ARMED 0 = 1 ∧ t.getF .FLT_GOOSE_STATUS_SELFTEST_OK 0 = 1 ∧ t.pending = s.pending ∧
    t.boot.burned = s.boot.burned) ∧
  (∀ (s : State), ∃ t, exec (.aonPowerOn false) s = .next t ∧ t.getF .FLT_GOOSE_STATUS_ARMED 0 = 0 ∧
    t.getF .FLT_GOOSE_STATUS_TRIPPED 0 = 1 ∧ t.getF .FLT_GOOSE_STATUS_CAUSE 0 = 6) ∧
  (∀ (s : State),
    exec (.gooseReset) s = .next ({ State.reset with
        pending := s.pending, out := s.out, freeCtr := s.freeCtr, boot := { BootState.reset with
          burned := s.boot.burned } })) ∧
  (∀ (s : State) (straps : Straps), s.boot_ = 0 → ∃ t, exec (.powerOnEnd straps) s = .next t ∧ t.boot_ = 1 ∧
    t.cfg.straps = straps ∧ t.cfg.table = s.cfg.table) ∧
  (∀ (s : State) (straps : Straps), s.boot_ ≠ 0 → exec (.powerOnEnd straps) s = .next (s)) ∧
  (∀ (s : State) (table : CfgTable) (fuses : Fuses), s.boot_ = 1 → tableError table s.cfg.straps.phasesPop false = 0 →
    s.isSet .FLT_STATUS_FATAL 0 = false → ∃ t, exec (.fuseLoadDone table fuses [] []) s = .next t ∧ t.boot_ = 2 ∧
    t.cfg.table = table ∧ t.cfg.valid = true ∧ t.getF .GLB_FUSE_STAT_LOADED 0 = 1 ∧ t.getF .GLB_BOOT_STATUS_ERR 0 = 0) ∧
  (∀ (s : State) (table : CfgTable) (fuses : Fuses) (e : Nat), s.boot_ = 1 →
    tableError table s.cfg.straps.phasesPop false = e → (e = 1 ∨ e = 2) →
    ∃ t, exec (.fuseLoadDone table fuses [] []) s = .next t ∧ t.boot_ = 4 ∧ t.getF .GLB_BOOT_STATUS_ERR 0 = e ∧
    t.cfg.valid = false) ∧
  (∀ (s : State) (table : CfgTable) (fuses : Fuses) (w : Nat), s.boot_ = 1 → w < 992 →
    ∃ t, exec (.fuseLoadDone table fuses [] [w]) s = .next t ∧ t.boot_ = 4 ∧ t.getF .GLB_BOOT_STATUS_ERR 0 = 3 ∧
    t.getF .GLB_FUSE_STAT_UNCORR 0 = 1 ∧ t.getF .GLB_FUSE_STAT_BAD_WORD 0 = w) ∧
  (∀ (s : State), s.boot_ = 2 → s.romMode = false → s.boot.flashAwake = false → ∃ t, exec (.flashWake) s = .next t ∧
    t.boot.flashAwake = true ∧ t.out = s.out ++ [.flash 0xAB 0, .flash 0x03 0]) ∧
  (∀ (s : State) (bytes : List Nat), s.boot_ = 2 → s.romMode = false → s.boot.flashAwake = true → s.boot.image = none →
    (checkImage s.cfg.table bytes).1 = 0 → ∃ t, exec (.flashImageReadDone bytes) s = .next t ∧
    t.boot.image = some (checkImage s.cfg.table bytes).2 ∧ t.boot_ = 2) ∧
  (∀ (s : State) (bytes : List Nat), s.boot_ = 2 → s.romMode = false → s.boot.flashAwake = true → s.boot.image = none →
    s.boot.backup = false → (checkImage s.cfg.table bytes).1 ≠ 0 → ∃ t, exec (.flashImageReadDone bytes) s = .next t ∧
    t.boot.backup = true ∧
    t.getF .GLB_BOOT_STATUS_ERR 0 = (checkImage s.cfg.table bytes).1 % 2 ^ Fld.width .GLB_BOOT_STATUS_ERR ∧ t.boot_ = 2) ∧
  (∀ (s : State) (bytes : List Nat), s.boot_ = 2 → s.romMode = false → s.boot.flashAwake = true → s.boot.image = none →
    s.boot.backup = true → (checkImage s.cfg.table bytes).1 ≠ 0 → ∃ t, exec (.flashImageReadDone bytes) s = .next t ∧
    t.boot_ = 4 ∧ t.getF .GLB_BOOT_STATUS_ERR 0 = (checkImage s.cfg.table bytes).1 % 2 ^ Fld.width .GLB_BOOT_STATUS_ERR) ∧
  (∀ (s : State), s.boot_ = 2 → s.romMode = true → s.isSet .FLT_STATUS_FATAL 0 = false →
    ∃ t, exec (.imageApplyDone) s = .next t ∧ t.boot_ = (if s.cfg.straps.bootMode % 2 = 1 then 3 else 5) ∧
    t.getF .GLB_BOOT_STATUS_SRC 0 = 2 ∧ t.boot.image = none) ∧
  (∀ (s : State), s.boot_ = 2 → s.isSet .FLT_STATUS_FATAL 0 = true → s.romMode = true →
    ∃ t, exec (.imageApplyDone) s = .next t ∧ t.boot_ = 4 ∧ t.getF .GLB_BOOT_STATUS_ERR 0 = 9) ∧
  (∀ (s : State) (init : Nat), s.initClass init = 5 → s.boot_ = 3 → ∃ t, exec (.bootRelease init) s = .next t ∧
    t.boot_ = 5 ∧ t.boot.release = 1) ∧
  (∀ (s : State) (init : Nat), s.initClass init ≠ 5 →
    exec (.bootRelease init) s = .next (s.raiseAccess 0x0F 4 init init (fldOffset .GLB_BOOT_CTRL_RELEASE 0) 2)) ∧
  (∀ (s : State) (init : Nat), s.initClass init = 5 → s.boot_ = 4 → 4 ≤ s.getF .GLB_BOOT_STATUS_ERR 0 →
    s.getF .GLB_BOOT_STATUS_ERR 0 ≤ 7 → s.isSet .FLT_STATUS_FATAL 0 = false → ∃ t, exec (.useRom init) s = .next t ∧
    t.boot_ = 2 ∧ t.romMode = true ∧ t.getF .GLB_BOOT_STATUS_ERR 0 = 0) ∧
  (∀ (s : State) (init : Nat), s.initClass init = 5 →
    (s.boot_ ≠ 4 ∨ s.getF .GLB_BOOT_STATUS_ERR 0 < 4 ∨ 7 < s.getF .GLB_BOOT_STATUS_ERR 0) →
    exec (.useRom init) s = .next (s)) ∧
  (∀ (s : State) (init : Nat), s.initClass init = 5 →
    exec (.cfgCommit init) s = .next (s.setF .GLB_BOOT_STATUS_CFG_COMMITTED 0 1)) ∧
  (∀ (s : State), s.boot_ = 5 → s.boot.blockStop = false → s.isSet .FLT_STATUS_FATAL 0 = false → s.lt.runs = [] →
    s.boot.release = 2 → s.grp 2 = 0 → ∃ t, exec (.releaseSequenceStep) s = .next t ∧ t.boot.release = 3 ∧ t.grp 2 = 1 ∧
    t.getF .PHS_GRP_CTRL_EN 2 = 1) ∧
  (∀ (s : State), s.boot_ = 5 → s.boot.blockStop = false → s.isSet .FLT_STATUS_FATAL 0 = false → s.lt.runs = [] →
    s.boot.release = 3 → s.grp 2 = 3 → s.grp 1 = 0 → ∃ t, exec (.releaseSequenceStep) s = .next t ∧ t.boot.release = 4 ∧
    t.grp 1 = 1) ∧
  (∀ (s : State), s.boot_ = 5 → s.boot.release = 3 → s.grp 2 ≠ 3 → exec (.releaseSequenceStep) s = .next (s)) ∧
  (∀ (s : State), s.boot_ = 5 → s.boot.blockStop = false → s.isSet .FLT_STATUS_FATAL 0 = false → s.lt.runs = [] →
    s.boot.release = 8 → s.grp 0 = 3 → s.grp 1 = 3 → s.grp 2 = 3 → s.grp 3 = 3 → s.poweredLive (fun _ => true) = true →
    ∃ t, exec (.releaseSequenceStep) s = .next t ∧ t.boot_ = 6 ∧ t.getF .GLB_BOOT_STATUS_PWR_OK 0 = 1) ∧
  (∀ (s : State), s.boot_ = 5 → s.boot.release < 8 → ∃ t, exec (.pwrOkTmoExpiry) s = .next t ∧ t.boot_ = 5 ∧
    t.getF .GLB_BOOT_STATUS_ERR 0 = 10 ∧ t.raiseQ = (s.raise 0x0E 4 0).raiseQ)

/-- Processor reset, block reset and the reset pins. For every state and operands that meet a clause's conditions the
command answers a next state with the effect the clause names. CP_RST of a HOST or SERVICE initiator, with no block stop
and no interval in progress, opens the interval, counts it, and drops the staged sets and checkpoints; of classes below 4
it is recorded as 0x0E/2 and changes nothing else. BLOCK_RST of another than a HOST initiator is recorded with STACK_HELD;
of a HOST initiator with the stack held and the domains DARK, QUIESCING or FENCED but not all down it begins the block
stop, clears PWR_OK and withdraws the powering. BL_RST_N_LOW applies the block reset at once: POWER_ON, the phases reset,
and FATAL, the records, the burned fuses and the time kept. BL_CPRST_N_LOW with no block stop and no interval in progress
resets the control plane and holds it by the pin. CP_INTERVAL_END with no run ends an interval in progress, and with none
does nothing. (R391, R404, R405, R406, R407, R408, R459) -/
def Obligations.ResetsOfEachScopeAct : Prop :=
  (∀ (s : State) (init : Nat), (s.initClass init = 5 ∨ s.initClass init = 4) → s.boot.blockStop = false →
    s.cpActive = false → ∃ t, exec (.cpRst init) s = .next t ∧ t.getF .GLB_RST_STATUS_CP_ACTIVE 0 = 1 ∧
    t.getF .GLB_RST_STATUS_LAST 0 = 3 ∧
    t.getF .GLB_RST_STATUS_CP_COUNT 0 = min (s.getF .GLB_RST_STATUS_CP_COUNT 0 + 1) (2 ^ Fld.width
      .GLB_RST_STATUS_CP_COUNT - 1) ∧ t.cmd.sets = [] ∧ t.fw.ckpt = []) ∧
  (∀ (s : State) (init : Nat), s.initClass init < 4 →
    exec (.cpRst init) s = .next (s.raiseAccess 0x0E 2 0 init (fldOffset .GLB_RST_CTRL_CP_RST 0) 2)) ∧
  (∀ (s : State) (init : Nat), s.initClass init ≠ 5 →
    exec (.blockRst init true) s = .next ((s.setB .GLB_RST_STATUS_STACK_HELD 0 true).raiseAccess 0x0E 2 0 init (fldOffset
      .GLB_RST_CTRL_BLOCK_RST 0) 2)) ∧
  (∀ (s : State) (init : Nat), s.initClass init = 5 → s.boot.blockStop = false → s.allDown = false →
    (s.doms.all (fun d => decide (s.domSt d = 0 ∨ s.domSt d = 4 ∨ s.domSt d = 5)) = true) →
    ∃ t, exec (.blockRst init true) s = .next t ∧ t.boot.blockStop = true ∧ t.dom.powerGo = 0 ∧
    t.getF .GLB_BOOT_STATUS_PWR_OK 0 = 0 ∧ t.getF .GLB_RST_STATUS_STACK_HELD 0 = 1) ∧
  (∀ (s : State), ∃ t, exec (.blRstNLow) s = .next t ∧ t.boot_ = 0 ∧ t.getF .GLB_RST_STATUS_LAST 0 = 1 ∧
    t.getF .GLB_RST_STATUS_BLK_COUNT 0 = min (s.getF .GLB_RST_STATUS_BLK_COUNT 0 + 1) (2 ^ Fld.width
      .GLB_RST_STATUS_BLK_COUNT - 1) ∧ t.phs = PhsState.reset ∧ t.getF .FLT_STATUS_FATAL 0 = s.getF .FLT_STATUS_FATAL 0 ∧
    t.flt.recs = s.flt.recs ∧ t.boot.burned = s.boot.burned ∧ t.time = s.time) ∧
  (∀ (s : State), s.boot.blockStop = false → s.cpActive = false → ∃ t, exec (.blCprstNLow) s = .next t ∧
    t.getF .GLB_RST_STATUS_CP_ACTIVE 0 = 1 ∧ t.getF .GLB_RST_STATUS_LAST 0 = 4 ∧ t.boot.cpPin = true) ∧
  (∀ (s : State), s.cpActive = true → s.cmd.runs = [] → ∃ t, exec (.cpIntervalEnd) s = .next t ∧
    t.getF .GLB_RST_STATUS_CP_ACTIVE 0 = 0 ∧ t.boot.cpPin = false) ∧
  (∀ (s : State), s.cpActive = false → exec (.cpIntervalEnd) s = .next (s))

/-- Fuse programming, the time base and the fabric. For every state and operands that meet a clause's conditions the
command answers a next state with the effect the clause names. FUSE_PROGRAM of a HOST initiator with TEST_EN, a word of
992 to 1,023, FUSE_OK and no programming in progress holds word and bits and is BUSY; without FUSE_OK it sets PROG_FAIL
and FUSE_REF, and with another word or without TEST_EN it sets PROG_FAIL. FUSE_PROGRAM_READBACK adds the bits read to the
word and sets PROG_FAIL where one asked for reads 0. REFCLK_LOSS with CAL_OK and outside fallback falls back, counts and
raises 0x0F/1; in fallback it does nothing. REFCLK_RETURN in fallback ends it. OSC_CALIBRATION outside fallback sets
CAL_OK. FABRIC_RETRY of a sender on tree A moves it to tree B, marks tree A, counts and raises 0x0F/0; of a sender on tree
B it does nothing. ENDPOINT_UNREACHABLE marks both trees; behind a DARK domain's load it fences the domain, behind a lock
port it ends the link and counts, behind a healthy temperature sensor it breaks the sensor, behind a working cell it fails
or isolates the cell, and behind any other endpoint it raises 0x0F/0 with INDEX 0. (R35, R36, R39, R40, R263, R403, R454)
-/
def Obligations.FusesTimeBaseAndFabricAct : Prop :=
  (∀ (s : State) (init word : Nat), s.initClass init = 5 → s.cfg.straps.testEn = 1 → 992 ≤ word → word < 1024 →
    s.isSet .THM_FUSE_FUSE_OK 0 = true → s.boot.progWord = none → ∃ t, exec (.fuseProgram init word) s = .next t ∧
    t.boot.progWord = some (word, s.getF .GLB_FUSE_PDATA_PDATA 0) ∧ t.getF .GLB_FUSE_STAT_PROG_BUSY 0 = 1 ∧
    t.boot.burned = s.boot.burned) ∧
  (∀ (s : State) (init word : Nat), s.initClass init = 5 → s.isSet .THM_FUSE_FUSE_OK 0 = false →
    ∃ t, exec (.fuseProgram init word) s = .next t ∧ t.getF .GLB_FUSE_STAT_PROG_FAIL 0 = 1 ∧
    t.getF .THM_EVENT_FUSE_REF 0 = 1 ∧ t.boot = s.boot) ∧
  (∀ (s : State) (init word : Nat), s.initClass init = 5 → (word < 992 ∨ 1024 ≤ word ∨ s.cfg.straps.testEn = 0) →
    ∃ t, exec (.fuseProgram init word) s = .next t ∧ t.getF .GLB_FUSE_STAT_PROG_FAIL 0 = 1 ∧ t.boot = s.boot) ∧
  (∀ (s : State) (w bits value : Nat), s.boot.progWord = some (w, bits) →
    ∃ t, exec (.fuseProgramReadback value) s = .next t ∧ t.boot.progWord = none ∧
    Tbl.get 0 t.boot.burned w = Nat.lor (Tbl.get 0 s.boot.burned w) (value % 2 ^ 32) ∧
    t.getF .GLB_FUSE_STAT_PROG_BUSY 0 = 0 ∧
    t.getF .GLB_FUSE_STAT_PROG_FAIL 0 = (if Nat.land (value % 2 ^ 32) bits = bits then s.getF .GLB_FUSE_STAT_PROG_FAIL 0
      else 1)) ∧
  (∀ (s : State), s.isSet .GLB_TB_STATUS_FALLBACK 0 = false → s.isSet .GLB_TB_STATUS_CAL_OK 0 = true →
    ∃ t, exec (.refclkLoss) s = .next t ∧ t.getF .GLB_TB_STATUS_FALLBACK 0 = 1 ∧
    t.getF .GLB_TB_STATUS_FALLBACK_COUNT 0 = min (s.getF .GLB_TB_STATUS_FALLBACK_COUNT 0 + 1) (2 ^ Fld.width
      .GLB_TB_STATUS_FALLBACK_COUNT - 1) ∧ t.getF .HRD_STATUS_TB_DEG 0 = 1 ∧ t.raiseQ = (s.raise 0x0F 1 0).raiseQ) ∧
  (∀ (s : State), s.isSet .GLB_TB_STATUS_FALLBACK 0 = true → exec (.refclkLoss) s = .next (s)) ∧
  (∀ (s : State), s.isSet .GLB_TB_STATUS_FALLBACK 0 = true →
    exec (.refclkReturn) s = .next ((s.setF .GLB_TB_STATUS_FALLBACK 0 0).setF .HRD_STATUS_TB_DEG 0 0)) ∧
  (∀ (s : State), s.isSet .GLB_TB_STATUS_FALLBACK 0 = false →
    exec (.oscCalibration) s = .next (s.setF .GLB_TB_STATUS_CAL_OK 0 1)) ∧
  (∀ (s : State) (sender : Nat), s.flt.treeB.contains sender = false → ∃ t, exec (.fabricRetry sender) s = .next t ∧
    t.flt.treeB = s.flt.treeB ++ [sender] ∧ t.getF .GLB_FAB_STATUS_TREE_A_OK 0 = 0 ∧
    t.getF .GLB_FAB_STATUS_TREE_B_OK 0 = s.getF .GLB_FAB_STATUS_TREE_B_OK 0 ∧
    t.getF .GLB_FAB_STATUS_SEG_FAIL_COUNT 0 = min (s.getF .GLB_FAB_STATUS_SEG_FAIL_COUNT 0 + 1) (2 ^ Fld.width
      .GLB_FAB_STATUS_SEG_FAIL_COUNT - 1) ∧ t.raiseQ = (s.raise 0x0F 0 0).raiseQ) ∧
  (∀ (s : State) (sender : Nat), s.flt.treeB.contains sender = true → exec (.fabricRetry sender) s = .next (s)) ∧
  (∀ (s : State) (d : Nat), d < s.cfg.table.domains → s.domSt d = 0 →
    ∃ t, exec (.endpointUnreachable (.load d)) s = .next t ∧ t.getF .GLB_FAB_STATUS_TREE_A_OK 0 = 0 ∧
    t.getF .GLB_FAB_STATUS_TREE_B_OK 0 = 0 ∧ t.domSt d = 5) ∧
  (∀ (s : State), ∃ t, exec (.endpointUnreachable .other) s = .next t ∧ t.getF .GLB_FAB_STATUS_TREE_A_OK 0 = 0 ∧
    t.getF .GLB_FAB_STATUS_TREE_B_OK 0 = 0 ∧ t.raiseQ = (s.raise 0x0F 0 0).raiseQ) ∧
  (∀ (s : State) (p : Nat), p < 4 → ∃ t, exec (.endpointUnreachable (.port p)) s = .next t ∧ t.linkUp p = false ∧
    t.getF .GLB_FAB_STATUS_SEG_FAIL_COUNT 0 = min (s.getF .GLB_FAB_STATUS_SEG_FAIL_COUNT 0 + 1) (2 ^ Fld.width
      .GLB_FAB_STATUS_SEG_FAIL_COUNT - 1)) ∧
  (∀ (s : State) (x : Nat), x < s.cfg.table.tsens → s.snsSt x = 0 →
    ∃ t, exec (.endpointUnreachable (.temp x)) s = .next t ∧ t.snsSt x = 1) ∧
  (∀ (s : State) (c : Nat), s.cellIs c = true → s.cellSt c ≠ 5 → s.cellSt c ≠ 4 →
    ∃ t, exec (.endpointUnreachable (.cell c)) s = .next t ∧ 4 ≤ t.cellSt c)

/-- An access that is not a naturally aligned 32-bit one gets an error response, changes no register and is captured. A
write of another size than 4 bytes, or at an offset that is not a multiple of 4, and a read at such an offset, answer an
error response and nothing but the access's raise; no register changes. FAULT_RAISE of that raise captures the access in
the first-error capture where it is free: its address, its initiator and its type. (R11) -/
def Obligations.MisalignedAccessesAreRefused : Prop :=
  (∀ (s : State) (bus : Bool) (init off size value : Nat), off < 2 ^ 20 → (size ≠ 4 ∨ off % 4 ≠ 0) →
    exec (.registerWrite bus init off size value) s = .next ((s.raiseAccess 0x0F 2 init init off 2).emit (.errorResponse
      init off))) ∧
  (∀ (s : State) (init off : Nat), off < 2 ^ 20 → off % 4 ≠ 0 →
    exec (.highWordLatchRead init off) s = .next ((s.raiseAccess 0x0F 2 init init off 1).emit (.errorResponse init off)))
      ∧
  (∀ (s : State) (init off typ time : Nat),
    s.raiseQ = [{ sub := 0x0F, code := 2, index := init, master := init, addr := off, typ := typ, time := time }] →
    s.isSet .FLT_FEC_INFO_VALID 0 = false → ∃ t, exec (.faultRaise 0) s = .next t ∧ t.isSet .FLT_FEC_INFO_VALID 0 = true ∧
    t.getF .FLT_FEC_INFO_MASTER 0 = init % 256 ∧ t.getF .FLT_FEC_INFO_TYPE 0 = typ % 16 ∧
    t.getF .FLT_FEC_ADDR_LO_ADDR_LO 0 = off % 2 ^ 32 ∧ t.getF .FLT_FEC_INFO_SUB 0 = 0x0F ∧
    t.getF .FLT_FEC_INFO_CODE 0 = 2)

/-- An offset of the window that no chapter assigns reads 0, and a write to it has no effect. For an aligned offset of the
1 MiB window that the register table does not hold and that lies in no slot area and not in the debug window, a read
returns 0 and changes nothing but that it answers, and a 32-bit write leaves the state as it was. The latches record wide
registers, an invariant stated on its own. (R13) -/
def Obligations.UnassignedOffsetsReadZero : Prop :=
  (∀ (s : State) (init off : Nat), off < 2 ^ 20 → off % 4 = 0 → regAt off = none → (off < 0x20000 ∨ 0x60000 ≤ off) →
    (off < 0x80000 ∨ 0xC000C < off) → (∀ p ∈ s.cmd.hiLatch, p.2.1 ∈ wideRegs) →
    exec (.highWordLatchRead init off) s = .next (s.emit (.readData init off 0))) ∧
  (∀ (s : State) (bus : Bool) (init off value : Nat), off < 2 ^ 20 → off % 4 = 0 → regAt off = none →
    (off < 0x20000 ∨ 0x40000 ≤ off) → (off < 0x80000 ∨ 0xC000C < off) → (bus = true → init < 0xF0) →
    exec (.registerWrite bus init off 4 value) s = .next (s))

/-- The high-word latches: a 64-bit quantity read low word first is not torn. A read of the low word of a wide register
answers it and loads its initiator's latch with the high word of the same state. A read of the high word by an initiator
whose latch records that quantity answers the latched value and clears the record; by any other initiator it answers the
live high word and leaves the latches. No read changes another initiator's latch. (R18) -/
def Obligations.WideReadsAreNotTorn : Prop :=
  (∀ (s : State) (init other off : Nat), off ∈ wideRegs → (∀ p ∈ s.cmd.hiLatch, p.2.1 ∈ wideRegs) → other ≠ init →
    ∃ t, exec (.highWordLatchRead init off) s = .next t ∧ t.out = s.out ++ [.readData init off (s.readWord off)] ∧
    t.latchOf init = some (off, s.readWord (off + 4)) ∧ t.latchOf other = s.latchOf other ∧ t.fields = s.fields ∧
    t.time = s.time) ∧
  (∀ (s : State) (init other off w : Nat), off ∈ wideRegs → s.latchOf init = some (off, w) → other ≠ init →
    ∃ t, exec (.highWordLatchRead init (off + 4)) s = .next t ∧ t.out = s.out ++ [.readData init (off + 4) w] ∧
    t.latchOf init = none ∧ t.latchOf other = s.latchOf other ∧ t.fields = s.fields) ∧
  (∀ (s : State) (init off : Nat), off ∈ wideRegs →
    (s.latchOf init).all (fun q => decide (q.1 ≠ off ∧ q.1 ∈ wideRegs)) = true →
    exec (.highWordLatchRead init (off + 4)) s = .next (s.emit (.readData init (off + 4) (s.readWord (off + 4)))))

/-- PROD and CONS: free-running counts, the slot of a record, a full ring and a bad CONS write. Record i goes to slot i
mod 2^SIZE_LOG2 of the ring, at 64 bytes a slot. A record written goes to the slot of PROD, and PROD counts on modulo
2^32. While PROD − CONS modulo 2^32 equals the ring's size no record is written. A CONS write that leaves PROD − CONS at
most the ring's size is taken, and any other is ignored, sets CONS_BAD and raises its fault. SIZE_LOG2 is taken from 8 to
20. (R313) -/
def Obligations.RingIndicesWrap : Prop :=
  (∀ (s : State) (r : TlmRec) (rest : List TlmRec), s.tlm.queue = r :: rest →
    (s.getF .TLM_PROD_PROD 0 + 2 ^ 32 - s.getF .TLM_CONS_CONS 0) % 2 ^ 32 ≠ 2 ^ clampN 8 20 (s.getF .TLM_CTRL_SIZE_LOG2
      0) → ∃ t, exec (.recordWriteAck) s = .next t ∧ t.getF .TLM_PROD_PROD 0 = (s.getF .TLM_PROD_PROD 0 + 1) % 2 ^ 32 ∧
    t.out = s.out ++ [.busWrite (s.getF .TLM_RING_HI_BASE_HI 0 * 2 ^ 32 + s.getF .TLM_RING_LO_BASE_LO 0 * 4096 + 64 *
      (s.getF .TLM_PROD_PROD 0 % 2 ^ clampN 8 20 (s.getF .TLM_CTRL_SIZE_LOG2 0))) (sealRecord r.bytes s.tlm.lostBefore)])
      ∧
  (∀ (s : State),
    (s.getF .TLM_PROD_PROD 0 + 2 ^ 32 - s.getF .TLM_CONS_CONS 0) % 2 ^ 32 = 2 ^ clampN 8 20 (s.getF .TLM_CTRL_SIZE_LOG2
      0) → exec (.recordWriteAck) s = .next (s)) ∧
  (∀ (s : State) (value : Nat),
    (s.getF .TLM_PROD_PROD 0 + 2 ^ 32 - value % 2 ^ 32) % 2 ^ 32 ≤ 2 ^ clampN 8 20 (s.getF .TLM_CTRL_SIZE_LOG2 0) →
    exec (.consWrite value) s = .next (s.setF .TLM_CONS_CONS 0 value)) ∧
  (∀ (s : State) (value : Nat),
    2 ^ clampN 8 20 (s.getF .TLM_CTRL_SIZE_LOG2 0) < (s.getF .TLM_PROD_PROD 0 + 2 ^ 32 - value % 2 ^ 32) % 2 ^ 32 →
    ∃ t, exec (.consWrite value) s = .next t ∧ t.getF .TLM_EVENT_CONS_BAD 0 = 1 ∧
    t.getF .TLM_CONS_CONS 0 = s.getF .TLM_CONS_CONS 0 ∧ t.getF .TLM_PROD_PROD 0 = s.getF .TLM_PROD_PROD 0 ∧
    t.raiseQ = (s.event .TLM_EVENT_CONS_BAD 0 0x0A 0).raiseQ)

/-- FINISH compares RESULT with EXPECT. At FINISH of an ACTIVE unit that takes its writer's command, with CMP_EN = 1,
MATCH is 1 and MISMATCH 0 where the RESULT formed equals EXPECT, and the other way round where it differs; a mismatch also
counts, sets the unit's bit in CRC_EVENT, and with IRQ_EN = 1 interrupts the processor that R327 names: the lease holder's
for unit 0, CP2 for units 1 and 2, none for unit 3. With CMP_EN = 0 both read 0. (R332) -/
def Obligations.FinishCompares : Prop :=
  (∀ (s : State) (u init : Nat), u < 4 → (u = 0 → s.isSet .CRC_LEASE_HELD 0 = true ∧ s.getF .CRC_LEASE_HOLDER 0 = init) →
    (u ≠ 0 → s.committed = false) → s.crcSt u = 1 → s.isSet .CRC_CFG_CMP_EN u = true →
    crcFinish (s.crcW u) (s.isSet .CRC_CFG_REFOUT u) (s.isSet .CRC_CFG_FINAL_INV u) (s.getF .CRC_VALUE_VALUE u) = s.getF
      .CRC_EXPECT_EXPECT u % 2 ^ s.crcW u → ∃ t, exec (.crcFinish init u) s = .next t ∧
    t.getF .CRC_RESULT_RESULT u = s.getF .CRC_EXPECT_EXPECT u % 2 ^ s.crcW u % 2 ^ 32 ∧ t.getF .CRC_STATUS_MATCH u = 1 ∧
    t.getF .CRC_STATUS_MISMATCH u = 0 ∧ t.getF .CRC_STATUS_MISMATCH_COUNT u = s.getF .CRC_STATUS_MISMATCH_COUNT u ∧
    t.getF .CRC_EVENT_MISMATCH 0 = s.getF .CRC_EVENT_MISMATCH 0 ∧ t.out = s.out) ∧
  (∀ (s : State) (u init : Nat), u < 4 → (u = 0 → s.isSet .CRC_LEASE_HELD 0 = true ∧ s.getF .CRC_LEASE_HOLDER 0 = init) →
    (u ≠ 0 → s.committed = false) → s.crcSt u = 1 → s.isSet .CRC_CFG_CMP_EN u = true →
    crcFinish (s.crcW u) (s.isSet .CRC_CFG_REFOUT u) (s.isSet .CRC_CFG_FINAL_INV u) (s.getF .CRC_VALUE_VALUE u) ≠ s.getF
      .CRC_EXPECT_EXPECT u % 2 ^ s.crcW u → ∃ t, exec (.crcFinish init u) s = .next t ∧
    t.getF .CRC_RESULT_RESULT u = crcFinish (s.crcW u) (s.isSet .CRC_CFG_REFOUT u) (s.isSet .CRC_CFG_FINAL_INV u) (s.getF
      .CRC_VALUE_VALUE u) % 2 ^ 32 ∧ t.getF .CRC_STATUS_MATCH u = 0 ∧ t.getF .CRC_STATUS_MISMATCH u = 1 ∧
    t.getF .CRC_STATUS_MISMATCH_COUNT u = min (s.getF .CRC_STATUS_MISMATCH_COUNT u + 1) (2 ^ Fld.width
      .CRC_STATUS_MISMATCH_COUNT - 1) ∧ bitOf (t.getF .CRC_EVENT_MISMATCH 0) u = true ∧
    t.out = s.out ++ (if s.isSet .CRC_CFG_IRQ_EN u = true ∧ u ≠ 3 then [.irq (if u = 0 then init % 16 else 2)] else [])) ∧
  (∀ (s : State) (u init : Nat), u < 4 → (u = 0 → s.isSet .CRC_LEASE_HELD 0 = true ∧ s.getF .CRC_LEASE_HOLDER 0 = init) →
    (u ≠ 0 → s.committed = false) → s.crcSt u = 1 → s.isSet .CRC_CFG_CMP_EN u = false →
    ∃ t, exec (.crcFinish init u) s = .next t ∧ t.getF .CRC_STATUS_MATCH u = 0 ∧ t.getF .CRC_STATUS_MISMATCH u = 0 ∧
    t.out = s.out)

/-- A fatal raise latches its source, is recorded once, asserts the pair, drives PWR_OK to 0 and closes every permit gate.
FATAL_RAISE of any waiting raise of class fatal puts its source in LATCHED, sets FLT_STATUS.FATAL, records its SUB and
CODE where FATAL was 0 and keeps those recorded where it was 1, asserts the error pair, drives BL_PWR_OK to 0 and closes
the permit gate of every domain, in one step and with no window. (R422) -/
def Obligations.FatalRaiseActsAtOnce : Prop :=
  (∀ (s : State) (k : Nat) (x : Raise) (rest : List Raise),
    pickRaise (fun x => decide (x.cls = 3)) [] s.raiseQ k = some (x, rest) → x.sub < 256 → x.code < 16 →
    s.isSet .FLT_STATUS_FATAL 0 = false → ∃ t, exec (.fatalRaise k) s = .next t ∧ t.srcSt x.key = 4 ∧
    t.getF .FLT_STATUS_FATAL 0 = 1 ∧ t.getF .FLT_STATUS_FATAL_SUB 0 = x.sub ∧ t.getF .FLT_STATUS_FATAL_CODE 0 = x.code ∧
    t.getF .FLT_STATUS_PAIR_ASSERT 0 = 1 ∧ t.getF .GLB_BOOT_STATUS_PWR_OK 0 = 0 ∧ t.dom.gateAll = true ∧
    t.doms.all (fun d => t.isSet .DOM_STATUS_GATE_CLOSED d) = true) ∧
  (∀ (s : State) (k : Nat) (x : Raise) (rest : List Raise),
    pickRaise (fun x => decide (x.cls = 3)) [] s.raiseQ k = some (x, rest) → x.code < 16 →
    s.isSet .FLT_STATUS_FATAL 0 = true → ∃ t, exec (.fatalRaise k) s = .next t ∧ t.srcSt x.key = 4 ∧
    t.getF .FLT_STATUS_FATAL 0 = 1 ∧ t.getF .FLT_STATUS_FATAL_SUB 0 = s.getF .FLT_STATUS_FATAL_SUB 0 ∧
    t.getF .FLT_STATUS_FATAL_CODE 0 = s.getF .FLT_STATUS_FATAL_CODE 0 ∧ t.getF .FLT_STATUS_PAIR_ASSERT 0 = 1 ∧
    t.getF .GLB_BOOT_STATUS_PWR_OK 0 = 0 ∧ t.dom.gateAll = true ∧
    t.doms.all (fun d => t.isSet .DOM_STATUS_GATE_CLOSED d) = true)

/-- A result of kind 3 converts to the highest step whose current limit is at or below it. The step that a current limit
converts to is a step of 0 to 15; where the limit of step 0 is at or below the value, its own current limit is at or below
it and no higher step's is; where the value is below I_lim(0) it is 0. I_lim(s) is the lowest of the limits written for
the steps from s to 15 of the domain's class. (R152) -/
def Obligations.CurrentLimitsConvertToSteps : Prop :=
  (∀ (s : State) (d st : Nat) (v : Int), st < 16 → s.stepOf d v < 16 ∧
    ((s.ilim d 0 : Int) ≤ v → (s.ilim d (s.stepOf d v) : Int) ≤ v) ∧ ((s.ilim d st : Int) ≤ v → st ≤ s.stepOf d v) ∧
    (v < (s.ilim d 0 : Int) → s.stepOf d v = 0)) ∧
  (∀ (s : State) (d st j : Nat), st ≤ j → j < 16 → s.ilim d st ≤ s.ladderRaw (s.cfg.table.domClass d) j ∧
    (List.range 16).any (fun m => decide (st ≤ m ∧ s.ilim d st = s.ladderRaw (s.cfg.table.domClass d) m)) = true)

/-- FENCE_AT: its reset value, its range, and a value below it. FENCE_AT resets to 2 for the tile and CPU classes (0 and
1) and to 0 for the other classes. A value from the reset value up to the cell count of the class minus 1 is used as it
is, and a value below the reset value is used as the reset value. (R115) -/
def Obligations.FenceAtIsHeldInItsRange : Prop :=
  (∀ (s : State) (k : Nat), k < 5 → (Fld.rst s.cfg .DOM_CLS_CFG_FENCE_AT k = if k < 2 then 2 else 0) ∧
    (s.getF .DOM_CLS_CFG_FENCE_AT k < (if k < 2 then 2 else 0) → s.fenceAt k = if k < 2 then 2 else 0) ∧
    ((if k < 2 then 2 else 0) ≤ s.getF .DOM_CLS_CFG_FENCE_AT k ∧ s.getF .DOM_CLS_CFG_FENCE_AT k ≤ classCells k - 1 →
      s.fenceAt k = s.getF .DOM_CLS_CFG_FENCE_AT k))

/-- A write of a register without an action of its own changes that register's fields by their types and nothing else. A
32-bit write at the offset of a register that exists, stages nothing and has no action takes its RW fields as written (but
those whose write is an act and those that a running engine holds off), clears the RW1C bits written 1, takes its RWL
fields before the configuration commit alone and leaves RO and WO fields, and every field of another register or item and
every other part of the state but the raise of a refused locked write. A register of a unit that does not exist takes
nothing. (R13, R14, R16, R458, R460) -/
def Obligations.PlainRegisterWritesTouchOneRegister : Prop :=
  (∀ (s : State) (bus : Bool) (init off value : Nat) (r : RegRow) (i : Nat), off < 0x80000 → off % 4 = 0 →
    (bus = true → init < 0xF0) → (off < 0x20000 ∨ 0x40000 ≤ off) → regAt off = some (r, i) →
    unitExists s.cfg.table r (s.itemAt r i) = true → r.base ∉ actingRegs → r.bits .rwe = 0 →
    ∃ t, exec (.registerWrite bus init off 4 value) s = .next t ∧
      (∀ f j, f ∉ r.flds ∨ j ≠ s.itemAt r i → t.getF f j = s.getF f j) ∧
      (∀ p : Part, p ≠ .raiseQ → p.same s t) ∧
      (∀ f ∈ r.flds, f ∉ actingFields → s.holdsOff f = false → match f.info.acc with
        | .rw => t.getF f (s.itemAt r i) = f.part (value % 2 ^ 32)
        | .rw1c => t.getF f (s.itemAt r i) =
            (s.getF f (s.itemAt r i) - Nat.land (s.getF f (s.itemAt r i)) (f.part (value % 2 ^ 32))) % 2 ^ f.width
        | .rwl => t.getF f (s.itemAt r i) = if s.committed then s.getF f (s.itemAt r i) else f.part (value % 2 ^ 32)
        | _ => t.getF f (s.itemAt r i) = s.getF f (s.itemAt r i))) ∧
  (∀ (s : State) (bus : Bool) (init off value : Nat) (r : RegRow) (i : Nat), off < 0x80000 → off % 4 = 0 →
    (bus = true → init < 0xF0) → (off < 0x20000 ∨ 0x40000 ≤ off) → regAt off = some (r, i) →
    unitExists s.cfg.table r (s.itemAt r i) = false → exec (.registerWrite bus init off 4 value) s = .next s)

/-- A command to one check-value unit leaves the other units. START, FINISH, ABORT, data, VALUE and settings written to
unit u leave the state, running value, RESULT, flags, counts and settings of every other unit. (R328, R329, R330, R332) -/
def Obligations.CheckValueUnitsAreApart : Prop :=
  ∀ (s t : State) (init u v x reg : Nat) (c : Instr), v ≠ u →
    c ∈ [.crcStart init u, .crcFinish init u, .crcAbort init u, .crcData32 init u x, .crcData8 init u x,
      .crcValueWrite init u x, .crcSettingsWrite init u reg x] →
    exec c s = .next t →
    ∀ f ∈ ([.CRC_STATUS_STATE, .CRC_STATUS_MATCH, .CRC_STATUS_MISMATCH, .CRC_STATUS_MISMATCH_COUNT, .CRC_STATUS_DROPPED,
        .CRC_VALUE_VALUE, .CRC_RESULT_RESULT, .CRC_EXPECT_EXPECT, .CRC_CFG_WIDTH_M1, .CRC_CFG_CMP_EN, .CRC_CFG_IRQ_EN,
        .CRC_CFG_REFIN, .CRC_CFG_REFOUT, .CRC_CFG_FINAL_INV, .CRC_POLY_POLY, .CRC_INIT_INIT] : List Fld),
      t.getF f v = s.getF f v

/-- A command to one phase group leaves the state of the other groups. The enable, the delays, foldback, its recovery, the
hiccup wait and the clearing of ATTEMPTS of group g leave the state, reference, sensed voltage, on-time and attempts of
every other group. (R68, R79, R82, R85) -/
def Obligations.PhaseGroupsAreApart : Prop :=
  ∀ (s t : State) (g k x : Nat) (c : Instr), k ≠ g →
    c ∈ [.groupEnable g, .startDelayElapsed g x, .foldbackEntry g x, .foldbackRecovery g x, .hiccupWaitElapsed g x,
      .stopDelayElapsed g, .attemptsClear g] →
    exec c s = .next t →
    ∀ f ∈ ([.PHS_GRP_STATUS_STATE, .PHS_GRP_STATUS_ATTEMPTS, .PHS_GRP_REF_VREF, .PHS_GRP_REF_VSENSE,
        .PHS_GRP_TON_TON_BASE, .PHS_GRP_CTRL_EN] : List Fld), t.getF f k = s.getF f k

/-- What the commands of phase groups, phases and PMBus leave unchanged. For every command of these families whose fields
the model lists, a next state reads every field outside the list as before, at every item, and every part of the state
outside the command's parts is the same. The lists are Instr.writes and Instr.parts of Safety.lean, one row per command or
group of commands. (R68, R70, R79, R82, R85, R93) -/
def Obligations.PhasesFrame : Prop :=
  ∀ (c : Instr) (s t : State) (fs : List Fld), c.family = .phases →
    c.writes = some fs → exec c s = .next t → s.onlyChanges t fs c.parts

/-- What the commands of cells and domains leave unchanged. For every command of these families whose fields the model
lists, a next state reads every field outside the list as before, at every item, and every part of the state outside the
command's parts is the same. The lists are Instr.writes and Instr.parts of Safety.lean, one row per command or group of
commands. (R109, R112, R116, R118, R127, R129) -/
def Obligations.DomainsFrame : Prop :=
  ∀ (c : Instr) (s t : State) (fs : List Fld), c.family = .domains →
    c.writes = some fs → exec c s = .next t → s.onlyChanges t fs c.parts

/-- What the commands of the control engine and the Rooster leave unchanged. For every command of these families whose
fields the model lists, a next state reads every field outside the list as before, at every item, and every part of the
state outside the command's parts is the same. The lists are Instr.writes and Instr.parts of Safety.lean, one row per
command or group of commands. (R133, R136, R153, R177, R192, R197) -/
def Obligations.EngineAndRoosterFrame : Prop :=
  ∀ (c : Instr) (s t : State) (fs : List Fld), (c.family = .engine ∨ c.family = .rooster) →
    c.writes = some fs → exec c s = .next t → s.onlyChanges t fs c.parts

/-- What the commands of estimation, budget and thermal leave unchanged. For every command of these families whose fields
the model lists, a next state reads every field outside the list as before, at every item, and every part of the state
outside the command's parts is the same. The lists are Instr.writes and Instr.parts of Safety.lean, one row per command or
group of commands. (R202, R215, R247, R250, R256) -/
def Obligations.PowerAndThermalFrame : Prop :=
  ∀ (c : Instr) (s t : State) (fs : List Fld), (c.family = .power ∨ c.family = .thermal) →
    c.writes = some fs → exec c s = .next t → s.onlyChanges t fs c.parts

/-- What the commands of partners, packets and the herd leave unchanged. For every command of these families whose fields
the model lists, a next state reads every field outside the list as before, at every item, and every part of the state
outside the command's parts is the same. The lists are Instr.writes and Instr.parts of Safety.lean, one row per command or
group of commands. (R337, R339, R348, R273, R277, R283) -/
def Obligations.PacketsAndHerdFrame : Prop :=
  ∀ (c : Instr) (s t : State) (fs : List Fld), (c.family = .packets ∨ c.family = .herd) →
    c.writes = some fs → exec c s = .next t → s.onlyChanges t fs c.parts

/-- What the commands of the converters, telemetry and the check-value units leave unchanged. For every command of these
families whose fields the model lists, a next state reads every field outside the list as before, at every item, and every
part of the state outside the command's parts is the same. The lists are Instr.writes and Instr.parts of Safety.lean, one
row per command or group of commands. (R293, R301, R313, R316, R330, R332) -/
def Obligations.MeasurementFrame : Prop :=
  ∀ (c : Instr) (s t : State) (fs : List Fld), (c.family = .adc ∨ c.family = .telemetry ∨ c.family = .crc) →
    c.writes = some fs → exec c s = .next t → s.onlyChanges t fs c.parts

/-- What the commands of epochs and firmware leave unchanged. For every command of these families whose fields the model
lists, a next state reads every field outside the list as before, at every item, and every part of the state outside the
command's parts is the same. The lists are Instr.writes and Instr.parts of Safety.lean, one row per command or group of
commands. (R354, R355, R373, R376, R380, R384) -/
def Obligations.EpochsAndFirmwareFrame : Prop :=
  ∀ (c : Instr) (s t : State) (fs : List Fld), (c.family = .epochs ∨ c.family = .firmware) →
    c.writes = some fs → exec c s = .next t → s.onlyChanges t fs c.parts

/-- What the commands of faults, accesses, bring-up and reset leave unchanged. For every command of these families whose
fields the model lists, a next state reads every field outside the list as before, at every item, and every part of the
state outside the command's parts is the same. The lists are Instr.writes and Instr.parts of Safety.lean, one row per
command or group of commands. (R18, R390, R403, R415, R418, R422) -/
def Obligations.FaultsAccessAndBootFrame : Prop :=
  ∀ (c : Instr) (s t : State) (fs : List Fld), (c.family = .faults ∨ c.family = .access ∨ c.family = .boot) →
    c.writes = some fs → exec c s = .next t → s.onlyChanges t fs c.parts

end
end

