-- ==== Sys2Proof/Laws/Table.lean ====
section
/-! SUPPORT. What reading a sparse table after changing it gives, and that every change keeps its canonical form. -/

namespace Sys2Proof.Machine

section
variable {κ α : Type} [DecidableEq κ]

@[simp] theorem Tbl.get_nil (d : α) (k : κ) : Tbl.get d ([] : Tbl κ α) k = d := rfl

/-- A key that has been taken out reads the default. -/
theorem Tbl.get_erase_self (d : α) (t : Tbl κ α) (k : κ) : Tbl.get d (Tbl.erase t k) k = d := by
  induction t with
  | nil => rfl
  | cons p r ih =>
    by_cases h : p.1 = k
    · simpa [Tbl.erase, h] using ih
    · simpa [Tbl.erase, Tbl.get, h] using ih

/-- Other keys read as before. -/
theorem Tbl.get_erase_ne (d : α) (t : Tbl κ α) {k j : κ} (h : j ≠ k) : Tbl.get d (Tbl.erase t k) j = Tbl.get d t j := by
  induction t with
  | nil => rfl
  | cons p r ih =>
    by_cases hp : p.1 = k
    · have : p.1 ≠ j := fun e => h (e.symm.trans hp)
      simpa [Tbl.erase, Tbl.get, hp, this, h.symm] using ih
    · by_cases hj : p.1 = j
      · simp [Tbl.erase, Tbl.get, hj, h]
      · simpa [Tbl.erase, Tbl.get, hp, hj] using ih

/-- A row put into a table without its key reads its value. -/
theorem Tbl.get_insert_self (rank : κ → Nat) (d : α) (t : Tbl κ α) (k : κ) (v : α) (h : ∀ p ∈ t, p.1 ≠ k) :
    Tbl.get d (Tbl.insert rank t k v) k = v := by
  induction t with
  | nil => simp [Tbl.insert, Tbl.get]
  | cons p r ih =>
    have hp : p.1 ≠ k := h p (by simp)
    by_cases hr : rank k < rank p.1
    · simp [Tbl.insert, Tbl.get, hr]
    · simp [Tbl.insert, Tbl.get, hr, hp, ih (fun q hq => h q (by simp [hq]))]

/-- Other keys read as before. -/
theorem Tbl.get_insert_ne (rank : κ → Nat) (d : α) (t : Tbl κ α) {k j : κ} (v : α) (h : j ≠ k) :
    Tbl.get d (Tbl.insert rank t k v) j = Tbl.get d t j := by
  induction t with
  | nil => simp [Tbl.insert, Tbl.get, h.symm]
  | cons p r ih =>
    by_cases hr : rank k < rank p.1
    · simp [Tbl.insert, Tbl.get, hr, h.symm]
    · simp [Tbl.insert, Tbl.get, hr, ih]

theorem Tbl.not_mem_erase (t : Tbl κ α) (k : κ) : ∀ p ∈ Tbl.erase t k, p.1 ≠ k := by
  intro p hp
  simpa [Tbl.erase] using (List.mem_filter.1 hp).2

/-- The value just set is read. -/
theorem Tbl.get_set_self (rank : κ → Nat) (d : α) (t : Tbl κ α) (k : κ) (v : α) : Tbl.get d (Tbl.set rank t k v) k = v :=
  Tbl.get_insert_self rank d _ k v (Tbl.not_mem_erase t k)

/-- Every other key reads as before. -/
theorem Tbl.get_set_ne (rank : κ → Nat) (d : α) (t : Tbl κ α) {k j : κ} (v : α) (h : j ≠ k) :
    Tbl.get d (Tbl.set rank t k v) j = Tbl.get d t j := by
  rw [Tbl.set, Tbl.get_insert_ne rank d _ v h, Tbl.get_erase_ne d t h]

theorem Tbl.get_set (rank : κ → Nat) (d : α) (t : Tbl κ α) (k j : κ) (v : α) :
    Tbl.get d (Tbl.set rank t k v) j = if j = k then v else Tbl.get d t j := by
  by_cases h : j = k
  · subst h; simp [Tbl.get_set_self]
  · simp [h, Tbl.get_set_ne rank d t v h]

theorem Tbl.mem_insert (rank : κ → Nat) (t : Tbl κ α) (k : κ) (v : α) (p : κ × α) :
    p ∈ Tbl.insert rank t k v ↔ p = (k, v) ∨ p ∈ t := by
  induction t with
  | nil => simp [Tbl.insert]
  | cons q r ih =>
    by_cases h : rank k < rank q.1
    · simp [Tbl.insert, h]
    · simp [Tbl.insert, h, ih]; tauto

/-- A row of a changed table is the new row or an old one. -/
theorem Tbl.mem_set {rank : κ → Nat} {t : Tbl κ α} {k : κ} {v : α} {p : κ × α} (h : p ∈ Tbl.set rank t k v) :
    p = (k, v) ∨ p ∈ t := by
  rcases (Tbl.mem_insert rank _ k v p).1 h with h | h
  · exact .inl h
  · exact .inr (List.mem_filter.1 h).1

theorem Tbl.sorted_erase (rank : κ → Nat) {t : Tbl κ α} (h : Tbl.sorted rank t) (k : κ) : Tbl.sorted rank (Tbl.erase t k) :=
  List.Pairwise.sublist List.filter_sublist h

theorem Tbl.sorted_insert {rank : κ → Nat} (hinj : ∀ a b, rank a = rank b → a = b) {t : Tbl κ α} (h : Tbl.sorted rank t)
    (k : κ) (v : α) (hk : ∀ p ∈ t, p.1 ≠ k) : Tbl.sorted rank (Tbl.insert rank t k v) := by
  induction t with
  | nil => simp [Tbl.insert, Tbl.sorted]
  | cons q r ih =>
    have hq : q.1 ≠ k := hk q (by simp)
    have h' := List.pairwise_cons.1 h
    by_cases hr : rank k < rank q.1
    · have : Tbl.insert rank (q :: r) k v = (k, v) :: q :: r := by simp [Tbl.insert, hr]
      rw [this]
      refine List.pairwise_cons.2 ⟨?_, h⟩
      intro p hp
      rcases List.mem_cons.1 hp with e | hp
      · subst e; exact hr
      · exact lt_trans hr (h'.1 p hp)
    · have : Tbl.insert rank (q :: r) k v = q :: Tbl.insert rank r k v := by simp [Tbl.insert, hr]
      rw [this]
      refine List.pairwise_cons.2 ⟨?_, ih h'.2 (fun p hp => hk p (by simp [hp]))⟩
      intro p hp
      rcases (Tbl.mem_insert rank r k v p).1 hp with e | hp
      · subst e
        have : rank q.1 ≠ rank k := fun e => hq (hinj _ _ e)
        show rank q.1 < rank k
        omega
      · exact h'.1 p hp

/-- Setting a key keeps the rising order. -/
theorem Tbl.sorted_set {rank : κ → Nat} (hinj : ∀ a b, rank a = rank b → a = b) {t : Tbl κ α} (h : Tbl.sorted rank t)
    (k : κ) (v : α) : Tbl.sorted rank (Tbl.set rank t k v) :=
  Tbl.sorted_insert hinj (Tbl.sorted_erase rank h k) k v (Tbl.not_mem_erase t k)

end

section
variable {α : Type}

@[simp] theorem Tbl.get_put (d : α) (t : Tbl Nat α) (k j : Nat) (v : α) :
    Tbl.get d (Tbl.put t k v) j = if j = k then v else Tbl.get d t j := Tbl.get_set id d t k j v

theorem Tbl.sorted_put {t : Tbl Nat α} (h : Tbl.sorted id t) (k : Nat) (v : α) : Tbl.sorted id (Tbl.put t k v) :=
  Tbl.sorted_set (fun _ _ e => e) h k v

variable [DecidableEq α]

@[simp] theorem Tbl.get_putD (d : α) (t : Tbl Nat α) (k j : Nat) (v : α) :
    Tbl.get d (Tbl.putD d t k v) j = if j = k then v else Tbl.get d t j := by
  unfold Tbl.putD
  by_cases hv : v = d
  · by_cases h : j = k
    · subst h; simp [hv, Tbl.get_erase_self]
    · simp [hv, h, Tbl.get_erase_ne d t h]
  · simp [hv]

/-- Every change keeps the canonical form of an addressed table. -/
theorem Tbl.canon_putD {d : α} {t : Tbl Nat α} (h : Tbl.canon d t) (k : Nat) (v : α) : Tbl.canon d (Tbl.putD d t k v) := by
  unfold Tbl.putD
  by_cases hv : v = d
  · rw [if_pos hv]
    exact ⟨Tbl.sorted_erase id h.1 k, fun p hp => h.2 p (List.mem_filter.1 hp).1⟩
  · rw [if_neg hv]
    refine ⟨Tbl.sorted_put h.1 k v, fun p hp => ?_⟩
    rcases Tbl.mem_set hp with e | hp
    · subst e; exact hv
    · exact h.2 p hp

end

end Sys2Proof.Machine
end

