-- ==== Sys2Proof/Laws/State.lean ====
section
/-! SUPPORT. What each operation on the register table and the state's parts leaves readable: one lemma per field per update. -/

namespace Sys2Proof.Machine

theorem Fld.ctorIdx_inj (a b : Fld) (h : Fld.ctorIdx a = Fld.ctorIdx b) : a = b := by
  rw [← Fld.ofNat_ctorIdx a, ← Fld.ofNat_ctorIdx b, h]

/-! ### Storing a field -/

/-- What a stored field reads: the value cut to the width at the item stored, every other item and field as before. -/
theorem State.getF_setF (s : State) (f g : Fld) (i j v : Nat) :
    (s.setF f i v).getF g j = if g = f ∧ j = i then v % 2 ^ f.width else s.getF g j := by
  show Tbl.get _ (Tbl.get [] (Tbl.set _ _ _ _) g) j = _
  rw [Tbl.get_set]
  by_cases h : g = f
  · subst h
    by_cases hj : j = i
    · simp [hj]
    · simp [hj, State.getF]; rfl
  · simp [h, State.getF]; rfl

@[simp] theorem State.getF_setF_self (s : State) (f : Fld) (i v : Nat) : (s.setF f i v).getF f i = v % 2 ^ f.width := by
  simp [State.getF_setF]

/-- Another field reads as before. -/
@[simp] theorem State.getF_setF_fld (s : State) {f g : Fld} (i j v : Nat) (h : g ≠ f) :
    (s.setF f i v).getF g j = s.getF g j := by
  simp [State.getF_setF, h]

/-- Another item reads as before. -/
@[simp] theorem State.getF_setF_item (s : State) (f g : Fld) {i j : Nat} (v : Nat) (h : j ≠ i) :
    (s.setF f i v).getF g j = s.getF g j := by
  simp [State.getF_setF, h]

/-- A record update that leaves the register table and the configuration leaves every field. -/
@[simp ↓] theorem State.getF_mk (s : State) (f : Fld) (i : Nat) (time : Nat) (raiseQ : List Raise) (out : List OutMsg) (freeCtr : Nat) (flt : FltState) (phs : PhsState) (dom : DomState) (eng : EngState) (start : StartState) (est : EstState) (bud : BudState) (thm : ThmState) (hrd : HrdState) (tlm : TlmState) (cmd : CmdState) (boot : BootState) (adc : AdcState) (fw : FwState) (lt : LtState) (pending : List Instr) :
    State.getF { time := time, cfg := s.cfg, fields := s.fields, raiseQ := raiseQ, out := out, freeCtr := freeCtr, flt := flt, phs := phs, dom := dom, eng := eng, start := start, est := est, bud := bud, thm := thm, hrd := hrd, tlm := tlm, cmd := cmd, boot := boot, adc := adc, fw := fw, lt := lt, pending := pending } f i = s.getF f i := (rfl)

/-- The same where the configuration has been rewritten already. -/
@[simp] theorem State.getF_mk_cfg (s : State) (c : Cfg) (f : Fld) (i : Nat) (time : Nat) (raiseQ : List Raise) (out : List OutMsg) (freeCtr : Nat) (flt : FltState) (phs : PhsState) (dom : DomState) (eng : EngState) (start : StartState) (est : EstState) (bud : BudState) (thm : ThmState) (hrd : HrdState) (tlm : TlmState) (cmd : CmdState) (boot : BootState) (adc : AdcState) (fw : FwState) (lt : LtState) (pending : List Instr) (h : s.cfg = c) :
    State.getF { time := time, cfg := c, fields := s.fields, raiseQ := raiseQ, out := out, freeCtr := freeCtr, flt := flt, phs := phs, dom := dom, eng := eng, start := start, est := est, bud := bud, thm := thm, hrd := hrd, tlm := tlm, cmd := cmd, boot := boot, adc := adc, fw := fw, lt := lt, pending := pending } f i = s.getF f i := by
  subst h; rfl

theorem State.setB_eq (s : State) (f : Fld) (i : Nat) (b : Bool) : s.setB f i b = s.setF f i (if b then 1 else 0) := rfl

theorem State.getF_setB (s : State) (f g : Fld) (i j : Nat) (b : Bool) :
    (s.setB f i b).getF g j = if g = f ∧ j = i then (if b then 1 else 0) % 2 ^ f.width else s.getF g j :=
  State.getF_setF s f g i j _

@[simp] theorem State.getF_setB_fld (s : State) {f g : Fld} (i j : Nat) (b : Bool) (h : g ≠ f) :
    (s.setB f i b).getF g j = s.getF g j := State.getF_setF_fld s i j _ h

@[simp] theorem State.getF_bumpF_self (s : State) (f : Fld) (i : Nat) :
    (s.bumpF f i).getF f i = min (s.getF f i + 1) (2 ^ f.width - 1) := by
  unfold State.bumpF
  rw [State.getF_setF_self]
  exact Nat.mod_eq_of_lt (by have := Nat.two_pow_pos f.width; omega)

@[simp] theorem State.getF_bumpF_fld (s : State) {f g : Fld} (i j : Nat) (h : g ≠ f) :
    (s.bumpF f i).getF g j = s.getF g j := State.getF_setF_fld s i j _ h

@[simp] theorem State.getF_addSatF_fld (s : State) {f g : Fld} (i j n : Nat) (h : g ≠ f) :
    (s.addSatF f i n).getF g j = s.getF g j := State.getF_setF_fld s i j _ h

@[simp] theorem State.getF_incF_fld (s : State) {f g : Fld} (i j : Nat) (h : g ≠ f) :
    (s.incF f i).getF g j = s.getF g j := State.getF_setF_fld s i j _ h

@[simp] theorem State.getF_setS_fld (s : State) {f g : Fld} (i j : Nat) (x : Int) (h : g ≠ f) :
    (s.setS f i x).getF g j = s.getF g j := State.getF_setF_fld s i j _ h

/-! ### Folds, conditions, messages and raises -/

/-- What every action of a fold keeps, the fold keeps. -/
theorem State.each_keeps {β : Type} (P : State → β) (l : List Nat) (f : Nat → State → State) (h : ∀ i t, P (f i t) = P t)
    (s : State) : P (s.each l f) = P s := by
  unfold State.each
  induction l generalizing s with
  | nil => rfl
  | cons a r ih => simpa [h] using ih (f a s)

/-- A fact that every action of a fold keeps, the fold keeps. -/
theorem State.each_inv (P : State → Prop) (l : List Nat) (f : Nat → State → State) (h : ∀ i t, P t → P (f i t))
    (s : State) (hs : P s) : P (s.each l f) := by
  unfold State.each
  induction l generalizing s with
  | nil => exact hs
  | cons a r ih => exact ih (f a s) (h a s hs)

@[simp] theorem State.when_true (s : State) (f : State → State) : s.when true f = f s := rfl
@[simp] theorem State.when_false (s : State) (f : State → State) : s.when false f = s := rfl

theorem State.when_keeps {β : Type} (P : State → β) (c : Bool) (f : State → State) (s : State) (h : P (f s) = P s) :
    P (s.when c f) = P s := by
  cases c <;> simp [h]

theorem State.when_inv (P : State → Prop) (c : Bool) (f : State → State) (s : State) (hs : P s) (h : P (f s)) :
    P (s.when c f) := by
  cases c <;> simp [h, hs]

@[simp] theorem State.getF_each (s : State) (l : List Nat) (f : Nat → State → State) (g : Fld) (j : Nat)
    (h : ∀ i t, (f i t).getF g j = t.getF g j) : (s.each l f).getF g j = s.getF g j :=
  State.each_keeps (fun t => t.getF g j) l f h s

@[simp] theorem State.getF_when (s : State) (c : Bool) (f : State → State) (g : Fld) (j : Nat)
    (h : ∀ t, (f t).getF g j = t.getF g j) : (s.when c f).getF g j = s.getF g j :=
  State.when_keeps (fun t => t.getF g j) c f s (h s)

@[simp] theorem State.getF_emit (s : State) (m : OutMsg) (f : Fld) (i : Nat) : (s.emit m).getF f i = s.getF f i := (rfl)
@[simp] theorem State.getF_raiseAt (s : State) (a b c d : Nat) (f : Fld) (i : Nat) :
    (s.raiseAt a b c d).getF f i = s.getF f i := (rfl)
@[simp] theorem State.getF_raise (s : State) (a b c : Nat) (f : Fld) (i : Nat) : (s.raise a b c).getF f i = s.getF f i := (rfl)
@[simp] theorem State.getF_raiseAccess (s : State) (a b c d e k : Nat) (f : Fld) (i : Nat) :
    (s.raiseAccess a b c d e k).getF f i = s.getF f i := (rfl)
@[simp] theorem State.getF_fresh (s : State) (f : Fld) (i : Nat) : s.fresh.2.getF f i = s.getF f i := (rfl)
theorem State.getF_event (s : State) (f g : Fld) (i j a b : Nat) :
    (s.event f i a b).getF g j = (s.setF f i 1).getF g j := rfl
@[simp] theorem State.getF_event_fld (s : State) {f g : Fld} (i j a b : Nat) (h : g ≠ f) :
    (s.event f i a b).getF g j = s.getF g j := State.getF_setF_fld s i j 1 h
@[simp] theorem State.getF_event_self (s : State) (f : Fld) (i a b : Nat) :
    (s.event f i a b).getF f i = 1 % 2 ^ f.width := State.getF_setF_self s f i 1

/-- A raise waits at the end of the queue. -/
@[simp] theorem State.raise_raiseQ (s : State) (a b c : Nat) :
    (s.raise a b c).raiseQ = s.raiseQ ++ [{ sub := a, code := b, index := c, master := 0xFE, addr := 0, typ := 0, time := s.time }] := rfl

/-- An event's raise carries the offset of its register and the bit's number as its code. -/
@[simp] theorem State.event_raiseQ (s : State) (f : Fld) (i a b : Nat) :
    (s.event f i a b).raiseQ = s.raiseQ ++ [{ sub := a, code := f.info.lo, index := b, master := 0xFE, addr := fldOffset f i, typ := 0,
                                              time := s.time }] := rfl
@[simp] theorem State.emit_out (s : State) (m : OutMsg) : (s.emit m).out = s.out ++ [m] := rfl
@[simp] theorem State.fresh_freeCtr (s : State) : s.fresh.2.freeCtr = s.freeCtr + 1 := rfl

/-! ### Parts that an update leaves -/

@[simp] theorem State.setF_time (s : State) (f : Fld) (i v : Nat) : (s.setF f i v).time = s.time := (rfl)
@[simp] theorem State.setF_cfg (s : State) (f : Fld) (i v : Nat) : (s.setF f i v).cfg = s.cfg := (rfl)
@[simp] theorem State.setF_raiseQ (s : State) (f : Fld) (i v : Nat) : (s.setF f i v).raiseQ = s.raiseQ := (rfl)
@[simp] theorem State.setF_out (s : State) (f : Fld) (i v : Nat) : (s.setF f i v).out = s.out := (rfl)
@[simp] theorem State.setF_freeCtr (s : State) (f : Fld) (i v : Nat) : (s.setF f i v).freeCtr = s.freeCtr := (rfl)
@[simp] theorem State.setF_flt (s : State) (f : Fld) (i v : Nat) : (s.setF f i v).flt = s.flt := (rfl)
@[simp] theorem State.setF_phs (s : State) (f : Fld) (i v : Nat) : (s.setF f i v).phs = s.phs := (rfl)
@[simp] theorem State.setF_dom (s : State) (f : Fld) (i v : Nat) : (s.setF f i v).dom = s.dom := (rfl)
@[simp] theorem State.setF_eng (s : State) (f : Fld) (i v : Nat) : (s.setF f i v).eng = s.eng := (rfl)
@[simp] theorem State.setF_start (s : State) (f : Fld) (i v : Nat) : (s.setF f i v).start = s.start := (rfl)
@[simp] theorem State.setF_est (s : State) (f : Fld) (i v : Nat) : (s.setF f i v).est = s.est := (rfl)
@[simp] theorem State.setF_bud (s : State) (f : Fld) (i v : Nat) : (s.setF f i v).bud = s.bud := (rfl)
@[simp] theorem State.setF_thm (s : State) (f : Fld) (i v : Nat) : (s.setF f i v).thm = s.thm := (rfl)
@[simp] theorem State.setF_hrd (s : State) (f : Fld) (i v : Nat) : (s.setF f i v).hrd = s.hrd := (rfl)
@[simp] theorem State.setF_tlm (s : State) (f : Fld) (i v : Nat) : (s.setF f i v).tlm = s.tlm := (rfl)
@[simp] theorem State.setF_cmd (s : State) (f : Fld) (i v : Nat) : (s.setF f i v).cmd = s.cmd := (rfl)
@[simp] theorem State.setF_boot (s : State) (f : Fld) (i v : Nat) : (s.setF f i v).boot = s.boot := (rfl)
@[simp] theorem State.setF_adc (s : State) (f : Fld) (i v : Nat) : (s.setF f i v).adc = s.adc := (rfl)
@[simp] theorem State.setF_fw (s : State) (f : Fld) (i v : Nat) : (s.setF f i v).fw = s.fw := (rfl)
@[simp] theorem State.setF_lt (s : State) (f : Fld) (i v : Nat) : (s.setF f i v).lt = s.lt := (rfl)
@[simp] theorem State.setF_pending (s : State) (f : Fld) (i v : Nat) : (s.setF f i v).pending = s.pending := (rfl)
@[simp] theorem State.setB_time (s : State) (f : Fld) (i : Nat) (b : Bool) : (s.setB f i b).time = s.time := (rfl)
@[simp] theorem State.setB_cfg (s : State) (f : Fld) (i : Nat) (b : Bool) : (s.setB f i b).cfg = s.cfg := (rfl)
@[simp] theorem State.setB_raiseQ (s : State) (f : Fld) (i : Nat) (b : Bool) : (s.setB f i b).raiseQ = s.raiseQ := (rfl)
@[simp] theorem State.setB_out (s : State) (f : Fld) (i : Nat) (b : Bool) : (s.setB f i b).out = s.out := (rfl)
@[simp] theorem State.setB_freeCtr (s : State) (f : Fld) (i : Nat) (b : Bool) : (s.setB f i b).freeCtr = s.freeCtr := (rfl)
@[simp] theorem State.setB_flt (s : State) (f : Fld) (i : Nat) (b : Bool) : (s.setB f i b).flt = s.flt := (rfl)
@[simp] theorem State.setB_phs (s : State) (f : Fld) (i : Nat) (b : Bool) : (s.setB f i b).phs = s.phs := (rfl)
@[simp] theorem State.setB_dom (s : State) (f : Fld) (i : Nat) (b : Bool) : (s.setB f i b).dom = s.dom := (rfl)
@[simp] theorem State.setB_eng (s : State) (f : Fld) (i : Nat) (b : Bool) : (s.setB f i b).eng = s.eng := (rfl)
@[simp] theorem State.setB_start (s : State) (f : Fld) (i : Nat) (b : Bool) : (s.setB f i b).start = s.start := (rfl)
@[simp] theorem State.setB_est (s : State) (f : Fld) (i : Nat) (b : Bool) : (s.setB f i b).est = s.est := (rfl)
@[simp] theorem State.setB_bud (s : State) (f : Fld) (i : Nat) (b : Bool) : (s.setB f i b).bud = s.bud := (rfl)
@[simp] theorem State.setB_thm (s : State) (f : Fld) (i : Nat) (b : Bool) : (s.setB f i b).thm = s.thm := (rfl)
@[simp] theorem State.setB_hrd (s : State) (f : Fld) (i : Nat) (b : Bool) : (s.setB f i b).hrd = s.hrd := (rfl)
@[simp] theorem State.setB_tlm (s : State) (f : Fld) (i : Nat) (b : Bool) : (s.setB f i b).tlm = s.tlm := (rfl)
@[simp] theorem State.setB_cmd (s : State) (f : Fld) (i : Nat) (b : Bool) : (s.setB f i b).cmd = s.cmd := (rfl)
@[simp] theorem State.setB_boot (s : State) (f : Fld) (i : Nat) (b : Bool) : (s.setB f i b).boot = s.boot := (rfl)
@[simp] theorem State.setB_adc (s : State) (f : Fld) (i : Nat) (b : Bool) : (s.setB f i b).adc = s.adc := (rfl)
@[simp] theorem State.setB_fw (s : State) (f : Fld) (i : Nat) (b : Bool) : (s.setB f i b).fw = s.fw := (rfl)
@[simp] theorem State.setB_lt (s : State) (f : Fld) (i : Nat) (b : Bool) : (s.setB f i b).lt = s.lt := (rfl)
@[simp] theorem State.setB_pending (s : State) (f : Fld) (i : Nat) (b : Bool) : (s.setB f i b).pending = s.pending := (rfl)
@[simp] theorem State.bumpF_time (s : State) (f : Fld) (i : Nat) : (s.bumpF f i).time = s.time := (rfl)
@[simp] theorem State.bumpF_cfg (s : State) (f : Fld) (i : Nat) : (s.bumpF f i).cfg = s.cfg := (rfl)
@[simp] theorem State.bumpF_raiseQ (s : State) (f : Fld) (i : Nat) : (s.bumpF f i).raiseQ = s.raiseQ := (rfl)
@[simp] theorem State.bumpF_out (s : State) (f : Fld) (i : Nat) : (s.bumpF f i).out = s.out := (rfl)
@[simp] theorem State.bumpF_freeCtr (s : State) (f : Fld) (i : Nat) : (s.bumpF f i).freeCtr = s.freeCtr := (rfl)
@[simp] theorem State.bumpF_flt (s : State) (f : Fld) (i : Nat) : (s.bumpF f i).flt = s.flt := (rfl)
@[simp] theorem State.bumpF_phs (s : State) (f : Fld) (i : Nat) : (s.bumpF f i).phs = s.phs := (rfl)
@[simp] theorem State.bumpF_dom (s : State) (f : Fld) (i : Nat) : (s.bumpF f i).dom = s.dom := (rfl)
@[simp] theorem State.bumpF_eng (s : State) (f : Fld) (i : Nat) : (s.bumpF f i).eng = s.eng := (rfl)
@[simp] theorem State.bumpF_start (s : State) (f : Fld) (i : Nat) : (s.bumpF f i).start = s.start := (rfl)
@[simp] theorem State.bumpF_est (s : State) (f : Fld) (i : Nat) : (s.bumpF f i).est = s.est := (rfl)
@[simp] theorem State.bumpF_bud (s : State) (f : Fld) (i : Nat) : (s.bumpF f i).bud = s.bud := (rfl)
@[simp] theorem State.bumpF_thm (s : State) (f : Fld) (i : Nat) : (s.bumpF f i).thm = s.thm := (rfl)
@[simp] theorem State.bumpF_hrd (s : State) (f : Fld) (i : Nat) : (s.bumpF f i).hrd = s.hrd := (rfl)
@[simp] theorem State.bumpF_tlm (s : State) (f : Fld) (i : Nat) : (s.bumpF f i).tlm = s.tlm := (rfl)
@[simp] theorem State.bumpF_cmd (s : State) (f : Fld) (i : Nat) : (s.bumpF f i).cmd = s.cmd := (rfl)
@[simp] theorem State.bumpF_boot (s : State) (f : Fld) (i : Nat) : (s.bumpF f i).boot = s.boot := (rfl)
@[simp] theorem State.bumpF_adc (s : State) (f : Fld) (i : Nat) : (s.bumpF f i).adc = s.adc := (rfl)
@[simp] theorem State.bumpF_fw (s : State) (f : Fld) (i : Nat) : (s.bumpF f i).fw = s.fw := (rfl)
@[simp] theorem State.bumpF_lt (s : State) (f : Fld) (i : Nat) : (s.bumpF f i).lt = s.lt := (rfl)
@[simp] theorem State.bumpF_pending (s : State) (f : Fld) (i : Nat) : (s.bumpF f i).pending = s.pending := (rfl)
@[simp] theorem State.addSatF_time (s : State) (f : Fld) (i n : Nat) : (s.addSatF f i n).time = s.time := (rfl)
@[simp] theorem State.addSatF_cfg (s : State) (f : Fld) (i n : Nat) : (s.addSatF f i n).cfg = s.cfg := (rfl)
@[simp] theorem State.addSatF_raiseQ (s : State) (f : Fld) (i n : Nat) : (s.addSatF f i n).raiseQ = s.raiseQ := (rfl)
@[simp] theorem State.addSatF_out (s : State) (f : Fld) (i n : Nat) : (s.addSatF f i n).out = s.out := (rfl)
@[simp] theorem State.addSatF_freeCtr (s : State) (f : Fld) (i n : Nat) : (s.addSatF f i n).freeCtr = s.freeCtr := (rfl)
@[simp] theorem State.addSatF_flt (s : State) (f : Fld) (i n : Nat) : (s.addSatF f i n).flt = s.flt := (rfl)
@[simp] theorem State.addSatF_phs (s : State) (f : Fld) (i n : Nat) : (s.addSatF f i n).phs = s.phs := (rfl)
@[simp] theorem State.addSatF_dom (s : State) (f : Fld) (i n : Nat) : (s.addSatF f i n).dom = s.dom := (rfl)
@[simp] theorem State.addSatF_eng (s : State) (f : Fld) (i n : Nat) : (s.addSatF f i n).eng = s.eng := (rfl)
@[simp] theorem State.addSatF_start (s : State) (f : Fld) (i n : Nat) : (s.addSatF f i n).start = s.start := (rfl)
@[simp] theorem State.addSatF_est (s : State) (f : Fld) (i n : Nat) : (s.addSatF f i n).est = s.est := (rfl)
@[simp] theorem State.addSatF_bud (s : State) (f : Fld) (i n : Nat) : (s.addSatF f i n).bud = s.bud := (rfl)
@[simp] theorem State.addSatF_thm (s : State) (f : Fld) (i n : Nat) : (s.addSatF f i n).thm = s.thm := (rfl)
@[simp] theorem State.addSatF_hrd (s : State) (f : Fld) (i n : Nat) : (s.addSatF f i n).hrd = s.hrd := (rfl)
@[simp] theorem State.addSatF_tlm (s : State) (f : Fld) (i n : Nat) : (s.addSatF f i n).tlm = s.tlm := (rfl)
@[simp] theorem State.addSatF_cmd (s : State) (f : Fld) (i n : Nat) : (s.addSatF f i n).cmd = s.cmd := (rfl)
@[simp] theorem State.addSatF_boot (s : State) (f : Fld) (i n : Nat) : (s.addSatF f i n).boot = s.boot := (rfl)
@[simp] theorem State.addSatF_adc (s : State) (f : Fld) (i n : Nat) : (s.addSatF f i n).adc = s.adc := (rfl)
@[simp] theorem State.addSatF_fw (s : State) (f : Fld) (i n : Nat) : (s.addSatF f i n).fw = s.fw := (rfl)
@[simp] theorem State.addSatF_lt (s : State) (f : Fld) (i n : Nat) : (s.addSatF f i n).lt = s.lt := (rfl)
@[simp] theorem State.addSatF_pending (s : State) (f : Fld) (i n : Nat) : (s.addSatF f i n).pending = s.pending := (rfl)
@[simp] theorem State.incF_time (s : State) (f : Fld) (i : Nat) : (s.incF f i).time = s.time := (rfl)
@[simp] theorem State.incF_cfg (s : State) (f : Fld) (i : Nat) : (s.incF f i).cfg = s.cfg := (rfl)
@[simp] theorem State.incF_raiseQ (s : State) (f : Fld) (i : Nat) : (s.incF f i).raiseQ = s.raiseQ := (rfl)
@[simp] theorem State.incF_out (s : State) (f : Fld) (i : Nat) : (s.incF f i).out = s.out := (rfl)
@[simp] theorem State.incF_freeCtr (s : State) (f : Fld) (i : Nat) : (s.incF f i).freeCtr = s.freeCtr := (rfl)
@[simp] theorem State.incF_flt (s : State) (f : Fld) (i : Nat) : (s.incF f i).flt = s.flt := (rfl)
@[simp] theorem State.incF_phs (s : State) (f : Fld) (i : Nat) : (s.incF f i).phs = s.phs := (rfl)
@[simp] theorem State.incF_dom (s : State) (f : Fld) (i : Nat) : (s.incF f i).dom = s.dom := (rfl)
@[simp] theorem State.incF_eng (s : State) (f : Fld) (i : Nat) : (s.incF f i).eng = s.eng := (rfl)
@[simp] theorem State.incF_start (s : State) (f : Fld) (i : Nat) : (s.incF f i).start = s.start := (rfl)
@[simp] theorem State.incF_est (s : State) (f : Fld) (i : Nat) : (s.incF f i).est = s.est := (rfl)
@[simp] theorem State.incF_bud (s : State) (f : Fld) (i : Nat) : (s.incF f i).bud = s.bud := (rfl)
@[simp] theorem State.incF_thm (s : State) (f : Fld) (i : Nat) : (s.incF f i).thm = s.thm := (rfl)
@[simp] theorem State.incF_hrd (s : State) (f : Fld) (i : Nat) : (s.incF f i).hrd = s.hrd := (rfl)
@[simp] theorem State.incF_tlm (s : State) (f : Fld) (i : Nat) : (s.incF f i).tlm = s.tlm := (rfl)
@[simp] theorem State.incF_cmd (s : State) (f : Fld) (i : Nat) : (s.incF f i).cmd = s.cmd := (rfl)
@[simp] theorem State.incF_boot (s : State) (f : Fld) (i : Nat) : (s.incF f i).boot = s.boot := (rfl)
@[simp] theorem State.incF_adc (s : State) (f : Fld) (i : Nat) : (s.incF f i).adc = s.adc := (rfl)
@[simp] theorem State.incF_fw (s : State) (f : Fld) (i : Nat) : (s.incF f i).fw = s.fw := (rfl)
@[simp] theorem State.incF_lt (s : State) (f : Fld) (i : Nat) : (s.incF f i).lt = s.lt := (rfl)
@[simp] theorem State.incF_pending (s : State) (f : Fld) (i : Nat) : (s.incF f i).pending = s.pending := (rfl)
@[simp] theorem State.setS_time (s : State) (f : Fld) (i : Nat) (x : Int) : (s.setS f i x).time = s.time := (rfl)
@[simp] theorem State.setS_cfg (s : State) (f : Fld) (i : Nat) (x : Int) : (s.setS f i x).cfg = s.cfg := (rfl)
@[simp] theorem State.setS_raiseQ (s : State) (f : Fld) (i : Nat) (x : Int) : (s.setS f i x).raiseQ = s.raiseQ := (rfl)
@[simp] theorem State.setS_out (s : State) (f : Fld) (i : Nat) (x : Int) : (s.setS f i x).out = s.out := (rfl)
@[simp] theorem State.setS_freeCtr (s : State) (f : Fld) (i : Nat) (x : Int) : (s.setS f i x).freeCtr = s.freeCtr := (rfl)
@[simp] theorem State.setS_flt (s : State) (f : Fld) (i : Nat) (x : Int) : (s.setS f i x).flt = s.flt := (rfl)
@[simp] theorem State.setS_phs (s : State) (f : Fld) (i : Nat) (x : Int) : (s.setS f i x).phs = s.phs := (rfl)
@[simp] theorem State.setS_dom (s : State) (f : Fld) (i : Nat) (x : Int) : (s.setS f i x).dom = s.dom := (rfl)
@[simp] theorem State.setS_eng (s : State) (f : Fld) (i : Nat) (x : Int) : (s.setS f i x).eng = s.eng := (rfl)
@[simp] theorem State.setS_start (s : State) (f : Fld) (i : Nat) (x : Int) : (s.setS f i x).start = s.start := (rfl)
@[simp] theorem State.setS_est (s : State) (f : Fld) (i : Nat) (x : Int) : (s.setS f i x).est = s.est := (rfl)
@[simp] theorem State.setS_bud (s : State) (f : Fld) (i : Nat) (x : Int) : (s.setS f i x).bud = s.bud := (rfl)
@[simp] theorem State.setS_thm (s : State) (f : Fld) (i : Nat) (x : Int) : (s.setS f i x).thm = s.thm := (rfl)
@[simp] theorem State.setS_hrd (s : State) (f : Fld) (i : Nat) (x : Int) : (s.setS f i x).hrd = s.hrd := (rfl)
@[simp] theorem State.setS_tlm (s : State) (f : Fld) (i : Nat) (x : Int) : (s.setS f i x).tlm = s.tlm := (rfl)
@[simp] theorem State.setS_cmd (s : State) (f : Fld) (i : Nat) (x : Int) : (s.setS f i x).cmd = s.cmd := (rfl)
@[simp] theorem State.setS_boot (s : State) (f : Fld) (i : Nat) (x : Int) : (s.setS f i x).boot = s.boot := (rfl)
@[simp] theorem State.setS_adc (s : State) (f : Fld) (i : Nat) (x : Int) : (s.setS f i x).adc = s.adc := (rfl)
@[simp] theorem State.setS_fw (s : State) (f : Fld) (i : Nat) (x : Int) : (s.setS f i x).fw = s.fw := (rfl)
@[simp] theorem State.setS_lt (s : State) (f : Fld) (i : Nat) (x : Int) : (s.setS f i x).lt = s.lt := (rfl)
@[simp] theorem State.setS_pending (s : State) (f : Fld) (i : Nat) (x : Int) : (s.setS f i x).pending = s.pending := (rfl)
@[simp] theorem State.emit_time (s : State) (m : OutMsg) : (s.emit m).time = s.time := (rfl)
@[simp] theorem State.emit_cfg (s : State) (m : OutMsg) : (s.emit m).cfg = s.cfg := (rfl)
@[simp] theorem State.emit_raiseQ (s : State) (m : OutMsg) : (s.emit m).raiseQ = s.raiseQ := (rfl)
@[simp] theorem State.emit_freeCtr (s : State) (m : OutMsg) : (s.emit m).freeCtr = s.freeCtr := (rfl)
@[simp] theorem State.emit_flt (s : State) (m : OutMsg) : (s.emit m).flt = s.flt := (rfl)
@[simp] theorem State.emit_phs (s : State) (m : OutMsg) : (s.emit m).phs = s.phs := (rfl)
@[simp] theorem State.emit_dom (s : State) (m : OutMsg) : (s.emit m).dom = s.dom := (rfl)
@[simp] theorem State.emit_eng (s : State) (m : OutMsg) : (s.emit m).eng = s.eng := (rfl)
@[simp] theorem State.emit_start (s : State) (m : OutMsg) : (s.emit m).start = s.start := (rfl)
@[simp] theorem State.emit_est (s : State) (m : OutMsg) : (s.emit m).est = s.est := (rfl)
@[simp] theorem State.emit_bud (s : State) (m : OutMsg) : (s.emit m).bud = s.bud := (rfl)
@[simp] theorem State.emit_thm (s : State) (m : OutMsg) : (s.emit m).thm = s.thm := (rfl)
@[simp] theorem State.emit_hrd (s : State) (m : OutMsg) : (s.emit m).hrd = s.hrd := (rfl)
@[simp] theorem State.emit_tlm (s : State) (m : OutMsg) : (s.emit m).tlm = s.tlm := (rfl)
@[simp] theorem State.emit_cmd (s : State) (m : OutMsg) : (s.emit m).cmd = s.cmd := (rfl)
@[simp] theorem State.emit_boot (s : State) (m : OutMsg) : (s.emit m).boot = s.boot := (rfl)
@[simp] theorem State.emit_adc (s : State) (m : OutMsg) : (s.emit m).adc = s.adc := (rfl)
@[simp] theorem State.emit_fw (s : State) (m : OutMsg) : (s.emit m).fw = s.fw := (rfl)
@[simp] theorem State.emit_lt (s : State) (m : OutMsg) : (s.emit m).lt = s.lt := (rfl)
@[simp] theorem State.emit_pending (s : State) (m : OutMsg) : (s.emit m).pending = s.pending := (rfl)
@[simp] theorem State.raise_time (s : State) (a b c : Nat) : (s.raise a b c).time = s.time := (rfl)
@[simp] theorem State.raise_cfg (s : State) (a b c : Nat) : (s.raise a b c).cfg = s.cfg := (rfl)
@[simp] theorem State.raise_out (s : State) (a b c : Nat) : (s.raise a b c).out = s.out := (rfl)
@[simp] theorem State.raise_freeCtr (s : State) (a b c : Nat) : (s.raise a b c).freeCtr = s.freeCtr := (rfl)
@[simp] theorem State.raise_flt (s : State) (a b c : Nat) : (s.raise a b c).flt = s.flt := (rfl)
@[simp] theorem State.raise_phs (s : State) (a b c : Nat) : (s.raise a b c).phs = s.phs := (rfl)
@[simp] theorem State.raise_dom (s : State) (a b c : Nat) : (s.raise a b c).dom = s.dom := (rfl)
@[simp] theorem State.raise_eng (s : State) (a b c : Nat) : (s.raise a b c).eng = s.eng := (rfl)
@[simp] theorem State.raise_start (s : State) (a b c : Nat) : (s.raise a b c).start = s.start := (rfl)
@[simp] theorem State.raise_est (s : State) (a b c : Nat) : (s.raise a b c).est = s.est := (rfl)
@[simp] theorem State.raise_bud (s : State) (a b c : Nat) : (s.raise a b c).bud = s.bud := (rfl)
@[simp] theorem State.raise_thm (s : State) (a b c : Nat) : (s.raise a b c).thm = s.thm := (rfl)
@[simp] theorem State.raise_hrd (s : State) (a b c : Nat) : (s.raise a b c).hrd = s.hrd := (rfl)
@[simp] theorem State.raise_tlm (s : State) (a b c : Nat) : (s.raise a b c).tlm = s.tlm := (rfl)
@[simp] theorem State.raise_cmd (s : State) (a b c : Nat) : (s.raise a b c).cmd = s.cmd := (rfl)
@[simp] theorem State.raise_boot (s : State) (a b c : Nat) : (s.raise a b c).boot = s.boot := (rfl)
@[simp] theorem State.raise_adc (s : State) (a b c : Nat) : (s.raise a b c).adc = s.adc := (rfl)
@[simp] theorem State.raise_fw (s : State) (a b c : Nat) : (s.raise a b c).fw = s.fw := (rfl)
@[simp] theorem State.raise_lt (s : State) (a b c : Nat) : (s.raise a b c).lt = s.lt := (rfl)
@[simp] theorem State.raise_pending (s : State) (a b c : Nat) : (s.raise a b c).pending = s.pending := (rfl)
@[simp] theorem State.raiseAt_time (s : State) (a b c d : Nat) : (s.raiseAt a b c d).time = s.time := (rfl)
@[simp] theorem State.raiseAt_cfg (s : State) (a b c d : Nat) : (s.raiseAt a b c d).cfg = s.cfg := (rfl)
@[simp] theorem State.raiseAt_out (s : State) (a b c d : Nat) : (s.raiseAt a b c d).out = s.out := (rfl)
@[simp] theorem State.raiseAt_freeCtr (s : State) (a b c d : Nat) : (s.raiseAt a b c d).freeCtr = s.freeCtr := (rfl)
@[simp] theorem State.raiseAt_flt (s : State) (a b c d : Nat) : (s.raiseAt a b c d).flt = s.flt := (rfl)
@[simp] theorem State.raiseAt_phs (s : State) (a b c d : Nat) : (s.raiseAt a b c d).phs = s.phs := (rfl)
@[simp] theorem State.raiseAt_dom (s : State) (a b c d : Nat) : (s.raiseAt a b c d).dom = s.dom := (rfl)
@[simp] theorem State.raiseAt_eng (s : State) (a b c d : Nat) : (s.raiseAt a b c d).eng = s.eng := (rfl)
@[simp] theorem State.raiseAt_start (s : State) (a b c d : Nat) : (s.raiseAt a b c d).start = s.start := (rfl)
@[simp] theorem State.raiseAt_est (s : State) (a b c d : Nat) : (s.raiseAt a b c d).est = s.est := (rfl)
@[simp] theorem State.raiseAt_bud (s : State) (a b c d : Nat) : (s.raiseAt a b c d).bud = s.bud := (rfl)
@[simp] theorem State.raiseAt_thm (s : State) (a b c d : Nat) : (s.raiseAt a b c d).thm = s.thm := (rfl)
@[simp] theorem State.raiseAt_hrd (s : State) (a b c d : Nat) : (s.raiseAt a b c d).hrd = s.hrd := (rfl)
@[simp] theorem State.raiseAt_tlm (s : State) (a b c d : Nat) : (s.raiseAt a b c d).tlm = s.tlm := (rfl)
@[simp] theorem State.raiseAt_cmd (s : State) (a b c d : Nat) : (s.raiseAt a b c d).cmd = s.cmd := (rfl)
@[simp] theorem State.raiseAt_boot (s : State) (a b c d : Nat) : (s.raiseAt a b c d).boot = s.boot := (rfl)
@[simp] theorem State.raiseAt_adc (s : State) (a b c d : Nat) : (s.raiseAt a b c d).adc = s.adc := (rfl)
@[simp] theorem State.raiseAt_fw (s : State) (a b c d : Nat) : (s.raiseAt a b c d).fw = s.fw := (rfl)
@[simp] theorem State.raiseAt_lt (s : State) (a b c d : Nat) : (s.raiseAt a b c d).lt = s.lt := (rfl)
@[simp] theorem State.raiseAt_pending (s : State) (a b c d : Nat) : (s.raiseAt a b c d).pending = s.pending := (rfl)
@[simp] theorem State.raiseAccess_time (s : State) (a b c d e k : Nat) : (s.raiseAccess a b c d e k).time = s.time := (rfl)
@[simp] theorem State.raiseAccess_cfg (s : State) (a b c d e k : Nat) : (s.raiseAccess a b c d e k).cfg = s.cfg := (rfl)
@[simp] theorem State.raiseAccess_out (s : State) (a b c d e k : Nat) : (s.raiseAccess a b c d e k).out = s.out := (rfl)
@[simp] theorem State.raiseAccess_freeCtr (s : State) (a b c d e k : Nat) : (s.raiseAccess a b c d e k).freeCtr = s.freeCtr := (rfl)
@[simp] theorem State.raiseAccess_flt (s : State) (a b c d e k : Nat) : (s.raiseAccess a b c d e k).flt = s.flt := (rfl)
@[simp] theorem State.raiseAccess_phs (s : State) (a b c d e k : Nat) : (s.raiseAccess a b c d e k).phs = s.phs := (rfl)
@[simp] theorem State.raiseAccess_dom (s : State) (a b c d e k : Nat) : (s.raiseAccess a b c d e k).dom = s.dom := (rfl)
@[simp] theorem State.raiseAccess_eng (s : State) (a b c d e k : Nat) : (s.raiseAccess a b c d e k).eng = s.eng := (rfl)
@[simp] theorem State.raiseAccess_start (s : State) (a b c d e k : Nat) : (s.raiseAccess a b c d e k).start = s.start := (rfl)
@[simp] theorem State.raiseAccess_est (s : State) (a b c d e k : Nat) : (s.raiseAccess a b c d e k).est = s.est := (rfl)
@[simp] theorem State.raiseAccess_bud (s : State) (a b c d e k : Nat) : (s.raiseAccess a b c d e k).bud = s.bud := (rfl)
@[simp] theorem State.raiseAccess_thm (s : State) (a b c d e k : Nat) : (s.raiseAccess a b c d e k).thm = s.thm := (rfl)
@[simp] theorem State.raiseAccess_hrd (s : State) (a b c d e k : Nat) : (s.raiseAccess a b c d e k).hrd = s.hrd := (rfl)
@[simp] theorem State.raiseAccess_tlm (s : State) (a b c d e k : Nat) : (s.raiseAccess a b c d e k).tlm = s.tlm := (rfl)
@[simp] theorem State.raiseAccess_cmd (s : State) (a b c d e k : Nat) : (s.raiseAccess a b c d e k).cmd = s.cmd := (rfl)
@[simp] theorem State.raiseAccess_boot (s : State) (a b c d e k : Nat) : (s.raiseAccess a b c d e k).boot = s.boot := (rfl)
@[simp] theorem State.raiseAccess_adc (s : State) (a b c d e k : Nat) : (s.raiseAccess a b c d e k).adc = s.adc := (rfl)
@[simp] theorem State.raiseAccess_fw (s : State) (a b c d e k : Nat) : (s.raiseAccess a b c d e k).fw = s.fw := (rfl)
@[simp] theorem State.raiseAccess_lt (s : State) (a b c d e k : Nat) : (s.raiseAccess a b c d e k).lt = s.lt := (rfl)
@[simp] theorem State.raiseAccess_pending (s : State) (a b c d e k : Nat) : (s.raiseAccess a b c d e k).pending = s.pending := (rfl)
@[simp] theorem State.event_time (s : State) (f : Fld) (i a b : Nat) : (s.event f i a b).time = s.time := (rfl)
@[simp] theorem State.event_cfg (s : State) (f : Fld) (i a b : Nat) : (s.event f i a b).cfg = s.cfg := (rfl)
@[simp] theorem State.event_out (s : State) (f : Fld) (i a b : Nat) : (s.event f i a b).out = s.out := (rfl)
@[simp] theorem State.event_freeCtr (s : State) (f : Fld) (i a b : Nat) : (s.event f i a b).freeCtr = s.freeCtr := (rfl)
@[simp] theorem State.event_flt (s : State) (f : Fld) (i a b : Nat) : (s.event f i a b).flt = s.flt := (rfl)
@[simp] theorem State.event_phs (s : State) (f : Fld) (i a b : Nat) : (s.event f i a b).phs = s.phs := (rfl)
@[simp] theorem State.event_dom (s : State) (f : Fld) (i a b : Nat) : (s.event f i a b).dom = s.dom := (rfl)
@[simp] theorem State.event_eng (s : State) (f : Fld) (i a b : Nat) : (s.event f i a b).eng = s.eng := (rfl)
@[simp] theorem State.event_start (s : State) (f : Fld) (i a b : Nat) : (s.event f i a b).start = s.start := (rfl)
@[simp] theorem State.event_est (s : State) (f : Fld) (i a b : Nat) : (s.event f i a b).est = s.est := (rfl)
@[simp] theorem State.event_bud (s : State) (f : Fld) (i a b : Nat) : (s.event f i a b).bud = s.bud := (rfl)
@[simp] theorem State.event_thm (s : State) (f : Fld) (i a b : Nat) : (s.event f i a b).thm = s.thm := (rfl)
@[simp] theorem State.event_hrd (s : State) (f : Fld) (i a b : Nat) : (s.event f i a b).hrd = s.hrd := (rfl)
@[simp] theorem State.event_tlm (s : State) (f : Fld) (i a b : Nat) : (s.event f i a b).tlm = s.tlm := (rfl)
@[simp] theorem State.event_cmd (s : State) (f : Fld) (i a b : Nat) : (s.event f i a b).cmd = s.cmd := (rfl)
@[simp] theorem State.event_boot (s : State) (f : Fld) (i a b : Nat) : (s.event f i a b).boot = s.boot := (rfl)
@[simp] theorem State.event_adc (s : State) (f : Fld) (i a b : Nat) : (s.event f i a b).adc = s.adc := (rfl)
@[simp] theorem State.event_fw (s : State) (f : Fld) (i a b : Nat) : (s.event f i a b).fw = s.fw := (rfl)
@[simp] theorem State.event_lt (s : State) (f : Fld) (i a b : Nat) : (s.event f i a b).lt = s.lt := (rfl)
@[simp] theorem State.event_pending (s : State) (f : Fld) (i a b : Nat) : (s.event f i a b).pending = s.pending := (rfl)
@[simp] theorem State.fresh_time (s : State) : s.fresh.2.time = s.time := (rfl)
@[simp] theorem State.fresh_cfg (s : State) : s.fresh.2.cfg = s.cfg := (rfl)
@[simp] theorem State.fresh_raiseQ (s : State) : s.fresh.2.raiseQ = s.raiseQ := (rfl)
@[simp] theorem State.fresh_out (s : State) : s.fresh.2.out = s.out := (rfl)
@[simp] theorem State.fresh_flt (s : State) : s.fresh.2.flt = s.flt := (rfl)
@[simp] theorem State.fresh_phs (s : State) : s.fresh.2.phs = s.phs := (rfl)
@[simp] theorem State.fresh_dom (s : State) : s.fresh.2.dom = s.dom := (rfl)
@[simp] theorem State.fresh_eng (s : State) : s.fresh.2.eng = s.eng := (rfl)
@[simp] theorem State.fresh_start (s : State) : s.fresh.2.start = s.start := (rfl)
@[simp] theorem State.fresh_est (s : State) : s.fresh.2.est = s.est := (rfl)
@[simp] theorem State.fresh_bud (s : State) : s.fresh.2.bud = s.bud := (rfl)
@[simp] theorem State.fresh_thm (s : State) : s.fresh.2.thm = s.thm := (rfl)
@[simp] theorem State.fresh_hrd (s : State) : s.fresh.2.hrd = s.hrd := (rfl)
@[simp] theorem State.fresh_tlm (s : State) : s.fresh.2.tlm = s.tlm := (rfl)
@[simp] theorem State.fresh_cmd (s : State) : s.fresh.2.cmd = s.cmd := (rfl)
@[simp] theorem State.fresh_boot (s : State) : s.fresh.2.boot = s.boot := (rfl)
@[simp] theorem State.fresh_adc (s : State) : s.fresh.2.adc = s.adc := (rfl)
@[simp] theorem State.fresh_fw (s : State) : s.fresh.2.fw = s.fw := (rfl)
@[simp] theorem State.fresh_lt (s : State) : s.fresh.2.lt = s.lt := (rfl)
@[simp] theorem State.fresh_pending (s : State) : s.fresh.2.pending = s.pending := (rfl)
@[simp] theorem State.each_time (s : State) (l : List Nat) (f : Nat → State → State) (h : ∀ i t, (f i t).time = t.time) :
    (s.each l f).time = s.time := State.each_keeps State.time l f h s
@[simp] theorem State.when_time (s : State) (c : Bool) (f : State → State) (h : ∀ t, (f t).time = t.time) :
    (s.when c f).time = s.time := State.when_keeps State.time c f s (h s)
@[simp] theorem State.each_cfg (s : State) (l : List Nat) (f : Nat → State → State) (h : ∀ i t, (f i t).cfg = t.cfg) :
    (s.each l f).cfg = s.cfg := State.each_keeps State.cfg l f h s
@[simp] theorem State.when_cfg (s : State) (c : Bool) (f : State → State) (h : ∀ t, (f t).cfg = t.cfg) :
    (s.when c f).cfg = s.cfg := State.when_keeps State.cfg c f s (h s)
@[simp] theorem State.each_raiseQ (s : State) (l : List Nat) (f : Nat → State → State) (h : ∀ i t, (f i t).raiseQ = t.raiseQ) :
    (s.each l f).raiseQ = s.raiseQ := State.each_keeps State.raiseQ l f h s
@[simp] theorem State.when_raiseQ (s : State) (c : Bool) (f : State → State) (h : ∀ t, (f t).raiseQ = t.raiseQ) :
    (s.when c f).raiseQ = s.raiseQ := State.when_keeps State.raiseQ c f s (h s)
@[simp] theorem State.each_out (s : State) (l : List Nat) (f : Nat → State → State) (h : ∀ i t, (f i t).out = t.out) :
    (s.each l f).out = s.out := State.each_keeps State.out l f h s
@[simp] theorem State.when_out (s : State) (c : Bool) (f : State → State) (h : ∀ t, (f t).out = t.out) :
    (s.when c f).out = s.out := State.when_keeps State.out c f s (h s)
@[simp] theorem State.each_freeCtr (s : State) (l : List Nat) (f : Nat → State → State) (h : ∀ i t, (f i t).freeCtr = t.freeCtr) :
    (s.each l f).freeCtr = s.freeCtr := State.each_keeps State.freeCtr l f h s
@[simp] theorem State.when_freeCtr (s : State) (c : Bool) (f : State → State) (h : ∀ t, (f t).freeCtr = t.freeCtr) :
    (s.when c f).freeCtr = s.freeCtr := State.when_keeps State.freeCtr c f s (h s)
@[simp] theorem State.each_flt (s : State) (l : List Nat) (f : Nat → State → State) (h : ∀ i t, (f i t).flt = t.flt) :
    (s.each l f).flt = s.flt := State.each_keeps State.flt l f h s
@[simp] theorem State.when_flt (s : State) (c : Bool) (f : State → State) (h : ∀ t, (f t).flt = t.flt) :
    (s.when c f).flt = s.flt := State.when_keeps State.flt c f s (h s)
@[simp] theorem State.each_phs (s : State) (l : List Nat) (f : Nat → State → State) (h : ∀ i t, (f i t).phs = t.phs) :
    (s.each l f).phs = s.phs := State.each_keeps State.phs l f h s
@[simp] theorem State.when_phs (s : State) (c : Bool) (f : State → State) (h : ∀ t, (f t).phs = t.phs) :
    (s.when c f).phs = s.phs := State.when_keeps State.phs c f s (h s)
@[simp] theorem State.each_dom (s : State) (l : List Nat) (f : Nat → State → State) (h : ∀ i t, (f i t).dom = t.dom) :
    (s.each l f).dom = s.dom := State.each_keeps State.dom l f h s
@[simp] theorem State.when_dom (s : State) (c : Bool) (f : State → State) (h : ∀ t, (f t).dom = t.dom) :
    (s.when c f).dom = s.dom := State.when_keeps State.dom c f s (h s)
@[simp] theorem State.each_eng (s : State) (l : List Nat) (f : Nat → State → State) (h : ∀ i t, (f i t).eng = t.eng) :
    (s.each l f).eng = s.eng := State.each_keeps State.eng l f h s
@[simp] theorem State.when_eng (s : State) (c : Bool) (f : State → State) (h : ∀ t, (f t).eng = t.eng) :
    (s.when c f).eng = s.eng := State.when_keeps State.eng c f s (h s)
@[simp] theorem State.each_start (s : State) (l : List Nat) (f : Nat → State → State) (h : ∀ i t, (f i t).start = t.start) :
    (s.each l f).start = s.start := State.each_keeps State.start l f h s
@[simp] theorem State.when_start (s : State) (c : Bool) (f : State → State) (h : ∀ t, (f t).start = t.start) :
    (s.when c f).start = s.start := State.when_keeps State.start c f s (h s)
@[simp] theorem State.each_est (s : State) (l : List Nat) (f : Nat → State → State) (h : ∀ i t, (f i t).est = t.est) :
    (s.each l f).est = s.est := State.each_keeps State.est l f h s
@[simp] theorem State.when_est (s : State) (c : Bool) (f : State → State) (h : ∀ t, (f t).est = t.est) :
    (s.when c f).est = s.est := State.when_keeps State.est c f s (h s)
@[simp] theorem State.each_bud (s : State) (l : List Nat) (f : Nat → State → State) (h : ∀ i t, (f i t).bud = t.bud) :
    (s.each l f).bud = s.bud := State.each_keeps State.bud l f h s
@[simp] theorem State.when_bud (s : State) (c : Bool) (f : State → State) (h : ∀ t, (f t).bud = t.bud) :
    (s.when c f).bud = s.bud := State.when_keeps State.bud c f s (h s)
@[simp] theorem State.each_thm (s : State) (l : List Nat) (f : Nat → State → State) (h : ∀ i t, (f i t).thm = t.thm) :
    (s.each l f).thm = s.thm := State.each_keeps State.thm l f h s
@[simp] theorem State.when_thm (s : State) (c : Bool) (f : State → State) (h : ∀ t, (f t).thm = t.thm) :
    (s.when c f).thm = s.thm := State.when_keeps State.thm c f s (h s)
@[simp] theorem State.each_hrd (s : State) (l : List Nat) (f : Nat → State → State) (h : ∀ i t, (f i t).hrd = t.hrd) :
    (s.each l f).hrd = s.hrd := State.each_keeps State.hrd l f h s
@[simp] theorem State.when_hrd (s : State) (c : Bool) (f : State → State) (h : ∀ t, (f t).hrd = t.hrd) :
    (s.when c f).hrd = s.hrd := State.when_keeps State.hrd c f s (h s)
@[simp] theorem State.each_tlm (s : State) (l : List Nat) (f : Nat → State → State) (h : ∀ i t, (f i t).tlm = t.tlm) :
    (s.each l f).tlm = s.tlm := State.each_keeps State.tlm l f h s
@[simp] theorem State.when_tlm (s : State) (c : Bool) (f : State → State) (h : ∀ t, (f t).tlm = t.tlm) :
    (s.when c f).tlm = s.tlm := State.when_keeps State.tlm c f s (h s)
@[simp] theorem State.each_cmd (s : State) (l : List Nat) (f : Nat → State → State) (h : ∀ i t, (f i t).cmd = t.cmd) :
    (s.each l f).cmd = s.cmd := State.each_keeps State.cmd l f h s
@[simp] theorem State.when_cmd (s : State) (c : Bool) (f : State → State) (h : ∀ t, (f t).cmd = t.cmd) :
    (s.when c f).cmd = s.cmd := State.when_keeps State.cmd c f s (h s)
@[simp] theorem State.each_boot (s : State) (l : List Nat) (f : Nat → State → State) (h : ∀ i t, (f i t).boot = t.boot) :
    (s.each l f).boot = s.boot := State.each_keeps State.boot l f h s
@[simp] theorem State.when_boot (s : State) (c : Bool) (f : State → State) (h : ∀ t, (f t).boot = t.boot) :
    (s.when c f).boot = s.boot := State.when_keeps State.boot c f s (h s)
@[simp] theorem State.each_adc (s : State) (l : List Nat) (f : Nat → State → State) (h : ∀ i t, (f i t).adc = t.adc) :
    (s.each l f).adc = s.adc := State.each_keeps State.adc l f h s
@[simp] theorem State.when_adc (s : State) (c : Bool) (f : State → State) (h : ∀ t, (f t).adc = t.adc) :
    (s.when c f).adc = s.adc := State.when_keeps State.adc c f s (h s)
@[simp] theorem State.each_fw (s : State) (l : List Nat) (f : Nat → State → State) (h : ∀ i t, (f i t).fw = t.fw) :
    (s.each l f).fw = s.fw := State.each_keeps State.fw l f h s
@[simp] theorem State.when_fw (s : State) (c : Bool) (f : State → State) (h : ∀ t, (f t).fw = t.fw) :
    (s.when c f).fw = s.fw := State.when_keeps State.fw c f s (h s)
@[simp] theorem State.each_lt (s : State) (l : List Nat) (f : Nat → State → State) (h : ∀ i t, (f i t).lt = t.lt) :
    (s.each l f).lt = s.lt := State.each_keeps State.lt l f h s
@[simp] theorem State.when_lt (s : State) (c : Bool) (f : State → State) (h : ∀ t, (f t).lt = t.lt) :
    (s.when c f).lt = s.lt := State.when_keeps State.lt c f s (h s)
@[simp] theorem State.each_pending (s : State) (l : List Nat) (f : Nat → State → State) (h : ∀ i t, (f i t).pending = t.pending) :
    (s.each l f).pending = s.pending := State.each_keeps State.pending l f h s
@[simp] theorem State.when_pending (s : State) (c : Bool) (f : State → State) (h : ∀ t, (f t).pending = t.pending) :
    (s.when c f).pending = s.pending := State.when_keeps State.pending c f s (h s)

end Sys2Proof.Machine
end

