-- ==== Sys2Proof/Laws/Frames.lean ====
section
/-! SUPPORT. What the shared forms keep: branches, folds and loops over items, and the canonical form of the register table. -/

namespace Sys2Proof.Machine

theorem Tbl.mem_get {κ α : Type} [DecidableEq κ] (d : α) (t : Tbl κ α) (k : κ) : Tbl.get d t k = d ∨ (k, Tbl.get d t k) ∈ t := by
  induction t with
  | nil => exact .inl rfl
  | cons p r ih =>
    by_cases h : p.1 = k
    · right; subst h; simp [Tbl.get]
    · rcases ih with e | e
      · left; simp [Tbl.get, h, e]
      · right; simp only [Tbl.get, h, if_false]; exact List.mem_cons_of_mem _ e

@[simp] theorem State.setF_fieldsOk (s : State) (f : Fld) (i v : Nat) (h : s.fieldsOk) : (s.setF f i v).fieldsOk := by
  refine ⟨Tbl.sorted_set Fld.ctorIdx_inj h.1 f _, fun p hp => ?_⟩
  rcases Tbl.mem_set hp with e | hp
  · subst e
    have hrow : Tbl.sorted id (Tbl.get [] s.fields f) ∧ ∀ q ∈ Tbl.get [] s.fields f, q.2 < 2 ^ f.width := by
      rcases Tbl.mem_get [] s.fields f with e | e
      · rw [e]; exact ⟨List.Pairwise.nil, fun q hq => by simp at hq⟩
      · exact h.2 _ e
    refine ⟨Tbl.sorted_put hrow.1 i _, fun q hq => ?_⟩
    rcases Tbl.mem_set hq with e | hq
    · subst e; exact Nat.mod_lt _ (Nat.two_pow_pos _)
    · exact hrow.2 q hq
  · exact h.2 p hp

@[simp ↓] theorem State.fieldsOk_mk (s : State) (time : Nat) (cfg : Cfg) (raiseQ : List Raise) (out : List OutMsg) (freeCtr : Nat) (flt : FltState) (phs : PhsState) (dom : DomState) (eng : EngState) (start : StartState) (est : EstState) (bud : BudState) (thm : ThmState) (hrd : HrdState) (tlm : TlmState) (cmd : CmdState) (boot : BootState) (adc : AdcState) (fw : FwState) (lt : LtState) (pending : List Instr) (h : s.fieldsOk) :
    State.fieldsOk { time := time, cfg := cfg, fields := s.fields, raiseQ := raiseQ, out := out, freeCtr := freeCtr, flt := flt, phs := phs, dom := dom, eng := eng, start := start, est := est, bud := bud, thm := thm, hrd := hrd, tlm := tlm, cmd := cmd, boot := boot, adc := adc, fw := fw, lt := lt, pending := pending } := h

@[simp] theorem State.setB_fieldsOk (s : State) (f : Fld) (i : Nat) (b : Bool) (h : s.fieldsOk) : (s.setB f i b).fieldsOk := State.setF_fieldsOk s f i _ h
@[simp] theorem State.bumpF_fieldsOk (s : State) (f : Fld) (i : Nat) (h : s.fieldsOk) : (s.bumpF f i).fieldsOk := State.setF_fieldsOk s f i _ h
@[simp] theorem State.addSatF_fieldsOk (s : State) (f : Fld) (i n : Nat) (h : s.fieldsOk) : (s.addSatF f i n).fieldsOk := State.setF_fieldsOk s f i _ h
@[simp] theorem State.incF_fieldsOk (s : State) (f : Fld) (i : Nat) (h : s.fieldsOk) : (s.incF f i).fieldsOk := State.setF_fieldsOk s f i _ h
@[simp] theorem State.setS_fieldsOk (s : State) (f : Fld) (i : Nat) (x : Int) (h : s.fieldsOk) : (s.setS f i x).fieldsOk := State.setF_fieldsOk s f i _ h
@[simp] theorem State.event_fieldsOk (s : State) (f : Fld) (i a b : Nat) (h : s.fieldsOk) : (s.event f i a b).fieldsOk := State.setF_fieldsOk s f i _ h
@[simp] theorem State.emit_fieldsOk (s : State) (m : OutMsg) (h : s.fieldsOk) : (s.emit m).fieldsOk := h
@[simp] theorem State.raise_fieldsOk (s : State) (a b c : Nat) (h : s.fieldsOk) : (s.raise a b c).fieldsOk := h
@[simp] theorem State.raiseAt_fieldsOk (s : State) (a b c d : Nat) (h : s.fieldsOk) : (s.raiseAt a b c d).fieldsOk := h
@[simp] theorem State.raiseAccess_fieldsOk (s : State) (a b c d e k : Nat) (h : s.fieldsOk) : (s.raiseAccess a b c d e k).fieldsOk := h
@[simp] theorem State.fresh_fieldsOk (s : State) (h : s.fieldsOk) : s.fresh.2.fieldsOk := h
@[simp] theorem State.each_fieldsOk (s : State) (l : List Nat) (f : Nat → State → State) (h : ∀ i t, t.fieldsOk → (f i t).fieldsOk) (hs : s.fieldsOk) : (s.each l f).fieldsOk :=
  State.each_inv State.fieldsOk l f h s hs
@[simp] theorem foldl_fieldsOk {α : Type} (l : List α) (f : State → α → State) (h : ∀ t x, t.fieldsOk → (f t x).fieldsOk) (s : State) (hs : s.fieldsOk) : (l.foldl f s).fieldsOk := by
  induction l generalizing s with
  | nil => exact hs
  | cons a r ih => exact ih _ (h _ _ hs)
@[simp] theorem when_fieldsOk (s : State) (c : Bool) (f : State → State) (hs : s.fieldsOk) (h : ∀ t, t.fieldsOk → (f t).fieldsOk) : (s.when c f).fieldsOk :=
  State.when_inv State.fieldsOk c f s hs (h s hs)
@[simp] theorem ite_fieldsOk (c : Prop) [Decidable c] (a b : State) (ha : a.fieldsOk) (hb : b.fieldsOk) : (if c then a else b).fieldsOk := by split <;> assumption

@[simp] theorem getF_ite (c : Prop) [Decidable c] (a b : State) (f : Fld) (i : Nat) : (if c then a else b).getF f i = if c then a.getF f i else b.getF f i := by split <;> rfl
@[simp] theorem getF_foldl {α : Type} (l : List α) (f : State → α → State) (g : Fld) (j : Nat) (h : ∀ t x, (f t x).getF g j = t.getF g j) (s : State) :
    (l.foldl f s).getF g j = s.getF g j := by
  induction l generalizing s with
  | nil => rfl
  | cons a r ih => simp [ih, h]
theorem foldl_keeps {α β : Type} (P : State → β) (l : List α) (f : State → α → State) (h : ∀ t x, P (f t x) = P t) (s : State) : P (l.foldl f s) = P s := by
  induction l generalizing s with
  | nil => rfl
  | cons a r ih => simp [ih, h]
@[simp] theorem time_ite (c : Prop) [Decidable c] (a b : State) : (if c then a else b).time = if c then a.time else b.time := by split <;> rfl
@[simp] theorem time_foldl {α : Type} (l : List α) (f : State → α → State) (h : ∀ t x, (f t x).time = t.time) (s : State) : (l.foldl f s).time = s.time := foldl_keeps State.time l f h s
@[simp] theorem cfg_ite (c : Prop) [Decidable c] (a b : State) : (if c then a else b).cfg = if c then a.cfg else b.cfg := by split <;> rfl
@[simp] theorem cfg_foldl {α : Type} (l : List α) (f : State → α → State) (h : ∀ t x, (f t x).cfg = t.cfg) (s : State) : (l.foldl f s).cfg = s.cfg := foldl_keeps State.cfg l f h s
@[simp] theorem raiseQ_ite (c : Prop) [Decidable c] (a b : State) : (if c then a else b).raiseQ = if c then a.raiseQ else b.raiseQ := by split <;> rfl
@[simp] theorem raiseQ_foldl {α : Type} (l : List α) (f : State → α → State) (h : ∀ t x, (f t x).raiseQ = t.raiseQ) (s : State) : (l.foldl f s).raiseQ = s.raiseQ := foldl_keeps State.raiseQ l f h s
@[simp] theorem out_ite (c : Prop) [Decidable c] (a b : State) : (if c then a else b).out = if c then a.out else b.out := by split <;> rfl
@[simp] theorem out_foldl {α : Type} (l : List α) (f : State → α → State) (h : ∀ t x, (f t x).out = t.out) (s : State) : (l.foldl f s).out = s.out := foldl_keeps State.out l f h s
@[simp] theorem freeCtr_ite (c : Prop) [Decidable c] (a b : State) : (if c then a else b).freeCtr = if c then a.freeCtr else b.freeCtr := by split <;> rfl
@[simp] theorem freeCtr_foldl {α : Type} (l : List α) (f : State → α → State) (h : ∀ t x, (f t x).freeCtr = t.freeCtr) (s : State) : (l.foldl f s).freeCtr = s.freeCtr := foldl_keeps State.freeCtr l f h s
@[simp] theorem flt_ite (c : Prop) [Decidable c] (a b : State) : (if c then a else b).flt = if c then a.flt else b.flt := by split <;> rfl
@[simp] theorem flt_foldl {α : Type} (l : List α) (f : State → α → State) (h : ∀ t x, (f t x).flt = t.flt) (s : State) : (l.foldl f s).flt = s.flt := foldl_keeps State.flt l f h s
@[simp] theorem phs_ite (c : Prop) [Decidable c] (a b : State) : (if c then a else b).phs = if c then a.phs else b.phs := by split <;> rfl
@[simp] theorem phs_foldl {α : Type} (l : List α) (f : State → α → State) (h : ∀ t x, (f t x).phs = t.phs) (s : State) : (l.foldl f s).phs = s.phs := foldl_keeps State.phs l f h s
@[simp] theorem dom_ite (c : Prop) [Decidable c] (a b : State) : (if c then a else b).dom = if c then a.dom else b.dom := by split <;> rfl
@[simp] theorem dom_foldl {α : Type} (l : List α) (f : State → α → State) (h : ∀ t x, (f t x).dom = t.dom) (s : State) : (l.foldl f s).dom = s.dom := foldl_keeps State.dom l f h s
@[simp] theorem eng_ite (c : Prop) [Decidable c] (a b : State) : (if c then a else b).eng = if c then a.eng else b.eng := by split <;> rfl
@[simp] theorem eng_foldl {α : Type} (l : List α) (f : State → α → State) (h : ∀ t x, (f t x).eng = t.eng) (s : State) : (l.foldl f s).eng = s.eng := foldl_keeps State.eng l f h s
@[simp] theorem start_ite (c : Prop) [Decidable c] (a b : State) : (if c then a else b).start = if c then a.start else b.start := by split <;> rfl
@[simp] theorem start_foldl {α : Type} (l : List α) (f : State → α → State) (h : ∀ t x, (f t x).start = t.start) (s : State) : (l.foldl f s).start = s.start := foldl_keeps State.start l f h s
@[simp] theorem est_ite (c : Prop) [Decidable c] (a b : State) : (if c then a else b).est = if c then a.est else b.est := by split <;> rfl
@[simp] theorem est_foldl {α : Type} (l : List α) (f : State → α → State) (h : ∀ t x, (f t x).est = t.est) (s : State) : (l.foldl f s).est = s.est := foldl_keeps State.est l f h s
@[simp] theorem bud_ite (c : Prop) [Decidable c] (a b : State) : (if c then a else b).bud = if c then a.bud else b.bud := by split <;> rfl
@[simp] theorem bud_foldl {α : Type} (l : List α) (f : State → α → State) (h : ∀ t x, (f t x).bud = t.bud) (s : State) : (l.foldl f s).bud = s.bud := foldl_keeps State.bud l f h s
@[simp] theorem thm_ite (c : Prop) [Decidable c] (a b : State) : (if c then a else b).thm = if c then a.thm else b.thm := by split <;> rfl
@[simp] theorem thm_foldl {α : Type} (l : List α) (f : State → α → State) (h : ∀ t x, (f t x).thm = t.thm) (s : State) : (l.foldl f s).thm = s.thm := foldl_keeps State.thm l f h s
@[simp] theorem hrd_ite (c : Prop) [Decidable c] (a b : State) : (if c then a else b).hrd = if c then a.hrd else b.hrd := by split <;> rfl
@[simp] theorem hrd_foldl {α : Type} (l : List α) (f : State → α → State) (h : ∀ t x, (f t x).hrd = t.hrd) (s : State) : (l.foldl f s).hrd = s.hrd := foldl_keeps State.hrd l f h s
@[simp] theorem tlm_ite (c : Prop) [Decidable c] (a b : State) : (if c then a else b).tlm = if c then a.tlm else b.tlm := by split <;> rfl
@[simp] theorem tlm_foldl {α : Type} (l : List α) (f : State → α → State) (h : ∀ t x, (f t x).tlm = t.tlm) (s : State) : (l.foldl f s).tlm = s.tlm := foldl_keeps State.tlm l f h s
@[simp] theorem cmd_ite (c : Prop) [Decidable c] (a b : State) : (if c then a else b).cmd = if c then a.cmd else b.cmd := by split <;> rfl
@[simp] theorem cmd_foldl {α : Type} (l : List α) (f : State → α → State) (h : ∀ t x, (f t x).cmd = t.cmd) (s : State) : (l.foldl f s).cmd = s.cmd := foldl_keeps State.cmd l f h s
@[simp] theorem boot_ite (c : Prop) [Decidable c] (a b : State) : (if c then a else b).boot = if c then a.boot else b.boot := by split <;> rfl
@[simp] theorem boot_foldl {α : Type} (l : List α) (f : State → α → State) (h : ∀ t x, (f t x).boot = t.boot) (s : State) : (l.foldl f s).boot = s.boot := foldl_keeps State.boot l f h s
@[simp] theorem adc_ite (c : Prop) [Decidable c] (a b : State) : (if c then a else b).adc = if c then a.adc else b.adc := by split <;> rfl
@[simp] theorem adc_foldl {α : Type} (l : List α) (f : State → α → State) (h : ∀ t x, (f t x).adc = t.adc) (s : State) : (l.foldl f s).adc = s.adc := foldl_keeps State.adc l f h s
@[simp] theorem fw_ite (c : Prop) [Decidable c] (a b : State) : (if c then a else b).fw = if c then a.fw else b.fw := by split <;> rfl
@[simp] theorem fw_foldl {α : Type} (l : List α) (f : State → α → State) (h : ∀ t x, (f t x).fw = t.fw) (s : State) : (l.foldl f s).fw = s.fw := foldl_keeps State.fw l f h s
@[simp] theorem lt_ite (c : Prop) [Decidable c] (a b : State) : (if c then a else b).lt = if c then a.lt else b.lt := by split <;> rfl
@[simp] theorem lt_foldl {α : Type} (l : List α) (f : State → α → State) (h : ∀ t x, (f t x).lt = t.lt) (s : State) : (l.foldl f s).lt = s.lt := foldl_keeps State.lt l f h s
@[simp] theorem pending_ite (c : Prop) [Decidable c] (a b : State) : (if c then a else b).pending = if c then a.pending else b.pending := by split <;> rfl
@[simp] theorem pending_foldl {α : Type} (l : List α) (f : State → α → State) (h : ∀ t x, (f t x).pending = t.pending) (s : State) : (l.foldl f s).pending = s.pending := foldl_keeps State.pending l f h s
end Sys2Proof.Machine
end

