-- ==== Sys2Proof/Laws/Ops.lean ====
section
/-! SUPPORT. What each shared operations operation can do: the fields it may write, the parts of the state it keeps, and that it keeps
the register table in its canonical form. -/

namespace Sys2Proof.Machine
open Host (Outcome)
set_option maxRecDepth 4000
set_option linter.unusedSimpArgs false
set_option linter.unusedVariables false
set_option linter.unreachableTactic false
set_option linter.unusedTactic false

@[simp] theorem State.openDiv_getF (s : State) (a : Int) (d : Nat) (fld : Fld) (itm : Nat) (hw : fld ∉ ([] : List Fld)) :
    (State.openDiv s a d).2.getF fld itm = s.getF fld itm := by
  try simp only [List.mem_cons, not_or, List.not_mem_nil, not_false_eq_true] at hw
  simp (maxDischargeDepth := 60) [State.openDiv, hw, apply_ite Prod.snd]

@[simp] theorem State.openDiv_parts (s : State) (a : Int) (d : Nat) :
    (State.openDiv s a d).2.time = s.time ∧ (State.openDiv s a d).2.cfg = s.cfg ∧ (State.openDiv s a d).2.raiseQ = s.raiseQ ∧ (State.openDiv s a d).2.out = s.out ∧ (State.openDiv s a d).2.flt = s.flt ∧ (State.openDiv s a d).2.phs = s.phs ∧ (State.openDiv s a d).2.dom = s.dom ∧ (State.openDiv s a d).2.eng = s.eng ∧ (State.openDiv s a d).2.start = s.start ∧ (State.openDiv s a d).2.est = s.est ∧ (State.openDiv s a d).2.bud = s.bud ∧ (State.openDiv s a d).2.thm = s.thm ∧ (State.openDiv s a d).2.hrd = s.hrd ∧ (State.openDiv s a d).2.tlm = s.tlm ∧ (State.openDiv s a d).2.cmd = s.cmd ∧ (State.openDiv s a d).2.boot = s.boot ∧ (State.openDiv s a d).2.adc = s.adc ∧ (State.openDiv s a d).2.fw = s.fw ∧ (State.openDiv s a d).2.lt = s.lt ∧ (State.openDiv s a d).2.pending = s.pending := by
  refine ⟨?_, ?_, ?_, ?_, ?_, ?_, ?_, ?_, ?_, ?_, ?_, ?_, ?_, ?_, ?_, ?_, ?_, ?_, ?_, ?_⟩ <;> (simp (maxDischargeDepth := 60) [State.openDiv, apply_ite Prod.snd])

@[simp] theorem State.openDiv_ok (s : State) (a : Int) (d : Nat) (hok : s.fieldsOk) : (State.openDiv s a d).2.fieldsOk := by
  simp +contextual (maxDischargeDepth := 60) [State.openDiv, hok, apply_ite Prod.snd]

@[simp] theorem State.showPair_getF (s : State) (fld : Fld) (itm : Nat) (hw : fld ∉ ([.FLT_STATUS_PAIR_ASSERT, .FLT_STATUS_PAIR_C, .FLT_STATUS_PAIR_T] : List Fld)) :
    (State.showPair s).getF fld itm = s.getF fld itm := by
  try simp only [List.mem_cons, not_or, List.not_mem_nil, not_false_eq_true] at hw
  simp (maxDischargeDepth := 60) [State.showPair, hw, apply_ite Prod.snd]

@[simp] theorem State.showPair_parts (s : State) :
    (State.showPair s).time = s.time ∧ (State.showPair s).cfg = s.cfg ∧ (State.showPair s).raiseQ = s.raiseQ ∧ (State.showPair s).out = s.out ∧ (State.showPair s).freeCtr = s.freeCtr ∧ (State.showPair s).flt = s.flt ∧ (State.showPair s).phs = s.phs ∧ (State.showPair s).dom = s.dom ∧ (State.showPair s).eng = s.eng ∧ (State.showPair s).start = s.start ∧ (State.showPair s).est = s.est ∧ (State.showPair s).bud = s.bud ∧ (State.showPair s).thm = s.thm ∧ (State.showPair s).hrd = s.hrd ∧ (State.showPair s).tlm = s.tlm ∧ (State.showPair s).cmd = s.cmd ∧ (State.showPair s).boot = s.boot ∧ (State.showPair s).adc = s.adc ∧ (State.showPair s).fw = s.fw ∧ (State.showPair s).lt = s.lt ∧ (State.showPair s).pending = s.pending := by
  refine ⟨?_, ?_, ?_, ?_, ?_, ?_, ?_, ?_, ?_, ?_, ?_, ?_, ?_, ?_, ?_, ?_, ?_, ?_, ?_, ?_, ?_⟩ <;> (simp (maxDischargeDepth := 60) [State.showPair, apply_ite Prod.snd])

@[simp] theorem State.showPair_ok (s : State) (hok : s.fieldsOk) : (State.showPair s).fieldsOk := by
  simp +contextual (maxDischargeDepth := 60) [State.showPair, hok, apply_ite Prod.snd]

@[simp] theorem State.setLowPower_getF (s : State) (b : Bool) (fld : Fld) (itm : Nat) (hw : fld ∉ ([.ADC_CV_STATUS_PD, .ADC_CV_STATUS_STATE, .ADC_STATUS_LP_ACTIVE] : List Fld)) :
    (State.setLowPower s b).getF fld itm = s.getF fld itm := by
  try simp only [List.mem_cons, not_or, List.not_mem_nil, not_false_eq_true] at hw
  simp (maxDischargeDepth := 60) [State.setLowPower, hw, apply_ite Prod.snd]

@[simp] theorem State.setLowPower_parts (s : State) (b : Bool) :
    (State.setLowPower s b).time = s.time ∧ (State.setLowPower s b).cfg = s.cfg ∧ (State.setLowPower s b).raiseQ = s.raiseQ ∧ (State.setLowPower s b).out = s.out ∧ (State.setLowPower s b).freeCtr = s.freeCtr ∧ (State.setLowPower s b).flt = s.flt ∧ (State.setLowPower s b).phs = s.phs ∧ (State.setLowPower s b).dom = s.dom ∧ (State.setLowPower s b).eng = s.eng ∧ (State.setLowPower s b).start = s.start ∧ (State.setLowPower s b).est = s.est ∧ (State.setLowPower s b).bud = s.bud ∧ (State.setLowPower s b).thm = s.thm ∧ (State.setLowPower s b).hrd = s.hrd ∧ (State.setLowPower s b).tlm = s.tlm ∧ (State.setLowPower s b).cmd = s.cmd ∧ (State.setLowPower s b).boot = s.boot ∧ (State.setLowPower s b).adc = s.adc ∧ (State.setLowPower s b).fw = s.fw ∧ (State.setLowPower s b).lt = s.lt ∧ (State.setLowPower s b).pending = s.pending := by
  refine ⟨?_, ?_, ?_, ?_, ?_, ?_, ?_, ?_, ?_, ?_, ?_, ?_, ?_, ?_, ?_, ?_, ?_, ?_, ?_, ?_, ?_⟩ <;> (simp (maxDischargeDepth := 60) [State.setLowPower, apply_ite Prod.snd])

@[simp] theorem State.setLowPower_ok (s : State) (b : Bool) (hok : s.fieldsOk) : (State.setLowPower s b).fieldsOk := by
  simp +contextual (maxDischargeDepth := 60) [State.setLowPower, hok, apply_ite Prod.snd]

@[simp] theorem State.ilSet_getF (s : State) (fld : Fld) (itm : Nat) (hw : fld ∉ ([.GLB_FW_IL_SET] : List Fld)) :
    (State.ilSet s).getF fld itm = s.getF fld itm := by
  try simp only [List.mem_cons, not_or, List.not_mem_nil, not_false_eq_true] at hw
  simp (maxDischargeDepth := 60) [State.ilSet, hw, apply_ite Prod.snd]

@[simp] theorem State.ilSet_parts (s : State) :
    (State.ilSet s).time = s.time ∧ (State.ilSet s).cfg = s.cfg ∧ (State.ilSet s).raiseQ = s.raiseQ ∧ (State.ilSet s).out = s.out ∧ (State.ilSet s).freeCtr = s.freeCtr ∧ (State.ilSet s).flt = s.flt ∧ (State.ilSet s).phs = s.phs ∧ (State.ilSet s).dom = s.dom ∧ (State.ilSet s).eng = s.eng ∧ (State.ilSet s).start = s.start ∧ (State.ilSet s).est = s.est ∧ (State.ilSet s).bud = s.bud ∧ (State.ilSet s).thm = s.thm ∧ (State.ilSet s).hrd = s.hrd ∧ (State.ilSet s).tlm = s.tlm ∧ (State.ilSet s).cmd = s.cmd ∧ (State.ilSet s).boot = s.boot ∧ (State.ilSet s).adc = s.adc ∧ (State.ilSet s).fw = s.fw ∧ (State.ilSet s).lt = s.lt ∧ (State.ilSet s).pending = s.pending := by
  refine ⟨?_, ?_, ?_, ?_, ?_, ?_, ?_, ?_, ?_, ?_, ?_, ?_, ?_, ?_, ?_, ?_, ?_, ?_, ?_, ?_, ?_⟩ <;> (simp (maxDischargeDepth := 60) [State.ilSet, apply_ite Prod.snd])

@[simp] theorem State.ilSet_ok (s : State) (hok : s.fieldsOk) : (State.ilSet s).fieldsOk := by
  simp +contextual (maxDischargeDepth := 60) [State.ilSet, hok, apply_ite Prod.snd]

@[simp] theorem State.capEvent_getF (s : State) (src idx : Nat) (fld : Fld) (itm : Nat) (hw : fld ∉ ([] : List Fld)) :
    (State.capEvent s src idx).getF fld itm = s.getF fld itm := by
  try simp only [List.mem_cons, not_or, List.not_mem_nil, not_false_eq_true] at hw
  simp (maxDischargeDepth := 60) [State.capEvent, hw, apply_ite Prod.snd]

@[simp] theorem State.capEvent_parts (s : State) (src idx : Nat) :
    (State.capEvent s src idx).time = s.time ∧ (State.capEvent s src idx).cfg = s.cfg ∧ (State.capEvent s src idx).raiseQ = s.raiseQ ∧ (State.capEvent s src idx).out = s.out ∧ (State.capEvent s src idx).freeCtr = s.freeCtr ∧ (State.capEvent s src idx).flt = s.flt ∧ (State.capEvent s src idx).phs = s.phs ∧ (State.capEvent s src idx).dom = s.dom ∧ (State.capEvent s src idx).eng = s.eng ∧ (State.capEvent s src idx).start = s.start ∧ (State.capEvent s src idx).est = s.est ∧ (State.capEvent s src idx).bud = s.bud ∧ (State.capEvent s src idx).thm = s.thm ∧ (State.capEvent s src idx).hrd = s.hrd ∧ (State.capEvent s src idx).cmd = s.cmd ∧ (State.capEvent s src idx).boot = s.boot ∧ (State.capEvent s src idx).adc = s.adc ∧ (State.capEvent s src idx).fw = s.fw ∧ (State.capEvent s src idx).lt = s.lt ∧ (State.capEvent s src idx).pending = s.pending := by
  refine ⟨?_, ?_, ?_, ?_, ?_, ?_, ?_, ?_, ?_, ?_, ?_, ?_, ?_, ?_, ?_, ?_, ?_, ?_, ?_, ?_⟩ <;> (simp (maxDischargeDepth := 60) [State.capEvent, apply_ite Prod.snd])

@[simp] theorem State.capEvent_ok (s : State) (src idx : Nat) (hok : s.fieldsOk) : (State.capEvent s src idx).fieldsOk := by
  simp +contextual (maxDischargeDepth := 60) [State.capEvent, hok, apply_ite Prod.snd]

@[simp] theorem State.setAcc_getF (s : State) (d : Nat) (a : DomAcc) (fld : Fld) (itm : Nat) (hw : fld ∉ ([] : List Fld)) :
    (State.setAcc s d a).getF fld itm = s.getF fld itm := by
  try simp only [List.mem_cons, not_or, List.not_mem_nil, not_false_eq_true] at hw
  simp (maxDischargeDepth := 60) [State.setAcc, hw, apply_ite Prod.snd]

@[simp] theorem State.setAcc_parts (s : State) (d : Nat) (a : DomAcc) :
    (State.setAcc s d a).time = s.time ∧ (State.setAcc s d a).cfg = s.cfg ∧ (State.setAcc s d a).raiseQ = s.raiseQ ∧ (State.setAcc s d a).out = s.out ∧ (State.setAcc s d a).freeCtr = s.freeCtr ∧ (State.setAcc s d a).flt = s.flt ∧ (State.setAcc s d a).phs = s.phs ∧ (State.setAcc s d a).dom = s.dom ∧ (State.setAcc s d a).eng = s.eng ∧ (State.setAcc s d a).start = s.start ∧ (State.setAcc s d a).est = s.est ∧ (State.setAcc s d a).bud = s.bud ∧ (State.setAcc s d a).thm = s.thm ∧ (State.setAcc s d a).hrd = s.hrd ∧ (State.setAcc s d a).cmd = s.cmd ∧ (State.setAcc s d a).boot = s.boot ∧ (State.setAcc s d a).adc = s.adc ∧ (State.setAcc s d a).fw = s.fw ∧ (State.setAcc s d a).lt = s.lt ∧ (State.setAcc s d a).pending = s.pending := by
  refine ⟨?_, ?_, ?_, ?_, ?_, ?_, ?_, ?_, ?_, ?_, ?_, ?_, ?_, ?_, ?_, ?_, ?_, ?_, ?_, ?_⟩ <;> (simp (maxDischargeDepth := 60) [State.setAcc, apply_ite Prod.snd])

@[simp] theorem State.setAcc_ok (s : State) (d : Nat) (a : DomAcc) (hok : s.fieldsOk) : (State.setAcc s d a).fieldsOk := by
  simp +contextual (maxDischargeDepth := 60) [State.setAcc, hok, apply_ite Prod.snd]

@[simp] theorem State.accStep_getF (s : State) (d st : Nat) (fld : Fld) (itm : Nat) (hw : fld ∉ ([] : List Fld)) :
    (State.accStep s d st).getF fld itm = s.getF fld itm := by
  try simp only [List.mem_cons, not_or, List.not_mem_nil, not_false_eq_true] at hw
  simp (maxDischargeDepth := 60) [State.accStep, hw, apply_ite Prod.snd]

@[simp] theorem State.accStep_parts (s : State) (d st : Nat) :
    (State.accStep s d st).time = s.time ∧ (State.accStep s d st).cfg = s.cfg ∧ (State.accStep s d st).raiseQ = s.raiseQ ∧ (State.accStep s d st).out = s.out ∧ (State.accStep s d st).freeCtr = s.freeCtr ∧ (State.accStep s d st).flt = s.flt ∧ (State.accStep s d st).phs = s.phs ∧ (State.accStep s d st).dom = s.dom ∧ (State.accStep s d st).eng = s.eng ∧ (State.accStep s d st).start = s.start ∧ (State.accStep s d st).est = s.est ∧ (State.accStep s d st).bud = s.bud ∧ (State.accStep s d st).thm = s.thm ∧ (State.accStep s d st).hrd = s.hrd ∧ (State.accStep s d st).cmd = s.cmd ∧ (State.accStep s d st).boot = s.boot ∧ (State.accStep s d st).adc = s.adc ∧ (State.accStep s d st).fw = s.fw ∧ (State.accStep s d st).lt = s.lt ∧ (State.accStep s d st).pending = s.pending := by
  refine ⟨?_, ?_, ?_, ?_, ?_, ?_, ?_, ?_, ?_, ?_, ?_, ?_, ?_, ?_, ?_, ?_, ?_, ?_, ?_, ?_⟩ <;> (simp (maxDischargeDepth := 60) [State.accStep, apply_ite Prod.snd])

@[simp] theorem State.accStep_ok (s : State) (d st : Nat) (hok : s.fieldsOk) : (State.accStep s d st).fieldsOk := by
  simp +contextual (maxDischargeDepth := 60) [State.accStep, hok, apply_ite Prod.snd]

@[simp] theorem State.accPermit_getF (s : State) (d : Nat) (fld : Fld) (itm : Nat) (hw : fld ∉ ([] : List Fld)) :
    (State.accPermit s d).getF fld itm = s.getF fld itm := by
  try simp only [List.mem_cons, not_or, List.not_mem_nil, not_false_eq_true] at hw
  simp (maxDischargeDepth := 60) [State.accPermit, hw, apply_ite Prod.snd]

@[simp] theorem State.accPermit_parts (s : State) (d : Nat) :
    (State.accPermit s d).time = s.time ∧ (State.accPermit s d).cfg = s.cfg ∧ (State.accPermit s d).raiseQ = s.raiseQ ∧ (State.accPermit s d).out = s.out ∧ (State.accPermit s d).freeCtr = s.freeCtr ∧ (State.accPermit s d).flt = s.flt ∧ (State.accPermit s d).phs = s.phs ∧ (State.accPermit s d).dom = s.dom ∧ (State.accPermit s d).eng = s.eng ∧ (State.accPermit s d).start = s.start ∧ (State.accPermit s d).est = s.est ∧ (State.accPermit s d).bud = s.bud ∧ (State.accPermit s d).thm = s.thm ∧ (State.accPermit s d).hrd = s.hrd ∧ (State.accPermit s d).cmd = s.cmd ∧ (State.accPermit s d).boot = s.boot ∧ (State.accPermit s d).adc = s.adc ∧ (State.accPermit s d).fw = s.fw ∧ (State.accPermit s d).lt = s.lt ∧ (State.accPermit s d).pending = s.pending := by
  refine ⟨?_, ?_, ?_, ?_, ?_, ?_, ?_, ?_, ?_, ?_, ?_, ?_, ?_, ?_, ?_, ?_, ?_, ?_, ?_, ?_⟩ <;> (simp (maxDischargeDepth := 60) [State.accPermit, apply_ite Prod.snd])

@[simp] theorem State.accPermit_ok (s : State) (d : Nat) (hok : s.fieldsOk) : (State.accPermit s d).fieldsOk := by
  simp +contextual (maxDischargeDepth := 60) [State.accPermit, hok, apply_ite Prod.snd]

end Sys2Proof.Machine
end

