-- ==== Sys2Proof/Laws/CrcOps.lean ====
section
/-! SUPPORT. What each check-value unit operation can do: the fields it may write, the parts of the state it keeps, and that it keeps
the register table in its canonical form. -/

namespace Sys2Proof.Machine
open Host (Outcome)
set_option maxRecDepth 4000
set_option linter.unusedSimpArgs false
set_option linter.unusedVariables false
set_option linter.unreachableTactic false
set_option linter.unusedTactic false

@[simp] theorem State.crcIrq_getF (s : State) (duty : Nat) (fld : Fld) (itm : Nat) (hw : fld ∉ ([] : List Fld)) :
    (State.crcIrq s duty).getF fld itm = s.getF fld itm := by
  try simp only [List.mem_cons, not_or, List.not_mem_nil, not_false_eq_true] at hw
  simp (maxDischargeDepth := 60) [State.crcIrq, hw, apply_ite Prod.snd]

@[simp] theorem State.crcIrq_parts (s : State) (duty : Nat) :
    (State.crcIrq s duty).time = s.time ∧ (State.crcIrq s duty).cfg = s.cfg ∧ (State.crcIrq s duty).raiseQ = s.raiseQ ∧ (State.crcIrq s duty).freeCtr = s.freeCtr ∧ (State.crcIrq s duty).flt = s.flt ∧ (State.crcIrq s duty).phs = s.phs ∧ (State.crcIrq s duty).dom = s.dom ∧ (State.crcIrq s duty).eng = s.eng ∧ (State.crcIrq s duty).start = s.start ∧ (State.crcIrq s duty).est = s.est ∧ (State.crcIrq s duty).bud = s.bud ∧ (State.crcIrq s duty).thm = s.thm ∧ (State.crcIrq s duty).hrd = s.hrd ∧ (State.crcIrq s duty).tlm = s.tlm ∧ (State.crcIrq s duty).cmd = s.cmd ∧ (State.crcIrq s duty).boot = s.boot ∧ (State.crcIrq s duty).adc = s.adc ∧ (State.crcIrq s duty).fw = s.fw ∧ (State.crcIrq s duty).lt = s.lt ∧ (State.crcIrq s duty).pending = s.pending := by
  refine ⟨?_, ?_, ?_, ?_, ?_, ?_, ?_, ?_, ?_, ?_, ?_, ?_, ?_, ?_, ?_, ?_, ?_, ?_, ?_, ?_⟩ <;> (simp (maxDischargeDepth := 60) [State.crcIrq, apply_ite Prod.snd])

@[simp] theorem State.crcIrq_ok (s : State) (duty : Nat) (hok : s.fieldsOk) : (State.crcIrq s duty).fieldsOk := by
  simp +contextual (maxDischargeDepth := 60) [State.crcIrq, hok, apply_ite Prod.snd]

@[simp] theorem State.crcMismatch_getF (s : State) (u duty : Nat) (fld : Fld) (itm : Nat) (hw : fld ∉ ([.CRC_EVENT_MISMATCH, .CRC_STATUS_MISMATCH_COUNT] : List Fld)) :
    (State.crcMismatch s u duty).getF fld itm = s.getF fld itm := by
  try simp only [List.mem_cons, not_or, List.not_mem_nil, not_false_eq_true] at hw
  simp (maxDischargeDepth := 60) [State.crcMismatch, hw, apply_ite Prod.snd]

@[simp] theorem State.crcMismatch_parts (s : State) (u duty : Nat) :
    (State.crcMismatch s u duty).time = s.time ∧ (State.crcMismatch s u duty).cfg = s.cfg ∧ (State.crcMismatch s u duty).raiseQ = s.raiseQ ∧ (State.crcMismatch s u duty).freeCtr = s.freeCtr ∧ (State.crcMismatch s u duty).flt = s.flt ∧ (State.crcMismatch s u duty).phs = s.phs ∧ (State.crcMismatch s u duty).dom = s.dom ∧ (State.crcMismatch s u duty).eng = s.eng ∧ (State.crcMismatch s u duty).start = s.start ∧ (State.crcMismatch s u duty).est = s.est ∧ (State.crcMismatch s u duty).bud = s.bud ∧ (State.crcMismatch s u duty).thm = s.thm ∧ (State.crcMismatch s u duty).hrd = s.hrd ∧ (State.crcMismatch s u duty).tlm = s.tlm ∧ (State.crcMismatch s u duty).cmd = s.cmd ∧ (State.crcMismatch s u duty).boot = s.boot ∧ (State.crcMismatch s u duty).adc = s.adc ∧ (State.crcMismatch s u duty).fw = s.fw ∧ (State.crcMismatch s u duty).lt = s.lt ∧ (State.crcMismatch s u duty).pending = s.pending := by
  refine ⟨?_, ?_, ?_, ?_, ?_, ?_, ?_, ?_, ?_, ?_, ?_, ?_, ?_, ?_, ?_, ?_, ?_, ?_, ?_, ?_⟩ <;> (simp (maxDischargeDepth := 60) [State.crcMismatch, apply_ite Prod.snd])

@[simp] theorem State.crcMismatch_ok (s : State) (u duty : Nat) (hok : s.fieldsOk) : (State.crcMismatch s u duty).fieldsOk := by
  simp +contextual (maxDischargeDepth := 60) [State.crcMismatch, hok, apply_ite Prod.snd]

@[simp] theorem State.crcOutcome_getF (s : State) (u duty : Nat) (same : Bool) (fld : Fld) (itm : Nat) (hw : fld ∉ ([.CRC_EVENT_MISMATCH, .CRC_STATUS_MATCH, .CRC_STATUS_MISMATCH, .CRC_STATUS_MISMATCH_COUNT] : List Fld)) :
    (State.crcOutcome s u duty same).getF fld itm = s.getF fld itm := by
  try simp only [List.mem_cons, not_or, List.not_mem_nil, not_false_eq_true] at hw
  simp (maxDischargeDepth := 60) [State.crcOutcome, hw, apply_ite Prod.snd]

@[simp] theorem State.crcOutcome_parts (s : State) (u duty : Nat) (same : Bool) :
    (State.crcOutcome s u duty same).time = s.time ∧ (State.crcOutcome s u duty same).cfg = s.cfg ∧ (State.crcOutcome s u duty same).raiseQ = s.raiseQ ∧ (State.crcOutcome s u duty same).freeCtr = s.freeCtr ∧ (State.crcOutcome s u duty same).flt = s.flt ∧ (State.crcOutcome s u duty same).phs = s.phs ∧ (State.crcOutcome s u duty same).dom = s.dom ∧ (State.crcOutcome s u duty same).eng = s.eng ∧ (State.crcOutcome s u duty same).start = s.start ∧ (State.crcOutcome s u duty same).est = s.est ∧ (State.crcOutcome s u duty same).bud = s.bud ∧ (State.crcOutcome s u duty same).thm = s.thm ∧ (State.crcOutcome s u duty same).hrd = s.hrd ∧ (State.crcOutcome s u duty same).tlm = s.tlm ∧ (State.crcOutcome s u duty same).cmd = s.cmd ∧ (State.crcOutcome s u duty same).boot = s.boot ∧ (State.crcOutcome s u duty same).adc = s.adc ∧ (State.crcOutcome s u duty same).fw = s.fw ∧ (State.crcOutcome s u duty same).lt = s.lt ∧ (State.crcOutcome s u duty same).pending = s.pending := by
  refine ⟨?_, ?_, ?_, ?_, ?_, ?_, ?_, ?_, ?_, ?_, ?_, ?_, ?_, ?_, ?_, ?_, ?_, ?_, ?_, ?_⟩ <;> (simp (maxDischargeDepth := 60) [State.crcOutcome, apply_ite Prod.snd])

@[simp] theorem State.crcOutcome_ok (s : State) (u duty : Nat) (same : Bool) (hok : s.fieldsOk) : (State.crcOutcome s u duty same).fieldsOk := by
  simp +contextual (maxDischargeDepth := 60) [State.crcOutcome, hok, apply_ite Prod.snd]

@[simp] theorem State.dutyJob_getF (s : State) (duty : Nat) (l : List Nat) (want : Option Nat) (fld : Fld) (itm : Nat) (hw : fld ∉ ([.CRC_EVENT_MISMATCH, .CRC_RESULT_RESULT, .CRC_STATUS_MATCH, .CRC_STATUS_MISMATCH, .CRC_STATUS_MISMATCH_COUNT, .CRC_STATUS_STATE, .CRC_VALUE_VALUE] : List Fld)) :
    (State.dutyJob s duty l want).getF fld itm = s.getF fld itm := by
  try simp only [List.mem_cons, not_or, List.not_mem_nil, not_false_eq_true] at hw
  ((unfold State.dutyJob); (try simp only []); (repeat' split) <;> (try simp (maxDischargeDepth := 60) [hw, State.when, apply_ite Prod.snd]))

@[simp] theorem State.dutyJob_parts (s : State) (duty : Nat) (l : List Nat) (want : Option Nat) :
    (State.dutyJob s duty l want).time = s.time ∧ (State.dutyJob s duty l want).cfg = s.cfg ∧ (State.dutyJob s duty l want).raiseQ = s.raiseQ ∧ (State.dutyJob s duty l want).freeCtr = s.freeCtr ∧ (State.dutyJob s duty l want).flt = s.flt ∧ (State.dutyJob s duty l want).phs = s.phs ∧ (State.dutyJob s duty l want).dom = s.dom ∧ (State.dutyJob s duty l want).eng = s.eng ∧ (State.dutyJob s duty l want).start = s.start ∧ (State.dutyJob s duty l want).est = s.est ∧ (State.dutyJob s duty l want).bud = s.bud ∧ (State.dutyJob s duty l want).thm = s.thm ∧ (State.dutyJob s duty l want).hrd = s.hrd ∧ (State.dutyJob s duty l want).tlm = s.tlm ∧ (State.dutyJob s duty l want).cmd = s.cmd ∧ (State.dutyJob s duty l want).boot = s.boot ∧ (State.dutyJob s duty l want).adc = s.adc ∧ (State.dutyJob s duty l want).fw = s.fw ∧ (State.dutyJob s duty l want).lt = s.lt ∧ (State.dutyJob s duty l want).pending = s.pending := by
  refine ⟨?_, ?_, ?_, ?_, ?_, ?_, ?_, ?_, ?_, ?_, ?_, ?_, ?_, ?_, ?_, ?_, ?_, ?_, ?_, ?_⟩ <;> ((unfold State.dutyJob); (try simp only []); (repeat' split) <;> (try simp (maxDischargeDepth := 60) [State.when, apply_ite Prod.snd]))

@[simp] theorem State.dutyJob_ok (s : State) (duty : Nat) (l : List Nat) (want : Option Nat) (hok : s.fieldsOk) : (State.dutyJob s duty l want).fieldsOk := by
  ((unfold State.dutyJob); (try simp only []); (repeat' split) <;> (try simp +contextual (maxDischargeDepth := 60) [hok, State.when, apply_ite Prod.snd]))

@[simp] theorem State.refuseInit_getF (s : State) (init addr : Nat) (fld : Fld) (itm : Nat) (hw : fld ∉ ([] : List Fld)) :
    (State.refuseInit s init addr).getF fld itm = s.getF fld itm := by
  try simp only [List.mem_cons, not_or, List.not_mem_nil, not_false_eq_true] at hw
  simp (maxDischargeDepth := 60) [State.refuseInit, hw, apply_ite Prod.snd]

@[simp] theorem State.refuseInit_parts (s : State) (init addr : Nat) :
    (State.refuseInit s init addr).time = s.time ∧ (State.refuseInit s init addr).cfg = s.cfg ∧ (State.refuseInit s init addr).out = s.out ∧ (State.refuseInit s init addr).freeCtr = s.freeCtr ∧ (State.refuseInit s init addr).flt = s.flt ∧ (State.refuseInit s init addr).phs = s.phs ∧ (State.refuseInit s init addr).dom = s.dom ∧ (State.refuseInit s init addr).eng = s.eng ∧ (State.refuseInit s init addr).start = s.start ∧ (State.refuseInit s init addr).est = s.est ∧ (State.refuseInit s init addr).bud = s.bud ∧ (State.refuseInit s init addr).thm = s.thm ∧ (State.refuseInit s init addr).hrd = s.hrd ∧ (State.refuseInit s init addr).tlm = s.tlm ∧ (State.refuseInit s init addr).cmd = s.cmd ∧ (State.refuseInit s init addr).boot = s.boot ∧ (State.refuseInit s init addr).adc = s.adc ∧ (State.refuseInit s init addr).fw = s.fw ∧ (State.refuseInit s init addr).lt = s.lt ∧ (State.refuseInit s init addr).pending = s.pending := by
  refine ⟨?_, ?_, ?_, ?_, ?_, ?_, ?_, ?_, ?_, ?_, ?_, ?_, ?_, ?_, ?_, ?_, ?_, ?_, ?_, ?_⟩ <;> (simp (maxDischargeDepth := 60) [State.refuseInit, apply_ite Prod.snd])

@[simp] theorem State.refuseInit_ok (s : State) (init addr : Nat) (hok : s.fieldsOk) : (State.refuseInit s init addr).fieldsOk := by
  simp +contextual (maxDischargeDepth := 60) [State.refuseInit, hok, apply_ite Prod.snd]

@[simp] theorem State.refuseLocked_getF (s : State) (init addr : Nat) (fld : Fld) (itm : Nat) (hw : fld ∉ ([] : List Fld)) :
    (State.refuseLocked s init addr).getF fld itm = s.getF fld itm := by
  try simp only [List.mem_cons, not_or, List.not_mem_nil, not_false_eq_true] at hw
  simp (maxDischargeDepth := 60) [State.refuseLocked, hw, apply_ite Prod.snd]

@[simp] theorem State.refuseLocked_parts (s : State) (init addr : Nat) :
    (State.refuseLocked s init addr).time = s.time ∧ (State.refuseLocked s init addr).cfg = s.cfg ∧ (State.refuseLocked s init addr).out = s.out ∧ (State.refuseLocked s init addr).freeCtr = s.freeCtr ∧ (State.refuseLocked s init addr).flt = s.flt ∧ (State.refuseLocked s init addr).phs = s.phs ∧ (State.refuseLocked s init addr).dom = s.dom ∧ (State.refuseLocked s init addr).eng = s.eng ∧ (State.refuseLocked s init addr).start = s.start ∧ (State.refuseLocked s init addr).est = s.est ∧ (State.refuseLocked s init addr).bud = s.bud ∧ (State.refuseLocked s init addr).thm = s.thm ∧ (State.refuseLocked s init addr).hrd = s.hrd ∧ (State.refuseLocked s init addr).tlm = s.tlm ∧ (State.refuseLocked s init addr).cmd = s.cmd ∧ (State.refuseLocked s init addr).boot = s.boot ∧ (State.refuseLocked s init addr).adc = s.adc ∧ (State.refuseLocked s init addr).fw = s.fw ∧ (State.refuseLocked s init addr).lt = s.lt ∧ (State.refuseLocked s init addr).pending = s.pending := by
  refine ⟨?_, ?_, ?_, ?_, ?_, ?_, ?_, ?_, ?_, ?_, ?_, ?_, ?_, ?_, ?_, ?_, ?_, ?_, ?_, ?_⟩ <;> (simp (maxDischargeDepth := 60) [State.refuseLocked, apply_ite Prod.snd])

@[simp] theorem State.refuseLocked_ok (s : State) (init addr : Nat) (hok : s.fieldsOk) : (State.refuseLocked s init addr).fieldsOk := by
  simp +contextual (maxDischargeDepth := 60) [State.refuseLocked, hok, apply_ite Prod.snd]

@[simp] theorem State.crcWrite_getF (s : State) (init u addr : Nat) (same : Bool) (f : State → State) (fld : Fld) (itm : Nat) (hw : fld ∉ ([] : List Fld)) (h_f : ∀  t, (f t).getF fld itm = t.getF fld itm) :
    (State.crcWrite s init u addr same f).getF fld itm = s.getF fld itm := by
  try simp only [List.mem_cons, not_or, List.not_mem_nil, not_false_eq_true] at hw
  simp (maxDischargeDepth := 60) [State.crcWrite, hw, h_f, apply_ite Prod.snd]

@[simp] theorem State.crcWrite_time (s : State) (init u addr : Nat) (same : Bool) (f : State → State) (h_f : ∀  t, (f t).time = t.time) :
    (State.crcWrite s init u addr same f).time = s.time := by
  simp (maxDischargeDepth := 60) [State.crcWrite, h_f, apply_ite Prod.snd]

@[simp] theorem State.crcWrite_cfg (s : State) (init u addr : Nat) (same : Bool) (f : State → State) (h_f : ∀  t, (f t).cfg = t.cfg) :
    (State.crcWrite s init u addr same f).cfg = s.cfg := by
  simp (maxDischargeDepth := 60) [State.crcWrite, h_f, apply_ite Prod.snd]

@[simp] theorem State.crcWrite_out (s : State) (init u addr : Nat) (same : Bool) (f : State → State) (h_f : ∀  t, (f t).out = t.out) :
    (State.crcWrite s init u addr same f).out = s.out := by
  simp (maxDischargeDepth := 60) [State.crcWrite, h_f, apply_ite Prod.snd]

@[simp] theorem State.crcWrite_freeCtr (s : State) (init u addr : Nat) (same : Bool) (f : State → State) (h_f : ∀  t, (f t).freeCtr = t.freeCtr) :
    (State.crcWrite s init u addr same f).freeCtr = s.freeCtr := by
  simp (maxDischargeDepth := 60) [State.crcWrite, h_f, apply_ite Prod.snd]

@[simp] theorem State.crcWrite_flt (s : State) (init u addr : Nat) (same : Bool) (f : State → State) (h_f : ∀  t, (f t).flt = t.flt) :
    (State.crcWrite s init u addr same f).flt = s.flt := by
  simp (maxDischargeDepth := 60) [State.crcWrite, h_f, apply_ite Prod.snd]

@[simp] theorem State.crcWrite_phs (s : State) (init u addr : Nat) (same : Bool) (f : State → State) (h_f : ∀  t, (f t).phs = t.phs) :
    (State.crcWrite s init u addr same f).phs = s.phs := by
  simp (maxDischargeDepth := 60) [State.crcWrite, h_f, apply_ite Prod.snd]

@[simp] theorem State.crcWrite_dom (s : State) (init u addr : Nat) (same : Bool) (f : State → State) (h_f : ∀  t, (f t).dom = t.dom) :
    (State.crcWrite s init u addr same f).dom = s.dom := by
  simp (maxDischargeDepth := 60) [State.crcWrite, h_f, apply_ite Prod.snd]

@[simp] theorem State.crcWrite_eng (s : State) (init u addr : Nat) (same : Bool) (f : State → State) (h_f : ∀  t, (f t).eng = t.eng) :
    (State.crcWrite s init u addr same f).eng = s.eng := by
  simp (maxDischargeDepth := 60) [State.crcWrite, h_f, apply_ite Prod.snd]

@[simp] theorem State.crcWrite_start (s : State) (init u addr : Nat) (same : Bool) (f : State → State) (h_f : ∀  t, (f t).start = t.start) :
    (State.crcWrite s init u addr same f).start = s.start := by
  simp (maxDischargeDepth := 60) [State.crcWrite, h_f, apply_ite Prod.snd]

@[simp] theorem State.crcWrite_est (s : State) (init u addr : Nat) (same : Bool) (f : State → State) (h_f : ∀  t, (f t).est = t.est) :
    (State.crcWrite s init u addr same f).est = s.est := by
  simp (maxDischargeDepth := 60) [State.crcWrite, h_f, apply_ite Prod.snd]

@[simp] theorem State.crcWrite_bud (s : State) (init u addr : Nat) (same : Bool) (f : State → State) (h_f : ∀  t, (f t).bud = t.bud) :
    (State.crcWrite s init u addr same f).bud = s.bud := by
  simp (maxDischargeDepth := 60) [State.crcWrite, h_f, apply_ite Prod.snd]

@[simp] theorem State.crcWrite_thm (s : State) (init u addr : Nat) (same : Bool) (f : State → State) (h_f : ∀  t, (f t).thm = t.thm) :
    (State.crcWrite s init u addr same f).thm = s.thm := by
  simp (maxDischargeDepth := 60) [State.crcWrite, h_f, apply_ite Prod.snd]

@[simp] theorem State.crcWrite_hrd (s : State) (init u addr : Nat) (same : Bool) (f : State → State) (h_f : ∀  t, (f t).hrd = t.hrd) :
    (State.crcWrite s init u addr same f).hrd = s.hrd := by
  simp (maxDischargeDepth := 60) [State.crcWrite, h_f, apply_ite Prod.snd]

@[simp] theorem State.crcWrite_tlm (s : State) (init u addr : Nat) (same : Bool) (f : State → State) (h_f : ∀  t, (f t).tlm = t.tlm) :
    (State.crcWrite s init u addr same f).tlm = s.tlm := by
  simp (maxDischargeDepth := 60) [State.crcWrite, h_f, apply_ite Prod.snd]

@[simp] theorem State.crcWrite_cmd (s : State) (init u addr : Nat) (same : Bool) (f : State → State) (h_f : ∀  t, (f t).cmd = t.cmd) :
    (State.crcWrite s init u addr same f).cmd = s.cmd := by
  simp (maxDischargeDepth := 60) [State.crcWrite, h_f, apply_ite Prod.snd]

@[simp] theorem State.crcWrite_boot (s : State) (init u addr : Nat) (same : Bool) (f : State → State) (h_f : ∀  t, (f t).boot = t.boot) :
    (State.crcWrite s init u addr same f).boot = s.boot := by
  simp (maxDischargeDepth := 60) [State.crcWrite, h_f, apply_ite Prod.snd]

@[simp] theorem State.crcWrite_adc (s : State) (init u addr : Nat) (same : Bool) (f : State → State) (h_f : ∀  t, (f t).adc = t.adc) :
    (State.crcWrite s init u addr same f).adc = s.adc := by
  simp (maxDischargeDepth := 60) [State.crcWrite, h_f, apply_ite Prod.snd]

@[simp] theorem State.crcWrite_fw (s : State) (init u addr : Nat) (same : Bool) (f : State → State) (h_f : ∀  t, (f t).fw = t.fw) :
    (State.crcWrite s init u addr same f).fw = s.fw := by
  simp (maxDischargeDepth := 60) [State.crcWrite, h_f, apply_ite Prod.snd]

@[simp] theorem State.crcWrite_lt (s : State) (init u addr : Nat) (same : Bool) (f : State → State) (h_f : ∀  t, (f t).lt = t.lt) :
    (State.crcWrite s init u addr same f).lt = s.lt := by
  simp (maxDischargeDepth := 60) [State.crcWrite, h_f, apply_ite Prod.snd]

@[simp] theorem State.crcWrite_pending (s : State) (init u addr : Nat) (same : Bool) (f : State → State) (h_f : ∀  t, (f t).pending = t.pending) :
    (State.crcWrite s init u addr same f).pending = s.pending := by
  simp (maxDischargeDepth := 60) [State.crcWrite, h_f, apply_ite Prod.snd]

@[simp] theorem State.crcWrite_ok (s : State) (init u addr : Nat) (same : Bool) (f : State → State) (hok : s.fieldsOk) (h_f : ∀  t, t.fieldsOk → (f t).fieldsOk) : (State.crcWrite s init u addr same f).fieldsOk := by
  simp +contextual (maxDischargeDepth := 60) [State.crcWrite, hok, h_f, apply_ite Prod.snd]

@[simp] theorem State.crcGo_getF (s : State) (u v : Nat) (fld : Fld) (itm : Nat) (hw : fld ∉ ([.CRC_STATUS_STATE, .CRC_VALUE_VALUE] : List Fld)) :
    (State.crcGo s u v).getF fld itm = s.getF fld itm := by
  try simp only [List.mem_cons, not_or, List.not_mem_nil, not_false_eq_true] at hw
  simp (maxDischargeDepth := 60) [State.crcGo, hw, apply_ite Prod.snd]

@[simp] theorem State.crcGo_parts (s : State) (u v : Nat) :
    (State.crcGo s u v).time = s.time ∧ (State.crcGo s u v).cfg = s.cfg ∧ (State.crcGo s u v).raiseQ = s.raiseQ ∧ (State.crcGo s u v).out = s.out ∧ (State.crcGo s u v).freeCtr = s.freeCtr ∧ (State.crcGo s u v).flt = s.flt ∧ (State.crcGo s u v).phs = s.phs ∧ (State.crcGo s u v).dom = s.dom ∧ (State.crcGo s u v).eng = s.eng ∧ (State.crcGo s u v).start = s.start ∧ (State.crcGo s u v).est = s.est ∧ (State.crcGo s u v).bud = s.bud ∧ (State.crcGo s u v).thm = s.thm ∧ (State.crcGo s u v).hrd = s.hrd ∧ (State.crcGo s u v).tlm = s.tlm ∧ (State.crcGo s u v).cmd = s.cmd ∧ (State.crcGo s u v).boot = s.boot ∧ (State.crcGo s u v).adc = s.adc ∧ (State.crcGo s u v).fw = s.fw ∧ (State.crcGo s u v).lt = s.lt ∧ (State.crcGo s u v).pending = s.pending := by
  refine ⟨?_, ?_, ?_, ?_, ?_, ?_, ?_, ?_, ?_, ?_, ?_, ?_, ?_, ?_, ?_, ?_, ?_, ?_, ?_, ?_, ?_⟩ <;> (simp (maxDischargeDepth := 60) [State.crcGo, apply_ite Prod.snd])

@[simp] theorem State.crcGo_ok (s : State) (u v : Nat) (hok : s.fieldsOk) : (State.crcGo s u v).fieldsOk := by
  simp +contextual (maxDischargeDepth := 60) [State.crcGo, hok, apply_ite Prod.snd]

@[simp] theorem State.crcIdle_getF (s : State) (u : Nat) (fld : Fld) (itm : Nat) (hw : fld ∉ ([.CRC_STATUS_STATE, .CRC_VALUE_VALUE] : List Fld)) :
    (State.crcIdle s u).getF fld itm = s.getF fld itm := by
  try simp only [List.mem_cons, not_or, List.not_mem_nil, not_false_eq_true] at hw
  simp (maxDischargeDepth := 60) [State.crcIdle, hw, apply_ite Prod.snd]

@[simp] theorem State.crcIdle_parts (s : State) (u : Nat) :
    (State.crcIdle s u).time = s.time ∧ (State.crcIdle s u).cfg = s.cfg ∧ (State.crcIdle s u).raiseQ = s.raiseQ ∧ (State.crcIdle s u).out = s.out ∧ (State.crcIdle s u).flt = s.flt ∧ (State.crcIdle s u).phs = s.phs ∧ (State.crcIdle s u).dom = s.dom ∧ (State.crcIdle s u).eng = s.eng ∧ (State.crcIdle s u).start = s.start ∧ (State.crcIdle s u).est = s.est ∧ (State.crcIdle s u).bud = s.bud ∧ (State.crcIdle s u).thm = s.thm ∧ (State.crcIdle s u).hrd = s.hrd ∧ (State.crcIdle s u).tlm = s.tlm ∧ (State.crcIdle s u).cmd = s.cmd ∧ (State.crcIdle s u).boot = s.boot ∧ (State.crcIdle s u).adc = s.adc ∧ (State.crcIdle s u).fw = s.fw ∧ (State.crcIdle s u).lt = s.lt ∧ (State.crcIdle s u).pending = s.pending := by
  refine ⟨?_, ?_, ?_, ?_, ?_, ?_, ?_, ?_, ?_, ?_, ?_, ?_, ?_, ?_, ?_, ?_, ?_, ?_, ?_, ?_⟩ <;> (simp (maxDischargeDepth := 60) [State.crcIdle, apply_ite Prod.snd])

@[simp] theorem State.crcIdle_ok (s : State) (u : Nat) (hok : s.fieldsOk) : (State.crcIdle s u).fieldsOk := by
  simp +contextual (maxDischargeDepth := 60) [State.crcIdle, hok, apply_ite Prod.snd]

@[simp] theorem State.crcFeed_getF (s : State) (u : Nat) (l : List Nat) (fld : Fld) (itm : Nat) (hw : fld ∉ ([.CRC_STATUS_DROPPED, .CRC_VALUE_VALUE] : List Fld)) :
    (State.crcFeed s u l).getF fld itm = s.getF fld itm := by
  try simp only [List.mem_cons, not_or, List.not_mem_nil, not_false_eq_true] at hw
  simp (maxDischargeDepth := 60) [State.crcFeed, hw, apply_ite Prod.snd]

@[simp] theorem State.crcFeed_parts (s : State) (u : Nat) (l : List Nat) :
    (State.crcFeed s u l).time = s.time ∧ (State.crcFeed s u l).cfg = s.cfg ∧ (State.crcFeed s u l).raiseQ = s.raiseQ ∧ (State.crcFeed s u l).out = s.out ∧ (State.crcFeed s u l).freeCtr = s.freeCtr ∧ (State.crcFeed s u l).flt = s.flt ∧ (State.crcFeed s u l).phs = s.phs ∧ (State.crcFeed s u l).dom = s.dom ∧ (State.crcFeed s u l).eng = s.eng ∧ (State.crcFeed s u l).start = s.start ∧ (State.crcFeed s u l).est = s.est ∧ (State.crcFeed s u l).bud = s.bud ∧ (State.crcFeed s u l).thm = s.thm ∧ (State.crcFeed s u l).hrd = s.hrd ∧ (State.crcFeed s u l).tlm = s.tlm ∧ (State.crcFeed s u l).cmd = s.cmd ∧ (State.crcFeed s u l).boot = s.boot ∧ (State.crcFeed s u l).adc = s.adc ∧ (State.crcFeed s u l).fw = s.fw ∧ (State.crcFeed s u l).lt = s.lt ∧ (State.crcFeed s u l).pending = s.pending := by
  refine ⟨?_, ?_, ?_, ?_, ?_, ?_, ?_, ?_, ?_, ?_, ?_, ?_, ?_, ?_, ?_, ?_, ?_, ?_, ?_, ?_, ?_⟩ <;> (simp (maxDischargeDepth := 60) [State.crcFeed, apply_ite Prod.snd])

@[simp] theorem State.crcFeed_ok (s : State) (u : Nat) (l : List Nat) (hok : s.fieldsOk) : (State.crcFeed s u l).fieldsOk := by
  simp +contextual (maxDischargeDepth := 60) [State.crcFeed, hok, apply_ite Prod.snd]

@[simp] theorem State.crcEnd_getF (s : State) (u : Nat) (fld : Fld) (itm : Nat) (hw : fld ∉ ([.CRC_EVENT_MISMATCH, .CRC_RESULT_RESULT, .CRC_STATUS_DROPPED, .CRC_STATUS_MATCH, .CRC_STATUS_MISMATCH, .CRC_STATUS_MISMATCH_COUNT, .CRC_STATUS_STATE] : List Fld)) :
    (State.crcEnd s u).getF fld itm = s.getF fld itm := by
  try simp only [List.mem_cons, not_or, List.not_mem_nil, not_false_eq_true] at hw
  simp (maxDischargeDepth := 60) [State.crcEnd, hw, apply_ite Prod.snd]

@[simp] theorem State.crcEnd_parts (s : State) (u : Nat) :
    (State.crcEnd s u).time = s.time ∧ (State.crcEnd s u).cfg = s.cfg ∧ (State.crcEnd s u).raiseQ = s.raiseQ ∧ (State.crcEnd s u).freeCtr = s.freeCtr ∧ (State.crcEnd s u).flt = s.flt ∧ (State.crcEnd s u).phs = s.phs ∧ (State.crcEnd s u).dom = s.dom ∧ (State.crcEnd s u).eng = s.eng ∧ (State.crcEnd s u).start = s.start ∧ (State.crcEnd s u).est = s.est ∧ (State.crcEnd s u).bud = s.bud ∧ (State.crcEnd s u).thm = s.thm ∧ (State.crcEnd s u).hrd = s.hrd ∧ (State.crcEnd s u).tlm = s.tlm ∧ (State.crcEnd s u).cmd = s.cmd ∧ (State.crcEnd s u).boot = s.boot ∧ (State.crcEnd s u).adc = s.adc ∧ (State.crcEnd s u).fw = s.fw ∧ (State.crcEnd s u).lt = s.lt ∧ (State.crcEnd s u).pending = s.pending := by
  refine ⟨?_, ?_, ?_, ?_, ?_, ?_, ?_, ?_, ?_, ?_, ?_, ?_, ?_, ?_, ?_, ?_, ?_, ?_, ?_, ?_⟩ <;> (simp (maxDischargeDepth := 60) [State.crcEnd, apply_ite Prod.snd])

@[simp] theorem State.crcEnd_ok (s : State) (u : Nat) (hok : s.fieldsOk) : (State.crcEnd s u).fieldsOk := by
  simp +contextual (maxDischargeDepth := 60) [State.crcEnd, hok, apply_ite Prod.snd]

@[simp] theorem State.breakLease_getF (s : State) (fld : Fld) (itm : Nat) (hw : fld ∉ ([.CRC_EVENT_LEASE_BROKEN, .CRC_LEASE_HELD, .CRC_STATUS_STATE, .CRC_VALUE_VALUE] : List Fld)) :
    (State.breakLease s).getF fld itm = s.getF fld itm := by
  try simp only [List.mem_cons, not_or, List.not_mem_nil, not_false_eq_true] at hw
  simp (maxDischargeDepth := 60) [State.breakLease, hw, apply_ite Prod.snd]

@[simp] theorem State.breakLease_parts (s : State) :
    (State.breakLease s).time = s.time ∧ (State.breakLease s).cfg = s.cfg ∧ (State.breakLease s).out = s.out ∧ (State.breakLease s).flt = s.flt ∧ (State.breakLease s).phs = s.phs ∧ (State.breakLease s).dom = s.dom ∧ (State.breakLease s).eng = s.eng ∧ (State.breakLease s).start = s.start ∧ (State.breakLease s).est = s.est ∧ (State.breakLease s).bud = s.bud ∧ (State.breakLease s).thm = s.thm ∧ (State.breakLease s).hrd = s.hrd ∧ (State.breakLease s).tlm = s.tlm ∧ (State.breakLease s).cmd = s.cmd ∧ (State.breakLease s).boot = s.boot ∧ (State.breakLease s).adc = s.adc ∧ (State.breakLease s).fw = s.fw ∧ (State.breakLease s).lt = s.lt ∧ (State.breakLease s).pending = s.pending := by
  refine ⟨?_, ?_, ?_, ?_, ?_, ?_, ?_, ?_, ?_, ?_, ?_, ?_, ?_, ?_, ?_, ?_, ?_, ?_, ?_⟩ <;> (simp (maxDischargeDepth := 60) [State.breakLease, apply_ite Prod.snd])

@[simp] theorem State.breakLease_ok (s : State) (hok : s.fieldsOk) : (State.breakLease s).fieldsOk := by
  simp +contextual (maxDischargeDepth := 60) [State.breakLease, hok, apply_ite Prod.snd]

@[simp] theorem State.crcHide_getF (s : State) (u : Nat) (fld : Fld) (itm : Nat) (hw : fld ∉ ([.CRC_STATUS_MATCH, .CRC_STATUS_MISMATCH] : List Fld)) :
    (State.crcHide s u).getF fld itm = s.getF fld itm := by
  try simp only [List.mem_cons, not_or, List.not_mem_nil, not_false_eq_true] at hw
  simp (maxDischargeDepth := 60) [State.crcHide, hw, apply_ite Prod.snd]

@[simp] theorem State.crcHide_parts (s : State) (u : Nat) :
    (State.crcHide s u).time = s.time ∧ (State.crcHide s u).cfg = s.cfg ∧ (State.crcHide s u).raiseQ = s.raiseQ ∧ (State.crcHide s u).out = s.out ∧ (State.crcHide s u).freeCtr = s.freeCtr ∧ (State.crcHide s u).flt = s.flt ∧ (State.crcHide s u).phs = s.phs ∧ (State.crcHide s u).dom = s.dom ∧ (State.crcHide s u).eng = s.eng ∧ (State.crcHide s u).start = s.start ∧ (State.crcHide s u).est = s.est ∧ (State.crcHide s u).bud = s.bud ∧ (State.crcHide s u).thm = s.thm ∧ (State.crcHide s u).hrd = s.hrd ∧ (State.crcHide s u).tlm = s.tlm ∧ (State.crcHide s u).cmd = s.cmd ∧ (State.crcHide s u).boot = s.boot ∧ (State.crcHide s u).adc = s.adc ∧ (State.crcHide s u).fw = s.fw ∧ (State.crcHide s u).lt = s.lt ∧ (State.crcHide s u).pending = s.pending := by
  refine ⟨?_, ?_, ?_, ?_, ?_, ?_, ?_, ?_, ?_, ?_, ?_, ?_, ?_, ?_, ?_, ?_, ?_, ?_, ?_, ?_, ?_⟩ <;> (simp (maxDischargeDepth := 60) [State.crcHide, apply_ite Prod.snd])

@[simp] theorem State.crcHide_ok (s : State) (u : Nat) (hok : s.fieldsOk) : (State.crcHide s u).fieldsOk := by
  simp +contextual (maxDischargeDepth := 60) [State.crcHide, hok, apply_ite Prod.snd]

@[simp] theorem State.crcFail_getF (s : State) (u : Nat) (fld : Fld) (itm : Nat) (hw : fld ∉ ([.CRC_CFG_CMP_EN, .CRC_CFG_FINAL_INV, .CRC_CFG_IRQ_EN, .CRC_CFG_REFIN, .CRC_CFG_REFOUT, .CRC_CFG_WIDTH_M1, .CRC_EVENT_FAILED, .CRC_EVENT_LEASE_BROKEN, .CRC_INIT_INIT, .CRC_LEASE_HELD, .CRC_POLY_POLY, .CRC_RESULT_RESULT, .CRC_STATUS_DUTY, .CRC_STATUS_MATCH, .CRC_STATUS_MISMATCH, .CRC_STATUS_STATE, .CRC_VALUE_VALUE] : List Fld)) :
    (State.crcFail s u).getF fld itm = s.getF fld itm := by
  try simp only [List.mem_cons, not_or, List.not_mem_nil, not_false_eq_true] at hw
  simp (maxDischargeDepth := 60) [State.crcFail, hw, apply_ite Prod.snd]

@[simp] theorem State.crcFail_parts (s : State) (u : Nat) :
    (State.crcFail s u).time = s.time ∧ (State.crcFail s u).cfg = s.cfg ∧ (State.crcFail s u).out = s.out ∧ (State.crcFail s u).flt = s.flt ∧ (State.crcFail s u).phs = s.phs ∧ (State.crcFail s u).dom = s.dom ∧ (State.crcFail s u).eng = s.eng ∧ (State.crcFail s u).start = s.start ∧ (State.crcFail s u).est = s.est ∧ (State.crcFail s u).bud = s.bud ∧ (State.crcFail s u).thm = s.thm ∧ (State.crcFail s u).hrd = s.hrd ∧ (State.crcFail s u).tlm = s.tlm ∧ (State.crcFail s u).cmd = s.cmd ∧ (State.crcFail s u).boot = s.boot ∧ (State.crcFail s u).adc = s.adc ∧ (State.crcFail s u).fw = s.fw ∧ (State.crcFail s u).lt = s.lt ∧ (State.crcFail s u).pending = s.pending := by
  refine ⟨?_, ?_, ?_, ?_, ?_, ?_, ?_, ?_, ?_, ?_, ?_, ?_, ?_, ?_, ?_, ?_, ?_, ?_, ?_⟩ <;> (simp (maxDischargeDepth := 60) [State.crcFail, apply_ite Prod.snd])

@[simp] theorem State.crcFail_ok (s : State) (u : Nat) (hok : s.fieldsOk) : (State.crcFail s u).fieldsOk := by
  simp +contextual (maxDischargeDepth := 60) [State.crcFail, hok, apply_ite Prod.snd]

@[simp] theorem State.crcSettings_getF (s : State) (u reg v : Nat) (fld : Fld) (itm : Nat) (hw : fld ∉ ([.CRC_CFG_CMP_EN, .CRC_CFG_FINAL_INV, .CRC_CFG_IRQ_EN, .CRC_CFG_REFIN, .CRC_CFG_REFOUT, .CRC_CFG_WIDTH_M1, .CRC_INIT_INIT, .CRC_POLY_POLY, .CRC_STATUS_MATCH, .CRC_STATUS_MISMATCH] : List Fld)) :
    (State.crcSettings s u reg v).getF fld itm = s.getF fld itm := by
  try simp only [List.mem_cons, not_or, List.not_mem_nil, not_false_eq_true] at hw
  ((unfold State.crcSettings); (try simp only []); (repeat' split) <;> (try simp (maxDischargeDepth := 60) [hw, State.when, apply_ite Prod.snd]))

@[simp] theorem State.crcSettings_parts (s : State) (u reg v : Nat) :
    (State.crcSettings s u reg v).time = s.time ∧ (State.crcSettings s u reg v).cfg = s.cfg ∧ (State.crcSettings s u reg v).raiseQ = s.raiseQ ∧ (State.crcSettings s u reg v).out = s.out ∧ (State.crcSettings s u reg v).freeCtr = s.freeCtr ∧ (State.crcSettings s u reg v).flt = s.flt ∧ (State.crcSettings s u reg v).phs = s.phs ∧ (State.crcSettings s u reg v).dom = s.dom ∧ (State.crcSettings s u reg v).eng = s.eng ∧ (State.crcSettings s u reg v).start = s.start ∧ (State.crcSettings s u reg v).est = s.est ∧ (State.crcSettings s u reg v).bud = s.bud ∧ (State.crcSettings s u reg v).thm = s.thm ∧ (State.crcSettings s u reg v).hrd = s.hrd ∧ (State.crcSettings s u reg v).tlm = s.tlm ∧ (State.crcSettings s u reg v).cmd = s.cmd ∧ (State.crcSettings s u reg v).boot = s.boot ∧ (State.crcSettings s u reg v).adc = s.adc ∧ (State.crcSettings s u reg v).fw = s.fw ∧ (State.crcSettings s u reg v).lt = s.lt ∧ (State.crcSettings s u reg v).pending = s.pending := by
  refine ⟨?_, ?_, ?_, ?_, ?_, ?_, ?_, ?_, ?_, ?_, ?_, ?_, ?_, ?_, ?_, ?_, ?_, ?_, ?_, ?_, ?_⟩ <;> ((unfold State.crcSettings); (try simp only []); (repeat' split) <;> (try simp (maxDischargeDepth := 60) [State.when, apply_ite Prod.snd]))

@[simp] theorem State.crcSettings_ok (s : State) (u reg v : Nat) (hok : s.fieldsOk) : (State.crcSettings s u reg v).fieldsOk := by
  ((unfold State.crcSettings); (try simp only []); (repeat' split) <;> (try simp +contextual (maxDischargeDepth := 60) [hok, State.when, apply_ite Prod.snd]))

end Sys2Proof.Machine
end

