-- ==== Sys2Proof/Laws/CommandOps.lean ====
section
/-! SUPPORT. What each command path operation can do: the fields it may write, the parts of the state it keeps, and that it keeps
the register table in its canonical form. -/

namespace Sys2Proof.Machine
open Host (Outcome)
set_option maxRecDepth 4000
set_option linter.unusedSimpArgs false
set_option linter.unusedVariables false
set_option linter.unreachableTactic false
set_option linter.unusedTactic false

@[simp] theorem State.notice_getF (s : State) (typ arg : Nat) (fld : Fld) (itm : Nat) (hw : fld ∉ ([.CMD_NOTICE0_ARG, .CMD_NOTICE0_TYPE, .CMD_NOTICE1_TIME_LO, .CMD_NOTICE_SEQ_NSEQ, .CMD_PART_SLOTS_NOTICE_NEW] : List Fld)) :
    (State.notice s typ arg).getF fld itm = s.getF fld itm := by
  try simp only [List.mem_cons, not_or, List.not_mem_nil, not_false_eq_true] at hw
  simp (maxDischargeDepth := 60) [State.notice, hw, apply_ite Prod.snd]

@[simp] theorem State.notice_parts (s : State) (typ arg : Nat) :
    (State.notice s typ arg).time = s.time ∧ (State.notice s typ arg).cfg = s.cfg ∧ (State.notice s typ arg).raiseQ = s.raiseQ ∧ (State.notice s typ arg).out = s.out ∧ (State.notice s typ arg).freeCtr = s.freeCtr ∧ (State.notice s typ arg).flt = s.flt ∧ (State.notice s typ arg).phs = s.phs ∧ (State.notice s typ arg).dom = s.dom ∧ (State.notice s typ arg).eng = s.eng ∧ (State.notice s typ arg).start = s.start ∧ (State.notice s typ arg).est = s.est ∧ (State.notice s typ arg).bud = s.bud ∧ (State.notice s typ arg).thm = s.thm ∧ (State.notice s typ arg).hrd = s.hrd ∧ (State.notice s typ arg).tlm = s.tlm ∧ (State.notice s typ arg).cmd = s.cmd ∧ (State.notice s typ arg).boot = s.boot ∧ (State.notice s typ arg).adc = s.adc ∧ (State.notice s typ arg).fw = s.fw ∧ (State.notice s typ arg).lt = s.lt ∧ (State.notice s typ arg).pending = s.pending := by
  refine ⟨?_, ?_, ?_, ?_, ?_, ?_, ?_, ?_, ?_, ?_, ?_, ?_, ?_, ?_, ?_, ?_, ?_, ?_, ?_, ?_, ?_⟩ <;> (simp (maxDischargeDepth := 60) [State.notice, apply_ite Prod.snd])

@[simp] theorem State.notice_ok (s : State) (typ arg : Nat) (hok : s.fieldsOk) : (State.notice s typ arg).fieldsOk := by
  simp +contextual (maxDischargeDepth := 60) [State.notice, hok, apply_ite Prod.snd]

@[simp] theorem State.setBusy_getF (s : State) (k : Nat) (b : Bool) (fld : Fld) (itm : Nat) (hw : fld ∉ ([.CMD_PART_SLOTS_BUSY] : List Fld)) :
    (State.setBusy s k b).getF fld itm = s.getF fld itm := by
  try simp only [List.mem_cons, not_or, List.not_mem_nil, not_false_eq_true] at hw
  simp (maxDischargeDepth := 60) [State.setBusy, hw, apply_ite Prod.snd]

@[simp] theorem State.setBusy_parts (s : State) (k : Nat) (b : Bool) :
    (State.setBusy s k b).time = s.time ∧ (State.setBusy s k b).cfg = s.cfg ∧ (State.setBusy s k b).raiseQ = s.raiseQ ∧ (State.setBusy s k b).out = s.out ∧ (State.setBusy s k b).freeCtr = s.freeCtr ∧ (State.setBusy s k b).flt = s.flt ∧ (State.setBusy s k b).phs = s.phs ∧ (State.setBusy s k b).dom = s.dom ∧ (State.setBusy s k b).eng = s.eng ∧ (State.setBusy s k b).start = s.start ∧ (State.setBusy s k b).est = s.est ∧ (State.setBusy s k b).bud = s.bud ∧ (State.setBusy s k b).thm = s.thm ∧ (State.setBusy s k b).hrd = s.hrd ∧ (State.setBusy s k b).tlm = s.tlm ∧ (State.setBusy s k b).cmd = s.cmd ∧ (State.setBusy s k b).boot = s.boot ∧ (State.setBusy s k b).adc = s.adc ∧ (State.setBusy s k b).fw = s.fw ∧ (State.setBusy s k b).lt = s.lt ∧ (State.setBusy s k b).pending = s.pending := by
  refine ⟨?_, ?_, ?_, ?_, ?_, ?_, ?_, ?_, ?_, ?_, ?_, ?_, ?_, ?_, ?_, ?_, ?_, ?_, ?_, ?_, ?_⟩ <;> (simp (maxDischargeDepth := 60) [State.setBusy, apply_ite Prod.snd])

@[simp] theorem State.setBusy_ok (s : State) (k : Nat) (b : Bool) (hok : s.fieldsOk) : (State.setBusy s k b).fieldsOk := by
  simp +contextual (maxDischargeDepth := 60) [State.setBusy, hok, apply_ite Prod.snd]

@[simp] theorem State.putFlight_getF (s : State) (k : Nat) (f : InFlight) (fld : Fld) (itm : Nat) (hw : fld ∉ ([.CMD_PART_SLOTS_BUSY] : List Fld)) :
    (State.putFlight s k f).getF fld itm = s.getF fld itm := by
  try simp only [List.mem_cons, not_or, List.not_mem_nil, not_false_eq_true] at hw
  simp (maxDischargeDepth := 60) [State.putFlight, hw, apply_ite Prod.snd]

@[simp] theorem State.putFlight_parts (s : State) (k : Nat) (f : InFlight) :
    (State.putFlight s k f).time = s.time ∧ (State.putFlight s k f).cfg = s.cfg ∧ (State.putFlight s k f).raiseQ = s.raiseQ ∧ (State.putFlight s k f).out = s.out ∧ (State.putFlight s k f).freeCtr = s.freeCtr ∧ (State.putFlight s k f).flt = s.flt ∧ (State.putFlight s k f).phs = s.phs ∧ (State.putFlight s k f).dom = s.dom ∧ (State.putFlight s k f).eng = s.eng ∧ (State.putFlight s k f).start = s.start ∧ (State.putFlight s k f).est = s.est ∧ (State.putFlight s k f).bud = s.bud ∧ (State.putFlight s k f).thm = s.thm ∧ (State.putFlight s k f).hrd = s.hrd ∧ (State.putFlight s k f).tlm = s.tlm ∧ (State.putFlight s k f).boot = s.boot ∧ (State.putFlight s k f).adc = s.adc ∧ (State.putFlight s k f).fw = s.fw ∧ (State.putFlight s k f).lt = s.lt ∧ (State.putFlight s k f).pending = s.pending := by
  refine ⟨?_, ?_, ?_, ?_, ?_, ?_, ?_, ?_, ?_, ?_, ?_, ?_, ?_, ?_, ?_, ?_, ?_, ?_, ?_, ?_⟩ <;> (simp (maxDischargeDepth := 60) [State.putFlight, apply_ite Prod.snd])

@[simp] theorem State.putFlight_ok (s : State) (k : Nat) (f : InFlight) (hok : s.fieldsOk) : (State.putFlight s k f).fieldsOk := by
  simp +contextual (maxDischargeDepth := 60) [State.putFlight, hok, apply_ite Prod.snd]

@[simp] theorem State.setPhase_getF (s : State) (k : Nat) (ph : PktPhase) (fld : Fld) (itm : Nat) (hw : fld ∉ ([] : List Fld)) :
    (State.setPhase s k ph).getF fld itm = s.getF fld itm := by
  try simp only [List.mem_cons, not_or, List.not_mem_nil, not_false_eq_true] at hw
  simp (maxDischargeDepth := 60) [State.setPhase, hw, apply_ite Prod.snd]

@[simp] theorem State.setPhase_parts (s : State) (k : Nat) (ph : PktPhase) :
    (State.setPhase s k ph).time = s.time ∧ (State.setPhase s k ph).cfg = s.cfg ∧ (State.setPhase s k ph).raiseQ = s.raiseQ ∧ (State.setPhase s k ph).out = s.out ∧ (State.setPhase s k ph).freeCtr = s.freeCtr ∧ (State.setPhase s k ph).flt = s.flt ∧ (State.setPhase s k ph).phs = s.phs ∧ (State.setPhase s k ph).dom = s.dom ∧ (State.setPhase s k ph).eng = s.eng ∧ (State.setPhase s k ph).start = s.start ∧ (State.setPhase s k ph).est = s.est ∧ (State.setPhase s k ph).bud = s.bud ∧ (State.setPhase s k ph).thm = s.thm ∧ (State.setPhase s k ph).hrd = s.hrd ∧ (State.setPhase s k ph).tlm = s.tlm ∧ (State.setPhase s k ph).boot = s.boot ∧ (State.setPhase s k ph).adc = s.adc ∧ (State.setPhase s k ph).fw = s.fw ∧ (State.setPhase s k ph).lt = s.lt ∧ (State.setPhase s k ph).pending = s.pending := by
  refine ⟨?_, ?_, ?_, ?_, ?_, ?_, ?_, ?_, ?_, ?_, ?_, ?_, ?_, ?_, ?_, ?_, ?_, ?_, ?_, ?_⟩ <;> (simp (maxDischargeDepth := 60) [State.setPhase, apply_ite Prod.snd])

@[simp] theorem State.setPhase_ok (s : State) (k : Nat) (ph : PktPhase) (hok : s.fieldsOk) : (State.setPhase s k ph).fieldsOk := by
  simp +contextual (maxDischargeDepth := 60) [State.setPhase, hok, apply_ite Prod.snd]

@[simp] theorem State.setPartner_getF (s : State) (p : Nat) (x : Partner) (fld : Fld) (itm : Nat) (hw : fld ∉ ([] : List Fld)) :
    (State.setPartner s p x).getF fld itm = s.getF fld itm := by
  try simp only [List.mem_cons, not_or, List.not_mem_nil, not_false_eq_true] at hw
  simp (maxDischargeDepth := 60) [State.setPartner, hw, apply_ite Prod.snd]

@[simp] theorem State.setPartner_parts (s : State) (p : Nat) (x : Partner) :
    (State.setPartner s p x).time = s.time ∧ (State.setPartner s p x).cfg = s.cfg ∧ (State.setPartner s p x).raiseQ = s.raiseQ ∧ (State.setPartner s p x).out = s.out ∧ (State.setPartner s p x).freeCtr = s.freeCtr ∧ (State.setPartner s p x).flt = s.flt ∧ (State.setPartner s p x).phs = s.phs ∧ (State.setPartner s p x).dom = s.dom ∧ (State.setPartner s p x).eng = s.eng ∧ (State.setPartner s p x).start = s.start ∧ (State.setPartner s p x).est = s.est ∧ (State.setPartner s p x).bud = s.bud ∧ (State.setPartner s p x).thm = s.thm ∧ (State.setPartner s p x).hrd = s.hrd ∧ (State.setPartner s p x).tlm = s.tlm ∧ (State.setPartner s p x).boot = s.boot ∧ (State.setPartner s p x).adc = s.adc ∧ (State.setPartner s p x).fw = s.fw ∧ (State.setPartner s p x).lt = s.lt ∧ (State.setPartner s p x).pending = s.pending := by
  refine ⟨?_, ?_, ?_, ?_, ?_, ?_, ?_, ?_, ?_, ?_, ?_, ?_, ?_, ?_, ?_, ?_, ?_, ?_, ?_, ?_⟩ <;> (simp (maxDischargeDepth := 60) [State.setPartner, apply_ite Prod.snd])

@[simp] theorem State.setPartner_ok (s : State) (p : Nat) (x : Partner) (hok : s.fieldsOk) : (State.setPartner s p x).fieldsOk := by
  simp +contextual (maxDischargeDepth := 60) [State.setPartner, hok, apply_ite Prod.snd]

@[simp] theorem State.writeReply_getF (s : State) (k : Nat) (words : List Nat) (fld : Fld) (itm : Nat) (hw : fld ∉ ([.CMD_PART_SLOTS_NEW] : List Fld)) :
    (State.writeReply s k words).getF fld itm = s.getF fld itm := by
  try simp only [List.mem_cons, not_or, List.not_mem_nil, not_false_eq_true] at hw
  simp (maxDischargeDepth := 60) [State.writeReply, hw, apply_ite Prod.snd]

@[simp] theorem State.writeReply_parts (s : State) (k : Nat) (words : List Nat) :
    (State.writeReply s k words).time = s.time ∧ (State.writeReply s k words).cfg = s.cfg ∧ (State.writeReply s k words).raiseQ = s.raiseQ ∧ (State.writeReply s k words).out = s.out ∧ (State.writeReply s k words).freeCtr = s.freeCtr ∧ (State.writeReply s k words).flt = s.flt ∧ (State.writeReply s k words).phs = s.phs ∧ (State.writeReply s k words).dom = s.dom ∧ (State.writeReply s k words).eng = s.eng ∧ (State.writeReply s k words).start = s.start ∧ (State.writeReply s k words).est = s.est ∧ (State.writeReply s k words).bud = s.bud ∧ (State.writeReply s k words).thm = s.thm ∧ (State.writeReply s k words).hrd = s.hrd ∧ (State.writeReply s k words).tlm = s.tlm ∧ (State.writeReply s k words).boot = s.boot ∧ (State.writeReply s k words).adc = s.adc ∧ (State.writeReply s k words).fw = s.fw ∧ (State.writeReply s k words).lt = s.lt ∧ (State.writeReply s k words).pending = s.pending := by
  refine ⟨?_, ?_, ?_, ?_, ?_, ?_, ?_, ?_, ?_, ?_, ?_, ?_, ?_, ?_, ?_, ?_, ?_, ?_, ?_, ?_⟩ <;> (simp (maxDischargeDepth := 60) [State.writeReply, apply_ite Prod.snd])

@[simp] theorem State.writeReply_ok (s : State) (k : Nat) (words : List Nat) (hok : s.fieldsOk) : (State.writeReply s k words).fieldsOk := by
  simp +contextual (maxDischargeDepth := 60) [State.writeReply, hok, apply_ite Prod.snd]

@[simp] theorem State.answerSlot_getF (s : State) (k : Nat) (words : List Nat) (fld : Fld) (itm : Nat) (hw : fld ∉ ([.CMD_PART_SLOTS_BUSY, .CMD_PART_SLOTS_NEW] : List Fld)) :
    (State.answerSlot s k words).getF fld itm = s.getF fld itm := by
  try simp only [List.mem_cons, not_or, List.not_mem_nil, not_false_eq_true] at hw
  simp (maxDischargeDepth := 60) [State.answerSlot, hw, apply_ite Prod.snd]

@[simp] theorem State.answerSlot_parts (s : State) (k : Nat) (words : List Nat) :
    (State.answerSlot s k words).time = s.time ∧ (State.answerSlot s k words).cfg = s.cfg ∧ (State.answerSlot s k words).raiseQ = s.raiseQ ∧ (State.answerSlot s k words).out = s.out ∧ (State.answerSlot s k words).freeCtr = s.freeCtr ∧ (State.answerSlot s k words).flt = s.flt ∧ (State.answerSlot s k words).phs = s.phs ∧ (State.answerSlot s k words).dom = s.dom ∧ (State.answerSlot s k words).eng = s.eng ∧ (State.answerSlot s k words).start = s.start ∧ (State.answerSlot s k words).est = s.est ∧ (State.answerSlot s k words).bud = s.bud ∧ (State.answerSlot s k words).thm = s.thm ∧ (State.answerSlot s k words).hrd = s.hrd ∧ (State.answerSlot s k words).tlm = s.tlm ∧ (State.answerSlot s k words).boot = s.boot ∧ (State.answerSlot s k words).adc = s.adc ∧ (State.answerSlot s k words).fw = s.fw ∧ (State.answerSlot s k words).lt = s.lt ∧ (State.answerSlot s k words).pending = s.pending := by
  refine ⟨?_, ?_, ?_, ?_, ?_, ?_, ?_, ?_, ?_, ?_, ?_, ?_, ?_, ?_, ?_, ?_, ?_, ?_, ?_, ?_⟩ <;> (simp (maxDischargeDepth := 60) [State.answerSlot, apply_ite Prod.snd])

@[simp] theorem State.answerSlot_ok (s : State) (k : Nat) (words : List Nat) (hok : s.fieldsOk) : (State.answerSlot s k words).fieldsOk := by
  simp +contextual (maxDischargeDepth := 60) [State.answerSlot, hok, apply_ite Prod.snd]

@[simp] theorem State.failReply_getF (s : State) (k : Nat) (p : Packet) (st : Nat) (payload : List Nat) (fld : Fld) (itm : Nat) (hw : fld ∉ ([.CMD_PART_SLOTS_BUSY, .CMD_PART_SLOTS_NEW, .CRC_EVENT_MISMATCH, .CRC_RESULT_RESULT, .CRC_STATUS_MATCH, .CRC_STATUS_MISMATCH, .CRC_STATUS_MISMATCH_COUNT, .CRC_STATUS_STATE, .CRC_VALUE_VALUE] : List Fld)) :
    (State.failReply s k p st payload).getF fld itm = s.getF fld itm := by
  try simp only [List.mem_cons, not_or, List.not_mem_nil, not_false_eq_true] at hw
  simp (maxDischargeDepth := 60) [State.failReply, hw, apply_ite Prod.snd]

@[simp] theorem State.failReply_parts (s : State) (k : Nat) (p : Packet) (st : Nat) (payload : List Nat) :
    (State.failReply s k p st payload).time = s.time ∧ (State.failReply s k p st payload).cfg = s.cfg ∧ (State.failReply s k p st payload).raiseQ = s.raiseQ ∧ (State.failReply s k p st payload).freeCtr = s.freeCtr ∧ (State.failReply s k p st payload).flt = s.flt ∧ (State.failReply s k p st payload).phs = s.phs ∧ (State.failReply s k p st payload).dom = s.dom ∧ (State.failReply s k p st payload).eng = s.eng ∧ (State.failReply s k p st payload).start = s.start ∧ (State.failReply s k p st payload).est = s.est ∧ (State.failReply s k p st payload).bud = s.bud ∧ (State.failReply s k p st payload).thm = s.thm ∧ (State.failReply s k p st payload).hrd = s.hrd ∧ (State.failReply s k p st payload).tlm = s.tlm ∧ (State.failReply s k p st payload).boot = s.boot ∧ (State.failReply s k p st payload).adc = s.adc ∧ (State.failReply s k p st payload).fw = s.fw ∧ (State.failReply s k p st payload).lt = s.lt ∧ (State.failReply s k p st payload).pending = s.pending := by
  refine ⟨?_, ?_, ?_, ?_, ?_, ?_, ?_, ?_, ?_, ?_, ?_, ?_, ?_, ?_, ?_, ?_, ?_, ?_, ?_⟩ <;> (simp (maxDischargeDepth := 60) [State.failReply, apply_ite Prod.snd])

@[simp] theorem State.failReply_ok (s : State) (k : Nat) (p : Packet) (st : Nat) (payload : List Nat) (hok : s.fieldsOk) : (State.failReply s k p st payload).fieldsOk := by
  simp +contextual (maxDischargeDepth := 60) [State.failReply, hok, apply_ite Prod.snd]

@[simp] theorem State.restartLease_getF (s : State) (set : Nat) (fld : Fld) (itm : Nat) (hw : fld ∉ ([.CMD_PART_ID_STATE] : List Fld)) :
    (State.restartLease s set).getF fld itm = s.getF fld itm := by
  try simp only [List.mem_cons, not_or, List.not_mem_nil, not_false_eq_true] at hw
  simp (maxDischargeDepth := 60) [State.restartLease, hw, apply_ite Prod.snd]

@[simp] theorem State.restartLease_parts (s : State) (set : Nat) :
    (State.restartLease s set).time = s.time ∧ (State.restartLease s set).cfg = s.cfg ∧ (State.restartLease s set).raiseQ = s.raiseQ ∧ (State.restartLease s set).out = s.out ∧ (State.restartLease s set).freeCtr = s.freeCtr ∧ (State.restartLease s set).flt = s.flt ∧ (State.restartLease s set).phs = s.phs ∧ (State.restartLease s set).dom = s.dom ∧ (State.restartLease s set).eng = s.eng ∧ (State.restartLease s set).start = s.start ∧ (State.restartLease s set).est = s.est ∧ (State.restartLease s set).bud = s.bud ∧ (State.restartLease s set).thm = s.thm ∧ (State.restartLease s set).hrd = s.hrd ∧ (State.restartLease s set).tlm = s.tlm ∧ (State.restartLease s set).boot = s.boot ∧ (State.restartLease s set).adc = s.adc ∧ (State.restartLease s set).fw = s.fw ∧ (State.restartLease s set).lt = s.lt ∧ (State.restartLease s set).pending = s.pending := by
  refine ⟨?_, ?_, ?_, ?_, ?_, ?_, ?_, ?_, ?_, ?_, ?_, ?_, ?_, ?_, ?_, ?_, ?_, ?_, ?_, ?_⟩ <;> (simp (maxDischargeDepth := 60) [State.restartLease, apply_ite Prod.snd])

@[simp] theorem State.restartLease_ok (s : State) (set : Nat) (hok : s.fieldsOk) : (State.restartLease s set).fieldsOk := by
  simp +contextual (maxDischargeDepth := 60) [State.restartLease, hok, apply_ite Prod.snd]

@[simp] theorem State.replyRaw_getF (s : State) (k st : Nat) (payload : List Nat) (fld : Fld) (itm : Nat) (hw : fld ∉ ([.CMD_PART_SLOTS_BUSY, .CMD_PART_SLOTS_NEW, .CRC_EVENT_MISMATCH, .CRC_RESULT_RESULT, .CRC_STATUS_MATCH, .CRC_STATUS_MISMATCH, .CRC_STATUS_MISMATCH_COUNT, .CRC_STATUS_STATE, .CRC_VALUE_VALUE] : List Fld)) :
    (State.replyRaw s k st payload).getF fld itm = s.getF fld itm := by
  try simp only [List.mem_cons, not_or, List.not_mem_nil, not_false_eq_true] at hw
  ((unfold State.replyRaw); (try simp only []); (repeat' split) <;> (try simp (maxDischargeDepth := 60) [hw, State.when, apply_ite Prod.snd]))

@[simp] theorem State.replyRaw_parts (s : State) (k st : Nat) (payload : List Nat) :
    (State.replyRaw s k st payload).time = s.time ∧ (State.replyRaw s k st payload).cfg = s.cfg ∧ (State.replyRaw s k st payload).raiseQ = s.raiseQ ∧ (State.replyRaw s k st payload).freeCtr = s.freeCtr ∧ (State.replyRaw s k st payload).flt = s.flt ∧ (State.replyRaw s k st payload).phs = s.phs ∧ (State.replyRaw s k st payload).dom = s.dom ∧ (State.replyRaw s k st payload).eng = s.eng ∧ (State.replyRaw s k st payload).start = s.start ∧ (State.replyRaw s k st payload).est = s.est ∧ (State.replyRaw s k st payload).bud = s.bud ∧ (State.replyRaw s k st payload).thm = s.thm ∧ (State.replyRaw s k st payload).hrd = s.hrd ∧ (State.replyRaw s k st payload).tlm = s.tlm ∧ (State.replyRaw s k st payload).boot = s.boot ∧ (State.replyRaw s k st payload).adc = s.adc ∧ (State.replyRaw s k st payload).fw = s.fw ∧ (State.replyRaw s k st payload).lt = s.lt ∧ (State.replyRaw s k st payload).pending = s.pending := by
  refine ⟨?_, ?_, ?_, ?_, ?_, ?_, ?_, ?_, ?_, ?_, ?_, ?_, ?_, ?_, ?_, ?_, ?_, ?_, ?_⟩ <;> ((unfold State.replyRaw); (try simp only []); (repeat' split) <;> (try simp (maxDischargeDepth := 60) [State.when, apply_ite Prod.snd]))

@[simp] theorem State.replyRaw_ok (s : State) (k st : Nat) (payload : List Nat) (hok : s.fieldsOk) : (State.replyRaw s k st payload).fieldsOk := by
  ((unfold State.replyRaw); (try simp only []); (repeat' split) <;> (try simp +contextual (maxDischargeDepth := 60) [hok, State.when, apply_ite Prod.snd]))

@[simp] theorem State.passOn_getF (s : State) (k : Nat) (fld : Fld) (itm : Nat) (hw : fld ∉ ([] : List Fld)) :
    (State.passOn s k).getF fld itm = s.getF fld itm := by
  try simp only [List.mem_cons, not_or, List.not_mem_nil, not_false_eq_true] at hw
  simp (maxDischargeDepth := 60) [State.passOn, hw, apply_ite Prod.snd]

@[simp] theorem State.passOn_parts (s : State) (k : Nat) :
    (State.passOn s k).time = s.time ∧ (State.passOn s k).cfg = s.cfg ∧ (State.passOn s k).raiseQ = s.raiseQ ∧ (State.passOn s k).out = s.out ∧ (State.passOn s k).freeCtr = s.freeCtr ∧ (State.passOn s k).flt = s.flt ∧ (State.passOn s k).phs = s.phs ∧ (State.passOn s k).dom = s.dom ∧ (State.passOn s k).eng = s.eng ∧ (State.passOn s k).start = s.start ∧ (State.passOn s k).est = s.est ∧ (State.passOn s k).bud = s.bud ∧ (State.passOn s k).thm = s.thm ∧ (State.passOn s k).hrd = s.hrd ∧ (State.passOn s k).tlm = s.tlm ∧ (State.passOn s k).boot = s.boot ∧ (State.passOn s k).adc = s.adc ∧ (State.passOn s k).fw = s.fw ∧ (State.passOn s k).lt = s.lt ∧ (State.passOn s k).pending = s.pending := by
  refine ⟨?_, ?_, ?_, ?_, ?_, ?_, ?_, ?_, ?_, ?_, ?_, ?_, ?_, ?_, ?_, ?_, ?_, ?_, ?_, ?_⟩ <;> (simp (maxDischargeDepth := 60) [State.passOn, apply_ite Prod.snd])

@[simp] theorem State.passOn_ok (s : State) (k : Nat) (hok : s.fieldsOk) : (State.passOn s k).fieldsOk := by
  simp +contextual (maxDischargeDepth := 60) [State.passOn, hok, apply_ite Prod.snd]

@[simp] theorem State.takePacket_getF (s : State) (k : Nat) (f : InFlight) (fld : Fld) (itm : Nat) (hw : fld ∉ ([.CMD_PART_ID_STATE, .CMD_PART_SLOTS_BUSY, .CMD_PART_SLOTS_NEW, .CRC_EVENT_MISMATCH, .CRC_RESULT_RESULT, .CRC_STATUS_MATCH, .CRC_STATUS_MISMATCH, .CRC_STATUS_MISMATCH_COUNT, .CRC_STATUS_STATE, .CRC_VALUE_VALUE] : List Fld)) :
    (State.takePacket s k f).getF fld itm = s.getF fld itm := by
  try simp only [List.mem_cons, not_or, List.not_mem_nil, not_false_eq_true] at hw
  ((unfold State.takePacket); (try simp only []); (repeat' split) <;> (try simp (maxDischargeDepth := 60) [hw, State.when, apply_ite Prod.snd]))

@[simp] theorem State.takePacket_time (s : State) (k : Nat) (f : InFlight) :
    (State.takePacket s k f).time = s.time := by
  unfold State.takePacket
  simp only []
  repeat' split
  all_goals simp (maxDischargeDepth := 60)

@[simp] theorem State.takePacket_cfg (s : State) (k : Nat) (f : InFlight) :
    (State.takePacket s k f).cfg = s.cfg := by
  unfold State.takePacket
  simp only []
  repeat' split
  all_goals simp (maxDischargeDepth := 60)

@[simp] theorem State.takePacket_raiseQ (s : State) (k : Nat) (f : InFlight) :
    (State.takePacket s k f).raiseQ = s.raiseQ := by
  unfold State.takePacket
  simp only []
  repeat' split
  all_goals simp (maxDischargeDepth := 60)

@[simp] theorem State.takePacket_freeCtr (s : State) (k : Nat) (f : InFlight) :
    (State.takePacket s k f).freeCtr = s.freeCtr := by
  unfold State.takePacket
  simp only []
  repeat' split
  all_goals simp (maxDischargeDepth := 60)

@[simp] theorem State.takePacket_flt (s : State) (k : Nat) (f : InFlight) :
    (State.takePacket s k f).flt = s.flt := by
  unfold State.takePacket
  simp only []
  repeat' split
  all_goals simp (maxDischargeDepth := 60)

@[simp] theorem State.takePacket_phs (s : State) (k : Nat) (f : InFlight) :
    (State.takePacket s k f).phs = s.phs := by
  unfold State.takePacket
  simp only []
  repeat' split
  all_goals simp (maxDischargeDepth := 60)

@[simp] theorem State.takePacket_dom (s : State) (k : Nat) (f : InFlight) :
    (State.takePacket s k f).dom = s.dom := by
  unfold State.takePacket
  simp only []
  repeat' split
  all_goals simp (maxDischargeDepth := 60)

@[simp] theorem State.takePacket_eng (s : State) (k : Nat) (f : InFlight) :
    (State.takePacket s k f).eng = s.eng := by
  unfold State.takePacket
  simp only []
  repeat' split
  all_goals simp (maxDischargeDepth := 60)

@[simp] theorem State.takePacket_start (s : State) (k : Nat) (f : InFlight) :
    (State.takePacket s k f).start = s.start := by
  unfold State.takePacket
  simp only []
  repeat' split
  all_goals simp (maxDischargeDepth := 60)

@[simp] theorem State.takePacket_est (s : State) (k : Nat) (f : InFlight) :
    (State.takePacket s k f).est = s.est := by
  unfold State.takePacket
  simp only []
  repeat' split
  all_goals simp (maxDischargeDepth := 60)

@[simp] theorem State.takePacket_bud (s : State) (k : Nat) (f : InFlight) :
    (State.takePacket s k f).bud = s.bud := by
  unfold State.takePacket
  simp only []
  repeat' split
  all_goals simp (maxDischargeDepth := 60)

@[simp] theorem State.takePacket_thm (s : State) (k : Nat) (f : InFlight) :
    (State.takePacket s k f).thm = s.thm := by
  unfold State.takePacket
  simp only []
  repeat' split
  all_goals simp (maxDischargeDepth := 60)

@[simp] theorem State.takePacket_hrd (s : State) (k : Nat) (f : InFlight) :
    (State.takePacket s k f).hrd = s.hrd := by
  unfold State.takePacket
  simp only []
  repeat' split
  all_goals simp (maxDischargeDepth := 60)

@[simp] theorem State.takePacket_tlm (s : State) (k : Nat) (f : InFlight) :
    (State.takePacket s k f).tlm = s.tlm := by
  unfold State.takePacket
  simp only []
  repeat' split
  all_goals simp (maxDischargeDepth := 60)

@[simp] theorem State.takePacket_boot (s : State) (k : Nat) (f : InFlight) :
    (State.takePacket s k f).boot = s.boot := by
  unfold State.takePacket
  simp only []
  repeat' split
  all_goals simp (maxDischargeDepth := 60)

@[simp] theorem State.takePacket_adc (s : State) (k : Nat) (f : InFlight) :
    (State.takePacket s k f).adc = s.adc := by
  unfold State.takePacket
  simp only []
  repeat' split
  all_goals simp (maxDischargeDepth := 60)

@[simp] theorem State.takePacket_fw (s : State) (k : Nat) (f : InFlight) :
    (State.takePacket s k f).fw = s.fw := by
  unfold State.takePacket
  simp only []
  repeat' split
  all_goals simp (maxDischargeDepth := 60)

@[simp] theorem State.takePacket_lt (s : State) (k : Nat) (f : InFlight) :
    (State.takePacket s k f).lt = s.lt := by
  unfold State.takePacket
  simp only []
  repeat' split
  all_goals simp (maxDischargeDepth := 60)

@[simp] theorem State.takePacket_pending (s : State) (k : Nat) (f : InFlight) :
    (State.takePacket s k f).pending = s.pending := by
  unfold State.takePacket
  simp only []
  repeat' split
  all_goals simp (maxDischargeDepth := 60)

@[simp] theorem State.takePacket_ok (s : State) (k : Nat) (f : InFlight) (hok : s.fieldsOk) : (State.takePacket s k f).fieldsOk := by
  ((unfold State.takePacket); (try simp only []); (repeat' split) <;> (try simp +contextual (maxDischargeDepth := 60) [hok, State.when, apply_ite Prod.snd]))

@[simp] theorem State.serveN_getF (n : Nat) (s : State) (fld : Fld) (itm : Nat) (hw : fld ∉ ([.CMD_PART_ID_STATE, .CMD_PART_SLOTS_BUSY, .CMD_PART_SLOTS_NEW, .CRC_EVENT_MISMATCH, .CRC_RESULT_RESULT, .CRC_STATUS_MATCH, .CRC_STATUS_MISMATCH, .CRC_STATUS_MISMATCH_COUNT, .CRC_STATUS_STATE, .CRC_VALUE_VALUE] : List Fld)) :
    (State.serveN n s).getF fld itm = s.getF fld itm := by
  try simp only [List.mem_cons, not_or, List.not_mem_nil, not_false_eq_true] at hw
  induction n generalizing s with
  | zero => rfl
  | succ n ih =>
    unfold State.serveN
    split
    · rfl
    · simp (maxDischargeDepth := 60) [ih, hw]

@[simp] theorem State.serveN_parts (n : Nat) (s : State) :
    (State.serveN n s).time = s.time ∧ (State.serveN n s).cfg = s.cfg ∧ (State.serveN n s).raiseQ = s.raiseQ ∧ (State.serveN n s).freeCtr = s.freeCtr ∧ (State.serveN n s).flt = s.flt ∧ (State.serveN n s).phs = s.phs ∧ (State.serveN n s).dom = s.dom ∧ (State.serveN n s).eng = s.eng ∧ (State.serveN n s).start = s.start ∧ (State.serveN n s).est = s.est ∧ (State.serveN n s).bud = s.bud ∧ (State.serveN n s).thm = s.thm ∧ (State.serveN n s).hrd = s.hrd ∧ (State.serveN n s).tlm = s.tlm ∧ (State.serveN n s).boot = s.boot ∧ (State.serveN n s).adc = s.adc ∧ (State.serveN n s).fw = s.fw ∧ (State.serveN n s).lt = s.lt ∧ (State.serveN n s).pending = s.pending := by
  induction n generalizing s with
  | zero => simp [State.serveN]
  | succ n ih =>
    unfold State.serveN
    split
    · simp
    · simp (maxDischargeDepth := 60) [ih]

@[simp] theorem State.serveN_ok (n : Nat) (s : State) (hok : s.fieldsOk) : (State.serveN n s).fieldsOk := by
  induction n generalizing s with
  | zero => exact hok
  | succ n ih =>
    unfold State.serveN
    split
    · exact hok
    · exact ih _ (State.takePacket_ok _ _ _ hok)

@[simp] theorem State.serveIntake_getF (s : State) (fld : Fld) (itm : Nat) (hw : fld ∉ ([.CMD_PART_ID_STATE, .CMD_PART_SLOTS_BUSY, .CMD_PART_SLOTS_NEW, .CRC_EVENT_MISMATCH, .CRC_RESULT_RESULT, .CRC_STATUS_MATCH, .CRC_STATUS_MISMATCH, .CRC_STATUS_MISMATCH_COUNT, .CRC_STATUS_STATE, .CRC_VALUE_VALUE] : List Fld)) :
    (State.serveIntake s).getF fld itm = s.getF fld itm := by
  try simp only [List.mem_cons, not_or, List.not_mem_nil, not_false_eq_true] at hw
  simp (maxDischargeDepth := 60) [State.serveIntake, hw, apply_ite Prod.snd]

@[simp] theorem State.serveIntake_parts (s : State) :
    (State.serveIntake s).time = s.time ∧ (State.serveIntake s).cfg = s.cfg ∧ (State.serveIntake s).raiseQ = s.raiseQ ∧ (State.serveIntake s).freeCtr = s.freeCtr ∧ (State.serveIntake s).flt = s.flt ∧ (State.serveIntake s).phs = s.phs ∧ (State.serveIntake s).dom = s.dom ∧ (State.serveIntake s).eng = s.eng ∧ (State.serveIntake s).start = s.start ∧ (State.serveIntake s).est = s.est ∧ (State.serveIntake s).bud = s.bud ∧ (State.serveIntake s).thm = s.thm ∧ (State.serveIntake s).hrd = s.hrd ∧ (State.serveIntake s).tlm = s.tlm ∧ (State.serveIntake s).boot = s.boot ∧ (State.serveIntake s).adc = s.adc ∧ (State.serveIntake s).fw = s.fw ∧ (State.serveIntake s).lt = s.lt ∧ (State.serveIntake s).pending = s.pending := by
  refine ⟨?_, ?_, ?_, ?_, ?_, ?_, ?_, ?_, ?_, ?_, ?_, ?_, ?_, ?_, ?_, ?_, ?_, ?_, ?_⟩ <;> (simp (maxDischargeDepth := 60) [State.serveIntake, apply_ite Prod.snd])

@[simp] theorem State.serveIntake_ok (s : State) (hok : s.fieldsOk) : (State.serveIntake s).fieldsOk := by
  simp +contextual (maxDischargeDepth := 60) [State.serveIntake, hok, apply_ite Prod.snd]

@[simp] theorem State.reply_getF (s : State) (k st : Nat) (payload : List Nat) (fld : Fld) (itm : Nat) (hw : fld ∉ ([.CMD_PART_ID_STATE, .CMD_PART_SLOTS_BUSY, .CMD_PART_SLOTS_NEW, .CRC_EVENT_MISMATCH, .CRC_RESULT_RESULT, .CRC_STATUS_MATCH, .CRC_STATUS_MISMATCH, .CRC_STATUS_MISMATCH_COUNT, .CRC_STATUS_STATE, .CRC_VALUE_VALUE] : List Fld)) :
    (State.reply s k st payload).getF fld itm = s.getF fld itm := by
  try simp only [List.mem_cons, not_or, List.not_mem_nil, not_false_eq_true] at hw
  simp (maxDischargeDepth := 60) [State.reply, hw, apply_ite Prod.snd]

@[simp] theorem State.reply_parts (s : State) (k st : Nat) (payload : List Nat) :
    (State.reply s k st payload).time = s.time ∧ (State.reply s k st payload).cfg = s.cfg ∧ (State.reply s k st payload).raiseQ = s.raiseQ ∧ (State.reply s k st payload).freeCtr = s.freeCtr ∧ (State.reply s k st payload).flt = s.flt ∧ (State.reply s k st payload).phs = s.phs ∧ (State.reply s k st payload).dom = s.dom ∧ (State.reply s k st payload).eng = s.eng ∧ (State.reply s k st payload).start = s.start ∧ (State.reply s k st payload).est = s.est ∧ (State.reply s k st payload).bud = s.bud ∧ (State.reply s k st payload).thm = s.thm ∧ (State.reply s k st payload).hrd = s.hrd ∧ (State.reply s k st payload).tlm = s.tlm ∧ (State.reply s k st payload).boot = s.boot ∧ (State.reply s k st payload).adc = s.adc ∧ (State.reply s k st payload).fw = s.fw ∧ (State.reply s k st payload).lt = s.lt ∧ (State.reply s k st payload).pending = s.pending := by
  refine ⟨?_, ?_, ?_, ?_, ?_, ?_, ?_, ?_, ?_, ?_, ?_, ?_, ?_, ?_, ?_, ?_, ?_, ?_, ?_⟩ <;> (simp (maxDischargeDepth := 60) [State.reply, apply_ite Prod.snd])

@[simp] theorem State.reply_ok (s : State) (k st : Nat) (payload : List Nat) (hok : s.fieldsOk) : (State.reply s k st payload).fieldsOk := by
  simp +contextual (maxDischargeDepth := 60) [State.reply, hok, apply_ite Prod.snd]

@[simp] theorem State.badParam_getF (s : State) (k off : Nat) (fld : Fld) (itm : Nat) (hw : fld ∉ ([.CMD_PART_ID_STATE, .CMD_PART_SLOTS_BUSY, .CMD_PART_SLOTS_NEW, .CRC_EVENT_MISMATCH, .CRC_RESULT_RESULT, .CRC_STATUS_MATCH, .CRC_STATUS_MISMATCH, .CRC_STATUS_MISMATCH_COUNT, .CRC_STATUS_STATE, .CRC_VALUE_VALUE] : List Fld)) :
    (State.badParam s k off).getF fld itm = s.getF fld itm := by
  try simp only [List.mem_cons, not_or, List.not_mem_nil, not_false_eq_true] at hw
  simp (maxDischargeDepth := 60) [State.badParam, hw, apply_ite Prod.snd]

@[simp] theorem State.badParam_parts (s : State) (k off : Nat) :
    (State.badParam s k off).time = s.time ∧ (State.badParam s k off).cfg = s.cfg ∧ (State.badParam s k off).raiseQ = s.raiseQ ∧ (State.badParam s k off).freeCtr = s.freeCtr ∧ (State.badParam s k off).flt = s.flt ∧ (State.badParam s k off).phs = s.phs ∧ (State.badParam s k off).dom = s.dom ∧ (State.badParam s k off).eng = s.eng ∧ (State.badParam s k off).start = s.start ∧ (State.badParam s k off).est = s.est ∧ (State.badParam s k off).bud = s.bud ∧ (State.badParam s k off).thm = s.thm ∧ (State.badParam s k off).hrd = s.hrd ∧ (State.badParam s k off).tlm = s.tlm ∧ (State.badParam s k off).boot = s.boot ∧ (State.badParam s k off).adc = s.adc ∧ (State.badParam s k off).fw = s.fw ∧ (State.badParam s k off).lt = s.lt ∧ (State.badParam s k off).pending = s.pending := by
  refine ⟨?_, ?_, ?_, ?_, ?_, ?_, ?_, ?_, ?_, ?_, ?_, ?_, ?_, ?_, ?_, ?_, ?_, ?_, ?_⟩ <;> (simp (maxDischargeDepth := 60) [State.badParam, apply_ite Prod.snd])

@[simp] theorem State.badParam_ok (s : State) (k off : Nat) (hok : s.fieldsOk) : (State.badParam s k off).fieldsOk := by
  simp +contextual (maxDischargeDepth := 60) [State.badParam, hok, apply_ite Prod.snd]

@[simp] theorem State.replyOp_getF (s : State) (k op st : Nat) (payload : List Nat) (fld : Fld) (itm : Nat) (hw : fld ∉ ([.CMD_PART_ID_STATE, .CMD_PART_SLOTS_BUSY, .CMD_PART_SLOTS_NEW, .CRC_EVENT_MISMATCH, .CRC_RESULT_RESULT, .CRC_STATUS_MATCH, .CRC_STATUS_MISMATCH, .CRC_STATUS_MISMATCH_COUNT, .CRC_STATUS_STATE, .CRC_VALUE_VALUE] : List Fld)) :
    (State.replyOp s k op st payload).getF fld itm = s.getF fld itm := by
  try simp only [List.mem_cons, not_or, List.not_mem_nil, not_false_eq_true] at hw
  simp (maxDischargeDepth := 60) [State.replyOp, hw, apply_ite Prod.snd]

@[simp] theorem State.replyOp_parts (s : State) (k op st : Nat) (payload : List Nat) :
    (State.replyOp s k op st payload).time = s.time ∧ (State.replyOp s k op st payload).cfg = s.cfg ∧ (State.replyOp s k op st payload).raiseQ = s.raiseQ ∧ (State.replyOp s k op st payload).freeCtr = s.freeCtr ∧ (State.replyOp s k op st payload).flt = s.flt ∧ (State.replyOp s k op st payload).phs = s.phs ∧ (State.replyOp s k op st payload).dom = s.dom ∧ (State.replyOp s k op st payload).eng = s.eng ∧ (State.replyOp s k op st payload).start = s.start ∧ (State.replyOp s k op st payload).est = s.est ∧ (State.replyOp s k op st payload).bud = s.bud ∧ (State.replyOp s k op st payload).thm = s.thm ∧ (State.replyOp s k op st payload).hrd = s.hrd ∧ (State.replyOp s k op st payload).tlm = s.tlm ∧ (State.replyOp s k op st payload).boot = s.boot ∧ (State.replyOp s k op st payload).adc = s.adc ∧ (State.replyOp s k op st payload).fw = s.fw ∧ (State.replyOp s k op st payload).lt = s.lt ∧ (State.replyOp s k op st payload).pending = s.pending := by
  refine ⟨?_, ?_, ?_, ?_, ?_, ?_, ?_, ?_, ?_, ?_, ?_, ?_, ?_, ?_, ?_, ?_, ?_, ?_, ?_⟩ <;> (simp (maxDischargeDepth := 60) [State.replyOp, apply_ite Prod.snd])

@[simp] theorem State.replyOp_ok (s : State) (k op st : Nat) (payload : List Nat) (hok : s.fieldsOk) : (State.replyOp s k op st payload).fieldsOk := by
  simp +contextual (maxDischargeDepth := 60) [State.replyOp, hok, apply_ite Prod.snd]

@[simp] theorem State.replyAll_getF (s : State) (op : Nat) (pick : Packet → Bool) (st : Nat) (payload : List Nat) (fld : Fld) (itm : Nat) (hw : fld ∉ ([.CMD_PART_ID_STATE, .CMD_PART_SLOTS_BUSY, .CMD_PART_SLOTS_NEW, .CRC_EVENT_MISMATCH, .CRC_RESULT_RESULT, .CRC_STATUS_MATCH, .CRC_STATUS_MISMATCH, .CRC_STATUS_MISMATCH_COUNT, .CRC_STATUS_STATE, .CRC_VALUE_VALUE] : List Fld)) :
    (State.replyAll s op pick st payload).getF fld itm = s.getF fld itm := by
  try simp only [List.mem_cons, not_or, List.not_mem_nil, not_false_eq_true] at hw
  simp (maxDischargeDepth := 60) [State.replyAll, hw, apply_ite Prod.snd]

@[simp] theorem State.replyAll_parts (s : State) (op : Nat) (pick : Packet → Bool) (st : Nat) (payload : List Nat) :
    (State.replyAll s op pick st payload).time = s.time ∧ (State.replyAll s op pick st payload).cfg = s.cfg ∧ (State.replyAll s op pick st payload).raiseQ = s.raiseQ ∧ (State.replyAll s op pick st payload).freeCtr = s.freeCtr ∧ (State.replyAll s op pick st payload).flt = s.flt ∧ (State.replyAll s op pick st payload).phs = s.phs ∧ (State.replyAll s op pick st payload).dom = s.dom ∧ (State.replyAll s op pick st payload).eng = s.eng ∧ (State.replyAll s op pick st payload).start = s.start ∧ (State.replyAll s op pick st payload).est = s.est ∧ (State.replyAll s op pick st payload).bud = s.bud ∧ (State.replyAll s op pick st payload).thm = s.thm ∧ (State.replyAll s op pick st payload).hrd = s.hrd ∧ (State.replyAll s op pick st payload).tlm = s.tlm ∧ (State.replyAll s op pick st payload).boot = s.boot ∧ (State.replyAll s op pick st payload).adc = s.adc ∧ (State.replyAll s op pick st payload).fw = s.fw ∧ (State.replyAll s op pick st payload).lt = s.lt ∧ (State.replyAll s op pick st payload).pending = s.pending := by
  refine ⟨?_, ?_, ?_, ?_, ?_, ?_, ?_, ?_, ?_, ?_, ?_, ?_, ?_, ?_, ?_, ?_, ?_, ?_, ?_⟩ <;> (simp (maxDischargeDepth := 60) [State.replyAll, apply_ite Prod.snd])

@[simp] theorem State.replyAll_ok (s : State) (op : Nat) (pick : Packet → Bool) (st : Nat) (payload : List Nat) (hok : s.fieldsOk) : (State.replyAll s op pick st payload).fieldsOk := by
  simp +contextual (maxDischargeDepth := 60) [State.replyAll, hok, apply_ite Prod.snd]

@[simp] theorem State.command_getF (s : State) (set slot op : Nat) (masks : List Nat) (run : Packet → State → State) (fld : Fld) (itm : Nat) (hw : fld ∉ ([.CMD_PART_ID_STATE, .CMD_PART_SLOTS_BUSY, .CMD_PART_SLOTS_NEW, .CRC_EVENT_MISMATCH, .CRC_RESULT_RESULT, .CRC_STATUS_MATCH, .CRC_STATUS_MISMATCH, .CRC_STATUS_MISMATCH_COUNT, .CRC_STATUS_STATE, .CRC_VALUE_VALUE] : List Fld)) (h_run : ∀ a0 t, (run a0 t).getF fld itm = t.getF fld itm) :
    (State.command s set slot op masks run).getF fld itm = s.getF fld itm := by
  try simp only [List.mem_cons, not_or, List.not_mem_nil, not_false_eq_true] at hw
  ((unfold State.command); (try simp only []); (repeat' split) <;> (try simp (maxDischargeDepth := 60) [hw, h_run, State.when, apply_ite Prod.snd]))

@[simp] theorem State.command_time (s : State) (set slot op : Nat) (masks : List Nat) (run : Packet → State → State) (h_run : ∀ a0 t, (run a0 t).time = t.time) :
    (State.command s set slot op masks run).time = s.time := by
  ((unfold State.command); (try simp only []); (repeat' split) <;> (try simp (maxDischargeDepth := 60) [State.when, apply_ite Prod.snd, h_run]))

@[simp] theorem State.command_cfg (s : State) (set slot op : Nat) (masks : List Nat) (run : Packet → State → State) (h_run : ∀ a0 t, (run a0 t).cfg = t.cfg) :
    (State.command s set slot op masks run).cfg = s.cfg := by
  ((unfold State.command); (try simp only []); (repeat' split) <;> (try simp (maxDischargeDepth := 60) [State.when, apply_ite Prod.snd, h_run]))

@[simp] theorem State.command_raiseQ (s : State) (set slot op : Nat) (masks : List Nat) (run : Packet → State → State) (h_run : ∀ a0 t, (run a0 t).raiseQ = t.raiseQ) :
    (State.command s set slot op masks run).raiseQ = s.raiseQ := by
  ((unfold State.command); (try simp only []); (repeat' split) <;> (try simp (maxDischargeDepth := 60) [State.when, apply_ite Prod.snd, h_run]))

@[simp] theorem State.command_freeCtr (s : State) (set slot op : Nat) (masks : List Nat) (run : Packet → State → State) (h_run : ∀ a0 t, (run a0 t).freeCtr = t.freeCtr) :
    (State.command s set slot op masks run).freeCtr = s.freeCtr := by
  ((unfold State.command); (try simp only []); (repeat' split) <;> (try simp (maxDischargeDepth := 60) [State.when, apply_ite Prod.snd, h_run]))

@[simp] theorem State.command_flt (s : State) (set slot op : Nat) (masks : List Nat) (run : Packet → State → State) (h_run : ∀ a0 t, (run a0 t).flt = t.flt) :
    (State.command s set slot op masks run).flt = s.flt := by
  ((unfold State.command); (try simp only []); (repeat' split) <;> (try simp (maxDischargeDepth := 60) [State.when, apply_ite Prod.snd, h_run]))

@[simp] theorem State.command_phs (s : State) (set slot op : Nat) (masks : List Nat) (run : Packet → State → State) (h_run : ∀ a0 t, (run a0 t).phs = t.phs) :
    (State.command s set slot op masks run).phs = s.phs := by
  ((unfold State.command); (try simp only []); (repeat' split) <;> (try simp (maxDischargeDepth := 60) [State.when, apply_ite Prod.snd, h_run]))

@[simp] theorem State.command_dom (s : State) (set slot op : Nat) (masks : List Nat) (run : Packet → State → State) (h_run : ∀ a0 t, (run a0 t).dom = t.dom) :
    (State.command s set slot op masks run).dom = s.dom := by
  ((unfold State.command); (try simp only []); (repeat' split) <;> (try simp (maxDischargeDepth := 60) [State.when, apply_ite Prod.snd, h_run]))

@[simp] theorem State.command_eng (s : State) (set slot op : Nat) (masks : List Nat) (run : Packet → State → State) (h_run : ∀ a0 t, (run a0 t).eng = t.eng) :
    (State.command s set slot op masks run).eng = s.eng := by
  ((unfold State.command); (try simp only []); (repeat' split) <;> (try simp (maxDischargeDepth := 60) [State.when, apply_ite Prod.snd, h_run]))

@[simp] theorem State.command_start (s : State) (set slot op : Nat) (masks : List Nat) (run : Packet → State → State) (h_run : ∀ a0 t, (run a0 t).start = t.start) :
    (State.command s set slot op masks run).start = s.start := by
  ((unfold State.command); (try simp only []); (repeat' split) <;> (try simp (maxDischargeDepth := 60) [State.when, apply_ite Prod.snd, h_run]))

@[simp] theorem State.command_est (s : State) (set slot op : Nat) (masks : List Nat) (run : Packet → State → State) (h_run : ∀ a0 t, (run a0 t).est = t.est) :
    (State.command s set slot op masks run).est = s.est := by
  ((unfold State.command); (try simp only []); (repeat' split) <;> (try simp (maxDischargeDepth := 60) [State.when, apply_ite Prod.snd, h_run]))

@[simp] theorem State.command_bud (s : State) (set slot op : Nat) (masks : List Nat) (run : Packet → State → State) (h_run : ∀ a0 t, (run a0 t).bud = t.bud) :
    (State.command s set slot op masks run).bud = s.bud := by
  ((unfold State.command); (try simp only []); (repeat' split) <;> (try simp (maxDischargeDepth := 60) [State.when, apply_ite Prod.snd, h_run]))

@[simp] theorem State.command_thm (s : State) (set slot op : Nat) (masks : List Nat) (run : Packet → State → State) (h_run : ∀ a0 t, (run a0 t).thm = t.thm) :
    (State.command s set slot op masks run).thm = s.thm := by
  ((unfold State.command); (try simp only []); (repeat' split) <;> (try simp (maxDischargeDepth := 60) [State.when, apply_ite Prod.snd, h_run]))

@[simp] theorem State.command_hrd (s : State) (set slot op : Nat) (masks : List Nat) (run : Packet → State → State) (h_run : ∀ a0 t, (run a0 t).hrd = t.hrd) :
    (State.command s set slot op masks run).hrd = s.hrd := by
  ((unfold State.command); (try simp only []); (repeat' split) <;> (try simp (maxDischargeDepth := 60) [State.when, apply_ite Prod.snd, h_run]))

@[simp] theorem State.command_tlm (s : State) (set slot op : Nat) (masks : List Nat) (run : Packet → State → State) (h_run : ∀ a0 t, (run a0 t).tlm = t.tlm) :
    (State.command s set slot op masks run).tlm = s.tlm := by
  ((unfold State.command); (try simp only []); (repeat' split) <;> (try simp (maxDischargeDepth := 60) [State.when, apply_ite Prod.snd, h_run]))

@[simp] theorem State.command_boot (s : State) (set slot op : Nat) (masks : List Nat) (run : Packet → State → State) (h_run : ∀ a0 t, (run a0 t).boot = t.boot) :
    (State.command s set slot op masks run).boot = s.boot := by
  ((unfold State.command); (try simp only []); (repeat' split) <;> (try simp (maxDischargeDepth := 60) [State.when, apply_ite Prod.snd, h_run]))

@[simp] theorem State.command_adc (s : State) (set slot op : Nat) (masks : List Nat) (run : Packet → State → State) (h_run : ∀ a0 t, (run a0 t).adc = t.adc) :
    (State.command s set slot op masks run).adc = s.adc := by
  ((unfold State.command); (try simp only []); (repeat' split) <;> (try simp (maxDischargeDepth := 60) [State.when, apply_ite Prod.snd, h_run]))

@[simp] theorem State.command_fw (s : State) (set slot op : Nat) (masks : List Nat) (run : Packet → State → State) (h_run : ∀ a0 t, (run a0 t).fw = t.fw) :
    (State.command s set slot op masks run).fw = s.fw := by
  ((unfold State.command); (try simp only []); (repeat' split) <;> (try simp (maxDischargeDepth := 60) [State.when, apply_ite Prod.snd, h_run]))

@[simp] theorem State.command_lt (s : State) (set slot op : Nat) (masks : List Nat) (run : Packet → State → State) (h_run : ∀ a0 t, (run a0 t).lt = t.lt) :
    (State.command s set slot op masks run).lt = s.lt := by
  ((unfold State.command); (try simp only []); (repeat' split) <;> (try simp (maxDischargeDepth := 60) [State.when, apply_ite Prod.snd, h_run]))

@[simp] theorem State.command_pending (s : State) (set slot op : Nat) (masks : List Nat) (run : Packet → State → State) (h_run : ∀ a0 t, (run a0 t).pending = t.pending) :
    (State.command s set slot op masks run).pending = s.pending := by
  ((unfold State.command); (try simp only []); (repeat' split) <;> (try simp (maxDischargeDepth := 60) [State.when, apply_ite Prod.snd, h_run]))

@[simp] theorem State.command_ok (s : State) (set slot op : Nat) (masks : List Nat) (run : Packet → State → State) (hok : s.fieldsOk) (h_run : ∀ a0 t, t.fieldsOk → (run a0 t).fieldsOk) : (State.command s set slot op masks run).fieldsOk := by
  ((unfold State.command); (try simp only []); (repeat' split) <;> (try simp +contextual (maxDischargeDepth := 60) [hok, h_run, State.when, apply_ite Prod.snd]))

@[simp] theorem State.dropStanding_getF (s : State) (pick : Standing → Bool) (fld : Fld) (itm : Nat) (hw : fld ∉ ([] : List Fld)) :
    (State.dropStanding s pick).getF fld itm = s.getF fld itm := by
  try simp only [List.mem_cons, not_or, List.not_mem_nil, not_false_eq_true] at hw
  simp (maxDischargeDepth := 60) [State.dropStanding, hw, apply_ite Prod.snd]

@[simp] theorem State.dropStanding_parts (s : State) (pick : Standing → Bool) :
    (State.dropStanding s pick).time = s.time ∧ (State.dropStanding s pick).cfg = s.cfg ∧ (State.dropStanding s pick).raiseQ = s.raiseQ ∧ (State.dropStanding s pick).out = s.out ∧ (State.dropStanding s pick).freeCtr = s.freeCtr ∧ (State.dropStanding s pick).flt = s.flt ∧ (State.dropStanding s pick).phs = s.phs ∧ (State.dropStanding s pick).dom = s.dom ∧ (State.dropStanding s pick).eng = s.eng ∧ (State.dropStanding s pick).start = s.start ∧ (State.dropStanding s pick).est = s.est ∧ (State.dropStanding s pick).bud = s.bud ∧ (State.dropStanding s pick).thm = s.thm ∧ (State.dropStanding s pick).hrd = s.hrd ∧ (State.dropStanding s pick).tlm = s.tlm ∧ (State.dropStanding s pick).boot = s.boot ∧ (State.dropStanding s pick).adc = s.adc ∧ (State.dropStanding s pick).fw = s.fw ∧ (State.dropStanding s pick).lt = s.lt ∧ (State.dropStanding s pick).pending = s.pending := by
  refine ⟨?_, ?_, ?_, ?_, ?_, ?_, ?_, ?_, ?_, ?_, ?_, ?_, ?_, ?_, ?_, ?_, ?_, ?_, ?_, ?_⟩ <;> (simp (maxDischargeDepth := 60) [State.dropStanding, apply_ite Prod.snd])

@[simp] theorem State.dropStanding_ok (s : State) (pick : Standing → Bool) (hok : s.fieldsOk) : (State.dropStanding s pick).fieldsOk := by
  simp +contextual (maxDischargeDepth := 60) [State.dropStanding, hok, apply_ite Prod.snd]

@[simp] theorem State.stand_getF (s : State) (k : Nat) (p : Packet) (kind : StandKind) (fld : Fld) (itm : Nat) (hw : fld ∉ ([] : List Fld)) :
    (State.stand s k p kind).getF fld itm = s.getF fld itm := by
  try simp only [List.mem_cons, not_or, List.not_mem_nil, not_false_eq_true] at hw
  simp (maxDischargeDepth := 60) [State.stand, hw, apply_ite Prod.snd]

@[simp] theorem State.stand_parts (s : State) (k : Nat) (p : Packet) (kind : StandKind) :
    (State.stand s k p kind).time = s.time ∧ (State.stand s k p kind).cfg = s.cfg ∧ (State.stand s k p kind).raiseQ = s.raiseQ ∧ (State.stand s k p kind).out = s.out ∧ (State.stand s k p kind).freeCtr = s.freeCtr ∧ (State.stand s k p kind).flt = s.flt ∧ (State.stand s k p kind).phs = s.phs ∧ (State.stand s k p kind).dom = s.dom ∧ (State.stand s k p kind).eng = s.eng ∧ (State.stand s k p kind).start = s.start ∧ (State.stand s k p kind).est = s.est ∧ (State.stand s k p kind).bud = s.bud ∧ (State.stand s k p kind).thm = s.thm ∧ (State.stand s k p kind).hrd = s.hrd ∧ (State.stand s k p kind).tlm = s.tlm ∧ (State.stand s k p kind).boot = s.boot ∧ (State.stand s k p kind).adc = s.adc ∧ (State.stand s k p kind).fw = s.fw ∧ (State.stand s k p kind).lt = s.lt ∧ (State.stand s k p kind).pending = s.pending := by
  refine ⟨?_, ?_, ?_, ?_, ?_, ?_, ?_, ?_, ?_, ?_, ?_, ?_, ?_, ?_, ?_, ?_, ?_, ?_, ?_, ?_⟩ <;> (simp (maxDischargeDepth := 60) [State.stand, apply_ite Prod.snd])

@[simp] theorem State.stand_ok (s : State) (k : Nat) (p : Packet) (kind : StandKind) (hok : s.fieldsOk) : (State.stand s k p kind).fieldsOk := by
  simp +contextual (maxDischargeDepth := 60) [State.stand, hok, apply_ite Prod.snd]

end Sys2Proof.Machine
end

