-- ==== Sys2Proof/Laws/PhaseOps.lean ====
section
/-! SUPPORT. What each phase group operation can do: the fields it may write, the parts of the state it keeps, and that it keeps
the register table in its canonical form. -/

namespace Sys2Proof.Machine
open Host (Outcome)
set_option maxRecDepth 4000
set_option linter.unusedSimpArgs false
set_option linter.unusedVariables false
set_option linter.unreachableTactic false
set_option linter.unusedTactic false

@[simp] theorem State.updTon_getF (s : State) (g : Nat) (fld : Fld) (itm : Nat) (hw : fld ∉ ([.PHS_GRP_REF_VREF, .PHS_GRP_TON_TON_BASE] : List Fld)) :
    (State.updTon s g).getF fld itm = s.getF fld itm := by
  try simp only [List.mem_cons, not_or, List.not_mem_nil, not_false_eq_true] at hw
  simp (maxDischargeDepth := 60) [State.updTon, hw, apply_ite Prod.snd]

@[simp] theorem State.updTon_parts (s : State) (g : Nat) :
    (State.updTon s g).time = s.time ∧ (State.updTon s g).cfg = s.cfg ∧ (State.updTon s g).raiseQ = s.raiseQ ∧ (State.updTon s g).out = s.out ∧ (State.updTon s g).freeCtr = s.freeCtr ∧ (State.updTon s g).flt = s.flt ∧ (State.updTon s g).phs = s.phs ∧ (State.updTon s g).dom = s.dom ∧ (State.updTon s g).eng = s.eng ∧ (State.updTon s g).start = s.start ∧ (State.updTon s g).est = s.est ∧ (State.updTon s g).bud = s.bud ∧ (State.updTon s g).thm = s.thm ∧ (State.updTon s g).hrd = s.hrd ∧ (State.updTon s g).tlm = s.tlm ∧ (State.updTon s g).cmd = s.cmd ∧ (State.updTon s g).boot = s.boot ∧ (State.updTon s g).adc = s.adc ∧ (State.updTon s g).fw = s.fw ∧ (State.updTon s g).lt = s.lt ∧ (State.updTon s g).pending = s.pending := by
  refine ⟨?_, ?_, ?_, ?_, ?_, ?_, ?_, ?_, ?_, ?_, ?_, ?_, ?_, ?_, ?_, ?_, ?_, ?_, ?_, ?_, ?_⟩ <;> (simp (maxDischargeDepth := 60) [State.updTon, apply_ite Prod.snd])

@[simp] theorem State.updTon_ok (s : State) (g : Nat) (hok : s.fieldsOk) : (State.updTon s g).fieldsOk := by
  simp +contextual (maxDischargeDepth := 60) [State.updTon, hok, apply_ite Prod.snd]

@[simp] theorem State.startRampAt_getF (s : State) (g v : Nat) (fld : Fld) (itm : Nat) (hw : fld ∉ ([.PHS_GRP_REF_VREF, .PHS_GRP_TON_TON_BASE] : List Fld)) :
    (State.startRampAt s g v).getF fld itm = s.getF fld itm := by
  try simp only [List.mem_cons, not_or, List.not_mem_nil, not_false_eq_true] at hw
  simp (maxDischargeDepth := 60) [State.startRampAt, hw, apply_ite Prod.snd]

@[simp] theorem State.startRampAt_parts (s : State) (g v : Nat) :
    (State.startRampAt s g v).time = s.time ∧ (State.startRampAt s g v).cfg = s.cfg ∧ (State.startRampAt s g v).raiseQ = s.raiseQ ∧ (State.startRampAt s g v).out = s.out ∧ (State.startRampAt s g v).freeCtr = s.freeCtr ∧ (State.startRampAt s g v).flt = s.flt ∧ (State.startRampAt s g v).dom = s.dom ∧ (State.startRampAt s g v).eng = s.eng ∧ (State.startRampAt s g v).start = s.start ∧ (State.startRampAt s g v).est = s.est ∧ (State.startRampAt s g v).bud = s.bud ∧ (State.startRampAt s g v).thm = s.thm ∧ (State.startRampAt s g v).hrd = s.hrd ∧ (State.startRampAt s g v).tlm = s.tlm ∧ (State.startRampAt s g v).cmd = s.cmd ∧ (State.startRampAt s g v).boot = s.boot ∧ (State.startRampAt s g v).adc = s.adc ∧ (State.startRampAt s g v).fw = s.fw ∧ (State.startRampAt s g v).lt = s.lt ∧ (State.startRampAt s g v).pending = s.pending := by
  refine ⟨?_, ?_, ?_, ?_, ?_, ?_, ?_, ?_, ?_, ?_, ?_, ?_, ?_, ?_, ?_, ?_, ?_, ?_, ?_, ?_⟩ <;> (simp (maxDischargeDepth := 60) [State.startRampAt, apply_ite Prod.snd])

@[simp] theorem State.startRampAt_ok (s : State) (g v : Nat) (hok : s.fieldsOk) : (State.startRampAt s g v).fieldsOk := by
  simp +contextual (maxDischargeDepth := 60) [State.startRampAt, hok, apply_ite Prod.snd]

@[simp] theorem State.setPhTest_getF (s : State) (p : Nat) (t : PhaseTest) (fld : Fld) (itm : Nat) (hw : fld ∉ ([] : List Fld)) :
    (State.setPhTest s p t).getF fld itm = s.getF fld itm := by
  try simp only [List.mem_cons, not_or, List.not_mem_nil, not_false_eq_true] at hw
  simp (maxDischargeDepth := 60) [State.setPhTest, hw, apply_ite Prod.snd]

@[simp] theorem State.setPhTest_parts (s : State) (p : Nat) (t : PhaseTest) :
    (State.setPhTest s p t).time = s.time ∧ (State.setPhTest s p t).cfg = s.cfg ∧ (State.setPhTest s p t).raiseQ = s.raiseQ ∧ (State.setPhTest s p t).out = s.out ∧ (State.setPhTest s p t).freeCtr = s.freeCtr ∧ (State.setPhTest s p t).flt = s.flt ∧ (State.setPhTest s p t).dom = s.dom ∧ (State.setPhTest s p t).eng = s.eng ∧ (State.setPhTest s p t).start = s.start ∧ (State.setPhTest s p t).est = s.est ∧ (State.setPhTest s p t).bud = s.bud ∧ (State.setPhTest s p t).thm = s.thm ∧ (State.setPhTest s p t).hrd = s.hrd ∧ (State.setPhTest s p t).tlm = s.tlm ∧ (State.setPhTest s p t).cmd = s.cmd ∧ (State.setPhTest s p t).boot = s.boot ∧ (State.setPhTest s p t).adc = s.adc ∧ (State.setPhTest s p t).fw = s.fw ∧ (State.setPhTest s p t).lt = s.lt ∧ (State.setPhTest s p t).pending = s.pending := by
  refine ⟨?_, ?_, ?_, ?_, ?_, ?_, ?_, ?_, ?_, ?_, ?_, ?_, ?_, ?_, ?_, ?_, ?_, ?_, ?_, ?_⟩ <;> (simp (maxDischargeDepth := 60) [State.setPhTest, apply_ite Prod.snd])

@[simp] theorem State.setPhTest_ok (s : State) (p : Nat) (t : PhaseTest) (hok : s.fieldsOk) : (State.setPhTest s p t).fieldsOk := by
  simp +contextual (maxDischargeDepth := 60) [State.setPhTest, hok, apply_ite Prod.snd]

@[simp] theorem State.cutCheck_getF (s : State) (p : Nat) (fld : Fld) (itm : Nat) (hw : fld ∉ ([.PHS_PH_STATUS_PH_STATE, .PHS_PH_STATUS_TRIM] : List Fld)) :
    (State.cutCheck s p).getF fld itm = s.getF fld itm := by
  try simp only [List.mem_cons, not_or, List.not_mem_nil, not_false_eq_true] at hw
  simp (maxDischargeDepth := 60) [State.cutCheck, hw, apply_ite Prod.snd]

@[simp] theorem State.cutCheck_parts (s : State) (p : Nat) :
    (State.cutCheck s p).time = s.time ∧ (State.cutCheck s p).cfg = s.cfg ∧ (State.cutCheck s p).raiseQ = s.raiseQ ∧ (State.cutCheck s p).out = s.out ∧ (State.cutCheck s p).freeCtr = s.freeCtr ∧ (State.cutCheck s p).flt = s.flt ∧ (State.cutCheck s p).dom = s.dom ∧ (State.cutCheck s p).eng = s.eng ∧ (State.cutCheck s p).start = s.start ∧ (State.cutCheck s p).est = s.est ∧ (State.cutCheck s p).bud = s.bud ∧ (State.cutCheck s p).thm = s.thm ∧ (State.cutCheck s p).hrd = s.hrd ∧ (State.cutCheck s p).tlm = s.tlm ∧ (State.cutCheck s p).cmd = s.cmd ∧ (State.cutCheck s p).boot = s.boot ∧ (State.cutCheck s p).adc = s.adc ∧ (State.cutCheck s p).fw = s.fw ∧ (State.cutCheck s p).lt = s.lt ∧ (State.cutCheck s p).pending = s.pending := by
  refine ⟨?_, ?_, ?_, ?_, ?_, ?_, ?_, ?_, ?_, ?_, ?_, ?_, ?_, ?_, ?_, ?_, ?_, ?_, ?_, ?_⟩ <;> (simp (maxDischargeDepth := 60) [State.cutCheck, apply_ite Prod.snd])

@[simp] theorem State.cutCheck_ok (s : State) (p : Nat) (hok : s.fieldsOk) : (State.cutCheck s p).fieldsOk := by
  simp +contextual (maxDischargeDepth := 60) [State.cutCheck, hok, apply_ite Prod.snd]

@[simp] theorem State.restartTests_getF (s : State) (p : Nat) (fld : Fld) (itm : Nat) (hw : fld ∉ ([] : List Fld)) :
    (State.restartTests s p).getF fld itm = s.getF fld itm := by
  try simp only [List.mem_cons, not_or, List.not_mem_nil, not_false_eq_true] at hw
  simp (maxDischargeDepth := 60) [State.restartTests, hw, apply_ite Prod.snd]

@[simp] theorem State.restartTests_parts (s : State) (p : Nat) :
    (State.restartTests s p).time = s.time ∧ (State.restartTests s p).cfg = s.cfg ∧ (State.restartTests s p).raiseQ = s.raiseQ ∧ (State.restartTests s p).out = s.out ∧ (State.restartTests s p).freeCtr = s.freeCtr ∧ (State.restartTests s p).flt = s.flt ∧ (State.restartTests s p).dom = s.dom ∧ (State.restartTests s p).eng = s.eng ∧ (State.restartTests s p).start = s.start ∧ (State.restartTests s p).est = s.est ∧ (State.restartTests s p).bud = s.bud ∧ (State.restartTests s p).thm = s.thm ∧ (State.restartTests s p).hrd = s.hrd ∧ (State.restartTests s p).tlm = s.tlm ∧ (State.restartTests s p).cmd = s.cmd ∧ (State.restartTests s p).boot = s.boot ∧ (State.restartTests s p).adc = s.adc ∧ (State.restartTests s p).fw = s.fw ∧ (State.restartTests s p).lt = s.lt ∧ (State.restartTests s p).pending = s.pending := by
  refine ⟨?_, ?_, ?_, ?_, ?_, ?_, ?_, ?_, ?_, ?_, ?_, ?_, ?_, ?_, ?_, ?_, ?_, ?_, ?_, ?_⟩ <;> (simp (maxDischargeDepth := 60) [State.restartTests, apply_ite Prod.snd])

@[simp] theorem State.restartTests_ok (s : State) (p : Nat) (hok : s.fieldsOk) : (State.restartTests s p).fieldsOk := by
  simp +contextual (maxDischargeDepth := 60) [State.restartTests, hok, apply_ite Prod.snd]

@[simp] theorem State.enterGrp_getF (s : State) (g st : Nat) (fld : Fld) (itm : Nat) (hw : fld ∉ ([] : List Fld)) :
    (State.enterGrp s g st).getF fld itm = s.getF fld itm := by
  try simp only [List.mem_cons, not_or, List.not_mem_nil, not_false_eq_true] at hw
  simp (maxDischargeDepth := 60) [State.enterGrp, hw, apply_ite Prod.snd]

@[simp] theorem State.enterGrp_parts (s : State) (g st : Nat) :
    (State.enterGrp s g st).time = s.time ∧ (State.enterGrp s g st).cfg = s.cfg ∧ (State.enterGrp s g st).raiseQ = s.raiseQ ∧ (State.enterGrp s g st).out = s.out ∧ (State.enterGrp s g st).freeCtr = s.freeCtr ∧ (State.enterGrp s g st).flt = s.flt ∧ (State.enterGrp s g st).dom = s.dom ∧ (State.enterGrp s g st).eng = s.eng ∧ (State.enterGrp s g st).start = s.start ∧ (State.enterGrp s g st).est = s.est ∧ (State.enterGrp s g st).bud = s.bud ∧ (State.enterGrp s g st).thm = s.thm ∧ (State.enterGrp s g st).hrd = s.hrd ∧ (State.enterGrp s g st).tlm = s.tlm ∧ (State.enterGrp s g st).cmd = s.cmd ∧ (State.enterGrp s g st).boot = s.boot ∧ (State.enterGrp s g st).adc = s.adc ∧ (State.enterGrp s g st).fw = s.fw ∧ (State.enterGrp s g st).lt = s.lt ∧ (State.enterGrp s g st).pending = s.pending := by
  refine ⟨?_, ?_, ?_, ?_, ?_, ?_, ?_, ?_, ?_, ?_, ?_, ?_, ?_, ?_, ?_, ?_, ?_, ?_, ?_, ?_⟩ <;> (simp (maxDischargeDepth := 60) [State.enterGrp, apply_ite Prod.snd])

@[simp] theorem State.enterGrp_ok (s : State) (g st : Nat) (hok : s.fieldsOk) : (State.enterGrp s g st).fieldsOk := by
  simp +contextual (maxDischargeDepth := 60) [State.enterGrp, hok, apply_ite Prod.snd]

@[simp] theorem State.setGrp_getF (s : State) (g st : Nat) (fld : Fld) (itm : Nat) (hw : fld ∉ ([.GLB_FW_IL_GROUP, .GLB_FW_IL_SET, .PHS_GRP_STATUS_STATE, .PHS_PH_STATUS_PH_STATE, .PHS_PH_STATUS_TRIM] : List Fld)) :
    (State.setGrp s g st).getF fld itm = s.getF fld itm := by
  try simp only [List.mem_cons, not_or, List.not_mem_nil, not_false_eq_true] at hw
  simp (maxDischargeDepth := 60) [State.setGrp, hw, apply_ite Prod.snd]

@[simp] theorem State.setGrp_parts (s : State) (g st : Nat) :
    (State.setGrp s g st).time = s.time ∧ (State.setGrp s g st).cfg = s.cfg ∧ (State.setGrp s g st).raiseQ = s.raiseQ ∧ (State.setGrp s g st).out = s.out ∧ (State.setGrp s g st).freeCtr = s.freeCtr ∧ (State.setGrp s g st).flt = s.flt ∧ (State.setGrp s g st).dom = s.dom ∧ (State.setGrp s g st).eng = s.eng ∧ (State.setGrp s g st).start = s.start ∧ (State.setGrp s g st).est = s.est ∧ (State.setGrp s g st).bud = s.bud ∧ (State.setGrp s g st).thm = s.thm ∧ (State.setGrp s g st).hrd = s.hrd ∧ (State.setGrp s g st).tlm = s.tlm ∧ (State.setGrp s g st).cmd = s.cmd ∧ (State.setGrp s g st).boot = s.boot ∧ (State.setGrp s g st).adc = s.adc ∧ (State.setGrp s g st).fw = s.fw ∧ (State.setGrp s g st).lt = s.lt ∧ (State.setGrp s g st).pending = s.pending := by
  refine ⟨?_, ?_, ?_, ?_, ?_, ?_, ?_, ?_, ?_, ?_, ?_, ?_, ?_, ?_, ?_, ?_, ?_, ?_, ?_, ?_⟩ <;> (simp (maxDischargeDepth := 60) [State.setGrp, apply_ite Prod.snd])

@[simp] theorem State.setGrp_ok (s : State) (g st : Nat) (hok : s.fieldsOk) : (State.setGrp s g st).fieldsOk := by
  simp +contextual (maxDischargeDepth := 60) [State.setGrp, hok, apply_ite Prod.snd]

@[simp] theorem State.enterSafe_getF (s : State) (err : Nat) (fld : Fld) (itm : Nat) (hw : fld ∉ ([.ADC_CV_STATUS_PD, .ADC_CV_STATUS_STATE, .ADC_STATUS_LP_ACTIVE, .GLB_BOOT_STATUS_ERR, .GLB_BOOT_STATUS_PWR_OK, .GLB_BOOT_STATUS_STATE] : List Fld)) :
    (State.enterSafe s err).getF fld itm = s.getF fld itm := by
  try simp only [List.mem_cons, not_or, List.not_mem_nil, not_false_eq_true] at hw
  simp (maxDischargeDepth := 60) [State.enterSafe, hw, apply_ite Prod.snd]

@[simp] theorem State.enterSafe_parts (s : State) (err : Nat) :
    (State.enterSafe s err).time = s.time ∧ (State.enterSafe s err).cfg = s.cfg ∧ (State.enterSafe s err).raiseQ = s.raiseQ ∧ (State.enterSafe s err).out = s.out ∧ (State.enterSafe s err).freeCtr = s.freeCtr ∧ (State.enterSafe s err).flt = s.flt ∧ (State.enterSafe s err).phs = s.phs ∧ (State.enterSafe s err).dom = s.dom ∧ (State.enterSafe s err).eng = s.eng ∧ (State.enterSafe s err).start = s.start ∧ (State.enterSafe s err).est = s.est ∧ (State.enterSafe s err).bud = s.bud ∧ (State.enterSafe s err).thm = s.thm ∧ (State.enterSafe s err).hrd = s.hrd ∧ (State.enterSafe s err).tlm = s.tlm ∧ (State.enterSafe s err).cmd = s.cmd ∧ (State.enterSafe s err).adc = s.adc ∧ (State.enterSafe s err).fw = s.fw ∧ (State.enterSafe s err).lt = s.lt ∧ (State.enterSafe s err).pending = s.pending := by
  refine ⟨?_, ?_, ?_, ?_, ?_, ?_, ?_, ?_, ?_, ?_, ?_, ?_, ?_, ?_, ?_, ?_, ?_, ?_, ?_, ?_⟩ <;> (simp (maxDischargeDepth := 60) [State.enterSafe, apply_ite Prod.snd])

@[simp] theorem State.enterSafe_ok (s : State) (err : Nat) (hok : s.fieldsOk) : (State.enterSafe s err).fieldsOk := by
  simp +contextual (maxDischargeDepth := 60) [State.enterSafe, hok, apply_ite Prod.snd]

@[simp] theorem State.latchOff_getF (s : State) (g : Nat) (fld : Fld) (itm : Nat) (hw : fld ∉ ([.ADC_CV_STATUS_PD, .ADC_CV_STATUS_STATE, .ADC_STATUS_LP_ACTIVE, .GLB_BOOT_STATUS_ERR, .GLB_BOOT_STATUS_PWR_OK, .GLB_BOOT_STATUS_STATE, .GLB_FW_IL_GROUP, .GLB_FW_IL_SET, .PHS_GRP_EVENT_LATCHED, .PHS_GRP_STATUS_STATE, .PHS_PH_STATUS_PH_STATE, .PHS_PH_STATUS_TRIM] : List Fld)) :
    (State.latchOff s g).getF fld itm = s.getF fld itm := by
  try simp only [List.mem_cons, not_or, List.not_mem_nil, not_false_eq_true] at hw
  simp (maxDischargeDepth := 60) [State.latchOff, hw, apply_ite Prod.snd]

@[simp] theorem State.latchOff_parts (s : State) (g : Nat) :
    (State.latchOff s g).time = s.time ∧ (State.latchOff s g).cfg = s.cfg ∧ (State.latchOff s g).out = s.out ∧ (State.latchOff s g).freeCtr = s.freeCtr ∧ (State.latchOff s g).flt = s.flt ∧ (State.latchOff s g).dom = s.dom ∧ (State.latchOff s g).eng = s.eng ∧ (State.latchOff s g).start = s.start ∧ (State.latchOff s g).est = s.est ∧ (State.latchOff s g).bud = s.bud ∧ (State.latchOff s g).thm = s.thm ∧ (State.latchOff s g).hrd = s.hrd ∧ (State.latchOff s g).tlm = s.tlm ∧ (State.latchOff s g).cmd = s.cmd ∧ (State.latchOff s g).adc = s.adc ∧ (State.latchOff s g).fw = s.fw ∧ (State.latchOff s g).lt = s.lt ∧ (State.latchOff s g).pending = s.pending := by
  refine ⟨?_, ?_, ?_, ?_, ?_, ?_, ?_, ?_, ?_, ?_, ?_, ?_, ?_, ?_, ?_, ?_, ?_, ?_⟩ <;> (simp (maxDischargeDepth := 60) [State.latchOff, apply_ite Prod.snd])

@[simp] theorem State.latchOff_ok (s : State) (g : Nat) (hok : s.fieldsOk) : (State.latchOff s g).fieldsOk := by
  simp +contextual (maxDischargeDepth := 60) [State.latchOff, hok, apply_ite Prod.snd]

@[simp] theorem State.grpOff_getF (s : State) (g : Nat) (fld : Fld) (itm : Nat) (hw : fld ∉ ([.GLB_FW_IL_GROUP, .GLB_FW_IL_SET, .PHS_GRP_REF_VREF, .PHS_GRP_STATUS_ATTEMPTS, .PHS_GRP_STATUS_STATE, .PHS_GRP_TON_TON_BASE, .PHS_PH_STATUS_PH_STATE, .PHS_PH_STATUS_TRIM] : List Fld)) :
    (State.grpOff s g).getF fld itm = s.getF fld itm := by
  try simp only [List.mem_cons, not_or, List.not_mem_nil, not_false_eq_true] at hw
  simp (maxDischargeDepth := 60) [State.grpOff, hw, apply_ite Prod.snd]

@[simp] theorem State.grpOff_parts (s : State) (g : Nat) :
    (State.grpOff s g).time = s.time ∧ (State.grpOff s g).cfg = s.cfg ∧ (State.grpOff s g).raiseQ = s.raiseQ ∧ (State.grpOff s g).out = s.out ∧ (State.grpOff s g).freeCtr = s.freeCtr ∧ (State.grpOff s g).flt = s.flt ∧ (State.grpOff s g).dom = s.dom ∧ (State.grpOff s g).eng = s.eng ∧ (State.grpOff s g).start = s.start ∧ (State.grpOff s g).est = s.est ∧ (State.grpOff s g).bud = s.bud ∧ (State.grpOff s g).thm = s.thm ∧ (State.grpOff s g).hrd = s.hrd ∧ (State.grpOff s g).tlm = s.tlm ∧ (State.grpOff s g).cmd = s.cmd ∧ (State.grpOff s g).boot = s.boot ∧ (State.grpOff s g).adc = s.adc ∧ (State.grpOff s g).fw = s.fw ∧ (State.grpOff s g).lt = s.lt ∧ (State.grpOff s g).pending = s.pending := by
  refine ⟨?_, ?_, ?_, ?_, ?_, ?_, ?_, ?_, ?_, ?_, ?_, ?_, ?_, ?_, ?_, ?_, ?_, ?_, ?_, ?_⟩ <;> (simp (maxDischargeDepth := 60) [State.grpOff, apply_ite Prod.snd])

@[simp] theorem State.grpOff_ok (s : State) (g : Nat) (hok : s.fieldsOk) : (State.grpOff s g).fieldsOk := by
  simp +contextual (maxDischargeDepth := 60) [State.grpOff, hok, apply_ite Prod.snd]

@[simp] theorem State.stopRamp_getF (s : State) (g : Nat) (fatal : Bool) (fld : Fld) (itm : Nat) (hw : fld ∉ ([.ADC_CV_STATUS_PD, .ADC_CV_STATUS_STATE, .ADC_STATUS_LP_ACTIVE, .CEL_STATUS_SETPT, .CEL_STATUS_STATE, .CE_SLOT_STATUS_SAT, .CMD_NOTICE0_ARG, .CMD_NOTICE0_TYPE, .CMD_NOTICE1_TIME_LO, .CMD_NOTICE_SEQ_NSEQ, .CMD_PART_ID_STATE, .CMD_PART_SLOTS_BUSY, .CMD_PART_SLOTS_NEW, .CMD_PART_SLOTS_NOTICE_NEW, .CRC_EVENT_MISMATCH, .CRC_RESULT_RESULT, .CRC_STATUS_MATCH, .CRC_STATUS_MISMATCH, .CRC_STATUS_MISMATCH_COUNT, .CRC_STATUS_STATE, .CRC_VALUE_VALUE, .DOM_EVENT_DERATE, .DOM_EVENT_FENCE, .DOM_SETPT_VEFF, .DOM_START_STATUS_ARMED, .DOM_START_STATUS_BOOST, .DOM_START_STATUS_PRE_ACTIVE, .DOM_START_STATUS_SLOPE_EFF, .DOM_START_STATUS_WAITING, .DOM_START_STATUS_WAVES, .DOM_STATUS_DROOP_FLOOR, .DOM_STATUS_GATE_CLOSED, .DOM_STATUS_READY, .DOM_STATUS_STATE, .DOM_STATUS_STEP, .DOM_STATUS_WAKE_WAIT, .DOM_WAVE_ID_BARRIER_ID, .DOM_WAVE_ID_ENGINES, .DOM_WAVE_PROG_GRANTED, .DOM_WAVE_PROG_STATE, .DOM_WAVE_PROG_WAVE_ARMED, .FLT_SRC_STATE, .FLT_STATUS_FATAL, .FLT_STATUS_FATAL_CODE, .FLT_STATUS_FATAL_SUB, .FLT_STATUS_PAIR_ASSERT, .FLT_STATUS_PAIR_C, .FLT_STATUS_PAIR_T, .GLB_BOOT_STATUS_ERR, .GLB_BOOT_STATUS_PWR_OK, .GLB_BOOT_STATUS_STATE, .GLB_FW_IL_GROUP, .GLB_FW_IL_SET, .GLB_VSTK_STATUS_CLAMPED, .GLB_VSTK_STATUS_VSTK_CODE, .PHS_GRP_EVENT_LATCHED, .PHS_GRP_REF_VREF, .PHS_GRP_STATUS_STATE, .PHS_GRP_TON_TON_BASE, .PHS_PH_STATUS_PH_STATE, .PHS_PH_STATUS_TRIM] : List Fld)) :
    (State.stopRamp s g fatal).getF fld itm = s.getF fld itm := by
  try simp only [List.mem_cons, not_or, List.not_mem_nil, not_false_eq_true] at hw
  simp (maxDischargeDepth := 60) [State.stopRamp, hw, apply_ite Prod.snd]

@[simp] theorem State.stopRamp_parts (s : State) (g : Nat) (fatal : Bool) :
    (State.stopRamp s g fatal).time = s.time ∧ (State.stopRamp s g fatal).cfg = s.cfg ∧ (State.stopRamp s g fatal).thm = s.thm ∧ (State.stopRamp s g fatal).hrd = s.hrd ∧ (State.stopRamp s g fatal).adc = s.adc ∧ (State.stopRamp s g fatal).fw = s.fw ∧ (State.stopRamp s g fatal).lt = s.lt ∧ (State.stopRamp s g fatal).pending = s.pending := by
  refine ⟨?_, ?_, ?_, ?_, ?_, ?_, ?_, ?_⟩ <;> (simp (maxDischargeDepth := 60) [State.stopRamp, apply_ite Prod.snd])

@[simp] theorem State.stopRamp_ok (s : State) (g : Nat) (fatal : Bool) (hok : s.fieldsOk) : (State.stopRamp s g fatal).fieldsOk := by
  simp +contextual (maxDischargeDepth := 60) [State.stopRamp, hok, apply_ite Prod.snd]

@[simp] theorem State.groupFatal_getF (s : State) (g : Nat) (fld : Fld) (itm : Nat) (hw : fld ∉ ([.ADC_CV_STATUS_PD, .ADC_CV_STATUS_STATE, .ADC_STATUS_LP_ACTIVE, .CEL_STATUS_SETPT, .CEL_STATUS_STATE, .CE_SLOT_STATUS_SAT, .CMD_NOTICE0_ARG, .CMD_NOTICE0_TYPE, .CMD_NOTICE1_TIME_LO, .CMD_NOTICE_SEQ_NSEQ, .CMD_PART_ID_STATE, .CMD_PART_SLOTS_BUSY, .CMD_PART_SLOTS_NEW, .CMD_PART_SLOTS_NOTICE_NEW, .CRC_EVENT_MISMATCH, .CRC_RESULT_RESULT, .CRC_STATUS_MATCH, .CRC_STATUS_MISMATCH, .CRC_STATUS_MISMATCH_COUNT, .CRC_STATUS_STATE, .CRC_VALUE_VALUE, .DOM_EVENT_DERATE, .DOM_EVENT_FENCE, .DOM_SETPT_VEFF, .DOM_START_STATUS_ARMED, .DOM_START_STATUS_BOOST, .DOM_START_STATUS_PRE_ACTIVE, .DOM_START_STATUS_SLOPE_EFF, .DOM_START_STATUS_WAITING, .DOM_START_STATUS_WAVES, .DOM_STATUS_DROOP_FLOOR, .DOM_STATUS_GATE_CLOSED, .DOM_STATUS_READY, .DOM_STATUS_STATE, .DOM_STATUS_STEP, .DOM_STATUS_WAKE_WAIT, .DOM_WAVE_ID_BARRIER_ID, .DOM_WAVE_ID_ENGINES, .DOM_WAVE_PROG_GRANTED, .DOM_WAVE_PROG_STATE, .DOM_WAVE_PROG_WAVE_ARMED, .FLT_SRC_STATE, .FLT_STATUS_FATAL, .FLT_STATUS_FATAL_CODE, .FLT_STATUS_FATAL_SUB, .FLT_STATUS_PAIR_ASSERT, .FLT_STATUS_PAIR_C, .FLT_STATUS_PAIR_T, .GLB_BOOT_STATUS_ERR, .GLB_BOOT_STATUS_PWR_OK, .GLB_BOOT_STATUS_STATE, .GLB_FW_IL_GROUP, .GLB_FW_IL_SET, .GLB_VSTK_STATUS_CLAMPED, .GLB_VSTK_STATUS_VSTK_CODE, .PHS_GRP_EVENT_LATCHED, .PHS_GRP_REF_VREF, .PHS_GRP_STATUS_STATE, .PHS_GRP_TON_TON_BASE, .PHS_PH_STATUS_PH_STATE, .PHS_PH_STATUS_TRIM] : List Fld)) :
    (State.groupFatal s g).getF fld itm = s.getF fld itm := by
  try simp only [List.mem_cons, not_or, List.not_mem_nil, not_false_eq_true] at hw
  ((unfold State.groupFatal); (try simp only []); (repeat' split) <;> (try simp (maxDischargeDepth := 60) [hw, State.when, apply_ite Prod.snd]))

@[simp] theorem State.groupFatal_parts (s : State) (g : Nat) :
    (State.groupFatal s g).time = s.time ∧ (State.groupFatal s g).cfg = s.cfg ∧ (State.groupFatal s g).thm = s.thm ∧ (State.groupFatal s g).hrd = s.hrd ∧ (State.groupFatal s g).adc = s.adc ∧ (State.groupFatal s g).fw = s.fw ∧ (State.groupFatal s g).lt = s.lt ∧ (State.groupFatal s g).pending = s.pending := by
  refine ⟨?_, ?_, ?_, ?_, ?_, ?_, ?_, ?_⟩ <;> ((unfold State.groupFatal); (try simp only []); (repeat' split) <;> (try simp (maxDischargeDepth := 60) [State.when, apply_ite Prod.snd]))

@[simp] theorem State.groupFatal_ok (s : State) (g : Nat) (hok : s.fieldsOk) : (State.groupFatal s g).fieldsOk := by
  ((unfold State.groupFatal); (try simp only []); (repeat' split) <;> (try simp +contextual (maxDischargeDepth := 60) [hok, State.when, apply_ite Prod.snd]))

@[simp] theorem State.recount_getF (s : State) (g : Nat) (fld : Fld) (itm : Nat) (hw : fld ∉ ([.ADC_CV_STATUS_PD, .ADC_CV_STATUS_STATE, .ADC_STATUS_LP_ACTIVE, .GLB_BOOT_STATUS_ERR, .GLB_BOOT_STATUS_PWR_OK, .GLB_BOOT_STATUS_STATE, .GLB_DESIGN_CUR_EDC_EFF, .GLB_DESIGN_CUR_TDC_EFF, .GLB_FW_IL_GROUP, .GLB_FW_IL_SET, .GLB_VSTK_STATUS_VSTK_LIVE, .PHS_GRP_EVENT_LATCHED, .PHS_GRP_STATUS_LIVE, .PHS_GRP_STATUS_STATE, .PHS_PH_STATUS_PH_STATE, .PHS_PH_STATUS_TRIM] : List Fld)) :
    (State.recount s g).getF fld itm = s.getF fld itm := by
  try simp only [List.mem_cons, not_or, List.not_mem_nil, not_false_eq_true] at hw
  simp (maxDischargeDepth := 60) [State.recount, hw, apply_ite Prod.snd]

@[simp] theorem State.recount_parts (s : State) (g : Nat) :
    (State.recount s g).time = s.time ∧ (State.recount s g).cfg = s.cfg ∧ (State.recount s g).out = s.out ∧ (State.recount s g).freeCtr = s.freeCtr ∧ (State.recount s g).flt = s.flt ∧ (State.recount s g).dom = s.dom ∧ (State.recount s g).eng = s.eng ∧ (State.recount s g).start = s.start ∧ (State.recount s g).est = s.est ∧ (State.recount s g).bud = s.bud ∧ (State.recount s g).thm = s.thm ∧ (State.recount s g).hrd = s.hrd ∧ (State.recount s g).tlm = s.tlm ∧ (State.recount s g).cmd = s.cmd ∧ (State.recount s g).adc = s.adc ∧ (State.recount s g).fw = s.fw ∧ (State.recount s g).lt = s.lt ∧ (State.recount s g).pending = s.pending := by
  refine ⟨?_, ?_, ?_, ?_, ?_, ?_, ?_, ?_, ?_, ?_, ?_, ?_, ?_, ?_, ?_, ?_, ?_, ?_⟩ <;> (simp (maxDischargeDepth := 60) [State.recount, apply_ite Prod.snd])

@[simp] theorem State.recount_ok (s : State) (g : Nat) (hok : s.fieldsOk) : (State.recount s g).fieldsOk := by
  simp +contextual (maxDischargeDepth := 60) [State.recount, hok, apply_ite Prod.snd]

@[simp] theorem State.senseFail_getF (s : State) (p : Nat) (fld : Fld) (itm : Nat) (hw : fld ∉ ([.PHS_GRP_EVENT_SENSE_FAIL] : List Fld)) :
    (State.senseFail s p).getF fld itm = s.getF fld itm := by
  try simp only [List.mem_cons, not_or, List.not_mem_nil, not_false_eq_true] at hw
  simp (maxDischargeDepth := 60) [State.senseFail, hw, apply_ite Prod.snd]

@[simp] theorem State.senseFail_parts (s : State) (p : Nat) :
    (State.senseFail s p).time = s.time ∧ (State.senseFail s p).cfg = s.cfg ∧ (State.senseFail s p).out = s.out ∧ (State.senseFail s p).freeCtr = s.freeCtr ∧ (State.senseFail s p).flt = s.flt ∧ (State.senseFail s p).dom = s.dom ∧ (State.senseFail s p).eng = s.eng ∧ (State.senseFail s p).start = s.start ∧ (State.senseFail s p).est = s.est ∧ (State.senseFail s p).bud = s.bud ∧ (State.senseFail s p).thm = s.thm ∧ (State.senseFail s p).hrd = s.hrd ∧ (State.senseFail s p).tlm = s.tlm ∧ (State.senseFail s p).cmd = s.cmd ∧ (State.senseFail s p).boot = s.boot ∧ (State.senseFail s p).adc = s.adc ∧ (State.senseFail s p).fw = s.fw ∧ (State.senseFail s p).lt = s.lt ∧ (State.senseFail s p).pending = s.pending := by
  refine ⟨?_, ?_, ?_, ?_, ?_, ?_, ?_, ?_, ?_, ?_, ?_, ?_, ?_, ?_, ?_, ?_, ?_, ?_, ?_⟩ <;> (simp (maxDischargeDepth := 60) [State.senseFail, apply_ite Prod.snd])

@[simp] theorem State.senseFail_ok (s : State) (p : Nat) (hok : s.fieldsOk) : (State.senseFail s p).fieldsOk := by
  simp +contextual (maxDischargeDepth := 60) [State.senseFail, hok, apply_ite Prod.snd]

@[simp] theorem State.foldF_getF (s : State) (vs targetUV : Nat) (fld : Fld) (itm : Nat) (hw : fld ∉ ([] : List Fld)) :
    (State.foldF s vs targetUV).2.getF fld itm = s.getF fld itm := by
  try simp only [List.mem_cons, not_or, List.not_mem_nil, not_false_eq_true] at hw
  simp (maxDischargeDepth := 60) [State.foldF, hw, apply_ite Prod.snd]

@[simp] theorem State.foldF_parts (s : State) (vs targetUV : Nat) :
    (State.foldF s vs targetUV).2.time = s.time ∧ (State.foldF s vs targetUV).2.cfg = s.cfg ∧ (State.foldF s vs targetUV).2.raiseQ = s.raiseQ ∧ (State.foldF s vs targetUV).2.out = s.out ∧ (State.foldF s vs targetUV).2.flt = s.flt ∧ (State.foldF s vs targetUV).2.phs = s.phs ∧ (State.foldF s vs targetUV).2.dom = s.dom ∧ (State.foldF s vs targetUV).2.eng = s.eng ∧ (State.foldF s vs targetUV).2.start = s.start ∧ (State.foldF s vs targetUV).2.est = s.est ∧ (State.foldF s vs targetUV).2.bud = s.bud ∧ (State.foldF s vs targetUV).2.thm = s.thm ∧ (State.foldF s vs targetUV).2.hrd = s.hrd ∧ (State.foldF s vs targetUV).2.tlm = s.tlm ∧ (State.foldF s vs targetUV).2.cmd = s.cmd ∧ (State.foldF s vs targetUV).2.boot = s.boot ∧ (State.foldF s vs targetUV).2.adc = s.adc ∧ (State.foldF s vs targetUV).2.fw = s.fw ∧ (State.foldF s vs targetUV).2.lt = s.lt ∧ (State.foldF s vs targetUV).2.pending = s.pending := by
  refine ⟨?_, ?_, ?_, ?_, ?_, ?_, ?_, ?_, ?_, ?_, ?_, ?_, ?_, ?_, ?_, ?_, ?_, ?_, ?_, ?_⟩ <;> (simp (maxDischargeDepth := 60) [State.foldF, apply_ite Prod.snd])

@[simp] theorem State.foldF_ok (s : State) (vs targetUV : Nat) (hok : s.fieldsOk) : (State.foldF s vs targetUV).2.fieldsOk := by
  simp +contextual (maxDischargeDepth := 60) [State.foldF, hok, apply_ite Prod.snd]

@[simp] theorem State.setPass_getF (s : State) (g : Nat) (l : List Nat) (fld : Fld) (itm : Nat) (hw : fld ∉ ([] : List Fld)) :
    (State.setPass s g l).getF fld itm = s.getF fld itm := by
  try simp only [List.mem_cons, not_or, List.not_mem_nil, not_false_eq_true] at hw
  simp (maxDischargeDepth := 60) [State.setPass, hw, apply_ite Prod.snd]

@[simp] theorem State.setPass_parts (s : State) (g : Nat) (l : List Nat) :
    (State.setPass s g l).time = s.time ∧ (State.setPass s g l).cfg = s.cfg ∧ (State.setPass s g l).raiseQ = s.raiseQ ∧ (State.setPass s g l).out = s.out ∧ (State.setPass s g l).freeCtr = s.freeCtr ∧ (State.setPass s g l).flt = s.flt ∧ (State.setPass s g l).dom = s.dom ∧ (State.setPass s g l).eng = s.eng ∧ (State.setPass s g l).start = s.start ∧ (State.setPass s g l).est = s.est ∧ (State.setPass s g l).bud = s.bud ∧ (State.setPass s g l).thm = s.thm ∧ (State.setPass s g l).hrd = s.hrd ∧ (State.setPass s g l).tlm = s.tlm ∧ (State.setPass s g l).cmd = s.cmd ∧ (State.setPass s g l).boot = s.boot ∧ (State.setPass s g l).adc = s.adc ∧ (State.setPass s g l).fw = s.fw ∧ (State.setPass s g l).lt = s.lt ∧ (State.setPass s g l).pending = s.pending := by
  refine ⟨?_, ?_, ?_, ?_, ?_, ?_, ?_, ?_, ?_, ?_, ?_, ?_, ?_, ?_, ?_, ?_, ?_, ?_, ?_, ?_⟩ <;> (simp (maxDischargeDepth := 60) [State.setPass, apply_ite Prod.snd])

@[simp] theorem State.setPass_ok (s : State) (g : Nat) (l : List Nat) (hok : s.fieldsOk) : (State.setPass s g l).fieldsOk := by
  simp +contextual (maxDischargeDepth := 60) [State.setPass, hok, apply_ite Prod.snd]

@[simp] theorem State.notePulse_getF (s : State) (g p start code : Nat) (fld : Fld) (itm : Nat) (hw : fld ∉ ([] : List Fld)) :
    (State.notePulse s g p start code).getF fld itm = s.getF fld itm := by
  try simp only [List.mem_cons, not_or, List.not_mem_nil, not_false_eq_true] at hw
  simp (maxDischargeDepth := 60) [State.notePulse, hw, apply_ite Prod.snd]

@[simp] theorem State.notePulse_parts (s : State) (g p start code : Nat) :
    (State.notePulse s g p start code).time = s.time ∧ (State.notePulse s g p start code).cfg = s.cfg ∧ (State.notePulse s g p start code).raiseQ = s.raiseQ ∧ (State.notePulse s g p start code).out = s.out ∧ (State.notePulse s g p start code).freeCtr = s.freeCtr ∧ (State.notePulse s g p start code).flt = s.flt ∧ (State.notePulse s g p start code).dom = s.dom ∧ (State.notePulse s g p start code).eng = s.eng ∧ (State.notePulse s g p start code).start = s.start ∧ (State.notePulse s g p start code).est = s.est ∧ (State.notePulse s g p start code).bud = s.bud ∧ (State.notePulse s g p start code).thm = s.thm ∧ (State.notePulse s g p start code).hrd = s.hrd ∧ (State.notePulse s g p start code).tlm = s.tlm ∧ (State.notePulse s g p start code).cmd = s.cmd ∧ (State.notePulse s g p start code).boot = s.boot ∧ (State.notePulse s g p start code).adc = s.adc ∧ (State.notePulse s g p start code).fw = s.fw ∧ (State.notePulse s g p start code).lt = s.lt ∧ (State.notePulse s g p start code).pending = s.pending := by
  refine ⟨?_, ?_, ?_, ?_, ?_, ?_, ?_, ?_, ?_, ?_, ?_, ?_, ?_, ?_, ?_, ?_, ?_, ?_, ?_, ?_⟩ <;> (simp (maxDischargeDepth := 60) [State.notePulse, apply_ite Prod.snd])

@[simp] theorem State.notePulse_ok (s : State) (g p start code : Nat) (hok : s.fieldsOk) : (State.notePulse s g p start code).fieldsOk := by
  simp +contextual (maxDischargeDepth := 60) [State.notePulse, hok, apply_ite Prod.snd]

@[simp] theorem State.busSample_getF (s : State) (mv : Nat) (fld : Fld) (itm : Nat) (hw : fld ∉ ([.GLB_VSTK_STATUS_BUS_OOR, .PHS_GRP_REF_VREF, .PHS_GRP_TON_TON_BASE, .PHS_GRP_TON_VBUS_USED] : List Fld)) :
    (State.busSample s mv).getF fld itm = s.getF fld itm := by
  try simp only [List.mem_cons, not_or, List.not_mem_nil, not_false_eq_true] at hw
  simp (maxDischargeDepth := 60) [State.busSample, hw, apply_ite Prod.snd]

@[simp] theorem State.busSample_parts (s : State) (mv : Nat) :
    (State.busSample s mv).time = s.time ∧ (State.busSample s mv).cfg = s.cfg ∧ (State.busSample s mv).raiseQ = s.raiseQ ∧ (State.busSample s mv).out = s.out ∧ (State.busSample s mv).freeCtr = s.freeCtr ∧ (State.busSample s mv).flt = s.flt ∧ (State.busSample s mv).phs = s.phs ∧ (State.busSample s mv).dom = s.dom ∧ (State.busSample s mv).eng = s.eng ∧ (State.busSample s mv).start = s.start ∧ (State.busSample s mv).est = s.est ∧ (State.busSample s mv).bud = s.bud ∧ (State.busSample s mv).thm = s.thm ∧ (State.busSample s mv).hrd = s.hrd ∧ (State.busSample s mv).tlm = s.tlm ∧ (State.busSample s mv).cmd = s.cmd ∧ (State.busSample s mv).adc = s.adc ∧ (State.busSample s mv).fw = s.fw ∧ (State.busSample s mv).lt = s.lt ∧ (State.busSample s mv).pending = s.pending := by
  refine ⟨?_, ?_, ?_, ?_, ?_, ?_, ?_, ?_, ?_, ?_, ?_, ?_, ?_, ?_, ?_, ?_, ?_, ?_, ?_, ?_⟩ <;> (simp (maxDischargeDepth := 60) [State.busSample, apply_ite Prod.snd])

@[simp] theorem State.busSample_ok (s : State) (mv : Nat) (hok : s.fieldsOk) : (State.busSample s mv).fieldsOk := by
  simp +contextual (maxDischargeDepth := 60) [State.busSample, hok, apply_ite Prod.snd]

@[simp] theorem State.pmbIssue_getF (s : State) (fld : Fld) (itm : Nat) (hw : fld ∉ ([] : List Fld)) :
    (State.pmbIssue s).getF fld itm = s.getF fld itm := by
  try simp only [List.mem_cons, not_or, List.not_mem_nil, not_false_eq_true] at hw
  ((unfold State.pmbIssue); (try simp only []); (repeat' split) <;> (try simp (maxDischargeDepth := 60) [hw, State.when, apply_ite Prod.snd]))

@[simp] theorem State.pmbIssue_parts (s : State) :
    (State.pmbIssue s).time = s.time ∧ (State.pmbIssue s).cfg = s.cfg ∧ (State.pmbIssue s).raiseQ = s.raiseQ ∧ (State.pmbIssue s).freeCtr = s.freeCtr ∧ (State.pmbIssue s).flt = s.flt ∧ (State.pmbIssue s).phs = s.phs ∧ (State.pmbIssue s).dom = s.dom ∧ (State.pmbIssue s).eng = s.eng ∧ (State.pmbIssue s).start = s.start ∧ (State.pmbIssue s).est = s.est ∧ (State.pmbIssue s).bud = s.bud ∧ (State.pmbIssue s).thm = s.thm ∧ (State.pmbIssue s).hrd = s.hrd ∧ (State.pmbIssue s).tlm = s.tlm ∧ (State.pmbIssue s).cmd = s.cmd ∧ (State.pmbIssue s).boot = s.boot ∧ (State.pmbIssue s).adc = s.adc ∧ (State.pmbIssue s).fw = s.fw ∧ (State.pmbIssue s).lt = s.lt ∧ (State.pmbIssue s).pending = s.pending := by
  refine ⟨?_, ?_, ?_, ?_, ?_, ?_, ?_, ?_, ?_, ?_, ?_, ?_, ?_, ?_, ?_, ?_, ?_, ?_, ?_, ?_⟩ <;> ((unfold State.pmbIssue); (try simp only []); (repeat' split) <;> (try simp (maxDischargeDepth := 60) [State.when, apply_ite Prod.snd]))

@[simp] theorem State.pmbIssue_ok (s : State) (hok : s.fieldsOk) : (State.pmbIssue s).fieldsOk := by
  ((unfold State.pmbIssue); (try simp only []); (repeat' split) <;> (try simp +contextual (maxDischargeDepth := 60) [hok, State.when, apply_ite Prod.snd]))

@[simp] theorem State.pmbAsk_getF (s : State) (fld : Fld) (itm : Nat) (hw : fld ∉ ([] : List Fld)) :
    (State.pmbAsk s).getF fld itm = s.getF fld itm := by
  try simp only [List.mem_cons, not_or, List.not_mem_nil, not_false_eq_true] at hw
  ((unfold State.pmbAsk); (try simp only []); (repeat' split) <;> (try simp (maxDischargeDepth := 60) [hw, State.when, apply_ite Prod.snd]))

@[simp] theorem State.pmbAsk_parts (s : State) :
    (State.pmbAsk s).time = s.time ∧ (State.pmbAsk s).cfg = s.cfg ∧ (State.pmbAsk s).raiseQ = s.raiseQ ∧ (State.pmbAsk s).freeCtr = s.freeCtr ∧ (State.pmbAsk s).flt = s.flt ∧ (State.pmbAsk s).dom = s.dom ∧ (State.pmbAsk s).eng = s.eng ∧ (State.pmbAsk s).start = s.start ∧ (State.pmbAsk s).est = s.est ∧ (State.pmbAsk s).bud = s.bud ∧ (State.pmbAsk s).thm = s.thm ∧ (State.pmbAsk s).hrd = s.hrd ∧ (State.pmbAsk s).tlm = s.tlm ∧ (State.pmbAsk s).cmd = s.cmd ∧ (State.pmbAsk s).boot = s.boot ∧ (State.pmbAsk s).adc = s.adc ∧ (State.pmbAsk s).fw = s.fw ∧ (State.pmbAsk s).lt = s.lt ∧ (State.pmbAsk s).pending = s.pending := by
  refine ⟨?_, ?_, ?_, ?_, ?_, ?_, ?_, ?_, ?_, ?_, ?_, ?_, ?_, ?_, ?_, ?_, ?_, ?_, ?_⟩ <;> ((unfold State.pmbAsk); (try simp only []); (repeat' split) <;> (try simp (maxDischargeDepth := 60) [State.when, apply_ite Prod.snd]))

@[simp] theorem State.pmbAsk_ok (s : State) (hok : s.fieldsOk) : (State.pmbAsk s).fieldsOk := by
  ((unfold State.pmbAsk); (try simp only []); (repeat' split) <;> (try simp +contextual (maxDischargeDepth := 60) [hok, State.when, apply_ite Prod.snd]))

end Sys2Proof.Machine
end

