-- ==== Sys2Proof/Laws/EngineOps.lean ====
section
/-! SUPPORT. What each control engine operation can do: the fields it may write, the parts of the state it keeps, and that it keeps
the register table in its canonical form. -/

namespace Sys2Proof.Machine
open Host (Outcome)
set_option maxRecDepth 4000
set_option linter.unusedSimpArgs false
set_option linter.unusedVariables false
set_option linter.unreachableTactic false
set_option linter.unusedTactic false

@[simp] theorem State.setElem_getF (s : State) (n k : Nat) (e : Elem) (fld : Fld) (itm : Nat) (hw : fld ∉ ([] : List Fld)) :
    (State.setElem s n k e).getF fld itm = s.getF fld itm := by
  try simp only [List.mem_cons, not_or, List.not_mem_nil, not_false_eq_true] at hw
  simp (maxDischargeDepth := 60) [State.setElem, hw, apply_ite Prod.snd]

@[simp] theorem State.setElem_parts (s : State) (n k : Nat) (e : Elem) :
    (State.setElem s n k e).time = s.time ∧ (State.setElem s n k e).cfg = s.cfg ∧ (State.setElem s n k e).raiseQ = s.raiseQ ∧ (State.setElem s n k e).out = s.out ∧ (State.setElem s n k e).freeCtr = s.freeCtr ∧ (State.setElem s n k e).flt = s.flt ∧ (State.setElem s n k e).phs = s.phs ∧ (State.setElem s n k e).dom = s.dom ∧ (State.setElem s n k e).start = s.start ∧ (State.setElem s n k e).est = s.est ∧ (State.setElem s n k e).bud = s.bud ∧ (State.setElem s n k e).thm = s.thm ∧ (State.setElem s n k e).hrd = s.hrd ∧ (State.setElem s n k e).tlm = s.tlm ∧ (State.setElem s n k e).cmd = s.cmd ∧ (State.setElem s n k e).boot = s.boot ∧ (State.setElem s n k e).adc = s.adc ∧ (State.setElem s n k e).fw = s.fw ∧ (State.setElem s n k e).lt = s.lt ∧ (State.setElem s n k e).pending = s.pending := by
  refine ⟨?_, ?_, ?_, ?_, ?_, ?_, ?_, ?_, ?_, ?_, ?_, ?_, ?_, ?_, ?_, ?_, ?_, ?_, ?_, ?_⟩ <;> (simp (maxDischargeDepth := 60) [State.setElem, apply_ite Prod.snd])

@[simp] theorem State.setElem_ok (s : State) (n k : Nat) (e : Elem) (hok : s.fieldsOk) : (State.setElem s n k e).fieldsOk := by
  simp +contextual (maxDischargeDepth := 60) [State.setElem, hok, apply_ite Prod.snd]

@[simp] theorem State.showPre_getF (s : State) (fld : Fld) (itm : Nat) (hw : fld ∉ ([.DOM_START_STATUS_PRE_ACTIVE] : List Fld)) :
    (State.showPre s).getF fld itm = s.getF fld itm := by
  try simp only [List.mem_cons, not_or, List.not_mem_nil, not_false_eq_true] at hw
  simp (maxDischargeDepth := 60) [State.showPre, hw, apply_ite Prod.snd]

@[simp] theorem State.showPre_parts (s : State) :
    (State.showPre s).time = s.time ∧ (State.showPre s).cfg = s.cfg ∧ (State.showPre s).raiseQ = s.raiseQ ∧ (State.showPre s).out = s.out ∧ (State.showPre s).freeCtr = s.freeCtr ∧ (State.showPre s).flt = s.flt ∧ (State.showPre s).phs = s.phs ∧ (State.showPre s).dom = s.dom ∧ (State.showPre s).eng = s.eng ∧ (State.showPre s).start = s.start ∧ (State.showPre s).est = s.est ∧ (State.showPre s).bud = s.bud ∧ (State.showPre s).thm = s.thm ∧ (State.showPre s).hrd = s.hrd ∧ (State.showPre s).tlm = s.tlm ∧ (State.showPre s).cmd = s.cmd ∧ (State.showPre s).boot = s.boot ∧ (State.showPre s).adc = s.adc ∧ (State.showPre s).fw = s.fw ∧ (State.showPre s).lt = s.lt ∧ (State.showPre s).pending = s.pending := by
  refine ⟨?_, ?_, ?_, ?_, ?_, ?_, ?_, ?_, ?_, ?_, ?_, ?_, ?_, ?_, ?_, ?_, ?_, ?_, ?_, ?_, ?_⟩ <;> (simp (maxDischargeDepth := 60) [State.showPre, apply_ite Prod.snd])

@[simp] theorem State.showPre_ok (s : State) (hok : s.fieldsOk) : (State.showPre s).fieldsOk := by
  simp +contextual (maxDischargeDepth := 60) [State.showPre, hok, apply_ite Prod.snd]

@[simp] theorem State.spoilChecks_getF (s : State) (tile : Nat) (fld : Fld) (itm : Nat) (hw : fld ∉ ([] : List Fld)) :
    (State.spoilChecks s tile).getF fld itm = s.getF fld itm := by
  try simp only [List.mem_cons, not_or, List.not_mem_nil, not_false_eq_true] at hw
  simp (maxDischargeDepth := 60) [State.spoilChecks, hw, apply_ite Prod.snd]

@[simp] theorem State.spoilChecks_parts (s : State) (tile : Nat) :
    (State.spoilChecks s tile).time = s.time ∧ (State.spoilChecks s tile).cfg = s.cfg ∧ (State.spoilChecks s tile).raiseQ = s.raiseQ ∧ (State.spoilChecks s tile).out = s.out ∧ (State.spoilChecks s tile).freeCtr = s.freeCtr ∧ (State.spoilChecks s tile).flt = s.flt ∧ (State.spoilChecks s tile).phs = s.phs ∧ (State.spoilChecks s tile).dom = s.dom ∧ (State.spoilChecks s tile).eng = s.eng ∧ (State.spoilChecks s tile).est = s.est ∧ (State.spoilChecks s tile).bud = s.bud ∧ (State.spoilChecks s tile).thm = s.thm ∧ (State.spoilChecks s tile).hrd = s.hrd ∧ (State.spoilChecks s tile).tlm = s.tlm ∧ (State.spoilChecks s tile).cmd = s.cmd ∧ (State.spoilChecks s tile).boot = s.boot ∧ (State.spoilChecks s tile).adc = s.adc ∧ (State.spoilChecks s tile).fw = s.fw ∧ (State.spoilChecks s tile).lt = s.lt ∧ (State.spoilChecks s tile).pending = s.pending := by
  refine ⟨?_, ?_, ?_, ?_, ?_, ?_, ?_, ?_, ?_, ?_, ?_, ?_, ?_, ?_, ?_, ?_, ?_, ?_, ?_, ?_⟩ <;> (simp (maxDischargeDepth := 60) [State.spoilChecks, apply_ite Prod.snd])

@[simp] theorem State.spoilChecks_ok (s : State) (tile : Nat) (hok : s.fieldsOk) : (State.spoilChecks s tile).fieldsOk := by
  simp +contextual (maxDischargeDepth := 60) [State.spoilChecks, hok, apply_ite Prod.snd]

@[simp] theorem State.ladderMoved_getF (s : State) (d : Nat) (fld : Fld) (itm : Nat) (hw : fld ∉ ([] : List Fld)) :
    (State.ladderMoved s d).getF fld itm = s.getF fld itm := by
  try simp only [List.mem_cons, not_or, List.not_mem_nil, not_false_eq_true] at hw
  simp (maxDischargeDepth := 60) [State.ladderMoved, hw, apply_ite Prod.snd]

@[simp] theorem State.ladderMoved_parts (s : State) (d : Nat) :
    (State.ladderMoved s d).time = s.time ∧ (State.ladderMoved s d).cfg = s.cfg ∧ (State.ladderMoved s d).raiseQ = s.raiseQ ∧ (State.ladderMoved s d).out = s.out ∧ (State.ladderMoved s d).freeCtr = s.freeCtr ∧ (State.ladderMoved s d).flt = s.flt ∧ (State.ladderMoved s d).phs = s.phs ∧ (State.ladderMoved s d).dom = s.dom ∧ (State.ladderMoved s d).eng = s.eng ∧ (State.ladderMoved s d).est = s.est ∧ (State.ladderMoved s d).bud = s.bud ∧ (State.ladderMoved s d).thm = s.thm ∧ (State.ladderMoved s d).hrd = s.hrd ∧ (State.ladderMoved s d).tlm = s.tlm ∧ (State.ladderMoved s d).cmd = s.cmd ∧ (State.ladderMoved s d).boot = s.boot ∧ (State.ladderMoved s d).adc = s.adc ∧ (State.ladderMoved s d).fw = s.fw ∧ (State.ladderMoved s d).lt = s.lt ∧ (State.ladderMoved s d).pending = s.pending := by
  refine ⟨?_, ?_, ?_, ?_, ?_, ?_, ?_, ?_, ?_, ?_, ?_, ?_, ?_, ?_, ?_, ?_, ?_, ?_, ?_, ?_⟩ <;> (simp (maxDischargeDepth := 60) [State.ladderMoved, apply_ite Prod.snd])

@[simp] theorem State.ladderMoved_ok (s : State) (d : Nat) (hok : s.fieldsOk) : (State.ladderMoved s d).fieldsOk := by
  simp +contextual (maxDischargeDepth := 60) [State.ladderMoved, hok, apply_ite Prod.snd]

@[simp] theorem State.drive_getF (s : State) (kind i : Nat) (v : Int) (fld : Fld) (itm : Nat) (hw : fld ∉ ([.CEL_STATUS_SETPT, .DOM_SETPT_VEFF, .DOM_START_STATUS_SLOPE_EFF, .DOM_STATUS_STEP, .GLB_VSTK_STATUS_CLAMPED, .GLB_VSTK_STATUS_VSTK_CODE, .PHS_GRP_REF_VREF, .PHS_GRP_TON_TON_BASE, .PHS_PH_STATUS_TRIM] : List Fld)) :
    (State.drive s kind i v).getF fld itm = s.getF fld itm := by
  try simp only [List.mem_cons, not_or, List.not_mem_nil, not_false_eq_true] at hw
  ((unfold State.drive); (try simp only []); (repeat' split) <;> (try simp (maxDischargeDepth := 60) [hw, State.when, apply_ite Prod.snd]))

@[simp] theorem State.drive_parts (s : State) (kind i : Nat) (v : Int) :
    (State.drive s kind i v).time = s.time ∧ (State.drive s kind i v).cfg = s.cfg ∧ (State.drive s kind i v).raiseQ = s.raiseQ ∧ (State.drive s kind i v).freeCtr = s.freeCtr ∧ (State.drive s kind i v).flt = s.flt ∧ (State.drive s kind i v).phs = s.phs ∧ (State.drive s kind i v).eng = s.eng ∧ (State.drive s kind i v).est = s.est ∧ (State.drive s kind i v).thm = s.thm ∧ (State.drive s kind i v).hrd = s.hrd ∧ (State.drive s kind i v).cmd = s.cmd ∧ (State.drive s kind i v).boot = s.boot ∧ (State.drive s kind i v).adc = s.adc ∧ (State.drive s kind i v).fw = s.fw ∧ (State.drive s kind i v).lt = s.lt ∧ (State.drive s kind i v).pending = s.pending := by
  refine ⟨?_, ?_, ?_, ?_, ?_, ?_, ?_, ?_, ?_, ?_, ?_, ?_, ?_, ?_, ?_, ?_⟩ <;> (unfold State.drive; split <;> simp)

@[simp] theorem State.drive_ok (s : State) (kind i : Nat) (v : Int) (hok : s.fieldsOk) : (State.drive s kind i v).fieldsOk := by
  ((unfold State.drive); (try simp only []); (repeat' split) <;> (try simp +contextual (maxDischargeDepth := 60) [hok, State.when, apply_ite Prod.snd]))

@[simp] theorem State.rearb_getF (s : State) (kind i : Nat) (fld : Fld) (itm : Nat) (hw : fld ∉ ([.CEL_STATUS_SETPT, .DOM_SETPT_VEFF, .DOM_START_STATUS_SLOPE_EFF, .DOM_STATUS_STEP, .GLB_VSTK_STATUS_CLAMPED, .GLB_VSTK_STATUS_VSTK_CODE, .PHS_GRP_REF_VREF, .PHS_GRP_TON_TON_BASE, .PHS_PH_STATUS_TRIM] : List Fld)) :
    (State.rearb s kind i).getF fld itm = s.getF fld itm := by
  try simp only [List.mem_cons, not_or, List.not_mem_nil, not_false_eq_true] at hw
  ((unfold State.rearb); (try simp only []); (repeat' split) <;> (try simp (maxDischargeDepth := 60) [hw, State.when, apply_ite Prod.snd]))

@[simp] theorem State.rearb_parts (s : State) (kind i : Nat) :
    (State.rearb s kind i).time = s.time ∧ (State.rearb s kind i).cfg = s.cfg ∧ (State.rearb s kind i).raiseQ = s.raiseQ ∧ (State.rearb s kind i).freeCtr = s.freeCtr ∧ (State.rearb s kind i).flt = s.flt ∧ (State.rearb s kind i).phs = s.phs ∧ (State.rearb s kind i).eng = s.eng ∧ (State.rearb s kind i).est = s.est ∧ (State.rearb s kind i).thm = s.thm ∧ (State.rearb s kind i).hrd = s.hrd ∧ (State.rearb s kind i).cmd = s.cmd ∧ (State.rearb s kind i).boot = s.boot ∧ (State.rearb s kind i).adc = s.adc ∧ (State.rearb s kind i).fw = s.fw ∧ (State.rearb s kind i).lt = s.lt ∧ (State.rearb s kind i).pending = s.pending := by
  refine ⟨?_, ?_, ?_, ?_, ?_, ?_, ?_, ?_, ?_, ?_, ?_, ?_, ?_, ?_, ?_, ?_⟩ <;> ((unfold State.rearb); (try simp only []); (repeat' split) <;> (try simp (maxDischargeDepth := 60) [State.when, apply_ite Prod.snd]))

@[simp] theorem State.rearb_ok (s : State) (kind i : Nat) (hok : s.fieldsOk) : (State.rearb s kind i).fieldsOk := by
  ((unfold State.rearb); (try simp only []); (repeat' split) <;> (try simp +contextual (maxDischargeDepth := 60) [hok, State.when, apply_ite Prod.snd]))

@[simp] theorem State.rearbDom_getF (s : State) (d : Nat) (fld : Fld) (itm : Nat) (hw : fld ∉ ([.CEL_STATUS_SETPT, .DOM_SETPT_VEFF, .DOM_START_STATUS_SLOPE_EFF, .DOM_STATUS_STEP, .GLB_VSTK_STATUS_CLAMPED, .GLB_VSTK_STATUS_VSTK_CODE, .PHS_GRP_REF_VREF, .PHS_GRP_TON_TON_BASE, .PHS_PH_STATUS_TRIM] : List Fld)) :
    (State.rearbDom s d).getF fld itm = s.getF fld itm := by
  try simp only [List.mem_cons, not_or, List.not_mem_nil, not_false_eq_true] at hw
  simp (maxDischargeDepth := 60) [State.rearbDom, hw, apply_ite Prod.snd]

@[simp] theorem State.rearbDom_parts (s : State) (d : Nat) :
    (State.rearbDom s d).time = s.time ∧ (State.rearbDom s d).cfg = s.cfg ∧ (State.rearbDom s d).raiseQ = s.raiseQ ∧ (State.rearbDom s d).freeCtr = s.freeCtr ∧ (State.rearbDom s d).flt = s.flt ∧ (State.rearbDom s d).phs = s.phs ∧ (State.rearbDom s d).eng = s.eng ∧ (State.rearbDom s d).est = s.est ∧ (State.rearbDom s d).thm = s.thm ∧ (State.rearbDom s d).hrd = s.hrd ∧ (State.rearbDom s d).cmd = s.cmd ∧ (State.rearbDom s d).boot = s.boot ∧ (State.rearbDom s d).adc = s.adc ∧ (State.rearbDom s d).fw = s.fw ∧ (State.rearbDom s d).lt = s.lt ∧ (State.rearbDom s d).pending = s.pending := by
  refine ⟨?_, ?_, ?_, ?_, ?_, ?_, ?_, ?_, ?_, ?_, ?_, ?_, ?_, ?_, ?_, ?_⟩ <;> (simp (maxDischargeDepth := 60) [State.rearbDom, apply_ite Prod.snd])

@[simp] theorem State.rearbDom_ok (s : State) (d : Nat) (hok : s.fieldsOk) : (State.rearbDom s d).fieldsOk := by
  simp +contextual (maxDischargeDepth := 60) [State.rearbDom, hok, apply_ite Prod.snd]

@[simp] theorem State.setAct_getF (s : State) (n k : Nat) (a : Int) (fld : Fld) (itm : Nat) (hw : fld ∉ ([.CE_SLOT_STATUS_SAT] : List Fld)) :
    (State.setAct s n k a).getF fld itm = s.getF fld itm := by
  try simp only [List.mem_cons, not_or, List.not_mem_nil, not_false_eq_true] at hw
  simp (maxDischargeDepth := 60) [State.setAct, hw, apply_ite Prod.snd]

@[simp] theorem State.setAct_parts (s : State) (n k : Nat) (a : Int) :
    (State.setAct s n k a).time = s.time ∧ (State.setAct s n k a).cfg = s.cfg ∧ (State.setAct s n k a).raiseQ = s.raiseQ ∧ (State.setAct s n k a).out = s.out ∧ (State.setAct s n k a).flt = s.flt ∧ (State.setAct s n k a).phs = s.phs ∧ (State.setAct s n k a).dom = s.dom ∧ (State.setAct s n k a).start = s.start ∧ (State.setAct s n k a).est = s.est ∧ (State.setAct s n k a).bud = s.bud ∧ (State.setAct s n k a).thm = s.thm ∧ (State.setAct s n k a).hrd = s.hrd ∧ (State.setAct s n k a).tlm = s.tlm ∧ (State.setAct s n k a).cmd = s.cmd ∧ (State.setAct s n k a).boot = s.boot ∧ (State.setAct s n k a).adc = s.adc ∧ (State.setAct s n k a).fw = s.fw ∧ (State.setAct s n k a).lt = s.lt ∧ (State.setAct s n k a).pending = s.pending := by
  refine ⟨?_, ?_, ?_, ?_, ?_, ?_, ?_, ?_, ?_, ?_, ?_, ?_, ?_, ?_, ?_, ?_, ?_, ?_, ?_⟩ <;> (simp (maxDischargeDepth := 60) [State.setAct, apply_ite Prod.snd])

@[simp] theorem State.setAct_ok (s : State) (n k : Nat) (a : Int) (hok : s.fieldsOk) : (State.setAct s n k a).fieldsOk := by
  simp +contextual (maxDischargeDepth := 60) [State.setAct, hok, apply_ite Prod.snd]

@[simp] theorem State.moveAct_getF (s : State) (n k : Nat) (a : Int) (fld : Fld) (itm : Nat) (hw : fld ∉ ([.CE_SLOT_STATUS_SAT] : List Fld)) :
    (State.moveAct s n k a).getF fld itm = s.getF fld itm := by
  try simp only [List.mem_cons, not_or, List.not_mem_nil, not_false_eq_true] at hw
  simp (maxDischargeDepth := 60) [State.moveAct, hw, apply_ite Prod.snd]

@[simp] theorem State.moveAct_parts (s : State) (n k : Nat) (a : Int) :
    (State.moveAct s n k a).time = s.time ∧ (State.moveAct s n k a).cfg = s.cfg ∧ (State.moveAct s n k a).raiseQ = s.raiseQ ∧ (State.moveAct s n k a).out = s.out ∧ (State.moveAct s n k a).flt = s.flt ∧ (State.moveAct s n k a).phs = s.phs ∧ (State.moveAct s n k a).dom = s.dom ∧ (State.moveAct s n k a).start = s.start ∧ (State.moveAct s n k a).est = s.est ∧ (State.moveAct s n k a).bud = s.bud ∧ (State.moveAct s n k a).thm = s.thm ∧ (State.moveAct s n k a).hrd = s.hrd ∧ (State.moveAct s n k a).tlm = s.tlm ∧ (State.moveAct s n k a).cmd = s.cmd ∧ (State.moveAct s n k a).boot = s.boot ∧ (State.moveAct s n k a).adc = s.adc ∧ (State.moveAct s n k a).fw = s.fw ∧ (State.moveAct s n k a).lt = s.lt ∧ (State.moveAct s n k a).pending = s.pending := by
  refine ⟨?_, ?_, ?_, ?_, ?_, ?_, ?_, ?_, ?_, ?_, ?_, ?_, ?_, ?_, ?_, ?_, ?_, ?_, ?_⟩ <;> (simp (maxDischargeDepth := 60) [State.moveAct, apply_ite Prod.snd])

@[simp] theorem State.moveAct_ok (s : State) (n k : Nat) (a : Int) (hok : s.fieldsOk) : (State.moveAct s n k a).fieldsOk := by
  simp +contextual (maxDischargeDepth := 60) [State.moveAct, hok, apply_ite Prod.snd]

@[simp] theorem State.startElems_getF (s : State) (kind i : Nat) (v : Option Int) (fld : Fld) (itm : Nat) (hw : fld ∉ ([.CE_SLOT_STATUS_SAT] : List Fld)) :
    (State.startElems s kind i v).getF fld itm = s.getF fld itm := by
  try simp only [List.mem_cons, not_or, List.not_mem_nil, not_false_eq_true] at hw
  simp (maxDischargeDepth := 60) [State.startElems, hw, apply_ite Prod.snd]

@[simp] theorem State.startElems_parts (s : State) (kind i : Nat) (v : Option Int) :
    (State.startElems s kind i v).time = s.time ∧ (State.startElems s kind i v).cfg = s.cfg ∧ (State.startElems s kind i v).raiseQ = s.raiseQ ∧ (State.startElems s kind i v).out = s.out ∧ (State.startElems s kind i v).flt = s.flt ∧ (State.startElems s kind i v).phs = s.phs ∧ (State.startElems s kind i v).dom = s.dom ∧ (State.startElems s kind i v).start = s.start ∧ (State.startElems s kind i v).est = s.est ∧ (State.startElems s kind i v).bud = s.bud ∧ (State.startElems s kind i v).thm = s.thm ∧ (State.startElems s kind i v).hrd = s.hrd ∧ (State.startElems s kind i v).tlm = s.tlm ∧ (State.startElems s kind i v).cmd = s.cmd ∧ (State.startElems s kind i v).boot = s.boot ∧ (State.startElems s kind i v).adc = s.adc ∧ (State.startElems s kind i v).fw = s.fw ∧ (State.startElems s kind i v).lt = s.lt ∧ (State.startElems s kind i v).pending = s.pending := by
  refine ⟨?_, ?_, ?_, ?_, ?_, ?_, ?_, ?_, ?_, ?_, ?_, ?_, ?_, ?_, ?_, ?_, ?_, ?_, ?_⟩ <;> (simp (maxDischargeDepth := 60) [State.startElems, apply_ite Prod.snd])

@[simp] theorem State.startElems_ok (s : State) (kind i : Nat) (v : Option Int) (hok : s.fieldsOk) : (State.startElems s kind i v).fieldsOk := by
  simp +contextual (maxDischargeDepth := 60) [State.startElems, hok, apply_ite Prod.snd]

@[simp] theorem State.startOn_getF (s : State) (kind i : Nat) (fld : Fld) (itm : Nat) (hw : fld ∉ ([.CEL_STATUS_SETPT, .CE_SLOT_STATUS_SAT, .DOM_SETPT_VEFF, .DOM_START_STATUS_SLOPE_EFF, .DOM_STATUS_STEP, .GLB_VSTK_STATUS_CLAMPED, .GLB_VSTK_STATUS_VSTK_CODE, .PHS_GRP_REF_VREF, .PHS_GRP_TON_TON_BASE, .PHS_PH_STATUS_TRIM] : List Fld)) :
    (State.startOn s kind i).getF fld itm = s.getF fld itm := by
  try simp only [List.mem_cons, not_or, List.not_mem_nil, not_false_eq_true] at hw
  simp (maxDischargeDepth := 60) [State.startOn, hw, apply_ite Prod.snd]

@[simp] theorem State.startOn_parts (s : State) (kind i : Nat) :
    (State.startOn s kind i).time = s.time ∧ (State.startOn s kind i).cfg = s.cfg ∧ (State.startOn s kind i).raiseQ = s.raiseQ ∧ (State.startOn s kind i).flt = s.flt ∧ (State.startOn s kind i).phs = s.phs ∧ (State.startOn s kind i).est = s.est ∧ (State.startOn s kind i).thm = s.thm ∧ (State.startOn s kind i).hrd = s.hrd ∧ (State.startOn s kind i).cmd = s.cmd ∧ (State.startOn s kind i).boot = s.boot ∧ (State.startOn s kind i).adc = s.adc ∧ (State.startOn s kind i).fw = s.fw ∧ (State.startOn s kind i).lt = s.lt ∧ (State.startOn s kind i).pending = s.pending := by
  refine ⟨?_, ?_, ?_, ?_, ?_, ?_, ?_, ?_, ?_, ?_, ?_, ?_, ?_, ?_⟩ <;> (simp (maxDischargeDepth := 60) [State.startOn, apply_ite Prod.snd])

@[simp] theorem State.startOn_ok (s : State) (kind i : Nat) (hok : s.fieldsOk) : (State.startOn s kind i).fieldsOk := by
  simp +contextual (maxDischargeDepth := 60) [State.startOn, hok, apply_ite Prod.snd]

@[simp] theorem State.startDomain_getF (s : State) (d : Nat) (fld : Fld) (itm : Nat) (hw : fld ∉ ([.CEL_STATUS_SETPT, .CE_SLOT_STATUS_SAT, .DOM_SETPT_VEFF, .DOM_START_STATUS_SLOPE_EFF, .DOM_STATUS_STEP, .GLB_VSTK_STATUS_CLAMPED, .GLB_VSTK_STATUS_VSTK_CODE, .PHS_GRP_REF_VREF, .PHS_GRP_TON_TON_BASE, .PHS_PH_STATUS_TRIM] : List Fld)) :
    (State.startDomain s d).getF fld itm = s.getF fld itm := by
  try simp only [List.mem_cons, not_or, List.not_mem_nil, not_false_eq_true] at hw
  simp (maxDischargeDepth := 60) [State.startDomain, hw, apply_ite Prod.snd]

@[simp] theorem State.startDomain_parts (s : State) (d : Nat) :
    (State.startDomain s d).time = s.time ∧ (State.startDomain s d).cfg = s.cfg ∧ (State.startDomain s d).raiseQ = s.raiseQ ∧ (State.startDomain s d).flt = s.flt ∧ (State.startDomain s d).phs = s.phs ∧ (State.startDomain s d).est = s.est ∧ (State.startDomain s d).thm = s.thm ∧ (State.startDomain s d).hrd = s.hrd ∧ (State.startDomain s d).cmd = s.cmd ∧ (State.startDomain s d).boot = s.boot ∧ (State.startDomain s d).adc = s.adc ∧ (State.startDomain s d).fw = s.fw ∧ (State.startDomain s d).lt = s.lt ∧ (State.startDomain s d).pending = s.pending := by
  refine ⟨?_, ?_, ?_, ?_, ?_, ?_, ?_, ?_, ?_, ?_, ?_, ?_, ?_, ?_⟩ <;> (simp (maxDischargeDepth := 60) [State.startDomain, apply_ite Prod.snd])

@[simp] theorem State.startDomain_ok (s : State) (d : Nat) (hok : s.fieldsOk) : (State.startDomain s d).fieldsOk := by
  simp +contextual (maxDischargeDepth := 60) [State.startDomain, hok, apply_ite Prod.snd]

@[simp] theorem State.stopOn_getF (s : State) (kind i : Nat) (fld : Fld) (itm : Nat) (hw : fld ∉ ([] : List Fld)) :
    (State.stopOn s kind i).getF fld itm = s.getF fld itm := by
  try simp only [List.mem_cons, not_or, List.not_mem_nil, not_false_eq_true] at hw
  simp (maxDischargeDepth := 60) [State.stopOn, hw, apply_ite Prod.snd]

@[simp] theorem State.stopOn_parts (s : State) (kind i : Nat) :
    (State.stopOn s kind i).time = s.time ∧ (State.stopOn s kind i).cfg = s.cfg ∧ (State.stopOn s kind i).raiseQ = s.raiseQ ∧ (State.stopOn s kind i).out = s.out ∧ (State.stopOn s kind i).freeCtr = s.freeCtr ∧ (State.stopOn s kind i).flt = s.flt ∧ (State.stopOn s kind i).phs = s.phs ∧ (State.stopOn s kind i).dom = s.dom ∧ (State.stopOn s kind i).start = s.start ∧ (State.stopOn s kind i).est = s.est ∧ (State.stopOn s kind i).bud = s.bud ∧ (State.stopOn s kind i).thm = s.thm ∧ (State.stopOn s kind i).hrd = s.hrd ∧ (State.stopOn s kind i).tlm = s.tlm ∧ (State.stopOn s kind i).cmd = s.cmd ∧ (State.stopOn s kind i).boot = s.boot ∧ (State.stopOn s kind i).adc = s.adc ∧ (State.stopOn s kind i).fw = s.fw ∧ (State.stopOn s kind i).lt = s.lt ∧ (State.stopOn s kind i).pending = s.pending := by
  refine ⟨?_, ?_, ?_, ?_, ?_, ?_, ?_, ?_, ?_, ?_, ?_, ?_, ?_, ?_, ?_, ?_, ?_, ?_, ?_, ?_⟩ <;> (simp (maxDischargeDepth := 60) [State.stopOn, apply_ite Prod.snd])

@[simp] theorem State.stopOn_ok (s : State) (kind i : Nat) (hok : s.fieldsOk) : (State.stopOn s kind i).fieldsOk := by
  simp +contextual (maxDischargeDepth := 60) [State.stopOn, hok, apply_ite Prod.snd]

@[simp] theorem State.trackElem_getF (s : State) (n k : Nat) (fld : Fld) (itm : Nat) (hw : fld ∉ ([.CE_SLOT_STATUS_SAT] : List Fld)) :
    (State.trackElem s n k).getF fld itm = s.getF fld itm := by
  try simp only [List.mem_cons, not_or, List.not_mem_nil, not_false_eq_true] at hw
  ((unfold State.trackElem); (try simp only []); (repeat' split) <;> (try simp (maxDischargeDepth := 60) [hw, State.when, apply_ite Prod.snd]))

@[simp] theorem State.trackElem_parts (s : State) (n k : Nat) :
    (State.trackElem s n k).time = s.time ∧ (State.trackElem s n k).cfg = s.cfg ∧ (State.trackElem s n k).raiseQ = s.raiseQ ∧ (State.trackElem s n k).out = s.out ∧ (State.trackElem s n k).flt = s.flt ∧ (State.trackElem s n k).phs = s.phs ∧ (State.trackElem s n k).dom = s.dom ∧ (State.trackElem s n k).start = s.start ∧ (State.trackElem s n k).est = s.est ∧ (State.trackElem s n k).bud = s.bud ∧ (State.trackElem s n k).thm = s.thm ∧ (State.trackElem s n k).hrd = s.hrd ∧ (State.trackElem s n k).tlm = s.tlm ∧ (State.trackElem s n k).cmd = s.cmd ∧ (State.trackElem s n k).boot = s.boot ∧ (State.trackElem s n k).adc = s.adc ∧ (State.trackElem s n k).fw = s.fw ∧ (State.trackElem s n k).lt = s.lt ∧ (State.trackElem s n k).pending = s.pending := by
  refine ⟨?_, ?_, ?_, ?_, ?_, ?_, ?_, ?_, ?_, ?_, ?_, ?_, ?_, ?_, ?_, ?_, ?_, ?_, ?_⟩ <;> ((unfold State.trackElem); (try simp only []); (repeat' split) <;> (try simp (maxDischargeDepth := 60) [State.when, apply_ite Prod.snd]))

@[simp] theorem State.trackElem_ok (s : State) (n k : Nat) (hok : s.fieldsOk) : (State.trackElem s n k).fieldsOk := by
  ((unfold State.trackElem); (try simp only []); (repeat' split) <;> (try simp +contextual (maxDischargeDepth := 60) [hok, State.when, apply_ite Prod.snd]))

@[simp] theorem State.settle_getF (s : State) (kind i : Nat) (fld : Fld) (itm : Nat) (hw : fld ∉ ([.CEL_STATUS_SETPT, .CE_SLOT_STATUS_SAT, .DOM_SETPT_VEFF, .DOM_START_STATUS_SLOPE_EFF, .DOM_STATUS_STEP, .GLB_VSTK_STATUS_CLAMPED, .GLB_VSTK_STATUS_VSTK_CODE, .PHS_GRP_REF_VREF, .PHS_GRP_TON_TON_BASE, .PHS_PH_STATUS_TRIM] : List Fld)) :
    (State.settle s kind i).getF fld itm = s.getF fld itm := by
  try simp only [List.mem_cons, not_or, List.not_mem_nil, not_false_eq_true] at hw
  simp (maxDischargeDepth := 60) [State.settle, hw, apply_ite Prod.snd]

@[simp] theorem State.settle_parts (s : State) (kind i : Nat) :
    (State.settle s kind i).time = s.time ∧ (State.settle s kind i).cfg = s.cfg ∧ (State.settle s kind i).raiseQ = s.raiseQ ∧ (State.settle s kind i).flt = s.flt ∧ (State.settle s kind i).phs = s.phs ∧ (State.settle s kind i).est = s.est ∧ (State.settle s kind i).thm = s.thm ∧ (State.settle s kind i).hrd = s.hrd ∧ (State.settle s kind i).cmd = s.cmd ∧ (State.settle s kind i).boot = s.boot ∧ (State.settle s kind i).adc = s.adc ∧ (State.settle s kind i).fw = s.fw ∧ (State.settle s kind i).lt = s.lt ∧ (State.settle s kind i).pending = s.pending := by
  refine ⟨?_, ?_, ?_, ?_, ?_, ?_, ?_, ?_, ?_, ?_, ?_, ?_, ?_, ?_⟩ <;> (simp (maxDischargeDepth := 60) [State.settle, apply_ite Prod.snd])

@[simp] theorem State.settle_ok (s : State) (kind i : Nat) (hok : s.fieldsOk) : (State.settle s kind i).fieldsOk := by
  simp +contextual (maxDischargeDepth := 60) [State.settle, hok, apply_ite Prod.snd]

@[simp] theorem State.prevOf_getF (s : State) (n k : Nat) (fld : Fld) (itm : Nat) (hw : fld ∉ ([] : List Fld)) :
    (State.prevOf s n k).2.getF fld itm = s.getF fld itm := by
  try simp only [List.mem_cons, not_or, List.not_mem_nil, not_false_eq_true] at hw
  ((unfold State.prevOf); (try simp only []); (repeat' split) <;> (try simp (maxDischargeDepth := 60) [hw, State.when, apply_ite Prod.snd]))

@[simp] theorem State.prevOf_parts (s : State) (n k : Nat) :
    (State.prevOf s n k).2.time = s.time ∧ (State.prevOf s n k).2.cfg = s.cfg ∧ (State.prevOf s n k).2.raiseQ = s.raiseQ ∧ (State.prevOf s n k).2.out = s.out ∧ (State.prevOf s n k).2.flt = s.flt ∧ (State.prevOf s n k).2.phs = s.phs ∧ (State.prevOf s n k).2.dom = s.dom ∧ (State.prevOf s n k).2.eng = s.eng ∧ (State.prevOf s n k).2.start = s.start ∧ (State.prevOf s n k).2.est = s.est ∧ (State.prevOf s n k).2.bud = s.bud ∧ (State.prevOf s n k).2.thm = s.thm ∧ (State.prevOf s n k).2.hrd = s.hrd ∧ (State.prevOf s n k).2.tlm = s.tlm ∧ (State.prevOf s n k).2.cmd = s.cmd ∧ (State.prevOf s n k).2.boot = s.boot ∧ (State.prevOf s n k).2.adc = s.adc ∧ (State.prevOf s n k).2.fw = s.fw ∧ (State.prevOf s n k).2.lt = s.lt ∧ (State.prevOf s n k).2.pending = s.pending := by
  refine ⟨?_, ?_, ?_, ?_, ?_, ?_, ?_, ?_, ?_, ?_, ?_, ?_, ?_, ?_, ?_, ?_, ?_, ?_, ?_, ?_⟩ <;> ((unfold State.prevOf); (try simp only []); (repeat' split) <;> (try simp (maxDischargeDepth := 60) [State.when, apply_ite Prod.snd]))

@[simp] theorem State.prevOf_ok (s : State) (n k : Nat) (hok : s.fieldsOk) : (State.prevOf s n k).2.fieldsOk := by
  ((unfold State.prevOf); (try simp only []); (repeat' split) <;> (try simp +contextual (maxDischargeDepth := 60) [hok, State.when, apply_ite Prod.snd]))

@[simp] theorem State.holdInvalid_getF (s : State) (n k : Nat) (fld : Fld) (itm : Nat) (hw : fld ∉ ([.CEL_STATUS_SETPT, .CE_SLOT_STATUS_SAT, .DOM_SETPT_VEFF, .DOM_START_STATUS_SLOPE_EFF, .DOM_STATUS_STEP, .GLB_VSTK_STATUS_CLAMPED, .GLB_VSTK_STATUS_VSTK_CODE, .PHS_GRP_REF_VREF, .PHS_GRP_TON_TON_BASE, .PHS_PH_STATUS_TRIM] : List Fld)) :
    (State.holdInvalid s n k).getF fld itm = s.getF fld itm := by
  try simp only [List.mem_cons, not_or, List.not_mem_nil, not_false_eq_true] at hw
  simp (maxDischargeDepth := 60) [State.holdInvalid, hw, apply_ite Prod.snd]

@[simp] theorem State.holdInvalid_parts (s : State) (n k : Nat) :
    (State.holdInvalid s n k).time = s.time ∧ (State.holdInvalid s n k).cfg = s.cfg ∧ (State.holdInvalid s n k).raiseQ = s.raiseQ ∧ (State.holdInvalid s n k).flt = s.flt ∧ (State.holdInvalid s n k).phs = s.phs ∧ (State.holdInvalid s n k).est = s.est ∧ (State.holdInvalid s n k).thm = s.thm ∧ (State.holdInvalid s n k).hrd = s.hrd ∧ (State.holdInvalid s n k).cmd = s.cmd ∧ (State.holdInvalid s n k).boot = s.boot ∧ (State.holdInvalid s n k).adc = s.adc ∧ (State.holdInvalid s n k).fw = s.fw ∧ (State.holdInvalid s n k).lt = s.lt ∧ (State.holdInvalid s n k).pending = s.pending := by
  refine ⟨?_, ?_, ?_, ?_, ?_, ?_, ?_, ?_, ?_, ?_, ?_, ?_, ?_, ?_⟩ <;> (simp (maxDischargeDepth := 60) [State.holdInvalid, apply_ite Prod.snd])

@[simp] theorem State.holdInvalid_ok (s : State) (n k : Nat) (hok : s.fieldsOk) : (State.holdInvalid s n k).fieldsOk := by
  simp +contextual (maxDischargeDepth := 60) [State.holdInvalid, hok, apply_ite Prod.snd]

@[simp] theorem State.evalWith_getF (s : State) (n k : Nat) (l : List Int) (aux : List (Int × Nat × Int)) (fld : Fld) (itm : Nat) (hw : fld ∉ ([.CEL_STATUS_SETPT, .CE_SLOT_STATUS_SAT, .DOM_SETPT_VEFF, .DOM_START_STATUS_PRE_ACTIVE, .DOM_START_STATUS_SLOPE_EFF, .DOM_STATUS_STEP, .GLB_VSTK_STATUS_CLAMPED, .GLB_VSTK_STATUS_VSTK_CODE, .PHS_GRP_REF_VREF, .PHS_GRP_TON_TON_BASE, .PHS_PH_STATUS_TRIM] : List Fld)) :
    (State.evalWith s n k l aux).getF fld itm = s.getF fld itm := by
  try simp only [List.mem_cons, not_or, List.not_mem_nil, not_false_eq_true] at hw
  simp (maxDischargeDepth := 60) [State.evalWith, hw, apply_ite Prod.snd]

@[simp] theorem State.evalWith_parts (s : State) (n k : Nat) (l : List Int) (aux : List (Int × Nat × Int)) :
    (State.evalWith s n k l aux).time = s.time ∧ (State.evalWith s n k l aux).cfg = s.cfg ∧ (State.evalWith s n k l aux).raiseQ = s.raiseQ ∧ (State.evalWith s n k l aux).flt = s.flt ∧ (State.evalWith s n k l aux).phs = s.phs ∧ (State.evalWith s n k l aux).est = s.est ∧ (State.evalWith s n k l aux).thm = s.thm ∧ (State.evalWith s n k l aux).hrd = s.hrd ∧ (State.evalWith s n k l aux).cmd = s.cmd ∧ (State.evalWith s n k l aux).boot = s.boot ∧ (State.evalWith s n k l aux).adc = s.adc ∧ (State.evalWith s n k l aux).fw = s.fw ∧ (State.evalWith s n k l aux).lt = s.lt ∧ (State.evalWith s n k l aux).pending = s.pending := by
  refine ⟨?_, ?_, ?_, ?_, ?_, ?_, ?_, ?_, ?_, ?_, ?_, ?_, ?_, ?_⟩ <;> (simp (maxDischargeDepth := 60) [State.evalWith, apply_ite Prod.snd])

@[simp] theorem State.evalWith_ok (s : State) (n k : Nat) (l : List Int) (aux : List (Int × Nat × Int)) (hok : s.fieldsOk) : (State.evalWith s n k l aux).fieldsOk := by
  refine State.each_fieldsOk _ _ _ (fun i t ht => State.settle_ok t _ _ ht) ?_
  refine when_fieldsOk _ _ _ (when_fieldsOk _ _ _ (State.setElem_ok _ _ _ _ (State.prevOf_ok _ _ _ hok)) (fun t ht => State.setF_fieldsOk t _ _ _ ht)) (fun t ht => State.showPre_ok t ht)

@[simp] theorem State.evalElem_getF (s : State) (n k : Nat) (fld : Fld) (itm : Nat) (hw : fld ∉ ([.CEL_STATUS_SETPT, .CE_SLOT_STATUS_SAT, .DOM_SETPT_VEFF, .DOM_START_STATUS_PRE_ACTIVE, .DOM_START_STATUS_SLOPE_EFF, .DOM_STATUS_STEP, .GLB_VSTK_STATUS_CLAMPED, .GLB_VSTK_STATUS_VSTK_CODE, .PHS_GRP_REF_VREF, .PHS_GRP_TON_TON_BASE, .PHS_PH_STATUS_TRIM] : List Fld)) :
    (State.evalElem s n k).getF fld itm = s.getF fld itm := by
  try simp only [List.mem_cons, not_or, List.not_mem_nil, not_false_eq_true] at hw
  ((unfold State.evalElem); (try simp only []); (repeat' split) <;> (try simp (maxDischargeDepth := 60) [hw, State.when, apply_ite Prod.snd]))

@[simp] theorem State.evalElem_parts (s : State) (n k : Nat) :
    (State.evalElem s n k).time = s.time ∧ (State.evalElem s n k).cfg = s.cfg ∧ (State.evalElem s n k).raiseQ = s.raiseQ ∧ (State.evalElem s n k).flt = s.flt ∧ (State.evalElem s n k).phs = s.phs ∧ (State.evalElem s n k).est = s.est ∧ (State.evalElem s n k).thm = s.thm ∧ (State.evalElem s n k).hrd = s.hrd ∧ (State.evalElem s n k).cmd = s.cmd ∧ (State.evalElem s n k).boot = s.boot ∧ (State.evalElem s n k).adc = s.adc ∧ (State.evalElem s n k).fw = s.fw ∧ (State.evalElem s n k).lt = s.lt ∧ (State.evalElem s n k).pending = s.pending := by
  refine ⟨?_, ?_, ?_, ?_, ?_, ?_, ?_, ?_, ?_, ?_, ?_, ?_, ?_, ?_⟩ <;> ((unfold State.evalElem); (try simp only []); (repeat' split) <;> (try simp (maxDischargeDepth := 60) [State.when, apply_ite Prod.snd]))

@[simp] theorem State.evalElem_ok (s : State) (n k : Nat) (hok : s.fieldsOk) : (State.evalElem s n k).fieldsOk := by
  ((unfold State.evalElem); (try simp only []); (repeat' split) <;> (try simp +contextual (maxDischargeDepth := 60) [hok, State.when, apply_ite Prod.snd]))

@[simp] theorem State.evalSlot_getF (s : State) (n : Nat) (fld : Fld) (itm : Nat) (hw : fld ∉ ([.CEL_STATUS_SETPT, .CE_SLOT_EVAL_TICK_LO, .CE_SLOT_STATUS_SAT, .DOM_SETPT_VEFF, .DOM_START_STATUS_PRE_ACTIVE, .DOM_START_STATUS_SLOPE_EFF, .DOM_STATUS_STEP, .GLB_VSTK_STATUS_CLAMPED, .GLB_VSTK_STATUS_VSTK_CODE, .PHS_GRP_REF_VREF, .PHS_GRP_TON_TON_BASE, .PHS_PH_STATUS_TRIM] : List Fld)) :
    (State.evalSlot s n).getF fld itm = s.getF fld itm := by
  try simp only [List.mem_cons, not_or, List.not_mem_nil, not_false_eq_true] at hw
  simp (maxDischargeDepth := 60) [State.evalSlot, hw, apply_ite Prod.snd]

@[simp] theorem State.evalSlot_parts (s : State) (n : Nat) :
    (State.evalSlot s n).time = s.time ∧ (State.evalSlot s n).cfg = s.cfg ∧ (State.evalSlot s n).raiseQ = s.raiseQ ∧ (State.evalSlot s n).flt = s.flt ∧ (State.evalSlot s n).phs = s.phs ∧ (State.evalSlot s n).est = s.est ∧ (State.evalSlot s n).thm = s.thm ∧ (State.evalSlot s n).hrd = s.hrd ∧ (State.evalSlot s n).cmd = s.cmd ∧ (State.evalSlot s n).boot = s.boot ∧ (State.evalSlot s n).adc = s.adc ∧ (State.evalSlot s n).fw = s.fw ∧ (State.evalSlot s n).lt = s.lt ∧ (State.evalSlot s n).pending = s.pending := by
  refine ⟨?_, ?_, ?_, ?_, ?_, ?_, ?_, ?_, ?_, ?_, ?_, ?_, ?_, ?_⟩ <;> (simp (maxDischargeDepth := 60) [State.evalSlot, apply_ite Prod.snd])

@[simp] theorem State.evalSlot_ok (s : State) (n : Nat) (hok : s.fieldsOk) : (State.evalSlot s n).fieldsOk := by
  simp +contextual (maxDischargeDepth := 60) [State.evalSlot, hok, apply_ite Prod.snd]

@[simp] theorem State.rawPieces_parts (s : State) (l : List Piece) :
    (State.rawPieces s l).time = s.time ∧ (State.rawPieces s l).cfg = s.cfg ∧ (State.rawPieces s l).raiseQ = s.raiseQ ∧ (State.rawPieces s l).out = s.out ∧ (State.rawPieces s l).freeCtr = s.freeCtr ∧ (State.rawPieces s l).flt = s.flt ∧ (State.rawPieces s l).phs = s.phs ∧ (State.rawPieces s l).dom = s.dom ∧ (State.rawPieces s l).eng = s.eng ∧ (State.rawPieces s l).start = s.start ∧ (State.rawPieces s l).est = s.est ∧ (State.rawPieces s l).bud = s.bud ∧ (State.rawPieces s l).thm = s.thm ∧ (State.rawPieces s l).hrd = s.hrd ∧ (State.rawPieces s l).tlm = s.tlm ∧ (State.rawPieces s l).cmd = s.cmd ∧ (State.rawPieces s l).boot = s.boot ∧ (State.rawPieces s l).adc = s.adc ∧ (State.rawPieces s l).fw = s.fw ∧ (State.rawPieces s l).lt = s.lt ∧ (State.rawPieces s l).pending = s.pending := by
  refine ⟨?_, ?_, ?_, ?_, ?_, ?_, ?_, ?_, ?_, ?_, ?_, ?_, ?_, ?_, ?_, ?_, ?_, ?_, ?_, ?_, ?_⟩ <;> (simp (maxDischargeDepth := 60) [State.rawPieces, apply_ite Prod.snd])

@[simp] theorem State.rawPieces_ok (s : State) (l : List Piece) (hok : s.fieldsOk) : (State.rawPieces s l).fieldsOk := by
  simp +contextual (maxDischargeDepth := 60) [State.rawPieces, hok, apply_ite Prod.snd]

@[simp] theorem State.withDeferred_parts (s : State) :
    (State.withDeferred s).time = s.time ∧ (State.withDeferred s).cfg = s.cfg ∧ (State.withDeferred s).raiseQ = s.raiseQ ∧ (State.withDeferred s).out = s.out ∧ (State.withDeferred s).freeCtr = s.freeCtr ∧ (State.withDeferred s).flt = s.flt ∧ (State.withDeferred s).phs = s.phs ∧ (State.withDeferred s).dom = s.dom ∧ (State.withDeferred s).eng = s.eng ∧ (State.withDeferred s).start = s.start ∧ (State.withDeferred s).est = s.est ∧ (State.withDeferred s).bud = s.bud ∧ (State.withDeferred s).thm = s.thm ∧ (State.withDeferred s).hrd = s.hrd ∧ (State.withDeferred s).tlm = s.tlm ∧ (State.withDeferred s).cmd = s.cmd ∧ (State.withDeferred s).boot = s.boot ∧ (State.withDeferred s).adc = s.adc ∧ (State.withDeferred s).fw = s.fw ∧ (State.withDeferred s).lt = s.lt ∧ (State.withDeferred s).pending = s.pending := by
  refine ⟨?_, ?_, ?_, ?_, ?_, ?_, ?_, ?_, ?_, ?_, ?_, ?_, ?_, ?_, ?_, ?_, ?_, ?_, ?_, ?_, ?_⟩ <;> (simp (maxDischargeDepth := 60) [State.withDeferred, apply_ite Prod.snd])

@[simp] theorem State.withDeferred_ok (s : State) (hok : s.fieldsOk) : (State.withDeferred s).fieldsOk := by
  simp +contextual (maxDischargeDepth := 60) [State.withDeferred, hok, apply_ite Prod.snd]

@[simp] theorem State.recordLoad_getF (s : State) (fld : Fld) (itm : Nat) (hw : fld ∉ ([.CE_LOAD_FAST_OPS, .CE_LOAD_LOAD_MOPS] : List Fld)) :
    (State.recordLoad s).getF fld itm = s.getF fld itm := by
  try simp only [List.mem_cons, not_or, List.not_mem_nil, not_false_eq_true] at hw
  simp (maxDischargeDepth := 60) [State.recordLoad, hw, apply_ite Prod.snd]

@[simp] theorem State.recordLoad_parts (s : State) :
    (State.recordLoad s).time = s.time ∧ (State.recordLoad s).cfg = s.cfg ∧ (State.recordLoad s).raiseQ = s.raiseQ ∧ (State.recordLoad s).out = s.out ∧ (State.recordLoad s).freeCtr = s.freeCtr ∧ (State.recordLoad s).flt = s.flt ∧ (State.recordLoad s).phs = s.phs ∧ (State.recordLoad s).dom = s.dom ∧ (State.recordLoad s).eng = s.eng ∧ (State.recordLoad s).start = s.start ∧ (State.recordLoad s).est = s.est ∧ (State.recordLoad s).bud = s.bud ∧ (State.recordLoad s).thm = s.thm ∧ (State.recordLoad s).hrd = s.hrd ∧ (State.recordLoad s).tlm = s.tlm ∧ (State.recordLoad s).cmd = s.cmd ∧ (State.recordLoad s).boot = s.boot ∧ (State.recordLoad s).adc = s.adc ∧ (State.recordLoad s).fw = s.fw ∧ (State.recordLoad s).lt = s.lt ∧ (State.recordLoad s).pending = s.pending := by
  refine ⟨?_, ?_, ?_, ?_, ?_, ?_, ?_, ?_, ?_, ?_, ?_, ?_, ?_, ?_, ?_, ?_, ?_, ?_, ?_, ?_, ?_⟩ <;> (simp (maxDischargeDepth := 60) [State.recordLoad, apply_ite Prod.snd])

@[simp] theorem State.recordLoad_ok (s : State) (hok : s.fieldsOk) : (State.recordLoad s).fieldsOk := by
  simp +contextual (maxDischargeDepth := 60) [State.recordLoad, hok, apply_ite Prod.snd]

end Sys2Proof.Machine
end

