-- ==== Sys2Proof/Laws/RoosterOps.lean ====
section
/-! SUPPORT. What each Rooster operation can do: the fields it may write, the parts of the state it keeps, and that it keeps
the register table in its canonical form. -/

namespace Sys2Proof.Machine
open Host (Outcome)
set_option maxRecDepth 4000
set_option linter.unusedSimpArgs false
set_option linter.unusedVariables false
set_option linter.unreachableTactic false
set_option linter.unusedTactic false

@[simp] theorem State.showWave_getF (s : State) (k : Nat) (fld : Fld) (itm : Nat) (hw : fld ∉ ([.DOM_WAVE_ID_BARRIER_ID, .DOM_WAVE_ID_ENGINES, .DOM_WAVE_PROG_GRANTED, .DOM_WAVE_PROG_STATE, .DOM_WAVE_PROG_WAVE_ARMED] : List Fld)) :
    (State.showWave s k).getF fld itm = s.getF fld itm := by
  try simp only [List.mem_cons, not_or, List.not_mem_nil, not_false_eq_true] at hw
  ((unfold State.showWave); (try simp only []); (repeat' split) <;> (try simp (maxDischargeDepth := 60) [hw, State.when, apply_ite Prod.snd]))

@[simp] theorem State.showWave_parts (s : State) (k : Nat) :
    (State.showWave s k).time = s.time ∧ (State.showWave s k).cfg = s.cfg ∧ (State.showWave s k).raiseQ = s.raiseQ ∧ (State.showWave s k).out = s.out ∧ (State.showWave s k).freeCtr = s.freeCtr ∧ (State.showWave s k).flt = s.flt ∧ (State.showWave s k).phs = s.phs ∧ (State.showWave s k).dom = s.dom ∧ (State.showWave s k).eng = s.eng ∧ (State.showWave s k).start = s.start ∧ (State.showWave s k).est = s.est ∧ (State.showWave s k).bud = s.bud ∧ (State.showWave s k).thm = s.thm ∧ (State.showWave s k).hrd = s.hrd ∧ (State.showWave s k).tlm = s.tlm ∧ (State.showWave s k).cmd = s.cmd ∧ (State.showWave s k).boot = s.boot ∧ (State.showWave s k).adc = s.adc ∧ (State.showWave s k).fw = s.fw ∧ (State.showWave s k).lt = s.lt ∧ (State.showWave s k).pending = s.pending := by
  refine ⟨?_, ?_, ?_, ?_, ?_, ?_, ?_, ?_, ?_, ?_, ?_, ?_, ?_, ?_, ?_, ?_, ?_, ?_, ?_, ?_, ?_⟩ <;> ((unfold State.showWave); (try simp only []); (repeat' split) <;> (try simp (maxDischargeDepth := 60) [State.when, apply_ite Prod.snd]))

@[simp] theorem State.showWave_ok (s : State) (k : Nat) (hok : s.fieldsOk) : (State.showWave s k).fieldsOk := by
  ((unfold State.showWave); (try simp only []); (repeat' split) <;> (try simp +contextual (maxDischargeDepth := 60) [hok, State.when, apply_ite Prod.snd]))

@[simp] theorem State.showWaves_getF (s : State) (fld : Fld) (itm : Nat) (hw : fld ∉ ([.CEL_STATUS_SETPT, .DOM_SETPT_VEFF, .DOM_START_STATUS_ARMED, .DOM_START_STATUS_BOOST, .DOM_START_STATUS_PRE_ACTIVE, .DOM_START_STATUS_SLOPE_EFF, .DOM_START_STATUS_WAVES, .DOM_STATUS_STEP, .DOM_WAVE_ID_BARRIER_ID, .DOM_WAVE_ID_ENGINES, .DOM_WAVE_PROG_GRANTED, .DOM_WAVE_PROG_STATE, .DOM_WAVE_PROG_WAVE_ARMED, .GLB_VSTK_STATUS_CLAMPED, .GLB_VSTK_STATUS_VSTK_CODE, .PHS_GRP_REF_VREF, .PHS_GRP_TON_TON_BASE, .PHS_PH_STATUS_TRIM] : List Fld)) :
    (State.showWaves s).getF fld itm = s.getF fld itm := by
  try simp only [List.mem_cons, not_or, List.not_mem_nil, not_false_eq_true] at hw
  simp (maxDischargeDepth := 60) [State.showWaves, hw, apply_ite Prod.snd]

@[simp] theorem State.showWaves_parts (s : State) :
    (State.showWaves s).time = s.time ∧ (State.showWaves s).cfg = s.cfg ∧ (State.showWaves s).raiseQ = s.raiseQ ∧ (State.showWaves s).freeCtr = s.freeCtr ∧ (State.showWaves s).flt = s.flt ∧ (State.showWaves s).phs = s.phs ∧ (State.showWaves s).eng = s.eng ∧ (State.showWaves s).est = s.est ∧ (State.showWaves s).thm = s.thm ∧ (State.showWaves s).hrd = s.hrd ∧ (State.showWaves s).cmd = s.cmd ∧ (State.showWaves s).boot = s.boot ∧ (State.showWaves s).adc = s.adc ∧ (State.showWaves s).fw = s.fw ∧ (State.showWaves s).lt = s.lt ∧ (State.showWaves s).pending = s.pending := by
  refine ⟨?_, ?_, ?_, ?_, ?_, ?_, ?_, ?_, ?_, ?_, ?_, ?_, ?_, ?_, ?_, ?_⟩ <;> (simp (maxDischargeDepth := 60) [State.showWaves, apply_ite Prod.snd])

@[simp] theorem State.showWaves_ok (s : State) (hok : s.fieldsOk) : (State.showWaves s).fieldsOk := by
  simp +contextual (maxDischargeDepth := 60) [State.showWaves, hok, apply_ite Prod.snd]

@[simp] theorem State.setWaves_getF (s : State) (ws : List Wave) (fld : Fld) (itm : Nat) (hw : fld ∉ ([.CEL_STATUS_SETPT, .DOM_SETPT_VEFF, .DOM_START_STATUS_ARMED, .DOM_START_STATUS_BOOST, .DOM_START_STATUS_PRE_ACTIVE, .DOM_START_STATUS_SLOPE_EFF, .DOM_START_STATUS_WAVES, .DOM_STATUS_STEP, .DOM_WAVE_ID_BARRIER_ID, .DOM_WAVE_ID_ENGINES, .DOM_WAVE_PROG_GRANTED, .DOM_WAVE_PROG_STATE, .DOM_WAVE_PROG_WAVE_ARMED, .GLB_VSTK_STATUS_CLAMPED, .GLB_VSTK_STATUS_VSTK_CODE, .PHS_GRP_REF_VREF, .PHS_GRP_TON_TON_BASE, .PHS_PH_STATUS_TRIM] : List Fld)) :
    (State.setWaves s ws).getF fld itm = s.getF fld itm := by
  try simp only [List.mem_cons, not_or, List.not_mem_nil, not_false_eq_true] at hw
  simp (maxDischargeDepth := 60) [State.setWaves, hw, apply_ite Prod.snd]

@[simp] theorem State.setWaves_parts (s : State) (ws : List Wave) :
    (State.setWaves s ws).time = s.time ∧ (State.setWaves s ws).cfg = s.cfg ∧ (State.setWaves s ws).raiseQ = s.raiseQ ∧ (State.setWaves s ws).freeCtr = s.freeCtr ∧ (State.setWaves s ws).flt = s.flt ∧ (State.setWaves s ws).phs = s.phs ∧ (State.setWaves s ws).eng = s.eng ∧ (State.setWaves s ws).est = s.est ∧ (State.setWaves s ws).thm = s.thm ∧ (State.setWaves s ws).hrd = s.hrd ∧ (State.setWaves s ws).cmd = s.cmd ∧ (State.setWaves s ws).boot = s.boot ∧ (State.setWaves s ws).adc = s.adc ∧ (State.setWaves s ws).fw = s.fw ∧ (State.setWaves s ws).lt = s.lt ∧ (State.setWaves s ws).pending = s.pending := by
  refine ⟨?_, ?_, ?_, ?_, ?_, ?_, ?_, ?_, ?_, ?_, ?_, ?_, ?_, ?_, ?_, ?_⟩ <;> (simp (maxDischargeDepth := 60) [State.setWaves, apply_ite Prod.snd])

@[simp] theorem State.setWaves_ok (s : State) (ws : List Wave) (hok : s.fieldsOk) : (State.setWaves s ws).fieldsOk := by
  simp +contextual (maxDischargeDepth := 60) [State.setWaves, hok, apply_ite Prod.snd]

@[simp] theorem State.putWave_getF (s : State) (w : Wave) (fld : Fld) (itm : Nat) (hw : fld ∉ ([.CEL_STATUS_SETPT, .DOM_SETPT_VEFF, .DOM_START_STATUS_ARMED, .DOM_START_STATUS_BOOST, .DOM_START_STATUS_PRE_ACTIVE, .DOM_START_STATUS_SLOPE_EFF, .DOM_START_STATUS_WAVES, .DOM_STATUS_STEP, .DOM_WAVE_ID_BARRIER_ID, .DOM_WAVE_ID_ENGINES, .DOM_WAVE_PROG_GRANTED, .DOM_WAVE_PROG_STATE, .DOM_WAVE_PROG_WAVE_ARMED, .GLB_VSTK_STATUS_CLAMPED, .GLB_VSTK_STATUS_VSTK_CODE, .PHS_GRP_REF_VREF, .PHS_GRP_TON_TON_BASE, .PHS_PH_STATUS_TRIM] : List Fld)) :
    (State.putWave s w).getF fld itm = s.getF fld itm := by
  try simp only [List.mem_cons, not_or, List.not_mem_nil, not_false_eq_true] at hw
  simp (maxDischargeDepth := 60) [State.putWave, hw, apply_ite Prod.snd]

@[simp] theorem State.putWave_parts (s : State) (w : Wave) :
    (State.putWave s w).time = s.time ∧ (State.putWave s w).cfg = s.cfg ∧ (State.putWave s w).raiseQ = s.raiseQ ∧ (State.putWave s w).freeCtr = s.freeCtr ∧ (State.putWave s w).flt = s.flt ∧ (State.putWave s w).phs = s.phs ∧ (State.putWave s w).eng = s.eng ∧ (State.putWave s w).est = s.est ∧ (State.putWave s w).thm = s.thm ∧ (State.putWave s w).hrd = s.hrd ∧ (State.putWave s w).cmd = s.cmd ∧ (State.putWave s w).boot = s.boot ∧ (State.putWave s w).adc = s.adc ∧ (State.putWave s w).fw = s.fw ∧ (State.putWave s w).lt = s.lt ∧ (State.putWave s w).pending = s.pending := by
  refine ⟨?_, ?_, ?_, ?_, ?_, ?_, ?_, ?_, ?_, ?_, ?_, ?_, ?_, ?_, ?_, ?_⟩ <;> (simp (maxDischargeDepth := 60) [State.putWave, apply_ite Prod.snd])

@[simp] theorem State.putWave_ok (s : State) (w : Wave) (hok : s.fieldsOk) : (State.putWave s w).fieldsOk := by
  simp +contextual (maxDischargeDepth := 60) [State.putWave, hok, apply_ite Prod.snd]

@[simp] theorem State.endWave_getF (s : State) (bid : Nat) (fld : Fld) (itm : Nat) (hw : fld ∉ ([.CEL_STATUS_SETPT, .DOM_SETPT_VEFF, .DOM_START_STATUS_ARMED, .DOM_START_STATUS_BOOST, .DOM_START_STATUS_PRE_ACTIVE, .DOM_START_STATUS_SLOPE_EFF, .DOM_START_STATUS_WAVES, .DOM_STATUS_STEP, .DOM_WAVE_ID_BARRIER_ID, .DOM_WAVE_ID_ENGINES, .DOM_WAVE_PROG_GRANTED, .DOM_WAVE_PROG_STATE, .DOM_WAVE_PROG_WAVE_ARMED, .GLB_VSTK_STATUS_CLAMPED, .GLB_VSTK_STATUS_VSTK_CODE, .PHS_GRP_REF_VREF, .PHS_GRP_TON_TON_BASE, .PHS_PH_STATUS_TRIM] : List Fld)) :
    (State.endWave s bid).getF fld itm = s.getF fld itm := by
  try simp only [List.mem_cons, not_or, List.not_mem_nil, not_false_eq_true] at hw
  simp (maxDischargeDepth := 60) [State.endWave, hw, apply_ite Prod.snd]

@[simp] theorem State.endWave_parts (s : State) (bid : Nat) :
    (State.endWave s bid).time = s.time ∧ (State.endWave s bid).cfg = s.cfg ∧ (State.endWave s bid).raiseQ = s.raiseQ ∧ (State.endWave s bid).freeCtr = s.freeCtr ∧ (State.endWave s bid).flt = s.flt ∧ (State.endWave s bid).phs = s.phs ∧ (State.endWave s bid).eng = s.eng ∧ (State.endWave s bid).est = s.est ∧ (State.endWave s bid).thm = s.thm ∧ (State.endWave s bid).hrd = s.hrd ∧ (State.endWave s bid).cmd = s.cmd ∧ (State.endWave s bid).boot = s.boot ∧ (State.endWave s bid).adc = s.adc ∧ (State.endWave s bid).fw = s.fw ∧ (State.endWave s bid).lt = s.lt ∧ (State.endWave s bid).pending = s.pending := by
  refine ⟨?_, ?_, ?_, ?_, ?_, ?_, ?_, ?_, ?_, ?_, ?_, ?_, ?_, ?_, ?_, ?_⟩ <;> (simp (maxDischargeDepth := 60) [State.endWave, apply_ite Prod.snd])

@[simp] theorem State.endWave_ok (s : State) (bid : Nat) (hok : s.fieldsOk) : (State.endWave s bid).fieldsOk := by
  simp +contextual (maxDischargeDepth := 60) [State.endWave, hok, apply_ite Prod.snd]

@[simp] theorem State.checkWaves_getF (s : State) (fld : Fld) (itm : Nat) (hw : fld ∉ ([.CEL_STATUS_SETPT, .DOM_SETPT_VEFF, .DOM_START_STATUS_ARMED, .DOM_START_STATUS_BOOST, .DOM_START_STATUS_PRE_ACTIVE, .DOM_START_STATUS_SLOPE_EFF, .DOM_START_STATUS_WAVES, .DOM_STATUS_STEP, .DOM_WAVE_ID_BARRIER_ID, .DOM_WAVE_ID_ENGINES, .DOM_WAVE_PROG_GRANTED, .DOM_WAVE_PROG_STATE, .DOM_WAVE_PROG_WAVE_ARMED, .GLB_VSTK_STATUS_CLAMPED, .GLB_VSTK_STATUS_VSTK_CODE, .PHS_GRP_REF_VREF, .PHS_GRP_TON_TON_BASE, .PHS_PH_STATUS_TRIM] : List Fld)) :
    (State.checkWaves s).getF fld itm = s.getF fld itm := by
  try simp only [List.mem_cons, not_or, List.not_mem_nil, not_false_eq_true] at hw
  simp (maxDischargeDepth := 60) [State.checkWaves, hw, apply_ite Prod.snd]

@[simp] theorem State.checkWaves_parts (s : State) :
    (State.checkWaves s).time = s.time ∧ (State.checkWaves s).cfg = s.cfg ∧ (State.checkWaves s).raiseQ = s.raiseQ ∧ (State.checkWaves s).freeCtr = s.freeCtr ∧ (State.checkWaves s).flt = s.flt ∧ (State.checkWaves s).phs = s.phs ∧ (State.checkWaves s).eng = s.eng ∧ (State.checkWaves s).est = s.est ∧ (State.checkWaves s).thm = s.thm ∧ (State.checkWaves s).hrd = s.hrd ∧ (State.checkWaves s).cmd = s.cmd ∧ (State.checkWaves s).boot = s.boot ∧ (State.checkWaves s).adc = s.adc ∧ (State.checkWaves s).fw = s.fw ∧ (State.checkWaves s).lt = s.lt ∧ (State.checkWaves s).pending = s.pending := by
  refine ⟨?_, ?_, ?_, ?_, ?_, ?_, ?_, ?_, ?_, ?_, ?_, ?_, ?_, ?_, ?_, ?_⟩ <;> (simp (maxDischargeDepth := 60) [State.checkWaves, apply_ite Prod.snd])

@[simp] theorem State.checkWaves_ok (s : State) (hok : s.fieldsOk) : (State.checkWaves s).fieldsOk := by
  simp +contextual (maxDischargeDepth := 60) [State.checkWaves, hok, apply_ite Prod.snd]

@[simp] theorem State.setQueue_getF (s : State) (q : List StartReq) (fld : Fld) (itm : Nat) (hw : fld ∉ ([.DOM_START_STATUS_WAITING] : List Fld)) :
    (State.setQueue s q).getF fld itm = s.getF fld itm := by
  try simp only [List.mem_cons, not_or, List.not_mem_nil, not_false_eq_true] at hw
  simp (maxDischargeDepth := 60) [State.setQueue, hw, apply_ite Prod.snd]

@[simp] theorem State.setQueue_parts (s : State) (q : List StartReq) :
    (State.setQueue s q).time = s.time ∧ (State.setQueue s q).cfg = s.cfg ∧ (State.setQueue s q).raiseQ = s.raiseQ ∧ (State.setQueue s q).out = s.out ∧ (State.setQueue s q).freeCtr = s.freeCtr ∧ (State.setQueue s q).flt = s.flt ∧ (State.setQueue s q).phs = s.phs ∧ (State.setQueue s q).dom = s.dom ∧ (State.setQueue s q).eng = s.eng ∧ (State.setQueue s q).est = s.est ∧ (State.setQueue s q).bud = s.bud ∧ (State.setQueue s q).thm = s.thm ∧ (State.setQueue s q).hrd = s.hrd ∧ (State.setQueue s q).tlm = s.tlm ∧ (State.setQueue s q).cmd = s.cmd ∧ (State.setQueue s q).boot = s.boot ∧ (State.setQueue s q).adc = s.adc ∧ (State.setQueue s q).fw = s.fw ∧ (State.setQueue s q).lt = s.lt ∧ (State.setQueue s q).pending = s.pending := by
  refine ⟨?_, ?_, ?_, ?_, ?_, ?_, ?_, ?_, ?_, ?_, ?_, ?_, ?_, ?_, ?_, ?_, ?_, ?_, ?_, ?_⟩ <;> (simp (maxDischargeDepth := 60) [State.setQueue, apply_ite Prod.snd])

@[simp] theorem State.setQueue_ok (s : State) (q : List StartReq) (hok : s.fieldsOk) : (State.setQueue s q).fieldsOk := by
  simp +contextual (maxDischargeDepth := 60) [State.setQueue, hok, apply_ite Prod.snd]

@[simp] theorem State.sendDeny_getF (s : State) (tile reqId reason : Nat) (fld : Fld) (itm : Nat) (hw : fld ∉ ([] : List Fld)) :
    (State.sendDeny s tile reqId reason).getF fld itm = s.getF fld itm := by
  try simp only [List.mem_cons, not_or, List.not_mem_nil, not_false_eq_true] at hw
  simp (maxDischargeDepth := 60) [State.sendDeny, hw, apply_ite Prod.snd]

@[simp] theorem State.sendDeny_parts (s : State) (tile reqId reason : Nat) :
    (State.sendDeny s tile reqId reason).time = s.time ∧ (State.sendDeny s tile reqId reason).cfg = s.cfg ∧ (State.sendDeny s tile reqId reason).raiseQ = s.raiseQ ∧ (State.sendDeny s tile reqId reason).freeCtr = s.freeCtr ∧ (State.sendDeny s tile reqId reason).flt = s.flt ∧ (State.sendDeny s tile reqId reason).phs = s.phs ∧ (State.sendDeny s tile reqId reason).dom = s.dom ∧ (State.sendDeny s tile reqId reason).eng = s.eng ∧ (State.sendDeny s tile reqId reason).start = s.start ∧ (State.sendDeny s tile reqId reason).est = s.est ∧ (State.sendDeny s tile reqId reason).bud = s.bud ∧ (State.sendDeny s tile reqId reason).thm = s.thm ∧ (State.sendDeny s tile reqId reason).hrd = s.hrd ∧ (State.sendDeny s tile reqId reason).tlm = s.tlm ∧ (State.sendDeny s tile reqId reason).cmd = s.cmd ∧ (State.sendDeny s tile reqId reason).boot = s.boot ∧ (State.sendDeny s tile reqId reason).adc = s.adc ∧ (State.sendDeny s tile reqId reason).fw = s.fw ∧ (State.sendDeny s tile reqId reason).lt = s.lt ∧ (State.sendDeny s tile reqId reason).pending = s.pending := by
  refine ⟨?_, ?_, ?_, ?_, ?_, ?_, ?_, ?_, ?_, ?_, ?_, ?_, ?_, ?_, ?_, ?_, ?_, ?_, ?_, ?_⟩ <;> (simp (maxDischargeDepth := 60) [State.sendDeny, apply_ite Prod.snd])

@[simp] theorem State.sendDeny_ok (s : State) (tile reqId reason : Nat) (hok : s.fieldsOk) : (State.sendDeny s tile reqId reason).fieldsOk := by
  simp +contextual (maxDischargeDepth := 60) [State.sendDeny, hok, apply_ite Prod.snd]

@[simp] theorem State.denyDomain_getF (s : State) (d : Nat) (fld : Fld) (itm : Nat) (hw : fld ∉ ([.CEL_STATUS_SETPT, .DOM_SETPT_VEFF, .DOM_START_STATUS_ARMED, .DOM_START_STATUS_BOOST, .DOM_START_STATUS_PRE_ACTIVE, .DOM_START_STATUS_SLOPE_EFF, .DOM_START_STATUS_WAITING, .DOM_START_STATUS_WAVES, .DOM_STATUS_STEP, .DOM_WAVE_ID_BARRIER_ID, .DOM_WAVE_ID_ENGINES, .DOM_WAVE_PROG_GRANTED, .DOM_WAVE_PROG_STATE, .DOM_WAVE_PROG_WAVE_ARMED, .GLB_VSTK_STATUS_CLAMPED, .GLB_VSTK_STATUS_VSTK_CODE, .PHS_GRP_REF_VREF, .PHS_GRP_TON_TON_BASE, .PHS_PH_STATUS_TRIM] : List Fld)) :
    (State.denyDomain s d).getF fld itm = s.getF fld itm := by
  try simp only [List.mem_cons, not_or, List.not_mem_nil, not_false_eq_true] at hw
  simp (maxDischargeDepth := 60) [State.denyDomain, hw, apply_ite Prod.snd]

@[simp] theorem State.denyDomain_parts (s : State) (d : Nat) :
    (State.denyDomain s d).time = s.time ∧ (State.denyDomain s d).cfg = s.cfg ∧ (State.denyDomain s d).raiseQ = s.raiseQ ∧ (State.denyDomain s d).freeCtr = s.freeCtr ∧ (State.denyDomain s d).flt = s.flt ∧ (State.denyDomain s d).phs = s.phs ∧ (State.denyDomain s d).eng = s.eng ∧ (State.denyDomain s d).est = s.est ∧ (State.denyDomain s d).thm = s.thm ∧ (State.denyDomain s d).hrd = s.hrd ∧ (State.denyDomain s d).cmd = s.cmd ∧ (State.denyDomain s d).boot = s.boot ∧ (State.denyDomain s d).adc = s.adc ∧ (State.denyDomain s d).fw = s.fw ∧ (State.denyDomain s d).lt = s.lt ∧ (State.denyDomain s d).pending = s.pending := by
  refine ⟨?_, ?_, ?_, ?_, ?_, ?_, ?_, ?_, ?_, ?_, ?_, ?_, ?_, ?_, ?_, ?_⟩ <;> (simp (maxDischargeDepth := 60) [State.denyDomain, apply_ite Prod.snd])

@[simp] theorem State.denyDomain_ok (s : State) (d : Nat) (hok : s.fieldsOk) : (State.denyDomain s d).fieldsOk := by
  simp +contextual (maxDischargeDepth := 60) [State.denyDomain, hok, apply_ite Prod.snd]

@[simp] theorem State.coverFloors_getF (s : State) (r : StartReq) (fld : Fld) (itm : Nat) (hw : fld ∉ ([] : List Fld)) :
    (State.coverFloors s r).getF fld itm = s.getF fld itm := by
  try simp only [List.mem_cons, not_or, List.not_mem_nil, not_false_eq_true] at hw
  simp (maxDischargeDepth := 60) [State.coverFloors, hw, apply_ite Prod.snd]

@[simp] theorem State.coverFloors_parts (s : State) (r : StartReq) :
    (State.coverFloors s r).time = s.time ∧ (State.coverFloors s r).cfg = s.cfg ∧ (State.coverFloors s r).raiseQ = s.raiseQ ∧ (State.coverFloors s r).out = s.out ∧ (State.coverFloors s r).freeCtr = s.freeCtr ∧ (State.coverFloors s r).flt = s.flt ∧ (State.coverFloors s r).phs = s.phs ∧ (State.coverFloors s r).dom = s.dom ∧ (State.coverFloors s r).eng = s.eng ∧ (State.coverFloors s r).est = s.est ∧ (State.coverFloors s r).bud = s.bud ∧ (State.coverFloors s r).thm = s.thm ∧ (State.coverFloors s r).hrd = s.hrd ∧ (State.coverFloors s r).tlm = s.tlm ∧ (State.coverFloors s r).cmd = s.cmd ∧ (State.coverFloors s r).boot = s.boot ∧ (State.coverFloors s r).adc = s.adc ∧ (State.coverFloors s r).fw = s.fw ∧ (State.coverFloors s r).lt = s.lt ∧ (State.coverFloors s r).pending = s.pending := by
  refine ⟨?_, ?_, ?_, ?_, ?_, ?_, ?_, ?_, ?_, ?_, ?_, ?_, ?_, ?_, ?_, ?_, ?_, ?_, ?_, ?_⟩ <;> (simp (maxDischargeDepth := 60) [State.coverFloors, apply_ite Prod.snd])

@[simp] theorem State.coverFloors_ok (s : State) (r : StartReq) (hok : s.fieldsOk) : (State.coverFloors s r).fieldsOk := by
  simp +contextual (maxDischargeDepth := 60) [State.coverFloors, hok, apply_ite Prod.snd]

@[simp] theorem State.countGrant_getF (s : State) (r : StartReq) (fld : Fld) (itm : Nat) (hw : fld ∉ ([.CEL_STATUS_SETPT, .DOM_SETPT_VEFF, .DOM_START_STATUS_ARMED, .DOM_START_STATUS_BOOST, .DOM_START_STATUS_PRE_ACTIVE, .DOM_START_STATUS_SLOPE_EFF, .DOM_START_STATUS_WAVES, .DOM_STATUS_STEP, .DOM_WAVE_ID_BARRIER_ID, .DOM_WAVE_ID_ENGINES, .DOM_WAVE_PROG_GRANTED, .DOM_WAVE_PROG_STATE, .DOM_WAVE_PROG_WAVE_ARMED, .GLB_VSTK_STATUS_CLAMPED, .GLB_VSTK_STATUS_VSTK_CODE, .PHS_GRP_REF_VREF, .PHS_GRP_TON_TON_BASE, .PHS_PH_STATUS_TRIM] : List Fld)) :
    (State.countGrant s r).getF fld itm = s.getF fld itm := by
  try simp only [List.mem_cons, not_or, List.not_mem_nil, not_false_eq_true] at hw
  ((unfold State.countGrant); (try simp only []); (repeat' split) <;> (try simp (maxDischargeDepth := 60) [hw, State.when, apply_ite Prod.snd]))

@[simp] theorem State.countGrant_parts (s : State) (r : StartReq) :
    (State.countGrant s r).time = s.time ∧ (State.countGrant s r).cfg = s.cfg ∧ (State.countGrant s r).raiseQ = s.raiseQ ∧ (State.countGrant s r).freeCtr = s.freeCtr ∧ (State.countGrant s r).flt = s.flt ∧ (State.countGrant s r).phs = s.phs ∧ (State.countGrant s r).eng = s.eng ∧ (State.countGrant s r).est = s.est ∧ (State.countGrant s r).thm = s.thm ∧ (State.countGrant s r).hrd = s.hrd ∧ (State.countGrant s r).cmd = s.cmd ∧ (State.countGrant s r).boot = s.boot ∧ (State.countGrant s r).adc = s.adc ∧ (State.countGrant s r).fw = s.fw ∧ (State.countGrant s r).lt = s.lt ∧ (State.countGrant s r).pending = s.pending := by
  refine ⟨?_, ?_, ?_, ?_, ?_, ?_, ?_, ?_, ?_, ?_, ?_, ?_, ?_, ?_, ?_, ?_⟩ <;> ((unfold State.countGrant); (try simp only []); (repeat' split) <;> (try simp (maxDischargeDepth := 60) [State.when, apply_ite Prod.snd]))

@[simp] theorem State.countGrant_ok (s : State) (r : StartReq) (hok : s.fieldsOk) : (State.countGrant s r).fieldsOk := by
  ((unfold State.countGrant); (try simp only []); (repeat' split) <;> (try simp +contextual (maxDischargeDepth := 60) [hok, State.when, apply_ite Prod.snd]))

@[simp] theorem State.openCheck_getF (s : State) (r : StartReq) (c : Nat) (last : Option Nat) (fld : Fld) (itm : Nat) (hw : fld ∉ ([] : List Fld)) :
    (State.openCheck s r c last).getF fld itm = s.getF fld itm := by
  try simp only [List.mem_cons, not_or, List.not_mem_nil, not_false_eq_true] at hw
  simp (maxDischargeDepth := 60) [State.openCheck, hw, apply_ite Prod.snd]

@[simp] theorem State.openCheck_parts (s : State) (r : StartReq) (c : Nat) (last : Option Nat) :
    (State.openCheck s r c last).time = s.time ∧ (State.openCheck s r c last).cfg = s.cfg ∧ (State.openCheck s r c last).raiseQ = s.raiseQ ∧ (State.openCheck s r c last).out = s.out ∧ (State.openCheck s r c last).freeCtr = s.freeCtr ∧ (State.openCheck s r c last).flt = s.flt ∧ (State.openCheck s r c last).phs = s.phs ∧ (State.openCheck s r c last).dom = s.dom ∧ (State.openCheck s r c last).eng = s.eng ∧ (State.openCheck s r c last).est = s.est ∧ (State.openCheck s r c last).bud = s.bud ∧ (State.openCheck s r c last).thm = s.thm ∧ (State.openCheck s r c last).hrd = s.hrd ∧ (State.openCheck s r c last).tlm = s.tlm ∧ (State.openCheck s r c last).cmd = s.cmd ∧ (State.openCheck s r c last).boot = s.boot ∧ (State.openCheck s r c last).adc = s.adc ∧ (State.openCheck s r c last).fw = s.fw ∧ (State.openCheck s r c last).lt = s.lt ∧ (State.openCheck s r c last).pending = s.pending := by
  refine ⟨?_, ?_, ?_, ?_, ?_, ?_, ?_, ?_, ?_, ?_, ?_, ?_, ?_, ?_, ?_, ?_, ?_, ?_, ?_, ?_⟩ <;> (simp (maxDischargeDepth := 60) [State.openCheck, apply_ite Prod.snd])

@[simp] theorem State.openCheck_ok (s : State) (r : StartReq) (c : Nat) (last : Option Nat) (hok : s.fieldsOk) : (State.openCheck s r c last).fieldsOk := by
  simp +contextual (maxDischargeDepth := 60) [State.openCheck, hok, apply_ite Prod.snd]

@[simp] theorem State.sendPermit_getF (s : State) (r : StartReq) (c : Nat) (fld : Fld) (itm : Nat) (hw : fld ∉ ([.CEL_STATUS_SETPT, .DOM_SETPT_VEFF, .DOM_START_STATUS_ARMED, .DOM_START_STATUS_BOOST, .DOM_START_STATUS_PRE_ACTIVE, .DOM_START_STATUS_SLOPE_EFF, .DOM_START_STATUS_WAVES, .DOM_STATUS_STEP, .DOM_WAVE_ID_BARRIER_ID, .DOM_WAVE_ID_ENGINES, .DOM_WAVE_PROG_GRANTED, .DOM_WAVE_PROG_STATE, .DOM_WAVE_PROG_WAVE_ARMED, .GLB_VSTK_STATUS_CLAMPED, .GLB_VSTK_STATUS_VSTK_CODE, .PHS_GRP_REF_VREF, .PHS_GRP_TON_TON_BASE, .PHS_PH_STATUS_TRIM] : List Fld)) :
    (State.sendPermit s r c).getF fld itm = s.getF fld itm := by
  try simp only [List.mem_cons, not_or, List.not_mem_nil, not_false_eq_true] at hw
  simp (maxDischargeDepth := 60) [State.sendPermit, hw, apply_ite Prod.snd]

@[simp] theorem State.sendPermit_parts (s : State) (r : StartReq) (c : Nat) :
    (State.sendPermit s r c).time = s.time ∧ (State.sendPermit s r c).cfg = s.cfg ∧ (State.sendPermit s r c).raiseQ = s.raiseQ ∧ (State.sendPermit s r c).freeCtr = s.freeCtr ∧ (State.sendPermit s r c).flt = s.flt ∧ (State.sendPermit s r c).phs = s.phs ∧ (State.sendPermit s r c).eng = s.eng ∧ (State.sendPermit s r c).est = s.est ∧ (State.sendPermit s r c).thm = s.thm ∧ (State.sendPermit s r c).hrd = s.hrd ∧ (State.sendPermit s r c).cmd = s.cmd ∧ (State.sendPermit s r c).boot = s.boot ∧ (State.sendPermit s r c).adc = s.adc ∧ (State.sendPermit s r c).fw = s.fw ∧ (State.sendPermit s r c).lt = s.lt ∧ (State.sendPermit s r c).pending = s.pending := by
  refine ⟨?_, ?_, ?_, ?_, ?_, ?_, ?_, ?_, ?_, ?_, ?_, ?_, ?_, ?_, ?_, ?_⟩ <;> (simp (maxDischargeDepth := 60) [State.sendPermit, apply_ite Prod.snd])

@[simp] theorem State.sendPermit_ok (s : State) (r : StartReq) (c : Nat) (hok : s.fieldsOk) : (State.sendPermit s r c).fieldsOk := by
  simp +contextual (maxDischargeDepth := 60) [State.sendPermit, hok, apply_ite Prod.snd]

@[simp] theorem State.roosterEvent_getF (s : State) (f : Fld) (fld : Fld) (itm : Nat) (hw : fld ∉ ([f] : List Fld)) :
    (State.roosterEvent s f).getF fld itm = s.getF fld itm := by
  try simp only [List.mem_cons, not_or, List.not_mem_nil, not_false_eq_true] at hw
  simp (maxDischargeDepth := 60) [State.roosterEvent, hw, apply_ite Prod.snd]

@[simp] theorem State.roosterEvent_parts (s : State) (f : Fld) :
    (State.roosterEvent s f).time = s.time ∧ (State.roosterEvent s f).cfg = s.cfg ∧ (State.roosterEvent s f).out = s.out ∧ (State.roosterEvent s f).flt = s.flt ∧ (State.roosterEvent s f).phs = s.phs ∧ (State.roosterEvent s f).dom = s.dom ∧ (State.roosterEvent s f).eng = s.eng ∧ (State.roosterEvent s f).start = s.start ∧ (State.roosterEvent s f).est = s.est ∧ (State.roosterEvent s f).bud = s.bud ∧ (State.roosterEvent s f).thm = s.thm ∧ (State.roosterEvent s f).hrd = s.hrd ∧ (State.roosterEvent s f).tlm = s.tlm ∧ (State.roosterEvent s f).cmd = s.cmd ∧ (State.roosterEvent s f).boot = s.boot ∧ (State.roosterEvent s f).adc = s.adc ∧ (State.roosterEvent s f).fw = s.fw ∧ (State.roosterEvent s f).lt = s.lt ∧ (State.roosterEvent s f).pending = s.pending := by
  refine ⟨?_, ?_, ?_, ?_, ?_, ?_, ?_, ?_, ?_, ?_, ?_, ?_, ?_, ?_, ?_, ?_, ?_, ?_, ?_⟩ <;> (simp (maxDischargeDepth := 60) [State.roosterEvent, apply_ite Prod.snd])

@[simp] theorem State.roosterEvent_ok (s : State) (f : Fld) (hok : s.fieldsOk) : (State.roosterEvent s f).fieldsOk := by
  simp +contextual (maxDischargeDepth := 60) [State.roosterEvent, hok, apply_ite Prod.snd]

@[simp] theorem State.tokenEvent_getF (s : State) (f : Fld) (tokenId : Nat) (fld : Fld) (itm : Nat) (hw : fld ∉ ([f] : List Fld)) :
    (State.tokenEvent s f tokenId).getF fld itm = s.getF fld itm := by
  try simp only [List.mem_cons, not_or, List.not_mem_nil, not_false_eq_true] at hw
  simp (maxDischargeDepth := 60) [State.tokenEvent, hw, apply_ite Prod.snd]

@[simp] theorem State.tokenEvent_parts (s : State) (f : Fld) (tokenId : Nat) :
    (State.tokenEvent s f tokenId).time = s.time ∧ (State.tokenEvent s f tokenId).cfg = s.cfg ∧ (State.tokenEvent s f tokenId).out = s.out ∧ (State.tokenEvent s f tokenId).freeCtr = s.freeCtr ∧ (State.tokenEvent s f tokenId).flt = s.flt ∧ (State.tokenEvent s f tokenId).phs = s.phs ∧ (State.tokenEvent s f tokenId).dom = s.dom ∧ (State.tokenEvent s f tokenId).eng = s.eng ∧ (State.tokenEvent s f tokenId).start = s.start ∧ (State.tokenEvent s f tokenId).est = s.est ∧ (State.tokenEvent s f tokenId).bud = s.bud ∧ (State.tokenEvent s f tokenId).thm = s.thm ∧ (State.tokenEvent s f tokenId).hrd = s.hrd ∧ (State.tokenEvent s f tokenId).tlm = s.tlm ∧ (State.tokenEvent s f tokenId).cmd = s.cmd ∧ (State.tokenEvent s f tokenId).boot = s.boot ∧ (State.tokenEvent s f tokenId).adc = s.adc ∧ (State.tokenEvent s f tokenId).fw = s.fw ∧ (State.tokenEvent s f tokenId).lt = s.lt ∧ (State.tokenEvent s f tokenId).pending = s.pending := by
  refine ⟨?_, ?_, ?_, ?_, ?_, ?_, ?_, ?_, ?_, ?_, ?_, ?_, ?_, ?_, ?_, ?_, ?_, ?_, ?_, ?_⟩ <;> (simp (maxDischargeDepth := 60) [State.tokenEvent, apply_ite Prod.snd])

@[simp] theorem State.tokenEvent_ok (s : State) (f : Fld) (tokenId : Nat) (hok : s.fieldsOk) : (State.tokenEvent s f tokenId).fieldsOk := by
  simp +contextual (maxDischargeDepth := 60) [State.tokenEvent, hok, apply_ite Prod.snd]

@[simp] theorem State.addFloors_getF (s : State) (tiles : List Nat) (start : Nat) (wave acting : Bool) (fld : Fld) (itm : Nat) (hw : fld ∉ ([] : List Fld)) :
    (State.addFloors s tiles start wave acting).getF fld itm = s.getF fld itm := by
  try simp only [List.mem_cons, not_or, List.not_mem_nil, not_false_eq_true] at hw
  simp (maxDischargeDepth := 60) [State.addFloors, hw, apply_ite Prod.snd]

@[simp] theorem State.addFloors_parts (s : State) (tiles : List Nat) (start : Nat) (wave acting : Bool) :
    (State.addFloors s tiles start wave acting).time = s.time ∧ (State.addFloors s tiles start wave acting).cfg = s.cfg ∧ (State.addFloors s tiles start wave acting).raiseQ = s.raiseQ ∧ (State.addFloors s tiles start wave acting).out = s.out ∧ (State.addFloors s tiles start wave acting).freeCtr = s.freeCtr ∧ (State.addFloors s tiles start wave acting).flt = s.flt ∧ (State.addFloors s tiles start wave acting).phs = s.phs ∧ (State.addFloors s tiles start wave acting).dom = s.dom ∧ (State.addFloors s tiles start wave acting).eng = s.eng ∧ (State.addFloors s tiles start wave acting).est = s.est ∧ (State.addFloors s tiles start wave acting).bud = s.bud ∧ (State.addFloors s tiles start wave acting).thm = s.thm ∧ (State.addFloors s tiles start wave acting).hrd = s.hrd ∧ (State.addFloors s tiles start wave acting).tlm = s.tlm ∧ (State.addFloors s tiles start wave acting).cmd = s.cmd ∧ (State.addFloors s tiles start wave acting).boot = s.boot ∧ (State.addFloors s tiles start wave acting).adc = s.adc ∧ (State.addFloors s tiles start wave acting).fw = s.fw ∧ (State.addFloors s tiles start wave acting).lt = s.lt ∧ (State.addFloors s tiles start wave acting).pending = s.pending := by
  refine ⟨?_, ?_, ?_, ?_, ?_, ?_, ?_, ?_, ?_, ?_, ?_, ?_, ?_, ?_, ?_, ?_, ?_, ?_, ?_, ?_⟩ <;> (simp (maxDischargeDepth := 60) [State.addFloors, apply_ite Prod.snd])

@[simp] theorem State.addFloors_ok (s : State) (tiles : List Nat) (start : Nat) (wave acting : Bool) (hok : s.fieldsOk) : (State.addFloors s tiles start wave acting).fieldsOk := by
  simp +contextual (maxDischargeDepth := 60) [State.addFloors, hok, apply_ite Prod.snd]

@[simp] theorem State.forecast_getF (s : State) (tiles : List Nat) (start q cycles : Nat) (fld : Fld) (itm : Nat) (hw : fld ∉ ([] : List Fld)) :
    (State.forecast s tiles start q cycles).getF fld itm = s.getF fld itm := by
  try simp only [List.mem_cons, not_or, List.not_mem_nil, not_false_eq_true] at hw
  simp (maxDischargeDepth := 60) [State.forecast, hw, apply_ite Prod.snd]

@[simp] theorem State.forecast_parts (s : State) (tiles : List Nat) (start q cycles : Nat) :
    (State.forecast s tiles start q cycles).time = s.time ∧ (State.forecast s tiles start q cycles).cfg = s.cfg ∧ (State.forecast s tiles start q cycles).raiseQ = s.raiseQ ∧ (State.forecast s tiles start q cycles).out = s.out ∧ (State.forecast s tiles start q cycles).freeCtr = s.freeCtr ∧ (State.forecast s tiles start q cycles).flt = s.flt ∧ (State.forecast s tiles start q cycles).phs = s.phs ∧ (State.forecast s tiles start q cycles).dom = s.dom ∧ (State.forecast s tiles start q cycles).eng = s.eng ∧ (State.forecast s tiles start q cycles).start = s.start ∧ (State.forecast s tiles start q cycles).est = s.est ∧ (State.forecast s tiles start q cycles).bud = s.bud ∧ (State.forecast s tiles start q cycles).hrd = s.hrd ∧ (State.forecast s tiles start q cycles).tlm = s.tlm ∧ (State.forecast s tiles start q cycles).cmd = s.cmd ∧ (State.forecast s tiles start q cycles).boot = s.boot ∧ (State.forecast s tiles start q cycles).adc = s.adc ∧ (State.forecast s tiles start q cycles).fw = s.fw ∧ (State.forecast s tiles start q cycles).lt = s.lt ∧ (State.forecast s tiles start q cycles).pending = s.pending := by
  refine ⟨?_, ?_, ?_, ?_, ?_, ?_, ?_, ?_, ?_, ?_, ?_, ?_, ?_, ?_, ?_, ?_, ?_, ?_, ?_, ?_⟩ <;> (simp (maxDischargeDepth := 60) [State.forecast, apply_ite Prod.snd])

@[simp] theorem State.forecast_ok (s : State) (tiles : List Nat) (start q cycles : Nat) (hok : s.fieldsOk) : (State.forecast s tiles start q cycles).fieldsOk := by
  simp +contextual (maxDischargeDepth := 60) [State.forecast, hok, apply_ite Prod.snd]

end Sys2Proof.Machine
end

