-- ==== Sys2Proof/Laws/DomainOps.lean ====
section
/-! SUPPORT. What each domain and cell operation can do: the fields it may write, the parts of the state it keeps, and that it keeps
the register table in its canonical form. -/

namespace Sys2Proof.Machine
open Host (Outcome)
set_option maxRecDepth 4000
set_option linter.unusedSimpArgs false
set_option linter.unusedVariables false
set_option linter.unreachableTactic false
set_option linter.unusedTactic false

@[simp] theorem State.showGate_getF (s : State) (d : Nat) (fld : Fld) (itm : Nat) (hw : fld ∉ ([.DOM_STATUS_GATE_CLOSED] : List Fld)) :
    (State.showGate s d).getF fld itm = s.getF fld itm := by
  try simp only [List.mem_cons, not_or, List.not_mem_nil, not_false_eq_true] at hw
  simp (maxDischargeDepth := 60) [State.showGate, hw, apply_ite Prod.snd]

@[simp] theorem State.showGate_parts (s : State) (d : Nat) :
    (State.showGate s d).time = s.time ∧ (State.showGate s d).cfg = s.cfg ∧ (State.showGate s d).raiseQ = s.raiseQ ∧ (State.showGate s d).out = s.out ∧ (State.showGate s d).freeCtr = s.freeCtr ∧ (State.showGate s d).flt = s.flt ∧ (State.showGate s d).phs = s.phs ∧ (State.showGate s d).dom = s.dom ∧ (State.showGate s d).eng = s.eng ∧ (State.showGate s d).start = s.start ∧ (State.showGate s d).est = s.est ∧ (State.showGate s d).bud = s.bud ∧ (State.showGate s d).thm = s.thm ∧ (State.showGate s d).hrd = s.hrd ∧ (State.showGate s d).tlm = s.tlm ∧ (State.showGate s d).cmd = s.cmd ∧ (State.showGate s d).boot = s.boot ∧ (State.showGate s d).adc = s.adc ∧ (State.showGate s d).fw = s.fw ∧ (State.showGate s d).lt = s.lt ∧ (State.showGate s d).pending = s.pending := by
  refine ⟨?_, ?_, ?_, ?_, ?_, ?_, ?_, ?_, ?_, ?_, ?_, ?_, ?_, ?_, ?_, ?_, ?_, ?_, ?_, ?_, ?_⟩ <;> (simp (maxDischargeDepth := 60) [State.showGate, apply_ite Prod.snd])

@[simp] theorem State.showGate_ok (s : State) (d : Nat) (hok : s.fieldsOk) : (State.showGate s d).fieldsOk := by
  simp +contextual (maxDischargeDepth := 60) [State.showGate, hok, apply_ite Prod.snd]

@[simp] theorem State.setFloor_getF (s : State) (d h : Nat) (falls : Bool) (fld : Fld) (itm : Nat) (hw : fld ∉ ([.CEL_STATUS_SETPT, .DOM_SETPT_VEFF, .DOM_START_STATUS_SLOPE_EFF, .DOM_STATUS_DROOP_FLOOR, .DOM_STATUS_GATE_CLOSED, .DOM_STATUS_STEP, .GLB_VSTK_STATUS_CLAMPED, .GLB_VSTK_STATUS_VSTK_CODE, .PHS_GRP_REF_VREF, .PHS_GRP_TON_TON_BASE, .PHS_PH_STATUS_TRIM] : List Fld)) :
    (State.setFloor s d h falls).getF fld itm = s.getF fld itm := by
  try simp only [List.mem_cons, not_or, List.not_mem_nil, not_false_eq_true] at hw
  simp (maxDischargeDepth := 60) [State.setFloor, hw, apply_ite Prod.snd]

@[simp] theorem State.setFloor_parts (s : State) (d h : Nat) (falls : Bool) :
    (State.setFloor s d h falls).time = s.time ∧ (State.setFloor s d h falls).cfg = s.cfg ∧ (State.setFloor s d h falls).raiseQ = s.raiseQ ∧ (State.setFloor s d h falls).freeCtr = s.freeCtr ∧ (State.setFloor s d h falls).flt = s.flt ∧ (State.setFloor s d h falls).phs = s.phs ∧ (State.setFloor s d h falls).eng = s.eng ∧ (State.setFloor s d h falls).est = s.est ∧ (State.setFloor s d h falls).thm = s.thm ∧ (State.setFloor s d h falls).hrd = s.hrd ∧ (State.setFloor s d h falls).cmd = s.cmd ∧ (State.setFloor s d h falls).boot = s.boot ∧ (State.setFloor s d h falls).adc = s.adc ∧ (State.setFloor s d h falls).fw = s.fw ∧ (State.setFloor s d h falls).lt = s.lt ∧ (State.setFloor s d h falls).pending = s.pending := by
  refine ⟨?_, ?_, ?_, ?_, ?_, ?_, ?_, ?_, ?_, ?_, ?_, ?_, ?_, ?_, ?_, ?_⟩ <;> (simp (maxDischargeDepth := 60) [State.setFloor, apply_ite Prod.snd])

@[simp] theorem State.setFloor_ok (s : State) (d h : Nat) (falls : Bool) (hok : s.fieldsOk) : (State.setFloor s d h falls).fieldsOk := by
  simp +contextual (maxDischargeDepth := 60) [State.setFloor, hok, apply_ite Prod.snd]

@[simp] theorem State.setEst_getF (s : State) (d : Nat) (e : EstDom) (fld : Fld) (itm : Nat) (hw : fld ∉ ([] : List Fld)) :
    (State.setEst s d e).getF fld itm = s.getF fld itm := by
  try simp only [List.mem_cons, not_or, List.not_mem_nil, not_false_eq_true] at hw
  simp (maxDischargeDepth := 60) [State.setEst, hw, apply_ite Prod.snd]

@[simp] theorem State.setEst_parts (s : State) (d : Nat) (e : EstDom) :
    (State.setEst s d e).time = s.time ∧ (State.setEst s d e).cfg = s.cfg ∧ (State.setEst s d e).raiseQ = s.raiseQ ∧ (State.setEst s d e).out = s.out ∧ (State.setEst s d e).freeCtr = s.freeCtr ∧ (State.setEst s d e).flt = s.flt ∧ (State.setEst s d e).phs = s.phs ∧ (State.setEst s d e).dom = s.dom ∧ (State.setEst s d e).eng = s.eng ∧ (State.setEst s d e).start = s.start ∧ (State.setEst s d e).bud = s.bud ∧ (State.setEst s d e).thm = s.thm ∧ (State.setEst s d e).hrd = s.hrd ∧ (State.setEst s d e).tlm = s.tlm ∧ (State.setEst s d e).cmd = s.cmd ∧ (State.setEst s d e).boot = s.boot ∧ (State.setEst s d e).adc = s.adc ∧ (State.setEst s d e).fw = s.fw ∧ (State.setEst s d e).lt = s.lt ∧ (State.setEst s d e).pending = s.pending := by
  refine ⟨?_, ?_, ?_, ?_, ?_, ?_, ?_, ?_, ?_, ?_, ?_, ?_, ?_, ?_, ?_, ?_, ?_, ?_, ?_, ?_⟩ <;> (simp (maxDischargeDepth := 60) [State.setEst, apply_ite Prod.snd])

@[simp] theorem State.setEst_ok (s : State) (d : Nat) (e : EstDom) (hok : s.fieldsOk) : (State.setEst s d e).fieldsOk := by
  simp +contextual (maxDischargeDepth := 60) [State.setEst, hok, apply_ite Prod.snd]

@[simp] theorem State.estHold_getF (s : State) (d cause : Nat) (fld : Fld) (itm : Nat) (hw : fld ∉ ([] : List Fld)) :
    (State.estHold s d cause).getF fld itm = s.getF fld itm := by
  try simp only [List.mem_cons, not_or, List.not_mem_nil, not_false_eq_true] at hw
  simp (maxDischargeDepth := 60) [State.estHold, hw, apply_ite Prod.snd]

@[simp] theorem State.estHold_parts (s : State) (d cause : Nat) :
    (State.estHold s d cause).time = s.time ∧ (State.estHold s d cause).cfg = s.cfg ∧ (State.estHold s d cause).raiseQ = s.raiseQ ∧ (State.estHold s d cause).out = s.out ∧ (State.estHold s d cause).freeCtr = s.freeCtr ∧ (State.estHold s d cause).flt = s.flt ∧ (State.estHold s d cause).phs = s.phs ∧ (State.estHold s d cause).dom = s.dom ∧ (State.estHold s d cause).eng = s.eng ∧ (State.estHold s d cause).start = s.start ∧ (State.estHold s d cause).bud = s.bud ∧ (State.estHold s d cause).thm = s.thm ∧ (State.estHold s d cause).hrd = s.hrd ∧ (State.estHold s d cause).tlm = s.tlm ∧ (State.estHold s d cause).cmd = s.cmd ∧ (State.estHold s d cause).boot = s.boot ∧ (State.estHold s d cause).adc = s.adc ∧ (State.estHold s d cause).fw = s.fw ∧ (State.estHold s d cause).lt = s.lt ∧ (State.estHold s d cause).pending = s.pending := by
  refine ⟨?_, ?_, ?_, ?_, ?_, ?_, ?_, ?_, ?_, ?_, ?_, ?_, ?_, ?_, ?_, ?_, ?_, ?_, ?_, ?_⟩ <;> (simp (maxDischargeDepth := 60) [State.estHold, apply_ite Prod.snd])

@[simp] theorem State.estHold_ok (s : State) (d cause : Nat) (hok : s.fieldsOk) : (State.estHold s d cause).fieldsOk := by
  simp +contextual (maxDischargeDepth := 60) [State.estHold, hok, apply_ite Prod.snd]

@[simp] theorem State.setCell_getF (s : State) (c st : Nat) (fld : Fld) (itm : Nat) (hw : fld ∉ ([.CEL_STATUS_STATE] : List Fld)) :
    (State.setCell s c st).getF fld itm = s.getF fld itm := by
  try simp only [List.mem_cons, not_or, List.not_mem_nil, not_false_eq_true] at hw
  simp (maxDischargeDepth := 60) [State.setCell, hw, apply_ite Prod.snd]

@[simp] theorem State.setCell_parts (s : State) (c st : Nat) :
    (State.setCell s c st).time = s.time ∧ (State.setCell s c st).cfg = s.cfg ∧ (State.setCell s c st).raiseQ = s.raiseQ ∧ (State.setCell s c st).out = s.out ∧ (State.setCell s c st).freeCtr = s.freeCtr ∧ (State.setCell s c st).flt = s.flt ∧ (State.setCell s c st).phs = s.phs ∧ (State.setCell s c st).dom = s.dom ∧ (State.setCell s c st).eng = s.eng ∧ (State.setCell s c st).start = s.start ∧ (State.setCell s c st).bud = s.bud ∧ (State.setCell s c st).thm = s.thm ∧ (State.setCell s c st).hrd = s.hrd ∧ (State.setCell s c st).tlm = s.tlm ∧ (State.setCell s c st).cmd = s.cmd ∧ (State.setCell s c st).boot = s.boot ∧ (State.setCell s c st).adc = s.adc ∧ (State.setCell s c st).fw = s.fw ∧ (State.setCell s c st).lt = s.lt ∧ (State.setCell s c st).pending = s.pending := by
  refine ⟨?_, ?_, ?_, ?_, ?_, ?_, ?_, ?_, ?_, ?_, ?_, ?_, ?_, ?_, ?_, ?_, ?_, ?_, ?_, ?_⟩ <;> (simp (maxDischargeDepth := 60) [State.setCell, apply_ite Prod.snd])

@[simp] theorem State.setCell_ok (s : State) (c st : Nat) (hok : s.fieldsOk) : (State.setCell s c st).fieldsOk := by
  simp +contextual (maxDischargeDepth := 60) [State.setCell, hok, apply_ite Prod.snd]

@[simp] theorem State.cellsOff_getF (s : State) (d : Nat) (fld : Fld) (itm : Nat) (hw : fld ∉ ([.CEL_STATUS_STATE] : List Fld)) :
    (State.cellsOff s d).getF fld itm = s.getF fld itm := by
  try simp only [List.mem_cons, not_or, List.not_mem_nil, not_false_eq_true] at hw
  simp (maxDischargeDepth := 60) [State.cellsOff, hw, apply_ite Prod.snd]

@[simp] theorem State.cellsOff_parts (s : State) (d : Nat) :
    (State.cellsOff s d).time = s.time ∧ (State.cellsOff s d).cfg = s.cfg ∧ (State.cellsOff s d).raiseQ = s.raiseQ ∧ (State.cellsOff s d).out = s.out ∧ (State.cellsOff s d).freeCtr = s.freeCtr ∧ (State.cellsOff s d).flt = s.flt ∧ (State.cellsOff s d).phs = s.phs ∧ (State.cellsOff s d).eng = s.eng ∧ (State.cellsOff s d).start = s.start ∧ (State.cellsOff s d).bud = s.bud ∧ (State.cellsOff s d).thm = s.thm ∧ (State.cellsOff s d).hrd = s.hrd ∧ (State.cellsOff s d).tlm = s.tlm ∧ (State.cellsOff s d).cmd = s.cmd ∧ (State.cellsOff s d).boot = s.boot ∧ (State.cellsOff s d).adc = s.adc ∧ (State.cellsOff s d).fw = s.fw ∧ (State.cellsOff s d).lt = s.lt ∧ (State.cellsOff s d).pending = s.pending := by
  refine ⟨?_, ?_, ?_, ?_, ?_, ?_, ?_, ?_, ?_, ?_, ?_, ?_, ?_, ?_, ?_, ?_, ?_, ?_, ?_⟩ <;> (simp (maxDischargeDepth := 60) [State.cellsOff, apply_ite Prod.snd])

@[simp] theorem State.cellsOff_ok (s : State) (d : Nat) (hok : s.fieldsOk) : (State.cellsOff s d).fieldsOk := by
  simp +contextual (maxDischargeDepth := 60) [State.cellsOff, hok, apply_ite Prod.snd]

@[simp] theorem State.enterDown_getF (s : State) (d : Nat) (fld : Fld) (itm : Nat) (hw : fld ∉ ([.CEL_STATUS_SETPT, .CEL_STATUS_STATE, .DOM_SETPT_VEFF, .DOM_START_STATUS_SLOPE_EFF, .DOM_STATUS_DROOP_FLOOR, .DOM_STATUS_GATE_CLOSED, .DOM_STATUS_STEP, .GLB_VSTK_STATUS_CLAMPED, .GLB_VSTK_STATUS_VSTK_CODE, .PHS_GRP_REF_VREF, .PHS_GRP_TON_TON_BASE, .PHS_PH_STATUS_TRIM] : List Fld)) :
    (State.enterDown s d).getF fld itm = s.getF fld itm := by
  try simp only [List.mem_cons, not_or, List.not_mem_nil, not_false_eq_true] at hw
  simp (maxDischargeDepth := 60) [State.enterDown, hw, apply_ite Prod.snd]

@[simp] theorem State.enterDown_parts (s : State) (d : Nat) :
    (State.enterDown s d).time = s.time ∧ (State.enterDown s d).cfg = s.cfg ∧ (State.enterDown s d).raiseQ = s.raiseQ ∧ (State.enterDown s d).freeCtr = s.freeCtr ∧ (State.enterDown s d).flt = s.flt ∧ (State.enterDown s d).phs = s.phs ∧ (State.enterDown s d).thm = s.thm ∧ (State.enterDown s d).hrd = s.hrd ∧ (State.enterDown s d).cmd = s.cmd ∧ (State.enterDown s d).boot = s.boot ∧ (State.enterDown s d).adc = s.adc ∧ (State.enterDown s d).fw = s.fw ∧ (State.enterDown s d).lt = s.lt ∧ (State.enterDown s d).pending = s.pending := by
  refine ⟨?_, ?_, ?_, ?_, ?_, ?_, ?_, ?_, ?_, ?_, ?_, ?_, ?_, ?_⟩ <;> (simp (maxDischargeDepth := 60) [State.enterDown, apply_ite Prod.snd])

@[simp] theorem State.enterDown_ok (s : State) (d : Nat) (hok : s.fieldsOk) : (State.enterDown s d).fieldsOk := by
  simp +contextual (maxDischargeDepth := 60) [State.enterDown, hok, apply_ite Prod.snd]

@[simp] theorem State.enterQuiesce_getF (s : State) (d : Nat) (fld : Fld) (itm : Nat) (hw : fld ∉ ([] : List Fld)) :
    (State.enterQuiesce s d).getF fld itm = s.getF fld itm := by
  try simp only [List.mem_cons, not_or, List.not_mem_nil, not_false_eq_true] at hw
  simp (maxDischargeDepth := 60) [State.enterQuiesce, hw, apply_ite Prod.snd]

@[simp] theorem State.enterQuiesce_parts (s : State) (d : Nat) :
    (State.enterQuiesce s d).time = s.time ∧ (State.enterQuiesce s d).cfg = s.cfg ∧ (State.enterQuiesce s d).raiseQ = s.raiseQ ∧ (State.enterQuiesce s d).freeCtr = s.freeCtr ∧ (State.enterQuiesce s d).flt = s.flt ∧ (State.enterQuiesce s d).phs = s.phs ∧ (State.enterQuiesce s d).eng = s.eng ∧ (State.enterQuiesce s d).start = s.start ∧ (State.enterQuiesce s d).est = s.est ∧ (State.enterQuiesce s d).bud = s.bud ∧ (State.enterQuiesce s d).thm = s.thm ∧ (State.enterQuiesce s d).hrd = s.hrd ∧ (State.enterQuiesce s d).tlm = s.tlm ∧ (State.enterQuiesce s d).cmd = s.cmd ∧ (State.enterQuiesce s d).boot = s.boot ∧ (State.enterQuiesce s d).adc = s.adc ∧ (State.enterQuiesce s d).fw = s.fw ∧ (State.enterQuiesce s d).lt = s.lt ∧ (State.enterQuiesce s d).pending = s.pending := by
  refine ⟨?_, ?_, ?_, ?_, ?_, ?_, ?_, ?_, ?_, ?_, ?_, ?_, ?_, ?_, ?_, ?_, ?_, ?_, ?_⟩ <;> (simp (maxDischargeDepth := 60) [State.enterQuiesce, apply_ite Prod.snd])

@[simp] theorem State.enterQuiesce_ok (s : State) (d : Nat) (hok : s.fieldsOk) : (State.enterQuiesce s d).fieldsOk := by
  simp +contextual (maxDischargeDepth := 60) [State.enterQuiesce, hok, apply_ite Prod.snd]

@[simp] theorem State.enterFenced_getF (s : State) (d : Nat) (fld : Fld) (itm : Nat) (hw : fld ∉ ([.CMD_NOTICE0_ARG, .CMD_NOTICE0_TYPE, .CMD_NOTICE1_TIME_LO, .CMD_NOTICE_SEQ_NSEQ, .CMD_PART_ID_STATE, .CMD_PART_SLOTS_BUSY, .CMD_PART_SLOTS_NEW, .CMD_PART_SLOTS_NOTICE_NEW, .CRC_EVENT_MISMATCH, .CRC_RESULT_RESULT, .CRC_STATUS_MATCH, .CRC_STATUS_MISMATCH, .CRC_STATUS_MISMATCH_COUNT, .CRC_STATUS_STATE, .CRC_VALUE_VALUE, .DOM_EVENT_FENCE] : List Fld)) :
    (State.enterFenced s d).getF fld itm = s.getF fld itm := by
  try simp only [List.mem_cons, not_or, List.not_mem_nil, not_false_eq_true] at hw
  simp (maxDischargeDepth := 60) [State.enterFenced, hw, apply_ite Prod.snd]

@[simp] theorem State.enterFenced_parts (s : State) (d : Nat) :
    (State.enterFenced s d).time = s.time ∧ (State.enterFenced s d).cfg = s.cfg ∧ (State.enterFenced s d).freeCtr = s.freeCtr ∧ (State.enterFenced s d).flt = s.flt ∧ (State.enterFenced s d).phs = s.phs ∧ (State.enterFenced s d).dom = s.dom ∧ (State.enterFenced s d).eng = s.eng ∧ (State.enterFenced s d).start = s.start ∧ (State.enterFenced s d).est = s.est ∧ (State.enterFenced s d).bud = s.bud ∧ (State.enterFenced s d).thm = s.thm ∧ (State.enterFenced s d).hrd = s.hrd ∧ (State.enterFenced s d).tlm = s.tlm ∧ (State.enterFenced s d).boot = s.boot ∧ (State.enterFenced s d).adc = s.adc ∧ (State.enterFenced s d).fw = s.fw ∧ (State.enterFenced s d).lt = s.lt ∧ (State.enterFenced s d).pending = s.pending := by
  refine ⟨?_, ?_, ?_, ?_, ?_, ?_, ?_, ?_, ?_, ?_, ?_, ?_, ?_, ?_, ?_, ?_, ?_, ?_⟩ <;> (simp (maxDischargeDepth := 60) [State.enterFenced, apply_ite Prod.snd])

@[simp] theorem State.enterFenced_ok (s : State) (d : Nat) (hok : s.fieldsOk) : (State.enterFenced s d).fieldsOk := by
  simp +contextual (maxDischargeDepth := 60) [State.enterFenced, hok, apply_ite Prod.snd]

@[simp] theorem State.domEnter_getF (s : State) (d new : Nat) (fld : Fld) (itm : Nat) (hw : fld ∉ ([.CEL_STATUS_SETPT, .CEL_STATUS_STATE, .CE_SLOT_STATUS_SAT, .CMD_NOTICE0_ARG, .CMD_NOTICE0_TYPE, .CMD_NOTICE1_TIME_LO, .CMD_NOTICE_SEQ_NSEQ, .CMD_PART_ID_STATE, .CMD_PART_SLOTS_BUSY, .CMD_PART_SLOTS_NEW, .CMD_PART_SLOTS_NOTICE_NEW, .CRC_EVENT_MISMATCH, .CRC_RESULT_RESULT, .CRC_STATUS_MATCH, .CRC_STATUS_MISMATCH, .CRC_STATUS_MISMATCH_COUNT, .CRC_STATUS_STATE, .CRC_VALUE_VALUE, .DOM_EVENT_DERATE, .DOM_EVENT_FENCE, .DOM_SETPT_VEFF, .DOM_START_STATUS_ARMED, .DOM_START_STATUS_BOOST, .DOM_START_STATUS_PRE_ACTIVE, .DOM_START_STATUS_SLOPE_EFF, .DOM_START_STATUS_WAITING, .DOM_START_STATUS_WAVES, .DOM_STATUS_DROOP_FLOOR, .DOM_STATUS_GATE_CLOSED, .DOM_STATUS_READY, .DOM_STATUS_STATE, .DOM_STATUS_STEP, .DOM_STATUS_WAKE_WAIT, .DOM_WAVE_ID_BARRIER_ID, .DOM_WAVE_ID_ENGINES, .DOM_WAVE_PROG_GRANTED, .DOM_WAVE_PROG_STATE, .DOM_WAVE_PROG_WAVE_ARMED, .GLB_VSTK_STATUS_CLAMPED, .GLB_VSTK_STATUS_VSTK_CODE, .PHS_GRP_REF_VREF, .PHS_GRP_TON_TON_BASE, .PHS_PH_STATUS_TRIM] : List Fld)) :
    (State.domEnter s d new).getF fld itm = s.getF fld itm := by
  try simp only [List.mem_cons, not_or, List.not_mem_nil, not_false_eq_true] at hw
  simp (maxDischargeDepth := 60) [State.domEnter, hw, apply_ite Prod.snd]

@[simp] theorem State.domEnter_parts (s : State) (d new : Nat) :
    (State.domEnter s d new).time = s.time ∧ (State.domEnter s d new).cfg = s.cfg ∧ (State.domEnter s d new).flt = s.flt ∧ (State.domEnter s d new).phs = s.phs ∧ (State.domEnter s d new).thm = s.thm ∧ (State.domEnter s d new).hrd = s.hrd ∧ (State.domEnter s d new).boot = s.boot ∧ (State.domEnter s d new).adc = s.adc ∧ (State.domEnter s d new).fw = s.fw ∧ (State.domEnter s d new).lt = s.lt ∧ (State.domEnter s d new).pending = s.pending := by
  refine ⟨?_, ?_, ?_, ?_, ?_, ?_, ?_, ?_, ?_, ?_, ?_⟩ <;> (simp (maxDischargeDepth := 60) [State.domEnter, apply_ite Prod.snd])

@[simp] theorem State.domEnter_ok (s : State) (d new : Nat) (hok : s.fieldsOk) : (State.domEnter s d new).fieldsOk := by
  simp +contextual (maxDischargeDepth := 60) [State.domEnter, hok, apply_ite Prod.snd]

@[simp] theorem State.domGo_getF (s : State) (d new : Nat) (fld : Fld) (itm : Nat) (hw : fld ∉ ([.CEL_STATUS_SETPT, .CEL_STATUS_STATE, .CE_SLOT_STATUS_SAT, .CMD_NOTICE0_ARG, .CMD_NOTICE0_TYPE, .CMD_NOTICE1_TIME_LO, .CMD_NOTICE_SEQ_NSEQ, .CMD_PART_ID_STATE, .CMD_PART_SLOTS_BUSY, .CMD_PART_SLOTS_NEW, .CMD_PART_SLOTS_NOTICE_NEW, .CRC_EVENT_MISMATCH, .CRC_RESULT_RESULT, .CRC_STATUS_MATCH, .CRC_STATUS_MISMATCH, .CRC_STATUS_MISMATCH_COUNT, .CRC_STATUS_STATE, .CRC_VALUE_VALUE, .DOM_EVENT_DERATE, .DOM_EVENT_FENCE, .DOM_SETPT_VEFF, .DOM_START_STATUS_ARMED, .DOM_START_STATUS_BOOST, .DOM_START_STATUS_PRE_ACTIVE, .DOM_START_STATUS_SLOPE_EFF, .DOM_START_STATUS_WAITING, .DOM_START_STATUS_WAVES, .DOM_STATUS_DROOP_FLOOR, .DOM_STATUS_GATE_CLOSED, .DOM_STATUS_READY, .DOM_STATUS_STATE, .DOM_STATUS_STEP, .DOM_STATUS_WAKE_WAIT, .DOM_WAVE_ID_BARRIER_ID, .DOM_WAVE_ID_ENGINES, .DOM_WAVE_PROG_GRANTED, .DOM_WAVE_PROG_STATE, .DOM_WAVE_PROG_WAVE_ARMED, .GLB_VSTK_STATUS_CLAMPED, .GLB_VSTK_STATUS_VSTK_CODE, .PHS_GRP_REF_VREF, .PHS_GRP_TON_TON_BASE, .PHS_PH_STATUS_TRIM] : List Fld)) :
    (State.domGo s d new).getF fld itm = s.getF fld itm := by
  try simp only [List.mem_cons, not_or, List.not_mem_nil, not_false_eq_true] at hw
  simp (maxDischargeDepth := 60) [State.domGo, hw, apply_ite Prod.snd]

@[simp] theorem State.domGo_parts (s : State) (d new : Nat) :
    (State.domGo s d new).time = s.time ∧ (State.domGo s d new).cfg = s.cfg ∧ (State.domGo s d new).flt = s.flt ∧ (State.domGo s d new).phs = s.phs ∧ (State.domGo s d new).thm = s.thm ∧ (State.domGo s d new).hrd = s.hrd ∧ (State.domGo s d new).boot = s.boot ∧ (State.domGo s d new).adc = s.adc ∧ (State.domGo s d new).fw = s.fw ∧ (State.domGo s d new).lt = s.lt ∧ (State.domGo s d new).pending = s.pending := by
  refine ⟨?_, ?_, ?_, ?_, ?_, ?_, ?_, ?_, ?_, ?_, ?_⟩ <;> (simp (maxDischargeDepth := 60) [State.domGo, apply_ite Prod.snd])

@[simp] theorem State.domGo_ok (s : State) (d new : Nat) (hok : s.fieldsOk) : (State.domGo s d new).fieldsOk := by
  simp +contextual (maxDischargeDepth := 60) [State.domGo, hok, apply_ite Prod.snd]

@[simp] theorem State.powerActs_getF (s : State) (d : Nat) (fld : Fld) (itm : Nat) (hw : fld ∉ ([.CEL_STATUS_SETPT, .CEL_STATUS_STATE, .CE_SLOT_STATUS_SAT, .CMD_NOTICE0_ARG, .CMD_NOTICE0_TYPE, .CMD_NOTICE1_TIME_LO, .CMD_NOTICE_SEQ_NSEQ, .CMD_PART_ID_STATE, .CMD_PART_SLOTS_BUSY, .CMD_PART_SLOTS_NEW, .CMD_PART_SLOTS_NOTICE_NEW, .CRC_EVENT_MISMATCH, .CRC_RESULT_RESULT, .CRC_STATUS_MATCH, .CRC_STATUS_MISMATCH, .CRC_STATUS_MISMATCH_COUNT, .CRC_STATUS_STATE, .CRC_VALUE_VALUE, .DOM_EVENT_DERATE, .DOM_EVENT_FENCE, .DOM_SETPT_VEFF, .DOM_START_STATUS_ARMED, .DOM_START_STATUS_BOOST, .DOM_START_STATUS_PRE_ACTIVE, .DOM_START_STATUS_SLOPE_EFF, .DOM_START_STATUS_WAITING, .DOM_START_STATUS_WAVES, .DOM_STATUS_DROOP_FLOOR, .DOM_STATUS_GATE_CLOSED, .DOM_STATUS_READY, .DOM_STATUS_STATE, .DOM_STATUS_STEP, .DOM_STATUS_WAKE_WAIT, .DOM_WAVE_ID_BARRIER_ID, .DOM_WAVE_ID_ENGINES, .DOM_WAVE_PROG_GRANTED, .DOM_WAVE_PROG_STATE, .DOM_WAVE_PROG_WAVE_ARMED, .GLB_VSTK_STATUS_CLAMPED, .GLB_VSTK_STATUS_VSTK_CODE, .PHS_GRP_REF_VREF, .PHS_GRP_TON_TON_BASE, .PHS_PH_STATUS_TRIM] : List Fld)) :
    (State.powerActs s d).getF fld itm = s.getF fld itm := by
  try simp only [List.mem_cons, not_or, List.not_mem_nil, not_false_eq_true] at hw
  ((unfold State.powerActs); (try simp only []); (repeat' split) <;> (try simp (maxDischargeDepth := 60) [hw, State.when, apply_ite Prod.snd]))

@[simp] theorem State.powerActs_parts (s : State) (d : Nat) :
    (State.powerActs s d).time = s.time ∧ (State.powerActs s d).cfg = s.cfg ∧ (State.powerActs s d).flt = s.flt ∧ (State.powerActs s d).phs = s.phs ∧ (State.powerActs s d).thm = s.thm ∧ (State.powerActs s d).hrd = s.hrd ∧ (State.powerActs s d).boot = s.boot ∧ (State.powerActs s d).adc = s.adc ∧ (State.powerActs s d).fw = s.fw ∧ (State.powerActs s d).lt = s.lt ∧ (State.powerActs s d).pending = s.pending := by
  refine ⟨?_, ?_, ?_, ?_, ?_, ?_, ?_, ?_, ?_, ?_, ?_⟩ <;> ((unfold State.powerActs); (try simp only []); (repeat' split) <;> (try simp (maxDischargeDepth := 60) [State.when, apply_ite Prod.snd]))

@[simp] theorem State.powerActs_ok (s : State) (d : Nat) (hok : s.fieldsOk) : (State.powerActs s d).fieldsOk := by
  ((unfold State.powerActs); (try simp only []); (repeat' split) <;> (try simp +contextual (maxDischargeDepth := 60) [hok, State.when, apply_ite Prod.snd]))

@[simp] theorem State.fence_getF (s : State) (d : Nat) (loss : Bool) (fld : Fld) (itm : Nat) (hw : fld ∉ ([.CEL_STATUS_SETPT, .CEL_STATUS_STATE, .CE_SLOT_STATUS_SAT, .CMD_NOTICE0_ARG, .CMD_NOTICE0_TYPE, .CMD_NOTICE1_TIME_LO, .CMD_NOTICE_SEQ_NSEQ, .CMD_PART_ID_STATE, .CMD_PART_SLOTS_BUSY, .CMD_PART_SLOTS_NEW, .CMD_PART_SLOTS_NOTICE_NEW, .CRC_EVENT_MISMATCH, .CRC_RESULT_RESULT, .CRC_STATUS_MATCH, .CRC_STATUS_MISMATCH, .CRC_STATUS_MISMATCH_COUNT, .CRC_STATUS_STATE, .CRC_VALUE_VALUE, .DOM_EVENT_DERATE, .DOM_EVENT_FENCE, .DOM_SETPT_VEFF, .DOM_START_STATUS_ARMED, .DOM_START_STATUS_BOOST, .DOM_START_STATUS_PRE_ACTIVE, .DOM_START_STATUS_SLOPE_EFF, .DOM_START_STATUS_WAITING, .DOM_START_STATUS_WAVES, .DOM_STATUS_DROOP_FLOOR, .DOM_STATUS_GATE_CLOSED, .DOM_STATUS_READY, .DOM_STATUS_STATE, .DOM_STATUS_STEP, .DOM_STATUS_WAKE_WAIT, .DOM_WAVE_ID_BARRIER_ID, .DOM_WAVE_ID_ENGINES, .DOM_WAVE_PROG_GRANTED, .DOM_WAVE_PROG_STATE, .DOM_WAVE_PROG_WAVE_ARMED, .GLB_VSTK_STATUS_CLAMPED, .GLB_VSTK_STATUS_VSTK_CODE, .PHS_GRP_REF_VREF, .PHS_GRP_TON_TON_BASE, .PHS_PH_STATUS_TRIM] : List Fld)) :
    (State.fence s d loss).getF fld itm = s.getF fld itm := by
  try simp only [List.mem_cons, not_or, List.not_mem_nil, not_false_eq_true] at hw
  ((unfold State.fence); (try simp only []); (repeat' split) <;> (try simp (maxDischargeDepth := 60) [hw, State.when, apply_ite Prod.snd]))

@[simp] theorem State.fence_parts (s : State) (d : Nat) (loss : Bool) :
    (State.fence s d loss).time = s.time ∧ (State.fence s d loss).cfg = s.cfg ∧ (State.fence s d loss).flt = s.flt ∧ (State.fence s d loss).phs = s.phs ∧ (State.fence s d loss).thm = s.thm ∧ (State.fence s d loss).hrd = s.hrd ∧ (State.fence s d loss).boot = s.boot ∧ (State.fence s d loss).adc = s.adc ∧ (State.fence s d loss).fw = s.fw ∧ (State.fence s d loss).lt = s.lt ∧ (State.fence s d loss).pending = s.pending := by
  refine ⟨?_, ?_, ?_, ?_, ?_, ?_, ?_, ?_, ?_, ?_, ?_⟩ <;> ((unfold State.fence); (try simp only []); (repeat' split) <;> (try simp (maxDischargeDepth := 60) [State.when, apply_ite Prod.snd]))

@[simp] theorem State.fence_ok (s : State) (d : Nat) (loss : Bool) (hok : s.fieldsOk) : (State.fence s d loss).fieldsOk := by
  ((unfold State.fence); (try simp only []); (repeat' split) <;> (try simp +contextual (maxDischargeDepth := 60) [hok, State.when, apply_ite Prod.snd]))

@[simp] theorem State.quiesceEnd_getF (s : State) (d : Nat) (fld : Fld) (itm : Nat) (hw : fld ∉ ([.CEL_STATUS_SETPT, .CEL_STATUS_STATE, .CE_SLOT_STATUS_SAT, .CMD_NOTICE0_ARG, .CMD_NOTICE0_TYPE, .CMD_NOTICE1_TIME_LO, .CMD_NOTICE_SEQ_NSEQ, .CMD_PART_ID_STATE, .CMD_PART_SLOTS_BUSY, .CMD_PART_SLOTS_NEW, .CMD_PART_SLOTS_NOTICE_NEW, .CRC_EVENT_MISMATCH, .CRC_RESULT_RESULT, .CRC_STATUS_MATCH, .CRC_STATUS_MISMATCH, .CRC_STATUS_MISMATCH_COUNT, .CRC_STATUS_STATE, .CRC_VALUE_VALUE, .DOM_EVENT_DERATE, .DOM_EVENT_FENCE, .DOM_SETPT_VEFF, .DOM_START_STATUS_ARMED, .DOM_START_STATUS_BOOST, .DOM_START_STATUS_PRE_ACTIVE, .DOM_START_STATUS_SLOPE_EFF, .DOM_START_STATUS_WAITING, .DOM_START_STATUS_WAVES, .DOM_STATUS_DROOP_FLOOR, .DOM_STATUS_GATE_CLOSED, .DOM_STATUS_READY, .DOM_STATUS_STATE, .DOM_STATUS_STEP, .DOM_STATUS_WAKE_WAIT, .DOM_WAVE_ID_BARRIER_ID, .DOM_WAVE_ID_ENGINES, .DOM_WAVE_PROG_GRANTED, .DOM_WAVE_PROG_STATE, .DOM_WAVE_PROG_WAVE_ARMED, .GLB_VSTK_STATUS_CLAMPED, .GLB_VSTK_STATUS_VSTK_CODE, .PHS_GRP_REF_VREF, .PHS_GRP_TON_TON_BASE, .PHS_PH_STATUS_TRIM] : List Fld)) :
    (State.quiesceEnd s d).getF fld itm = s.getF fld itm := by
  try simp only [List.mem_cons, not_or, List.not_mem_nil, not_false_eq_true] at hw
  simp (maxDischargeDepth := 60) [State.quiesceEnd, hw, apply_ite Prod.snd]

@[simp] theorem State.quiesceEnd_parts (s : State) (d : Nat) :
    (State.quiesceEnd s d).time = s.time ∧ (State.quiesceEnd s d).cfg = s.cfg ∧ (State.quiesceEnd s d).flt = s.flt ∧ (State.quiesceEnd s d).phs = s.phs ∧ (State.quiesceEnd s d).thm = s.thm ∧ (State.quiesceEnd s d).hrd = s.hrd ∧ (State.quiesceEnd s d).boot = s.boot ∧ (State.quiesceEnd s d).adc = s.adc ∧ (State.quiesceEnd s d).fw = s.fw ∧ (State.quiesceEnd s d).lt = s.lt ∧ (State.quiesceEnd s d).pending = s.pending := by
  refine ⟨?_, ?_, ?_, ?_, ?_, ?_, ?_, ?_, ?_, ?_, ?_⟩ <;> (simp (maxDischargeDepth := 60) [State.quiesceEnd, apply_ite Prod.snd])

@[simp] theorem State.quiesceEnd_ok (s : State) (d : Nat) (hok : s.fieldsOk) : (State.quiesceEnd s d).fieldsOk := by
  simp +contextual (maxDischargeDepth := 60) [State.quiesceEnd, hok, apply_ite Prod.snd]

@[simp] theorem State.endQuiescing_getF (s : State) (fld : Fld) (itm : Nat) (hw : fld ∉ ([.CEL_STATUS_SETPT, .CEL_STATUS_STATE, .CE_SLOT_STATUS_SAT, .CMD_NOTICE0_ARG, .CMD_NOTICE0_TYPE, .CMD_NOTICE1_TIME_LO, .CMD_NOTICE_SEQ_NSEQ, .CMD_PART_ID_STATE, .CMD_PART_SLOTS_BUSY, .CMD_PART_SLOTS_NEW, .CMD_PART_SLOTS_NOTICE_NEW, .CRC_EVENT_MISMATCH, .CRC_RESULT_RESULT, .CRC_STATUS_MATCH, .CRC_STATUS_MISMATCH, .CRC_STATUS_MISMATCH_COUNT, .CRC_STATUS_STATE, .CRC_VALUE_VALUE, .DOM_EVENT_DERATE, .DOM_EVENT_FENCE, .DOM_SETPT_VEFF, .DOM_START_STATUS_ARMED, .DOM_START_STATUS_BOOST, .DOM_START_STATUS_PRE_ACTIVE, .DOM_START_STATUS_SLOPE_EFF, .DOM_START_STATUS_WAITING, .DOM_START_STATUS_WAVES, .DOM_STATUS_DROOP_FLOOR, .DOM_STATUS_GATE_CLOSED, .DOM_STATUS_READY, .DOM_STATUS_STATE, .DOM_STATUS_STEP, .DOM_STATUS_WAKE_WAIT, .DOM_WAVE_ID_BARRIER_ID, .DOM_WAVE_ID_ENGINES, .DOM_WAVE_PROG_GRANTED, .DOM_WAVE_PROG_STATE, .DOM_WAVE_PROG_WAVE_ARMED, .GLB_VSTK_STATUS_CLAMPED, .GLB_VSTK_STATUS_VSTK_CODE, .PHS_GRP_REF_VREF, .PHS_GRP_TON_TON_BASE, .PHS_PH_STATUS_TRIM] : List Fld)) :
    (State.endQuiescing s).getF fld itm = s.getF fld itm := by
  try simp only [List.mem_cons, not_or, List.not_mem_nil, not_false_eq_true] at hw
  simp (maxDischargeDepth := 60) [State.endQuiescing, hw, apply_ite Prod.snd]

@[simp] theorem State.endQuiescing_parts (s : State) :
    (State.endQuiescing s).time = s.time ∧ (State.endQuiescing s).cfg = s.cfg ∧ (State.endQuiescing s).flt = s.flt ∧ (State.endQuiescing s).phs = s.phs ∧ (State.endQuiescing s).thm = s.thm ∧ (State.endQuiescing s).hrd = s.hrd ∧ (State.endQuiescing s).boot = s.boot ∧ (State.endQuiescing s).adc = s.adc ∧ (State.endQuiescing s).fw = s.fw ∧ (State.endQuiescing s).lt = s.lt ∧ (State.endQuiescing s).pending = s.pending := by
  refine ⟨?_, ?_, ?_, ?_, ?_, ?_, ?_, ?_, ?_, ?_, ?_⟩ <;> (simp (maxDischargeDepth := 60) [State.endQuiescing, apply_ite Prod.snd])

@[simp] theorem State.endQuiescing_ok (s : State) (hok : s.fieldsOk) : (State.endQuiescing s).fieldsOk := by
  simp +contextual (maxDischargeDepth := 60) [State.endQuiescing, hok, apply_ite Prod.snd]

@[simp] theorem State.fatalQuiesce_getF (s : State) (d : Nat) (fld : Fld) (itm : Nat) (hw : fld ∉ ([.CEL_STATUS_SETPT, .CEL_STATUS_STATE, .CE_SLOT_STATUS_SAT, .CMD_NOTICE0_ARG, .CMD_NOTICE0_TYPE, .CMD_NOTICE1_TIME_LO, .CMD_NOTICE_SEQ_NSEQ, .CMD_PART_ID_STATE, .CMD_PART_SLOTS_BUSY, .CMD_PART_SLOTS_NEW, .CMD_PART_SLOTS_NOTICE_NEW, .CRC_EVENT_MISMATCH, .CRC_RESULT_RESULT, .CRC_STATUS_MATCH, .CRC_STATUS_MISMATCH, .CRC_STATUS_MISMATCH_COUNT, .CRC_STATUS_STATE, .CRC_VALUE_VALUE, .DOM_EVENT_DERATE, .DOM_EVENT_FENCE, .DOM_SETPT_VEFF, .DOM_START_STATUS_ARMED, .DOM_START_STATUS_BOOST, .DOM_START_STATUS_PRE_ACTIVE, .DOM_START_STATUS_SLOPE_EFF, .DOM_START_STATUS_WAITING, .DOM_START_STATUS_WAVES, .DOM_STATUS_DROOP_FLOOR, .DOM_STATUS_GATE_CLOSED, .DOM_STATUS_READY, .DOM_STATUS_STATE, .DOM_STATUS_STEP, .DOM_STATUS_WAKE_WAIT, .DOM_WAVE_ID_BARRIER_ID, .DOM_WAVE_ID_ENGINES, .DOM_WAVE_PROG_GRANTED, .DOM_WAVE_PROG_STATE, .DOM_WAVE_PROG_WAVE_ARMED, .GLB_VSTK_STATUS_CLAMPED, .GLB_VSTK_STATUS_VSTK_CODE, .PHS_GRP_REF_VREF, .PHS_GRP_TON_TON_BASE, .PHS_PH_STATUS_TRIM] : List Fld)) :
    (State.fatalQuiesce s d).getF fld itm = s.getF fld itm := by
  try simp only [List.mem_cons, not_or, List.not_mem_nil, not_false_eq_true] at hw
  simp (maxDischargeDepth := 60) [State.fatalQuiesce, hw, apply_ite Prod.snd]

@[simp] theorem State.fatalQuiesce_parts (s : State) (d : Nat) :
    (State.fatalQuiesce s d).time = s.time ∧ (State.fatalQuiesce s d).cfg = s.cfg ∧ (State.fatalQuiesce s d).flt = s.flt ∧ (State.fatalQuiesce s d).phs = s.phs ∧ (State.fatalQuiesce s d).thm = s.thm ∧ (State.fatalQuiesce s d).hrd = s.hrd ∧ (State.fatalQuiesce s d).boot = s.boot ∧ (State.fatalQuiesce s d).adc = s.adc ∧ (State.fatalQuiesce s d).fw = s.fw ∧ (State.fatalQuiesce s d).lt = s.lt ∧ (State.fatalQuiesce s d).pending = s.pending := by
  refine ⟨?_, ?_, ?_, ?_, ?_, ?_, ?_, ?_, ?_, ?_, ?_⟩ <;> (simp (maxDischargeDepth := 60) [State.fatalQuiesce, apply_ite Prod.snd])

@[simp] theorem State.fatalQuiesce_ok (s : State) (d : Nat) (hok : s.fieldsOk) : (State.fatalQuiesce s d).fieldsOk := by
  simp +contextual (maxDischargeDepth := 60) [State.fatalQuiesce, hok, apply_ite Prod.snd]

@[simp] theorem State.derateCheck_getF (s : State) (d : Nat) (fld : Fld) (itm : Nat) (hw : fld ∉ ([.CEL_STATUS_SETPT, .CEL_STATUS_STATE, .CE_SLOT_STATUS_SAT, .CMD_NOTICE0_ARG, .CMD_NOTICE0_TYPE, .CMD_NOTICE1_TIME_LO, .CMD_NOTICE_SEQ_NSEQ, .CMD_PART_ID_STATE, .CMD_PART_SLOTS_BUSY, .CMD_PART_SLOTS_NEW, .CMD_PART_SLOTS_NOTICE_NEW, .CRC_EVENT_MISMATCH, .CRC_RESULT_RESULT, .CRC_STATUS_MATCH, .CRC_STATUS_MISMATCH, .CRC_STATUS_MISMATCH_COUNT, .CRC_STATUS_STATE, .CRC_VALUE_VALUE, .DOM_EVENT_DERATE, .DOM_EVENT_FENCE, .DOM_SETPT_VEFF, .DOM_START_STATUS_ARMED, .DOM_START_STATUS_BOOST, .DOM_START_STATUS_PRE_ACTIVE, .DOM_START_STATUS_SLOPE_EFF, .DOM_START_STATUS_WAITING, .DOM_START_STATUS_WAVES, .DOM_STATUS_DROOP_FLOOR, .DOM_STATUS_GATE_CLOSED, .DOM_STATUS_READY, .DOM_STATUS_STATE, .DOM_STATUS_STEP, .DOM_STATUS_WAKE_WAIT, .DOM_WAVE_ID_BARRIER_ID, .DOM_WAVE_ID_ENGINES, .DOM_WAVE_PROG_GRANTED, .DOM_WAVE_PROG_STATE, .DOM_WAVE_PROG_WAVE_ARMED, .GLB_VSTK_STATUS_CLAMPED, .GLB_VSTK_STATUS_VSTK_CODE, .PHS_GRP_REF_VREF, .PHS_GRP_TON_TON_BASE, .PHS_PH_STATUS_TRIM] : List Fld)) :
    (State.derateCheck s d).getF fld itm = s.getF fld itm := by
  try simp only [List.mem_cons, not_or, List.not_mem_nil, not_false_eq_true] at hw
  simp (maxDischargeDepth := 60) [State.derateCheck, hw, apply_ite Prod.snd]

@[simp] theorem State.derateCheck_parts (s : State) (d : Nat) :
    (State.derateCheck s d).time = s.time ∧ (State.derateCheck s d).cfg = s.cfg ∧ (State.derateCheck s d).flt = s.flt ∧ (State.derateCheck s d).phs = s.phs ∧ (State.derateCheck s d).thm = s.thm ∧ (State.derateCheck s d).hrd = s.hrd ∧ (State.derateCheck s d).boot = s.boot ∧ (State.derateCheck s d).adc = s.adc ∧ (State.derateCheck s d).fw = s.fw ∧ (State.derateCheck s d).lt = s.lt ∧ (State.derateCheck s d).pending = s.pending := by
  refine ⟨?_, ?_, ?_, ?_, ?_, ?_, ?_, ?_, ?_, ?_, ?_⟩ <;> (simp (maxDischargeDepth := 60) [State.derateCheck, apply_ite Prod.snd])

@[simp] theorem State.derateCheck_ok (s : State) (d : Nat) (hok : s.fieldsOk) : (State.derateCheck s d).fieldsOk := by
  simp +contextual (maxDischargeDepth := 60) [State.derateCheck, hok, apply_ite Prod.snd]

@[simp] theorem State.cellsChanged_getF (s : State) (d : Nat) (fld : Fld) (itm : Nat) (hw : fld ∉ ([.CEL_STATUS_SETPT, .CEL_STATUS_STATE, .CE_SLOT_STATUS_SAT, .CMD_NOTICE0_ARG, .CMD_NOTICE0_TYPE, .CMD_NOTICE1_TIME_LO, .CMD_NOTICE_SEQ_NSEQ, .CMD_PART_ID_STATE, .CMD_PART_SLOTS_BUSY, .CMD_PART_SLOTS_NEW, .CMD_PART_SLOTS_NOTICE_NEW, .CRC_EVENT_MISMATCH, .CRC_RESULT_RESULT, .CRC_STATUS_MATCH, .CRC_STATUS_MISMATCH, .CRC_STATUS_MISMATCH_COUNT, .CRC_STATUS_STATE, .CRC_VALUE_VALUE, .DOM_EVENT_DERATE, .DOM_EVENT_FENCE, .DOM_SETPT_VEFF, .DOM_START_STATUS_ARMED, .DOM_START_STATUS_BOOST, .DOM_START_STATUS_PRE_ACTIVE, .DOM_START_STATUS_SLOPE_EFF, .DOM_START_STATUS_WAITING, .DOM_START_STATUS_WAVES, .DOM_STATUS_CEIL, .DOM_STATUS_CELLS_OK, .DOM_STATUS_DROOP_FLOOR, .DOM_STATUS_GATE_CLOSED, .DOM_STATUS_READY, .DOM_STATUS_STATE, .DOM_STATUS_STEP, .DOM_STATUS_WAKE_WAIT, .DOM_WAVE_ID_BARRIER_ID, .DOM_WAVE_ID_ENGINES, .DOM_WAVE_PROG_GRANTED, .DOM_WAVE_PROG_STATE, .DOM_WAVE_PROG_WAVE_ARMED, .GLB_VSTK_STATUS_CLAMPED, .GLB_VSTK_STATUS_VSTK_CODE, .PHS_GRP_REF_VREF, .PHS_GRP_TON_TON_BASE, .PHS_PH_STATUS_TRIM] : List Fld)) :
    (State.cellsChanged s d).getF fld itm = s.getF fld itm := by
  try simp only [List.mem_cons, not_or, List.not_mem_nil, not_false_eq_true] at hw
  simp (maxDischargeDepth := 60) [State.cellsChanged, hw, apply_ite Prod.snd]

@[simp] theorem State.cellsChanged_parts (s : State) (d : Nat) :
    (State.cellsChanged s d).time = s.time ∧ (State.cellsChanged s d).cfg = s.cfg ∧ (State.cellsChanged s d).flt = s.flt ∧ (State.cellsChanged s d).phs = s.phs ∧ (State.cellsChanged s d).thm = s.thm ∧ (State.cellsChanged s d).hrd = s.hrd ∧ (State.cellsChanged s d).boot = s.boot ∧ (State.cellsChanged s d).adc = s.adc ∧ (State.cellsChanged s d).fw = s.fw ∧ (State.cellsChanged s d).lt = s.lt ∧ (State.cellsChanged s d).pending = s.pending := by
  refine ⟨?_, ?_, ?_, ?_, ?_, ?_, ?_, ?_, ?_, ?_, ?_⟩ <;> (simp (maxDischargeDepth := 60) [State.cellsChanged, apply_ite Prod.snd])

@[simp] theorem State.cellsChanged_ok (s : State) (d : Nat) (hok : s.fieldsOk) : (State.cellsChanged s d).fieldsOk := by
  simp +contextual (maxDischargeDepth := 60) [State.cellsChanged, hok, apply_ite Prod.snd]

@[simp] theorem State.fenceCheck_getF (s : State) (k : Nat) (fld : Fld) (itm : Nat) (hw : fld ∉ ([.CEL_STATUS_SETPT, .CEL_STATUS_STATE, .CE_SLOT_STATUS_SAT, .CMD_NOTICE0_ARG, .CMD_NOTICE0_TYPE, .CMD_NOTICE1_TIME_LO, .CMD_NOTICE_SEQ_NSEQ, .CMD_PART_ID_STATE, .CMD_PART_SLOTS_BUSY, .CMD_PART_SLOTS_NEW, .CMD_PART_SLOTS_NOTICE_NEW, .CRC_EVENT_MISMATCH, .CRC_RESULT_RESULT, .CRC_STATUS_MATCH, .CRC_STATUS_MISMATCH, .CRC_STATUS_MISMATCH_COUNT, .CRC_STATUS_STATE, .CRC_VALUE_VALUE, .DOM_EVENT_DERATE, .DOM_EVENT_FENCE, .DOM_SETPT_VEFF, .DOM_START_STATUS_ARMED, .DOM_START_STATUS_BOOST, .DOM_START_STATUS_PRE_ACTIVE, .DOM_START_STATUS_SLOPE_EFF, .DOM_START_STATUS_WAITING, .DOM_START_STATUS_WAVES, .DOM_STATUS_DROOP_FLOOR, .DOM_STATUS_GATE_CLOSED, .DOM_STATUS_READY, .DOM_STATUS_STATE, .DOM_STATUS_STEP, .DOM_STATUS_WAKE_WAIT, .DOM_WAVE_ID_BARRIER_ID, .DOM_WAVE_ID_ENGINES, .DOM_WAVE_PROG_GRANTED, .DOM_WAVE_PROG_STATE, .DOM_WAVE_PROG_WAVE_ARMED, .GLB_VSTK_STATUS_CLAMPED, .GLB_VSTK_STATUS_VSTK_CODE, .PHS_GRP_REF_VREF, .PHS_GRP_TON_TON_BASE, .PHS_PH_STATUS_TRIM] : List Fld)) :
    (State.fenceCheck s k).getF fld itm = s.getF fld itm := by
  try simp only [List.mem_cons, not_or, List.not_mem_nil, not_false_eq_true] at hw
  simp (maxDischargeDepth := 60) [State.fenceCheck, hw, apply_ite Prod.snd]

@[simp] theorem State.fenceCheck_parts (s : State) (k : Nat) :
    (State.fenceCheck s k).time = s.time ∧ (State.fenceCheck s k).cfg = s.cfg ∧ (State.fenceCheck s k).flt = s.flt ∧ (State.fenceCheck s k).phs = s.phs ∧ (State.fenceCheck s k).thm = s.thm ∧ (State.fenceCheck s k).hrd = s.hrd ∧ (State.fenceCheck s k).boot = s.boot ∧ (State.fenceCheck s k).adc = s.adc ∧ (State.fenceCheck s k).fw = s.fw ∧ (State.fenceCheck s k).lt = s.lt ∧ (State.fenceCheck s k).pending = s.pending := by
  refine ⟨?_, ?_, ?_, ?_, ?_, ?_, ?_, ?_, ?_, ?_, ?_⟩ <;> (simp (maxDischargeDepth := 60) [State.fenceCheck, apply_ite Prod.snd])

@[simp] theorem State.fenceCheck_ok (s : State) (k : Nat) (hok : s.fieldsOk) : (State.fenceCheck s k).fieldsOk := by
  simp +contextual (maxDischargeDepth := 60) [State.fenceCheck, hok, apply_ite Prod.snd]

@[simp] theorem State.wakeDone_getF (s : State) (d : Nat) (fld : Fld) (itm : Nat) (hw : fld ∉ ([.CEL_STATUS_SETPT, .CEL_STATUS_STATE, .CE_SLOT_STATUS_SAT, .CMD_NOTICE0_ARG, .CMD_NOTICE0_TYPE, .CMD_NOTICE1_TIME_LO, .CMD_NOTICE_SEQ_NSEQ, .CMD_PART_ID_STATE, .CMD_PART_SLOTS_BUSY, .CMD_PART_SLOTS_NEW, .CMD_PART_SLOTS_NOTICE_NEW, .CRC_EVENT_MISMATCH, .CRC_RESULT_RESULT, .CRC_STATUS_MATCH, .CRC_STATUS_MISMATCH, .CRC_STATUS_MISMATCH_COUNT, .CRC_STATUS_STATE, .CRC_VALUE_VALUE, .DOM_EVENT_DERATE, .DOM_EVENT_FENCE, .DOM_SETPT_VEFF, .DOM_START_STATUS_ARMED, .DOM_START_STATUS_BOOST, .DOM_START_STATUS_PRE_ACTIVE, .DOM_START_STATUS_SLOPE_EFF, .DOM_START_STATUS_WAITING, .DOM_START_STATUS_WAVES, .DOM_STATUS_DROOP_FLOOR, .DOM_STATUS_GATE_CLOSED, .DOM_STATUS_READY, .DOM_STATUS_STATE, .DOM_STATUS_STEP, .DOM_STATUS_WAKE_WAIT, .DOM_WAVE_ID_BARRIER_ID, .DOM_WAVE_ID_ENGINES, .DOM_WAVE_PROG_GRANTED, .DOM_WAVE_PROG_STATE, .DOM_WAVE_PROG_WAVE_ARMED, .GLB_VSTK_STATUS_CLAMPED, .GLB_VSTK_STATUS_VSTK_CODE, .PHS_GRP_REF_VREF, .PHS_GRP_TON_TON_BASE, .PHS_PH_STATUS_TRIM] : List Fld)) :
    (State.wakeDone s d).getF fld itm = s.getF fld itm := by
  try simp only [List.mem_cons, not_or, List.not_mem_nil, not_false_eq_true] at hw
  simp (maxDischargeDepth := 60) [State.wakeDone, hw, apply_ite Prod.snd]

@[simp] theorem State.wakeDone_parts (s : State) (d : Nat) :
    (State.wakeDone s d).time = s.time ∧ (State.wakeDone s d).cfg = s.cfg ∧ (State.wakeDone s d).flt = s.flt ∧ (State.wakeDone s d).phs = s.phs ∧ (State.wakeDone s d).thm = s.thm ∧ (State.wakeDone s d).hrd = s.hrd ∧ (State.wakeDone s d).boot = s.boot ∧ (State.wakeDone s d).adc = s.adc ∧ (State.wakeDone s d).fw = s.fw ∧ (State.wakeDone s d).lt = s.lt ∧ (State.wakeDone s d).pending = s.pending := by
  refine ⟨?_, ?_, ?_, ?_, ?_, ?_, ?_, ?_, ?_, ?_, ?_⟩ <;> (simp (maxDischargeDepth := 60) [State.wakeDone, apply_ite Prod.snd])

@[simp] theorem State.wakeDone_ok (s : State) (d : Nat) (hok : s.fieldsOk) : (State.wakeDone s d).fieldsOk := by
  simp +contextual (maxDischargeDepth := 60) [State.wakeDone, hok, apply_ite Prod.snd]

@[simp] theorem State.cellLoss_getF (s : State) (c : Nat) (fld : Fld) (itm : Nat) (hw : fld ∉ ([.CEL_STATUS_LOSS_COUNT, .DOM_EVENT_CELL_FAIL] : List Fld)) :
    (State.cellLoss s c).getF fld itm = s.getF fld itm := by
  try simp only [List.mem_cons, not_or, List.not_mem_nil, not_false_eq_true] at hw
  simp (maxDischargeDepth := 60) [State.cellLoss, hw, apply_ite Prod.snd]

@[simp] theorem State.cellLoss_parts (s : State) (c : Nat) :
    (State.cellLoss s c).time = s.time ∧ (State.cellLoss s c).cfg = s.cfg ∧ (State.cellLoss s c).out = s.out ∧ (State.cellLoss s c).freeCtr = s.freeCtr ∧ (State.cellLoss s c).flt = s.flt ∧ (State.cellLoss s c).phs = s.phs ∧ (State.cellLoss s c).dom = s.dom ∧ (State.cellLoss s c).eng = s.eng ∧ (State.cellLoss s c).start = s.start ∧ (State.cellLoss s c).est = s.est ∧ (State.cellLoss s c).bud = s.bud ∧ (State.cellLoss s c).thm = s.thm ∧ (State.cellLoss s c).hrd = s.hrd ∧ (State.cellLoss s c).tlm = s.tlm ∧ (State.cellLoss s c).cmd = s.cmd ∧ (State.cellLoss s c).boot = s.boot ∧ (State.cellLoss s c).adc = s.adc ∧ (State.cellLoss s c).fw = s.fw ∧ (State.cellLoss s c).lt = s.lt ∧ (State.cellLoss s c).pending = s.pending := by
  refine ⟨?_, ?_, ?_, ?_, ?_, ?_, ?_, ?_, ?_, ?_, ?_, ?_, ?_, ?_, ?_, ?_, ?_, ?_, ?_, ?_⟩ <;> (simp (maxDischargeDepth := 60) [State.cellLoss, apply_ite Prod.snd])

@[simp] theorem State.cellLoss_ok (s : State) (c : Nat) (hok : s.fieldsOk) : (State.cellLoss s c).fieldsOk := by
  simp +contextual (maxDischargeDepth := 60) [State.cellLoss, hok, apply_ite Prod.snd]

@[simp] theorem State.cellFail_getF (s : State) (c cause : Nat) (fld : Fld) (itm : Nat) (hw : fld ∉ ([.CEL_STATUS_FAIL_CAUSE, .CEL_STATUS_LOSS_COUNT, .CEL_STATUS_SETPT, .CEL_STATUS_STATE, .CE_SLOT_STATUS_SAT, .CMD_NOTICE0_ARG, .CMD_NOTICE0_TYPE, .CMD_NOTICE1_TIME_LO, .CMD_NOTICE_SEQ_NSEQ, .CMD_PART_ID_STATE, .CMD_PART_SLOTS_BUSY, .CMD_PART_SLOTS_NEW, .CMD_PART_SLOTS_NOTICE_NEW, .CRC_EVENT_MISMATCH, .CRC_RESULT_RESULT, .CRC_STATUS_MATCH, .CRC_STATUS_MISMATCH, .CRC_STATUS_MISMATCH_COUNT, .CRC_STATUS_STATE, .CRC_VALUE_VALUE, .DOM_EVENT_CELL_FAIL, .DOM_EVENT_DERATE, .DOM_EVENT_FENCE, .DOM_SETPT_VEFF, .DOM_START_STATUS_ARMED, .DOM_START_STATUS_BOOST, .DOM_START_STATUS_PRE_ACTIVE, .DOM_START_STATUS_SLOPE_EFF, .DOM_START_STATUS_WAITING, .DOM_START_STATUS_WAVES, .DOM_STATUS_CEIL, .DOM_STATUS_CELLS_OK, .DOM_STATUS_DROOP_FLOOR, .DOM_STATUS_GATE_CLOSED, .DOM_STATUS_READY, .DOM_STATUS_STATE, .DOM_STATUS_STEP, .DOM_STATUS_WAKE_WAIT, .DOM_WAVE_ID_BARRIER_ID, .DOM_WAVE_ID_ENGINES, .DOM_WAVE_PROG_GRANTED, .DOM_WAVE_PROG_STATE, .DOM_WAVE_PROG_WAVE_ARMED, .GLB_VSTK_STATUS_CLAMPED, .GLB_VSTK_STATUS_VSTK_CODE, .PHS_GRP_REF_VREF, .PHS_GRP_TON_TON_BASE, .PHS_PH_STATUS_TRIM] : List Fld)) :
    (State.cellFail s c cause).getF fld itm = s.getF fld itm := by
  try simp only [List.mem_cons, not_or, List.not_mem_nil, not_false_eq_true] at hw
  simp (maxDischargeDepth := 60) [State.cellFail, hw, apply_ite Prod.snd]

@[simp] theorem State.cellFail_parts (s : State) (c cause : Nat) :
    (State.cellFail s c cause).time = s.time ∧ (State.cellFail s c cause).cfg = s.cfg ∧ (State.cellFail s c cause).flt = s.flt ∧ (State.cellFail s c cause).phs = s.phs ∧ (State.cellFail s c cause).thm = s.thm ∧ (State.cellFail s c cause).hrd = s.hrd ∧ (State.cellFail s c cause).boot = s.boot ∧ (State.cellFail s c cause).adc = s.adc ∧ (State.cellFail s c cause).fw = s.fw ∧ (State.cellFail s c cause).lt = s.lt ∧ (State.cellFail s c cause).pending = s.pending := by
  refine ⟨?_, ?_, ?_, ?_, ?_, ?_, ?_, ?_, ?_, ?_, ?_⟩ <;> (simp (maxDischargeDepth := 60) [State.cellFail, apply_ite Prod.snd])

@[simp] theorem State.cellFail_ok (s : State) (c cause : Nat) (hok : s.fieldsOk) : (State.cellFail s c cause).fieldsOk := by
  simp +contextual (maxDischargeDepth := 60) [State.cellFail, hok, apply_ite Prod.snd]

@[simp] theorem State.setChecking_getF (s : State) (c : Nat) (b : Bool) (fld : Fld) (itm : Nat) (hw : fld ∉ ([] : List Fld)) :
    (State.setChecking s c b).getF fld itm = s.getF fld itm := by
  try simp only [List.mem_cons, not_or, List.not_mem_nil, not_false_eq_true] at hw
  simp (maxDischargeDepth := 60) [State.setChecking, hw, apply_ite Prod.snd]

@[simp] theorem State.setChecking_parts (s : State) (c : Nat) (b : Bool) :
    (State.setChecking s c b).time = s.time ∧ (State.setChecking s c b).cfg = s.cfg ∧ (State.setChecking s c b).raiseQ = s.raiseQ ∧ (State.setChecking s c b).out = s.out ∧ (State.setChecking s c b).freeCtr = s.freeCtr ∧ (State.setChecking s c b).flt = s.flt ∧ (State.setChecking s c b).phs = s.phs ∧ (State.setChecking s c b).eng = s.eng ∧ (State.setChecking s c b).start = s.start ∧ (State.setChecking s c b).est = s.est ∧ (State.setChecking s c b).bud = s.bud ∧ (State.setChecking s c b).thm = s.thm ∧ (State.setChecking s c b).hrd = s.hrd ∧ (State.setChecking s c b).tlm = s.tlm ∧ (State.setChecking s c b).cmd = s.cmd ∧ (State.setChecking s c b).boot = s.boot ∧ (State.setChecking s c b).adc = s.adc ∧ (State.setChecking s c b).fw = s.fw ∧ (State.setChecking s c b).lt = s.lt ∧ (State.setChecking s c b).pending = s.pending := by
  refine ⟨?_, ?_, ?_, ?_, ?_, ?_, ?_, ?_, ?_, ?_, ?_, ?_, ?_, ?_, ?_, ?_, ?_, ?_, ?_, ?_⟩ <;> (simp (maxDischargeDepth := 60) [State.setChecking, apply_ite Prod.snd])

@[simp] theorem State.setChecking_ok (s : State) (c : Nat) (b : Bool) (hok : s.fieldsOk) : (State.setChecking s c b).fieldsOk := by
  simp +contextual (maxDischargeDepth := 60) [State.setChecking, hok, apply_ite Prod.snd]

@[simp] theorem State.formStack_getF (s : State) (fld : Fld) (itm : Nat) (hw : fld ∉ ([.GLB_VSTK_STATUS_HEADROOM_MIN] : List Fld)) :
    (State.formStack s).getF fld itm = s.getF fld itm := by
  try simp only [List.mem_cons, not_or, List.not_mem_nil, not_false_eq_true] at hw
  simp (maxDischargeDepth := 60) [State.formStack, hw, apply_ite Prod.snd]

@[simp] theorem State.formStack_parts (s : State) :
    (State.formStack s).time = s.time ∧ (State.formStack s).cfg = s.cfg ∧ (State.formStack s).raiseQ = s.raiseQ ∧ (State.formStack s).out = s.out ∧ (State.formStack s).freeCtr = s.freeCtr ∧ (State.formStack s).flt = s.flt ∧ (State.formStack s).phs = s.phs ∧ (State.formStack s).eng = s.eng ∧ (State.formStack s).start = s.start ∧ (State.formStack s).est = s.est ∧ (State.formStack s).bud = s.bud ∧ (State.formStack s).thm = s.thm ∧ (State.formStack s).hrd = s.hrd ∧ (State.formStack s).tlm = s.tlm ∧ (State.formStack s).cmd = s.cmd ∧ (State.formStack s).boot = s.boot ∧ (State.formStack s).adc = s.adc ∧ (State.formStack s).fw = s.fw ∧ (State.formStack s).lt = s.lt ∧ (State.formStack s).pending = s.pending := by
  refine ⟨?_, ?_, ?_, ?_, ?_, ?_, ?_, ?_, ?_, ?_, ?_, ?_, ?_, ?_, ?_, ?_, ?_, ?_, ?_, ?_⟩ <;> (simp (maxDischargeDepth := 60) [State.formStack, apply_ite Prod.snd])

@[simp] theorem State.formStack_ok (s : State) (hok : s.fieldsOk) : (State.formStack s).fieldsOk := by
  simp +contextual (maxDischargeDepth := 60) [State.formStack, hok, apply_ite Prod.snd]

@[simp] theorem State.formDom_getF (s : State) (d : Nat) (fld : Fld) (itm : Nat) (hw : fld ∉ ([.DOM_MEAS_HR_MIN] : List Fld)) :
    (State.formDom s d).getF fld itm = s.getF fld itm := by
  try simp only [List.mem_cons, not_or, List.not_mem_nil, not_false_eq_true] at hw
  simp (maxDischargeDepth := 60) [State.formDom, hw, apply_ite Prod.snd]

@[simp] theorem State.formDom_parts (s : State) (d : Nat) :
    (State.formDom s d).time = s.time ∧ (State.formDom s d).cfg = s.cfg ∧ (State.formDom s d).raiseQ = s.raiseQ ∧ (State.formDom s d).out = s.out ∧ (State.formDom s d).freeCtr = s.freeCtr ∧ (State.formDom s d).flt = s.flt ∧ (State.formDom s d).phs = s.phs ∧ (State.formDom s d).eng = s.eng ∧ (State.formDom s d).start = s.start ∧ (State.formDom s d).est = s.est ∧ (State.formDom s d).bud = s.bud ∧ (State.formDom s d).thm = s.thm ∧ (State.formDom s d).hrd = s.hrd ∧ (State.formDom s d).tlm = s.tlm ∧ (State.formDom s d).cmd = s.cmd ∧ (State.formDom s d).boot = s.boot ∧ (State.formDom s d).adc = s.adc ∧ (State.formDom s d).fw = s.fw ∧ (State.formDom s d).lt = s.lt ∧ (State.formDom s d).pending = s.pending := by
  refine ⟨?_, ?_, ?_, ?_, ?_, ?_, ?_, ?_, ?_, ?_, ?_, ?_, ?_, ?_, ?_, ?_, ?_, ?_, ?_, ?_⟩ <;> (simp (maxDischargeDepth := 60) [State.formDom, apply_ite Prod.snd])

@[simp] theorem State.formDom_ok (s : State) (d : Nat) (hok : s.fieldsOk) : (State.formDom s d).fieldsOk := by
  simp +contextual (maxDischargeDepth := 60) [State.formDom, hok, apply_ite Prod.snd]

@[simp] theorem State.formTree_getF (s : State) (fld : Fld) (itm : Nat) (hw : fld ∉ ([.DOM_MEAS_HR_MIN, .GLB_VSTK_STATUS_HEADROOM_MIN] : List Fld)) :
    (State.formTree s).getF fld itm = s.getF fld itm := by
  try simp only [List.mem_cons, not_or, List.not_mem_nil, not_false_eq_true] at hw
  simp (maxDischargeDepth := 60) [State.formTree, hw, apply_ite Prod.snd]

@[simp] theorem State.formTree_parts (s : State) :
    (State.formTree s).time = s.time ∧ (State.formTree s).cfg = s.cfg ∧ (State.formTree s).raiseQ = s.raiseQ ∧ (State.formTree s).out = s.out ∧ (State.formTree s).freeCtr = s.freeCtr ∧ (State.formTree s).flt = s.flt ∧ (State.formTree s).phs = s.phs ∧ (State.formTree s).eng = s.eng ∧ (State.formTree s).start = s.start ∧ (State.formTree s).est = s.est ∧ (State.formTree s).bud = s.bud ∧ (State.formTree s).thm = s.thm ∧ (State.formTree s).hrd = s.hrd ∧ (State.formTree s).tlm = s.tlm ∧ (State.formTree s).cmd = s.cmd ∧ (State.formTree s).boot = s.boot ∧ (State.formTree s).adc = s.adc ∧ (State.formTree s).fw = s.fw ∧ (State.formTree s).lt = s.lt ∧ (State.formTree s).pending = s.pending := by
  refine ⟨?_, ?_, ?_, ?_, ?_, ?_, ?_, ?_, ?_, ?_, ?_, ?_, ?_, ?_, ?_, ?_, ?_, ?_, ?_, ?_⟩ <;> (simp (maxDischargeDepth := 60) [State.formTree, apply_ite Prod.snd])

@[simp] theorem State.formTree_ok (s : State) (hok : s.fieldsOk) : (State.formTree s).fieldsOk := by
  simp +contextual (maxDischargeDepth := 60) [State.formTree, hok, apply_ite Prod.snd]

end Sys2Proof.Machine
end

