-- ==== Sys2Proof/Laws/BootOps.lean ====
section
/-! SUPPORT. What each bring-up operation can do: the fields it may write, the parts of the state it keeps, and that it keeps
the register table in its canonical form. -/

namespace Sys2Proof.Machine
open Host (Outcome)
set_option maxRecDepth 4000
set_option linter.unusedSimpArgs false
set_option linter.unusedVariables false
set_option linter.unreachableTactic false
set_option linter.unusedTactic false

@[simp] theorem State.enterRunIfReady_getF (s : State) (fld : Fld) (itm : Nat) (hw : fld ∉ ([.GLB_BOOT_STATUS_PWR_OK, .GLB_BOOT_STATUS_STATE] : List Fld)) :
    (State.enterRunIfReady s).getF fld itm = s.getF fld itm := by
  try simp only [List.mem_cons, not_or, List.not_mem_nil, not_false_eq_true] at hw
  simp (maxDischargeDepth := 60) [State.enterRunIfReady, hw, apply_ite Prod.snd]

@[simp] theorem State.enterRunIfReady_parts (s : State) :
    (State.enterRunIfReady s).time = s.time ∧ (State.enterRunIfReady s).cfg = s.cfg ∧ (State.enterRunIfReady s).raiseQ = s.raiseQ ∧ (State.enterRunIfReady s).out = s.out ∧ (State.enterRunIfReady s).freeCtr = s.freeCtr ∧ (State.enterRunIfReady s).flt = s.flt ∧ (State.enterRunIfReady s).phs = s.phs ∧ (State.enterRunIfReady s).dom = s.dom ∧ (State.enterRunIfReady s).eng = s.eng ∧ (State.enterRunIfReady s).start = s.start ∧ (State.enterRunIfReady s).est = s.est ∧ (State.enterRunIfReady s).bud = s.bud ∧ (State.enterRunIfReady s).thm = s.thm ∧ (State.enterRunIfReady s).hrd = s.hrd ∧ (State.enterRunIfReady s).tlm = s.tlm ∧ (State.enterRunIfReady s).cmd = s.cmd ∧ (State.enterRunIfReady s).boot = s.boot ∧ (State.enterRunIfReady s).adc = s.adc ∧ (State.enterRunIfReady s).fw = s.fw ∧ (State.enterRunIfReady s).lt = s.lt ∧ (State.enterRunIfReady s).pending = s.pending := by
  refine ⟨?_, ?_, ?_, ?_, ?_, ?_, ?_, ?_, ?_, ?_, ?_, ?_, ?_, ?_, ?_, ?_, ?_, ?_, ?_, ?_, ?_⟩ <;> (simp (maxDischargeDepth := 60) [State.enterRunIfReady, apply_ite Prod.snd])

@[simp] theorem State.enterRunIfReady_ok (s : State) (hok : s.fieldsOk) : (State.enterRunIfReady s).fieldsOk := by
  simp +contextual (maxDischargeDepth := 60) [State.enterRunIfReady, hok, apply_ite Prod.snd]

@[simp] theorem State.blockResetApply_parts (s : State) (last : Nat) :
    (State.blockResetApply s last).time = s.time ∧ (State.blockResetApply s last).cfg = s.cfg ∧ (State.blockResetApply s last).raiseQ = s.raiseQ ∧ (State.blockResetApply s last).out = s.out ∧ (State.blockResetApply s last).freeCtr = s.freeCtr ∧ (State.blockResetApply s last).pending = s.pending := by
  simp [State.blockResetApply]

@[simp] theorem State.blockResetApply_ok (s : State) (last : Nat) (hok : s.fieldsOk) : (State.blockResetApply s last).fieldsOk := by
  have hk : ∀ u : State, u.fieldsOk → ({ u with fields := keptFields u.fields } : State).fieldsOk := by
    intro u hu
    have key : ∀ p ∈ keptFields u.fields, ∃ q ∈ u.fields, p.1 = q.1 ∧ List.Sublist p.2 q.2 := by
      intro p hp
      obtain ⟨q, hq, e⟩ := List.mem_filterMap.1 hp
      refine ⟨q, hq, ?_⟩
      repeat' split at e
      all_goals first
        | (cases e; exact ⟨rfl, List.Sublist.refl _⟩)
        | (cases e; exact ⟨rfl, List.filter_sublist⟩)
        | cases e
    refine ⟨?_, ?_⟩
    · have h := hu.1
      show List.Pairwise _ (List.filterMap _ u.fields)
      refine List.Pairwise.filterMap _ ?_ h
      intro a a' haa b hb b' hb'
      have e1 : b.1 = a.1 := by
        repeat' split at hb
        all_goals first
          | (cases hb; rfl)
          | cases hb
      have e2 : b'.1 = a'.1 := by
        repeat' split at hb'
        all_goals first
          | (cases hb'; rfl)
          | cases hb'
      rw [e1, e2]; exact haa
    · intro p hp
      obtain ⟨q, hq, e, hs⟩ := key p hp
      refine ⟨List.Pairwise.sublist hs (hu.2 q hq).1, fun x hx => ?_⟩
      rw [e]; exact (hu.2 q hq).2 x (hs.subset hx)
  unfold State.blockResetApply
  apply State.showPair_ok
  apply State.setF_fieldsOk
  exact hk _ (State.bumpF_fieldsOk _ _ _ hok)

@[simp] theorem State.stopTurn_parts (s : State) (l : List Nat) :
    (State.stopTurn s l).time = s.time ∧ (State.stopTurn s l).cfg = s.cfg ∧ (State.stopTurn s l).pending = s.pending := by
  induction l generalizing s with
  | nil => simp [State.stopTurn]
  | cons g r ih =>
    unfold State.stopTurn
    repeat' split
    all_goals simp (maxDischargeDepth := 60) [ih]

@[simp] theorem State.stopTurn_ok (s : State) (l : List Nat) (hok : s.fieldsOk) : (State.stopTurn s l).fieldsOk := by
  induction l generalizing s with
  | nil => simp [State.stopTurn, hok]
  | cons g r ih =>
    unfold State.stopTurn
    repeat' split
    all_goals simp (maxDischargeDepth := 60) [ih, hok]

@[simp] theorem State.blockResetAdvance_parts (s : State) :
    (State.blockResetAdvance s).time = s.time ∧ (State.blockResetAdvance s).cfg = s.cfg ∧ (State.blockResetAdvance s).pending = s.pending := by
  refine ⟨?_, ?_, ?_⟩ <;> (simp (maxDischargeDepth := 60) [State.blockResetAdvance, apply_ite Prod.snd])

@[simp] theorem State.blockResetAdvance_ok (s : State) (hok : s.fieldsOk) : (State.blockResetAdvance s).fieldsOk := by
  simp +contextual (maxDischargeDepth := 60) [State.blockResetAdvance, hok, apply_ite Prod.snd]

end Sys2Proof.Machine
end

