-- ==== Sys2Proof/Laws/AdcOps.lean ====
section
/-! SUPPORT. What each converter operation can do: the fields it may write, the parts of the state it keeps, and that it keeps
the register table in its canonical form. -/

namespace Sys2Proof.Machine
open Host (Outcome)
set_option maxRecDepth 4000
set_option linter.unusedSimpArgs false
set_option linter.unusedVariables false
set_option linter.unreachableTactic false
set_option linter.unusedTactic false

@[simp] theorem State.setCv_getF (s : State) (c : Nat) (x : AdcCv) (fld : Fld) (itm : Nat) (hw : fld ∉ ([] : List Fld)) :
    (State.setCv s c x).getF fld itm = s.getF fld itm := by
  try simp only [List.mem_cons, not_or, List.not_mem_nil, not_false_eq_true] at hw
  simp (maxDischargeDepth := 60) [State.setCv, hw, apply_ite Prod.snd]

@[simp] theorem State.setCv_parts (s : State) (c : Nat) (x : AdcCv) :
    (State.setCv s c x).time = s.time ∧ (State.setCv s c x).cfg = s.cfg ∧ (State.setCv s c x).raiseQ = s.raiseQ ∧ (State.setCv s c x).out = s.out ∧ (State.setCv s c x).freeCtr = s.freeCtr ∧ (State.setCv s c x).flt = s.flt ∧ (State.setCv s c x).phs = s.phs ∧ (State.setCv s c x).dom = s.dom ∧ (State.setCv s c x).eng = s.eng ∧ (State.setCv s c x).start = s.start ∧ (State.setCv s c x).est = s.est ∧ (State.setCv s c x).bud = s.bud ∧ (State.setCv s c x).thm = s.thm ∧ (State.setCv s c x).hrd = s.hrd ∧ (State.setCv s c x).tlm = s.tlm ∧ (State.setCv s c x).cmd = s.cmd ∧ (State.setCv s c x).boot = s.boot ∧ (State.setCv s c x).fw = s.fw ∧ (State.setCv s c x).lt = s.lt ∧ (State.setCv s c x).pending = s.pending := by
  refine ⟨?_, ?_, ?_, ?_, ?_, ?_, ?_, ?_, ?_, ?_, ?_, ?_, ?_, ?_, ?_, ?_, ?_, ?_, ?_, ?_⟩ <;> (simp (maxDischargeDepth := 60) [State.setCv, apply_ite Prod.snd])

@[simp] theorem State.setCv_ok (s : State) (c : Nat) (x : AdcCv) (hok : s.fieldsOk) : (State.setCv s c x).fieldsOk := by
  simp +contextual (maxDischargeDepth := 60) [State.setCv, hok, apply_ite Prod.snd]

@[simp] theorem State.setPair_getF (s : State) (k st : Nat) (fld : Fld) (itm : Nat) (hw : fld ∉ ([.ADC_PAIR_STATUS_STATE, .ADC_STATUS_PAIR_SOLO] : List Fld)) :
    (State.setPair s k st).getF fld itm = s.getF fld itm := by
  try simp only [List.mem_cons, not_or, List.not_mem_nil, not_false_eq_true] at hw
  simp (maxDischargeDepth := 60) [State.setPair, hw, apply_ite Prod.snd]

@[simp] theorem State.setPair_parts (s : State) (k st : Nat) :
    (State.setPair s k st).time = s.time ∧ (State.setPair s k st).cfg = s.cfg ∧ (State.setPair s k st).raiseQ = s.raiseQ ∧ (State.setPair s k st).out = s.out ∧ (State.setPair s k st).freeCtr = s.freeCtr ∧ (State.setPair s k st).flt = s.flt ∧ (State.setPair s k st).phs = s.phs ∧ (State.setPair s k st).dom = s.dom ∧ (State.setPair s k st).eng = s.eng ∧ (State.setPair s k st).start = s.start ∧ (State.setPair s k st).est = s.est ∧ (State.setPair s k st).bud = s.bud ∧ (State.setPair s k st).thm = s.thm ∧ (State.setPair s k st).hrd = s.hrd ∧ (State.setPair s k st).tlm = s.tlm ∧ (State.setPair s k st).cmd = s.cmd ∧ (State.setPair s k st).boot = s.boot ∧ (State.setPair s k st).adc = s.adc ∧ (State.setPair s k st).fw = s.fw ∧ (State.setPair s k st).lt = s.lt ∧ (State.setPair s k st).pending = s.pending := by
  refine ⟨?_, ?_, ?_, ?_, ?_, ?_, ?_, ?_, ?_, ?_, ?_, ?_, ?_, ?_, ?_, ?_, ?_, ?_, ?_, ?_, ?_⟩ <;> (simp (maxDischargeDepth := 60) [State.setPair, apply_ite Prod.snd])

@[simp] theorem State.setPair_ok (s : State) (k st : Nat) (hok : s.fieldsOk) : (State.setPair s k st).fieldsOk := by
  simp +contextual (maxDischargeDepth := 60) [State.setPair, hok, apply_ite Prod.snd]

@[simp] theorem State.setOk_getF (s : State) (c : Nat) (b : Bool) (fld : Fld) (itm : Nat) (hw : fld ∉ ([.ADC_STATUS_CV_OK] : List Fld)) :
    (State.setOk s c b).getF fld itm = s.getF fld itm := by
  try simp only [List.mem_cons, not_or, List.not_mem_nil, not_false_eq_true] at hw
  simp (maxDischargeDepth := 60) [State.setOk, hw, apply_ite Prod.snd]

@[simp] theorem State.setOk_parts (s : State) (c : Nat) (b : Bool) :
    (State.setOk s c b).time = s.time ∧ (State.setOk s c b).cfg = s.cfg ∧ (State.setOk s c b).raiseQ = s.raiseQ ∧ (State.setOk s c b).out = s.out ∧ (State.setOk s c b).freeCtr = s.freeCtr ∧ (State.setOk s c b).flt = s.flt ∧ (State.setOk s c b).phs = s.phs ∧ (State.setOk s c b).dom = s.dom ∧ (State.setOk s c b).eng = s.eng ∧ (State.setOk s c b).start = s.start ∧ (State.setOk s c b).est = s.est ∧ (State.setOk s c b).bud = s.bud ∧ (State.setOk s c b).thm = s.thm ∧ (State.setOk s c b).hrd = s.hrd ∧ (State.setOk s c b).tlm = s.tlm ∧ (State.setOk s c b).cmd = s.cmd ∧ (State.setOk s c b).boot = s.boot ∧ (State.setOk s c b).adc = s.adc ∧ (State.setOk s c b).fw = s.fw ∧ (State.setOk s c b).lt = s.lt ∧ (State.setOk s c b).pending = s.pending := by
  refine ⟨?_, ?_, ?_, ?_, ?_, ?_, ?_, ?_, ?_, ?_, ?_, ?_, ?_, ?_, ?_, ?_, ?_, ?_, ?_, ?_, ?_⟩ <;> (simp (maxDischargeDepth := 60) [State.setOk, apply_ite Prod.snd])

@[simp] theorem State.setOk_ok (s : State) (c : Nat) (b : Bool) (hok : s.fieldsOk) : (State.setOk s c b).fieldsOk := by
  simp +contextual (maxDischargeDepth := 60) [State.setOk, hok, apply_ite Prod.snd]

@[simp] theorem State.senseTest_getF (s : State) (p : Nat) (bad : Bool) (fld : Fld) (itm : Nat) (hw : fld ∉ ([.PHS_GRP_EVENT_SENSE_FAIL] : List Fld)) :
    (State.senseTest s p bad).getF fld itm = s.getF fld itm := by
  try simp only [List.mem_cons, not_or, List.not_mem_nil, not_false_eq_true] at hw
  simp (maxDischargeDepth := 60) [State.senseTest, hw, apply_ite Prod.snd]

@[simp] theorem State.senseTest_parts (s : State) (p : Nat) (bad : Bool) :
    (State.senseTest s p bad).time = s.time ∧ (State.senseTest s p bad).cfg = s.cfg ∧ (State.senseTest s p bad).out = s.out ∧ (State.senseTest s p bad).freeCtr = s.freeCtr ∧ (State.senseTest s p bad).flt = s.flt ∧ (State.senseTest s p bad).dom = s.dom ∧ (State.senseTest s p bad).eng = s.eng ∧ (State.senseTest s p bad).start = s.start ∧ (State.senseTest s p bad).est = s.est ∧ (State.senseTest s p bad).bud = s.bud ∧ (State.senseTest s p bad).thm = s.thm ∧ (State.senseTest s p bad).hrd = s.hrd ∧ (State.senseTest s p bad).tlm = s.tlm ∧ (State.senseTest s p bad).cmd = s.cmd ∧ (State.senseTest s p bad).boot = s.boot ∧ (State.senseTest s p bad).adc = s.adc ∧ (State.senseTest s p bad).fw = s.fw ∧ (State.senseTest s p bad).lt = s.lt ∧ (State.senseTest s p bad).pending = s.pending := by
  refine ⟨?_, ?_, ?_, ?_, ?_, ?_, ?_, ?_, ?_, ?_, ?_, ?_, ?_, ?_, ?_, ?_, ?_, ?_, ?_⟩ <;> (simp (maxDischargeDepth := 60) [State.senseTest, apply_ite Prod.snd])

@[simp] theorem State.senseTest_ok (s : State) (p : Nat) (bad : Bool) (hok : s.fieldsOk) : (State.senseTest s p bad).fieldsOk := by
  simp +contextual (maxDischargeDepth := 60) [State.senseTest, hok, apply_ite Prod.snd]

@[simp] theorem State.rangeTest_getF (s : State) (p : Nat) (ovr : Bool) (fld : Fld) (itm : Nat) (hw : fld ∉ ([.PHS_GRP_EVENT_SENSE_FAIL] : List Fld)) :
    (State.rangeTest s p ovr).getF fld itm = s.getF fld itm := by
  try simp only [List.mem_cons, not_or, List.not_mem_nil, not_false_eq_true] at hw
  simp (maxDischargeDepth := 60) [State.rangeTest, hw, apply_ite Prod.snd]

@[simp] theorem State.rangeTest_parts (s : State) (p : Nat) (ovr : Bool) :
    (State.rangeTest s p ovr).time = s.time ∧ (State.rangeTest s p ovr).cfg = s.cfg ∧ (State.rangeTest s p ovr).out = s.out ∧ (State.rangeTest s p ovr).freeCtr = s.freeCtr ∧ (State.rangeTest s p ovr).flt = s.flt ∧ (State.rangeTest s p ovr).dom = s.dom ∧ (State.rangeTest s p ovr).eng = s.eng ∧ (State.rangeTest s p ovr).start = s.start ∧ (State.rangeTest s p ovr).est = s.est ∧ (State.rangeTest s p ovr).bud = s.bud ∧ (State.rangeTest s p ovr).thm = s.thm ∧ (State.rangeTest s p ovr).hrd = s.hrd ∧ (State.rangeTest s p ovr).tlm = s.tlm ∧ (State.rangeTest s p ovr).cmd = s.cmd ∧ (State.rangeTest s p ovr).boot = s.boot ∧ (State.rangeTest s p ovr).adc = s.adc ∧ (State.rangeTest s p ovr).fw = s.fw ∧ (State.rangeTest s p ovr).lt = s.lt ∧ (State.rangeTest s p ovr).pending = s.pending := by
  refine ⟨?_, ?_, ?_, ?_, ?_, ?_, ?_, ?_, ?_, ?_, ?_, ?_, ?_, ?_, ?_, ?_, ?_, ?_, ?_⟩ <;> (simp (maxDischargeDepth := 60) [State.rangeTest, apply_ite Prod.snd])

@[simp] theorem State.rangeTest_ok (s : State) (p : Nat) (ovr : Bool) (hok : s.fieldsOk) : (State.rangeTest s p ovr).fieldsOk := by
  simp +contextual (maxDischargeDepth := 60) [State.rangeTest, hok, apply_ite Prod.snd]

@[simp] theorem State.consume_getF (s : State) (ch cal : Nat) (ovr : Bool) (fld : Fld) (itm : Nat) (hw : fld ∉ ([.CEL_STATUS_SETPT, .DOM_SETPT_VEFF, .DOM_START_STATUS_SLOPE_EFF, .DOM_STATUS_STEP, .GLB_VSTK_STATUS_BUS_OOR, .GLB_VSTK_STATUS_CLAMPED, .GLB_VSTK_STATUS_VSTK_CODE, .PHS_GRP_EVENT_SENSE_FAIL, .PHS_GRP_REF_VREF, .PHS_GRP_REF_VSENSE, .PHS_GRP_TON_TON_BASE, .PHS_GRP_TON_VBUS_USED, .PHS_PH_MEAS_IMON, .PHS_PH_MEAS_TMON, .PHS_PH_STATUS_TMON_HOT, .PHS_PH_STATUS_TRIM] : List Fld)) :
    (State.consume s ch cal ovr).getF fld itm = s.getF fld itm := by
  try simp only [List.mem_cons, not_or, List.not_mem_nil, not_false_eq_true] at hw
  simp (maxDischargeDepth := 60) [State.consume, hw, apply_ite Prod.snd]

@[simp] theorem State.consume_parts (s : State) (ch cal : Nat) (ovr : Bool) :
    (State.consume s ch cal ovr).time = s.time ∧ (State.consume s ch cal ovr).cfg = s.cfg ∧ (State.consume s ch cal ovr).freeCtr = s.freeCtr ∧ (State.consume s ch cal ovr).flt = s.flt ∧ (State.consume s ch cal ovr).eng = s.eng ∧ (State.consume s ch cal ovr).est = s.est ∧ (State.consume s ch cal ovr).thm = s.thm ∧ (State.consume s ch cal ovr).hrd = s.hrd ∧ (State.consume s ch cal ovr).cmd = s.cmd ∧ (State.consume s ch cal ovr).adc = s.adc ∧ (State.consume s ch cal ovr).fw = s.fw ∧ (State.consume s ch cal ovr).lt = s.lt ∧ (State.consume s ch cal ovr).pending = s.pending := by
  refine ⟨?_, ?_, ?_, ?_, ?_, ?_, ?_, ?_, ?_, ?_, ?_, ?_, ?_⟩ <;> (simp (maxDischargeDepth := 60) [State.consume, apply_ite Prod.snd])

@[simp] theorem State.consume_ok (s : State) (ch cal : Nat) (ovr : Bool) (hok : s.fieldsOk) : (State.consume s ch cal ovr).fieldsOk := by
  simp +contextual (maxDischargeDepth := 60) [State.consume, hok, apply_ite Prod.snd]

@[simp] theorem State.publishRes_getF (s : State) (c ch result : Nat) (m16 : Int) (ovr : Bool) (fld : Fld) (itm : Nat) (hw : fld ∉ ([.ADC_EVENT_OVR, .ADC_RES_CAL, .ADC_RES_RESULT, .ADC_RES_ST_BY_PARTNER, .ADC_RES_ST_OVR, .ADC_RES_ST_VALID, .CEL_STATUS_SETPT, .DOM_SETPT_VEFF, .DOM_START_STATUS_SLOPE_EFF, .DOM_STATUS_STEP, .GLB_VSTK_STATUS_BUS_OOR, .GLB_VSTK_STATUS_CLAMPED, .GLB_VSTK_STATUS_VSTK_CODE, .PHS_GRP_EVENT_SENSE_FAIL, .PHS_GRP_REF_VREF, .PHS_GRP_REF_VSENSE, .PHS_GRP_TON_TON_BASE, .PHS_GRP_TON_VBUS_USED, .PHS_PH_MEAS_IMON, .PHS_PH_MEAS_TMON, .PHS_PH_STATUS_TMON_HOT, .PHS_PH_STATUS_TRIM] : List Fld)) :
    (State.publishRes s c ch result m16 ovr).getF fld itm = s.getF fld itm := by
  try simp only [List.mem_cons, not_or, List.not_mem_nil, not_false_eq_true] at hw
  simp (maxDischargeDepth := 60) [State.publishRes, hw, apply_ite Prod.snd]

@[simp] theorem State.publishRes_parts (s : State) (c ch result : Nat) (m16 : Int) (ovr : Bool) :
    (State.publishRes s c ch result m16 ovr).time = s.time ∧ (State.publishRes s c ch result m16 ovr).cfg = s.cfg ∧ (State.publishRes s c ch result m16 ovr).freeCtr = s.freeCtr ∧ (State.publishRes s c ch result m16 ovr).flt = s.flt ∧ (State.publishRes s c ch result m16 ovr).eng = s.eng ∧ (State.publishRes s c ch result m16 ovr).est = s.est ∧ (State.publishRes s c ch result m16 ovr).thm = s.thm ∧ (State.publishRes s c ch result m16 ovr).hrd = s.hrd ∧ (State.publishRes s c ch result m16 ovr).cmd = s.cmd ∧ (State.publishRes s c ch result m16 ovr).fw = s.fw ∧ (State.publishRes s c ch result m16 ovr).lt = s.lt ∧ (State.publishRes s c ch result m16 ovr).pending = s.pending := by
  refine ⟨?_, ?_, ?_, ?_, ?_, ?_, ?_, ?_, ?_, ?_, ?_, ?_⟩ <;> (simp (maxDischargeDepth := 60) [State.publishRes, apply_ite Prod.snd])

@[simp] theorem State.publishRes_ok (s : State) (c ch result : Nat) (m16 : Int) (ovr : Bool) (hok : s.fieldsOk) : (State.publishRes s c ch result m16 ovr).fieldsOk := by
  simp +contextual (maxDischargeDepth := 60) [State.publishRes, hok, apply_ite Prod.snd]

@[simp] theorem State.lostSample_getF (s : State) (ch : Nat) (fld : Fld) (itm : Nat) (hw : fld ∉ ([.ADC_RES_ST_OVR, .ADC_RES_ST_VALID, .PHS_GRP_EVENT_SENSE_FAIL] : List Fld)) :
    (State.lostSample s ch).getF fld itm = s.getF fld itm := by
  try simp only [List.mem_cons, not_or, List.not_mem_nil, not_false_eq_true] at hw
  simp (maxDischargeDepth := 60) [State.lostSample, hw, apply_ite Prod.snd]

@[simp] theorem State.lostSample_parts (s : State) (ch : Nat) :
    (State.lostSample s ch).time = s.time ∧ (State.lostSample s ch).cfg = s.cfg ∧ (State.lostSample s ch).out = s.out ∧ (State.lostSample s ch).freeCtr = s.freeCtr ∧ (State.lostSample s ch).flt = s.flt ∧ (State.lostSample s ch).dom = s.dom ∧ (State.lostSample s ch).eng = s.eng ∧ (State.lostSample s ch).start = s.start ∧ (State.lostSample s ch).est = s.est ∧ (State.lostSample s ch).bud = s.bud ∧ (State.lostSample s ch).thm = s.thm ∧ (State.lostSample s ch).hrd = s.hrd ∧ (State.lostSample s ch).tlm = s.tlm ∧ (State.lostSample s ch).cmd = s.cmd ∧ (State.lostSample s ch).boot = s.boot ∧ (State.lostSample s ch).fw = s.fw ∧ (State.lostSample s ch).lt = s.lt ∧ (State.lostSample s ch).pending = s.pending := by
  refine ⟨?_, ?_, ?_, ?_, ?_, ?_, ?_, ?_, ?_, ?_, ?_, ?_, ?_, ?_, ?_, ?_, ?_, ?_⟩ <;> (simp (maxDischargeDepth := 60) [State.lostSample, apply_ite Prod.snd])

@[simp] theorem State.lostSample_ok (s : State) (ch : Nat) (hok : s.fieldsOk) : (State.lostSample s ch).fieldsOk := by
  simp +contextual (maxDischargeDepth := 60) [State.lostSample, hok, apply_ite Prod.snd]

@[simp] theorem State.refuseUrg_getF (s : State) (fld : Fld) (itm : Nat) (hw : fld ∉ ([.ADC_URG_RES_BUSY, .ADC_URG_RES_REFUSED] : List Fld)) :
    (State.refuseUrg s).getF fld itm = s.getF fld itm := by
  try simp only [List.mem_cons, not_or, List.not_mem_nil, not_false_eq_true] at hw
  simp (maxDischargeDepth := 60) [State.refuseUrg, hw, apply_ite Prod.snd]

@[simp] theorem State.refuseUrg_parts (s : State) :
    (State.refuseUrg s).time = s.time ∧ (State.refuseUrg s).cfg = s.cfg ∧ (State.refuseUrg s).raiseQ = s.raiseQ ∧ (State.refuseUrg s).out = s.out ∧ (State.refuseUrg s).freeCtr = s.freeCtr ∧ (State.refuseUrg s).flt = s.flt ∧ (State.refuseUrg s).phs = s.phs ∧ (State.refuseUrg s).dom = s.dom ∧ (State.refuseUrg s).eng = s.eng ∧ (State.refuseUrg s).start = s.start ∧ (State.refuseUrg s).est = s.est ∧ (State.refuseUrg s).bud = s.bud ∧ (State.refuseUrg s).thm = s.thm ∧ (State.refuseUrg s).hrd = s.hrd ∧ (State.refuseUrg s).tlm = s.tlm ∧ (State.refuseUrg s).cmd = s.cmd ∧ (State.refuseUrg s).boot = s.boot ∧ (State.refuseUrg s).fw = s.fw ∧ (State.refuseUrg s).lt = s.lt ∧ (State.refuseUrg s).pending = s.pending := by
  refine ⟨?_, ?_, ?_, ?_, ?_, ?_, ?_, ?_, ?_, ?_, ?_, ?_, ?_, ?_, ?_, ?_, ?_, ?_, ?_, ?_⟩ <;> (simp (maxDischargeDepth := 60) [State.refuseUrg, apply_ite Prod.snd])

@[simp] theorem State.refuseUrg_ok (s : State) (hok : s.fieldsOk) : (State.refuseUrg s).fieldsOk := by
  simp +contextual (maxDischargeDepth := 60) [State.refuseUrg, hok, apply_ite Prod.snd]

@[simp] theorem State.seekEntry_getF (s : State) (c e fuel : Nat) (fld : Fld) (itm : Nat) (hw : fld ∉ ([.ADC_CV_STATUS_POS, .ADC_RES_ST_NO_TRIG] : List Fld)) :
    (State.seekEntry s c e fuel).getF fld itm = s.getF fld itm := by
  try simp only [List.mem_cons, not_or, List.not_mem_nil, not_false_eq_true] at hw
  induction fuel generalizing s e with
  | zero => simp [State.seekEntry, hw]
  | succ n ih =>
    unfold State.seekEntry
    simp only []
    repeat' split
    all_goals simp (maxDischargeDepth := 60) [ih, hw]

@[simp] theorem State.seekEntry_parts (s : State) (c e fuel : Nat) :
    (State.seekEntry s c e fuel).time = s.time ∧ (State.seekEntry s c e fuel).cfg = s.cfg ∧ (State.seekEntry s c e fuel).raiseQ = s.raiseQ ∧ (State.seekEntry s c e fuel).out = s.out ∧ (State.seekEntry s c e fuel).freeCtr = s.freeCtr ∧ (State.seekEntry s c e fuel).flt = s.flt ∧ (State.seekEntry s c e fuel).phs = s.phs ∧ (State.seekEntry s c e fuel).dom = s.dom ∧ (State.seekEntry s c e fuel).eng = s.eng ∧ (State.seekEntry s c e fuel).start = s.start ∧ (State.seekEntry s c e fuel).est = s.est ∧ (State.seekEntry s c e fuel).bud = s.bud ∧ (State.seekEntry s c e fuel).thm = s.thm ∧ (State.seekEntry s c e fuel).hrd = s.hrd ∧ (State.seekEntry s c e fuel).tlm = s.tlm ∧ (State.seekEntry s c e fuel).cmd = s.cmd ∧ (State.seekEntry s c e fuel).boot = s.boot ∧ (State.seekEntry s c e fuel).fw = s.fw ∧ (State.seekEntry s c e fuel).lt = s.lt ∧ (State.seekEntry s c e fuel).pending = s.pending := by
  induction fuel generalizing s e with
  | zero => simp [State.seekEntry]
  | succ n ih =>
    unfold State.seekEntry
    simp only []
    repeat' split
    all_goals simp (maxDischargeDepth := 60) [ih]

@[simp] theorem State.seekEntry_ok (s : State) (c e fuel : Nat) (hok : s.fieldsOk) : (State.seekEntry s c e fuel).fieldsOk := by
  induction fuel generalizing s e with
  | zero => simp [State.seekEntry, hok]
  | succ n ih =>
    unfold State.seekEntry
    simp only []
    repeat' split
    all_goals simp (maxDischargeDepth := 60) [ih, hok]

@[simp] theorem State.convert_getF (s : State) (c ch : Nat) (v : Conv) (fld : Fld) (itm : Nat) (hw : fld ∉ ([.ADC_CV_STATUS_URG] : List Fld)) :
    (State.convert s c ch v).getF fld itm = s.getF fld itm := by
  try simp only [List.mem_cons, not_or, List.not_mem_nil, not_false_eq_true] at hw
  ((unfold State.convert); (try simp only []); (repeat' split) <;> (try simp (maxDischargeDepth := 60) [hw, State.when, apply_ite Prod.snd]))

@[simp] theorem State.convert_parts (s : State) (c ch : Nat) (v : Conv) :
    (State.convert s c ch v).time = s.time ∧ (State.convert s c ch v).cfg = s.cfg ∧ (State.convert s c ch v).raiseQ = s.raiseQ ∧ (State.convert s c ch v).out = s.out ∧ (State.convert s c ch v).freeCtr = s.freeCtr ∧ (State.convert s c ch v).flt = s.flt ∧ (State.convert s c ch v).phs = s.phs ∧ (State.convert s c ch v).dom = s.dom ∧ (State.convert s c ch v).eng = s.eng ∧ (State.convert s c ch v).start = s.start ∧ (State.convert s c ch v).est = s.est ∧ (State.convert s c ch v).bud = s.bud ∧ (State.convert s c ch v).thm = s.thm ∧ (State.convert s c ch v).hrd = s.hrd ∧ (State.convert s c ch v).tlm = s.tlm ∧ (State.convert s c ch v).cmd = s.cmd ∧ (State.convert s c ch v).boot = s.boot ∧ (State.convert s c ch v).fw = s.fw ∧ (State.convert s c ch v).lt = s.lt ∧ (State.convert s c ch v).pending = s.pending := by
  refine ⟨?_, ?_, ?_, ?_, ?_, ?_, ?_, ?_, ?_, ?_, ?_, ?_, ?_, ?_, ?_, ?_, ?_, ?_, ?_, ?_⟩ <;> ((unfold State.convert); (try simp only []); (repeat' split) <;> (try simp (maxDischargeDepth := 60) [State.when, apply_ite Prod.snd]))

@[simp] theorem State.convert_ok (s : State) (c ch : Nat) (v : Conv) (hok : s.fieldsOk) : (State.convert s c ch v).fieldsOk := by
  ((unfold State.convert); (try simp only []); (repeat' split) <;> (try simp +contextual (maxDischargeDepth := 60) [hok, State.when, apply_ite Prod.snd]))

@[simp] theorem State.serve_getF (s : State) (c : Nat) (fld : Fld) (itm : Nat) (hw : fld ∉ ([.ADC_CV_STATUS_URG] : List Fld)) :
    (State.serve s c).getF fld itm = s.getF fld itm := by
  try simp only [List.mem_cons, not_or, List.not_mem_nil, not_false_eq_true] at hw
  ((unfold State.serve); (try simp only []); (repeat' split) <;> (try simp (maxDischargeDepth := 60) [hw, State.when, apply_ite Prod.snd]))

@[simp] theorem State.serve_parts (s : State) (c : Nat) :
    (State.serve s c).time = s.time ∧ (State.serve s c).cfg = s.cfg ∧ (State.serve s c).raiseQ = s.raiseQ ∧ (State.serve s c).out = s.out ∧ (State.serve s c).freeCtr = s.freeCtr ∧ (State.serve s c).flt = s.flt ∧ (State.serve s c).phs = s.phs ∧ (State.serve s c).dom = s.dom ∧ (State.serve s c).eng = s.eng ∧ (State.serve s c).start = s.start ∧ (State.serve s c).est = s.est ∧ (State.serve s c).bud = s.bud ∧ (State.serve s c).thm = s.thm ∧ (State.serve s c).hrd = s.hrd ∧ (State.serve s c).tlm = s.tlm ∧ (State.serve s c).cmd = s.cmd ∧ (State.serve s c).boot = s.boot ∧ (State.serve s c).fw = s.fw ∧ (State.serve s c).lt = s.lt ∧ (State.serve s c).pending = s.pending := by
  refine ⟨?_, ?_, ?_, ?_, ?_, ?_, ?_, ?_, ?_, ?_, ?_, ?_, ?_, ?_, ?_, ?_, ?_, ?_, ?_, ?_⟩ <;> ((unfold State.serve); (try simp only []); (repeat' split) <;> (try simp (maxDischargeDepth := 60) [State.when, apply_ite Prod.snd]))

@[simp] theorem State.serve_ok (s : State) (c : Nat) (hok : s.fieldsOk) : (State.serve s c).fieldsOk := by
  ((unfold State.serve); (try simp only []); (repeat' split) <;> (try simp +contextual (maxDischargeDepth := 60) [hok, State.when, apply_ite Prod.snd]))

@[simp] theorem State.beginRound_getF (s : State) (c r : Nat) (fld : Fld) (itm : Nat) (hw : fld ∉ ([.ADC_CV_STATUS_PD, .ADC_CV_STATUS_POS, .ADC_CV_STATUS_URG, .ADC_RES_ST_NO_TRIG] : List Fld)) :
    (State.beginRound s c r).getF fld itm = s.getF fld itm := by
  try simp only [List.mem_cons, not_or, List.not_mem_nil, not_false_eq_true] at hw
  simp (maxDischargeDepth := 60) [State.beginRound, hw, apply_ite Prod.snd]

@[simp] theorem State.beginRound_parts (s : State) (c r : Nat) :
    (State.beginRound s c r).time = s.time ∧ (State.beginRound s c r).cfg = s.cfg ∧ (State.beginRound s c r).raiseQ = s.raiseQ ∧ (State.beginRound s c r).out = s.out ∧ (State.beginRound s c r).freeCtr = s.freeCtr ∧ (State.beginRound s c r).flt = s.flt ∧ (State.beginRound s c r).phs = s.phs ∧ (State.beginRound s c r).dom = s.dom ∧ (State.beginRound s c r).eng = s.eng ∧ (State.beginRound s c r).start = s.start ∧ (State.beginRound s c r).est = s.est ∧ (State.beginRound s c r).bud = s.bud ∧ (State.beginRound s c r).thm = s.thm ∧ (State.beginRound s c r).hrd = s.hrd ∧ (State.beginRound s c r).tlm = s.tlm ∧ (State.beginRound s c r).cmd = s.cmd ∧ (State.beginRound s c r).boot = s.boot ∧ (State.beginRound s c r).fw = s.fw ∧ (State.beginRound s c r).lt = s.lt ∧ (State.beginRound s c r).pending = s.pending := by
  refine ⟨?_, ?_, ?_, ?_, ?_, ?_, ?_, ?_, ?_, ?_, ?_, ?_, ?_, ?_, ?_, ?_, ?_, ?_, ?_, ?_⟩ <;> (simp (maxDischargeDepth := 60) [State.beginRound, apply_ite Prod.snd])

@[simp] theorem State.beginRound_ok (s : State) (c r : Nat) (hok : s.fieldsOk) : (State.beginRound s c r).fieldsOk := by
  simp +contextual (maxDischargeDepth := 60) [State.beginRound, hok, apply_ite Prod.snd]

@[simp] theorem State.nextEntry_getF (s : State) (c : Nat) (fld : Fld) (itm : Nat) (hw : fld ∉ ([.ADC_CV_STATUS_PD, .ADC_CV_STATUS_POS, .ADC_CV_STATUS_URG, .ADC_RES_ST_NO_TRIG] : List Fld)) :
    (State.nextEntry s c).getF fld itm = s.getF fld itm := by
  try simp only [List.mem_cons, not_or, List.not_mem_nil, not_false_eq_true] at hw
  simp (maxDischargeDepth := 60) [State.nextEntry, hw, apply_ite Prod.snd]

@[simp] theorem State.nextEntry_parts (s : State) (c : Nat) :
    (State.nextEntry s c).time = s.time ∧ (State.nextEntry s c).cfg = s.cfg ∧ (State.nextEntry s c).raiseQ = s.raiseQ ∧ (State.nextEntry s c).out = s.out ∧ (State.nextEntry s c).freeCtr = s.freeCtr ∧ (State.nextEntry s c).flt = s.flt ∧ (State.nextEntry s c).phs = s.phs ∧ (State.nextEntry s c).dom = s.dom ∧ (State.nextEntry s c).eng = s.eng ∧ (State.nextEntry s c).start = s.start ∧ (State.nextEntry s c).est = s.est ∧ (State.nextEntry s c).bud = s.bud ∧ (State.nextEntry s c).thm = s.thm ∧ (State.nextEntry s c).hrd = s.hrd ∧ (State.nextEntry s c).tlm = s.tlm ∧ (State.nextEntry s c).cmd = s.cmd ∧ (State.nextEntry s c).boot = s.boot ∧ (State.nextEntry s c).fw = s.fw ∧ (State.nextEntry s c).lt = s.lt ∧ (State.nextEntry s c).pending = s.pending := by
  refine ⟨?_, ?_, ?_, ?_, ?_, ?_, ?_, ?_, ?_, ?_, ?_, ?_, ?_, ?_, ?_, ?_, ?_, ?_, ?_, ?_⟩ <;> (simp (maxDischargeDepth := 60) [State.nextEntry, apply_ite Prod.snd])

@[simp] theorem State.nextEntry_ok (s : State) (c : Nat) (hok : s.fieldsOk) : (State.nextEntry s c).fieldsOk := by
  simp +contextual (maxDischargeDepth := 60) [State.nextEntry, hok, apply_ite Prod.snd]

@[simp] theorem State.cvFail_getF (s : State) (c cause : Nat) (fld : Fld) (itm : Nat) (hw : fld ∉ ([.ADC_CV_STATUS_FAIL_CAUSE, .ADC_CV_STATUS_LOSS_COUNT, .ADC_CV_STATUS_STATE, .ADC_CV_STATUS_URG, .ADC_EVENT_CV_FAIL, .ADC_EVENT_PAIR_LOST, .ADC_PAIR_STATUS_STATE, .ADC_RES_ST_VALID, .ADC_STATUS_CV_OK, .ADC_STATUS_PAIR_SOLO, .ADC_URG_RES_BUSY, .ADC_URG_RES_REFUSED] : List Fld)) :
    (State.cvFail s c cause).getF fld itm = s.getF fld itm := by
  try simp only [List.mem_cons, not_or, List.not_mem_nil, not_false_eq_true] at hw
  simp (maxDischargeDepth := 60) [State.cvFail, hw, apply_ite Prod.snd]

@[simp] theorem State.cvFail_parts (s : State) (c cause : Nat) :
    (State.cvFail s c cause).time = s.time ∧ (State.cvFail s c cause).cfg = s.cfg ∧ (State.cvFail s c cause).out = s.out ∧ (State.cvFail s c cause).freeCtr = s.freeCtr ∧ (State.cvFail s c cause).flt = s.flt ∧ (State.cvFail s c cause).phs = s.phs ∧ (State.cvFail s c cause).dom = s.dom ∧ (State.cvFail s c cause).eng = s.eng ∧ (State.cvFail s c cause).start = s.start ∧ (State.cvFail s c cause).est = s.est ∧ (State.cvFail s c cause).bud = s.bud ∧ (State.cvFail s c cause).thm = s.thm ∧ (State.cvFail s c cause).hrd = s.hrd ∧ (State.cvFail s c cause).tlm = s.tlm ∧ (State.cvFail s c cause).cmd = s.cmd ∧ (State.cvFail s c cause).boot = s.boot ∧ (State.cvFail s c cause).fw = s.fw ∧ (State.cvFail s c cause).lt = s.lt ∧ (State.cvFail s c cause).pending = s.pending := by
  refine ⟨?_, ?_, ?_, ?_, ?_, ?_, ?_, ?_, ?_, ?_, ?_, ?_, ?_, ?_, ?_, ?_, ?_, ?_, ?_⟩ <;> (simp (maxDischargeDepth := 60) [State.cvFail, apply_ite Prod.snd])

@[simp] theorem State.cvFail_ok (s : State) (c cause : Nat) (hok : s.fieldsOk) : (State.cvFail s c cause).fieldsOk := by
  simp +contextual (maxDischargeDepth := 60) [State.cvFail, hok, apply_ite Prod.snd]

@[simp] theorem State.cvReturn_getF (s : State) (c : Nat) (fld : Fld) (itm : Nat) (hw : fld ∉ ([.ADC_CV_STATUS_FAIL_CAUSE, .ADC_CV_STATUS_STATE, .ADC_PAIR_STATUS_STATE, .ADC_STATUS_CV_OK, .ADC_STATUS_PAIR_SOLO] : List Fld)) :
    (State.cvReturn s c).getF fld itm = s.getF fld itm := by
  try simp only [List.mem_cons, not_or, List.not_mem_nil, not_false_eq_true] at hw
  simp (maxDischargeDepth := 60) [State.cvReturn, hw, apply_ite Prod.snd]

@[simp] theorem State.cvReturn_parts (s : State) (c : Nat) :
    (State.cvReturn s c).time = s.time ∧ (State.cvReturn s c).cfg = s.cfg ∧ (State.cvReturn s c).raiseQ = s.raiseQ ∧ (State.cvReturn s c).out = s.out ∧ (State.cvReturn s c).freeCtr = s.freeCtr ∧ (State.cvReturn s c).flt = s.flt ∧ (State.cvReturn s c).phs = s.phs ∧ (State.cvReturn s c).dom = s.dom ∧ (State.cvReturn s c).eng = s.eng ∧ (State.cvReturn s c).start = s.start ∧ (State.cvReturn s c).est = s.est ∧ (State.cvReturn s c).bud = s.bud ∧ (State.cvReturn s c).thm = s.thm ∧ (State.cvReturn s c).hrd = s.hrd ∧ (State.cvReturn s c).tlm = s.tlm ∧ (State.cvReturn s c).cmd = s.cmd ∧ (State.cvReturn s c).boot = s.boot ∧ (State.cvReturn s c).fw = s.fw ∧ (State.cvReturn s c).lt = s.lt ∧ (State.cvReturn s c).pending = s.pending := by
  refine ⟨?_, ?_, ?_, ?_, ?_, ?_, ?_, ?_, ?_, ?_, ?_, ?_, ?_, ?_, ?_, ?_, ?_, ?_, ?_, ?_⟩ <;> (simp (maxDischargeDepth := 60) [State.cvReturn, apply_ite Prod.snd])

@[simp] theorem State.cvReturn_ok (s : State) (c : Nat) (hok : s.fieldsOk) : (State.cvReturn s c).fieldsOk := by
  simp +contextual (maxDischargeDepth := 60) [State.cvReturn, hok, apply_ite Prod.snd]

@[simp] theorem State.recheckStart_getF (s : State) (c : Nat) (fld : Fld) (itm : Nat) (hw : fld ∉ ([.ADC_CV_STATUS_STATE] : List Fld)) :
    (State.recheckStart s c).getF fld itm = s.getF fld itm := by
  try simp only [List.mem_cons, not_or, List.not_mem_nil, not_false_eq_true] at hw
  simp (maxDischargeDepth := 60) [State.recheckStart, hw, apply_ite Prod.snd]

@[simp] theorem State.recheckStart_parts (s : State) (c : Nat) :
    (State.recheckStart s c).time = s.time ∧ (State.recheckStart s c).cfg = s.cfg ∧ (State.recheckStart s c).raiseQ = s.raiseQ ∧ (State.recheckStart s c).out = s.out ∧ (State.recheckStart s c).freeCtr = s.freeCtr ∧ (State.recheckStart s c).flt = s.flt ∧ (State.recheckStart s c).phs = s.phs ∧ (State.recheckStart s c).dom = s.dom ∧ (State.recheckStart s c).eng = s.eng ∧ (State.recheckStart s c).start = s.start ∧ (State.recheckStart s c).est = s.est ∧ (State.recheckStart s c).bud = s.bud ∧ (State.recheckStart s c).thm = s.thm ∧ (State.recheckStart s c).hrd = s.hrd ∧ (State.recheckStart s c).tlm = s.tlm ∧ (State.recheckStart s c).cmd = s.cmd ∧ (State.recheckStart s c).boot = s.boot ∧ (State.recheckStart s c).fw = s.fw ∧ (State.recheckStart s c).lt = s.lt ∧ (State.recheckStart s c).pending = s.pending := by
  refine ⟨?_, ?_, ?_, ?_, ?_, ?_, ?_, ?_, ?_, ?_, ?_, ?_, ?_, ?_, ?_, ?_, ?_, ?_, ?_, ?_⟩ <;> (simp (maxDischargeDepth := 60) [State.recheckStart, apply_ite Prod.snd])

@[simp] theorem State.recheckStart_ok (s : State) (c : Nat) (hok : s.fieldsOk) : (State.recheckStart s c).fieldsOk := by
  simp +contextual (maxDischargeDepth := 60) [State.recheckStart, hok, apply_ite Prod.snd]

@[simp] theorem State.setPairChk_getF (s : State) (k : Nat) (x : PairChk) (fld : Fld) (itm : Nat) (hw : fld ∉ ([] : List Fld)) :
    (State.setPairChk s k x).getF fld itm = s.getF fld itm := by
  try simp only [List.mem_cons, not_or, List.not_mem_nil, not_false_eq_true] at hw
  simp (maxDischargeDepth := 60) [State.setPairChk, hw, apply_ite Prod.snd]

@[simp] theorem State.setPairChk_parts (s : State) (k : Nat) (x : PairChk) :
    (State.setPairChk s k x).time = s.time ∧ (State.setPairChk s k x).cfg = s.cfg ∧ (State.setPairChk s k x).raiseQ = s.raiseQ ∧ (State.setPairChk s k x).out = s.out ∧ (State.setPairChk s k x).freeCtr = s.freeCtr ∧ (State.setPairChk s k x).flt = s.flt ∧ (State.setPairChk s k x).phs = s.phs ∧ (State.setPairChk s k x).dom = s.dom ∧ (State.setPairChk s k x).eng = s.eng ∧ (State.setPairChk s k x).start = s.start ∧ (State.setPairChk s k x).est = s.est ∧ (State.setPairChk s k x).bud = s.bud ∧ (State.setPairChk s k x).thm = s.thm ∧ (State.setPairChk s k x).hrd = s.hrd ∧ (State.setPairChk s k x).tlm = s.tlm ∧ (State.setPairChk s k x).cmd = s.cmd ∧ (State.setPairChk s k x).boot = s.boot ∧ (State.setPairChk s k x).fw = s.fw ∧ (State.setPairChk s k x).lt = s.lt ∧ (State.setPairChk s k x).pending = s.pending := by
  refine ⟨?_, ?_, ?_, ?_, ?_, ?_, ?_, ?_, ?_, ?_, ?_, ?_, ?_, ?_, ?_, ?_, ?_, ?_, ?_, ?_⟩ <;> (simp (maxDischargeDepth := 60) [State.setPairChk, apply_ite Prod.snd])

@[simp] theorem State.setPairChk_ok (s : State) (k : Nat) (x : PairChk) (hok : s.fieldsOk) : (State.setPairChk s k x).fieldsOk := by
  simp +contextual (maxDischargeDepth := 60) [State.setPairChk, hok, apply_ite Prod.snd]

@[simp] theorem State.chkCompare_getF (s : State) (c raw : Nat) (fld : Fld) (itm : Nat) (hw : fld ∉ ([.ADC_EVENT_CHK_DIS, .ADC_PAIR_STATUS_CHK_DIS_ST, .ADC_PAIR_STATUS_DIS_COUNT] : List Fld)) :
    (State.chkCompare s c raw).getF fld itm = s.getF fld itm := by
  try simp only [List.mem_cons, not_or, List.not_mem_nil, not_false_eq_true] at hw
  simp (maxDischargeDepth := 60) [State.chkCompare, hw, apply_ite Prod.snd]

@[simp] theorem State.chkCompare_parts (s : State) (c raw : Nat) :
    (State.chkCompare s c raw).time = s.time ∧ (State.chkCompare s c raw).cfg = s.cfg ∧ (State.chkCompare s c raw).out = s.out ∧ (State.chkCompare s c raw).freeCtr = s.freeCtr ∧ (State.chkCompare s c raw).flt = s.flt ∧ (State.chkCompare s c raw).phs = s.phs ∧ (State.chkCompare s c raw).dom = s.dom ∧ (State.chkCompare s c raw).eng = s.eng ∧ (State.chkCompare s c raw).start = s.start ∧ (State.chkCompare s c raw).est = s.est ∧ (State.chkCompare s c raw).bud = s.bud ∧ (State.chkCompare s c raw).thm = s.thm ∧ (State.chkCompare s c raw).hrd = s.hrd ∧ (State.chkCompare s c raw).tlm = s.tlm ∧ (State.chkCompare s c raw).cmd = s.cmd ∧ (State.chkCompare s c raw).boot = s.boot ∧ (State.chkCompare s c raw).fw = s.fw ∧ (State.chkCompare s c raw).lt = s.lt ∧ (State.chkCompare s c raw).pending = s.pending := by
  refine ⟨?_, ?_, ?_, ?_, ?_, ?_, ?_, ?_, ?_, ?_, ?_, ?_, ?_, ?_, ?_, ?_, ?_, ?_, ?_⟩ <;> (simp (maxDischargeDepth := 60) [State.chkCompare, apply_ite Prod.snd])

@[simp] theorem State.chkCompare_ok (s : State) (c raw : Nat) (hok : s.fieldsOk) : (State.chkCompare s c raw).fieldsOk := by
  simp +contextual (maxDischargeDepth := 60) [State.chkCompare, hok, apply_ite Prod.snd]

@[simp] theorem State.chkReading_getF (s : State) (c raw : Nat) (fld : Fld) (itm : Nat) (hw : fld ∉ ([.ADC_CV_STATUS_FAIL_CAUSE, .ADC_CV_STATUS_LOSS_COUNT, .ADC_CV_STATUS_STATE, .ADC_CV_STATUS_URG, .ADC_EVENT_CHK_DIS, .ADC_EVENT_CV_FAIL, .ADC_EVENT_PAIR_LOST, .ADC_PAIR_CHK_CHK_EVEN, .ADC_PAIR_CHK_CHK_ODD, .ADC_PAIR_STATUS_CHK_DIS_ST, .ADC_PAIR_STATUS_DIS_COUNT, .ADC_PAIR_STATUS_STATE, .ADC_RES_ST_VALID, .ADC_STATUS_CV_OK, .ADC_STATUS_PAIR_SOLO, .ADC_URG_RES_BUSY, .ADC_URG_RES_REFUSED] : List Fld)) :
    (State.chkReading s c raw).getF fld itm = s.getF fld itm := by
  try simp only [List.mem_cons, not_or, List.not_mem_nil, not_false_eq_true] at hw
  ((unfold State.chkReading); (try simp only []); (repeat' split) <;> (try simp (maxDischargeDepth := 60) [hw, State.when, apply_ite Prod.snd]))

@[simp] theorem State.chkReading_parts (s : State) (c raw : Nat) :
    (State.chkReading s c raw).time = s.time ∧ (State.chkReading s c raw).cfg = s.cfg ∧ (State.chkReading s c raw).out = s.out ∧ (State.chkReading s c raw).freeCtr = s.freeCtr ∧ (State.chkReading s c raw).flt = s.flt ∧ (State.chkReading s c raw).phs = s.phs ∧ (State.chkReading s c raw).dom = s.dom ∧ (State.chkReading s c raw).eng = s.eng ∧ (State.chkReading s c raw).start = s.start ∧ (State.chkReading s c raw).est = s.est ∧ (State.chkReading s c raw).bud = s.bud ∧ (State.chkReading s c raw).thm = s.thm ∧ (State.chkReading s c raw).hrd = s.hrd ∧ (State.chkReading s c raw).tlm = s.tlm ∧ (State.chkReading s c raw).cmd = s.cmd ∧ (State.chkReading s c raw).boot = s.boot ∧ (State.chkReading s c raw).fw = s.fw ∧ (State.chkReading s c raw).lt = s.lt ∧ (State.chkReading s c raw).pending = s.pending := by
  refine ⟨?_, ?_, ?_, ?_, ?_, ?_, ?_, ?_, ?_, ?_, ?_, ?_, ?_, ?_, ?_, ?_, ?_, ?_, ?_⟩ <;> (simp (maxDischargeDepth := 60) [State.chkReading, apply_ite Prod.snd])

@[simp] theorem State.chkReading_ok (s : State) (c raw : Nat) (hok : s.fieldsOk) : (State.chkReading s c raw).fieldsOk := by
  simp +contextual (maxDischargeDepth := 60) [State.chkReading, hok, apply_ite Prod.snd]

@[simp] theorem State.crossRequest_getF (s : State) (c e raw : Nat) (fld : Fld) (itm : Nat) (hw : fld ∉ ([.ADC_CV_STATUS_URG] : List Fld)) :
    (State.crossRequest s c e raw).getF fld itm = s.getF fld itm := by
  try simp only [List.mem_cons, not_or, List.not_mem_nil, not_false_eq_true] at hw
  simp (maxDischargeDepth := 60) [State.crossRequest, hw, apply_ite Prod.snd]

@[simp] theorem State.crossRequest_parts (s : State) (c e raw : Nat) :
    (State.crossRequest s c e raw).time = s.time ∧ (State.crossRequest s c e raw).cfg = s.cfg ∧ (State.crossRequest s c e raw).raiseQ = s.raiseQ ∧ (State.crossRequest s c e raw).out = s.out ∧ (State.crossRequest s c e raw).freeCtr = s.freeCtr ∧ (State.crossRequest s c e raw).flt = s.flt ∧ (State.crossRequest s c e raw).phs = s.phs ∧ (State.crossRequest s c e raw).dom = s.dom ∧ (State.crossRequest s c e raw).eng = s.eng ∧ (State.crossRequest s c e raw).start = s.start ∧ (State.crossRequest s c e raw).est = s.est ∧ (State.crossRequest s c e raw).bud = s.bud ∧ (State.crossRequest s c e raw).thm = s.thm ∧ (State.crossRequest s c e raw).hrd = s.hrd ∧ (State.crossRequest s c e raw).tlm = s.tlm ∧ (State.crossRequest s c e raw).cmd = s.cmd ∧ (State.crossRequest s c e raw).boot = s.boot ∧ (State.crossRequest s c e raw).fw = s.fw ∧ (State.crossRequest s c e raw).lt = s.lt ∧ (State.crossRequest s c e raw).pending = s.pending := by
  refine ⟨?_, ?_, ?_, ?_, ?_, ?_, ?_, ?_, ?_, ?_, ?_, ?_, ?_, ?_, ?_, ?_, ?_, ?_, ?_, ?_⟩ <;> (simp (maxDischargeDepth := 60) [State.crossRequest, apply_ite Prod.snd])

@[simp] theorem State.crossRequest_ok (s : State) (c e raw : Nat) (hok : s.fieldsOk) : (State.crossRequest s c e raw).fieldsOk := by
  simp +contextual (maxDischargeDepth := 60) [State.crossRequest, hok, apply_ite Prod.snd]

@[simp] theorem State.crossResult_getF (s : State) (c ch cal raw : Nat) (fld : Fld) (itm : Nat) (hw : fld ∉ ([.ADC_PAIR_STATUS_XR_FAILS, .ADC_RES_ST_XR_BAD, .PHS_GRP_EVENT_SENSE_FAIL] : List Fld)) :
    (State.crossResult s c ch cal raw).getF fld itm = s.getF fld itm := by
  try simp only [List.mem_cons, not_or, List.not_mem_nil, not_false_eq_true] at hw
  simp (maxDischargeDepth := 60) [State.crossResult, hw, apply_ite Prod.snd]

@[simp] theorem State.crossResult_parts (s : State) (c ch cal raw : Nat) :
    (State.crossResult s c ch cal raw).time = s.time ∧ (State.crossResult s c ch cal raw).cfg = s.cfg ∧ (State.crossResult s c ch cal raw).out = s.out ∧ (State.crossResult s c ch cal raw).freeCtr = s.freeCtr ∧ (State.crossResult s c ch cal raw).flt = s.flt ∧ (State.crossResult s c ch cal raw).dom = s.dom ∧ (State.crossResult s c ch cal raw).eng = s.eng ∧ (State.crossResult s c ch cal raw).start = s.start ∧ (State.crossResult s c ch cal raw).est = s.est ∧ (State.crossResult s c ch cal raw).bud = s.bud ∧ (State.crossResult s c ch cal raw).thm = s.thm ∧ (State.crossResult s c ch cal raw).hrd = s.hrd ∧ (State.crossResult s c ch cal raw).tlm = s.tlm ∧ (State.crossResult s c ch cal raw).cmd = s.cmd ∧ (State.crossResult s c ch cal raw).boot = s.boot ∧ (State.crossResult s c ch cal raw).adc = s.adc ∧ (State.crossResult s c ch cal raw).fw = s.fw ∧ (State.crossResult s c ch cal raw).lt = s.lt ∧ (State.crossResult s c ch cal raw).pending = s.pending := by
  refine ⟨?_, ?_, ?_, ?_, ?_, ?_, ?_, ?_, ?_, ?_, ?_, ?_, ?_, ?_, ?_, ?_, ?_, ?_, ?_⟩ <;> (simp (maxDischargeDepth := 60) [State.crossResult, apply_ite Prod.snd])

@[simp] theorem State.crossResult_ok (s : State) (c ch cal raw : Nat) (hok : s.fieldsOk) : (State.crossResult s c ch cal raw).fieldsOk := by
  simp +contextual (maxDischargeDepth := 60) [State.crossResult, hok, apply_ite Prod.snd]

@[simp] theorem State.entryResult_getF (s : State) (c e raw : Nat) (ovr : Bool) (fld : Fld) (itm : Nat) (hw : fld ∉ ([.ADC_CV_STATUS_FAIL_CAUSE, .ADC_CV_STATUS_LOSS_COUNT, .ADC_CV_STATUS_STATE, .ADC_CV_STATUS_URG, .ADC_EVENT_CHK_DIS, .ADC_EVENT_CV_FAIL, .ADC_EVENT_OVR, .ADC_EVENT_PAIR_LOST, .ADC_PAIR_CHK_CHK_EVEN, .ADC_PAIR_CHK_CHK_ODD, .ADC_PAIR_STATUS_CHK_DIS_ST, .ADC_PAIR_STATUS_DIS_COUNT, .ADC_PAIR_STATUS_STATE, .ADC_RES_CAL, .ADC_RES_RESULT, .ADC_RES_ST_BY_PARTNER, .ADC_RES_ST_NO_TRIG, .ADC_RES_ST_OVR, .ADC_RES_ST_VALID, .ADC_STATUS_CV_OK, .ADC_STATUS_PAIR_SOLO, .ADC_URG_RES_BUSY, .ADC_URG_RES_REFUSED, .CEL_STATUS_SETPT, .DOM_SETPT_VEFF, .DOM_START_STATUS_SLOPE_EFF, .DOM_STATUS_STEP, .GLB_VSTK_STATUS_BUS_OOR, .GLB_VSTK_STATUS_CLAMPED, .GLB_VSTK_STATUS_VSTK_CODE, .PHS_GRP_EVENT_SENSE_FAIL, .PHS_GRP_REF_VREF, .PHS_GRP_REF_VSENSE, .PHS_GRP_TON_TON_BASE, .PHS_GRP_TON_VBUS_USED, .PHS_PH_MEAS_IMON, .PHS_PH_MEAS_TMON, .PHS_PH_STATUS_TMON_HOT, .PHS_PH_STATUS_TRIM] : List Fld)) :
    (State.entryResult s c e raw ovr).getF fld itm = s.getF fld itm := by
  try simp only [List.mem_cons, not_or, List.not_mem_nil, not_false_eq_true] at hw
  simp (maxDischargeDepth := 60) [State.entryResult, hw, apply_ite Prod.snd]

@[simp] theorem State.entryResult_parts (s : State) (c e raw : Nat) (ovr : Bool) :
    (State.entryResult s c e raw ovr).time = s.time ∧ (State.entryResult s c e raw ovr).cfg = s.cfg ∧ (State.entryResult s c e raw ovr).freeCtr = s.freeCtr ∧ (State.entryResult s c e raw ovr).flt = s.flt ∧ (State.entryResult s c e raw ovr).eng = s.eng ∧ (State.entryResult s c e raw ovr).est = s.est ∧ (State.entryResult s c e raw ovr).thm = s.thm ∧ (State.entryResult s c e raw ovr).hrd = s.hrd ∧ (State.entryResult s c e raw ovr).cmd = s.cmd ∧ (State.entryResult s c e raw ovr).fw = s.fw ∧ (State.entryResult s c e raw ovr).lt = s.lt ∧ (State.entryResult s c e raw ovr).pending = s.pending := by
  refine ⟨?_, ?_, ?_, ?_, ?_, ?_, ?_, ?_, ?_, ?_, ?_, ?_⟩ <;> (simp (maxDischargeDepth := 60) [State.entryResult, apply_ite Prod.snd])

@[simp] theorem State.entryResult_ok (s : State) (c e raw : Nat) (ovr : Bool) (hok : s.fieldsOk) : (State.entryResult s c e raw ovr).fieldsOk := by
  simp +contextual (maxDischargeDepth := 60) [State.entryResult, hok, apply_ite Prod.snd]

@[simp] theorem State.setCal_getF (s : State) (ch gain : Nat) (ofs : Int) (fld : Fld) (itm : Nat) (hw : fld ∉ ([.ADC_CAL_GAIN, .ADC_CAL_OFS] : List Fld)) :
    (State.setCal s ch gain ofs).getF fld itm = s.getF fld itm := by
  try simp only [List.mem_cons, not_or, List.not_mem_nil, not_false_eq_true] at hw
  simp (maxDischargeDepth := 60) [State.setCal, hw, apply_ite Prod.snd]

@[simp] theorem State.setCal_parts (s : State) (ch gain : Nat) (ofs : Int) :
    (State.setCal s ch gain ofs).time = s.time ∧ (State.setCal s ch gain ofs).cfg = s.cfg ∧ (State.setCal s ch gain ofs).raiseQ = s.raiseQ ∧ (State.setCal s ch gain ofs).out = s.out ∧ (State.setCal s ch gain ofs).freeCtr = s.freeCtr ∧ (State.setCal s ch gain ofs).flt = s.flt ∧ (State.setCal s ch gain ofs).phs = s.phs ∧ (State.setCal s ch gain ofs).dom = s.dom ∧ (State.setCal s ch gain ofs).eng = s.eng ∧ (State.setCal s ch gain ofs).start = s.start ∧ (State.setCal s ch gain ofs).est = s.est ∧ (State.setCal s ch gain ofs).bud = s.bud ∧ (State.setCal s ch gain ofs).thm = s.thm ∧ (State.setCal s ch gain ofs).hrd = s.hrd ∧ (State.setCal s ch gain ofs).tlm = s.tlm ∧ (State.setCal s ch gain ofs).cmd = s.cmd ∧ (State.setCal s ch gain ofs).boot = s.boot ∧ (State.setCal s ch gain ofs).adc = s.adc ∧ (State.setCal s ch gain ofs).fw = s.fw ∧ (State.setCal s ch gain ofs).lt = s.lt ∧ (State.setCal s ch gain ofs).pending = s.pending := by
  refine ⟨?_, ?_, ?_, ?_, ?_, ?_, ?_, ?_, ?_, ?_, ?_, ?_, ?_, ?_, ?_, ?_, ?_, ?_, ?_, ?_, ?_⟩ <;> (simp (maxDischargeDepth := 60) [State.setCal, apply_ite Prod.snd])

@[simp] theorem State.setCal_ok (s : State) (ch gain : Nat) (ofs : Int) (hok : s.fieldsOk) : (State.setCal s ch gain ofs).fieldsOk := by
  simp +contextual (maxDischargeDepth := 60) [State.setCal, hok, apply_ite Prod.snd]

@[simp] theorem State.restoreCal_getF (s : State) (ch : Nat) (fld : Fld) (itm : Nat) (hw : fld ∉ ([.ADC_CAL_GAIN, .ADC_CAL_OFS] : List Fld)) :
    (State.restoreCal s ch).getF fld itm = s.getF fld itm := by
  try simp only [List.mem_cons, not_or, List.not_mem_nil, not_false_eq_true] at hw
  simp (maxDischargeDepth := 60) [State.restoreCal, hw, apply_ite Prod.snd]

@[simp] theorem State.restoreCal_parts (s : State) (ch : Nat) :
    (State.restoreCal s ch).time = s.time ∧ (State.restoreCal s ch).cfg = s.cfg ∧ (State.restoreCal s ch).raiseQ = s.raiseQ ∧ (State.restoreCal s ch).out = s.out ∧ (State.restoreCal s ch).freeCtr = s.freeCtr ∧ (State.restoreCal s ch).flt = s.flt ∧ (State.restoreCal s ch).phs = s.phs ∧ (State.restoreCal s ch).dom = s.dom ∧ (State.restoreCal s ch).eng = s.eng ∧ (State.restoreCal s ch).start = s.start ∧ (State.restoreCal s ch).est = s.est ∧ (State.restoreCal s ch).bud = s.bud ∧ (State.restoreCal s ch).thm = s.thm ∧ (State.restoreCal s ch).hrd = s.hrd ∧ (State.restoreCal s ch).tlm = s.tlm ∧ (State.restoreCal s ch).cmd = s.cmd ∧ (State.restoreCal s ch).boot = s.boot ∧ (State.restoreCal s ch).adc = s.adc ∧ (State.restoreCal s ch).fw = s.fw ∧ (State.restoreCal s ch).lt = s.lt ∧ (State.restoreCal s ch).pending = s.pending := by
  refine ⟨?_, ?_, ?_, ?_, ?_, ?_, ?_, ?_, ?_, ?_, ?_, ?_, ?_, ?_, ?_, ?_, ?_, ?_, ?_, ?_, ?_⟩ <;> (simp (maxDischargeDepth := 60) [State.restoreCal, apply_ite Prod.snd])

@[simp] theorem State.restoreCal_ok (s : State) (ch : Nat) (hok : s.fieldsOk) : (State.restoreCal s ch).fieldsOk := by
  simp +contextual (maxDischargeDepth := 60) [State.restoreCal, hok, apply_ite Prod.snd]

@[simp] theorem State.endCal_getF (s : State) (ch : Nat) (fld : Fld) (itm : Nat) (hw : fld ∉ ([.ADC_RES_ST_CAL_BUSY] : List Fld)) :
    (State.endCal s ch).getF fld itm = s.getF fld itm := by
  try simp only [List.mem_cons, not_or, List.not_mem_nil, not_false_eq_true] at hw
  simp (maxDischargeDepth := 60) [State.endCal, hw, apply_ite Prod.snd]

@[simp] theorem State.endCal_parts (s : State) (ch : Nat) :
    (State.endCal s ch).time = s.time ∧ (State.endCal s ch).cfg = s.cfg ∧ (State.endCal s ch).raiseQ = s.raiseQ ∧ (State.endCal s ch).out = s.out ∧ (State.endCal s ch).freeCtr = s.freeCtr ∧ (State.endCal s ch).flt = s.flt ∧ (State.endCal s ch).phs = s.phs ∧ (State.endCal s ch).dom = s.dom ∧ (State.endCal s ch).eng = s.eng ∧ (State.endCal s ch).start = s.start ∧ (State.endCal s ch).est = s.est ∧ (State.endCal s ch).bud = s.bud ∧ (State.endCal s ch).thm = s.thm ∧ (State.endCal s ch).hrd = s.hrd ∧ (State.endCal s ch).tlm = s.tlm ∧ (State.endCal s ch).cmd = s.cmd ∧ (State.endCal s ch).boot = s.boot ∧ (State.endCal s ch).fw = s.fw ∧ (State.endCal s ch).lt = s.lt ∧ (State.endCal s ch).pending = s.pending := by
  refine ⟨?_, ?_, ?_, ?_, ?_, ?_, ?_, ?_, ?_, ?_, ?_, ?_, ?_, ?_, ?_, ?_, ?_, ?_, ?_, ?_⟩ <;> (simp (maxDischargeDepth := 60) [State.endCal, apply_ite Prod.snd])

@[simp] theorem State.endCal_ok (s : State) (ch : Nat) (hok : s.fieldsOk) : (State.endCal s ch).fieldsOk := by
  simp +contextual (maxDischargeDepth := 60) [State.endCal, hok, apply_ite Prod.snd]

@[simp] theorem State.openCal_getF (s : State) (ch : Nat) (fld : Fld) (itm : Nat) (hw : fld ∉ ([.ADC_RES_ST_CAL_BUSY, .ADC_RES_ST_VALID] : List Fld)) :
    (State.openCal s ch).getF fld itm = s.getF fld itm := by
  try simp only [List.mem_cons, not_or, List.not_mem_nil, not_false_eq_true] at hw
  simp (maxDischargeDepth := 60) [State.openCal, hw, apply_ite Prod.snd]

@[simp] theorem State.openCal_parts (s : State) (ch : Nat) :
    (State.openCal s ch).time = s.time ∧ (State.openCal s ch).cfg = s.cfg ∧ (State.openCal s ch).raiseQ = s.raiseQ ∧ (State.openCal s ch).out = s.out ∧ (State.openCal s ch).freeCtr = s.freeCtr ∧ (State.openCal s ch).flt = s.flt ∧ (State.openCal s ch).phs = s.phs ∧ (State.openCal s ch).dom = s.dom ∧ (State.openCal s ch).eng = s.eng ∧ (State.openCal s ch).start = s.start ∧ (State.openCal s ch).est = s.est ∧ (State.openCal s ch).bud = s.bud ∧ (State.openCal s ch).thm = s.thm ∧ (State.openCal s ch).hrd = s.hrd ∧ (State.openCal s ch).tlm = s.tlm ∧ (State.openCal s ch).cmd = s.cmd ∧ (State.openCal s ch).boot = s.boot ∧ (State.openCal s ch).adc = s.adc ∧ (State.openCal s ch).fw = s.fw ∧ (State.openCal s ch).lt = s.lt ∧ (State.openCal s ch).pending = s.pending := by
  refine ⟨?_, ?_, ?_, ?_, ?_, ?_, ?_, ?_, ?_, ?_, ?_, ?_, ?_, ?_, ?_, ?_, ?_, ?_, ?_, ?_, ?_⟩ <;> (simp (maxDischargeDepth := 60) [State.openCal, apply_ite Prod.snd])

@[simp] theorem State.openCal_ok (s : State) (ch : Nat) (hok : s.fieldsOk) : (State.openCal s ch).fieldsOk := by
  simp +contextual (maxDischargeDepth := 60) [State.openCal, hok, apply_ite Prod.snd]

@[simp] theorem State.calRequest_getF (s : State) (fld : Fld) (itm : Nat) (hw : fld ∉ ([.ADC_CV_STATUS_URG] : List Fld)) :
    (State.calRequest s).getF fld itm = s.getF fld itm := by
  try simp only [List.mem_cons, not_or, List.not_mem_nil, not_false_eq_true] at hw
  ((unfold State.calRequest); (try simp only []); (repeat' split) <;> (try simp (maxDischargeDepth := 60) [hw, State.when, apply_ite Prod.snd]))

@[simp] theorem State.calRequest_parts (s : State) :
    (State.calRequest s).time = s.time ∧ (State.calRequest s).cfg = s.cfg ∧ (State.calRequest s).raiseQ = s.raiseQ ∧ (State.calRequest s).out = s.out ∧ (State.calRequest s).freeCtr = s.freeCtr ∧ (State.calRequest s).flt = s.flt ∧ (State.calRequest s).phs = s.phs ∧ (State.calRequest s).dom = s.dom ∧ (State.calRequest s).eng = s.eng ∧ (State.calRequest s).start = s.start ∧ (State.calRequest s).est = s.est ∧ (State.calRequest s).bud = s.bud ∧ (State.calRequest s).thm = s.thm ∧ (State.calRequest s).hrd = s.hrd ∧ (State.calRequest s).tlm = s.tlm ∧ (State.calRequest s).cmd = s.cmd ∧ (State.calRequest s).boot = s.boot ∧ (State.calRequest s).fw = s.fw ∧ (State.calRequest s).lt = s.lt ∧ (State.calRequest s).pending = s.pending := by
  refine ⟨?_, ?_, ?_, ?_, ?_, ?_, ?_, ?_, ?_, ?_, ?_, ?_, ?_, ?_, ?_, ?_, ?_, ?_, ?_, ?_⟩ <;> ((unfold State.calRequest); (try simp only []); (repeat' split) <;> (try simp (maxDischargeDepth := 60) [State.when, apply_ite Prod.snd]))

@[simp] theorem State.calRequest_ok (s : State) (hok : s.fieldsOk) : (State.calRequest s).fieldsOk := by
  ((unfold State.calRequest); (try simp only []); (repeat' split) <;> (try simp +contextual (maxDischargeDepth := 60) [hok, State.when, apply_ite Prod.snd]))

@[simp] theorem State.calResult_getF (s : State) (c raw : Nat) (fld : Fld) (itm : Nat) (hw : fld ∉ ([] : List Fld)) :
    (State.calResult s c raw).getF fld itm = s.getF fld itm := by
  try simp only [List.mem_cons, not_or, List.not_mem_nil, not_false_eq_true] at hw
  ((unfold State.calResult); (try simp only []); (repeat' split) <;> (try simp (maxDischargeDepth := 60) [hw, State.when, apply_ite Prod.snd]))

@[simp] theorem State.calResult_parts (s : State) (c raw : Nat) :
    (State.calResult s c raw).time = s.time ∧ (State.calResult s c raw).cfg = s.cfg ∧ (State.calResult s c raw).raiseQ = s.raiseQ ∧ (State.calResult s c raw).out = s.out ∧ (State.calResult s c raw).freeCtr = s.freeCtr ∧ (State.calResult s c raw).flt = s.flt ∧ (State.calResult s c raw).phs = s.phs ∧ (State.calResult s c raw).dom = s.dom ∧ (State.calResult s c raw).eng = s.eng ∧ (State.calResult s c raw).start = s.start ∧ (State.calResult s c raw).est = s.est ∧ (State.calResult s c raw).bud = s.bud ∧ (State.calResult s c raw).thm = s.thm ∧ (State.calResult s c raw).hrd = s.hrd ∧ (State.calResult s c raw).tlm = s.tlm ∧ (State.calResult s c raw).cmd = s.cmd ∧ (State.calResult s c raw).boot = s.boot ∧ (State.calResult s c raw).fw = s.fw ∧ (State.calResult s c raw).lt = s.lt ∧ (State.calResult s c raw).pending = s.pending := by
  refine ⟨?_, ?_, ?_, ?_, ?_, ?_, ?_, ?_, ?_, ?_, ?_, ?_, ?_, ?_, ?_, ?_, ?_, ?_, ?_, ?_⟩ <;> ((unfold State.calResult); (try simp only []); (repeat' split) <;> (try simp (maxDischargeDepth := 60) [State.when, apply_ite Prod.snd]))

@[simp] theorem State.calResult_ok (s : State) (c raw : Nat) (hok : s.fieldsOk) : (State.calResult s c raw).fieldsOk := by
  ((unfold State.calResult); (try simp only []); (repeat' split) <;> (try simp +contextual (maxDischargeDepth := 60) [hok, State.when, apply_ite Prod.snd]))

@[simp] theorem State.calTick_getF (s : State) (was : Nat) (fld : Fld) (itm : Nat) (hw : fld ∉ ([.ADC_CV_STATUS_URG] : List Fld)) :
    (State.calTick s was).getF fld itm = s.getF fld itm := by
  try simp only [List.mem_cons, not_or, List.not_mem_nil, not_false_eq_true] at hw
  ((unfold State.calTick); (try simp only []); (repeat' split) <;> (try simp (maxDischargeDepth := 60) [hw, State.when, apply_ite Prod.snd]))

@[simp] theorem State.calTick_parts (s : State) (was : Nat) :
    (State.calTick s was).time = s.time ∧ (State.calTick s was).cfg = s.cfg ∧ (State.calTick s was).raiseQ = s.raiseQ ∧ (State.calTick s was).out = s.out ∧ (State.calTick s was).freeCtr = s.freeCtr ∧ (State.calTick s was).flt = s.flt ∧ (State.calTick s was).phs = s.phs ∧ (State.calTick s was).dom = s.dom ∧ (State.calTick s was).eng = s.eng ∧ (State.calTick s was).start = s.start ∧ (State.calTick s was).est = s.est ∧ (State.calTick s was).bud = s.bud ∧ (State.calTick s was).thm = s.thm ∧ (State.calTick s was).hrd = s.hrd ∧ (State.calTick s was).tlm = s.tlm ∧ (State.calTick s was).cmd = s.cmd ∧ (State.calTick s was).boot = s.boot ∧ (State.calTick s was).fw = s.fw ∧ (State.calTick s was).lt = s.lt ∧ (State.calTick s was).pending = s.pending := by
  refine ⟨?_, ?_, ?_, ?_, ?_, ?_, ?_, ?_, ?_, ?_, ?_, ?_, ?_, ?_, ?_, ?_, ?_, ?_, ?_, ?_⟩ <;> ((unfold State.calTick); (try simp only []); (repeat' split) <;> (try simp (maxDischargeDepth := 60) [State.when, apply_ite Prod.snd]))

@[simp] theorem State.calTick_ok (s : State) (was : Nat) (hok : s.fieldsOk) : (State.calTick s was).fieldsOk := by
  ((unfold State.calTick); (try simp only []); (repeat' split) <;> (try simp +contextual (maxDischargeDepth := 60) [hok, State.when, apply_ite Prod.snd]))

end Sys2Proof.Machine
end

