-- ==== Sys2Proof/Laws/EstOps.lean ====
section
/-! SUPPORT. What each power estimation operation can do: the fields it may write, the parts of the state it keeps, and that it keeps
the register table in its canonical form. -/

namespace Sys2Proof.Machine
open Host (Outcome)
set_option maxRecDepth 4000
set_option linter.unusedSimpArgs false
set_option linter.unusedVariables false
set_option linter.unreachableTactic false
set_option linter.unusedTactic false

@[simp] theorem State.keepParam_getF (s : State) (f : Fld) (i upto : Nat) (fld : Fld) (itm : Nat) (hw : fld ∉ ([f] : List Fld)) :
    (State.keepParam s f i upto).getF fld itm = s.getF fld itm := by
  try simp only [List.mem_cons, not_or, List.not_mem_nil, not_false_eq_true] at hw
  simp (maxDischargeDepth := 60) [State.keepParam, hw, apply_ite Prod.snd]

@[simp] theorem State.keepParam_parts (s : State) (f : Fld) (i upto : Nat) :
    (State.keepParam s f i upto).time = s.time ∧ (State.keepParam s f i upto).cfg = s.cfg ∧ (State.keepParam s f i upto).raiseQ = s.raiseQ ∧ (State.keepParam s f i upto).out = s.out ∧ (State.keepParam s f i upto).freeCtr = s.freeCtr ∧ (State.keepParam s f i upto).flt = s.flt ∧ (State.keepParam s f i upto).phs = s.phs ∧ (State.keepParam s f i upto).dom = s.dom ∧ (State.keepParam s f i upto).eng = s.eng ∧ (State.keepParam s f i upto).start = s.start ∧ (State.keepParam s f i upto).bud = s.bud ∧ (State.keepParam s f i upto).thm = s.thm ∧ (State.keepParam s f i upto).hrd = s.hrd ∧ (State.keepParam s f i upto).tlm = s.tlm ∧ (State.keepParam s f i upto).cmd = s.cmd ∧ (State.keepParam s f i upto).boot = s.boot ∧ (State.keepParam s f i upto).adc = s.adc ∧ (State.keepParam s f i upto).fw = s.fw ∧ (State.keepParam s f i upto).lt = s.lt ∧ (State.keepParam s f i upto).pending = s.pending := by
  refine ⟨?_, ?_, ?_, ?_, ?_, ?_, ?_, ?_, ?_, ?_, ?_, ?_, ?_, ?_, ?_, ?_, ?_, ?_, ?_, ?_⟩ <;> (simp (maxDischargeDepth := 60) [State.keepParam, apply_ite Prod.snd])

@[simp] theorem State.keepParam_ok (s : State) (f : Fld) (i upto : Nat) (hok : s.fieldsOk) : (State.keepParam s f i upto).fieldsOk := by
  simp +contextual (maxDischargeDepth := 60) [State.keepParam, hok, apply_ite Prod.snd]

@[simp] theorem State.dropParams_getF (s : State) (n : Nat) (fld : Fld) (itm : Nat) (hw : fld ∉ ([] : List Fld)) :
    (State.dropParams s n).getF fld itm = s.getF fld itm := by
  try simp only [List.mem_cons, not_or, List.not_mem_nil, not_false_eq_true] at hw
  simp (maxDischargeDepth := 60) [State.dropParams, hw, apply_ite Prod.snd]

@[simp] theorem State.dropParams_parts (s : State) (n : Nat) :
    (State.dropParams s n).time = s.time ∧ (State.dropParams s n).cfg = s.cfg ∧ (State.dropParams s n).raiseQ = s.raiseQ ∧ (State.dropParams s n).out = s.out ∧ (State.dropParams s n).freeCtr = s.freeCtr ∧ (State.dropParams s n).flt = s.flt ∧ (State.dropParams s n).phs = s.phs ∧ (State.dropParams s n).dom = s.dom ∧ (State.dropParams s n).eng = s.eng ∧ (State.dropParams s n).start = s.start ∧ (State.dropParams s n).bud = s.bud ∧ (State.dropParams s n).thm = s.thm ∧ (State.dropParams s n).hrd = s.hrd ∧ (State.dropParams s n).tlm = s.tlm ∧ (State.dropParams s n).cmd = s.cmd ∧ (State.dropParams s n).boot = s.boot ∧ (State.dropParams s n).adc = s.adc ∧ (State.dropParams s n).fw = s.fw ∧ (State.dropParams s n).lt = s.lt ∧ (State.dropParams s n).pending = s.pending := by
  refine ⟨?_, ?_, ?_, ?_, ?_, ?_, ?_, ?_, ?_, ?_, ?_, ?_, ?_, ?_, ?_, ?_, ?_, ?_, ?_, ?_⟩ <;> (simp (maxDischargeDepth := 60) [State.dropParams, apply_ite Prod.snd])

@[simp] theorem State.dropParams_ok (s : State) (n : Nat) (hok : s.fieldsOk) : (State.dropParams s n).fieldsOk := by
  simp +contextual (maxDischargeDepth := 60) [State.dropParams, hok, apply_ite Prod.snd]

@[simp] theorem State.staleSet_getF (s : State) (d : Nat) (fld : Fld) (itm : Nat) (hw : fld ∉ ([.DOM_EST_EVENT_STALE] : List Fld)) :
    (State.staleSet s d).getF fld itm = s.getF fld itm := by
  try simp only [List.mem_cons, not_or, List.not_mem_nil, not_false_eq_true] at hw
  simp (maxDischargeDepth := 60) [State.staleSet, hw, apply_ite Prod.snd]

@[simp] theorem State.staleSet_parts (s : State) (d : Nat) :
    (State.staleSet s d).time = s.time ∧ (State.staleSet s d).cfg = s.cfg ∧ (State.staleSet s d).out = s.out ∧ (State.staleSet s d).freeCtr = s.freeCtr ∧ (State.staleSet s d).flt = s.flt ∧ (State.staleSet s d).phs = s.phs ∧ (State.staleSet s d).dom = s.dom ∧ (State.staleSet s d).eng = s.eng ∧ (State.staleSet s d).start = s.start ∧ (State.staleSet s d).bud = s.bud ∧ (State.staleSet s d).thm = s.thm ∧ (State.staleSet s d).hrd = s.hrd ∧ (State.staleSet s d).tlm = s.tlm ∧ (State.staleSet s d).cmd = s.cmd ∧ (State.staleSet s d).boot = s.boot ∧ (State.staleSet s d).adc = s.adc ∧ (State.staleSet s d).fw = s.fw ∧ (State.staleSet s d).lt = s.lt ∧ (State.staleSet s d).pending = s.pending := by
  refine ⟨?_, ?_, ?_, ?_, ?_, ?_, ?_, ?_, ?_, ?_, ?_, ?_, ?_, ?_, ?_, ?_, ?_, ?_, ?_⟩ <;> (simp (maxDischargeDepth := 60) [State.staleSet, apply_ite Prod.snd])

@[simp] theorem State.staleSet_ok (s : State) (d : Nat) (hok : s.fieldsOk) : (State.staleSet s d).fieldsOk := by
  simp +contextual (maxDischargeDepth := 60) [State.staleSet, hok, apply_ite Prod.snd]

@[simp] theorem State.decideSet_getF (s : State) (d : Nat) (fld : Fld) (itm : Nat) (hw : fld ∉ ([.DOM_EST_EVENT_STALE] : List Fld)) :
    (State.decideSet s d).getF fld itm = s.getF fld itm := by
  try simp only [List.mem_cons, not_or, List.not_mem_nil, not_false_eq_true] at hw
  ((unfold State.decideSet); (try simp only []); (repeat' split) <;> (try simp (maxDischargeDepth := 60) [hw, State.when, apply_ite Prod.snd]))

@[simp] theorem State.decideSet_parts (s : State) (d : Nat) :
    (State.decideSet s d).time = s.time ∧ (State.decideSet s d).cfg = s.cfg ∧ (State.decideSet s d).out = s.out ∧ (State.decideSet s d).freeCtr = s.freeCtr ∧ (State.decideSet s d).flt = s.flt ∧ (State.decideSet s d).phs = s.phs ∧ (State.decideSet s d).dom = s.dom ∧ (State.decideSet s d).eng = s.eng ∧ (State.decideSet s d).start = s.start ∧ (State.decideSet s d).bud = s.bud ∧ (State.decideSet s d).thm = s.thm ∧ (State.decideSet s d).hrd = s.hrd ∧ (State.decideSet s d).tlm = s.tlm ∧ (State.decideSet s d).cmd = s.cmd ∧ (State.decideSet s d).boot = s.boot ∧ (State.decideSet s d).adc = s.adc ∧ (State.decideSet s d).fw = s.fw ∧ (State.decideSet s d).lt = s.lt ∧ (State.decideSet s d).pending = s.pending := by
  refine ⟨?_, ?_, ?_, ?_, ?_, ?_, ?_, ?_, ?_, ?_, ?_, ?_, ?_, ?_, ?_, ?_, ?_, ?_, ?_⟩ <;> ((unfold State.decideSet); (try simp only []); (repeat' split) <;> (try simp (maxDischargeDepth := 60) [State.when, apply_ite Prod.snd]))

@[simp] theorem State.decideSet_ok (s : State) (d : Nat) (hok : s.fieldsOk) : (State.decideSet s d).fieldsOk := by
  ((unfold State.decideSet); (try simp only []); (repeat' split) <;> (try simp +contextual (maxDischargeDepth := 60) [hok, State.when, apply_ite Prod.snd]))

@[simp] theorem State.windowLoss_getF (s : State) (d i : Nat) (v : Int) (w : DroopWin) (fld : Fld) (itm : Nat) (hw : fld ∉ ([] : List Fld)) :
    (State.windowLoss s d i v w).2.getF fld itm = s.getF fld itm := by
  try simp only [List.mem_cons, not_or, List.not_mem_nil, not_false_eq_true] at hw
  simp (maxDischargeDepth := 60) [State.windowLoss, hw, apply_ite Prod.snd]

@[simp] theorem State.windowLoss_parts (s : State) (d i : Nat) (v : Int) (w : DroopWin) :
    (State.windowLoss s d i v w).2.time = s.time ∧ (State.windowLoss s d i v w).2.cfg = s.cfg ∧ (State.windowLoss s d i v w).2.raiseQ = s.raiseQ ∧ (State.windowLoss s d i v w).2.out = s.out ∧ (State.windowLoss s d i v w).2.flt = s.flt ∧ (State.windowLoss s d i v w).2.phs = s.phs ∧ (State.windowLoss s d i v w).2.dom = s.dom ∧ (State.windowLoss s d i v w).2.eng = s.eng ∧ (State.windowLoss s d i v w).2.start = s.start ∧ (State.windowLoss s d i v w).2.est = s.est ∧ (State.windowLoss s d i v w).2.bud = s.bud ∧ (State.windowLoss s d i v w).2.thm = s.thm ∧ (State.windowLoss s d i v w).2.hrd = s.hrd ∧ (State.windowLoss s d i v w).2.tlm = s.tlm ∧ (State.windowLoss s d i v w).2.cmd = s.cmd ∧ (State.windowLoss s d i v w).2.boot = s.boot ∧ (State.windowLoss s d i v w).2.adc = s.adc ∧ (State.windowLoss s d i v w).2.fw = s.fw ∧ (State.windowLoss s d i v w).2.lt = s.lt ∧ (State.windowLoss s d i v w).2.pending = s.pending := by
  refine ⟨?_, ?_, ?_, ?_, ?_, ?_, ?_, ?_, ?_, ?_, ?_, ?_, ?_, ?_, ?_, ?_, ?_, ?_, ?_, ?_⟩ <;> (simp (maxDischargeDepth := 60) [State.windowLoss, apply_ite Prod.snd])

@[simp] theorem State.windowLoss_ok (s : State) (d i : Nat) (v : Int) (w : DroopWin) (hok : s.fieldsOk) : (State.windowLoss s d i v w).2.fieldsOk := by
  simp +contextual (maxDischargeDepth := 60) [State.windowLoss, hok, apply_ite Prod.snd]

@[simp] theorem State.accWindow_getF (s : State) (d : Nat) (fld : Fld) (itm : Nat) (hw : fld ∉ ([] : List Fld)) :
    (State.accWindow s d).getF fld itm = s.getF fld itm := by
  try simp only [List.mem_cons, not_or, List.not_mem_nil, not_false_eq_true] at hw
  simp (maxDischargeDepth := 60) [State.accWindow, hw, apply_ite Prod.snd]

@[simp] theorem State.accWindow_parts (s : State) (d : Nat) :
    (State.accWindow s d).time = s.time ∧ (State.accWindow s d).cfg = s.cfg ∧ (State.accWindow s d).raiseQ = s.raiseQ ∧ (State.accWindow s d).out = s.out ∧ (State.accWindow s d).flt = s.flt ∧ (State.accWindow s d).phs = s.phs ∧ (State.accWindow s d).dom = s.dom ∧ (State.accWindow s d).eng = s.eng ∧ (State.accWindow s d).start = s.start ∧ (State.accWindow s d).est = s.est ∧ (State.accWindow s d).bud = s.bud ∧ (State.accWindow s d).thm = s.thm ∧ (State.accWindow s d).hrd = s.hrd ∧ (State.accWindow s d).cmd = s.cmd ∧ (State.accWindow s d).boot = s.boot ∧ (State.accWindow s d).adc = s.adc ∧ (State.accWindow s d).fw = s.fw ∧ (State.accWindow s d).lt = s.lt ∧ (State.accWindow s d).pending = s.pending := by
  refine ⟨?_, ?_, ?_, ?_, ?_, ?_, ?_, ?_, ?_, ?_, ?_, ?_, ?_, ?_, ?_, ?_, ?_, ?_, ?_⟩ <;> (simp (maxDischargeDepth := 60) [State.accWindow, apply_ite Prod.snd])

@[simp] theorem State.accWindow_ok (s : State) (d : Nat) (hok : s.fieldsOk) : (State.accWindow s d).fieldsOk := by
  simp +contextual (maxDischargeDepth := 60) [State.accWindow, hok, apply_ite Prod.snd]

@[simp] theorem State.publishDom_getF (s : State) (l : List (Nat × Nat)) (d n : Nat) (fld : Fld) (itm : Nat) (hw : fld ∉ ([.DOM_EST_CUR_EST_I, .DOM_EST_CUR_LEAK_I, .DOM_EST_EVENT_BOTH_INVALID, .DOM_EST_EVENT_STALE, .DOM_EST_EVENT_SUBST, .DOM_EST_PWR_P_EST, .DOM_EST_SCALE_SCALE, .DOM_EST_STATUS_EST_INVALID, .DOM_EST_STATUS_MEAS_INVALID, .DOM_EST_STATUS_STALE_ST, .DOM_MEAS_I_DOM] : List Fld)) :
    (State.publishDom s l d n).getF fld itm = s.getF fld itm := by
  try simp only [List.mem_cons, not_or, List.not_mem_nil, not_false_eq_true] at hw
  simp (maxDischargeDepth := 60) [State.publishDom, hw, apply_ite Prod.snd]

@[simp] theorem State.publishDom_parts (s : State) (l : List (Nat × Nat)) (d n : Nat) :
    (State.publishDom s l d n).time = s.time ∧ (State.publishDom s l d n).cfg = s.cfg ∧ (State.publishDom s l d n).out = s.out ∧ (State.publishDom s l d n).flt = s.flt ∧ (State.publishDom s l d n).phs = s.phs ∧ (State.publishDom s l d n).dom = s.dom ∧ (State.publishDom s l d n).eng = s.eng ∧ (State.publishDom s l d n).start = s.start ∧ (State.publishDom s l d n).bud = s.bud ∧ (State.publishDom s l d n).thm = s.thm ∧ (State.publishDom s l d n).hrd = s.hrd ∧ (State.publishDom s l d n).cmd = s.cmd ∧ (State.publishDom s l d n).boot = s.boot ∧ (State.publishDom s l d n).adc = s.adc ∧ (State.publishDom s l d n).fw = s.fw ∧ (State.publishDom s l d n).lt = s.lt ∧ (State.publishDom s l d n).pending = s.pending := by
  refine ⟨?_, ?_, ?_, ?_, ?_, ?_, ?_, ?_, ?_, ?_, ?_, ?_, ?_, ?_, ?_, ?_, ?_⟩ <;> (simp (maxDischargeDepth := 60) [State.publishDom, apply_ite Prod.snd])

@[simp] theorem State.publishDom_ok (s : State) (l : List (Nat × Nat)) (d n : Nat) (hok : s.fieldsOk) : (State.publishDom s l d n).fieldsOk := by
  simp +contextual (maxDischargeDepth := 60) [State.publishDom, hok, apply_ite Prod.snd]

@[simp] theorem State.publishNone_getF (s : State) (d : Nat) (fld : Fld) (itm : Nat) (hw : fld ∉ ([.DOM_EST_CUR_EST_I, .DOM_EST_CUR_LEAK_I, .DOM_EST_PWR_P_EST, .DOM_MEAS_I_DOM] : List Fld)) :
    (State.publishNone s d).getF fld itm = s.getF fld itm := by
  try simp only [List.mem_cons, not_or, List.not_mem_nil, not_false_eq_true] at hw
  simp (maxDischargeDepth := 60) [State.publishNone, hw, apply_ite Prod.snd]

@[simp] theorem State.publishNone_parts (s : State) (d : Nat) :
    (State.publishNone s d).time = s.time ∧ (State.publishNone s d).cfg = s.cfg ∧ (State.publishNone s d).raiseQ = s.raiseQ ∧ (State.publishNone s d).out = s.out ∧ (State.publishNone s d).freeCtr = s.freeCtr ∧ (State.publishNone s d).flt = s.flt ∧ (State.publishNone s d).phs = s.phs ∧ (State.publishNone s d).dom = s.dom ∧ (State.publishNone s d).eng = s.eng ∧ (State.publishNone s d).start = s.start ∧ (State.publishNone s d).bud = s.bud ∧ (State.publishNone s d).thm = s.thm ∧ (State.publishNone s d).hrd = s.hrd ∧ (State.publishNone s d).tlm = s.tlm ∧ (State.publishNone s d).cmd = s.cmd ∧ (State.publishNone s d).boot = s.boot ∧ (State.publishNone s d).adc = s.adc ∧ (State.publishNone s d).fw = s.fw ∧ (State.publishNone s d).lt = s.lt ∧ (State.publishNone s d).pending = s.pending := by
  refine ⟨?_, ?_, ?_, ?_, ?_, ?_, ?_, ?_, ?_, ?_, ?_, ?_, ?_, ?_, ?_, ?_, ?_, ?_, ?_, ?_⟩ <;> (simp (maxDischargeDepth := 60) [State.publishNone, apply_ite Prod.snd])

@[simp] theorem State.publishNone_ok (s : State) (d : Nat) (hok : s.fieldsOk) : (State.publishNone s d).fieldsOk := by
  simp +contextual (maxDischargeDepth := 60) [State.publishNone, hok, apply_ite Prod.snd]

@[simp] theorem State.pulseWatch_getF (s : State) (iStack : Nat) (fld : Fld) (itm : Nat) (hw : fld ∉ ([.DOM_BUD_GOV_PULSE] : List Fld)) :
    (State.pulseWatch s iStack).getF fld itm = s.getF fld itm := by
  try simp only [List.mem_cons, not_or, List.not_mem_nil, not_false_eq_true] at hw
  simp (maxDischargeDepth := 60) [State.pulseWatch, hw, apply_ite Prod.snd]

@[simp] theorem State.pulseWatch_parts (s : State) (iStack : Nat) :
    (State.pulseWatch s iStack).time = s.time ∧ (State.pulseWatch s iStack).cfg = s.cfg ∧ (State.pulseWatch s iStack).raiseQ = s.raiseQ ∧ (State.pulseWatch s iStack).out = s.out ∧ (State.pulseWatch s iStack).freeCtr = s.freeCtr ∧ (State.pulseWatch s iStack).flt = s.flt ∧ (State.pulseWatch s iStack).phs = s.phs ∧ (State.pulseWatch s iStack).dom = s.dom ∧ (State.pulseWatch s iStack).eng = s.eng ∧ (State.pulseWatch s iStack).start = s.start ∧ (State.pulseWatch s iStack).est = s.est ∧ (State.pulseWatch s iStack).thm = s.thm ∧ (State.pulseWatch s iStack).hrd = s.hrd ∧ (State.pulseWatch s iStack).tlm = s.tlm ∧ (State.pulseWatch s iStack).cmd = s.cmd ∧ (State.pulseWatch s iStack).boot = s.boot ∧ (State.pulseWatch s iStack).adc = s.adc ∧ (State.pulseWatch s iStack).fw = s.fw ∧ (State.pulseWatch s iStack).lt = s.lt ∧ (State.pulseWatch s iStack).pending = s.pending := by
  refine ⟨?_, ?_, ?_, ?_, ?_, ?_, ?_, ?_, ?_, ?_, ?_, ?_, ?_, ?_, ?_, ?_, ?_, ?_, ?_, ?_⟩ <;> (simp (maxDischargeDepth := 60) [State.pulseWatch, apply_ite Prod.snd])

@[simp] theorem State.pulseWatch_ok (s : State) (iStack : Nat) (hok : s.fieldsOk) : (State.pulseWatch s iStack).fieldsOk := by
  simp +contextual (maxDischargeDepth := 60) [State.pulseWatch, hok, apply_ite Prod.snd]

@[simp] theorem State.closeWindow_getF (s : State) (fld : Fld) (itm : Nat) (hw : fld ∉ ([] : List Fld)) :
    (State.closeWindow s).getF fld itm = s.getF fld itm := by
  try simp only [List.mem_cons, not_or, List.not_mem_nil, not_false_eq_true] at hw
  simp (maxDischargeDepth := 60) [State.closeWindow, hw, apply_ite Prod.snd]

@[simp] theorem State.closeWindow_parts (s : State) :
    (State.closeWindow s).time = s.time ∧ (State.closeWindow s).cfg = s.cfg ∧ (State.closeWindow s).raiseQ = s.raiseQ ∧ (State.closeWindow s).out = s.out ∧ (State.closeWindow s).freeCtr = s.freeCtr ∧ (State.closeWindow s).flt = s.flt ∧ (State.closeWindow s).phs = s.phs ∧ (State.closeWindow s).dom = s.dom ∧ (State.closeWindow s).eng = s.eng ∧ (State.closeWindow s).start = s.start ∧ (State.closeWindow s).bud = s.bud ∧ (State.closeWindow s).thm = s.thm ∧ (State.closeWindow s).hrd = s.hrd ∧ (State.closeWindow s).cmd = s.cmd ∧ (State.closeWindow s).boot = s.boot ∧ (State.closeWindow s).adc = s.adc ∧ (State.closeWindow s).fw = s.fw ∧ (State.closeWindow s).lt = s.lt ∧ (State.closeWindow s).pending = s.pending := by
  refine ⟨?_, ?_, ?_, ?_, ?_, ?_, ?_, ?_, ?_, ?_, ?_, ?_, ?_, ?_, ?_, ?_, ?_, ?_, ?_⟩ <;> (simp (maxDischargeDepth := 60) [State.closeWindow, apply_ite Prod.snd])

@[simp] theorem State.closeWindow_ok (s : State) (hok : s.fieldsOk) : (State.closeWindow s).fieldsOk := by
  simp +contextual (maxDischargeDepth := 60) [State.closeWindow, hok, apply_ite Prod.snd]

@[simp] theorem State.publishStack_getF (s : State) (fld : Fld) (itm : Nat) (hw : fld ∉ ([.DOM_BUD_GOV_PULSE, .DOM_EST_STACK_EST_STACK, .DOM_EST_STACK_SUBST_DOMS] : List Fld)) :
    (State.publishStack s).getF fld itm = s.getF fld itm := by
  try simp only [List.mem_cons, not_or, List.not_mem_nil, not_false_eq_true] at hw
  simp (maxDischargeDepth := 60) [State.publishStack, hw, apply_ite Prod.snd]

@[simp] theorem State.publishStack_parts (s : State) :
    (State.publishStack s).time = s.time ∧ (State.publishStack s).cfg = s.cfg ∧ (State.publishStack s).raiseQ = s.raiseQ ∧ (State.publishStack s).out = s.out ∧ (State.publishStack s).freeCtr = s.freeCtr ∧ (State.publishStack s).flt = s.flt ∧ (State.publishStack s).phs = s.phs ∧ (State.publishStack s).dom = s.dom ∧ (State.publishStack s).eng = s.eng ∧ (State.publishStack s).start = s.start ∧ (State.publishStack s).thm = s.thm ∧ (State.publishStack s).hrd = s.hrd ∧ (State.publishStack s).cmd = s.cmd ∧ (State.publishStack s).boot = s.boot ∧ (State.publishStack s).adc = s.adc ∧ (State.publishStack s).fw = s.fw ∧ (State.publishStack s).lt = s.lt ∧ (State.publishStack s).pending = s.pending := by
  refine ⟨?_, ?_, ?_, ?_, ?_, ?_, ?_, ?_, ?_, ?_, ?_, ?_, ?_, ?_, ?_, ?_, ?_, ?_⟩ <;> (simp (maxDischargeDepth := 60) [State.publishStack, apply_ite Prod.snd])

@[simp] theorem State.publishStack_ok (s : State) (hok : s.fieldsOk) : (State.publishStack s).fieldsOk := by
  simp +contextual (maxDischargeDepth := 60) [State.publishStack, hok, apply_ite Prod.snd]

@[simp] theorem State.lmsUpdate_getF (s : State) (d upto : Nat) (fld : Fld) (itm : Nat) (hw : fld ∉ ([.DOM_EST_W_W0, .DOM_EST_W_W1, .DOM_EST_W_W2, .DOM_EST_W_W3] : List Fld)) :
    (State.lmsUpdate s d upto).getF fld itm = s.getF fld itm := by
  try simp only [List.mem_cons, not_or, List.not_mem_nil, not_false_eq_true] at hw
  have hm : ∀ c, fld ≠ weightFld c := by
    intro c h
    unfold weightFld at h
    split at h <;> simp [h] at hw
  unfold State.lmsUpdate
  simp only []
  split
  · rfl
  · rw [getF_foldl]
    · simp
    · intro t x
      split
      · rfl
      · simp [hm]

@[simp] theorem State.lmsUpdate_parts (s : State) (d upto : Nat) :
    (State.lmsUpdate s d upto).time = s.time ∧ (State.lmsUpdate s d upto).cfg = s.cfg ∧ (State.lmsUpdate s d upto).raiseQ = s.raiseQ ∧ (State.lmsUpdate s d upto).out = s.out ∧ (State.lmsUpdate s d upto).freeCtr = s.freeCtr ∧ (State.lmsUpdate s d upto).flt = s.flt ∧ (State.lmsUpdate s d upto).phs = s.phs ∧ (State.lmsUpdate s d upto).dom = s.dom ∧ (State.lmsUpdate s d upto).eng = s.eng ∧ (State.lmsUpdate s d upto).start = s.start ∧ (State.lmsUpdate s d upto).bud = s.bud ∧ (State.lmsUpdate s d upto).thm = s.thm ∧ (State.lmsUpdate s d upto).hrd = s.hrd ∧ (State.lmsUpdate s d upto).tlm = s.tlm ∧ (State.lmsUpdate s d upto).cmd = s.cmd ∧ (State.lmsUpdate s d upto).boot = s.boot ∧ (State.lmsUpdate s d upto).adc = s.adc ∧ (State.lmsUpdate s d upto).fw = s.fw ∧ (State.lmsUpdate s d upto).lt = s.lt ∧ (State.lmsUpdate s d upto).pending = s.pending := by
  refine ⟨?_, ?_, ?_, ?_, ?_, ?_, ?_, ?_, ?_, ?_, ?_, ?_, ?_, ?_, ?_, ?_, ?_, ?_, ?_, ?_⟩ <;> (simp (maxDischargeDepth := 60) [State.lmsUpdate, apply_ite Prod.snd])

@[simp] theorem State.lmsUpdate_ok (s : State) (d upto : Nat) (hok : s.fieldsOk) : (State.lmsUpdate s d upto).fieldsOk := by
  simp +contextual (maxDischargeDepth := 60) [State.lmsUpdate, hok, apply_ite Prod.snd]

@[simp] theorem State.calibrate_getF (s : State) (d : Nat) (fld : Fld) (itm : Nat) (hw : fld ∉ ([.DOM_EST_EVENT_DISAGREE, .DOM_EST_MEAN_MEAN_EST, .DOM_EST_MEAN_MEAN_MEAS, .DOM_EST_STATUS_DIS_COUNT, .DOM_EST_STATUS_HOLD_CAUSE, .DOM_EST_STATUS_RUN, .DOM_EST_STATUS_STATE, .DOM_EST_W_W0, .DOM_EST_W_W1, .DOM_EST_W_W2, .DOM_EST_W_W3] : List Fld)) :
    (State.calibrate s d).getF fld itm = s.getF fld itm := by
  try simp only [List.mem_cons, not_or, List.not_mem_nil, not_false_eq_true] at hw
  simp (maxDischargeDepth := 60) [State.calibrate, hw, apply_ite Prod.snd]

@[simp] theorem State.calibrate_parts (s : State) (d : Nat) :
    (State.calibrate s d).time = s.time ∧ (State.calibrate s d).cfg = s.cfg ∧ (State.calibrate s d).out = s.out ∧ (State.calibrate s d).freeCtr = s.freeCtr ∧ (State.calibrate s d).flt = s.flt ∧ (State.calibrate s d).phs = s.phs ∧ (State.calibrate s d).dom = s.dom ∧ (State.calibrate s d).eng = s.eng ∧ (State.calibrate s d).start = s.start ∧ (State.calibrate s d).bud = s.bud ∧ (State.calibrate s d).thm = s.thm ∧ (State.calibrate s d).hrd = s.hrd ∧ (State.calibrate s d).tlm = s.tlm ∧ (State.calibrate s d).cmd = s.cmd ∧ (State.calibrate s d).boot = s.boot ∧ (State.calibrate s d).adc = s.adc ∧ (State.calibrate s d).fw = s.fw ∧ (State.calibrate s d).lt = s.lt ∧ (State.calibrate s d).pending = s.pending := by
  refine ⟨?_, ?_, ?_, ?_, ?_, ?_, ?_, ?_, ?_, ?_, ?_, ?_, ?_, ?_, ?_, ?_, ?_, ?_, ?_⟩ <;> (simp (maxDischargeDepth := 60) [State.calibrate, apply_ite Prod.snd])

@[simp] theorem State.calibrate_ok (s : State) (d : Nat) (hok : s.fieldsOk) : (State.calibrate s d).fieldsOk := by
  simp +contextual (maxDischargeDepth := 60) [State.calibrate, hok, apply_ite Prod.snd]

@[simp] theorem State.discardUpdate_getF (s : State) (d upto : Nat) (fld : Fld) (itm : Nat) (hw : fld ∉ ([.DOM_EST_W_W0, .DOM_EST_W_W1, .DOM_EST_W_W2, .DOM_EST_W_W3] : List Fld)) :
    (State.discardUpdate s d upto).getF fld itm = s.getF fld itm := by
  try simp only [List.mem_cons, not_or, List.not_mem_nil, not_false_eq_true] at hw
  have hm : ∀ c, fld ≠ weightFld c := by
    intro c h
    unfold weightFld at h
    split at h <;> simp [h] at hw
  unfold State.discardUpdate
  simp only []
  split
  · split
    · rfl
    · rw [getF_foldl]
      · simp
      · intro t x
        simp [hm]
  · rfl

@[simp] theorem State.discardUpdate_parts (s : State) (d upto : Nat) :
    (State.discardUpdate s d upto).time = s.time ∧ (State.discardUpdate s d upto).cfg = s.cfg ∧ (State.discardUpdate s d upto).raiseQ = s.raiseQ ∧ (State.discardUpdate s d upto).out = s.out ∧ (State.discardUpdate s d upto).freeCtr = s.freeCtr ∧ (State.discardUpdate s d upto).flt = s.flt ∧ (State.discardUpdate s d upto).phs = s.phs ∧ (State.discardUpdate s d upto).dom = s.dom ∧ (State.discardUpdate s d upto).eng = s.eng ∧ (State.discardUpdate s d upto).start = s.start ∧ (State.discardUpdate s d upto).bud = s.bud ∧ (State.discardUpdate s d upto).thm = s.thm ∧ (State.discardUpdate s d upto).hrd = s.hrd ∧ (State.discardUpdate s d upto).tlm = s.tlm ∧ (State.discardUpdate s d upto).cmd = s.cmd ∧ (State.discardUpdate s d upto).boot = s.boot ∧ (State.discardUpdate s d upto).adc = s.adc ∧ (State.discardUpdate s d upto).fw = s.fw ∧ (State.discardUpdate s d upto).lt = s.lt ∧ (State.discardUpdate s d upto).pending = s.pending := by
  refine ⟨?_, ?_, ?_, ?_, ?_, ?_, ?_, ?_, ?_, ?_, ?_, ?_, ?_, ?_, ?_, ?_, ?_, ?_, ?_, ?_⟩ <;> ((unfold State.discardUpdate); (try simp only []); (repeat' split) <;> (try simp (maxDischargeDepth := 60) [State.when, apply_ite Prod.snd]))

@[simp] theorem State.discardUpdate_ok (s : State) (d upto : Nat) (hok : s.fieldsOk) : (State.discardUpdate s d upto).fieldsOk := by
  ((unfold State.discardUpdate); (try simp only []); (repeat' split) <;> (try simp +contextual (maxDischargeDepth := 60) [hok, State.when, apply_ite Prod.snd]))

@[simp] theorem State.commitParam_getF (s : State) (f : Fld) (i upto : Nat) (fld : Fld) (itm : Nat) (hw : fld ∉ ([.DOM_EST_W_W0, .DOM_EST_W_W1, .DOM_EST_W_W2, .DOM_EST_W_W3, f] : List Fld)) :
    (State.commitParam s f i upto).getF fld itm = s.getF fld itm := by
  try simp only [List.mem_cons, not_or, List.not_mem_nil, not_false_eq_true] at hw
  simp (maxDischargeDepth := 60) [State.commitParam, hw, apply_ite Prod.snd]

@[simp] theorem State.commitParam_parts (s : State) (f : Fld) (i upto : Nat) :
    (State.commitParam s f i upto).time = s.time ∧ (State.commitParam s f i upto).cfg = s.cfg ∧ (State.commitParam s f i upto).raiseQ = s.raiseQ ∧ (State.commitParam s f i upto).out = s.out ∧ (State.commitParam s f i upto).freeCtr = s.freeCtr ∧ (State.commitParam s f i upto).flt = s.flt ∧ (State.commitParam s f i upto).phs = s.phs ∧ (State.commitParam s f i upto).dom = s.dom ∧ (State.commitParam s f i upto).eng = s.eng ∧ (State.commitParam s f i upto).start = s.start ∧ (State.commitParam s f i upto).bud = s.bud ∧ (State.commitParam s f i upto).thm = s.thm ∧ (State.commitParam s f i upto).hrd = s.hrd ∧ (State.commitParam s f i upto).tlm = s.tlm ∧ (State.commitParam s f i upto).cmd = s.cmd ∧ (State.commitParam s f i upto).boot = s.boot ∧ (State.commitParam s f i upto).adc = s.adc ∧ (State.commitParam s f i upto).fw = s.fw ∧ (State.commitParam s f i upto).lt = s.lt ∧ (State.commitParam s f i upto).pending = s.pending := by
  refine ⟨?_, ?_, ?_, ?_, ?_, ?_, ?_, ?_, ?_, ?_, ?_, ?_, ?_, ?_, ?_, ?_, ?_, ?_, ?_, ?_⟩ <;> (simp (maxDischargeDepth := 60) [State.commitParam, apply_ite Prod.snd])

@[simp] theorem State.commitParam_ok (s : State) (f : Fld) (i upto : Nat) (hok : s.fieldsOk) : (State.commitParam s f i upto).fieldsOk := by
  simp +contextual (maxDischargeDepth := 60) [State.commitParam, hok, apply_ite Prod.snd]

@[simp] theorem State.estCommit_getF (s : State) (d : Nat) (fld : Fld) (itm : Nat) (hw : fld ∉ ([] : List Fld)) :
    (State.estCommit s d).getF fld itm = s.getF fld itm := by
  try simp only [List.mem_cons, not_or, List.not_mem_nil, not_false_eq_true] at hw
  simp (maxDischargeDepth := 60) [State.estCommit, hw, apply_ite Prod.snd]

@[simp] theorem State.estCommit_parts (s : State) (d : Nat) :
    (State.estCommit s d).time = s.time ∧ (State.estCommit s d).cfg = s.cfg ∧ (State.estCommit s d).raiseQ = s.raiseQ ∧ (State.estCommit s d).out = s.out ∧ (State.estCommit s d).freeCtr = s.freeCtr ∧ (State.estCommit s d).flt = s.flt ∧ (State.estCommit s d).phs = s.phs ∧ (State.estCommit s d).dom = s.dom ∧ (State.estCommit s d).eng = s.eng ∧ (State.estCommit s d).start = s.start ∧ (State.estCommit s d).bud = s.bud ∧ (State.estCommit s d).thm = s.thm ∧ (State.estCommit s d).hrd = s.hrd ∧ (State.estCommit s d).tlm = s.tlm ∧ (State.estCommit s d).cmd = s.cmd ∧ (State.estCommit s d).boot = s.boot ∧ (State.estCommit s d).adc = s.adc ∧ (State.estCommit s d).fw = s.fw ∧ (State.estCommit s d).lt = s.lt ∧ (State.estCommit s d).pending = s.pending := by
  refine ⟨?_, ?_, ?_, ?_, ?_, ?_, ?_, ?_, ?_, ?_, ?_, ?_, ?_, ?_, ?_, ?_, ?_, ?_, ?_, ?_⟩ <;> (simp (maxDischargeDepth := 60) [State.estCommit, apply_ite Prod.snd])

@[simp] theorem State.estCommit_ok (s : State) (d : Nat) (hok : s.fieldsOk) : (State.estCommit s d).fieldsOk := by
  simp +contextual (maxDischargeDepth := 60) [State.estCommit, hok, apply_ite Prod.snd]

@[simp] theorem State.weightCommit_getF (s : State) (d c : Nat) (fld : Fld) (itm : Nat) (hw : fld ∉ ([.DOM_EST_W_W0, .DOM_EST_W_W1, .DOM_EST_W_W2, .DOM_EST_W_W3] : List Fld)) :
    (State.weightCommit s d c).getF fld itm = s.getF fld itm := by
  try simp only [List.mem_cons, not_or, List.not_mem_nil, not_false_eq_true] at hw
  simp (maxDischargeDepth := 60) [State.weightCommit, hw, apply_ite Prod.snd]

@[simp] theorem State.weightCommit_parts (s : State) (d c : Nat) :
    (State.weightCommit s d c).time = s.time ∧ (State.weightCommit s d c).cfg = s.cfg ∧ (State.weightCommit s d c).raiseQ = s.raiseQ ∧ (State.weightCommit s d c).out = s.out ∧ (State.weightCommit s d c).freeCtr = s.freeCtr ∧ (State.weightCommit s d c).flt = s.flt ∧ (State.weightCommit s d c).phs = s.phs ∧ (State.weightCommit s d c).dom = s.dom ∧ (State.weightCommit s d c).eng = s.eng ∧ (State.weightCommit s d c).start = s.start ∧ (State.weightCommit s d c).bud = s.bud ∧ (State.weightCommit s d c).thm = s.thm ∧ (State.weightCommit s d c).hrd = s.hrd ∧ (State.weightCommit s d c).tlm = s.tlm ∧ (State.weightCommit s d c).cmd = s.cmd ∧ (State.weightCommit s d c).boot = s.boot ∧ (State.weightCommit s d c).adc = s.adc ∧ (State.weightCommit s d c).fw = s.fw ∧ (State.weightCommit s d c).lt = s.lt ∧ (State.weightCommit s d c).pending = s.pending := by
  refine ⟨?_, ?_, ?_, ?_, ?_, ?_, ?_, ?_, ?_, ?_, ?_, ?_, ?_, ?_, ?_, ?_, ?_, ?_, ?_, ?_⟩ <;> (simp (maxDischargeDepth := 60) [State.weightCommit, apply_ite Prod.snd])

@[simp] theorem State.weightCommit_ok (s : State) (d c : Nat) (hok : s.fieldsOk) : (State.weightCommit s d c).fieldsOk := by
  simp +contextual (maxDischargeDepth := 60) [State.weightCommit, hok, apply_ite Prod.snd]

@[simp] theorem State.estCommitFld_getF (s : State) (f : Fld) (i : Nat) (fld : Fld) (itm : Nat) (hw : fld ∉ ([.DOM_EST_ADAPT_ADAPT_EN, .DOM_EST_LEAK_L_EVEN, .DOM_EST_LEAK_L_ODD, .DOM_EST_SCALE_LK_TRIM, .DOM_EST_SCALE_SCALE, .DOM_EST_W_W0, .DOM_EST_W_W1, .DOM_EST_W_W2, .DOM_EST_W_W3, f] : List Fld)) :
    (State.estCommitFld s f i).getF fld itm = s.getF fld itm := by
  try simp only [List.mem_cons, not_or, List.not_mem_nil, not_false_eq_true] at hw
  ((unfold State.estCommitFld); (try simp only []); (repeat' split) <;> (try simp (maxDischargeDepth := 60) [hw, State.when, apply_ite Prod.snd]))

@[simp] theorem State.estCommitFld_parts (s : State) (f : Fld) (i : Nat) :
    (State.estCommitFld s f i).time = s.time ∧ (State.estCommitFld s f i).cfg = s.cfg ∧ (State.estCommitFld s f i).raiseQ = s.raiseQ ∧ (State.estCommitFld s f i).out = s.out ∧ (State.estCommitFld s f i).freeCtr = s.freeCtr ∧ (State.estCommitFld s f i).flt = s.flt ∧ (State.estCommitFld s f i).phs = s.phs ∧ (State.estCommitFld s f i).dom = s.dom ∧ (State.estCommitFld s f i).eng = s.eng ∧ (State.estCommitFld s f i).start = s.start ∧ (State.estCommitFld s f i).bud = s.bud ∧ (State.estCommitFld s f i).thm = s.thm ∧ (State.estCommitFld s f i).hrd = s.hrd ∧ (State.estCommitFld s f i).tlm = s.tlm ∧ (State.estCommitFld s f i).cmd = s.cmd ∧ (State.estCommitFld s f i).boot = s.boot ∧ (State.estCommitFld s f i).adc = s.adc ∧ (State.estCommitFld s f i).fw = s.fw ∧ (State.estCommitFld s f i).lt = s.lt ∧ (State.estCommitFld s f i).pending = s.pending := by
  refine ⟨?_, ?_, ?_, ?_, ?_, ?_, ?_, ?_, ?_, ?_, ?_, ?_, ?_, ?_, ?_, ?_, ?_, ?_, ?_, ?_⟩ <;> ((unfold State.estCommitFld); (try simp only []); (repeat' split) <;> (try simp (maxDischargeDepth := 60) [State.when, apply_ite Prod.snd]))

@[simp] theorem State.estCommitFld_ok (s : State) (f : Fld) (i : Nat) (hok : s.fieldsOk) : (State.estCommitFld s f i).fieldsOk := by
  ((unfold State.estCommitFld); (try simp only []); (repeat' split) <;> (try simp +contextual (maxDischargeDepth := 60) [hok, State.when, apply_ite Prod.snd]))

end Sys2Proof.Machine
end

