-- ==== Sys2Proof/Laws/BudOps.lean ====
section
/-! SUPPORT. What each budget operation can do: the fields it may write, the parts of the state it keeps, and that it keeps
the register table in its canonical form. -/

namespace Sys2Proof.Machine
open Host (Outcome)
set_option maxRecDepth 4000
set_option linter.unusedSimpArgs false
set_option linter.unusedVariables false
set_option linter.unreachableTactic false
set_option linter.unusedTactic false

@[simp] theorem State.endPulse_getF (s : State) (fld : Fld) (itm : Nat) (hw : fld ∉ ([.DOM_BUD_GOV_PULSE] : List Fld)) :
    (State.endPulse s).getF fld itm = s.getF fld itm := by
  try simp only [List.mem_cons, not_or, List.not_mem_nil, not_false_eq_true] at hw
  simp (maxDischargeDepth := 60) [State.endPulse, hw, apply_ite Prod.snd]

@[simp] theorem State.endPulse_parts (s : State) :
    (State.endPulse s).time = s.time ∧ (State.endPulse s).cfg = s.cfg ∧ (State.endPulse s).raiseQ = s.raiseQ ∧ (State.endPulse s).out = s.out ∧ (State.endPulse s).freeCtr = s.freeCtr ∧ (State.endPulse s).flt = s.flt ∧ (State.endPulse s).phs = s.phs ∧ (State.endPulse s).dom = s.dom ∧ (State.endPulse s).eng = s.eng ∧ (State.endPulse s).start = s.start ∧ (State.endPulse s).est = s.est ∧ (State.endPulse s).thm = s.thm ∧ (State.endPulse s).hrd = s.hrd ∧ (State.endPulse s).tlm = s.tlm ∧ (State.endPulse s).cmd = s.cmd ∧ (State.endPulse s).boot = s.boot ∧ (State.endPulse s).adc = s.adc ∧ (State.endPulse s).fw = s.fw ∧ (State.endPulse s).lt = s.lt ∧ (State.endPulse s).pending = s.pending := by
  refine ⟨?_, ?_, ?_, ?_, ?_, ?_, ?_, ?_, ?_, ?_, ?_, ?_, ?_, ?_, ?_, ?_, ?_, ?_, ?_, ?_⟩ <;> (simp (maxDischargeDepth := 60) [State.endPulse, apply_ite Prod.snd])

@[simp] theorem State.endPulse_ok (s : State) (hok : s.fieldsOk) : (State.endPulse s).fieldsOk := by
  simp +contextual (maxDischargeDepth := 60) [State.endPulse, hok, apply_ite Prod.snd]

@[simp] theorem State.governedMove_getF (s : State) (fld : Fld) (itm : Nat) (hw : fld ∉ ([.DOM_BUD_COUNT_GOV_COUNT, .DOM_BUD_EVENT_GOVERNED_EV, .DOM_BUD_GOV_GOVERNED, .DOM_BUD_GOV_PULSE] : List Fld)) :
    (State.governedMove s).getF fld itm = s.getF fld itm := by
  try simp only [List.mem_cons, not_or, List.not_mem_nil, not_false_eq_true] at hw
  simp (maxDischargeDepth := 60) [State.governedMove, hw, apply_ite Prod.snd]

@[simp] theorem State.governedMove_parts (s : State) :
    (State.governedMove s).time = s.time ∧ (State.governedMove s).cfg = s.cfg ∧ (State.governedMove s).out = s.out ∧ (State.governedMove s).freeCtr = s.freeCtr ∧ (State.governedMove s).flt = s.flt ∧ (State.governedMove s).phs = s.phs ∧ (State.governedMove s).dom = s.dom ∧ (State.governedMove s).eng = s.eng ∧ (State.governedMove s).start = s.start ∧ (State.governedMove s).est = s.est ∧ (State.governedMove s).thm = s.thm ∧ (State.governedMove s).hrd = s.hrd ∧ (State.governedMove s).tlm = s.tlm ∧ (State.governedMove s).cmd = s.cmd ∧ (State.governedMove s).boot = s.boot ∧ (State.governedMove s).adc = s.adc ∧ (State.governedMove s).fw = s.fw ∧ (State.governedMove s).lt = s.lt ∧ (State.governedMove s).pending = s.pending := by
  refine ⟨?_, ?_, ?_, ?_, ?_, ?_, ?_, ?_, ?_, ?_, ?_, ?_, ?_, ?_, ?_, ?_, ?_, ?_, ?_⟩ <;> (simp (maxDischargeDepth := 60) [State.governedMove, apply_ite Prod.snd])

@[simp] theorem State.governedMove_ok (s : State) (hok : s.fieldsOk) : (State.governedMove s).fieldsOk := by
  simp +contextual (maxDischargeDepth := 60) [State.governedMove, hok, apply_ite Prod.snd]

@[simp] theorem State.setFG_getF (s : State) (f : Nat) (fld : Fld) (itm : Nat) (hw : fld ∉ ([.CEL_STATUS_SETPT, .CE_SLOT_STATUS_SAT, .DOM_BUD_GOV_F_G, .DOM_SETPT_VEFF, .DOM_START_STATUS_SLOPE_EFF, .DOM_STATUS_STEP, .GLB_VSTK_STATUS_CLAMPED, .GLB_VSTK_STATUS_VSTK_CODE, .PHS_GRP_REF_VREF, .PHS_GRP_TON_TON_BASE, .PHS_PH_STATUS_TRIM] : List Fld)) :
    (State.setFG s f).getF fld itm = s.getF fld itm := by
  try simp only [List.mem_cons, not_or, List.not_mem_nil, not_false_eq_true] at hw
  simp (maxDischargeDepth := 60) [State.setFG, hw, apply_ite Prod.snd]

@[simp] theorem State.setFG_parts (s : State) (f : Nat) :
    (State.setFG s f).time = s.time ∧ (State.setFG s f).cfg = s.cfg ∧ (State.setFG s f).raiseQ = s.raiseQ ∧ (State.setFG s f).flt = s.flt ∧ (State.setFG s f).phs = s.phs ∧ (State.setFG s f).est = s.est ∧ (State.setFG s f).thm = s.thm ∧ (State.setFG s f).hrd = s.hrd ∧ (State.setFG s f).cmd = s.cmd ∧ (State.setFG s f).boot = s.boot ∧ (State.setFG s f).adc = s.adc ∧ (State.setFG s f).fw = s.fw ∧ (State.setFG s f).lt = s.lt ∧ (State.setFG s f).pending = s.pending := by
  refine ⟨?_, ?_, ?_, ?_, ?_, ?_, ?_, ?_, ?_, ?_, ?_, ?_, ?_, ?_⟩ <;> (simp (maxDischargeDepth := 60) [State.setFG, apply_ite Prod.snd])

@[simp] theorem State.setFG_ok (s : State) (f : Nat) (hok : s.fieldsOk) : (State.setFG s f).fieldsOk := by
  simp +contextual (maxDischargeDepth := 60) [State.setFG, hok, apply_ite Prod.snd]

@[simp] theorem State.govern_getF (s : State) (fld : Fld) (itm : Nat) (hw : fld ∉ ([.CEL_STATUS_SETPT, .CE_SLOT_STATUS_SAT, .DOM_BUD_COUNT_GOV_COUNT, .DOM_BUD_EVENT_GOVERNED_EV, .DOM_BUD_EVENT_PEAK_EV, .DOM_BUD_GOV_F_G, .DOM_BUD_GOV_GOVERNED, .DOM_BUD_GOV_PULSE, .DOM_SETPT_VEFF, .DOM_START_STATUS_SLOPE_EFF, .DOM_STATUS_STEP, .GLB_FW_IL_SET, .GLB_VSTK_STATUS_CLAMPED, .GLB_VSTK_STATUS_VSTK_CODE, .PHS_GRP_REF_VREF, .PHS_GRP_TON_TON_BASE, .PHS_PH_STATUS_TRIM] : List Fld)) :
    (State.govern s).getF fld itm = s.getF fld itm := by
  try simp only [List.mem_cons, not_or, List.not_mem_nil, not_false_eq_true] at hw
  simp (maxDischargeDepth := 60) [State.govern, hw, apply_ite Prod.snd]

@[simp] theorem State.govern_parts (s : State) :
    (State.govern s).time = s.time ∧ (State.govern s).cfg = s.cfg ∧ (State.govern s).flt = s.flt ∧ (State.govern s).phs = s.phs ∧ (State.govern s).est = s.est ∧ (State.govern s).thm = s.thm ∧ (State.govern s).hrd = s.hrd ∧ (State.govern s).cmd = s.cmd ∧ (State.govern s).boot = s.boot ∧ (State.govern s).adc = s.adc ∧ (State.govern s).fw = s.fw ∧ (State.govern s).lt = s.lt ∧ (State.govern s).pending = s.pending := by
  refine ⟨?_, ?_, ?_, ?_, ?_, ?_, ?_, ?_, ?_, ?_, ?_, ?_, ?_⟩ <;> (simp (maxDischargeDepth := 60) [State.govern, apply_ite Prod.snd])

@[simp] theorem State.govern_ok (s : State) (hok : s.fieldsOk) : (State.govern s).fieldsOk := by
  simp +contextual (maxDischargeDepth := 60) [State.govern, hok, apply_ite Prod.snd]

@[simp] theorem State.sendSlopes_getF (s : State) (c : Nat) (fld : Fld) (itm : Nat) (hw : fld ∉ ([] : List Fld)) :
    (State.sendSlopes s c).getF fld itm = s.getF fld itm := by
  try simp only [List.mem_cons, not_or, List.not_mem_nil, not_false_eq_true] at hw
  simp (maxDischargeDepth := 60) [State.sendSlopes, hw, apply_ite Prod.snd]

@[simp] theorem State.sendSlopes_parts (s : State) (c : Nat) :
    (State.sendSlopes s c).time = s.time ∧ (State.sendSlopes s c).cfg = s.cfg ∧ (State.sendSlopes s c).raiseQ = s.raiseQ ∧ (State.sendSlopes s c).freeCtr = s.freeCtr ∧ (State.sendSlopes s c).flt = s.flt ∧ (State.sendSlopes s c).phs = s.phs ∧ (State.sendSlopes s c).dom = s.dom ∧ (State.sendSlopes s c).eng = s.eng ∧ (State.sendSlopes s c).start = s.start ∧ (State.sendSlopes s c).est = s.est ∧ (State.sendSlopes s c).thm = s.thm ∧ (State.sendSlopes s c).hrd = s.hrd ∧ (State.sendSlopes s c).tlm = s.tlm ∧ (State.sendSlopes s c).cmd = s.cmd ∧ (State.sendSlopes s c).boot = s.boot ∧ (State.sendSlopes s c).adc = s.adc ∧ (State.sendSlopes s c).fw = s.fw ∧ (State.sendSlopes s c).lt = s.lt ∧ (State.sendSlopes s c).pending = s.pending := by
  refine ⟨?_, ?_, ?_, ?_, ?_, ?_, ?_, ?_, ?_, ?_, ?_, ?_, ?_, ?_, ?_, ?_, ?_, ?_, ?_⟩ <;> (simp (maxDischargeDepth := 60) [State.sendSlopes, apply_ite Prod.snd])

@[simp] theorem State.sendSlopes_ok (s : State) (c : Nat) (hok : s.fieldsOk) : (State.sendSlopes s c).fieldsOk := by
  simp +contextual (maxDischargeDepth := 60) [State.sendSlopes, hok, apply_ite Prod.snd]

@[simp] theorem State.showCeil_getF (s : State) (fld : Fld) (itm : Nat) (hw : fld ∉ ([.DOM_BUD_CTRL_CEIL] : List Fld)) :
    (State.showCeil s).getF fld itm = s.getF fld itm := by
  try simp only [List.mem_cons, not_or, List.not_mem_nil, not_false_eq_true] at hw
  simp (maxDischargeDepth := 60) [State.showCeil, hw, apply_ite Prod.snd]

@[simp] theorem State.showCeil_parts (s : State) :
    (State.showCeil s).time = s.time ∧ (State.showCeil s).cfg = s.cfg ∧ (State.showCeil s).raiseQ = s.raiseQ ∧ (State.showCeil s).out = s.out ∧ (State.showCeil s).freeCtr = s.freeCtr ∧ (State.showCeil s).flt = s.flt ∧ (State.showCeil s).phs = s.phs ∧ (State.showCeil s).dom = s.dom ∧ (State.showCeil s).eng = s.eng ∧ (State.showCeil s).start = s.start ∧ (State.showCeil s).est = s.est ∧ (State.showCeil s).bud = s.bud ∧ (State.showCeil s).thm = s.thm ∧ (State.showCeil s).hrd = s.hrd ∧ (State.showCeil s).tlm = s.tlm ∧ (State.showCeil s).cmd = s.cmd ∧ (State.showCeil s).boot = s.boot ∧ (State.showCeil s).adc = s.adc ∧ (State.showCeil s).fw = s.fw ∧ (State.showCeil s).lt = s.lt ∧ (State.showCeil s).pending = s.pending := by
  refine ⟨?_, ?_, ?_, ?_, ?_, ?_, ?_, ?_, ?_, ?_, ?_, ?_, ?_, ?_, ?_, ?_, ?_, ?_, ?_, ?_, ?_⟩ <;> (simp (maxDischargeDepth := 60) [State.showCeil, apply_ite Prod.snd])

@[simp] theorem State.showCeil_ok (s : State) (hok : s.fieldsOk) : (State.showCeil s).fieldsOk := by
  simp +contextual (maxDischargeDepth := 60) [State.showCeil, hok, apply_ite Prod.snd]

@[simp] theorem State.pruneFixed_getF (s : State) (fld : Fld) (itm : Nat) (hw : fld ∉ ([] : List Fld)) :
    (State.pruneFixed s).getF fld itm = s.getF fld itm := by
  try simp only [List.mem_cons, not_or, List.not_mem_nil, not_false_eq_true] at hw
  simp (maxDischargeDepth := 60) [State.pruneFixed, hw, apply_ite Prod.snd]

@[simp] theorem State.pruneFixed_parts (s : State) :
    (State.pruneFixed s).time = s.time ∧ (State.pruneFixed s).cfg = s.cfg ∧ (State.pruneFixed s).raiseQ = s.raiseQ ∧ (State.pruneFixed s).out = s.out ∧ (State.pruneFixed s).freeCtr = s.freeCtr ∧ (State.pruneFixed s).flt = s.flt ∧ (State.pruneFixed s).phs = s.phs ∧ (State.pruneFixed s).dom = s.dom ∧ (State.pruneFixed s).eng = s.eng ∧ (State.pruneFixed s).start = s.start ∧ (State.pruneFixed s).est = s.est ∧ (State.pruneFixed s).thm = s.thm ∧ (State.pruneFixed s).hrd = s.hrd ∧ (State.pruneFixed s).tlm = s.tlm ∧ (State.pruneFixed s).cmd = s.cmd ∧ (State.pruneFixed s).boot = s.boot ∧ (State.pruneFixed s).adc = s.adc ∧ (State.pruneFixed s).fw = s.fw ∧ (State.pruneFixed s).lt = s.lt ∧ (State.pruneFixed s).pending = s.pending := by
  refine ⟨?_, ?_, ?_, ?_, ?_, ?_, ?_, ?_, ?_, ?_, ?_, ?_, ?_, ?_, ?_, ?_, ?_, ?_, ?_, ?_⟩ <;> (simp (maxDischargeDepth := 60) [State.pruneFixed, apply_ite Prod.snd])

@[simp] theorem State.pruneFixed_ok (s : State) (hok : s.fieldsOk) : (State.pruneFixed s).fieldsOk := by
  simp +contextual (maxDischargeDepth := 60) [State.pruneFixed, hok, apply_ite Prod.snd]

@[simp] theorem State.takeContext_getF (s : State) (c : Nat) (fld : Fld) (itm : Nat) (hw : fld ∉ ([] : List Fld)) :
    (State.takeContext s c).getF fld itm = s.getF fld itm := by
  try simp only [List.mem_cons, not_or, List.not_mem_nil, not_false_eq_true] at hw
  simp (maxDischargeDepth := 60) [State.takeContext, hw, apply_ite Prod.snd]

@[simp] theorem State.takeContext_parts (s : State) (c : Nat) :
    (State.takeContext s c).time = s.time ∧ (State.takeContext s c).cfg = s.cfg ∧ (State.takeContext s c).raiseQ = s.raiseQ ∧ (State.takeContext s c).out = s.out ∧ (State.takeContext s c).freeCtr = s.freeCtr ∧ (State.takeContext s c).flt = s.flt ∧ (State.takeContext s c).phs = s.phs ∧ (State.takeContext s c).dom = s.dom ∧ (State.takeContext s c).eng = s.eng ∧ (State.takeContext s c).start = s.start ∧ (State.takeContext s c).est = s.est ∧ (State.takeContext s c).thm = s.thm ∧ (State.takeContext s c).hrd = s.hrd ∧ (State.takeContext s c).tlm = s.tlm ∧ (State.takeContext s c).cmd = s.cmd ∧ (State.takeContext s c).boot = s.boot ∧ (State.takeContext s c).adc = s.adc ∧ (State.takeContext s c).fw = s.fw ∧ (State.takeContext s c).lt = s.lt ∧ (State.takeContext s c).pending = s.pending := by
  refine ⟨?_, ?_, ?_, ?_, ?_, ?_, ?_, ?_, ?_, ?_, ?_, ?_, ?_, ?_, ?_, ?_, ?_, ?_, ?_, ?_⟩ <;> (simp (maxDischargeDepth := 60) [State.takeContext, apply_ite Prod.snd])

@[simp] theorem State.takeContext_ok (s : State) (c : Nat) (hok : s.fieldsOk) : (State.takeContext s c).fieldsOk := by
  simp +contextual (maxDischargeDepth := 60) [State.takeContext, hok, apply_ite Prod.snd]

@[simp] theorem State.applyContext_getF (s : State) (c : Nat) (fld : Fld) (itm : Nat) (hw : fld ∉ ([.DOM_BUD_CTRL_CEIL, .DOM_BUD_EVENT_ORD_BAD] : List Fld)) :
    (State.applyContext s c).getF fld itm = s.getF fld itm := by
  try simp only [List.mem_cons, not_or, List.not_mem_nil, not_false_eq_true] at hw
  simp (maxDischargeDepth := 60) [State.applyContext, hw, apply_ite Prod.snd]

@[simp] theorem State.applyContext_parts (s : State) (c : Nat) :
    (State.applyContext s c).time = s.time ∧ (State.applyContext s c).cfg = s.cfg ∧ (State.applyContext s c).freeCtr = s.freeCtr ∧ (State.applyContext s c).flt = s.flt ∧ (State.applyContext s c).phs = s.phs ∧ (State.applyContext s c).dom = s.dom ∧ (State.applyContext s c).eng = s.eng ∧ (State.applyContext s c).start = s.start ∧ (State.applyContext s c).est = s.est ∧ (State.applyContext s c).thm = s.thm ∧ (State.applyContext s c).hrd = s.hrd ∧ (State.applyContext s c).tlm = s.tlm ∧ (State.applyContext s c).cmd = s.cmd ∧ (State.applyContext s c).boot = s.boot ∧ (State.applyContext s c).adc = s.adc ∧ (State.applyContext s c).fw = s.fw ∧ (State.applyContext s c).lt = s.lt ∧ (State.applyContext s c).pending = s.pending := by
  refine ⟨?_, ?_, ?_, ?_, ?_, ?_, ?_, ?_, ?_, ?_, ?_, ?_, ?_, ?_, ?_, ?_, ?_, ?_⟩ <;> (simp (maxDischargeDepth := 60) [State.applyContext, apply_ite Prod.snd])

@[simp] theorem State.applyContext_ok (s : State) (c : Nat) (hok : s.fieldsOk) : (State.applyContext s c).fieldsOk := by
  simp +contextual (maxDischargeDepth := 60) [State.applyContext, hok, apply_ite Prod.snd]

end Sys2Proof.Machine
end

