-- ==== Sys2Proof/Laws/DroopOps.lean ====
section
/-! SUPPORT. What each droop sensor operation can do: the fields it may write, the parts of the state it keeps, and that it keeps
the register table in its canonical form. -/

namespace Sys2Proof.Machine
open Host (Outcome)
set_option maxRecDepth 4000
set_option linter.unusedSimpArgs false
set_option linter.unusedVariables false
set_option linter.unreachableTactic false
set_option linter.unusedTactic false

@[simp] theorem State.cellReading_getF (s : State) (c : Nat) (i : Int) (fld : Fld) (itm : Nat) (hw : fld ∉ ([.CEL_MEAS_I_CELL] : List Fld)) :
    (State.cellReading s c i).getF fld itm = s.getF fld itm := by
  try simp only [List.mem_cons, not_or, List.not_mem_nil, not_false_eq_true] at hw
  simp (maxDischargeDepth := 60) [State.cellReading, hw, apply_ite Prod.snd]

@[simp] theorem State.cellReading_parts (s : State) (c : Nat) (i : Int) :
    (State.cellReading s c i).time = s.time ∧ (State.cellReading s c i).cfg = s.cfg ∧ (State.cellReading s c i).raiseQ = s.raiseQ ∧ (State.cellReading s c i).out = s.out ∧ (State.cellReading s c i).freeCtr = s.freeCtr ∧ (State.cellReading s c i).flt = s.flt ∧ (State.cellReading s c i).phs = s.phs ∧ (State.cellReading s c i).eng = s.eng ∧ (State.cellReading s c i).start = s.start ∧ (State.cellReading s c i).est = s.est ∧ (State.cellReading s c i).bud = s.bud ∧ (State.cellReading s c i).thm = s.thm ∧ (State.cellReading s c i).hrd = s.hrd ∧ (State.cellReading s c i).tlm = s.tlm ∧ (State.cellReading s c i).cmd = s.cmd ∧ (State.cellReading s c i).boot = s.boot ∧ (State.cellReading s c i).adc = s.adc ∧ (State.cellReading s c i).fw = s.fw ∧ (State.cellReading s c i).lt = s.lt ∧ (State.cellReading s c i).pending = s.pending := by
  refine ⟨?_, ?_, ?_, ?_, ?_, ?_, ?_, ?_, ?_, ?_, ?_, ?_, ?_, ?_, ?_, ?_, ?_, ?_, ?_, ?_⟩ <;> (simp (maxDischargeDepth := 60) [State.cellReading, apply_ite Prod.snd])

@[simp] theorem State.cellReading_ok (s : State) (c : Nat) (i : Int) (hok : s.fieldsOk) : (State.cellReading s c i).fieldsOk := by
  simp +contextual (maxDischargeDepth := 60) [State.cellReading, hok, apply_ite Prod.snd]

@[simp] theorem State.cellTest_getF (s : State) (c : Nat) (fld : Fld) (itm : Nat) (hw : fld ∉ ([.CEL_STATUS_FAIL_CAUSE, .CEL_STATUS_LOSS_COUNT, .CEL_STATUS_SETPT, .CEL_STATUS_STATE, .CE_SLOT_STATUS_SAT, .CMD_NOTICE0_ARG, .CMD_NOTICE0_TYPE, .CMD_NOTICE1_TIME_LO, .CMD_NOTICE_SEQ_NSEQ, .CMD_PART_ID_STATE, .CMD_PART_SLOTS_BUSY, .CMD_PART_SLOTS_NEW, .CMD_PART_SLOTS_NOTICE_NEW, .CRC_EVENT_MISMATCH, .CRC_RESULT_RESULT, .CRC_STATUS_MATCH, .CRC_STATUS_MISMATCH, .CRC_STATUS_MISMATCH_COUNT, .CRC_STATUS_STATE, .CRC_VALUE_VALUE, .DOM_EVENT_CELL_FAIL, .DOM_EVENT_DERATE, .DOM_EVENT_FENCE, .DOM_SETPT_VEFF, .DOM_START_STATUS_ARMED, .DOM_START_STATUS_BOOST, .DOM_START_STATUS_PRE_ACTIVE, .DOM_START_STATUS_SLOPE_EFF, .DOM_START_STATUS_WAITING, .DOM_START_STATUS_WAVES, .DOM_STATUS_CEIL, .DOM_STATUS_CELLS_OK, .DOM_STATUS_DROOP_FLOOR, .DOM_STATUS_GATE_CLOSED, .DOM_STATUS_READY, .DOM_STATUS_STATE, .DOM_STATUS_STEP, .DOM_STATUS_WAKE_WAIT, .DOM_WAVE_ID_BARRIER_ID, .DOM_WAVE_ID_ENGINES, .DOM_WAVE_PROG_GRANTED, .DOM_WAVE_PROG_STATE, .DOM_WAVE_PROG_WAVE_ARMED, .GLB_VSTK_STATUS_CLAMPED, .GLB_VSTK_STATUS_VSTK_CODE, .PHS_GRP_REF_VREF, .PHS_GRP_TON_TON_BASE, .PHS_PH_STATUS_TRIM] : List Fld)) :
    (State.cellTest s c).getF fld itm = s.getF fld itm := by
  try simp only [List.mem_cons, not_or, List.not_mem_nil, not_false_eq_true] at hw
  simp (maxDischargeDepth := 60) [State.cellTest, hw, apply_ite Prod.snd]

@[simp] theorem State.cellTest_parts (s : State) (c : Nat) :
    (State.cellTest s c).time = s.time ∧ (State.cellTest s c).cfg = s.cfg ∧ (State.cellTest s c).flt = s.flt ∧ (State.cellTest s c).phs = s.phs ∧ (State.cellTest s c).thm = s.thm ∧ (State.cellTest s c).hrd = s.hrd ∧ (State.cellTest s c).boot = s.boot ∧ (State.cellTest s c).adc = s.adc ∧ (State.cellTest s c).fw = s.fw ∧ (State.cellTest s c).lt = s.lt ∧ (State.cellTest s c).pending = s.pending := by
  refine ⟨?_, ?_, ?_, ?_, ?_, ?_, ?_, ?_, ?_, ?_, ?_⟩ <;> (simp (maxDischargeDepth := 60) [State.cellTest, apply_ite Prod.snd])

@[simp] theorem State.cellTest_ok (s : State) (c : Nat) (hok : s.fieldsOk) : (State.cellTest s c).fieldsOk := by
  simp +contextual (maxDischargeDepth := 60) [State.cellTest, hok, apply_ite Prod.snd]

@[simp] theorem State.cellSample_getF (s : State) (cells : List (Nat × Int)) (fld : Fld) (itm : Nat) (hw : fld ∉ ([.CEL_MEAS_I_CELL, .CEL_STATUS_FAIL_CAUSE, .CEL_STATUS_LOSS_COUNT, .CEL_STATUS_SETPT, .CEL_STATUS_STATE, .CE_SLOT_STATUS_SAT, .CMD_NOTICE0_ARG, .CMD_NOTICE0_TYPE, .CMD_NOTICE1_TIME_LO, .CMD_NOTICE_SEQ_NSEQ, .CMD_PART_ID_STATE, .CMD_PART_SLOTS_BUSY, .CMD_PART_SLOTS_NEW, .CMD_PART_SLOTS_NOTICE_NEW, .CRC_EVENT_MISMATCH, .CRC_RESULT_RESULT, .CRC_STATUS_MATCH, .CRC_STATUS_MISMATCH, .CRC_STATUS_MISMATCH_COUNT, .CRC_STATUS_STATE, .CRC_VALUE_VALUE, .DOM_EVENT_CELL_FAIL, .DOM_EVENT_DERATE, .DOM_EVENT_FENCE, .DOM_SETPT_VEFF, .DOM_START_STATUS_ARMED, .DOM_START_STATUS_BOOST, .DOM_START_STATUS_PRE_ACTIVE, .DOM_START_STATUS_SLOPE_EFF, .DOM_START_STATUS_WAITING, .DOM_START_STATUS_WAVES, .DOM_STATUS_CEIL, .DOM_STATUS_CELLS_OK, .DOM_STATUS_DROOP_FLOOR, .DOM_STATUS_GATE_CLOSED, .DOM_STATUS_READY, .DOM_STATUS_STATE, .DOM_STATUS_STEP, .DOM_STATUS_WAKE_WAIT, .DOM_WAVE_ID_BARRIER_ID, .DOM_WAVE_ID_ENGINES, .DOM_WAVE_PROG_GRANTED, .DOM_WAVE_PROG_STATE, .DOM_WAVE_PROG_WAVE_ARMED, .GLB_VSTK_STATUS_CLAMPED, .GLB_VSTK_STATUS_VSTK_CODE, .PHS_GRP_REF_VREF, .PHS_GRP_TON_TON_BASE, .PHS_PH_STATUS_TRIM] : List Fld)) :
    (State.cellSample s cells).getF fld itm = s.getF fld itm := by
  try simp only [List.mem_cons, not_or, List.not_mem_nil, not_false_eq_true] at hw
  simp (maxDischargeDepth := 60) [State.cellSample, hw, apply_ite Prod.snd]

@[simp] theorem State.cellSample_parts (s : State) (cells : List (Nat × Int)) :
    (State.cellSample s cells).time = s.time ∧ (State.cellSample s cells).cfg = s.cfg ∧ (State.cellSample s cells).flt = s.flt ∧ (State.cellSample s cells).phs = s.phs ∧ (State.cellSample s cells).thm = s.thm ∧ (State.cellSample s cells).hrd = s.hrd ∧ (State.cellSample s cells).boot = s.boot ∧ (State.cellSample s cells).adc = s.adc ∧ (State.cellSample s cells).fw = s.fw ∧ (State.cellSample s cells).lt = s.lt ∧ (State.cellSample s cells).pending = s.pending := by
  refine ⟨?_, ?_, ?_, ?_, ?_, ?_, ?_, ?_, ?_, ?_, ?_⟩ <;> (simp (maxDischargeDepth := 60) [State.cellSample, apply_ite Prod.snd])

@[simp] theorem State.cellSample_ok (s : State) (cells : List (Nat × Int)) (hok : s.fieldsOk) : (State.cellSample s cells).fieldsOk := by
  simp +contextual (maxDischargeDepth := 60) [State.cellSample, hok, apply_ite Prod.snd]

@[simp] theorem State.setDsRun_getF (s : State) (x : Nat) (r : SensorRun) (fld : Fld) (itm : Nat) (hw : fld ∉ ([] : List Fld)) :
    (State.setDsRun s x r).getF fld itm = s.getF fld itm := by
  try simp only [List.mem_cons, not_or, List.not_mem_nil, not_false_eq_true] at hw
  simp (maxDischargeDepth := 60) [State.setDsRun, hw, apply_ite Prod.snd]

@[simp] theorem State.setDsRun_parts (s : State) (x : Nat) (r : SensorRun) :
    (State.setDsRun s x r).time = s.time ∧ (State.setDsRun s x r).cfg = s.cfg ∧ (State.setDsRun s x r).raiseQ = s.raiseQ ∧ (State.setDsRun s x r).out = s.out ∧ (State.setDsRun s x r).freeCtr = s.freeCtr ∧ (State.setDsRun s x r).flt = s.flt ∧ (State.setDsRun s x r).phs = s.phs ∧ (State.setDsRun s x r).eng = s.eng ∧ (State.setDsRun s x r).start = s.start ∧ (State.setDsRun s x r).est = s.est ∧ (State.setDsRun s x r).bud = s.bud ∧ (State.setDsRun s x r).thm = s.thm ∧ (State.setDsRun s x r).hrd = s.hrd ∧ (State.setDsRun s x r).tlm = s.tlm ∧ (State.setDsRun s x r).cmd = s.cmd ∧ (State.setDsRun s x r).boot = s.boot ∧ (State.setDsRun s x r).adc = s.adc ∧ (State.setDsRun s x r).fw = s.fw ∧ (State.setDsRun s x r).lt = s.lt ∧ (State.setDsRun s x r).pending = s.pending := by
  refine ⟨?_, ?_, ?_, ?_, ?_, ?_, ?_, ?_, ?_, ?_, ?_, ?_, ?_, ?_, ?_, ?_, ?_, ?_, ?_, ?_⟩ <;> (simp (maxDischargeDepth := 60) [State.setDsRun, apply_ite Prod.snd])

@[simp] theorem State.setDsRun_ok (s : State) (x : Nat) (r : SensorRun) (hok : s.fieldsOk) : (State.setDsRun s x r).fieldsOk := by
  simp +contextual (maxDischargeDepth := 60) [State.setDsRun, hok, apply_ite Prod.snd]

@[simp] theorem State.dsReading_getF (s : State) (r : DroopReading) (fld : Fld) (itm : Nat) (hw : fld ∉ ([.DOM_DS_DROOP, .DOM_DS_HEADROOM] : List Fld)) :
    (State.dsReading s r).getF fld itm = s.getF fld itm := by
  try simp only [List.mem_cons, not_or, List.not_mem_nil, not_false_eq_true] at hw
  simp (maxDischargeDepth := 60) [State.dsReading, hw, apply_ite Prod.snd]

@[simp] theorem State.dsReading_parts (s : State) (r : DroopReading) :
    (State.dsReading s r).time = s.time ∧ (State.dsReading s r).cfg = s.cfg ∧ (State.dsReading s r).raiseQ = s.raiseQ ∧ (State.dsReading s r).out = s.out ∧ (State.dsReading s r).freeCtr = s.freeCtr ∧ (State.dsReading s r).flt = s.flt ∧ (State.dsReading s r).phs = s.phs ∧ (State.dsReading s r).dom = s.dom ∧ (State.dsReading s r).eng = s.eng ∧ (State.dsReading s r).start = s.start ∧ (State.dsReading s r).est = s.est ∧ (State.dsReading s r).bud = s.bud ∧ (State.dsReading s r).thm = s.thm ∧ (State.dsReading s r).hrd = s.hrd ∧ (State.dsReading s r).tlm = s.tlm ∧ (State.dsReading s r).cmd = s.cmd ∧ (State.dsReading s r).boot = s.boot ∧ (State.dsReading s r).adc = s.adc ∧ (State.dsReading s r).fw = s.fw ∧ (State.dsReading s r).lt = s.lt ∧ (State.dsReading s r).pending = s.pending := by
  refine ⟨?_, ?_, ?_, ?_, ?_, ?_, ?_, ?_, ?_, ?_, ?_, ?_, ?_, ?_, ?_, ?_, ?_, ?_, ?_, ?_, ?_⟩ <;> (simp (maxDischargeDepth := 60) [State.dsReading, apply_ite Prod.snd])

@[simp] theorem State.dsReading_ok (s : State) (r : DroopReading) (hok : s.fieldsOk) : (State.dsReading s r).fieldsOk := by
  simp +contextual (maxDischargeDepth := 60) [State.dsReading, hok, apply_ite Prod.snd]

@[simp] theorem State.dsCount_getF (s : State) (x : Nat) (fld : Fld) (itm : Nat) (hw : fld ∉ ([] : List Fld)) :
    (State.dsCount s x).getF fld itm = s.getF fld itm := by
  try simp only [List.mem_cons, not_or, List.not_mem_nil, not_false_eq_true] at hw
  simp (maxDischargeDepth := 60) [State.dsCount, hw, apply_ite Prod.snd]

@[simp] theorem State.dsCount_parts (s : State) (x : Nat) :
    (State.dsCount s x).time = s.time ∧ (State.dsCount s x).cfg = s.cfg ∧ (State.dsCount s x).raiseQ = s.raiseQ ∧ (State.dsCount s x).out = s.out ∧ (State.dsCount s x).freeCtr = s.freeCtr ∧ (State.dsCount s x).flt = s.flt ∧ (State.dsCount s x).phs = s.phs ∧ (State.dsCount s x).eng = s.eng ∧ (State.dsCount s x).start = s.start ∧ (State.dsCount s x).est = s.est ∧ (State.dsCount s x).bud = s.bud ∧ (State.dsCount s x).thm = s.thm ∧ (State.dsCount s x).hrd = s.hrd ∧ (State.dsCount s x).tlm = s.tlm ∧ (State.dsCount s x).cmd = s.cmd ∧ (State.dsCount s x).boot = s.boot ∧ (State.dsCount s x).adc = s.adc ∧ (State.dsCount s x).fw = s.fw ∧ (State.dsCount s x).lt = s.lt ∧ (State.dsCount s x).pending = s.pending := by
  refine ⟨?_, ?_, ?_, ?_, ?_, ?_, ?_, ?_, ?_, ?_, ?_, ?_, ?_, ?_, ?_, ?_, ?_, ?_, ?_, ?_⟩ <;> (simp (maxDischargeDepth := 60) [State.dsCount, apply_ite Prod.snd])

@[simp] theorem State.dsCount_ok (s : State) (x : Nat) (hok : s.fieldsOk) : (State.dsCount s x).fieldsOk := by
  simp +contextual (maxDischargeDepth := 60) [State.dsCount, hok, apply_ite Prod.snd]

@[simp] theorem State.dsCounted_getF (s : State) (d : Nat) (fld : Fld) (itm : Nat) (hw : fld ∉ ([.CEL_STATUS_SETPT, .CEL_STATUS_STATE, .CE_SLOT_STATUS_SAT, .CMD_NOTICE0_ARG, .CMD_NOTICE0_TYPE, .CMD_NOTICE1_TIME_LO, .CMD_NOTICE_SEQ_NSEQ, .CMD_PART_ID_STATE, .CMD_PART_SLOTS_BUSY, .CMD_PART_SLOTS_NEW, .CMD_PART_SLOTS_NOTICE_NEW, .CRC_EVENT_MISMATCH, .CRC_RESULT_RESULT, .CRC_STATUS_MATCH, .CRC_STATUS_MISMATCH, .CRC_STATUS_MISMATCH_COUNT, .CRC_STATUS_STATE, .CRC_VALUE_VALUE, .DOM_EVENT_DERATE, .DOM_EVENT_FENCE, .DOM_SETPT_VEFF, .DOM_START_STATUS_ARMED, .DOM_START_STATUS_BOOST, .DOM_START_STATUS_PRE_ACTIVE, .DOM_START_STATUS_SLOPE_EFF, .DOM_START_STATUS_WAITING, .DOM_START_STATUS_WAVES, .DOM_STATUS_DROOP_FLOOR, .DOM_STATUS_DS_VALID, .DOM_STATUS_GATE_CLOSED, .DOM_STATUS_READY, .DOM_STATUS_STATE, .DOM_STATUS_STEP, .DOM_STATUS_WAKE_WAIT, .DOM_WAVE_ID_BARRIER_ID, .DOM_WAVE_ID_ENGINES, .DOM_WAVE_PROG_GRANTED, .DOM_WAVE_PROG_STATE, .DOM_WAVE_PROG_WAVE_ARMED, .GLB_VSTK_STATUS_CLAMPED, .GLB_VSTK_STATUS_VSTK_CODE, .PHS_GRP_REF_VREF, .PHS_GRP_TON_TON_BASE, .PHS_PH_STATUS_TRIM] : List Fld)) :
    (State.dsCounted s d).getF fld itm = s.getF fld itm := by
  try simp only [List.mem_cons, not_or, List.not_mem_nil, not_false_eq_true] at hw
  simp (maxDischargeDepth := 60) [State.dsCounted, hw, apply_ite Prod.snd]

@[simp] theorem State.dsCounted_parts (s : State) (d : Nat) :
    (State.dsCounted s d).time = s.time ∧ (State.dsCounted s d).cfg = s.cfg ∧ (State.dsCounted s d).flt = s.flt ∧ (State.dsCounted s d).phs = s.phs ∧ (State.dsCounted s d).thm = s.thm ∧ (State.dsCounted s d).hrd = s.hrd ∧ (State.dsCounted s d).boot = s.boot ∧ (State.dsCounted s d).adc = s.adc ∧ (State.dsCounted s d).fw = s.fw ∧ (State.dsCounted s d).lt = s.lt ∧ (State.dsCounted s d).pending = s.pending := by
  refine ⟨?_, ?_, ?_, ?_, ?_, ?_, ?_, ?_, ?_, ?_, ?_⟩ <;> (simp (maxDischargeDepth := 60) [State.dsCounted, apply_ite Prod.snd])

@[simp] theorem State.dsCounted_ok (s : State) (d : Nat) (hok : s.fieldsOk) : (State.dsCounted s d).fieldsOk := by
  simp +contextual (maxDischargeDepth := 60) [State.dsCounted, hok, apply_ite Prod.snd]

@[simp] theorem State.dsFail_getF (s : State) (x cause : Nat) (fld : Fld) (itm : Nat) (hw : fld ∉ ([.CEL_STATUS_SETPT, .CEL_STATUS_STATE, .CE_SLOT_STATUS_SAT, .CMD_NOTICE0_ARG, .CMD_NOTICE0_TYPE, .CMD_NOTICE1_TIME_LO, .CMD_NOTICE_SEQ_NSEQ, .CMD_PART_ID_STATE, .CMD_PART_SLOTS_BUSY, .CMD_PART_SLOTS_NEW, .CMD_PART_SLOTS_NOTICE_NEW, .CRC_EVENT_MISMATCH, .CRC_RESULT_RESULT, .CRC_STATUS_MATCH, .CRC_STATUS_MISMATCH, .CRC_STATUS_MISMATCH_COUNT, .CRC_STATUS_STATE, .CRC_VALUE_VALUE, .DOM_DS_CAUSE, .DOM_DS_VALID, .DOM_EVENT_DERATE, .DOM_EVENT_DS_INVALID, .DOM_EVENT_FENCE, .DOM_SETPT_VEFF, .DOM_START_STATUS_ARMED, .DOM_START_STATUS_BOOST, .DOM_START_STATUS_PRE_ACTIVE, .DOM_START_STATUS_SLOPE_EFF, .DOM_START_STATUS_WAITING, .DOM_START_STATUS_WAVES, .DOM_STATUS_DROOP_FLOOR, .DOM_STATUS_DS_VALID, .DOM_STATUS_GATE_CLOSED, .DOM_STATUS_READY, .DOM_STATUS_STATE, .DOM_STATUS_STEP, .DOM_STATUS_WAKE_WAIT, .DOM_WAVE_ID_BARRIER_ID, .DOM_WAVE_ID_ENGINES, .DOM_WAVE_PROG_GRANTED, .DOM_WAVE_PROG_STATE, .DOM_WAVE_PROG_WAVE_ARMED, .GLB_VSTK_STATUS_CLAMPED, .GLB_VSTK_STATUS_VSTK_CODE, .PHS_GRP_REF_VREF, .PHS_GRP_TON_TON_BASE, .PHS_PH_STATUS_TRIM] : List Fld)) :
    (State.dsFail s x cause).getF fld itm = s.getF fld itm := by
  try simp only [List.mem_cons, not_or, List.not_mem_nil, not_false_eq_true] at hw
  simp (maxDischargeDepth := 60) [State.dsFail, hw, apply_ite Prod.snd]

@[simp] theorem State.dsFail_parts (s : State) (x cause : Nat) :
    (State.dsFail s x cause).time = s.time ∧ (State.dsFail s x cause).cfg = s.cfg ∧ (State.dsFail s x cause).flt = s.flt ∧ (State.dsFail s x cause).phs = s.phs ∧ (State.dsFail s x cause).thm = s.thm ∧ (State.dsFail s x cause).hrd = s.hrd ∧ (State.dsFail s x cause).boot = s.boot ∧ (State.dsFail s x cause).adc = s.adc ∧ (State.dsFail s x cause).fw = s.fw ∧ (State.dsFail s x cause).lt = s.lt ∧ (State.dsFail s x cause).pending = s.pending := by
  refine ⟨?_, ?_, ?_, ?_, ?_, ?_, ?_, ?_, ?_, ?_, ?_⟩ <;> (simp (maxDischargeDepth := 60) [State.dsFail, apply_ite Prod.snd])

@[simp] theorem State.dsFail_ok (s : State) (x cause : Nat) (hok : s.fieldsOk) : (State.dsFail s x cause).fieldsOk := by
  simp +contextual (maxDischargeDepth := 60) [State.dsFail, hok, apply_ite Prod.snd]

@[simp] theorem State.dsTest_getF (s : State) (x : Nat) (fld : Fld) (itm : Nat) (hw : fld ∉ ([.CEL_STATUS_SETPT, .CEL_STATUS_STATE, .CE_SLOT_STATUS_SAT, .CMD_NOTICE0_ARG, .CMD_NOTICE0_TYPE, .CMD_NOTICE1_TIME_LO, .CMD_NOTICE_SEQ_NSEQ, .CMD_PART_ID_STATE, .CMD_PART_SLOTS_BUSY, .CMD_PART_SLOTS_NEW, .CMD_PART_SLOTS_NOTICE_NEW, .CRC_EVENT_MISMATCH, .CRC_RESULT_RESULT, .CRC_STATUS_MATCH, .CRC_STATUS_MISMATCH, .CRC_STATUS_MISMATCH_COUNT, .CRC_STATUS_STATE, .CRC_VALUE_VALUE, .DOM_DS_CAUSE, .DOM_DS_VALID, .DOM_EVENT_DERATE, .DOM_EVENT_DS_INVALID, .DOM_EVENT_FENCE, .DOM_SETPT_VEFF, .DOM_START_STATUS_ARMED, .DOM_START_STATUS_BOOST, .DOM_START_STATUS_PRE_ACTIVE, .DOM_START_STATUS_SLOPE_EFF, .DOM_START_STATUS_WAITING, .DOM_START_STATUS_WAVES, .DOM_STATUS_DROOP_FLOOR, .DOM_STATUS_DS_VALID, .DOM_STATUS_GATE_CLOSED, .DOM_STATUS_READY, .DOM_STATUS_STATE, .DOM_STATUS_STEP, .DOM_STATUS_WAKE_WAIT, .DOM_WAVE_ID_BARRIER_ID, .DOM_WAVE_ID_ENGINES, .DOM_WAVE_PROG_GRANTED, .DOM_WAVE_PROG_STATE, .DOM_WAVE_PROG_WAVE_ARMED, .GLB_VSTK_STATUS_CLAMPED, .GLB_VSTK_STATUS_VSTK_CODE, .PHS_GRP_REF_VREF, .PHS_GRP_TON_TON_BASE, .PHS_PH_STATUS_TRIM] : List Fld)) :
    (State.dsTest s x).getF fld itm = s.getF fld itm := by
  try simp only [List.mem_cons, not_or, List.not_mem_nil, not_false_eq_true] at hw
  simp (maxDischargeDepth := 60) [State.dsTest, hw, apply_ite Prod.snd]

@[simp] theorem State.dsTest_parts (s : State) (x : Nat) :
    (State.dsTest s x).time = s.time ∧ (State.dsTest s x).cfg = s.cfg ∧ (State.dsTest s x).flt = s.flt ∧ (State.dsTest s x).phs = s.phs ∧ (State.dsTest s x).thm = s.thm ∧ (State.dsTest s x).hrd = s.hrd ∧ (State.dsTest s x).boot = s.boot ∧ (State.dsTest s x).adc = s.adc ∧ (State.dsTest s x).fw = s.fw ∧ (State.dsTest s x).lt = s.lt ∧ (State.dsTest s x).pending = s.pending := by
  refine ⟨?_, ?_, ?_, ?_, ?_, ?_, ?_, ?_, ?_, ?_, ?_⟩ <;> (simp (maxDischargeDepth := 60) [State.dsTest, apply_ite Prod.snd])

@[simp] theorem State.dsTest_ok (s : State) (x : Nat) (hok : s.fieldsOk) : (State.dsTest s x).fieldsOk := by
  simp +contextual (maxDischargeDepth := 60) [State.dsTest, hok, apply_ite Prod.snd]

@[simp] theorem State.dsSample_getF (s : State) (l : List DroopReading) (fld : Fld) (itm : Nat) (hw : fld ∉ ([.CEL_STATUS_SETPT, .CEL_STATUS_STATE, .CE_SLOT_STATUS_SAT, .CMD_NOTICE0_ARG, .CMD_NOTICE0_TYPE, .CMD_NOTICE1_TIME_LO, .CMD_NOTICE_SEQ_NSEQ, .CMD_PART_ID_STATE, .CMD_PART_SLOTS_BUSY, .CMD_PART_SLOTS_NEW, .CMD_PART_SLOTS_NOTICE_NEW, .CRC_EVENT_MISMATCH, .CRC_RESULT_RESULT, .CRC_STATUS_MATCH, .CRC_STATUS_MISMATCH, .CRC_STATUS_MISMATCH_COUNT, .CRC_STATUS_STATE, .CRC_VALUE_VALUE, .DOM_DS_CAUSE, .DOM_DS_DROOP, .DOM_DS_HEADROOM, .DOM_DS_VALID, .DOM_EVENT_DERATE, .DOM_EVENT_DS_INVALID, .DOM_EVENT_FENCE, .DOM_SETPT_VEFF, .DOM_START_STATUS_ARMED, .DOM_START_STATUS_BOOST, .DOM_START_STATUS_PRE_ACTIVE, .DOM_START_STATUS_SLOPE_EFF, .DOM_START_STATUS_WAITING, .DOM_START_STATUS_WAVES, .DOM_STATUS_DROOP_FLOOR, .DOM_STATUS_DS_VALID, .DOM_STATUS_GATE_CLOSED, .DOM_STATUS_READY, .DOM_STATUS_STATE, .DOM_STATUS_STEP, .DOM_STATUS_WAKE_WAIT, .DOM_WAVE_ID_BARRIER_ID, .DOM_WAVE_ID_ENGINES, .DOM_WAVE_PROG_GRANTED, .DOM_WAVE_PROG_STATE, .DOM_WAVE_PROG_WAVE_ARMED, .GLB_VSTK_STATUS_CLAMPED, .GLB_VSTK_STATUS_VSTK_CODE, .PHS_GRP_REF_VREF, .PHS_GRP_TON_TON_BASE, .PHS_PH_STATUS_TRIM] : List Fld)) :
    (State.dsSample s l).getF fld itm = s.getF fld itm := by
  try simp only [List.mem_cons, not_or, List.not_mem_nil, not_false_eq_true] at hw
  simp (maxDischargeDepth := 60) [State.dsSample, hw, apply_ite Prod.snd]

@[simp] theorem State.dsSample_parts (s : State) (l : List DroopReading) :
    (State.dsSample s l).time = s.time ∧ (State.dsSample s l).cfg = s.cfg ∧ (State.dsSample s l).flt = s.flt ∧ (State.dsSample s l).phs = s.phs ∧ (State.dsSample s l).thm = s.thm ∧ (State.dsSample s l).hrd = s.hrd ∧ (State.dsSample s l).boot = s.boot ∧ (State.dsSample s l).adc = s.adc ∧ (State.dsSample s l).fw = s.fw ∧ (State.dsSample s l).lt = s.lt ∧ (State.dsSample s l).pending = s.pending := by
  refine ⟨?_, ?_, ?_, ?_, ?_, ?_, ?_, ?_, ?_, ?_, ?_⟩ <;> (simp (maxDischargeDepth := 60) [State.dsSample, apply_ite Prod.snd])

@[simp] theorem State.dsSample_ok (s : State) (l : List DroopReading) (hok : s.fieldsOk) : (State.dsSample s l).fieldsOk := by
  simp +contextual (maxDischargeDepth := 60) [State.dsSample, hok, apply_ite Prod.snd]

@[simp] theorem State.droopCross_getF (s : State) (d : Nat) (fld : Fld) (itm : Nat) (hw : fld ∉ ([.CEL_STATUS_SETPT, .DOM_EVENT_DROOP, .DOM_SETPT_VEFF, .DOM_START_STATUS_SLOPE_EFF, .DOM_STATUS_DROOP_FLOOR, .DOM_STATUS_GATE_CLOSED, .DOM_STATUS_STEP, .GLB_VSTK_STATUS_CLAMPED, .GLB_VSTK_STATUS_VSTK_CODE, .PHS_GRP_REF_VREF, .PHS_GRP_TON_TON_BASE, .PHS_PH_STATUS_TRIM] : List Fld)) :
    (State.droopCross s d).getF fld itm = s.getF fld itm := by
  try simp only [List.mem_cons, not_or, List.not_mem_nil, not_false_eq_true] at hw
  simp (maxDischargeDepth := 60) [State.droopCross, hw, apply_ite Prod.snd]

@[simp] theorem State.droopCross_parts (s : State) (d : Nat) :
    (State.droopCross s d).time = s.time ∧ (State.droopCross s d).cfg = s.cfg ∧ (State.droopCross s d).freeCtr = s.freeCtr ∧ (State.droopCross s d).flt = s.flt ∧ (State.droopCross s d).phs = s.phs ∧ (State.droopCross s d).eng = s.eng ∧ (State.droopCross s d).est = s.est ∧ (State.droopCross s d).thm = s.thm ∧ (State.droopCross s d).hrd = s.hrd ∧ (State.droopCross s d).cmd = s.cmd ∧ (State.droopCross s d).boot = s.boot ∧ (State.droopCross s d).adc = s.adc ∧ (State.droopCross s d).fw = s.fw ∧ (State.droopCross s d).lt = s.lt ∧ (State.droopCross s d).pending = s.pending := by
  refine ⟨?_, ?_, ?_, ?_, ?_, ?_, ?_, ?_, ?_, ?_, ?_, ?_, ?_, ?_, ?_⟩ <;> (simp (maxDischargeDepth := 60) [State.droopCross, apply_ite Prod.snd])

@[simp] theorem State.droopCross_ok (s : State) (d : Nat) (hok : s.fieldsOk) : (State.droopCross s d).fieldsOk := by
  simp +contextual (maxDischargeDepth := 60) [State.droopCross, hok, apply_ite Prod.snd]

@[simp] theorem State.setStackGate_getF (s : State) (b : Bool) (fld : Fld) (itm : Nat) (hw : fld ∉ ([.DOM_STATUS_GATE_CLOSED] : List Fld)) :
    (State.setStackGate s b).getF fld itm = s.getF fld itm := by
  try simp only [List.mem_cons, not_or, List.not_mem_nil, not_false_eq_true] at hw
  simp (maxDischargeDepth := 60) [State.setStackGate, hw, apply_ite Prod.snd]

@[simp] theorem State.setStackGate_parts (s : State) (b : Bool) :
    (State.setStackGate s b).time = s.time ∧ (State.setStackGate s b).cfg = s.cfg ∧ (State.setStackGate s b).raiseQ = s.raiseQ ∧ (State.setStackGate s b).out = s.out ∧ (State.setStackGate s b).freeCtr = s.freeCtr ∧ (State.setStackGate s b).flt = s.flt ∧ (State.setStackGate s b).phs = s.phs ∧ (State.setStackGate s b).eng = s.eng ∧ (State.setStackGate s b).start = s.start ∧ (State.setStackGate s b).est = s.est ∧ (State.setStackGate s b).bud = s.bud ∧ (State.setStackGate s b).thm = s.thm ∧ (State.setStackGate s b).hrd = s.hrd ∧ (State.setStackGate s b).tlm = s.tlm ∧ (State.setStackGate s b).cmd = s.cmd ∧ (State.setStackGate s b).boot = s.boot ∧ (State.setStackGate s b).adc = s.adc ∧ (State.setStackGate s b).fw = s.fw ∧ (State.setStackGate s b).lt = s.lt ∧ (State.setStackGate s b).pending = s.pending := by
  refine ⟨?_, ?_, ?_, ?_, ?_, ?_, ?_, ?_, ?_, ?_, ?_, ?_, ?_, ?_, ?_, ?_, ?_, ?_, ?_, ?_⟩ <;> (simp (maxDischargeDepth := 60) [State.setStackGate, apply_ite Prod.snd])

@[simp] theorem State.setStackGate_ok (s : State) (b : Bool) (hok : s.fieldsOk) : (State.setStackGate s b).fieldsOk := by
  simp +contextual (maxDischargeDepth := 60) [State.setStackGate, hok, apply_ite Prod.snd]

@[simp] theorem State.stackCross_getF (s : State) (fld : Fld) (itm : Nat) (hw : fld ∉ ([.DOM_STATUS_GATE_CLOSED] : List Fld)) :
    (State.stackCross s).getF fld itm = s.getF fld itm := by
  try simp only [List.mem_cons, not_or, List.not_mem_nil, not_false_eq_true] at hw
  ((unfold State.stackCross); (try simp only []); (repeat' split) <;> (try simp (maxDischargeDepth := 60) [hw, State.when, apply_ite Prod.snd]))

@[simp] theorem State.stackCross_parts (s : State) :
    (State.stackCross s).time = s.time ∧ (State.stackCross s).cfg = s.cfg ∧ (State.stackCross s).raiseQ = s.raiseQ ∧ (State.stackCross s).out = s.out ∧ (State.stackCross s).freeCtr = s.freeCtr ∧ (State.stackCross s).flt = s.flt ∧ (State.stackCross s).phs = s.phs ∧ (State.stackCross s).eng = s.eng ∧ (State.stackCross s).start = s.start ∧ (State.stackCross s).est = s.est ∧ (State.stackCross s).bud = s.bud ∧ (State.stackCross s).thm = s.thm ∧ (State.stackCross s).hrd = s.hrd ∧ (State.stackCross s).cmd = s.cmd ∧ (State.stackCross s).boot = s.boot ∧ (State.stackCross s).adc = s.adc ∧ (State.stackCross s).fw = s.fw ∧ (State.stackCross s).lt = s.lt ∧ (State.stackCross s).pending = s.pending := by
  refine ⟨?_, ?_, ?_, ?_, ?_, ?_, ?_, ?_, ?_, ?_, ?_, ?_, ?_, ?_, ?_, ?_, ?_, ?_, ?_⟩ <;> ((unfold State.stackCross); (try simp only []); (repeat' split) <;> (try simp (maxDischargeDepth := 60) [State.when, apply_ite Prod.snd]))

@[simp] theorem State.stackCross_ok (s : State) (hok : s.fieldsOk) : (State.stackCross s).fieldsOk := by
  ((unfold State.stackCross); (try simp only []); (repeat' split) <;> (try simp +contextual (maxDischargeDepth := 60) [hok, State.when, apply_ite Prod.snd]))

@[simp] theorem State.checkSample_getF (s : State) (fld : Fld) (itm : Nat) (hw : fld ∉ ([] : List Fld)) :
    (State.checkSample s).getF fld itm = s.getF fld itm := by
  try simp only [List.mem_cons, not_or, List.not_mem_nil, not_false_eq_true] at hw
  simp (maxDischargeDepth := 60) [State.checkSample, hw, apply_ite Prod.snd]

@[simp] theorem State.checkSample_parts (s : State) :
    (State.checkSample s).time = s.time ∧ (State.checkSample s).cfg = s.cfg ∧ (State.checkSample s).raiseQ = s.raiseQ ∧ (State.checkSample s).out = s.out ∧ (State.checkSample s).freeCtr = s.freeCtr ∧ (State.checkSample s).flt = s.flt ∧ (State.checkSample s).phs = s.phs ∧ (State.checkSample s).dom = s.dom ∧ (State.checkSample s).eng = s.eng ∧ (State.checkSample s).est = s.est ∧ (State.checkSample s).bud = s.bud ∧ (State.checkSample s).thm = s.thm ∧ (State.checkSample s).hrd = s.hrd ∧ (State.checkSample s).tlm = s.tlm ∧ (State.checkSample s).cmd = s.cmd ∧ (State.checkSample s).boot = s.boot ∧ (State.checkSample s).adc = s.adc ∧ (State.checkSample s).fw = s.fw ∧ (State.checkSample s).lt = s.lt ∧ (State.checkSample s).pending = s.pending := by
  refine ⟨?_, ?_, ?_, ?_, ?_, ?_, ?_, ?_, ?_, ?_, ?_, ?_, ?_, ?_, ?_, ?_, ?_, ?_, ?_, ?_⟩ <;> (simp (maxDischargeDepth := 60) [State.checkSample, apply_ite Prod.snd])

@[simp] theorem State.checkSample_ok (s : State) (hok : s.fieldsOk) : (State.checkSample s).fieldsOk := by
  simp +contextual (maxDischargeDepth := 60) [State.checkSample, hok, apply_ite Prod.snd]

@[simp] theorem State.accDroop_getF (s : State) (d : Nat) (fld : Fld) (itm : Nat) (hw : fld ∉ ([] : List Fld)) :
    (State.accDroop s d).getF fld itm = s.getF fld itm := by
  try simp only [List.mem_cons, not_or, List.not_mem_nil, not_false_eq_true] at hw
  simp (maxDischargeDepth := 60) [State.accDroop, hw, apply_ite Prod.snd]

@[simp] theorem State.accDroop_parts (s : State) (d : Nat) :
    (State.accDroop s d).time = s.time ∧ (State.accDroop s d).cfg = s.cfg ∧ (State.accDroop s d).raiseQ = s.raiseQ ∧ (State.accDroop s d).out = s.out ∧ (State.accDroop s d).freeCtr = s.freeCtr ∧ (State.accDroop s d).flt = s.flt ∧ (State.accDroop s d).phs = s.phs ∧ (State.accDroop s d).dom = s.dom ∧ (State.accDroop s d).eng = s.eng ∧ (State.accDroop s d).start = s.start ∧ (State.accDroop s d).est = s.est ∧ (State.accDroop s d).bud = s.bud ∧ (State.accDroop s d).thm = s.thm ∧ (State.accDroop s d).hrd = s.hrd ∧ (State.accDroop s d).cmd = s.cmd ∧ (State.accDroop s d).boot = s.boot ∧ (State.accDroop s d).adc = s.adc ∧ (State.accDroop s d).fw = s.fw ∧ (State.accDroop s d).lt = s.lt ∧ (State.accDroop s d).pending = s.pending := by
  refine ⟨?_, ?_, ?_, ?_, ?_, ?_, ?_, ?_, ?_, ?_, ?_, ?_, ?_, ?_, ?_, ?_, ?_, ?_, ?_, ?_⟩ <;> (simp (maxDischargeDepth := 60) [State.accDroop, apply_ite Prod.snd])

@[simp] theorem State.accDroop_ok (s : State) (d : Nat) (hok : s.fieldsOk) : (State.accDroop s d).fieldsOk := by
  simp +contextual (maxDischargeDepth := 60) [State.accDroop, hok, apply_ite Prod.snd]

@[simp] theorem State.accSample_getF (s : State) (fld : Fld) (itm : Nat) (hw : fld ∉ ([] : List Fld)) :
    (State.accSample s).getF fld itm = s.getF fld itm := by
  try simp only [List.mem_cons, not_or, List.not_mem_nil, not_false_eq_true] at hw
  ((unfold State.accSample); (try simp only []); (repeat' split) <;> (try simp (maxDischargeDepth := 60) [hw, State.when, apply_ite Prod.snd]))

@[simp] theorem State.accSample_parts (s : State) :
    (State.accSample s).time = s.time ∧ (State.accSample s).cfg = s.cfg ∧ (State.accSample s).raiseQ = s.raiseQ ∧ (State.accSample s).out = s.out ∧ (State.accSample s).freeCtr = s.freeCtr ∧ (State.accSample s).flt = s.flt ∧ (State.accSample s).phs = s.phs ∧ (State.accSample s).dom = s.dom ∧ (State.accSample s).eng = s.eng ∧ (State.accSample s).start = s.start ∧ (State.accSample s).est = s.est ∧ (State.accSample s).bud = s.bud ∧ (State.accSample s).thm = s.thm ∧ (State.accSample s).hrd = s.hrd ∧ (State.accSample s).cmd = s.cmd ∧ (State.accSample s).boot = s.boot ∧ (State.accSample s).adc = s.adc ∧ (State.accSample s).fw = s.fw ∧ (State.accSample s).lt = s.lt ∧ (State.accSample s).pending = s.pending := by
  refine ⟨?_, ?_, ?_, ?_, ?_, ?_, ?_, ?_, ?_, ?_, ?_, ?_, ?_, ?_, ?_, ?_, ?_, ?_, ?_, ?_⟩ <;> ((unfold State.accSample); (try simp only []); (repeat' split) <;> (try simp (maxDischargeDepth := 60) [State.when, apply_ite Prod.snd]))

@[simp] theorem State.accSample_ok (s : State) (hok : s.fieldsOk) : (State.accSample s).fieldsOk := by
  ((unfold State.accSample); (try simp only []); (repeat' split) <;> (try simp +contextual (maxDischargeDepth := 60) [hok, State.when, apply_ite Prod.snd]))

@[simp] theorem State.capLatch_getF (s : State) (fld : Fld) (itm : Nat) (hw : fld ∉ ([] : List Fld)) :
    (State.capLatch s).getF fld itm = s.getF fld itm := by
  try simp only [List.mem_cons, not_or, List.not_mem_nil, not_false_eq_true] at hw
  simp (maxDischargeDepth := 60) [State.capLatch, hw, apply_ite Prod.snd]

@[simp] theorem State.capLatch_parts (s : State) :
    (State.capLatch s).time = s.time ∧ (State.capLatch s).cfg = s.cfg ∧ (State.capLatch s).raiseQ = s.raiseQ ∧ (State.capLatch s).out = s.out ∧ (State.capLatch s).flt = s.flt ∧ (State.capLatch s).phs = s.phs ∧ (State.capLatch s).dom = s.dom ∧ (State.capLatch s).eng = s.eng ∧ (State.capLatch s).start = s.start ∧ (State.capLatch s).est = s.est ∧ (State.capLatch s).bud = s.bud ∧ (State.capLatch s).thm = s.thm ∧ (State.capLatch s).hrd = s.hrd ∧ (State.capLatch s).cmd = s.cmd ∧ (State.capLatch s).boot = s.boot ∧ (State.capLatch s).adc = s.adc ∧ (State.capLatch s).fw = s.fw ∧ (State.capLatch s).lt = s.lt ∧ (State.capLatch s).pending = s.pending := by
  refine ⟨?_, ?_, ?_, ?_, ?_, ?_, ?_, ?_, ?_, ?_, ?_, ?_, ?_, ?_, ?_, ?_, ?_, ?_, ?_⟩ <;> (simp (maxDischargeDepth := 60) [State.capLatch, apply_ite Prod.snd])

@[simp] theorem State.capLatch_ok (s : State) (hok : s.fieldsOk) : (State.capLatch s).fieldsOk := by
  simp +contextual (maxDischargeDepth := 60) [State.capLatch, hok, apply_ite Prod.snd]

end Sys2Proof.Machine
end

