-- ==== Sys2Proof/Laws/HerdOps.lean ====
section
/-! SUPPORT. What each Herd lock operation can do: the fields it may write, the parts of the state it keeps, and that it keeps
the register table in its canonical form. -/

namespace Sys2Proof.Machine
open Host (Outcome)
set_option maxRecDepth 4000
set_option linter.unusedSimpArgs false
set_option linter.unusedVariables false
set_option linter.unreachableTactic false
set_option linter.unusedTactic false

@[simp] theorem State.setPort_getF (s : State) (p : Nat) (x : HrdPort) (fld : Fld) (itm : Nat) (hw : fld ∉ ([] : List Fld)) :
    (State.setPort s p x).getF fld itm = s.getF fld itm := by
  try simp only [List.mem_cons, not_or, List.not_mem_nil, not_false_eq_true] at hw
  simp (maxDischargeDepth := 60) [State.setPort, hw, apply_ite Prod.snd]

@[simp] theorem State.setPort_parts (s : State) (p : Nat) (x : HrdPort) :
    (State.setPort s p x).time = s.time ∧ (State.setPort s p x).cfg = s.cfg ∧ (State.setPort s p x).raiseQ = s.raiseQ ∧ (State.setPort s p x).out = s.out ∧ (State.setPort s p x).freeCtr = s.freeCtr ∧ (State.setPort s p x).flt = s.flt ∧ (State.setPort s p x).phs = s.phs ∧ (State.setPort s p x).dom = s.dom ∧ (State.setPort s p x).eng = s.eng ∧ (State.setPort s p x).start = s.start ∧ (State.setPort s p x).est = s.est ∧ (State.setPort s p x).bud = s.bud ∧ (State.setPort s p x).thm = s.thm ∧ (State.setPort s p x).tlm = s.tlm ∧ (State.setPort s p x).cmd = s.cmd ∧ (State.setPort s p x).boot = s.boot ∧ (State.setPort s p x).adc = s.adc ∧ (State.setPort s p x).fw = s.fw ∧ (State.setPort s p x).lt = s.lt ∧ (State.setPort s p x).pending = s.pending := by
  refine ⟨?_, ?_, ?_, ?_, ?_, ?_, ?_, ?_, ?_, ?_, ?_, ?_, ?_, ?_, ?_, ?_, ?_, ?_, ?_, ?_⟩ <;> (simp (maxDischargeDepth := 60) [State.setPort, apply_ite Prod.snd])

@[simp] theorem State.setPort_ok (s : State) (p : Nat) (x : HrdPort) (hok : s.fieldsOk) : (State.setPort s p x).fieldsOk := by
  simp +contextual (maxDischargeDepth := 60) [State.setPort, hok, apply_ite Prod.snd]

@[simp] theorem State.setUp_getF (s : State) (p : Nat) (b : Bool) (fld : Fld) (itm : Nat) (hw : fld ∉ ([.HRD_PORT_UP, .HRD_STATUS_PORT_UP] : List Fld)) :
    (State.setUp s p b).getF fld itm = s.getF fld itm := by
  try simp only [List.mem_cons, not_or, List.not_mem_nil, not_false_eq_true] at hw
  simp (maxDischargeDepth := 60) [State.setUp, hw, apply_ite Prod.snd]

@[simp] theorem State.setUp_parts (s : State) (p : Nat) (b : Bool) :
    (State.setUp s p b).time = s.time ∧ (State.setUp s p b).cfg = s.cfg ∧ (State.setUp s p b).raiseQ = s.raiseQ ∧ (State.setUp s p b).out = s.out ∧ (State.setUp s p b).freeCtr = s.freeCtr ∧ (State.setUp s p b).flt = s.flt ∧ (State.setUp s p b).phs = s.phs ∧ (State.setUp s p b).dom = s.dom ∧ (State.setUp s p b).eng = s.eng ∧ (State.setUp s p b).start = s.start ∧ (State.setUp s p b).est = s.est ∧ (State.setUp s p b).bud = s.bud ∧ (State.setUp s p b).thm = s.thm ∧ (State.setUp s p b).hrd = s.hrd ∧ (State.setUp s p b).tlm = s.tlm ∧ (State.setUp s p b).cmd = s.cmd ∧ (State.setUp s p b).boot = s.boot ∧ (State.setUp s p b).adc = s.adc ∧ (State.setUp s p b).fw = s.fw ∧ (State.setUp s p b).lt = s.lt ∧ (State.setUp s p b).pending = s.pending := by
  refine ⟨?_, ?_, ?_, ?_, ?_, ?_, ?_, ?_, ?_, ?_, ?_, ?_, ?_, ?_, ?_, ?_, ?_, ?_, ?_, ?_, ?_⟩ <;> (simp (maxDischargeDepth := 60) [State.setUp, apply_ite Prod.snd])

@[simp] theorem State.setUp_ok (s : State) (p : Nat) (b : Bool) (hok : s.fieldsOk) : (State.setUp s p b).fieldsOk := by
  simp +contextual (maxDischargeDepth := 60) [State.setUp, hok, apply_ite Prod.snd]

@[simp] theorem State.sendLock_getF (s : State) (p typ flags sender : Nat) (body : List Nat) (fld : Fld) (itm : Nat) (hw : fld ∉ ([.CRC_EVENT_MISMATCH, .CRC_RESULT_RESULT, .CRC_STATUS_MATCH, .CRC_STATUS_MISMATCH, .CRC_STATUS_MISMATCH_COUNT, .CRC_STATUS_STATE, .CRC_VALUE_VALUE] : List Fld)) :
    (State.sendLock s p typ flags sender body).getF fld itm = s.getF fld itm := by
  try simp only [List.mem_cons, not_or, List.not_mem_nil, not_false_eq_true] at hw
  simp (maxDischargeDepth := 60) [State.sendLock, hw, apply_ite Prod.snd]

@[simp] theorem State.sendLock_parts (s : State) (p typ flags sender : Nat) (body : List Nat) :
    (State.sendLock s p typ flags sender body).time = s.time ∧ (State.sendLock s p typ flags sender body).cfg = s.cfg ∧ (State.sendLock s p typ flags sender body).raiseQ = s.raiseQ ∧ (State.sendLock s p typ flags sender body).freeCtr = s.freeCtr ∧ (State.sendLock s p typ flags sender body).flt = s.flt ∧ (State.sendLock s p typ flags sender body).phs = s.phs ∧ (State.sendLock s p typ flags sender body).dom = s.dom ∧ (State.sendLock s p typ flags sender body).eng = s.eng ∧ (State.sendLock s p typ flags sender body).start = s.start ∧ (State.sendLock s p typ flags sender body).est = s.est ∧ (State.sendLock s p typ flags sender body).bud = s.bud ∧ (State.sendLock s p typ flags sender body).thm = s.thm ∧ (State.sendLock s p typ flags sender body).tlm = s.tlm ∧ (State.sendLock s p typ flags sender body).cmd = s.cmd ∧ (State.sendLock s p typ flags sender body).boot = s.boot ∧ (State.sendLock s p typ flags sender body).adc = s.adc ∧ (State.sendLock s p typ flags sender body).fw = s.fw ∧ (State.sendLock s p typ flags sender body).lt = s.lt ∧ (State.sendLock s p typ flags sender body).pending = s.pending := by
  refine ⟨?_, ?_, ?_, ?_, ?_, ?_, ?_, ?_, ?_, ?_, ?_, ?_, ?_, ?_, ?_, ?_, ?_, ?_, ?_⟩ <;> (simp (maxDischargeDepth := 60) [State.sendLock, apply_ite Prod.snd])

@[simp] theorem State.sendLock_ok (s : State) (p typ flags sender : Nat) (body : List Nat) (hok : s.fieldsOk) : (State.sendLock s p typ flags sender body).fieldsOk := by
  simp +contextual (maxDischargeDepth := 60) [State.sendLock, hok, apply_ite Prod.snd]

@[simp] theorem State.sendOwn_getF (s : State) (p typ : Nat) (body : List Nat) (fld : Fld) (itm : Nat) (hw : fld ∉ ([.CRC_EVENT_MISMATCH, .CRC_RESULT_RESULT, .CRC_STATUS_MATCH, .CRC_STATUS_MISMATCH, .CRC_STATUS_MISMATCH_COUNT, .CRC_STATUS_STATE, .CRC_VALUE_VALUE] : List Fld)) :
    (State.sendOwn s p typ body).getF fld itm = s.getF fld itm := by
  try simp only [List.mem_cons, not_or, List.not_mem_nil, not_false_eq_true] at hw
  simp (maxDischargeDepth := 60) [State.sendOwn, hw, apply_ite Prod.snd]

@[simp] theorem State.sendOwn_parts (s : State) (p typ : Nat) (body : List Nat) :
    (State.sendOwn s p typ body).time = s.time ∧ (State.sendOwn s p typ body).cfg = s.cfg ∧ (State.sendOwn s p typ body).raiseQ = s.raiseQ ∧ (State.sendOwn s p typ body).freeCtr = s.freeCtr ∧ (State.sendOwn s p typ body).flt = s.flt ∧ (State.sendOwn s p typ body).phs = s.phs ∧ (State.sendOwn s p typ body).dom = s.dom ∧ (State.sendOwn s p typ body).eng = s.eng ∧ (State.sendOwn s p typ body).start = s.start ∧ (State.sendOwn s p typ body).est = s.est ∧ (State.sendOwn s p typ body).bud = s.bud ∧ (State.sendOwn s p typ body).thm = s.thm ∧ (State.sendOwn s p typ body).tlm = s.tlm ∧ (State.sendOwn s p typ body).cmd = s.cmd ∧ (State.sendOwn s p typ body).boot = s.boot ∧ (State.sendOwn s p typ body).adc = s.adc ∧ (State.sendOwn s p typ body).fw = s.fw ∧ (State.sendOwn s p typ body).lt = s.lt ∧ (State.sendOwn s p typ body).pending = s.pending := by
  refine ⟨?_, ?_, ?_, ?_, ?_, ?_, ?_, ?_, ?_, ?_, ?_, ?_, ?_, ?_, ?_, ?_, ?_, ?_, ?_⟩ <;> (simp (maxDischargeDepth := 60) [State.sendOwn, apply_ite Prod.snd])

@[simp] theorem State.sendOwn_ok (s : State) (p typ : Nat) (body : List Nat) (hok : s.fieldsOk) : (State.sendOwn s p typ body).fieldsOk := by
  simp +contextual (maxDischargeDepth := 60) [State.sendOwn, hok, apply_ite Prod.snd]

@[simp] theorem State.sendDown_getF (s : State) (typ : Nat) (body : List Nat) (fld : Fld) (itm : Nat) (hw : fld ∉ ([.CRC_EVENT_MISMATCH, .CRC_RESULT_RESULT, .CRC_STATUS_MATCH, .CRC_STATUS_MISMATCH, .CRC_STATUS_MISMATCH_COUNT, .CRC_STATUS_STATE, .CRC_VALUE_VALUE] : List Fld)) :
    (State.sendDown s typ body).getF fld itm = s.getF fld itm := by
  try simp only [List.mem_cons, not_or, List.not_mem_nil, not_false_eq_true] at hw
  simp (maxDischargeDepth := 60) [State.sendDown, hw, apply_ite Prod.snd]

@[simp] theorem State.sendDown_parts (s : State) (typ : Nat) (body : List Nat) :
    (State.sendDown s typ body).time = s.time ∧ (State.sendDown s typ body).cfg = s.cfg ∧ (State.sendDown s typ body).raiseQ = s.raiseQ ∧ (State.sendDown s typ body).freeCtr = s.freeCtr ∧ (State.sendDown s typ body).flt = s.flt ∧ (State.sendDown s typ body).phs = s.phs ∧ (State.sendDown s typ body).dom = s.dom ∧ (State.sendDown s typ body).eng = s.eng ∧ (State.sendDown s typ body).start = s.start ∧ (State.sendDown s typ body).est = s.est ∧ (State.sendDown s typ body).bud = s.bud ∧ (State.sendDown s typ body).thm = s.thm ∧ (State.sendDown s typ body).tlm = s.tlm ∧ (State.sendDown s typ body).cmd = s.cmd ∧ (State.sendDown s typ body).boot = s.boot ∧ (State.sendDown s typ body).adc = s.adc ∧ (State.sendDown s typ body).fw = s.fw ∧ (State.sendDown s typ body).lt = s.lt ∧ (State.sendDown s typ body).pending = s.pending := by
  refine ⟨?_, ?_, ?_, ?_, ?_, ?_, ?_, ?_, ?_, ?_, ?_, ?_, ?_, ?_, ?_, ?_, ?_, ?_, ?_⟩ <;> (simp (maxDischargeDepth := 60) [State.sendDown, apply_ite Prod.snd])

@[simp] theorem State.sendDown_ok (s : State) (typ : Nat) (body : List Nat) (hok : s.fieldsOk) : (State.sendDown s typ body).fieldsOk := by
  simp +contextual (maxDischargeDepth := 60) [State.sendDown, hok, apply_ite Prod.snd]

@[simp] theorem State.forwardDown_getF (s : State) (typ : Nat) (m : LockMsg) (fld : Fld) (itm : Nat) (hw : fld ∉ ([.CRC_EVENT_MISMATCH, .CRC_RESULT_RESULT, .CRC_STATUS_MATCH, .CRC_STATUS_MISMATCH, .CRC_STATUS_MISMATCH_COUNT, .CRC_STATUS_STATE, .CRC_VALUE_VALUE] : List Fld)) :
    (State.forwardDown s typ m).getF fld itm = s.getF fld itm := by
  try simp only [List.mem_cons, not_or, List.not_mem_nil, not_false_eq_true] at hw
  simp (maxDischargeDepth := 60) [State.forwardDown, hw, apply_ite Prod.snd]

@[simp] theorem State.forwardDown_parts (s : State) (typ : Nat) (m : LockMsg) :
    (State.forwardDown s typ m).time = s.time ∧ (State.forwardDown s typ m).cfg = s.cfg ∧ (State.forwardDown s typ m).raiseQ = s.raiseQ ∧ (State.forwardDown s typ m).freeCtr = s.freeCtr ∧ (State.forwardDown s typ m).flt = s.flt ∧ (State.forwardDown s typ m).phs = s.phs ∧ (State.forwardDown s typ m).dom = s.dom ∧ (State.forwardDown s typ m).eng = s.eng ∧ (State.forwardDown s typ m).start = s.start ∧ (State.forwardDown s typ m).est = s.est ∧ (State.forwardDown s typ m).bud = s.bud ∧ (State.forwardDown s typ m).thm = s.thm ∧ (State.forwardDown s typ m).tlm = s.tlm ∧ (State.forwardDown s typ m).cmd = s.cmd ∧ (State.forwardDown s typ m).boot = s.boot ∧ (State.forwardDown s typ m).adc = s.adc ∧ (State.forwardDown s typ m).fw = s.fw ∧ (State.forwardDown s typ m).lt = s.lt ∧ (State.forwardDown s typ m).pending = s.pending := by
  refine ⟨?_, ?_, ?_, ?_, ?_, ?_, ?_, ?_, ?_, ?_, ?_, ?_, ?_, ?_, ?_, ?_, ?_, ?_, ?_⟩ <;> (simp (maxDischargeDepth := 60) [State.forwardDown, apply_ite Prod.snd])

@[simp] theorem State.forwardDown_ok (s : State) (typ : Nat) (m : LockMsg) (hok : s.fieldsOk) : (State.forwardDown s typ m).fieldsOk := by
  simp +contextual (maxDischargeDepth := 60) [State.forwardDown, hok, apply_ite Prod.snd]

@[simp] theorem State.rxMsg_getF (s : State) (p typ : Nat) (m : LockMsg) (f : State → State) (fld : Fld) (itm : Nat) (hw : fld ∉ ([.CRC_EVENT_MISMATCH, .CRC_RESULT_RESULT, .CRC_STATUS_MATCH, .CRC_STATUS_MISMATCH, .CRC_STATUS_MISMATCH_COUNT, .CRC_STATUS_STATE, .CRC_VALUE_VALUE] : List Fld)) (h_f : ∀  t, (f t).getF fld itm = t.getF fld itm) :
    (State.rxMsg s p typ m f).getF fld itm = s.getF fld itm := by
  try simp only [List.mem_cons, not_or, List.not_mem_nil, not_false_eq_true] at hw
  simp (maxDischargeDepth := 60) [State.rxMsg, hw, h_f, apply_ite Prod.snd]

@[simp] theorem State.rxMsg_time (s : State) (p typ : Nat) (m : LockMsg) (f : State → State) (h_f : ∀  t, (f t).time = t.time) :
    (State.rxMsg s p typ m f).time = s.time := by
  simp (maxDischargeDepth := 60) [State.rxMsg, h_f, apply_ite Prod.snd]

@[simp] theorem State.rxMsg_cfg (s : State) (p typ : Nat) (m : LockMsg) (f : State → State) (h_f : ∀  t, (f t).cfg = t.cfg) :
    (State.rxMsg s p typ m f).cfg = s.cfg := by
  simp (maxDischargeDepth := 60) [State.rxMsg, h_f, apply_ite Prod.snd]

@[simp] theorem State.rxMsg_raiseQ (s : State) (p typ : Nat) (m : LockMsg) (f : State → State) (h_f : ∀  t, (f t).raiseQ = t.raiseQ) :
    (State.rxMsg s p typ m f).raiseQ = s.raiseQ := by
  simp (maxDischargeDepth := 60) [State.rxMsg, h_f, apply_ite Prod.snd]

@[simp] theorem State.rxMsg_freeCtr (s : State) (p typ : Nat) (m : LockMsg) (f : State → State) (h_f : ∀  t, (f t).freeCtr = t.freeCtr) :
    (State.rxMsg s p typ m f).freeCtr = s.freeCtr := by
  simp (maxDischargeDepth := 60) [State.rxMsg, h_f, apply_ite Prod.snd]

@[simp] theorem State.rxMsg_flt (s : State) (p typ : Nat) (m : LockMsg) (f : State → State) (h_f : ∀  t, (f t).flt = t.flt) :
    (State.rxMsg s p typ m f).flt = s.flt := by
  simp (maxDischargeDepth := 60) [State.rxMsg, h_f, apply_ite Prod.snd]

@[simp] theorem State.rxMsg_phs (s : State) (p typ : Nat) (m : LockMsg) (f : State → State) (h_f : ∀  t, (f t).phs = t.phs) :
    (State.rxMsg s p typ m f).phs = s.phs := by
  simp (maxDischargeDepth := 60) [State.rxMsg, h_f, apply_ite Prod.snd]

@[simp] theorem State.rxMsg_dom (s : State) (p typ : Nat) (m : LockMsg) (f : State → State) (h_f : ∀  t, (f t).dom = t.dom) :
    (State.rxMsg s p typ m f).dom = s.dom := by
  simp (maxDischargeDepth := 60) [State.rxMsg, h_f, apply_ite Prod.snd]

@[simp] theorem State.rxMsg_eng (s : State) (p typ : Nat) (m : LockMsg) (f : State → State) (h_f : ∀  t, (f t).eng = t.eng) :
    (State.rxMsg s p typ m f).eng = s.eng := by
  simp (maxDischargeDepth := 60) [State.rxMsg, h_f, apply_ite Prod.snd]

@[simp] theorem State.rxMsg_start (s : State) (p typ : Nat) (m : LockMsg) (f : State → State) (h_f : ∀  t, (f t).start = t.start) :
    (State.rxMsg s p typ m f).start = s.start := by
  simp (maxDischargeDepth := 60) [State.rxMsg, h_f, apply_ite Prod.snd]

@[simp] theorem State.rxMsg_est (s : State) (p typ : Nat) (m : LockMsg) (f : State → State) (h_f : ∀  t, (f t).est = t.est) :
    (State.rxMsg s p typ m f).est = s.est := by
  simp (maxDischargeDepth := 60) [State.rxMsg, h_f, apply_ite Prod.snd]

@[simp] theorem State.rxMsg_bud (s : State) (p typ : Nat) (m : LockMsg) (f : State → State) (h_f : ∀  t, (f t).bud = t.bud) :
    (State.rxMsg s p typ m f).bud = s.bud := by
  simp (maxDischargeDepth := 60) [State.rxMsg, h_f, apply_ite Prod.snd]

@[simp] theorem State.rxMsg_thm (s : State) (p typ : Nat) (m : LockMsg) (f : State → State) (h_f : ∀  t, (f t).thm = t.thm) :
    (State.rxMsg s p typ m f).thm = s.thm := by
  simp (maxDischargeDepth := 60) [State.rxMsg, h_f, apply_ite Prod.snd]

@[simp] theorem State.rxMsg_tlm (s : State) (p typ : Nat) (m : LockMsg) (f : State → State) (h_f : ∀  t, (f t).tlm = t.tlm) :
    (State.rxMsg s p typ m f).tlm = s.tlm := by
  simp (maxDischargeDepth := 60) [State.rxMsg, h_f, apply_ite Prod.snd]

@[simp] theorem State.rxMsg_cmd (s : State) (p typ : Nat) (m : LockMsg) (f : State → State) (h_f : ∀  t, (f t).cmd = t.cmd) :
    (State.rxMsg s p typ m f).cmd = s.cmd := by
  simp (maxDischargeDepth := 60) [State.rxMsg, h_f, apply_ite Prod.snd]

@[simp] theorem State.rxMsg_boot (s : State) (p typ : Nat) (m : LockMsg) (f : State → State) (h_f : ∀  t, (f t).boot = t.boot) :
    (State.rxMsg s p typ m f).boot = s.boot := by
  simp (maxDischargeDepth := 60) [State.rxMsg, h_f, apply_ite Prod.snd]

@[simp] theorem State.rxMsg_adc (s : State) (p typ : Nat) (m : LockMsg) (f : State → State) (h_f : ∀  t, (f t).adc = t.adc) :
    (State.rxMsg s p typ m f).adc = s.adc := by
  simp (maxDischargeDepth := 60) [State.rxMsg, h_f, apply_ite Prod.snd]

@[simp] theorem State.rxMsg_fw (s : State) (p typ : Nat) (m : LockMsg) (f : State → State) (h_f : ∀  t, (f t).fw = t.fw) :
    (State.rxMsg s p typ m f).fw = s.fw := by
  simp (maxDischargeDepth := 60) [State.rxMsg, h_f, apply_ite Prod.snd]

@[simp] theorem State.rxMsg_lt (s : State) (p typ : Nat) (m : LockMsg) (f : State → State) (h_f : ∀  t, (f t).lt = t.lt) :
    (State.rxMsg s p typ m f).lt = s.lt := by
  simp (maxDischargeDepth := 60) [State.rxMsg, h_f, apply_ite Prod.snd]

@[simp] theorem State.rxMsg_pending (s : State) (p typ : Nat) (m : LockMsg) (f : State → State) (h_f : ∀  t, (f t).pending = t.pending) :
    (State.rxMsg s p typ m f).pending = s.pending := by
  simp (maxDischargeDepth := 60) [State.rxMsg, h_f, apply_ite Prod.snd]

@[simp] theorem State.rxMsg_ok (s : State) (p typ : Nat) (m : LockMsg) (f : State → State) (hok : s.fieldsOk) (h_f : ∀  t, t.fieldsOk → (f t).fieldsOk) : (State.rxMsg s p typ m f).fieldsOk := by
  simp +contextual (maxDischargeDepth := 60) [State.rxMsg, hok, h_f, apply_ite Prod.snd]

@[simp] theorem State.rxLock_getF (s : State) (p typ : Nat) (m : LockMsg) (f : State → State) (fld : Fld) (itm : Nat) (hw : fld ∉ ([.CRC_EVENT_MISMATCH, .CRC_RESULT_RESULT, .CRC_STATUS_MATCH, .CRC_STATUS_MISMATCH, .CRC_STATUS_MISMATCH_COUNT, .CRC_STATUS_STATE, .CRC_VALUE_VALUE] : List Fld)) (h_f : ∀  t, (f t).getF fld itm = t.getF fld itm) :
    (State.rxLock s p typ m f).getF fld itm = s.getF fld itm := by
  try simp only [List.mem_cons, not_or, List.not_mem_nil, not_false_eq_true] at hw
  simp (maxDischargeDepth := 60) [State.rxLock, hw, h_f, apply_ite Prod.snd]

@[simp] theorem State.rxLock_time (s : State) (p typ : Nat) (m : LockMsg) (f : State → State) (h_f : ∀  t, (f t).time = t.time) :
    (State.rxLock s p typ m f).time = s.time := by
  simp (maxDischargeDepth := 60) [State.rxLock, h_f, apply_ite Prod.snd]

@[simp] theorem State.rxLock_cfg (s : State) (p typ : Nat) (m : LockMsg) (f : State → State) (h_f : ∀  t, (f t).cfg = t.cfg) :
    (State.rxLock s p typ m f).cfg = s.cfg := by
  simp (maxDischargeDepth := 60) [State.rxLock, h_f, apply_ite Prod.snd]

@[simp] theorem State.rxLock_raiseQ (s : State) (p typ : Nat) (m : LockMsg) (f : State → State) (h_f : ∀  t, (f t).raiseQ = t.raiseQ) :
    (State.rxLock s p typ m f).raiseQ = s.raiseQ := by
  simp (maxDischargeDepth := 60) [State.rxLock, h_f, apply_ite Prod.snd]

@[simp] theorem State.rxLock_freeCtr (s : State) (p typ : Nat) (m : LockMsg) (f : State → State) (h_f : ∀  t, (f t).freeCtr = t.freeCtr) :
    (State.rxLock s p typ m f).freeCtr = s.freeCtr := by
  simp (maxDischargeDepth := 60) [State.rxLock, h_f, apply_ite Prod.snd]

@[simp] theorem State.rxLock_flt (s : State) (p typ : Nat) (m : LockMsg) (f : State → State) (h_f : ∀  t, (f t).flt = t.flt) :
    (State.rxLock s p typ m f).flt = s.flt := by
  simp (maxDischargeDepth := 60) [State.rxLock, h_f, apply_ite Prod.snd]

@[simp] theorem State.rxLock_phs (s : State) (p typ : Nat) (m : LockMsg) (f : State → State) (h_f : ∀  t, (f t).phs = t.phs) :
    (State.rxLock s p typ m f).phs = s.phs := by
  simp (maxDischargeDepth := 60) [State.rxLock, h_f, apply_ite Prod.snd]

@[simp] theorem State.rxLock_dom (s : State) (p typ : Nat) (m : LockMsg) (f : State → State) (h_f : ∀  t, (f t).dom = t.dom) :
    (State.rxLock s p typ m f).dom = s.dom := by
  simp (maxDischargeDepth := 60) [State.rxLock, h_f, apply_ite Prod.snd]

@[simp] theorem State.rxLock_eng (s : State) (p typ : Nat) (m : LockMsg) (f : State → State) (h_f : ∀  t, (f t).eng = t.eng) :
    (State.rxLock s p typ m f).eng = s.eng := by
  simp (maxDischargeDepth := 60) [State.rxLock, h_f, apply_ite Prod.snd]

@[simp] theorem State.rxLock_start (s : State) (p typ : Nat) (m : LockMsg) (f : State → State) (h_f : ∀  t, (f t).start = t.start) :
    (State.rxLock s p typ m f).start = s.start := by
  simp (maxDischargeDepth := 60) [State.rxLock, h_f, apply_ite Prod.snd]

@[simp] theorem State.rxLock_est (s : State) (p typ : Nat) (m : LockMsg) (f : State → State) (h_f : ∀  t, (f t).est = t.est) :
    (State.rxLock s p typ m f).est = s.est := by
  simp (maxDischargeDepth := 60) [State.rxLock, h_f, apply_ite Prod.snd]

@[simp] theorem State.rxLock_bud (s : State) (p typ : Nat) (m : LockMsg) (f : State → State) (h_f : ∀  t, (f t).bud = t.bud) :
    (State.rxLock s p typ m f).bud = s.bud := by
  simp (maxDischargeDepth := 60) [State.rxLock, h_f, apply_ite Prod.snd]

@[simp] theorem State.rxLock_thm (s : State) (p typ : Nat) (m : LockMsg) (f : State → State) (h_f : ∀  t, (f t).thm = t.thm) :
    (State.rxLock s p typ m f).thm = s.thm := by
  simp (maxDischargeDepth := 60) [State.rxLock, h_f, apply_ite Prod.snd]

@[simp] theorem State.rxLock_tlm (s : State) (p typ : Nat) (m : LockMsg) (f : State → State) (h_f : ∀  t, (f t).tlm = t.tlm) :
    (State.rxLock s p typ m f).tlm = s.tlm := by
  simp (maxDischargeDepth := 60) [State.rxLock, h_f, apply_ite Prod.snd]

@[simp] theorem State.rxLock_cmd (s : State) (p typ : Nat) (m : LockMsg) (f : State → State) (h_f : ∀  t, (f t).cmd = t.cmd) :
    (State.rxLock s p typ m f).cmd = s.cmd := by
  simp (maxDischargeDepth := 60) [State.rxLock, h_f, apply_ite Prod.snd]

@[simp] theorem State.rxLock_boot (s : State) (p typ : Nat) (m : LockMsg) (f : State → State) (h_f : ∀  t, (f t).boot = t.boot) :
    (State.rxLock s p typ m f).boot = s.boot := by
  simp (maxDischargeDepth := 60) [State.rxLock, h_f, apply_ite Prod.snd]

@[simp] theorem State.rxLock_adc (s : State) (p typ : Nat) (m : LockMsg) (f : State → State) (h_f : ∀  t, (f t).adc = t.adc) :
    (State.rxLock s p typ m f).adc = s.adc := by
  simp (maxDischargeDepth := 60) [State.rxLock, h_f, apply_ite Prod.snd]

@[simp] theorem State.rxLock_fw (s : State) (p typ : Nat) (m : LockMsg) (f : State → State) (h_f : ∀  t, (f t).fw = t.fw) :
    (State.rxLock s p typ m f).fw = s.fw := by
  simp (maxDischargeDepth := 60) [State.rxLock, h_f, apply_ite Prod.snd]

@[simp] theorem State.rxLock_lt (s : State) (p typ : Nat) (m : LockMsg) (f : State → State) (h_f : ∀  t, (f t).lt = t.lt) :
    (State.rxLock s p typ m f).lt = s.lt := by
  simp (maxDischargeDepth := 60) [State.rxLock, h_f, apply_ite Prod.snd]

@[simp] theorem State.rxLock_pending (s : State) (p typ : Nat) (m : LockMsg) (f : State → State) (h_f : ∀  t, (f t).pending = t.pending) :
    (State.rxLock s p typ m f).pending = s.pending := by
  simp (maxDischargeDepth := 60) [State.rxLock, h_f, apply_ite Prod.snd]

@[simp] theorem State.rxLock_ok (s : State) (p typ : Nat) (m : LockMsg) (f : State → State) (hok : s.fieldsOk) (h_f : ∀  t, t.fieldsOk → (f t).fieldsOk) : (State.rxLock s p typ m f).fieldsOk := by
  simp +contextual (maxDischargeDepth := 60) [State.rxLock, hok, h_f, apply_ite Prod.snd]

@[simp] theorem State.sendHello_getF (s : State) (p : Nat) (fld : Fld) (itm : Nat) (hw : fld ∉ ([.CRC_EVENT_MISMATCH, .CRC_RESULT_RESULT, .CRC_STATUS_MATCH, .CRC_STATUS_MISMATCH, .CRC_STATUS_MISMATCH_COUNT, .CRC_STATUS_STATE, .CRC_VALUE_VALUE] : List Fld)) :
    (State.sendHello s p).getF fld itm = s.getF fld itm := by
  try simp only [List.mem_cons, not_or, List.not_mem_nil, not_false_eq_true] at hw
  simp (maxDischargeDepth := 60) [State.sendHello, hw, apply_ite Prod.snd]

@[simp] theorem State.sendHello_parts (s : State) (p : Nat) :
    (State.sendHello s p).time = s.time ∧ (State.sendHello s p).cfg = s.cfg ∧ (State.sendHello s p).raiseQ = s.raiseQ ∧ (State.sendHello s p).freeCtr = s.freeCtr ∧ (State.sendHello s p).flt = s.flt ∧ (State.sendHello s p).phs = s.phs ∧ (State.sendHello s p).dom = s.dom ∧ (State.sendHello s p).eng = s.eng ∧ (State.sendHello s p).start = s.start ∧ (State.sendHello s p).est = s.est ∧ (State.sendHello s p).bud = s.bud ∧ (State.sendHello s p).thm = s.thm ∧ (State.sendHello s p).tlm = s.tlm ∧ (State.sendHello s p).cmd = s.cmd ∧ (State.sendHello s p).boot = s.boot ∧ (State.sendHello s p).adc = s.adc ∧ (State.sendHello s p).fw = s.fw ∧ (State.sendHello s p).lt = s.lt ∧ (State.sendHello s p).pending = s.pending := by
  refine ⟨?_, ?_, ?_, ?_, ?_, ?_, ?_, ?_, ?_, ?_, ?_, ?_, ?_, ?_, ?_, ?_, ?_, ?_, ?_⟩ <;> (simp (maxDischargeDepth := 60) [State.sendHello, apply_ite Prod.snd])

@[simp] theorem State.sendHello_ok (s : State) (p : Nat) (hok : s.fieldsOk) : (State.sendHello s p).fieldsOk := by
  simp +contextual (maxDischargeDepth := 60) [State.sendHello, hok, apply_ite Prod.snd]

@[simp] theorem State.holdChange_getF (s : State) (fNew seq ct : Nat) (fld : Fld) (itm : Nat) (hw : fld ∉ ([.HRD_FREQ_PEND, .HRD_PEND_CHG_SEQ, .HRD_PEND_F_NEW, .HRD_PEND_TICK_HI_CT_HI, .HRD_PEND_TICK_LO_CT_LO] : List Fld)) :
    (State.holdChange s fNew seq ct).getF fld itm = s.getF fld itm := by
  try simp only [List.mem_cons, not_or, List.not_mem_nil, not_false_eq_true] at hw
  simp (maxDischargeDepth := 60) [State.holdChange, hw, apply_ite Prod.snd]

@[simp] theorem State.holdChange_parts (s : State) (fNew seq ct : Nat) :
    (State.holdChange s fNew seq ct).time = s.time ∧ (State.holdChange s fNew seq ct).cfg = s.cfg ∧ (State.holdChange s fNew seq ct).raiseQ = s.raiseQ ∧ (State.holdChange s fNew seq ct).out = s.out ∧ (State.holdChange s fNew seq ct).freeCtr = s.freeCtr ∧ (State.holdChange s fNew seq ct).flt = s.flt ∧ (State.holdChange s fNew seq ct).phs = s.phs ∧ (State.holdChange s fNew seq ct).dom = s.dom ∧ (State.holdChange s fNew seq ct).eng = s.eng ∧ (State.holdChange s fNew seq ct).start = s.start ∧ (State.holdChange s fNew seq ct).est = s.est ∧ (State.holdChange s fNew seq ct).bud = s.bud ∧ (State.holdChange s fNew seq ct).thm = s.thm ∧ (State.holdChange s fNew seq ct).hrd = s.hrd ∧ (State.holdChange s fNew seq ct).tlm = s.tlm ∧ (State.holdChange s fNew seq ct).cmd = s.cmd ∧ (State.holdChange s fNew seq ct).boot = s.boot ∧ (State.holdChange s fNew seq ct).adc = s.adc ∧ (State.holdChange s fNew seq ct).fw = s.fw ∧ (State.holdChange s fNew seq ct).lt = s.lt ∧ (State.holdChange s fNew seq ct).pending = s.pending := by
  refine ⟨?_, ?_, ?_, ?_, ?_, ?_, ?_, ?_, ?_, ?_, ?_, ?_, ?_, ?_, ?_, ?_, ?_, ?_, ?_, ?_, ?_⟩ <;> (simp (maxDischargeDepth := 60) [State.holdChange, apply_ite Prod.snd])

@[simp] theorem State.holdChange_ok (s : State) (fNew seq ct : Nat) (hok : s.fieldsOk) : (State.holdChange s fNew seq ct).fieldsOk := by
  simp +contextual (maxDischargeDepth := 60) [State.holdChange, hok, apply_ite Prod.snd]

@[simp] theorem State.applyChange_getF (s : State) (fld : Fld) (itm : Nat) (hw : fld ∉ ([.HRD_FREQ_F_GRP, .HRD_FREQ_PEND] : List Fld)) :
    (State.applyChange s).getF fld itm = s.getF fld itm := by
  try simp only [List.mem_cons, not_or, List.not_mem_nil, not_false_eq_true] at hw
  simp (maxDischargeDepth := 60) [State.applyChange, hw, apply_ite Prod.snd]

@[simp] theorem State.applyChange_parts (s : State) :
    (State.applyChange s).time = s.time ∧ (State.applyChange s).cfg = s.cfg ∧ (State.applyChange s).raiseQ = s.raiseQ ∧ (State.applyChange s).out = s.out ∧ (State.applyChange s).freeCtr = s.freeCtr ∧ (State.applyChange s).flt = s.flt ∧ (State.applyChange s).phs = s.phs ∧ (State.applyChange s).dom = s.dom ∧ (State.applyChange s).eng = s.eng ∧ (State.applyChange s).start = s.start ∧ (State.applyChange s).est = s.est ∧ (State.applyChange s).bud = s.bud ∧ (State.applyChange s).thm = s.thm ∧ (State.applyChange s).tlm = s.tlm ∧ (State.applyChange s).cmd = s.cmd ∧ (State.applyChange s).boot = s.boot ∧ (State.applyChange s).adc = s.adc ∧ (State.applyChange s).fw = s.fw ∧ (State.applyChange s).lt = s.lt ∧ (State.applyChange s).pending = s.pending := by
  refine ⟨?_, ?_, ?_, ?_, ?_, ?_, ?_, ?_, ?_, ?_, ?_, ?_, ?_, ?_, ?_, ?_, ?_, ?_, ?_, ?_⟩ <;> (simp (maxDischargeDepth := 60) [State.applyChange, apply_ite Prod.snd])

@[simp] theorem State.applyChange_ok (s : State) (hok : s.fieldsOk) : (State.applyChange s).fieldsOk := by
  simp +contextual (maxDischargeDepth := 60) [State.applyChange, hok, apply_ite Prod.snd]

@[simp] theorem State.sendOffer_getF (s : State) (fld : Fld) (itm : Nat) (hw : fld ∉ ([.CRC_EVENT_MISMATCH, .CRC_RESULT_RESULT, .CRC_STATUS_MATCH, .CRC_STATUS_MISMATCH, .CRC_STATUS_MISMATCH_COUNT, .CRC_STATUS_STATE, .CRC_VALUE_VALUE] : List Fld)) :
    (State.sendOffer s).getF fld itm = s.getF fld itm := by
  try simp only [List.mem_cons, not_or, List.not_mem_nil, not_false_eq_true] at hw
  simp (maxDischargeDepth := 60) [State.sendOffer, hw, apply_ite Prod.snd]

@[simp] theorem State.sendOffer_parts (s : State) :
    (State.sendOffer s).time = s.time ∧ (State.sendOffer s).cfg = s.cfg ∧ (State.sendOffer s).raiseQ = s.raiseQ ∧ (State.sendOffer s).freeCtr = s.freeCtr ∧ (State.sendOffer s).flt = s.flt ∧ (State.sendOffer s).phs = s.phs ∧ (State.sendOffer s).dom = s.dom ∧ (State.sendOffer s).eng = s.eng ∧ (State.sendOffer s).start = s.start ∧ (State.sendOffer s).est = s.est ∧ (State.sendOffer s).bud = s.bud ∧ (State.sendOffer s).thm = s.thm ∧ (State.sendOffer s).tlm = s.tlm ∧ (State.sendOffer s).cmd = s.cmd ∧ (State.sendOffer s).boot = s.boot ∧ (State.sendOffer s).adc = s.adc ∧ (State.sendOffer s).fw = s.fw ∧ (State.sendOffer s).lt = s.lt ∧ (State.sendOffer s).pending = s.pending := by
  refine ⟨?_, ?_, ?_, ?_, ?_, ?_, ?_, ?_, ?_, ?_, ?_, ?_, ?_, ?_, ?_, ?_, ?_, ?_, ?_⟩ <;> (simp (maxDischargeDepth := 60) [State.sendOffer, apply_ite Prod.snd])

@[simp] theorem State.sendOffer_ok (s : State) (hok : s.fieldsOk) : (State.sendOffer s).fieldsOk := by
  simp +contextual (maxDischargeDepth := 60) [State.sendOffer, hok, apply_ite Prod.snd]

@[simp] theorem State.rootCheck_getF (s : State) (fld : Fld) (itm : Nat) (hw : fld ∉ ([.CRC_EVENT_MISMATCH, .CRC_RESULT_RESULT, .CRC_STATUS_MATCH, .CRC_STATUS_MISMATCH, .CRC_STATUS_MISMATCH_COUNT, .CRC_STATUS_STATE, .CRC_VALUE_VALUE, .HRD_EVENT_INCOMPLETE, .HRD_FREQ_PEND, .HRD_PEND_CHG_SEQ, .HRD_PEND_F_NEW, .HRD_PEND_TICK_HI_CT_HI, .HRD_PEND_TICK_LO_CT_LO, .HRD_STATUS_INCOMPLETE] : List Fld)) :
    (State.rootCheck s).getF fld itm = s.getF fld itm := by
  try simp only [List.mem_cons, not_or, List.not_mem_nil, not_false_eq_true] at hw
  simp (maxDischargeDepth := 60) [State.rootCheck, hw, apply_ite Prod.snd]

@[simp] theorem State.rootCheck_parts (s : State) :
    (State.rootCheck s).time = s.time ∧ (State.rootCheck s).cfg = s.cfg ∧ (State.rootCheck s).flt = s.flt ∧ (State.rootCheck s).phs = s.phs ∧ (State.rootCheck s).dom = s.dom ∧ (State.rootCheck s).eng = s.eng ∧ (State.rootCheck s).start = s.start ∧ (State.rootCheck s).est = s.est ∧ (State.rootCheck s).bud = s.bud ∧ (State.rootCheck s).thm = s.thm ∧ (State.rootCheck s).tlm = s.tlm ∧ (State.rootCheck s).cmd = s.cmd ∧ (State.rootCheck s).boot = s.boot ∧ (State.rootCheck s).adc = s.adc ∧ (State.rootCheck s).fw = s.fw ∧ (State.rootCheck s).lt = s.lt ∧ (State.rootCheck s).pending = s.pending := by
  refine ⟨?_, ?_, ?_, ?_, ?_, ?_, ?_, ?_, ?_, ?_, ?_, ?_, ?_, ?_, ?_, ?_, ?_⟩ <;> (simp (maxDischargeDepth := 60) [State.rootCheck, apply_ite Prod.snd])

@[simp] theorem State.rootCheck_ok (s : State) (hok : s.fieldsOk) : (State.rootCheck s).fieldsOk := by
  simp +contextual (maxDischargeDepth := 60) [State.rootCheck, hok, apply_ite Prod.snd]

@[simp] theorem State.offerUpdate_getF (s : State) (fld : Fld) (itm : Nat) (hw : fld ∉ ([.CRC_EVENT_MISMATCH, .CRC_RESULT_RESULT, .CRC_STATUS_MATCH, .CRC_STATUS_MISMATCH, .CRC_STATUS_MISMATCH_COUNT, .CRC_STATUS_STATE, .CRC_VALUE_VALUE, .HRD_EVENT_INCOMPLETE, .HRD_FREQ_PEND, .HRD_MEMBERS_EXCL_N, .HRD_MEMBERS_MEMBERS, .HRD_PEND_CHG_SEQ, .HRD_PEND_F_NEW, .HRD_PEND_TICK_HI_CT_HI, .HRD_PEND_TICK_LO_CT_LO, .HRD_STATUS_INCOMPLETE] : List Fld)) :
    (State.offerUpdate s).getF fld itm = s.getF fld itm := by
  try simp only [List.mem_cons, not_or, List.not_mem_nil, not_false_eq_true] at hw
  simp (maxDischargeDepth := 60) [State.offerUpdate, hw, apply_ite Prod.snd]

@[simp] theorem State.offerUpdate_parts (s : State) :
    (State.offerUpdate s).time = s.time ∧ (State.offerUpdate s).cfg = s.cfg ∧ (State.offerUpdate s).flt = s.flt ∧ (State.offerUpdate s).phs = s.phs ∧ (State.offerUpdate s).dom = s.dom ∧ (State.offerUpdate s).eng = s.eng ∧ (State.offerUpdate s).start = s.start ∧ (State.offerUpdate s).est = s.est ∧ (State.offerUpdate s).bud = s.bud ∧ (State.offerUpdate s).thm = s.thm ∧ (State.offerUpdate s).tlm = s.tlm ∧ (State.offerUpdate s).cmd = s.cmd ∧ (State.offerUpdate s).boot = s.boot ∧ (State.offerUpdate s).adc = s.adc ∧ (State.offerUpdate s).fw = s.fw ∧ (State.offerUpdate s).lt = s.lt ∧ (State.offerUpdate s).pending = s.pending := by
  refine ⟨?_, ?_, ?_, ?_, ?_, ?_, ?_, ?_, ?_, ?_, ?_, ?_, ?_, ?_, ?_, ?_, ?_⟩ <;> (simp (maxDischargeDepth := 60) [State.offerUpdate, apply_ite Prod.snd])

@[simp] theorem State.offerUpdate_ok (s : State) (hok : s.fieldsOk) : (State.offerUpdate s).fieldsOk := by
  simp +contextual (maxDischargeDepth := 60) [State.offerUpdate, hok, apply_ite Prod.snd]

@[simp] theorem State.sendDecide_getF (s : State) (target seq code : Nat) (fld : Fld) (itm : Nat) (hw : fld ∉ ([.CRC_EVENT_MISMATCH, .CRC_RESULT_RESULT, .CRC_STATUS_MATCH, .CRC_STATUS_MISMATCH, .CRC_STATUS_MISMATCH_COUNT, .CRC_STATUS_STATE, .CRC_VALUE_VALUE] : List Fld)) :
    (State.sendDecide s target seq code).getF fld itm = s.getF fld itm := by
  try simp only [List.mem_cons, not_or, List.not_mem_nil, not_false_eq_true] at hw
  simp (maxDischargeDepth := 60) [State.sendDecide, hw, apply_ite Prod.snd]

@[simp] theorem State.sendDecide_parts (s : State) (target seq code : Nat) :
    (State.sendDecide s target seq code).time = s.time ∧ (State.sendDecide s target seq code).cfg = s.cfg ∧ (State.sendDecide s target seq code).raiseQ = s.raiseQ ∧ (State.sendDecide s target seq code).freeCtr = s.freeCtr ∧ (State.sendDecide s target seq code).flt = s.flt ∧ (State.sendDecide s target seq code).phs = s.phs ∧ (State.sendDecide s target seq code).dom = s.dom ∧ (State.sendDecide s target seq code).eng = s.eng ∧ (State.sendDecide s target seq code).start = s.start ∧ (State.sendDecide s target seq code).est = s.est ∧ (State.sendDecide s target seq code).bud = s.bud ∧ (State.sendDecide s target seq code).thm = s.thm ∧ (State.sendDecide s target seq code).tlm = s.tlm ∧ (State.sendDecide s target seq code).cmd = s.cmd ∧ (State.sendDecide s target seq code).boot = s.boot ∧ (State.sendDecide s target seq code).adc = s.adc ∧ (State.sendDecide s target seq code).fw = s.fw ∧ (State.sendDecide s target seq code).lt = s.lt ∧ (State.sendDecide s target seq code).pending = s.pending := by
  refine ⟨?_, ?_, ?_, ?_, ?_, ?_, ?_, ?_, ?_, ?_, ?_, ?_, ?_, ?_, ?_, ?_, ?_, ?_, ?_⟩ <;> (simp (maxDischargeDepth := 60) [State.sendDecide, apply_ite Prod.snd])

@[simp] theorem State.sendDecide_ok (s : State) (target seq code : Nat) (hok : s.fieldsOk) : (State.sendDecide s target seq code).fieldsOk := by
  simp +contextual (maxDischargeDepth := 60) [State.sendDecide, hok, apply_ite Prod.snd]

@[simp] theorem State.endSlew_getF (s : State) (fld : Fld) (itm : Nat) (hw : fld ∉ ([.HRD_STATUS_SLEWING] : List Fld)) :
    (State.endSlew s).getF fld itm = s.getF fld itm := by
  try simp only [List.mem_cons, not_or, List.not_mem_nil, not_false_eq_true] at hw
  simp (maxDischargeDepth := 60) [State.endSlew, hw, apply_ite Prod.snd]

@[simp] theorem State.endSlew_parts (s : State) :
    (State.endSlew s).time = s.time ∧ (State.endSlew s).cfg = s.cfg ∧ (State.endSlew s).raiseQ = s.raiseQ ∧ (State.endSlew s).out = s.out ∧ (State.endSlew s).freeCtr = s.freeCtr ∧ (State.endSlew s).flt = s.flt ∧ (State.endSlew s).phs = s.phs ∧ (State.endSlew s).dom = s.dom ∧ (State.endSlew s).eng = s.eng ∧ (State.endSlew s).start = s.start ∧ (State.endSlew s).est = s.est ∧ (State.endSlew s).bud = s.bud ∧ (State.endSlew s).thm = s.thm ∧ (State.endSlew s).tlm = s.tlm ∧ (State.endSlew s).cmd = s.cmd ∧ (State.endSlew s).boot = s.boot ∧ (State.endSlew s).adc = s.adc ∧ (State.endSlew s).fw = s.fw ∧ (State.endSlew s).lt = s.lt ∧ (State.endSlew s).pending = s.pending := by
  refine ⟨?_, ?_, ?_, ?_, ?_, ?_, ?_, ?_, ?_, ?_, ?_, ?_, ?_, ?_, ?_, ?_, ?_, ?_, ?_, ?_⟩ <;> (simp (maxDischargeDepth := 60) [State.endSlew, apply_ite Prod.snd])

@[simp] theorem State.endSlew_ok (s : State) (hok : s.fieldsOk) : (State.endSlew s).fieldsOk := by
  simp +contextual (maxDischargeDepth := 60) [State.endSlew, hok, apply_ite Prod.snd]

@[simp] theorem State.exclEnd_getF (s : State) (barred : Bool) (fld : Fld) (itm : Nat) (hw : fld ∉ ([.CRC_EVENT_MISMATCH, .CRC_RESULT_RESULT, .CRC_STATUS_MATCH, .CRC_STATUS_MISMATCH, .CRC_STATUS_MISMATCH_COUNT, .CRC_STATUS_STATE, .CRC_VALUE_VALUE, .HRD_EVENT_INCOMPLETE, .HRD_FREQ_PEND, .HRD_MEMBERS_EXCL_N, .HRD_MEMBERS_MEMBERS, .HRD_PEND_CHG_SEQ, .HRD_PEND_F_NEW, .HRD_PEND_TICK_HI_CT_HI, .HRD_PEND_TICK_LO_CT_LO, .HRD_STATUS_INCOMPLETE, .HRD_STATUS_STATE] : List Fld)) :
    (State.exclEnd s barred).getF fld itm = s.getF fld itm := by
  try simp only [List.mem_cons, not_or, List.not_mem_nil, not_false_eq_true] at hw
  simp (maxDischargeDepth := 60) [State.exclEnd, hw, apply_ite Prod.snd]

@[simp] theorem State.exclEnd_parts (s : State) (barred : Bool) :
    (State.exclEnd s barred).time = s.time ∧ (State.exclEnd s barred).cfg = s.cfg ∧ (State.exclEnd s barred).flt = s.flt ∧ (State.exclEnd s barred).phs = s.phs ∧ (State.exclEnd s barred).dom = s.dom ∧ (State.exclEnd s barred).eng = s.eng ∧ (State.exclEnd s barred).start = s.start ∧ (State.exclEnd s barred).est = s.est ∧ (State.exclEnd s barred).bud = s.bud ∧ (State.exclEnd s barred).thm = s.thm ∧ (State.exclEnd s barred).tlm = s.tlm ∧ (State.exclEnd s barred).cmd = s.cmd ∧ (State.exclEnd s barred).boot = s.boot ∧ (State.exclEnd s barred).adc = s.adc ∧ (State.exclEnd s barred).fw = s.fw ∧ (State.exclEnd s barred).lt = s.lt ∧ (State.exclEnd s barred).pending = s.pending := by
  refine ⟨?_, ?_, ?_, ?_, ?_, ?_, ?_, ?_, ?_, ?_, ?_, ?_, ?_, ?_, ?_, ?_, ?_⟩ <;> (simp (maxDischargeDepth := 60) [State.exclEnd, apply_ite Prod.snd])

@[simp] theorem State.exclEnd_ok (s : State) (barred : Bool) (hok : s.fieldsOk) : (State.exclEnd s barred).fieldsOk := by
  simp +contextual (maxDischargeDepth := 60) [State.exclEnd, hok, apply_ite Prod.snd]

@[simp] theorem State.toRelay_getF (s : State) (fld : Fld) (itm : Nat) (hw : fld ∉ ([.CRC_EVENT_MISMATCH, .CRC_RESULT_RESULT, .CRC_STATUS_MATCH, .CRC_STATUS_MISMATCH, .CRC_STATUS_MISMATCH_COUNT, .CRC_STATUS_STATE, .CRC_VALUE_VALUE, .HRD_EVENT_INCOMPLETE, .HRD_FREQ_F_GRP, .HRD_FREQ_PEND, .HRD_MEMBERS_EXCL_N, .HRD_MEMBERS_MEMBERS, .HRD_PEND_CHG_SEQ, .HRD_PEND_F_NEW, .HRD_PEND_TICK_HI_CT_HI, .HRD_PEND_TICK_LO_CT_LO, .HRD_STATUS_INCOMPLETE, .HRD_STATUS_SLEWING, .HRD_STATUS_STATE] : List Fld)) :
    (State.toRelay s).getF fld itm = s.getF fld itm := by
  try simp only [List.mem_cons, not_or, List.not_mem_nil, not_false_eq_true] at hw
  simp (maxDischargeDepth := 60) [State.toRelay, hw, apply_ite Prod.snd]

@[simp] theorem State.toRelay_parts (s : State) :
    (State.toRelay s).time = s.time ∧ (State.toRelay s).cfg = s.cfg ∧ (State.toRelay s).flt = s.flt ∧ (State.toRelay s).phs = s.phs ∧ (State.toRelay s).dom = s.dom ∧ (State.toRelay s).eng = s.eng ∧ (State.toRelay s).start = s.start ∧ (State.toRelay s).est = s.est ∧ (State.toRelay s).bud = s.bud ∧ (State.toRelay s).thm = s.thm ∧ (State.toRelay s).tlm = s.tlm ∧ (State.toRelay s).cmd = s.cmd ∧ (State.toRelay s).boot = s.boot ∧ (State.toRelay s).adc = s.adc ∧ (State.toRelay s).fw = s.fw ∧ (State.toRelay s).lt = s.lt ∧ (State.toRelay s).pending = s.pending := by
  refine ⟨?_, ?_, ?_, ?_, ?_, ?_, ?_, ?_, ?_, ?_, ?_, ?_, ?_, ?_, ?_, ?_, ?_⟩ <;> (simp (maxDischargeDepth := 60) [State.toRelay, apply_ite Prod.snd])

@[simp] theorem State.toRelay_ok (s : State) (hok : s.fieldsOk) : (State.toRelay s).fieldsOk := by
  simp +contextual (maxDischargeDepth := 60) [State.toRelay, hok, apply_ite Prod.snd]

@[simp] theorem State.takeDecide_getF (s : State) (target seq code : Nat) (fld : Fld) (itm : Nat) (hw : fld ∉ ([.CRC_EVENT_MISMATCH, .CRC_RESULT_RESULT, .CRC_STATUS_MATCH, .CRC_STATUS_MISMATCH, .CRC_STATUS_MISMATCH_COUNT, .CRC_STATUS_STATE, .CRC_VALUE_VALUE, .HRD_EVENT_INCOMPLETE, .HRD_FREQ_F_GRP, .HRD_FREQ_PEND, .HRD_MEMBERS_EXCL_N, .HRD_MEMBERS_MEMBERS, .HRD_PEND_CHG_SEQ, .HRD_PEND_F_NEW, .HRD_PEND_TICK_HI_CT_HI, .HRD_PEND_TICK_LO_CT_LO, .HRD_STATUS_INCOMPLETE, .HRD_STATUS_SLEWING, .HRD_STATUS_STATE] : List Fld)) :
    (State.takeDecide s target seq code).getF fld itm = s.getF fld itm := by
  try simp only [List.mem_cons, not_or, List.not_mem_nil, not_false_eq_true] at hw
  simp (maxDischargeDepth := 60) [State.takeDecide, hw, apply_ite Prod.snd]

@[simp] theorem State.takeDecide_parts (s : State) (target seq code : Nat) :
    (State.takeDecide s target seq code).time = s.time ∧ (State.takeDecide s target seq code).cfg = s.cfg ∧ (State.takeDecide s target seq code).flt = s.flt ∧ (State.takeDecide s target seq code).phs = s.phs ∧ (State.takeDecide s target seq code).dom = s.dom ∧ (State.takeDecide s target seq code).eng = s.eng ∧ (State.takeDecide s target seq code).start = s.start ∧ (State.takeDecide s target seq code).est = s.est ∧ (State.takeDecide s target seq code).bud = s.bud ∧ (State.takeDecide s target seq code).thm = s.thm ∧ (State.takeDecide s target seq code).tlm = s.tlm ∧ (State.takeDecide s target seq code).cmd = s.cmd ∧ (State.takeDecide s target seq code).boot = s.boot ∧ (State.takeDecide s target seq code).adc = s.adc ∧ (State.takeDecide s target seq code).fw = s.fw ∧ (State.takeDecide s target seq code).lt = s.lt ∧ (State.takeDecide s target seq code).pending = s.pending := by
  refine ⟨?_, ?_, ?_, ?_, ?_, ?_, ?_, ?_, ?_, ?_, ?_, ?_, ?_, ?_, ?_, ?_, ?_⟩ <;> (simp (maxDischargeDepth := 60) [State.takeDecide, apply_ite Prod.snd])

@[simp] theorem State.takeDecide_ok (s : State) (target seq code : Nat) (hok : s.fieldsOk) : (State.takeDecide s target seq code).fieldsOk := by
  simp +contextual (maxDischargeDepth := 60) [State.takeDecide, hok, apply_ite Prod.snd]

@[simp] theorem State.rootExclude_getF (s : State) (port stack fOff seq action : Nat) (fld : Fld) (itm : Nat) (hw : fld ∉ ([.CMD_NOTICE0_ARG, .CMD_NOTICE0_TYPE, .CMD_NOTICE1_TIME_LO, .CMD_NOTICE_SEQ_NSEQ, .CMD_PART_SLOTS_NOTICE_NEW, .CRC_EVENT_MISMATCH, .CRC_RESULT_RESULT, .CRC_STATUS_MATCH, .CRC_STATUS_MISMATCH, .CRC_STATUS_MISMATCH_COUNT, .CRC_STATUS_STATE, .CRC_VALUE_VALUE, .HRD_EVENT_EXCL_OVF, .HRD_EVENT_EXCL_REQ, .HRD_EVENT_INCOMPLETE, .HRD_EXCL_F_OFF, .HRD_EXCL_STACK_ID, .HRD_EXCL_STATE, .HRD_FREQ_F_GRP, .HRD_FREQ_PEND, .HRD_MEMBERS_EXCL_N, .HRD_MEMBERS_MEMBERS, .HRD_PEND_CHG_SEQ, .HRD_PEND_F_NEW, .HRD_PEND_TICK_HI_CT_HI, .HRD_PEND_TICK_LO_CT_LO, .HRD_STATUS_INCOMPLETE, .HRD_STATUS_SLEWING, .HRD_STATUS_STATE] : List Fld)) :
    (State.rootExclude s port stack fOff seq action).getF fld itm = s.getF fld itm := by
  try simp only [List.mem_cons, not_or, List.not_mem_nil, not_false_eq_true] at hw
  ((unfold State.rootExclude); (try simp only []); (repeat' split) <;> (try simp (maxDischargeDepth := 60) [hw, State.when, apply_ite Prod.snd]))

@[simp] theorem State.rootExclude_parts (s : State) (port stack fOff seq action : Nat) :
    (State.rootExclude s port stack fOff seq action).time = s.time ∧ (State.rootExclude s port stack fOff seq action).cfg = s.cfg ∧ (State.rootExclude s port stack fOff seq action).flt = s.flt ∧ (State.rootExclude s port stack fOff seq action).phs = s.phs ∧ (State.rootExclude s port stack fOff seq action).dom = s.dom ∧ (State.rootExclude s port stack fOff seq action).eng = s.eng ∧ (State.rootExclude s port stack fOff seq action).start = s.start ∧ (State.rootExclude s port stack fOff seq action).est = s.est ∧ (State.rootExclude s port stack fOff seq action).bud = s.bud ∧ (State.rootExclude s port stack fOff seq action).thm = s.thm ∧ (State.rootExclude s port stack fOff seq action).tlm = s.tlm ∧ (State.rootExclude s port stack fOff seq action).cmd = s.cmd ∧ (State.rootExclude s port stack fOff seq action).boot = s.boot ∧ (State.rootExclude s port stack fOff seq action).adc = s.adc ∧ (State.rootExclude s port stack fOff seq action).fw = s.fw ∧ (State.rootExclude s port stack fOff seq action).lt = s.lt ∧ (State.rootExclude s port stack fOff seq action).pending = s.pending := by
  refine ⟨?_, ?_, ?_, ?_, ?_, ?_, ?_, ?_, ?_, ?_, ?_, ?_, ?_, ?_, ?_, ?_, ?_⟩ <;> ((unfold State.rootExclude); (try simp only []); (repeat' split) <;> (try simp (maxDischargeDepth := 60) [State.when, apply_ite Prod.snd]))

@[simp] theorem State.rootExclude_ok (s : State) (port stack fOff seq action : Nat) (hok : s.fieldsOk) : (State.rootExclude s port stack fOff seq action).fieldsOk := by
  ((unfold State.rootExclude); (try simp only []); (repeat' split) <;> (try simp +contextual (maxDischargeDepth := 60) [hok, State.when, apply_ite Prod.snd]))

@[simp] theorem State.sendExclude_getF (s : State) (action : Nat) (fld : Fld) (itm : Nat) (hw : fld ∉ ([.CMD_NOTICE0_ARG, .CMD_NOTICE0_TYPE, .CMD_NOTICE1_TIME_LO, .CMD_NOTICE_SEQ_NSEQ, .CMD_PART_SLOTS_NOTICE_NEW, .CRC_EVENT_MISMATCH, .CRC_RESULT_RESULT, .CRC_STATUS_MATCH, .CRC_STATUS_MISMATCH, .CRC_STATUS_MISMATCH_COUNT, .CRC_STATUS_STATE, .CRC_VALUE_VALUE, .HRD_EVENT_EXCL_OVF, .HRD_EVENT_EXCL_REQ, .HRD_EVENT_INCOMPLETE, .HRD_EXCL_F_OFF, .HRD_EXCL_STACK_ID, .HRD_EXCL_STATE, .HRD_FREQ_F_GRP, .HRD_FREQ_PEND, .HRD_MEMBERS_EXCL_N, .HRD_MEMBERS_MEMBERS, .HRD_PEND_CHG_SEQ, .HRD_PEND_F_NEW, .HRD_PEND_TICK_HI_CT_HI, .HRD_PEND_TICK_LO_CT_LO, .HRD_STATUS_INCOMPLETE, .HRD_STATUS_SLEWING, .HRD_STATUS_STATE] : List Fld)) :
    (State.sendExclude s action).getF fld itm = s.getF fld itm := by
  try simp only [List.mem_cons, not_or, List.not_mem_nil, not_false_eq_true] at hw
  simp (maxDischargeDepth := 60) [State.sendExclude, hw, apply_ite Prod.snd]

@[simp] theorem State.sendExclude_parts (s : State) (action : Nat) :
    (State.sendExclude s action).time = s.time ∧ (State.sendExclude s action).cfg = s.cfg ∧ (State.sendExclude s action).flt = s.flt ∧ (State.sendExclude s action).phs = s.phs ∧ (State.sendExclude s action).dom = s.dom ∧ (State.sendExclude s action).eng = s.eng ∧ (State.sendExclude s action).start = s.start ∧ (State.sendExclude s action).est = s.est ∧ (State.sendExclude s action).bud = s.bud ∧ (State.sendExclude s action).thm = s.thm ∧ (State.sendExclude s action).tlm = s.tlm ∧ (State.sendExclude s action).cmd = s.cmd ∧ (State.sendExclude s action).boot = s.boot ∧ (State.sendExclude s action).adc = s.adc ∧ (State.sendExclude s action).fw = s.fw ∧ (State.sendExclude s action).lt = s.lt ∧ (State.sendExclude s action).pending = s.pending := by
  refine ⟨?_, ?_, ?_, ?_, ?_, ?_, ?_, ?_, ?_, ?_, ?_, ?_, ?_, ?_, ?_, ?_, ?_⟩ <;> (simp (maxDischargeDepth := 60) [State.sendExclude, apply_ite Prod.snd])

@[simp] theorem State.sendExclude_ok (s : State) (action : Nat) (hok : s.fieldsOk) : (State.sendExclude s action).fieldsOk := by
  simp +contextual (maxDischargeDepth := 60) [State.sendExclude, hok, apply_ite Prod.snd]

@[simp] theorem State.exclCheck_getF (s : State) (fld : Fld) (itm : Nat) (hw : fld ∉ ([.CMD_NOTICE0_ARG, .CMD_NOTICE0_TYPE, .CMD_NOTICE1_TIME_LO, .CMD_NOTICE_SEQ_NSEQ, .CMD_PART_SLOTS_NOTICE_NEW, .CRC_EVENT_MISMATCH, .CRC_RESULT_RESULT, .CRC_STATUS_MATCH, .CRC_STATUS_MISMATCH, .CRC_STATUS_MISMATCH_COUNT, .CRC_STATUS_STATE, .CRC_VALUE_VALUE, .HRD_EVENT_EXCL_OVF, .HRD_EVENT_EXCL_REQ, .HRD_EVENT_INCOMPLETE, .HRD_EXCL_F_OFF, .HRD_EXCL_STACK_ID, .HRD_EXCL_STATE, .HRD_FREQ_F_GRP, .HRD_FREQ_PEND, .HRD_MEMBERS_EXCL_N, .HRD_MEMBERS_MEMBERS, .HRD_PEND_CHG_SEQ, .HRD_PEND_F_NEW, .HRD_PEND_TICK_HI_CT_HI, .HRD_PEND_TICK_LO_CT_LO, .HRD_STATUS_INCOMPLETE, .HRD_STATUS_SLEWING, .HRD_STATUS_STATE] : List Fld)) :
    (State.exclCheck s).getF fld itm = s.getF fld itm := by
  try simp only [List.mem_cons, not_or, List.not_mem_nil, not_false_eq_true] at hw
  simp (maxDischargeDepth := 60) [State.exclCheck, hw, apply_ite Prod.snd]

@[simp] theorem State.exclCheck_parts (s : State) :
    (State.exclCheck s).time = s.time ∧ (State.exclCheck s).cfg = s.cfg ∧ (State.exclCheck s).flt = s.flt ∧ (State.exclCheck s).phs = s.phs ∧ (State.exclCheck s).dom = s.dom ∧ (State.exclCheck s).eng = s.eng ∧ (State.exclCheck s).start = s.start ∧ (State.exclCheck s).est = s.est ∧ (State.exclCheck s).bud = s.bud ∧ (State.exclCheck s).thm = s.thm ∧ (State.exclCheck s).tlm = s.tlm ∧ (State.exclCheck s).cmd = s.cmd ∧ (State.exclCheck s).boot = s.boot ∧ (State.exclCheck s).adc = s.adc ∧ (State.exclCheck s).fw = s.fw ∧ (State.exclCheck s).lt = s.lt ∧ (State.exclCheck s).pending = s.pending := by
  refine ⟨?_, ?_, ?_, ?_, ?_, ?_, ?_, ?_, ?_, ?_, ?_, ?_, ?_, ?_, ?_, ?_, ?_⟩ <;> (simp (maxDischargeDepth := 60) [State.exclCheck, apply_ite Prod.snd])

@[simp] theorem State.exclCheck_ok (s : State) (hok : s.fieldsOk) : (State.exclCheck s).fieldsOk := by
  simp +contextual (maxDischargeDepth := 60) [State.exclCheck, hok, apply_ite Prod.snd]

@[simp] theorem State.toIdle_getF (s : State) (fld : Fld) (itm : Nat) (hw : fld ∉ ([.GLB_TB_STATUS_HERD_SHARED, .HRD_EXCL_F_OFF, .HRD_EXCL_STACK_ID, .HRD_EXCL_STATE, .HRD_FREQ_F_GRP, .HRD_FREQ_PEND, .HRD_MEMBERS_EXCL_N, .HRD_MEMBERS_MEMBERS, .HRD_PORT_UP, .HRD_STATUS_INCOMPLETE, .HRD_STATUS_IS_ROOT, .HRD_STATUS_LEVEL, .HRD_STATUS_OFFSET_MODE, .HRD_STATUS_PORT_UP, .HRD_STATUS_SLEWING, .HRD_STATUS_STATE] : List Fld)) :
    (State.toIdle s).getF fld itm = s.getF fld itm := by
  try simp only [List.mem_cons, not_or, List.not_mem_nil, not_false_eq_true] at hw
  simp (maxDischargeDepth := 60) [State.toIdle, hw, apply_ite Prod.snd]

@[simp] theorem State.toIdle_parts (s : State) :
    (State.toIdle s).time = s.time ∧ (State.toIdle s).cfg = s.cfg ∧ (State.toIdle s).raiseQ = s.raiseQ ∧ (State.toIdle s).out = s.out ∧ (State.toIdle s).freeCtr = s.freeCtr ∧ (State.toIdle s).flt = s.flt ∧ (State.toIdle s).phs = s.phs ∧ (State.toIdle s).dom = s.dom ∧ (State.toIdle s).eng = s.eng ∧ (State.toIdle s).start = s.start ∧ (State.toIdle s).est = s.est ∧ (State.toIdle s).bud = s.bud ∧ (State.toIdle s).thm = s.thm ∧ (State.toIdle s).tlm = s.tlm ∧ (State.toIdle s).cmd = s.cmd ∧ (State.toIdle s).boot = s.boot ∧ (State.toIdle s).adc = s.adc ∧ (State.toIdle s).fw = s.fw ∧ (State.toIdle s).lt = s.lt ∧ (State.toIdle s).pending = s.pending := by
  refine ⟨?_, ?_, ?_, ?_, ?_, ?_, ?_, ?_, ?_, ?_, ?_, ?_, ?_, ?_, ?_, ?_, ?_, ?_, ?_, ?_⟩ <;> (simp (maxDischargeDepth := 60) [State.toIdle, apply_ite Prod.snd])

@[simp] theorem State.toIdle_ok (s : State) (hok : s.fieldsOk) : (State.toIdle s).fieldsOk := by
  simp +contextual (maxDischargeDepth := 60) [State.toIdle, hok, apply_ite Prod.snd]

@[simp] theorem State.loseLink_getF (s : State) (p : Nat) (fld : Fld) (itm : Nat) (hw : fld ∉ ([.CRC_EVENT_MISMATCH, .CRC_RESULT_RESULT, .CRC_STATUS_MATCH, .CRC_STATUS_MISMATCH, .CRC_STATUS_MISMATCH_COUNT, .CRC_STATUS_STATE, .CRC_VALUE_VALUE, .GLB_TB_STATUS_HERD_SHARED, .HRD_EVENT_HOLDOVER, .HRD_EVENT_INCOMPLETE, .HRD_EVENT_LINK_LOST, .HRD_EXCL_F_OFF, .HRD_EXCL_STACK_ID, .HRD_EXCL_STATE, .HRD_FREQ_F_GRP, .HRD_FREQ_PEND, .HRD_MEMBERS_EXCL_N, .HRD_MEMBERS_MEMBERS, .HRD_PEND_CHG_SEQ, .HRD_PEND_F_NEW, .HRD_PEND_TICK_HI_CT_HI, .HRD_PEND_TICK_LO_CT_LO, .HRD_PORT_DROPS, .HRD_PORT_UP, .HRD_STATUS_INCOMPLETE, .HRD_STATUS_IS_ROOT, .HRD_STATUS_LEVEL, .HRD_STATUS_OFFSET_MODE, .HRD_STATUS_PORT_UP, .HRD_STATUS_SLEWING, .HRD_STATUS_STATE] : List Fld)) :
    (State.loseLink s p).getF fld itm = s.getF fld itm := by
  try simp only [List.mem_cons, not_or, List.not_mem_nil, not_false_eq_true] at hw
  simp (maxDischargeDepth := 60) [State.loseLink, hw, apply_ite Prod.snd]

@[simp] theorem State.loseLink_parts (s : State) (p : Nat) :
    (State.loseLink s p).time = s.time ∧ (State.loseLink s p).cfg = s.cfg ∧ (State.loseLink s p).flt = s.flt ∧ (State.loseLink s p).phs = s.phs ∧ (State.loseLink s p).dom = s.dom ∧ (State.loseLink s p).eng = s.eng ∧ (State.loseLink s p).start = s.start ∧ (State.loseLink s p).est = s.est ∧ (State.loseLink s p).bud = s.bud ∧ (State.loseLink s p).thm = s.thm ∧ (State.loseLink s p).tlm = s.tlm ∧ (State.loseLink s p).cmd = s.cmd ∧ (State.loseLink s p).boot = s.boot ∧ (State.loseLink s p).adc = s.adc ∧ (State.loseLink s p).fw = s.fw ∧ (State.loseLink s p).lt = s.lt ∧ (State.loseLink s p).pending = s.pending := by
  refine ⟨?_, ?_, ?_, ?_, ?_, ?_, ?_, ?_, ?_, ?_, ?_, ?_, ?_, ?_, ?_, ?_, ?_⟩ <;> (simp (maxDischargeDepth := 60) [State.loseLink, apply_ite Prod.snd])

@[simp] theorem State.loseLink_ok (s : State) (p : Nat) (hok : s.fieldsOk) : (State.loseLink s p).fieldsOk := by
  simp +contextual (maxDischargeDepth := 60) [State.loseLink, hok, apply_ite Prod.snd]

@[simp] theorem State.disband_getF (s : State) (fld : Fld) (itm : Nat) (hw : fld ∉ ([.CRC_EVENT_MISMATCH, .CRC_RESULT_RESULT, .CRC_STATUS_MATCH, .CRC_STATUS_MISMATCH, .CRC_STATUS_MISMATCH_COUNT, .CRC_STATUS_STATE, .CRC_VALUE_VALUE, .GLB_TB_STATUS_HERD_SHARED, .HRD_EVENT_DISBAND, .HRD_EXCL_F_OFF, .HRD_EXCL_STACK_ID, .HRD_EXCL_STATE, .HRD_FREQ_F_GRP, .HRD_FREQ_PEND, .HRD_MEMBERS_EXCL_N, .HRD_MEMBERS_MEMBERS, .HRD_PORT_UP, .HRD_STATUS_INCOMPLETE, .HRD_STATUS_IS_ROOT, .HRD_STATUS_LEVEL, .HRD_STATUS_OFFSET_MODE, .HRD_STATUS_PORT_UP, .HRD_STATUS_SLEWING, .HRD_STATUS_STATE] : List Fld)) :
    (State.disband s).getF fld itm = s.getF fld itm := by
  try simp only [List.mem_cons, not_or, List.not_mem_nil, not_false_eq_true] at hw
  simp (maxDischargeDepth := 60) [State.disband, hw, apply_ite Prod.snd]

@[simp] theorem State.disband_parts (s : State) :
    (State.disband s).time = s.time ∧ (State.disband s).cfg = s.cfg ∧ (State.disband s).freeCtr = s.freeCtr ∧ (State.disband s).flt = s.flt ∧ (State.disband s).phs = s.phs ∧ (State.disband s).dom = s.dom ∧ (State.disband s).eng = s.eng ∧ (State.disband s).start = s.start ∧ (State.disband s).est = s.est ∧ (State.disband s).bud = s.bud ∧ (State.disband s).thm = s.thm ∧ (State.disband s).tlm = s.tlm ∧ (State.disband s).cmd = s.cmd ∧ (State.disband s).boot = s.boot ∧ (State.disband s).adc = s.adc ∧ (State.disband s).fw = s.fw ∧ (State.disband s).lt = s.lt ∧ (State.disband s).pending = s.pending := by
  refine ⟨?_, ?_, ?_, ?_, ?_, ?_, ?_, ?_, ?_, ?_, ?_, ?_, ?_, ?_, ?_, ?_, ?_, ?_⟩ <;> (simp (maxDischargeDepth := 60) [State.disband, apply_ite Prod.snd])

@[simp] theorem State.disband_ok (s : State) (hok : s.fieldsOk) : (State.disband s).fieldsOk := by
  simp +contextual (maxDischargeDepth := 60) [State.disband, hok, apply_ite Prod.snd]

@[simp] theorem State.toLocked_getF (s : State) (fld : Fld) (itm : Nat) (hw : fld ∉ ([.CMD_NOTICE0_ARG, .CMD_NOTICE0_TYPE, .CMD_NOTICE1_TIME_LO, .CMD_NOTICE_SEQ_NSEQ, .CMD_PART_ID_STATE, .CMD_PART_SLOTS_BUSY, .CMD_PART_SLOTS_NEW, .CMD_PART_SLOTS_NOTICE_NEW, .CRC_EVENT_MISMATCH, .CRC_RESULT_RESULT, .CRC_STATUS_MATCH, .CRC_STATUS_MISMATCH, .CRC_STATUS_MISMATCH_COUNT, .CRC_STATUS_STATE, .CRC_VALUE_VALUE, .HRD_EVENT_EXCL_OVF, .HRD_EVENT_EXCL_REQ, .HRD_EVENT_INCOMPLETE, .HRD_EXCL_F_OFF, .HRD_EXCL_STACK_ID, .HRD_EXCL_STATE, .HRD_FREQ_F_GRP, .HRD_FREQ_PEND, .HRD_MEMBERS_EXCL_N, .HRD_MEMBERS_MEMBERS, .HRD_PEND_CHG_SEQ, .HRD_PEND_F_NEW, .HRD_PEND_TICK_HI_CT_HI, .HRD_PEND_TICK_LO_CT_LO, .HRD_STATUS_INCOMPLETE, .HRD_STATUS_SLEWING, .HRD_STATUS_STATE] : List Fld)) :
    (State.toLocked s).getF fld itm = s.getF fld itm := by
  try simp only [List.mem_cons, not_or, List.not_mem_nil, not_false_eq_true] at hw
  simp (maxDischargeDepth := 60) [State.toLocked, hw, apply_ite Prod.snd]

@[simp] theorem State.toLocked_parts (s : State) :
    (State.toLocked s).time = s.time ∧ (State.toLocked s).cfg = s.cfg ∧ (State.toLocked s).flt = s.flt ∧ (State.toLocked s).phs = s.phs ∧ (State.toLocked s).dom = s.dom ∧ (State.toLocked s).eng = s.eng ∧ (State.toLocked s).start = s.start ∧ (State.toLocked s).est = s.est ∧ (State.toLocked s).bud = s.bud ∧ (State.toLocked s).thm = s.thm ∧ (State.toLocked s).tlm = s.tlm ∧ (State.toLocked s).boot = s.boot ∧ (State.toLocked s).adc = s.adc ∧ (State.toLocked s).fw = s.fw ∧ (State.toLocked s).lt = s.lt ∧ (State.toLocked s).pending = s.pending := by
  refine ⟨?_, ?_, ?_, ?_, ?_, ?_, ?_, ?_, ?_, ?_, ?_, ?_, ?_, ?_, ?_, ?_⟩ <;> (simp (maxDischargeDepth := 60) [State.toLocked, apply_ite Prod.snd])

@[simp] theorem State.toLocked_ok (s : State) (hok : s.fieldsOk) : (State.toLocked s).fieldsOk := by
  simp +contextual (maxDischargeDepth := 60) [State.toLocked, hok, apply_ite Prod.snd]

@[simp] theorem State.showOffset_getF (s : State) (o : Int) (fld : Fld) (itm : Nat) (hw : fld ∉ ([.HRD_OFFSET_HI_OFS_HI, .HRD_OFFSET_LO_OFS_LO] : List Fld)) :
    (State.showOffset s o).getF fld itm = s.getF fld itm := by
  try simp only [List.mem_cons, not_or, List.not_mem_nil, not_false_eq_true] at hw
  simp (maxDischargeDepth := 60) [State.showOffset, hw, apply_ite Prod.snd]

@[simp] theorem State.showOffset_parts (s : State) (o : Int) :
    (State.showOffset s o).time = s.time ∧ (State.showOffset s o).cfg = s.cfg ∧ (State.showOffset s o).raiseQ = s.raiseQ ∧ (State.showOffset s o).out = s.out ∧ (State.showOffset s o).freeCtr = s.freeCtr ∧ (State.showOffset s o).flt = s.flt ∧ (State.showOffset s o).phs = s.phs ∧ (State.showOffset s o).dom = s.dom ∧ (State.showOffset s o).eng = s.eng ∧ (State.showOffset s o).start = s.start ∧ (State.showOffset s o).est = s.est ∧ (State.showOffset s o).bud = s.bud ∧ (State.showOffset s o).thm = s.thm ∧ (State.showOffset s o).hrd = s.hrd ∧ (State.showOffset s o).tlm = s.tlm ∧ (State.showOffset s o).cmd = s.cmd ∧ (State.showOffset s o).boot = s.boot ∧ (State.showOffset s o).adc = s.adc ∧ (State.showOffset s o).fw = s.fw ∧ (State.showOffset s o).lt = s.lt ∧ (State.showOffset s o).pending = s.pending := by
  refine ⟨?_, ?_, ?_, ?_, ?_, ?_, ?_, ?_, ?_, ?_, ?_, ?_, ?_, ?_, ?_, ?_, ?_, ?_, ?_, ?_, ?_⟩ <;> (simp (maxDischargeDepth := 60) [State.showOffset, apply_ite Prod.snd])

@[simp] theorem State.showOffset_ok (s : State) (o : Int) (hok : s.fieldsOk) : (State.showOffset s o).fieldsOk := by
  simp +contextual (maxDischargeDepth := 60) [State.showOffset, hok, apply_ite Prod.snd]

@[simp] theorem State.setCorr_getF (s : State) (c : Int) (fld : Fld) (itm : Nat) (hw : fld ∉ ([] : List Fld)) :
    (State.setCorr s c).getF fld itm = s.getF fld itm := by
  try simp only [List.mem_cons, not_or, List.not_mem_nil, not_false_eq_true] at hw
  simp (maxDischargeDepth := 60) [State.setCorr, hw, apply_ite Prod.snd]

@[simp] theorem State.setCorr_parts (s : State) (c : Int) :
    (State.setCorr s c).time = s.time ∧ (State.setCorr s c).cfg = s.cfg ∧ (State.setCorr s c).raiseQ = s.raiseQ ∧ (State.setCorr s c).out = s.out ∧ (State.setCorr s c).freeCtr = s.freeCtr ∧ (State.setCorr s c).flt = s.flt ∧ (State.setCorr s c).phs = s.phs ∧ (State.setCorr s c).dom = s.dom ∧ (State.setCorr s c).eng = s.eng ∧ (State.setCorr s c).start = s.start ∧ (State.setCorr s c).est = s.est ∧ (State.setCorr s c).bud = s.bud ∧ (State.setCorr s c).thm = s.thm ∧ (State.setCorr s c).tlm = s.tlm ∧ (State.setCorr s c).cmd = s.cmd ∧ (State.setCorr s c).boot = s.boot ∧ (State.setCorr s c).adc = s.adc ∧ (State.setCorr s c).fw = s.fw ∧ (State.setCorr s c).lt = s.lt ∧ (State.setCorr s c).pending = s.pending := by
  refine ⟨?_, ?_, ?_, ?_, ?_, ?_, ?_, ?_, ?_, ?_, ?_, ?_, ?_, ?_, ?_, ?_, ?_, ?_, ?_, ?_⟩ <;> (simp (maxDischargeDepth := 60) [State.setCorr, apply_ite Prod.snd])

@[simp] theorem State.setCorr_ok (s : State) (c : Int) (hok : s.fieldsOk) : (State.setCorr s c).fieldsOk := by
  simp +contextual (maxDischargeDepth := 60) [State.setCorr, hok, apply_ite Prod.snd]

@[simp] theorem State.align_getF (s : State) (o : Int) (fld : Fld) (itm : Nat) (hw : fld ∉ ([.GLB_TB_STATUS_HERD_SHARED, .HRD_EVENT_TIME_JUMP, .HRD_OFFSET_HI_OFS_HI, .HRD_OFFSET_LO_OFS_LO, .HRD_STATUS_OFFSET_MODE, .HRD_STATUS_SLEWING] : List Fld)) :
    (State.align s o).getF fld itm = s.getF fld itm := by
  try simp only [List.mem_cons, not_or, List.not_mem_nil, not_false_eq_true] at hw
  simp (maxDischargeDepth := 60) [State.align, hw, apply_ite Prod.snd]

@[simp] theorem State.align_parts (s : State) (o : Int) :
    (State.align s o).cfg = s.cfg ∧ (State.align s o).out = s.out ∧ (State.align s o).freeCtr = s.freeCtr ∧ (State.align s o).flt = s.flt ∧ (State.align s o).phs = s.phs ∧ (State.align s o).dom = s.dom ∧ (State.align s o).eng = s.eng ∧ (State.align s o).start = s.start ∧ (State.align s o).est = s.est ∧ (State.align s o).bud = s.bud ∧ (State.align s o).thm = s.thm ∧ (State.align s o).tlm = s.tlm ∧ (State.align s o).cmd = s.cmd ∧ (State.align s o).boot = s.boot ∧ (State.align s o).adc = s.adc ∧ (State.align s o).fw = s.fw ∧ (State.align s o).lt = s.lt ∧ (State.align s o).pending = s.pending := by
  refine ⟨?_, ?_, ?_, ?_, ?_, ?_, ?_, ?_, ?_, ?_, ?_, ?_, ?_, ?_, ?_, ?_, ?_, ?_⟩ <;> (simp (maxDischargeDepth := 60) [State.align, apply_ite Prod.snd])

@[simp] theorem State.align_ok (s : State) (o : Int) (hok : s.fieldsOk) : (State.align s o).fieldsOk := by
  simp +contextual (maxDischargeDepth := 60) [State.align, hok, apply_ite Prod.snd]

@[simp] theorem State.syncOffset_getF (s : State) (o : Int) (fld : Fld) (itm : Nat) (hw : fld ∉ ([.CMD_NOTICE0_ARG, .CMD_NOTICE0_TYPE, .CMD_NOTICE1_TIME_LO, .CMD_NOTICE_SEQ_NSEQ, .CMD_PART_ID_STATE, .CMD_PART_SLOTS_BUSY, .CMD_PART_SLOTS_NEW, .CMD_PART_SLOTS_NOTICE_NEW, .CRC_EVENT_MISMATCH, .CRC_RESULT_RESULT, .CRC_STATUS_MATCH, .CRC_STATUS_MISMATCH, .CRC_STATUS_MISMATCH_COUNT, .CRC_STATUS_STATE, .CRC_VALUE_VALUE, .GLB_TB_STATUS_HERD_SHARED, .HRD_EVENT_EXCL_OVF, .HRD_EVENT_EXCL_REQ, .HRD_EVENT_INCOMPLETE, .HRD_EVENT_TIME_JUMP, .HRD_EXCL_F_OFF, .HRD_EXCL_STACK_ID, .HRD_EXCL_STATE, .HRD_FREQ_F_GRP, .HRD_FREQ_PEND, .HRD_MEMBERS_EXCL_N, .HRD_MEMBERS_MEMBERS, .HRD_OFFSET_HI_OFS_HI, .HRD_OFFSET_LO_OFS_LO, .HRD_PEND_CHG_SEQ, .HRD_PEND_F_NEW, .HRD_PEND_TICK_HI_CT_HI, .HRD_PEND_TICK_LO_CT_LO, .HRD_STATUS_INCOMPLETE, .HRD_STATUS_OFFSET_MODE, .HRD_STATUS_SLEWING, .HRD_STATUS_STATE] : List Fld)) :
    (State.syncOffset s o).getF fld itm = s.getF fld itm := by
  try simp only [List.mem_cons, not_or, List.not_mem_nil, not_false_eq_true] at hw
  simp (maxDischargeDepth := 60) [State.syncOffset, hw, apply_ite Prod.snd]

@[simp] theorem State.syncOffset_parts (s : State) (o : Int) :
    (State.syncOffset s o).cfg = s.cfg ∧ (State.syncOffset s o).flt = s.flt ∧ (State.syncOffset s o).phs = s.phs ∧ (State.syncOffset s o).dom = s.dom ∧ (State.syncOffset s o).eng = s.eng ∧ (State.syncOffset s o).start = s.start ∧ (State.syncOffset s o).est = s.est ∧ (State.syncOffset s o).bud = s.bud ∧ (State.syncOffset s o).thm = s.thm ∧ (State.syncOffset s o).tlm = s.tlm ∧ (State.syncOffset s o).boot = s.boot ∧ (State.syncOffset s o).adc = s.adc ∧ (State.syncOffset s o).fw = s.fw ∧ (State.syncOffset s o).lt = s.lt ∧ (State.syncOffset s o).pending = s.pending := by
  refine ⟨?_, ?_, ?_, ?_, ?_, ?_, ?_, ?_, ?_, ?_, ?_, ?_, ?_, ?_, ?_⟩ <;> (simp (maxDischargeDepth := 60) [State.syncOffset, apply_ite Prod.snd])

@[simp] theorem State.syncOffset_ok (s : State) (o : Int) (hok : s.fieldsOk) : (State.syncOffset s o).fieldsOk := by
  simp +contextual (maxDischargeDepth := 60) [State.syncOffset, hok, apply_ite Prod.snd]

@[simp] theorem State.tick_getF (s : State) (fld : Fld) (itm : Nat) (hw : fld ∉ ([] : List Fld)) :
    (State.tick s).getF fld itm = s.getF fld itm := by
  try simp only [List.mem_cons, not_or, List.not_mem_nil, not_false_eq_true] at hw
  simp (maxDischargeDepth := 60) [State.tick, hw, apply_ite Prod.snd]

@[simp] theorem State.tick_parts (s : State) :
    (State.tick s).cfg = s.cfg ∧ (State.tick s).raiseQ = s.raiseQ ∧ (State.tick s).out = s.out ∧ (State.tick s).freeCtr = s.freeCtr ∧ (State.tick s).flt = s.flt ∧ (State.tick s).phs = s.phs ∧ (State.tick s).dom = s.dom ∧ (State.tick s).eng = s.eng ∧ (State.tick s).start = s.start ∧ (State.tick s).est = s.est ∧ (State.tick s).bud = s.bud ∧ (State.tick s).thm = s.thm ∧ (State.tick s).tlm = s.tlm ∧ (State.tick s).cmd = s.cmd ∧ (State.tick s).boot = s.boot ∧ (State.tick s).adc = s.adc ∧ (State.tick s).fw = s.fw ∧ (State.tick s).lt = s.lt ∧ (State.tick s).pending = s.pending := by
  refine ⟨?_, ?_, ?_, ?_, ?_, ?_, ?_, ?_, ?_, ?_, ?_, ?_, ?_, ?_, ?_, ?_, ?_, ?_, ?_⟩ <;> (simp (maxDischargeDepth := 60) [State.tick, apply_ite Prod.snd])

@[simp] theorem State.tick_ok (s : State) (hok : s.fieldsOk) : (State.tick s).fieldsOk := by
  simp +contextual (maxDischargeDepth := 60) [State.tick, hok, apply_ite Prod.snd]

@[simp] theorem State.joinHerd_getF (s : State) (group stack role ports expect : Nat) (fld : Fld) (itm : Nat) (hw : fld ∉ ([.CMD_NOTICE0_ARG, .CMD_NOTICE0_TYPE, .CMD_NOTICE1_TIME_LO, .CMD_NOTICE_SEQ_NSEQ, .CMD_PART_ID_STATE, .CMD_PART_SLOTS_BUSY, .CMD_PART_SLOTS_NEW, .CMD_PART_SLOTS_NOTICE_NEW, .CRC_EVENT_MISMATCH, .CRC_RESULT_RESULT, .CRC_STATUS_MATCH, .CRC_STATUS_MISMATCH, .CRC_STATUS_MISMATCH_COUNT, .CRC_STATUS_STATE, .CRC_VALUE_VALUE, .GLB_TB_STATUS_HERD_SHARED, .HRD_EVENT_EXCL_OVF, .HRD_EVENT_EXCL_REQ, .HRD_EVENT_INCOMPLETE, .HRD_EXCL_F_OFF, .HRD_EXCL_STACK_ID, .HRD_EXCL_STATE, .HRD_EXPECT_EXPECT, .HRD_FREQ_F_GRP, .HRD_FREQ_PEND, .HRD_ID_GROUP_ID, .HRD_ID_STACK_ID, .HRD_MEMBERS_EXCL_N, .HRD_MEMBERS_MEMBERS, .HRD_PEND_CHG_SEQ, .HRD_PEND_F_NEW, .HRD_PEND_TICK_HI_CT_HI, .HRD_PEND_TICK_LO_CT_LO, .HRD_PORT_UP, .HRD_STATUS_INCOMPLETE, .HRD_STATUS_IS_ROOT, .HRD_STATUS_LEVEL, .HRD_STATUS_OFFSET_MODE, .HRD_STATUS_PORT_UP, .HRD_STATUS_SLEWING, .HRD_STATUS_STATE] : List Fld)) :
    (State.joinHerd s group stack role ports expect).getF fld itm = s.getF fld itm := by
  try simp only [List.mem_cons, not_or, List.not_mem_nil, not_false_eq_true] at hw
  simp (maxDischargeDepth := 60) [State.joinHerd, hw, apply_ite Prod.snd]

@[simp] theorem State.joinHerd_parts (s : State) (group stack role ports expect : Nat) :
    (State.joinHerd s group stack role ports expect).time = s.time ∧ (State.joinHerd s group stack role ports expect).cfg = s.cfg ∧ (State.joinHerd s group stack role ports expect).flt = s.flt ∧ (State.joinHerd s group stack role ports expect).phs = s.phs ∧ (State.joinHerd s group stack role ports expect).dom = s.dom ∧ (State.joinHerd s group stack role ports expect).eng = s.eng ∧ (State.joinHerd s group stack role ports expect).start = s.start ∧ (State.joinHerd s group stack role ports expect).est = s.est ∧ (State.joinHerd s group stack role ports expect).bud = s.bud ∧ (State.joinHerd s group stack role ports expect).thm = s.thm ∧ (State.joinHerd s group stack role ports expect).tlm = s.tlm ∧ (State.joinHerd s group stack role ports expect).boot = s.boot ∧ (State.joinHerd s group stack role ports expect).adc = s.adc ∧ (State.joinHerd s group stack role ports expect).fw = s.fw ∧ (State.joinHerd s group stack role ports expect).lt = s.lt ∧ (State.joinHerd s group stack role ports expect).pending = s.pending := by
  refine ⟨?_, ?_, ?_, ?_, ?_, ?_, ?_, ?_, ?_, ?_, ?_, ?_, ?_, ?_, ?_, ?_⟩ <;> (simp (maxDischargeDepth := 60) [State.joinHerd, apply_ite Prod.snd])

@[simp] theorem State.joinHerd_ok (s : State) (group stack role ports expect : Nat) (hok : s.fieldsOk) : (State.joinHerd s group stack role ports expect).fieldsOk := by
  simp +contextual (maxDischargeDepth := 60) [State.joinHerd, hok, apply_ite Prod.snd]

@[simp] theorem State.leaveHerd_getF (s : State) (fld : Fld) (itm : Nat) (hw : fld ∉ ([.CMD_NOTICE0_ARG, .CMD_NOTICE0_TYPE, .CMD_NOTICE1_TIME_LO, .CMD_NOTICE_SEQ_NSEQ, .CMD_PART_ID_STATE, .CMD_PART_SLOTS_BUSY, .CMD_PART_SLOTS_NEW, .CMD_PART_SLOTS_NOTICE_NEW, .CRC_EVENT_MISMATCH, .CRC_RESULT_RESULT, .CRC_STATUS_MATCH, .CRC_STATUS_MISMATCH, .CRC_STATUS_MISMATCH_COUNT, .CRC_STATUS_STATE, .CRC_VALUE_VALUE, .GLB_TB_STATUS_HERD_SHARED, .HRD_EVENT_DISBAND, .HRD_EVENT_EXCL_OVF, .HRD_EVENT_EXCL_REQ, .HRD_EVENT_INCOMPLETE, .HRD_EXCL_F_OFF, .HRD_EXCL_STACK_ID, .HRD_EXCL_STATE, .HRD_FREQ_F_GRP, .HRD_FREQ_PEND, .HRD_MEMBERS_EXCL_N, .HRD_MEMBERS_MEMBERS, .HRD_PEND_CHG_SEQ, .HRD_PEND_F_NEW, .HRD_PEND_TICK_HI_CT_HI, .HRD_PEND_TICK_LO_CT_LO, .HRD_PORT_UP, .HRD_STATUS_INCOMPLETE, .HRD_STATUS_IS_ROOT, .HRD_STATUS_LEVEL, .HRD_STATUS_OFFSET_MODE, .HRD_STATUS_PORT_UP, .HRD_STATUS_SLEWING, .HRD_STATUS_STATE] : List Fld)) :
    (State.leaveHerd s).getF fld itm = s.getF fld itm := by
  try simp only [List.mem_cons, not_or, List.not_mem_nil, not_false_eq_true] at hw
  simp (maxDischargeDepth := 60) [State.leaveHerd, hw, apply_ite Prod.snd]

@[simp] theorem State.leaveHerd_parts (s : State) :
    (State.leaveHerd s).time = s.time ∧ (State.leaveHerd s).cfg = s.cfg ∧ (State.leaveHerd s).flt = s.flt ∧ (State.leaveHerd s).phs = s.phs ∧ (State.leaveHerd s).dom = s.dom ∧ (State.leaveHerd s).eng = s.eng ∧ (State.leaveHerd s).start = s.start ∧ (State.leaveHerd s).est = s.est ∧ (State.leaveHerd s).bud = s.bud ∧ (State.leaveHerd s).thm = s.thm ∧ (State.leaveHerd s).tlm = s.tlm ∧ (State.leaveHerd s).boot = s.boot ∧ (State.leaveHerd s).adc = s.adc ∧ (State.leaveHerd s).fw = s.fw ∧ (State.leaveHerd s).lt = s.lt ∧ (State.leaveHerd s).pending = s.pending := by
  refine ⟨?_, ?_, ?_, ?_, ?_, ?_, ?_, ?_, ?_, ?_, ?_, ?_, ?_, ?_, ?_, ?_⟩ <;> (simp (maxDischargeDepth := 60) [State.leaveHerd, apply_ite Prod.snd])

@[simp] theorem State.leaveHerd_ok (s : State) (hok : s.fieldsOk) : (State.leaveHerd s).fieldsOk := by
  simp +contextual (maxDischargeDepth := 60) [State.leaveHerd, hok, apply_ite Prod.snd]

end Sys2Proof.Machine
end

