-- ==== Sys2Proof/Laws/SliceOps.lean ====
section
/-! SUPPORT. What each epoch slicing operation can do: the fields it may write, the parts of the state it keeps, and that it keeps
the register table in its canonical form. -/

namespace Sys2Proof.Machine
open Host (Outcome)
set_option maxRecDepth 4000
set_option linter.unusedSimpArgs false
set_option linter.unusedVariables false
set_option linter.unreachableTactic false
set_option linter.unusedTactic false

@[simp] theorem State.reopenSlot_getF (s : State) (n : Nat) (fld : Fld) (itm : Nat) (hw : fld ∉ ([] : List Fld)) :
    (State.reopenSlot s n).getF fld itm = s.getF fld itm := by
  try simp only [List.mem_cons, not_or, List.not_mem_nil, not_false_eq_true] at hw
  simp (maxDischargeDepth := 60) [State.reopenSlot, hw, apply_ite Prod.snd]

@[simp] theorem State.reopenSlot_parts (s : State) (n : Nat) :
    (State.reopenSlot s n).time = s.time ∧ (State.reopenSlot s n).cfg = s.cfg ∧ (State.reopenSlot s n).raiseQ = s.raiseQ ∧ (State.reopenSlot s n).out = s.out ∧ (State.reopenSlot s n).freeCtr = s.freeCtr ∧ (State.reopenSlot s n).flt = s.flt ∧ (State.reopenSlot s n).phs = s.phs ∧ (State.reopenSlot s n).dom = s.dom ∧ (State.reopenSlot s n).start = s.start ∧ (State.reopenSlot s n).est = s.est ∧ (State.reopenSlot s n).bud = s.bud ∧ (State.reopenSlot s n).thm = s.thm ∧ (State.reopenSlot s n).hrd = s.hrd ∧ (State.reopenSlot s n).tlm = s.tlm ∧ (State.reopenSlot s n).cmd = s.cmd ∧ (State.reopenSlot s n).boot = s.boot ∧ (State.reopenSlot s n).adc = s.adc ∧ (State.reopenSlot s n).fw = s.fw ∧ (State.reopenSlot s n).lt = s.lt ∧ (State.reopenSlot s n).pending = s.pending := by
  refine ⟨?_, ?_, ?_, ?_, ?_, ?_, ?_, ?_, ?_, ?_, ?_, ?_, ?_, ?_, ?_, ?_, ?_, ?_, ?_, ?_⟩ <;> (simp (maxDischargeDepth := 60) [State.reopenSlot, apply_ite Prod.snd])

@[simp] theorem State.reopenSlot_ok (s : State) (n : Nat) (hok : s.fieldsOk) : (State.reopenSlot s n).fieldsOk := by
  simp +contextual (maxDischargeDepth := 60) [State.reopenSlot, hok, apply_ite Prod.snd]

@[simp] theorem State.clearSlot_getF (s : State) (n : Nat) (fld : Fld) (itm : Nat) (hw : fld ∉ ([] : List Fld)) :
    (State.clearSlot s n).getF fld itm = s.getF fld itm := by
  try simp only [List.mem_cons, not_or, List.not_mem_nil, not_false_eq_true] at hw
  simp (maxDischargeDepth := 60) [State.clearSlot, hw, apply_ite Prod.snd]

@[simp] theorem State.clearSlot_parts (s : State) (n : Nat) :
    (State.clearSlot s n).time = s.time ∧ (State.clearSlot s n).cfg = s.cfg ∧ (State.clearSlot s n).raiseQ = s.raiseQ ∧ (State.clearSlot s n).out = s.out ∧ (State.clearSlot s n).freeCtr = s.freeCtr ∧ (State.clearSlot s n).flt = s.flt ∧ (State.clearSlot s n).phs = s.phs ∧ (State.clearSlot s n).dom = s.dom ∧ (State.clearSlot s n).start = s.start ∧ (State.clearSlot s n).est = s.est ∧ (State.clearSlot s n).bud = s.bud ∧ (State.clearSlot s n).thm = s.thm ∧ (State.clearSlot s n).hrd = s.hrd ∧ (State.clearSlot s n).tlm = s.tlm ∧ (State.clearSlot s n).cmd = s.cmd ∧ (State.clearSlot s n).boot = s.boot ∧ (State.clearSlot s n).adc = s.adc ∧ (State.clearSlot s n).fw = s.fw ∧ (State.clearSlot s n).lt = s.lt ∧ (State.clearSlot s n).pending = s.pending := by
  refine ⟨?_, ?_, ?_, ?_, ?_, ?_, ?_, ?_, ?_, ?_, ?_, ?_, ?_, ?_, ?_, ?_, ?_, ?_, ?_, ?_⟩ <;> (simp (maxDischargeDepth := 60) [State.clearSlot, apply_ite Prod.snd])

@[simp] theorem State.clearSlot_ok (s : State) (n : Nat) (hok : s.fieldsOk) : (State.clearSlot s n).fieldsOk := by
  simp +contextual (maxDischargeDepth := 60) [State.clearSlot, hok, apply_ite Prod.snd]

@[simp] theorem State.resendSteps_getF (s t : State) (fld : Fld) (itm : Nat) (hw : fld ∉ ([] : List Fld)) :
    (State.resendSteps s t).getF fld itm = s.getF fld itm := by
  try simp only [List.mem_cons, not_or, List.not_mem_nil, not_false_eq_true] at hw
  simp (maxDischargeDepth := 60) [State.resendSteps, hw, apply_ite Prod.snd]

@[simp] theorem State.resendSteps_parts (s t : State) :
    (State.resendSteps s t).time = s.time ∧ (State.resendSteps s t).cfg = s.cfg ∧ (State.resendSteps s t).raiseQ = s.raiseQ ∧ (State.resendSteps s t).freeCtr = s.freeCtr ∧ (State.resendSteps s t).flt = s.flt ∧ (State.resendSteps s t).phs = s.phs ∧ (State.resendSteps s t).dom = s.dom ∧ (State.resendSteps s t).eng = s.eng ∧ (State.resendSteps s t).est = s.est ∧ (State.resendSteps s t).bud = s.bud ∧ (State.resendSteps s t).thm = s.thm ∧ (State.resendSteps s t).hrd = s.hrd ∧ (State.resendSteps s t).tlm = s.tlm ∧ (State.resendSteps s t).cmd = s.cmd ∧ (State.resendSteps s t).boot = s.boot ∧ (State.resendSteps s t).adc = s.adc ∧ (State.resendSteps s t).fw = s.fw ∧ (State.resendSteps s t).lt = s.lt ∧ (State.resendSteps s t).pending = s.pending := by
  refine ⟨?_, ?_, ?_, ?_, ?_, ?_, ?_, ?_, ?_, ?_, ?_, ?_, ?_, ?_, ?_, ?_, ?_, ?_, ?_⟩ <;> (simp (maxDischargeDepth := 60) [State.resendSteps, apply_ite Prod.snd])

@[simp] theorem State.resendSteps_ok (s t : State) (hok : s.fieldsOk) : (State.resendSteps s t).fieldsOk := by
  simp +contextual (maxDischargeDepth := 60) [State.resendSteps, hok, apply_ite Prod.snd]

@[simp] theorem State.fieldActs_parts (s : State) (p : Piece) :
    (State.fieldActs s p).time = s.time ∧ (State.fieldActs s p).cfg = s.cfg ∧ (State.fieldActs s p).flt = s.flt ∧ (State.fieldActs s p).phs = s.phs ∧ (State.fieldActs s p).thm = s.thm ∧ (State.fieldActs s p).boot = s.boot ∧ (State.fieldActs s p).adc = s.adc ∧ (State.fieldActs s p).fw = s.fw ∧ (State.fieldActs s p).lt = s.lt ∧ (State.fieldActs s p).pending = s.pending := by
  refine ⟨?_, ?_, ?_, ?_, ?_, ?_, ?_, ?_, ?_, ?_⟩ <;> ((unfold State.fieldActs); (try simp only []); (repeat' split) <;> (try simp (maxDischargeDepth := 60) [State.when, apply_ite Prod.snd]))

@[simp] theorem State.fieldActs_ok (s : State) (p : Piece) (hok : s.fieldsOk) : (State.fieldActs s p).fieldsOk := by
  ((unfold State.fieldActs); (try simp only []); (repeat' split) <;> (try simp +contextual (maxDischargeDepth := 60) [hok, State.when, apply_ite Prod.snd]))

@[simp] theorem State.holdTab_getF (s : State) (p : Piece) (fld : Fld) (itm : Nat) (hw : fld ∉ ([] : List Fld)) :
    (State.holdTab s p).getF fld itm = s.getF fld itm := by
  try simp only [List.mem_cons, not_or, List.not_mem_nil, not_false_eq_true] at hw
  simp (maxDischargeDepth := 60) [State.holdTab, hw, apply_ite Prod.snd]

@[simp] theorem State.holdTab_parts (s : State) (p : Piece) :
    (State.holdTab s p).time = s.time ∧ (State.holdTab s p).cfg = s.cfg ∧ (State.holdTab s p).raiseQ = s.raiseQ ∧ (State.holdTab s p).out = s.out ∧ (State.holdTab s p).freeCtr = s.freeCtr ∧ (State.holdTab s p).flt = s.flt ∧ (State.holdTab s p).phs = s.phs ∧ (State.holdTab s p).dom = s.dom ∧ (State.holdTab s p).start = s.start ∧ (State.holdTab s p).est = s.est ∧ (State.holdTab s p).bud = s.bud ∧ (State.holdTab s p).thm = s.thm ∧ (State.holdTab s p).hrd = s.hrd ∧ (State.holdTab s p).tlm = s.tlm ∧ (State.holdTab s p).cmd = s.cmd ∧ (State.holdTab s p).boot = s.boot ∧ (State.holdTab s p).adc = s.adc ∧ (State.holdTab s p).fw = s.fw ∧ (State.holdTab s p).lt = s.lt ∧ (State.holdTab s p).pending = s.pending := by
  refine ⟨?_, ?_, ?_, ?_, ?_, ?_, ?_, ?_, ?_, ?_, ?_, ?_, ?_, ?_, ?_, ?_, ?_, ?_, ?_, ?_⟩ <;> (simp (maxDischargeDepth := 60) [State.holdTab, apply_ite Prod.snd])

@[simp] theorem State.holdTab_ok (s : State) (p : Piece) (hok : s.fieldsOk) : (State.holdTab s p).fieldsOk := by
  simp +contextual (maxDischargeDepth := 60) [State.holdTab, hok, apply_ite Prod.snd]

/-- What every action of an epoch keeps, the epoch keeps. -/
theorem State.takePieces_keeps {β : Type} (P : State → β) (s : State) (l : List Piece) (cp1 : Bool) (h1 : ∀ t a b c, P (State.raise t a b c) = P t)
    (h2 : ∀ t f i n, P (State.commitParam t f i n) = P t) (h3 : ∀ t n, P (State.reopenSlot t n) = P t)
    (h4 : ∀ t l, P (State.rawPieces t l) = P t) (h5 : ∀ t n, P (State.clearSlot t n) = P t)
    (h6 : ∀ t k i, P (State.rearb t k i) = P t) (h7 : ∀ t k i v, P (State.startElems t k i v) = P t)
    (h8 : ∀ t p, P (State.fieldActs t p) = P t) (h9 : ∀ t u, P (State.resendSteps t u) = P t)
    (h10 : ∀ t, P (State.recordLoad t) = P t) (h11 : ∀ t p, P (State.holdTab t p) = P t) : P (s.takePieces l cp1) = P s := by
  have hw : ∀ (t : State) (c : Bool) (f : State → State), (∀ u, P (f u) = P u) → P (t.when c f) = P t :=
    fun t c f h => State.when_keeps P c f t (h t)
  have hf : ∀ {α : Type} (l : List α) (f : State → α → State), (∀ t x, P (f t x) = P t) → ∀ u, P (l.foldl f u) = P u :=
    fun l f h u => foldl_keeps P l f h u
  have he : ∀ (l : List Nat) (f : Nat → State → State), (∀ i t, P (f i t) = P t) → ∀ u : State, P (u.each l f) = P u :=
    fun l f h u => State.each_keeps P l f h u
  unfold State.takePieces
  simp only [hw, hf, he, h1, h2, h3, h4, h5, h6, h7, h8, h9, h10, h11, implies_true]

@[simp] theorem State.takePieces_time (s : State) (l : List Piece) (cp1 : Bool) :
    (State.takePieces s l cp1).time = s.time := by
  apply State.takePieces_keeps State.time <;> intros <;> simp

@[simp] theorem State.takePieces_cfg (s : State) (l : List Piece) (cp1 : Bool) :
    (State.takePieces s l cp1).cfg = s.cfg := by
  apply State.takePieces_keeps State.cfg <;> intros <;> simp

@[simp] theorem State.takePieces_flt (s : State) (l : List Piece) (cp1 : Bool) :
    (State.takePieces s l cp1).flt = s.flt := by
  apply State.takePieces_keeps State.flt <;> intros <;> simp

@[simp] theorem State.takePieces_phs (s : State) (l : List Piece) (cp1 : Bool) :
    (State.takePieces s l cp1).phs = s.phs := by
  apply State.takePieces_keeps State.phs <;> intros <;> simp

@[simp] theorem State.takePieces_thm (s : State) (l : List Piece) (cp1 : Bool) :
    (State.takePieces s l cp1).thm = s.thm := by
  apply State.takePieces_keeps State.thm <;> intros <;> simp

@[simp] theorem State.takePieces_boot (s : State) (l : List Piece) (cp1 : Bool) :
    (State.takePieces s l cp1).boot = s.boot := by
  apply State.takePieces_keeps State.boot <;> intros <;> simp

@[simp] theorem State.takePieces_adc (s : State) (l : List Piece) (cp1 : Bool) :
    (State.takePieces s l cp1).adc = s.adc := by
  apply State.takePieces_keeps State.adc <;> intros <;> simp

@[simp] theorem State.takePieces_fw (s : State) (l : List Piece) (cp1 : Bool) :
    (State.takePieces s l cp1).fw = s.fw := by
  apply State.takePieces_keeps State.fw <;> intros <;> simp

@[simp] theorem State.takePieces_lt (s : State) (l : List Piece) (cp1 : Bool) :
    (State.takePieces s l cp1).lt = s.lt := by
  apply State.takePieces_keeps State.lt <;> intros <;> simp

@[simp] theorem State.takePieces_pending (s : State) (l : List Piece) (cp1 : Bool) :
    (State.takePieces s l cp1).pending = s.pending := by
  apply State.takePieces_keeps State.pending <;> intros <;> simp

@[simp] theorem State.takePieces_ok (s : State) (l : List Piece) (cp1 : Bool) (hok : s.fieldsOk) : (State.takePieces s l cp1).fieldsOk := by
  simp +contextual (maxDischargeDepth := 60) [State.takePieces, hok, apply_ite Prod.snd]

/-- What taking pieces, their deferral and the record of the load keep, an epoch keeps. -/
theorem State.applyPieces_keeps {β : Type} (P : State → β) (s : State) (l : List Piece) (cp1 : Bool)
    (h1 : ∀ t l c, P (State.takePieces t l c) = P t) (h2 : ∀ t, P (State.recordLoad t) = P t)
    (h3 : ∀ t a b c, P (State.raise t a b c) = P t)
    (h4 : ∀ (t : State) (e : EngState), P { t with eng := e } = P t) : P (s.applyPieces l cp1) = P s := by
  have hw : ∀ (t : State) (c : Bool) (f : State → State), (∀ u, P (f u) = P u) → P (t.when c f) = P t :=
    fun t c f h => State.when_keeps P c f t (h t)
  unfold State.applyPieces
  simp only []
  split
  · exact h1 _ _ _
  · rw [hw, h4]
    · exact h1 _ _ _
    · intro u
      simp only [hw, h2, h3, implies_true]

@[simp] theorem State.applyPieces_time (s : State) (l : List Piece) (cp1 : Bool) :
    (State.applyPieces s l cp1).time = s.time := by
  apply State.applyPieces_keeps State.time <;> intros <;> simp

@[simp] theorem State.applyPieces_cfg (s : State) (l : List Piece) (cp1 : Bool) :
    (State.applyPieces s l cp1).cfg = s.cfg := by
  apply State.applyPieces_keeps State.cfg <;> intros <;> simp

@[simp] theorem State.applyPieces_flt (s : State) (l : List Piece) (cp1 : Bool) :
    (State.applyPieces s l cp1).flt = s.flt := by
  apply State.applyPieces_keeps State.flt <;> intros <;> simp

@[simp] theorem State.applyPieces_phs (s : State) (l : List Piece) (cp1 : Bool) :
    (State.applyPieces s l cp1).phs = s.phs := by
  apply State.applyPieces_keeps State.phs <;> intros <;> simp

@[simp] theorem State.applyPieces_thm (s : State) (l : List Piece) (cp1 : Bool) :
    (State.applyPieces s l cp1).thm = s.thm := by
  apply State.applyPieces_keeps State.thm <;> intros <;> simp

@[simp] theorem State.applyPieces_boot (s : State) (l : List Piece) (cp1 : Bool) :
    (State.applyPieces s l cp1).boot = s.boot := by
  apply State.applyPieces_keeps State.boot <;> intros <;> simp

@[simp] theorem State.applyPieces_adc (s : State) (l : List Piece) (cp1 : Bool) :
    (State.applyPieces s l cp1).adc = s.adc := by
  apply State.applyPieces_keeps State.adc <;> intros <;> simp

@[simp] theorem State.applyPieces_fw (s : State) (l : List Piece) (cp1 : Bool) :
    (State.applyPieces s l cp1).fw = s.fw := by
  apply State.applyPieces_keeps State.fw <;> intros <;> simp

@[simp] theorem State.applyPieces_lt (s : State) (l : List Piece) (cp1 : Bool) :
    (State.applyPieces s l cp1).lt = s.lt := by
  apply State.applyPieces_keeps State.lt <;> intros <;> simp

@[simp] theorem State.applyPieces_pending (s : State) (l : List Piece) (cp1 : Bool) :
    (State.applyPieces s l cp1).pending = s.pending := by
  apply State.applyPieces_keeps State.pending <;> intros <;> simp

@[simp] theorem State.applyPieces_ok (s : State) (l : List Piece) (cp1 : Bool) (hok : s.fieldsOk) : (State.applyPieces s l cp1).fieldsOk := by
  simp +contextual (maxDischargeDepth := 60) [State.applyPieces, hok, apply_ite Prod.snd]

@[simp] theorem State.applyDeferred_parts (s : State) :
    (State.applyDeferred s).time = s.time ∧ (State.applyDeferred s).cfg = s.cfg ∧ (State.applyDeferred s).flt = s.flt ∧ (State.applyDeferred s).phs = s.phs ∧ (State.applyDeferred s).thm = s.thm ∧ (State.applyDeferred s).boot = s.boot ∧ (State.applyDeferred s).adc = s.adc ∧ (State.applyDeferred s).fw = s.fw ∧ (State.applyDeferred s).lt = s.lt ∧ (State.applyDeferred s).pending = s.pending := by
  refine ⟨?_, ?_, ?_, ?_, ?_, ?_, ?_, ?_, ?_, ?_⟩ <;> (simp (maxDischargeDepth := 60) [State.applyDeferred, apply_ite Prod.snd])

@[simp] theorem State.applyDeferred_ok (s : State) (hok : s.fieldsOk) : (State.applyDeferred s).fieldsOk := by
  simp +contextual (maxDischargeDepth := 60) [State.applyDeferred, hok, apply_ite Prod.snd]

end Sys2Proof.Machine
end

