-- ==== Sys2Proof/Laws/EpochOps.lean ====
section
/-! SUPPORT. What each epoch engine operation can do: the fields it may write, the parts of the state it keeps, and that it keeps
the register table in its canonical form. -/

namespace Sys2Proof.Machine
open Host (Outcome)
set_option maxRecDepth 4000
set_option linter.unusedSimpArgs false
set_option linter.unusedVariables false
set_option linter.unreachableTactic false
set_option linter.unusedTactic false

@[simp] theorem State.showStore_getF (s : State) (fld : Fld) (itm : Nat) (hw : fld ∉ ([.CMD_STATUS_QUEUED, .CMD_STATUS_STORE_USED] : List Fld)) :
    (State.showStore s).getF fld itm = s.getF fld itm := by
  try simp only [List.mem_cons, not_or, List.not_mem_nil, not_false_eq_true] at hw
  simp (maxDischargeDepth := 60) [State.showStore, hw, apply_ite Prod.snd]

@[simp] theorem State.showStore_parts (s : State) :
    (State.showStore s).time = s.time ∧ (State.showStore s).cfg = s.cfg ∧ (State.showStore s).raiseQ = s.raiseQ ∧ (State.showStore s).out = s.out ∧ (State.showStore s).freeCtr = s.freeCtr ∧ (State.showStore s).flt = s.flt ∧ (State.showStore s).phs = s.phs ∧ (State.showStore s).dom = s.dom ∧ (State.showStore s).eng = s.eng ∧ (State.showStore s).start = s.start ∧ (State.showStore s).est = s.est ∧ (State.showStore s).bud = s.bud ∧ (State.showStore s).thm = s.thm ∧ (State.showStore s).hrd = s.hrd ∧ (State.showStore s).tlm = s.tlm ∧ (State.showStore s).cmd = s.cmd ∧ (State.showStore s).boot = s.boot ∧ (State.showStore s).adc = s.adc ∧ (State.showStore s).fw = s.fw ∧ (State.showStore s).lt = s.lt ∧ (State.showStore s).pending = s.pending := by
  refine ⟨?_, ?_, ?_, ?_, ?_, ?_, ?_, ?_, ?_, ?_, ?_, ?_, ?_, ?_, ?_, ?_, ?_, ?_, ?_, ?_, ?_⟩ <;> (simp (maxDischargeDepth := 60) [State.showStore, apply_ite Prod.snd])

@[simp] theorem State.showStore_ok (s : State) (hok : s.fieldsOk) : (State.showStore s).fieldsOk := by
  simp +contextual (maxDischargeDepth := 60) [State.showStore, hok, apply_ite Prod.snd]

@[simp] theorem State.setSets_getF (s : State) (t : Tbl Nat StagedSet) (fld : Fld) (itm : Nat) (hw : fld ∉ ([.CMD_STATUS_QUEUED, .CMD_STATUS_STORE_USED] : List Fld)) :
    (State.setSets s t).getF fld itm = s.getF fld itm := by
  try simp only [List.mem_cons, not_or, List.not_mem_nil, not_false_eq_true] at hw
  simp (maxDischargeDepth := 60) [State.setSets, hw, apply_ite Prod.snd]

@[simp] theorem State.setSets_parts (s : State) (t : Tbl Nat StagedSet) :
    (State.setSets s t).time = s.time ∧ (State.setSets s t).cfg = s.cfg ∧ (State.setSets s t).raiseQ = s.raiseQ ∧ (State.setSets s t).out = s.out ∧ (State.setSets s t).freeCtr = s.freeCtr ∧ (State.setSets s t).flt = s.flt ∧ (State.setSets s t).phs = s.phs ∧ (State.setSets s t).dom = s.dom ∧ (State.setSets s t).eng = s.eng ∧ (State.setSets s t).start = s.start ∧ (State.setSets s t).est = s.est ∧ (State.setSets s t).bud = s.bud ∧ (State.setSets s t).thm = s.thm ∧ (State.setSets s t).hrd = s.hrd ∧ (State.setSets s t).tlm = s.tlm ∧ (State.setSets s t).boot = s.boot ∧ (State.setSets s t).adc = s.adc ∧ (State.setSets s t).fw = s.fw ∧ (State.setSets s t).lt = s.lt ∧ (State.setSets s t).pending = s.pending := by
  refine ⟨?_, ?_, ?_, ?_, ?_, ?_, ?_, ?_, ?_, ?_, ?_, ?_, ?_, ?_, ?_, ?_, ?_, ?_, ?_, ?_⟩ <;> (simp (maxDischargeDepth := 60) [State.setSets, apply_ite Prod.snd])

@[simp] theorem State.setSets_ok (s : State) (t : Tbl Nat StagedSet) (hok : s.fieldsOk) : (State.setSets s t).fieldsOk := by
  simp +contextual (maxDischargeDepth := 60) [State.setSets, hok, apply_ite Prod.snd]

@[simp] theorem State.putSet_getF (s : State) (init : Nat) (x : StagedSet) (fld : Fld) (itm : Nat) (hw : fld ∉ ([.CMD_STATUS_QUEUED, .CMD_STATUS_STORE_USED] : List Fld)) :
    (State.putSet s init x).getF fld itm = s.getF fld itm := by
  try simp only [List.mem_cons, not_or, List.not_mem_nil, not_false_eq_true] at hw
  simp (maxDischargeDepth := 60) [State.putSet, hw, apply_ite Prod.snd]

@[simp] theorem State.putSet_parts (s : State) (init : Nat) (x : StagedSet) :
    (State.putSet s init x).time = s.time ∧ (State.putSet s init x).cfg = s.cfg ∧ (State.putSet s init x).raiseQ = s.raiseQ ∧ (State.putSet s init x).out = s.out ∧ (State.putSet s init x).freeCtr = s.freeCtr ∧ (State.putSet s init x).flt = s.flt ∧ (State.putSet s init x).phs = s.phs ∧ (State.putSet s init x).dom = s.dom ∧ (State.putSet s init x).eng = s.eng ∧ (State.putSet s init x).start = s.start ∧ (State.putSet s init x).est = s.est ∧ (State.putSet s init x).bud = s.bud ∧ (State.putSet s init x).thm = s.thm ∧ (State.putSet s init x).hrd = s.hrd ∧ (State.putSet s init x).tlm = s.tlm ∧ (State.putSet s init x).boot = s.boot ∧ (State.putSet s init x).adc = s.adc ∧ (State.putSet s init x).fw = s.fw ∧ (State.putSet s init x).lt = s.lt ∧ (State.putSet s init x).pending = s.pending := by
  refine ⟨?_, ?_, ?_, ?_, ?_, ?_, ?_, ?_, ?_, ?_, ?_, ?_, ?_, ?_, ?_, ?_, ?_, ?_, ?_, ?_⟩ <;> (simp (maxDischargeDepth := 60) [State.putSet, apply_ite Prod.snd])

@[simp] theorem State.putSet_ok (s : State) (init : Nat) (x : StagedSet) (hok : s.fieldsOk) : (State.putSet s init x).fieldsOk := by
  simp +contextual (maxDischargeDepth := 60) [State.putSet, hok, apply_ite Prod.snd]

theorem State.stageEntry_getF (s : State) (init : Nat) (e : Entry) (t : State) (h : State.stageEntry s init e = .ok t) (fld : Fld) (itm : Nat) (hw : fld ∉ ([.CMD_STATUS_QUEUED, .CMD_STATUS_STORE_USED] : List Fld)) :
    t.getF fld itm = s.getF fld itm := by
  try simp only [List.mem_cons, not_or, List.not_mem_nil, not_false_eq_true] at hw
  unfold State.stageEntry at h
  simp only [] at h
  split at h
  · cases h
  · cases h; simp (maxDischargeDepth := 60) [hw]

theorem State.stageEntry_parts (s : State) (init : Nat) (e : Entry) (t : State) (h : State.stageEntry s init e = .ok t) :
    t.time = s.time ∧ t.cfg = s.cfg ∧ t.raiseQ = s.raiseQ ∧ t.out = s.out ∧ t.freeCtr = s.freeCtr ∧ t.flt = s.flt ∧ t.phs = s.phs ∧ t.dom = s.dom ∧ t.eng = s.eng ∧ t.start = s.start ∧ t.est = s.est ∧ t.bud = s.bud ∧ t.thm = s.thm ∧ t.hrd = s.hrd ∧ t.tlm = s.tlm ∧ t.boot = s.boot ∧ t.adc = s.adc ∧ t.fw = s.fw ∧ t.lt = s.lt ∧ t.pending = s.pending := by
  unfold State.stageEntry at h
  simp only [] at h
  split at h
  · cases h
  · cases h; simp (maxDischargeDepth := 60)

theorem State.stageEntry_ok (s : State) (init : Nat) (e : Entry) (t : State) (h : State.stageEntry s init e = .ok t) (hok : s.fieldsOk) : t.fieldsOk := by
  unfold State.stageEntry at h
  simp only [] at h
  split at h
  · cases h
  · cases h; simp (maxDischargeDepth := 60) [hok]

theorem State.stageWrite_getF (s : State) (init off mask val : Nat) (t : State) (h : State.stageWrite s init off mask val = .ok t) (fld : Fld) (itm : Nat) (hw : fld ∉ ([.CMD_STATUS_QUEUED, .CMD_STATUS_STORE_USED] : List Fld)) :
    t.getF fld itm = s.getF fld itm := by
  try simp only [List.mem_cons, not_or, List.not_mem_nil, not_false_eq_true] at hw
  unfold State.stageWrite at h
  simp only [] at h
  split at h
  · cases h
  · split at h
    · split at h
      · cases h
      · cases h; simp (maxDischargeDepth := 60) [hw]
    · split at h
      · cases h
      · split at h
        · cases h
        · simp [State.stageEntry_getF _ _ _ _ h, hw]

theorem State.stageWrite_parts (s : State) (init off mask val : Nat) (t : State) (h : State.stageWrite s init off mask val = .ok t) :
    t.time = s.time ∧ t.cfg = s.cfg ∧ t.raiseQ = s.raiseQ ∧ t.out = s.out ∧ t.freeCtr = s.freeCtr ∧ t.flt = s.flt ∧ t.phs = s.phs ∧ t.dom = s.dom ∧ t.eng = s.eng ∧ t.start = s.start ∧ t.est = s.est ∧ t.bud = s.bud ∧ t.thm = s.thm ∧ t.hrd = s.hrd ∧ t.tlm = s.tlm ∧ t.boot = s.boot ∧ t.adc = s.adc ∧ t.fw = s.fw ∧ t.lt = s.lt ∧ t.pending = s.pending := by
  unfold State.stageWrite at h
  simp only [] at h
  split at h
  · cases h
  · split at h
    · split at h
      · cases h
      · cases h; simp (maxDischargeDepth := 60)
    · split at h
      · cases h
      · split at h
        · cases h
        · have h2 := State.stageEntry_parts _ _ _ _ h; simp [h2]

theorem State.stageWrite_ok (s : State) (init off mask val : Nat) (t : State) (h : State.stageWrite s init off mask val = .ok t) (hok : s.fieldsOk) : t.fieldsOk := by
  unfold State.stageWrite at h
  simp only [] at h
  split at h
  · cases h
  · split at h
    · split at h
      · cases h
      · cases h; simp (maxDischargeDepth := 60) [hok]
    · split at h
      · cases h
      · split at h
        · cases h
        · exact State.stageEntry_ok _ _ _ _ h hok

@[simp] theorem State.storeFull_getF (s : State) (index : Nat) (fld : Fld) (itm : Nat) (hw : fld ∉ ([.CMD_EVENT_STORE_FULL] : List Fld)) :
    (State.storeFull s index).getF fld itm = s.getF fld itm := by
  try simp only [List.mem_cons, not_or, List.not_mem_nil, not_false_eq_true] at hw
  simp (maxDischargeDepth := 60) [State.storeFull, hw, apply_ite Prod.snd]

@[simp] theorem State.storeFull_parts (s : State) (index : Nat) :
    (State.storeFull s index).time = s.time ∧ (State.storeFull s index).cfg = s.cfg ∧ (State.storeFull s index).out = s.out ∧ (State.storeFull s index).freeCtr = s.freeCtr ∧ (State.storeFull s index).flt = s.flt ∧ (State.storeFull s index).phs = s.phs ∧ (State.storeFull s index).dom = s.dom ∧ (State.storeFull s index).eng = s.eng ∧ (State.storeFull s index).start = s.start ∧ (State.storeFull s index).est = s.est ∧ (State.storeFull s index).bud = s.bud ∧ (State.storeFull s index).thm = s.thm ∧ (State.storeFull s index).hrd = s.hrd ∧ (State.storeFull s index).tlm = s.tlm ∧ (State.storeFull s index).cmd = s.cmd ∧ (State.storeFull s index).boot = s.boot ∧ (State.storeFull s index).adc = s.adc ∧ (State.storeFull s index).fw = s.fw ∧ (State.storeFull s index).lt = s.lt ∧ (State.storeFull s index).pending = s.pending := by
  refine ⟨?_, ?_, ?_, ?_, ?_, ?_, ?_, ?_, ?_, ?_, ?_, ?_, ?_, ?_, ?_, ?_, ?_, ?_, ?_, ?_⟩ <;> (simp (maxDischargeDepth := 60) [State.storeFull, apply_ite Prod.snd])

@[simp] theorem State.storeFull_ok (s : State) (index : Nat) (hok : s.fieldsOk) : (State.storeFull s index).fieldsOk := by
  simp +contextual (maxDischargeDepth := 60) [State.storeFull, hok, apply_ite Prod.snd]

@[simp] theorem State.showRun_getF (s : State) (fld : Fld) (itm : Nat) (hw : fld ∉ ([.CMD_RUN_EPOCH, .CMD_RUN_EPOCHS_M1, .CMD_RUN_RETUNE, .CMD_RUN_RUN_ID, .CMD_RUN_STATE] : List Fld)) :
    (State.showRun s).getF fld itm = s.getF fld itm := by
  try simp only [List.mem_cons, not_or, List.not_mem_nil, not_false_eq_true] at hw
  ((unfold State.showRun); (try simp only []); (repeat' split) <;> (try simp (maxDischargeDepth := 60) [hw, State.when, apply_ite Prod.snd]))

@[simp] theorem State.showRun_parts (s : State) :
    (State.showRun s).time = s.time ∧ (State.showRun s).cfg = s.cfg ∧ (State.showRun s).raiseQ = s.raiseQ ∧ (State.showRun s).out = s.out ∧ (State.showRun s).freeCtr = s.freeCtr ∧ (State.showRun s).flt = s.flt ∧ (State.showRun s).phs = s.phs ∧ (State.showRun s).dom = s.dom ∧ (State.showRun s).eng = s.eng ∧ (State.showRun s).start = s.start ∧ (State.showRun s).est = s.est ∧ (State.showRun s).bud = s.bud ∧ (State.showRun s).thm = s.thm ∧ (State.showRun s).hrd = s.hrd ∧ (State.showRun s).tlm = s.tlm ∧ (State.showRun s).cmd = s.cmd ∧ (State.showRun s).boot = s.boot ∧ (State.showRun s).adc = s.adc ∧ (State.showRun s).fw = s.fw ∧ (State.showRun s).lt = s.lt ∧ (State.showRun s).pending = s.pending := by
  refine ⟨?_, ?_, ?_, ?_, ?_, ?_, ?_, ?_, ?_, ?_, ?_, ?_, ?_, ?_, ?_, ?_, ?_, ?_, ?_, ?_, ?_⟩ <;> ((unfold State.showRun); (try simp only []); (repeat' split) <;> (try simp (maxDischargeDepth := 60) [State.when, apply_ite Prod.snd]))

@[simp] theorem State.showRun_ok (s : State) (hok : s.fieldsOk) : (State.showRun s).fieldsOk := by
  ((unfold State.showRun); (try simp only []); (repeat' split) <;> (try simp +contextual (maxDischargeDepth := 60) [hok, State.when, apply_ite Prod.snd]))

@[simp] theorem State.putRun_getF (s : State) (r : Run) (st : Nat) (fld : Fld) (itm : Nat) (hw : fld ∉ ([.CMD_RUN_EPOCH, .CMD_RUN_EPOCHS_M1, .CMD_RUN_RETUNE, .CMD_RUN_RUN_ID, .CMD_RUN_STATE] : List Fld)) :
    (State.putRun s r st).getF fld itm = s.getF fld itm := by
  try simp only [List.mem_cons, not_or, List.not_mem_nil, not_false_eq_true] at hw
  simp (maxDischargeDepth := 60) [State.putRun, hw, apply_ite Prod.snd]

@[simp] theorem State.putRun_parts (s : State) (r : Run) (st : Nat) :
    (State.putRun s r st).time = s.time ∧ (State.putRun s r st).cfg = s.cfg ∧ (State.putRun s r st).raiseQ = s.raiseQ ∧ (State.putRun s r st).out = s.out ∧ (State.putRun s r st).freeCtr = s.freeCtr ∧ (State.putRun s r st).flt = s.flt ∧ (State.putRun s r st).phs = s.phs ∧ (State.putRun s r st).dom = s.dom ∧ (State.putRun s r st).eng = s.eng ∧ (State.putRun s r st).start = s.start ∧ (State.putRun s r st).est = s.est ∧ (State.putRun s r st).bud = s.bud ∧ (State.putRun s r st).thm = s.thm ∧ (State.putRun s r st).hrd = s.hrd ∧ (State.putRun s r st).tlm = s.tlm ∧ (State.putRun s r st).boot = s.boot ∧ (State.putRun s r st).adc = s.adc ∧ (State.putRun s r st).fw = s.fw ∧ (State.putRun s r st).lt = s.lt ∧ (State.putRun s r st).pending = s.pending := by
  refine ⟨?_, ?_, ?_, ?_, ?_, ?_, ?_, ?_, ?_, ?_, ?_, ?_, ?_, ?_, ?_, ?_, ?_, ?_, ?_, ?_⟩ <;> (simp (maxDischargeDepth := 60) [State.putRun, apply_ite Prod.snd])

@[simp] theorem State.putRun_ok (s : State) (r : Run) (st : Nat) (hok : s.fieldsOk) : (State.putRun s r st).fieldsOk := by
  simp +contextual (maxDischargeDepth := 60) [State.putRun, hok, apply_ite Prod.snd]

@[simp] theorem State.startRun_getF (s : State) (fld : Fld) (itm : Nat) (hw : fld ∉ ([.CMD_RUN_EPOCH, .CMD_RUN_EPOCHS_M1, .CMD_RUN_RETUNE, .CMD_RUN_RUN_ID, .CMD_RUN_STATE, .CMD_STATUS_QUEUED, .CMD_STATUS_STORE_USED] : List Fld)) :
    (State.startRun s).getF fld itm = s.getF fld itm := by
  try simp only [List.mem_cons, not_or, List.not_mem_nil, not_false_eq_true] at hw
  ((unfold State.startRun); (try simp only []); (repeat' split) <;> (try simp (maxDischargeDepth := 60) [hw, State.when, apply_ite Prod.snd]))

@[simp] theorem State.startRun_parts (s : State) :
    (State.startRun s).time = s.time ∧ (State.startRun s).cfg = s.cfg ∧ (State.startRun s).raiseQ = s.raiseQ ∧ (State.startRun s).out = s.out ∧ (State.startRun s).freeCtr = s.freeCtr ∧ (State.startRun s).flt = s.flt ∧ (State.startRun s).phs = s.phs ∧ (State.startRun s).dom = s.dom ∧ (State.startRun s).eng = s.eng ∧ (State.startRun s).start = s.start ∧ (State.startRun s).est = s.est ∧ (State.startRun s).bud = s.bud ∧ (State.startRun s).thm = s.thm ∧ (State.startRun s).hrd = s.hrd ∧ (State.startRun s).tlm = s.tlm ∧ (State.startRun s).boot = s.boot ∧ (State.startRun s).adc = s.adc ∧ (State.startRun s).fw = s.fw ∧ (State.startRun s).lt = s.lt ∧ (State.startRun s).pending = s.pending := by
  refine ⟨?_, ?_, ?_, ?_, ?_, ?_, ?_, ?_, ?_, ?_, ?_, ?_, ?_, ?_, ?_, ?_, ?_, ?_, ?_, ?_⟩ <;> ((unfold State.startRun); (try simp only []); (repeat' split) <;> (try simp (maxDischargeDepth := 60) [State.when, apply_ite Prod.snd]))

@[simp] theorem State.startRun_ok (s : State) (hok : s.fieldsOk) : (State.startRun s).fieldsOk := by
  ((unfold State.startRun); (try simp only []); (repeat' split) <;> (try simp +contextual (maxDischargeDepth := 60) [hok, State.when, apply_ite Prod.snd]))

@[simp] theorem State.reportCommit_getF (s : State) (r : Run) (st check entry : Nat) (fld : Fld) (itm : Nat) (hw : fld ∉ ([.CMD_COMMIT_ST_STATUS, .CMD_PART_ID_STATE, .CMD_PART_SLOTS_BUSY, .CMD_PART_SLOTS_NEW, .CRC_EVENT_MISMATCH, .CRC_RESULT_RESULT, .CRC_STATUS_MATCH, .CRC_STATUS_MISMATCH, .CRC_STATUS_MISMATCH_COUNT, .CRC_STATUS_STATE, .CRC_VALUE_VALUE] : List Fld)) :
    (State.reportCommit s r st check entry).getF fld itm = s.getF fld itm := by
  try simp only [List.mem_cons, not_or, List.not_mem_nil, not_false_eq_true] at hw
  ((unfold State.reportCommit); (try simp only []); (repeat' split) <;> (try simp (maxDischargeDepth := 60) [hw, State.when, apply_ite Prod.snd]))

@[simp] theorem State.reportCommit_parts (s : State) (r : Run) (st check entry : Nat) :
    (State.reportCommit s r st check entry).time = s.time ∧ (State.reportCommit s r st check entry).cfg = s.cfg ∧ (State.reportCommit s r st check entry).raiseQ = s.raiseQ ∧ (State.reportCommit s r st check entry).freeCtr = s.freeCtr ∧ (State.reportCommit s r st check entry).flt = s.flt ∧ (State.reportCommit s r st check entry).phs = s.phs ∧ (State.reportCommit s r st check entry).dom = s.dom ∧ (State.reportCommit s r st check entry).eng = s.eng ∧ (State.reportCommit s r st check entry).start = s.start ∧ (State.reportCommit s r st check entry).est = s.est ∧ (State.reportCommit s r st check entry).bud = s.bud ∧ (State.reportCommit s r st check entry).thm = s.thm ∧ (State.reportCommit s r st check entry).hrd = s.hrd ∧ (State.reportCommit s r st check entry).tlm = s.tlm ∧ (State.reportCommit s r st check entry).boot = s.boot ∧ (State.reportCommit s r st check entry).adc = s.adc ∧ (State.reportCommit s r st check entry).fw = s.fw ∧ (State.reportCommit s r st check entry).lt = s.lt ∧ (State.reportCommit s r st check entry).pending = s.pending := by
  refine ⟨?_, ?_, ?_, ?_, ?_, ?_, ?_, ?_, ?_, ?_, ?_, ?_, ?_, ?_, ?_, ?_, ?_, ?_, ?_⟩ <;> ((unfold State.reportCommit); (try simp only []); (repeat' split) <;> (try simp (maxDischargeDepth := 60) [State.when, apply_ite Prod.snd]))

@[simp] theorem State.reportCommit_ok (s : State) (r : Run) (st check entry : Nat) (hok : s.fieldsOk) : (State.reportCommit s r st check entry).fieldsOk := by
  ((unfold State.reportCommit); (try simp only []); (repeat' split) <;> (try simp +contextual (maxDischargeDepth := 60) [hok, State.when, apply_ite Prod.snd]))

@[simp] theorem State.reportAbort_getF (s : State) (r : Run) (st : Nat) (fld : Fld) (itm : Nat) (hw : fld ∉ ([.CMD_PART_ID_STATE, .CMD_PART_SLOTS_BUSY, .CMD_PART_SLOTS_NEW, .CRC_EVENT_MISMATCH, .CRC_RESULT_RESULT, .CRC_STATUS_MATCH, .CRC_STATUS_MISMATCH, .CRC_STATUS_MISMATCH_COUNT, .CRC_STATUS_STATE, .CRC_VALUE_VALUE] : List Fld)) :
    (State.reportAbort s r st).getF fld itm = s.getF fld itm := by
  try simp only [List.mem_cons, not_or, List.not_mem_nil, not_false_eq_true] at hw
  ((unfold State.reportAbort); (try simp only []); (repeat' split) <;> (try simp (maxDischargeDepth := 60) [hw, State.when, apply_ite Prod.snd]))

@[simp] theorem State.reportAbort_parts (s : State) (r : Run) (st : Nat) :
    (State.reportAbort s r st).time = s.time ∧ (State.reportAbort s r st).cfg = s.cfg ∧ (State.reportAbort s r st).raiseQ = s.raiseQ ∧ (State.reportAbort s r st).freeCtr = s.freeCtr ∧ (State.reportAbort s r st).flt = s.flt ∧ (State.reportAbort s r st).phs = s.phs ∧ (State.reportAbort s r st).dom = s.dom ∧ (State.reportAbort s r st).eng = s.eng ∧ (State.reportAbort s r st).start = s.start ∧ (State.reportAbort s r st).est = s.est ∧ (State.reportAbort s r st).bud = s.bud ∧ (State.reportAbort s r st).thm = s.thm ∧ (State.reportAbort s r st).hrd = s.hrd ∧ (State.reportAbort s r st).tlm = s.tlm ∧ (State.reportAbort s r st).boot = s.boot ∧ (State.reportAbort s r st).adc = s.adc ∧ (State.reportAbort s r st).fw = s.fw ∧ (State.reportAbort s r st).lt = s.lt ∧ (State.reportAbort s r st).pending = s.pending := by
  refine ⟨?_, ?_, ?_, ?_, ?_, ?_, ?_, ?_, ?_, ?_, ?_, ?_, ?_, ?_, ?_, ?_, ?_, ?_, ?_⟩ <;> ((unfold State.reportAbort); (try simp only []); (repeat' split) <;> (try simp (maxDischargeDepth := 60) [State.when, apply_ite Prod.snd]))

@[simp] theorem State.reportAbort_ok (s : State) (r : Run) (st : Nat) (hok : s.fieldsOk) : (State.reportAbort s r st).fieldsOk := by
  ((unfold State.reportAbort); (try simp only []); (repeat' split) <;> (try simp +contextual (maxDischargeDepth := 60) [hok, State.when, apply_ite Prod.snd]))

@[simp] theorem State.answerCp1_getF (s : State) (st : Nat) (fld : Fld) (itm : Nat) (hw : fld ∉ ([.CMD_PART_ID_STATE, .CMD_PART_SLOTS_BUSY, .CMD_PART_SLOTS_NEW, .CRC_EVENT_MISMATCH, .CRC_RESULT_RESULT, .CRC_STATUS_MATCH, .CRC_STATUS_MISMATCH, .CRC_STATUS_MISMATCH_COUNT, .CRC_STATUS_STATE, .CRC_VALUE_VALUE] : List Fld)) :
    (State.answerCp1 s st).getF fld itm = s.getF fld itm := by
  try simp only [List.mem_cons, not_or, List.not_mem_nil, not_false_eq_true] at hw
  simp (maxDischargeDepth := 60) [State.answerCp1, hw, apply_ite Prod.snd]

@[simp] theorem State.answerCp1_parts (s : State) (st : Nat) :
    (State.answerCp1 s st).time = s.time ∧ (State.answerCp1 s st).cfg = s.cfg ∧ (State.answerCp1 s st).raiseQ = s.raiseQ ∧ (State.answerCp1 s st).freeCtr = s.freeCtr ∧ (State.answerCp1 s st).flt = s.flt ∧ (State.answerCp1 s st).phs = s.phs ∧ (State.answerCp1 s st).dom = s.dom ∧ (State.answerCp1 s st).eng = s.eng ∧ (State.answerCp1 s st).start = s.start ∧ (State.answerCp1 s st).est = s.est ∧ (State.answerCp1 s st).bud = s.bud ∧ (State.answerCp1 s st).thm = s.thm ∧ (State.answerCp1 s st).hrd = s.hrd ∧ (State.answerCp1 s st).tlm = s.tlm ∧ (State.answerCp1 s st).boot = s.boot ∧ (State.answerCp1 s st).adc = s.adc ∧ (State.answerCp1 s st).fw = s.fw ∧ (State.answerCp1 s st).lt = s.lt ∧ (State.answerCp1 s st).pending = s.pending := by
  refine ⟨?_, ?_, ?_, ?_, ?_, ?_, ?_, ?_, ?_, ?_, ?_, ?_, ?_, ?_, ?_, ?_, ?_, ?_, ?_⟩ <;> (simp (maxDischargeDepth := 60) [State.answerCp1, apply_ite Prod.snd])

@[simp] theorem State.answerCp1_ok (s : State) (st : Nat) (hok : s.fieldsOk) : (State.answerCp1 s st).fieldsOk := by
  simp +contextual (maxDischargeDepth := 60) [State.answerCp1, hok, apply_ite Prod.snd]

@[simp] theorem State.dropTaken_getF (s : State) (fld : Fld) (itm : Nat) (hw : fld ∉ ([] : List Fld)) :
    (State.dropTaken s).getF fld itm = s.getF fld itm := by
  try simp only [List.mem_cons, not_or, List.not_mem_nil, not_false_eq_true] at hw
  simp (maxDischargeDepth := 60) [State.dropTaken, hw, apply_ite Prod.snd]

@[simp] theorem State.dropTaken_parts (s : State) :
    (State.dropTaken s).time = s.time ∧ (State.dropTaken s).cfg = s.cfg ∧ (State.dropTaken s).raiseQ = s.raiseQ ∧ (State.dropTaken s).out = s.out ∧ (State.dropTaken s).freeCtr = s.freeCtr ∧ (State.dropTaken s).flt = s.flt ∧ (State.dropTaken s).phs = s.phs ∧ (State.dropTaken s).dom = s.dom ∧ (State.dropTaken s).eng = s.eng ∧ (State.dropTaken s).start = s.start ∧ (State.dropTaken s).est = s.est ∧ (State.dropTaken s).bud = s.bud ∧ (State.dropTaken s).thm = s.thm ∧ (State.dropTaken s).hrd = s.hrd ∧ (State.dropTaken s).tlm = s.tlm ∧ (State.dropTaken s).cmd = s.cmd ∧ (State.dropTaken s).boot = s.boot ∧ (State.dropTaken s).adc = s.adc ∧ (State.dropTaken s).lt = s.lt ∧ (State.dropTaken s).pending = s.pending := by
  refine ⟨?_, ?_, ?_, ?_, ?_, ?_, ?_, ?_, ?_, ?_, ?_, ?_, ?_, ?_, ?_, ?_, ?_, ?_, ?_, ?_⟩ <;> (simp (maxDischargeDepth := 60) [State.dropTaken, apply_ite Prod.snd])

@[simp] theorem State.dropTaken_ok (s : State) (hok : s.fieldsOk) : (State.dropTaken s).fieldsOk := by
  simp +contextual (maxDischargeDepth := 60) [State.dropTaken, hok, apply_ite Prod.snd]

@[simp] theorem State.endCpRun_getF (s : State) (r : Run) (st : Nat) (fld : Fld) (itm : Nat) (hw : fld ∉ ([.CMD_PART_ID_STATE, .CMD_PART_SLOTS_BUSY, .CMD_PART_SLOTS_NEW, .CRC_EVENT_MISMATCH, .CRC_RESULT_RESULT, .CRC_STATUS_MATCH, .CRC_STATUS_MISMATCH, .CRC_STATUS_MISMATCH_COUNT, .CRC_STATUS_STATE, .CRC_VALUE_VALUE] : List Fld)) :
    (State.endCpRun s r st).getF fld itm = s.getF fld itm := by
  try simp only [List.mem_cons, not_or, List.not_mem_nil, not_false_eq_true] at hw
  simp (maxDischargeDepth := 60) [State.endCpRun, hw, apply_ite Prod.snd]

@[simp] theorem State.endCpRun_parts (s : State) (r : Run) (st : Nat) :
    (State.endCpRun s r st).time = s.time ∧ (State.endCpRun s r st).cfg = s.cfg ∧ (State.endCpRun s r st).raiseQ = s.raiseQ ∧ (State.endCpRun s r st).freeCtr = s.freeCtr ∧ (State.endCpRun s r st).flt = s.flt ∧ (State.endCpRun s r st).phs = s.phs ∧ (State.endCpRun s r st).dom = s.dom ∧ (State.endCpRun s r st).eng = s.eng ∧ (State.endCpRun s r st).start = s.start ∧ (State.endCpRun s r st).est = s.est ∧ (State.endCpRun s r st).bud = s.bud ∧ (State.endCpRun s r st).thm = s.thm ∧ (State.endCpRun s r st).hrd = s.hrd ∧ (State.endCpRun s r st).tlm = s.tlm ∧ (State.endCpRun s r st).boot = s.boot ∧ (State.endCpRun s r st).adc = s.adc ∧ (State.endCpRun s r st).lt = s.lt ∧ (State.endCpRun s r st).pending = s.pending := by
  refine ⟨?_, ?_, ?_, ?_, ?_, ?_, ?_, ?_, ?_, ?_, ?_, ?_, ?_, ?_, ?_, ?_, ?_, ?_⟩ <;> (simp (maxDischargeDepth := 60) [State.endCpRun, apply_ite Prod.snd])

@[simp] theorem State.endCpRun_ok (s : State) (r : Run) (st : Nat) (hok : s.fieldsOk) : (State.endCpRun s r st).fieldsOk := by
  simp +contextual (maxDischargeDepth := 60) [State.endCpRun, hok, apply_ite Prod.snd]

@[simp] theorem State.endRun_getF (s : State) (r : Run) (st check entry : Nat) (fld : Fld) (itm : Nat) (hw : fld ∉ ([.CMD_COMMIT_ST_STATUS, .CMD_NOTICE0_ARG, .CMD_NOTICE0_TYPE, .CMD_NOTICE1_TIME_LO, .CMD_NOTICE_SEQ_NSEQ, .CMD_PART_ID_STATE, .CMD_PART_SLOTS_BUSY, .CMD_PART_SLOTS_NEW, .CMD_PART_SLOTS_NOTICE_NEW, .CMD_RUN_EPOCH, .CMD_RUN_EPOCHS_M1, .CMD_RUN_RETUNE, .CMD_RUN_RUN_ID, .CMD_RUN_STATE, .CMD_STATUS_QUEUED, .CMD_STATUS_STORE_USED, .CRC_EVENT_MISMATCH, .CRC_RESULT_RESULT, .CRC_STATUS_MATCH, .CRC_STATUS_MISMATCH, .CRC_STATUS_MISMATCH_COUNT, .CRC_STATUS_STATE, .CRC_VALUE_VALUE] : List Fld)) :
    (State.endRun s r st check entry).getF fld itm = s.getF fld itm := by
  try simp only [List.mem_cons, not_or, List.not_mem_nil, not_false_eq_true] at hw
  simp (maxDischargeDepth := 60) [State.endRun, hw, apply_ite Prod.snd]

@[simp] theorem State.endRun_parts (s : State) (r : Run) (st check entry : Nat) :
    (State.endRun s r st check entry).time = s.time ∧ (State.endRun s r st check entry).cfg = s.cfg ∧ (State.endRun s r st check entry).raiseQ = s.raiseQ ∧ (State.endRun s r st check entry).freeCtr = s.freeCtr ∧ (State.endRun s r st check entry).flt = s.flt ∧ (State.endRun s r st check entry).phs = s.phs ∧ (State.endRun s r st check entry).dom = s.dom ∧ (State.endRun s r st check entry).eng = s.eng ∧ (State.endRun s r st check entry).start = s.start ∧ (State.endRun s r st check entry).est = s.est ∧ (State.endRun s r st check entry).bud = s.bud ∧ (State.endRun s r st check entry).thm = s.thm ∧ (State.endRun s r st check entry).hrd = s.hrd ∧ (State.endRun s r st check entry).tlm = s.tlm ∧ (State.endRun s r st check entry).boot = s.boot ∧ (State.endRun s r st check entry).adc = s.adc ∧ (State.endRun s r st check entry).lt = s.lt ∧ (State.endRun s r st check entry).pending = s.pending := by
  refine ⟨?_, ?_, ?_, ?_, ?_, ?_, ?_, ?_, ?_, ?_, ?_, ?_, ?_, ?_, ?_, ?_, ?_, ?_⟩ <;> (simp (maxDischargeDepth := 60) [State.endRun, apply_ite Prod.snd])

@[simp] theorem State.endRun_ok (s : State) (r : Run) (st check entry : Nat) (hok : s.fieldsOk) : (State.endRun s r st check entry).fieldsOk := by
  simp +contextual (maxDischargeDepth := 60) [State.endRun, hok, apply_ite Prod.snd]

@[simp] theorem State.returnSet_getF (s : State) (r : Run) (fld : Fld) (itm : Nat) (hw : fld ∉ ([.CMD_STATUS_QUEUED, .CMD_STATUS_STORE_USED] : List Fld)) :
    (State.returnSet s r).getF fld itm = s.getF fld itm := by
  try simp only [List.mem_cons, not_or, List.not_mem_nil, not_false_eq_true] at hw
  simp (maxDischargeDepth := 60) [State.returnSet, hw, apply_ite Prod.snd]

@[simp] theorem State.returnSet_parts (s : State) (r : Run) :
    (State.returnSet s r).time = s.time ∧ (State.returnSet s r).cfg = s.cfg ∧ (State.returnSet s r).raiseQ = s.raiseQ ∧ (State.returnSet s r).out = s.out ∧ (State.returnSet s r).freeCtr = s.freeCtr ∧ (State.returnSet s r).flt = s.flt ∧ (State.returnSet s r).phs = s.phs ∧ (State.returnSet s r).dom = s.dom ∧ (State.returnSet s r).eng = s.eng ∧ (State.returnSet s r).start = s.start ∧ (State.returnSet s r).est = s.est ∧ (State.returnSet s r).bud = s.bud ∧ (State.returnSet s r).thm = s.thm ∧ (State.returnSet s r).hrd = s.hrd ∧ (State.returnSet s r).tlm = s.tlm ∧ (State.returnSet s r).boot = s.boot ∧ (State.returnSet s r).adc = s.adc ∧ (State.returnSet s r).fw = s.fw ∧ (State.returnSet s r).lt = s.lt ∧ (State.returnSet s r).pending = s.pending := by
  refine ⟨?_, ?_, ?_, ?_, ?_, ?_, ?_, ?_, ?_, ?_, ?_, ?_, ?_, ?_, ?_, ?_, ?_, ?_, ?_, ?_⟩ <;> (simp (maxDischargeDepth := 60) [State.returnSet, apply_ite Prod.snd])

@[simp] theorem State.returnSet_ok (s : State) (r : Run) (hok : s.fieldsOk) : (State.returnSet s r).fieldsOk := by
  simp +contextual (maxDischargeDepth := 60) [State.returnSet, hok, apply_ite Prod.snd]

@[simp] theorem State.enterApply_getF (s : State) (r : Run) (fld : Fld) (itm : Nat) (hw : fld ∉ ([.CMD_RUN_EPOCH, .CMD_RUN_EPOCHS_M1, .CMD_RUN_RETUNE, .CMD_RUN_RUN_ID, .CMD_RUN_STATE] : List Fld)) :
    (State.enterApply s r).getF fld itm = s.getF fld itm := by
  try simp only [List.mem_cons, not_or, List.not_mem_nil, not_false_eq_true] at hw
  simp (maxDischargeDepth := 60) [State.enterApply, hw, apply_ite Prod.snd]

@[simp] theorem State.enterApply_parts (s : State) (r : Run) :
    (State.enterApply s r).time = s.time ∧ (State.enterApply s r).cfg = s.cfg ∧ (State.enterApply s r).raiseQ = s.raiseQ ∧ (State.enterApply s r).out = s.out ∧ (State.enterApply s r).freeCtr = s.freeCtr ∧ (State.enterApply s r).flt = s.flt ∧ (State.enterApply s r).phs = s.phs ∧ (State.enterApply s r).dom = s.dom ∧ (State.enterApply s r).eng = s.eng ∧ (State.enterApply s r).start = s.start ∧ (State.enterApply s r).est = s.est ∧ (State.enterApply s r).bud = s.bud ∧ (State.enterApply s r).thm = s.thm ∧ (State.enterApply s r).hrd = s.hrd ∧ (State.enterApply s r).tlm = s.tlm ∧ (State.enterApply s r).boot = s.boot ∧ (State.enterApply s r).adc = s.adc ∧ (State.enterApply s r).fw = s.fw ∧ (State.enterApply s r).lt = s.lt ∧ (State.enterApply s r).pending = s.pending := by
  refine ⟨?_, ?_, ?_, ?_, ?_, ?_, ?_, ?_, ?_, ?_, ?_, ?_, ?_, ?_, ?_, ?_, ?_, ?_, ?_, ?_⟩ <;> (simp (maxDischargeDepth := 60) [State.enterApply, apply_ite Prod.snd])

@[simp] theorem State.enterApply_ok (s : State) (r : Run) (hok : s.fieldsOk) : (State.enterApply s r).fieldsOk := by
  simp +contextual (maxDischargeDepth := 60) [State.enterApply, hok, apply_ite Prod.snd]

@[simp] theorem State.enterWalkback_getF (s : State) (r : Run) (fld : Fld) (itm : Nat) (hw : fld ∉ ([.CMD_COMMIT_ST_STATUS, .CMD_NOTICE0_ARG, .CMD_NOTICE0_TYPE, .CMD_NOTICE1_TIME_LO, .CMD_NOTICE_SEQ_NSEQ, .CMD_PART_ID_STATE, .CMD_PART_SLOTS_BUSY, .CMD_PART_SLOTS_NEW, .CMD_PART_SLOTS_NOTICE_NEW, .CMD_RUN_EPOCH, .CMD_RUN_EPOCHS_M1, .CMD_RUN_RETUNE, .CMD_RUN_RUN_ID, .CMD_RUN_STATE, .CMD_STATUS_QUEUED, .CMD_STATUS_STORE_USED, .CRC_EVENT_MISMATCH, .CRC_RESULT_RESULT, .CRC_STATUS_MATCH, .CRC_STATUS_MISMATCH, .CRC_STATUS_MISMATCH_COUNT, .CRC_STATUS_STATE, .CRC_VALUE_VALUE] : List Fld)) :
    (State.enterWalkback s r).getF fld itm = s.getF fld itm := by
  try simp only [List.mem_cons, not_or, List.not_mem_nil, not_false_eq_true] at hw
  simp (maxDischargeDepth := 60) [State.enterWalkback, hw, apply_ite Prod.snd]

@[simp] theorem State.enterWalkback_parts (s : State) (r : Run) :
    (State.enterWalkback s r).time = s.time ∧ (State.enterWalkback s r).cfg = s.cfg ∧ (State.enterWalkback s r).raiseQ = s.raiseQ ∧ (State.enterWalkback s r).freeCtr = s.freeCtr ∧ (State.enterWalkback s r).flt = s.flt ∧ (State.enterWalkback s r).phs = s.phs ∧ (State.enterWalkback s r).dom = s.dom ∧ (State.enterWalkback s r).eng = s.eng ∧ (State.enterWalkback s r).start = s.start ∧ (State.enterWalkback s r).est = s.est ∧ (State.enterWalkback s r).bud = s.bud ∧ (State.enterWalkback s r).thm = s.thm ∧ (State.enterWalkback s r).hrd = s.hrd ∧ (State.enterWalkback s r).tlm = s.tlm ∧ (State.enterWalkback s r).boot = s.boot ∧ (State.enterWalkback s r).adc = s.adc ∧ (State.enterWalkback s r).lt = s.lt ∧ (State.enterWalkback s r).pending = s.pending := by
  refine ⟨?_, ?_, ?_, ?_, ?_, ?_, ?_, ?_, ?_, ?_, ?_, ?_, ?_, ?_, ?_, ?_, ?_, ?_⟩ <;> (simp (maxDischargeDepth := 60) [State.enterWalkback, apply_ite Prod.snd])

@[simp] theorem State.enterWalkback_ok (s : State) (r : Run) (hok : s.fieldsOk) : (State.enterWalkback s r).fieldsOk := by
  simp +contextual (maxDischargeDepth := 60) [State.enterWalkback, hok, apply_ite Prod.snd]

theorem State.commitRun_getF (s : State) (r : Run) (t : State) (h : State.commitRun s r = some t) (fld : Fld) (itm : Nat) (hw : fld ∉ ([.CMD_RUN_EPOCH, .CMD_RUN_EPOCHS_M1, .CMD_RUN_RETUNE, .CMD_RUN_RUN_ID, .CMD_RUN_STATE, .CMD_STATUS_QUEUED, .CMD_STATUS_STORE_USED] : List Fld)) :
    t.getF fld itm = s.getF fld itm := by
  try simp only [List.mem_cons, not_or, List.not_mem_nil, not_false_eq_true] at hw
  unfold State.commitRun at h
  simp only [] at h
  split at h
  · cases h
  · cases h; simp (maxDischargeDepth := 60) [hw]

theorem State.commitRun_parts (s : State) (r : Run) (t : State) (h : State.commitRun s r = some t) :
    t.time = s.time ∧ t.cfg = s.cfg ∧ t.raiseQ = s.raiseQ ∧ t.out = s.out ∧ t.freeCtr = s.freeCtr ∧ t.flt = s.flt ∧ t.phs = s.phs ∧ t.dom = s.dom ∧ t.eng = s.eng ∧ t.start = s.start ∧ t.est = s.est ∧ t.bud = s.bud ∧ t.thm = s.thm ∧ t.hrd = s.hrd ∧ t.tlm = s.tlm ∧ t.boot = s.boot ∧ t.adc = s.adc ∧ t.fw = s.fw ∧ t.lt = s.lt ∧ t.pending = s.pending := by
  unfold State.commitRun at h
  simp only [] at h
  split at h
  · cases h
  · cases h; simp (maxDischargeDepth := 60)

theorem State.commitRun_ok (s : State) (r : Run) (t : State) (h : State.commitRun s r = some t) (hok : s.fieldsOk) : t.fieldsOk := by
  unfold State.commitRun at h
  simp only [] at h
  split at h
  · cases h
  · cases h; simp (maxDischargeDepth := 60) [hok]

theorem State.commitSet_getF (s : State) (init : Nat) (retune dry : Bool) (expectN : Nat) (direct : Bool) (part slot : Option Nat) (t : State × Run) (h : State.commitSet s init retune dry expectN direct part slot = some t) (fld : Fld) (itm : Nat) (hw : fld ∉ ([.CMD_RUN_EPOCH, .CMD_RUN_EPOCHS_M1, .CMD_RUN_RETUNE, .CMD_RUN_RUN_ID, .CMD_RUN_STATE, .CMD_STATUS_QUEUED, .CMD_STATUS_STORE_USED] : List Fld)) :
    t.1.getF fld itm = s.getF fld itm := by
  try simp only [List.mem_cons, not_or, List.not_mem_nil, not_false_eq_true] at hw
  unfold State.commitSet at h
  simp only [] at h
  obtain ⟨u, hu, e⟩ := Option.map_eq_some_iff.1 h
  subst e
  simp [State.commitRun_getF _ _ _ hu, hw]

theorem State.commitSet_parts (s : State) (init : Nat) (retune dry : Bool) (expectN : Nat) (direct : Bool) (part slot : Option Nat) (t : State × Run) (h : State.commitSet s init retune dry expectN direct part slot = some t) :
    t.1.time = s.time ∧ t.1.cfg = s.cfg ∧ t.1.raiseQ = s.raiseQ ∧ t.1.out = s.out ∧ t.1.freeCtr = s.freeCtr ∧ t.1.flt = s.flt ∧ t.1.phs = s.phs ∧ t.1.dom = s.dom ∧ t.1.eng = s.eng ∧ t.1.start = s.start ∧ t.1.est = s.est ∧ t.1.bud = s.bud ∧ t.1.thm = s.thm ∧ t.1.hrd = s.hrd ∧ t.1.tlm = s.tlm ∧ t.1.boot = s.boot ∧ t.1.adc = s.adc ∧ t.1.fw = s.fw ∧ t.1.lt = s.lt ∧ t.1.pending = s.pending := by
  unfold State.commitSet at h
  simp only [] at h
  obtain ⟨u, hu, e⟩ := Option.map_eq_some_iff.1 h
  subst e
  have h2 := State.commitRun_parts _ _ _ hu
  simp [h2]

theorem State.commitSet_ok (s : State) (init : Nat) (retune dry : Bool) (expectN : Nat) (direct : Bool) (part slot : Option Nat) (t : State × Run) (h : State.commitSet s init retune dry expectN direct part slot = some t) (hok : s.fieldsOk) : t.1.fieldsOk := by
  unfold State.commitSet at h
  simp only [] at h
  obtain ⟨u, hu, e⟩ := Option.map_eq_some_iff.1 h
  subst e
  exact State.commitRun_ok _ _ _ hu (by simp [hok])

@[simp] theorem State.orphanSlot_getF (s : State) (k : Nat) (fld : Fld) (itm : Nat) (hw : fld ∉ ([] : List Fld)) :
    (State.orphanSlot s k).getF fld itm = s.getF fld itm := by
  try simp only [List.mem_cons, not_or, List.not_mem_nil, not_false_eq_true] at hw
  simp (maxDischargeDepth := 60) [State.orphanSlot, hw, apply_ite Prod.snd]

@[simp] theorem State.orphanSlot_parts (s : State) (k : Nat) :
    (State.orphanSlot s k).time = s.time ∧ (State.orphanSlot s k).cfg = s.cfg ∧ (State.orphanSlot s k).raiseQ = s.raiseQ ∧ (State.orphanSlot s k).out = s.out ∧ (State.orphanSlot s k).freeCtr = s.freeCtr ∧ (State.orphanSlot s k).flt = s.flt ∧ (State.orphanSlot s k).phs = s.phs ∧ (State.orphanSlot s k).dom = s.dom ∧ (State.orphanSlot s k).eng = s.eng ∧ (State.orphanSlot s k).start = s.start ∧ (State.orphanSlot s k).est = s.est ∧ (State.orphanSlot s k).bud = s.bud ∧ (State.orphanSlot s k).thm = s.thm ∧ (State.orphanSlot s k).hrd = s.hrd ∧ (State.orphanSlot s k).tlm = s.tlm ∧ (State.orphanSlot s k).boot = s.boot ∧ (State.orphanSlot s k).adc = s.adc ∧ (State.orphanSlot s k).fw = s.fw ∧ (State.orphanSlot s k).lt = s.lt ∧ (State.orphanSlot s k).pending = s.pending := by
  refine ⟨?_, ?_, ?_, ?_, ?_, ?_, ?_, ?_, ?_, ?_, ?_, ?_, ?_, ?_, ?_, ?_, ?_, ?_, ?_, ?_⟩ <;> (simp (maxDischargeDepth := 60) [State.orphanSlot, apply_ite Prod.snd])

@[simp] theorem State.orphanSlot_ok (s : State) (k : Nat) (hok : s.fieldsOk) : (State.orphanSlot s k).fieldsOk := by
  simp +contextual (maxDischargeDepth := 60) [State.orphanSlot, hok, apply_ite Prod.snd]

end Sys2Proof.Machine
end

