-- ==== Sys2Proof/Laws/TlmOps.lean ====
section
/-! SUPPORT. What each telemetry operation can do: the fields it may write, the parts of the state it keeps, and that it keeps
the register table in its canonical form. -/

namespace Sys2Proof.Machine
open Host (Outcome)
set_option maxRecDepth 4000
set_option linter.unusedSimpArgs false
set_option linter.unusedVariables false
set_option linter.unreachableTactic false
set_option linter.unusedTactic false

@[simp] theorem State.recMeasured_getF (s : State) (d : Nat) (fld : Fld) (itm : Nat) (hw : fld ∉ ([] : List Fld)) :
    (State.recMeasured s d).2.getF fld itm = s.getF fld itm := by
  try simp only [List.mem_cons, not_or, List.not_mem_nil, not_false_eq_true] at hw
  simp (maxDischargeDepth := 60) [State.recMeasured, hw, apply_ite Prod.snd]

@[simp] theorem State.recMeasured_parts (s : State) (d : Nat) :
    (State.recMeasured s d).2.time = s.time ∧ (State.recMeasured s d).2.cfg = s.cfg ∧ (State.recMeasured s d).2.raiseQ = s.raiseQ ∧ (State.recMeasured s d).2.out = s.out ∧ (State.recMeasured s d).2.flt = s.flt ∧ (State.recMeasured s d).2.phs = s.phs ∧ (State.recMeasured s d).2.dom = s.dom ∧ (State.recMeasured s d).2.eng = s.eng ∧ (State.recMeasured s d).2.start = s.start ∧ (State.recMeasured s d).2.est = s.est ∧ (State.recMeasured s d).2.bud = s.bud ∧ (State.recMeasured s d).2.thm = s.thm ∧ (State.recMeasured s d).2.hrd = s.hrd ∧ (State.recMeasured s d).2.tlm = s.tlm ∧ (State.recMeasured s d).2.cmd = s.cmd ∧ (State.recMeasured s d).2.boot = s.boot ∧ (State.recMeasured s d).2.adc = s.adc ∧ (State.recMeasured s d).2.fw = s.fw ∧ (State.recMeasured s d).2.lt = s.lt ∧ (State.recMeasured s d).2.pending = s.pending := by
  refine ⟨?_, ?_, ?_, ?_, ?_, ?_, ?_, ?_, ?_, ?_, ?_, ?_, ?_, ?_, ?_, ?_, ?_, ?_, ?_, ?_⟩ <;> (simp (maxDischargeDepth := 60) [State.recMeasured, apply_ite Prod.snd])

@[simp] theorem State.recMeasured_ok (s : State) (d : Nat) (hok : s.fieldsOk) : (State.recMeasured s d).2.fieldsOk := by
  simp +contextual (maxDischargeDepth := 60) [State.recMeasured, hok, apply_ite Prod.snd]

@[simp] theorem State.domRecord_getF (s : State) (d : Nat) (fld : Fld) (itm : Nat) (hw : fld ∉ ([] : List Fld)) :
    (State.domRecord s d).2.getF fld itm = s.getF fld itm := by
  try simp only [List.mem_cons, not_or, List.not_mem_nil, not_false_eq_true] at hw
  simp (maxDischargeDepth := 60) [State.domRecord, hw, apply_ite Prod.snd]

@[simp] theorem State.domRecord_parts (s : State) (d : Nat) :
    (State.domRecord s d).2.time = s.time ∧ (State.domRecord s d).2.cfg = s.cfg ∧ (State.domRecord s d).2.raiseQ = s.raiseQ ∧ (State.domRecord s d).2.out = s.out ∧ (State.domRecord s d).2.flt = s.flt ∧ (State.domRecord s d).2.phs = s.phs ∧ (State.domRecord s d).2.dom = s.dom ∧ (State.domRecord s d).2.eng = s.eng ∧ (State.domRecord s d).2.start = s.start ∧ (State.domRecord s d).2.est = s.est ∧ (State.domRecord s d).2.bud = s.bud ∧ (State.domRecord s d).2.thm = s.thm ∧ (State.domRecord s d).2.hrd = s.hrd ∧ (State.domRecord s d).2.tlm = s.tlm ∧ (State.domRecord s d).2.cmd = s.cmd ∧ (State.domRecord s d).2.boot = s.boot ∧ (State.domRecord s d).2.adc = s.adc ∧ (State.domRecord s d).2.fw = s.fw ∧ (State.domRecord s d).2.lt = s.lt ∧ (State.domRecord s d).2.pending = s.pending := by
  refine ⟨?_, ?_, ?_, ?_, ?_, ?_, ?_, ?_, ?_, ?_, ?_, ?_, ?_, ?_, ?_, ?_, ?_, ?_, ?_, ?_⟩ <;> (simp (maxDischargeDepth := 60) [State.domRecord, apply_ite Prod.snd])

@[simp] theorem State.domRecord_ok (s : State) (d : Nat) (hok : s.fieldsOk) : (State.domRecord s d).2.fieldsOk := by
  simp +contextual (maxDischargeDepth := 60) [State.domRecord, hok, apply_ite Prod.snd]

@[simp] theorem State.stackRecord_getF (s : State) (fld : Fld) (itm : Nat) (hw : fld ∉ ([] : List Fld)) :
    (State.stackRecord s).2.getF fld itm = s.getF fld itm := by
  try simp only [List.mem_cons, not_or, List.not_mem_nil, not_false_eq_true] at hw
  simp (maxDischargeDepth := 60) [State.stackRecord, hw, apply_ite Prod.snd]

@[simp] theorem State.stackRecord_parts (s : State) :
    (State.stackRecord s).2.time = s.time ∧ (State.stackRecord s).2.cfg = s.cfg ∧ (State.stackRecord s).2.raiseQ = s.raiseQ ∧ (State.stackRecord s).2.out = s.out ∧ (State.stackRecord s).2.flt = s.flt ∧ (State.stackRecord s).2.phs = s.phs ∧ (State.stackRecord s).2.dom = s.dom ∧ (State.stackRecord s).2.eng = s.eng ∧ (State.stackRecord s).2.start = s.start ∧ (State.stackRecord s).2.est = s.est ∧ (State.stackRecord s).2.bud = s.bud ∧ (State.stackRecord s).2.thm = s.thm ∧ (State.stackRecord s).2.hrd = s.hrd ∧ (State.stackRecord s).2.tlm = s.tlm ∧ (State.stackRecord s).2.cmd = s.cmd ∧ (State.stackRecord s).2.boot = s.boot ∧ (State.stackRecord s).2.adc = s.adc ∧ (State.stackRecord s).2.fw = s.fw ∧ (State.stackRecord s).2.lt = s.lt ∧ (State.stackRecord s).2.pending = s.pending := by
  refine ⟨?_, ?_, ?_, ?_, ?_, ?_, ?_, ?_, ?_, ?_, ?_, ?_, ?_, ?_, ?_, ?_, ?_, ?_, ?_, ?_⟩ <;> (simp (maxDischargeDepth := 60) [State.stackRecord, apply_ite Prod.snd])

@[simp] theorem State.stackRecord_ok (s : State) (hok : s.fieldsOk) : (State.stackRecord s).2.fieldsOk := by
  simp +contextual (maxDischargeDepth := 60) [State.stackRecord, hok, apply_ite Prod.snd]

@[simp] theorem State.popRecord_getF (s : State) (fld : Fld) (itm : Nat) (hw : fld ∉ ([] : List Fld)) :
    (State.popRecord s).getF fld itm = s.getF fld itm := by
  try simp only [List.mem_cons, not_or, List.not_mem_nil, not_false_eq_true] at hw
  simp (maxDischargeDepth := 60) [State.popRecord, hw, apply_ite Prod.snd]

@[simp] theorem State.popRecord_parts (s : State) :
    (State.popRecord s).time = s.time ∧ (State.popRecord s).cfg = s.cfg ∧ (State.popRecord s).raiseQ = s.raiseQ ∧ (State.popRecord s).out = s.out ∧ (State.popRecord s).freeCtr = s.freeCtr ∧ (State.popRecord s).flt = s.flt ∧ (State.popRecord s).phs = s.phs ∧ (State.popRecord s).dom = s.dom ∧ (State.popRecord s).eng = s.eng ∧ (State.popRecord s).start = s.start ∧ (State.popRecord s).est = s.est ∧ (State.popRecord s).bud = s.bud ∧ (State.popRecord s).thm = s.thm ∧ (State.popRecord s).hrd = s.hrd ∧ (State.popRecord s).cmd = s.cmd ∧ (State.popRecord s).boot = s.boot ∧ (State.popRecord s).adc = s.adc ∧ (State.popRecord s).fw = s.fw ∧ (State.popRecord s).lt = s.lt ∧ (State.popRecord s).pending = s.pending := by
  refine ⟨?_, ?_, ?_, ?_, ?_, ?_, ?_, ?_, ?_, ?_, ?_, ?_, ?_, ?_, ?_, ?_, ?_, ?_, ?_, ?_⟩ <;> (simp (maxDischargeDepth := 60) [State.popRecord, apply_ite Prod.snd])

@[simp] theorem State.popRecord_ok (s : State) (hok : s.fieldsOk) : (State.popRecord s).fieldsOk := by
  simp +contextual (maxDischargeDepth := 60) [State.popRecord, hok, apply_ite Prod.snd]

@[simp] theorem State.showQueue_getF (s : State) (fld : Fld) (itm : Nat) (hw : fld ∉ ([.TLM_STATUS_QUEUED, .TLM_STATUS_RUNNING] : List Fld)) :
    (State.showQueue s).getF fld itm = s.getF fld itm := by
  try simp only [List.mem_cons, not_or, List.not_mem_nil, not_false_eq_true] at hw
  simp (maxDischargeDepth := 60) [State.showQueue, hw, apply_ite Prod.snd]

@[simp] theorem State.showQueue_parts (s : State) :
    (State.showQueue s).time = s.time ∧ (State.showQueue s).cfg = s.cfg ∧ (State.showQueue s).raiseQ = s.raiseQ ∧ (State.showQueue s).out = s.out ∧ (State.showQueue s).freeCtr = s.freeCtr ∧ (State.showQueue s).flt = s.flt ∧ (State.showQueue s).phs = s.phs ∧ (State.showQueue s).dom = s.dom ∧ (State.showQueue s).eng = s.eng ∧ (State.showQueue s).start = s.start ∧ (State.showQueue s).est = s.est ∧ (State.showQueue s).bud = s.bud ∧ (State.showQueue s).thm = s.thm ∧ (State.showQueue s).hrd = s.hrd ∧ (State.showQueue s).tlm = s.tlm ∧ (State.showQueue s).cmd = s.cmd ∧ (State.showQueue s).boot = s.boot ∧ (State.showQueue s).adc = s.adc ∧ (State.showQueue s).fw = s.fw ∧ (State.showQueue s).lt = s.lt ∧ (State.showQueue s).pending = s.pending := by
  refine ⟨?_, ?_, ?_, ?_, ?_, ?_, ?_, ?_, ?_, ?_, ?_, ?_, ?_, ?_, ?_, ?_, ?_, ?_, ?_, ?_, ?_⟩ <;> (simp (maxDischargeDepth := 60) [State.showQueue, apply_ite Prod.snd])

@[simp] theorem State.showQueue_ok (s : State) (hok : s.fieldsOk) : (State.showQueue s).fieldsOk := by
  simp +contextual (maxDischargeDepth := 60) [State.showQueue, hok, apply_ite Prod.snd]

@[simp] theorem State.dropRecord_getF (s : State) (fld : Fld) (itm : Nat) (hw : fld ∉ ([.TLM_EVENT_DROP, .TLM_LOST_LOST] : List Fld)) :
    (State.dropRecord s).getF fld itm = s.getF fld itm := by
  try simp only [List.mem_cons, not_or, List.not_mem_nil, not_false_eq_true] at hw
  simp (maxDischargeDepth := 60) [State.dropRecord, hw, apply_ite Prod.snd]

@[simp] theorem State.dropRecord_parts (s : State) :
    (State.dropRecord s).time = s.time ∧ (State.dropRecord s).cfg = s.cfg ∧ (State.dropRecord s).out = s.out ∧ (State.dropRecord s).freeCtr = s.freeCtr ∧ (State.dropRecord s).flt = s.flt ∧ (State.dropRecord s).phs = s.phs ∧ (State.dropRecord s).dom = s.dom ∧ (State.dropRecord s).eng = s.eng ∧ (State.dropRecord s).start = s.start ∧ (State.dropRecord s).est = s.est ∧ (State.dropRecord s).bud = s.bud ∧ (State.dropRecord s).thm = s.thm ∧ (State.dropRecord s).hrd = s.hrd ∧ (State.dropRecord s).cmd = s.cmd ∧ (State.dropRecord s).boot = s.boot ∧ (State.dropRecord s).adc = s.adc ∧ (State.dropRecord s).fw = s.fw ∧ (State.dropRecord s).lt = s.lt ∧ (State.dropRecord s).pending = s.pending := by
  refine ⟨?_, ?_, ?_, ?_, ?_, ?_, ?_, ?_, ?_, ?_, ?_, ?_, ?_, ?_, ?_, ?_, ?_, ?_, ?_⟩ <;> (simp (maxDischargeDepth := 60) [State.dropRecord, apply_ite Prod.snd])

@[simp] theorem State.dropRecord_ok (s : State) (hok : s.fieldsOk) : (State.dropRecord s).fieldsOk := by
  simp +contextual (maxDischargeDepth := 60) [State.dropRecord, hok, apply_ite Prod.snd]

@[simp] theorem State.queueRecord_getF (r : List Nat × State) (fld : Fld) (itm : Nat) (hw : fld ∉ ([.TLM_EVENT_DROP, .TLM_LOST_LOST] : List Fld)) :
    (State.queueRecord r).getF fld itm = r.2.getF fld itm := by
  try simp only [List.mem_cons, not_or, List.not_mem_nil, not_false_eq_true] at hw
  simp (maxDischargeDepth := 60) [State.queueRecord, hw, apply_ite Prod.snd]

@[simp] theorem State.queueRecord_parts (r : List Nat × State) :
    (State.queueRecord r).time = r.2.time ∧ (State.queueRecord r).cfg = r.2.cfg ∧ (State.queueRecord r).out = r.2.out ∧ (State.queueRecord r).freeCtr = r.2.freeCtr ∧ (State.queueRecord r).flt = r.2.flt ∧ (State.queueRecord r).phs = r.2.phs ∧ (State.queueRecord r).dom = r.2.dom ∧ (State.queueRecord r).eng = r.2.eng ∧ (State.queueRecord r).start = r.2.start ∧ (State.queueRecord r).est = r.2.est ∧ (State.queueRecord r).bud = r.2.bud ∧ (State.queueRecord r).thm = r.2.thm ∧ (State.queueRecord r).hrd = r.2.hrd ∧ (State.queueRecord r).cmd = r.2.cmd ∧ (State.queueRecord r).boot = r.2.boot ∧ (State.queueRecord r).adc = r.2.adc ∧ (State.queueRecord r).fw = r.2.fw ∧ (State.queueRecord r).lt = r.2.lt ∧ (State.queueRecord r).pending = r.2.pending := by
  refine ⟨?_, ?_, ?_, ?_, ?_, ?_, ?_, ?_, ?_, ?_, ?_, ?_, ?_, ?_, ?_, ?_, ?_, ?_, ?_⟩ <;> (simp (maxDischargeDepth := 60) [State.queueRecord, apply_ite Prod.snd])

@[simp] theorem State.queueRecord_ok (r : List Nat × State) (hok : r.2.fieldsOk) : (State.queueRecord r).fieldsOk := by
  simp +contextual (maxDischargeDepth := 60) [State.queueRecord, hok, apply_ite Prod.snd]

@[simp] theorem State.writeEnable_getF (s : State) (on : Bool) (fld : Fld) (itm : Nat) (hw : fld ∉ ([.TLM_CTRL_ENABLE, .TLM_STATUS_BUS_ERR_ST] : List Fld)) :
    (State.writeEnable s on).getF fld itm = s.getF fld itm := by
  try simp only [List.mem_cons, not_or, List.not_mem_nil, not_false_eq_true] at hw
  simp (maxDischargeDepth := 60) [State.writeEnable, hw, apply_ite Prod.snd]

@[simp] theorem State.writeEnable_parts (s : State) (on : Bool) :
    (State.writeEnable s on).time = s.time ∧ (State.writeEnable s on).cfg = s.cfg ∧ (State.writeEnable s on).raiseQ = s.raiseQ ∧ (State.writeEnable s on).out = s.out ∧ (State.writeEnable s on).freeCtr = s.freeCtr ∧ (State.writeEnable s on).flt = s.flt ∧ (State.writeEnable s on).phs = s.phs ∧ (State.writeEnable s on).dom = s.dom ∧ (State.writeEnable s on).eng = s.eng ∧ (State.writeEnable s on).start = s.start ∧ (State.writeEnable s on).est = s.est ∧ (State.writeEnable s on).bud = s.bud ∧ (State.writeEnable s on).thm = s.thm ∧ (State.writeEnable s on).hrd = s.hrd ∧ (State.writeEnable s on).cmd = s.cmd ∧ (State.writeEnable s on).boot = s.boot ∧ (State.writeEnable s on).adc = s.adc ∧ (State.writeEnable s on).fw = s.fw ∧ (State.writeEnable s on).lt = s.lt ∧ (State.writeEnable s on).pending = s.pending := by
  refine ⟨?_, ?_, ?_, ?_, ?_, ?_, ?_, ?_, ?_, ?_, ?_, ?_, ?_, ?_, ?_, ?_, ?_, ?_, ?_, ?_⟩ <;> (simp (maxDischargeDepth := 60) [State.writeEnable, apply_ite Prod.snd])

@[simp] theorem State.writeEnable_ok (s : State) (on : Bool) (hok : s.fieldsOk) : (State.writeEnable s on).fieldsOk := by
  simp +contextual (maxDischargeDepth := 60) [State.writeEnable, hok, apply_ite Prod.snd]

@[simp] theorem State.writeCons_getF (s : State) (v : Nat) (fld : Fld) (itm : Nat) (hw : fld ∉ ([.TLM_CONS_CONS, .TLM_EVENT_CONS_BAD] : List Fld)) :
    (State.writeCons s v).getF fld itm = s.getF fld itm := by
  try simp only [List.mem_cons, not_or, List.not_mem_nil, not_false_eq_true] at hw
  simp (maxDischargeDepth := 60) [State.writeCons, hw, apply_ite Prod.snd]

@[simp] theorem State.writeCons_parts (s : State) (v : Nat) :
    (State.writeCons s v).time = s.time ∧ (State.writeCons s v).cfg = s.cfg ∧ (State.writeCons s v).out = s.out ∧ (State.writeCons s v).freeCtr = s.freeCtr ∧ (State.writeCons s v).flt = s.flt ∧ (State.writeCons s v).phs = s.phs ∧ (State.writeCons s v).dom = s.dom ∧ (State.writeCons s v).eng = s.eng ∧ (State.writeCons s v).start = s.start ∧ (State.writeCons s v).est = s.est ∧ (State.writeCons s v).bud = s.bud ∧ (State.writeCons s v).thm = s.thm ∧ (State.writeCons s v).hrd = s.hrd ∧ (State.writeCons s v).tlm = s.tlm ∧ (State.writeCons s v).cmd = s.cmd ∧ (State.writeCons s v).boot = s.boot ∧ (State.writeCons s v).adc = s.adc ∧ (State.writeCons s v).fw = s.fw ∧ (State.writeCons s v).lt = s.lt ∧ (State.writeCons s v).pending = s.pending := by
  refine ⟨?_, ?_, ?_, ?_, ?_, ?_, ?_, ?_, ?_, ?_, ?_, ?_, ?_, ?_, ?_, ?_, ?_, ?_, ?_, ?_⟩ <;> (simp (maxDischargeDepth := 60) [State.writeCons, apply_ite Prod.snd])

@[simp] theorem State.writeCons_ok (s : State) (v : Nat) (hok : s.fieldsOk) : (State.writeCons s v).fieldsOk := by
  simp +contextual (maxDischargeDepth := 60) [State.writeCons, hok, apply_ite Prod.snd]

@[simp] theorem State.capGo_getF (s : State) (st : Nat) (fld : Fld) (itm : Nat) (hw : fld ∉ ([.TLM_CAP_STATUS_STATE] : List Fld)) :
    (State.capGo s st).getF fld itm = s.getF fld itm := by
  try simp only [List.mem_cons, not_or, List.not_mem_nil, not_false_eq_true] at hw
  simp (maxDischargeDepth := 60) [State.capGo, hw, apply_ite Prod.snd]

@[simp] theorem State.capGo_parts (s : State) (st : Nat) :
    (State.capGo s st).time = s.time ∧ (State.capGo s st).cfg = s.cfg ∧ (State.capGo s st).raiseQ = s.raiseQ ∧ (State.capGo s st).out = s.out ∧ (State.capGo s st).freeCtr = s.freeCtr ∧ (State.capGo s st).flt = s.flt ∧ (State.capGo s st).phs = s.phs ∧ (State.capGo s st).dom = s.dom ∧ (State.capGo s st).eng = s.eng ∧ (State.capGo s st).start = s.start ∧ (State.capGo s st).est = s.est ∧ (State.capGo s st).bud = s.bud ∧ (State.capGo s st).thm = s.thm ∧ (State.capGo s st).hrd = s.hrd ∧ (State.capGo s st).tlm = s.tlm ∧ (State.capGo s st).cmd = s.cmd ∧ (State.capGo s st).boot = s.boot ∧ (State.capGo s st).adc = s.adc ∧ (State.capGo s st).fw = s.fw ∧ (State.capGo s st).lt = s.lt ∧ (State.capGo s st).pending = s.pending := by
  refine ⟨?_, ?_, ?_, ?_, ?_, ?_, ?_, ?_, ?_, ?_, ?_, ?_, ?_, ?_, ?_, ?_, ?_, ?_, ?_, ?_, ?_⟩ <;> (simp (maxDischargeDepth := 60) [State.capGo, apply_ite Prod.snd])

@[simp] theorem State.capGo_ok (s : State) (st : Nat) (hok : s.fieldsOk) : (State.capGo s st).fieldsOk := by
  simp +contextual (maxDischargeDepth := 60) [State.capGo, hok, apply_ite Prod.snd]

@[simp] theorem State.setBlocks_getF (s : State) (l : List CapBlock) (fld : Fld) (itm : Nat) (hw : fld ∉ ([.TLM_CAP_STATUS_BLOCKS] : List Fld)) :
    (State.setBlocks s l).getF fld itm = s.getF fld itm := by
  try simp only [List.mem_cons, not_or, List.not_mem_nil, not_false_eq_true] at hw
  simp (maxDischargeDepth := 60) [State.setBlocks, hw, apply_ite Prod.snd]

@[simp] theorem State.setBlocks_parts (s : State) (l : List CapBlock) :
    (State.setBlocks s l).time = s.time ∧ (State.setBlocks s l).cfg = s.cfg ∧ (State.setBlocks s l).raiseQ = s.raiseQ ∧ (State.setBlocks s l).out = s.out ∧ (State.setBlocks s l).freeCtr = s.freeCtr ∧ (State.setBlocks s l).flt = s.flt ∧ (State.setBlocks s l).phs = s.phs ∧ (State.setBlocks s l).dom = s.dom ∧ (State.setBlocks s l).eng = s.eng ∧ (State.setBlocks s l).start = s.start ∧ (State.setBlocks s l).est = s.est ∧ (State.setBlocks s l).bud = s.bud ∧ (State.setBlocks s l).thm = s.thm ∧ (State.setBlocks s l).hrd = s.hrd ∧ (State.setBlocks s l).cmd = s.cmd ∧ (State.setBlocks s l).boot = s.boot ∧ (State.setBlocks s l).adc = s.adc ∧ (State.setBlocks s l).fw = s.fw ∧ (State.setBlocks s l).lt = s.lt ∧ (State.setBlocks s l).pending = s.pending := by
  refine ⟨?_, ?_, ?_, ?_, ?_, ?_, ?_, ?_, ?_, ?_, ?_, ?_, ?_, ?_, ?_, ?_, ?_, ?_, ?_, ?_⟩ <;> (simp (maxDischargeDepth := 60) [State.setBlocks, apply_ite Prod.snd])

@[simp] theorem State.setBlocks_ok (s : State) (l : List CapBlock) (hok : s.fieldsOk) : (State.setBlocks s l).fieldsOk := by
  simp +contextual (maxDischargeDepth := 60) [State.setBlocks, hok, apply_ite Prod.snd]

@[simp] theorem State.capArm_getF (s : State) (fld : Fld) (itm : Nat) (hw : fld ∉ ([.TLM_CAP_CTRL_ARM, .TLM_CAP_STATUS_BLOCKS, .TLM_CAP_STATUS_STATE, .TLM_CAP_STATUS_WRAPPED] : List Fld)) :
    (State.capArm s).getF fld itm = s.getF fld itm := by
  try simp only [List.mem_cons, not_or, List.not_mem_nil, not_false_eq_true] at hw
  simp (maxDischargeDepth := 60) [State.capArm, hw, apply_ite Prod.snd]

@[simp] theorem State.capArm_parts (s : State) :
    (State.capArm s).time = s.time ∧ (State.capArm s).cfg = s.cfg ∧ (State.capArm s).raiseQ = s.raiseQ ∧ (State.capArm s).out = s.out ∧ (State.capArm s).freeCtr = s.freeCtr ∧ (State.capArm s).flt = s.flt ∧ (State.capArm s).phs = s.phs ∧ (State.capArm s).dom = s.dom ∧ (State.capArm s).eng = s.eng ∧ (State.capArm s).start = s.start ∧ (State.capArm s).est = s.est ∧ (State.capArm s).bud = s.bud ∧ (State.capArm s).thm = s.thm ∧ (State.capArm s).hrd = s.hrd ∧ (State.capArm s).cmd = s.cmd ∧ (State.capArm s).boot = s.boot ∧ (State.capArm s).adc = s.adc ∧ (State.capArm s).fw = s.fw ∧ (State.capArm s).lt = s.lt ∧ (State.capArm s).pending = s.pending := by
  refine ⟨?_, ?_, ?_, ?_, ?_, ?_, ?_, ?_, ?_, ?_, ?_, ?_, ?_, ?_, ?_, ?_, ?_, ?_, ?_, ?_⟩ <;> (simp (maxDischargeDepth := 60) [State.capArm, apply_ite Prod.snd])

@[simp] theorem State.capArm_ok (s : State) (hok : s.fieldsOk) : (State.capArm s).fieldsOk := by
  simp +contextual (maxDischargeDepth := 60) [State.capArm, hok, apply_ite Prod.snd]

@[simp] theorem State.capOff_getF (s : State) (fld : Fld) (itm : Nat) (hw : fld ∉ ([.TLM_CAP_CTRL_ARM, .TLM_CAP_STATUS_STATE] : List Fld)) :
    (State.capOff s).getF fld itm = s.getF fld itm := by
  try simp only [List.mem_cons, not_or, List.not_mem_nil, not_false_eq_true] at hw
  simp (maxDischargeDepth := 60) [State.capOff, hw, apply_ite Prod.snd]

@[simp] theorem State.capOff_parts (s : State) :
    (State.capOff s).time = s.time ∧ (State.capOff s).cfg = s.cfg ∧ (State.capOff s).raiseQ = s.raiseQ ∧ (State.capOff s).out = s.out ∧ (State.capOff s).freeCtr = s.freeCtr ∧ (State.capOff s).flt = s.flt ∧ (State.capOff s).phs = s.phs ∧ (State.capOff s).dom = s.dom ∧ (State.capOff s).eng = s.eng ∧ (State.capOff s).start = s.start ∧ (State.capOff s).est = s.est ∧ (State.capOff s).bud = s.bud ∧ (State.capOff s).thm = s.thm ∧ (State.capOff s).hrd = s.hrd ∧ (State.capOff s).tlm = s.tlm ∧ (State.capOff s).cmd = s.cmd ∧ (State.capOff s).boot = s.boot ∧ (State.capOff s).adc = s.adc ∧ (State.capOff s).fw = s.fw ∧ (State.capOff s).lt = s.lt ∧ (State.capOff s).pending = s.pending := by
  refine ⟨?_, ?_, ?_, ?_, ?_, ?_, ?_, ?_, ?_, ?_, ?_, ?_, ?_, ?_, ?_, ?_, ?_, ?_, ?_, ?_, ?_⟩ <;> (simp (maxDischargeDepth := 60) [State.capOff, apply_ite Prod.snd])

@[simp] theorem State.capOff_ok (s : State) (hok : s.fieldsOk) : (State.capOff s).fieldsOk := by
  simp +contextual (maxDischargeDepth := 60) [State.capOff, hok, apply_ite Prod.snd]

@[simp] theorem State.capDisarm_getF (s : State) (fld : Fld) (itm : Nat) (hw : fld ∉ ([.CMD_PART_ID_STATE, .CMD_PART_SLOTS_BUSY, .CMD_PART_SLOTS_NEW, .CRC_EVENT_MISMATCH, .CRC_RESULT_RESULT, .CRC_STATUS_MATCH, .CRC_STATUS_MISMATCH, .CRC_STATUS_MISMATCH_COUNT, .CRC_STATUS_STATE, .CRC_VALUE_VALUE, .TLM_CAP_CTRL_ARM, .TLM_CAP_STATUS_STATE] : List Fld)) :
    (State.capDisarm s).getF fld itm = s.getF fld itm := by
  try simp only [List.mem_cons, not_or, List.not_mem_nil, not_false_eq_true] at hw
  simp (maxDischargeDepth := 60) [State.capDisarm, hw, apply_ite Prod.snd]

@[simp] theorem State.capDisarm_parts (s : State) :
    (State.capDisarm s).time = s.time ∧ (State.capDisarm s).cfg = s.cfg ∧ (State.capDisarm s).raiseQ = s.raiseQ ∧ (State.capDisarm s).freeCtr = s.freeCtr ∧ (State.capDisarm s).flt = s.flt ∧ (State.capDisarm s).phs = s.phs ∧ (State.capDisarm s).dom = s.dom ∧ (State.capDisarm s).eng = s.eng ∧ (State.capDisarm s).start = s.start ∧ (State.capDisarm s).est = s.est ∧ (State.capDisarm s).bud = s.bud ∧ (State.capDisarm s).thm = s.thm ∧ (State.capDisarm s).hrd = s.hrd ∧ (State.capDisarm s).tlm = s.tlm ∧ (State.capDisarm s).boot = s.boot ∧ (State.capDisarm s).adc = s.adc ∧ (State.capDisarm s).fw = s.fw ∧ (State.capDisarm s).lt = s.lt ∧ (State.capDisarm s).pending = s.pending := by
  refine ⟨?_, ?_, ?_, ?_, ?_, ?_, ?_, ?_, ?_, ?_, ?_, ?_, ?_, ?_, ?_, ?_, ?_, ?_, ?_⟩ <;> (simp (maxDischargeDepth := 60) [State.capDisarm, apply_ite Prod.snd])

@[simp] theorem State.capDisarm_ok (s : State) (hok : s.fieldsOk) : (State.capDisarm s).fieldsOk := by
  simp +contextual (maxDischargeDepth := 60) [State.capDisarm, hok, apply_ite Prod.snd]

@[simp] theorem State.issueDump_getF (s : State) (fld : Fld) (itm : Nat) (hw : fld ∉ ([] : List Fld)) :
    (State.issueDump s).getF fld itm = s.getF fld itm := by
  try simp only [List.mem_cons, not_or, List.not_mem_nil, not_false_eq_true] at hw
  simp (maxDischargeDepth := 60) [State.issueDump, hw, apply_ite Prod.snd]

@[simp] theorem State.issueDump_parts (s : State) :
    (State.issueDump s).time = s.time ∧ (State.issueDump s).cfg = s.cfg ∧ (State.issueDump s).raiseQ = s.raiseQ ∧ (State.issueDump s).out = s.out ∧ (State.issueDump s).freeCtr = s.freeCtr ∧ (State.issueDump s).flt = s.flt ∧ (State.issueDump s).phs = s.phs ∧ (State.issueDump s).dom = s.dom ∧ (State.issueDump s).eng = s.eng ∧ (State.issueDump s).start = s.start ∧ (State.issueDump s).est = s.est ∧ (State.issueDump s).bud = s.bud ∧ (State.issueDump s).thm = s.thm ∧ (State.issueDump s).hrd = s.hrd ∧ (State.issueDump s).cmd = s.cmd ∧ (State.issueDump s).boot = s.boot ∧ (State.issueDump s).adc = s.adc ∧ (State.issueDump s).fw = s.fw ∧ (State.issueDump s).lt = s.lt ∧ (State.issueDump s).pending = s.pending := by
  refine ⟨?_, ?_, ?_, ?_, ?_, ?_, ?_, ?_, ?_, ?_, ?_, ?_, ?_, ?_, ?_, ?_, ?_, ?_, ?_, ?_⟩ <;> (simp (maxDischargeDepth := 60) [State.issueDump, apply_ite Prod.snd])

@[simp] theorem State.issueDump_ok (s : State) (hok : s.fieldsOk) : (State.issueDump s).fieldsOk := by
  simp +contextual (maxDischargeDepth := 60) [State.issueDump, hok, apply_ite Prod.snd]

end Sys2Proof.Machine
end

