-- ==== Sys2Proof/Laws/PartnerOps.lean ====
section
/-! SUPPORT. What each partner operation can do: the fields it may write, the parts of the state it keeps, and that it keeps
the register table in its canonical form. -/

namespace Sys2Proof.Machine
open Host (Outcome)
set_option maxRecDepth 4000
set_option linter.unusedSimpArgs false
set_option linter.unusedVariables false
set_option linter.unreachableTactic false
set_option linter.unusedTactic false

@[simp] theorem State.slotEvent_getF (s : State) (f : Fld) (index init addr : Nat) (fld : Fld) (itm : Nat) (hw : fld ∉ ([f] : List Fld)) :
    (State.slotEvent s f index init addr).getF fld itm = s.getF fld itm := by
  try simp only [List.mem_cons, not_or, List.not_mem_nil, not_false_eq_true] at hw
  simp (maxDischargeDepth := 60) [State.slotEvent, hw, apply_ite Prod.snd]

@[simp] theorem State.slotEvent_parts (s : State) (f : Fld) (index init addr : Nat) :
    (State.slotEvent s f index init addr).time = s.time ∧ (State.slotEvent s f index init addr).cfg = s.cfg ∧ (State.slotEvent s f index init addr).out = s.out ∧ (State.slotEvent s f index init addr).freeCtr = s.freeCtr ∧ (State.slotEvent s f index init addr).flt = s.flt ∧ (State.slotEvent s f index init addr).phs = s.phs ∧ (State.slotEvent s f index init addr).dom = s.dom ∧ (State.slotEvent s f index init addr).eng = s.eng ∧ (State.slotEvent s f index init addr).start = s.start ∧ (State.slotEvent s f index init addr).est = s.est ∧ (State.slotEvent s f index init addr).bud = s.bud ∧ (State.slotEvent s f index init addr).thm = s.thm ∧ (State.slotEvent s f index init addr).hrd = s.hrd ∧ (State.slotEvent s f index init addr).tlm = s.tlm ∧ (State.slotEvent s f index init addr).cmd = s.cmd ∧ (State.slotEvent s f index init addr).boot = s.boot ∧ (State.slotEvent s f index init addr).adc = s.adc ∧ (State.slotEvent s f index init addr).fw = s.fw ∧ (State.slotEvent s f index init addr).lt = s.lt ∧ (State.slotEvent s f index init addr).pending = s.pending := by
  refine ⟨?_, ?_, ?_, ?_, ?_, ?_, ?_, ?_, ?_, ?_, ?_, ?_, ?_, ?_, ?_, ?_, ?_, ?_, ?_, ?_⟩ <;> (simp (maxDischargeDepth := 60) [State.slotEvent, apply_ite Prod.snd])

@[simp] theorem State.slotEvent_ok (s : State) (f : Fld) (index init addr : Nat) (hok : s.fieldsOk) : (State.slotEvent s f index init addr).fieldsOk := by
  simp +contextual (maxDischargeDepth := 60) [State.slotEvent, hok, apply_ite Prod.snd]

@[simp] theorem State.handOver_getF (s : State) (k init : Nat) (fld : Fld) (itm : Nat) (hw : fld ∉ ([.CMD_PART_ID_STATE, .CMD_PART_SLOTS_BUSY, .CMD_PART_SLOTS_NEW, .CRC_EVENT_MISMATCH, .CRC_RESULT_RESULT, .CRC_STATUS_MATCH, .CRC_STATUS_MISMATCH, .CRC_STATUS_MISMATCH_COUNT, .CRC_STATUS_STATE, .CRC_VALUE_VALUE] : List Fld)) :
    (State.handOver s k init).getF fld itm = s.getF fld itm := by
  try simp only [List.mem_cons, not_or, List.not_mem_nil, not_false_eq_true] at hw
  simp (maxDischargeDepth := 60) [State.handOver, hw, apply_ite Prod.snd]

@[simp] theorem State.handOver_parts (s : State) (k init : Nat) :
    (State.handOver s k init).time = s.time ∧ (State.handOver s k init).cfg = s.cfg ∧ (State.handOver s k init).raiseQ = s.raiseQ ∧ (State.handOver s k init).freeCtr = s.freeCtr ∧ (State.handOver s k init).flt = s.flt ∧ (State.handOver s k init).phs = s.phs ∧ (State.handOver s k init).dom = s.dom ∧ (State.handOver s k init).eng = s.eng ∧ (State.handOver s k init).start = s.start ∧ (State.handOver s k init).est = s.est ∧ (State.handOver s k init).bud = s.bud ∧ (State.handOver s k init).thm = s.thm ∧ (State.handOver s k init).hrd = s.hrd ∧ (State.handOver s k init).tlm = s.tlm ∧ (State.handOver s k init).boot = s.boot ∧ (State.handOver s k init).adc = s.adc ∧ (State.handOver s k init).fw = s.fw ∧ (State.handOver s k init).lt = s.lt ∧ (State.handOver s k init).pending = s.pending := by
  refine ⟨?_, ?_, ?_, ?_, ?_, ?_, ?_, ?_, ?_, ?_, ?_, ?_, ?_, ?_, ?_, ?_, ?_, ?_, ?_⟩ <;> (unfold State.handOver; simp only []; (repeat' split) <;> simp (maxDischargeDepth := 60))

@[simp] theorem State.handOver_ok (s : State) (k init : Nat) (hok : s.fieldsOk) : (State.handOver s k init).fieldsOk := by
  simp +contextual (maxDischargeDepth := 60) [State.handOver, hok, apply_ite Prod.snd]

@[simp] theorem State.slotWrite_getF (s : State) (init set slot w v : Nat) (fld : Fld) (itm : Nat) (hw : fld ∉ ([.CMD_EVENT_FOREIGN, .CMD_EVENT_SLOT_BUSY_WR, .CMD_PART_ID_STATE, .CMD_PART_SLOTS_BUSY, .CMD_PART_SLOTS_NEW, .CRC_EVENT_MISMATCH, .CRC_RESULT_RESULT, .CRC_STATUS_MATCH, .CRC_STATUS_MISMATCH, .CRC_STATUS_MISMATCH_COUNT, .CRC_STATUS_STATE, .CRC_VALUE_VALUE] : List Fld)) :
    (State.slotWrite s init set slot w v).getF fld itm = s.getF fld itm := by
  try simp only [List.mem_cons, not_or, List.not_mem_nil, not_false_eq_true] at hw
  simp (maxDischargeDepth := 60) [State.slotWrite, hw, apply_ite Prod.snd]

@[simp] theorem State.slotWrite_parts (s : State) (init set slot w v : Nat) :
    (State.slotWrite s init set slot w v).time = s.time ∧ (State.slotWrite s init set slot w v).cfg = s.cfg ∧ (State.slotWrite s init set slot w v).freeCtr = s.freeCtr ∧ (State.slotWrite s init set slot w v).flt = s.flt ∧ (State.slotWrite s init set slot w v).phs = s.phs ∧ (State.slotWrite s init set slot w v).dom = s.dom ∧ (State.slotWrite s init set slot w v).eng = s.eng ∧ (State.slotWrite s init set slot w v).start = s.start ∧ (State.slotWrite s init set slot w v).est = s.est ∧ (State.slotWrite s init set slot w v).bud = s.bud ∧ (State.slotWrite s init set slot w v).thm = s.thm ∧ (State.slotWrite s init set slot w v).hrd = s.hrd ∧ (State.slotWrite s init set slot w v).tlm = s.tlm ∧ (State.slotWrite s init set slot w v).boot = s.boot ∧ (State.slotWrite s init set slot w v).adc = s.adc ∧ (State.slotWrite s init set slot w v).fw = s.fw ∧ (State.slotWrite s init set slot w v).lt = s.lt ∧ (State.slotWrite s init set slot w v).pending = s.pending := by
  refine ⟨?_, ?_, ?_, ?_, ?_, ?_, ?_, ?_, ?_, ?_, ?_, ?_, ?_, ?_, ?_, ?_, ?_, ?_⟩ <;> (simp (maxDischargeDepth := 60) [State.slotWrite, apply_ite Prod.snd])

@[simp] theorem State.slotWrite_ok (s : State) (init set slot w v : Nat) (hok : s.fieldsOk) : (State.slotWrite s init set slot w v).fieldsOk := by
  simp +contextual (maxDischargeDepth := 60) [State.slotWrite, hok, apply_ite Prod.snd]

@[simp] theorem State.freeRegSlot_getF (s : State) (k : Nat) (fld : Fld) (itm : Nat) (hw : fld ∉ ([] : List Fld)) :
    (State.freeRegSlot s k).getF fld itm = s.getF fld itm := by
  try simp only [List.mem_cons, not_or, List.not_mem_nil, not_false_eq_true] at hw
  simp (maxDischargeDepth := 60) [State.freeRegSlot, hw, apply_ite Prod.snd]

@[simp] theorem State.freeRegSlot_parts (s : State) (k : Nat) :
    (State.freeRegSlot s k).time = s.time ∧ (State.freeRegSlot s k).cfg = s.cfg ∧ (State.freeRegSlot s k).raiseQ = s.raiseQ ∧ (State.freeRegSlot s k).out = s.out ∧ (State.freeRegSlot s k).freeCtr = s.freeCtr ∧ (State.freeRegSlot s k).flt = s.flt ∧ (State.freeRegSlot s k).phs = s.phs ∧ (State.freeRegSlot s k).dom = s.dom ∧ (State.freeRegSlot s k).eng = s.eng ∧ (State.freeRegSlot s k).start = s.start ∧ (State.freeRegSlot s k).est = s.est ∧ (State.freeRegSlot s k).bud = s.bud ∧ (State.freeRegSlot s k).thm = s.thm ∧ (State.freeRegSlot s k).hrd = s.hrd ∧ (State.freeRegSlot s k).tlm = s.tlm ∧ (State.freeRegSlot s k).boot = s.boot ∧ (State.freeRegSlot s k).adc = s.adc ∧ (State.freeRegSlot s k).fw = s.fw ∧ (State.freeRegSlot s k).lt = s.lt ∧ (State.freeRegSlot s k).pending = s.pending := by
  refine ⟨?_, ?_, ?_, ?_, ?_, ?_, ?_, ?_, ?_, ?_, ?_, ?_, ?_, ?_, ?_, ?_, ?_, ?_, ?_, ?_⟩ <;> (simp (maxDischargeDepth := 60) [State.freeRegSlot, apply_ite Prod.snd])

@[simp] theorem State.freeRegSlot_ok (s : State) (k : Nat) (hok : s.fieldsOk) : (State.freeRegSlot s k).fieldsOk := by
  simp +contextual (maxDischargeDepth := 60) [State.freeRegSlot, hok, apply_ite Prod.snd]

@[simp] theorem State.readReply_getF (s : State) (init set slot w : Nat) (fld : Fld) (itm : Nat) (hw : fld ∉ ([.CMD_EVENT_FOREIGN] : List Fld)) :
    (State.readReply s init set slot w).getF fld itm = s.getF fld itm := by
  try simp only [List.mem_cons, not_or, List.not_mem_nil, not_false_eq_true] at hw
  simp (maxDischargeDepth := 60) [State.readReply, hw, apply_ite Prod.snd]

@[simp] theorem State.readReply_parts (s : State) (init set slot w : Nat) :
    (State.readReply s init set slot w).time = s.time ∧ (State.readReply s init set slot w).cfg = s.cfg ∧ (State.readReply s init set slot w).freeCtr = s.freeCtr ∧ (State.readReply s init set slot w).flt = s.flt ∧ (State.readReply s init set slot w).phs = s.phs ∧ (State.readReply s init set slot w).dom = s.dom ∧ (State.readReply s init set slot w).eng = s.eng ∧ (State.readReply s init set slot w).start = s.start ∧ (State.readReply s init set slot w).est = s.est ∧ (State.readReply s init set slot w).bud = s.bud ∧ (State.readReply s init set slot w).thm = s.thm ∧ (State.readReply s init set slot w).hrd = s.hrd ∧ (State.readReply s init set slot w).tlm = s.tlm ∧ (State.readReply s init set slot w).boot = s.boot ∧ (State.readReply s init set slot w).adc = s.adc ∧ (State.readReply s init set slot w).fw = s.fw ∧ (State.readReply s init set slot w).lt = s.lt ∧ (State.readReply s init set slot w).pending = s.pending := by
  refine ⟨?_, ?_, ?_, ?_, ?_, ?_, ?_, ?_, ?_, ?_, ?_, ?_, ?_, ?_, ?_, ?_, ?_, ?_⟩ <;> (simp (maxDischargeDepth := 60) [State.readReply, apply_ite Prod.snd])

@[simp] theorem State.readReply_ok (s : State) (init set slot w : Nat) (hok : s.fieldsOk) : (State.readReply s init set slot w).fieldsOk := by
  unfold State.readReply
  simp only []
  repeat' split
  all_goals simp (maxDischargeDepth := 60) [hok]

@[simp] theorem State.noteShare_getF (s : State) (fresh : Bool) (fld : Fld) (itm : Nat) (hw : fld ∉ ([] : List Fld)) :
    (State.noteShare s fresh).getF fld itm = s.getF fld itm := by
  try simp only [List.mem_cons, not_or, List.not_mem_nil, not_false_eq_true] at hw
  simp (maxDischargeDepth := 60) [State.noteShare, hw, apply_ite Prod.snd]

@[simp] theorem State.noteShare_parts (s : State) (fresh : Bool) :
    (State.noteShare s fresh).time = s.time ∧ (State.noteShare s fresh).cfg = s.cfg ∧ (State.noteShare s fresh).raiseQ = s.raiseQ ∧ (State.noteShare s fresh).out = s.out ∧ (State.noteShare s fresh).freeCtr = s.freeCtr ∧ (State.noteShare s fresh).flt = s.flt ∧ (State.noteShare s fresh).phs = s.phs ∧ (State.noteShare s fresh).dom = s.dom ∧ (State.noteShare s fresh).eng = s.eng ∧ (State.noteShare s fresh).start = s.start ∧ (State.noteShare s fresh).est = s.est ∧ (State.noteShare s fresh).bud = s.bud ∧ (State.noteShare s fresh).thm = s.thm ∧ (State.noteShare s fresh).hrd = s.hrd ∧ (State.noteShare s fresh).tlm = s.tlm ∧ (State.noteShare s fresh).cmd = s.cmd ∧ (State.noteShare s fresh).boot = s.boot ∧ (State.noteShare s fresh).adc = s.adc ∧ (State.noteShare s fresh).lt = s.lt ∧ (State.noteShare s fresh).pending = s.pending := by
  refine ⟨?_, ?_, ?_, ?_, ?_, ?_, ?_, ?_, ?_, ?_, ?_, ?_, ?_, ?_, ?_, ?_, ?_, ?_, ?_, ?_⟩ <;> (simp (maxDischargeDepth := 60) [State.noteShare, apply_ite Prod.snd])

@[simp] theorem State.noteShare_ok (s : State) (fresh : Bool) (hok : s.fieldsOk) : (State.noteShare s fresh).fieldsOk := by
  simp +contextual (maxDischargeDepth := 60) [State.noteShare, hok, apply_ite Prod.snd]

@[simp] theorem State.afterEpoch_parts (s : State) (r : Run) :
    (State.afterEpoch s r).time = s.time ∧ (State.afterEpoch s r).cfg = s.cfg ∧ (State.afterEpoch s r).raiseQ = s.raiseQ ∧ (State.afterEpoch s r).out = s.out ∧ (State.afterEpoch s r).freeCtr = s.freeCtr ∧ (State.afterEpoch s r).flt = s.flt ∧ (State.afterEpoch s r).phs = s.phs ∧ (State.afterEpoch s r).dom = s.dom ∧ (State.afterEpoch s r).eng = s.eng ∧ (State.afterEpoch s r).start = s.start ∧ (State.afterEpoch s r).est = s.est ∧ (State.afterEpoch s r).bud = s.bud ∧ (State.afterEpoch s r).thm = s.thm ∧ (State.afterEpoch s r).hrd = s.hrd ∧ (State.afterEpoch s r).tlm = s.tlm ∧ (State.afterEpoch s r).cmd = s.cmd ∧ (State.afterEpoch s r).boot = s.boot ∧ (State.afterEpoch s r).adc = s.adc ∧ (State.afterEpoch s r).fw = s.fw ∧ (State.afterEpoch s r).lt = s.lt ∧ (State.afterEpoch s r).pending = s.pending := by
  refine ⟨?_, ?_, ?_, ?_, ?_, ?_, ?_, ?_, ?_, ?_, ?_, ?_, ?_, ?_, ?_, ?_, ?_, ?_, ?_, ?_, ?_⟩ <;> (simp (maxDischargeDepth := 60) [State.afterEpoch, apply_ite Prod.snd])

@[simp] theorem State.afterEpoch_ok (s : State) (r : Run) (hok : s.fieldsOk) : (State.afterEpoch s r).fieldsOk := by
  simp +contextual (maxDischargeDepth := 60) [State.afterEpoch, hok, apply_ite Prod.snd]

theorem State.stageEntries_getF (s : State) (init : Nat) (l : List Entry) (t : State) (h : State.stageEntries s init l = some t) (fld : Fld) (itm : Nat) (hw : fld ∉ ([.CMD_STATUS_QUEUED, .CMD_STATUS_STORE_USED] : List Fld)) :
    t.getF fld itm = s.getF fld itm := by
  have hw0 := hw
  try simp only [List.mem_cons, not_or, List.not_mem_nil, not_false_eq_true] at hw
  induction l generalizing s with
  | nil => cases h; rfl
  | cons e r ih =>
    unfold State.stageEntries at h
    split at h
    · rename_i u hu; rw [ih _ h, State.stageEntry_getF _ _ _ _ hu _ _ (by simp [hw])]
    · cases h

theorem State.stageEntries_parts (s : State) (init : Nat) (l : List Entry) (t : State) (h : State.stageEntries s init l = some t) :
    t.time = s.time ∧ t.cfg = s.cfg ∧ t.raiseQ = s.raiseQ ∧ t.out = s.out ∧ t.freeCtr = s.freeCtr ∧ t.flt = s.flt ∧ t.phs = s.phs ∧ t.dom = s.dom ∧ t.eng = s.eng ∧ t.start = s.start ∧ t.est = s.est ∧ t.bud = s.bud ∧ t.thm = s.thm ∧ t.hrd = s.hrd ∧ t.tlm = s.tlm ∧ t.boot = s.boot ∧ t.adc = s.adc ∧ t.fw = s.fw ∧ t.lt = s.lt ∧ t.pending = s.pending := by
  induction l generalizing s with
  | nil => cases h; simp
  | cons e r ih =>
    unfold State.stageEntries at h
    split at h
    · rename_i u hu; have h1 := ih _ h; have h2 := State.stageEntry_parts _ _ _ _ hu; simp [h1, h2]
    · cases h

theorem State.stageEntries_ok (s : State) (init : Nat) (l : List Entry) (t : State) (h : State.stageEntries s init l = some t) (hok : s.fieldsOk) : t.fieldsOk := by
  induction l generalizing s with
  | nil => cases h; exact hok
  | cons e r ih =>
    unfold State.stageEntries at h
    split at h
    · rename_i u hu; exact ih _ h (State.stageEntry_ok _ _ _ _ hu hok)
    · cases h

@[simp] theorem State.claimFields_getF (s : State) (init : Nat) (l : List Entry) (fld : Fld) (itm : Nat) (hw : fld ∉ ([.CMD_STATUS_QUEUED, .CMD_STATUS_STORE_USED] : List Fld)) :
    (State.claimFields s init l).getF fld itm = s.getF fld itm := by
  try simp only [List.mem_cons, not_or, List.not_mem_nil, not_false_eq_true] at hw
  simp (maxDischargeDepth := 60) [State.claimFields, hw, apply_ite Prod.snd]

@[simp] theorem State.claimFields_parts (s : State) (init : Nat) (l : List Entry) :
    (State.claimFields s init l).time = s.time ∧ (State.claimFields s init l).cfg = s.cfg ∧ (State.claimFields s init l).raiseQ = s.raiseQ ∧ (State.claimFields s init l).out = s.out ∧ (State.claimFields s init l).freeCtr = s.freeCtr ∧ (State.claimFields s init l).flt = s.flt ∧ (State.claimFields s init l).phs = s.phs ∧ (State.claimFields s init l).dom = s.dom ∧ (State.claimFields s init l).eng = s.eng ∧ (State.claimFields s init l).start = s.start ∧ (State.claimFields s init l).est = s.est ∧ (State.claimFields s init l).bud = s.bud ∧ (State.claimFields s init l).thm = s.thm ∧ (State.claimFields s init l).hrd = s.hrd ∧ (State.claimFields s init l).tlm = s.tlm ∧ (State.claimFields s init l).boot = s.boot ∧ (State.claimFields s init l).adc = s.adc ∧ (State.claimFields s init l).fw = s.fw ∧ (State.claimFields s init l).lt = s.lt ∧ (State.claimFields s init l).pending = s.pending := by
  refine ⟨?_, ?_, ?_, ?_, ?_, ?_, ?_, ?_, ?_, ?_, ?_, ?_, ?_, ?_, ?_, ?_, ?_, ?_, ?_, ?_⟩ <;> (simp (maxDischargeDepth := 60) [State.claimFields, apply_ite Prod.snd])

@[simp] theorem State.claimFields_ok (s : State) (init : Nat) (l : List Entry) (hok : s.fieldsOk) : (State.claimFields s init l).fieldsOk := by
  simp +contextual (maxDischargeDepth := 60) [State.claimFields, hok, apply_ite Prod.snd]

@[simp] theorem State.cp1Commit_getF (s : State) (fld : Fld) (itm : Nat) (hw : fld ∉ ([.CMD_PART_ID_STATE, .CMD_PART_SLOTS_BUSY, .CMD_PART_SLOTS_NEW, .CMD_RUN_EPOCH, .CMD_RUN_EPOCHS_M1, .CMD_RUN_RETUNE, .CMD_RUN_RUN_ID, .CMD_RUN_STATE, .CMD_STATUS_QUEUED, .CMD_STATUS_STORE_USED, .CRC_EVENT_MISMATCH, .CRC_RESULT_RESULT, .CRC_STATUS_MATCH, .CRC_STATUS_MISMATCH, .CRC_STATUS_MISMATCH_COUNT, .CRC_STATUS_STATE, .CRC_VALUE_VALUE] : List Fld)) :
    (State.cp1Commit s).getF fld itm = s.getF fld itm := by
  try simp only [List.mem_cons, not_or, List.not_mem_nil, not_false_eq_true] at hw
  unfold State.cp1Commit
  simp only []
  split
  · rfl
  · split
    · split
      · rfl
      · simp (maxDischargeDepth := 60) [hw]
    · split
      · simp (maxDischargeDepth := 60) [hw]
      · split
        · rename_i u r hu
          obtain ⟨v, hv, hc⟩ := Option.bind_eq_some_iff.1 hu
          have h2 := State.commitSet_getF _ _ _ _ _ _ _ _ _ hc fld itm (by simp [hw])
          have h3 := State.stageEntries_getF _ _ _ _ hv fld itm (by simp [hw])
          simp (maxDischargeDepth := 60) [h2, h3, hw]
        · rfl

@[simp] theorem State.cp1Commit_parts (s : State) :
    (State.cp1Commit s).time = s.time ∧ (State.cp1Commit s).cfg = s.cfg ∧ (State.cp1Commit s).raiseQ = s.raiseQ ∧ (State.cp1Commit s).freeCtr = s.freeCtr ∧ (State.cp1Commit s).flt = s.flt ∧ (State.cp1Commit s).phs = s.phs ∧ (State.cp1Commit s).dom = s.dom ∧ (State.cp1Commit s).eng = s.eng ∧ (State.cp1Commit s).start = s.start ∧ (State.cp1Commit s).est = s.est ∧ (State.cp1Commit s).bud = s.bud ∧ (State.cp1Commit s).thm = s.thm ∧ (State.cp1Commit s).hrd = s.hrd ∧ (State.cp1Commit s).tlm = s.tlm ∧ (State.cp1Commit s).boot = s.boot ∧ (State.cp1Commit s).adc = s.adc ∧ (State.cp1Commit s).lt = s.lt ∧ (State.cp1Commit s).pending = s.pending := by
  unfold State.cp1Commit
  simp only []
  split
  · simp
  · split
    · split
      · simp
      · simp (maxDischargeDepth := 60)
    · split
      · simp (maxDischargeDepth := 60)
      · split
        · rename_i u r hu
          obtain ⟨v, hv, hc⟩ := Option.bind_eq_some_iff.1 hu
          have h2 := State.commitSet_parts _ _ _ _ _ _ _ _ _ hc
          have h3 := State.stageEntries_parts _ _ _ _ hv
          simp only [] at h2 h3
          simp (maxDischargeDepth := 60) [h2, h3]
        · simp

@[simp] theorem State.cp1Commit_ok (s : State) (hok : s.fieldsOk) : (State.cp1Commit s).fieldsOk := by
  unfold State.cp1Commit
  simp only []
  split
  · exact hok
  · split
    · split
      · exact hok
      · simp (maxDischargeDepth := 60) [hok]
    · split
      · simp (maxDischargeDepth := 60) [hok]
      · split
        · rename_i u r hu
          obtain ⟨v, hv, hc⟩ := Option.bind_eq_some_iff.1 hu
          exact State.commitSet_ok _ _ _ _ _ _ _ _ _ hc (State.stageEntries_ok _ _ _ _ hv (by simp [hok]))
        · exact hok

@[simp] theorem State.withdraw_getF (s : State) (r : Standing) (fld : Fld) (itm : Nat) (hw : fld ∉ ([.CMD_NOTICE0_ARG, .CMD_NOTICE0_TYPE, .CMD_NOTICE1_TIME_LO, .CMD_NOTICE_SEQ_NSEQ, .CMD_PART_ID_STATE, .CMD_PART_SLOTS_BUSY, .CMD_PART_SLOTS_NEW, .CMD_PART_SLOTS_NOTICE_NEW, .CRC_EVENT_MISMATCH, .CRC_RESULT_RESULT, .CRC_STATUS_MATCH, .CRC_STATUS_MISMATCH, .CRC_STATUS_MISMATCH_COUNT, .CRC_STATUS_STATE, .CRC_VALUE_VALUE, .FLT_FEC_ADDR_HI_ADDR_HI, .FLT_FEC_ADDR_LO_ADDR_LO, .FLT_FEC_INFO_CODE, .FLT_FEC_INFO_MASTER, .FLT_FEC_INFO_SUB, .FLT_FEC_INFO_TYPE, .FLT_FEC_INFO_VALID, .FLT_FEC_MORE_MORE, .FLT_FEC_TIME_HI_TIME_HI, .FLT_FEC_TIME_LO_TIME_LO, .GLB_TB_STATUS_HERD_SHARED, .HRD_EVENT_DISBAND, .HRD_EVENT_EXCL_OVF, .HRD_EVENT_EXCL_REQ, .HRD_EVENT_INCOMPLETE, .HRD_EXCL_F_OFF, .HRD_EXCL_STACK_ID, .HRD_EXCL_STATE, .HRD_FREQ_F_GRP, .HRD_FREQ_PEND, .HRD_MEMBERS_EXCL_N, .HRD_MEMBERS_MEMBERS, .HRD_PEND_CHG_SEQ, .HRD_PEND_F_NEW, .HRD_PEND_TICK_HI_CT_HI, .HRD_PEND_TICK_LO_CT_LO, .HRD_PORT_UP, .HRD_STATUS_INCOMPLETE, .HRD_STATUS_IS_ROOT, .HRD_STATUS_LEVEL, .HRD_STATUS_OFFSET_MODE, .HRD_STATUS_PORT_UP, .HRD_STATUS_SLEWING, .HRD_STATUS_STATE, .TLM_CAP_CTRL_ARM, .TLM_CAP_STATUS_STATE, .TLM_CTRL_ENABLE, .TLM_STATUS_BUS_ERR_ST] : List Fld)) :
    (State.withdraw s r).getF fld itm = s.getF fld itm := by
  try simp only [List.mem_cons, not_or, List.not_mem_nil, not_false_eq_true] at hw
  ((unfold State.withdraw); (try simp only []); (repeat' split) <;> (try simp (maxDischargeDepth := 60) [hw, State.when, apply_ite Prod.snd]))

@[simp] theorem State.withdraw_parts (s : State) (r : Standing) :
    (State.withdraw s r).time = s.time ∧ (State.withdraw s r).cfg = s.cfg ∧ (State.withdraw s r).flt = s.flt ∧ (State.withdraw s r).phs = s.phs ∧ (State.withdraw s r).dom = s.dom ∧ (State.withdraw s r).eng = s.eng ∧ (State.withdraw s r).start = s.start ∧ (State.withdraw s r).est = s.est ∧ (State.withdraw s r).bud = s.bud ∧ (State.withdraw s r).thm = s.thm ∧ (State.withdraw s r).boot = s.boot ∧ (State.withdraw s r).adc = s.adc ∧ (State.withdraw s r).lt = s.lt ∧ (State.withdraw s r).pending = s.pending := by
  refine ⟨?_, ?_, ?_, ?_, ?_, ?_, ?_, ?_, ?_, ?_, ?_, ?_, ?_, ?_⟩ <;> ((unfold State.withdraw); (try simp only []); (repeat' split) <;> (try simp (maxDischargeDepth := 60) [State.when, apply_ite Prod.snd]))

@[simp] theorem State.withdraw_ok (s : State) (r : Standing) (hok : s.fieldsOk) : (State.withdraw s r).fieldsOk := by
  ((unfold State.withdraw); (try simp only []); (repeat' split) <;> (try simp +contextual (maxDischargeDepth := 60) [hok, State.when, apply_ite Prod.snd]))

@[simp] theorem State.settleStanding_getF (s : State) (p init : Nat) (keep : Bool) (fld : Fld) (itm : Nat) (hw : fld ∉ ([.CMD_NOTICE0_ARG, .CMD_NOTICE0_TYPE, .CMD_NOTICE1_TIME_LO, .CMD_NOTICE_SEQ_NSEQ, .CMD_PART_ID_STATE, .CMD_PART_SLOTS_BUSY, .CMD_PART_SLOTS_NEW, .CMD_PART_SLOTS_NOTICE_NEW, .CMD_STATUS_QUEUED, .CMD_STATUS_STORE_USED, .CRC_EVENT_MISMATCH, .CRC_RESULT_RESULT, .CRC_STATUS_MATCH, .CRC_STATUS_MISMATCH, .CRC_STATUS_MISMATCH_COUNT, .CRC_STATUS_STATE, .CRC_VALUE_VALUE, .FLT_FEC_ADDR_HI_ADDR_HI, .FLT_FEC_ADDR_LO_ADDR_LO, .FLT_FEC_INFO_CODE, .FLT_FEC_INFO_MASTER, .FLT_FEC_INFO_SUB, .FLT_FEC_INFO_TYPE, .FLT_FEC_INFO_VALID, .FLT_FEC_MORE_MORE, .FLT_FEC_TIME_HI_TIME_HI, .FLT_FEC_TIME_LO_TIME_LO, .GLB_TB_STATUS_HERD_SHARED, .HRD_EVENT_DISBAND, .HRD_EVENT_EXCL_OVF, .HRD_EVENT_EXCL_REQ, .HRD_EVENT_INCOMPLETE, .HRD_EXCL_F_OFF, .HRD_EXCL_STACK_ID, .HRD_EXCL_STATE, .HRD_FREQ_F_GRP, .HRD_FREQ_PEND, .HRD_MEMBERS_EXCL_N, .HRD_MEMBERS_MEMBERS, .HRD_PEND_CHG_SEQ, .HRD_PEND_F_NEW, .HRD_PEND_TICK_HI_CT_HI, .HRD_PEND_TICK_LO_CT_LO, .HRD_PORT_UP, .HRD_STATUS_INCOMPLETE, .HRD_STATUS_IS_ROOT, .HRD_STATUS_LEVEL, .HRD_STATUS_OFFSET_MODE, .HRD_STATUS_PORT_UP, .HRD_STATUS_SLEWING, .HRD_STATUS_STATE, .TLM_CAP_CTRL_ARM, .TLM_CAP_STATUS_STATE, .TLM_CTRL_ENABLE, .TLM_STATUS_BUS_ERR_ST] : List Fld)) :
    (State.settleStanding s p init keep).getF fld itm = s.getF fld itm := by
  try simp only [List.mem_cons, not_or, List.not_mem_nil, not_false_eq_true] at hw
  simp (maxDischargeDepth := 60) [State.settleStanding, hw, apply_ite Prod.snd]

@[simp] theorem State.settleStanding_parts (s : State) (p init : Nat) (keep : Bool) :
    (State.settleStanding s p init keep).time = s.time ∧ (State.settleStanding s p init keep).cfg = s.cfg ∧ (State.settleStanding s p init keep).flt = s.flt ∧ (State.settleStanding s p init keep).phs = s.phs ∧ (State.settleStanding s p init keep).dom = s.dom ∧ (State.settleStanding s p init keep).eng = s.eng ∧ (State.settleStanding s p init keep).start = s.start ∧ (State.settleStanding s p init keep).est = s.est ∧ (State.settleStanding s p init keep).bud = s.bud ∧ (State.settleStanding s p init keep).thm = s.thm ∧ (State.settleStanding s p init keep).boot = s.boot ∧ (State.settleStanding s p init keep).adc = s.adc ∧ (State.settleStanding s p init keep).lt = s.lt ∧ (State.settleStanding s p init keep).pending = s.pending := by
  refine ⟨?_, ?_, ?_, ?_, ?_, ?_, ?_, ?_, ?_, ?_, ?_, ?_, ?_, ?_⟩ <;> (simp (maxDischargeDepth := 60) [State.settleStanding, apply_ite Prod.snd])

@[simp] theorem State.settleStanding_ok (s : State) (p init : Nat) (keep : Bool) (hok : s.fieldsOk) : (State.settleStanding s p init keep).fieldsOk := by
  simp +contextual (maxDischargeDepth := 60) [State.settleStanding, hok, apply_ite Prod.snd]

@[simp] theorem State.lpUpdate_getF (s : State) (fld : Fld) (itm : Nat) (hw : fld ∉ ([.ADC_CV_STATUS_PD, .ADC_CV_STATUS_STATE, .ADC_STATUS_LP_ACTIVE] : List Fld)) :
    (State.lpUpdate s).getF fld itm = s.getF fld itm := by
  try simp only [List.mem_cons, not_or, List.not_mem_nil, not_false_eq_true] at hw
  simp (maxDischargeDepth := 60) [State.lpUpdate, hw, apply_ite Prod.snd]

@[simp] theorem State.lpUpdate_parts (s : State) :
    (State.lpUpdate s).time = s.time ∧ (State.lpUpdate s).cfg = s.cfg ∧ (State.lpUpdate s).raiseQ = s.raiseQ ∧ (State.lpUpdate s).out = s.out ∧ (State.lpUpdate s).freeCtr = s.freeCtr ∧ (State.lpUpdate s).flt = s.flt ∧ (State.lpUpdate s).phs = s.phs ∧ (State.lpUpdate s).dom = s.dom ∧ (State.lpUpdate s).eng = s.eng ∧ (State.lpUpdate s).start = s.start ∧ (State.lpUpdate s).est = s.est ∧ (State.lpUpdate s).bud = s.bud ∧ (State.lpUpdate s).thm = s.thm ∧ (State.lpUpdate s).hrd = s.hrd ∧ (State.lpUpdate s).tlm = s.tlm ∧ (State.lpUpdate s).cmd = s.cmd ∧ (State.lpUpdate s).boot = s.boot ∧ (State.lpUpdate s).adc = s.adc ∧ (State.lpUpdate s).fw = s.fw ∧ (State.lpUpdate s).lt = s.lt ∧ (State.lpUpdate s).pending = s.pending := by
  refine ⟨?_, ?_, ?_, ?_, ?_, ?_, ?_, ?_, ?_, ?_, ?_, ?_, ?_, ?_, ?_, ?_, ?_, ?_, ?_, ?_, ?_⟩ <;> (simp (maxDischargeDepth := 60) [State.lpUpdate, apply_ite Prod.snd])

@[simp] theorem State.lpUpdate_ok (s : State) (hok : s.fieldsOk) : (State.lpUpdate s).fieldsOk := by
  simp +contextual (maxDischargeDepth := 60) [State.lpUpdate, hok, apply_ite Prod.snd]

@[simp] theorem State.dropTests_getF (s : State) (pick : Nat → Bool) (fld : Fld) (itm : Nat) (hw : fld ∉ ([.ADC_CV_STATUS_PD, .ADC_CV_STATUS_STATE, .ADC_STATUS_LP_ACTIVE, .GLB_LT_BITS_BITS, .GLB_LT_ERRS_ERRS, .GLB_LT_STAT_LOCKED, .GLB_LT_STAT_STATE] : List Fld)) :
    (State.dropTests s pick).getF fld itm = s.getF fld itm := by
  try simp only [List.mem_cons, not_or, List.not_mem_nil, not_false_eq_true] at hw
  simp (maxDischargeDepth := 60) [State.dropTests, hw, apply_ite Prod.snd]

@[simp] theorem State.dropTests_parts (s : State) (pick : Nat → Bool) :
    (State.dropTests s pick).time = s.time ∧ (State.dropTests s pick).cfg = s.cfg ∧ (State.dropTests s pick).raiseQ = s.raiseQ ∧ (State.dropTests s pick).out = s.out ∧ (State.dropTests s pick).flt = s.flt ∧ (State.dropTests s pick).phs = s.phs ∧ (State.dropTests s pick).dom = s.dom ∧ (State.dropTests s pick).eng = s.eng ∧ (State.dropTests s pick).start = s.start ∧ (State.dropTests s pick).est = s.est ∧ (State.dropTests s pick).bud = s.bud ∧ (State.dropTests s pick).thm = s.thm ∧ (State.dropTests s pick).tlm = s.tlm ∧ (State.dropTests s pick).cmd = s.cmd ∧ (State.dropTests s pick).boot = s.boot ∧ (State.dropTests s pick).adc = s.adc ∧ (State.dropTests s pick).fw = s.fw ∧ (State.dropTests s pick).pending = s.pending := by
  refine ⟨?_, ?_, ?_, ?_, ?_, ?_, ?_, ?_, ?_, ?_, ?_, ?_, ?_, ?_, ?_, ?_, ?_, ?_⟩ <;> (simp (maxDischargeDepth := 60) [State.dropTests, apply_ite Prod.snd])

@[simp] theorem State.dropTests_ok (s : State) (pick : Nat → Bool) (hok : s.fieldsOk) : (State.dropTests s pick).fieldsOk := by
  simp +contextual (maxDischargeDepth := 60) [State.dropTests, hok, apply_ite Prod.snd]

@[simp] theorem State.freeLoader_getF (s : State) (fld : Fld) (itm : Nat) (hw : fld ∉ ([.CRC_LEASE_HELD, .CRC_STATUS_DUTY, .CRC_STATUS_STATE, .CRC_VALUE_VALUE] : List Fld)) :
    (State.freeLoader s).getF fld itm = s.getF fld itm := by
  try simp only [List.mem_cons, not_or, List.not_mem_nil, not_false_eq_true] at hw
  simp (maxDischargeDepth := 60) [State.freeLoader, hw, apply_ite Prod.snd]

@[simp] theorem State.freeLoader_parts (s : State) :
    (State.freeLoader s).time = s.time ∧ (State.freeLoader s).cfg = s.cfg ∧ (State.freeLoader s).raiseQ = s.raiseQ ∧ (State.freeLoader s).out = s.out ∧ (State.freeLoader s).flt = s.flt ∧ (State.freeLoader s).phs = s.phs ∧ (State.freeLoader s).dom = s.dom ∧ (State.freeLoader s).eng = s.eng ∧ (State.freeLoader s).start = s.start ∧ (State.freeLoader s).est = s.est ∧ (State.freeLoader s).bud = s.bud ∧ (State.freeLoader s).thm = s.thm ∧ (State.freeLoader s).hrd = s.hrd ∧ (State.freeLoader s).tlm = s.tlm ∧ (State.freeLoader s).cmd = s.cmd ∧ (State.freeLoader s).boot = s.boot ∧ (State.freeLoader s).adc = s.adc ∧ (State.freeLoader s).fw = s.fw ∧ (State.freeLoader s).lt = s.lt ∧ (State.freeLoader s).pending = s.pending := by
  refine ⟨?_, ?_, ?_, ?_, ?_, ?_, ?_, ?_, ?_, ?_, ?_, ?_, ?_, ?_, ?_, ?_, ?_, ?_, ?_, ?_⟩ <;> (simp (maxDischargeDepth := 60) [State.freeLoader, apply_ite Prod.snd])

@[simp] theorem State.freeLoader_ok (s : State) (hok : s.fieldsOk) : (State.freeLoader s).fieldsOk := by
  simp +contextual (maxDischargeDepth := 60) [State.freeLoader, hok, apply_ite Prod.snd]

@[simp] theorem State.dropLoading_getF (s : State) (fld : Fld) (itm : Nat) (hw : fld ∉ ([.CRC_LEASE_HELD, .CRC_STATUS_DUTY, .CRC_STATUS_STATE, .CRC_VALUE_VALUE, .GLB_FW_IMG_BYTES, .GLB_FW_IMG_STATE, .GLB_FW_LOAD_ACTIVE] : List Fld)) :
    (State.dropLoading s).getF fld itm = s.getF fld itm := by
  try simp only [List.mem_cons, not_or, List.not_mem_nil, not_false_eq_true] at hw
  simp (maxDischargeDepth := 60) [State.dropLoading, hw, apply_ite Prod.snd]

@[simp] theorem State.dropLoading_parts (s : State) :
    (State.dropLoading s).time = s.time ∧ (State.dropLoading s).cfg = s.cfg ∧ (State.dropLoading s).raiseQ = s.raiseQ ∧ (State.dropLoading s).out = s.out ∧ (State.dropLoading s).flt = s.flt ∧ (State.dropLoading s).phs = s.phs ∧ (State.dropLoading s).dom = s.dom ∧ (State.dropLoading s).eng = s.eng ∧ (State.dropLoading s).start = s.start ∧ (State.dropLoading s).est = s.est ∧ (State.dropLoading s).bud = s.bud ∧ (State.dropLoading s).thm = s.thm ∧ (State.dropLoading s).hrd = s.hrd ∧ (State.dropLoading s).tlm = s.tlm ∧ (State.dropLoading s).cmd = s.cmd ∧ (State.dropLoading s).boot = s.boot ∧ (State.dropLoading s).adc = s.adc ∧ (State.dropLoading s).lt = s.lt ∧ (State.dropLoading s).pending = s.pending := by
  refine ⟨?_, ?_, ?_, ?_, ?_, ?_, ?_, ?_, ?_, ?_, ?_, ?_, ?_, ?_, ?_, ?_, ?_, ?_, ?_⟩ <;> (simp (maxDischargeDepth := 60) [State.dropLoading, apply_ite Prod.snd])

@[simp] theorem State.dropLoading_ok (s : State) (hok : s.fieldsOk) : (State.dropLoading s).fieldsOk := by
  simp +contextual (maxDischargeDepth := 60) [State.dropLoading, hok, apply_ite Prod.snd]

@[simp] theorem State.abandonSet_getF (s : State) (p : Nat) (fld : Fld) (itm : Nat) (hw : fld ∉ ([.ADC_CV_STATUS_PD, .ADC_CV_STATUS_STATE, .ADC_STATUS_LP_ACTIVE, .CMD_PART_ID_STATE, .CMD_PART_SLOTS_BUSY, .CMD_PART_SLOTS_NEW, .CRC_EVENT_MISMATCH, .CRC_RESULT_RESULT, .CRC_STATUS_MATCH, .CRC_STATUS_MISMATCH, .CRC_STATUS_MISMATCH_COUNT, .CRC_STATUS_STATE, .CRC_VALUE_VALUE, .GLB_LT_BITS_BITS, .GLB_LT_ERRS_ERRS, .GLB_LT_STAT_LOCKED, .GLB_LT_STAT_STATE] : List Fld)) :
    (State.abandonSet s p).getF fld itm = s.getF fld itm := by
  try simp only [List.mem_cons, not_or, List.not_mem_nil, not_false_eq_true] at hw
  simp (maxDischargeDepth := 60) [State.abandonSet, hw, apply_ite Prod.snd]

@[simp] theorem State.abandonSet_parts (s : State) (p : Nat) :
    (State.abandonSet s p).time = s.time ∧ (State.abandonSet s p).cfg = s.cfg ∧ (State.abandonSet s p).raiseQ = s.raiseQ ∧ (State.abandonSet s p).flt = s.flt ∧ (State.abandonSet s p).phs = s.phs ∧ (State.abandonSet s p).dom = s.dom ∧ (State.abandonSet s p).eng = s.eng ∧ (State.abandonSet s p).start = s.start ∧ (State.abandonSet s p).est = s.est ∧ (State.abandonSet s p).bud = s.bud ∧ (State.abandonSet s p).thm = s.thm ∧ (State.abandonSet s p).tlm = s.tlm ∧ (State.abandonSet s p).boot = s.boot ∧ (State.abandonSet s p).adc = s.adc ∧ (State.abandonSet s p).fw = s.fw ∧ (State.abandonSet s p).pending = s.pending := by
  refine ⟨?_, ?_, ?_, ?_, ?_, ?_, ?_, ?_, ?_, ?_, ?_, ?_, ?_, ?_, ?_, ?_⟩ <;> (simp (maxDischargeDepth := 60) [State.abandonSet, apply_ite Prod.snd])

@[simp] theorem State.abandonSet_ok (s : State) (p : Nat) (hok : s.fieldsOk) : (State.abandonSet s p).fieldsOk := by
  simp +contextual (maxDischargeDepth := 60) [State.abandonSet, hok, apply_ite Prod.snd]

@[simp] theorem State.releaseSet_getF (s : State) (p : Nat) (fld : Fld) (itm : Nat) (hw : fld ∉ ([.ADC_CV_STATUS_PD, .ADC_CV_STATUS_STATE, .ADC_STATUS_LP_ACTIVE, .CMD_NOTICE0_ARG, .CMD_NOTICE0_TYPE, .CMD_NOTICE1_TIME_LO, .CMD_NOTICE_SEQ_NSEQ, .CMD_PART_ID_STATE, .CMD_PART_SLOTS_BUSY, .CMD_PART_SLOTS_NEW, .CMD_PART_SLOTS_NOTICE_NEW, .CMD_STATUS_QUEUED, .CMD_STATUS_STORE_USED, .CRC_EVENT_MISMATCH, .CRC_LEASE_HELD, .CRC_RESULT_RESULT, .CRC_STATUS_DUTY, .CRC_STATUS_MATCH, .CRC_STATUS_MISMATCH, .CRC_STATUS_MISMATCH_COUNT, .CRC_STATUS_STATE, .CRC_VALUE_VALUE, .FLT_FEC_ADDR_HI_ADDR_HI, .FLT_FEC_ADDR_LO_ADDR_LO, .FLT_FEC_INFO_CODE, .FLT_FEC_INFO_MASTER, .FLT_FEC_INFO_SUB, .FLT_FEC_INFO_TYPE, .FLT_FEC_INFO_VALID, .FLT_FEC_MORE_MORE, .FLT_FEC_TIME_HI_TIME_HI, .FLT_FEC_TIME_LO_TIME_LO, .GLB_FW_IMG_BYTES, .GLB_FW_IMG_STATE, .GLB_FW_LOAD_ACTIVE, .GLB_LT_BITS_BITS, .GLB_LT_ERRS_ERRS, .GLB_LT_STAT_LOCKED, .GLB_LT_STAT_STATE, .GLB_TB_STATUS_HERD_SHARED, .HRD_EVENT_DISBAND, .HRD_EVENT_EXCL_OVF, .HRD_EVENT_EXCL_REQ, .HRD_EVENT_INCOMPLETE, .HRD_EXCL_F_OFF, .HRD_EXCL_STACK_ID, .HRD_EXCL_STATE, .HRD_FREQ_F_GRP, .HRD_FREQ_PEND, .HRD_MEMBERS_EXCL_N, .HRD_MEMBERS_MEMBERS, .HRD_PEND_CHG_SEQ, .HRD_PEND_F_NEW, .HRD_PEND_TICK_HI_CT_HI, .HRD_PEND_TICK_LO_CT_LO, .HRD_PORT_UP, .HRD_STATUS_INCOMPLETE, .HRD_STATUS_IS_ROOT, .HRD_STATUS_LEVEL, .HRD_STATUS_OFFSET_MODE, .HRD_STATUS_PORT_UP, .HRD_STATUS_SLEWING, .HRD_STATUS_STATE, .TLM_CAP_CTRL_ARM, .TLM_CAP_STATUS_STATE, .TLM_CTRL_ENABLE, .TLM_STATUS_BUS_ERR_ST] : List Fld)) :
    (State.releaseSet s p).getF fld itm = s.getF fld itm := by
  try simp only [List.mem_cons, not_or, List.not_mem_nil, not_false_eq_true] at hw
  simp (maxDischargeDepth := 60) [State.releaseSet, hw, apply_ite Prod.snd]

@[simp] theorem State.releaseSet_parts (s : State) (p : Nat) :
    (State.releaseSet s p).time = s.time ∧ (State.releaseSet s p).cfg = s.cfg ∧ (State.releaseSet s p).flt = s.flt ∧ (State.releaseSet s p).phs = s.phs ∧ (State.releaseSet s p).dom = s.dom ∧ (State.releaseSet s p).eng = s.eng ∧ (State.releaseSet s p).start = s.start ∧ (State.releaseSet s p).est = s.est ∧ (State.releaseSet s p).bud = s.bud ∧ (State.releaseSet s p).thm = s.thm ∧ (State.releaseSet s p).boot = s.boot ∧ (State.releaseSet s p).adc = s.adc ∧ (State.releaseSet s p).pending = s.pending := by
  refine ⟨?_, ?_, ?_, ?_, ?_, ?_, ?_, ?_, ?_, ?_, ?_, ?_, ?_⟩ <;> (simp (maxDischargeDepth := 60) [State.releaseSet, apply_ite Prod.snd])

@[simp] theorem State.releaseSet_ok (s : State) (p : Nat) (hok : s.fieldsOk) : (State.releaseSet s p).fieldsOk := by
  simp +contextual (maxDischargeDepth := 60) [State.releaseSet, hok, apply_ite Prod.snd]

@[simp] theorem State.showRegistered_getF (s : State) (fld : Fld) (itm : Nat) (hw : fld ∉ ([.CMD_STATUS_REGISTERED] : List Fld)) :
    (State.showRegistered s).getF fld itm = s.getF fld itm := by
  try simp only [List.mem_cons, not_or, List.not_mem_nil, not_false_eq_true] at hw
  simp (maxDischargeDepth := 60) [State.showRegistered, hw, apply_ite Prod.snd]

@[simp] theorem State.showRegistered_parts (s : State) :
    (State.showRegistered s).time = s.time ∧ (State.showRegistered s).cfg = s.cfg ∧ (State.showRegistered s).raiseQ = s.raiseQ ∧ (State.showRegistered s).out = s.out ∧ (State.showRegistered s).freeCtr = s.freeCtr ∧ (State.showRegistered s).flt = s.flt ∧ (State.showRegistered s).phs = s.phs ∧ (State.showRegistered s).dom = s.dom ∧ (State.showRegistered s).eng = s.eng ∧ (State.showRegistered s).start = s.start ∧ (State.showRegistered s).est = s.est ∧ (State.showRegistered s).bud = s.bud ∧ (State.showRegistered s).thm = s.thm ∧ (State.showRegistered s).hrd = s.hrd ∧ (State.showRegistered s).tlm = s.tlm ∧ (State.showRegistered s).cmd = s.cmd ∧ (State.showRegistered s).boot = s.boot ∧ (State.showRegistered s).adc = s.adc ∧ (State.showRegistered s).fw = s.fw ∧ (State.showRegistered s).lt = s.lt ∧ (State.showRegistered s).pending = s.pending := by
  refine ⟨?_, ?_, ?_, ?_, ?_, ?_, ?_, ?_, ?_, ?_, ?_, ?_, ?_, ?_, ?_, ?_, ?_, ?_, ?_, ?_, ?_⟩ <;> (simp (maxDischargeDepth := 60) [State.showRegistered, apply_ite Prod.snd])

@[simp] theorem State.showRegistered_ok (s : State) (hok : s.fieldsOk) : (State.showRegistered s).fieldsOk := by
  simp +contextual (maxDischargeDepth := 60) [State.showRegistered, hok, apply_ite Prod.snd]

@[simp] theorem State.freeSet_getF (s : State) (p : Nat) (fld : Fld) (itm : Nat) (hw : fld ∉ ([.CMD_PART_ID_CLASS, .CMD_PART_ID_FLAGS, .CMD_PART_ID_INITIATOR, .CMD_PART_ID_REG_EPOCH_LO, .CMD_PART_ID_STATE, .CMD_PART_LEASE_LEASE_S, .CMD_STATUS_REGISTERED] : List Fld)) :
    (State.freeSet s p).getF fld itm = s.getF fld itm := by
  try simp only [List.mem_cons, not_or, List.not_mem_nil, not_false_eq_true] at hw
  simp (maxDischargeDepth := 60) [State.freeSet, hw, apply_ite Prod.snd]

@[simp] theorem State.freeSet_parts (s : State) (p : Nat) :
    (State.freeSet s p).time = s.time ∧ (State.freeSet s p).cfg = s.cfg ∧ (State.freeSet s p).raiseQ = s.raiseQ ∧ (State.freeSet s p).out = s.out ∧ (State.freeSet s p).freeCtr = s.freeCtr ∧ (State.freeSet s p).flt = s.flt ∧ (State.freeSet s p).phs = s.phs ∧ (State.freeSet s p).dom = s.dom ∧ (State.freeSet s p).eng = s.eng ∧ (State.freeSet s p).start = s.start ∧ (State.freeSet s p).est = s.est ∧ (State.freeSet s p).bud = s.bud ∧ (State.freeSet s p).thm = s.thm ∧ (State.freeSet s p).hrd = s.hrd ∧ (State.freeSet s p).tlm = s.tlm ∧ (State.freeSet s p).cmd = s.cmd ∧ (State.freeSet s p).boot = s.boot ∧ (State.freeSet s p).adc = s.adc ∧ (State.freeSet s p).fw = s.fw ∧ (State.freeSet s p).lt = s.lt ∧ (State.freeSet s p).pending = s.pending := by
  refine ⟨?_, ?_, ?_, ?_, ?_, ?_, ?_, ?_, ?_, ?_, ?_, ?_, ?_, ?_, ?_, ?_, ?_, ?_, ?_, ?_, ?_⟩ <;> (simp (maxDischargeDepth := 60) [State.freeSet, apply_ite Prod.snd])

@[simp] theorem State.freeSet_ok (s : State) (p : Nat) (hok : s.fieldsOk) : (State.freeSet s p).fieldsOk := by
  simp +contextual (maxDischargeDepth := 60) [State.freeSet, hok, apply_ite Prod.snd]

end Sys2Proof.Machine
end

