-- ==== Sys2Proof/Laws/FaultOps.lean ====
section
/-! SUPPORT. What each fault operation can do: the fields it may write, the parts of the state it keeps, and that it keeps
the register table in its canonical form. -/

namespace Sys2Proof.Machine
open Host (Outcome)
set_option maxRecDepth 4000
set_option linter.unusedSimpArgs false
set_option linter.unusedVariables false
set_option linter.unreachableTactic false
set_option linter.unusedTactic false

@[simp] theorem State.makeRoom_getF (s : State) (fld : Fld) (itm : Nat) (hw : fld ∉ ([.FLT_LOST_LOST] : List Fld)) :
    (State.makeRoom s).getF fld itm = s.getF fld itm := by
  try simp only [List.mem_cons, not_or, List.not_mem_nil, not_false_eq_true] at hw
  ((unfold State.makeRoom); (try simp only []); (repeat' split) <;> (try simp (maxDischargeDepth := 60) [hw, State.when, apply_ite Prod.snd]))

@[simp] theorem State.makeRoom_parts (s : State) :
    (State.makeRoom s).time = s.time ∧ (State.makeRoom s).cfg = s.cfg ∧ (State.makeRoom s).out = s.out ∧ (State.makeRoom s).freeCtr = s.freeCtr ∧ (State.makeRoom s).phs = s.phs ∧ (State.makeRoom s).dom = s.dom ∧ (State.makeRoom s).eng = s.eng ∧ (State.makeRoom s).start = s.start ∧ (State.makeRoom s).est = s.est ∧ (State.makeRoom s).bud = s.bud ∧ (State.makeRoom s).thm = s.thm ∧ (State.makeRoom s).hrd = s.hrd ∧ (State.makeRoom s).tlm = s.tlm ∧ (State.makeRoom s).cmd = s.cmd ∧ (State.makeRoom s).boot = s.boot ∧ (State.makeRoom s).adc = s.adc ∧ (State.makeRoom s).fw = s.fw ∧ (State.makeRoom s).lt = s.lt ∧ (State.makeRoom s).pending = s.pending := by
  refine ⟨?_, ?_, ?_, ?_, ?_, ?_, ?_, ?_, ?_, ?_, ?_, ?_, ?_, ?_, ?_, ?_, ?_, ?_, ?_⟩ <;> ((unfold State.makeRoom); (try simp only []); (repeat' split) <;> (try simp (maxDischargeDepth := 60) [State.when, apply_ite Prod.snd]))

@[simp] theorem State.makeRoom_ok (s : State) (hok : s.fieldsOk) : (State.makeRoom s).fieldsOk := by
  ((unfold State.makeRoom); (try simp only []); (repeat' split) <;> (try simp +contextual (maxDischargeDepth := 60) [hok, State.when, apply_ite Prod.snd]))

@[simp] theorem State.addRecord_getF (s : State) (r : FltRec) (fld : Fld) (itm : Nat) (hw : fld ∉ ([.FLT_LOST_LOST, .FLT_SEQ_NEXT_SEQ] : List Fld)) :
    (State.addRecord s r).getF fld itm = s.getF fld itm := by
  try simp only [List.mem_cons, not_or, List.not_mem_nil, not_false_eq_true] at hw
  simp (maxDischargeDepth := 60) [State.addRecord, hw, apply_ite Prod.snd]

@[simp] theorem State.addRecord_parts (s : State) (r : FltRec) :
    (State.addRecord s r).time = s.time ∧ (State.addRecord s r).cfg = s.cfg ∧ (State.addRecord s r).freeCtr = s.freeCtr ∧ (State.addRecord s r).phs = s.phs ∧ (State.addRecord s r).dom = s.dom ∧ (State.addRecord s r).eng = s.eng ∧ (State.addRecord s r).start = s.start ∧ (State.addRecord s r).est = s.est ∧ (State.addRecord s r).bud = s.bud ∧ (State.addRecord s r).thm = s.thm ∧ (State.addRecord s r).hrd = s.hrd ∧ (State.addRecord s r).tlm = s.tlm ∧ (State.addRecord s r).cmd = s.cmd ∧ (State.addRecord s r).boot = s.boot ∧ (State.addRecord s r).adc = s.adc ∧ (State.addRecord s r).fw = s.fw ∧ (State.addRecord s r).lt = s.lt ∧ (State.addRecord s r).pending = s.pending := by
  refine ⟨?_, ?_, ?_, ?_, ?_, ?_, ?_, ?_, ?_, ?_, ?_, ?_, ?_, ?_, ?_, ?_, ?_, ?_⟩ <;> (simp (maxDischargeDepth := 60) [State.addRecord, apply_ite Prod.snd])

@[simp] theorem State.addRecord_ok (s : State) (r : FltRec) (hok : s.fieldsOk) : (State.addRecord s r).fieldsOk := by
  simp +contextual (maxDischargeDepth := 60) [State.addRecord, hok, apply_ite Prod.snd]

@[simp] theorem State.recordRaise_getF (s : State) (x : Raise) (fec : Bool) (fld : Fld) (itm : Nat) (hw : fld ∉ ([.FLT_LOST_LOST, .FLT_SEQ_NEXT_SEQ] : List Fld)) :
    (State.recordRaise s x fec).getF fld itm = s.getF fld itm := by
  try simp only [List.mem_cons, not_or, List.not_mem_nil, not_false_eq_true] at hw
  ((unfold State.recordRaise); (try simp only []); (repeat' split) <;> (try simp (maxDischargeDepth := 60) [hw, State.when, apply_ite Prod.snd]))

@[simp] theorem State.recordRaise_parts (s : State) (x : Raise) (fec : Bool) :
    (State.recordRaise s x fec).time = s.time ∧ (State.recordRaise s x fec).cfg = s.cfg ∧ (State.recordRaise s x fec).freeCtr = s.freeCtr ∧ (State.recordRaise s x fec).phs = s.phs ∧ (State.recordRaise s x fec).dom = s.dom ∧ (State.recordRaise s x fec).eng = s.eng ∧ (State.recordRaise s x fec).start = s.start ∧ (State.recordRaise s x fec).est = s.est ∧ (State.recordRaise s x fec).bud = s.bud ∧ (State.recordRaise s x fec).thm = s.thm ∧ (State.recordRaise s x fec).hrd = s.hrd ∧ (State.recordRaise s x fec).tlm = s.tlm ∧ (State.recordRaise s x fec).cmd = s.cmd ∧ (State.recordRaise s x fec).boot = s.boot ∧ (State.recordRaise s x fec).adc = s.adc ∧ (State.recordRaise s x fec).fw = s.fw ∧ (State.recordRaise s x fec).lt = s.lt ∧ (State.recordRaise s x fec).pending = s.pending := by
  refine ⟨?_, ?_, ?_, ?_, ?_, ?_, ?_, ?_, ?_, ?_, ?_, ?_, ?_, ?_, ?_, ?_, ?_, ?_⟩ <;> ((unfold State.recordRaise); (try simp only []); (repeat' split) <;> (try simp (maxDischargeDepth := 60) [State.when, apply_ite Prod.snd]))

@[simp] theorem State.recordRaise_ok (s : State) (x : Raise) (fec : Bool) (hok : s.fieldsOk) : (State.recordRaise s x fec).fieldsOk := by
  ((unfold State.recordRaise); (try simp only []); (repeat' split) <;> (try simp +contextual (maxDischargeDepth := 60) [hok, State.when, apply_ite Prod.snd]))

@[simp] theorem State.capture_getF (s : State) (x : Raise) (fld : Fld) (itm : Nat) (hw : fld ∉ ([.FLT_FEC_ADDR_HI_ADDR_HI, .FLT_FEC_ADDR_LO_ADDR_LO, .FLT_FEC_INFO_CODE, .FLT_FEC_INFO_MASTER, .FLT_FEC_INFO_SUB, .FLT_FEC_INFO_TYPE, .FLT_FEC_INFO_VALID, .FLT_FEC_MORE_MORE, .FLT_FEC_TIME_HI_TIME_HI, .FLT_FEC_TIME_LO_TIME_LO] : List Fld)) :
    (State.capture s x).getF fld itm = s.getF fld itm := by
  try simp only [List.mem_cons, not_or, List.not_mem_nil, not_false_eq_true] at hw
  simp (maxDischargeDepth := 60) [State.capture, hw, apply_ite Prod.snd]

@[simp] theorem State.capture_parts (s : State) (x : Raise) :
    (State.capture s x).time = s.time ∧ (State.capture s x).cfg = s.cfg ∧ (State.capture s x).raiseQ = s.raiseQ ∧ (State.capture s x).out = s.out ∧ (State.capture s x).freeCtr = s.freeCtr ∧ (State.capture s x).flt = s.flt ∧ (State.capture s x).phs = s.phs ∧ (State.capture s x).dom = s.dom ∧ (State.capture s x).eng = s.eng ∧ (State.capture s x).start = s.start ∧ (State.capture s x).est = s.est ∧ (State.capture s x).bud = s.bud ∧ (State.capture s x).thm = s.thm ∧ (State.capture s x).hrd = s.hrd ∧ (State.capture s x).tlm = s.tlm ∧ (State.capture s x).cmd = s.cmd ∧ (State.capture s x).boot = s.boot ∧ (State.capture s x).adc = s.adc ∧ (State.capture s x).fw = s.fw ∧ (State.capture s x).lt = s.lt ∧ (State.capture s x).pending = s.pending := by
  refine ⟨?_, ?_, ?_, ?_, ?_, ?_, ?_, ?_, ?_, ?_, ?_, ?_, ?_, ?_, ?_, ?_, ?_, ?_, ?_, ?_, ?_⟩ <;> (simp (maxDischargeDepth := 60) [State.capture, apply_ite Prod.snd])

@[simp] theorem State.capture_ok (s : State) (x : Raise) (hok : s.fieldsOk) : (State.capture s x).fieldsOk := by
  simp +contextual (maxDischargeDepth := 60) [State.capture, hok, apply_ite Prod.snd]

@[simp] theorem State.takeRaise_getF (s : State) (x : Raise) (fld : Fld) (itm : Nat) (hw : fld ∉ ([.FLT_FEC_ADDR_HI_ADDR_HI, .FLT_FEC_ADDR_LO_ADDR_LO, .FLT_FEC_INFO_CODE, .FLT_FEC_INFO_MASTER, .FLT_FEC_INFO_SUB, .FLT_FEC_INFO_TYPE, .FLT_FEC_INFO_VALID, .FLT_FEC_MORE_MORE, .FLT_FEC_TIME_HI_TIME_HI, .FLT_FEC_TIME_LO_TIME_LO, .FLT_LOST_LOST, .FLT_SEQ_NEXT_SEQ, .FLT_SRC_RAISES] : List Fld)) :
    (State.takeRaise s x).getF fld itm = s.getF fld itm := by
  try simp only [List.mem_cons, not_or, List.not_mem_nil, not_false_eq_true] at hw
  simp (maxDischargeDepth := 60) [State.takeRaise, hw, apply_ite Prod.snd]

@[simp] theorem State.takeRaise_parts (s : State) (x : Raise) :
    (State.takeRaise s x).time = s.time ∧ (State.takeRaise s x).cfg = s.cfg ∧ (State.takeRaise s x).freeCtr = s.freeCtr ∧ (State.takeRaise s x).phs = s.phs ∧ (State.takeRaise s x).dom = s.dom ∧ (State.takeRaise s x).eng = s.eng ∧ (State.takeRaise s x).start = s.start ∧ (State.takeRaise s x).est = s.est ∧ (State.takeRaise s x).bud = s.bud ∧ (State.takeRaise s x).thm = s.thm ∧ (State.takeRaise s x).hrd = s.hrd ∧ (State.takeRaise s x).tlm = s.tlm ∧ (State.takeRaise s x).cmd = s.cmd ∧ (State.takeRaise s x).boot = s.boot ∧ (State.takeRaise s x).adc = s.adc ∧ (State.takeRaise s x).fw = s.fw ∧ (State.takeRaise s x).lt = s.lt ∧ (State.takeRaise s x).pending = s.pending := by
  refine ⟨?_, ?_, ?_, ?_, ?_, ?_, ?_, ?_, ?_, ?_, ?_, ?_, ?_, ?_, ?_, ?_, ?_, ?_⟩ <;> (simp (maxDischargeDepth := 60) [State.takeRaise, apply_ite Prod.snd])

@[simp] theorem State.takeRaise_ok (s : State) (x : Raise) (hok : s.fieldsOk) : (State.takeRaise s x).fieldsOk := by
  simp +contextual (maxDischargeDepth := 60) [State.takeRaise, hok, apply_ite Prod.snd]

@[simp] theorem State.setSrc_getF (s : State) (key st : Nat) (fld : Fld) (itm : Nat) (hw : fld ∉ ([.FLT_SRC_STATE, .FLT_STATUS_PAIR_ASSERT, .FLT_STATUS_PAIR_C, .FLT_STATUS_PAIR_T] : List Fld)) :
    (State.setSrc s key st).getF fld itm = s.getF fld itm := by
  try simp only [List.mem_cons, not_or, List.not_mem_nil, not_false_eq_true] at hw
  simp (maxDischargeDepth := 60) [State.setSrc, hw, apply_ite Prod.snd]

@[simp] theorem State.setSrc_parts (s : State) (key st : Nat) :
    (State.setSrc s key st).time = s.time ∧ (State.setSrc s key st).cfg = s.cfg ∧ (State.setSrc s key st).raiseQ = s.raiseQ ∧ (State.setSrc s key st).out = s.out ∧ (State.setSrc s key st).freeCtr = s.freeCtr ∧ (State.setSrc s key st).flt = s.flt ∧ (State.setSrc s key st).phs = s.phs ∧ (State.setSrc s key st).dom = s.dom ∧ (State.setSrc s key st).eng = s.eng ∧ (State.setSrc s key st).start = s.start ∧ (State.setSrc s key st).est = s.est ∧ (State.setSrc s key st).bud = s.bud ∧ (State.setSrc s key st).thm = s.thm ∧ (State.setSrc s key st).hrd = s.hrd ∧ (State.setSrc s key st).tlm = s.tlm ∧ (State.setSrc s key st).cmd = s.cmd ∧ (State.setSrc s key st).boot = s.boot ∧ (State.setSrc s key st).adc = s.adc ∧ (State.setSrc s key st).fw = s.fw ∧ (State.setSrc s key st).lt = s.lt ∧ (State.setSrc s key st).pending = s.pending := by
  refine ⟨?_, ?_, ?_, ?_, ?_, ?_, ?_, ?_, ?_, ?_, ?_, ?_, ?_, ?_, ?_, ?_, ?_, ?_, ?_, ?_, ?_⟩ <;> (simp (maxDischargeDepth := 60) [State.setSrc, apply_ite Prod.snd])

@[simp] theorem State.setSrc_ok (s : State) (key st : Nat) (hok : s.fieldsOk) : (State.setSrc s key st).fieldsOk := by
  simp +contextual (maxDischargeDepth := 60) [State.setSrc, hok, apply_ite Prod.snd]

@[simp] theorem State.quietSrc_getF (s : State) (key : Nat) (fld : Fld) (itm : Nat) (hw : fld ∉ ([.FLT_SRC_STATE, .FLT_STATUS_PAIR_ASSERT, .FLT_STATUS_PAIR_C, .FLT_STATUS_PAIR_T] : List Fld)) :
    (State.quietSrc s key).getF fld itm = s.getF fld itm := by
  try simp only [List.mem_cons, not_or, List.not_mem_nil, not_false_eq_true] at hw
  simp (maxDischargeDepth := 60) [State.quietSrc, hw, apply_ite Prod.snd]

@[simp] theorem State.quietSrc_parts (s : State) (key : Nat) :
    (State.quietSrc s key).time = s.time ∧ (State.quietSrc s key).cfg = s.cfg ∧ (State.quietSrc s key).raiseQ = s.raiseQ ∧ (State.quietSrc s key).out = s.out ∧ (State.quietSrc s key).freeCtr = s.freeCtr ∧ (State.quietSrc s key).phs = s.phs ∧ (State.quietSrc s key).dom = s.dom ∧ (State.quietSrc s key).eng = s.eng ∧ (State.quietSrc s key).start = s.start ∧ (State.quietSrc s key).est = s.est ∧ (State.quietSrc s key).bud = s.bud ∧ (State.quietSrc s key).thm = s.thm ∧ (State.quietSrc s key).hrd = s.hrd ∧ (State.quietSrc s key).tlm = s.tlm ∧ (State.quietSrc s key).cmd = s.cmd ∧ (State.quietSrc s key).boot = s.boot ∧ (State.quietSrc s key).adc = s.adc ∧ (State.quietSrc s key).fw = s.fw ∧ (State.quietSrc s key).lt = s.lt ∧ (State.quietSrc s key).pending = s.pending := by
  refine ⟨?_, ?_, ?_, ?_, ?_, ?_, ?_, ?_, ?_, ?_, ?_, ?_, ?_, ?_, ?_, ?_, ?_, ?_, ?_, ?_⟩ <;> (simp (maxDischargeDepth := 60) [State.quietSrc, apply_ite Prod.snd])

@[simp] theorem State.quietSrc_ok (s : State) (key : Nat) (hok : s.fieldsOk) : (State.quietSrc s key).fieldsOk := by
  simp +contextual (maxDischargeDepth := 60) [State.quietSrc, hok, apply_ite Prod.snd]

@[simp] theorem State.escalate_getF (s : State) (key index : Nat) (recov : Bool) (fld : Fld) (itm : Nat) (hw : fld ∉ ([.FLT_LOST_LOST, .FLT_SEQ_NEXT_SEQ, .FLT_SRC_STATE, .FLT_STATUS_PAIR_ASSERT, .FLT_STATUS_PAIR_C, .FLT_STATUS_PAIR_T] : List Fld)) :
    (State.escalate s key index recov).getF fld itm = s.getF fld itm := by
  try simp only [List.mem_cons, not_or, List.not_mem_nil, not_false_eq_true] at hw
  simp (maxDischargeDepth := 60) [State.escalate, hw, apply_ite Prod.snd]

@[simp] theorem State.escalate_parts (s : State) (key index : Nat) (recov : Bool) :
    (State.escalate s key index recov).time = s.time ∧ (State.escalate s key index recov).cfg = s.cfg ∧ (State.escalate s key index recov).freeCtr = s.freeCtr ∧ (State.escalate s key index recov).phs = s.phs ∧ (State.escalate s key index recov).dom = s.dom ∧ (State.escalate s key index recov).eng = s.eng ∧ (State.escalate s key index recov).start = s.start ∧ (State.escalate s key index recov).est = s.est ∧ (State.escalate s key index recov).bud = s.bud ∧ (State.escalate s key index recov).thm = s.thm ∧ (State.escalate s key index recov).hrd = s.hrd ∧ (State.escalate s key index recov).tlm = s.tlm ∧ (State.escalate s key index recov).cmd = s.cmd ∧ (State.escalate s key index recov).boot = s.boot ∧ (State.escalate s key index recov).adc = s.adc ∧ (State.escalate s key index recov).fw = s.fw ∧ (State.escalate s key index recov).lt = s.lt ∧ (State.escalate s key index recov).pending = s.pending := by
  refine ⟨?_, ?_, ?_, ?_, ?_, ?_, ?_, ?_, ?_, ?_, ?_, ?_, ?_, ?_, ?_, ?_, ?_, ?_⟩ <;> (simp (maxDischargeDepth := 60) [State.escalate, apply_ite Prod.snd])

@[simp] theorem State.escalate_ok (s : State) (key index : Nat) (recov : Bool) (hok : s.fieldsOk) : (State.escalate s key index recov).fieldsOk := by
  simp +contextual (maxDischargeDepth := 60) [State.escalate, hok, apply_ite Prod.snd]

@[simp] theorem State.contained_getF (s : State) (x : Raise) (fld : Fld) (itm : Nat) (hw : fld ∉ ([.FLT_LOST_LOST, .FLT_SEQ_NEXT_SEQ, .FLT_SRC_STATE, .FLT_STATUS_PAIR_ASSERT, .FLT_STATUS_PAIR_C, .FLT_STATUS_PAIR_T] : List Fld)) :
    (State.contained s x).getF fld itm = s.getF fld itm := by
  try simp only [List.mem_cons, not_or, List.not_mem_nil, not_false_eq_true] at hw
  simp (maxDischargeDepth := 60) [State.contained, hw, apply_ite Prod.snd]

@[simp] theorem State.contained_parts (s : State) (x : Raise) :
    (State.contained s x).time = s.time ∧ (State.contained s x).cfg = s.cfg ∧ (State.contained s x).freeCtr = s.freeCtr ∧ (State.contained s x).phs = s.phs ∧ (State.contained s x).dom = s.dom ∧ (State.contained s x).eng = s.eng ∧ (State.contained s x).start = s.start ∧ (State.contained s x).est = s.est ∧ (State.contained s x).bud = s.bud ∧ (State.contained s x).thm = s.thm ∧ (State.contained s x).hrd = s.hrd ∧ (State.contained s x).tlm = s.tlm ∧ (State.contained s x).cmd = s.cmd ∧ (State.contained s x).boot = s.boot ∧ (State.contained s x).adc = s.adc ∧ (State.contained s x).fw = s.fw ∧ (State.contained s x).lt = s.lt ∧ (State.contained s x).pending = s.pending := by
  refine ⟨?_, ?_, ?_, ?_, ?_, ?_, ?_, ?_, ?_, ?_, ?_, ?_, ?_, ?_, ?_, ?_, ?_, ?_⟩ <;> (simp (maxDischargeDepth := 60) [State.contained, apply_ite Prod.snd])

@[simp] theorem State.contained_ok (s : State) (x : Raise) (hok : s.fieldsOk) : (State.contained s x).fieldsOk := by
  simp +contextual (maxDischargeDepth := 60) [State.contained, hok, apply_ite Prod.snd]

@[simp] theorem State.acknowledge_getF (s : State) (key : Nat) (fld : Fld) (itm : Nat) (hw : fld ∉ ([.FLT_SRC_STATE, .FLT_STATUS_PAIR_ASSERT, .FLT_STATUS_PAIR_C, .FLT_STATUS_PAIR_T] : List Fld)) :
    (State.acknowledge s key).getF fld itm = s.getF fld itm := by
  try simp only [List.mem_cons, not_or, List.not_mem_nil, not_false_eq_true] at hw
  simp (maxDischargeDepth := 60) [State.acknowledge, hw, apply_ite Prod.snd]

@[simp] theorem State.acknowledge_parts (s : State) (key : Nat) :
    (State.acknowledge s key).time = s.time ∧ (State.acknowledge s key).cfg = s.cfg ∧ (State.acknowledge s key).raiseQ = s.raiseQ ∧ (State.acknowledge s key).out = s.out ∧ (State.acknowledge s key).freeCtr = s.freeCtr ∧ (State.acknowledge s key).phs = s.phs ∧ (State.acknowledge s key).dom = s.dom ∧ (State.acknowledge s key).eng = s.eng ∧ (State.acknowledge s key).start = s.start ∧ (State.acknowledge s key).est = s.est ∧ (State.acknowledge s key).bud = s.bud ∧ (State.acknowledge s key).thm = s.thm ∧ (State.acknowledge s key).hrd = s.hrd ∧ (State.acknowledge s key).tlm = s.tlm ∧ (State.acknowledge s key).cmd = s.cmd ∧ (State.acknowledge s key).boot = s.boot ∧ (State.acknowledge s key).adc = s.adc ∧ (State.acknowledge s key).fw = s.fw ∧ (State.acknowledge s key).lt = s.lt ∧ (State.acknowledge s key).pending = s.pending := by
  refine ⟨?_, ?_, ?_, ?_, ?_, ?_, ?_, ?_, ?_, ?_, ?_, ?_, ?_, ?_, ?_, ?_, ?_, ?_, ?_, ?_⟩ <;> (simp (maxDischargeDepth := 60) [State.acknowledge, apply_ite Prod.snd])

@[simp] theorem State.acknowledge_ok (s : State) (key : Nat) (hok : s.fieldsOk) : (State.acknowledge s key).fieldsOk := by
  simp +contextual (maxDischargeDepth := 60) [State.acknowledge, hok, apply_ite Prod.snd]

@[simp] theorem State.fatalDone_getF (s : State) (fld : Fld) (itm : Nat) (hw : fld ∉ ([.ADC_CV_STATUS_PD, .ADC_CV_STATUS_STATE, .ADC_STATUS_LP_ACTIVE, .GLB_BOOT_STATUS_ERR, .GLB_BOOT_STATUS_PWR_OK, .GLB_BOOT_STATUS_STATE] : List Fld)) :
    (State.fatalDone s).getF fld itm = s.getF fld itm := by
  try simp only [List.mem_cons, not_or, List.not_mem_nil, not_false_eq_true] at hw
  simp (maxDischargeDepth := 60) [State.fatalDone, hw, apply_ite Prod.snd]

@[simp] theorem State.fatalDone_parts (s : State) :
    (State.fatalDone s).time = s.time ∧ (State.fatalDone s).cfg = s.cfg ∧ (State.fatalDone s).raiseQ = s.raiseQ ∧ (State.fatalDone s).out = s.out ∧ (State.fatalDone s).freeCtr = s.freeCtr ∧ (State.fatalDone s).phs = s.phs ∧ (State.fatalDone s).dom = s.dom ∧ (State.fatalDone s).eng = s.eng ∧ (State.fatalDone s).start = s.start ∧ (State.fatalDone s).est = s.est ∧ (State.fatalDone s).bud = s.bud ∧ (State.fatalDone s).thm = s.thm ∧ (State.fatalDone s).hrd = s.hrd ∧ (State.fatalDone s).tlm = s.tlm ∧ (State.fatalDone s).cmd = s.cmd ∧ (State.fatalDone s).adc = s.adc ∧ (State.fatalDone s).fw = s.fw ∧ (State.fatalDone s).lt = s.lt ∧ (State.fatalDone s).pending = s.pending := by
  refine ⟨?_, ?_, ?_, ?_, ?_, ?_, ?_, ?_, ?_, ?_, ?_, ?_, ?_, ?_, ?_, ?_, ?_, ?_, ?_⟩ <;> (simp (maxDischargeDepth := 60) [State.fatalDone, apply_ite Prod.snd])

@[simp] theorem State.fatalDone_ok (s : State) (hok : s.fieldsOk) : (State.fatalDone s).fieldsOk := by
  simp +contextual (maxDischargeDepth := 60) [State.fatalDone, hok, apply_ite Prod.snd]

@[simp] theorem State.fatalTurn_getF (s : State) (l : List Nat) (fld : Fld) (itm : Nat) (hw : fld ∉ ([.ADC_CV_STATUS_PD, .ADC_CV_STATUS_STATE, .ADC_STATUS_LP_ACTIVE, .CEL_STATUS_SETPT, .CEL_STATUS_STATE, .CE_SLOT_STATUS_SAT, .CMD_NOTICE0_ARG, .CMD_NOTICE0_TYPE, .CMD_NOTICE1_TIME_LO, .CMD_NOTICE_SEQ_NSEQ, .CMD_PART_ID_STATE, .CMD_PART_SLOTS_BUSY, .CMD_PART_SLOTS_NEW, .CMD_PART_SLOTS_NOTICE_NEW, .CRC_EVENT_MISMATCH, .CRC_RESULT_RESULT, .CRC_STATUS_MATCH, .CRC_STATUS_MISMATCH, .CRC_STATUS_MISMATCH_COUNT, .CRC_STATUS_STATE, .CRC_VALUE_VALUE, .DOM_EVENT_DERATE, .DOM_EVENT_FENCE, .DOM_SETPT_VEFF, .DOM_START_STATUS_ARMED, .DOM_START_STATUS_BOOST, .DOM_START_STATUS_PRE_ACTIVE, .DOM_START_STATUS_SLOPE_EFF, .DOM_START_STATUS_WAITING, .DOM_START_STATUS_WAVES, .DOM_STATUS_DROOP_FLOOR, .DOM_STATUS_GATE_CLOSED, .DOM_STATUS_READY, .DOM_STATUS_STATE, .DOM_STATUS_STEP, .DOM_STATUS_WAKE_WAIT, .DOM_WAVE_ID_BARRIER_ID, .DOM_WAVE_ID_ENGINES, .DOM_WAVE_PROG_GRANTED, .DOM_WAVE_PROG_STATE, .DOM_WAVE_PROG_WAVE_ARMED, .FLT_SRC_STATE, .FLT_STATUS_FATAL, .FLT_STATUS_FATAL_CODE, .FLT_STATUS_FATAL_SUB, .FLT_STATUS_PAIR_ASSERT, .FLT_STATUS_PAIR_C, .FLT_STATUS_PAIR_T, .GLB_BOOT_STATUS_ERR, .GLB_BOOT_STATUS_PWR_OK, .GLB_BOOT_STATUS_STATE, .GLB_FW_IL_GROUP, .GLB_FW_IL_SET, .GLB_VSTK_STATUS_CLAMPED, .GLB_VSTK_STATUS_VSTK_CODE, .PHS_GRP_EVENT_LATCHED, .PHS_GRP_REF_VREF, .PHS_GRP_STATUS_STATE, .PHS_GRP_TON_TON_BASE, .PHS_PH_STATUS_PH_STATE, .PHS_PH_STATUS_TRIM] : List Fld)) :
    (State.fatalTurn s l).getF fld itm = s.getF fld itm := by
  try simp only [List.mem_cons, not_or, List.not_mem_nil, not_false_eq_true] at hw
  induction l generalizing s with
  | nil => simp [State.fatalTurn, hw]
  | cons g r ih =>
    unfold State.fatalTurn
    repeat' split
    all_goals simp (maxDischargeDepth := 60) [ih, hw]

@[simp] theorem State.fatalTurn_parts (s : State) (l : List Nat) :
    (State.fatalTurn s l).time = s.time ∧ (State.fatalTurn s l).cfg = s.cfg ∧ (State.fatalTurn s l).thm = s.thm ∧ (State.fatalTurn s l).hrd = s.hrd ∧ (State.fatalTurn s l).adc = s.adc ∧ (State.fatalTurn s l).fw = s.fw ∧ (State.fatalTurn s l).lt = s.lt ∧ (State.fatalTurn s l).pending = s.pending := by
  induction l generalizing s with
  | nil => simp [State.fatalTurn]
  | cons g r ih =>
    unfold State.fatalTurn
    repeat' split
    all_goals simp (maxDischargeDepth := 60) [ih]

@[simp] theorem State.fatalTurn_ok (s : State) (l : List Nat) (hok : s.fieldsOk) : (State.fatalTurn s l).fieldsOk := by
  induction l generalizing s with
  | nil => simp [State.fatalTurn, hok]
  | cons g r ih =>
    unfold State.fatalTurn
    repeat' split
    all_goals simp (maxDischargeDepth := 60) [ih, hok]

@[simp] theorem State.fatalAdvance_getF (s : State) (fld : Fld) (itm : Nat) (hw : fld ∉ ([.ADC_CV_STATUS_PD, .ADC_CV_STATUS_STATE, .ADC_STATUS_LP_ACTIVE, .CEL_STATUS_SETPT, .CEL_STATUS_STATE, .CE_SLOT_STATUS_SAT, .CMD_NOTICE0_ARG, .CMD_NOTICE0_TYPE, .CMD_NOTICE1_TIME_LO, .CMD_NOTICE_SEQ_NSEQ, .CMD_PART_ID_STATE, .CMD_PART_SLOTS_BUSY, .CMD_PART_SLOTS_NEW, .CMD_PART_SLOTS_NOTICE_NEW, .CRC_EVENT_MISMATCH, .CRC_RESULT_RESULT, .CRC_STATUS_MATCH, .CRC_STATUS_MISMATCH, .CRC_STATUS_MISMATCH_COUNT, .CRC_STATUS_STATE, .CRC_VALUE_VALUE, .DOM_EVENT_DERATE, .DOM_EVENT_FENCE, .DOM_SETPT_VEFF, .DOM_START_STATUS_ARMED, .DOM_START_STATUS_BOOST, .DOM_START_STATUS_PRE_ACTIVE, .DOM_START_STATUS_SLOPE_EFF, .DOM_START_STATUS_WAITING, .DOM_START_STATUS_WAVES, .DOM_STATUS_DROOP_FLOOR, .DOM_STATUS_GATE_CLOSED, .DOM_STATUS_READY, .DOM_STATUS_STATE, .DOM_STATUS_STEP, .DOM_STATUS_WAKE_WAIT, .DOM_WAVE_ID_BARRIER_ID, .DOM_WAVE_ID_ENGINES, .DOM_WAVE_PROG_GRANTED, .DOM_WAVE_PROG_STATE, .DOM_WAVE_PROG_WAVE_ARMED, .FLT_SRC_STATE, .FLT_STATUS_FATAL, .FLT_STATUS_FATAL_CODE, .FLT_STATUS_FATAL_SUB, .FLT_STATUS_PAIR_ASSERT, .FLT_STATUS_PAIR_C, .FLT_STATUS_PAIR_T, .GLB_BOOT_STATUS_ERR, .GLB_BOOT_STATUS_PWR_OK, .GLB_BOOT_STATUS_STATE, .GLB_FW_IL_GROUP, .GLB_FW_IL_SET, .GLB_VSTK_STATUS_CLAMPED, .GLB_VSTK_STATUS_VSTK_CODE, .PHS_GRP_EVENT_LATCHED, .PHS_GRP_REF_VREF, .PHS_GRP_STATUS_STATE, .PHS_GRP_TON_TON_BASE, .PHS_PH_STATUS_PH_STATE, .PHS_PH_STATUS_TRIM] : List Fld)) :
    (State.fatalAdvance s).getF fld itm = s.getF fld itm := by
  try simp only [List.mem_cons, not_or, List.not_mem_nil, not_false_eq_true] at hw
  simp (maxDischargeDepth := 60) [State.fatalAdvance, hw, apply_ite Prod.snd]

@[simp] theorem State.fatalAdvance_parts (s : State) :
    (State.fatalAdvance s).time = s.time ∧ (State.fatalAdvance s).cfg = s.cfg ∧ (State.fatalAdvance s).thm = s.thm ∧ (State.fatalAdvance s).hrd = s.hrd ∧ (State.fatalAdvance s).adc = s.adc ∧ (State.fatalAdvance s).fw = s.fw ∧ (State.fatalAdvance s).lt = s.lt ∧ (State.fatalAdvance s).pending = s.pending := by
  refine ⟨?_, ?_, ?_, ?_, ?_, ?_, ?_, ?_⟩ <;> (simp (maxDischargeDepth := 60) [State.fatalAdvance, apply_ite Prod.snd])

@[simp] theorem State.fatalAdvance_ok (s : State) (hok : s.fieldsOk) : (State.fatalAdvance s).fieldsOk := by
  simp +contextual (maxDischargeDepth := 60) [State.fatalAdvance, hok, apply_ite Prod.snd]

@[simp] theorem State.fatal_getF (s : State) (x : Raise) (fld : Fld) (itm : Nat) (hw : fld ∉ ([.ADC_CV_STATUS_PD, .ADC_CV_STATUS_STATE, .ADC_STATUS_LP_ACTIVE, .CEL_STATUS_SETPT, .CEL_STATUS_STATE, .CE_SLOT_STATUS_SAT, .CMD_NOTICE0_ARG, .CMD_NOTICE0_TYPE, .CMD_NOTICE1_TIME_LO, .CMD_NOTICE_SEQ_NSEQ, .CMD_PART_ID_STATE, .CMD_PART_SLOTS_BUSY, .CMD_PART_SLOTS_NEW, .CMD_PART_SLOTS_NOTICE_NEW, .CRC_EVENT_MISMATCH, .CRC_RESULT_RESULT, .CRC_STATUS_MATCH, .CRC_STATUS_MISMATCH, .CRC_STATUS_MISMATCH_COUNT, .CRC_STATUS_STATE, .CRC_VALUE_VALUE, .DOM_EVENT_DERATE, .DOM_EVENT_FENCE, .DOM_SETPT_VEFF, .DOM_START_STATUS_ARMED, .DOM_START_STATUS_BOOST, .DOM_START_STATUS_PRE_ACTIVE, .DOM_START_STATUS_SLOPE_EFF, .DOM_START_STATUS_WAITING, .DOM_START_STATUS_WAVES, .DOM_STATUS_DROOP_FLOOR, .DOM_STATUS_GATE_CLOSED, .DOM_STATUS_READY, .DOM_STATUS_STATE, .DOM_STATUS_STEP, .DOM_STATUS_WAKE_WAIT, .DOM_WAVE_ID_BARRIER_ID, .DOM_WAVE_ID_ENGINES, .DOM_WAVE_PROG_GRANTED, .DOM_WAVE_PROG_STATE, .DOM_WAVE_PROG_WAVE_ARMED, .FLT_SRC_STATE, .FLT_STATUS_FATAL, .FLT_STATUS_FATAL_CODE, .FLT_STATUS_FATAL_SUB, .FLT_STATUS_PAIR_ASSERT, .FLT_STATUS_PAIR_C, .FLT_STATUS_PAIR_T, .GLB_BOOT_STATUS_ERR, .GLB_BOOT_STATUS_PWR_OK, .GLB_BOOT_STATUS_STATE, .GLB_FW_IL_GROUP, .GLB_FW_IL_SET, .GLB_VSTK_STATUS_CLAMPED, .GLB_VSTK_STATUS_VSTK_CODE, .PHS_GRP_EVENT_LATCHED, .PHS_GRP_REF_VREF, .PHS_GRP_STATUS_STATE, .PHS_GRP_TON_TON_BASE, .PHS_PH_STATUS_PH_STATE, .PHS_PH_STATUS_TRIM] : List Fld)) :
    (State.fatal s x).getF fld itm = s.getF fld itm := by
  try simp only [List.mem_cons, not_or, List.not_mem_nil, not_false_eq_true] at hw
  simp (maxDischargeDepth := 60) [State.fatal, hw, apply_ite Prod.snd]

@[simp] theorem State.fatal_parts (s : State) (x : Raise) :
    (State.fatal s x).time = s.time ∧ (State.fatal s x).cfg = s.cfg ∧ (State.fatal s x).thm = s.thm ∧ (State.fatal s x).hrd = s.hrd ∧ (State.fatal s x).adc = s.adc ∧ (State.fatal s x).fw = s.fw ∧ (State.fatal s x).lt = s.lt ∧ (State.fatal s x).pending = s.pending := by
  refine ⟨?_, ?_, ?_, ?_, ?_, ?_, ?_, ?_⟩ <;> (simp (maxDischargeDepth := 60) [State.fatal, apply_ite Prod.snd])

@[simp] theorem State.fatal_ok (s : State) (x : Raise) (hok : s.fieldsOk) : (State.fatal s x).fieldsOk := by
  simp +contextual (maxDischargeDepth := 60) [State.fatal, hok, apply_ite Prod.snd]

@[simp] theorem State.openCells_getF (s : State) (l : List Nat) (fld : Fld) (itm : Nat) (hw : fld ∉ ([.CEL_STATUS_STATE] : List Fld)) :
    (State.openCells s l).getF fld itm = s.getF fld itm := by
  try simp only [List.mem_cons, not_or, List.not_mem_nil, not_false_eq_true] at hw
  simp (maxDischargeDepth := 60) [State.openCells, hw, apply_ite Prod.snd]

@[simp] theorem State.openCells_parts (s : State) (l : List Nat) :
    (State.openCells s l).time = s.time ∧ (State.openCells s l).cfg = s.cfg ∧ (State.openCells s l).raiseQ = s.raiseQ ∧ (State.openCells s l).out = s.out ∧ (State.openCells s l).freeCtr = s.freeCtr ∧ (State.openCells s l).flt = s.flt ∧ (State.openCells s l).phs = s.phs ∧ (State.openCells s l).eng = s.eng ∧ (State.openCells s l).start = s.start ∧ (State.openCells s l).bud = s.bud ∧ (State.openCells s l).thm = s.thm ∧ (State.openCells s l).hrd = s.hrd ∧ (State.openCells s l).tlm = s.tlm ∧ (State.openCells s l).cmd = s.cmd ∧ (State.openCells s l).boot = s.boot ∧ (State.openCells s l).adc = s.adc ∧ (State.openCells s l).fw = s.fw ∧ (State.openCells s l).lt = s.lt ∧ (State.openCells s l).pending = s.pending := by
  refine ⟨?_, ?_, ?_, ?_, ?_, ?_, ?_, ?_, ?_, ?_, ?_, ?_, ?_, ?_, ?_, ?_, ?_, ?_, ?_⟩ <;> (simp (maxDischargeDepth := 60) [State.openCells, apply_ite Prod.snd])

@[simp] theorem State.openCells_ok (s : State) (l : List Nat) (hok : s.fieldsOk) : (State.openCells s l).fieldsOk := by
  simp +contextual (maxDischargeDepth := 60) [State.openCells, hok, apply_ite Prod.snd]

@[simp] theorem State.shutGroup_getF (s : State) (g : Nat) (fld : Fld) (itm : Nat) (hw : fld ∉ ([.ADC_CV_STATUS_PD, .ADC_CV_STATUS_STATE, .ADC_STATUS_LP_ACTIVE, .CEL_STATUS_SETPT, .CEL_STATUS_STATE, .CE_SLOT_STATUS_SAT, .CMD_NOTICE0_ARG, .CMD_NOTICE0_TYPE, .CMD_NOTICE1_TIME_LO, .CMD_NOTICE_SEQ_NSEQ, .CMD_PART_ID_STATE, .CMD_PART_SLOTS_BUSY, .CMD_PART_SLOTS_NEW, .CMD_PART_SLOTS_NOTICE_NEW, .CRC_EVENT_MISMATCH, .CRC_RESULT_RESULT, .CRC_STATUS_MATCH, .CRC_STATUS_MISMATCH, .CRC_STATUS_MISMATCH_COUNT, .CRC_STATUS_STATE, .CRC_VALUE_VALUE, .DOM_EVENT_DERATE, .DOM_EVENT_FENCE, .DOM_SETPT_VEFF, .DOM_START_STATUS_ARMED, .DOM_START_STATUS_BOOST, .DOM_START_STATUS_PRE_ACTIVE, .DOM_START_STATUS_SLOPE_EFF, .DOM_START_STATUS_WAITING, .DOM_START_STATUS_WAVES, .DOM_STATUS_DROOP_FLOOR, .DOM_STATUS_GATE_CLOSED, .DOM_STATUS_READY, .DOM_STATUS_STATE, .DOM_STATUS_STEP, .DOM_STATUS_WAKE_WAIT, .DOM_WAVE_ID_BARRIER_ID, .DOM_WAVE_ID_ENGINES, .DOM_WAVE_PROG_GRANTED, .DOM_WAVE_PROG_STATE, .DOM_WAVE_PROG_WAVE_ARMED, .GLB_BOOT_STATUS_ERR, .GLB_BOOT_STATUS_PWR_OK, .GLB_BOOT_STATUS_STATE, .GLB_FW_IL_GROUP, .GLB_FW_IL_SET, .GLB_VSTK_STATUS_CLAMPED, .GLB_VSTK_STATUS_VSTK_CODE, .PHS_GRP_EVENT_LATCHED, .PHS_GRP_REF_VREF, .PHS_GRP_STATUS_STATE, .PHS_GRP_TON_TON_BASE, .PHS_PH_STATUS_PH_STATE, .PHS_PH_STATUS_TRIM] : List Fld)) :
    (State.shutGroup s g).getF fld itm = s.getF fld itm := by
  try simp only [List.mem_cons, not_or, List.not_mem_nil, not_false_eq_true] at hw
  simp (maxDischargeDepth := 60) [State.shutGroup, hw, apply_ite Prod.snd]

@[simp] theorem State.shutGroup_parts (s : State) (g : Nat) :
    (State.shutGroup s g).time = s.time ∧ (State.shutGroup s g).cfg = s.cfg ∧ (State.shutGroup s g).flt = s.flt ∧ (State.shutGroup s g).thm = s.thm ∧ (State.shutGroup s g).hrd = s.hrd ∧ (State.shutGroup s g).adc = s.adc ∧ (State.shutGroup s g).fw = s.fw ∧ (State.shutGroup s g).lt = s.lt ∧ (State.shutGroup s g).pending = s.pending := by
  refine ⟨?_, ?_, ?_, ?_, ?_, ?_, ?_, ?_, ?_⟩ <;> (simp (maxDischargeDepth := 60) [State.shutGroup, apply_ite Prod.snd])

@[simp] theorem State.shutGroup_ok (s : State) (g : Nat) (hok : s.fieldsOk) : (State.shutGroup s g).fieldsOk := by
  simp +contextual (maxDischargeDepth := 60) [State.shutGroup, hok, apply_ite Prod.snd]

@[simp] theorem State.gooseShuts_getF (s : State) (l : List Nat) (fld : Fld) (itm : Nat) (hw : fld ∉ ([.ADC_CV_STATUS_PD, .ADC_CV_STATUS_STATE, .ADC_STATUS_LP_ACTIVE, .CEL_STATUS_SETPT, .CEL_STATUS_STATE, .CE_SLOT_STATUS_SAT, .CMD_NOTICE0_ARG, .CMD_NOTICE0_TYPE, .CMD_NOTICE1_TIME_LO, .CMD_NOTICE_SEQ_NSEQ, .CMD_PART_ID_STATE, .CMD_PART_SLOTS_BUSY, .CMD_PART_SLOTS_NEW, .CMD_PART_SLOTS_NOTICE_NEW, .CRC_EVENT_MISMATCH, .CRC_RESULT_RESULT, .CRC_STATUS_MATCH, .CRC_STATUS_MISMATCH, .CRC_STATUS_MISMATCH_COUNT, .CRC_STATUS_STATE, .CRC_VALUE_VALUE, .DOM_EVENT_DERATE, .DOM_EVENT_FENCE, .DOM_SETPT_VEFF, .DOM_START_STATUS_ARMED, .DOM_START_STATUS_BOOST, .DOM_START_STATUS_PRE_ACTIVE, .DOM_START_STATUS_SLOPE_EFF, .DOM_START_STATUS_WAITING, .DOM_START_STATUS_WAVES, .DOM_STATUS_DROOP_FLOOR, .DOM_STATUS_GATE_CLOSED, .DOM_STATUS_READY, .DOM_STATUS_STATE, .DOM_STATUS_STEP, .DOM_STATUS_WAKE_WAIT, .DOM_WAVE_ID_BARRIER_ID, .DOM_WAVE_ID_ENGINES, .DOM_WAVE_PROG_GRANTED, .DOM_WAVE_PROG_STATE, .DOM_WAVE_PROG_WAVE_ARMED, .GLB_BOOT_STATUS_ERR, .GLB_BOOT_STATUS_PWR_OK, .GLB_BOOT_STATUS_STATE, .GLB_FW_IL_GROUP, .GLB_FW_IL_SET, .GLB_VSTK_STATUS_CLAMPED, .GLB_VSTK_STATUS_VSTK_CODE, .PHS_GRP_EVENT_LATCHED, .PHS_GRP_REF_VREF, .PHS_GRP_STATUS_STATE, .PHS_GRP_TON_TON_BASE, .PHS_PH_STATUS_PH_STATE, .PHS_PH_STATUS_TRIM] : List Fld)) :
    (State.gooseShuts s l).getF fld itm = s.getF fld itm := by
  try simp only [List.mem_cons, not_or, List.not_mem_nil, not_false_eq_true] at hw
  simp (maxDischargeDepth := 60) [State.gooseShuts, hw, apply_ite Prod.snd]

@[simp] theorem State.gooseShuts_parts (s : State) (l : List Nat) :
    (State.gooseShuts s l).time = s.time ∧ (State.gooseShuts s l).cfg = s.cfg ∧ (State.gooseShuts s l).thm = s.thm ∧ (State.gooseShuts s l).hrd = s.hrd ∧ (State.gooseShuts s l).adc = s.adc ∧ (State.gooseShuts s l).fw = s.fw ∧ (State.gooseShuts s l).lt = s.lt ∧ (State.gooseShuts s l).pending = s.pending := by
  refine ⟨?_, ?_, ?_, ?_, ?_, ?_, ?_, ?_⟩ <;> (simp (maxDischargeDepth := 60) [State.gooseShuts, apply_ite Prod.snd])

@[simp] theorem State.gooseShuts_ok (s : State) (l : List Nat) (hok : s.fieldsOk) : (State.gooseShuts s l).fieldsOk := by
  simp +contextual (maxDischargeDepth := 60) [State.gooseShuts, hok, apply_ite Prod.snd]

@[simp] theorem State.gooseTrip_getF (s : State) (code index : Nat) (fld : Fld) (itm : Nat) (hw : fld ∉ ([.ADC_CV_STATUS_PD, .ADC_CV_STATUS_STATE, .ADC_STATUS_LP_ACTIVE, .CEL_STATUS_SETPT, .CEL_STATUS_STATE, .CE_SLOT_STATUS_SAT, .CMD_NOTICE0_ARG, .CMD_NOTICE0_TYPE, .CMD_NOTICE1_TIME_LO, .CMD_NOTICE_SEQ_NSEQ, .CMD_PART_ID_STATE, .CMD_PART_SLOTS_BUSY, .CMD_PART_SLOTS_NEW, .CMD_PART_SLOTS_NOTICE_NEW, .CRC_EVENT_MISMATCH, .CRC_RESULT_RESULT, .CRC_STATUS_MATCH, .CRC_STATUS_MISMATCH, .CRC_STATUS_MISMATCH_COUNT, .CRC_STATUS_STATE, .CRC_VALUE_VALUE, .DOM_EVENT_DERATE, .DOM_EVENT_FENCE, .DOM_SETPT_VEFF, .DOM_START_STATUS_ARMED, .DOM_START_STATUS_BOOST, .DOM_START_STATUS_PRE_ACTIVE, .DOM_START_STATUS_SLOPE_EFF, .DOM_START_STATUS_WAITING, .DOM_START_STATUS_WAVES, .DOM_STATUS_DROOP_FLOOR, .DOM_STATUS_GATE_CLOSED, .DOM_STATUS_READY, .DOM_STATUS_STATE, .DOM_STATUS_STEP, .DOM_STATUS_WAKE_WAIT, .DOM_WAVE_ID_BARRIER_ID, .DOM_WAVE_ID_ENGINES, .DOM_WAVE_PROG_GRANTED, .DOM_WAVE_PROG_STATE, .DOM_WAVE_PROG_WAVE_ARMED, .FLT_GOOSE_STATUS_CAUSE, .FLT_GOOSE_STATUS_INDEX, .FLT_GOOSE_STATUS_TRIPPED, .FLT_STATUS_GOOSE_FORCE, .FLT_STATUS_PAIR_ASSERT, .FLT_STATUS_PAIR_C, .FLT_STATUS_PAIR_T, .GLB_BOOT_STATUS_ERR, .GLB_BOOT_STATUS_PWR_OK, .GLB_BOOT_STATUS_STATE, .GLB_FW_IL_GROUP, .GLB_FW_IL_SET, .GLB_LT_BITS_BITS, .GLB_LT_ERRS_ERRS, .GLB_LT_STAT_LOCKED, .GLB_LT_STAT_STATE, .GLB_VSTK_STATUS_CLAMPED, .GLB_VSTK_STATUS_VSTK_CODE, .PHS_GRP_EVENT_LATCHED, .PHS_GRP_REF_VREF, .PHS_GRP_STATUS_STATE, .PHS_GRP_TON_TON_BASE, .PHS_PH_STATUS_PH_STATE, .PHS_PH_STATUS_TRIM] : List Fld)) :
    (State.gooseTrip s code index).getF fld itm = s.getF fld itm := by
  try simp only [List.mem_cons, not_or, List.not_mem_nil, not_false_eq_true] at hw
  simp (maxDischargeDepth := 60) [State.gooseTrip, hw, apply_ite Prod.snd]

@[simp] theorem State.gooseTrip_parts (s : State) (code index : Nat) :
    (State.gooseTrip s code index).time = s.time ∧ (State.gooseTrip s code index).cfg = s.cfg ∧ (State.gooseTrip s code index).thm = s.thm ∧ (State.gooseTrip s code index).adc = s.adc ∧ (State.gooseTrip s code index).fw = s.fw ∧ (State.gooseTrip s code index).pending = s.pending := by
  refine ⟨?_, ?_, ?_, ?_, ?_, ?_⟩ <;> (simp (maxDischargeDepth := 60) [State.gooseTrip, apply_ite Prod.snd])

@[simp] theorem State.gooseTrip_ok (s : State) (code index : Nat) (hok : s.fieldsOk) : (State.gooseTrip s code index).fieldsOk := by
  simp +contextual (maxDischargeDepth := 60) [State.gooseTrip, hok, apply_ite Prod.snd]

end Sys2Proof.Machine
end

