-- ==== Sys2Proof/Laws/ThermalOps.lean ====
section
/-! SUPPORT. What each thermal operation can do: the fields it may write, the parts of the state it keeps, and that it keeps
the register table in its canonical form. -/

namespace Sys2Proof.Machine
open Host (Outcome)
set_option maxRecDepth 4000
set_option linter.unusedSimpArgs false
set_option linter.unusedVariables false
set_option linter.unreachableTactic false
set_option linter.unusedTactic false

@[simp] theorem State.setSns_getF (s : State) (x : Nat) (r : SnsState) (fld : Fld) (itm : Nat) (hw : fld ∉ ([] : List Fld)) :
    (State.setSns s x r).getF fld itm = s.getF fld itm := by
  try simp only [List.mem_cons, not_or, List.not_mem_nil, not_false_eq_true] at hw
  simp (maxDischargeDepth := 60) [State.setSns, hw, apply_ite Prod.snd]

@[simp] theorem State.setSns_parts (s : State) (x : Nat) (r : SnsState) :
    (State.setSns s x r).time = s.time ∧ (State.setSns s x r).cfg = s.cfg ∧ (State.setSns s x r).raiseQ = s.raiseQ ∧ (State.setSns s x r).out = s.out ∧ (State.setSns s x r).freeCtr = s.freeCtr ∧ (State.setSns s x r).flt = s.flt ∧ (State.setSns s x r).phs = s.phs ∧ (State.setSns s x r).dom = s.dom ∧ (State.setSns s x r).eng = s.eng ∧ (State.setSns s x r).start = s.start ∧ (State.setSns s x r).est = s.est ∧ (State.setSns s x r).bud = s.bud ∧ (State.setSns s x r).hrd = s.hrd ∧ (State.setSns s x r).tlm = s.tlm ∧ (State.setSns s x r).cmd = s.cmd ∧ (State.setSns s x r).boot = s.boot ∧ (State.setSns s x r).adc = s.adc ∧ (State.setSns s x r).fw = s.fw ∧ (State.setSns s x r).lt = s.lt ∧ (State.setSns s x r).pending = s.pending := by
  refine ⟨?_, ?_, ?_, ?_, ?_, ?_, ?_, ?_, ?_, ?_, ?_, ?_, ?_, ?_, ?_, ?_, ?_, ?_, ?_, ?_⟩ <;> (simp (maxDischargeDepth := 60) [State.setSns, apply_ite Prod.snd])

@[simp] theorem State.setSns_ok (s : State) (x : Nat) (r : SnsState) (hok : s.fieldsOk) : (State.setSns s x r).fieldsOk := by
  simp +contextual (maxDischargeDepth := 60) [State.setSns, hok, apply_ite Prod.snd]

@[simp] theorem State.snsGo_getF (s : State) (x st : Nat) (fld : Fld) (itm : Nat) (hw : fld ∉ ([.THM_SNS_DISAGREE, .THM_SNS_STATE] : List Fld)) :
    (State.snsGo s x st).getF fld itm = s.getF fld itm := by
  try simp only [List.mem_cons, not_or, List.not_mem_nil, not_false_eq_true] at hw
  simp (maxDischargeDepth := 60) [State.snsGo, hw, apply_ite Prod.snd]

@[simp] theorem State.snsGo_parts (s : State) (x st : Nat) :
    (State.snsGo s x st).time = s.time ∧ (State.snsGo s x st).cfg = s.cfg ∧ (State.snsGo s x st).raiseQ = s.raiseQ ∧ (State.snsGo s x st).out = s.out ∧ (State.snsGo s x st).freeCtr = s.freeCtr ∧ (State.snsGo s x st).flt = s.flt ∧ (State.snsGo s x st).phs = s.phs ∧ (State.snsGo s x st).dom = s.dom ∧ (State.snsGo s x st).eng = s.eng ∧ (State.snsGo s x st).start = s.start ∧ (State.snsGo s x st).est = s.est ∧ (State.snsGo s x st).bud = s.bud ∧ (State.snsGo s x st).hrd = s.hrd ∧ (State.snsGo s x st).tlm = s.tlm ∧ (State.snsGo s x st).cmd = s.cmd ∧ (State.snsGo s x st).boot = s.boot ∧ (State.snsGo s x st).adc = s.adc ∧ (State.snsGo s x st).fw = s.fw ∧ (State.snsGo s x st).lt = s.lt ∧ (State.snsGo s x st).pending = s.pending := by
  refine ⟨?_, ?_, ?_, ?_, ?_, ?_, ?_, ?_, ?_, ?_, ?_, ?_, ?_, ?_, ?_, ?_, ?_, ?_, ?_, ?_⟩ <;> (simp (maxDischargeDepth := 60) [State.snsGo, apply_ite Prod.snd])

@[simp] theorem State.snsGo_ok (s : State) (x st : Nat) (hok : s.fieldsOk) : (State.snsGo s x st).fieldsOk := by
  simp +contextual (maxDischargeDepth := 60) [State.snsGo, hok, apply_ite Prod.snd]

@[simp] theorem State.standIn_getF (s : State) (x : Nat) (fld : Fld) (itm : Nat) (hw : fld ∉ ([] : List Fld)) :
    (State.standIn s x).getF fld itm = s.getF fld itm := by
  try simp only [List.mem_cons, not_or, List.not_mem_nil, not_false_eq_true] at hw
  ((unfold State.standIn); (try simp only []); (repeat' split) <;> (try simp (maxDischargeDepth := 60) [hw, State.when, apply_ite Prod.snd]))

@[simp] theorem State.standIn_parts (s : State) (x : Nat) :
    (State.standIn s x).time = s.time ∧ (State.standIn s x).cfg = s.cfg ∧ (State.standIn s x).raiseQ = s.raiseQ ∧ (State.standIn s x).out = s.out ∧ (State.standIn s x).freeCtr = s.freeCtr ∧ (State.standIn s x).flt = s.flt ∧ (State.standIn s x).phs = s.phs ∧ (State.standIn s x).dom = s.dom ∧ (State.standIn s x).eng = s.eng ∧ (State.standIn s x).start = s.start ∧ (State.standIn s x).est = s.est ∧ (State.standIn s x).bud = s.bud ∧ (State.standIn s x).hrd = s.hrd ∧ (State.standIn s x).tlm = s.tlm ∧ (State.standIn s x).cmd = s.cmd ∧ (State.standIn s x).boot = s.boot ∧ (State.standIn s x).adc = s.adc ∧ (State.standIn s x).fw = s.fw ∧ (State.standIn s x).lt = s.lt ∧ (State.standIn s x).pending = s.pending := by
  refine ⟨?_, ?_, ?_, ?_, ?_, ?_, ?_, ?_, ?_, ?_, ?_, ?_, ?_, ?_, ?_, ?_, ?_, ?_, ?_, ?_⟩ <;> ((unfold State.standIn); (try simp only []); (repeat' split) <;> (try simp (maxDischargeDepth := 60) [State.when, apply_ite Prod.snd]))

@[simp] theorem State.standIn_ok (s : State) (x : Nat) (hok : s.fieldsOk) : (State.standIn s x).fieldsOk := by
  ((unfold State.standIn); (try simp only []); (repeat' split) <;> (try simp +contextual (maxDischargeDepth := 60) [hok, State.when, apply_ite Prod.snd]))

@[simp] theorem State.snsBreak_getF (s : State) (x cause : Nat) (fld : Fld) (itm : Nat) (hw : fld ∉ ([.THM_COUNT_BROKEN_COUNT, .THM_EVENT_BROKEN, .THM_SNS_CAUSE, .THM_SNS_DISAGREE, .THM_SNS_STATE] : List Fld)) :
    (State.snsBreak s x cause).getF fld itm = s.getF fld itm := by
  try simp only [List.mem_cons, not_or, List.not_mem_nil, not_false_eq_true] at hw
  simp (maxDischargeDepth := 60) [State.snsBreak, hw, apply_ite Prod.snd]

@[simp] theorem State.snsBreak_parts (s : State) (x cause : Nat) :
    (State.snsBreak s x cause).time = s.time ∧ (State.snsBreak s x cause).cfg = s.cfg ∧ (State.snsBreak s x cause).out = s.out ∧ (State.snsBreak s x cause).freeCtr = s.freeCtr ∧ (State.snsBreak s x cause).flt = s.flt ∧ (State.snsBreak s x cause).phs = s.phs ∧ (State.snsBreak s x cause).dom = s.dom ∧ (State.snsBreak s x cause).eng = s.eng ∧ (State.snsBreak s x cause).start = s.start ∧ (State.snsBreak s x cause).est = s.est ∧ (State.snsBreak s x cause).bud = s.bud ∧ (State.snsBreak s x cause).hrd = s.hrd ∧ (State.snsBreak s x cause).tlm = s.tlm ∧ (State.snsBreak s x cause).cmd = s.cmd ∧ (State.snsBreak s x cause).boot = s.boot ∧ (State.snsBreak s x cause).adc = s.adc ∧ (State.snsBreak s x cause).fw = s.fw ∧ (State.snsBreak s x cause).lt = s.lt ∧ (State.snsBreak s x cause).pending = s.pending := by
  refine ⟨?_, ?_, ?_, ?_, ?_, ?_, ?_, ?_, ?_, ?_, ?_, ?_, ?_, ?_, ?_, ?_, ?_, ?_, ?_⟩ <;> (simp (maxDischargeDepth := 60) [State.snsBreak, apply_ite Prod.snd])

@[simp] theorem State.snsBreak_ok (s : State) (x cause : Nat) (hok : s.fieldsOk) : (State.snsBreak s x cause).fieldsOk := by
  simp +contextual (maxDischargeDepth := 60) [State.snsBreak, hok, apply_ite Prod.snd]

@[simp] theorem State.snsFail_getF (s : State) (x cause : Nat) (fld : Fld) (itm : Nat) (hw : fld ∉ ([.THM_COUNT_BROKEN_COUNT, .THM_EVENT_BROKEN, .THM_SNS_CAUSE, .THM_SNS_DISAGREE, .THM_SNS_STATE] : List Fld)) :
    (State.snsFail s x cause).getF fld itm = s.getF fld itm := by
  try simp only [List.mem_cons, not_or, List.not_mem_nil, not_false_eq_true] at hw
  ((unfold State.snsFail); (try simp only []); (repeat' split) <;> (try simp (maxDischargeDepth := 60) [hw, State.when, apply_ite Prod.snd]))

@[simp] theorem State.snsFail_parts (s : State) (x cause : Nat) :
    (State.snsFail s x cause).time = s.time ∧ (State.snsFail s x cause).cfg = s.cfg ∧ (State.snsFail s x cause).out = s.out ∧ (State.snsFail s x cause).freeCtr = s.freeCtr ∧ (State.snsFail s x cause).flt = s.flt ∧ (State.snsFail s x cause).phs = s.phs ∧ (State.snsFail s x cause).dom = s.dom ∧ (State.snsFail s x cause).eng = s.eng ∧ (State.snsFail s x cause).start = s.start ∧ (State.snsFail s x cause).est = s.est ∧ (State.snsFail s x cause).bud = s.bud ∧ (State.snsFail s x cause).hrd = s.hrd ∧ (State.snsFail s x cause).tlm = s.tlm ∧ (State.snsFail s x cause).cmd = s.cmd ∧ (State.snsFail s x cause).boot = s.boot ∧ (State.snsFail s x cause).adc = s.adc ∧ (State.snsFail s x cause).fw = s.fw ∧ (State.snsFail s x cause).lt = s.lt ∧ (State.snsFail s x cause).pending = s.pending := by
  refine ⟨?_, ?_, ?_, ?_, ?_, ?_, ?_, ?_, ?_, ?_, ?_, ?_, ?_, ?_, ?_, ?_, ?_, ?_, ?_⟩ <;> ((unfold State.snsFail); (try simp only []); (repeat' split) <;> (try simp (maxDischargeDepth := 60) [State.when, apply_ite Prod.snd]))

@[simp] theorem State.snsFail_ok (s : State) (x cause : Nat) (hok : s.fieldsOk) : (State.snsFail s x cause).fieldsOk := by
  ((unfold State.snsFail); (try simp only []); (repeat' split) <;> (try simp +contextual (maxDischargeDepth := 60) [hok, State.when, apply_ite Prod.snd]))

@[simp] theorem State.snsSample_getF (s : State) (x : Nat) (v : Int) (fld : Fld) (itm : Nat) (hw : fld ∉ ([.THM_COUNT_BROKEN_COUNT, .THM_EVENT_BROKEN, .THM_SNS_CAUSE, .THM_SNS_DISAGREE, .THM_SNS_READING, .THM_SNS_STATE] : List Fld)) :
    (State.snsSample s x v).getF fld itm = s.getF fld itm := by
  try simp only [List.mem_cons, not_or, List.not_mem_nil, not_false_eq_true] at hw
  simp (maxDischargeDepth := 60) [State.snsSample, hw, apply_ite Prod.snd]

@[simp] theorem State.snsSample_parts (s : State) (x : Nat) (v : Int) :
    (State.snsSample s x v).time = s.time ∧ (State.snsSample s x v).cfg = s.cfg ∧ (State.snsSample s x v).out = s.out ∧ (State.snsSample s x v).freeCtr = s.freeCtr ∧ (State.snsSample s x v).flt = s.flt ∧ (State.snsSample s x v).phs = s.phs ∧ (State.snsSample s x v).dom = s.dom ∧ (State.snsSample s x v).eng = s.eng ∧ (State.snsSample s x v).start = s.start ∧ (State.snsSample s x v).est = s.est ∧ (State.snsSample s x v).bud = s.bud ∧ (State.snsSample s x v).hrd = s.hrd ∧ (State.snsSample s x v).tlm = s.tlm ∧ (State.snsSample s x v).cmd = s.cmd ∧ (State.snsSample s x v).boot = s.boot ∧ (State.snsSample s x v).adc = s.adc ∧ (State.snsSample s x v).fw = s.fw ∧ (State.snsSample s x v).lt = s.lt ∧ (State.snsSample s x v).pending = s.pending := by
  refine ⟨?_, ?_, ?_, ?_, ?_, ?_, ?_, ?_, ?_, ?_, ?_, ?_, ?_, ?_, ?_, ?_, ?_, ?_, ?_⟩ <;> (simp (maxDischargeDepth := 60) [State.snsSample, apply_ite Prod.snd])

@[simp] theorem State.snsSample_ok (s : State) (x : Nat) (v : Int) (hok : s.fieldsOk) : (State.snsSample s x v).fieldsOk := by
  simp +contextual (maxDischargeDepth := 60) [State.snsSample, hok, apply_ite Prod.snd]

@[simp] theorem State.pairCount_getF (s : State) (x : Nat) (fld : Fld) (itm : Nat) (hw : fld ∉ ([] : List Fld)) :
    (State.pairCount s x).getF fld itm = s.getF fld itm := by
  try simp only [List.mem_cons, not_or, List.not_mem_nil, not_false_eq_true] at hw
  simp (maxDischargeDepth := 60) [State.pairCount, hw, apply_ite Prod.snd]

@[simp] theorem State.pairCount_parts (s : State) (x : Nat) :
    (State.pairCount s x).time = s.time ∧ (State.pairCount s x).cfg = s.cfg ∧ (State.pairCount s x).raiseQ = s.raiseQ ∧ (State.pairCount s x).out = s.out ∧ (State.pairCount s x).freeCtr = s.freeCtr ∧ (State.pairCount s x).flt = s.flt ∧ (State.pairCount s x).phs = s.phs ∧ (State.pairCount s x).dom = s.dom ∧ (State.pairCount s x).eng = s.eng ∧ (State.pairCount s x).start = s.start ∧ (State.pairCount s x).est = s.est ∧ (State.pairCount s x).bud = s.bud ∧ (State.pairCount s x).hrd = s.hrd ∧ (State.pairCount s x).tlm = s.tlm ∧ (State.pairCount s x).cmd = s.cmd ∧ (State.pairCount s x).boot = s.boot ∧ (State.pairCount s x).adc = s.adc ∧ (State.pairCount s x).fw = s.fw ∧ (State.pairCount s x).lt = s.lt ∧ (State.pairCount s x).pending = s.pending := by
  refine ⟨?_, ?_, ?_, ?_, ?_, ?_, ?_, ?_, ?_, ?_, ?_, ?_, ?_, ?_, ?_, ?_, ?_, ?_, ?_, ?_⟩ <;> (simp (maxDischargeDepth := 60) [State.pairCount, apply_ite Prod.snd])

@[simp] theorem State.pairCount_ok (s : State) (x : Nat) (hok : s.fieldsOk) : (State.pairCount s x).fieldsOk := by
  simp +contextual (maxDischargeDepth := 60) [State.pairCount, hok, apply_ite Prod.snd]

@[simp] theorem State.setHot_getF (s : State) (die : Bool) (i : Nat) (r : HotRun) (fld : Fld) (itm : Nat) (hw : fld ∉ ([] : List Fld)) :
    (State.setHot s die i r).getF fld itm = s.getF fld itm := by
  try simp only [List.mem_cons, not_or, List.not_mem_nil, not_false_eq_true] at hw
  simp (maxDischargeDepth := 60) [State.setHot, hw, apply_ite Prod.snd]

@[simp] theorem State.setHot_parts (s : State) (die : Bool) (i : Nat) (r : HotRun) :
    (State.setHot s die i r).time = s.time ∧ (State.setHot s die i r).cfg = s.cfg ∧ (State.setHot s die i r).raiseQ = s.raiseQ ∧ (State.setHot s die i r).out = s.out ∧ (State.setHot s die i r).freeCtr = s.freeCtr ∧ (State.setHot s die i r).flt = s.flt ∧ (State.setHot s die i r).phs = s.phs ∧ (State.setHot s die i r).dom = s.dom ∧ (State.setHot s die i r).eng = s.eng ∧ (State.setHot s die i r).start = s.start ∧ (State.setHot s die i r).est = s.est ∧ (State.setHot s die i r).bud = s.bud ∧ (State.setHot s die i r).hrd = s.hrd ∧ (State.setHot s die i r).tlm = s.tlm ∧ (State.setHot s die i r).cmd = s.cmd ∧ (State.setHot s die i r).boot = s.boot ∧ (State.setHot s die i r).adc = s.adc ∧ (State.setHot s die i r).fw = s.fw ∧ (State.setHot s die i r).lt = s.lt ∧ (State.setHot s die i r).pending = s.pending := by
  refine ⟨?_, ?_, ?_, ?_, ?_, ?_, ?_, ?_, ?_, ?_, ?_, ?_, ?_, ?_, ?_, ?_, ?_, ?_, ?_, ?_⟩ <;> (simp (maxDischargeDepth := 60) [State.setHot, apply_ite Prod.snd])

@[simp] theorem State.setHot_ok (s : State) (die : Bool) (i : Nat) (r : HotRun) (hok : s.fieldsOk) : (State.setHot s die i r).fieldsOk := by
  simp +contextual (maxDischargeDepth := 60) [State.setHot, hok, apply_ite Prod.snd]

@[simp] theorem State.hotDetect_getF (s : State) (die : Bool) (i : Nat) (v : Option Int) (rate : Int) (fld : Fld) (itm : Nat) (hw : fld ∉ ([.GLB_FW_IL_SET, .THM_COUNT_EMERG_COUNT, .THM_COUNT_LIMIT_COUNT, .THM_EVENT_ALARM, .THM_EVENT_EMERG, .THM_EVENT_LIMIT] : List Fld)) :
    (State.hotDetect s die i v rate).getF fld itm = s.getF fld itm := by
  try simp only [List.mem_cons, not_or, List.not_mem_nil, not_false_eq_true] at hw
  simp (maxDischargeDepth := 60) [State.hotDetect, hw, apply_ite Prod.snd]

@[simp] theorem State.hotDetect_parts (s : State) (die : Bool) (i : Nat) (v : Option Int) (rate : Int) :
    (State.hotDetect s die i v rate).time = s.time ∧ (State.hotDetect s die i v rate).cfg = s.cfg ∧ (State.hotDetect s die i v rate).out = s.out ∧ (State.hotDetect s die i v rate).freeCtr = s.freeCtr ∧ (State.hotDetect s die i v rate).flt = s.flt ∧ (State.hotDetect s die i v rate).phs = s.phs ∧ (State.hotDetect s die i v rate).dom = s.dom ∧ (State.hotDetect s die i v rate).eng = s.eng ∧ (State.hotDetect s die i v rate).start = s.start ∧ (State.hotDetect s die i v rate).est = s.est ∧ (State.hotDetect s die i v rate).bud = s.bud ∧ (State.hotDetect s die i v rate).hrd = s.hrd ∧ (State.hotDetect s die i v rate).cmd = s.cmd ∧ (State.hotDetect s die i v rate).boot = s.boot ∧ (State.hotDetect s die i v rate).adc = s.adc ∧ (State.hotDetect s die i v rate).fw = s.fw ∧ (State.hotDetect s die i v rate).lt = s.lt ∧ (State.hotDetect s die i v rate).pending = s.pending := by
  refine ⟨?_, ?_, ?_, ?_, ?_, ?_, ?_, ?_, ?_, ?_, ?_, ?_, ?_, ?_, ?_, ?_, ?_, ?_⟩ <;> (simp (maxDischargeDepth := 60) [State.hotDetect, apply_ite Prod.snd])

@[simp] theorem State.hotDetect_ok (s : State) (die : Bool) (i : Nat) (v : Option Int) (rate : Int) (hok : s.fieldsOk) : (State.hotDetect s die i v rate).fieldsOk := by
  simp +contextual (maxDischargeDepth := 60) [State.hotDetect, hok, apply_ite Prod.snd]

@[simp] theorem State.publishHot_getF (s : State) (d : Nat) (fld : Fld) (itm : Nat) (hw : fld ∉ ([.GLB_FW_IL_SET, .THM_COUNT_EMERG_COUNT, .THM_COUNT_LIMIT_COUNT, .THM_DOM_ALARM_ST, .THM_DOM_EMERG_ST, .THM_DOM_RATE, .THM_DOM_SUBST, .THM_DOM_T_HOT, .THM_EVENT_ALARM, .THM_EVENT_EMERG, .THM_EVENT_LIMIT] : List Fld)) :
    (State.publishHot s d).getF fld itm = s.getF fld itm := by
  try simp only [List.mem_cons, not_or, List.not_mem_nil, not_false_eq_true] at hw
  ((unfold State.publishHot); (try simp only []); (repeat' split) <;> (try simp (maxDischargeDepth := 60) [hw, State.when, apply_ite Prod.snd]))

@[simp] theorem State.publishHot_parts (s : State) (d : Nat) :
    (State.publishHot s d).time = s.time ∧ (State.publishHot s d).cfg = s.cfg ∧ (State.publishHot s d).out = s.out ∧ (State.publishHot s d).freeCtr = s.freeCtr ∧ (State.publishHot s d).flt = s.flt ∧ (State.publishHot s d).phs = s.phs ∧ (State.publishHot s d).dom = s.dom ∧ (State.publishHot s d).eng = s.eng ∧ (State.publishHot s d).start = s.start ∧ (State.publishHot s d).est = s.est ∧ (State.publishHot s d).bud = s.bud ∧ (State.publishHot s d).hrd = s.hrd ∧ (State.publishHot s d).cmd = s.cmd ∧ (State.publishHot s d).boot = s.boot ∧ (State.publishHot s d).adc = s.adc ∧ (State.publishHot s d).fw = s.fw ∧ (State.publishHot s d).lt = s.lt ∧ (State.publishHot s d).pending = s.pending := by
  refine ⟨?_, ?_, ?_, ?_, ?_, ?_, ?_, ?_, ?_, ?_, ?_, ?_, ?_, ?_, ?_, ?_, ?_, ?_⟩ <;> ((unfold State.publishHot); (try simp only []); (repeat' split) <;> (try simp (maxDischargeDepth := 60) [State.when, apply_ite Prod.snd]))

@[simp] theorem State.publishHot_ok (s : State) (d : Nat) (hok : s.fieldsOk) : (State.publishHot s d).fieldsOk := by
  ((unfold State.publishHot); (try simp only []); (repeat' split) <;> (try simp +contextual (maxDischargeDepth := 60) [hok, State.when, apply_ite Prod.snd]))

@[simp] theorem State.publishDie_getF (s : State) (j : Nat) (fld : Fld) (itm : Nat) (hw : fld ∉ ([.GLB_FW_IL_SET, .THM_COUNT_EMERG_COUNT, .THM_COUNT_LIMIT_COUNT, .THM_DIE_ALARM_ST, .THM_DIE_EMERG_ST, .THM_DIE_RATE, .THM_DIE_SUBST, .THM_DIE_T_DRAM, .THM_EVENT_ALARM, .THM_EVENT_EMERG, .THM_EVENT_LIMIT] : List Fld)) :
    (State.publishDie s j).getF fld itm = s.getF fld itm := by
  try simp only [List.mem_cons, not_or, List.not_mem_nil, not_false_eq_true] at hw
  ((unfold State.publishDie); (try simp only []); (repeat' split) <;> (try simp (maxDischargeDepth := 60) [hw, State.when, apply_ite Prod.snd]))

@[simp] theorem State.publishDie_parts (s : State) (j : Nat) :
    (State.publishDie s j).time = s.time ∧ (State.publishDie s j).cfg = s.cfg ∧ (State.publishDie s j).out = s.out ∧ (State.publishDie s j).freeCtr = s.freeCtr ∧ (State.publishDie s j).flt = s.flt ∧ (State.publishDie s j).phs = s.phs ∧ (State.publishDie s j).dom = s.dom ∧ (State.publishDie s j).eng = s.eng ∧ (State.publishDie s j).start = s.start ∧ (State.publishDie s j).est = s.est ∧ (State.publishDie s j).bud = s.bud ∧ (State.publishDie s j).hrd = s.hrd ∧ (State.publishDie s j).cmd = s.cmd ∧ (State.publishDie s j).boot = s.boot ∧ (State.publishDie s j).adc = s.adc ∧ (State.publishDie s j).fw = s.fw ∧ (State.publishDie s j).lt = s.lt ∧ (State.publishDie s j).pending = s.pending := by
  refine ⟨?_, ?_, ?_, ?_, ?_, ?_, ?_, ?_, ?_, ?_, ?_, ?_, ?_, ?_, ?_, ?_, ?_, ?_⟩ <;> ((unfold State.publishDie); (try simp only []); (repeat' split) <;> (try simp (maxDischargeDepth := 60) [State.when, apply_ite Prod.snd]))

@[simp] theorem State.publishDie_ok (s : State) (j : Nat) (hok : s.fieldsOk) : (State.publishDie s j).fieldsOk := by
  ((unfold State.publishDie); (try simp only []); (repeat' split) <;> (try simp +contextual (maxDischargeDepth := 60) [hok, State.when, apply_ite Prod.snd]))

@[simp] theorem State.clMark_getF (s : State) (tower : Bool) (i : Nat) (fld : Fld) (itm : Nat) (hw : fld ∉ ([] : List Fld)) :
    (State.clMark s tower i).getF fld itm = s.getF fld itm := by
  try simp only [List.mem_cons, not_or, List.not_mem_nil, not_false_eq_true] at hw
  simp (maxDischargeDepth := 60) [State.clMark, hw, apply_ite Prod.snd]

@[simp] theorem State.clMark_parts (s : State) (tower : Bool) (i : Nat) :
    (State.clMark s tower i).time = s.time ∧ (State.clMark s tower i).cfg = s.cfg ∧ (State.clMark s tower i).raiseQ = s.raiseQ ∧ (State.clMark s tower i).out = s.out ∧ (State.clMark s tower i).freeCtr = s.freeCtr ∧ (State.clMark s tower i).flt = s.flt ∧ (State.clMark s tower i).phs = s.phs ∧ (State.clMark s tower i).dom = s.dom ∧ (State.clMark s tower i).eng = s.eng ∧ (State.clMark s tower i).start = s.start ∧ (State.clMark s tower i).est = s.est ∧ (State.clMark s tower i).bud = s.bud ∧ (State.clMark s tower i).hrd = s.hrd ∧ (State.clMark s tower i).tlm = s.tlm ∧ (State.clMark s tower i).cmd = s.cmd ∧ (State.clMark s tower i).boot = s.boot ∧ (State.clMark s tower i).adc = s.adc ∧ (State.clMark s tower i).fw = s.fw ∧ (State.clMark s tower i).lt = s.lt ∧ (State.clMark s tower i).pending = s.pending := by
  refine ⟨?_, ?_, ?_, ?_, ?_, ?_, ?_, ?_, ?_, ?_, ?_, ?_, ?_, ?_, ?_, ?_, ?_, ?_, ?_, ?_⟩ <;> (simp (maxDischargeDepth := 60) [State.clMark, apply_ite Prod.snd])

@[simp] theorem State.clMark_ok (s : State) (tower : Bool) (i : Nat) (hok : s.fieldsOk) : (State.clMark s tower i).fieldsOk := by
  simp +contextual (maxDischargeDepth := 60) [State.clMark, hok, apply_ite Prod.snd]

@[simp] theorem State.clSet_getF (s : State) (tower : Bool) (i st c : Nat) (fld : Fld) (itm : Nat) (hw : fld ∉ ([.CEL_STATUS_SETPT, .DOM_SETPT_VEFF, .DOM_START_STATUS_SLOPE_EFF, .DOM_STATUS_STEP, .GLB_FW_IL_SET, .GLB_VSTK_STATUS_CLAMPED, .GLB_VSTK_STATUS_VSTK_CODE, .PHS_GRP_REF_VREF, .PHS_GRP_TON_TON_BASE, .PHS_PH_STATUS_TRIM, .THM_DOM_CLAMP, .THM_DOM_CL_STATE, .THM_TWR_CLAMP, .THM_TWR_CL_STATE] : List Fld)) :
    (State.clSet s tower i st c).getF fld itm = s.getF fld itm := by
  try simp only [List.mem_cons, not_or, List.not_mem_nil, not_false_eq_true] at hw
  ((unfold State.clSet); (try simp only []); (repeat' split) <;> (try simp (maxDischargeDepth := 60) [hw, State.when, apply_ite Prod.snd]))

@[simp] theorem State.clSet_parts (s : State) (tower : Bool) (i st c : Nat) :
    (State.clSet s tower i st c).time = s.time ∧ (State.clSet s tower i st c).cfg = s.cfg ∧ (State.clSet s tower i st c).raiseQ = s.raiseQ ∧ (State.clSet s tower i st c).freeCtr = s.freeCtr ∧ (State.clSet s tower i st c).flt = s.flt ∧ (State.clSet s tower i st c).phs = s.phs ∧ (State.clSet s tower i st c).eng = s.eng ∧ (State.clSet s tower i st c).est = s.est ∧ (State.clSet s tower i st c).hrd = s.hrd ∧ (State.clSet s tower i st c).cmd = s.cmd ∧ (State.clSet s tower i st c).boot = s.boot ∧ (State.clSet s tower i st c).adc = s.adc ∧ (State.clSet s tower i st c).fw = s.fw ∧ (State.clSet s tower i st c).lt = s.lt ∧ (State.clSet s tower i st c).pending = s.pending := by
  refine ⟨?_, ?_, ?_, ?_, ?_, ?_, ?_, ?_, ?_, ?_, ?_, ?_, ?_, ?_, ?_⟩ <;> (simp (maxDischargeDepth := 60) [State.clSet, apply_ite Prod.snd])

@[simp] theorem State.clSet_ok (s : State) (tower : Bool) (i st c : Nat) (hok : s.fieldsOk) : (State.clSet s tower i st c).fieldsOk := by
  simp +contextual (maxDischargeDepth := 60) [State.clSet, hok, apply_ite Prod.snd]

@[simp] theorem State.clTick_getF (s : State) (tower : Bool) (i : Nat) (fld : Fld) (itm : Nat) (hw : fld ∉ ([.CEL_STATUS_SETPT, .DOM_SETPT_VEFF, .DOM_START_STATUS_SLOPE_EFF, .DOM_STATUS_STEP, .GLB_FW_IL_SET, .GLB_VSTK_STATUS_CLAMPED, .GLB_VSTK_STATUS_VSTK_CODE, .PHS_GRP_REF_VREF, .PHS_GRP_TON_TON_BASE, .PHS_PH_STATUS_TRIM, .THM_DOM_CLAMP, .THM_DOM_CL_STATE, .THM_TWR_CLAMP, .THM_TWR_CL_STATE] : List Fld)) :
    (State.clTick s tower i).getF fld itm = s.getF fld itm := by
  try simp only [List.mem_cons, not_or, List.not_mem_nil, not_false_eq_true] at hw
  simp (maxDischargeDepth := 60) [State.clTick, hw, apply_ite Prod.snd]

@[simp] theorem State.clTick_parts (s : State) (tower : Bool) (i : Nat) :
    (State.clTick s tower i).time = s.time ∧ (State.clTick s tower i).cfg = s.cfg ∧ (State.clTick s tower i).raiseQ = s.raiseQ ∧ (State.clTick s tower i).freeCtr = s.freeCtr ∧ (State.clTick s tower i).flt = s.flt ∧ (State.clTick s tower i).phs = s.phs ∧ (State.clTick s tower i).eng = s.eng ∧ (State.clTick s tower i).est = s.est ∧ (State.clTick s tower i).hrd = s.hrd ∧ (State.clTick s tower i).cmd = s.cmd ∧ (State.clTick s tower i).boot = s.boot ∧ (State.clTick s tower i).adc = s.adc ∧ (State.clTick s tower i).fw = s.fw ∧ (State.clTick s tower i).lt = s.lt ∧ (State.clTick s tower i).pending = s.pending := by
  refine ⟨?_, ?_, ?_, ?_, ?_, ?_, ?_, ?_, ?_, ?_, ?_, ?_, ?_, ?_, ?_⟩ <;> (simp (maxDischargeDepth := 60) [State.clTick, apply_ite Prod.snd])

@[simp] theorem State.clTick_ok (s : State) (tower : Bool) (i : Nat) (hok : s.fieldsOk) : (State.clTick s tower i).fieldsOk := by
  simp +contextual (maxDischargeDepth := 60) [State.clTick, hok, apply_ite Prod.snd]

@[simp] theorem State.setTwr_getF (s : State) (w : Nat) (r : TwrRun) (fld : Fld) (itm : Nat) (hw : fld ∉ ([] : List Fld)) :
    (State.setTwr s w r).getF fld itm = s.getF fld itm := by
  try simp only [List.mem_cons, not_or, List.not_mem_nil, not_false_eq_true] at hw
  simp (maxDischargeDepth := 60) [State.setTwr, hw, apply_ite Prod.snd]

@[simp] theorem State.setTwr_parts (s : State) (w : Nat) (r : TwrRun) :
    (State.setTwr s w r).time = s.time ∧ (State.setTwr s w r).cfg = s.cfg ∧ (State.setTwr s w r).raiseQ = s.raiseQ ∧ (State.setTwr s w r).out = s.out ∧ (State.setTwr s w r).freeCtr = s.freeCtr ∧ (State.setTwr s w r).flt = s.flt ∧ (State.setTwr s w r).phs = s.phs ∧ (State.setTwr s w r).dom = s.dom ∧ (State.setTwr s w r).eng = s.eng ∧ (State.setTwr s w r).start = s.start ∧ (State.setTwr s w r).est = s.est ∧ (State.setTwr s w r).bud = s.bud ∧ (State.setTwr s w r).hrd = s.hrd ∧ (State.setTwr s w r).tlm = s.tlm ∧ (State.setTwr s w r).cmd = s.cmd ∧ (State.setTwr s w r).boot = s.boot ∧ (State.setTwr s w r).adc = s.adc ∧ (State.setTwr s w r).fw = s.fw ∧ (State.setTwr s w r).lt = s.lt ∧ (State.setTwr s w r).pending = s.pending := by
  refine ⟨?_, ?_, ?_, ?_, ?_, ?_, ?_, ?_, ?_, ?_, ?_, ?_, ?_, ?_, ?_, ?_, ?_, ?_, ?_, ?_⟩ <;> (simp (maxDischargeDepth := 60) [State.setTwr, apply_ite Prod.snd])

@[simp] theorem State.setTwr_ok (s : State) (w : Nat) (r : TwrRun) (hok : s.fieldsOk) : (State.setTwr s w r).fieldsOk := by
  simp +contextual (maxDischargeDepth := 60) [State.setTwr, hok, apply_ite Prod.snd]

@[simp] theorem State.setWp_getF (s : State) (w : Nat) (b : Bool) (fld : Fld) (itm : Nat) (hw : fld ∉ ([.THM_COUNT_WP_COUNT, .THM_EVENT_WP_OFF, .THM_TWR_WP] : List Fld)) :
    (State.setWp s w b).getF fld itm = s.getF fld itm := by
  try simp only [List.mem_cons, not_or, List.not_mem_nil, not_false_eq_true] at hw
  simp (maxDischargeDepth := 60) [State.setWp, hw, apply_ite Prod.snd]

@[simp] theorem State.setWp_parts (s : State) (w : Nat) (b : Bool) :
    (State.setWp s w b).time = s.time ∧ (State.setWp s w b).cfg = s.cfg ∧ (State.setWp s w b).freeCtr = s.freeCtr ∧ (State.setWp s w b).flt = s.flt ∧ (State.setWp s w b).phs = s.phs ∧ (State.setWp s w b).dom = s.dom ∧ (State.setWp s w b).eng = s.eng ∧ (State.setWp s w b).start = s.start ∧ (State.setWp s w b).est = s.est ∧ (State.setWp s w b).bud = s.bud ∧ (State.setWp s w b).thm = s.thm ∧ (State.setWp s w b).hrd = s.hrd ∧ (State.setWp s w b).tlm = s.tlm ∧ (State.setWp s w b).cmd = s.cmd ∧ (State.setWp s w b).boot = s.boot ∧ (State.setWp s w b).adc = s.adc ∧ (State.setWp s w b).fw = s.fw ∧ (State.setWp s w b).lt = s.lt ∧ (State.setWp s w b).pending = s.pending := by
  refine ⟨?_, ?_, ?_, ?_, ?_, ?_, ?_, ?_, ?_, ?_, ?_, ?_, ?_, ?_, ?_, ?_, ?_, ?_, ?_⟩ <;> (simp (maxDischargeDepth := 60) [State.setWp, apply_ite Prod.snd])

@[simp] theorem State.setWp_ok (s : State) (w : Nat) (b : Bool) (hok : s.fieldsOk) : (State.setWp s w b).fieldsOk := by
  simp +contextual (maxDischargeDepth := 60) [State.setWp, hok, apply_ite Prod.snd]

@[simp] theorem State.wpTick_getF (s : State) (w : Nat) (fld : Fld) (itm : Nat) (hw : fld ∉ ([.THM_COUNT_WP_COUNT, .THM_EVENT_WP_OFF, .THM_TWR_WP] : List Fld)) :
    (State.wpTick s w).getF fld itm = s.getF fld itm := by
  try simp only [List.mem_cons, not_or, List.not_mem_nil, not_false_eq_true] at hw
  simp (maxDischargeDepth := 60) [State.wpTick, hw, apply_ite Prod.snd]

@[simp] theorem State.wpTick_parts (s : State) (w : Nat) :
    (State.wpTick s w).time = s.time ∧ (State.wpTick s w).cfg = s.cfg ∧ (State.wpTick s w).freeCtr = s.freeCtr ∧ (State.wpTick s w).flt = s.flt ∧ (State.wpTick s w).phs = s.phs ∧ (State.wpTick s w).dom = s.dom ∧ (State.wpTick s w).eng = s.eng ∧ (State.wpTick s w).start = s.start ∧ (State.wpTick s w).est = s.est ∧ (State.wpTick s w).bud = s.bud ∧ (State.wpTick s w).hrd = s.hrd ∧ (State.wpTick s w).tlm = s.tlm ∧ (State.wpTick s w).cmd = s.cmd ∧ (State.wpTick s w).boot = s.boot ∧ (State.wpTick s w).adc = s.adc ∧ (State.wpTick s w).fw = s.fw ∧ (State.wpTick s w).lt = s.lt ∧ (State.wpTick s w).pending = s.pending := by
  refine ⟨?_, ?_, ?_, ?_, ?_, ?_, ?_, ?_, ?_, ?_, ?_, ?_, ?_, ?_, ?_, ?_, ?_, ?_⟩ <;> (simp (maxDischargeDepth := 60) [State.wpTick, apply_ite Prod.snd])

@[simp] theorem State.wpTick_ok (s : State) (w : Nat) (hok : s.fieldsOk) : (State.wpTick s w).fieldsOk := by
  simp +contextual (maxDischargeDepth := 60) [State.wpTick, hok, apply_ite Prod.snd]

@[simp] theorem State.showTower_getF (s : State) (w : Nat) (fld : Fld) (itm : Nat) (hw : fld ∉ ([.THM_TWR_HOT_LAYER, .THM_TWR_T_MAX] : List Fld)) :
    (State.showTower s w).getF fld itm = s.getF fld itm := by
  try simp only [List.mem_cons, not_or, List.not_mem_nil, not_false_eq_true] at hw
  ((unfold State.showTower); (try simp only []); (repeat' split) <;> (try simp (maxDischargeDepth := 60) [hw, State.when, apply_ite Prod.snd]))

@[simp] theorem State.showTower_parts (s : State) (w : Nat) :
    (State.showTower s w).time = s.time ∧ (State.showTower s w).cfg = s.cfg ∧ (State.showTower s w).raiseQ = s.raiseQ ∧ (State.showTower s w).out = s.out ∧ (State.showTower s w).freeCtr = s.freeCtr ∧ (State.showTower s w).flt = s.flt ∧ (State.showTower s w).phs = s.phs ∧ (State.showTower s w).dom = s.dom ∧ (State.showTower s w).eng = s.eng ∧ (State.showTower s w).start = s.start ∧ (State.showTower s w).est = s.est ∧ (State.showTower s w).bud = s.bud ∧ (State.showTower s w).thm = s.thm ∧ (State.showTower s w).hrd = s.hrd ∧ (State.showTower s w).tlm = s.tlm ∧ (State.showTower s w).cmd = s.cmd ∧ (State.showTower s w).boot = s.boot ∧ (State.showTower s w).adc = s.adc ∧ (State.showTower s w).fw = s.fw ∧ (State.showTower s w).lt = s.lt ∧ (State.showTower s w).pending = s.pending := by
  refine ⟨?_, ?_, ?_, ?_, ?_, ?_, ?_, ?_, ?_, ?_, ?_, ?_, ?_, ?_, ?_, ?_, ?_, ?_, ?_, ?_, ?_⟩ <;> ((unfold State.showTower); (try simp only []); (repeat' split) <;> (try simp (maxDischargeDepth := 60) [State.when, apply_ite Prod.snd]))

@[simp] theorem State.showTower_ok (s : State) (w : Nat) (hok : s.fieldsOk) : (State.showTower s w).fieldsOk := by
  ((unfold State.showTower); (try simp only []); (repeat' split) <;> (try simp +contextual (maxDischargeDepth := 60) [hok, State.when, apply_ite Prod.snd]))

@[simp] theorem State.showFuse_getF (s : State) (fld : Fld) (itm : Nat) (hw : fld ∉ ([.THM_FUSE_FUSE_OK, .THM_FUSE_T_DIE_MAX, .THM_FUSE_T_DIE_MIN] : List Fld)) :
    (State.showFuse s).getF fld itm = s.getF fld itm := by
  try simp only [List.mem_cons, not_or, List.not_mem_nil, not_false_eq_true] at hw
  ((unfold State.showFuse); (try simp only []); (repeat' split) <;> (try simp (maxDischargeDepth := 60) [hw, State.when, apply_ite Prod.snd]))

@[simp] theorem State.showFuse_parts (s : State) :
    (State.showFuse s).time = s.time ∧ (State.showFuse s).cfg = s.cfg ∧ (State.showFuse s).raiseQ = s.raiseQ ∧ (State.showFuse s).out = s.out ∧ (State.showFuse s).freeCtr = s.freeCtr ∧ (State.showFuse s).flt = s.flt ∧ (State.showFuse s).phs = s.phs ∧ (State.showFuse s).dom = s.dom ∧ (State.showFuse s).eng = s.eng ∧ (State.showFuse s).start = s.start ∧ (State.showFuse s).est = s.est ∧ (State.showFuse s).bud = s.bud ∧ (State.showFuse s).thm = s.thm ∧ (State.showFuse s).hrd = s.hrd ∧ (State.showFuse s).tlm = s.tlm ∧ (State.showFuse s).cmd = s.cmd ∧ (State.showFuse s).boot = s.boot ∧ (State.showFuse s).adc = s.adc ∧ (State.showFuse s).fw = s.fw ∧ (State.showFuse s).lt = s.lt ∧ (State.showFuse s).pending = s.pending := by
  refine ⟨?_, ?_, ?_, ?_, ?_, ?_, ?_, ?_, ?_, ?_, ?_, ?_, ?_, ?_, ?_, ?_, ?_, ?_, ?_, ?_, ?_⟩ <;> ((unfold State.showFuse); (try simp only []); (repeat' split) <;> (try simp (maxDischargeDepth := 60) [State.when, apply_ite Prod.snd]))

@[simp] theorem State.showFuse_ok (s : State) (hok : s.fieldsOk) : (State.showFuse s).fieldsOk := by
  ((unfold State.showFuse); (try simp only []); (repeat' split) <;> (try simp +contextual (maxDischargeDepth := 60) [hok, State.when, apply_ite Prod.snd]))

@[simp] theorem State.forecastDom_getF (s : State) (d : Nat) (fld : Fld) (itm : Nat) (hw : fld ∉ ([.THM_DOM_FCST_P_FC, .THM_DOM_FCST_T_FCST] : List Fld)) :
    (State.forecastDom s d).getF fld itm = s.getF fld itm := by
  try simp only [List.mem_cons, not_or, List.not_mem_nil, not_false_eq_true] at hw
  simp (maxDischargeDepth := 60) [State.forecastDom, hw, apply_ite Prod.snd]

@[simp] theorem State.forecastDom_parts (s : State) (d : Nat) :
    (State.forecastDom s d).time = s.time ∧ (State.forecastDom s d).cfg = s.cfg ∧ (State.forecastDom s d).raiseQ = s.raiseQ ∧ (State.forecastDom s d).out = s.out ∧ (State.forecastDom s d).flt = s.flt ∧ (State.forecastDom s d).phs = s.phs ∧ (State.forecastDom s d).dom = s.dom ∧ (State.forecastDom s d).eng = s.eng ∧ (State.forecastDom s d).start = s.start ∧ (State.forecastDom s d).est = s.est ∧ (State.forecastDom s d).bud = s.bud ∧ (State.forecastDom s d).thm = s.thm ∧ (State.forecastDom s d).hrd = s.hrd ∧ (State.forecastDom s d).tlm = s.tlm ∧ (State.forecastDom s d).cmd = s.cmd ∧ (State.forecastDom s d).boot = s.boot ∧ (State.forecastDom s d).adc = s.adc ∧ (State.forecastDom s d).fw = s.fw ∧ (State.forecastDom s d).lt = s.lt ∧ (State.forecastDom s d).pending = s.pending := by
  refine ⟨?_, ?_, ?_, ?_, ?_, ?_, ?_, ?_, ?_, ?_, ?_, ?_, ?_, ?_, ?_, ?_, ?_, ?_, ?_, ?_⟩ <;> (simp (maxDischargeDepth := 60) [State.forecastDom, apply_ite Prod.snd])

@[simp] theorem State.forecastDom_ok (s : State) (d : Nat) (hok : s.fieldsOk) : (State.forecastDom s d).fieldsOk := by
  simp +contextual (maxDischargeDepth := 60) [State.forecastDom, hok, apply_ite Prod.snd]

@[simp] theorem State.maskMove_getF (s : State) (x act : Nat) (fld : Fld) (itm : Nat) (hw : fld ∉ ([.THM_SNS_DISAGREE, .THM_SNS_STATE] : List Fld)) :
    (State.maskMove s x act).2.getF fld itm = s.getF fld itm := by
  try simp only [List.mem_cons, not_or, List.not_mem_nil, not_false_eq_true] at hw
  simp (maxDischargeDepth := 60) [State.maskMove, hw, apply_ite Prod.snd]

@[simp] theorem State.maskMove_parts (s : State) (x act : Nat) :
    (State.maskMove s x act).2.time = s.time ∧ (State.maskMove s x act).2.cfg = s.cfg ∧ (State.maskMove s x act).2.raiseQ = s.raiseQ ∧ (State.maskMove s x act).2.out = s.out ∧ (State.maskMove s x act).2.freeCtr = s.freeCtr ∧ (State.maskMove s x act).2.flt = s.flt ∧ (State.maskMove s x act).2.phs = s.phs ∧ (State.maskMove s x act).2.dom = s.dom ∧ (State.maskMove s x act).2.eng = s.eng ∧ (State.maskMove s x act).2.start = s.start ∧ (State.maskMove s x act).2.est = s.est ∧ (State.maskMove s x act).2.bud = s.bud ∧ (State.maskMove s x act).2.hrd = s.hrd ∧ (State.maskMove s x act).2.tlm = s.tlm ∧ (State.maskMove s x act).2.cmd = s.cmd ∧ (State.maskMove s x act).2.boot = s.boot ∧ (State.maskMove s x act).2.adc = s.adc ∧ (State.maskMove s x act).2.fw = s.fw ∧ (State.maskMove s x act).2.lt = s.lt ∧ (State.maskMove s x act).2.pending = s.pending := by
  refine ⟨?_, ?_, ?_, ?_, ?_, ?_, ?_, ?_, ?_, ?_, ?_, ?_, ?_, ?_, ?_, ?_, ?_, ?_, ?_, ?_⟩ <;> (simp (maxDischargeDepth := 60) [State.maskMove, apply_ite Prod.snd])

@[simp] theorem State.maskMove_ok (s : State) (x act : Nat) (hok : s.fieldsOk) : (State.maskMove s x act).2.fieldsOk := by
  simp +contextual (maxDischargeDepth := 60) [State.maskMove, hok, apply_ite Prod.snd]

end Sys2Proof.Machine
end

