-- ==== Sys2Proof/Laws/FwOps.lean ====
section
/-! SUPPORT. What each firmware operation can do: the fields it may write, the parts of the state it keeps, and that it keeps
the register table in its canonical form. -/

namespace Sys2Proof.Machine
open Host (Outcome)
set_option maxRecDepth 4000
set_option linter.unusedSimpArgs false
set_option linter.unusedVariables false
set_option linter.unreachableTactic false
set_option linter.unusedTactic false

@[simp] theorem State.beginLoading_getF (s : State) (b set : Nat) (fld : Fld) (itm : Nat) (hw : fld ∉ ([.CRC_LEASE_HELD, .CRC_LEASE_HOLDER, .CRC_STATUS_DUTY, .GLB_FW_IMG_BYTES, .GLB_FW_IMG_DAMAGED, .GLB_FW_IMG_STATE, .GLB_FW_LOAD_ACTIVE, .GLB_FW_LOAD_PARTNER, .GLB_FW_LOAD_TARGET] : List Fld)) :
    (State.beginLoading s b set).getF fld itm = s.getF fld itm := by
  try simp only [List.mem_cons, not_or, List.not_mem_nil, not_false_eq_true] at hw
  simp (maxDischargeDepth := 60) [State.beginLoading, hw, apply_ite Prod.snd]

@[simp] theorem State.beginLoading_parts (s : State) (b set : Nat) :
    (State.beginLoading s b set).time = s.time ∧ (State.beginLoading s b set).cfg = s.cfg ∧ (State.beginLoading s b set).raiseQ = s.raiseQ ∧ (State.beginLoading s b set).out = s.out ∧ (State.beginLoading s b set).freeCtr = s.freeCtr ∧ (State.beginLoading s b set).flt = s.flt ∧ (State.beginLoading s b set).phs = s.phs ∧ (State.beginLoading s b set).dom = s.dom ∧ (State.beginLoading s b set).eng = s.eng ∧ (State.beginLoading s b set).start = s.start ∧ (State.beginLoading s b set).est = s.est ∧ (State.beginLoading s b set).bud = s.bud ∧ (State.beginLoading s b set).thm = s.thm ∧ (State.beginLoading s b set).hrd = s.hrd ∧ (State.beginLoading s b set).tlm = s.tlm ∧ (State.beginLoading s b set).cmd = s.cmd ∧ (State.beginLoading s b set).boot = s.boot ∧ (State.beginLoading s b set).adc = s.adc ∧ (State.beginLoading s b set).lt = s.lt ∧ (State.beginLoading s b set).pending = s.pending := by
  refine ⟨?_, ?_, ?_, ?_, ?_, ?_, ?_, ?_, ?_, ?_, ?_, ?_, ?_, ?_, ?_, ?_, ?_, ?_, ?_, ?_⟩ <;> (simp (maxDischargeDepth := 60) [State.beginLoading, apply_ite Prod.snd])

@[simp] theorem State.beginLoading_ok (s : State) (b set : Nat) (hok : s.fieldsOk) : (State.beginLoading s b set).fieldsOk := by
  simp +contextual (maxDischargeDepth := 60) [State.beginLoading, hok, apply_ite Prod.snd]

@[simp] theorem State.endLoading_getF (s : State) (fld : Fld) (itm : Nat) (hw : fld ∉ ([.CRC_LEASE_HELD, .CRC_STATUS_DUTY, .CRC_STATUS_STATE, .CRC_VALUE_VALUE, .GLB_FW_LOAD_ACTIVE] : List Fld)) :
    (State.endLoading s).getF fld itm = s.getF fld itm := by
  try simp only [List.mem_cons, not_or, List.not_mem_nil, not_false_eq_true] at hw
  simp (maxDischargeDepth := 60) [State.endLoading, hw, apply_ite Prod.snd]

@[simp] theorem State.endLoading_parts (s : State) :
    (State.endLoading s).time = s.time ∧ (State.endLoading s).cfg = s.cfg ∧ (State.endLoading s).raiseQ = s.raiseQ ∧ (State.endLoading s).out = s.out ∧ (State.endLoading s).flt = s.flt ∧ (State.endLoading s).phs = s.phs ∧ (State.endLoading s).dom = s.dom ∧ (State.endLoading s).eng = s.eng ∧ (State.endLoading s).start = s.start ∧ (State.endLoading s).est = s.est ∧ (State.endLoading s).bud = s.bud ∧ (State.endLoading s).thm = s.thm ∧ (State.endLoading s).hrd = s.hrd ∧ (State.endLoading s).tlm = s.tlm ∧ (State.endLoading s).cmd = s.cmd ∧ (State.endLoading s).boot = s.boot ∧ (State.endLoading s).adc = s.adc ∧ (State.endLoading s).fw = s.fw ∧ (State.endLoading s).lt = s.lt ∧ (State.endLoading s).pending = s.pending := by
  refine ⟨?_, ?_, ?_, ?_, ?_, ?_, ?_, ?_, ?_, ?_, ?_, ?_, ?_, ?_, ?_, ?_, ?_, ?_, ?_, ?_⟩ <;> (simp (maxDischargeDepth := 60) [State.endLoading, apply_ite Prod.snd])

@[simp] theorem State.endLoading_ok (s : State) (hok : s.fieldsOk) : (State.endLoading s).fieldsOk := by
  simp +contextual (maxDischargeDepth := 60) [State.endLoading, hok, apply_ite Prod.snd]

@[simp] theorem State.showCps_getF (s : State) (fld : Fld) (itm : Nat) (hw : fld ∉ ([.CMD_STATUS_CP0_READY, .GLB_BOOT_STATUS_FW, .GLB_FW_IMG_RUN_MASK] : List Fld)) :
    (State.showCps s).getF fld itm = s.getF fld itm := by
  try simp only [List.mem_cons, not_or, List.not_mem_nil, not_false_eq_true] at hw
  simp (maxDischargeDepth := 60) [State.showCps, hw, apply_ite Prod.snd]

@[simp] theorem State.showCps_parts (s : State) :
    (State.showCps s).time = s.time ∧ (State.showCps s).cfg = s.cfg ∧ (State.showCps s).raiseQ = s.raiseQ ∧ (State.showCps s).out = s.out ∧ (State.showCps s).freeCtr = s.freeCtr ∧ (State.showCps s).flt = s.flt ∧ (State.showCps s).phs = s.phs ∧ (State.showCps s).dom = s.dom ∧ (State.showCps s).eng = s.eng ∧ (State.showCps s).start = s.start ∧ (State.showCps s).est = s.est ∧ (State.showCps s).bud = s.bud ∧ (State.showCps s).thm = s.thm ∧ (State.showCps s).hrd = s.hrd ∧ (State.showCps s).tlm = s.tlm ∧ (State.showCps s).cmd = s.cmd ∧ (State.showCps s).boot = s.boot ∧ (State.showCps s).adc = s.adc ∧ (State.showCps s).fw = s.fw ∧ (State.showCps s).lt = s.lt ∧ (State.showCps s).pending = s.pending := by
  refine ⟨?_, ?_, ?_, ?_, ?_, ?_, ?_, ?_, ?_, ?_, ?_, ?_, ?_, ?_, ?_, ?_, ?_, ?_, ?_, ?_, ?_⟩ <;> (simp (maxDischargeDepth := 60) [State.showCps, apply_ite Prod.snd])

@[simp] theorem State.showCps_ok (s : State) (hok : s.fieldsOk) : (State.showCps s).fieldsOk := by
  simp +contextual (maxDischargeDepth := 60) [State.showCps, hok, apply_ite Prod.snd]

@[simp] theorem State.retireBanks_getF (s : State) (fld : Fld) (itm : Nat) (hw : fld ∉ ([.GLB_FW_IMG_STATE] : List Fld)) :
    (State.retireBanks s).getF fld itm = s.getF fld itm := by
  try simp only [List.mem_cons, not_or, List.not_mem_nil, not_false_eq_true] at hw
  simp (maxDischargeDepth := 60) [State.retireBanks, hw, apply_ite Prod.snd]

@[simp] theorem State.retireBanks_parts (s : State) :
    (State.retireBanks s).time = s.time ∧ (State.retireBanks s).cfg = s.cfg ∧ (State.retireBanks s).raiseQ = s.raiseQ ∧ (State.retireBanks s).out = s.out ∧ (State.retireBanks s).freeCtr = s.freeCtr ∧ (State.retireBanks s).flt = s.flt ∧ (State.retireBanks s).phs = s.phs ∧ (State.retireBanks s).dom = s.dom ∧ (State.retireBanks s).eng = s.eng ∧ (State.retireBanks s).start = s.start ∧ (State.retireBanks s).est = s.est ∧ (State.retireBanks s).bud = s.bud ∧ (State.retireBanks s).thm = s.thm ∧ (State.retireBanks s).hrd = s.hrd ∧ (State.retireBanks s).tlm = s.tlm ∧ (State.retireBanks s).cmd = s.cmd ∧ (State.retireBanks s).boot = s.boot ∧ (State.retireBanks s).adc = s.adc ∧ (State.retireBanks s).fw = s.fw ∧ (State.retireBanks s).lt = s.lt ∧ (State.retireBanks s).pending = s.pending := by
  refine ⟨?_, ?_, ?_, ?_, ?_, ?_, ?_, ?_, ?_, ?_, ?_, ?_, ?_, ?_, ?_, ?_, ?_, ?_, ?_, ?_, ?_⟩ <;> (simp (maxDischargeDepth := 60) [State.retireBanks, apply_ite Prod.snd])

@[simp] theorem State.retireBanks_ok (s : State) (hok : s.fieldsOk) : (State.retireBanks s).fieldsOk := by
  simp +contextual (maxDischargeDepth := 60) [State.retireBanks, hok, apply_ite Prod.snd]

@[simp] theorem State.setCp_getF (s : State) (c st : Nat) (fld : Fld) (itm : Nat) (hw : fld ∉ ([.CMD_STATUS_CP0_READY, .GLB_BOOT_STATUS_FW, .GLB_CP_STATUS_STATE, .GLB_FW_IMG_RUN_MASK] : List Fld)) :
    (State.setCp s c st).getF fld itm = s.getF fld itm := by
  try simp only [List.mem_cons, not_or, List.not_mem_nil, not_false_eq_true] at hw
  simp (maxDischargeDepth := 60) [State.setCp, hw, apply_ite Prod.snd]

@[simp] theorem State.setCp_parts (s : State) (c st : Nat) :
    (State.setCp s c st).time = s.time ∧ (State.setCp s c st).cfg = s.cfg ∧ (State.setCp s c st).raiseQ = s.raiseQ ∧ (State.setCp s c st).out = s.out ∧ (State.setCp s c st).freeCtr = s.freeCtr ∧ (State.setCp s c st).flt = s.flt ∧ (State.setCp s c st).phs = s.phs ∧ (State.setCp s c st).dom = s.dom ∧ (State.setCp s c st).eng = s.eng ∧ (State.setCp s c st).start = s.start ∧ (State.setCp s c st).est = s.est ∧ (State.setCp s c st).bud = s.bud ∧ (State.setCp s c st).thm = s.thm ∧ (State.setCp s c st).hrd = s.hrd ∧ (State.setCp s c st).tlm = s.tlm ∧ (State.setCp s c st).cmd = s.cmd ∧ (State.setCp s c st).boot = s.boot ∧ (State.setCp s c st).adc = s.adc ∧ (State.setCp s c st).fw = s.fw ∧ (State.setCp s c st).lt = s.lt ∧ (State.setCp s c st).pending = s.pending := by
  refine ⟨?_, ?_, ?_, ?_, ?_, ?_, ?_, ?_, ?_, ?_, ?_, ?_, ?_, ?_, ?_, ?_, ?_, ?_, ?_, ?_, ?_⟩ <;> (simp (maxDischargeDepth := 60) [State.setCp, apply_ite Prod.snd])

@[simp] theorem State.setCp_ok (s : State) (c st : Nat) (hok : s.fieldsOk) : (State.setCp s c st).fieldsOk := by
  simp +contextual (maxDischargeDepth := 60) [State.setCp, hok, apply_ite Prod.snd]

@[simp] theorem State.breakBox_getF (s : State) (k : Nat) (fld : Fld) (itm : Nat) (hw : fld ∉ ([.CMD_PART_ID_STATE, .CMD_PART_SLOTS_BUSY, .CMD_PART_SLOTS_NEW, .CRC_EVENT_MISMATCH, .CRC_RESULT_RESULT, .CRC_STATUS_MATCH, .CRC_STATUS_MISMATCH, .CRC_STATUS_MISMATCH_COUNT, .CRC_STATUS_STATE, .CRC_VALUE_VALUE] : List Fld)) :
    (State.breakBox s k).getF fld itm = s.getF fld itm := by
  try simp only [List.mem_cons, not_or, List.not_mem_nil, not_false_eq_true] at hw
  simp (maxDischargeDepth := 60) [State.breakBox, hw, apply_ite Prod.snd]

@[simp] theorem State.breakBox_parts (s : State) (k : Nat) :
    (State.breakBox s k).time = s.time ∧ (State.breakBox s k).cfg = s.cfg ∧ (State.breakBox s k).freeCtr = s.freeCtr ∧ (State.breakBox s k).flt = s.flt ∧ (State.breakBox s k).phs = s.phs ∧ (State.breakBox s k).dom = s.dom ∧ (State.breakBox s k).eng = s.eng ∧ (State.breakBox s k).start = s.start ∧ (State.breakBox s k).est = s.est ∧ (State.breakBox s k).bud = s.bud ∧ (State.breakBox s k).thm = s.thm ∧ (State.breakBox s k).hrd = s.hrd ∧ (State.breakBox s k).tlm = s.tlm ∧ (State.breakBox s k).boot = s.boot ∧ (State.breakBox s k).adc = s.adc ∧ (State.breakBox s k).fw = s.fw ∧ (State.breakBox s k).lt = s.lt ∧ (State.breakBox s k).pending = s.pending := by
  refine ⟨?_, ?_, ?_, ?_, ?_, ?_, ?_, ?_, ?_, ?_, ?_, ?_, ?_, ?_, ?_, ?_, ?_, ?_⟩ <;> (simp (maxDischargeDepth := 60) [State.breakBox, apply_ite Prod.snd])

@[simp] theorem State.breakBox_ok (s : State) (k : Nat) (hok : s.fieldsOk) : (State.breakBox s k).fieldsOk := by
  simp +contextual (maxDischargeDepth := 60) [State.breakBox, hok, apply_ite Prod.snd]

@[simp] theorem State.dropSram_getF (s : State) (c : Nat) (fld : Fld) (itm : Nat) (hw : fld ∉ ([] : List Fld)) :
    (State.dropSram s c).getF fld itm = s.getF fld itm := by
  try simp only [List.mem_cons, not_or, List.not_mem_nil, not_false_eq_true] at hw
  simp (maxDischargeDepth := 60) [State.dropSram, hw, apply_ite Prod.snd]

@[simp] theorem State.dropSram_parts (s : State) (c : Nat) :
    (State.dropSram s c).time = s.time ∧ (State.dropSram s c).cfg = s.cfg ∧ (State.dropSram s c).raiseQ = s.raiseQ ∧ (State.dropSram s c).out = s.out ∧ (State.dropSram s c).freeCtr = s.freeCtr ∧ (State.dropSram s c).flt = s.flt ∧ (State.dropSram s c).phs = s.phs ∧ (State.dropSram s c).dom = s.dom ∧ (State.dropSram s c).eng = s.eng ∧ (State.dropSram s c).start = s.start ∧ (State.dropSram s c).est = s.est ∧ (State.dropSram s c).bud = s.bud ∧ (State.dropSram s c).thm = s.thm ∧ (State.dropSram s c).hrd = s.hrd ∧ (State.dropSram s c).tlm = s.tlm ∧ (State.dropSram s c).cmd = s.cmd ∧ (State.dropSram s c).boot = s.boot ∧ (State.dropSram s c).adc = s.adc ∧ (State.dropSram s c).lt = s.lt ∧ (State.dropSram s c).pending = s.pending := by
  refine ⟨?_, ?_, ?_, ?_, ?_, ?_, ?_, ?_, ?_, ?_, ?_, ?_, ?_, ?_, ?_, ?_, ?_, ?_, ?_, ?_⟩ <;> (simp (maxDischargeDepth := 60) [State.dropSram, apply_ite Prod.snd])

@[simp] theorem State.dropSram_ok (s : State) (c : Nat) (hok : s.fieldsOk) : (State.dropSram s c).fieldsOk := by
  simp +contextual (maxDischargeDepth := 60) [State.dropSram, hok, apply_ite Prod.snd]

@[simp] theorem State.haltCp_getF (s : State) (c : Nat) (fld : Fld) (itm : Nat) (hw : fld ∉ ([.CMD_PART_ID_STATE, .CMD_PART_SLOTS_BUSY, .CMD_PART_SLOTS_NEW, .CRC_EVENT_LEASE_BROKEN, .CRC_EVENT_MISMATCH, .CRC_LEASE_HELD, .CRC_RESULT_RESULT, .CRC_STATUS_MATCH, .CRC_STATUS_MISMATCH, .CRC_STATUS_MISMATCH_COUNT, .CRC_STATUS_STATE, .CRC_VALUE_VALUE] : List Fld)) :
    (State.haltCp s c).getF fld itm = s.getF fld itm := by
  try simp only [List.mem_cons, not_or, List.not_mem_nil, not_false_eq_true] at hw
  simp (maxDischargeDepth := 60) [State.haltCp, hw, apply_ite Prod.snd]

@[simp] theorem State.haltCp_parts (s : State) (c : Nat) :
    (State.haltCp s c).time = s.time ∧ (State.haltCp s c).cfg = s.cfg ∧ (State.haltCp s c).flt = s.flt ∧ (State.haltCp s c).phs = s.phs ∧ (State.haltCp s c).dom = s.dom ∧ (State.haltCp s c).eng = s.eng ∧ (State.haltCp s c).start = s.start ∧ (State.haltCp s c).est = s.est ∧ (State.haltCp s c).bud = s.bud ∧ (State.haltCp s c).thm = s.thm ∧ (State.haltCp s c).hrd = s.hrd ∧ (State.haltCp s c).tlm = s.tlm ∧ (State.haltCp s c).boot = s.boot ∧ (State.haltCp s c).adc = s.adc ∧ (State.haltCp s c).lt = s.lt ∧ (State.haltCp s c).pending = s.pending := by
  refine ⟨?_, ?_, ?_, ?_, ?_, ?_, ?_, ?_, ?_, ?_, ?_, ?_, ?_, ?_, ?_, ?_⟩ <;> (simp (maxDischargeDepth := 60) [State.haltCp, apply_ite Prod.snd])

@[simp] theorem State.haltCp_ok (s : State) (c : Nat) (hok : s.fieldsOk) : (State.haltCp s c).fieldsOk := by
  simp +contextual (maxDischargeDepth := 60) [State.haltCp, hok, apply_ite Prod.snd]

@[simp] theorem State.beginStart_getF (s : State) (c b : Nat) (again : Bool) (fld : Fld) (itm : Nat) (hw : fld ∉ ([.CMD_STATUS_CP0_READY, .GLB_BOOT_STATUS_FW, .GLB_CP_STATUS_BANK, .GLB_CP_STATUS_RESTARTS, .GLB_CP_STATUS_STATE, .GLB_FW_IMG_RUN_MASK] : List Fld)) :
    (State.beginStart s c b again).getF fld itm = s.getF fld itm := by
  try simp only [List.mem_cons, not_or, List.not_mem_nil, not_false_eq_true] at hw
  simp (maxDischargeDepth := 60) [State.beginStart, hw, apply_ite Prod.snd]

@[simp] theorem State.beginStart_parts (s : State) (c b : Nat) (again : Bool) :
    (State.beginStart s c b again).time = s.time ∧ (State.beginStart s c b again).cfg = s.cfg ∧ (State.beginStart s c b again).raiseQ = s.raiseQ ∧ (State.beginStart s c b again).out = s.out ∧ (State.beginStart s c b again).freeCtr = s.freeCtr ∧ (State.beginStart s c b again).flt = s.flt ∧ (State.beginStart s c b again).phs = s.phs ∧ (State.beginStart s c b again).dom = s.dom ∧ (State.beginStart s c b again).eng = s.eng ∧ (State.beginStart s c b again).start = s.start ∧ (State.beginStart s c b again).est = s.est ∧ (State.beginStart s c b again).bud = s.bud ∧ (State.beginStart s c b again).thm = s.thm ∧ (State.beginStart s c b again).hrd = s.hrd ∧ (State.beginStart s c b again).tlm = s.tlm ∧ (State.beginStart s c b again).cmd = s.cmd ∧ (State.beginStart s c b again).boot = s.boot ∧ (State.beginStart s c b again).adc = s.adc ∧ (State.beginStart s c b again).fw = s.fw ∧ (State.beginStart s c b again).lt = s.lt ∧ (State.beginStart s c b again).pending = s.pending := by
  refine ⟨?_, ?_, ?_, ?_, ?_, ?_, ?_, ?_, ?_, ?_, ?_, ?_, ?_, ?_, ?_, ?_, ?_, ?_, ?_, ?_, ?_⟩ <;> (simp (maxDischargeDepth := 60) [State.beginStart, apply_ite Prod.snd])

@[simp] theorem State.beginStart_ok (s : State) (c b : Nat) (again : Bool) (hok : s.fieldsOk) : (State.beginStart s c b again).fieldsOk := by
  simp +contextual (maxDischargeDepth := 60) [State.beginStart, hok, apply_ite Prod.snd]

@[simp] theorem State.rejectQueued_getF (s : State) (fld : Fld) (itm : Nat) (hw : fld ∉ ([.CMD_PART_ID_STATE, .CMD_PART_SLOTS_BUSY, .CMD_PART_SLOTS_NEW, .CRC_EVENT_MISMATCH, .CRC_RESULT_RESULT, .CRC_STATUS_MATCH, .CRC_STATUS_MISMATCH, .CRC_STATUS_MISMATCH_COUNT, .CRC_STATUS_STATE, .CRC_VALUE_VALUE] : List Fld)) :
    (State.rejectQueued s).getF fld itm = s.getF fld itm := by
  try simp only [List.mem_cons, not_or, List.not_mem_nil, not_false_eq_true] at hw
  simp (maxDischargeDepth := 60) [State.rejectQueued, hw, apply_ite Prod.snd]

@[simp] theorem State.rejectQueued_parts (s : State) :
    (State.rejectQueued s).time = s.time ∧ (State.rejectQueued s).cfg = s.cfg ∧ (State.rejectQueued s).raiseQ = s.raiseQ ∧ (State.rejectQueued s).freeCtr = s.freeCtr ∧ (State.rejectQueued s).flt = s.flt ∧ (State.rejectQueued s).phs = s.phs ∧ (State.rejectQueued s).dom = s.dom ∧ (State.rejectQueued s).eng = s.eng ∧ (State.rejectQueued s).start = s.start ∧ (State.rejectQueued s).est = s.est ∧ (State.rejectQueued s).bud = s.bud ∧ (State.rejectQueued s).thm = s.thm ∧ (State.rejectQueued s).hrd = s.hrd ∧ (State.rejectQueued s).tlm = s.tlm ∧ (State.rejectQueued s).boot = s.boot ∧ (State.rejectQueued s).adc = s.adc ∧ (State.rejectQueued s).fw = s.fw ∧ (State.rejectQueued s).lt = s.lt ∧ (State.rejectQueued s).pending = s.pending := by
  refine ⟨?_, ?_, ?_, ?_, ?_, ?_, ?_, ?_, ?_, ?_, ?_, ?_, ?_, ?_, ?_, ?_, ?_, ?_, ?_⟩ <;> (simp (maxDischargeDepth := 60) [State.rejectQueued, apply_ite Prod.snd])

@[simp] theorem State.rejectQueued_ok (s : State) (hok : s.fieldsOk) : (State.rejectQueued s).fieldsOk := by
  simp +contextual (maxDischargeDepth := 60) [State.rejectQueued, hok, apply_ite Prod.snd]

@[simp] theorem State.stopCp_getF (s : State) (c : Nat) (fld : Fld) (itm : Nat) (hw : fld ∉ ([.CMD_PART_ID_STATE, .CMD_PART_SLOTS_BUSY, .CMD_PART_SLOTS_NEW, .CMD_STATUS_CP0_READY, .CRC_EVENT_MISMATCH, .CRC_RESULT_RESULT, .CRC_STATUS_MATCH, .CRC_STATUS_MISMATCH, .CRC_STATUS_MISMATCH_COUNT, .CRC_STATUS_STATE, .CRC_VALUE_VALUE, .GLB_BOOT_STATUS_FW, .GLB_CP_STATUS_STATE, .GLB_FW_EVENT_STOPPED, .GLB_FW_IMG_RUN_MASK, .GLB_FW_IMG_STATE] : List Fld)) :
    (State.stopCp s c).getF fld itm = s.getF fld itm := by
  try simp only [List.mem_cons, not_or, List.not_mem_nil, not_false_eq_true] at hw
  simp (maxDischargeDepth := 60) [State.stopCp, hw, apply_ite Prod.snd]

@[simp] theorem State.stopCp_parts (s : State) (c : Nat) :
    (State.stopCp s c).time = s.time ∧ (State.stopCp s c).cfg = s.cfg ∧ (State.stopCp s c).freeCtr = s.freeCtr ∧ (State.stopCp s c).flt = s.flt ∧ (State.stopCp s c).phs = s.phs ∧ (State.stopCp s c).dom = s.dom ∧ (State.stopCp s c).eng = s.eng ∧ (State.stopCp s c).start = s.start ∧ (State.stopCp s c).est = s.est ∧ (State.stopCp s c).bud = s.bud ∧ (State.stopCp s c).thm = s.thm ∧ (State.stopCp s c).hrd = s.hrd ∧ (State.stopCp s c).tlm = s.tlm ∧ (State.stopCp s c).boot = s.boot ∧ (State.stopCp s c).adc = s.adc ∧ (State.stopCp s c).fw = s.fw ∧ (State.stopCp s c).lt = s.lt ∧ (State.stopCp s c).pending = s.pending := by
  refine ⟨?_, ?_, ?_, ?_, ?_, ?_, ?_, ?_, ?_, ?_, ?_, ?_, ?_, ?_, ?_, ?_, ?_, ?_⟩ <;> (simp (maxDischargeDepth := 60) [State.stopCp, apply_ite Prod.snd])

@[simp] theorem State.stopCp_ok (s : State) (c : Nat) (hok : s.fieldsOk) : (State.stopCp s c).fieldsOk := by
  simp +contextual (maxDischargeDepth := 60) [State.stopCp, hok, apply_ite Prod.snd]

@[simp] theorem State.crashCp_getF (s : State) (c cause addr comp : Nat) (fld : Fld) (itm : Nat) (hw : fld ∉ ([.CMD_PART_ID_STATE, .CMD_PART_SLOTS_BUSY, .CMD_PART_SLOTS_NEW, .CMD_STATUS_CP0_READY, .CRC_EVENT_LEASE_BROKEN, .CRC_EVENT_MISMATCH, .CRC_LEASE_HELD, .CRC_RESULT_RESULT, .CRC_STATUS_MATCH, .CRC_STATUS_MISMATCH, .CRC_STATUS_MISMATCH_COUNT, .CRC_STATUS_STATE, .CRC_VALUE_VALUE, .GLB_BOOT_STATUS_FW, .GLB_CP_FAULT_ADDR, .GLB_CP_STATUS_BANK, .GLB_CP_STATUS_CAUSE, .GLB_CP_STATUS_COMP_ID, .GLB_CP_STATUS_CRASH_COUNT, .GLB_CP_STATUS_RESTARTS, .GLB_CP_STATUS_STATE, .GLB_FW_EVENT_CRASH, .GLB_FW_EVENT_STOPPED, .GLB_FW_IMG_RUN_MASK, .GLB_FW_IMG_STATE] : List Fld)) :
    (State.crashCp s c cause addr comp).getF fld itm = s.getF fld itm := by
  try simp only [List.mem_cons, not_or, List.not_mem_nil, not_false_eq_true] at hw
  simp (maxDischargeDepth := 60) [State.crashCp, hw, apply_ite Prod.snd]

@[simp] theorem State.crashCp_parts (s : State) (c cause addr comp : Nat) :
    (State.crashCp s c cause addr comp).time = s.time ∧ (State.crashCp s c cause addr comp).cfg = s.cfg ∧ (State.crashCp s c cause addr comp).flt = s.flt ∧ (State.crashCp s c cause addr comp).phs = s.phs ∧ (State.crashCp s c cause addr comp).dom = s.dom ∧ (State.crashCp s c cause addr comp).eng = s.eng ∧ (State.crashCp s c cause addr comp).start = s.start ∧ (State.crashCp s c cause addr comp).est = s.est ∧ (State.crashCp s c cause addr comp).bud = s.bud ∧ (State.crashCp s c cause addr comp).thm = s.thm ∧ (State.crashCp s c cause addr comp).hrd = s.hrd ∧ (State.crashCp s c cause addr comp).tlm = s.tlm ∧ (State.crashCp s c cause addr comp).boot = s.boot ∧ (State.crashCp s c cause addr comp).adc = s.adc ∧ (State.crashCp s c cause addr comp).lt = s.lt ∧ (State.crashCp s c cause addr comp).pending = s.pending := by
  refine ⟨?_, ?_, ?_, ?_, ?_, ?_, ?_, ?_, ?_, ?_, ?_, ?_, ?_, ?_, ?_, ?_⟩ <;> (simp (maxDischargeDepth := 60) [State.crashCp, apply_ite Prod.snd])

@[simp] theorem State.crashCp_ok (s : State) (c cause addr comp : Nat) (hok : s.fieldsOk) : (State.crashCp s c cause addr comp).fieldsOk := by
  simp +contextual (maxDischargeDepth := 60) [State.crashCp, hok, apply_ite Prod.snd]

@[simp] theorem State.loadSram_getF (s : State) (c : Nat) (fld : Fld) (itm : Nat) (hw : fld ∉ ([.DBG_COMP_COMP_ID, .DBG_CYC_INSTR, .DBG_PC_PC] : List Fld)) :
    (State.loadSram s c).getF fld itm = s.getF fld itm := by
  try simp only [List.mem_cons, not_or, List.not_mem_nil, not_false_eq_true] at hw
  simp (maxDischargeDepth := 60) [State.loadSram, hw, apply_ite Prod.snd]

@[simp] theorem State.loadSram_parts (s : State) (c : Nat) :
    (State.loadSram s c).time = s.time ∧ (State.loadSram s c).cfg = s.cfg ∧ (State.loadSram s c).raiseQ = s.raiseQ ∧ (State.loadSram s c).out = s.out ∧ (State.loadSram s c).freeCtr = s.freeCtr ∧ (State.loadSram s c).flt = s.flt ∧ (State.loadSram s c).phs = s.phs ∧ (State.loadSram s c).dom = s.dom ∧ (State.loadSram s c).eng = s.eng ∧ (State.loadSram s c).start = s.start ∧ (State.loadSram s c).est = s.est ∧ (State.loadSram s c).bud = s.bud ∧ (State.loadSram s c).thm = s.thm ∧ (State.loadSram s c).hrd = s.hrd ∧ (State.loadSram s c).tlm = s.tlm ∧ (State.loadSram s c).cmd = s.cmd ∧ (State.loadSram s c).boot = s.boot ∧ (State.loadSram s c).adc = s.adc ∧ (State.loadSram s c).lt = s.lt ∧ (State.loadSram s c).pending = s.pending := by
  refine ⟨?_, ?_, ?_, ?_, ?_, ?_, ?_, ?_, ?_, ?_, ?_, ?_, ?_, ?_, ?_, ?_, ?_, ?_, ?_, ?_⟩ <;> (simp (maxDischargeDepth := 60) [State.loadSram, apply_ite Prod.snd])

@[simp] theorem State.loadSram_ok (s : State) (c : Nat) (hok : s.fieldsOk) : (State.loadSram s c).fieldsOk := by
  simp +contextual (maxDischargeDepth := 60) [State.loadSram, hok, apply_ite Prod.snd]

@[simp] theorem State.replyAct_getF (s : State) (a : Activation) (st : Nat) (payload : List Nat) (fld : Fld) (itm : Nat) (hw : fld ∉ ([.CMD_PART_ID_STATE, .CMD_PART_SLOTS_BUSY, .CMD_PART_SLOTS_NEW, .CRC_EVENT_MISMATCH, .CRC_RESULT_RESULT, .CRC_STATUS_MATCH, .CRC_STATUS_MISMATCH, .CRC_STATUS_MISMATCH_COUNT, .CRC_STATUS_STATE, .CRC_VALUE_VALUE] : List Fld)) :
    (State.replyAct s a st payload).getF fld itm = s.getF fld itm := by
  try simp only [List.mem_cons, not_or, List.not_mem_nil, not_false_eq_true] at hw
  simp (maxDischargeDepth := 60) [State.replyAct, hw, apply_ite Prod.snd]

@[simp] theorem State.replyAct_parts (s : State) (a : Activation) (st : Nat) (payload : List Nat) :
    (State.replyAct s a st payload).time = s.time ∧ (State.replyAct s a st payload).cfg = s.cfg ∧ (State.replyAct s a st payload).raiseQ = s.raiseQ ∧ (State.replyAct s a st payload).freeCtr = s.freeCtr ∧ (State.replyAct s a st payload).flt = s.flt ∧ (State.replyAct s a st payload).phs = s.phs ∧ (State.replyAct s a st payload).dom = s.dom ∧ (State.replyAct s a st payload).eng = s.eng ∧ (State.replyAct s a st payload).start = s.start ∧ (State.replyAct s a st payload).est = s.est ∧ (State.replyAct s a st payload).bud = s.bud ∧ (State.replyAct s a st payload).thm = s.thm ∧ (State.replyAct s a st payload).hrd = s.hrd ∧ (State.replyAct s a st payload).tlm = s.tlm ∧ (State.replyAct s a st payload).boot = s.boot ∧ (State.replyAct s a st payload).adc = s.adc ∧ (State.replyAct s a st payload).fw = s.fw ∧ (State.replyAct s a st payload).lt = s.lt ∧ (State.replyAct s a st payload).pending = s.pending := by
  refine ⟨?_, ?_, ?_, ?_, ?_, ?_, ?_, ?_, ?_, ?_, ?_, ?_, ?_, ?_, ?_, ?_, ?_, ?_, ?_⟩ <;> (simp (maxDischargeDepth := 60) [State.replyAct, apply_ite Prod.snd])

@[simp] theorem State.replyAct_ok (s : State) (a : Activation) (st : Nat) (payload : List Nat) (hok : s.fieldsOk) : (State.replyAct s a st payload).fieldsOk := by
  simp +contextual (maxDischargeDepth := 60) [State.replyAct, hok, apply_ite Prod.snd]

@[simp] theorem State.actNext_getF (s : State) (a : Activation) (left : List Nat) (fld : Fld) (itm : Nat) (hw : fld ∉ ([.CMD_NOTICE0_ARG, .CMD_NOTICE0_TYPE, .CMD_NOTICE1_TIME_LO, .CMD_NOTICE_SEQ_NSEQ, .CMD_PART_ID_STATE, .CMD_PART_SLOTS_BUSY, .CMD_PART_SLOTS_NEW, .CMD_PART_SLOTS_NOTICE_NEW, .CRC_EVENT_MISMATCH, .CRC_RESULT_RESULT, .CRC_STATUS_MATCH, .CRC_STATUS_MISMATCH, .CRC_STATUS_MISMATCH_COUNT, .CRC_STATUS_STATE, .CRC_VALUE_VALUE, .GLB_FW_IMG_STATE] : List Fld)) :
    (State.actNext s a left).getF fld itm = s.getF fld itm := by
  try simp only [List.mem_cons, not_or, List.not_mem_nil, not_false_eq_true] at hw
  simp (maxDischargeDepth := 60) [State.actNext, hw, apply_ite Prod.snd]

@[simp] theorem State.actNext_parts (s : State) (a : Activation) (left : List Nat) :
    (State.actNext s a left).time = s.time ∧ (State.actNext s a left).cfg = s.cfg ∧ (State.actNext s a left).raiseQ = s.raiseQ ∧ (State.actNext s a left).freeCtr = s.freeCtr ∧ (State.actNext s a left).flt = s.flt ∧ (State.actNext s a left).phs = s.phs ∧ (State.actNext s a left).dom = s.dom ∧ (State.actNext s a left).eng = s.eng ∧ (State.actNext s a left).start = s.start ∧ (State.actNext s a left).est = s.est ∧ (State.actNext s a left).bud = s.bud ∧ (State.actNext s a left).thm = s.thm ∧ (State.actNext s a left).hrd = s.hrd ∧ (State.actNext s a left).tlm = s.tlm ∧ (State.actNext s a left).boot = s.boot ∧ (State.actNext s a left).adc = s.adc ∧ (State.actNext s a left).lt = s.lt ∧ (State.actNext s a left).pending = s.pending := by
  refine ⟨?_, ?_, ?_, ?_, ?_, ?_, ?_, ?_, ?_, ?_, ?_, ?_, ?_, ?_, ?_, ?_, ?_, ?_⟩ <;> (simp (maxDischargeDepth := 60) [State.actNext, apply_ite Prod.snd])

@[simp] theorem State.actNext_ok (s : State) (a : Activation) (left : List Nat) (hok : s.fieldsOk) : (State.actNext s a left).fieldsOk := by
  simp +contextual (maxDischargeDepth := 60) [State.actNext, hok, apply_ite Prod.snd]

@[simp] theorem State.cpRuns_getF (s : State) (c : Nat) (fld : Fld) (itm : Nat) (hw : fld ∉ ([.CMD_STATUS_CP0_READY, .DBG_COMP_COMP_ID, .DBG_CYC_INSTR, .DBG_PC_PC, .GLB_BOOT_STATUS_FW, .GLB_CP_STATUS_CKPT_OK, .GLB_CP_STATUS_STATE, .GLB_FW_IMG_RUN_MASK, .GLB_FW_IMG_STATE] : List Fld)) :
    (State.cpRuns s c).getF fld itm = s.getF fld itm := by
  try simp only [List.mem_cons, not_or, List.not_mem_nil, not_false_eq_true] at hw
  simp (maxDischargeDepth := 60) [State.cpRuns, hw, apply_ite Prod.snd]

@[simp] theorem State.cpRuns_parts (s : State) (c : Nat) :
    (State.cpRuns s c).time = s.time ∧ (State.cpRuns s c).cfg = s.cfg ∧ (State.cpRuns s c).raiseQ = s.raiseQ ∧ (State.cpRuns s c).out = s.out ∧ (State.cpRuns s c).freeCtr = s.freeCtr ∧ (State.cpRuns s c).flt = s.flt ∧ (State.cpRuns s c).phs = s.phs ∧ (State.cpRuns s c).dom = s.dom ∧ (State.cpRuns s c).eng = s.eng ∧ (State.cpRuns s c).start = s.start ∧ (State.cpRuns s c).est = s.est ∧ (State.cpRuns s c).bud = s.bud ∧ (State.cpRuns s c).thm = s.thm ∧ (State.cpRuns s c).hrd = s.hrd ∧ (State.cpRuns s c).tlm = s.tlm ∧ (State.cpRuns s c).cmd = s.cmd ∧ (State.cpRuns s c).boot = s.boot ∧ (State.cpRuns s c).adc = s.adc ∧ (State.cpRuns s c).lt = s.lt ∧ (State.cpRuns s c).pending = s.pending := by
  refine ⟨?_, ?_, ?_, ?_, ?_, ?_, ?_, ?_, ?_, ?_, ?_, ?_, ?_, ?_, ?_, ?_, ?_, ?_, ?_, ?_⟩ <;> (simp (maxDischargeDepth := 60) [State.cpRuns, apply_ite Prod.snd])

@[simp] theorem State.cpRuns_ok (s : State) (c : Nat) (hok : s.fieldsOk) : (State.cpRuns s c).fieldsOk := by
  simp +contextual (maxDischargeDepth := 60) [State.cpRuns, hok, apply_ite Prod.snd]

@[simp] theorem State.beginSwitch_getF (s : State) (a : Activation) (fld : Fld) (itm : Nat) (hw : fld ∉ ([.CMD_PART_ID_STATE, .CMD_PART_SLOTS_BUSY, .CMD_PART_SLOTS_NEW, .CMD_STATUS_CP0_READY, .CRC_EVENT_LEASE_BROKEN, .CRC_EVENT_MISMATCH, .CRC_LEASE_HELD, .CRC_RESULT_RESULT, .CRC_STATUS_MATCH, .CRC_STATUS_MISMATCH, .CRC_STATUS_MISMATCH_COUNT, .CRC_STATUS_STATE, .CRC_VALUE_VALUE, .GLB_BOOT_STATUS_FW, .GLB_CP_STATUS_BANK, .GLB_CP_STATUS_RESTARTS, .GLB_CP_STATUS_STATE, .GLB_FW_IMG_RUN_MASK] : List Fld)) :
    (State.beginSwitch s a).getF fld itm = s.getF fld itm := by
  try simp only [List.mem_cons, not_or, List.not_mem_nil, not_false_eq_true] at hw
  simp (maxDischargeDepth := 60) [State.beginSwitch, hw, apply_ite Prod.snd]

@[simp] theorem State.beginSwitch_parts (s : State) (a : Activation) :
    (State.beginSwitch s a).time = s.time ∧ (State.beginSwitch s a).cfg = s.cfg ∧ (State.beginSwitch s a).flt = s.flt ∧ (State.beginSwitch s a).phs = s.phs ∧ (State.beginSwitch s a).dom = s.dom ∧ (State.beginSwitch s a).eng = s.eng ∧ (State.beginSwitch s a).start = s.start ∧ (State.beginSwitch s a).est = s.est ∧ (State.beginSwitch s a).bud = s.bud ∧ (State.beginSwitch s a).thm = s.thm ∧ (State.beginSwitch s a).hrd = s.hrd ∧ (State.beginSwitch s a).tlm = s.tlm ∧ (State.beginSwitch s a).boot = s.boot ∧ (State.beginSwitch s a).adc = s.adc ∧ (State.beginSwitch s a).lt = s.lt ∧ (State.beginSwitch s a).pending = s.pending := by
  refine ⟨?_, ?_, ?_, ?_, ?_, ?_, ?_, ?_, ?_, ?_, ?_, ?_, ?_, ?_, ?_, ?_⟩ <;> (simp (maxDischargeDepth := 60) [State.beginSwitch, apply_ite Prod.snd])

@[simp] theorem State.beginSwitch_ok (s : State) (a : Activation) (hok : s.fieldsOk) : (State.beginSwitch s a).fieldsOk := by
  simp +contextual (maxDischargeDepth := 60) [State.beginSwitch, hok, apply_ite Prod.snd]

@[simp] theorem State.dbgRefuse_getF (s : State) (init addr : Nat) (fld : Fld) (itm : Nat) (hw : fld ∉ ([.GLB_FW_EVENT_DBG_REF] : List Fld)) :
    (State.dbgRefuse s init addr).getF fld itm = s.getF fld itm := by
  try simp only [List.mem_cons, not_or, List.not_mem_nil, not_false_eq_true] at hw
  simp (maxDischargeDepth := 60) [State.dbgRefuse, hw, apply_ite Prod.snd]

@[simp] theorem State.dbgRefuse_parts (s : State) (init addr : Nat) :
    (State.dbgRefuse s init addr).time = s.time ∧ (State.dbgRefuse s init addr).cfg = s.cfg ∧ (State.dbgRefuse s init addr).out = s.out ∧ (State.dbgRefuse s init addr).freeCtr = s.freeCtr ∧ (State.dbgRefuse s init addr).flt = s.flt ∧ (State.dbgRefuse s init addr).phs = s.phs ∧ (State.dbgRefuse s init addr).dom = s.dom ∧ (State.dbgRefuse s init addr).eng = s.eng ∧ (State.dbgRefuse s init addr).start = s.start ∧ (State.dbgRefuse s init addr).est = s.est ∧ (State.dbgRefuse s init addr).bud = s.bud ∧ (State.dbgRefuse s init addr).thm = s.thm ∧ (State.dbgRefuse s init addr).hrd = s.hrd ∧ (State.dbgRefuse s init addr).tlm = s.tlm ∧ (State.dbgRefuse s init addr).cmd = s.cmd ∧ (State.dbgRefuse s init addr).boot = s.boot ∧ (State.dbgRefuse s init addr).adc = s.adc ∧ (State.dbgRefuse s init addr).fw = s.fw ∧ (State.dbgRefuse s init addr).lt = s.lt ∧ (State.dbgRefuse s init addr).pending = s.pending := by
  refine ⟨?_, ?_, ?_, ?_, ?_, ?_, ?_, ?_, ?_, ?_, ?_, ?_, ?_, ?_, ?_, ?_, ?_, ?_, ?_, ?_⟩ <;> (simp (maxDischargeDepth := 60) [State.dbgRefuse, apply_ite Prod.snd])

@[simp] theorem State.dbgRefuse_ok (s : State) (init addr : Nat) (hok : s.fieldsOk) : (State.dbgRefuse s init addr).fieldsOk := by
  simp +contextual (maxDischargeDepth := 60) [State.dbgRefuse, hok, apply_ite Prod.snd]

@[simp] theorem State.dbgMoved_getF (s : State) (c : Nat) (cyc : Nat) (fld : Fld) (itm : Nat) (hw : fld ∉ ([.DBG_COMP_COMP_ID, .DBG_CYC_INSTR, .DBG_PC_PC] : List Fld)) :
    (State.dbgMoved s c cyc).getF fld itm = s.getF fld itm := by
  try simp only [List.mem_cons, not_or, List.not_mem_nil, not_false_eq_true] at hw
  simp (maxDischargeDepth := 60) [State.dbgMoved, hw, apply_ite Prod.snd]

@[simp] theorem State.dbgMoved_parts (s : State) (c : Nat) (cyc : Nat) :
    (State.dbgMoved s c cyc).time = s.time ∧ (State.dbgMoved s c cyc).cfg = s.cfg ∧ (State.dbgMoved s c cyc).raiseQ = s.raiseQ ∧ (State.dbgMoved s c cyc).out = s.out ∧ (State.dbgMoved s c cyc).flt = s.flt ∧ (State.dbgMoved s c cyc).phs = s.phs ∧ (State.dbgMoved s c cyc).dom = s.dom ∧ (State.dbgMoved s c cyc).eng = s.eng ∧ (State.dbgMoved s c cyc).start = s.start ∧ (State.dbgMoved s c cyc).est = s.est ∧ (State.dbgMoved s c cyc).bud = s.bud ∧ (State.dbgMoved s c cyc).thm = s.thm ∧ (State.dbgMoved s c cyc).hrd = s.hrd ∧ (State.dbgMoved s c cyc).tlm = s.tlm ∧ (State.dbgMoved s c cyc).cmd = s.cmd ∧ (State.dbgMoved s c cyc).boot = s.boot ∧ (State.dbgMoved s c cyc).adc = s.adc ∧ (State.dbgMoved s c cyc).lt = s.lt ∧ (State.dbgMoved s c cyc).pending = s.pending := by
  refine ⟨?_, ?_, ?_, ?_, ?_, ?_, ?_, ?_, ?_, ?_, ?_, ?_, ?_, ?_, ?_, ?_, ?_, ?_, ?_⟩ <;> (simp (maxDischargeDepth := 60) [State.dbgMoved, apply_ite Prod.snd])

@[simp] theorem State.dbgMoved_ok (s : State) (c : Nat) (cyc : Nat) (hok : s.fieldsOk) : (State.dbgMoved s c cyc).fieldsOk := by
  simp +contextual (maxDischargeDepth := 60) [State.dbgMoved, hok, apply_ite Prod.snd]

@[simp] theorem State.dbgHalt_getF (s : State) (fld : Fld) (itm : Nat) (hw : fld ∉ ([.CMD_STATUS_CP0_READY, .DBG_COMP_COMP_ID, .DBG_CYC_INSTR, .DBG_PC_PC, .GLB_BOOT_STATUS_FW, .GLB_CP_STATUS_STATE, .GLB_FW_IMG_RUN_MASK] : List Fld)) :
    (State.dbgHalt s).getF fld itm = s.getF fld itm := by
  try simp only [List.mem_cons, not_or, List.not_mem_nil, not_false_eq_true] at hw
  simp (maxDischargeDepth := 60) [State.dbgHalt, hw, apply_ite Prod.snd]

@[simp] theorem State.dbgHalt_parts (s : State) :
    (State.dbgHalt s).time = s.time ∧ (State.dbgHalt s).cfg = s.cfg ∧ (State.dbgHalt s).raiseQ = s.raiseQ ∧ (State.dbgHalt s).out = s.out ∧ (State.dbgHalt s).flt = s.flt ∧ (State.dbgHalt s).phs = s.phs ∧ (State.dbgHalt s).dom = s.dom ∧ (State.dbgHalt s).eng = s.eng ∧ (State.dbgHalt s).start = s.start ∧ (State.dbgHalt s).est = s.est ∧ (State.dbgHalt s).bud = s.bud ∧ (State.dbgHalt s).thm = s.thm ∧ (State.dbgHalt s).hrd = s.hrd ∧ (State.dbgHalt s).tlm = s.tlm ∧ (State.dbgHalt s).cmd = s.cmd ∧ (State.dbgHalt s).boot = s.boot ∧ (State.dbgHalt s).adc = s.adc ∧ (State.dbgHalt s).lt = s.lt ∧ (State.dbgHalt s).pending = s.pending := by
  refine ⟨?_, ?_, ?_, ?_, ?_, ?_, ?_, ?_, ?_, ?_, ?_, ?_, ?_, ?_, ?_, ?_, ?_, ?_, ?_⟩ <;> (simp (maxDischargeDepth := 60) [State.dbgHalt, apply_ite Prod.snd])

@[simp] theorem State.dbgHalt_ok (s : State) (hok : s.fieldsOk) : (State.dbgHalt s).fieldsOk := by
  simp +contextual (maxDischargeDepth := 60) [State.dbgHalt, hok, apply_ite Prod.snd]

@[simp] theorem State.dbgResume_getF (s : State) (fld : Fld) (itm : Nat) (hw : fld ∉ ([.CMD_STATUS_CP0_READY, .GLB_BOOT_STATUS_FW, .GLB_CP_STATUS_STATE, .GLB_FW_IMG_RUN_MASK] : List Fld)) :
    (State.dbgResume s).getF fld itm = s.getF fld itm := by
  try simp only [List.mem_cons, not_or, List.not_mem_nil, not_false_eq_true] at hw
  simp (maxDischargeDepth := 60) [State.dbgResume, hw, apply_ite Prod.snd]

@[simp] theorem State.dbgResume_parts (s : State) :
    (State.dbgResume s).time = s.time ∧ (State.dbgResume s).cfg = s.cfg ∧ (State.dbgResume s).raiseQ = s.raiseQ ∧ (State.dbgResume s).out = s.out ∧ (State.dbgResume s).freeCtr = s.freeCtr ∧ (State.dbgResume s).flt = s.flt ∧ (State.dbgResume s).phs = s.phs ∧ (State.dbgResume s).dom = s.dom ∧ (State.dbgResume s).eng = s.eng ∧ (State.dbgResume s).start = s.start ∧ (State.dbgResume s).est = s.est ∧ (State.dbgResume s).bud = s.bud ∧ (State.dbgResume s).thm = s.thm ∧ (State.dbgResume s).hrd = s.hrd ∧ (State.dbgResume s).tlm = s.tlm ∧ (State.dbgResume s).cmd = s.cmd ∧ (State.dbgResume s).boot = s.boot ∧ (State.dbgResume s).adc = s.adc ∧ (State.dbgResume s).lt = s.lt ∧ (State.dbgResume s).pending = s.pending := by
  refine ⟨?_, ?_, ?_, ?_, ?_, ?_, ?_, ?_, ?_, ?_, ?_, ?_, ?_, ?_, ?_, ?_, ?_, ?_, ?_, ?_⟩ <;> (simp (maxDischargeDepth := 60) [State.dbgResume, apply_ite Prod.snd])

@[simp] theorem State.dbgResume_ok (s : State) (hok : s.fieldsOk) : (State.dbgResume s).fieldsOk := by
  simp +contextual (maxDischargeDepth := 60) [State.dbgResume, hok, apply_ite Prod.snd]

@[simp] theorem State.dbgStep_getF (s : State) (fld : Fld) (itm : Nat) (hw : fld ∉ ([.DBG_COMP_COMP_ID, .DBG_CYC_INSTR, .DBG_PC_PC] : List Fld)) :
    (State.dbgStep s).getF fld itm = s.getF fld itm := by
  try simp only [List.mem_cons, not_or, List.not_mem_nil, not_false_eq_true] at hw
  simp (maxDischargeDepth := 60) [State.dbgStep, hw, apply_ite Prod.snd]

@[simp] theorem State.dbgStep_parts (s : State) :
    (State.dbgStep s).time = s.time ∧ (State.dbgStep s).cfg = s.cfg ∧ (State.dbgStep s).raiseQ = s.raiseQ ∧ (State.dbgStep s).out = s.out ∧ (State.dbgStep s).flt = s.flt ∧ (State.dbgStep s).phs = s.phs ∧ (State.dbgStep s).dom = s.dom ∧ (State.dbgStep s).eng = s.eng ∧ (State.dbgStep s).start = s.start ∧ (State.dbgStep s).est = s.est ∧ (State.dbgStep s).bud = s.bud ∧ (State.dbgStep s).thm = s.thm ∧ (State.dbgStep s).hrd = s.hrd ∧ (State.dbgStep s).tlm = s.tlm ∧ (State.dbgStep s).cmd = s.cmd ∧ (State.dbgStep s).boot = s.boot ∧ (State.dbgStep s).adc = s.adc ∧ (State.dbgStep s).lt = s.lt ∧ (State.dbgStep s).pending = s.pending := by
  refine ⟨?_, ?_, ?_, ?_, ?_, ?_, ?_, ?_, ?_, ?_, ?_, ?_, ?_, ?_, ?_, ?_, ?_, ?_, ?_⟩ <;> (simp (maxDischargeDepth := 60) [State.dbgStep, apply_ite Prod.snd])

@[simp] theorem State.dbgStep_ok (s : State) (hok : s.fieldsOk) : (State.dbgStep s).fieldsOk := by
  simp +contextual (maxDischargeDepth := 60) [State.dbgStep, hok, apply_ite Prod.snd]

@[simp] theorem State.dbgWrite_getF (s : State) (init off v : Nat) (fld : Fld) (itm : Nat) (hw : fld ∉ ([.CMD_STATUS_CP0_READY, .DBG_COMP_COMP_ID, .DBG_CYC_INSTR, .DBG_PC_PC, .GLB_BOOT_STATUS_FW, .GLB_CP_STATUS_STATE, .GLB_FW_EVENT_DBG_REF, .GLB_FW_IMG_RUN_MASK] : List Fld)) :
    (State.dbgWrite s init off v).getF fld itm = s.getF fld itm := by
  try simp only [List.mem_cons, not_or, List.not_mem_nil, not_false_eq_true] at hw
  simp (maxDischargeDepth := 60) [State.dbgWrite, hw, apply_ite Prod.snd]

@[simp] theorem State.dbgWrite_parts (s : State) (init off v : Nat) :
    (State.dbgWrite s init off v).time = s.time ∧ (State.dbgWrite s init off v).cfg = s.cfg ∧ (State.dbgWrite s init off v).out = s.out ∧ (State.dbgWrite s init off v).flt = s.flt ∧ (State.dbgWrite s init off v).phs = s.phs ∧ (State.dbgWrite s init off v).dom = s.dom ∧ (State.dbgWrite s init off v).eng = s.eng ∧ (State.dbgWrite s init off v).start = s.start ∧ (State.dbgWrite s init off v).est = s.est ∧ (State.dbgWrite s init off v).bud = s.bud ∧ (State.dbgWrite s init off v).thm = s.thm ∧ (State.dbgWrite s init off v).hrd = s.hrd ∧ (State.dbgWrite s init off v).tlm = s.tlm ∧ (State.dbgWrite s init off v).cmd = s.cmd ∧ (State.dbgWrite s init off v).boot = s.boot ∧ (State.dbgWrite s init off v).adc = s.adc ∧ (State.dbgWrite s init off v).lt = s.lt ∧ (State.dbgWrite s init off v).pending = s.pending := by
  refine ⟨?_, ?_, ?_, ?_, ?_, ?_, ?_, ?_, ?_, ?_, ?_, ?_, ?_, ?_, ?_, ?_, ?_, ?_⟩ <;> (simp (maxDischargeDepth := 60) [State.dbgWrite, apply_ite Prod.snd])

@[simp] theorem State.dbgWrite_ok (s : State) (init off v : Nat) (hok : s.fieldsOk) : (State.dbgWrite s init off v).fieldsOk := by
  simp +contextual (maxDischargeDepth := 60) [State.dbgWrite, hok, apply_ite Prod.snd]

end Sys2Proof.Machine
end

