-- ==== Sys2Proof/Laws/ImageOps.lean ====
section
/-! SUPPORT. What each image operation can do: the fields it may write, the parts of the state it keeps, and that it keeps
the register table in its canonical form. -/

namespace Sys2Proof.Machine
open Host (Outcome)
set_option maxRecDepth 4000
set_option linter.unusedSimpArgs false
set_option linter.unusedVariables false
set_option linter.unreachableTactic false
set_option linter.unusedTactic false

@[simp] theorem State.imageWrite_parts (s : State) (off v : Nat) :
    (State.imageWrite s off v).time = s.time ∧ (State.imageWrite s off v).cfg = s.cfg ∧ (State.imageWrite s off v).raiseQ = s.raiseQ ∧ (State.imageWrite s off v).out = s.out ∧ (State.imageWrite s off v).freeCtr = s.freeCtr ∧ (State.imageWrite s off v).flt = s.flt ∧ (State.imageWrite s off v).phs = s.phs ∧ (State.imageWrite s off v).dom = s.dom ∧ (State.imageWrite s off v).eng = s.eng ∧ (State.imageWrite s off v).start = s.start ∧ (State.imageWrite s off v).est = s.est ∧ (State.imageWrite s off v).bud = s.bud ∧ (State.imageWrite s off v).thm = s.thm ∧ (State.imageWrite s off v).hrd = s.hrd ∧ (State.imageWrite s off v).tlm = s.tlm ∧ (State.imageWrite s off v).cmd = s.cmd ∧ (State.imageWrite s off v).boot = s.boot ∧ (State.imageWrite s off v).adc = s.adc ∧ (State.imageWrite s off v).fw = s.fw ∧ (State.imageWrite s off v).lt = s.lt ∧ (State.imageWrite s off v).pending = s.pending := by
  refine ⟨?_, ?_, ?_, ?_, ?_, ?_, ?_, ?_, ?_, ?_, ?_, ?_, ?_, ?_, ?_, ?_, ?_, ?_, ?_, ?_, ?_⟩ <;> ((unfold State.imageWrite); (try simp only []); (repeat' split) <;> (try simp (maxDischargeDepth := 60) [State.when, apply_ite Prod.snd]))

@[simp] theorem State.imageWrite_ok (s : State) (off v : Nat) (hok : s.fieldsOk) : (State.imageWrite s off v).fieldsOk := by
  ((unfold State.imageWrite); (try simp only []); (repeat' split) <;> (try simp +contextual (maxDischargeDepth := 60) [hok, State.when, apply_ite Prod.snd]))

@[simp] theorem State.applyRom_parts (s : State) :
    (State.applyRom s).time = s.time ∧ (State.applyRom s).cfg = s.cfg ∧ (State.applyRom s).raiseQ = s.raiseQ ∧ (State.applyRom s).out = s.out ∧ (State.applyRom s).freeCtr = s.freeCtr ∧ (State.applyRom s).flt = s.flt ∧ (State.applyRom s).phs = s.phs ∧ (State.applyRom s).dom = s.dom ∧ (State.applyRom s).eng = s.eng ∧ (State.applyRom s).start = s.start ∧ (State.applyRom s).est = s.est ∧ (State.applyRom s).bud = s.bud ∧ (State.applyRom s).thm = s.thm ∧ (State.applyRom s).hrd = s.hrd ∧ (State.applyRom s).tlm = s.tlm ∧ (State.applyRom s).cmd = s.cmd ∧ (State.applyRom s).boot = s.boot ∧ (State.applyRom s).adc = s.adc ∧ (State.applyRom s).fw = s.fw ∧ (State.applyRom s).lt = s.lt ∧ (State.applyRom s).pending = s.pending := by
  refine ⟨?_, ?_, ?_, ?_, ?_, ?_, ?_, ?_, ?_, ?_, ?_, ?_, ?_, ?_, ?_, ?_, ?_, ?_, ?_, ?_, ?_⟩ <;> (simp (maxDischargeDepth := 60) [State.applyRom, apply_ite Prod.snd])

@[simp] theorem State.applyRom_ok (s : State) (hok : s.fieldsOk) : (State.applyRom s).fieldsOk := by
  unfold State.applyRom
  simp only []
  apply foldl_fieldsOk
  · intro t x ht
    exact foldl_fieldsOk _ _ (fun u q hu => State.setF_fieldsOk u _ _ _ hu) t ht
  · exact ⟨List.Pairwise.sublist List.filter_sublist hok.1, fun p hp => hok.2 p (List.mem_filter.1 hp).1⟩

@[simp] theorem State.noteCal_getF (s : State) (fld : Fld) (itm : Nat) (hw : fld ∉ ([] : List Fld)) :
    (State.noteCal s).getF fld itm = s.getF fld itm := by
  try simp only [List.mem_cons, not_or, List.not_mem_nil, not_false_eq_true] at hw
  simp (maxDischargeDepth := 60) [State.noteCal, hw, apply_ite Prod.snd]

@[simp] theorem State.noteCal_parts (s : State) :
    (State.noteCal s).time = s.time ∧ (State.noteCal s).cfg = s.cfg ∧ (State.noteCal s).raiseQ = s.raiseQ ∧ (State.noteCal s).out = s.out ∧ (State.noteCal s).freeCtr = s.freeCtr ∧ (State.noteCal s).flt = s.flt ∧ (State.noteCal s).phs = s.phs ∧ (State.noteCal s).dom = s.dom ∧ (State.noteCal s).eng = s.eng ∧ (State.noteCal s).start = s.start ∧ (State.noteCal s).est = s.est ∧ (State.noteCal s).bud = s.bud ∧ (State.noteCal s).thm = s.thm ∧ (State.noteCal s).hrd = s.hrd ∧ (State.noteCal s).tlm = s.tlm ∧ (State.noteCal s).cmd = s.cmd ∧ (State.noteCal s).boot = s.boot ∧ (State.noteCal s).fw = s.fw ∧ (State.noteCal s).lt = s.lt ∧ (State.noteCal s).pending = s.pending := by
  refine ⟨?_, ?_, ?_, ?_, ?_, ?_, ?_, ?_, ?_, ?_, ?_, ?_, ?_, ?_, ?_, ?_, ?_, ?_, ?_, ?_⟩ <;> (simp (maxDischargeDepth := 60) [State.noteCal, apply_ite Prod.snd])

@[simp] theorem State.noteCal_ok (s : State) (hok : s.fieldsOk) : (State.noteCal s).fieldsOk := by
  simp +contextual (maxDischargeDepth := 60) [State.noteCal, hok, apply_ite Prod.snd]

@[simp] theorem State.enterImageLoad_getF (s : State) (romOnly : Bool) (fld : Fld) (itm : Nat) (hw : fld ∉ ([.ADC_CV_STATUS_PD, .ADC_CV_STATUS_STATE, .ADC_STATUS_LP_ACTIVE, .GLB_BOOT_STATUS_ERR, .GLB_BOOT_STATUS_PWR_OK, .GLB_BOOT_STATUS_STATE] : List Fld)) :
    (State.enterImageLoad s romOnly).getF fld itm = s.getF fld itm := by
  try simp only [List.mem_cons, not_or, List.not_mem_nil, not_false_eq_true] at hw
  simp (maxDischargeDepth := 60) [State.enterImageLoad, hw, apply_ite Prod.snd]

@[simp] theorem State.enterImageLoad_parts (s : State) (romOnly : Bool) :
    (State.enterImageLoad s romOnly).time = s.time ∧ (State.enterImageLoad s romOnly).cfg = s.cfg ∧ (State.enterImageLoad s romOnly).raiseQ = s.raiseQ ∧ (State.enterImageLoad s romOnly).out = s.out ∧ (State.enterImageLoad s romOnly).freeCtr = s.freeCtr ∧ (State.enterImageLoad s romOnly).flt = s.flt ∧ (State.enterImageLoad s romOnly).phs = s.phs ∧ (State.enterImageLoad s romOnly).dom = s.dom ∧ (State.enterImageLoad s romOnly).eng = s.eng ∧ (State.enterImageLoad s romOnly).start = s.start ∧ (State.enterImageLoad s romOnly).est = s.est ∧ (State.enterImageLoad s romOnly).bud = s.bud ∧ (State.enterImageLoad s romOnly).thm = s.thm ∧ (State.enterImageLoad s romOnly).hrd = s.hrd ∧ (State.enterImageLoad s romOnly).tlm = s.tlm ∧ (State.enterImageLoad s romOnly).cmd = s.cmd ∧ (State.enterImageLoad s romOnly).adc = s.adc ∧ (State.enterImageLoad s romOnly).fw = s.fw ∧ (State.enterImageLoad s romOnly).lt = s.lt ∧ (State.enterImageLoad s romOnly).pending = s.pending := by
  refine ⟨?_, ?_, ?_, ?_, ?_, ?_, ?_, ?_, ?_, ?_, ?_, ?_, ?_, ?_, ?_, ?_, ?_, ?_, ?_, ?_⟩ <;> (simp (maxDischargeDepth := 60) [State.enterImageLoad, apply_ite Prod.snd])

@[simp] theorem State.enterImageLoad_ok (s : State) (romOnly : Bool) (hok : s.fieldsOk) : (State.enterImageLoad s romOnly).fieldsOk := by
  simp +contextual (maxDischargeDepth := 60) [State.enterImageLoad, hok, apply_ite Prod.snd]

@[simp] theorem State.enterRelease_getF (s : State) (fld : Fld) (itm : Nat) (hw : fld ∉ ([.CRC_LEASE_HELD, .GLB_BOOT_STATUS_STATE] : List Fld)) :
    (State.enterRelease s).getF fld itm = s.getF fld itm := by
  try simp only [List.mem_cons, not_or, List.not_mem_nil, not_false_eq_true] at hw
  simp (maxDischargeDepth := 60) [State.enterRelease, hw, apply_ite Prod.snd]

@[simp] theorem State.enterRelease_parts (s : State) :
    (State.enterRelease s).time = s.time ∧ (State.enterRelease s).cfg = s.cfg ∧ (State.enterRelease s).raiseQ = s.raiseQ ∧ (State.enterRelease s).out = s.out ∧ (State.enterRelease s).freeCtr = s.freeCtr ∧ (State.enterRelease s).flt = s.flt ∧ (State.enterRelease s).phs = s.phs ∧ (State.enterRelease s).dom = s.dom ∧ (State.enterRelease s).eng = s.eng ∧ (State.enterRelease s).start = s.start ∧ (State.enterRelease s).est = s.est ∧ (State.enterRelease s).bud = s.bud ∧ (State.enterRelease s).thm = s.thm ∧ (State.enterRelease s).hrd = s.hrd ∧ (State.enterRelease s).tlm = s.tlm ∧ (State.enterRelease s).cmd = s.cmd ∧ (State.enterRelease s).adc = s.adc ∧ (State.enterRelease s).fw = s.fw ∧ (State.enterRelease s).lt = s.lt ∧ (State.enterRelease s).pending = s.pending := by
  refine ⟨?_, ?_, ?_, ?_, ?_, ?_, ?_, ?_, ?_, ?_, ?_, ?_, ?_, ?_, ?_, ?_, ?_, ?_, ?_, ?_⟩ <;> (simp (maxDischargeDepth := 60) [State.enterRelease, apply_ite Prod.snd])

@[simp] theorem State.enterRelease_ok (s : State) (hok : s.fieldsOk) : (State.enterRelease s).fieldsOk := by
  simp +contextual (maxDischargeDepth := 60) [State.enterRelease, hok, apply_ite Prod.snd]

@[simp] theorem State.releaseGroup_getF (s : State) (g : Nat) (fld : Fld) (itm : Nat) (hw : fld ∉ ([.GLB_FW_IL_GROUP, .GLB_FW_IL_SET, .PHS_GRP_CTRL_EN, .PHS_GRP_STATUS_STATE, .PHS_PH_STATUS_PH_STATE, .PHS_PH_STATUS_TRIM] : List Fld)) :
    (State.releaseGroup s g).getF fld itm = s.getF fld itm := by
  try simp only [List.mem_cons, not_or, List.not_mem_nil, not_false_eq_true] at hw
  simp (maxDischargeDepth := 60) [State.releaseGroup, hw, apply_ite Prod.snd]

@[simp] theorem State.releaseGroup_parts (s : State) (g : Nat) :
    (State.releaseGroup s g).time = s.time ∧ (State.releaseGroup s g).cfg = s.cfg ∧ (State.releaseGroup s g).raiseQ = s.raiseQ ∧ (State.releaseGroup s g).out = s.out ∧ (State.releaseGroup s g).freeCtr = s.freeCtr ∧ (State.releaseGroup s g).flt = s.flt ∧ (State.releaseGroup s g).dom = s.dom ∧ (State.releaseGroup s g).eng = s.eng ∧ (State.releaseGroup s g).start = s.start ∧ (State.releaseGroup s g).est = s.est ∧ (State.releaseGroup s g).bud = s.bud ∧ (State.releaseGroup s g).thm = s.thm ∧ (State.releaseGroup s g).hrd = s.hrd ∧ (State.releaseGroup s g).tlm = s.tlm ∧ (State.releaseGroup s g).cmd = s.cmd ∧ (State.releaseGroup s g).boot = s.boot ∧ (State.releaseGroup s g).adc = s.adc ∧ (State.releaseGroup s g).fw = s.fw ∧ (State.releaseGroup s g).lt = s.lt ∧ (State.releaseGroup s g).pending = s.pending := by
  refine ⟨?_, ?_, ?_, ?_, ?_, ?_, ?_, ?_, ?_, ?_, ?_, ?_, ?_, ?_, ?_, ?_, ?_, ?_, ?_, ?_⟩ <;> (simp (maxDischargeDepth := 60) [State.releaseGroup, apply_ite Prod.snd])

@[simp] theorem State.releaseGroup_ok (s : State) (g : Nat) (hok : s.fieldsOk) : (State.releaseGroup s g).fieldsOk := by
  simp +contextual (maxDischargeDepth := 60) [State.releaseGroup, hok, apply_ite Prod.snd]

@[simp] theorem State.engineStart_getF (s : State) (fld : Fld) (itm : Nat) (hw : fld ∉ ([.CEL_STATUS_SETPT, .CEL_STATUS_STATE, .CE_SLOT_STATUS_SAT, .CMD_NOTICE0_ARG, .CMD_NOTICE0_TYPE, .CMD_NOTICE1_TIME_LO, .CMD_NOTICE_SEQ_NSEQ, .CMD_PART_ID_STATE, .CMD_PART_SLOTS_BUSY, .CMD_PART_SLOTS_NEW, .CMD_PART_SLOTS_NOTICE_NEW, .CRC_EVENT_MISMATCH, .CRC_RESULT_RESULT, .CRC_STATUS_MATCH, .CRC_STATUS_MISMATCH, .CRC_STATUS_MISMATCH_COUNT, .CRC_STATUS_STATE, .CRC_VALUE_VALUE, .DOM_EVENT_DERATE, .DOM_EVENT_FENCE, .DOM_SETPT_VEFF, .DOM_START_STATUS_ARMED, .DOM_START_STATUS_BOOST, .DOM_START_STATUS_PRE_ACTIVE, .DOM_START_STATUS_SLOPE_EFF, .DOM_START_STATUS_WAITING, .DOM_START_STATUS_WAVES, .DOM_STATUS_DROOP_FLOOR, .DOM_STATUS_GATE_CLOSED, .DOM_STATUS_READY, .DOM_STATUS_STATE, .DOM_STATUS_STEP, .DOM_STATUS_WAKE_WAIT, .DOM_WAVE_ID_BARRIER_ID, .DOM_WAVE_ID_ENGINES, .DOM_WAVE_PROG_GRANTED, .DOM_WAVE_PROG_STATE, .DOM_WAVE_PROG_WAVE_ARMED, .GLB_VSTK_STATUS_CLAMPED, .GLB_VSTK_STATUS_VSTK_CODE, .PHS_GRP_REF_VREF, .PHS_GRP_TON_TON_BASE, .PHS_PH_STATUS_TRIM] : List Fld)) :
    (State.engineStart s).getF fld itm = s.getF fld itm := by
  try simp only [List.mem_cons, not_or, List.not_mem_nil, not_false_eq_true] at hw
  simp (maxDischargeDepth := 60) [State.engineStart, hw, apply_ite Prod.snd]

@[simp] theorem State.engineStart_parts (s : State) :
    (State.engineStart s).time = s.time ∧ (State.engineStart s).cfg = s.cfg ∧ (State.engineStart s).flt = s.flt ∧ (State.engineStart s).phs = s.phs ∧ (State.engineStart s).thm = s.thm ∧ (State.engineStart s).hrd = s.hrd ∧ (State.engineStart s).boot = s.boot ∧ (State.engineStart s).adc = s.adc ∧ (State.engineStart s).fw = s.fw ∧ (State.engineStart s).lt = s.lt ∧ (State.engineStart s).pending = s.pending := by
  refine ⟨?_, ?_, ?_, ?_, ?_, ?_, ?_, ?_, ?_, ?_, ?_⟩ <;> (simp (maxDischargeDepth := 60) [State.engineStart, apply_ite Prod.snd])

@[simp] theorem State.engineStart_ok (s : State) (hok : s.fieldsOk) : (State.engineStart s).fieldsOk := by
  simp +contextual (maxDischargeDepth := 60) [State.engineStart, hok, apply_ite Prod.snd]

@[simp] theorem State.releaseNext_getF (s : State) (fld : Fld) (itm : Nat) (hw : fld ∉ ([.ADC_CV_STATUS_PD, .ADC_CV_STATUS_STATE, .ADC_STATUS_LP_ACTIVE, .CEL_STATUS_SETPT, .CEL_STATUS_STATE, .CE_SLOT_STATUS_SAT, .CMD_NOTICE0_ARG, .CMD_NOTICE0_TYPE, .CMD_NOTICE1_TIME_LO, .CMD_NOTICE_SEQ_NSEQ, .CMD_PART_ID_STATE, .CMD_PART_SLOTS_BUSY, .CMD_PART_SLOTS_NEW, .CMD_PART_SLOTS_NOTICE_NEW, .CRC_EVENT_MISMATCH, .CRC_RESULT_RESULT, .CRC_STATUS_MATCH, .CRC_STATUS_MISMATCH, .CRC_STATUS_MISMATCH_COUNT, .CRC_STATUS_STATE, .CRC_VALUE_VALUE, .DOM_BUD_CTRL_CEIL, .DOM_EVENT_DERATE, .DOM_EVENT_FENCE, .DOM_SETPT_VEFF, .DOM_START_STATUS_ARMED, .DOM_START_STATUS_BOOST, .DOM_START_STATUS_PRE_ACTIVE, .DOM_START_STATUS_SLOPE_EFF, .DOM_START_STATUS_WAITING, .DOM_START_STATUS_WAVES, .DOM_STATUS_DROOP_FLOOR, .DOM_STATUS_GATE_CLOSED, .DOM_STATUS_READY, .DOM_STATUS_STATE, .DOM_STATUS_STEP, .DOM_STATUS_WAKE_WAIT, .DOM_WAVE_ID_BARRIER_ID, .DOM_WAVE_ID_ENGINES, .DOM_WAVE_PROG_GRANTED, .DOM_WAVE_PROG_STATE, .DOM_WAVE_PROG_WAVE_ARMED, .GLB_BOOT_STATUS_PWR_OK, .GLB_BOOT_STATUS_STATE, .GLB_FW_IL_GROUP, .GLB_FW_IL_SET, .GLB_VSTK_STATUS_BUS_OOR, .GLB_VSTK_STATUS_CLAMPED, .GLB_VSTK_STATUS_VSTK_CODE, .PHS_GRP_CTRL_EN, .PHS_GRP_REF_VREF, .PHS_GRP_STATUS_STATE, .PHS_GRP_TON_TON_BASE, .PHS_PH_STATUS_PH_STATE, .PHS_PH_STATUS_TRIM] : List Fld)) :
    (State.releaseNext s).getF fld itm = s.getF fld itm := by
  try simp only [List.mem_cons, not_or, List.not_mem_nil, not_false_eq_true] at hw
  ((unfold State.releaseNext); (try simp only []); (repeat' split) <;> (try simp (maxDischargeDepth := 60) [hw, State.when, apply_ite Prod.snd]))

@[simp] theorem State.releaseNext_parts (s : State) :
    (State.releaseNext s).time = s.time ∧ (State.releaseNext s).cfg = s.cfg ∧ (State.releaseNext s).flt = s.flt ∧ (State.releaseNext s).thm = s.thm ∧ (State.releaseNext s).hrd = s.hrd ∧ (State.releaseNext s).adc = s.adc ∧ (State.releaseNext s).fw = s.fw ∧ (State.releaseNext s).lt = s.lt ∧ (State.releaseNext s).pending = s.pending := by
  refine ⟨?_, ?_, ?_, ?_, ?_, ?_, ?_, ?_, ?_⟩ <;> ((unfold State.releaseNext); (try simp only []); (repeat' split) <;> (try simp (maxDischargeDepth := 60) [State.when, apply_ite Prod.snd]))

@[simp] theorem State.releaseNext_ok (s : State) (hok : s.fieldsOk) : (State.releaseNext s).fieldsOk := by
  ((unfold State.releaseNext); (try simp only []); (repeat' split) <;> (try simp +contextual (maxDischargeDepth := 60) [hok, State.when, apply_ite Prod.snd]))

@[simp] theorem State.refuseReset_getF (s : State) (init addr : Nat) (fld : Fld) (itm : Nat) (hw : fld ∉ ([] : List Fld)) :
    (State.refuseReset s init addr).getF fld itm = s.getF fld itm := by
  try simp only [List.mem_cons, not_or, List.not_mem_nil, not_false_eq_true] at hw
  simp (maxDischargeDepth := 60) [State.refuseReset, hw, apply_ite Prod.snd]

@[simp] theorem State.refuseReset_parts (s : State) (init addr : Nat) :
    (State.refuseReset s init addr).time = s.time ∧ (State.refuseReset s init addr).cfg = s.cfg ∧ (State.refuseReset s init addr).out = s.out ∧ (State.refuseReset s init addr).freeCtr = s.freeCtr ∧ (State.refuseReset s init addr).flt = s.flt ∧ (State.refuseReset s init addr).phs = s.phs ∧ (State.refuseReset s init addr).dom = s.dom ∧ (State.refuseReset s init addr).eng = s.eng ∧ (State.refuseReset s init addr).start = s.start ∧ (State.refuseReset s init addr).est = s.est ∧ (State.refuseReset s init addr).bud = s.bud ∧ (State.refuseReset s init addr).thm = s.thm ∧ (State.refuseReset s init addr).hrd = s.hrd ∧ (State.refuseReset s init addr).tlm = s.tlm ∧ (State.refuseReset s init addr).cmd = s.cmd ∧ (State.refuseReset s init addr).boot = s.boot ∧ (State.refuseReset s init addr).adc = s.adc ∧ (State.refuseReset s init addr).fw = s.fw ∧ (State.refuseReset s init addr).lt = s.lt ∧ (State.refuseReset s init addr).pending = s.pending := by
  refine ⟨?_, ?_, ?_, ?_, ?_, ?_, ?_, ?_, ?_, ?_, ?_, ?_, ?_, ?_, ?_, ?_, ?_, ?_, ?_, ?_⟩ <;> (simp (maxDischargeDepth := 60) [State.refuseReset, apply_ite Prod.snd])

@[simp] theorem State.refuseReset_ok (s : State) (init addr : Nat) (hok : s.fieldsOk) : (State.refuseReset s init addr).fieldsOk := by
  simp +contextual (maxDischargeDepth := 60) [State.refuseReset, hok, apply_ite Prod.snd]

@[simp] theorem State.resetSet_getF (s : State) (p : Nat) (fld : Fld) (itm : Nat) (hw : fld ∉ ([.CMD_NOTICE0_ARG, .CMD_NOTICE0_TYPE, .CMD_NOTICE1_TIME_LO, .CMD_NOTICE_SEQ_NSEQ, .CMD_PART_ID_CLASS, .CMD_PART_ID_FLAGS, .CMD_PART_ID_INITIATOR, .CMD_PART_ID_REG_EPOCH_LO, .CMD_PART_ID_STATE, .CMD_PART_LEASE_LEASE_S, .CMD_PART_SLOTS_BUSY, .CMD_PART_SLOTS_NEW, .CMD_PART_SLOTS_NOTICE_NEW, .CMD_STATUS_QUEUED, .CMD_STATUS_REGISTERED, .CMD_STATUS_STORE_USED, .CRC_EVENT_MISMATCH, .CRC_RESULT_RESULT, .CRC_STATUS_MATCH, .CRC_STATUS_MISMATCH, .CRC_STATUS_MISMATCH_COUNT, .CRC_STATUS_STATE, .CRC_VALUE_VALUE, .FLT_FEC_ADDR_HI_ADDR_HI, .FLT_FEC_ADDR_LO_ADDR_LO, .FLT_FEC_INFO_CODE, .FLT_FEC_INFO_MASTER, .FLT_FEC_INFO_SUB, .FLT_FEC_INFO_TYPE, .FLT_FEC_INFO_VALID, .FLT_FEC_MORE_MORE, .FLT_FEC_TIME_HI_TIME_HI, .FLT_FEC_TIME_LO_TIME_LO, .GLB_TB_STATUS_HERD_SHARED, .HRD_EVENT_DISBAND, .HRD_EVENT_EXCL_OVF, .HRD_EVENT_EXCL_REQ, .HRD_EVENT_INCOMPLETE, .HRD_EXCL_F_OFF, .HRD_EXCL_STACK_ID, .HRD_EXCL_STATE, .HRD_FREQ_F_GRP, .HRD_FREQ_PEND, .HRD_MEMBERS_EXCL_N, .HRD_MEMBERS_MEMBERS, .HRD_PEND_CHG_SEQ, .HRD_PEND_F_NEW, .HRD_PEND_TICK_HI_CT_HI, .HRD_PEND_TICK_LO_CT_LO, .HRD_PORT_UP, .HRD_STATUS_INCOMPLETE, .HRD_STATUS_IS_ROOT, .HRD_STATUS_LEVEL, .HRD_STATUS_OFFSET_MODE, .HRD_STATUS_PORT_UP, .HRD_STATUS_SLEWING, .HRD_STATUS_STATE, .TLM_CAP_CTRL_ARM, .TLM_CAP_STATUS_STATE, .TLM_CTRL_ENABLE, .TLM_STATUS_BUS_ERR_ST] : List Fld)) :
    (State.resetSet s p).getF fld itm = s.getF fld itm := by
  try simp only [List.mem_cons, not_or, List.not_mem_nil, not_false_eq_true] at hw
  simp (maxDischargeDepth := 60) [State.resetSet, hw, apply_ite Prod.snd]

@[simp] theorem State.resetSet_parts (s : State) (p : Nat) :
    (State.resetSet s p).time = s.time ∧ (State.resetSet s p).cfg = s.cfg ∧ (State.resetSet s p).flt = s.flt ∧ (State.resetSet s p).phs = s.phs ∧ (State.resetSet s p).dom = s.dom ∧ (State.resetSet s p).eng = s.eng ∧ (State.resetSet s p).start = s.start ∧ (State.resetSet s p).est = s.est ∧ (State.resetSet s p).bud = s.bud ∧ (State.resetSet s p).thm = s.thm ∧ (State.resetSet s p).boot = s.boot ∧ (State.resetSet s p).adc = s.adc ∧ (State.resetSet s p).lt = s.lt ∧ (State.resetSet s p).pending = s.pending := by
  refine ⟨?_, ?_, ?_, ?_, ?_, ?_, ?_, ?_, ?_, ?_, ?_, ?_, ?_, ?_⟩ <;> (simp (maxDischargeDepth := 60) [State.resetSet, apply_ite Prod.snd])

@[simp] theorem State.resetSet_ok (s : State) (p : Nat) (hok : s.fieldsOk) : (State.resetSet s p).fieldsOk := by
  simp +contextual (maxDischargeDepth := 60) [State.resetSet, hok, apply_ite Prod.snd]

@[simp] theorem State.cpReset_getF (s : State) (last : Nat) (fld : Fld) (itm : Nat) (hw : fld ∉ ([.ADC_CV_STATUS_PD, .ADC_CV_STATUS_STATE, .ADC_STATUS_LP_ACTIVE, .CMD_NOTICE0_ARG, .CMD_NOTICE0_TYPE, .CMD_NOTICE1_TIME_LO, .CMD_NOTICE_SEQ_NSEQ, .CMD_PART_ID_CLASS, .CMD_PART_ID_FLAGS, .CMD_PART_ID_INITIATOR, .CMD_PART_ID_REG_EPOCH_LO, .CMD_PART_ID_STATE, .CMD_PART_LEASE_LEASE_S, .CMD_PART_SLOTS_BUSY, .CMD_PART_SLOTS_NEW, .CMD_PART_SLOTS_NOTICE_NEW, .CMD_STATUS_CP0_READY, .CMD_STATUS_QUEUED, .CMD_STATUS_REGISTERED, .CMD_STATUS_STORE_USED, .CRC_EVENT_LEASE_BROKEN, .CRC_EVENT_MISMATCH, .CRC_LEASE_HELD, .CRC_RESULT_RESULT, .CRC_STATUS_MATCH, .CRC_STATUS_MISMATCH, .CRC_STATUS_MISMATCH_COUNT, .CRC_STATUS_STATE, .CRC_VALUE_VALUE, .FLT_FEC_ADDR_HI_ADDR_HI, .FLT_FEC_ADDR_LO_ADDR_LO, .FLT_FEC_INFO_CODE, .FLT_FEC_INFO_MASTER, .FLT_FEC_INFO_SUB, .FLT_FEC_INFO_TYPE, .FLT_FEC_INFO_VALID, .FLT_FEC_MORE_MORE, .FLT_FEC_TIME_HI_TIME_HI, .FLT_FEC_TIME_LO_TIME_LO, .GLB_BOOT_STATUS_FW, .GLB_CP_STATUS_BANK, .GLB_CP_STATUS_RESTARTS, .GLB_CP_STATUS_STATE, .GLB_FW_IMG_RUN_MASK, .GLB_LT_BITS_BITS, .GLB_LT_ERRS_ERRS, .GLB_LT_STAT_LOCKED, .GLB_LT_STAT_STATE, .GLB_RST_STATUS_CP_ACTIVE, .GLB_RST_STATUS_CP_COUNT, .GLB_RST_STATUS_LAST, .GLB_TB_STATUS_HERD_SHARED, .HRD_EVENT_DISBAND, .HRD_EVENT_EXCL_OVF, .HRD_EVENT_EXCL_REQ, .HRD_EVENT_INCOMPLETE, .HRD_EXCL_F_OFF, .HRD_EXCL_STACK_ID, .HRD_EXCL_STATE, .HRD_FREQ_F_GRP, .HRD_FREQ_PEND, .HRD_MEMBERS_EXCL_N, .HRD_MEMBERS_MEMBERS, .HRD_PEND_CHG_SEQ, .HRD_PEND_F_NEW, .HRD_PEND_TICK_HI_CT_HI, .HRD_PEND_TICK_LO_CT_LO, .HRD_PORT_UP, .HRD_STATUS_INCOMPLETE, .HRD_STATUS_IS_ROOT, .HRD_STATUS_LEVEL, .HRD_STATUS_OFFSET_MODE, .HRD_STATUS_PORT_UP, .HRD_STATUS_SLEWING, .HRD_STATUS_STATE, .TLM_CAP_CTRL_ARM, .TLM_CAP_STATUS_STATE, .TLM_CTRL_ENABLE, .TLM_STATUS_BUS_ERR_ST] : List Fld)) :
    (State.cpReset s last).getF fld itm = s.getF fld itm := by
  try simp only [List.mem_cons, not_or, List.not_mem_nil, not_false_eq_true] at hw
  simp (maxDischargeDepth := 60) [State.cpReset, hw, apply_ite Prod.snd]

@[simp] theorem State.cpReset_parts (s : State) (last : Nat) :
    (State.cpReset s last).time = s.time ∧ (State.cpReset s last).cfg = s.cfg ∧ (State.cpReset s last).flt = s.flt ∧ (State.cpReset s last).phs = s.phs ∧ (State.cpReset s last).dom = s.dom ∧ (State.cpReset s last).eng = s.eng ∧ (State.cpReset s last).start = s.start ∧ (State.cpReset s last).est = s.est ∧ (State.cpReset s last).bud = s.bud ∧ (State.cpReset s last).thm = s.thm ∧ (State.cpReset s last).boot = s.boot ∧ (State.cpReset s last).adc = s.adc ∧ (State.cpReset s last).pending = s.pending := by
  refine ⟨?_, ?_, ?_, ?_, ?_, ?_, ?_, ?_, ?_, ?_, ?_, ?_, ?_⟩ <;> (simp (maxDischargeDepth := 60) [State.cpReset, apply_ite Prod.snd])

@[simp] theorem State.cpReset_ok (s : State) (last : Nat) (hok : s.fieldsOk) : (State.cpReset s last).fieldsOk := by
  simp +contextual (maxDischargeDepth := 60) [State.cpReset, hok, apply_ite Prod.snd]

@[simp] theorem State.blockStopDom_getF (s : State) (d : Nat) (fld : Fld) (itm : Nat) (hw : fld ∉ ([.CEL_STATUS_SETPT, .CEL_STATUS_STATE, .CE_SLOT_STATUS_SAT, .CMD_NOTICE0_ARG, .CMD_NOTICE0_TYPE, .CMD_NOTICE1_TIME_LO, .CMD_NOTICE_SEQ_NSEQ, .CMD_PART_ID_STATE, .CMD_PART_SLOTS_BUSY, .CMD_PART_SLOTS_NEW, .CMD_PART_SLOTS_NOTICE_NEW, .CRC_EVENT_MISMATCH, .CRC_RESULT_RESULT, .CRC_STATUS_MATCH, .CRC_STATUS_MISMATCH, .CRC_STATUS_MISMATCH_COUNT, .CRC_STATUS_STATE, .CRC_VALUE_VALUE, .DOM_EVENT_DERATE, .DOM_EVENT_FENCE, .DOM_SETPT_VEFF, .DOM_START_STATUS_ARMED, .DOM_START_STATUS_BOOST, .DOM_START_STATUS_PRE_ACTIVE, .DOM_START_STATUS_SLOPE_EFF, .DOM_START_STATUS_WAITING, .DOM_START_STATUS_WAVES, .DOM_STATUS_DROOP_FLOOR, .DOM_STATUS_GATE_CLOSED, .DOM_STATUS_READY, .DOM_STATUS_STATE, .DOM_STATUS_STEP, .DOM_STATUS_WAKE_WAIT, .DOM_WAVE_ID_BARRIER_ID, .DOM_WAVE_ID_ENGINES, .DOM_WAVE_PROG_GRANTED, .DOM_WAVE_PROG_STATE, .DOM_WAVE_PROG_WAVE_ARMED, .GLB_VSTK_STATUS_CLAMPED, .GLB_VSTK_STATUS_VSTK_CODE, .PHS_GRP_REF_VREF, .PHS_GRP_TON_TON_BASE, .PHS_PH_STATUS_TRIM] : List Fld)) :
    (State.blockStopDom s d).getF fld itm = s.getF fld itm := by
  try simp only [List.mem_cons, not_or, List.not_mem_nil, not_false_eq_true] at hw
  ((unfold State.blockStopDom); (try simp only []); (repeat' split) <;> (try simp (maxDischargeDepth := 60) [hw, State.when, apply_ite Prod.snd]))

@[simp] theorem State.blockStopDom_parts (s : State) (d : Nat) :
    (State.blockStopDom s d).time = s.time ∧ (State.blockStopDom s d).cfg = s.cfg ∧ (State.blockStopDom s d).flt = s.flt ∧ (State.blockStopDom s d).phs = s.phs ∧ (State.blockStopDom s d).thm = s.thm ∧ (State.blockStopDom s d).hrd = s.hrd ∧ (State.blockStopDom s d).boot = s.boot ∧ (State.blockStopDom s d).adc = s.adc ∧ (State.blockStopDom s d).fw = s.fw ∧ (State.blockStopDom s d).lt = s.lt ∧ (State.blockStopDom s d).pending = s.pending := by
  refine ⟨?_, ?_, ?_, ?_, ?_, ?_, ?_, ?_, ?_, ?_, ?_⟩ <;> ((unfold State.blockStopDom); (try simp only []); (repeat' split) <;> (try simp (maxDischargeDepth := 60) [State.when, apply_ite Prod.snd]))

@[simp] theorem State.blockStopDom_ok (s : State) (d : Nat) (hok : s.fieldsOk) : (State.blockStopDom s d).fieldsOk := by
  ((unfold State.blockStopDom); (try simp only []); (repeat' split) <;> (try simp +contextual (maxDischargeDepth := 60) [hok, State.when, apply_ite Prod.snd]))

@[simp] theorem State.blockStopBegin_parts (s : State) :
    (State.blockStopBegin s).time = s.time ∧ (State.blockStopBegin s).cfg = s.cfg ∧ (State.blockStopBegin s).pending = s.pending := by
  refine ⟨?_, ?_, ?_⟩ <;> (simp (maxDischargeDepth := 60) [State.blockStopBegin, apply_ite Prod.snd])

@[simp] theorem State.blockStopBegin_ok (s : State) (hok : s.fieldsOk) : (State.blockStopBegin s).fieldsOk := by
  simp +contextual (maxDischargeDepth := 60) [State.blockStopBegin, hok, apply_ite Prod.snd]

@[simp] theorem State.aonReset_ok (s : State) (hok : s.fieldsOk) : (State.aonReset s).fieldsOk := by
  exact ⟨List.Pairwise.nil, fun p hp => by cases hp⟩

end Sys2Proof.Machine
end

