-- ==== Sys2Proof/Laws/Meanings.lean ====
section
/-! SUPPORT. What each operation that the meanings of one chapter share can do: the fields it may write, the parts of the state it
keeps, and that it keeps the register table in its canonical form. -/

namespace Sys2Proof.Machine
open Host (Outcome)
set_option maxRecDepth 4000
set_option linter.unusedSimpArgs false
set_option linter.unusedVariables false
set_option linter.unreachableTactic false
set_option linter.unusedTactic false

@[simp] theorem State.urgResult_getF (s : State) (c raw : Nat) (ovr : Bool) (fld : Fld) (itm : Nat) (hw : fld ∉ ([.ADC_URG_RES_BUSY, .ADC_URG_RES_CONV, .ADC_URG_RES_DONE, .ADC_URG_RES_OVR, .ADC_URG_RES_RAW] : List Fld)) :
    (State.urgResult s c raw ovr).getF fld itm = s.getF fld itm := by
  try simp only [List.mem_cons, not_or, List.not_mem_nil, not_false_eq_true] at hw
  first
  | (simp (maxDischargeDepth := 60) [State.urgResult, hw, apply_ite Prod.snd]; done)
  | (simp (maxDischargeDepth := 60) [State.urgResult, hw, State.when, apply_ite Prod.snd]; done)
  | ((unfold State.urgResult); (try simp only []); (repeat' split) <;> (try simp (maxDischargeDepth := 60) [hw, State.when, apply_ite Prod.snd]); done)

@[simp] theorem State.urgResult_parts (s : State) (c raw : Nat) (ovr : Bool) :
    (State.urgResult s c raw ovr).time = s.time ∧ (State.urgResult s c raw ovr).cfg = s.cfg ∧ (State.urgResult s c raw ovr).raiseQ = s.raiseQ ∧ (State.urgResult s c raw ovr).out = s.out ∧ (State.urgResult s c raw ovr).freeCtr = s.freeCtr ∧ (State.urgResult s c raw ovr).flt = s.flt ∧ (State.urgResult s c raw ovr).phs = s.phs ∧ (State.urgResult s c raw ovr).dom = s.dom ∧ (State.urgResult s c raw ovr).eng = s.eng ∧ (State.urgResult s c raw ovr).start = s.start ∧ (State.urgResult s c raw ovr).est = s.est ∧ (State.urgResult s c raw ovr).bud = s.bud ∧ (State.urgResult s c raw ovr).thm = s.thm ∧ (State.urgResult s c raw ovr).hrd = s.hrd ∧ (State.urgResult s c raw ovr).tlm = s.tlm ∧ (State.urgResult s c raw ovr).cmd = s.cmd ∧ (State.urgResult s c raw ovr).boot = s.boot ∧ (State.urgResult s c raw ovr).fw = s.fw ∧ (State.urgResult s c raw ovr).lt = s.lt ∧ (State.urgResult s c raw ovr).pending = s.pending := by
  refine ⟨?_, ?_, ?_, ?_, ?_, ?_, ?_, ?_, ?_, ?_, ?_, ?_, ?_, ?_, ?_, ?_, ?_, ?_, ?_, ?_⟩ <;> first
  | (simp (maxDischargeDepth := 60) [State.urgResult, apply_ite Prod.snd]; done)
  | (simp (maxDischargeDepth := 60) [State.urgResult, State.when, apply_ite Prod.snd]; done)
  | ((unfold State.urgResult); (try simp only []); (repeat' split) <;> (try simp (maxDischargeDepth := 60) [State.when, apply_ite Prod.snd]); done)

@[simp] theorem State.urgResult_ok (s : State) (c raw : Nat) (ovr : Bool) (hok : s.fieldsOk) : (State.urgResult s c raw ovr).fieldsOk := by
  first
  | (simp +contextual (maxDischargeDepth := 60) [State.urgResult, hok, apply_ite Prod.snd]; done)
  | (simp +contextual (maxDischargeDepth := 60) [State.urgResult, hok, State.when, apply_ite Prod.snd]; done)
  | ((unfold State.urgResult); (try simp only []); (repeat' split) <;> (try simp +contextual (maxDischargeDepth := 60) [hok, State.when, apply_ite Prod.snd]); done)

@[simp] theorem State.segFail_getF (s : State) (index : Nat) (fld : Fld) (itm : Nat) (hw : fld ∉ ([.GLB_FAB_STATUS_SEG_FAIL_COUNT] : List Fld)) :
    (State.segFail s index).getF fld itm = s.getF fld itm := by
  try simp only [List.mem_cons, not_or, List.not_mem_nil, not_false_eq_true] at hw
  first
  | (simp (maxDischargeDepth := 60) [State.segFail, hw, apply_ite Prod.snd]; done)
  | (simp (maxDischargeDepth := 60) [State.segFail, hw, State.when, apply_ite Prod.snd]; done)
  | ((unfold State.segFail); (try simp only []); (repeat' split) <;> (try simp (maxDischargeDepth := 60) [hw, State.when, apply_ite Prod.snd]); done)

@[simp] theorem State.segFail_parts (s : State) (index : Nat) :
    (State.segFail s index).time = s.time ∧ (State.segFail s index).cfg = s.cfg ∧ (State.segFail s index).out = s.out ∧ (State.segFail s index).freeCtr = s.freeCtr ∧ (State.segFail s index).flt = s.flt ∧ (State.segFail s index).phs = s.phs ∧ (State.segFail s index).dom = s.dom ∧ (State.segFail s index).eng = s.eng ∧ (State.segFail s index).start = s.start ∧ (State.segFail s index).est = s.est ∧ (State.segFail s index).bud = s.bud ∧ (State.segFail s index).thm = s.thm ∧ (State.segFail s index).hrd = s.hrd ∧ (State.segFail s index).tlm = s.tlm ∧ (State.segFail s index).cmd = s.cmd ∧ (State.segFail s index).boot = s.boot ∧ (State.segFail s index).adc = s.adc ∧ (State.segFail s index).fw = s.fw ∧ (State.segFail s index).lt = s.lt ∧ (State.segFail s index).pending = s.pending := by
  refine ⟨?_, ?_, ?_, ?_, ?_, ?_, ?_, ?_, ?_, ?_, ?_, ?_, ?_, ?_, ?_, ?_, ?_, ?_, ?_, ?_⟩ <;> first
  | (simp (maxDischargeDepth := 60) [State.segFail, apply_ite Prod.snd]; done)
  | (simp (maxDischargeDepth := 60) [State.segFail, State.when, apply_ite Prod.snd]; done)
  | ((unfold State.segFail); (try simp only []); (repeat' split) <;> (try simp (maxDischargeDepth := 60) [State.when, apply_ite Prod.snd]); done)

@[simp] theorem State.segFail_ok (s : State) (index : Nat) (hok : s.fieldsOk) : (State.segFail s index).fieldsOk := by
  first
  | (simp +contextual (maxDischargeDepth := 60) [State.segFail, hok, apply_ite Prod.snd]; done)
  | (simp +contextual (maxDischargeDepth := 60) [State.segFail, hok, State.when, apply_ite Prod.snd]; done)
  | ((unfold State.segFail); (try simp only []); (repeat' split) <;> (try simp +contextual (maxDischargeDepth := 60) [hok, State.when, apply_ite Prod.snd]); done)

@[simp] theorem State.loseEndpoint_getF (s : State) (e : Endpoint) (fld : Fld) (itm : Nat) (hw : fld ∉ ([.ADC_CV_STATUS_FAIL_CAUSE, .ADC_CV_STATUS_LOSS_COUNT, .ADC_CV_STATUS_STATE, .ADC_CV_STATUS_URG, .ADC_EVENT_CV_FAIL, .ADC_EVENT_PAIR_LOST, .ADC_PAIR_STATUS_STATE, .ADC_RES_ST_VALID, .ADC_STATUS_CV_OK, .ADC_STATUS_PAIR_SOLO, .ADC_URG_RES_BUSY, .ADC_URG_RES_REFUSED, .CEL_STATUS_FAIL_CAUSE, .CEL_STATUS_LOSS_COUNT, .CEL_STATUS_SETPT, .CEL_STATUS_STATE, .CE_SLOT_STATUS_SAT, .CMD_NOTICE0_ARG, .CMD_NOTICE0_TYPE, .CMD_NOTICE1_TIME_LO, .CMD_NOTICE_SEQ_NSEQ, .CMD_PART_ID_STATE, .CMD_PART_SLOTS_BUSY, .CMD_PART_SLOTS_NEW, .CMD_PART_SLOTS_NOTICE_NEW, .CRC_EVENT_MISMATCH, .CRC_RESULT_RESULT, .CRC_STATUS_MATCH, .CRC_STATUS_MISMATCH, .CRC_STATUS_MISMATCH_COUNT, .CRC_STATUS_STATE, .CRC_VALUE_VALUE, .DOM_DS_CAUSE, .DOM_DS_VALID, .DOM_EVENT_CELL_FAIL, .DOM_EVENT_DERATE, .DOM_EVENT_DS_INVALID, .DOM_EVENT_FENCE, .DOM_SETPT_VEFF, .DOM_START_STATUS_ARMED, .DOM_START_STATUS_BOOST, .DOM_START_STATUS_PRE_ACTIVE, .DOM_START_STATUS_SLOPE_EFF, .DOM_START_STATUS_WAITING, .DOM_START_STATUS_WAVES, .DOM_STATUS_CEIL, .DOM_STATUS_CELLS_OK, .DOM_STATUS_DROOP_FLOOR, .DOM_STATUS_DS_VALID, .DOM_STATUS_GATE_CLOSED, .DOM_STATUS_READY, .DOM_STATUS_STATE, .DOM_STATUS_STEP, .DOM_STATUS_WAKE_WAIT, .DOM_WAVE_ID_BARRIER_ID, .DOM_WAVE_ID_ENGINES, .DOM_WAVE_PROG_GRANTED, .DOM_WAVE_PROG_STATE, .DOM_WAVE_PROG_WAVE_ARMED, .GLB_TB_STATUS_HERD_SHARED, .GLB_VSTK_STATUS_CLAMPED, .GLB_VSTK_STATUS_VSTK_CODE, .HRD_EVENT_HOLDOVER, .HRD_EVENT_INCOMPLETE, .HRD_EVENT_LINK_LOST, .HRD_EXCL_F_OFF, .HRD_EXCL_STACK_ID, .HRD_EXCL_STATE, .HRD_FREQ_F_GRP, .HRD_FREQ_PEND, .HRD_MEMBERS_EXCL_N, .HRD_MEMBERS_MEMBERS, .HRD_PEND_CHG_SEQ, .HRD_PEND_F_NEW, .HRD_PEND_TICK_HI_CT_HI, .HRD_PEND_TICK_LO_CT_LO, .HRD_PORT_DROPS, .HRD_PORT_UP, .HRD_STATUS_INCOMPLETE, .HRD_STATUS_IS_ROOT, .HRD_STATUS_LEVEL, .HRD_STATUS_OFFSET_MODE, .HRD_STATUS_PORT_UP, .HRD_STATUS_SLEWING, .HRD_STATUS_STATE, .PHS_GRP_REF_VREF, .PHS_GRP_TON_TON_BASE, .PHS_PH_STATUS_TRIM, .THM_COUNT_BROKEN_COUNT, .THM_EVENT_BROKEN, .THM_FUSE_FUSE_OK, .THM_FUSE_T_DIE_MAX, .THM_FUSE_T_DIE_MIN, .THM_SNS_CAUSE, .THM_SNS_DISAGREE, .THM_SNS_STATE] : List Fld)) :
    (State.loseEndpoint s e).getF fld itm = s.getF fld itm := by
  try simp only [List.mem_cons, not_or, List.not_mem_nil, not_false_eq_true] at hw
  first
  | (simp (maxDischargeDepth := 60) [State.loseEndpoint, hw, apply_ite Prod.snd]; done)
  | (simp (maxDischargeDepth := 60) [State.loseEndpoint, hw, State.when, apply_ite Prod.snd]; done)
  | ((unfold State.loseEndpoint); (try simp only []); (repeat' split) <;> (try simp (maxDischargeDepth := 60) [hw, State.when, apply_ite Prod.snd]); done)

@[simp] theorem State.loseEndpoint_parts (s : State) (e : Endpoint) :
    (State.loseEndpoint s e).time = s.time ∧ (State.loseEndpoint s e).cfg = s.cfg ∧ (State.loseEndpoint s e).flt = s.flt ∧ (State.loseEndpoint s e).phs = s.phs ∧ (State.loseEndpoint s e).boot = s.boot ∧ (State.loseEndpoint s e).fw = s.fw ∧ (State.loseEndpoint s e).lt = s.lt ∧ (State.loseEndpoint s e).pending = s.pending := by
  refine ⟨?_, ?_, ?_, ?_, ?_, ?_, ?_, ?_⟩ <;> first
  | (simp (maxDischargeDepth := 60) [State.loseEndpoint, apply_ite Prod.snd]; done)
  | (simp (maxDischargeDepth := 60) [State.loseEndpoint, State.when, apply_ite Prod.snd]; done)
  | ((unfold State.loseEndpoint); (try simp only []); (repeat' split) <;> (try simp (maxDischargeDepth := 60) [State.when, apply_ite Prod.snd]); done)

@[simp] theorem State.loseEndpoint_ok (s : State) (e : Endpoint) (hok : s.fieldsOk) : (State.loseEndpoint s e).fieldsOk := by
  first
  | (simp +contextual (maxDischargeDepth := 60) [State.loseEndpoint, hok, apply_ite Prod.snd]; done)
  | (simp +contextual (maxDischargeDepth := 60) [State.loseEndpoint, hok, State.when, apply_ite Prod.snd]; done)
  | ((unfold State.loseEndpoint); (try simp only []); (repeat' split) <;> (try simp +contextual (maxDischargeDepth := 60) [hok, State.when, apply_ite Prod.snd]); done)

@[simp] theorem State.viaSample_getF (s : State) (vias : List (Nat × Nat)) (fld : Fld) (itm : Nat) (hw : fld ∉ ([.CEL_STATUS_SETPT, .DOM_SETPT_VEFF, .DOM_START_STATUS_SLOPE_EFF, .DOM_STATUS_STEP, .GLB_VSTK_STATUS_CLAMPED, .GLB_VSTK_STATUS_VSTK_CODE, .PHS_GRP_REF_VREF, .PHS_GRP_TON_TON_BASE, .PHS_PH_STATUS_TRIM] : List Fld)) :
    (State.viaSample s vias).getF fld itm = s.getF fld itm := by
  try simp only [List.mem_cons, not_or, List.not_mem_nil, not_false_eq_true] at hw
  first
  | (simp (maxDischargeDepth := 60) [State.viaSample, hw, apply_ite Prod.snd]; done)
  | (simp (maxDischargeDepth := 60) [State.viaSample, hw, State.when, apply_ite Prod.snd]; done)
  | ((unfold State.viaSample); (try simp only []); (repeat' split) <;> (try simp (maxDischargeDepth := 60) [hw, State.when, apply_ite Prod.snd]); done)

@[simp] theorem State.viaSample_parts (s : State) (vias : List (Nat × Nat)) :
    (State.viaSample s vias).time = s.time ∧ (State.viaSample s vias).cfg = s.cfg ∧ (State.viaSample s vias).raiseQ = s.raiseQ ∧ (State.viaSample s vias).freeCtr = s.freeCtr ∧ (State.viaSample s vias).flt = s.flt ∧ (State.viaSample s vias).phs = s.phs ∧ (State.viaSample s vias).eng = s.eng ∧ (State.viaSample s vias).est = s.est ∧ (State.viaSample s vias).thm = s.thm ∧ (State.viaSample s vias).hrd = s.hrd ∧ (State.viaSample s vias).cmd = s.cmd ∧ (State.viaSample s vias).boot = s.boot ∧ (State.viaSample s vias).adc = s.adc ∧ (State.viaSample s vias).fw = s.fw ∧ (State.viaSample s vias).lt = s.lt ∧ (State.viaSample s vias).pending = s.pending := by
  refine ⟨?_, ?_, ?_, ?_, ?_, ?_, ?_, ?_, ?_, ?_, ?_, ?_, ?_, ?_, ?_, ?_⟩ <;> first
  | (simp (maxDischargeDepth := 60) [State.viaSample, apply_ite Prod.snd]; done)
  | (simp (maxDischargeDepth := 60) [State.viaSample, State.when, apply_ite Prod.snd]; done)
  | ((unfold State.viaSample); (try simp only []); (repeat' split) <;> (try simp (maxDischargeDepth := 60) [State.when, apply_ite Prod.snd]); done)

@[simp] theorem State.viaSample_ok (s : State) (vias : List (Nat × Nat)) (hok : s.fieldsOk) : (State.viaSample s vias).fieldsOk := by
  first
  | (simp +contextual (maxDischargeDepth := 60) [State.viaSample, hok, apply_ite Prod.snd]; done)
  | (simp +contextual (maxDischargeDepth := 60) [State.viaSample, hok, State.when, apply_ite Prod.snd]; done)
  | ((unfold State.viaSample); (try simp only []); (repeat' split) <;> (try simp +contextual (maxDischargeDepth := 60) [hok, State.when, apply_ite Prod.snd]); done)

@[simp] theorem State.startRamp_getF (s : State) (d : Nat) (fld : Fld) (itm : Nat) (hw : fld ∉ ([] : List Fld)) :
    (State.startRamp s d).getF fld itm = s.getF fld itm := by
  try simp only [List.mem_cons, not_or, List.not_mem_nil, not_false_eq_true] at hw
  first
  | (simp (maxDischargeDepth := 60) [State.startRamp, hw, apply_ite Prod.snd]; done)
  | (simp (maxDischargeDepth := 60) [State.startRamp, hw, State.when, apply_ite Prod.snd]; done)
  | ((unfold State.startRamp); (try simp only []); (repeat' split) <;> (try simp (maxDischargeDepth := 60) [hw, State.when, apply_ite Prod.snd]); done)

@[simp] theorem State.startRamp_parts (s : State) (d : Nat) :
    (State.startRamp s d).time = s.time ∧ (State.startRamp s d).cfg = s.cfg ∧ (State.startRamp s d).raiseQ = s.raiseQ ∧ (State.startRamp s d).out = s.out ∧ (State.startRamp s d).freeCtr = s.freeCtr ∧ (State.startRamp s d).flt = s.flt ∧ (State.startRamp s d).phs = s.phs ∧ (State.startRamp s d).eng = s.eng ∧ (State.startRamp s d).start = s.start ∧ (State.startRamp s d).est = s.est ∧ (State.startRamp s d).bud = s.bud ∧ (State.startRamp s d).thm = s.thm ∧ (State.startRamp s d).hrd = s.hrd ∧ (State.startRamp s d).tlm = s.tlm ∧ (State.startRamp s d).cmd = s.cmd ∧ (State.startRamp s d).boot = s.boot ∧ (State.startRamp s d).adc = s.adc ∧ (State.startRamp s d).fw = s.fw ∧ (State.startRamp s d).lt = s.lt ∧ (State.startRamp s d).pending = s.pending := by
  refine ⟨?_, ?_, ?_, ?_, ?_, ?_, ?_, ?_, ?_, ?_, ?_, ?_, ?_, ?_, ?_, ?_, ?_, ?_, ?_, ?_⟩ <;> first
  | (simp (maxDischargeDepth := 60) [State.startRamp, apply_ite Prod.snd]; done)
  | (simp (maxDischargeDepth := 60) [State.startRamp, State.when, apply_ite Prod.snd]; done)
  | ((unfold State.startRamp); (try simp only []); (repeat' split) <;> (try simp (maxDischargeDepth := 60) [State.when, apply_ite Prod.snd]); done)

@[simp] theorem State.startRamp_ok (s : State) (d : Nat) (hok : s.fieldsOk) : (State.startRamp s d).fieldsOk := by
  first
  | (simp +contextual (maxDischargeDepth := 60) [State.startRamp, hok, apply_ite Prod.snd]; done)
  | (simp +contextual (maxDischargeDepth := 60) [State.startRamp, hok, State.when, apply_ite Prod.snd]; done)
  | ((unfold State.startRamp); (try simp only []); (repeat' split) <;> (try simp +contextual (maxDischargeDepth := 60) [hok, State.when, apply_ite Prod.snd]); done)

@[simp] theorem State.evalSlotBut_getF (s : State) (missed : List (Nat × Nat)) (n : Nat) (fld : Fld) (itm : Nat) (hw : fld ∉ ([.CEL_STATUS_SETPT, .CE_SLOT_EVAL_TICK_LO, .CE_SLOT_STATUS_SAT, .DOM_SETPT_VEFF, .DOM_START_STATUS_PRE_ACTIVE, .DOM_START_STATUS_SLOPE_EFF, .DOM_STATUS_STEP, .GLB_VSTK_STATUS_CLAMPED, .GLB_VSTK_STATUS_VSTK_CODE, .PHS_GRP_REF_VREF, .PHS_GRP_TON_TON_BASE, .PHS_PH_STATUS_TRIM] : List Fld)) :
    (State.evalSlotBut s missed n).getF fld itm = s.getF fld itm := by
  try simp only [List.mem_cons, not_or, List.not_mem_nil, not_false_eq_true] at hw
  first
  | (simp (maxDischargeDepth := 60) [State.evalSlotBut, hw, apply_ite Prod.snd]; done)
  | (simp (maxDischargeDepth := 60) [State.evalSlotBut, hw, State.when, apply_ite Prod.snd]; done)
  | ((unfold State.evalSlotBut); (try simp only []); (repeat' split) <;> (try simp (maxDischargeDepth := 60) [hw, State.when, apply_ite Prod.snd]); done)

@[simp] theorem State.evalSlotBut_parts (s : State) (missed : List (Nat × Nat)) (n : Nat) :
    (State.evalSlotBut s missed n).time = s.time ∧ (State.evalSlotBut s missed n).cfg = s.cfg ∧ (State.evalSlotBut s missed n).raiseQ = s.raiseQ ∧ (State.evalSlotBut s missed n).flt = s.flt ∧ (State.evalSlotBut s missed n).phs = s.phs ∧ (State.evalSlotBut s missed n).est = s.est ∧ (State.evalSlotBut s missed n).thm = s.thm ∧ (State.evalSlotBut s missed n).hrd = s.hrd ∧ (State.evalSlotBut s missed n).cmd = s.cmd ∧ (State.evalSlotBut s missed n).boot = s.boot ∧ (State.evalSlotBut s missed n).adc = s.adc ∧ (State.evalSlotBut s missed n).fw = s.fw ∧ (State.evalSlotBut s missed n).lt = s.lt ∧ (State.evalSlotBut s missed n).pending = s.pending := by
  refine ⟨?_, ?_, ?_, ?_, ?_, ?_, ?_, ?_, ?_, ?_, ?_, ?_, ?_, ?_⟩ <;> first
  | (simp (maxDischargeDepth := 60) [State.evalSlotBut, apply_ite Prod.snd]; done)
  | (simp (maxDischargeDepth := 60) [State.evalSlotBut, State.when, apply_ite Prod.snd]; done)
  | ((unfold State.evalSlotBut); (try simp only []); (repeat' split) <;> (try simp (maxDischargeDepth := 60) [State.when, apply_ite Prod.snd]); done)

@[simp] theorem State.evalSlotBut_ok (s : State) (missed : List (Nat × Nat)) (n : Nat) (hok : s.fieldsOk) : (State.evalSlotBut s missed n).fieldsOk := by
  first
  | (simp +contextual (maxDischargeDepth := 60) [State.evalSlotBut, hok, apply_ite Prod.snd]; done)
  | (simp +contextual (maxDischargeDepth := 60) [State.evalSlotBut, hok, State.when, apply_ite Prod.snd]; done)
  | ((unfold State.evalSlotBut); (try simp only []); (repeat' split) <;> (try simp +contextual (maxDischargeDepth := 60) [hok, State.when, apply_ite Prod.snd]); done)

@[simp] theorem State.evalClass_getF (s : State) (c missed : Nat) (fld : Fld) (itm : Nat) (hw : fld ∉ ([.CEL_STATUS_SETPT, .CE_SLOT_EVAL_TICK_LO, .CE_SLOT_STATUS_SAT, .DOM_SETPT_VEFF, .DOM_START_STATUS_PRE_ACTIVE, .DOM_START_STATUS_SLOPE_EFF, .DOM_STATUS_STEP, .GLB_VSTK_STATUS_CLAMPED, .GLB_VSTK_STATUS_VSTK_CODE, .PHS_GRP_REF_VREF, .PHS_GRP_TON_TON_BASE, .PHS_PH_STATUS_TRIM] : List Fld)) :
    (State.evalClass s c missed).getF fld itm = s.getF fld itm := by
  try simp only [List.mem_cons, not_or, List.not_mem_nil, not_false_eq_true] at hw
  first
  | (simp (maxDischargeDepth := 60) [State.evalClass, hw, apply_ite Prod.snd]; done)
  | (simp (maxDischargeDepth := 60) [State.evalClass, hw, State.when, apply_ite Prod.snd]; done)
  | ((unfold State.evalClass); (try simp only []); (repeat' split) <;> (try simp (maxDischargeDepth := 60) [hw, State.when, apply_ite Prod.snd]); done)

@[simp] theorem State.evalClass_parts (s : State) (c missed : Nat) :
    (State.evalClass s c missed).time = s.time ∧ (State.evalClass s c missed).cfg = s.cfg ∧ (State.evalClass s c missed).raiseQ = s.raiseQ ∧ (State.evalClass s c missed).flt = s.flt ∧ (State.evalClass s c missed).phs = s.phs ∧ (State.evalClass s c missed).est = s.est ∧ (State.evalClass s c missed).thm = s.thm ∧ (State.evalClass s c missed).hrd = s.hrd ∧ (State.evalClass s c missed).cmd = s.cmd ∧ (State.evalClass s c missed).boot = s.boot ∧ (State.evalClass s c missed).adc = s.adc ∧ (State.evalClass s c missed).fw = s.fw ∧ (State.evalClass s c missed).lt = s.lt ∧ (State.evalClass s c missed).pending = s.pending := by
  refine ⟨?_, ?_, ?_, ?_, ?_, ?_, ?_, ?_, ?_, ?_, ?_, ?_, ?_, ?_⟩ <;> first
  | (simp (maxDischargeDepth := 60) [State.evalClass, apply_ite Prod.snd]; done)
  | (simp (maxDischargeDepth := 60) [State.evalClass, State.when, apply_ite Prod.snd]; done)
  | ((unfold State.evalClass); (try simp only []); (repeat' split) <;> (try simp (maxDischargeDepth := 60) [State.when, apply_ite Prod.snd]); done)

@[simp] theorem State.evalClass_ok (s : State) (c missed : Nat) (hok : s.fieldsOk) : (State.evalClass s c missed).fieldsOk := by
  first
  | (simp +contextual (maxDischargeDepth := 60) [State.evalClass, hok, apply_ite Prod.snd]; done)
  | (simp +contextual (maxDischargeDepth := 60) [State.evalClass, hok, State.when, apply_ite Prod.snd]; done)
  | ((unfold State.evalClass); (try simp only []); (repeat' split) <;> (try simp +contextual (maxDischargeDepth := 60) [hok, State.when, apply_ite Prod.snd]); done)

@[simp] theorem State.checkLoad_getF (s : State) (fld : Fld) (itm : Nat) (hw : fld ∉ ([] : List Fld)) :
    (State.checkLoad s).getF fld itm = s.getF fld itm := by
  try simp only [List.mem_cons, not_or, List.not_mem_nil, not_false_eq_true] at hw
  first
  | (simp (maxDischargeDepth := 60) [State.checkLoad, hw, apply_ite Prod.snd]; done)
  | (simp (maxDischargeDepth := 60) [State.checkLoad, hw, State.when, apply_ite Prod.snd]; done)
  | ((unfold State.checkLoad); (try simp only []); (repeat' split) <;> (try simp (maxDischargeDepth := 60) [hw, State.when, apply_ite Prod.snd]); done)

@[simp] theorem State.checkLoad_parts (s : State) :
    (State.checkLoad s).time = s.time ∧ (State.checkLoad s).cfg = s.cfg ∧ (State.checkLoad s).out = s.out ∧ (State.checkLoad s).freeCtr = s.freeCtr ∧ (State.checkLoad s).flt = s.flt ∧ (State.checkLoad s).phs = s.phs ∧ (State.checkLoad s).dom = s.dom ∧ (State.checkLoad s).eng = s.eng ∧ (State.checkLoad s).start = s.start ∧ (State.checkLoad s).est = s.est ∧ (State.checkLoad s).bud = s.bud ∧ (State.checkLoad s).thm = s.thm ∧ (State.checkLoad s).hrd = s.hrd ∧ (State.checkLoad s).tlm = s.tlm ∧ (State.checkLoad s).cmd = s.cmd ∧ (State.checkLoad s).boot = s.boot ∧ (State.checkLoad s).adc = s.adc ∧ (State.checkLoad s).fw = s.fw ∧ (State.checkLoad s).lt = s.lt ∧ (State.checkLoad s).pending = s.pending := by
  refine ⟨?_, ?_, ?_, ?_, ?_, ?_, ?_, ?_, ?_, ?_, ?_, ?_, ?_, ?_, ?_, ?_, ?_, ?_, ?_, ?_⟩ <;> first
  | (simp (maxDischargeDepth := 60) [State.checkLoad, apply_ite Prod.snd]; done)
  | (simp (maxDischargeDepth := 60) [State.checkLoad, State.when, apply_ite Prod.snd]; done)
  | ((unfold State.checkLoad); (try simp only []); (repeat' split) <;> (try simp (maxDischargeDepth := 60) [State.when, apply_ite Prod.snd]); done)

@[simp] theorem State.checkLoad_ok (s : State) (hok : s.fieldsOk) : (State.checkLoad s).fieldsOk := by
  first
  | (simp +contextual (maxDischargeDepth := 60) [State.checkLoad, hok, apply_ite Prod.snd]; done)
  | (simp +contextual (maxDischargeDepth := 60) [State.checkLoad, hok, State.when, apply_ite Prod.snd]; done)
  | ((unfold State.checkLoad); (try simp only []); (repeat' split) <;> (try simp +contextual (maxDischargeDepth := 60) [hok, State.when, apply_ite Prod.snd]); done)

@[simp] theorem State.setOpen_getF (s : State) (n : Nat) (b : Bool) (fld : Fld) (itm : Nat) (hw : fld ∉ ([.CE_SD_CTRL_OPEN, .CE_SLOT_STATUS_OPEN_ST] : List Fld)) :
    (State.setOpen s n b).getF fld itm = s.getF fld itm := by
  try simp only [List.mem_cons, not_or, List.not_mem_nil, not_false_eq_true] at hw
  first
  | (simp (maxDischargeDepth := 60) [State.setOpen, hw, apply_ite Prod.snd]; done)
  | (simp (maxDischargeDepth := 60) [State.setOpen, hw, State.when, apply_ite Prod.snd]; done)
  | ((unfold State.setOpen); (try simp only []); (repeat' split) <;> (try simp (maxDischargeDepth := 60) [hw, State.when, apply_ite Prod.snd]); done)

@[simp] theorem State.setOpen_parts (s : State) (n : Nat) (b : Bool) :
    (State.setOpen s n b).time = s.time ∧ (State.setOpen s n b).cfg = s.cfg ∧ (State.setOpen s n b).raiseQ = s.raiseQ ∧ (State.setOpen s n b).out = s.out ∧ (State.setOpen s n b).freeCtr = s.freeCtr ∧ (State.setOpen s n b).flt = s.flt ∧ (State.setOpen s n b).phs = s.phs ∧ (State.setOpen s n b).dom = s.dom ∧ (State.setOpen s n b).start = s.start ∧ (State.setOpen s n b).est = s.est ∧ (State.setOpen s n b).bud = s.bud ∧ (State.setOpen s n b).thm = s.thm ∧ (State.setOpen s n b).hrd = s.hrd ∧ (State.setOpen s n b).tlm = s.tlm ∧ (State.setOpen s n b).cmd = s.cmd ∧ (State.setOpen s n b).boot = s.boot ∧ (State.setOpen s n b).adc = s.adc ∧ (State.setOpen s n b).fw = s.fw ∧ (State.setOpen s n b).lt = s.lt ∧ (State.setOpen s n b).pending = s.pending := by
  refine ⟨?_, ?_, ?_, ?_, ?_, ?_, ?_, ?_, ?_, ?_, ?_, ?_, ?_, ?_, ?_, ?_, ?_, ?_, ?_, ?_⟩ <;> first
  | (simp (maxDischargeDepth := 60) [State.setOpen, apply_ite Prod.snd]; done)
  | (simp (maxDischargeDepth := 60) [State.setOpen, State.when, apply_ite Prod.snd]; done)
  | ((unfold State.setOpen); (try simp only []); (repeat' split) <;> (try simp (maxDischargeDepth := 60) [State.when, apply_ite Prod.snd]); done)

@[simp] theorem State.setOpen_ok (s : State) (n : Nat) (b : Bool) (hok : s.fieldsOk) : (State.setOpen s n b).fieldsOk := by
  first
  | (simp +contextual (maxDischargeDepth := 60) [State.setOpen, hok, apply_ite Prod.snd]; done)
  | (simp +contextual (maxDischargeDepth := 60) [State.setOpen, hok, State.when, apply_ite Prod.snd]; done)
  | ((unfold State.setOpen); (try simp only []); (repeat' split) <;> (try simp +contextual (maxDischargeDepth := 60) [hok, State.when, apply_ite Prod.snd]); done)

@[simp] theorem State.closeSlot_getF (s : State) (n : Nat) (fld : Fld) (itm : Nat) (hw : fld ∉ ([.CE_SD_CTRL_OPEN, .CE_SLOT_STATUS_OPEN_ST] : List Fld)) :
    (State.closeSlot s n).getF fld itm = s.getF fld itm := by
  try simp only [List.mem_cons, not_or, List.not_mem_nil, not_false_eq_true] at hw
  first
  | (simp (maxDischargeDepth := 60) [State.closeSlot, hw, apply_ite Prod.snd]; done)
  | (simp (maxDischargeDepth := 60) [State.closeSlot, hw, State.when, apply_ite Prod.snd]; done)
  | ((unfold State.closeSlot); (try simp only []); (repeat' split) <;> (try simp (maxDischargeDepth := 60) [hw, State.when, apply_ite Prod.snd]); done)

@[simp] theorem State.closeSlot_parts (s : State) (n : Nat) :
    (State.closeSlot s n).time = s.time ∧ (State.closeSlot s n).cfg = s.cfg ∧ (State.closeSlot s n).raiseQ = s.raiseQ ∧ (State.closeSlot s n).out = s.out ∧ (State.closeSlot s n).freeCtr = s.freeCtr ∧ (State.closeSlot s n).flt = s.flt ∧ (State.closeSlot s n).phs = s.phs ∧ (State.closeSlot s n).dom = s.dom ∧ (State.closeSlot s n).start = s.start ∧ (State.closeSlot s n).est = s.est ∧ (State.closeSlot s n).bud = s.bud ∧ (State.closeSlot s n).thm = s.thm ∧ (State.closeSlot s n).hrd = s.hrd ∧ (State.closeSlot s n).tlm = s.tlm ∧ (State.closeSlot s n).cmd = s.cmd ∧ (State.closeSlot s n).boot = s.boot ∧ (State.closeSlot s n).adc = s.adc ∧ (State.closeSlot s n).fw = s.fw ∧ (State.closeSlot s n).lt = s.lt ∧ (State.closeSlot s n).pending = s.pending := by
  refine ⟨?_, ?_, ?_, ?_, ?_, ?_, ?_, ?_, ?_, ?_, ?_, ?_, ?_, ?_, ?_, ?_, ?_, ?_, ?_, ?_⟩ <;> first
  | (simp (maxDischargeDepth := 60) [State.closeSlot, apply_ite Prod.snd]; done)
  | (simp (maxDischargeDepth := 60) [State.closeSlot, State.when, apply_ite Prod.snd]; done)
  | ((unfold State.closeSlot); (try simp only []); (repeat' split) <;> (try simp (maxDischargeDepth := 60) [State.when, apply_ite Prod.snd]); done)

@[simp] theorem State.closeSlot_ok (s : State) (n : Nat) (hok : s.fieldsOk) : (State.closeSlot s n).fieldsOk := by
  first
  | (simp +contextual (maxDischargeDepth := 60) [State.closeSlot, hok, apply_ite Prod.snd]; done)
  | (simp +contextual (maxDischargeDepth := 60) [State.closeSlot, hok, State.when, apply_ite Prod.snd]; done)
  | ((unfold State.closeSlot); (try simp only []); (repeat' split) <;> (try simp +contextual (maxDischargeDepth := 60) [hok, State.when, apply_ite Prod.snd]); done)

theorem State.stageOne_getF (s : State) (init : Nat) (l : List Nat) (i : Nat) (t : State) (h : State.stageOne s init l i = .ok t) (fld : Fld) (itm : Nat) (hw : fld ∉ ([.CMD_STATUS_QUEUED, .CMD_STATUS_STORE_USED] : List Fld)) :
    t.getF fld itm = s.getF fld itm := by
  try simp only [List.mem_cons, not_or, List.not_mem_nil, not_false_eq_true] at hw
  unfold State.stageOne at h
  simp only [] at h
  split at h
  · cases h
  · split at h
    · rename_i u hu; cases h; exact State.stageWrite_getF _ _ _ _ _ _ hu _ _ (by simp [hw])
    · cases h
    · cases h

theorem State.stageOne_parts (s : State) (init : Nat) (l : List Nat) (i : Nat) (t : State) (h : State.stageOne s init l i = .ok t) :
    t.time = s.time ∧ t.cfg = s.cfg ∧ t.raiseQ = s.raiseQ ∧ t.out = s.out ∧ t.freeCtr = s.freeCtr ∧ t.flt = s.flt ∧ t.phs = s.phs ∧ t.dom = s.dom ∧ t.eng = s.eng ∧ t.start = s.start ∧ t.est = s.est ∧ t.bud = s.bud ∧ t.thm = s.thm ∧ t.hrd = s.hrd ∧ t.tlm = s.tlm ∧ t.boot = s.boot ∧ t.adc = s.adc ∧ t.fw = s.fw ∧ t.lt = s.lt ∧ t.pending = s.pending := by
  unfold State.stageOne at h
  simp only [] at h
  split at h
  · cases h
  · split at h
    · rename_i u hu; cases h; exact State.stageWrite_parts _ _ _ _ _ _ hu
    · cases h
    · cases h

theorem State.stageOne_ok (s : State) (init : Nat) (l : List Nat) (i : Nat) (t : State) (h : State.stageOne s init l i = .ok t) (hok : s.fieldsOk) : t.fieldsOk := by
  unfold State.stageOne at h
  simp only [] at h
  split at h
  · cases h
  · split at h
    · rename_i u hu; cases h; exact State.stageWrite_ok _ _ _ _ _ _ hu hok
    · cases h
    · cases h

theorem State.stageFold_inv (P : State → Prop) (init : Nat) (l : List Nat) (hP : ∀ u t i, P u → State.stageOne u init l i = .ok t → P t)
    (is : List Nat) (r : Staging) (hr : ∀ u, r = .ok u → P u) (t : State)
    (h : is.foldl (fun r i => r.andThen (fun t => t.stageOne init l i)) r = .ok t) : P t := by
  induction is generalizing r with
  | nil => exact hr t h
  | cons i is ih =>
    refine ih _ (fun u hu => ?_) h
    cases r with
    | ok v => exact hP v u i (hr v rfl) hu
    | full => cases hu
    | bad b => cases hu

theorem State.stageAll_getF (s : State) (init : Nat) (l : List Nat) (n : Nat) (t : State) (h : State.stageAll s init l n = .ok t) (fld : Fld) (itm : Nat) (hw : fld ∉ ([.CMD_STATUS_QUEUED, .CMD_STATUS_STORE_USED] : List Fld)) :
    t.getF fld itm = s.getF fld itm := by
  have hw0 := hw
  try simp only [List.mem_cons, not_or, List.not_mem_nil, not_false_eq_true] at hw
  refine State.stageFold_inv (fun u => u.getF fld itm = s.getF fld itm) init l (fun u t i hu e => ?_) _ _ (fun u e => by cases e; rfl) t h
  rw [State.stageOne_getF _ _ _ _ _ e _ _ (by simp [hw]), hu]

theorem State.stageAll_parts (s : State) (init : Nat) (l : List Nat) (n : Nat) (t : State) (h : State.stageAll s init l n = .ok t) :
    t.time = s.time ∧ t.cfg = s.cfg ∧ t.raiseQ = s.raiseQ ∧ t.out = s.out ∧ t.freeCtr = s.freeCtr ∧ t.flt = s.flt ∧ t.phs = s.phs ∧ t.dom = s.dom ∧ t.eng = s.eng ∧ t.start = s.start ∧ t.est = s.est ∧ t.bud = s.bud ∧ t.thm = s.thm ∧ t.hrd = s.hrd ∧ t.tlm = s.tlm ∧ t.boot = s.boot ∧ t.adc = s.adc ∧ t.fw = s.fw ∧ t.lt = s.lt ∧ t.pending = s.pending := by
  refine State.stageFold_inv (fun t => t.time = s.time ∧ t.cfg = s.cfg ∧ t.raiseQ = s.raiseQ ∧ t.out = s.out ∧ t.freeCtr = s.freeCtr ∧ t.flt = s.flt ∧ t.phs = s.phs ∧ t.dom = s.dom ∧ t.eng = s.eng ∧ t.start = s.start ∧ t.est = s.est ∧ t.bud = s.bud ∧ t.thm = s.thm ∧ t.hrd = s.hrd ∧ t.tlm = s.tlm ∧ t.boot = s.boot ∧ t.adc = s.adc ∧ t.fw = s.fw ∧ t.lt = s.lt ∧ t.pending = s.pending) init l (fun u t i hu e => ?_) _ _ (fun u e => by cases e; simp) t h
  have h2 := State.stageOne_parts _ _ _ _ _ e
  simp [h2, hu]

theorem State.stageAll_ok (s : State) (init : Nat) (l : List Nat) (n : Nat) (t : State) (h : State.stageAll s init l n = .ok t) (hok : s.fieldsOk) : t.fieldsOk := by
  refine State.stageFold_inv (fun u => u.fieldsOk) init l (fun u t i hu e => ?_) _ _ (fun u e => by cases e; exact hok) t h
  exact State.stageOne_ok _ _ _ _ _ e hu

@[simp] theorem State.stageRegister_getF (s : State) (init off value : Nat) (fld : Fld) (itm : Nat) (hw : fld ∉ ([.CMD_EVENT_STORE_FULL, .CMD_STATUS_QUEUED, .CMD_STATUS_STORE_USED] : List Fld)) :
    (State.stageRegister s init off value).getF fld itm = s.getF fld itm := by
  try simp only [List.mem_cons, not_or, List.not_mem_nil, not_false_eq_true] at hw
  unfold State.stageRegister
  simp only []
  split
  · rfl
  · split
    · rfl
    · split
      · rename_i u hu; exact State.stageEntry_getF _ _ _ _ hu _ _ (by simp [hw])
      · simp (maxDischargeDepth := 60) [hw]
      · rfl

@[simp] theorem State.stageRegister_parts (s : State) (init off value : Nat) :
    (State.stageRegister s init off value).time = s.time ∧ (State.stageRegister s init off value).cfg = s.cfg ∧ (State.stageRegister s init off value).out = s.out ∧ (State.stageRegister s init off value).freeCtr = s.freeCtr ∧ (State.stageRegister s init off value).flt = s.flt ∧ (State.stageRegister s init off value).phs = s.phs ∧ (State.stageRegister s init off value).dom = s.dom ∧ (State.stageRegister s init off value).eng = s.eng ∧ (State.stageRegister s init off value).start = s.start ∧ (State.stageRegister s init off value).est = s.est ∧ (State.stageRegister s init off value).bud = s.bud ∧ (State.stageRegister s init off value).thm = s.thm ∧ (State.stageRegister s init off value).hrd = s.hrd ∧ (State.stageRegister s init off value).tlm = s.tlm ∧ (State.stageRegister s init off value).boot = s.boot ∧ (State.stageRegister s init off value).adc = s.adc ∧ (State.stageRegister s init off value).fw = s.fw ∧ (State.stageRegister s init off value).lt = s.lt ∧ (State.stageRegister s init off value).pending = s.pending := by
  unfold State.stageRegister
  simp only []
  split
  · simp
  · split
    · simp
    · split
      · rename_i u hu; have h2 := State.stageEntry_parts _ _ _ _ hu; simp [h2]
      · simp (maxDischargeDepth := 60)
      · simp

@[simp] theorem State.stageRegister_ok (s : State) (init off value : Nat) (hok : s.fieldsOk) : (State.stageRegister s init off value).fieldsOk := by
  unfold State.stageRegister
  simp only []
  split
  · exact hok
  · split
    · exact hok
    · split
      · rename_i u hu; exact State.stageEntry_ok _ _ _ _ hu hok
      · simp (maxDischargeDepth := 60) [hok]
      · exact hok

@[simp] theorem State.showDirect_getF (s : State) (init st id : Nat) (fld : Fld) (itm : Nat) (hw : fld ∉ ([.CMD_COMMIT_ST_INITIATOR, .CMD_COMMIT_ST_RUN_ID, .CMD_COMMIT_ST_STATUS] : List Fld)) :
    (State.showDirect s init st id).getF fld itm = s.getF fld itm := by
  try simp only [List.mem_cons, not_or, List.not_mem_nil, not_false_eq_true] at hw
  first
  | (simp (maxDischargeDepth := 60) [State.showDirect, hw, apply_ite Prod.snd]; done)
  | (simp (maxDischargeDepth := 60) [State.showDirect, hw, State.when, apply_ite Prod.snd]; done)
  | ((unfold State.showDirect); (try simp only []); (repeat' split) <;> (try simp (maxDischargeDepth := 60) [hw, State.when, apply_ite Prod.snd]); done)

@[simp] theorem State.showDirect_parts (s : State) (init st id : Nat) :
    (State.showDirect s init st id).time = s.time ∧ (State.showDirect s init st id).cfg = s.cfg ∧ (State.showDirect s init st id).raiseQ = s.raiseQ ∧ (State.showDirect s init st id).out = s.out ∧ (State.showDirect s init st id).freeCtr = s.freeCtr ∧ (State.showDirect s init st id).flt = s.flt ∧ (State.showDirect s init st id).phs = s.phs ∧ (State.showDirect s init st id).dom = s.dom ∧ (State.showDirect s init st id).eng = s.eng ∧ (State.showDirect s init st id).start = s.start ∧ (State.showDirect s init st id).est = s.est ∧ (State.showDirect s init st id).bud = s.bud ∧ (State.showDirect s init st id).thm = s.thm ∧ (State.showDirect s init st id).hrd = s.hrd ∧ (State.showDirect s init st id).tlm = s.tlm ∧ (State.showDirect s init st id).cmd = s.cmd ∧ (State.showDirect s init st id).boot = s.boot ∧ (State.showDirect s init st id).adc = s.adc ∧ (State.showDirect s init st id).fw = s.fw ∧ (State.showDirect s init st id).lt = s.lt ∧ (State.showDirect s init st id).pending = s.pending := by
  refine ⟨?_, ?_, ?_, ?_, ?_, ?_, ?_, ?_, ?_, ?_, ?_, ?_, ?_, ?_, ?_, ?_, ?_, ?_, ?_, ?_, ?_⟩ <;> first
  | (simp (maxDischargeDepth := 60) [State.showDirect, apply_ite Prod.snd]; done)
  | (simp (maxDischargeDepth := 60) [State.showDirect, State.when, apply_ite Prod.snd]; done)
  | ((unfold State.showDirect); (try simp only []); (repeat' split) <;> (try simp (maxDischargeDepth := 60) [State.when, apply_ite Prod.snd]); done)

@[simp] theorem State.showDirect_ok (s : State) (init st id : Nat) (hok : s.fieldsOk) : (State.showDirect s init st id).fieldsOk := by
  first
  | (simp +contextual (maxDischargeDepth := 60) [State.showDirect, hok, apply_ite Prod.snd]; done)
  | (simp +contextual (maxDischargeDepth := 60) [State.showDirect, hok, State.when, apply_ite Prod.snd]; done)
  | ((unfold State.showDirect); (try simp only []); (repeat' split) <;> (try simp +contextual (maxDischargeDepth := 60) [hok, State.when, apply_ite Prod.snd]); done)

@[simp] theorem State.abortHead_getF (s : State) (k : Nat) (r : Run) (fld : Fld) (itm : Nat) (hw : fld ∉ ([.CMD_COMMIT_ST_STATUS, .CMD_NOTICE0_ARG, .CMD_NOTICE0_TYPE, .CMD_NOTICE1_TIME_LO, .CMD_NOTICE_SEQ_NSEQ, .CMD_PART_ID_STATE, .CMD_PART_SLOTS_BUSY, .CMD_PART_SLOTS_NEW, .CMD_PART_SLOTS_NOTICE_NEW, .CMD_RUN_EPOCH, .CMD_RUN_EPOCHS_M1, .CMD_RUN_RETUNE, .CMD_RUN_RUN_ID, .CMD_RUN_STATE, .CMD_STATUS_QUEUED, .CMD_STATUS_STORE_USED, .CRC_EVENT_MISMATCH, .CRC_RESULT_RESULT, .CRC_STATUS_MATCH, .CRC_STATUS_MISMATCH, .CRC_STATUS_MISMATCH_COUNT, .CRC_STATUS_STATE, .CRC_VALUE_VALUE] : List Fld)) :
    (State.abortHead s k r).getF fld itm = s.getF fld itm := by
  try simp only [List.mem_cons, not_or, List.not_mem_nil, not_false_eq_true] at hw
  first
  | (simp (maxDischargeDepth := 60) [State.abortHead, hw, apply_ite Prod.snd]; done)
  | (simp (maxDischargeDepth := 60) [State.abortHead, hw, State.when, apply_ite Prod.snd]; done)
  | ((unfold State.abortHead); (try simp only []); (repeat' split) <;> (try simp (maxDischargeDepth := 60) [hw, State.when, apply_ite Prod.snd]); done)

@[simp] theorem State.abortHead_parts (s : State) (k : Nat) (r : Run) :
    (State.abortHead s k r).time = s.time ∧ (State.abortHead s k r).cfg = s.cfg ∧ (State.abortHead s k r).raiseQ = s.raiseQ ∧ (State.abortHead s k r).freeCtr = s.freeCtr ∧ (State.abortHead s k r).flt = s.flt ∧ (State.abortHead s k r).phs = s.phs ∧ (State.abortHead s k r).dom = s.dom ∧ (State.abortHead s k r).eng = s.eng ∧ (State.abortHead s k r).start = s.start ∧ (State.abortHead s k r).est = s.est ∧ (State.abortHead s k r).bud = s.bud ∧ (State.abortHead s k r).thm = s.thm ∧ (State.abortHead s k r).hrd = s.hrd ∧ (State.abortHead s k r).tlm = s.tlm ∧ (State.abortHead s k r).boot = s.boot ∧ (State.abortHead s k r).adc = s.adc ∧ (State.abortHead s k r).lt = s.lt ∧ (State.abortHead s k r).pending = s.pending := by
  refine ⟨?_, ?_, ?_, ?_, ?_, ?_, ?_, ?_, ?_, ?_, ?_, ?_, ?_, ?_, ?_, ?_, ?_, ?_⟩ <;> first
  | (simp (maxDischargeDepth := 60) [State.abortHead, apply_ite Prod.snd]; done)
  | (simp (maxDischargeDepth := 60) [State.abortHead, State.when, apply_ite Prod.snd]; done)
  | ((unfold State.abortHead); (try simp only []); (repeat' split) <;> (try simp (maxDischargeDepth := 60) [State.when, apply_ite Prod.snd]); done)

@[simp] theorem State.abortHead_ok (s : State) (k : Nat) (r : Run) (hok : s.fieldsOk) : (State.abortHead s k r).fieldsOk := by
  first
  | (simp +contextual (maxDischargeDepth := 60) [State.abortHead, hok, apply_ite Prod.snd]; done)
  | (simp +contextual (maxDischargeDepth := 60) [State.abortHead, hok, State.when, apply_ite Prod.snd]; done)
  | ((unfold State.abortHead); (try simp only []); (repeat' split) <;> (try simp +contextual (maxDischargeDepth := 60) [hok, State.when, apply_ite Prod.snd]); done)

@[simp] theorem State.dropQueued_getF (s : State) (q : Run) (fld : Fld) (itm : Nat) (hw : fld ∉ ([.CMD_COMMIT_ST_STATUS, .CMD_PART_ID_STATE, .CMD_PART_SLOTS_BUSY, .CMD_PART_SLOTS_NEW, .CMD_STATUS_QUEUED, .CMD_STATUS_STORE_USED, .CRC_EVENT_MISMATCH, .CRC_RESULT_RESULT, .CRC_STATUS_MATCH, .CRC_STATUS_MISMATCH, .CRC_STATUS_MISMATCH_COUNT, .CRC_STATUS_STATE, .CRC_VALUE_VALUE] : List Fld)) :
    (State.dropQueued s q).getF fld itm = s.getF fld itm := by
  try simp only [List.mem_cons, not_or, List.not_mem_nil, not_false_eq_true] at hw
  first
  | (simp (maxDischargeDepth := 60) [State.dropQueued, hw, apply_ite Prod.snd]; done)
  | (simp (maxDischargeDepth := 60) [State.dropQueued, hw, State.when, apply_ite Prod.snd]; done)
  | ((unfold State.dropQueued); (try simp only []); (repeat' split) <;> (try simp (maxDischargeDepth := 60) [hw, State.when, apply_ite Prod.snd]); done)

@[simp] theorem State.dropQueued_parts (s : State) (q : Run) :
    (State.dropQueued s q).time = s.time ∧ (State.dropQueued s q).cfg = s.cfg ∧ (State.dropQueued s q).raiseQ = s.raiseQ ∧ (State.dropQueued s q).freeCtr = s.freeCtr ∧ (State.dropQueued s q).flt = s.flt ∧ (State.dropQueued s q).phs = s.phs ∧ (State.dropQueued s q).dom = s.dom ∧ (State.dropQueued s q).eng = s.eng ∧ (State.dropQueued s q).start = s.start ∧ (State.dropQueued s q).est = s.est ∧ (State.dropQueued s q).bud = s.bud ∧ (State.dropQueued s q).thm = s.thm ∧ (State.dropQueued s q).hrd = s.hrd ∧ (State.dropQueued s q).tlm = s.tlm ∧ (State.dropQueued s q).boot = s.boot ∧ (State.dropQueued s q).adc = s.adc ∧ (State.dropQueued s q).lt = s.lt ∧ (State.dropQueued s q).pending = s.pending := by
  refine ⟨?_, ?_, ?_, ?_, ?_, ?_, ?_, ?_, ?_, ?_, ?_, ?_, ?_, ?_, ?_, ?_, ?_, ?_⟩ <;> first
  | (simp (maxDischargeDepth := 60) [State.dropQueued, apply_ite Prod.snd]; done)
  | (simp (maxDischargeDepth := 60) [State.dropQueued, State.when, apply_ite Prod.snd]; done)
  | ((unfold State.dropQueued); (try simp only []); (repeat' split) <;> (try simp (maxDischargeDepth := 60) [State.when, apply_ite Prod.snd]); done)

@[simp] theorem State.dropQueued_ok (s : State) (q : Run) (hok : s.fieldsOk) : (State.dropQueued s q).fieldsOk := by
  first
  | (simp +contextual (maxDischargeDepth := 60) [State.dropQueued, hok, apply_ite Prod.snd]; done)
  | (simp +contextual (maxDischargeDepth := 60) [State.dropQueued, hok, State.when, apply_ite Prod.snd]; done)
  | ((unfold State.dropQueued); (try simp only []); (repeat' split) <;> (try simp +contextual (maxDischargeDepth := 60) [hok, State.when, apply_ite Prod.snd]); done)

@[simp] theorem State.ownMode_getF (s : State) (r : Run) (l : List Piece) (fld : Fld) (itm : Nat) (hw : fld ∉ ([.DOM_BUD_CTRL_MODE] : List Fld)) :
    (State.ownMode s r l).getF fld itm = s.getF fld itm := by
  try simp only [List.mem_cons, not_or, List.not_mem_nil, not_false_eq_true] at hw
  first
  | (simp (maxDischargeDepth := 60) [State.ownMode, hw, apply_ite Prod.snd]; done)
  | (simp (maxDischargeDepth := 60) [State.ownMode, hw, State.when, apply_ite Prod.snd]; done)
  | ((unfold State.ownMode); (try simp only []); (repeat' split) <;> (try simp (maxDischargeDepth := 60) [hw, State.when, apply_ite Prod.snd]); done)

@[simp] theorem State.ownMode_parts (s : State) (r : Run) (l : List Piece) :
    (State.ownMode s r l).time = s.time ∧ (State.ownMode s r l).cfg = s.cfg ∧ (State.ownMode s r l).raiseQ = s.raiseQ ∧ (State.ownMode s r l).out = s.out ∧ (State.ownMode s r l).freeCtr = s.freeCtr ∧ (State.ownMode s r l).flt = s.flt ∧ (State.ownMode s r l).phs = s.phs ∧ (State.ownMode s r l).dom = s.dom ∧ (State.ownMode s r l).eng = s.eng ∧ (State.ownMode s r l).start = s.start ∧ (State.ownMode s r l).est = s.est ∧ (State.ownMode s r l).bud = s.bud ∧ (State.ownMode s r l).thm = s.thm ∧ (State.ownMode s r l).hrd = s.hrd ∧ (State.ownMode s r l).tlm = s.tlm ∧ (State.ownMode s r l).boot = s.boot ∧ (State.ownMode s r l).adc = s.adc ∧ (State.ownMode s r l).fw = s.fw ∧ (State.ownMode s r l).lt = s.lt ∧ (State.ownMode s r l).pending = s.pending := by
  refine ⟨?_, ?_, ?_, ?_, ?_, ?_, ?_, ?_, ?_, ?_, ?_, ?_, ?_, ?_, ?_, ?_, ?_, ?_, ?_, ?_⟩ <;> first
  | (simp (maxDischargeDepth := 60) [State.ownMode, apply_ite Prod.snd]; done)
  | (simp (maxDischargeDepth := 60) [State.ownMode, State.when, apply_ite Prod.snd]; done)
  | ((unfold State.ownMode); (try simp only []); (repeat' split) <;> (try simp (maxDischargeDepth := 60) [State.when, apply_ite Prod.snd]); done)

@[simp] theorem State.ownMode_ok (s : State) (r : Run) (l : List Piece) (hok : s.fieldsOk) : (State.ownMode s r l).fieldsOk := by
  first
  | (simp +contextual (maxDischargeDepth := 60) [State.ownMode, hok, apply_ite Prod.snd]; done)
  | (simp +contextual (maxDischargeDepth := 60) [State.ownMode, hok, State.when, apply_ite Prod.snd]; done)
  | ((unfold State.ownMode); (try simp only []); (repeat' split) <;> (try simp +contextual (maxDischargeDepth := 60) [hok, State.when, apply_ite Prod.snd]); done)

@[simp] theorem State.advance_getF (s : State) (fld : Fld) (itm : Nat) (hw : fld ∉ ([.ADC_CV_STATUS_URG, .CMD_NOTICE0_ARG, .CMD_NOTICE0_TYPE, .CMD_NOTICE1_TIME_LO, .CMD_NOTICE_SEQ_NSEQ, .CMD_PART_SLOTS_NOTICE_NEW, .CRC_EVENT_MISMATCH, .CRC_RESULT_RESULT, .CRC_STATUS_MATCH, .CRC_STATUS_MISMATCH, .CRC_STATUS_MISMATCH_COUNT, .CRC_STATUS_STATE, .CRC_VALUE_VALUE, .HRD_EVENT_EXCL_OVF, .HRD_EVENT_EXCL_REQ, .HRD_EVENT_INCOMPLETE, .HRD_EXCL_F_OFF, .HRD_EXCL_STACK_ID, .HRD_EXCL_STATE, .HRD_FREQ_F_GRP, .HRD_FREQ_PEND, .HRD_MEMBERS_EXCL_N, .HRD_MEMBERS_MEMBERS, .HRD_PEND_CHG_SEQ, .HRD_PEND_F_NEW, .HRD_PEND_TICK_HI_CT_HI, .HRD_PEND_TICK_LO_CT_LO, .HRD_STATUS_INCOMPLETE, .HRD_STATUS_SLEWING, .HRD_STATUS_STATE] : List Fld)) :
    (State.advance s).getF fld itm = s.getF fld itm := by
  try simp only [List.mem_cons, not_or, List.not_mem_nil, not_false_eq_true] at hw
  first
  | (simp (maxDischargeDepth := 60) [State.advance, hw, apply_ite Prod.snd]; done)
  | (simp (maxDischargeDepth := 60) [State.advance, hw, State.when, apply_ite Prod.snd]; done)
  | ((unfold State.advance); (try simp only []); (repeat' split) <;> (try simp (maxDischargeDepth := 60) [hw, State.when, apply_ite Prod.snd]); done)

@[simp] theorem State.advance_parts (s : State) :
    (State.advance s).cfg = s.cfg ∧ (State.advance s).flt = s.flt ∧ (State.advance s).phs = s.phs ∧ (State.advance s).dom = s.dom ∧ (State.advance s).eng = s.eng ∧ (State.advance s).start = s.start ∧ (State.advance s).bud = s.bud ∧ (State.advance s).thm = s.thm ∧ (State.advance s).cmd = s.cmd ∧ (State.advance s).boot = s.boot ∧ (State.advance s).fw = s.fw ∧ (State.advance s).lt = s.lt ∧ (State.advance s).pending = s.pending := by
  refine ⟨?_, ?_, ?_, ?_, ?_, ?_, ?_, ?_, ?_, ?_, ?_, ?_, ?_⟩ <;> first
  | (simp (maxDischargeDepth := 60) [State.advance, apply_ite Prod.snd]; done)
  | (simp (maxDischargeDepth := 60) [State.advance, State.when, apply_ite Prod.snd]; done)
  | ((unfold State.advance); (try simp only []); (repeat' split) <;> (try simp (maxDischargeDepth := 60) [State.when, apply_ite Prod.snd]); done)

@[simp] theorem State.advance_ok (s : State) (hok : s.fieldsOk) : (State.advance s).fieldsOk := by
  first
  | (simp +contextual (maxDischargeDepth := 60) [State.advance, hok, apply_ite Prod.snd]; done)
  | (simp +contextual (maxDischargeDepth := 60) [State.advance, hok, State.when, apply_ite Prod.snd]; done)
  | ((unfold State.advance); (try simp only []); (repeat' split) <;> (try simp +contextual (maxDischargeDepth := 60) [hok, State.when, apply_ite Prod.snd]); done)

@[simp] theorem State.takeBlock_getF (s : State) (k b : Nat) (p : Packet) (fld : Fld) (itm : Nat) (hw : fld ∉ ([.CMD_PART_ID_STATE, .CMD_PART_SLOTS_BUSY, .CMD_PART_SLOTS_NEW, .CRC_EVENT_MISMATCH, .CRC_RESULT_RESULT, .CRC_STATUS_MATCH, .CRC_STATUS_MISMATCH, .CRC_STATUS_MISMATCH_COUNT, .CRC_STATUS_STATE, .CRC_VALUE_VALUE, .GLB_FW_IMG_BYTES] : List Fld)) :
    (State.takeBlock s k b p).getF fld itm = s.getF fld itm := by
  try simp only [List.mem_cons, not_or, List.not_mem_nil, not_false_eq_true] at hw
  first
  | (simp (maxDischargeDepth := 60) [State.takeBlock, hw, apply_ite Prod.snd]; done)
  | (simp (maxDischargeDepth := 60) [State.takeBlock, hw, State.when, apply_ite Prod.snd]; done)
  | ((unfold State.takeBlock); (try simp only []); (repeat' split) <;> (try simp (maxDischargeDepth := 60) [hw, State.when, apply_ite Prod.snd]); done)

@[simp] theorem State.takeBlock_parts (s : State) (k b : Nat) (p : Packet) :
    (State.takeBlock s k b p).time = s.time ∧ (State.takeBlock s k b p).cfg = s.cfg ∧ (State.takeBlock s k b p).raiseQ = s.raiseQ ∧ (State.takeBlock s k b p).freeCtr = s.freeCtr ∧ (State.takeBlock s k b p).flt = s.flt ∧ (State.takeBlock s k b p).phs = s.phs ∧ (State.takeBlock s k b p).dom = s.dom ∧ (State.takeBlock s k b p).eng = s.eng ∧ (State.takeBlock s k b p).start = s.start ∧ (State.takeBlock s k b p).est = s.est ∧ (State.takeBlock s k b p).bud = s.bud ∧ (State.takeBlock s k b p).thm = s.thm ∧ (State.takeBlock s k b p).hrd = s.hrd ∧ (State.takeBlock s k b p).tlm = s.tlm ∧ (State.takeBlock s k b p).boot = s.boot ∧ (State.takeBlock s k b p).adc = s.adc ∧ (State.takeBlock s k b p).lt = s.lt ∧ (State.takeBlock s k b p).pending = s.pending := by
  refine ⟨?_, ?_, ?_, ?_, ?_, ?_, ?_, ?_, ?_, ?_, ?_, ?_, ?_, ?_, ?_, ?_, ?_, ?_⟩ <;> first
  | (simp (maxDischargeDepth := 60) [State.takeBlock, apply_ite Prod.snd]; done)
  | (simp (maxDischargeDepth := 60) [State.takeBlock, State.when, apply_ite Prod.snd]; done)
  | ((unfold State.takeBlock); (try simp only []); (repeat' split) <;> (try simp (maxDischargeDepth := 60) [State.when, apply_ite Prod.snd]); done)

@[simp] theorem State.takeBlock_ok (s : State) (k b : Nat) (p : Packet) (hok : s.fieldsOk) : (State.takeBlock s k b p).fieldsOk := by
  first
  | (simp +contextual (maxDischargeDepth := 60) [State.takeBlock, hok, apply_ite Prod.snd]; done)
  | (simp +contextual (maxDischargeDepth := 60) [State.takeBlock, hok, State.when, apply_ite Prod.snd]; done)
  | ((unfold State.takeBlock); (try simp only []); (repeat' split) <;> (try simp +contextual (maxDischargeDepth := 60) [hok, State.when, apply_ite Prod.snd]); done)

@[simp] theorem State.joinAct_getF (s : State) (k mask : Nat) (a : Activation) (fld : Fld) (itm : Nat) (hw : fld ∉ ([.CMD_PART_ID_STATE, .CMD_PART_SLOTS_BUSY, .CMD_PART_SLOTS_NEW, .CRC_EVENT_MISMATCH, .CRC_RESULT_RESULT, .CRC_STATUS_MATCH, .CRC_STATUS_MISMATCH, .CRC_STATUS_MISMATCH_COUNT, .CRC_STATUS_STATE, .CRC_VALUE_VALUE] : List Fld)) :
    (State.joinAct s k mask a).getF fld itm = s.getF fld itm := by
  try simp only [List.mem_cons, not_or, List.not_mem_nil, not_false_eq_true] at hw
  first
  | (simp (maxDischargeDepth := 60) [State.joinAct, hw, apply_ite Prod.snd]; done)
  | (simp (maxDischargeDepth := 60) [State.joinAct, hw, State.when, apply_ite Prod.snd]; done)
  | ((unfold State.joinAct); (try simp only []); (repeat' split) <;> (try simp (maxDischargeDepth := 60) [hw, State.when, apply_ite Prod.snd]); done)

@[simp] theorem State.joinAct_parts (s : State) (k mask : Nat) (a : Activation) :
    (State.joinAct s k mask a).time = s.time ∧ (State.joinAct s k mask a).cfg = s.cfg ∧ (State.joinAct s k mask a).raiseQ = s.raiseQ ∧ (State.joinAct s k mask a).freeCtr = s.freeCtr ∧ (State.joinAct s k mask a).flt = s.flt ∧ (State.joinAct s k mask a).phs = s.phs ∧ (State.joinAct s k mask a).dom = s.dom ∧ (State.joinAct s k mask a).eng = s.eng ∧ (State.joinAct s k mask a).start = s.start ∧ (State.joinAct s k mask a).est = s.est ∧ (State.joinAct s k mask a).bud = s.bud ∧ (State.joinAct s k mask a).thm = s.thm ∧ (State.joinAct s k mask a).hrd = s.hrd ∧ (State.joinAct s k mask a).tlm = s.tlm ∧ (State.joinAct s k mask a).boot = s.boot ∧ (State.joinAct s k mask a).adc = s.adc ∧ (State.joinAct s k mask a).lt = s.lt ∧ (State.joinAct s k mask a).pending = s.pending := by
  refine ⟨?_, ?_, ?_, ?_, ?_, ?_, ?_, ?_, ?_, ?_, ?_, ?_, ?_, ?_, ?_, ?_, ?_, ?_⟩ <;> first
  | (simp (maxDischargeDepth := 60) [State.joinAct, apply_ite Prod.snd]; done)
  | (simp (maxDischargeDepth := 60) [State.joinAct, State.when, apply_ite Prod.snd]; done)
  | ((unfold State.joinAct); (try simp only []); (repeat' split) <;> (try simp (maxDischargeDepth := 60) [State.when, apply_ite Prod.snd]); done)

@[simp] theorem State.joinAct_ok (s : State) (k mask : Nat) (a : Activation) (hok : s.fieldsOk) : (State.joinAct s k mask a).fieldsOk := by
  first
  | (simp +contextual (maxDischargeDepth := 60) [State.joinAct, hok, apply_ite Prod.snd]; done)
  | (simp +contextual (maxDischargeDepth := 60) [State.joinAct, hok, State.when, apply_ite Prod.snd]; done)
  | ((unfold State.joinAct); (try simp only []); (repeat' split) <;> (try simp +contextual (maxDischargeDepth := 60) [hok, State.when, apply_ite Prod.snd]); done)

@[simp] theorem State.takeHello_getF (s : State) (p : Nat) (m : LockMsg) (fld : Fld) (itm : Nat) (hw : fld ∉ ([.CRC_EVENT_MISMATCH, .CRC_RESULT_RESULT, .CRC_STATUS_MATCH, .CRC_STATUS_MISMATCH, .CRC_STATUS_MISMATCH_COUNT, .CRC_STATUS_STATE, .CRC_VALUE_VALUE, .HRD_EVENT_INCOMPLETE, .HRD_FREQ_PEND, .HRD_MEMBERS_EXCL_N, .HRD_MEMBERS_MEMBERS, .HRD_PEND_CHG_SEQ, .HRD_PEND_F_NEW, .HRD_PEND_TICK_HI_CT_HI, .HRD_PEND_TICK_LO_CT_LO, .HRD_PORT_UP, .HRD_STATUS_INCOMPLETE, .HRD_STATUS_LEVEL, .HRD_STATUS_PORT_UP] : List Fld)) :
    (State.takeHello s p m).getF fld itm = s.getF fld itm := by
  try simp only [List.mem_cons, not_or, List.not_mem_nil, not_false_eq_true] at hw
  first
  | (simp (maxDischargeDepth := 60) [State.takeHello, hw, apply_ite Prod.snd]; done)
  | (simp (maxDischargeDepth := 60) [State.takeHello, hw, State.when, apply_ite Prod.snd]; done)
  | ((unfold State.takeHello); (try simp only []); (repeat' split) <;> (try simp (maxDischargeDepth := 60) [hw, State.when, apply_ite Prod.snd]); done)

@[simp] theorem State.takeHello_parts (s : State) (p : Nat) (m : LockMsg) :
    (State.takeHello s p m).time = s.time ∧ (State.takeHello s p m).cfg = s.cfg ∧ (State.takeHello s p m).flt = s.flt ∧ (State.takeHello s p m).phs = s.phs ∧ (State.takeHello s p m).dom = s.dom ∧ (State.takeHello s p m).eng = s.eng ∧ (State.takeHello s p m).start = s.start ∧ (State.takeHello s p m).est = s.est ∧ (State.takeHello s p m).bud = s.bud ∧ (State.takeHello s p m).thm = s.thm ∧ (State.takeHello s p m).tlm = s.tlm ∧ (State.takeHello s p m).cmd = s.cmd ∧ (State.takeHello s p m).boot = s.boot ∧ (State.takeHello s p m).adc = s.adc ∧ (State.takeHello s p m).fw = s.fw ∧ (State.takeHello s p m).lt = s.lt ∧ (State.takeHello s p m).pending = s.pending := by
  refine ⟨?_, ?_, ?_, ?_, ?_, ?_, ?_, ?_, ?_, ?_, ?_, ?_, ?_, ?_, ?_, ?_, ?_⟩ <;> first
  | (simp (maxDischargeDepth := 60) [State.takeHello, apply_ite Prod.snd]; done)
  | (simp (maxDischargeDepth := 60) [State.takeHello, State.when, apply_ite Prod.snd]; done)
  | ((unfold State.takeHello); (try simp only []); (repeat' split) <;> (try simp (maxDischargeDepth := 60) [State.when, apply_ite Prod.snd]); done)

@[simp] theorem State.takeHello_ok (s : State) (p : Nat) (m : LockMsg) (hok : s.fieldsOk) : (State.takeHello s p m).fieldsOk := by
  first
  | (simp +contextual (maxDischargeDepth := 60) [State.takeHello, hok, apply_ite Prod.snd]; done)
  | (simp +contextual (maxDischargeDepth := 60) [State.takeHello, hok, State.when, apply_ite Prod.snd]; done)
  | ((unfold State.takeHello); (try simp only []); (repeat' split) <;> (try simp +contextual (maxDischargeDepth := 60) [hok, State.when, apply_ite Prod.snd]); done)

@[simp] theorem State.decideSent_getF (s : State) (stack code : Nat) (fld : Fld) (itm : Nat) (hw : fld ∉ ([.CRC_EVENT_MISMATCH, .CRC_RESULT_RESULT, .CRC_STATUS_MATCH, .CRC_STATUS_MISMATCH, .CRC_STATUS_MISMATCH_COUNT, .CRC_STATUS_STATE, .CRC_VALUE_VALUE, .HRD_EVENT_INCOMPLETE, .HRD_EXCL_STATE, .HRD_FREQ_F_GRP, .HRD_FREQ_PEND, .HRD_MEMBERS_EXCL_N, .HRD_MEMBERS_MEMBERS, .HRD_PEND_CHG_SEQ, .HRD_PEND_F_NEW, .HRD_PEND_TICK_HI_CT_HI, .HRD_PEND_TICK_LO_CT_LO, .HRD_STATUS_INCOMPLETE, .HRD_STATUS_SLEWING, .HRD_STATUS_STATE] : List Fld)) :
    (State.decideSent s stack code).getF fld itm = s.getF fld itm := by
  try simp only [List.mem_cons, not_or, List.not_mem_nil, not_false_eq_true] at hw
  first
  | (simp (maxDischargeDepth := 60) [State.decideSent, hw, apply_ite Prod.snd]; done)
  | (simp (maxDischargeDepth := 60) [State.decideSent, hw, State.when, apply_ite Prod.snd]; done)
  | ((unfold State.decideSent); (try simp only []); (repeat' split) <;> (try simp (maxDischargeDepth := 60) [hw, State.when, apply_ite Prod.snd]); done)

@[simp] theorem State.decideSent_parts (s : State) (stack code : Nat) :
    (State.decideSent s stack code).time = s.time ∧ (State.decideSent s stack code).cfg = s.cfg ∧ (State.decideSent s stack code).flt = s.flt ∧ (State.decideSent s stack code).phs = s.phs ∧ (State.decideSent s stack code).dom = s.dom ∧ (State.decideSent s stack code).eng = s.eng ∧ (State.decideSent s stack code).start = s.start ∧ (State.decideSent s stack code).est = s.est ∧ (State.decideSent s stack code).bud = s.bud ∧ (State.decideSent s stack code).thm = s.thm ∧ (State.decideSent s stack code).tlm = s.tlm ∧ (State.decideSent s stack code).cmd = s.cmd ∧ (State.decideSent s stack code).boot = s.boot ∧ (State.decideSent s stack code).adc = s.adc ∧ (State.decideSent s stack code).fw = s.fw ∧ (State.decideSent s stack code).lt = s.lt ∧ (State.decideSent s stack code).pending = s.pending := by
  refine ⟨?_, ?_, ?_, ?_, ?_, ?_, ?_, ?_, ?_, ?_, ?_, ?_, ?_, ?_, ?_, ?_, ?_⟩ <;> first
  | (simp (maxDischargeDepth := 60) [State.decideSent, apply_ite Prod.snd]; done)
  | (simp (maxDischargeDepth := 60) [State.decideSent, State.when, apply_ite Prod.snd]; done)
  | ((unfold State.decideSent); (try simp only []); (repeat' split) <;> (try simp (maxDischargeDepth := 60) [State.when, apply_ite Prod.snd]); done)

@[simp] theorem State.decideSent_ok (s : State) (stack code : Nat) (hok : s.fieldsOk) : (State.decideSent s stack code).fieldsOk := by
  first
  | (simp +contextual (maxDischargeDepth := 60) [State.decideSent, hok, apply_ite Prod.snd]; done)
  | (simp +contextual (maxDischargeDepth := 60) [State.decideSent, hok, State.when, apply_ite Prod.snd]; done)
  | ((unfold State.decideSent); (try simp only []); (repeat' split) <;> (try simp +contextual (maxDischargeDepth := 60) [hok, State.when, apply_ite Prod.snd]); done)

@[simp] theorem State.beginTest_getF (s : State) (l mode ms k : Nat) (fld : Fld) (itm : Nat) (hw : fld ∉ ([.ADC_CV_STATUS_PD, .ADC_CV_STATUS_STATE, .ADC_STATUS_LP_ACTIVE, .CRC_EVENT_MISMATCH, .CRC_RESULT_RESULT, .CRC_STATUS_MATCH, .CRC_STATUS_MISMATCH, .CRC_STATUS_MISMATCH_COUNT, .CRC_STATUS_STATE, .CRC_VALUE_VALUE, .GLB_LT_BITS_BITS, .GLB_LT_ERRS_ERRS, .GLB_LT_STAT_FORCED, .GLB_LT_STAT_LOCKED, .GLB_LT_STAT_MODE, .GLB_LT_STAT_STATE, .GLB_TB_STATUS_HERD_SHARED, .HRD_EVENT_HOLDOVER, .HRD_EVENT_INCOMPLETE, .HRD_EVENT_LINK_LOST, .HRD_EXCL_F_OFF, .HRD_EXCL_STACK_ID, .HRD_EXCL_STATE, .HRD_FREQ_F_GRP, .HRD_FREQ_PEND, .HRD_MEMBERS_EXCL_N, .HRD_MEMBERS_MEMBERS, .HRD_PEND_CHG_SEQ, .HRD_PEND_F_NEW, .HRD_PEND_TICK_HI_CT_HI, .HRD_PEND_TICK_LO_CT_LO, .HRD_PORT_DROPS, .HRD_PORT_UP, .HRD_STATUS_INCOMPLETE, .HRD_STATUS_IS_ROOT, .HRD_STATUS_LEVEL, .HRD_STATUS_OFFSET_MODE, .HRD_STATUS_PORT_UP, .HRD_STATUS_SLEWING, .HRD_STATUS_STATE] : List Fld)) :
    (State.beginTest s l mode ms k).getF fld itm = s.getF fld itm := by
  try simp only [List.mem_cons, not_or, List.not_mem_nil, not_false_eq_true] at hw
  first
  | (simp (maxDischargeDepth := 60) [State.beginTest, hw, apply_ite Prod.snd]; done)
  | (simp (maxDischargeDepth := 60) [State.beginTest, hw, State.when, apply_ite Prod.snd]; done)
  | ((unfold State.beginTest); (try simp only []); (repeat' split) <;> (try simp (maxDischargeDepth := 60) [hw, State.when, apply_ite Prod.snd]); done)

@[simp] theorem State.beginTest_parts (s : State) (l mode ms k : Nat) :
    (State.beginTest s l mode ms k).time = s.time ∧ (State.beginTest s l mode ms k).cfg = s.cfg ∧ (State.beginTest s l mode ms k).flt = s.flt ∧ (State.beginTest s l mode ms k).phs = s.phs ∧ (State.beginTest s l mode ms k).dom = s.dom ∧ (State.beginTest s l mode ms k).eng = s.eng ∧ (State.beginTest s l mode ms k).start = s.start ∧ (State.beginTest s l mode ms k).est = s.est ∧ (State.beginTest s l mode ms k).bud = s.bud ∧ (State.beginTest s l mode ms k).thm = s.thm ∧ (State.beginTest s l mode ms k).tlm = s.tlm ∧ (State.beginTest s l mode ms k).cmd = s.cmd ∧ (State.beginTest s l mode ms k).boot = s.boot ∧ (State.beginTest s l mode ms k).adc = s.adc ∧ (State.beginTest s l mode ms k).fw = s.fw ∧ (State.beginTest s l mode ms k).pending = s.pending := by
  refine ⟨?_, ?_, ?_, ?_, ?_, ?_, ?_, ?_, ?_, ?_, ?_, ?_, ?_, ?_, ?_, ?_⟩ <;> first
  | (simp (maxDischargeDepth := 60) [State.beginTest, apply_ite Prod.snd]; done)
  | (simp (maxDischargeDepth := 60) [State.beginTest, State.when, apply_ite Prod.snd]; done)
  | ((unfold State.beginTest); (try simp only []); (repeat' split) <;> (try simp (maxDischargeDepth := 60) [State.when, apply_ite Prod.snd]); done)

@[simp] theorem State.beginTest_ok (s : State) (l mode ms k : Nat) (hok : s.fieldsOk) : (State.beginTest s l mode ms k).fieldsOk := by
  first
  | (simp +contextual (maxDischargeDepth := 60) [State.beginTest, hok, apply_ite Prod.snd]; done)
  | (simp +contextual (maxDischargeDepth := 60) [State.beginTest, hok, State.when, apply_ite Prod.snd]; done)
  | ((unfold State.beginTest); (try simp only []); (repeat' split) <;> (try simp +contextual (maxDischargeDepth := 60) [hok, State.when, apply_ite Prod.snd]); done)

@[simp] theorem State.cp1Packet_getF (s : State) (set slot op : Nat) (masks : List Nat) (run : Packet → State → State) (fld : Fld) (itm : Nat) (hw : fld ∉ ([.CMD_PART_ID_STATE, .CMD_PART_SLOTS_BUSY, .CMD_PART_SLOTS_NEW, .CMD_RUN_EPOCH, .CMD_RUN_EPOCHS_M1, .CMD_RUN_RETUNE, .CMD_RUN_RUN_ID, .CMD_RUN_STATE, .CMD_STATUS_QUEUED, .CMD_STATUS_STORE_USED, .CRC_EVENT_MISMATCH, .CRC_RESULT_RESULT, .CRC_STATUS_MATCH, .CRC_STATUS_MISMATCH, .CRC_STATUS_MISMATCH_COUNT, .CRC_STATUS_STATE, .CRC_VALUE_VALUE] : List Fld)) (h_run : ∀ a0 t, (run a0 t).getF fld itm = t.getF fld itm) :
    (State.cp1Packet s set slot op masks run).getF fld itm = s.getF fld itm := by
  try simp only [List.mem_cons, not_or, List.not_mem_nil, not_false_eq_true] at hw
  first
  | (simp (maxDischargeDepth := 60) [State.cp1Packet, hw, h_run, apply_ite Prod.snd]; done)
  | (simp (maxDischargeDepth := 60) [State.cp1Packet, hw, h_run, State.when, apply_ite Prod.snd]; done)
  | ((unfold State.cp1Packet); (try simp only []); (repeat' split) <;> (try simp (maxDischargeDepth := 60) [hw, h_run, State.when, apply_ite Prod.snd]); done)

@[simp] theorem State.cp1Packet_time (s : State) (set slot op : Nat) (masks : List Nat) (run : Packet → State → State) (h_run : ∀ a0 t, (run a0 t).time = t.time) :
    (State.cp1Packet s set slot op masks run).time = s.time := by
  first
  | (simp (maxDischargeDepth := 60) [State.cp1Packet, h_run, apply_ite Prod.snd]; done)
  | (simp (maxDischargeDepth := 60) [State.cp1Packet, h_run, State.when, apply_ite Prod.snd]; done)
  | ((unfold State.cp1Packet); (try simp only []); (repeat' split) <;> (try simp (maxDischargeDepth := 60) [State.when, apply_ite Prod.snd, h_run]); done)

@[simp] theorem State.cp1Packet_cfg (s : State) (set slot op : Nat) (masks : List Nat) (run : Packet → State → State) (h_run : ∀ a0 t, (run a0 t).cfg = t.cfg) :
    (State.cp1Packet s set slot op masks run).cfg = s.cfg := by
  first
  | (simp (maxDischargeDepth := 60) [State.cp1Packet, h_run, apply_ite Prod.snd]; done)
  | (simp (maxDischargeDepth := 60) [State.cp1Packet, h_run, State.when, apply_ite Prod.snd]; done)
  | ((unfold State.cp1Packet); (try simp only []); (repeat' split) <;> (try simp (maxDischargeDepth := 60) [State.when, apply_ite Prod.snd, h_run]); done)

@[simp] theorem State.cp1Packet_raiseQ (s : State) (set slot op : Nat) (masks : List Nat) (run : Packet → State → State) (h_run : ∀ a0 t, (run a0 t).raiseQ = t.raiseQ) :
    (State.cp1Packet s set slot op masks run).raiseQ = s.raiseQ := by
  first
  | (simp (maxDischargeDepth := 60) [State.cp1Packet, h_run, apply_ite Prod.snd]; done)
  | (simp (maxDischargeDepth := 60) [State.cp1Packet, h_run, State.when, apply_ite Prod.snd]; done)
  | ((unfold State.cp1Packet); (try simp only []); (repeat' split) <;> (try simp (maxDischargeDepth := 60) [State.when, apply_ite Prod.snd, h_run]); done)

@[simp] theorem State.cp1Packet_freeCtr (s : State) (set slot op : Nat) (masks : List Nat) (run : Packet → State → State) (h_run : ∀ a0 t, (run a0 t).freeCtr = t.freeCtr) :
    (State.cp1Packet s set slot op masks run).freeCtr = s.freeCtr := by
  first
  | (simp (maxDischargeDepth := 60) [State.cp1Packet, h_run, apply_ite Prod.snd]; done)
  | (simp (maxDischargeDepth := 60) [State.cp1Packet, h_run, State.when, apply_ite Prod.snd]; done)
  | ((unfold State.cp1Packet); (try simp only []); (repeat' split) <;> (try simp (maxDischargeDepth := 60) [State.when, apply_ite Prod.snd, h_run]); done)

@[simp] theorem State.cp1Packet_flt (s : State) (set slot op : Nat) (masks : List Nat) (run : Packet → State → State) (h_run : ∀ a0 t, (run a0 t).flt = t.flt) :
    (State.cp1Packet s set slot op masks run).flt = s.flt := by
  first
  | (simp (maxDischargeDepth := 60) [State.cp1Packet, h_run, apply_ite Prod.snd]; done)
  | (simp (maxDischargeDepth := 60) [State.cp1Packet, h_run, State.when, apply_ite Prod.snd]; done)
  | ((unfold State.cp1Packet); (try simp only []); (repeat' split) <;> (try simp (maxDischargeDepth := 60) [State.when, apply_ite Prod.snd, h_run]); done)

@[simp] theorem State.cp1Packet_phs (s : State) (set slot op : Nat) (masks : List Nat) (run : Packet → State → State) (h_run : ∀ a0 t, (run a0 t).phs = t.phs) :
    (State.cp1Packet s set slot op masks run).phs = s.phs := by
  first
  | (simp (maxDischargeDepth := 60) [State.cp1Packet, h_run, apply_ite Prod.snd]; done)
  | (simp (maxDischargeDepth := 60) [State.cp1Packet, h_run, State.when, apply_ite Prod.snd]; done)
  | ((unfold State.cp1Packet); (try simp only []); (repeat' split) <;> (try simp (maxDischargeDepth := 60) [State.when, apply_ite Prod.snd, h_run]); done)

@[simp] theorem State.cp1Packet_dom (s : State) (set slot op : Nat) (masks : List Nat) (run : Packet → State → State) (h_run : ∀ a0 t, (run a0 t).dom = t.dom) :
    (State.cp1Packet s set slot op masks run).dom = s.dom := by
  first
  | (simp (maxDischargeDepth := 60) [State.cp1Packet, h_run, apply_ite Prod.snd]; done)
  | (simp (maxDischargeDepth := 60) [State.cp1Packet, h_run, State.when, apply_ite Prod.snd]; done)
  | ((unfold State.cp1Packet); (try simp only []); (repeat' split) <;> (try simp (maxDischargeDepth := 60) [State.when, apply_ite Prod.snd, h_run]); done)

@[simp] theorem State.cp1Packet_eng (s : State) (set slot op : Nat) (masks : List Nat) (run : Packet → State → State) (h_run : ∀ a0 t, (run a0 t).eng = t.eng) :
    (State.cp1Packet s set slot op masks run).eng = s.eng := by
  first
  | (simp (maxDischargeDepth := 60) [State.cp1Packet, h_run, apply_ite Prod.snd]; done)
  | (simp (maxDischargeDepth := 60) [State.cp1Packet, h_run, State.when, apply_ite Prod.snd]; done)
  | ((unfold State.cp1Packet); (try simp only []); (repeat' split) <;> (try simp (maxDischargeDepth := 60) [State.when, apply_ite Prod.snd, h_run]); done)

@[simp] theorem State.cp1Packet_start (s : State) (set slot op : Nat) (masks : List Nat) (run : Packet → State → State) (h_run : ∀ a0 t, (run a0 t).start = t.start) :
    (State.cp1Packet s set slot op masks run).start = s.start := by
  first
  | (simp (maxDischargeDepth := 60) [State.cp1Packet, h_run, apply_ite Prod.snd]; done)
  | (simp (maxDischargeDepth := 60) [State.cp1Packet, h_run, State.when, apply_ite Prod.snd]; done)
  | ((unfold State.cp1Packet); (try simp only []); (repeat' split) <;> (try simp (maxDischargeDepth := 60) [State.when, apply_ite Prod.snd, h_run]); done)

@[simp] theorem State.cp1Packet_est (s : State) (set slot op : Nat) (masks : List Nat) (run : Packet → State → State) (h_run : ∀ a0 t, (run a0 t).est = t.est) :
    (State.cp1Packet s set slot op masks run).est = s.est := by
  first
  | (simp (maxDischargeDepth := 60) [State.cp1Packet, h_run, apply_ite Prod.snd]; done)
  | (simp (maxDischargeDepth := 60) [State.cp1Packet, h_run, State.when, apply_ite Prod.snd]; done)
  | ((unfold State.cp1Packet); (try simp only []); (repeat' split) <;> (try simp (maxDischargeDepth := 60) [State.when, apply_ite Prod.snd, h_run]); done)

@[simp] theorem State.cp1Packet_bud (s : State) (set slot op : Nat) (masks : List Nat) (run : Packet → State → State) (h_run : ∀ a0 t, (run a0 t).bud = t.bud) :
    (State.cp1Packet s set slot op masks run).bud = s.bud := by
  first
  | (simp (maxDischargeDepth := 60) [State.cp1Packet, h_run, apply_ite Prod.snd]; done)
  | (simp (maxDischargeDepth := 60) [State.cp1Packet, h_run, State.when, apply_ite Prod.snd]; done)
  | ((unfold State.cp1Packet); (try simp only []); (repeat' split) <;> (try simp (maxDischargeDepth := 60) [State.when, apply_ite Prod.snd, h_run]); done)

@[simp] theorem State.cp1Packet_thm (s : State) (set slot op : Nat) (masks : List Nat) (run : Packet → State → State) (h_run : ∀ a0 t, (run a0 t).thm = t.thm) :
    (State.cp1Packet s set slot op masks run).thm = s.thm := by
  first
  | (simp (maxDischargeDepth := 60) [State.cp1Packet, h_run, apply_ite Prod.snd]; done)
  | (simp (maxDischargeDepth := 60) [State.cp1Packet, h_run, State.when, apply_ite Prod.snd]; done)
  | ((unfold State.cp1Packet); (try simp only []); (repeat' split) <;> (try simp (maxDischargeDepth := 60) [State.when, apply_ite Prod.snd, h_run]); done)

@[simp] theorem State.cp1Packet_hrd (s : State) (set slot op : Nat) (masks : List Nat) (run : Packet → State → State) (h_run : ∀ a0 t, (run a0 t).hrd = t.hrd) :
    (State.cp1Packet s set slot op masks run).hrd = s.hrd := by
  first
  | (simp (maxDischargeDepth := 60) [State.cp1Packet, h_run, apply_ite Prod.snd]; done)
  | (simp (maxDischargeDepth := 60) [State.cp1Packet, h_run, State.when, apply_ite Prod.snd]; done)
  | ((unfold State.cp1Packet); (try simp only []); (repeat' split) <;> (try simp (maxDischargeDepth := 60) [State.when, apply_ite Prod.snd, h_run]); done)

@[simp] theorem State.cp1Packet_tlm (s : State) (set slot op : Nat) (masks : List Nat) (run : Packet → State → State) (h_run : ∀ a0 t, (run a0 t).tlm = t.tlm) :
    (State.cp1Packet s set slot op masks run).tlm = s.tlm := by
  first
  | (simp (maxDischargeDepth := 60) [State.cp1Packet, h_run, apply_ite Prod.snd]; done)
  | (simp (maxDischargeDepth := 60) [State.cp1Packet, h_run, State.when, apply_ite Prod.snd]; done)
  | ((unfold State.cp1Packet); (try simp only []); (repeat' split) <;> (try simp (maxDischargeDepth := 60) [State.when, apply_ite Prod.snd, h_run]); done)

@[simp] theorem State.cp1Packet_boot (s : State) (set slot op : Nat) (masks : List Nat) (run : Packet → State → State) (h_run : ∀ a0 t, (run a0 t).boot = t.boot) :
    (State.cp1Packet s set slot op masks run).boot = s.boot := by
  first
  | (simp (maxDischargeDepth := 60) [State.cp1Packet, h_run, apply_ite Prod.snd]; done)
  | (simp (maxDischargeDepth := 60) [State.cp1Packet, h_run, State.when, apply_ite Prod.snd]; done)
  | ((unfold State.cp1Packet); (try simp only []); (repeat' split) <;> (try simp (maxDischargeDepth := 60) [State.when, apply_ite Prod.snd, h_run]); done)

@[simp] theorem State.cp1Packet_adc (s : State) (set slot op : Nat) (masks : List Nat) (run : Packet → State → State) (h_run : ∀ a0 t, (run a0 t).adc = t.adc) :
    (State.cp1Packet s set slot op masks run).adc = s.adc := by
  first
  | (simp (maxDischargeDepth := 60) [State.cp1Packet, h_run, apply_ite Prod.snd]; done)
  | (simp (maxDischargeDepth := 60) [State.cp1Packet, h_run, State.when, apply_ite Prod.snd]; done)
  | ((unfold State.cp1Packet); (try simp only []); (repeat' split) <;> (try simp (maxDischargeDepth := 60) [State.when, apply_ite Prod.snd, h_run]); done)

@[simp] theorem State.cp1Packet_lt (s : State) (set slot op : Nat) (masks : List Nat) (run : Packet → State → State) (h_run : ∀ a0 t, (run a0 t).lt = t.lt) :
    (State.cp1Packet s set slot op masks run).lt = s.lt := by
  first
  | (simp (maxDischargeDepth := 60) [State.cp1Packet, h_run, apply_ite Prod.snd]; done)
  | (simp (maxDischargeDepth := 60) [State.cp1Packet, h_run, State.when, apply_ite Prod.snd]; done)
  | ((unfold State.cp1Packet); (try simp only []); (repeat' split) <;> (try simp (maxDischargeDepth := 60) [State.when, apply_ite Prod.snd, h_run]); done)

@[simp] theorem State.cp1Packet_pending (s : State) (set slot op : Nat) (masks : List Nat) (run : Packet → State → State) (h_run : ∀ a0 t, (run a0 t).pending = t.pending) :
    (State.cp1Packet s set slot op masks run).pending = s.pending := by
  first
  | (simp (maxDischargeDepth := 60) [State.cp1Packet, h_run, apply_ite Prod.snd]; done)
  | (simp (maxDischargeDepth := 60) [State.cp1Packet, h_run, State.when, apply_ite Prod.snd]; done)
  | ((unfold State.cp1Packet); (try simp only []); (repeat' split) <;> (try simp (maxDischargeDepth := 60) [State.when, apply_ite Prod.snd, h_run]); done)

@[simp] theorem State.cp1Packet_ok (s : State) (set slot op : Nat) (masks : List Nat) (run : Packet → State → State) (hok : s.fieldsOk) (h_run : ∀ a0 t, t.fieldsOk → (run a0 t).fieldsOk) : (State.cp1Packet s set slot op masks run).fieldsOk := by
  first
  | (simp +contextual (maxDischargeDepth := 60) [State.cp1Packet, hok, h_run, apply_ite Prod.snd]; done)
  | (simp +contextual (maxDischargeDepth := 60) [State.cp1Packet, hok, h_run, State.when, apply_ite Prod.snd]; done)
  | ((unfold State.cp1Packet); (try simp only []); (repeat' split) <;> (try simp +contextual (maxDischargeDepth := 60) [hok, h_run, State.when, apply_ite Prod.snd]); done)

@[simp] theorem State.phaseOut_getF (s : State) (p st : Nat) (fld : Fld) (itm : Nat) (hw : fld ∉ ([.ADC_CV_STATUS_PD, .ADC_CV_STATUS_STATE, .ADC_STATUS_LP_ACTIVE, .GLB_BOOT_STATUS_ERR, .GLB_BOOT_STATUS_PWR_OK, .GLB_BOOT_STATUS_STATE, .GLB_DESIGN_CUR_EDC_EFF, .GLB_DESIGN_CUR_TDC_EFF, .GLB_FW_IL_GROUP, .GLB_FW_IL_SET, .GLB_VSTK_STATUS_VSTK_LIVE, .PHS_GRP_EVENT_LATCHED, .PHS_GRP_STATUS_LIVE, .PHS_GRP_STATUS_STATE, .PHS_PH_STATUS_PH_STATE, .PHS_PH_STATUS_TRIM] : List Fld)) :
    (State.phaseOut s p st).getF fld itm = s.getF fld itm := by
  try simp only [List.mem_cons, not_or, List.not_mem_nil, not_false_eq_true] at hw
  first
  | (simp (maxDischargeDepth := 60) [State.phaseOut, hw, apply_ite Prod.snd]; done)
  | (simp (maxDischargeDepth := 60) [State.phaseOut, hw, State.when, apply_ite Prod.snd]; done)
  | ((unfold State.phaseOut); (try simp only []); (repeat' split) <;> (try simp (maxDischargeDepth := 60) [hw, State.when, apply_ite Prod.snd]); done)

@[simp] theorem State.phaseOut_parts (s : State) (p st : Nat) :
    (State.phaseOut s p st).time = s.time ∧ (State.phaseOut s p st).cfg = s.cfg ∧ (State.phaseOut s p st).out = s.out ∧ (State.phaseOut s p st).freeCtr = s.freeCtr ∧ (State.phaseOut s p st).flt = s.flt ∧ (State.phaseOut s p st).dom = s.dom ∧ (State.phaseOut s p st).start = s.start ∧ (State.phaseOut s p st).est = s.est ∧ (State.phaseOut s p st).bud = s.bud ∧ (State.phaseOut s p st).thm = s.thm ∧ (State.phaseOut s p st).hrd = s.hrd ∧ (State.phaseOut s p st).cmd = s.cmd ∧ (State.phaseOut s p st).adc = s.adc ∧ (State.phaseOut s p st).fw = s.fw ∧ (State.phaseOut s p st).lt = s.lt ∧ (State.phaseOut s p st).pending = s.pending := by
  refine ⟨?_, ?_, ?_, ?_, ?_, ?_, ?_, ?_, ?_, ?_, ?_, ?_, ?_, ?_, ?_, ?_⟩ <;> first
  | (simp (maxDischargeDepth := 60) [State.phaseOut, apply_ite Prod.snd]; done)
  | (simp (maxDischargeDepth := 60) [State.phaseOut, State.when, apply_ite Prod.snd]; done)
  | ((unfold State.phaseOut); (try simp only []); (repeat' split) <;> (try simp (maxDischargeDepth := 60) [State.when, apply_ite Prod.snd]); done)

@[simp] theorem State.phaseOut_ok (s : State) (p st : Nat) (hok : s.fieldsOk) : (State.phaseOut s p st).fieldsOk := by
  first
  | (simp +contextual (maxDischargeDepth := 60) [State.phaseOut, hok, apply_ite Prod.snd]; done)
  | (simp +contextual (maxDischargeDepth := 60) [State.phaseOut, hok, State.when, apply_ite Prod.snd]; done)
  | ((unfold State.phaseOut); (try simp only []); (repeat' split) <;> (try simp +contextual (maxDischargeDepth := 60) [hok, State.when, apply_ite Prod.snd]); done)

@[simp] theorem State.openDrop_getF (s : State) (p : Nat) (fld : Fld) (itm : Nat) (hw : fld ∉ ([.ADC_CV_STATUS_PD, .ADC_CV_STATUS_STATE, .ADC_STATUS_LP_ACTIVE, .GLB_BOOT_STATUS_ERR, .GLB_BOOT_STATUS_PWR_OK, .GLB_BOOT_STATUS_STATE, .GLB_DESIGN_CUR_EDC_EFF, .GLB_DESIGN_CUR_TDC_EFF, .GLB_FW_IL_GROUP, .GLB_FW_IL_SET, .GLB_VSTK_STATUS_VSTK_LIVE, .PHS_GRP_EVENT_LATCHED, .PHS_GRP_EVENT_PHASE_OPEN, .PHS_GRP_STATUS_LIVE, .PHS_GRP_STATUS_STATE, .PHS_PH_STATUS_LOSS_COUNT, .PHS_PH_STATUS_PH_STATE, .PHS_PH_STATUS_TRIM] : List Fld)) :
    (State.openDrop s p).getF fld itm = s.getF fld itm := by
  try simp only [List.mem_cons, not_or, List.not_mem_nil, not_false_eq_true] at hw
  first
  | (simp (maxDischargeDepth := 60) [State.openDrop, hw, apply_ite Prod.snd]; done)
  | (simp (maxDischargeDepth := 60) [State.openDrop, hw, State.when, apply_ite Prod.snd]; done)
  | ((unfold State.openDrop); (try simp only []); (repeat' split) <;> (try simp (maxDischargeDepth := 60) [hw, State.when, apply_ite Prod.snd]); done)

@[simp] theorem State.openDrop_parts (s : State) (p : Nat) :
    (State.openDrop s p).time = s.time ∧ (State.openDrop s p).cfg = s.cfg ∧ (State.openDrop s p).out = s.out ∧ (State.openDrop s p).freeCtr = s.freeCtr ∧ (State.openDrop s p).flt = s.flt ∧ (State.openDrop s p).dom = s.dom ∧ (State.openDrop s p).start = s.start ∧ (State.openDrop s p).est = s.est ∧ (State.openDrop s p).bud = s.bud ∧ (State.openDrop s p).thm = s.thm ∧ (State.openDrop s p).hrd = s.hrd ∧ (State.openDrop s p).cmd = s.cmd ∧ (State.openDrop s p).adc = s.adc ∧ (State.openDrop s p).fw = s.fw ∧ (State.openDrop s p).lt = s.lt ∧ (State.openDrop s p).pending = s.pending := by
  refine ⟨?_, ?_, ?_, ?_, ?_, ?_, ?_, ?_, ?_, ?_, ?_, ?_, ?_, ?_, ?_, ?_⟩ <;> first
  | (simp (maxDischargeDepth := 60) [State.openDrop, apply_ite Prod.snd]; done)
  | (simp (maxDischargeDepth := 60) [State.openDrop, State.when, apply_ite Prod.snd]; done)
  | ((unfold State.openDrop); (try simp only []); (repeat' split) <;> (try simp (maxDischargeDepth := 60) [State.when, apply_ite Prod.snd]); done)

@[simp] theorem State.openDrop_ok (s : State) (p : Nat) (hok : s.fieldsOk) : (State.openDrop s p).fieldsOk := by
  first
  | (simp +contextual (maxDischargeDepth := 60) [State.openDrop, hok, apply_ite Prod.snd]; done)
  | (simp +contextual (maxDischargeDepth := 60) [State.openDrop, hok, State.when, apply_ite Prod.snd]; done)
  | ((unfold State.openDrop); (try simp only []); (repeat' split) <;> (try simp +contextual (maxDischargeDepth := 60) [hok, State.when, apply_ite Prod.snd]); done)

@[simp] theorem State.sense_getF (s : State) (g vs : Nat) (fld : Fld) (itm : Nat) (hw : fld ∉ ([.PHS_GRP_REF_VSENSE] : List Fld)) :
    (State.sense s g vs).getF fld itm = s.getF fld itm := by
  try simp only [List.mem_cons, not_or, List.not_mem_nil, not_false_eq_true] at hw
  first
  | (simp (maxDischargeDepth := 60) [State.sense, hw, apply_ite Prod.snd]; done)
  | (simp (maxDischargeDepth := 60) [State.sense, hw, State.when, apply_ite Prod.snd]; done)
  | ((unfold State.sense); (try simp only []); (repeat' split) <;> (try simp (maxDischargeDepth := 60) [hw, State.when, apply_ite Prod.snd]); done)

@[simp] theorem State.sense_parts (s : State) (g vs : Nat) :
    (State.sense s g vs).time = s.time ∧ (State.sense s g vs).cfg = s.cfg ∧ (State.sense s g vs).raiseQ = s.raiseQ ∧ (State.sense s g vs).out = s.out ∧ (State.sense s g vs).freeCtr = s.freeCtr ∧ (State.sense s g vs).flt = s.flt ∧ (State.sense s g vs).phs = s.phs ∧ (State.sense s g vs).dom = s.dom ∧ (State.sense s g vs).eng = s.eng ∧ (State.sense s g vs).start = s.start ∧ (State.sense s g vs).est = s.est ∧ (State.sense s g vs).bud = s.bud ∧ (State.sense s g vs).thm = s.thm ∧ (State.sense s g vs).hrd = s.hrd ∧ (State.sense s g vs).tlm = s.tlm ∧ (State.sense s g vs).cmd = s.cmd ∧ (State.sense s g vs).boot = s.boot ∧ (State.sense s g vs).adc = s.adc ∧ (State.sense s g vs).fw = s.fw ∧ (State.sense s g vs).lt = s.lt ∧ (State.sense s g vs).pending = s.pending := by
  refine ⟨?_, ?_, ?_, ?_, ?_, ?_, ?_, ?_, ?_, ?_, ?_, ?_, ?_, ?_, ?_, ?_, ?_, ?_, ?_, ?_, ?_⟩ <;> first
  | (simp (maxDischargeDepth := 60) [State.sense, apply_ite Prod.snd]; done)
  | (simp (maxDischargeDepth := 60) [State.sense, State.when, apply_ite Prod.snd]; done)
  | ((unfold State.sense); (try simp only []); (repeat' split) <;> (try simp (maxDischargeDepth := 60) [State.when, apply_ite Prod.snd]); done)

@[simp] theorem State.sense_ok (s : State) (g vs : Nat) (hok : s.fieldsOk) : (State.sense s g vs).fieldsOk := by
  first
  | (simp +contextual (maxDischargeDepth := 60) [State.sense, hok, apply_ite Prod.snd]; done)
  | (simp +contextual (maxDischargeDepth := 60) [State.sense, hok, State.when, apply_ite Prod.snd]; done)
  | ((unfold State.sense); (try simp only []); (repeat' split) <;> (try simp +contextual (maxDischargeDepth := 60) [hok, State.when, apply_ite Prod.snd]); done)

@[simp] theorem State.enterRamp_getF (s : State) (g vs : Nat) (fld : Fld) (itm : Nat) (hw : fld ∉ ([.GLB_FW_IL_GROUP, .GLB_FW_IL_SET, .PHS_GRP_REF_VREF, .PHS_GRP_REF_VSENSE, .PHS_GRP_STATUS_STATE, .PHS_GRP_TON_TON_BASE, .PHS_PH_STATUS_PH_STATE, .PHS_PH_STATUS_TRIM] : List Fld)) :
    (State.enterRamp s g vs).getF fld itm = s.getF fld itm := by
  try simp only [List.mem_cons, not_or, List.not_mem_nil, not_false_eq_true] at hw
  first
  | (simp (maxDischargeDepth := 60) [State.enterRamp, hw, apply_ite Prod.snd]; done)
  | (simp (maxDischargeDepth := 60) [State.enterRamp, hw, State.when, apply_ite Prod.snd]; done)
  | ((unfold State.enterRamp); (try simp only []); (repeat' split) <;> (try simp (maxDischargeDepth := 60) [hw, State.when, apply_ite Prod.snd]); done)

@[simp] theorem State.enterRamp_parts (s : State) (g vs : Nat) :
    (State.enterRamp s g vs).time = s.time ∧ (State.enterRamp s g vs).cfg = s.cfg ∧ (State.enterRamp s g vs).raiseQ = s.raiseQ ∧ (State.enterRamp s g vs).out = s.out ∧ (State.enterRamp s g vs).freeCtr = s.freeCtr ∧ (State.enterRamp s g vs).flt = s.flt ∧ (State.enterRamp s g vs).dom = s.dom ∧ (State.enterRamp s g vs).eng = s.eng ∧ (State.enterRamp s g vs).start = s.start ∧ (State.enterRamp s g vs).est = s.est ∧ (State.enterRamp s g vs).bud = s.bud ∧ (State.enterRamp s g vs).thm = s.thm ∧ (State.enterRamp s g vs).hrd = s.hrd ∧ (State.enterRamp s g vs).tlm = s.tlm ∧ (State.enterRamp s g vs).cmd = s.cmd ∧ (State.enterRamp s g vs).boot = s.boot ∧ (State.enterRamp s g vs).adc = s.adc ∧ (State.enterRamp s g vs).fw = s.fw ∧ (State.enterRamp s g vs).lt = s.lt ∧ (State.enterRamp s g vs).pending = s.pending := by
  refine ⟨?_, ?_, ?_, ?_, ?_, ?_, ?_, ?_, ?_, ?_, ?_, ?_, ?_, ?_, ?_, ?_, ?_, ?_, ?_, ?_⟩ <;> first
  | (simp (maxDischargeDepth := 60) [State.enterRamp, apply_ite Prod.snd]; done)
  | (simp (maxDischargeDepth := 60) [State.enterRamp, State.when, apply_ite Prod.snd]; done)
  | ((unfold State.enterRamp); (try simp only []); (repeat' split) <;> (try simp (maxDischargeDepth := 60) [State.when, apply_ite Prod.snd]); done)

@[simp] theorem State.enterRamp_ok (s : State) (g vs : Nat) (hok : s.fieldsOk) : (State.enterRamp s g vs).fieldsOk := by
  first
  | (simp +contextual (maxDischargeDepth := 60) [State.enterRamp, hok, apply_ite Prod.snd]; done)
  | (simp +contextual (maxDischargeDepth := 60) [State.enterRamp, hok, State.when, apply_ite Prod.snd]; done)
  | ((unfold State.enterRamp); (try simp only []); (repeat' split) <;> (try simp +contextual (maxDischargeDepth := 60) [hok, State.when, apply_ite Prod.snd]); done)

@[simp] theorem State.startFall_getF (s : State) (g : Nat) (fld : Fld) (itm : Nat) (hw : fld ∉ ([] : List Fld)) :
    (State.startFall s g).getF fld itm = s.getF fld itm := by
  try simp only [List.mem_cons, not_or, List.not_mem_nil, not_false_eq_true] at hw
  first
  | (simp (maxDischargeDepth := 60) [State.startFall, hw, apply_ite Prod.snd]; done)
  | (simp (maxDischargeDepth := 60) [State.startFall, hw, State.when, apply_ite Prod.snd]; done)
  | ((unfold State.startFall); (try simp only []); (repeat' split) <;> (try simp (maxDischargeDepth := 60) [hw, State.when, apply_ite Prod.snd]); done)

@[simp] theorem State.startFall_parts (s : State) (g : Nat) :
    (State.startFall s g).time = s.time ∧ (State.startFall s g).cfg = s.cfg ∧ (State.startFall s g).raiseQ = s.raiseQ ∧ (State.startFall s g).out = s.out ∧ (State.startFall s g).freeCtr = s.freeCtr ∧ (State.startFall s g).flt = s.flt ∧ (State.startFall s g).dom = s.dom ∧ (State.startFall s g).eng = s.eng ∧ (State.startFall s g).start = s.start ∧ (State.startFall s g).est = s.est ∧ (State.startFall s g).bud = s.bud ∧ (State.startFall s g).thm = s.thm ∧ (State.startFall s g).hrd = s.hrd ∧ (State.startFall s g).tlm = s.tlm ∧ (State.startFall s g).cmd = s.cmd ∧ (State.startFall s g).boot = s.boot ∧ (State.startFall s g).adc = s.adc ∧ (State.startFall s g).fw = s.fw ∧ (State.startFall s g).lt = s.lt ∧ (State.startFall s g).pending = s.pending := by
  refine ⟨?_, ?_, ?_, ?_, ?_, ?_, ?_, ?_, ?_, ?_, ?_, ?_, ?_, ?_, ?_, ?_, ?_, ?_, ?_, ?_⟩ <;> first
  | (simp (maxDischargeDepth := 60) [State.startFall, apply_ite Prod.snd]; done)
  | (simp (maxDischargeDepth := 60) [State.startFall, State.when, apply_ite Prod.snd]; done)
  | ((unfold State.startFall); (try simp only []); (repeat' split) <;> (try simp (maxDischargeDepth := 60) [State.when, apply_ite Prod.snd]); done)

@[simp] theorem State.startFall_ok (s : State) (g : Nat) (hok : s.fieldsOk) : (State.startFall s g).fieldsOk := by
  first
  | (simp +contextual (maxDischargeDepth := 60) [State.startFall, hok, apply_ite Prod.snd]; done)
  | (simp +contextual (maxDischargeDepth := 60) [State.startFall, hok, State.when, apply_ite Prod.snd]; done)
  | ((unfold State.startFall); (try simp only []); (repeat' split) <;> (try simp +contextual (maxDischargeDepth := 60) [hok, State.when, apply_ite Prod.snd]); done)

@[simp] theorem State.setAngle_getF (s : State) (g p : Nat) (fld : Fld) (itm : Nat) (hw : fld ∉ ([.PHS_GRP_STATUS_ROT_ANGLE] : List Fld)) :
    (State.setAngle s g p).getF fld itm = s.getF fld itm := by
  try simp only [List.mem_cons, not_or, List.not_mem_nil, not_false_eq_true] at hw
  first
  | (simp (maxDischargeDepth := 60) [State.setAngle, hw, apply_ite Prod.snd]; done)
  | (simp (maxDischargeDepth := 60) [State.setAngle, hw, State.when, apply_ite Prod.snd]; done)
  | ((unfold State.setAngle); (try simp only []); (repeat' split) <;> (try simp (maxDischargeDepth := 60) [hw, State.when, apply_ite Prod.snd]); done)

@[simp] theorem State.setAngle_parts (s : State) (g p : Nat) :
    (State.setAngle s g p).time = s.time ∧ (State.setAngle s g p).cfg = s.cfg ∧ (State.setAngle s g p).raiseQ = s.raiseQ ∧ (State.setAngle s g p).out = s.out ∧ (State.setAngle s g p).flt = s.flt ∧ (State.setAngle s g p).phs = s.phs ∧ (State.setAngle s g p).dom = s.dom ∧ (State.setAngle s g p).eng = s.eng ∧ (State.setAngle s g p).start = s.start ∧ (State.setAngle s g p).est = s.est ∧ (State.setAngle s g p).bud = s.bud ∧ (State.setAngle s g p).thm = s.thm ∧ (State.setAngle s g p).hrd = s.hrd ∧ (State.setAngle s g p).tlm = s.tlm ∧ (State.setAngle s g p).cmd = s.cmd ∧ (State.setAngle s g p).boot = s.boot ∧ (State.setAngle s g p).adc = s.adc ∧ (State.setAngle s g p).fw = s.fw ∧ (State.setAngle s g p).lt = s.lt ∧ (State.setAngle s g p).pending = s.pending := by
  refine ⟨?_, ?_, ?_, ?_, ?_, ?_, ?_, ?_, ?_, ?_, ?_, ?_, ?_, ?_, ?_, ?_, ?_, ?_, ?_, ?_⟩ <;> first
  | (simp (maxDischargeDepth := 60) [State.setAngle, apply_ite Prod.snd]; done)
  | (simp (maxDischargeDepth := 60) [State.setAngle, State.when, apply_ite Prod.snd]; done)
  | ((unfold State.setAngle); (try simp only []); (repeat' split) <;> (try simp (maxDischargeDepth := 60) [State.when, apply_ite Prod.snd]); done)

@[simp] theorem State.setAngle_ok (s : State) (g p : Nat) (hok : s.fieldsOk) : (State.setAngle s g p).fieldsOk := by
  first
  | (simp +contextual (maxDischargeDepth := 60) [State.setAngle, hok, apply_ite Prod.snd]; done)
  | (simp +contextual (maxDischargeDepth := 60) [State.setAngle, hok, State.when, apply_ite Prod.snd]; done)
  | ((unfold State.setAngle); (try simp only []); (repeat' split) <;> (try simp +contextual (maxDischargeDepth := 60) [hok, State.when, apply_ite Prod.snd]); done)

@[simp] theorem State.pulseTo_getF (s : State) (g p : Nat) (fld : Fld) (itm : Nat) (hw : fld ∉ ([.PHS_GRP_REF_VREF, .PHS_GRP_STATUS_ROT_ANGLE, .PHS_GRP_STATUS_ROT_POS, .PHS_GRP_TON_TON_BASE] : List Fld)) :
    (State.pulseTo s g p).getF fld itm = s.getF fld itm := by
  try simp only [List.mem_cons, not_or, List.not_mem_nil, not_false_eq_true] at hw
  first
  | (simp (maxDischargeDepth := 60) [State.pulseTo, hw, apply_ite Prod.snd]; done)
  | (simp (maxDischargeDepth := 60) [State.pulseTo, hw, State.when, apply_ite Prod.snd]; done)
  | ((unfold State.pulseTo); (try simp only []); (repeat' split) <;> (try simp (maxDischargeDepth := 60) [hw, State.when, apply_ite Prod.snd]); done)

@[simp] theorem State.pulseTo_parts (s : State) (g p : Nat) :
    (State.pulseTo s g p).time = s.time ∧ (State.pulseTo s g p).cfg = s.cfg ∧ (State.pulseTo s g p).raiseQ = s.raiseQ ∧ (State.pulseTo s g p).flt = s.flt ∧ (State.pulseTo s g p).dom = s.dom ∧ (State.pulseTo s g p).eng = s.eng ∧ (State.pulseTo s g p).start = s.start ∧ (State.pulseTo s g p).est = s.est ∧ (State.pulseTo s g p).bud = s.bud ∧ (State.pulseTo s g p).thm = s.thm ∧ (State.pulseTo s g p).hrd = s.hrd ∧ (State.pulseTo s g p).tlm = s.tlm ∧ (State.pulseTo s g p).cmd = s.cmd ∧ (State.pulseTo s g p).boot = s.boot ∧ (State.pulseTo s g p).adc = s.adc ∧ (State.pulseTo s g p).fw = s.fw ∧ (State.pulseTo s g p).lt = s.lt ∧ (State.pulseTo s g p).pending = s.pending := by
  refine ⟨?_, ?_, ?_, ?_, ?_, ?_, ?_, ?_, ?_, ?_, ?_, ?_, ?_, ?_, ?_, ?_, ?_, ?_⟩ <;> first
  | (simp (maxDischargeDepth := 60) [State.pulseTo, apply_ite Prod.snd]; done)
  | (simp (maxDischargeDepth := 60) [State.pulseTo, State.when, apply_ite Prod.snd]; done)
  | ((unfold State.pulseTo); (try simp only []); (repeat' split) <;> (try simp (maxDischargeDepth := 60) [State.when, apply_ite Prod.snd]); done)

@[simp] theorem State.pulseTo_ok (s : State) (g p : Nat) (hok : s.fieldsOk) : (State.pulseTo s g p).fieldsOk := by
  first
  | (simp +contextual (maxDischargeDepth := 60) [State.pulseTo, hok, apply_ite Prod.snd]; done)
  | (simp +contextual (maxDischargeDepth := 60) [State.pulseTo, hok, State.when, apply_ite Prod.snd]; done)
  | ((unfold State.pulseTo); (try simp only []); (repeat' split) <;> (try simp +contextual (maxDischargeDepth := 60) [hok, State.when, apply_ite Prod.snd]); done)

@[simp] theorem State.startCheck_getF (s : State) (p : Nat) (fld : Fld) (itm : Nat) (hw : fld ∉ ([.PHS_PH_STATUS_PH_STATE, .PHS_PH_STATUS_TRIM] : List Fld)) :
    (State.startCheck s p).getF fld itm = s.getF fld itm := by
  try simp only [List.mem_cons, not_or, List.not_mem_nil, not_false_eq_true] at hw
  first
  | (simp (maxDischargeDepth := 60) [State.startCheck, hw, apply_ite Prod.snd]; done)
  | (simp (maxDischargeDepth := 60) [State.startCheck, hw, State.when, apply_ite Prod.snd]; done)
  | ((unfold State.startCheck); (try simp only []); (repeat' split) <;> (try simp (maxDischargeDepth := 60) [hw, State.when, apply_ite Prod.snd]); done)

@[simp] theorem State.startCheck_parts (s : State) (p : Nat) :
    (State.startCheck s p).time = s.time ∧ (State.startCheck s p).cfg = s.cfg ∧ (State.startCheck s p).raiseQ = s.raiseQ ∧ (State.startCheck s p).out = s.out ∧ (State.startCheck s p).freeCtr = s.freeCtr ∧ (State.startCheck s p).flt = s.flt ∧ (State.startCheck s p).dom = s.dom ∧ (State.startCheck s p).eng = s.eng ∧ (State.startCheck s p).start = s.start ∧ (State.startCheck s p).est = s.est ∧ (State.startCheck s p).bud = s.bud ∧ (State.startCheck s p).thm = s.thm ∧ (State.startCheck s p).hrd = s.hrd ∧ (State.startCheck s p).tlm = s.tlm ∧ (State.startCheck s p).cmd = s.cmd ∧ (State.startCheck s p).boot = s.boot ∧ (State.startCheck s p).adc = s.adc ∧ (State.startCheck s p).fw = s.fw ∧ (State.startCheck s p).lt = s.lt ∧ (State.startCheck s p).pending = s.pending := by
  refine ⟨?_, ?_, ?_, ?_, ?_, ?_, ?_, ?_, ?_, ?_, ?_, ?_, ?_, ?_, ?_, ?_, ?_, ?_, ?_, ?_⟩ <;> first
  | (simp (maxDischargeDepth := 60) [State.startCheck, apply_ite Prod.snd]; done)
  | (simp (maxDischargeDepth := 60) [State.startCheck, State.when, apply_ite Prod.snd]; done)
  | ((unfold State.startCheck); (try simp only []); (repeat' split) <;> (try simp (maxDischargeDepth := 60) [State.when, apply_ite Prod.snd]); done)

@[simp] theorem State.startCheck_ok (s : State) (p : Nat) (hok : s.fieldsOk) : (State.startCheck s p).fieldsOk := by
  first
  | (simp +contextual (maxDischargeDepth := 60) [State.startCheck, hok, apply_ite Prod.snd]; done)
  | (simp +contextual (maxDischargeDepth := 60) [State.startCheck, hok, State.when, apply_ite Prod.snd]; done)
  | ((unfold State.startCheck); (try simp only []); (repeat' split) <;> (try simp +contextual (maxDischargeDepth := 60) [hok, State.when, apply_ite Prod.snd]); done)

@[simp] theorem State.setPmbVal_getF (s : State) (cmd : Nat) (v : Int × Int) (fld : Fld) (itm : Nat) (hw : fld ∉ ([] : List Fld)) :
    (State.setPmbVal s cmd v).getF fld itm = s.getF fld itm := by
  try simp only [List.mem_cons, not_or, List.not_mem_nil, not_false_eq_true] at hw
  first
  | (simp (maxDischargeDepth := 60) [State.setPmbVal, hw, apply_ite Prod.snd]; done)
  | (simp (maxDischargeDepth := 60) [State.setPmbVal, hw, State.when, apply_ite Prod.snd]; done)
  | ((unfold State.setPmbVal); (try simp only []); (repeat' split) <;> (try simp (maxDischargeDepth := 60) [hw, State.when, apply_ite Prod.snd]); done)

@[simp] theorem State.setPmbVal_parts (s : State) (cmd : Nat) (v : Int × Int) :
    (State.setPmbVal s cmd v).time = s.time ∧ (State.setPmbVal s cmd v).cfg = s.cfg ∧ (State.setPmbVal s cmd v).raiseQ = s.raiseQ ∧ (State.setPmbVal s cmd v).out = s.out ∧ (State.setPmbVal s cmd v).freeCtr = s.freeCtr ∧ (State.setPmbVal s cmd v).flt = s.flt ∧ (State.setPmbVal s cmd v).dom = s.dom ∧ (State.setPmbVal s cmd v).eng = s.eng ∧ (State.setPmbVal s cmd v).start = s.start ∧ (State.setPmbVal s cmd v).est = s.est ∧ (State.setPmbVal s cmd v).bud = s.bud ∧ (State.setPmbVal s cmd v).thm = s.thm ∧ (State.setPmbVal s cmd v).hrd = s.hrd ∧ (State.setPmbVal s cmd v).tlm = s.tlm ∧ (State.setPmbVal s cmd v).cmd = s.cmd ∧ (State.setPmbVal s cmd v).boot = s.boot ∧ (State.setPmbVal s cmd v).adc = s.adc ∧ (State.setPmbVal s cmd v).fw = s.fw ∧ (State.setPmbVal s cmd v).lt = s.lt ∧ (State.setPmbVal s cmd v).pending = s.pending := by
  refine ⟨?_, ?_, ?_, ?_, ?_, ?_, ?_, ?_, ?_, ?_, ?_, ?_, ?_, ?_, ?_, ?_, ?_, ?_, ?_, ?_⟩ <;> first
  | (simp (maxDischargeDepth := 60) [State.setPmbVal, apply_ite Prod.snd]; done)
  | (simp (maxDischargeDepth := 60) [State.setPmbVal, State.when, apply_ite Prod.snd]; done)
  | ((unfold State.setPmbVal); (try simp only []); (repeat' split) <;> (try simp (maxDischargeDepth := 60) [State.when, apply_ite Prod.snd]); done)

@[simp] theorem State.setPmbVal_ok (s : State) (cmd : Nat) (v : Int × Int) (hok : s.fieldsOk) : (State.setPmbVal s cmd v).fieldsOk := by
  first
  | (simp +contextual (maxDischargeDepth := 60) [State.setPmbVal, hok, apply_ite Prod.snd]; done)
  | (simp +contextual (maxDischargeDepth := 60) [State.setPmbVal, hok, State.when, apply_ite Prod.snd]; done)
  | ((unfold State.setPmbVal); (try simp only []); (repeat' split) <;> (try simp +contextual (maxDischargeDepth := 60) [hok, State.when, apply_ite Prod.snd]); done)

@[simp] theorem State.pmbStore_getF (s : State) (cmd data : Nat) (fld : Fld) (itm : Nat) (hw : fld ∉ ([.GLB_VSTK_STATUS_BUS_OOR, .PHS_GRP_REF_VREF, .PHS_GRP_TON_TON_BASE, .PHS_GRP_TON_VBUS_USED, .PHS_PMB_DATA0_READ_IIN, .PHS_PMB_DATA0_READ_VIN, .PHS_PMB_DATA1_READ_IOUT, .PHS_PMB_DATA1_READ_VOUT, .PHS_PMB_DATA2_READ_TEMPERATURE_1, .PHS_PMB_DATA2_READ_TEMPERATURE_2, .PHS_PMB_DATA3_READ_POUT, .PHS_PMB_DATA3_STATUS_WORD, .PHS_PMB_STATUS_LINEAR_OK, .PHS_PMB_STATUS_VOUT_MODE] : List Fld)) :
    (State.pmbStore s cmd data).getF fld itm = s.getF fld itm := by
  try simp only [List.mem_cons, not_or, List.not_mem_nil, not_false_eq_true] at hw
  first
  | (simp (maxDischargeDepth := 60) [State.pmbStore, hw, apply_ite Prod.snd]; done)
  | (simp (maxDischargeDepth := 60) [State.pmbStore, hw, State.when, apply_ite Prod.snd]; done)
  | ((unfold State.pmbStore); (try simp only []); (repeat' split) <;> (try simp (maxDischargeDepth := 60) [hw, State.when, apply_ite Prod.snd]); done)

@[simp] theorem State.pmbStore_parts (s : State) (cmd data : Nat) :
    (State.pmbStore s cmd data).time = s.time ∧ (State.pmbStore s cmd data).cfg = s.cfg ∧ (State.pmbStore s cmd data).out = s.out ∧ (State.pmbStore s cmd data).freeCtr = s.freeCtr ∧ (State.pmbStore s cmd data).flt = s.flt ∧ (State.pmbStore s cmd data).dom = s.dom ∧ (State.pmbStore s cmd data).eng = s.eng ∧ (State.pmbStore s cmd data).start = s.start ∧ (State.pmbStore s cmd data).est = s.est ∧ (State.pmbStore s cmd data).bud = s.bud ∧ (State.pmbStore s cmd data).thm = s.thm ∧ (State.pmbStore s cmd data).hrd = s.hrd ∧ (State.pmbStore s cmd data).tlm = s.tlm ∧ (State.pmbStore s cmd data).cmd = s.cmd ∧ (State.pmbStore s cmd data).adc = s.adc ∧ (State.pmbStore s cmd data).fw = s.fw ∧ (State.pmbStore s cmd data).lt = s.lt ∧ (State.pmbStore s cmd data).pending = s.pending := by
  refine ⟨?_, ?_, ?_, ?_, ?_, ?_, ?_, ?_, ?_, ?_, ?_, ?_, ?_, ?_, ?_, ?_, ?_, ?_⟩ <;> first
  | (simp (maxDischargeDepth := 60) [State.pmbStore, apply_ite Prod.snd]; done)
  | (simp (maxDischargeDepth := 60) [State.pmbStore, State.when, apply_ite Prod.snd]; done)
  | ((unfold State.pmbStore); (try simp only []); (repeat' split) <;> (try simp (maxDischargeDepth := 60) [State.when, apply_ite Prod.snd]); done)

@[simp] theorem State.pmbStore_ok (s : State) (cmd data : Nat) (hok : s.fieldsOk) : (State.pmbStore s cmd data).fieldsOk := by
  first
  | (simp +contextual (maxDischargeDepth := 60) [State.pmbStore, hok, apply_ite Prod.snd]; done)
  | (simp +contextual (maxDischargeDepth := 60) [State.pmbStore, hok, State.when, apply_ite Prod.snd]; done)
  | ((unfold State.pmbStore); (try simp only []); (repeat' split) <;> (try simp +contextual (maxDischargeDepth := 60) [hok, State.when, apply_ite Prod.snd]); done)

@[simp] theorem State.pmbNext_getF (s : State) (fld : Fld) (itm : Nat) (hw : fld ∉ ([] : List Fld)) :
    (State.pmbNext s).getF fld itm = s.getF fld itm := by
  try simp only [List.mem_cons, not_or, List.not_mem_nil, not_false_eq_true] at hw
  first
  | (simp (maxDischargeDepth := 60) [State.pmbNext, hw, apply_ite Prod.snd]; done)
  | (simp (maxDischargeDepth := 60) [State.pmbNext, hw, State.when, apply_ite Prod.snd]; done)
  | ((unfold State.pmbNext); (try simp only []); (repeat' split) <;> (try simp (maxDischargeDepth := 60) [hw, State.when, apply_ite Prod.snd]); done)

@[simp] theorem State.pmbNext_parts (s : State) :
    (State.pmbNext s).time = s.time ∧ (State.pmbNext s).cfg = s.cfg ∧ (State.pmbNext s).freeCtr = s.freeCtr ∧ (State.pmbNext s).flt = s.flt ∧ (State.pmbNext s).dom = s.dom ∧ (State.pmbNext s).eng = s.eng ∧ (State.pmbNext s).start = s.start ∧ (State.pmbNext s).est = s.est ∧ (State.pmbNext s).bud = s.bud ∧ (State.pmbNext s).thm = s.thm ∧ (State.pmbNext s).hrd = s.hrd ∧ (State.pmbNext s).tlm = s.tlm ∧ (State.pmbNext s).cmd = s.cmd ∧ (State.pmbNext s).boot = s.boot ∧ (State.pmbNext s).adc = s.adc ∧ (State.pmbNext s).fw = s.fw ∧ (State.pmbNext s).lt = s.lt ∧ (State.pmbNext s).pending = s.pending := by
  refine ⟨?_, ?_, ?_, ?_, ?_, ?_, ?_, ?_, ?_, ?_, ?_, ?_, ?_, ?_, ?_, ?_, ?_, ?_⟩ <;> first
  | (simp (maxDischargeDepth := 60) [State.pmbNext, apply_ite Prod.snd]; done)
  | (simp (maxDischargeDepth := 60) [State.pmbNext, State.when, apply_ite Prod.snd]; done)
  | ((unfold State.pmbNext); (try simp only []); (repeat' split) <;> (try simp (maxDischargeDepth := 60) [State.when, apply_ite Prod.snd]); done)

@[simp] theorem State.pmbNext_ok (s : State) (hok : s.fieldsOk) : (State.pmbNext s).fieldsOk := by
  first
  | (simp +contextual (maxDischargeDepth := 60) [State.pmbNext, hok, apply_ite Prod.snd]; done)
  | (simp +contextual (maxDischargeDepth := 60) [State.pmbNext, hok, State.when, apply_ite Prod.snd]; done)
  | ((unfold State.pmbNext); (try simp only []); (repeat' split) <;> (try simp +contextual (maxDischargeDepth := 60) [hok, State.when, apply_ite Prod.snd]); done)

@[simp] theorem State.setLatch_getF (s : State) (init : Nat) (q : Option (Nat × Nat)) (fld : Fld) (itm : Nat) (hw : fld ∉ ([] : List Fld)) :
    (State.setLatch s init q).getF fld itm = s.getF fld itm := by
  try simp only [List.mem_cons, not_or, List.not_mem_nil, not_false_eq_true] at hw
  first
  | (simp (maxDischargeDepth := 60) [State.setLatch, hw, apply_ite Prod.snd]; done)
  | (simp (maxDischargeDepth := 60) [State.setLatch, hw, State.when, apply_ite Prod.snd]; done)
  | ((unfold State.setLatch); (try simp only []); (repeat' split) <;> (try simp (maxDischargeDepth := 60) [hw, State.when, apply_ite Prod.snd]); done)

@[simp] theorem State.setLatch_parts (s : State) (init : Nat) (q : Option (Nat × Nat)) :
    (State.setLatch s init q).time = s.time ∧ (State.setLatch s init q).cfg = s.cfg ∧ (State.setLatch s init q).raiseQ = s.raiseQ ∧ (State.setLatch s init q).out = s.out ∧ (State.setLatch s init q).freeCtr = s.freeCtr ∧ (State.setLatch s init q).flt = s.flt ∧ (State.setLatch s init q).phs = s.phs ∧ (State.setLatch s init q).dom = s.dom ∧ (State.setLatch s init q).eng = s.eng ∧ (State.setLatch s init q).start = s.start ∧ (State.setLatch s init q).est = s.est ∧ (State.setLatch s init q).bud = s.bud ∧ (State.setLatch s init q).thm = s.thm ∧ (State.setLatch s init q).hrd = s.hrd ∧ (State.setLatch s init q).tlm = s.tlm ∧ (State.setLatch s init q).boot = s.boot ∧ (State.setLatch s init q).adc = s.adc ∧ (State.setLatch s init q).fw = s.fw ∧ (State.setLatch s init q).lt = s.lt ∧ (State.setLatch s init q).pending = s.pending := by
  refine ⟨?_, ?_, ?_, ?_, ?_, ?_, ?_, ?_, ?_, ?_, ?_, ?_, ?_, ?_, ?_, ?_, ?_, ?_, ?_, ?_⟩ <;> first
  | (simp (maxDischargeDepth := 60) [State.setLatch, apply_ite Prod.snd]; done)
  | (simp (maxDischargeDepth := 60) [State.setLatch, State.when, apply_ite Prod.snd]; done)
  | ((unfold State.setLatch); (try simp only []); (repeat' split) <;> (try simp (maxDischargeDepth := 60) [State.when, apply_ite Prod.snd]); done)

@[simp] theorem State.setLatch_ok (s : State) (init : Nat) (q : Option (Nat × Nat)) (hok : s.fieldsOk) : (State.setLatch s init q).fieldsOk := by
  first
  | (simp +contextual (maxDischargeDepth := 60) [State.setLatch, hok, apply_ite Prod.snd]; done)
  | (simp +contextual (maxDischargeDepth := 60) [State.setLatch, hok, State.when, apply_ite Prod.snd]; done)
  | ((unfold State.setLatch); (try simp only []); (repeat' split) <;> (try simp +contextual (maxDischargeDepth := 60) [hok, State.when, apply_ite Prod.snd]); done)

@[simp] theorem State.formRecords_getF (s : State) (fld : Fld) (itm : Nat) (hw : fld ∉ ([.TLM_EVENT_DROP, .TLM_LOST_LOST] : List Fld)) :
    (State.formRecords s).getF fld itm = s.getF fld itm := by
  try simp only [List.mem_cons, not_or, List.not_mem_nil, not_false_eq_true] at hw
  first
  | (simp (maxDischargeDepth := 60) [State.formRecords, hw, apply_ite Prod.snd]; done)
  | (simp (maxDischargeDepth := 60) [State.formRecords, hw, State.when, apply_ite Prod.snd]; done)
  | ((unfold State.formRecords); (try simp only []); (repeat' split) <;> (try simp (maxDischargeDepth := 60) [hw, State.when, apply_ite Prod.snd]); done)

@[simp] theorem State.formRecords_parts (s : State) :
    (State.formRecords s).time = s.time ∧ (State.formRecords s).cfg = s.cfg ∧ (State.formRecords s).out = s.out ∧ (State.formRecords s).flt = s.flt ∧ (State.formRecords s).phs = s.phs ∧ (State.formRecords s).dom = s.dom ∧ (State.formRecords s).eng = s.eng ∧ (State.formRecords s).start = s.start ∧ (State.formRecords s).est = s.est ∧ (State.formRecords s).bud = s.bud ∧ (State.formRecords s).thm = s.thm ∧ (State.formRecords s).hrd = s.hrd ∧ (State.formRecords s).cmd = s.cmd ∧ (State.formRecords s).boot = s.boot ∧ (State.formRecords s).adc = s.adc ∧ (State.formRecords s).fw = s.fw ∧ (State.formRecords s).lt = s.lt ∧ (State.formRecords s).pending = s.pending := by
  refine ⟨?_, ?_, ?_, ?_, ?_, ?_, ?_, ?_, ?_, ?_, ?_, ?_, ?_, ?_, ?_, ?_, ?_, ?_⟩ <;> first
  | (simp (maxDischargeDepth := 60) [State.formRecords, apply_ite Prod.snd]; done)
  | (simp (maxDischargeDepth := 60) [State.formRecords, State.when, apply_ite Prod.snd]; done)
  | ((unfold State.formRecords); (try simp only []); (repeat' split) <;> (try simp (maxDischargeDepth := 60) [State.when, apply_ite Prod.snd]); done)

@[simp] theorem State.formRecords_ok (s : State) (hok : s.fieldsOk) : (State.formRecords s).fieldsOk := by
  first
  | (simp +contextual (maxDischargeDepth := 60) [State.formRecords, hok, apply_ite Prod.snd]; done)
  | (simp +contextual (maxDischargeDepth := 60) [State.formRecords, hok, State.when, apply_ite Prod.snd]; done)
  | ((unfold State.formRecords); (try simp only []); (repeat' split) <;> (try simp +contextual (maxDischargeDepth := 60) [hok, State.when, apply_ite Prod.snd]); done)

@[simp] theorem State.twrPeriod_getF (s : State) (w : Nat) (fld : Fld) (itm : Nat) (hw : fld ∉ ([] : List Fld)) :
    (State.twrPeriod s w).getF fld itm = s.getF fld itm := by
  try simp only [List.mem_cons, not_or, List.not_mem_nil, not_false_eq_true] at hw
  first
  | (simp (maxDischargeDepth := 60) [State.twrPeriod, hw, apply_ite Prod.snd]; done)
  | (simp (maxDischargeDepth := 60) [State.twrPeriod, hw, State.when, apply_ite Prod.snd]; done)
  | ((unfold State.twrPeriod); (try simp only []); (repeat' split) <;> (try simp (maxDischargeDepth := 60) [hw, State.when, apply_ite Prod.snd]); done)

@[simp] theorem State.twrPeriod_parts (s : State) (w : Nat) :
    (State.twrPeriod s w).time = s.time ∧ (State.twrPeriod s w).cfg = s.cfg ∧ (State.twrPeriod s w).raiseQ = s.raiseQ ∧ (State.twrPeriod s w).out = s.out ∧ (State.twrPeriod s w).freeCtr = s.freeCtr ∧ (State.twrPeriod s w).flt = s.flt ∧ (State.twrPeriod s w).phs = s.phs ∧ (State.twrPeriod s w).dom = s.dom ∧ (State.twrPeriod s w).eng = s.eng ∧ (State.twrPeriod s w).start = s.start ∧ (State.twrPeriod s w).est = s.est ∧ (State.twrPeriod s w).bud = s.bud ∧ (State.twrPeriod s w).hrd = s.hrd ∧ (State.twrPeriod s w).tlm = s.tlm ∧ (State.twrPeriod s w).cmd = s.cmd ∧ (State.twrPeriod s w).boot = s.boot ∧ (State.twrPeriod s w).adc = s.adc ∧ (State.twrPeriod s w).fw = s.fw ∧ (State.twrPeriod s w).lt = s.lt ∧ (State.twrPeriod s w).pending = s.pending := by
  refine ⟨?_, ?_, ?_, ?_, ?_, ?_, ?_, ?_, ?_, ?_, ?_, ?_, ?_, ?_, ?_, ?_, ?_, ?_, ?_, ?_⟩ <;> first
  | (simp (maxDischargeDepth := 60) [State.twrPeriod, apply_ite Prod.snd]; done)
  | (simp (maxDischargeDepth := 60) [State.twrPeriod, State.when, apply_ite Prod.snd]; done)
  | ((unfold State.twrPeriod); (try simp only []); (repeat' split) <;> (try simp (maxDischargeDepth := 60) [State.when, apply_ite Prod.snd]); done)

@[simp] theorem State.twrPeriod_ok (s : State) (w : Nat) (hok : s.fieldsOk) : (State.twrPeriod s w).fieldsOk := by
  first
  | (simp +contextual (maxDischargeDepth := 60) [State.twrPeriod, hok, apply_ite Prod.snd]; done)
  | (simp +contextual (maxDischargeDepth := 60) [State.twrPeriod, hok, State.when, apply_ite Prod.snd]; done)
  | ((unfold State.twrPeriod); (try simp only []); (repeat' split) <;> (try simp +contextual (maxDischargeDepth := 60) [hok, State.when, apply_ite Prod.snd]); done)

@[simp] theorem State.admitWake_getF (s : State) (d : Nat) (fld : Fld) (itm : Nat) (hw : fld ∉ ([.CEL_STATUS_STATE, .DOM_STATUS_WAKE_WAIT] : List Fld)) :
    (State.admitWake s d).getF fld itm = s.getF fld itm := by
  try simp only [List.mem_cons, not_or, List.not_mem_nil, not_false_eq_true] at hw
  first
  | (simp (maxDischargeDepth := 60) [State.admitWake, hw, apply_ite Prod.snd]; done)
  | (simp (maxDischargeDepth := 60) [State.admitWake, hw, State.when, apply_ite Prod.snd]; done)
  | ((unfold State.admitWake); (try simp only []); (repeat' split) <;> (try simp (maxDischargeDepth := 60) [hw, State.when, apply_ite Prod.snd]); done)

@[simp] theorem State.admitWake_parts (s : State) (d : Nat) :
    (State.admitWake s d).time = s.time ∧ (State.admitWake s d).cfg = s.cfg ∧ (State.admitWake s d).raiseQ = s.raiseQ ∧ (State.admitWake s d).out = s.out ∧ (State.admitWake s d).freeCtr = s.freeCtr ∧ (State.admitWake s d).flt = s.flt ∧ (State.admitWake s d).phs = s.phs ∧ (State.admitWake s d).eng = s.eng ∧ (State.admitWake s d).start = s.start ∧ (State.admitWake s d).bud = s.bud ∧ (State.admitWake s d).thm = s.thm ∧ (State.admitWake s d).hrd = s.hrd ∧ (State.admitWake s d).tlm = s.tlm ∧ (State.admitWake s d).cmd = s.cmd ∧ (State.admitWake s d).boot = s.boot ∧ (State.admitWake s d).adc = s.adc ∧ (State.admitWake s d).fw = s.fw ∧ (State.admitWake s d).lt = s.lt ∧ (State.admitWake s d).pending = s.pending := by
  refine ⟨?_, ?_, ?_, ?_, ?_, ?_, ?_, ?_, ?_, ?_, ?_, ?_, ?_, ?_, ?_, ?_, ?_, ?_, ?_⟩ <;> first
  | (simp (maxDischargeDepth := 60) [State.admitWake, apply_ite Prod.snd]; done)
  | (simp (maxDischargeDepth := 60) [State.admitWake, State.when, apply_ite Prod.snd]; done)
  | ((unfold State.admitWake); (try simp only []); (repeat' split) <;> (try simp (maxDischargeDepth := 60) [State.when, apply_ite Prod.snd]); done)

@[simp] theorem State.admitWake_ok (s : State) (d : Nat) (hok : s.fieldsOk) : (State.admitWake s d).fieldsOk := by
  first
  | (simp +contextual (maxDischargeDepth := 60) [State.admitWake, hok, apply_ite Prod.snd]; done)
  | (simp +contextual (maxDischargeDepth := 60) [State.admitWake, hok, State.when, apply_ite Prod.snd]; done)
  | ((unfold State.admitWake); (try simp only []); (repeat' split) <;> (try simp +contextual (maxDischargeDepth := 60) [hok, State.when, apply_ite Prod.snd]); done)

@[simp] theorem State.thetaDom_getF (s : State) (d : Nat) (tIn : Int) (fld : Fld) (itm : Nat) (hw : fld ∉ ([.THM_DOM_THETA_THETA] : List Fld)) :
    (State.thetaDom s d tIn).getF fld itm = s.getF fld itm := by
  try simp only [List.mem_cons, not_or, List.not_mem_nil, not_false_eq_true] at hw
  first
  | (simp (maxDischargeDepth := 60) [State.thetaDom, hw, apply_ite Prod.snd]; done)
  | (simp (maxDischargeDepth := 60) [State.thetaDom, hw, State.when, apply_ite Prod.snd]; done)
  | ((unfold State.thetaDom); (try simp only []); (repeat' split) <;> (try simp (maxDischargeDepth := 60) [hw, State.when, apply_ite Prod.snd]); done)

@[simp] theorem State.thetaDom_parts (s : State) (d : Nat) (tIn : Int) :
    (State.thetaDom s d tIn).time = s.time ∧ (State.thetaDom s d tIn).cfg = s.cfg ∧ (State.thetaDom s d tIn).raiseQ = s.raiseQ ∧ (State.thetaDom s d tIn).out = s.out ∧ (State.thetaDom s d tIn).flt = s.flt ∧ (State.thetaDom s d tIn).phs = s.phs ∧ (State.thetaDom s d tIn).dom = s.dom ∧ (State.thetaDom s d tIn).eng = s.eng ∧ (State.thetaDom s d tIn).start = s.start ∧ (State.thetaDom s d tIn).est = s.est ∧ (State.thetaDom s d tIn).bud = s.bud ∧ (State.thetaDom s d tIn).hrd = s.hrd ∧ (State.thetaDom s d tIn).tlm = s.tlm ∧ (State.thetaDom s d tIn).cmd = s.cmd ∧ (State.thetaDom s d tIn).boot = s.boot ∧ (State.thetaDom s d tIn).adc = s.adc ∧ (State.thetaDom s d tIn).fw = s.fw ∧ (State.thetaDom s d tIn).lt = s.lt ∧ (State.thetaDom s d tIn).pending = s.pending := by
  refine ⟨?_, ?_, ?_, ?_, ?_, ?_, ?_, ?_, ?_, ?_, ?_, ?_, ?_, ?_, ?_, ?_, ?_, ?_, ?_⟩ <;> first
  | (simp (maxDischargeDepth := 60) [State.thetaDom, apply_ite Prod.snd]; done)
  | (simp (maxDischargeDepth := 60) [State.thetaDom, State.when, apply_ite Prod.snd]; done)
  | ((unfold State.thetaDom); (try simp only []); (repeat' split) <;> (try simp (maxDischargeDepth := 60) [State.when, apply_ite Prod.snd]); done)

@[simp] theorem State.thetaDom_ok (s : State) (d : Nat) (tIn : Int) (hok : s.fieldsOk) : (State.thetaDom s d tIn).fieldsOk := by
  first
  | (simp +contextual (maxDischargeDepth := 60) [State.thetaDom, hok, apply_ite Prod.snd]; done)
  | (simp +contextual (maxDischargeDepth := 60) [State.thetaDom, hok, State.when, apply_ite Prod.snd]; done)
  | ((unfold State.thetaDom); (try simp only []); (repeat' split) <;> (try simp +contextual (maxDischargeDepth := 60) [hok, State.when, apply_ite Prod.snd]); done)

@[simp] theorem State.showAir_getF (s : State) (fld : Fld) (itm : Nat) (hw : fld ∉ ([.THM_AIR_F_AIR, .THM_EVENT_AIR] : List Fld)) :
    (State.showAir s).getF fld itm = s.getF fld itm := by
  try simp only [List.mem_cons, not_or, List.not_mem_nil, not_false_eq_true] at hw
  first
  | (simp (maxDischargeDepth := 60) [State.showAir, hw, apply_ite Prod.snd]; done)
  | (simp (maxDischargeDepth := 60) [State.showAir, hw, State.when, apply_ite Prod.snd]; done)
  | ((unfold State.showAir); (try simp only []); (repeat' split) <;> (try simp (maxDischargeDepth := 60) [hw, State.when, apply_ite Prod.snd]); done)

@[simp] theorem State.showAir_parts (s : State) :
    (State.showAir s).time = s.time ∧ (State.showAir s).cfg = s.cfg ∧ (State.showAir s).out = s.out ∧ (State.showAir s).freeCtr = s.freeCtr ∧ (State.showAir s).flt = s.flt ∧ (State.showAir s).phs = s.phs ∧ (State.showAir s).dom = s.dom ∧ (State.showAir s).eng = s.eng ∧ (State.showAir s).start = s.start ∧ (State.showAir s).est = s.est ∧ (State.showAir s).bud = s.bud ∧ (State.showAir s).thm = s.thm ∧ (State.showAir s).hrd = s.hrd ∧ (State.showAir s).tlm = s.tlm ∧ (State.showAir s).cmd = s.cmd ∧ (State.showAir s).boot = s.boot ∧ (State.showAir s).adc = s.adc ∧ (State.showAir s).fw = s.fw ∧ (State.showAir s).lt = s.lt ∧ (State.showAir s).pending = s.pending := by
  refine ⟨?_, ?_, ?_, ?_, ?_, ?_, ?_, ?_, ?_, ?_, ?_, ?_, ?_, ?_, ?_, ?_, ?_, ?_, ?_, ?_⟩ <;> first
  | (simp (maxDischargeDepth := 60) [State.showAir, apply_ite Prod.snd]; done)
  | (simp (maxDischargeDepth := 60) [State.showAir, State.when, apply_ite Prod.snd]; done)
  | ((unfold State.showAir); (try simp only []); (repeat' split) <;> (try simp (maxDischargeDepth := 60) [State.when, apply_ite Prod.snd]); done)

@[simp] theorem State.showAir_ok (s : State) (hok : s.fieldsOk) : (State.showAir s).fieldsOk := by
  first
  | (simp +contextual (maxDischargeDepth := 60) [State.showAir, hok, apply_ite Prod.snd]; done)
  | (simp +contextual (maxDischargeDepth := 60) [State.showAir, hok, State.when, apply_ite Prod.snd]; done)
  | ((unfold State.showAir); (try simp only []); (repeat' split) <;> (try simp +contextual (maxDischargeDepth := 60) [hok, State.when, apply_ite Prod.snd]); done)

end Sys2Proof.Machine
end

