-- ==== Sys2Proof/WellFormed.lean ====
section
/-! DEFINITION. Well-formed commands: operands that name a unit the configuration table gives the Balinette (R4, R46, R49, R289) and
fit the field, register or message that brings them. The meanings are total: a command that is not well-formed runs too. -/

namespace Sys2Proof

/-- A tile set as its message can carry it (R177). -/
def TileSet.wf (s : TileSet) : Bool := s.first < 512 ∧ s.count < 512 ∧ s.stride < 256

/-- A lock-link message as its 32 bytes can carry it (R273). -/
def LockMsg.wf (m : LockMsg) : Bool :=
  m.flags < 256 ∧ m.group < 65536 ∧ m.sender < 65536 ∧ m.seq < 65536 ∧ m.body.length = 20 ∧ m.body.all (fun b => b < 256)

/-- Sampled straps (R387). -/
def Straps.wf (s : Straps) : Bool :=
  s.testEn < 2 ∧ s.herdRole < 4 ∧ s.phasesPop < 8 ∧ s.vstkDef < 8 ∧ s.bootMode < 4

/-- Fused values as the array holds them: at most a check code a pair, three rail set-points, twelve Goose limits, a SHA-384 digest (R48,
R302, R371, R427). -/
def Fuses.wf (f : Fuses) : Bool :=
  f.chkExp.length ≤ 8 ∧ f.railSet.length = 3 ∧ f.goose.length = 12 ∧ f.keyDigest.length ≤ 48

/-- An endpoint that the configuration table gives the Balinette (R36). -/
def Endpoint.wf (t : CfgTable) (e : Endpoint) : Bool :=
  match e with
  | .load d => d < t.domains
  | .cell c => c < t.cells
  | .droop x => x < t.dsens
  | .temp x => x < t.tsens
  | .conv c => c < 16
  | .port p => p < 4
  | .other => true

/-- Whether the operands of a command are in range for a configuration table. -/
def Instr.wf (t : CfgTable) (i : Instr) : Bool :=
  match i with
  | .busOutOfRange vbus => vbus < 65536
  | .busFatal vbus => vbus < 65536
  | .groupEnable g => g < 4
  | .groupDisable g => g < 4
  | .startDelayElapsed g vs => g < 4 ∧ vs < 4096
  | .rampEnd g vs => g < 4 ∧ vs < 4096
  | .foldbackEntry g vs => g < 4 ∧ vs < 4096
  | .foldbackRecovery g vs => g < 4 ∧ vs < 4096
  | .fbLong g => g < 4
  | .hiccupEntry g vs => g < 4 ∧ vs < 4096
  | .hiccupWaitElapsed g vs => g < 4 ∧ vs < 4096
  | .stopDelayElapsed g => g < 4
  | .stopRampEnd g vs => g < 4 ∧ vs < 4096
  | .attemptsClear g => g < 4
  | .phasePulse g => g < 4
  | .valleyLimitUpdate g vs => g < 4 ∧ vs < 4096
  | .valleyHold p _ => p < t.phTotal
  | .pulseRiseReport p _ _ => p < t.phTotal
  | .phaseSenseDisable p => p < t.phTotal
  | .tmonHotForce p tmon => p < t.phTotal ∧ tmon < 2048
  | .phaseDisable p => p < t.phTotal
  | .phaseCheckStart p => p < t.phTotal
  | .phaseReadmit p => p < t.phTotal
  | .phaseCheckEnd p => p < t.phTotal
  | .pmbusPollCycle => true
  | .pmbusTransactionDone _ data pec => data < 65536 ∧ pec < 256
  | .pmbusBusHeld => true
  | .pmbusBusReset => true
  | .pmbusBusFree => true
  | .cellLimitReached c => c < t.cells
  | .cellLimitRelease c => c < t.cells
  | .cellLimitFold c => c < t.cells
  | .cellLimitRestore c => c < t.cells
  | .cellFailure c cause => c < t.cells ∧ 1 ≤ cause ∧ cause ≤ 7
  | .cellIsolationConfirmed c => c < t.cells
  | .cellIsoFail c => c < t.cells
  | .cellIsolate c => c < t.cells
  | .cellUnisolate c => c < t.cells
  | .cellReadmit c => c < t.cells
  | .cellCheckEnd c _ => c < t.cells
  | .prechargeComplete c => c < t.cells
  | .headroomOffsetUpdate d => d < t.domains
  | .droopSample sensors cells vias => sensors.all (fun r => r.sensor < t.dsens) ∧ cells.all (fun p => p.1 < t.cells) ∧ vias.all (fun p => p.1 < t.domains)
  | .droopFloorFall d => d < t.domains
  | .stackGateReopen => true
  | .droopSensorRecheck x => x < t.dsens
  | .droopRecheckPass x => x < t.dsens
  | .wakeHeadroomMet d => d < t.domains
  | .wakeLate d => d < t.domains
  | .quiesceAck d => d < t.domains
  | .quiesceTimeout d => d < t.domains
  | .rampDownEnd d => d < t.domains
  | .fastElementEvaluation slot elem => slot < 512 ∧ elem < 256
  | .mediumEvaluation _ => true
  | .slowEvaluation _ => true
  | .deadlineMiss slot => slot < 512
  | .laneRetire lane => lane < 16
  | .slotOpen slot => slot < 512
  | .slotClose slot => slot < 512
  | .activityToken fmt set start m n k tokenId => tokenId < 2 ^ 32 ∧ fmt < 8 ∧ set.wf ∧ start < 2 ^ 64 ∧ m < 2 ^ 32 ∧ n < 2 ^ 32 ∧ k < 2 ^ 32
  | .barrierAnnouncement set release bid engines => set.wf ∧ release < 2 ^ 64 ∧ bid < 65536 ∧ engines < 65536
  | .barrierCancel bid => bid < 65536
  | .prebiasFloorStart _ => true
  | .prebiasFloorFall _ tile => tile < t.tiles
  | .waveArm => true
  | .waveRelease bid => bid < 65536
  | .waveTimeout bid => bid < 65536
  | .startReq port tile wclass reqId epoch _ engines step bid => port < t.tiles ∧ tile < 512 ∧ wclass < 4 ∧ reqId < 4 ∧ epoch < 16 ∧ engines < 32 ∧ step < 1024 ∧ bid < 65536
  | .startCancel tile reqId => tile < t.tiles ∧ reqId < 4
  | .mapNotice tile epoch map => tile < t.tiles ∧ epoch < 16 ∧ map < 2
  | .bucketRefill => true
  | .permitGrant => true
  | .profileCheck tile => tile < t.tiles
  | .counterMessage port _ dom _ counts => port < t.domains ∧ dom < 512 ∧ counts.all (fun n => n < 65536)
  | .counterStaleDecision => true
  | .estimatePublish cells => cells.all (fun p => p.1 < t.cells)
  | .calibrationUpdate => true
  | .pulseEnd => true
  | .averageUpdate => true
  | .governorUpdate => true
  | .fixedLost tile => tile < t.tiles
  | .temperatureConversion => true
  | .temperaturePublish results => results.all (fun p => p.1 < t.tsens)
  | .sidebandReading tower readings => tower < t.towers ∧ readings.all (fun p => p.1 < t.tsens)
  | .clampReleaseStart tower unit => unit < (if tower then t.towers else t.domains)
  | .clampRiseStep tower unit => unit < (if tower then t.towers else t.domains)
  | .sensorDisagree sensor _ => sensor < t.tsens
  | .sensorRecheck sensor => sensor < t.tsens
  | .sensorRecheckEnd sensor => sensor < t.tsens
  | .maskSensor set slot => set < 64 ∧ slot < 8
  | .sidebandLost tower => tower < t.towers
  | .sidebandRecover tower => tower < t.towers
  | .thetaUpdate => true
  | .forecastBinShift => true
  | .sensorConversionTimeout sensor => sensor < t.tsens
  | .herdJoin set slot => set < 64 ∧ slot < 8
  | .herdLeave set slot => set < 64 ∧ slot < 8
  | .helloReceived port m => port < 4 ∧ m.wf
  | .offerReceived port m => port < 4 ∧ m.wf
  | .changeReceived m => m.wf
  | .changeTick => true
  | .syncReceived m => m.wf
  | .delayReqReceived port m => port < 4 ∧ m.wf
  | .delayRespReceived m => m.wf
  | .excludeReceived port m => port < 4 ∧ m.wf
  | .decideReceived m => m.wf
  | .disbandReceived m => m.wf
  | .syncSend => true
  | .offerSend => true
  | .delayReqSend => true
  | .helloRetry => true
  | .linkLoss port => port < 4
  | .offerRecompute => true
  | .exclusionRecovery => true
  | .exclWaitExpiry => true
  | .joinTimeout => true
  | .holdTmoExpiry => true
  | .decideFollow stack => stack < 65536
  | .decideEvict stack => stack < 65536
  | .exclusionEntryExpiry entry => entry < 16
  | .lockMessageDiscard port bytes => port < 4 ∧ bytes.length = 32
  | .timeSlewEnd => true
  | .roundStart c => c < 16
  | .conversionDone c _ => c < 16
  | .triggerHold c => c < 16
  | .triggerTimeout c => c < 16
  | .heldValueDiscard c => c < 16
  | .urgentTimerConversion c => c < 16
  | .adcUrgReq ch gain smp => ch < 256 ∧ gain < 4 ∧ smp < 64
  | .converterStall c => c < 16
  | .converterWake c _ => c < 16
  | .converterPowerDown c => c < 16
  | .converterOffline c => c < 16
  | .converterOnline c => c < 16
  | .converterRecheck c => c < 16
  | .converterRecheckEnd c => c < 16
  | .adcCalibrate set slot => set < 64 ∧ slot < 8
  | .calibrationStepDone => true
  | .calibrationExpiry ch => ch < 236
  | .telemetryWindowClose => true
  | .recordWriteAck => true
  | .recordDrop => true
  | .notifyWrite => true
  | .telemetryEnable => true
  | .telemetryStart => true
  | .telemetryDisable => true
  | .consWrite value => value < 2 ^ 32
  | .busErrorResponse write => write < 3
  | .telemetrySetup set slot => set < 64 ∧ slot < 8
  | .captureWaveform set slot => set < 64 ∧ slot < 8
  | .captureArm => true
  | .captureDisarm => true
  | .captureBlockEncode => true
  | .captureTrigger => true
  | .capturePostDone => true
  | .captureDumpAck => true
  | .captureWaitTimeout => true
  | .crcStart init u => init < 256 ∧ u < 4
  | .crcFinish init u => init < 256 ∧ u < 4
  | .crcAbort init u => init < 256 ∧ u < 4
  | .crcData32 init u data => init < 256 ∧ u < 4 ∧ data < 2 ^ 32
  | .crcData8 init u data => init < 256 ∧ u < 4 ∧ data < 256
  | .crcValueWrite init u value => init < 256 ∧ u < 4 ∧ value < 2 ^ 32
  | .crcSettingsWrite init u reg value => init < 256 ∧ u < 4 ∧ reg < 3 ∧ value < 2 ^ 32
  | .crcClaim init => init < 256
  | .crcRelease init => init < 256
  | .crcLeaseExpiry => true
  | .crcSelfTest u _ => u < 4
  | .fenceDomain set slot => set < 64 ∧ slot < 8
  | .unfenceDomain set slot => set < 64 ∧ slot < 8
  | .slotHandover init set slot word => init < 256 ∧ set < 64 ∧ slot < 8 ∧ word < 2 ^ 32
  | .replySlotRead init set slot => init < 256 ∧ set < 64 ∧ slot < 8
  | .registrationSlotTimeout slot => slot < 8
  | .firmwarePacketStart set slot => set < 64 ∧ slot < 8
  | .registerPartner set slot => set < 64 ∧ slot < 8
  | .renewLease set slot => set < 64 ∧ slot < 8
  | .releasePartner set slot => set < 64 ∧ slot < 8
  | .heartbeatMissed set => set < 64
  | .leaseExpiry set => set < 64
  | .partnerFree set => set < 64
  | .setOperatingPoint set slot => set < 64 ∧ slot < 8
  | .setPreferredPoint set slot => set < 64 ∧ slot < 8
  | .setPowerCap set slot => set < 64 ∧ slot < 8
  | .setFixedFrequency set slot => set < 64 ∧ slot < 8
  | .stageConfig set slot => set < 64 ∧ slot < 8
  | .rweWrite init off value => init < 256 ∧ off < 2 ^ 20 ∧ value < 2 ^ 32
  | .commitEpoch set slot => set < 64 ∧ slot < 8
  | .cmdCommit init value => init < 256 ∧ value < 2 ^ 32
  | .abortRetune set slot => set < 64 ∧ slot < 8
  | .validationDone => true
  | .epochApply => true
  | .settleDone => true
  | .settleTimeout => true
  | .loadImage set slot => set < 64 ∧ slot < 8
  | .imageVerifyDone => true
  | .loadingTimeout => true
  | .activateImage set slot => set < 64 ∧ slot < 8
  | .queryImage set slot => set < 64 ∧ slot < 8
  | .interlockQuietEnd => true
  | .deferTimeout => true
  | .processorSwitch cp => cp < 4
  | .processorCrash cp cause addr comp => cp < 4 ∧ (cause = 1 ∨ cause = 3 ∨ cause = 4) ∧ addr < 2 ^ 32 ∧ comp < 16
  | .watchdogExpiry cp => cp < 4
  | .watchdogKick init cp => init < 256 ∧ cp < 4
  | .processorRestartDone cp _ => cp < 4
  | .scrubPass corrected crashed banks => corrected.all (fun c => c < 4) ∧ crashed.all (fun e => e.1 < 4) ∧ banks.all (fun b => b < 2)
  | .policyCycle => true
  | .mailboxTimeout slot => slot < 512
  | .debugHalt init => init < 256
  | .debugResume init => init < 256
  | .debugStep init => init < 256
  | .debugWindowWrite init off value => init < 256 ∧ off < 2 ^ 20 ∧ value < 2 ^ 32
  | .faultRaise _ => true
  | .fatalRaise _ => true
  | .fatalStopGroupNext => true
  | .softwareWindowExpiry sub code => sub < 256 ∧ code < 16
  | .quietExpiry sub code => sub < 256 ∧ code < 16
  | .fltHandle init sub code => init < 256 ∧ sub < 256 ∧ code < 16
  | .faultQuery set slot => set < 64 ∧ slot < 8
  | .faultAck set slot => set < 64 ∧ slot < 8
  | .cntClr init sub code => init < 256 ∧ sub < 256 ∧ code < 16
  | .fecValidClear init => init < 256
  | .pairReadbackMismatch lt lc => lt < 2 ∧ lc < 2
  | .pairReadbackAgree => true
  | .faultLogicHeartbeat => true
  | .gooseTrip code index => 1 ≤ code ∧ code ≤ 7 ∧ index < 4096
  | .linkTest set slot => set < 64 ∧ slot < 8
  | .linkTestEnd link _ _ _ => link < 7
  | .highWordLatchRead init off => init < 256 ∧ off < 2 ^ 20
  | .registerWrite _ init off _ value => init < 256 ∧ off < 2 ^ 20 ∧ value < 2 ^ 32
  | .roosterMessageDiscard tile => tile < t.tiles
  | .aonPowerOn _ => true
  | .gooseReset => true
  | .powerOnEnd straps => straps.wf
  | .fuseLoadDone _ fuses corrected uncorrectable => fuses.wf ∧ corrected.all (fun w => w < 1024) ∧ uncorrectable.all (fun w => w < 1024)
  | .flashWake => true
  | .flashImageReadDone bytes => bytes.all (fun b => b < 256)
  | .imageApplyDone => true
  | .bootRelease init => init < 256
  | .useRom init => init < 256
  | .cfgCommit init => init < 256
  | .releaseSequenceStep => true
  | .pwrOkTmoExpiry => true
  | .cpRst init => init < 256
  | .blockRst init _ => init < 256
  | .blRstNLow => true
  | .blCprstNLow => true
  | .cpIntervalEnd => true
  | .fuseProgram init word => init < 256 ∧ word < 1024
  | .fuseProgramReadback value => value < 2 ^ 32
  | .refclkLoss => true
  | .refclkReturn => true
  | .oscCalibration => true
  | .fabricRetry _ => true
  | .endpointUnreachable what => what.wf t

end Sys2Proof
end

