-- ==== Sys2Proof/Tests/Slice0.lean ====
section
/-! SUPPORT. The package's own tests: ill-formed commands that WellFormed refuses, worked examples of the manual, and for every
statement with hypotheses a state and operands that meet them. -/

set_option maxRecDepth 20000
set_option linter.unusedVariables false

namespace Sys2Proof.Tests

open Sys2Proof Sys2Proof.Machine Host

/-- The state after reset with some fields changed. -/
def mk (l : List (Fld × Nat × Nat)) : State := l.foldl (fun s p => s.setF p.1 p.2.1 p.2.2) State.reset

/-- A state whose strap permits either role in a herd. -/
def herd (s : State) : State := { s with cfg := { s.cfg with straps := { s.cfg.straps with herdRole := 3 } } }

/-- A packet of CP0 in slot `k`. -/
def pkt1 (k op : Nat) (payload : List Nat) : Packet :=
  { init := 0xF0, op := op, flags := 0, pid := k / 8, ver := 1, tag := 7, len := payload.length, epoch := 0, crc := 0,
    payload := payload, order := 0 }

/-- That packet in flight. -/
def flight (k op : Nat) (payload : List Nat) (ph : PktPhase) : InFlight := { pkt := pkt1 k op payload, phase := ph, began := 0, passed := 0 }

/-- A state with that packet in a phase. -/
def withFlight (s : State) (k op : Nat) (payload : List Nat) (ph : PktPhase) : State :=
  { s with cmd := { s.cmd with inflight := s.cmd.inflight.put k (flight k op payload ph) } }

/-- A state with that packet just taken in. -/
def withPkt (s : State) (k op : Nat) (payload : List Nat) : State := withFlight s k op payload .taken

/-- A small configuration image of the reference stack. -/
def testImage : List Nat :=
  let b := leBytes 4 0x47494643 ++ leBytes 2 1 ++ leBytes 2 7 ++ leBytes 4 36 ++ leBytes 2 248 ++ leBytes 2 1152 ++ List.replicate 16 0
  b ++ leBytes 4 (crc32c b)

/-! Commands with an operand out of range: each check of WellFormed refuses its own (R4, R46, R49, R289). -/

theorem test_wf_refuses_1 :
    ([.busOutOfRange (65536),
      .busFatal (65536),
      .groupEnable (4),
      .groupDisable (4),
      .startDelayElapsed (4) 0,
      .startDelayElapsed 0 (4096),
      .rampEnd (4) 0,
      .rampEnd 0 (4096),
      .foldbackEntry (4) 0,
      .foldbackEntry 0 (4096),
      .foldbackRecovery (4) 0,
      .foldbackRecovery 0 (4096),
      .fbLong (4),
      .hiccupEntry (4) 0,
      .hiccupEntry 0 (4096),
      .hiccupWaitElapsed (4) 0,
      .hiccupWaitElapsed 0 (4096),
      .stopDelayElapsed (4),
      .stopRampEnd (4) 0,
      .stopRampEnd 0 (4096),
      .attemptsClear (4),
      .phasePulse (4),
      .valleyLimitUpdate (4) 0,
      .valleyLimitUpdate 0 (4096),
      .valleyHold (Cfg.reference.table.phTotal) 0,
      .pulseRiseReport (Cfg.reference.table.phTotal) true true,
      .phaseSenseDisable (Cfg.reference.table.phTotal),
      .tmonHotForce (Cfg.reference.table.phTotal) 0,
      .tmonHotForce 0 (2048),
      .phaseDisable (Cfg.reference.table.phTotal),
      .phaseCheckStart (Cfg.reference.table.phTotal),
      .phaseReadmit (Cfg.reference.table.phTotal),
      .phaseCheckEnd (Cfg.reference.table.phTotal),
      .pmbusTransactionDone true (65536) 0,
      .pmbusTransactionDone true 0 (256),
      .cellLimitReached (Cfg.reference.table.cells),
      .cellLimitRelease (Cfg.reference.table.cells),
      .cellLimitFold (Cfg.reference.table.cells),
      .cellLimitRestore (Cfg.reference.table.cells),
      .cellFailure (Cfg.reference.table.cells) 1] : List Instr).all (fun c => !c.wf Cfg.reference.table) = true := by decide

theorem test_wf_refuses_2 :
    ([.cellFailure 0 0,
      .cellFailure 0 8,
      .cellIsolationConfirmed (Cfg.reference.table.cells),
      .cellIsoFail (Cfg.reference.table.cells),
      .cellIsolate (Cfg.reference.table.cells),
      .cellUnisolate (Cfg.reference.table.cells),
      .cellReadmit (Cfg.reference.table.cells),
      .cellCheckEnd (Cfg.reference.table.cells) true,
      .prechargeComplete (Cfg.reference.table.cells),
      .headroomOffsetUpdate (Cfg.reference.table.domains),
      .droopSample [] [(Cfg.reference.table.cells, 1)] [],
      .droopSample [] [] [(Cfg.reference.table.domains, 1)],
      .droopFloorFall (Cfg.reference.table.domains),
      .droopSensorRecheck (Cfg.reference.table.dsens),
      .droopRecheckPass (Cfg.reference.table.dsens),
      .wakeHeadroomMet (Cfg.reference.table.domains),
      .wakeLate (Cfg.reference.table.domains),
      .quiesceAck (Cfg.reference.table.domains),
      .quiesceTimeout (Cfg.reference.table.domains),
      .rampDownEnd (Cfg.reference.table.domains),
      .fastElementEvaluation (512) 0,
      .fastElementEvaluation 0 (256),
      .deadlineMiss (512),
      .laneRetire (16),
      .slotOpen (512),
      .slotClose (512),
      .activityToken 0 { first := 0, count := 0, stride := 0 } 0 0 0 0 (2 ^ 32),
      .activityToken (8) { first := 0, count := 0, stride := 0 } 0 0 0 0 0,
      .activityToken 0 { first := 512, count := 0, stride := 0 } 0 0 0 0 0,
      .activityToken 0 { first := 0, count := 0, stride := 0 } (2 ^ 64) 0 0 0 0,
      .activityToken 0 { first := 0, count := 0, stride := 0 } 0 (2 ^ 32) 0 0 0,
      .activityToken 0 { first := 0, count := 0, stride := 0 } 0 0 (2 ^ 32) 0 0,
      .activityToken 0 { first := 0, count := 0, stride := 0 } 0 0 0 (2 ^ 32) 0,
      .barrierAnnouncement { first := 512, count := 0, stride := 0 } 0 0 0,
      .barrierAnnouncement { first := 0, count := 0, stride := 0 } (2 ^ 64) 0 0,
      .barrierAnnouncement { first := 0, count := 0, stride := 0 } 0 (65536) 0,
      .barrierAnnouncement { first := 0, count := 0, stride := 0 } 0 0 (65536),
      .barrierCancel (65536),
      .prebiasFloorFall 0 (Cfg.reference.table.tiles),
      .waveRelease (65536)] : List Instr).all (fun c => !c.wf Cfg.reference.table) = true := by decide

theorem test_wf_refuses_3 :
    ([.waveTimeout (65536),
      .startReq (Cfg.reference.table.tiles) 0 0 0 0 true 0 0 0,
      .startReq 0 (512) 0 0 0 true 0 0 0,
      .startReq 0 0 (4) 0 0 true 0 0 0,
      .startReq 0 0 0 (4) 0 true 0 0 0,
      .startReq 0 0 0 0 (16) true 0 0 0,
      .startReq 0 0 0 0 0 true (32) 0 0,
      .startReq 0 0 0 0 0 true 0 (1024) 0,
      .startReq 0 0 0 0 0 true 0 0 (65536),
      .startCancel (Cfg.reference.table.tiles) 0,
      .startCancel 0 (4),
      .mapNotice (Cfg.reference.table.tiles) 0 0,
      .mapNotice 0 (16) 0,
      .mapNotice 0 0 (2),
      .profileCheck (Cfg.reference.table.tiles),
      .counterMessage (Cfg.reference.table.domains) true 0 0 [],
      .counterMessage 0 true (512) 0 [],
      .counterMessage 0 true 0 0 [65536],
      .estimatePublish [(Cfg.reference.table.cells, 1)],
      .fixedLost (Cfg.reference.table.tiles),
      .temperaturePublish [(Cfg.reference.table.tsens, 1)],
      .sidebandReading (Cfg.reference.table.towers) [],
      .sidebandReading 0 [(Cfg.reference.table.tsens, 1)],
      .clampReleaseStart true (Cfg.reference.table.towers),
      .clampRiseStep true (Cfg.reference.table.towers),
      .sensorDisagree (Cfg.reference.table.tsens) true,
      .sensorRecheck (Cfg.reference.table.tsens),
      .sensorRecheckEnd (Cfg.reference.table.tsens),
      .maskSensor (64) 0,
      .maskSensor 0 (8),
      .sidebandLost (Cfg.reference.table.towers),
      .sidebandRecover (Cfg.reference.table.towers),
      .sensorConversionTimeout (Cfg.reference.table.tsens),
      .herdJoin (64) 0,
      .herdJoin 0 (8),
      .herdLeave (64) 0,
      .herdLeave 0 (8),
      .helloReceived (4) { flags := 0, group := 0, sender := 0, seq := 0, body := List.replicate 20 0 },
      .helloReceived 0 { flags := 0, group := 0, sender := 0, seq := 0, body := [] },
      .offerReceived (4) { flags := 0, group := 0, sender := 0, seq := 0, body := List.replicate 20 0 }] : List Instr).all (fun c => !c.wf Cfg.reference.table) = true := by decide

theorem test_wf_refuses_4 :
    ([.offerReceived 0 { flags := 0, group := 0, sender := 0, seq := 0, body := [] },
      .changeReceived { flags := 0, group := 0, sender := 0, seq := 0, body := [] },
      .syncReceived { flags := 0, group := 0, sender := 0, seq := 0, body := [] },
      .delayReqReceived (4) { flags := 0, group := 0, sender := 0, seq := 0, body := List.replicate 20 0 },
      .delayReqReceived 0 { flags := 0, group := 0, sender := 0, seq := 0, body := [] },
      .delayRespReceived { flags := 0, group := 0, sender := 0, seq := 0, body := [] },
      .excludeReceived (4) { flags := 0, group := 0, sender := 0, seq := 0, body := List.replicate 20 0 },
      .excludeReceived 0 { flags := 0, group := 0, sender := 0, seq := 0, body := [] },
      .decideReceived { flags := 0, group := 0, sender := 0, seq := 0, body := [] },
      .disbandReceived { flags := 0, group := 0, sender := 0, seq := 0, body := [] },
      .linkLoss (4),
      .decideFollow (65536),
      .decideEvict (65536),
      .exclusionEntryExpiry (16),
      .lockMessageDiscard (4) (List.replicate 32 0),
      .lockMessageDiscard 0 [],
      .roundStart (16),
      .conversionDone (16) 0,
      .triggerHold (16),
      .triggerTimeout (16),
      .heldValueDiscard (16),
      .urgentTimerConversion (16),
      .adcUrgReq (256) 0 0,
      .adcUrgReq 0 (4) 0,
      .adcUrgReq 0 0 (64),
      .converterStall (16),
      .converterWake (16) true,
      .converterPowerDown (16),
      .converterOffline (16),
      .converterOnline (16),
      .converterRecheck (16),
      .converterRecheckEnd (16),
      .adcCalibrate (64) 0,
      .adcCalibrate 0 (8),
      .calibrationExpiry (236),
      .consWrite (2 ^ 32),
      .busErrorResponse (3),
      .telemetrySetup (64) 0,
      .telemetrySetup 0 (8),
      .captureWaveform (64) 0] : List Instr).all (fun c => !c.wf Cfg.reference.table) = true := by decide

theorem test_wf_refuses_5 :
    ([.captureWaveform 0 (8),
      .crcStart (256) 0,
      .crcStart 0 (4),
      .crcFinish (256) 0,
      .crcFinish 0 (4),
      .crcAbort (256) 0,
      .crcAbort 0 (4),
      .crcData32 (256) 0 0,
      .crcData32 0 (4) 0,
      .crcData32 0 0 (2 ^ 32),
      .crcData8 (256) 0 0,
      .crcData8 0 (4) 0,
      .crcData8 0 0 (256),
      .crcValueWrite (256) 0 0,
      .crcValueWrite 0 (4) 0,
      .crcValueWrite 0 0 (2 ^ 32),
      .crcSettingsWrite (256) 0 0 0,
      .crcSettingsWrite 0 (4) 0 0,
      .crcSettingsWrite 0 0 (3) 0,
      .crcSettingsWrite 0 0 0 (2 ^ 32),
      .crcClaim (256),
      .crcRelease (256),
      .crcSelfTest (4) true,
      .fenceDomain (64) 0,
      .fenceDomain 0 (8),
      .unfenceDomain (64) 0,
      .unfenceDomain 0 (8),
      .slotHandover (256) 0 0 0,
      .slotHandover 0 (64) 0 0,
      .slotHandover 0 0 (8) 0,
      .slotHandover 0 0 0 (2 ^ 32),
      .replySlotRead (256) 0 0,
      .replySlotRead 0 (64) 0,
      .replySlotRead 0 0 (8),
      .registrationSlotTimeout (8),
      .firmwarePacketStart (64) 0,
      .firmwarePacketStart 0 (8),
      .registerPartner (64) 0,
      .registerPartner 0 (8),
      .renewLease (64) 0] : List Instr).all (fun c => !c.wf Cfg.reference.table) = true := by decide

theorem test_wf_refuses_6 :
    ([.renewLease 0 (8),
      .releasePartner (64) 0,
      .releasePartner 0 (8),
      .heartbeatMissed (64),
      .leaseExpiry (64),
      .partnerFree (64),
      .setOperatingPoint (64) 0,
      .setOperatingPoint 0 (8),
      .setPreferredPoint (64) 0,
      .setPreferredPoint 0 (8),
      .setPowerCap (64) 0,
      .setPowerCap 0 (8),
      .setFixedFrequency (64) 0,
      .setFixedFrequency 0 (8),
      .stageConfig (64) 0,
      .stageConfig 0 (8),
      .rweWrite (256) 0 0,
      .rweWrite 0 (2 ^ 20) 0,
      .rweWrite 0 0 (2 ^ 32),
      .commitEpoch (64) 0,
      .commitEpoch 0 (8),
      .cmdCommit (256) 0,
      .cmdCommit 0 (2 ^ 32),
      .abortRetune (64) 0,
      .abortRetune 0 (8),
      .loadImage (64) 0,
      .loadImage 0 (8),
      .activateImage (64) 0,
      .activateImage 0 (8),
      .queryImage (64) 0,
      .queryImage 0 (8),
      .processorSwitch (4),
      .processorCrash (4) 1 0 0,
      .processorCrash 0 2 0 0,
      .processorCrash 0 1 (2 ^ 32) 0,
      .processorCrash 0 1 0 (16),
      .watchdogExpiry (4),
      .watchdogKick (256) 0,
      .watchdogKick 0 (4),
      .processorRestartDone (4) true] : List Instr).all (fun c => !c.wf Cfg.reference.table) = true := by decide

theorem test_wf_refuses_7 :
    ([.scrubPass [4] [] [],
      .scrubPass [] [] [2],
      .mailboxTimeout (512),
      .debugHalt (256),
      .debugResume (256),
      .debugStep (256),
      .debugWindowWrite (256) 0 0,
      .debugWindowWrite 0 (2 ^ 20) 0,
      .debugWindowWrite 0 0 (2 ^ 32),
      .softwareWindowExpiry (256) 0,
      .softwareWindowExpiry 0 (16),
      .quietExpiry (256) 0,
      .quietExpiry 0 (16),
      .fltHandle (256) 0 0,
      .fltHandle 0 (256) 0,
      .fltHandle 0 0 (16),
      .faultQuery (64) 0,
      .faultQuery 0 (8),
      .faultAck (64) 0,
      .faultAck 0 (8),
      .cntClr (256) 0 0,
      .cntClr 0 (256) 0,
      .cntClr 0 0 (16),
      .fecValidClear (256),
      .pairReadbackMismatch (2) 0,
      .pairReadbackMismatch 0 (2),
      .gooseTrip 0 0,
      .gooseTrip 8 0,
      .gooseTrip 1 (4096),
      .linkTest (64) 0,
      .linkTest 0 (8),
      .linkTestEnd (7) 0 0 true,
      .highWordLatchRead (256) 0,
      .highWordLatchRead 0 (2 ^ 20),
      .registerWrite true (256) 0 0 0,
      .registerWrite true 0 (2 ^ 20) 0 0,
      .registerWrite true 0 0 0 (2 ^ 32),
      .roosterMessageDiscard (Cfg.reference.table.tiles),
      .powerOnEnd { Cfg.reference.straps with testEn := 2 },
      .fuseLoadDone Cfg.reference.table { Cfg.reference.fuses with goose := [] } [] []] : List Instr).all (fun c => !c.wf Cfg.reference.table) = true := by decide

theorem test_wf_refuses_8 :
    ([.fuseLoadDone Cfg.reference.table Cfg.reference.fuses [1024] [],
      .fuseLoadDone Cfg.reference.table Cfg.reference.fuses [] [1024],
      .flashImageReadDone [256],
      .bootRelease (256),
      .useRom (256),
      .cfgCommit (256),
      .cpRst (256),
      .blockRst (256) true,
      .fuseProgram (256) 0,
      .fuseProgram 0 (1024),
      .fuseProgramReadback (2 ^ 32),
      .droopSample [{ sensor := Cfg.reference.table.dsens, headroom := 0, droop := 0 }] [] [],
      .endpointUnreachable (.load Cfg.reference.table.domains),
      .endpointUnreachable (.cell Cfg.reference.table.cells),
      .endpointUnreachable (.droop Cfg.reference.table.dsens),
      .endpointUnreachable (.temp Cfg.reference.table.tsens),
      .endpointUnreachable (.conv 16),
      .endpointUnreachable (.port 4),
      .scrubPass [] [(4, 0, 0)] [],
      .barrierAnnouncement { first := 0, count := 512, stride := 0 } 0 0 0,
      .barrierAnnouncement { first := 0, count := 0, stride := 256 } 0 0 0] : List Instr).all (fun c => !c.wf Cfg.reference.table) = true := by decide

theorem test_wf_takes_1 :
    ([.busOutOfRange 0,
      .busFatal 0,
      .groupEnable 0,
      .groupDisable 0,
      .startDelayElapsed 0 0,
      .rampEnd 0 0,
      .foldbackEntry 0 0,
      .foldbackRecovery 0 0,
      .fbLong 0,
      .hiccupEntry 0 0,
      .hiccupWaitElapsed 0 0,
      .stopDelayElapsed 0,
      .stopRampEnd 0 0,
      .attemptsClear 0,
      .phasePulse 0,
      .valleyLimitUpdate 0 0,
      .valleyHold 0 0,
      .pulseRiseReport 0 true true,
      .phaseSenseDisable 0,
      .tmonHotForce 0 0,
      .phaseDisable 0,
      .phaseCheckStart 0,
      .phaseReadmit 0,
      .phaseCheckEnd 0,
      .pmbusTransactionDone true 0 0,
      .cellLimitReached 0,
      .cellLimitRelease 0,
      .cellLimitFold 0,
      .cellLimitRestore 0,
      .cellFailure 0 1,
      .cellIsolationConfirmed 0,
      .cellIsoFail 0,
      .cellIsolate 0,
      .cellUnisolate 0,
      .cellReadmit 0,
      .cellCheckEnd 0 true,
      .prechargeComplete 0,
      .headroomOffsetUpdate 0,
      .droopSample [] [] [],
      .droopFloorFall 0] : List Instr).all (fun c => c.wf Cfg.reference.table) = true := by decide

theorem test_wf_takes_2 :
    ([.droopSensorRecheck 0,
      .droopRecheckPass 0,
      .wakeHeadroomMet 0,
      .wakeLate 0,
      .quiesceAck 0,
      .quiesceTimeout 0,
      .rampDownEnd 0,
      .fastElementEvaluation 0 0,
      .deadlineMiss 0,
      .laneRetire 0,
      .slotOpen 0,
      .slotClose 0,
      .activityToken 0 { first := 0, count := 0, stride := 0 } 0 0 0 0 0,
      .barrierAnnouncement { first := 0, count := 0, stride := 0 } 0 0 0,
      .barrierCancel 0,
      .prebiasFloorFall 0 0,
      .waveRelease 0,
      .waveTimeout 0,
      .startReq 0 0 0 0 0 true 0 0 0,
      .startCancel 0 0,
      .mapNotice 0 0 0,
      .profileCheck 0,
      .counterMessage 0 true 0 0 [],
      .estimatePublish [],
      .fixedLost 0,
      .temperaturePublish [],
      .sidebandReading 0 [],
      .clampReleaseStart true 0,
      .clampRiseStep true 0,
      .sensorDisagree 0 true,
      .sensorRecheck 0,
      .sensorRecheckEnd 0,
      .maskSensor 0 0,
      .sidebandLost 0,
      .sidebandRecover 0,
      .sensorConversionTimeout 0,
      .herdJoin 0 0,
      .herdLeave 0 0,
      .helloReceived 0 { flags := 0, group := 0, sender := 0, seq := 0, body := List.replicate 20 0 },
      .offerReceived 0 { flags := 0, group := 0, sender := 0, seq := 0, body := List.replicate 20 0 }] : List Instr).all (fun c => c.wf Cfg.reference.table) = true := by decide

theorem test_wf_takes_3 :
    ([.changeReceived { flags := 0, group := 0, sender := 0, seq := 0, body := List.replicate 20 0 },
      .syncReceived { flags := 0, group := 0, sender := 0, seq := 0, body := List.replicate 20 0 },
      .delayReqReceived 0 { flags := 0, group := 0, sender := 0, seq := 0, body := List.replicate 20 0 },
      .delayRespReceived { flags := 0, group := 0, sender := 0, seq := 0, body := List.replicate 20 0 },
      .excludeReceived 0 { flags := 0, group := 0, sender := 0, seq := 0, body := List.replicate 20 0 },
      .decideReceived { flags := 0, group := 0, sender := 0, seq := 0, body := List.replicate 20 0 },
      .disbandReceived { flags := 0, group := 0, sender := 0, seq := 0, body := List.replicate 20 0 },
      .linkLoss 0,
      .decideFollow 0,
      .decideEvict 0,
      .exclusionEntryExpiry 0,
      .lockMessageDiscard 0 (List.replicate 32 0),
      .roundStart 0,
      .conversionDone 0 0,
      .triggerHold 0,
      .triggerTimeout 0,
      .heldValueDiscard 0,
      .urgentTimerConversion 0,
      .adcUrgReq 0 0 0,
      .converterStall 0,
      .converterWake 0 true,
      .converterPowerDown 0,
      .converterOffline 0,
      .converterOnline 0,
      .converterRecheck 0,
      .converterRecheckEnd 0,
      .adcCalibrate 0 0,
      .calibrationExpiry 0,
      .consWrite 0,
      .busErrorResponse 0,
      .telemetrySetup 0 0,
      .captureWaveform 0 0,
      .crcStart 0 0,
      .crcFinish 0 0,
      .crcAbort 0 0,
      .crcData32 0 0 0,
      .crcData8 0 0 0,
      .crcValueWrite 0 0 0,
      .crcSettingsWrite 0 0 0 0,
      .crcClaim 0] : List Instr).all (fun c => c.wf Cfg.reference.table) = true := by decide

theorem test_wf_takes_4 :
    ([.crcRelease 0,
      .crcSelfTest 0 true,
      .fenceDomain 0 0,
      .unfenceDomain 0 0,
      .slotHandover 0 0 0 0,
      .replySlotRead 0 0 0,
      .registrationSlotTimeout 0,
      .firmwarePacketStart 0 0,
      .registerPartner 0 0,
      .renewLease 0 0,
      .releasePartner 0 0,
      .heartbeatMissed 0,
      .leaseExpiry 0,
      .partnerFree 0,
      .setOperatingPoint 0 0,
      .setPreferredPoint 0 0,
      .setPowerCap 0 0,
      .setFixedFrequency 0 0,
      .stageConfig 0 0,
      .rweWrite 0 0 0,
      .commitEpoch 0 0,
      .cmdCommit 0 0,
      .abortRetune 0 0,
      .loadImage 0 0,
      .activateImage 0 0,
      .queryImage 0 0,
      .processorSwitch 0,
      .processorCrash 0 1 0 0,
      .watchdogExpiry 0,
      .watchdogKick 0 0,
      .processorRestartDone 0 true,
      .scrubPass [] [] [],
      .mailboxTimeout 0,
      .debugHalt 0,
      .debugResume 0,
      .debugStep 0,
      .debugWindowWrite 0 0 0,
      .softwareWindowExpiry 0 0,
      .quietExpiry 0 0,
      .fltHandle 0 0 0] : List Instr).all (fun c => c.wf Cfg.reference.table) = true := by decide

theorem test_wf_takes_5 :
    ([.faultQuery 0 0,
      .faultAck 0 0,
      .cntClr 0 0 0,
      .fecValidClear 0,
      .pairReadbackMismatch 0 0,
      .gooseTrip 1 0,
      .linkTest 0 0,
      .linkTestEnd 0 0 0 true,
      .highWordLatchRead 0 0,
      .registerWrite true 0 0 0 0,
      .roosterMessageDiscard 0,
      .powerOnEnd Cfg.reference.straps,
      .fuseLoadDone Cfg.reference.table Cfg.reference.fuses [] [],
      .flashImageReadDone [],
      .bootRelease 0,
      .useRom 0,
      .cfgCommit 0,
      .cpRst 0,
      .blockRst 0 true,
      .fuseProgram 0 0,
      .fuseProgramReadback 0,
      .endpointUnreachable .other] : List Instr).all (fun c => c.wf Cfg.reference.table) = true := by decide

/-! Worked examples of the manual. -/

/-- The pulse codes of the example of R68. -/
theorem test_pulse_code_example : pulseCode 475 (-8) = 460 ∧ pulseCode 475 12 = 497 := by decide

/-- The valley limit of the example of R80: 24.25 A in steps of 0.25 A. -/
theorem test_valley_limit_example : valleyLimit 192 60 (rneDiv (300000 * 32768) 750000).toNat = 97 := by decide

/-- The two bytes of the example of chapter 14 under CRC-8. -/
theorem test_crc8_example : crcBytes 8 7 false 0 [1] = 7 ∧ crcBytes 8 7 false 0 [1, 2] = 0x1B := by decide

/-- The check of "123456789" that R332 gives. -/
theorem test_crc32c_check : crc32c [49, 50, 51, 52, 53, 54, 55, 56, 57] = 0xE3069283 := by decide

/-! States and commands that meet the hypotheses of the statements about every command. -/

theorem witness_EmptyQueueStepsTheTimeBase :
    (∃ s : State, s.pending = []) ∧
    (∃ s : State, s.pending = [] ∧ s.hrd.corr = 0 ∧ (s.time + 1) % 2 ^ 64 / 100 = s.time / 100 ∧ s.adc.step = none ∧
      s.hrd.barUntil ≤ s.time) ∧
    (∃ s : State, s.pending = [] ∧ s.hrd.corr = 0) ∧
    (∃ s : State, s.pending = [] ∧ 0 < s.hrd.corr ∧ (64 ≤ s.hrd.edge + 1 ∨ (s.isSet .GLB_TB_STATUS_FALLBACK 0 = true ∧
      s.isSet .HRD_STATUS_SLEWING 0 = false ∧ 16 ≤ s.hrd.edge + 1))) ∧
    (∃ s : State, s.pending = [] ∧ s.hrd.corr < 0 ∧ (64 ≤ s.hrd.edge + 1 ∨ (s.isSet .GLB_TB_STATUS_FALLBACK 0 = true ∧
      s.isSet .HRD_STATUS_SLEWING 0 = false ∧ 16 ≤ s.hrd.edge + 1))) ∧
    (∃ s : State, s.pending = [] ∧ s.hrd.corr ≠ 0 ∧ s.hrd.edge + 1 < 16) ∧
    (∃ s : State, s.pending = [] ∧ s.tick.time / 100 ≠ s.time / 100) :=
  ⟨⟨State.reset, by decide⟩, ⟨State.reset, by decide⟩, ⟨State.reset, by decide⟩,
    ⟨{ mk [(.GLB_TB_STATUS_FALLBACK, 0, 1)] with hrd := { State.reset.hrd with corr := 1, edge := 15 } }, by decide⟩,
    ⟨{ State.reset with hrd := { State.reset.hrd with corr := -1, edge := 63 } }, by decide⟩,
    ⟨{ State.reset with hrd := { State.reset.hrd with corr := -1, edge := 14 } }, by decide⟩,
    ⟨{ State.reset with time := 99 }, by decide⟩⟩

theorem witness_StepsKeepTheRegisterTable : ∃ s t : State, s.fieldsOk ∧ step s = .next t :=
  ⟨State.reset, _, ⟨List.Pairwise.nil, by intro p h; cases h⟩, rfl⟩

theorem witness_StepsKeepTheLatches : ∃ s t : State, s.latchesOk ∧ step s = .next t :=
  ⟨State.reset, _, by unfold State.latchesOk; decide, rfl⟩

theorem witness_CommandsKeepTheQueue : ∃ (c : Instr) (s t : State), exec c s = .next t :=
  ⟨.groupEnable 0, State.reset, _, rfl⟩

theorem witness_ConfigurationIsLoadedOnlyAtPowerOn : ∃ (c : Instr) (s t : State), exec c s = .next t :=
  ⟨.groupEnable 0, State.reset, _, rfl⟩

theorem witness_ProgrammedBitsStay :
    ∃ (s t : State) (w b : Nat), step s = .next t ∧ bitOf (Tbl.get 0 s.boot.burned w) b = true :=
  ⟨{ State.reset with boot := { State.reset.boot with burned := [(1000, 1)] } }, _, 1000, 0, rfl, by decide⟩

theorem witness_PlainRegisterWritesTouchOneRegister :
    (∃ (s : State) (bus : Bool) (init off : Nat) (r : RegRow) (i : Nat), off < 0x80000 ∧ off % 4 = 0 ∧
      (bus = true → init < 0xF0) ∧ (off < 0x20000 ∨ 0x40000 ≤ off) ∧ regAt off = some (r, i) ∧
      unitExists s.cfg.table r (s.itemAt r i) = true ∧ r.base ∉ actingRegs ∧ r.bits .rwe = 0) ∧
    (∃ (s : State) (bus : Bool) (init off : Nat) (r : RegRow) (i : Nat), off < 0x80000 ∧ off % 4 = 0 ∧
      (bus = true → init < 0xF0) ∧ (off < 0x20000 ∨ 0x40000 ≤ off) ∧ regAt off = some (r, i) ∧
      unitExists s.cfg.table r (s.itemAt r i) = false) :=
  ⟨⟨State.reset, false, 0, 28676, _, 0, by decide, by decide, by decide, by decide, rfl, by decide⟩,
    ⟨State.reset, false, 0, 18752, _, 72, by decide, by decide, by decide, by decide, rfl, by decide⟩⟩

theorem witness_CheckValueUnitsAreApart :
    ∃ (s t : State) (init u v : Nat), v ≠ u ∧ exec (.crcStart init u) s = .next t :=
  ⟨State.reset, _, 0xF0, 0, 1, by decide, rfl⟩

theorem witness_PhaseGroupsAreApart : ∃ (s t : State) (g k : Nat), k ≠ g ∧ exec (.groupEnable g) s = .next t :=
  ⟨State.reset, _, 0, 1, by decide, rfl⟩

theorem witness_ResetsKeepWhatTheyDoNotReset :
    ∃ (c : Instr) (s t : State) (p : Part), c.writes = none ∧ exec c s = .next t ∧ p ∉ c.parts :=
  ⟨.rampDownEnd 0, State.reset, _, .cfg, rfl, rfl, by decide⟩

/-- A command of a family whose fields are listed and that answers a next state. -/
def framed (f : Family) : Prop :=
  ∃ (c : Instr) (s t : State) (fs : List Fld), c.family = f ∧ c.writes = some fs ∧ exec c s = .next t

theorem witness_PhasesFrame : framed .phases :=
  ⟨.groupEnable 0, State.reset, _, _, rfl, rfl, rfl⟩

theorem witness_DomainsFrame : framed .domains :=
  ⟨.cellLimitReached 0, State.reset, _, _, rfl, rfl, rfl⟩

theorem witness_EngineAndRoosterFrame : framed .engine ∧ framed .rooster :=
  ⟨⟨.slotOpen 0, State.reset, _, _, rfl, rfl, rfl⟩,
    ⟨.bucketRefill, State.reset, _, _, rfl, rfl, rfl⟩⟩

theorem witness_PowerAndThermalFrame : framed .power ∧ framed .thermal :=
  ⟨⟨.averageUpdate, State.reset, _, _, rfl, rfl, rfl⟩,
    ⟨.thetaUpdate, State.reset, _, _, rfl, rfl, rfl⟩⟩

theorem witness_PacketsAndHerdFrame : framed .packets ∧ framed .herd :=
  ⟨⟨.renewLease 0 0, State.reset, _, _, rfl, rfl, rfl⟩,
    ⟨.syncSend, State.reset, _, _, rfl, rfl, rfl⟩⟩

theorem witness_MeasurementFrame : framed .adc ∧ framed .telemetry ∧ framed .crc :=
  ⟨⟨.roundStart 0, State.reset, _, _, rfl, rfl, rfl⟩,
    ⟨.telemetryStart, State.reset, _, _, rfl, rfl, rfl⟩,
    ⟨.crcStart 0 0, State.reset, _, _, rfl, rfl, rfl⟩⟩

theorem witness_EpochsAndFirmwareFrame : framed .epochs ∧ framed .firmware :=
  ⟨⟨.cmdCommit 0xF0 0, State.reset, _, _, rfl, rfl, rfl⟩,
    ⟨.policyCycle, State.reset, _, _, rfl, rfl, rfl⟩⟩

theorem witness_FaultsAccessAndBootFrame : framed .faults ∧ framed .access ∧ framed .boot :=
  ⟨⟨.quietExpiry 0 0, State.reset, _, _, rfl, rfl, rfl⟩,
    ⟨.linkTest 0 0, State.reset, _, _, rfl, rfl, rfl⟩,
    ⟨.refclkLoss, State.reset, _, _, rfl, rfl, rfl⟩⟩

theorem witness_GroupCommandsMoveTheGroup :
    (∃ (s : State) (g : Nat), g < 4 ∧ s.grp g = 0 ∧ (∀ r ∈ s.lt.runs, r.1 ≠ 4)) ∧
    (∃ (s : State) (g : Nat), g < 4 ∧ (s.grp g = 1 ∨ s.grp g = 5) ∧ (g = 0 → s.allDown = true)) ∧
    (∃ (s : State) (g : Nat), g < 4 ∧ (s.grp g = 2 ∨ s.grp g = 3 ∨ s.grp g = 4) ∧ (g = 0 → s.allDown = true)) ∧
    (∃ (s : State), 1 ≤ s.grp 0 ∧ s.grp 0 ≤ 5 ∧ s.allDown = false) ∧
    (∃ (s : State) (g vs : Nat), g < 4 ∧ vs < 2 ^ 13 ∧ s.grp g = 1 ∧ 10000 * s.getF .PHS_GRP_SOFT_START_DELAY g ≤
      s.grpFor g) ∧
    (∃ (s : State) (g vs : Nat), g < 4 ∧ vs < 2 ^ 13 ∧ s.grp g = 5 ∧ 5000000 ≤ s.grpFor g) :=
  ⟨⟨State.reset, 0, by decide⟩,
    ⟨mk [(.PHS_GRP_STATUS_STATE, 0, 1)], 0, by decide⟩,
    ⟨mk [(.PHS_GRP_STATUS_STATE, 0, 2)], 0, by decide⟩,
    ⟨mk [(.PHS_GRP_STATUS_STATE, 0, 5), (.DOM_STATUS_STATE, 7, 2)], by decide⟩,
    ⟨{ mk [(.PHS_GRP_STATUS_STATE, 0, 1)] with time := 2550000 }, 0, 0, by decide⟩,
    ⟨{ mk [(.PHS_GRP_STATUS_STATE, 0, 5)] with time := 5000000 }, 0, 0, by decide⟩⟩

theorem witness_GroupEventsMoveTheGroup_1 :
    (∃ (s : State) (g vs : Nat), g < 4 ∧ vs < 2 ^ 13 ∧ s.grp g = 2 ∧ s.rampUV g = s.targetUV g ∧ 0 < s.liveCount g ∧
      s.targetUV g * 90 ≤ vs * 500 * 100) ∧
    (∃ (s : State) (g vs : Nat), g < 4 ∧ s.grp g = 2 ∧ s.rampUV g = s.targetUV g ∧ 0 < s.liveCount g ∧ vs * 500 * 100 <
      s.targetUV g * 90) ∧
    (∃ (s : State) (g vs : Nat), g < 4 ∧ s.grp g = 2 ∧ s.rampUV g = s.targetUV g ∧ s.liveCount g = 0) ∧
    (∃ (s : State) (g vs : Nat), g < 4 ∧ s.grp g = 3 ∧ vs * 500 * 100 < s.targetUV g * 90 ∧ (∃ p ∈ s.rotation g, Tbl.get
      false s.phs.held p = true)) ∧
    (∃ (s : State) (g vs : Nat), g < 4 ∧ s.grp g = 4 ∧ s.targetUV g * 92 ≤ vs * 500 * 100) ∧
    (∃ (s : State) (g : Nat), g < 4 ∧ s.grp g = 4 ∧ 1000000 ≤ s.grpFor g) ∧
    (∃ (s : State) (g vs : Nat), g < 4 ∧ s.grp g = 4 ∧ vs * 500 * 100 < s.targetUV g * 50 ∧ s.getF
      .PHS_GRP_STATUS_ATTEMPTS g < 2) ∧
    (∃ (s : State) (g vs : Nat), g < 4 ∧ s.grp g = 4 ∧ vs * 500 * 100 < s.targetUV g * 50 ∧ 2 ≤ s.getF
      .PHS_GRP_STATUS_ATTEMPTS g) :=
  ⟨⟨{ mk [(.PHS_GRP_STATUS_STATE, 0, 2)] with
        phs := { State.reset.phs with rampFrom := [(0, State.reset.targetUV 0)] } }, 0, 1500, by decide⟩,
    ⟨{ mk [(.PHS_GRP_STATUS_STATE, 0, 2)] with
        phs := { State.reset.phs with rampFrom := [(0, State.reset.targetUV 0)] } }, 0, 0, by decide⟩,
    ⟨{ mk [(.PHS_GRP_STATUS_STATE, 3, 2), (.PHS_PH_STATUS_PH_STATE, 70, 2), (.PHS_PH_STATUS_PH_STATE, 71, 2)] with
        phs := { State.reset.phs with rampFrom := [(3, State.reset.targetUV 3)] } }, 3, 2400, by decide⟩,
    ⟨{ mk [(.PHS_GRP_STATUS_STATE, 0, 3)] with phs := { State.reset.phs with held := [(5, true)] } }, 0, 0, by decide⟩,
    ⟨mk [(.PHS_GRP_STATUS_STATE, 3, 4)], 3, 2208, by decide⟩,
    ⟨{ mk [(.PHS_GRP_STATUS_STATE, 3, 4)] with time := 1000000 }, 3, by decide⟩,
    ⟨mk [(.PHS_GRP_STATUS_STATE, 3, 4), (.PHS_GRP_STATUS_ATTEMPTS, 3, 1)], 3, 1199, by decide⟩,
    ⟨mk [(.PHS_GRP_STATUS_STATE, 3, 4), (.PHS_GRP_STATUS_ATTEMPTS, 3, 2)], 3, 0, by decide⟩⟩

theorem witness_GroupEventsMoveTheGroup_2 :
    (∃ (s : State) (g : Nat), g < 4 ∧ s.grp g = 7 ∧ Tbl.get false s.phs.stopGo g = false ∧ 10000 * s.getF
      .PHS_GRP_SOFT_STOP_DELAY g ≤ s.grpFor g) ∧
    (∃ (s : State) (g vs : Nat), g < 4 ∧ s.grp g = 7 ∧ Tbl.get false s.phs.stopGo g = true ∧ (20 * vs < Tbl.get 0
      s.phs.vEntry g ∨ s.rampUV g = 0) ∧ s.boot.blockStop = false) ∧
    (∃ (s : State) (g : Nat), g < 4 ∧ s.grp g = 3 ∧ 100000000 ≤ s.grpFor g) :=
  ⟨⟨{ mk [(.PHS_GRP_STATUS_STATE, 3, 7)] with time := 2550000 }, 3, by decide⟩,
    ⟨{ mk [(.PHS_GRP_STATUS_STATE, 3, 7)] with
        phs := { State.reset.phs with stopGo := [(3, true)], vEntry := [(3, 21)] } }, 3, 0, by decide⟩,
    ⟨{ mk [(.PHS_GRP_STATUS_STATE, 3, 3), (.PHS_GRP_STATUS_ATTEMPTS, 3, 1)] with time := 100000000 }, 3, by decide⟩⟩

theorem witness_PhasesTakePulsesAndFail_1 :
    (∃ (s : State) (g p : Nat), g < 4 ∧ (s.grp g = 2 ∨ s.grp g = 3 ∨ s.grp g = 4 ∨ s.grp g = 7) ∧ s.nextPhase g = some p
      ∧ s.ph p = 1 ∧ s.givesPulse g p = true) ∧
    (∃ (s : State) (g vs : Nat), g < 4) ∧
    (∃ (s : State) (p : Nat) (imon : Int), s.cfg.populated p = true) ∧
    (∃ (s : State) (p : Nat), s.cfg.populated p = true ∧ s.checksRun (s.cfg.table.phaseGroup p) = true ∧ s.ph p = 1) ∧
    (∃ (s : State) (p : Nat), s.cfg.populated p = true ∧ s.checksRun (s.cfg.table.phaseGroup p) = true ∧ s.ph p = 1 ∧
      (s.phTest p).openRun = 15) ∧
    (∃ (s : State) (p : Nat), s.cfg.populated p = true ∧ s.checksRun (s.cfg.table.phaseGroup p) = true ∧ s.ph p = 1 ∧
      (s.phTest p).senseRun = 15 ∧ (s.phTest p).openRun < 15) ∧
    (∃ (s : State) (p : Nat), s.cfg.populated p = true ∧ s.ph p = 1 ∧ (s.phTest p).declared = true) ∧
    (∃ (s : State) (p tmon : Nat), s.cfg.populated p = true ∧ 165 ≤ tmon ∧ s.getF .ADC_PAIR_STATUS_STATE (chHome (96 + p)
      / 2) ≠ 3) :=
  ⟨⟨mk [(.PHS_GRP_STATUS_STATE, 0, 3)], 0, 0, by decide⟩,
    ⟨State.reset, 0, 600, by decide⟩,
    ⟨State.reset, 3, 5, by decide⟩,
    ⟨mk [(.PHS_GRP_STATUS_STATE, 1, 3)], 60, by decide⟩,
    ⟨(mk [(.PHS_GRP_STATUS_STATE, 1, 3)]).setPhTest 60 { PhaseTest.clear with openRun := 15 }, 60, by decide⟩,
    ⟨(mk [(.PHS_GRP_STATUS_STATE, 1, 3)]).setPhTest 60 { PhaseTest.clear with senseRun := 15 }, 60, by decide⟩,
    ⟨(mk [(.PHS_PH_STATUS_TRIM, 60, 5)]).setPhTest 60 { PhaseTest.clear with declared := true }, 60, by decide⟩,
    ⟨State.reset, 71, 165, by decide⟩⟩

theorem witness_PhasesTakePulsesAndFail_2 :
    (∃ (s : State) (p : Nat), p < s.cfg.table.phTotal ∧ s.ph p = 1) ∧
    (∃ (s : State) (p : Nat), p < s.cfg.table.phTotal ∧ s.isSet .PHS_PH_CTRL_DISABLE p = true ∧ s.grp
      (s.cfg.table.phaseGroup p) = 3 ∧ 2 ≤ s.ph p ∧ s.ph p ≤ 4) ∧
    (∃ (s : State) (p : Nat), p < s.cfg.table.phTotal ∧ (s.ph p = 2 ∨ s.ph p = 3) ∧ s.grp (s.cfg.table.phaseGroup p) = 3) ∧
    (∃ (s : State) (p : Nat), p < s.cfg.table.phTotal ∧ s.ph p = 5) :=
  ⟨⟨State.reset, 71, by decide⟩,
    ⟨mk [(.PHS_GRP_STATUS_STATE, 3, 3), (.PHS_PH_CTRL_DISABLE, 70, 1), (.PHS_PH_STATUS_PH_STATE, 70, 4)], 70, by decide⟩,
    ⟨mk [(.PHS_GRP_STATUS_STATE, 3, 3), (.PHS_PH_STATUS_PH_STATE, 70, 2)], 70, by decide⟩,
    ⟨mk [(.PHS_PH_STATUS_PH_STATE, 70, 5)], 70, by decide⟩⟩

theorem witness_PmbusHostAndBusSupervision_1 :
    (∃ (s : State), s.isSet .PHS_PMB_CTRL_POLL_EN 0 = true ∧ s.isSet .PHS_PMB_STATUS_HELD 0 = false ∧ (∀ r ∈ s.lt.runs,
      r.1 ≠ 5)) ∧
    (∃ (s : State) (data cmd : Nat) (rest : List Nat), s.phs.pmbReads = cmd :: rest) ∧
    (∃ (s : State) (ack : Bool) (data pec cmd : Nat) (rest : List Nat), s.phs.pmbReads = cmd :: rest ∧ (ack = false ∨ pec
      ≠ pmbPec (s.getF .PHS_PMB_CTRL_ADDR 0) cmd data) ∧ s.phs.pmbRetried = false) ∧
    (∃ (s : State) (ack : Bool) (data pec cmd : Nat) (rest : List Nat), s.phs.pmbReads = cmd :: rest ∧ (ack = false ∨ pec
      ≠ pmbPec (s.getF .PHS_PMB_CTRL_ADDR 0) cmd data) ∧ s.phs.pmbRetried = true) ∧
    (∃ (s : State), s.isSet .PHS_PMB_STATUS_HELD 0 = false) ∧
    (∃ (s : State), s.isSet .PHS_PMB_STATUS_HELD 0 = true) ∧
    (∃ (s : State), s.isSet .PHS_PMB_STATUS_HELD 0 = true) ∧
    (∃ (s : State) (vbus : Nat), ((9000 ≤ vbus ∧ vbus < 10800) ∨ (13200 < vbus ∧ vbus ≤ 14000))) :=
  ⟨⟨mk [(.PHS_PMB_CTRL_POLL_EN, 0, 1)], by decide⟩,
    ⟨{ State.reset with phs := { State.reset.phs with pmbReads := 0x8B :: [0x8C] } }, 0x12345, 0x8B, [0x8C], by decide⟩,
    ⟨{ State.reset with phs := { State.reset.phs with pmbReads := [0x79] } }, false, 7, 0, 0x79, [], by decide⟩,
    ⟨{ State.reset with phs := { State.reset.phs with pmbReads := [0x79], pmbRetried := true, pmbFailRun := 7 } }, false,
      7, 0, 0x79, [], by decide⟩,
    ⟨State.reset, by decide⟩,
    ⟨mk [(.PHS_PMB_STATUS_HELD, 0, 1)], by decide⟩,
    ⟨mk [(.PHS_PMB_STATUS_HELD, 0, 1)], by decide⟩,
    ⟨State.reset, 9000, by decide⟩⟩

theorem witness_PmbusHostAndBusSupervision_2 :
    (∃ (s : State) (vbus g : Nat), (vbus < 9000 ∨ 14000 < vbus) ∧ g < 4 ∧ (s.grp g = 2 ∨ s.grp g = 3 ∨ s.grp g = 4)) ∧
    (∃ (s : State) (vbus d : Nat), (vbus < 9000 ∨ 14000 < vbus) ∧ d < s.cfg.table.domains ∧ (s.domSt d = 2 ∨ s.domSt d =
      3)) ∧
    (∃ (s : State) (vbus g : Nat), (vbus < 9000 ∨ 14000 < vbus) ∧ g < 4 ∧ (s.grp g = 1 ∨ s.grp g = 5)) :=
  ⟨⟨mk [(.PHS_GRP_STATUS_STATE, 0, 3)], 8999, 0, by decide⟩,
    ⟨mk [(.PHS_GRP_STATUS_STATE, 3, 2), (.DOM_STATUS_STATE, 3, 2), (.DOM_STATUS_STATE, 0, 2)], 14001, 3, by decide⟩,
    ⟨mk [(.PHS_GRP_STATUS_STATE, 1, 1)], 8999, 1, by decide⟩⟩

theorem witness_CellCommandsMoveTheCell_1 :
    (∃ (s : State) (c : Nat), c < s.cfg.table.cells ∧ s.cellSt c = 2) ∧
    (∃ (s : State) (c : Nat), c < s.cfg.table.cells ∧ s.cellSt c = 3) ∧
    (∃ (s : State) (c : Nat), c < s.cfg.table.cells ∧ 1 ≤ s.cellSt c ∧ s.cellSt c ≤ 3) ∧
    (∃ (s : State) (c : Nat), c < s.cfg.table.cells) ∧
    (∃ (s : State) (c cause : Nat), c < s.cfg.table.cells ∧ s.cellSt c ≤ 3 ∧ 1 ≤ cause ∧ cause ≤ 4 ∧ (cause = 1 →
      s.cellSt c = 2)) ∧
    (∃ (s : State) (c cause : Nat), c < s.cfg.table.cells ∧ s.cellSt c ≤ 3 ∧ 1 ≤ cause ∧ cause ≤ 4 ∧ (cause = 1 →
      s.cellSt c = 2) ∧ s.domSt (s.cfg.table.cellDom c) = 2 ∧ s.navail (s.cfg.table.cellDom c) ≤ s.fenceAt
      (s.cfg.table.domClass (s.cfg.table.cellDom c)) + 1) ∧
    (∃ (s : State) (c : Nat), c < s.cfg.table.cells ∧ s.cellSt c = 4) ∧
    (∃ (s : State) (c : Nat), c < s.cfg.table.cells ∧ s.cellSt c = 4) :=
  ⟨⟨mk [(.CEL_STATUS_STATE, 1151, 2)], 1151, by decide⟩,
    ⟨mk [(.CEL_STATUS_STATE, 0, 3)], 0, by decide⟩,
    ⟨mk [(.CEL_STATUS_STATE, 0, 1)], 0, by decide⟩,
    ⟨State.reset, 1151, by decide⟩,
    ⟨mk [(.CEL_STATUS_STATE, 180, 2), (.DOM_STATUS_STATE, 36, 2)], 180, 1, by decide⟩,
    ⟨mk [(.CEL_STATUS_STATE, 180, 2), (.CEL_STATUS_STATE, 181, 5), (.CEL_STATUS_STATE, 182, 5), (.DOM_STATUS_STATE, 36,
      2)], 180, 1, by decide⟩,
    ⟨mk [(.CEL_STATUS_STATE, 0, 4)], 0, by decide⟩,
    ⟨mk [(.CEL_STATUS_STATE, 0, 4)], 0, by decide⟩⟩

theorem witness_CellCommandsMoveTheCell_2 :
    (∃ (s : State) (c : Nat), c < s.cfg.table.cells) ∧
    (∃ (s : State) (c : Nat), c < s.cfg.table.cells ∧ s.cellSt c = 5 ∧ s.getF .CEL_STATUS_FAIL_CAUSE c = 7) ∧
    (∃ (s : State) (c : Nat), c < s.cfg.table.cells ∧ s.cellSt c = 5) ∧
    (∃ (s : State) (c : Nat), c < s.cfg.table.cells ∧ s.cellSt c = 5 ∧ Tbl.get false s.dom.checking c = true) ∧
    (∃ (s : State) (c : Nat), c < s.cfg.table.cells ∧ s.cellSt c = 5 ∧ Tbl.get false s.dom.checking c = true ∧
      s.flt.gooseShut = []) ∧
    (∃ (s : State) (c : Nat), c < s.cfg.table.cells ∧ s.cellSt c = 1) :=
  ⟨⟨mk [(.CEL_STATUS_STATE, 0, 2), (.DOM_STATUS_STATE, 0, 2)], 0, by decide⟩,
    ⟨mk [(.CEL_STATUS_STATE, 0, 5), (.CEL_STATUS_FAIL_CAUSE, 0, 7)], 0, by decide⟩,
    ⟨mk [(.CEL_STATUS_STATE, 0, 5)], 0, by decide⟩,
    ⟨(mk [(.CEL_STATUS_STATE, 0, 5)]).setChecking 0 true, 0, by decide⟩,
    ⟨(mk [(.CEL_STATUS_STATE, 0, 5), (.DOM_STATUS_STATE, 0, 3)]).setChecking 0 true, 0, by decide⟩,
    ⟨mk [(.CEL_STATUS_STATE, 0, 1)], 0, by decide⟩⟩

theorem witness_WakingDomainGoesLive :
    (∃ (s : State) (c : Nat), c < s.cfg.table.cells ∧ s.cellSt c = 1 ∧ s.domSt (s.cfg.table.cellDom c) = 1 ∧ Tbl.get
      false s.dom.admitted (s.cfg.table.cellDom c) = true ∧ c ∈ s.cfg.table.domCells (s.cfg.table.cellDom c) ∧ (∀ q ∈
      s.cfg.table.domCells (s.cfg.table.cellDom c), q = c ∨ s.cellSt q = 2 ∨ 4 ≤ s.cellSt q)) ∧
    (∃ (s : State) (d : Nat), s.domSt d = 1 ∧ Tbl.get false s.dom.admitted d = false ∧ s.start.queue.any (fun r => decide
      (r.dom = d) && r.wake) = false ∧ s.dom.hrDom.any (fun p => decide (p.1 = d)) = true ∧ s.wakeHeadroom = true) ∧
    (∃ (s : State) (d : Nat), s.domSt d = 1) ∧
    (∃ (s : State) (d : Nat), s.domSt d = 4 ∧ Tbl.get false s.dom.ramping d = false) ∧
    (∃ (s : State) (d : Nat), s.domSt d = 4 ∧ Tbl.get false s.dom.ramping d = false) ∧
    (∃ (s : State) (d : Nat), s.domSt d = 4 ∧ Tbl.get false s.dom.ramping d = true ∧ s.boot.blockStop = false ∧ (s.isSet
      .DOM_CTRL_POWER d = false ∨ Tbl.get false s.dom.fenceReq d = true)) ∧
    (∃ (s : State) (d : Nat), s.domSt d = 4 ∧ Tbl.get false s.dom.ramping d = true ∧ s.boot.blockStop = false ∧ s.isSet
      .DOM_CTRL_POWER d = true ∧ Tbl.get false s.dom.fenceReq d = false ∧ s.mayPower d = true) :=
  ⟨⟨{ mk [(.CEL_STATUS_STATE, 0, 1), (.CEL_STATUS_STATE, 1, 2), (.CEL_STATUS_STATE, 2, 2), (.CEL_STATUS_STATE, 3, 2),
       (.CEL_STATUS_STATE, 4, 5), (.DOM_STATUS_STATE, 0, 1)] with
        dom := { State.reset.dom with admitted := [(0, true)] } }, 0, by decide⟩,
    ⟨{ mk [(.DOM_STATUS_STATE, 7, 1)] with
        time := 1000, dom := { State.reset.dom with hrOkAt := some 0, hrDom := [(7, 300)] } }, 7, by decide⟩,
    ⟨mk [(.DOM_STATUS_STATE, 247, 1)], 247, by decide⟩,
    ⟨mk [(.DOM_STATUS_STATE, 247, 4)], 247, by decide⟩,
    ⟨mk [(.DOM_STATUS_STATE, 247, 4)], 247, by decide⟩,
    ⟨{ mk [(.DOM_STATUS_STATE, 7, 4), (.CEL_STATUS_STATE, 36, 2), (.DOM_CTRL_POWER, 7, 0)] with
        dom := { State.reset.dom with ramping := [(7, true)] } }, 7, by decide⟩,
    ⟨{ mk [(.DOM_STATUS_STATE, 7, 4), (.CEL_STATUS_STATE, 36, 2), (.DOM_CTRL_POWER, 7, 1)] with
        dom := { State.reset.dom with ramping := [(7, true)], powerGo := 2 } }, 7, by decide⟩⟩

theorem witness_DroopAndHeadroomSupervision :
    (∃ (s : State) (x : Nat) (h dr : Int), s.onTick 10 = true ∧ x < s.cfg.table.dsens ∧ s.domSt (s.cfg.table.sensorDom x)
      = 0) ∧
    (∃ (s : State) (x : Nat) (dr : Int), s.onTick 10 = true ∧ x < s.cfg.table.dsens ∧ s.domSt (s.cfg.table.sensorDom x) =
      2 ∧ s.isSet .DOM_DS_VALID x = true ∧ (s.dsRunOf x).range = 0 ∧ (s.dsRunOf x).stuck = 0 ∧ (s.dsRunOf x).disagree = 0
      ∧ (s.droopTrip (s.cfg.table.sensorDom x) : Int) ≤ dr ∧ dr ≤ 255 ∧ Tbl.get 0 s.dom.floor (s.cfg.table.sensorDom x) =
      0) ∧
    (∃ (s : State) (d : Nat), 2 < Tbl.get 0 s.dom.floor d ∧ s.droopHolds d = false) ∧
    (∃ (s : State) (d : Nat), 1 ≤ Tbl.get 0 s.dom.floor d ∧ Tbl.get 0 s.dom.floor d ≤ 2 ∧ s.droopHolds d = false) ∧
    (∃ (s : State) (d : Nat), s.dom.stackGate = true ∧ s.dom.hrGate.all (fun h => decide (s.stackTrip + 10 ≤ h)) = true ∧
      d < s.cfg.table.domains) ∧
    (∃ (s : State) (x : Nat), x < s.cfg.table.dsens ∧ s.isSet .DOM_DS_VALID x = false) ∧
    (∃ (s : State) (x : Nat), x < s.cfg.table.dsens ∧ s.isSet .DOM_DS_VALID x = false ∧ (s.dsRunOf x).recheck = true) ∧
    (∃ (s : State) (d : Nat), d < s.cfg.table.domains) :=
  ⟨⟨State.reset, 3, 3000, -2, by decide⟩,
    ⟨mk [(.DOM_STATUS_STATE, 0, 2)], 3, 255, by decide⟩,
    ⟨{ State.reset with dom := { State.reset.dom with floor := [(7, 3)] } }, 7, by decide⟩,
    ⟨{ State.reset with dom := { State.reset.dom with floor := [(7, 2)] } }, 7, by decide⟩,
    ⟨{ State.reset with dom := { State.reset.dom with stackGate := true } }, 247, by decide⟩,
    ⟨mk [(.DOM_DS_VALID, 1023, 0)], 1023, by decide⟩,
    ⟨{ mk [(.DOM_DS_VALID, 1023, 0)] with
        dom := { State.reset.dom with dsRun := [(1023, { SensorRun.clear with recheck := true })] } }, 1023, by decide⟩,
    ⟨State.reset, 0, by decide⟩⟩

theorem witness_EngineEvaluatesElements :
    (∃ (s : State) (n k : Nat) (l : List Int) (aux : List (Int × Nat × Int)), s.slotClass n = 1 ∧ s.eng.running = true ∧
      k < s.slotElems n ∧ k < 256 ∧ (s.elem n k).started = true ∧ Tbl.get false s.eng.opened n = false ∧ (s.elem n
      k).fastAt ≠ some (s.time / 100) ∧ s.sources (s.getF .CE_SD_IN_IN_KIND n) (s.primaries n k) = some l ∧ s.auxes n k =
      some aux) ∧
    (∃ (s : State) (n : Nat) (x : Int), s.slotClass n = 1 ∧ s.slotKind n = 5 ∧ s.eng.running = true ∧ s.slotElems n = 1 ∧
      s.targets n 0 = [0] ∧ s.presenters 5 0 = [(n, 0)] ∧ (s.elem n 0).started = true ∧ (s.elem n 0).reopen = false ∧
      (s.elem n 0).tracking = false ∧ Tbl.get false s.eng.opened n = false ∧ (s.elem n 0).fastAt ≠ some (s.time / 100) ∧
      s.getF .CE_SD_IN_IN_RED n = 0 ∧ s.sources (s.getF .CE_SD_IN_IN_KIND n) (s.primaries n 0) = some [x] ∧ s.auxes n 0 =
      some [] ∧ s.isSet .CE_SD_CTRL_PROF_EN n = false ∧ s.isSet .CE_SD_CTRL_COMP_OFF n = false ∧ s.isSet
      .CE_SD_CTRL_COMP_RIP n = false ∧ s.isSet .CE_SD_CTRL_SIGN n = false ∧ s.clampFrozen n 0 = false ∧ s.zeroTable n
      (s.getF .CE_SD_LAW_GTAB n) = false) ∧
    (∃ (s : State) (n k : Nat), s.slotClass n = 1 ∧ s.eng.running = true ∧ k < s.slotElems n ∧ k < 256 ∧ (s.elem n
      k).started = true ∧ Tbl.get false s.eng.opened n = false ∧ (s.elem n k).fastAt ≠ some (s.time / 100) ∧ s.sources
      (s.getF .CE_SD_IN_IN_KIND n) (s.primaries n k) = none ∧ s.slotKind n ≠ 0) ∧
    (∃ (s : State) (n k : Nat), s.slotClass n = 1 ∧ Tbl.get false s.eng.opened n = true) ∧
    (∃ (s : State) (n : Nat) (l : List Int) (aux : List (Int × Nat × Int)), s.onTick 1000 = true ∧ s.classSlots 2 = [n] ∧
      s.eng.running = true ∧ s.slotElems n = 1 ∧ (s.elem n 0).started = true ∧ Tbl.get false s.eng.opened n = false ∧
      s.sources (s.getF .CE_SD_IN_IN_KIND n) (s.primaries n 0) = some l ∧ s.auxes n 0 = some aux) ∧
    (∃ (s : State) (n : Nat), s.onTick 1000 = true ∧ s.classSlots 2 = [n] ∧ s.slotElems n = 1 ∧ s.lateWork 2 = [(n, 0)]) ∧
    (∃ (s : State) (n : Nat) (l : List Int) (aux : List (Int × Nat × Int)), s.onTick 100000 = true ∧ s.eng.defer = [] ∧
      s.classSlots 3 = [n] ∧ s.eng.running = true ∧ s.slotElems n = 1 ∧ (s.elem n 0).started = true ∧ Tbl.get false
      s.eng.opened n = false ∧ s.sources (s.getF .CE_SD_IN_IN_KIND n) (s.primaries n 0) = some l ∧ s.auxes n 0 = some
      aux) :=
  ⟨⟨{ mk [(.CE_SD_CTRL_CLASS, 3, 1), (.CE_SD_CTRL_ACT_KIND, 3, 5), (.CE_SD_IN_IN_KIND, 3, 3), (.DOM_DS_DROOP, 0, 140),
       (.DOM_STATUS_STATE, 0, 2), (.CE_SD_IN_IN_RED, 3, 0)] with
        eng := { State.reset.eng with running := true, elems := [(768, { Elem.empty with started := true })] } }, 3, 0,
      [8960], [], by decide⟩,
    ⟨{ mk [(.CE_SD_CTRL_CLASS, 3, 1), (.CE_SD_CTRL_ACT_KIND, 3, 5), (.CE_SD_IN_IN_KIND, 3, 3), (.CE_SD_REF_REF, 3,
       12000), (.CE_GTAB_G_EVEN, 0, 700), (.CE_GTAB_G_EVEN, 17, 700), (.CE_GTAB_G_ODD, 17, 900), (.CE_SD_LAW_KP, 3,
       5000), (.CE_SD_MAP_OUT_SCALE, 3, 900), (.CE_SD_OUT_OUT_BASE, 3, 20), (.DOM_DS_DROOP, 0, 140), (.DOM_STATUS_STATE,
       0, 2)] with
        eng := { State.reset.eng with
          running := true, elems := [(768, { Elem.empty with started := true, integ := 77 })] } }, 3, 8960, by decide⟩,
    ⟨{ mk [(.CE_SD_CTRL_CLASS, 3, 1), (.CE_SD_CTRL_ACT_KIND, 3, 5), (.CE_SD_IN_IN_KIND, 3, 3)] with
        eng := { State.reset.eng with running := true, elems := [(768, { Elem.empty with started := true })] } }, 3, 0,
      by decide⟩,
    ⟨{ mk [(.CE_SD_CTRL_CLASS, 3, 1)] with eng := { State.reset.eng with running := true, opened := [(3, true)] } }, 3,
      0, by decide⟩,
    ⟨{ mk [(.CE_SD_CTRL_CLASS, 3, 2), (.CE_SD_CTRL_ACT_KIND, 3, 5), (.CE_SD_IN_IN_KIND, 3, 3), (.DOM_DS_DROOP, 0, 140),
       (.DOM_STATUS_STATE, 0, 2)] with
        eng := { State.reset.eng with running := true, elems := [(768, { Elem.empty with started := true })] } }, 3,
      [8960], [], by decide⟩,
    ⟨{ mk [(.CE_SD_CTRL_CLASS, 3, 2), (.CE_LANES_IN_SERVICE, 0, 0)] with
        eng := { State.reset.eng with running := true, elems := [(768, { Elem.empty with started := true })] } }, 3, by
      decide⟩,
    ⟨{ mk [(.CE_SD_CTRL_CLASS, 3, 3), (.CE_SD_CTRL_ACT_KIND, 3, 5), (.CE_SD_IN_IN_KIND, 3, 3), (.DOM_DS_DROOP, 0, 140),
       (.DOM_STATUS_STATE, 0, 2)] with
        eng := { State.reset.eng with running := true, elems := [(768, { Elem.empty with started := true })] } }, 3,
      [8960], [], by decide⟩⟩

theorem witness_EngineSlotsAndLanes :
    (∃ (s : State) (n : Nat), s.slotClass n ≠ 0 ∧ (s.lateWork (s.slotClass n)).any (fun e => decide (e.1 = n)) = true ∧
      s.eng.missRun.find? (fun p => decide (p.1 = n)) = none) ∧
    (∃ (s : State) (n run : Nat), s.slotClass n = 1 ∧ (s.lateWork 1).any (fun e => decide (e.1 = n)) = true ∧
      s.eng.missRun.find? (fun p => decide (p.1 = n)) = some (n, run, s.time / 100)) ∧
    (∃ (s : State) (lane : Nat), lane < 16 ∧ bitOf (s.getF .CE_LANES_LANE_OK 0) lane = true) ∧
    (∃ (s : State) (n : Nat), n < 512) ∧
    (∃ (s : State) (n : Nat), n < 512 ∧ Tbl.get false s.eng.opened n = true) :=
  ⟨⟨{ mk [(.CE_SD_CTRL_CLASS, 3, 3), (.CE_LANES_IN_SERVICE, 0, 0)] with
        eng := { State.reset.eng with running := true, elems := [(768, { Elem.empty with started := true })] } }, 3, by
      decide⟩,
    ⟨{ mk [(.CE_SD_CTRL_CLASS, 3, 1), (.CE_LANES_IN_SERVICE, 0, 0)] with
        eng := { State.reset.eng with
          running := true, missRun := [(3, 1, 0)], elems := [(768, { Elem.empty with started := true })] } }, 3, 1, by
      decide⟩,
    ⟨State.reset, 15, by decide⟩,
    ⟨State.reset, 511, by decide⟩,
    ⟨{ State.reset with
        eng := { State.reset.eng with opened := [(3, true)], elems := [(768, { Elem.empty with started := true })] } },
      3, by decide⟩⟩

theorem witness_ForecastsAndBarriersAct_1 :
    (∃ (s : State) (fmt start m n k id : Nat) (set : TileSet), start < s.time) ∧
    (∃ (s : State) (fmt start m n k id : Nat) (set : TileSet), s.time + 10 * s.getF .DOM_START_PRE_PREBIAS_LEAD 0 ≤
      start) ∧
    (∃ (s : State) (release bid engines : Nat) (set : TileSet), s.start.waves = [] ∧ bid < 2 ^ 12 ∧ 16 * ((s.setTiles
      set).filter (fun d => decide (s.domLive d = false))).length < min engines (16 * set.count)) ∧
    (∃ (s : State) (release bid engines : Nat) (set : TileSet), s.start.waves.map (fun w => w.slot) = [0, 1, 2, 3] ∧
      s.findWave bid = none) ∧
    (∃ (s : State) (bid : Nat), (s.findWave bid).isSome = true) ∧
    (∃ (s : State) (key : Nat) (f : FloorSet), s.start.floors.find? (fun f => decide (f.key = key ∧ ¬ f.acting = true)) =
      some f) ∧
    (∃ (s : State) (key tile : Nat) (f : FloorSet), s.start.floors = [f] ∧ f.key = key ∧ f.acting = true ∧
      f.tiles.contains tile = true ∧ f.wave = false ∧ 2 ≤ s.floorHeight f tile) ∧
    (∃ (s : State) (h : Int), s.start.waves ≠ [] ∧ s.dom.hrGate = some h ∧ (s.hTarget : Int) - 320 ≤ 64 * h) :=
  ⟨⟨{ State.reset with time := 6 }, 1, 5, 128, 128, 64, 70000, { first := 0, count := 2, stride := 1 }, by decide⟩,
    ⟨mk [(.DOM_STATUS_STATE, 1, 2)], 1, 100000, 128, 128, 64, 7, { first := 0, count := 2, stride := 1 }, by decide⟩,
    ⟨mk [(.DOM_STATUS_STATE, 0, 2), (.DOM_STATUS_STATE, 1, 2)], 9000, 4095, 20, { first := 0, count := 2, stride := 1 },
      by decide⟩,
    ⟨{ State.reset with
        start := { State.reset.start with
          waves := [0, 1, 2, 3].map (fun k => { slot := k, bid := 100 + k, floors := k, release := 0, tiles := [0],
                                                engines := 9, granted := 0, armed := false, released := false }) } },
      9000, 5, 20, { first := 0, count := 2, stride := 1 }, by decide⟩,
    ⟨{ State.reset with
        start := { State.reset.start with
          waves := [0, 1, 2, 3].map (fun k => { slot := k, bid := 100 + k, floors := k, release := 0, tiles := [0],
                                                engines := 9, granted := 0, armed := false, released := false }) } },
      101, by decide⟩,
    ⟨{ State.reset with
        start := { State.reset.start with
          floors := [{ key := 4, start := 10, wave := false, tiles := [1, 2], acting := false, heights := [], covered :=
                       [] }] } }, 4,
      { key := 4, start := 10, wave := false, tiles := [1, 2], acting := false, heights := [], covered := [] }, by
      decide⟩,
    ⟨{ State.reset with
        start := { State.reset.start with
          floors := [{ key := 4, start := 10, wave := false, tiles := [1, 2], acting := true, heights := [], covered :=
                       [] }] } }, 4, 2,
      { key := 4, start := 10, wave := false, tiles := [1, 2], acting := true, heights := [], covered := [] }, by decide⟩,
    ⟨{ State.reset with
        start := { State.reset.start with
          waves := [{ slot := 0, bid := 100, floors := 0, release := 0, tiles := [0], engines := 9, granted := 0, armed
                      := false, released := false }] }, dom := { State.reset.dom with hrGate := some 200 } }, 200, by
      decide⟩⟩

theorem witness_ForecastsAndBarriersAct_2 :
    (∃ (s : State) (bid : Nat) (w : Wave), s.findWave bid = some w) ∧
    (∃ (s : State) (bid : Nat) (w : Wave), s.findWave bid = some w ∧ w.released = true) :=
  ⟨⟨{ State.reset with
        start := { State.reset.start with
          waves := [{ slot := 0, bid := 100, floors := 0, release := 0, tiles := [0], engines := 9, granted := 0, armed
                      := true, released := false }] } }, 100, { slot := 0, bid := 100, floors := 0, release := 0, tiles
                                                                := [0], engines := 9, granted := 0, armed := true,
                                                                released := false }, by decide⟩,
    ⟨{ State.reset with
        start := { State.reset.start with
          waves := [{ slot := 0, bid := 100, floors := 0, release := 0, tiles := [0], engines := 9, granted := 0, armed
                      := true, released := true }] } }, 100, { slot := 0, bid := 100, floors := 0, release := 0, tiles :=
                                                               [0], engines := 9, granted := 0, armed := true, released
                                                               := true }, by decide⟩⟩

theorem witness_StartsAreChargedAndGranted_1 :
    (∃ (s : State) (port wclass reqId epoch engines step bid : Nat) (barrier : Bool), port < s.cfg.table.tiles ∧
      s.start.queue = [] ∧ s.isSet .DOM_STATUS_READY port = true ∧ 5 < step ∧ (s.profileOf port (epoch % 16)).2.2.2 =
      true) ∧
    (∃ (s : State) (port wclass reqId epoch engines step bid : Nat) (barrier : Bool), port < s.cfg.table.tiles ∧
      s.start.queue = [] ∧ s.isSet .DOM_STATUS_READY port = true ∧ step ≤ 5) ∧
    (∃ (s : State) (port wclass reqId epoch engines step bid : Nat) (barrier : Bool), port < s.cfg.table.tiles ∧
      s.start.queue = [] ∧ s.isSet .DOM_STATUS_READY port = false) ∧
    (∃ (s : State) (port tile wclass reqId epoch engines step bid : Nat) (barrier : Bool), port < s.cfg.table.tiles ∧
      tile ≠ port) ∧
    (∃ (s : State) (tile reqId : Nat), tile < s.cfg.table.tiles ∧ s.start.queue.any (fun r => decide (r.dom = tile ∧
      r.wake = false ∧ r.reqId = reqId)) = true) ∧
    (∃ (s : State) (tile epoch map : Nat), tile < s.cfg.table.tiles) ∧
    (∃ (s : State) (r : StartReq), s.firstReq = some r ∧ s.charge r ≤ s.getF .DOM_START_BUCKET_LEVEL 0 ∧ r.wake = false) ∧
    (∃ (s : State) (r : StartReq) (c : Nat), s.firstReq = some r ∧ s.charge r ≤ s.getF .DOM_START_BUCKET_LEVEL 0 ∧ r.wake
      = true ∧ s.flt.gooseShut = [] ∧ c ∈ s.cfg.table.domCells r.dom ∧ s.cellSt c = 0) :=
  ⟨⟨mk [(.DOM_STATUS_READY, 191, 1)], 191, 3, 7, 0, 4, 6, 0, false, by decide⟩,
    ⟨mk [(.DOM_STATUS_READY, 191, 1)], 191, 3, 7, 0, 4, 5, 0, true, by decide⟩,
    ⟨State.reset, 191, 3, 7, 0, 4, 6, 0, false, by decide⟩,
    ⟨State.reset, 191, 0, 3, 7, 0, 4, 6, 0, false, by decide⟩,
    ⟨{ State.reset with
        start := { State.reset.start with queue := [{ (State.reset.wakeReq 3) with wake := false, reqId := 9 }] } }, 3,
      9, by decide⟩,
    ⟨State.reset, 191, 15, 1, by decide⟩,
    ⟨{ mk [(.DOM_START_BUCKET_LEVEL, 0, 100)] with
        start := { State.reset.start with
          queue := [{ (State.reset.wakeReq 3) with wake := false, reqId := 9, step := 100, scale := 128 }] } },
      { (State.reset.wakeReq 3) with wake := false, reqId := 9, step := 100, scale := 128 }, by decide⟩,
    ⟨{ mk [(.DOM_START_BUCKET_LEVEL, 0, 4000)] with
        time := 1000, dom := { State.reset.dom with hrOkAt := some 0 }, start := { State.reset.start with
          queue := [State.reset.wakeReq 3] } }, State.reset.wakeReq 3, 15, by decide⟩⟩

theorem witness_StartsAreChargedAndGranted_2 :
    (∃ (s : State) (r : StartReq), s.firstReq = some r ∧ s.getF .DOM_START_BUCKET_LEVEL 0 < s.charge r) ∧
    (∃ (s : State) (tile : Nat) (c : ProfCheck) (i : Int), s.start.checks = [c] ∧ c.tile = tile ∧ c.after = some i ∧
      c.disturbed = false ∧ (max 1 (s.getF .DOM_START_WAVE_MISMATCH_TOL 0) : Int) * (10 * c.charge) < (i - c.before - 10
      * c.charge).natAbs * 100) :=
  ⟨⟨{ mk [(.DOM_START_BUCKET_LEVEL, 0, 0), (.DOM_CTRL_WAKE_STEP, 3, 250)] with
        time := 1000, dom := { State.reset.dom with hrOkAt := some 0 }, start := { State.reset.start with
          queue := [State.reset.wakeReq 3] } }, State.reset.wakeReq 3, by decide⟩,
    ⟨{ State.reset with
        start := { State.reset.start with
          checks := [{ tile := 3, charge := 100, on := 100, fin := 200, first := 90, base := 0, before := 100, early :=
                       0, after := some 2100, disturbed := false }] } }, 3, { tile := 3, charge := 100, on := 100, fin :=
                                                                              200, first := 90, base := 0, before := 100,
                                                                              early := 0, after := some 2100, disturbed
                                                                              := false }, 2100, by decide⟩⟩

theorem witness_EstimatesAndBudgetWork_1 :
    (∃ (s : State) (port dom window : Nat) (counts : List Nat), port < s.cfg.table.domains ∧ s.domMeasured port = true ∧
      100 ≤ s.time ∧ s.time % 100 ≤ 50 ∧ (s.estDom port).decided = false ∧ (s.estDom port).arrived = none ∧ dom % 512 =
      port ∧ window % 2 ^ 32 = s.window % 2 ^ 32) ∧
    (∃ (s : State) (port dom window : Nat) (valid : Bool) (counts : List Nat), port < s.cfg.table.domains ∧ s.domMeasured
      port = true ∧ 100 ≤ s.time ∧ s.time % 100 ≤ 50 ∧ (s.estDom port).decided = false ∧ (valid = false ∨ dom % 512 ≠
      port ∨ window % 2 ^ 32 ≠ s.window % 2 ^ 32)) ∧
    (∃ (s : State) (port dom window : Nat) (valid : Bool) (counts : List Nat), (s.domMeasured port = false ∨ 50 < s.time
      % 100 ∨ (s.estDom port).decided = true)) ∧
    (∃ (s : State) (d : Nat) (c : List Nat), s.doms.filter (fun x => s.domMeasured x) = [d] ∧ (s.estDom d).decided =
      false ∧ (s.estDom d).arrived = some c) ∧
    (∃ (s : State) (d : Nat), s.doms.filter (fun x => s.domMeasured x) = [d] ∧ (s.estDom d).decided = false ∧ (s.estDom
      d).arrived = none) ∧
    (∃ (s : State) (cells : List (Nat × Nat)) (d : Nat), 100 ≤ s.time ∧ s.est.published ≠ some s.window ∧ d <
      s.cfg.table.domains ∧ s.doms.filter (fun x => s.domMeasured x) = [d] ∧ s.windowSum cells d < 2 ^ Fld.width
      .DOM_MEAS_I_DOM) ∧
    (∃ (s : State) (cells : List (Nat × Nat)) (d : Nat), 100 ≤ s.time ∧ s.est.published ≠ some s.window ∧ d <
      s.cfg.table.domains ∧ s.domMeasured d = false ∧ s.estDom d ≠ EstDom.empty) ∧
    (∃ (s : State) (d : Nat), d < s.cfg.table.domains) :=
  ⟨⟨{ mk [(.DOM_STATUS_STATE, 247, 2)] with time := 150 }, 247, 247, 0, [1, 4095], by decide⟩,
    ⟨{ mk [(.DOM_STATUS_STATE, 0, 2)] with time := 100 }, 0, 0, 0, false, [], by decide⟩,
    ⟨{ mk [(.DOM_STATUS_STATE, 0, 2)] with time := 151 }, 0, 0, 0, true, [], by decide⟩,
    ⟨(mk [(.DOM_STATUS_STATE, 3, 2)]).setEst 3 { State.reset.estDom 3 with arrived := some [5], staleRun := 2 }, 3, [5],
      by decide⟩,
    ⟨mk [(.DOM_STATUS_STATE, 3, 2)], 3, by decide⟩,
    ⟨{ mk [(.DOM_STATUS_STATE, 36, 2)] with time := 160 }, [(180, 1000), (181, 1001)], 36, by decide⟩,
    ⟨{ (mk [(.DOM_EST_CUR_EST_I, 3, 55)]).setEst 3 { State.reset.estDom 3 with staleRun := 2 } with time := 160 }, [], 3,
      by decide⟩,
    ⟨(mk [(.DOM_STATUS_STATE, 3, 2)]).setEst 3 { State.reset.estDom 3 with sumEst := 64000000, sumMeas := 63000000 }, 3,
      by decide⟩⟩

theorem witness_EstimatesAndBudgetWork_2 :
    (∃ (s : State) (d : Nat), d < s.cfg.table.domains ∧ s.standingHolds d = [] ∧ (s.estDom d).holds = [] ∧ s.getF
      .DOM_EST_STATUS_STATE d = 0 ∧ s.msClass ((rne (s.estDom d).sumEst 4).toNat / 1000) ((rne (s.estDom d).sumMeas
      4).toNat / 1000) = 1 ∧ max 1 (s.getF .DOM_EST_CFG_DIS_MS 0) ≤ (s.estDom d).disRun + 1) ∧
    (∃ (s : State), s.bud.pulseStart ≠ none ∧ s.bud.restSince.any (fun r => decide (100000 ≤ s.time - r)) = true) ∧
    (∃ (s : State), (s.bud.pulseStart = none ∨ s.bud.restSince.any (fun r => decide (100000 ≤ s.time - r)) = false)) ∧
    (∃ (s : State), s.bud.windows ≠ 0) ∧
    (∃ (s : State), s.boot.released = true ∧ s.bud.windows = 0 ∧ s.bud.avgSet = true ∧ 0 ≤ (s.getF .DOM_BUD_AVG_AVG 0 :
      Int) + rne ((s.bud.pMs - s.getF .DOM_BUD_AVG_AVG 0) * rneDiv (2 ^ 24) (100 * clampN 10 300 (s.getF
      .DOM_BUD_CAP_WINDOW 0))) 24 ∧ (s.getF .DOM_BUD_AVG_AVG 0 : Int) + rne ((s.bud.pMs - s.getF .DOM_BUD_AVG_AVG 0) *
      rneDiv (2 ^ 24) (100 * clampN 10 300 (s.getF .DOM_BUD_CAP_WINDOW 0))) 24 < 2 ^ Fld.width .DOM_BUD_AVG_AVG) ∧
    (∃ (s : State), s.onTick 1000 = true ∧ s.isSet .DOM_BUD_GOV_GOVERNED 0 = false ∧ s.pulseLate = true) ∧
    (∃ (s : State), s.onTick 1000 = true ∧ s.isSet .DOM_BUD_GOV_GOVERNED 0 = true ∧ s.rested = true) ∧
    (∃ (s : State) (tile : Nat), s.isSet .DOM_BUD_CTRL_MODE 0 = true ∧ tile < s.cfg.table.tiles ∧ s.domLive tile = true ∧
      s.getF .DOM_STATUS_STEP tile < s.getF .DOM_BUD_CTRL_FIXED_STEP 0 ∧ s.bud.fixedLost.contains tile = false) :=
  ⟨⟨(mk [(.DOM_STATUS_STATE, 3, 2), (.DOM_EST_ADAPT_ADAPT_EN, 0, 1), (.DOM_EST_CFG_DIS_MS, 0, 2)]).setEst 3
      { State.reset.estDom 3 with sumEst := 16000000, sumMeas := 64000000, disRun := 1 }, 3, by decide⟩,
    ⟨{ mk [(.DOM_BUD_GOV_PULSE, 0, 1)] with
        time := 100009, bud := { State.reset.bud with pulseStart := some 5, restSince := some 9 } }, by decide⟩,
    ⟨State.reset, by decide⟩,
    ⟨{ State.reset with bud := { State.reset.bud with windows := 1000, sumP := 62500000000 } }, by decide⟩,
    ⟨{ mk [(.GLB_BOOT_STATUS_STATE, 0, 6), (.DOM_BUD_AVG_AVG, 0, 100000)] with
        boot := { State.reset.boot with released := true }, bud := { State.reset.bud with avgSet := true, pMs := 200000 }
        }, by decide⟩,
    ⟨{ State.reset with time := 2000000, bud := { State.reset.bud with pulseStart := some 5 } }, by decide⟩,
    ⟨{ mk [(.DOM_BUD_GOV_GOVERNED, 0, 1)] with
        time := 200000000, bud := { State.reset.bud with pulseStart := some 5, restSince := some 9 } }, by decide⟩,
    ⟨mk [(.DOM_BUD_CTRL_MODE, 0, 1), (.DOM_STATUS_STATE, 191, 2), (.DOM_BUD_CTRL_FIXED_STEP, 0, 9), (.DOM_STATUS_STEP,
      191, 8)], 191, by decide⟩⟩

theorem witness_EstimatesAndBudgetWork_3 :
    (∃ (s : State) (tile : Nat), s.bud.fixedLost.contains tile = true) :=
  ⟨{ State.reset with bud := { State.reset.bud with fixedLost := [191] } }, 191, by decide⟩

theorem witness_SensorsTowersAndClampsMove_1 :
    (∃ (s : State) (w : Nat), s.onTick 10000 = true ∧ s.thm.started = true ∧ w < s.cfg.table.towers) ∧
    (∃ (s : State) (x : Nat) (v : Int), x < s.onDie ∧ s.thm.period = [] ∧ s.snsSt x = 0 ∧ -320 ≤ v ∧ v ≤ 1200) ∧
    (∃ (s : State) (x : Nat) (v : Int), x < s.onDie ∧ s.thm.period = [] ∧ s.snsSt x = 0 ∧ (s.sns x).failRun = 1 ∧ (v <
      -320 ∨ 1200 < v)) ∧
    (∃ (s : State) (tower x : Nat) (v : Int), tower < s.cfg.table.towers ∧ s.onDie + 64 * tower ≤ x ∧ x < s.onDie + 64 *
      tower + 64) ∧
    (∃ (s : State) (unit : Nat), unit < s.cfg.table.domains ∧ s.clSt false unit = 2 ∧ (s.clFlags false unit).1 = false ∧
      (s.clFlags false unit).2.2 = false ∧ s.clWaited false unit (s.getF .THM_CLAMP_CFG_RELEASE_MS 0) = true) ∧
    (∃ (s : State) (unit : Nat), unit < s.cfg.table.towers ∧ s.clSt true unit = 2 ∧ (s.clFlags true unit).1 = false ∧
      (s.clFlags true unit).2.2 = false ∧ s.isSet .THM_TWR_SB_OK unit = true ∧ s.clWaited true unit (s.getF
      .THM_CLAMP_CFG_RELEASE_MS 0) = true) ∧
    (∃ (s : State) (tower : Bool) (unit : Nat), s.clSt tower unit ≠ 2) ∧
    (∃ (s : State) (tower : Bool) (unit : Nat), s.clIs tower unit = true ∧ s.clSt tower unit = 3 ∧ s.clWaited tower unit
      (s.getF .THM_CLAMP_CFG_RISE_MS 0) = true ∧ s.clC tower unit < 15) :=
  ⟨⟨{ State.reset with thm := { State.reset.thm with started := true } }, 23, by decide⟩,
    ⟨State.reset, 5, -320, by decide⟩,
    ⟨State.reset.setSns 5 { SnsState.empty with failRun := 1 }, 5, -321, by decide⟩,
    ⟨State.reset, 23, 2911, 160, by decide⟩,
    ⟨{ mk [(.THM_DOM_CL_STATE, 247, 2), (.THM_DOM_CLAMP, 247, 9)] with time := 100000000 }, 247, by decide⟩,
    ⟨{ mk [(.THM_TWR_CL_STATE, 23, 2), (.THM_TWR_CLAMP, 23, 9), (.THM_TWR_SB_OK, 23, 1)] with time := 100000000 }, 23, by
      decide⟩,
    ⟨State.reset, true, 3, by decide⟩,
    ⟨{ mk [(.THM_TWR_CL_STATE, 23, 3), (.THM_TWR_CLAMP, 23, 9)] with time := 100000000 }, true, 23, by decide⟩⟩

theorem witness_SensorsTowersAndClampsMove_2 :
    (∃ (s : State) (tower : Bool) (unit : Nat), s.clIs tower unit = true ∧ s.clSt tower unit = 3 ∧ s.clWaited tower unit
      (s.getF .THM_CLAMP_CFG_RISE_MS 0) = true ∧ s.clC tower unit = 15) ∧
    (∃ (s : State) (sensor : Nat) (a b : Int) (g h : List Int), sensor < s.cfg.table.tsens ∧ s.snsSt sensor = 0 ∧ s.snsSt
      (partnerOf sensor) = 0 ∧ (s.sns sensor).good = a :: g ∧ (s.sns (partnerOf sensor)).good = b :: h ∧ 48 < (a -
      b).natAbs ∧ 1000 ≤ (s.sns (pairOf sensor)).pairRun ∧ s.isSet .THM_SNS_DISAGREE sensor = false) ∧
    (∃ (s : State) (sensor : Nat) (a b : Int) (g h : List Int), sensor < s.cfg.table.tsens ∧ s.snsSt sensor = 0 ∧ s.snsSt
      (partnerOf sensor) = 0 ∧ (s.sns sensor).good = a :: g ∧ (s.sns (partnerOf sensor)).good = b :: h ∧ (a - b).natAbs ≤
      48 ∧ 1000 ≤ (s.sns (pairOf sensor)).pairRun ∧ s.isSet .THM_SNS_DISAGREE sensor = true) ∧
    (∃ (s : State) (sensor : Nat), sensor < s.cfg.table.tsens ∧ s.snsSt sensor = 1) ∧
    (∃ (s : State) (sensor : Nat), sensor < s.cfg.table.tsens ∧ s.snsSt sensor = 1 ∧ (s.sns sensor).recheck = true ∧ 1000
      ≤ (s.sns sensor).recheckRun ∧ (s.sns sensor).recheckBad = false) ∧
    (∃ (s : State) (sensor : Nat), s.snsSt sensor = 1 ∧ (s.sns sensor).recheck = true ∧ 1000 ≤ (s.sns sensor).recheckRun
      ∧ (s.sns sensor).recheckBad = true) ∧
    (∃ (s : State) (tower : Nat), tower < s.cfg.table.towers ∧ (s.twr tower).lost = false ∧ (s.twr tower).delivered =
      false ∧ 3 ≤ (s.twr tower).gap) ∧
    (∃ (s : State) (tower : Nat), tower < s.cfg.table.towers ∧ 10 ≤ (s.twr tower).full) :=
  ⟨⟨{ mk [(.THM_TWR_CL_STATE, 23, 3), (.THM_TWR_CLAMP, 23, 15)] with time := 100000000 }, true, 23, by decide⟩,
    ⟨(State.reset.setSns 3 { SnsState.empty with good := [400] }).setSns 2
      { SnsState.empty with good := [351], pairRun := 1000 }, 3, 400, 351, [], [], by decide⟩,
    ⟨((mk [(.THM_SNS_DISAGREE, 3, 1), (.THM_SNS_DISAGREE, 2, 1)]).setSns 3 { SnsState.empty with good := [400] }).setSns
      2 { SnsState.empty with good := [352], pairRun := 1000 }, 3, 400, 352, [], [], by decide⟩,
    ⟨mk [(.THM_SNS_STATE, 2911, 1)], 2911, by decide⟩,
    ⟨(mk [(.THM_SNS_STATE, 2911, 1), (.THM_SNS_CAUSE, 2911, 2)]).setSns 2911
      { SnsState.empty with recheck := true, recheckRun := 1000 }, 2911, by decide⟩,
    ⟨(mk [(.THM_SNS_STATE, 2911, 1), (.THM_SNS_CAUSE, 2911, 2)]).setSns 2911
      { SnsState.empty with recheck := true, recheckBad := true, recheckRun := 1000 }, 2911, by decide⟩,
    ⟨State.reset.setTwr 23 { TwrRun.empty with gap := 3 }, 23, by decide⟩,
    ⟨State.reset.setTwr 23 { TwrRun.empty with lost := true, full := 10 }, 23, by decide⟩⟩

theorem witness_SensorsTowersAndClampsMove_3 :
    (∃ (s : State), s.inlets = []) ∧
    (∃ (s : State) (a b : Int), s.inlets = [a, b] ∧ -2048 ≤ min b a ∧ min b a ≤ 2047) ∧
    (∃ (s : State), s.onTick 100000 = true) ∧
    (∃ (s : State) (sensor : Nat), sensor < s.cfg.table.tsens ∧ s.thm.period.any (fun p => decide (p.1 = sensor)) = false
      ∧ s.snsSt sensor = 0 ∧ (s.sns sensor).failRun ≠ 0) ∧
    (∃ (s : State) (sensor : Nat), sensor < s.cfg.table.tsens ∧ s.thm.period.any (fun p => decide (p.1 = sensor)) = false
      ∧ s.snsSt sensor = 0 ∧ (s.sns sensor).failRun = 0) :=
  ⟨⟨State.reset, by decide⟩,
    ⟨{ mk [(.THM_INLET_INLET_SEL, 0, 3), (.ADC_RES_ST_VALID, 196, 1), (.ADC_RES_ST_VALID, 197, 1), (.ADC_RES_CAL, 196,
       320)] with adc := { State.reset.adc with pubTime := [(196, 0), (197, 0)] } }, -300, -320, by decide⟩,
    ⟨State.reset, by decide⟩,
    ⟨State.reset.setSns 2911 { SnsState.empty with failRun := 1 }, 2911, by decide⟩,
    ⟨State.reset, 2911, by decide⟩⟩

theorem witness_HerdLinksComeUpAndGo_1 :
    (∃ (s : State) (port : Nat) (m : LockMsg), port ≤ 3 ∧ s.portShut port = false ∧ s.herdSt = 0) ∧
    (∃ (s : State) (m : LockMsg), s.portShut 1 = false ∧ (s.port 1).sent = true ∧ (s.port 1).enabled = true ∧ s.herdSt ≠
      0 ∧ m.group % 65536 = s.getF .HRD_ID_GROUP_ID 0 ∧ leAt m.body 1 1 = s.getF .HRD_STATUS_LEVEL 0 + 1 ∧ s.linkUp 1 =
      false) ∧
    (∃ (s : State) (port : Nat) (m : LockMsg), port ≤ 3 ∧ s.portShut port = false ∧ (s.port port).enabled = true ∧
      s.herdSt ≠ 0 ∧ m.group % 65536 ≠ s.getF .HRD_ID_GROUP_ID 0) ∧
    (∃ (s : State) (port : Nat), 1 ≤ port ∧ port ≤ 3 ∧ s.linkUp port = true ∧ s.herdSt ≠ 4 ∧ s.exclLow = false) ∧
    (∃ (s : State), s.linkUp 0 = true ∧ (s.herdSt = 2 ∨ s.herdSt = 3)) ∧
    (∃ (s : State) (port : Nat), s.linkUp port = false) ∧
    (∃ (s : State) (m : LockMsg) (d : Nat), s.linkUp 0 = true ∧ s.portShut 0 = false ∧ m.group % 65536 = s.getF
      .HRD_ID_GROUP_ID 0 ∧ s.hrd.delay = some d ∧ s.herdSt = 2 ∧ s.isSet .HRD_STATUS_OFFSET_MODE 0 = false) ∧
    (∃ (s : State) (m : LockMsg), s.linkUp 0 = false) :=
  ⟨⟨herd (mk [(.GLB_TB_STATUS_CAL_OK, 0, 1)]), 3, { flags := 0, group := 0, sender := 1, seq := 0, body := [] }, by
      decide⟩,
    ⟨herd ((mk [(.HRD_STATUS_STATE, 0, 2), (.HRD_ID_GROUP_ID, 0, 7), (.GLB_TB_STATUS_CAL_OK, 0, 1)]).setPort 1
      { HrdPort.empty with enabled := true, sent := true }),
      { flags := 0, group := 7, sender := 1, seq := 0, body := [2, 1] }, by decide⟩,
    ⟨herd ((mk [(.HRD_STATUS_STATE, 0, 2), (.HRD_ID_GROUP_ID, 0, 7), (.GLB_TB_STATUS_CAL_OK, 0, 1)]).setPort 3
      { HrdPort.empty with enabled := true, sent := true }), 3,
      { flags := 0, group := 8, sender := 1, seq := 0, body := [2, 1] }, by decide⟩,
    ⟨(mk [(.HRD_STATUS_STATE, 0, 2), (.HRD_PORT_UP, 3, 1)]).setPort 3
      { HrdPort.empty with enabled := true, members := 3 }, 3, by decide⟩,
    ⟨mk [(.HRD_STATUS_STATE, 0, 2), (.HRD_PORT_UP, 0, 1)], by decide⟩,
    ⟨State.reset, 2, by decide⟩,
    ⟨herd ({ mk [(.HRD_STATUS_STATE, 0, 2), (.HRD_PORT_UP, 0, 1), (.GLB_TB_STATUS_CAL_OK, 0, 1)] with
        time := 100, hrd := { State.reset.hrd with delay := some 9 } }),
      { flags := 0, group := 0, sender := 1, seq := 0, body := [3] }, 9, by decide⟩,
    ⟨State.reset, { flags := 0, group := 0, sender := 1, seq := 0, body := [3] }, by decide⟩⟩

theorem witness_HerdLinksComeUpAndGo_2 :
    (∃ (s : State) (port : Nat) (m : LockMsg), 1 ≤ port ∧ port ≤ 3 ∧ s.linkUp port = true ∧ s.portShut port = false ∧
      m.group % 65536 = s.getF .HRD_ID_GROUP_ID 0) ∧
    (∃ (s : State) (m : LockMsg) (k : Nat), s.linkUp 0 = true ∧ s.portShut 0 = false ∧ m.group % 65536 = s.getF
      .HRD_ID_GROUP_ID 0 ∧ (s.time : Int) - leAt m.body 0 8 - leAt m.body 16 4 = 2 * (k : Int)) ∧
    (∃ (s : State), s.downLinks = []) ∧
    (∃ (s : State) (p : Nat), s.downLinks = [p] ∧ (s.port p).tested = false ∧ s.portsHeld = false) ∧
    (∃ (s : State), s.linkUp 0 = true ∧ (s.port 0).tested = false ∧ s.portsHeld = false) ∧
    (∃ (s : State), s.herdSt = 0) ∧
    (∃ (s : State) (p : Nat), s.herdSt ≠ 0 ∧ [0, 1, 2, 3].filter (fun p => decide ((s.port p).enabled = true ∧ ¬ s.linkUp
      p = true ∧ ¬ (s.port p).tested = true)) = [p] ∧ s.portsHeld = false) ∧
    (∃ (s : State) (port : Nat) (bytes : List Nat), port ≤ 3 ∧ s.portShut port = false ∧ crc32c ((List.range 28).map (fun
      i => bytes.getD i 0 % 256)) ≠ leAt bytes 28 4 ∧ (s.port port).crcRun < 3) :=
  ⟨⟨herd ({ mk [(.HRD_STATUS_STATE, 0, 2), (.HRD_PORT_UP, 3, 1), (.GLB_TB_STATUS_CAL_OK, 0, 1)] with time := 100 }), 3,
      { flags := 0, group := 0, sender := 1, seq := 0, body := [3, 4] }, by decide⟩,
    ⟨herd ({ mk [(.HRD_STATUS_STATE, 0, 2), (.HRD_PORT_UP, 0, 1), (.GLB_TB_STATUS_CAL_OK, 0, 1)] with time := 100 }),
      { flags := 0, group := 0, sender := 1, seq := 0, body := [50] }, 25, by decide⟩,
    ⟨State.reset, by decide⟩,
    ⟨mk [(.HRD_PORT_UP, 2, 1), (.GLB_TB_STATUS_CAL_OK, 0, 1)], 2, by decide⟩,
    ⟨mk [(.HRD_PORT_UP, 0, 1), (.GLB_TB_STATUS_CAL_OK, 0, 1)], by decide⟩,
    ⟨State.reset, by decide⟩,
    ⟨(mk [(.HRD_STATUS_STATE, 0, 1), (.GLB_TB_STATUS_CAL_OK, 0, 1)]).setPort 2 { HrdPort.empty with enabled := true }, 2,
      by decide⟩,
    ⟨herd ((mk [(.GLB_TB_STATUS_CAL_OK, 0, 1), (.HRD_PORT_UP, 3, 1)]).setPort 3 { HrdPort.empty with crcRun := 2 }), 3,
      [], by decide⟩⟩

theorem witness_HerdLinksComeUpAndGo_3 :
    (∃ (s : State) (port : Nat) (bytes : List Nat), 1 ≤ port ∧ port ≤ 3 ∧ s.portShut port = false ∧ crc32c ((List.range
      28).map (fun i => bytes.getD i 0 % 256)) ≠ leAt bytes 28 4 ∧ (s.port port).crcRun = 3) ∧
    (∃ (s : State), s.isSet .HRD_STATUS_SLEWING 0 = true) :=
  ⟨⟨herd ((mk [(.GLB_TB_STATUS_CAL_OK, 0, 1), (.HRD_PORT_UP, 3, 1), (.HRD_STATUS_STATE, 0, 2)]).setPort 3
      { HrdPort.empty with crcRun := 3 }), 3, [], by decide⟩,
    ⟨mk [(.HRD_STATUS_SLEWING, 0, 1)], by decide⟩⟩

theorem witness_HerdAgreesAndExcludes_1 :
    (∃ (s : State) (port : Nat) (m : LockMsg), 1 ≤ port ∧ port ≤ 3 ∧ s.linkUp port = true ∧ s.portShut port = false ∧
      m.group % 65536 = s.getF .HRD_ID_GROUP_ID 0 ∧ s.isSet .HRD_STATUS_IS_ROOT 0 = false) ∧
    (∃ (s : State) (m : LockMsg), s.linkUp 0 = true ∧ s.portShut 0 = false ∧ m.group % 65536 = s.getF .HRD_ID_GROUP_ID 0
      ∧ s.hrd.lastSeq = none ∧ s.herdSt = 2 ∧ (s.time : Int) ≤ s.ownCt (leAt m.body 4 8)) ∧
    (∃ (s : State), s.isSet .HRD_FREQ_PEND 0 = true ∧ s.isSet .HRD_STATUS_IS_ROOT 0 = false ∧ s.herdSt = 5 ∧ s.changeDue
      = true) ∧
    (∃ (s : State), s.isSet .HRD_FREQ_PEND 0 = false) ∧
    (∃ (s : State) (port i : Nat) (m : LockMsg), 1 ≤ port ∧ port ≤ 3 ∧ s.linkUp port = true ∧ s.portShut port = false ∧
      m.group % 65536 = s.getF .HRD_ID_GROUP_ID 0 ∧ s.isSet .HRD_STATUS_IS_ROOT 0 = true ∧ leAt m.body 6 1 = 1 ∧
      (List.range 16).find? (fun i => decide (s.getF .HRD_EXCL_STATE i ≠ 0 ∧ s.getF .HRD_EXCL_STACK_ID i = m.sender %
      65536)) = none ∧ (List.range 16).find? (fun i => decide (s.getF .HRD_EXCL_STATE i = 0)) = some i) ∧
    (∃ (s : State) (port : Nat) (m : LockMsg), 1 ≤ port ∧ port ≤ 3 ∧ s.linkUp port = true ∧ s.portShut port = false ∧
      m.group % 65536 = s.getF .HRD_ID_GROUP_ID 0 ∧ s.isSet .HRD_STATUS_IS_ROOT 0 = false ∧ s.linkUp 0 = true ∧ (s.port
      0).tested = false) ∧
    (∃ (s : State) (m : LockMsg), s.linkUp 0 = true ∧ s.portShut 0 = false ∧ m.group % 65536 = s.getF .HRD_ID_GROUP_ID 0
      ∧ s.herdSt = 3 ∧ s.hrd.reqOpen = true ∧ leAt m.body 0 2 = s.getF .HRD_ID_STACK_ID 0 ∧ leAt m.body 2 2 =
      s.hrd.reqSeq ∧ leAt m.body 4 1 = 1) ∧
    (∃ (s : State) (m : LockMsg), s.linkUp 0 = true ∧ s.portShut 0 = false ∧ m.group % 65536 = s.getF .HRD_ID_GROUP_ID 0
      ∧ s.herdSt = 3 ∧ s.hrd.reqOpen = true ∧ leAt m.body 0 2 = s.getF .HRD_ID_STACK_ID 0 ∧ leAt m.body 2 2 =
      s.hrd.reqSeq ∧ leAt m.body 4 1 = 2) :=
  ⟨⟨herd (mk [(.HRD_STATUS_STATE, 0, 2), (.HRD_PORT_UP, 3, 1), (.GLB_TB_STATUS_CAL_OK, 0, 1)]), 3,
      { flags := 0, group := 0, sender := 1, seq := 0, body := [0xB8, 0x0B, 5, 0, 1, 0, 0, 0, 2, 0] }, by decide⟩,
    ⟨herd (mk [(.HRD_STATUS_STATE, 0, 2), (.HRD_PORT_UP, 0, 1), (.GLB_TB_STATUS_CAL_OK, 0, 1)]),
      { flags := 0, group := 0, sender := 1, seq := 0, body := [0xB8, 0x0B, 5, 0, 1, 0, 0, 0, 2, 0] }, by decide⟩,
    ⟨mk [(.HRD_FREQ_PEND, 0, 1), (.HRD_PEND_F_NEW, 0, 3000), (.HRD_PEND_CHG_SEQ, 0, 4), (.HRD_STATUS_STATE, 0, 5)], by
      decide⟩,
    ⟨State.reset, by decide⟩,
    ⟨herd (mk [(.HRD_STATUS_STATE, 0, 2), (.HRD_STATUS_IS_ROOT, 0, 1), (.HRD_PORT_UP, 1, 1), (.GLB_TB_STATUS_CAL_OK, 0,
      1), (.HRD_EXCL_STATE, 0, 1)]), 1, 1,
      { flags := 0, group := 0, sender := 9, seq := 0, body := [0xB8, 0x0B, 5, 0, 1, 0, 1] }, by decide⟩,
    ⟨herd (mk [(.HRD_STATUS_STATE, 0, 2), (.HRD_PORT_UP, 0, 1), (.HRD_PORT_UP, 1, 1), (.GLB_TB_STATUS_CAL_OK, 0, 1)]), 1,
      { flags := 0, group := 0, sender := 9, seq := 0, body := [0xB8, 0x0B, 5, 0, 1, 0, 1] }, by decide⟩,
    ⟨herd ({ mk [(.HRD_STATUS_STATE, 0, 3), (.HRD_PORT_UP, 0, 1), (.GLB_TB_STATUS_CAL_OK, 0, 1)] with
        hrd := { State.reset.hrd with reqOpen := true, reqSeq := 5 } }),
      { flags := 0, group := 0, sender := 9, seq := 0, body := [0, 0, 5, 0, 1] }, by decide⟩,
    ⟨herd ({ mk [(.HRD_STATUS_STATE, 0, 3), (.HRD_PORT_UP, 0, 1), (.GLB_TB_STATUS_CAL_OK, 0, 1)] with
        hrd := { State.reset.hrd with reqOpen := true, reqSeq := 5 } }),
      { flags := 0, group := 0, sender := 9, seq := 0, body := [0, 0, 5, 0, 2] }, by decide⟩⟩

theorem witness_HerdAgreesAndExcludes_2 :
    (∃ (s : State) (m : LockMsg), s.linkUp 0 = true ∧ s.portShut 0 = false ∧ m.group % 65536 = s.getF .HRD_ID_GROUP_ID 0) ∧
    (∃ (s : State), s.linkUp 0 = true) ∧
    (∃ (s : State), s.herdSt = 0) ∧
    (∃ (s : State), s.herdSt = 2 ∧ s.hrd.barCt = false ∧ s.hrd.barUntil ≤ s.time ∧ (s.setF .HRD_FREQ_F_OFF 0
      s.offer).exclLow = true ∧ s.isSet .HRD_STATUS_IS_ROOT 0 = false) ∧
    (∃ (s : State), s.herdSt = 3 ∧ s.exclLow = false ∧ s.isSet .HRD_STATUS_IS_ROOT 0 = false) ∧
    (∃ (s : State), s.herdSt = 3) ∧
    (∃ (s : State), s.herdSt = 1) ∧
    (∃ (s : State), s.herdSt = 5) :=
  ⟨⟨herd (mk [(.HRD_STATUS_STATE, 0, 2), (.HRD_PORT_UP, 0, 1), (.GLB_TB_STATUS_CAL_OK, 0, 1)]),
      { flags := 0, group := 0, sender := 9, seq := 0, body := [] }, by decide⟩,
    ⟨mk [(.HRD_STATUS_STATE, 0, 4), (.HRD_PORT_UP, 0, 1), (.GLB_TB_STATUS_CAL_OK, 0, 1)], by decide⟩,
    ⟨State.reset, by decide⟩,
    ⟨mk [(.HRD_STATUS_STATE, 0, 2), (.HRD_FREQ_F_GRP, 0, 3000), (.HRD_TILE_MASK_MASK, 0, 1), (.DOM_STATUS_STATE, 0, 2)],
      by decide⟩,
    ⟨mk [(.HRD_STATUS_STATE, 0, 3), (.HRD_FREQ_F_GRP, 0, 300), (.HRD_FREQ_F_OFF, 0, 300)], by decide⟩,
    ⟨mk [(.HRD_STATUS_STATE, 0, 3)], by decide⟩,
    ⟨mk [(.HRD_STATUS_STATE, 0, 1)], by decide⟩,
    ⟨mk [(.HRD_STATUS_STATE, 0, 5), (.GLB_TB_STATUS_HERD_SHARED, 0, 1)], by decide⟩⟩

theorem witness_HerdAgreesAndExcludes_3 :
    (∃ (s : State) (stack i : Nat), (List.range 16).find? (fun i => decide (s.getF .HRD_EXCL_STATE i = 1 ∧ s.getF
      .HRD_EXCL_STACK_ID i = stack % 65536)) = some i ∧ s.isSet .HRD_STATUS_IS_ROOT 0 = true ∧ s.downLinks = [] ∧
      s.herdSt ≠ 3) ∧
    (∃ (s : State) (stack i : Nat), (List.range 16).find? (fun i => decide (s.getF .HRD_EXCL_STATE i = 1 ∧ s.getF
      .HRD_EXCL_STACK_ID i = stack % 65536)) = some i ∧ s.isSet .HRD_STATUS_IS_ROOT 0 = true ∧ s.downLinks = [2] ∧
      s.herdSt = 2 ∧ (s.port 2).tested = false ∧ s.portsHeld = false) ∧
    (∃ (s : State) (stack i : Nat), (List.range 16).find? (fun i => decide (s.getF .HRD_EXCL_STATE i = 1 ∧ s.getF
      .HRD_EXCL_STACK_ID i = stack % 65536)) = some i ∧ s.isSet .HRD_STATUS_IS_ROOT 0 = true ∧ s.herdSt = 2) ∧
    (∃ (s : State) (entry : Nat), entry < 16 ∧ s.isSet .HRD_STATUS_IS_ROOT 0 = true ∧ s.isSet .HRD_EXCL_STATE entry =
      true) :=
  ⟨⟨mk [(.HRD_STATUS_STATE, 0, 2), (.HRD_STATUS_IS_ROOT, 0, 1), (.HRD_EXCL_STATE, 2, 1), (.HRD_EXCL_STACK_ID, 2, 7)], 7,
      2, by decide⟩,
    ⟨mk [(.HRD_STATUS_STATE, 0, 2), (.HRD_STATUS_IS_ROOT, 0, 1), (.HRD_EXCL_STATE, 2, 1), (.HRD_EXCL_STACK_ID, 2, 7),
      (.HRD_PORT_UP, 2, 1), (.GLB_TB_STATUS_CAL_OK, 0, 1)], 7, 2, by decide⟩,
    ⟨mk [(.HRD_STATUS_STATE, 0, 2), (.HRD_STATUS_IS_ROOT, 0, 1), (.HRD_EXCL_STATE, 2, 1), (.HRD_EXCL_STACK_ID, 2, 7)], 7,
      2, by decide⟩,
    ⟨mk [(.HRD_STATUS_IS_ROOT, 0, 1), (.HRD_EXCL_STATE, 15, 1)], 15, by decide⟩⟩

theorem witness_ConvertersConvertAndFail_1 :
    (∃ (s : State) (c : Nat), c < 16 ∧ s.cvSt c ≤ 2 ∧ s.pairSt (c / 2) ≠ 3 ∧ (s.cv c).inRound = true) ∧
    (∃ (s : State) (c : Nat), c < 16 ∧ s.cvSt c ≤ 2 ∧ s.pairSt (c / 2) ≠ 3 ∧ (s.cv c).inRound = false) ∧
    (∃ (s : State) (c : Nat), c < 16 ∧ s.cvSt c = 5 ∧ (s.cv c).rcDone = true ∧ (s.cv c).inRound = false) ∧
    (∃ (s : State) (c : Nat) (v : Int), c < 16 ∧ s.cvSt c = 5) ∧
    (∃ (s : State) (c : Nat) (v : Int), c < 16 ∧ s.cvSt c ≤ 1 ∧ (s.cv c).cur = some .urgent) ∧
    (∃ (s : State) (c : Nat) (v : Int), c < 16 ∧ s.cvSt c = 2 ∧ (s.cv c).cur = some .urgent) ∧
    (∃ (s : State) (c e ch g : Nat) (v : Int), c < 16 ∧ s.cvSt c ≤ 1 ∧ (s.cv c).cur = some (.entry e) ∧ s.seqCh (s.cv
      c).seqOf e = ch ∧ s.getF .ADC_SEQ_GAIN (16 * (s.cv c).seqOf + e) = g ∧ 192 ≤ ch ∧ ch < 228 ∧ ch ≠ 212 ∧ s.getF
      .ADC_SEQ_AVGL (16 * (s.cv c).seqOf + e) = 0) ∧
    (∃ (s : State) (c o ch : Nat) (v : Int), c < 16 ∧ s.cvSt c ≤ 1 ∧ (s.cv c).cur = some (.timer o) ∧ s.getF
      .ADC_CV_UT_UT_CH o = ch ∧ 192 ≤ ch ∧ ch < 228 ∧ ch ≠ 212) :=
  ⟨⟨(mk [(.ADC_CV_STATUS_STATE, 15, 1)]).setCv 15 { AdcCv.empty with inRound := true }, 15, by decide⟩,
    ⟨mk [(.ADC_CV_STATUS_STATE, 15, 1)], 15, by decide⟩,
    ⟨(mk [(.ADC_CV_STATUS_STATE, 15, 5)]).setCv 15 { AdcCv.empty with rcDone := true }, 15, by decide⟩,
    ⟨mk [(.ADC_CV_STATUS_STATE, 0, 5)], 0, 1500000000, by decide⟩,
    ⟨(mk [(.ADC_CV_STATUS_STATE, 15, 1), (.ADC_URG_RES_BUSY, 0, 1)]).setCv 15 { AdcCv.empty with cur := some .urgent },
      15, 1600000000, by decide⟩,
    ⟨(mk [(.ADC_CV_STATUS_STATE, 15, 2), (.ADC_URG_RES_BUSY, 0, 1)]).setCv 15 { AdcCv.empty with cur := some .urgent },
      15, 1600000000, by decide⟩,
    ⟨(mk [(.ADC_CV_STATUS_STATE, 0, 1), (.ADC_SEQ_CH, 1, 196), (.ADC_SEQ_GAIN, 1, 0)]).setCv 0
      { AdcCv.empty with cur := some (.entry 1), inRound := true }, 0, 1, 196, 0, 1499999999, by decide⟩,
    ⟨(mk [(.ADC_CV_STATUS_STATE, 15, 1), (.ADC_CV_UT_UT_CH, 15, 211)]).setCv 15
      { AdcCv.empty with cur := some (.timer 15) }, 15, 15, 211, 750000000, by decide⟩⟩

theorem witness_ConvertersConvertAndFail_2 :
    (∃ (s : State) (c : Nat) (v : Int), c < 16 ∧ s.cvSt c ≠ 5 ∧ (s.cv c).cur = none) ∧
    (∃ (s : State) (c : Nat), c < 16 ∧ s.cvServes c = true ∧ (s.cv c).inRound = true ∧ (s.cv c).waits = true ∧ (s.cv
      c).ready = false ∧ (s.cv c).cur = none ∧ (s.cv c).timers = [] ∧ (s.cv c).cross = none ∧ s.isSet .ADC_CV_STATUS_PD c
      = false ∧ s.utAhead c (s.cvTicks c) = false ∧ s.adc.step = none ∧ s.adc.urgCh = none) ∧
    (∃ (s : State) (c ch : Nat), c < 16 ∧ s.cvServes c = true ∧ (s.cv c).inRound = true ∧ (s.cv c).waits = true ∧ (s.cv
      c).ready = false ∧ (s.cv c).late = false ∧ s.seqCh (s.cv c).seqOf (s.getF .ADC_CV_STATUS_POS c) = ch ∧ Tbl.get 0
      s.adc.skips (16 * (s.cv c).seqOf + s.getF .ADC_CV_STATUS_POS c) = 3) ∧
    (∃ (s : State) (c : Nat), c < 16 ∧ (s.cv c).inRound = true ∧ (s.cv c).waits = true ∧ (s.cv c).ready = true) ∧
    (∃ (s : State) (c b : Nat), c < 16 ∧ s.utRuns c = true ∧ s.onTick (s.utTicks c) = true ∧ (s.cv c).utAt ≠ some s.time
      ∧ s.pairSt (c / 2) ≠ 3 ∧ s.utBy c = b ∧ s.cvServes b = true ∧ (s.cv b).cur = none ∧ (s.cv b).timers = []) ∧
    (∃ (s : State) (c : Nat), c < 16 ∧ s.utRuns c = true ∧ s.onTick (s.utTicks c) = true ∧ (s.cv c).utAt ≠ some s.time ∧
      s.pairSt (c / 2) = 3) ∧
    (∃ (s : State) (c : Nat), s.isSet .ADC_CV_UT_UT_EN c = false) ∧
    (∃ (s : State) (ch gain smp : Nat), s.isSet .ADC_URG_RES_BUSY 0 = true) :=
  ⟨⟨State.reset, 0, 0, by decide⟩,
    ⟨(mk [(.ADC_CV_STATUS_PD, 15, 0)]).setCv 15 { AdcCv.empty with inRound := true, waits := true }, 15, by decide⟩,
    ⟨{ ((mk [(.ADC_SEQ_CH, 240, 7)]).setCv 15 { AdcCv.empty with inRound := true, waits := true, seqOf := 15 }) with
        adc := { ((mk []).setCv 15 { AdcCv.empty with inRound := true, waits := true, seqOf := 15 }).adc with
          skips := [(240, 3)] } }, 15, 7, by decide⟩,
    ⟨State.reset.setCv 15 { AdcCv.empty with inRound := true, waits := true, ready := true }, 15, by decide⟩,
    ⟨mk [(.ADC_CV_UT_UT_EN, 15, 1), (.ADC_CV_UT_UT_CH, 15, 211), (.ADC_CV_STATUS_PD, 15, 1)], 15, 15, by decide⟩,
    ⟨mk [(.ADC_CV_UT_UT_EN, 15, 1), (.ADC_CV_UT_UT_CH, 15, 211), (.ADC_PAIR_STATUS_STATE, 7, 3)], 15, by decide⟩,
    ⟨mk [(.ADC_CV_UT_UT_EN, 15, 0)], 15, by decide⟩,
    ⟨mk [(.ADC_URG_RES_BUSY, 0, 1)], 5, 0, 10, by decide⟩⟩

theorem witness_ConvertersConvertAndFail_3 :
    (∃ (s : State) (ch gain smp c : Nat), s.isSet .ADC_URG_RES_BUSY 0 = false ∧ chDefined s.cfg.table (ch % 256) = true ∧
      s.cvFor (ch % 256) = some c) ∧
    (∃ (s : State) (ch gain smp : Nat), s.isSet .ADC_URG_RES_BUSY 0 = false ∧ (chDefined s.cfg.table (ch % 256) = false ∨
      s.cvFor (ch % 256) = none)) :=
  ⟨⟨State.reset, 5, 0, 10, 5, by decide⟩,
    ⟨State.reset, 236, 0, 10, by decide⟩⟩

theorem witness_ConverterHealthMoves_1 :
    (∃ (s : State) (c : Nat), c < 16 ∧ s.cvSt c ≤ 2 ∧ (s.cv c).cur ≠ none ∧ 2 * s.cvTicks c ≤ s.time - (s.cv c).start ∧
      s.cvSt (cvPartner c) ≤ 2) ∧
    (∃ (s : State) (c : Nat), c < 16 ∧ s.cvSt c ≤ 2 ∧ s.isSet .ADC_CV_STATUS_PD c = true) ∧
    (∃ (s : State) (c : Nat), c < 16 ∧ s.cvSt c ≤ 2 ∧ s.isSet .ADC_CV_STATUS_PD c = true ∧ s.cvSt (cvPartner c) ≤ 2) ∧
    (∃ (s : State) (c : Nat), c < 16 ∧ (s.cvSt c = 1 ∨ s.cvSt c = 2) ∧ s.utAhead c 101 = false ∧ s.isSet
      .ADC_STATUS_LP_ACTIVE 0 = false ∧ (s.cv c).inRound = false ∧ (s.cv c).cur = none) ∧
    (∃ (s : State) (c : Nat), c < 16 ∧ s.cvSt c ≠ 3 ∧ s.cvSt (cvPartner c) ≤ 2) ∧
    (∃ (s : State) (c : Nat), c < 16 ∧ s.cvSt c ≠ 3 ∧ 2 < s.cvSt (cvPartner c)) ∧
    (∃ (s : State) (c : Nat), c < 16 ∧ s.cvSt c = 3) ∧
    (∃ (s : State) (c : Nat), c < 16 ∧ s.cvSt c = 3) :=
  ⟨⟨{ State.reset.setCv 15 { AdcCv.empty with cur := some (.entry 1) } with time := 800 }, 15, by decide⟩,
    ⟨mk [(.ADC_CV_STATUS_PD, 15, 1)], 15, by decide⟩,
    ⟨mk [(.ADC_CV_STATUS_PD, 15, 1)], 15, by decide⟩,
    ⟨mk [(.ADC_CV_STATUS_STATE, 15, 1), (.ADC_STATUS_LP_ACTIVE, 0, 0)], 15, by decide⟩,
    ⟨State.reset, 15, by decide⟩,
    ⟨mk [(.ADC_CV_STATUS_STATE, 14, 3)], 15, by decide⟩,
    ⟨mk [(.ADC_CV_STATUS_STATE, 15, 3), (.ADC_CV_CTRL_OFFLINE, 15, 1)], 15, by decide⟩,
    ⟨mk [(.ADC_CV_STATUS_STATE, 15, 3)], 15, by decide⟩⟩

theorem witness_ConverterHealthMoves_2 :
    (∃ (s : State) (c : Nat), c < 16 ∧ s.cvSt c = 5 ∧ (s.cv c).rcDone = false ∧ (s.cv c).rcN = 64 ∧ (s.cv c).rcBad =
      false) ∧
    (∃ (s : State) (c : Nat), c < 16 ∧ s.cvSt c = 5 ∧ (s.cv c).rcDone = false ∧ ((s.cv c).rcN < 64 ∨ (s.cv c).rcBad =
      true)) ∧
    (∃ (s : State) (st : CalStep), s.adc.step = some st ∧ st.step = 1 ∧ 64 ≤ st.n) ∧
    (∃ (s : State) (zt : Nat) (z : Int) (st : CalStep), s.adc.step = some st ∧ st.step = 2 ∧ 64 ≤ st.n ∧ s.adc.zero.find?
      (fun p => decide (p.1 = st.ch)) = some (st.ch, (z, zt)) ∧ zt + 256 ≤ st.target ∧ 4096 ≤ (fullCal z (rne (16 *
      st.sum : Nat) 6) zt st.target).1 ∧ (fullCal z (rne (16 * st.sum : Nat) 6) zt st.target).1 ≤ 16384) ∧
    (∃ (s : State) (st : CalStep), s.adc.step = some st ∧ st.step = 3 ∧ 64 ≤ st.n) ∧
    (∃ (s : State) (st : CalStep), s.adc.step = some st ∧ st.n < 64 ∧ s.cvFor st.ch ≠ none) ∧
    (∃ (s : State), s.adc.step = none) ∧
    (∃ (s : State) (ch : Nat), s.isSet .ADC_RES_ST_CAL_BUSY ch = true ∧ s.adc.step.any (fun t => decide (t.ch = ch)) =
      false) :=
  ⟨⟨(mk [(.ADC_CV_STATUS_STATE, 15, 5)]).setCv 15 { AdcCv.empty with rcN := 64 }, 15, by decide⟩,
    ⟨(mk [(.ADC_CV_STATUS_STATE, 15, 5)]).setCv 15 { AdcCv.empty with rcN := 63 }, 15, by decide⟩,
    ⟨{ State.reset with
        adc := { State.reset.adc with
          step := some { slot := 0, ch := 196, step := 1, target := 5, at_ := 0, due := false, n := 64, sum := 6400 } }
        }, { slot := 0, ch := 196, step := 1, target := 5, at_ := 0, due := false, n := 64, sum := 6400 }, by decide⟩,
    ⟨{ State.reset with
        adc := { State.reset.adc with
          zero := [(196, (0, 0))], step := some { slot := 0, ch := 196, step := 2, target := 2000, at_ := 0, due :=
                                                  false, n := 64, sum := 128000 } } }, 0, 0,
      { slot := 0, ch := 196, step := 2, target := 2000, at_ := 0, due := false, n := 64, sum := 128000 }, by decide⟩,
    ⟨{ State.reset with
        adc := { State.reset.adc with
          step := some { slot := 0, ch := 196, step := 3, target := 2000, at_ := 0, due := false, n := 64, sum := 128000
                         } } },
      { slot := 0, ch := 196, step := 3, target := 2000, at_ := 0, due := false, n := 64, sum := 128000 }, by decide⟩,
    ⟨{ State.reset with
        adc := { State.reset.adc with
          step := some { slot := 0, ch := 196, step := 1, target := 5, at_ := 0, due := false, n := 63, sum := 6400 } }
        }, { slot := 0, ch := 196, step := 1, target := 5, at_ := 0, due := false, n := 63, sum := 6400 }, by decide⟩,
    ⟨State.reset, by decide⟩,
    ⟨mk [(.ADC_RES_ST_CAL_BUSY, 5, 1)], 5, by decide⟩⟩

theorem witness_CheckValueUnitsCompute_1 :
    (∃ (s : State) (u init : Nat), 1 ≤ u ∧ u ≤ 3 ∧ s.committed = false ∧ s.crcSt u ≠ 3) ∧
    (∃ (s : State) (init : Nat), s.isSet .CRC_LEASE_HELD 0 = true ∧ s.getF .CRC_LEASE_HOLDER 0 = init ∧ s.crcSt 0 ≠ 3) ∧
    (∃ (s : State) (init : Nat), (s.isSet .CRC_LEASE_HELD 0 = false ∨ s.getF .CRC_LEASE_HOLDER 0 ≠ init)) ∧
    (∃ (s : State) (u init : Nat), 1 ≤ u ∧ u ≤ 3 ∧ s.committed = true) ∧
    (∃ (s : State) (u init : Nat), 1 ≤ u ∧ u ≤ 3 ∧ s.committed = false ∧ s.crcSt u = 1 ∧ s.isSet .CRC_CFG_CMP_EN u =
      false) ∧
    (∃ (s : State) (u init : Nat), 1 ≤ u ∧ u ≤ 3 ∧ s.committed = false ∧ s.crcSt u ≠ 3) ∧
    (∃ (s : State) (u init data : Nat), 1 ≤ u ∧ u ≤ 3 ∧ s.committed = false ∧ s.crcSt u = 1 ∧ s.crcW u ≤ 32) ∧
    (∃ (s : State) (u init data : Nat), 1 ≤ u ∧ u ≤ 3 ∧ s.committed = false ∧ s.crcSt u = 1) :=
  ⟨⟨State.reset, 3, 0xF0, by decide⟩,
    ⟨mk [(.CRC_LEASE_HELD, 0, 1), (.CRC_LEASE_HOLDER, 0, 0xF1)], 0xF1, by decide⟩,
    ⟨mk [(.CRC_LEASE_HELD, 0, 1), (.CRC_LEASE_HOLDER, 0, 0xF2)], 0xF1, by decide⟩,
    ⟨mk [(.GLB_BOOT_STATUS_CFG_COMMITTED, 0, 1)], 3, 0xF0, by decide⟩,
    ⟨mk [(.CRC_STATUS_STATE, 3, 1), (.CRC_VALUE_VALUE, 3, 0x12345678), (.CRC_CFG_CMP_EN, 3, 0)], 3, 0xF0, by decide⟩,
    ⟨mk [(.CRC_STATUS_STATE, 3, 1)], 3, 0xF0, by decide⟩,
    ⟨mk [(.CRC_STATUS_STATE, 3, 1), (.CRC_VALUE_VALUE, 3, 0xFFFFFFFF)], 3, 0xF0, 0x34333231, by decide⟩,
    ⟨mk [(.CRC_STATUS_STATE, 3, 1), (.CRC_VALUE_VALUE, 3, 0xFFFFFFFF)], 3, 0xF0, 0x31, by decide⟩⟩

theorem witness_CheckValueUnitsCompute_2 :
    (∃ (s : State) (u init data : Nat), 1 ≤ u ∧ u ≤ 3 ∧ s.committed = false ∧ (s.crcSt u = 0 ∨ s.crcSt u = 2)) ∧
    (∃ (s : State) (u init value : Nat), 1 ≤ u ∧ u ≤ 3 ∧ s.committed = false ∧ s.crcSt u ≠ 3) ∧
    (∃ (s : State) (u init value : Nat), 1 ≤ u ∧ u ≤ 3 ∧ s.committed = false ∧ (s.crcSt u = 0 ∨ s.crcSt u = 2)) ∧
    (∃ (s : State) (u init reg value : Nat), 1 ≤ u ∧ u ≤ 3 ∧ reg < 3 ∧ s.committed = false ∧ (s.crcSt u = 1 ∨ s.crcSt u =
      3)) ∧
    (∃ (s : State) (init : Nat), s.isSet .CRC_LEASE_HELD 0 = false ∧ (s.getF .CRC_STATUS_DUTY 0 = 0 ∨ 3 < s.getF
      .CRC_STATUS_DUTY 0)) ∧
    (∃ (s : State) (init : Nat), s.isSet .CRC_LEASE_HELD 0 = true) ∧
    (∃ (s : State) (init : Nat), s.isSet .CRC_LEASE_HELD 0 = true ∧ s.getF .CRC_LEASE_HOLDER 0 = init) ∧
    (∃ (s : State), s.boot.released = true ∧ s.isSet .CRC_LEASE_HELD 0 = true ∧ s.getF .CRC_LEASE_HOLDER 0 ≠ 0xFF) :=
  ⟨⟨mk [(.CRC_STATUS_STATE, 3, 2)], 3, 0xF0, 0x31, by decide⟩,
    ⟨State.reset, 3, 0xF0, 0xFFFFFFFF, by decide⟩,
    ⟨State.reset, 3, 0xF0, 0x2EF, by decide⟩,
    ⟨mk [(.CRC_STATUS_STATE, 3, 1)], 3, 0xF0, 2, 0x2EF, by decide⟩,
    ⟨mk [(.CRC_STATUS_DUTY, 0, 0), (.CRC_LEASE_HELD, 0, 0)], 0xF1, by decide⟩,
    ⟨mk [(.CRC_LEASE_HELD, 0, 1)], 0xF1, by decide⟩,
    ⟨mk [(.CRC_LEASE_HELD, 0, 1), (.CRC_LEASE_HOLDER, 0, 0xF1)], 0xF1, by decide⟩,
    ⟨{ mk [(.CRC_LEASE_HELD, 0, 1), (.CRC_LEASE_HOLDER, 0, 0xF1), (.GLB_BOOT_STATUS_STATE, 0, 6)] with
        boot := { State.reset.boot with released := true } }, by decide⟩⟩

theorem witness_CheckValueUnitsCompute_3 :
    (∃ (s : State) (u : Nat), 1 ≤ u ∧ u ≤ 3 ∧ s.testsNow u = true ∧ s.crcSt 0 ≠ 3 ∧ s.getF .CRC_STATUS_DUTY 0 = 0) :=
  ⟨mk [(.CRC_STATUS_DUTY, 0, 0)], 3, by decide⟩

theorem witness_TelemetryRunsItsRing_1 :
    (∃ (s : State), s.tlm.lastTick < s.time / 100000 ∧ s.tlm.stopWait = false ∧ s.tlm.forming = false) ∧
    (∃ (s : State), s.tlm.lastTick < s.time / 100000 ∧ s.tlm.stopWait = false ∧ s.tlm.forming = true ∧ s.recordDoms = []
      ∧ s.isSet .TLM_CTRL_STACK_REC 0 = true ∧ s.tlm.queue = []) ∧
    (∃ (s : State) (r : TlmRec) (rest : List TlmRec), s.tlm.queue = r :: rest ∧ s.recordReady = true) ∧
    (∃ (s : State) (r : TlmRec) (rest : List TlmRec), s.tlm.queue = r :: rest ∧ 200000 ≤ s.time - r.born) ∧
    (∃ (s : State), s.noticeReady = true) ∧
    (∃ (s : State), s.tlm.startWait = true) ∧
    (∃ (s : State), s.tlm.startWait = false) ∧
    (∃ (s : State) (r : TlmRec) (rest : List TlmRec), s.tlm.queue = r :: rest ∧ s.recordReady = true) :=
  ⟨⟨{ State.reset with time := 100000, tlm := { State.reset.tlm with queue := [{ bytes := [1], born := 0 }] } }, by
      decide⟩,
    ⟨{ mk ([(.TLM_CTRL_STACK_REC, 0, 1)] ++ (List.range 8).map (fun i => (.TLM_DOM_MASK_MASK, i, 0))) with
        time := 199999, tlm := { State.reset.tlm with forming := true } }, by decide⟩,
    ⟨{ mk [(.TLM_PROD_PROD, 0, 0xFFFFFFFF), (.TLM_CONS_CONS, 0, 0xFFFFFFFF)] with
        tlm := { State.reset.tlm with queue := [{ bytes := [64, 0], born := 0 }], lostBefore := true } },
      { bytes := [64, 0], born := 0 }, [], by decide⟩,
    ⟨{ State.reset with time := 200000, tlm := { State.reset.tlm with queue := [{ bytes := [64, 0], born := 0 }] } },
      { bytes := [64, 0], born := 0 }, [], by decide⟩,
    ⟨{ mk [(.TLM_CTRL_NOTIFY_MS, 0, 10)] with tlm := { State.reset.tlm with notices := [0, 2] } }, by decide⟩,
    ⟨{ mk [(.TLM_PROD_PROD, 0, 7)] with tlm := { State.reset.tlm with startWait := true } }, by decide⟩,
    ⟨State.reset, by decide⟩,
    ⟨{ mk [(.TLM_CTRL_ENABLE, 0, 1)] with
        tlm := { State.reset.tlm with queue := [{ bytes := [64, 0], born := 0 }], forming := true } },
      { bytes := [64, 0], born := 0 }, [], by decide⟩⟩

theorem witness_TelemetryRunsItsRing_2 :
    (∃ (s : State) (write : Nat), s.tlm.queue = [] ∧ s.noticeReady = false ∧ s.capSt ≠ 3) ∧
    (∃ (s : State), s.capSt = 3 ∧ 0 < s.tlm.cap.dumpLeft ∧ s.tlm.cap.issued = true) ∧
    (∃ (s : State) (set slot : Nat) (p : Packet), set < 64 ∧ slot < 8 ∧ s.ready (8 * set + slot) 0x40 = some p ∧ firstBad
      ([0, 240] ++ whole 6 ++ [31, 255, 3, 0, 252] ++ whole 7 ++ [0, 0, 0, 0]) p.payload = none ∧ 8 ≤ leAt p.payload 8 1
      ∧ leAt p.payload 8 1 ≤ 20 ∧ s.isSet .TLM_STATUS_RUNNING 0 = false) ∧
    (∃ (s : State) (set slot : Nat) (p : Packet), set < 64 ∧ slot < 8 ∧ s.ready (8 * set + slot) 0x40 = some p ∧ firstBad
      ([0, 240] ++ whole 6 ++ [31, 255, 3, 0, 252] ++ whole 7 ++ [0, 0, 0, 0]) p.payload = none ∧ (leAt p.payload 8 1 < 8
      ∨ 20 < leAt p.payload 8 1)) :=
  ⟨⟨State.reset, 2, by decide⟩,
    ⟨{ mk [(.TLM_CAP_STATUS_STATE, 0, 3)] with
        tlm := { State.reset.tlm with cap := { CapState.reset with dumpLeft := 1024, issued := true } } }, by decide⟩,
    ⟨withPkt State.reset 511 0x40 [0, 0x10, 0, 0, 1, 0, 0, 0, 20, 5, 3, 0, 4, 0, 0, 0, 0, 0, 0, 0, 0, 0, 0, 0], 63, 7,
      pkt1 511 0x40 [0, 0x10, 0, 0, 1, 0, 0, 0, 20, 5, 3, 0, 4, 0, 0, 0, 0, 0, 0, 0, 0, 0, 0, 0], by decide⟩,
    ⟨withPkt State.reset 8 0x40 [0, 0x10, 0, 0, 1, 0, 0, 0, 7, 5, 3, 0, 4, 0, 0, 0, 0, 0, 0, 0, 0, 0, 0, 0], 1, 0, pkt1 8
      0x40 [0, 0x10, 0, 0, 1, 0, 0, 0, 7, 5, 3, 0, 4, 0, 0, 0, 0, 0, 0, 0, 0, 0, 0, 0], by decide⟩⟩

theorem witness_CaptureRecordsAndDumps_1 :
    (∃ (s : State), (s.capSt = 4 ∨ (s.capSt = 0 ∧ s.capChannels ≠ []))) ∧
    (∃ (s : State), (s.capSt = 1 ∨ s.capSt = 2 ∨ s.capSt = 3 ∨ (s.capSt = 0 ∧ s.capChannels = []))) ∧
    (∃ (s : State), s.cmd.inflight = [] ∧ (s.capSt = 1 ∨ s.capSt = 2)) ∧
    (∃ (s : State), s.capSt = 1 ∧ 64 ≤ s.tlm.cap.inst.length ∧ s.tlm.cap.trigAt = none ∧ s.tlm.cap.blocks = []) ∧
    (∃ (s : State), s.tlm.cap.inst.length < 64) ∧
    (∃ (s : State), s.capSt = 1 ∧ s.tlm.cap.trigTime ≠ none) ∧
    (∃ (s : State), s.capSt = 2 ∧ s.tlm.cap.trigAt = none ∧ s.tlm.cap.postLeft = 0) ∧
    (∃ (s : State), s.capSt = 3 ∧ 1 < s.tlm.cap.dumpLeft ∧ s.tlm.cap.issued = true) :=
  ⟨⟨mk [(.TLM_CAP_CH_KIND, 7, 4)], by decide⟩,
    ⟨State.reset, by decide⟩,
    ⟨mk [(.TLM_CAP_CTRL_ARM, 0, 1), (.TLM_CAP_STATUS_STATE, 0, 2)], by decide⟩,
    ⟨{ mk [(.TLM_CAP_STATUS_STATE, 0, 1), (.TLM_CAP_CH_KIND, 0, 2)] with
        tlm := { State.reset.tlm with cap := { CapState.reset with inst := List.replicate 65 (0, false, []) } } }, by
      decide⟩,
    ⟨State.reset, by decide⟩,
    ⟨{ mk [(.TLM_CAP_STATUS_STATE, 0, 1), (.TLM_CAP_CTRL_POST, 0, 9)] with
        tlm := { State.reset.tlm with cap := { CapState.reset with trigTime := some 6 } } }, by decide⟩,
    ⟨mk [(.TLM_CAP_STATUS_STATE, 0, 2)], by decide⟩,
    ⟨{ mk [(.TLM_CAP_STATUS_STATE, 0, 3)] with
        tlm := { State.reset.tlm with cap := { CapState.reset with dumpLeft := 1024, issued := true } } }, by decide⟩⟩

theorem witness_CaptureRecordsAndDumps_2 :
    (∃ (s : State), s.capSt = 3 ∧ s.tlm.cap.dumpLeft = 1 ∧ s.tlm.cap.issued = true) ∧
    (∃ (s : State) (k : Nat) (f : InFlight), s.cmd.inflight = [(k, f)] ∧ f.phase = .pending ∧ f.pkt.op = 0x41 ∧ s.capSt =
      1) ∧
    (∃ (s : State) (set slot : Nat) (p : Packet), set < 64 ∧ slot < 8 ∧ s.ready (8 * set + slot) 0x41 = some p ∧ firstBad
      ([7, 0, 255, 1, 255, 3, 255, 255, 0, 240] ++ whole 14 ++ (List.replicate 8 [255, 7, 7, 0]).flatten) p.payload =
      none ∧ s.capSt = 0 ∧ (List.range 8).any (fun c => decide (1 ≤ leAt p.payload (26 + 4 * c) 1 ∧ leAt p.payload (26 +
      4 * c) 1 ≤ 4)) = true) :=
  ⟨⟨{ mk [(.TLM_CAP_STATUS_STATE, 0, 3)] with
        tlm := { State.reset.tlm with cap := { CapState.reset with dumpLeft := 1, issued := true } } }, by decide⟩,
    ⟨{ mk [(.TLM_CAP_STATUS_STATE, 0, 1)] with
        cmd := { State.reset.cmd with inflight := [(8, flight 8 0x41 [] .pending)] } }, 8, flight 8 0x41 [] .pending, by
      decide⟩,
    ⟨withPkt State.reset 15 0x41 ([1, 0, 0, 0, 255, 3] ++ List.replicate 20 0 ++ [4] ++ List.replicate 29 0), 1, 7, pkt1
      15 0x41 ([1, 0, 0, 0, 255, 3] ++ List.replicate 20 0 ++ [4] ++ List.replicate 29 0), by decide⟩⟩

theorem witness_PartnersComeAndGo_1 :
    (∃ (s : State) (init set slot word : Nat), 1 ≤ set ∧ set < 64 ∧ slot < 8 ∧ (s.partSt set = 0 ∨ s.getF
      .CMD_PART_ID_INITIATOR set ≠ init)) ∧
    (∃ (s : State) (init set slot word : Nat), 1 ≤ set ∧ set < 64 ∧ slot < 8 ∧ s.partSt set ≠ 0 ∧ s.getF
      .CMD_PART_ID_INITIATOR set = init ∧ bitOf (s.getF .CMD_PART_SLOTS_BUSY set) slot = true) ∧
    (∃ (s : State) (init set slot word : Nat), 1 ≤ set ∧ set < 64 ∧ slot < 8 ∧ s.partSt set ≠ 0 ∧ s.getF
      .CMD_PART_ID_INITIATOR set = init ∧ bitOf (s.getF .CMD_PART_SLOTS_BUSY set) slot = false) ∧
    (∃ (s : State) (init set slot : Nat), 1 ≤ set ∧ set < 64 ∧ slot < 8 ∧ s.partSt set ≠ 0 ∧ s.getF
      .CMD_PART_ID_INITIATOR set = init) ∧
    (∃ (s : State) (init set slot : Nat), 1 ≤ set ∧ set < 64 ∧ slot < 8 ∧ (s.partSt set = 0 ∨ s.getF
      .CMD_PART_ID_INITIATOR set ≠ init)) ∧
    (∃ (s : State) (init slot : Nat), slot < 8 ∧ init ≠ 0x100 ∧ Tbl.get 0x100 s.cmd.latch slot = init ∧ s.cmd.readBack =
      [slot]) ∧
    (∃ (s : State) (slot : Nat), slot < 8 ∧ s.cmd.readBack.contains slot = true) ∧
    (∃ (s : State) (set slot : Nat) (f : InFlight), s.slotPkt (8 * set + slot) = some f ∧ f.phase = .queued ∧ s.cpSt 0 =
      2 ∧ s.cmd.inflight = [(8 * set + slot, f)] ∧ opCp1 f.pkt.op = false) :=
  ⟨⟨State.reset, 0xF0, 63, 7, 5, by decide⟩,
    ⟨mk [(.CMD_PART_ID_STATE, 63, 1), (.CMD_PART_ID_INITIATOR, 63, 0xF0), (.CMD_PART_SLOTS_BUSY, 63, 128)], 0xF0, 63, 7,
      5, by decide⟩,
    ⟨mk [(.CMD_PART_ID_STATE, 63, 1), (.CMD_PART_ID_INITIATOR, 63, 0xF0)], 0xF0, 63, 7, 0x100000005, by decide⟩,
    ⟨{ mk [(.CMD_PART_ID_STATE, 63, 1), (.CMD_PART_ID_INITIATOR, 63, 0xF0)] with
        cmd := { State.reset.cmd with replyMem := [(64 * 511 + 1, 8 * 65536 + 7), (64 * 511 + 5, 99)] } }, 0xF0, 63, 7,
      by decide⟩,
    ⟨State.reset, 0xF0, 63, 7, by decide⟩,
    ⟨{ State.reset with cmd := { State.reset.cmd with latch := [(7, 0xF0)], readBack := [7] } }, 0xF0, 7, by decide⟩,
    ⟨{ State.reset with cmd := { State.reset.cmd with latch := [(7, 0xF0)], readBack := [7] } }, 7, by decide⟩,
    ⟨withFlight (mk [(.GLB_CP_STATUS_STATE, 0, 2)]) 8 0x70 [] .queued, 1, 0, flight 8 0x70 [] .queued, by decide⟩⟩

theorem witness_PartnersComeAndGo_2 :
    (∃ (s : State) (set slot : Nat) (f : InFlight), s.slotPkt (8 * set + slot) = some f ∧ f.phase = .queued ∧ s.cpSt 0 =
      2 ∧ s.cpSt 1 = 2 ∧ s.cmd.inflight = [(8 * set + slot, f)] ∧ opCp1 f.pkt.op = true) ∧
    (∃ (s : State) (slot q : Nat) (p : Packet), slot < 8 ∧ s.ready slot 0x01 = some p ∧ firstBad ([255, 255, 3, 0] ++
      whole 4) p.payload = none ∧ 2 ≤ leAt p.payload 0 2 ∧ leAt p.payload 0 2 ≤ 60 ∧ s.initClass p.init ≠ 0 ∧
      ((List.range 64).drop 1).find? (fun q => decide (s.partSt q = 0)) = some q) ∧
    (∃ (s : State) (set slot : Nat) (p : Packet), set < 64 ∧ slot < 8 ∧ s.ready (8 * set + slot) 0x02 = some p) ∧
    (∃ (s : State) (set slot : Nat) (p : Packet), 1 ≤ set ∧ set < 64 ∧ slot < 8 ∧ s.ready (8 * set + slot) 0x03 = some p) ∧
    (∃ (s : State) (set : Nat), set < 64 ∧ s.partSt set = 1) ∧
    (∃ (s : State) (set : Nat), set < 64 ∧ s.partSt set = 2) ∧
    (∃ (s : State) (set : Nat), s.partSt set ≠ 2) ∧
    (∃ (s : State) (set : Nat), set < 64 ∧ s.partSt set = 3) :=
  ⟨⟨withFlight (mk [(.GLB_CP_STATUS_STATE, 0, 2), (.GLB_CP_STATUS_STATE, 1, 2)]) 8 0x10 [1, 0, 0, 0] .queued, 1, 0,
      flight 8 0x10 [1, 0, 0, 0] .queued, by decide⟩,
    ⟨withPkt (mk [(.CMD_PRIV_CLASS, 30, 5)]) 7 0x01 [60, 0, 3, 0, 0, 0, 0, 0], 7, 1, pkt1 7 0x01 [60, 0, 3, 0, 0, 0, 0,
      0], by decide⟩,
    ⟨(withPkt (mk [(.CMD_PART_LEASE_LEASE_S, 1, 60)]) 8 0x02 []).setPartner 1 { Partner.empty with last := 5 }, 1, 0,
      pkt1 8 0x02 [], by decide⟩,
    ⟨withPkt (mk [(.CMD_PART_ID_STATE, 63, 1)]) 511 0x03 [], 63, 7, pkt1 511 0x03 [], by decide⟩,
    ⟨mk [(.CMD_PART_ID_STATE, 63, 1)], 63, by decide⟩,
    ⟨mk [(.CMD_PART_ID_STATE, 63, 2)], 63, by decide⟩,
    ⟨mk [(.CMD_PART_ID_STATE, 63, 1)], 63, by decide⟩,
    ⟨mk [(.CMD_PART_ID_STATE, 63, 3), (.CMD_PART_ID_INITIATOR, 63, 7)], 63, by decide⟩⟩

theorem witness_PacketsSetPointsAndUnits_1 :
    (∃ (s : State) (set slot : Nat) (f : InFlight), s.slotPkt (8 * set + slot) = some f ∧ f.pkt.op = 0x10 ∧ f.phase =
      .boxed ∧ s.cpSt 1 = 2 ∧ firstBad [7, 0, 0, 0] f.pkt.payload = none ∧ s.cmd.runs = []) ∧
    (∃ (s : State) (set slot : Nat) (f : InFlight), s.slotPkt (8 * set + slot) = some f ∧ f.pkt.op = 0x10 ∧ f.phase =
      .boxed ∧ s.cpSt 1 = 2 ∧ firstBad [7, 0, 0, 0] f.pkt.payload ≠ none) ∧
    (∃ (s : State) (set slot c : Nat) (p : Packet), set < 64 ∧ slot < 8 ∧ s.ready (8 * set + slot) 0x11 = some p ∧
      firstBad ([7, 63, 31, 0] ++ whole 4) p.payload = none ∧ leAt p.payload 0 1 = c) ∧
    (∃ (s : State) (set slot : Nat) (f : InFlight), s.slotPkt (8 * set + slot) = some f ∧ slot < 8 ∧ f.pkt.op = 0x12 ∧
      f.phase = .boxed ∧ s.cpSt 1 = 2 ∧ firstBad [255, 255, 255, 0, 255, 255, 0, 0] f.pkt.payload = none ∧ s.cmd.standing
      = []) ∧
    (∃ (s : State) (set slot : Nat) (f : InFlight), s.slotPkt (8 * set + slot) = some f ∧ slot < 8 ∧ f.pkt.op = 0x13 ∧
      f.phase = .boxed ∧ s.cpSt 1 = 2 ∧ firstBad [1, 15, 0, 0] f.pkt.payload = none ∧ s.cmd.standing = []) ∧
    (∃ (s : State) (set slot x : Nat) (p : Packet), set < 64 ∧ slot < 8 ∧ s.ready (8 * set + slot) 0x52 = some p ∧
      firstBad [255, 255, 3, 0] p.payload = none ∧ leAt p.payload 0 2 = x ∧ leAt p.payload 2 1 = 1 ∧ x <
      s.cfg.table.tsens ∧ s.snsSt x = 1 ∧ s.snsSt (partnerOf x) = 0) ∧
    (∃ (s : State) (set slot x : Nat) (p : Packet), set < 64 ∧ slot < 8 ∧ s.ready (8 * set + slot) 0x52 = some p ∧
      firstBad [255, 255, 3, 0] p.payload = none ∧ leAt p.payload 0 2 = x ∧ leAt p.payload 2 1 = 1 ∧ x <
      s.cfg.table.tsens ∧ s.snsSt x = 1 ∧ s.snsSt (partnerOf x) ≠ 0) ∧
    (∃ (s : State) (set slot : Nat) (p : Packet), set < 64 ∧ slot < 8 ∧ s.ready (8 * set + slot) 0x60 = some p ∧
      s.adc.step = none ∧ chDefined s.cfg.table (leAt p.payload 0 1) = true ∧ firstBad (whole 4) p.payload = none ∧ leAt
      p.payload 1 1 = 1 ∧ leAt p.payload 2 2 ≤ 2048 ∧ s.calPermitted (leAt p.payload 0 1) = true) :=
  ⟨⟨withFlight (mk [(.GLB_CP_STATUS_STATE, 1, 2)]) 8 0x10 [3, 0, 0, 0] .boxed, 1, 0, flight 8 0x10 [3, 0, 0, 0] .boxed,
      by decide⟩,
    ⟨withFlight (mk [(.GLB_CP_STATUS_STATE, 1, 2)]) 8 0x10 [8, 0, 0, 0] .boxed, 1, 0, flight 8 0x10 [8, 0, 0, 0] .boxed,
      by decide⟩,
    ⟨withPkt State.reset 8 0x11 [7, 0x24, 0x1E, 0, 50, 60, 0x34, 0x12], 1, 0, 7, pkt1 8 0x11 [7, 0x24, 0x1E, 0, 50, 60,
      0x34, 0x12], by decide⟩,
    ⟨{ withFlight (mk [(.GLB_CP_STATUS_STATE, 1, 2)]) 8 0x12 [0x58, 2, 9, 0, 0, 0, 0, 0] .boxed with
        cmd := { (withFlight State.reset 8 0x12 [0x58, 2, 9, 0, 0, 0, 0, 0] .boxed).cmd with
          runs := [newRun 1 0xF0 false false 0 false none none []] } }, 1, 0, flight 8 0x12 [0x58, 2, 9, 0, 0, 0, 0, 0]
      .boxed, by decide⟩,
    ⟨withFlight (mk [(.GLB_CP_STATUS_STATE, 1, 2)]) 8 0x13 [1, 9, 0, 0] .boxed, 1, 0, flight 8 0x13 [1, 9, 0, 0] .boxed,
      by decide⟩,
    ⟨withPkt (mk [(.THM_SNS_STATE, 2911, 1)]) 8 0x52 [0x5F, 0x0B, 1, 0], 1, 0, 2911, pkt1 8 0x52 [0x5F, 0x0B, 1, 0], by
      decide⟩,
    ⟨withPkt (mk [(.THM_SNS_STATE, 2911, 1), (.THM_SNS_STATE, 2910, 1)]) 8 0x52 [0x5F, 0x0B, 1, 0], 1, 0, 2911, pkt1 8
      0x52 [0x5F, 0x0B, 1, 0], by decide⟩,
    ⟨withPkt State.reset 8 0x60 [196, 1, 0, 8], 1, 0, pkt1 8 0x60 [196, 1, 0, 8], by decide⟩⟩

theorem witness_PacketsSetPointsAndUnits_2 :
    (∃ (s : State) (set slot : Nat) (p : Packet), set < 64 ∧ slot < 8 ∧ s.ready (8 * set + slot) 0x70 = some p ∧ firstBad
      (whole 5 ++ [15, 0, 0, 255, 255, 1, 0]) p.payload = none ∧ s.herdSt = 0 ∧ leAt p.payload 4 1 = 2 ∧ roleAllowed
      s.cfg.straps.herdRole 2 = true ∧ s.freqOf 0 15 ≠ 0) ∧
    (∃ (s : State) (set slot : Nat) (p : Packet), set < 64 ∧ slot < 8 ∧ s.ready (8 * set + slot) 0x71 = some p ∧ s.herdSt
      = 0) ∧
    (∃ (s : State) (set slot d : Nat) (p : Packet), set < 64 ∧ slot < 8 ∧ s.ready (8 * set + slot) 0x80 = some p ∧
      firstBad [255, 255, 0, 0] p.payload = none ∧ leAt p.payload 0 2 = d ∧ d < s.cfg.table.domains ∧
      s.cfg.table.domClass d ≠ 4 ∧ s.domSt d = 0) ∧
    (∃ (s : State) (set slot d : Nat) (p : Packet), set < 64 ∧ slot < 8 ∧ s.ready (8 * set + slot) 0x81 = some p ∧
      firstBad [255, 255, 0, 0] p.payload = none ∧ leAt p.payload 0 2 = d ∧ d < s.cfg.table.domains ∧ s.domSt d = 5 ∧
      s.fenceAt (s.cfg.table.domClass d) < s.navail d) :=
  ⟨⟨{ withPkt (mk [(.THM_LADDER_FREQ, 15, 3000)]) 8 0x70 [7, 0, 9, 0, 2, 1, 0, 0, 0, 0, 0, 0] with
        cfg := { State.reset.cfg with straps := { State.reset.cfg.straps with herdRole := 3 } } }, 1, 0, pkt1 8 0x70 [7,
      0, 9, 0, 2, 1, 0, 0, 0, 0, 0, 0], by decide⟩,
    ⟨withPkt State.reset 8 0x71 [], 1, 0, pkt1 8 0x71 [], by decide⟩,
    ⟨withPkt State.reset 8 0x80 [3, 0, 0, 0], 1, 0, 3, pkt1 8 0x80 [3, 0, 0, 0], by decide⟩,
    ⟨withPkt (mk [(.DOM_STATUS_STATE, 3, 5)]) 8 0x81 [3, 0, 0, 0], 1, 0, 3, pkt1 8 0x81 [3, 0, 0, 0], by decide⟩⟩

theorem witness_StagedSetsBecomeRuns_1 :
    (∃ (s : State) (set slot : Nat) (p : Packet), set < 64 ∧ slot < 8 ∧ s.ready (8 * set + slot) 0x20 = some p ∧
      p.payload.length = 16 ∧ leAt p.payload 0 2 = 1 ∧ leAt p.payload 2 2 = 0 ∧ leAt p.payload 4 4 = 0x1B004 ∧ Nat.land
      (leAt p.payload 8 4) 0x07FF0000 = leAt p.payload 8 4 ∧ firstBad [255, 1, 0, 0] p.payload = none ∧ s.cmd.sets = [] ∧
      s.storeUsed < 8192) ∧
    (∃ (s : State) (set slot : Nat) (p : Packet), set < 64 ∧ slot < 8 ∧ s.ready (8 * set + slot) 0x20 = some p ∧ firstBad
      [255, 1, 0, 0] p.payload = none ∧ p.payload.length ≠ 4 + 12 * leAt p.payload 0 1) ∧
    (∃ (s : State) (init value : Nat), s.cmd.sets = [] ∧ s.storeUsed < 8192) ∧
    (∃ (s : State) (set slot : Nat) (p : Packet) (x : StagedSet), set < 64 ∧ slot < 8 ∧ s.ready (8 * set + slot) 0x21 =
      some p ∧ firstBad ([7, 0, 0, 0] ++ whole 4) p.payload = none ∧ bitOf (leAt p.payload 0 1) 2 = false ∧ s.cmd.runs =
      [] ∧ s.cmd.runState = 0 ∧ s.cpActive = false ∧ s.cmd.sets = [(p.init, x)] ∧ x.entries.length ≤ 4096) ∧
    (∃ (s : State) (set slot : Nat) (p : Packet), set < 64 ∧ slot < 8 ∧ s.ready (8 * set + slot) 0x21 = some p ∧ firstBad
      ([7, 0, 0, 0] ++ whole 4) p.payload = none ∧ bitOf (leAt p.payload 0 1) 2 = true ∧ s.cmd.runState ≠ 4) ∧
    (∃ (s : State) (init value : Nat) (x : StagedSet), bitOf value 31 = true ∧ bitOf value 28 = false ∧ s.cmd.runs = [] ∧
      s.cmd.runState = 0 ∧ s.cpActive = false ∧ s.cmd.sets = [(init, x)] ∧ x.entries.length ≤ 4096) ∧
    (∃ (s : State) (init value : Nat), bitOf value 31 = false) ∧
    (∃ (s : State) (set slot : Nat) (p : Packet) (r : Run) (rest : List Run), set < 64 ∧ slot < 8 ∧ s.ready (8 * set +
      slot) 0x22 = some p ∧ firstBad [255, 255, 0, 0] p.payload = none ∧ leAt p.payload 0 2 = 0 ∧ s.cmd.runState = 1 ∧
      s.cmd.runs = r :: rest ∧ r.abortHeld = false) :=
  ⟨⟨withPkt State.reset 8 0x20 [1, 0, 0, 0, 4, 0xB0, 1, 0, 0, 0, 0xFF, 7, 0, 0, 0x58, 2], 1, 0, pkt1 8 0x20 [1, 0, 0, 0,
      4, 0xB0, 1, 0, 0, 0, 0xFF, 7, 0, 0, 0x58, 2], by decide⟩,
    ⟨withPkt State.reset 8 0x20 [2, 0, 0, 0, 4, 0xB0, 1, 0, 0xFF, 7, 0, 0, 0x58, 2, 0, 0], 1, 0, pkt1 8 0x20 [2, 0, 0, 0,
      4, 0xB0, 1, 0, 0xFF, 7, 0, 0, 0x58, 2, 0, 0], by decide⟩,
    ⟨State.reset, 0xF0, 0x258, by decide⟩,
    ⟨{ withPkt State.reset 8 0x21 [0, 0, 0, 0, 0, 0, 0, 0] with
        cmd := { (withPkt State.reset 8 0x21 [0, 0, 0, 0, 0, 0, 0, 0]).cmd with
          sets := [(0xF0, { StagedSet.empty with
            entries := [{ off := 0x1B004, mask := 0x7FF, val := 600, item := 0 }] })] } }, 1, 0, pkt1 8 0x21 [0, 0, 0, 0,
      0, 0, 0, 0], { StagedSet.empty with entries := [{ off := 0x1B004, mask := 0x7FF, val := 600, item := 0 }] }, by
      decide⟩,
    ⟨withPkt State.reset 8 0x21 [4, 0, 0, 0, 0, 0, 0, 0], 1, 0, pkt1 8 0x21 [4, 0, 0, 0, 0, 0, 0, 0], by decide⟩,
    ⟨{ State.reset with
        cmd := { State.reset.cmd with
          sets := [(0xF0, { StagedSet.empty with
            entries := [{ off := 0x1B004, mask := 0x7FF, val := 600, item := 0 }] })] } }, 0xF0, 0xE0000000,
      { StagedSet.empty with entries := [{ off := 0x1B004, mask := 0x7FF, val := 600, item := 0 }] }, by decide⟩,
    ⟨State.reset, 0xF0, 0x60000000, by decide⟩,
    ⟨{ withPkt State.reset 8 0x22 [0, 0, 0, 0] with
        cmd := { (withPkt State.reset 8 0x22 [0, 0, 0, 0]).cmd with
          runState := 1, runs := [newRun 1 0xF0 false false 0 false none none []] } }, 1, 0, pkt1 8 0x22 [0, 0, 0, 0],
      newRun 1 0xF0 false false 0 false none none [], [], by decide⟩⟩

theorem witness_StagedSetsBecomeRuns_2 :
    (∃ (s : State) (set slot : Nat) (p : Packet), set < 64 ∧ slot < 8 ∧ s.ready (8 * set + slot) 0x22 = some p ∧ firstBad
      [255, 255, 0, 0] p.payload = none ∧ s.cmd.runState = 0 ∧ s.cmd.runs = []) ∧
    (∃ (s : State) (r : Run) (rest : List Run), s.cmd.runState = 1 ∧ s.cmd.runs = r :: rest ∧ r.abortHeld = false ∧ r.dry
      = false ∧ r.epochs ≠ [] ∧ s.validate r = none) ∧
    (∃ (s : State) (r : Run) (c e : Nat), s.cmd.runState = 1 ∧ s.cmd.runs = [r] ∧ r.abortHeld = false ∧ s.validate r =
      some (c, e)) ∧
    (∃ (s : State) (r : Run), s.cmd.runState = 1 ∧ s.cmd.runs = [r] ∧ r.abortHeld = false ∧ r.dry = true ∧ s.validate r =
      none ∧ s.cmd.sets = [] ∧ r.entries ≠ []) ∧
    (∃ (s : State) (r : Run) (j : List JournalLine) (p : Piece), s.cmd.runState = 2 ∧ s.cmd.runs = [r] ∧ r.barred = false
      ∧ r.abortHeld = false ∧ r.journal = [j] ∧ r.epochs = [[p]] ∧ p.fld = .DOM_EST_CFG_DIS_MS ∧ p.item = 0) ∧
    (∃ (s : State) (r : Run), s.cmd.runState = 2 ∧ s.cmd.runs = [r] ∧ r.barred = true ∧ s.cpActive = true) ∧
    (∃ (s : State) (r : Run), s.cmd.runState = 3 ∧ s.cmd.runs = [r] ∧ r.epochs.length ≤ r.journal.length ∧ s.settled r =
      true) ∧
    (∃ (s : State) (r : Run) (rest : List Run), s.cmd.runState = 3 ∧ s.cmd.runs = r :: rest ∧ r.journal.length <
      r.epochs.length ∧ s.settled r = true) :=
  ⟨⟨withPkt State.reset 8 0x22 [0, 0, 0, 0], 1, 0, pkt1 8 0x22 [0, 0, 0, 0], by decide⟩,
    ⟨{ State.reset with
        cmd := { State.reset.cmd with
          runState := 1, runs := [{ newRun 1 0xF0 false false 0 false none none [] with
            epochs := [[{ entry := 0, fld := .DOM_EST_CFG_DIS_MS, item := 0, mask := 255, val := 9 }]] }] } }, { newRun 1
                                                                                                                 0xF0
                                                                                                                 false
                                                                                                                 false 0
                                                                                                                 false
                                                                                                                 none
                                                                                                                 none []
                                                                                                                 with
        epochs := [[{ entry := 0, fld := .DOM_EST_CFG_DIS_MS, item := 0, mask := 255, val := 9 }]] }, [], by decide⟩,
    ⟨{ State.reset with
        cmd := { State.reset.cmd with runState := 1, runs := [newRun 1 0xF0 false false 9 false none none []] } }, newRun
      1 0xF0 false false 9 false none none [], 6, 0xFFFFFFFF, by decide⟩,
    ⟨{ State.reset with
        cmd := { State.reset.cmd with
          runState := 1, runs := [{ newRun 1 0xF0 false true 0 false none none [] with
            entries := [{ off := 0x1B004, mask := 0x7FF, val := 600, item := 0 }] }] } }, { newRun 1 0xF0 false true 0
                                                                                            false none none [] with
        entries := [{ off := 0x1B004, mask := 0x7FF, val := 600, item := 0 }] }, by decide⟩,
    ⟨{ State.reset with
        cmd := { State.reset.cmd with
          runState := 2, runs := [{ newRun 1 0xF0 false false 0 false none none [] with
            epochs := [[{ entry := 0, fld := .DOM_EST_CFG_DIS_MS, item := 0, mask := 255, val := 9 }]], journal := [[]]
            }] } }, { newRun 1 0xF0 false false 0 false none none [] with
        epochs := [[{ entry := 0, fld := .DOM_EST_CFG_DIS_MS, item := 0, mask := 255, val := 9 }]], journal := [[]] },
      [], { entry := 0, fld := .DOM_EST_CFG_DIS_MS, item := 0, mask := 255, val := 9 }, by decide⟩,
    ⟨{ mk [(.GLB_RST_STATUS_CP_ACTIVE, 0, 1)] with
        cmd := { State.reset.cmd with
          runState := 2, runs := [{ newRun 1 0xF0 false false 0 false none none [] with barred := true }] } },
      { newRun 1 0xF0 false false 0 false none none [] with barred := true }, by decide⟩,
    ⟨{ State.reset with
        time := 3000, cmd := { State.reset.cmd with
          runState := 3, runs := [{ newRun 1 0xF0 false false 0 false none none [] with
            epochs := [[]], journal := [[]] }] } },
      { newRun 1 0xF0 false false 0 false none none [] with epochs := [[]], journal := [[]] }, by decide⟩,
    ⟨{ State.reset with
        time := 3000, cmd := { State.reset.cmd with
          runState := 3, runs := [{ newRun 1 0xF0 false false 0 false none none [] with
            epochs := [[], []], journal := [[]] }] } },
      { newRun 1 0xF0 false false 0 false none none [] with epochs := [[], []], journal := [[]] }, [], by decide⟩⟩

theorem witness_StagedSetsBecomeRuns_3 :
    (∃ (s : State) (r : Run), s.cmd.runState = 3 ∧ s.cmd.runs = [r] ∧ s.settled r = false) ∧
    (∃ (s : State) (r : Run), s.cmd.runState = 3 ∧ s.cmd.runs = [r] ∧ s.since r.appliedAt < s.settleLimit) ∧
    (∃ (s : State) (r : Run) (rest : List Run), s.cmd.runState = 3 ∧ s.cmd.runs = r :: rest ∧ s.settleLimit ≤ s.since
      r.appliedAt) :=
  ⟨⟨{ State.reset with
        time := 2999, cmd := { State.reset.cmd with
          runState := 3, runs := [{ newRun 1 0xF0 false false 0 false none none [] with
            epochs := [[]], journal := [[]] }] } },
      { newRun 1 0xF0 false false 0 false none none [] with epochs := [[]], journal := [[]] }, by decide⟩,
    ⟨{ State.reset with
        time := 9999, cmd := { State.reset.cmd with
          runState := 3, runs := [{ newRun 1 0xF0 false false 0 false none none [] with
            epochs := [[]], journal := [[]] }] } },
      { newRun 1 0xF0 false false 0 false none none [] with epochs := [[]], journal := [[]] }, by decide⟩,
    ⟨{ mk [(.CMD_CTRL_EPOCH_SETTLE, 0, 9)] with
        time := 60000, cmd := { State.reset.cmd with
          runState := 3, runs := [{ newRun 1 0xF0 false false 0 false none none [] with
            epochs := [[]], journal := [[]] }] } },
      { newRun 1 0xF0 false false 0 false none none [] with epochs := [[]], journal := [[]] }, [], by decide⟩⟩

theorem witness_ImagesLoadAndProcessorsRun_1 :
    (∃ (s : State) (set slot b : Nat) (p : Packet), set < 64 ∧ slot < 8 ∧ s.ready (8 * set + slot) 0x30 = some p ∧
      firstBad ([3, 0, 0, 0] ++ whole 4) p.payload = none ∧ bitOf (leAt p.payload 0 1) 0 = true ∧ bitOf (leAt p.payload 0
      1) 1 = false ∧ leAt p.payload 4 4 = 0 ∧ s.loadTarget = some b ∧ s.isSet .GLB_FW_LOAD_ACTIVE 0 = false ∧ s.cpSt 0 ≠
      1 ∧ s.bankSt b ≠ 3 ∧ s.fw.verify = none ∧ s.crcSt 0 ≠ 3 ∧ s.isSet .CRC_LEASE_HELD 0 = false ∧ s.getF
      .CRC_STATUS_DUTY 0 = 0 ∧ crc32c ((p.payload.drop 8).take ((p.payload.drop 8).length - 4)) = leAt (p.payload.drop 8)
      ((p.payload.drop 8).length - 4) 4) ∧
    (∃ (s : State) (k : Nat), s.fw.verify = some k ∧ s.isSet .GLB_FW_LOAD_ACTIVE 0 = true) ∧
    (∃ (s : State), s.fw.verify = none ∧ s.isSet .GLB_FW_LOAD_ACTIVE 0 = true) ∧
    (∃ (s : State), s.fw.verify = none ∧ s.isSet .GLB_FW_LOAD_ACTIVE 0 = false) ∧
    (∃ (s : State) (set slot : Nat) (p : Packet), set < 64 ∧ slot < 8 ∧ s.ready (8 * set + slot) 0x31 = some p ∧ firstBad
      [15, 0, 255, 255] p.payload = none ∧ leAt p.payload 0 1 = 15 ∧ s.bankSt 0 = 2 ∧ s.fw.act = none ∧ s.interlock =
      true) ∧
    (∃ (s : State) (set slot : Nat) (p : Packet), set < 64 ∧ slot < 8 ∧ s.ready (8 * set + slot) 0x31 = some p ∧ firstBad
      [15, 0, 255, 255] p.payload = none ∧ leAt p.payload 0 1 = 8 ∧ s.bankSt 0 = 2 ∧ s.fw.act = none ∧ s.interlock =
      false ∧ s.cpSt 0 = 0 ∧ s.cpSt 1 = 0 ∧ s.cpSt 2 = 0 ∧ s.cpSt 3 = 0) ∧
    (∃ (s : State) (set slot : Nat) (p : Packet), set < 64 ∧ slot < 8 ∧ s.ready (8 * set + slot) 0x32 = some p) ∧
    (∃ (s : State), s.isSet .GLB_FW_IL_SET 0 = true ∧ s.ilBits.any id = false ∧ s.fw.act = none) :=
  ⟨⟨withPkt (mk [(.CRC_LEASE_HELD, 0, 0), (.CRC_STATUS_DUTY, 0, 0)]) 8 0x30 ([1, 0, 0, 0, 0, 0, 0, 0] ++ [1, 2, 3, 4] ++
      leBytes 4 (crc32c [1, 2, 3, 4])), 1, 0, 0, pkt1 8 0x30 ([1, 0, 0, 0, 0, 0, 0, 0] ++ [1, 2, 3, 4] ++ leBytes 4
      (crc32c [1, 2, 3, 4])), by decide⟩,
    ⟨{ mk [(.GLB_FW_LOAD_ACTIVE, 0, 1), (.GLB_FW_IMG_STATE, 0, 1)] with fw := { State.reset.fw with verify := some 8 } },
      8, by decide⟩,
    ⟨mk [(.GLB_FW_LOAD_ACTIVE, 0, 1), (.GLB_FW_IMG_STATE, 0, 1), (.GLB_FW_IMG_BYTES, 0, 100)], by decide⟩,
    ⟨State.reset, by decide⟩,
    ⟨withPkt (mk [(.GLB_FW_IMG_STATE, 0, 2), (.GLB_FW_IL_SET, 0, 1)]) 8 0x31 [15, 0, 0, 0], 1, 0, pkt1 8 0x31 [15, 0, 0,
      0], by decide⟩,
    ⟨withPkt (mk [(.GLB_FW_IMG_STATE, 0, 2)]) 8 0x31 [8, 0, 0, 0], 1, 0, pkt1 8 0x31 [8, 0, 0, 0], by decide⟩,
    ⟨withPkt State.reset 8 0x32 [], 1, 0, pkt1 8 0x32 [], by decide⟩,
    ⟨mk [(.GLB_FW_IL_SET, 0, 1)], by decide⟩⟩

theorem witness_ImagesLoadAndProcessorsRun_2 :
    (∃ (s : State) (a : Activation), s.fw.act = some a ∧ a.begun = false ∧ s.interlock = true) ∧
    (∃ (s : State) (cp : Nat) (a : Activation), cp < 4 ∧ s.fw.act = some a ∧ a.begun = true ∧ a.left = [cp] ∧ s.cpSt cp =
      2) ∧
    (∃ (s : State) (cp : Nat), cp < 4 ∧ s.cpSt cp = 1 ∧ s.isSet .GLB_FW_IMG_DAMAGED (s.getF .GLB_CP_STATUS_BANK cp) =
      false ∧ s.fw.act = none) ∧
    (∃ (s : State) (cp : Nat), cp < 4 ∧ s.cpSt cp = 1 ∧ s.fw.act = none) :=
  ⟨⟨{ mk [(.GLB_FW_IMG_STATE, 1, 3), (.GLB_FW_IL_SET, 0, 1)] with
        fw := { State.reset.fw with act := some { slots := [8], mask := 15, bank := 1, left := [], begun := false } } },
      { slots := [8], mask := 15, bank := 1, left := [], begun := false }, by decide⟩,
    ⟨{ mk [(.GLB_FW_IMG_STATE, 1, 3), (.GLB_CP_STATUS_STATE, 3, 2)] with
        fw := { State.reset.fw with act := some { slots := [8], mask := 8, bank := 1, left := [3], begun := true } } },
      3, { slots := [8], mask := 8, bank := 1, left := [3], begun := true }, by decide⟩,
    ⟨{ mk [(.GLB_FW_IMG_STATE, 0, 4), (.GLB_CP_STATUS_STATE, 3, 1)] with time := 77 }, 3, by decide⟩,
    ⟨mk [(.GLB_FW_IMG_STATE, 0, 4), (.GLB_CP_STATUS_STATE, 3, 1)], 3, by decide⟩⟩

theorem witness_ProcessorsCrashAndAreWatched_1 :
    (∃ (s : State) (cp cause addr comp : Nat), cp < 4 ∧ s.cpSt cp = 2 ∧ ((cause = 1 ∧ s.mayDeny cp comp addr = true) ∨
      cause = 3 ∨ cause = 4) ∧ (Tbl.get [] s.fw.crashes cp).filter (fun t => decide (s.time < t + 6000000000)) = [] ∧ 2 ≤
      s.getF .GLB_FW_CTRL_CRASH_LIMIT 0) ∧
    (∃ (s : State) (cp cause addr comp : Nat), cp < 4 ∧ s.cpSt cp = 2 ∧ ((cause = 1 ∧ s.mayDeny cp comp addr = true) ∨
      cause = 3 ∨ cause = 4) ∧ s.getF .GLB_FW_CTRL_CRASH_LIMIT 0 ≤ 1) ∧
    (∃ (s : State) (cp : Nat), cp < 4 ∧ s.cpSt cp = 2 ∧ (Tbl.get [] s.fw.crashes cp).filter (fun t => decide (s.time < t
      + 6000000000)) = [] ∧ 2 ≤ s.getF .GLB_FW_CTRL_CRASH_LIMIT 0 ∧ 100000 * max 1 (s.getF .GLB_CP_WDT_WDT_MS cp) ≤
      s.since (Tbl.get 0 s.fw.kicks cp)) ∧
    (∃ (s : State) (cp : Nat), s.since (Tbl.get 0 s.fw.kicks cp) < 100000 * max 1 (s.getF .GLB_CP_WDT_WDT_MS cp)) ∧
    (∃ (s : State) (cp : Nat), cp < 4) ∧
    (∃ (s : State) (init cp : Nat), cp < 4 ∧ init ≠ 0xF0 + cp) ∧
    (∃ (s : State) (b : Nat), b < 2 ∧ s.bankSt b = 4) ∧
    (∃ (s : State) (c : Nat), c < 4) :=
  ⟨⟨mk [(.GLB_CP_STATUS_STATE, 3, 2), (.GLB_FW_CTRL_CRASH_LIMIT, 0, 3)], 3, 4, 0x1234, 2, by decide⟩,
    ⟨mk [(.GLB_CP_STATUS_STATE, 3, 2), (.GLB_FW_CTRL_CRASH_LIMIT, 0, 0)], 3, 4, 0x1234, 2, by decide⟩,
    ⟨{ mk [(.GLB_CP_STATUS_STATE, 3, 2), (.GLB_FW_CTRL_CRASH_LIMIT, 0, 3), (.GLB_CP_WDT_WDT_MS, 3, 2)] with
        time := 300000, fw := { State.reset.fw with kicks := [(3, 100000)] } }, 3, by decide⟩,
    ⟨{ mk [(.GLB_CP_STATUS_STATE, 3, 2), (.GLB_CP_WDT_WDT_MS, 3, 2)] with
        time := 299999, fw := { State.reset.fw with kicks := [(3, 100000)] } }, 3, by decide⟩,
    ⟨State.reset, 3, by decide⟩,
    ⟨State.reset, 5, 3, by decide⟩,
    ⟨mk [(.GLB_FW_IMG_STATE, 1, 4)], 1, by decide⟩,
    ⟨State.reset, 3, by decide⟩⟩

theorem witness_ProcessorsCrashAndAreWatched_2 :
    (∃ (s : State), s.cpSt 0 ≠ 2 ∧ s.cpSt 1 ≠ 2 ∧ s.cpSt 2 ≠ 2) ∧
    (∃ (s : State), s.cpSt 0 = 2 ∧ s.cpSt 1 ≠ 2 ∧ s.cpSt 2 ≠ 2) ∧
    (∃ (s : State) (slot : Nat) (f : InFlight), s.slotPkt slot = some f ∧ f.phase = .boxed) ∧
    (∃ (s : State) (init : Nat), s.cfg.straps.testEn = 0) ∧
    (∃ (s : State) (init : Nat), s.cfg.straps.testEn ≠ 0 ∧ s.getF .GLB_FW_DBG_SEL_BANK 0 < 4 ∧ s.cpSt (s.getF
      .GLB_FW_DBG_SEL_BANK 0) = 2) ∧
    (∃ (s : State) (init : Nat), s.cfg.straps.testEn ≠ 0 ∧ s.getF .GLB_FW_DBG_SEL_BANK 0 < 4 ∧ s.cpSt (s.getF
      .GLB_FW_DBG_SEL_BANK 0) = 5) ∧
    (∃ (s : State) (init : Nat), s.cfg.straps.testEn ≠ 0 ∧ s.getF .GLB_FW_DBG_SEL_BANK 0 < 4 ∧ s.cpSt (s.getF
      .GLB_FW_DBG_SEL_BANK 0) = 5) ∧
    (∃ (s : State) (init off value : Nat), s.cfg.straps.testEn ≠ 0 ∧ 0x80000 ≤ off ∧ off < 0xC0000) :=
  ⟨⟨State.reset, by decide⟩,
    ⟨mk [(.GLB_CP_STATUS_STATE, 0, 2)], by decide⟩,
    ⟨withFlight State.reset 8 0x10 [1, 0, 0, 0] .boxed, 8, flight 8 0x10 [1, 0, 0, 0] .boxed, by decide⟩,
    ⟨State.reset, 5, by decide⟩,
    ⟨{ mk [(.GLB_CP_STATUS_STATE, 0, 2)] with
        cfg := { State.reset.cfg with straps := { State.reset.cfg.straps with testEn := 1 } } }, 5, by decide⟩,
    ⟨{ mk [(.GLB_CP_STATUS_STATE, 0, 5)] with
        cfg := { State.reset.cfg with straps := { State.reset.cfg.straps with testEn := 1 } } }, 5, by decide⟩,
    ⟨{ mk [(.GLB_CP_STATUS_STATE, 0, 5)] with
        cfg := { State.reset.cfg with straps := { State.reset.cfg.straps with testEn := 1 } } }, 5, by decide⟩,
    ⟨{ State.reset with cfg := { State.reset.cfg with straps := { State.reset.cfg.straps with testEn := 1 } } }, 5,
      0xBFFFC, 0x123456789, by decide⟩⟩

theorem witness_ProcessorsCrashAndAreWatched_3 :
    (∃ (s : State) (init off value : Nat), s.cfg.straps.testEn = 0 ∧ 0x80000 ≤ off ∧ off ≤ 0xC000C) :=
  ⟨State.reset, 5, 0xC000C, 7, by decide⟩

theorem witness_FaultsAreTakenAndRecorded_1 :
    (∃ (s : State) (x : Raise) (rest : List Raise), s.raiseQ = x :: rest ∧ x.cls = 2 ∧ x.code < 16 ∧ s.srcSt x.key = 0 ∧
      (s.getF .FLT_CTRL2_REC_THR 0 = 0 ∨ s.getF .FLT_SRC_REC_COUNT x.key < s.getF .FLT_CTRL2_REC_THR 0)) ∧
    (∃ (s : State) (x : Raise) (rest : List Raise), s.raiseQ = x :: rest ∧ x.cls = 2 ∧ x.code < 16 ∧ s.srcSt x.key = 0 ∧
      0 < s.getF .FLT_CTRL2_REC_THR 0 ∧ s.getF .FLT_CTRL2_REC_THR 0 ≤ s.getF .FLT_SRC_REC_COUNT x.key) ∧
    (∃ (s : State) (x : Raise), s.raiseQ = [x] ∧ x.cls = 1 ∧ x.code < 16 ∧ s.flt.recs = [] ∧ s.isSet .FLT_FEC_INFO_VALID
      0 = false) ∧
    (∃ (s : State) (x : Raise) (r : FltRec), s.raiseQ = [x] ∧ x.cls = 1 ∧ x.code < 16 ∧ s.flt.recs = [r] ∧ r.sub = x.sub
      ∧ r.code = x.code ∧ r.index = x.index ∧ r.esc = false ∧ x.time < r.time + 100000 ∧ s.isSet .FLT_FEC_INFO_VALID 0 =
      true) ∧
    (∃ (s : State) (x : Raise), s.raiseQ = [x] ∧ x.cls = 3 ∧ x.code < 16 ∧ x.key ≠ 0x107 ∧ s.isSet .FLT_STATUS_FATAL 0 =
      false) ∧
    (∃ (s : State), s.flt.stop = false) ∧
    (∃ (s : State), s.flt.stop = true ∧ s.allDown = true ∧ s.grp 0 = 0 ∧ s.grp 1 = 0 ∧ s.grp 2 = 0 ∧ s.grp 3 = 6 ∧
      s.boot_ = 6) ∧
    (∃ (s : State) (sub code : Nat), code < 16 ∧ s.srcSt (16 * sub + code) = 1 ∧ s.windowTicks ≤ s.since (Tbl.get 0
      s.flt.pendTime (16 * sub + code))) :=
  ⟨⟨{ State.reset with
        raiseQ := [{ sub := 5, code := 3, index := 3, master := 0xFE, addr := 0, typ := 0, time := 0 }] },
      { sub := 5, code := 3, index := 3, master := 0xFE, addr := 0, typ := 0, time := 0 }, [], by decide⟩,
    ⟨{ mk [(.FLT_SRC_REC_COUNT, 83, 16)] with
        raiseQ := [{ sub := 5, code := 3, index := 3, master := 0xFE, addr := 0, typ := 0, time := 0 }] },
      { sub := 5, code := 3, index := 3, master := 0xFE, addr := 0, typ := 0, time := 0 }, [], by decide⟩,
    ⟨{ State.reset with
        raiseQ := [{ sub := 5, code := 0, index := 3, master := 0xFE, addr := 0, typ := 0, time := 0 }] },
      { sub := 5, code := 0, index := 3, master := 0xFE, addr := 0, typ := 0, time := 0 }, by decide⟩,
    ⟨{ mk [(.FLT_FEC_INFO_VALID, 0, 1)] with
        flt := { State.reset.flt with
          recs := [{ seq := 1, sub := 5, code := 0, cls := 1, esc := false, recov := false, fec := true, master := 0xFE,
                     index := 3, count := 65535, time := 0 }] }, raiseQ := [{ sub := 5, code := 0, index := 3, master :=
                                                                              0xFE, addr := 0, typ := 0, time := 99999 }]
        }, { sub := 5, code := 0, index := 3, master := 0xFE, addr := 0, typ := 0, time := 99999 }, { seq := 1, sub := 5,
                                                                                                      code := 0, cls :=
                                                                                                      1, esc := false,
                                                                                                      recov := false, fec
                                                                                                      := true, master :=
                                                                                                      0xFE, index := 3,
                                                                                                      count := 65535,
                                                                                                      time := 0 }, by
      decide⟩,
    ⟨{ mk [(.GLB_BOOT_STATUS_PWR_OK, 0, 1)] with
        raiseQ := [{ sub := 0x10, code := 2, index := 3, master := 0xFE, addr := 0, typ := 0, time := 0 }] },
      { sub := 0x10, code := 2, index := 3, master := 0xFE, addr := 0, typ := 0, time := 0 }, by decide⟩,
    ⟨State.reset, by decide⟩,
    ⟨{ mk [(.GLB_BOOT_STATUS_STATE, 0, 6), (.PHS_GRP_STATUS_STATE, 3, 6)] with
        flt := { State.reset.flt with stop := true } }, by decide⟩,
    ⟨{ mk [(.FLT_SRC_STATE, 80, 1), (.FLT_CTRL_WINDOW, 0, 0)] with
        time := 1007, flt := { State.reset.flt with pendTime := [(80, 7)] } }, 5, 0, by decide⟩⟩

theorem witness_FaultsAreTakenAndRecorded_2 :
    (∃ (s : State) (sub code : Nat), s.since (Tbl.get 0 s.flt.pendTime (16 * sub + code)) < s.windowTicks) ∧
    (∃ (s : State) (sub code : Nat), code < 16 ∧ s.srcSt (16 * sub + code) = 3 ∧ s.raiseWaits (16 * sub + code) = false ∧
      s.quietTicks ≤ s.since (Tbl.get 0 s.flt.pendTime (16 * sub + code))) ∧
    (∃ (s : State) (sub code : Nat), s.since (Tbl.get 0 s.flt.pendTime (16 * sub + code)) < s.quietTicks) ∧
    (∃ (s : State) (sub code : Nat), code < 16 ∧ s.srcSt (16 * sub + code) = 1) ∧
    (∃ (s : State) (init sub code : Nat), init ≠ 0xF2) ∧
    (∃ (s : State) (set slot : Nat) (p : Packet), set < 64 ∧ slot < 8 ∧ s.ready (8 * set + slot) 0x50 = some p ∧ firstBad
      (whole 4) p.payload = none) ∧
    (∃ (s : State) (set slot : Nat) (p : Packet), set < 64 ∧ slot < 8 ∧ s.ready (8 * set + slot) 0x51 = some p ∧ firstBad
      (whole 4) p.payload = none) ∧
    (∃ (s : State) (set slot key : Nat) (p : Packet), set < 64 ∧ slot < 8 ∧ s.ready (8 * set + slot) 0x51 = some p ∧
      firstBad (whole 4) p.payload = none ∧ s.flt.newest = [(key, 5)] ∧ 5 ≤ leAt p.payload 0 4 ∧ 5 < s.getF
      .FLT_SEQ_NEXT_SEQ 0 ∧ s.srcSt key = 2 ∧ s.raiseWaits key = false) :=
  ⟨⟨{ mk [(.FLT_SRC_STATE, 80, 1), (.FLT_CTRL_WINDOW, 0, 0)] with
        time := 1006, flt := { State.reset.flt with pendTime := [(80, 7)] } }, 5, 0, by decide⟩,
    ⟨{ mk [(.FLT_SRC_STATE, 80, 3), (.FLT_CTRL_QUIET, 0, 1)] with
        time := 1000007, flt := { State.reset.flt with pendTime := [(80, 7)] } }, 5, 0, by decide⟩,
    ⟨{ mk [(.FLT_SRC_STATE, 80, 3), (.FLT_CTRL_QUIET, 0, 1)] with
        time := 1000006, flt := { State.reset.flt with pendTime := [(80, 7)] } }, 5, 0, by decide⟩,
    ⟨mk [(.FLT_SRC_STATE, 80, 1)], 5, 0, by decide⟩,
    ⟨mk [(.FLT_SRC_STATE, 80, 1)], 0, 5, 0, by decide⟩,
    ⟨{ withPkt State.reset 8 0x50 [1, 0, 0, 0] with
        flt := { State.reset.flt with
          recs := [{ seq := 1, sub := 5, code := 3, cls := 1, esc := false, recov := false, fec := true, master := 0xFE,
                     index := 3, count := 1, time := 0 }] } }, 1, 0, pkt1 8 0x50 [1, 0, 0, 0], by decide⟩,
    ⟨withPkt (mk [(.FLT_SEQ_NEXT_SEQ, 0, 6)]) 8 0x51 [9, 0, 0, 0], 1, 0, pkt1 8 0x51 [9, 0, 0, 0], by decide⟩,
    ⟨{ withPkt (mk [(.FLT_SEQ_NEXT_SEQ, 0, 6), (.FLT_SRC_STATE, 80, 2)]) 8 0x51 [9, 0, 0, 0] with
        flt := { State.reset.flt with newest := [(80, 5)] } }, 1, 0, 80, pkt1 8 0x51 [9, 0, 0, 0], by decide⟩⟩

theorem witness_FaultsAreTakenAndRecorded_3 :
    (∃ (s : State) (init sub code : Nat), sourceClass sub code ≠ 0 ∧ s.initClass init = 5) ∧
    (∃ (s : State) (init sub code : Nat), sourceClass sub code ≠ 0 ∧ s.initClass init ≠ 5) ∧
    (∃ (s : State) (tt c : Nat), ¬ (tt % 2 = 1 - s.getF .FLT_STATUS_PAIR_ASSERT 0 ∧ c % 2 = s.getF
      .FLT_STATUS_PAIR_ASSERT 0)) ∧
    (∃ (s : State) (index : Nat), s.isSet .FLT_GOOSE_STATUS_ARMED 0 = true ∧ s.isSet .FLT_GOOSE_STATUS_TRIPPED 0 = false
      ∧ index < s.cfg.table.domains) ∧
    (∃ (s : State) (code index : Nat), code ≤ 5 ∧ s.isSet .FLT_GOOSE_STATUS_ARMED 0 = false) :=
  ⟨⟨mk [(.FLT_SRC_REC_COUNT, 80, 9)], 0, 5, 0, by decide⟩,
    ⟨mk [(.FLT_SRC_REC_COUNT, 80, 9)], 255, 5, 0, by decide⟩,
    ⟨State.reset, 1, 1, by decide⟩,
    ⟨mk [(.FLT_GOOSE_STATUS_ARMED, 0, 1)], 247, by decide⟩,
    ⟨mk [(.FLT_GOOSE_STATUS_ARMED, 0, 0)], 5, 0, by decide⟩⟩

theorem witness_AccessesReachTheirRegisters_1 :
    (∃ (s : State) (bus : Bool) (init off size value : Nat), off < 2 ^ 20 ∧ (size ≠ 4 ∨ off % 4 ≠ 0 ∨ (bus = true ∧ 0xF0
      ≤ init))) ∧
    (∃ (s : State) (bus : Bool) (init value : Nat), (bus = false ∨ init < 0xF0)) ∧
    (∃ (s : State) (init value : Nat), s.getF .DOM_EST_EVENT_STALE 0 < 2 ∧ s.getF .DOM_EST_EVENT_BOTH_INVALID 0 < 2) ∧
    (∃ (s : State) (init value : Nat), s.committed = true ∧ value % 2 ^ 32 ≠ s.getF .CMD_PRIV_CLASS 0) ∧
    (∃ (s : State) (init value : Nat), s.committed = false) ∧
    (∃ (s : State) (init off : Nat), (off < 0x20000 ∨ (0x60000 ≤ off ∧ off < 0x80000)) ∧ off % 4 = 0 ∧ off ∉ wideRegs ∧
      s.latchOf init = none) ∧
    (∃ (s : State) (init off : Nat), ((0x20000 ≤ off ∧ off < 0x40000) ∨ (0x80000 ≤ off ∧ off < 0xC0000 ∧ s.cpSt (s.getF
      .GLB_FW_DBG_SEL_BANK 0) = 2) ∨ (0x80000 ≤ off ∧ off ≤ 0xC000C ∧ s.initClass init ≠ 5)) ∧ off % 4 = 0) ∧
    (∃ (s : State) (init set slot w : Nat), 1 ≤ set ∧ set < 64 ∧ slot < 8 ∧ w < 64 ∧ (s.partSt set = 0 ∨ s.getF
      .CMD_PART_ID_INITIATOR set ≠ init)) :=
  ⟨⟨State.reset, false, 0, 0xFFFFC, 2, 0, by decide⟩,
    ⟨State.reset, true, 0xEF, 0x1FFFFFFFF, by decide⟩,
    ⟨mk [(.DOM_EST_EVENT_STALE, 0, 1), (.DOM_EST_EVENT_BOTH_INVALID, 0, 1)], 0, 4, by decide⟩,
    ⟨mk [(.GLB_BOOT_STATUS_CFG_COMMITTED, 0, 1)], 0, 4, by decide⟩,
    ⟨State.reset, 0, 0x100000004, by decide⟩,
    ⟨State.reset, 9, 0x48, by decide⟩,
    ⟨State.reset, 9, 0x3FFFC, by decide⟩,
    ⟨State.reset, 9, 63, 7, 63, by decide⟩⟩

theorem witness_AccessesReachTheirRegisters_2 :
    (∃ (s : State) (init off v : Nat), 0x80000 ≤ off ∧ off < 0xC0000 ∧ off % 4 = 0 ∧ s.initClass init = 5 ∧ s.cpSt
      (s.getF .GLB_FW_DBG_SEL_BANK 0) = 5 ∧ s.fw.sram = [(65536 * s.getF .GLB_FW_DBG_SEL_BANK 0 + (off - 0x80000) / 4,
      v)]) ∧
    (∃ (s : State) (set slot : Nat) (p : Packet), set < 64 ∧ slot < 8 ∧ s.ready (8 * set + slot) 0x90 = some p ∧ firstBad
      ([255, 255, 1, 0, 255, 255, 0, 0] ++ whole 4) p.payload = none ∧ leAt p.payload 0 1 = 5 ∧ leAt p.payload 1 1 = 1 ∧
      s.lt.runs = []) ∧
    (∃ (s : State) (set slot : Nat) (p : Packet), set < 64 ∧ slot < 8 ∧ s.ready (8 * set + slot) 0x90 = some p ∧ firstBad
      ([255, 255, 1, 0, 255, 255, 0, 0] ++ whole 4) p.payload = none ∧ 6 < leAt p.payload 0 1) ∧
    (∃ (s : State) (link bits errors k e : Nat), link < 7 ∧ s.lt.runs = [(link, (k, e))] ∧ e ≤ s.time) ∧
    (∃ (s : State) (link bits errors k e : Nat) (locked : Bool), s.lt.runs = [(link, (k, e))] ∧ s.time < e) ∧
    (∃ (s : State) (link bits errors : Nat) (locked : Bool), s.lt.runs.find? (fun p => decide (p.1 = link)) = none) :=
  ⟨⟨{ mk [(.GLB_FW_DBG_SEL_BANK, 0, 3), (.GLB_CP_STATUS_STATE, 3, 5)] with
        fw := { State.reset.fw with sram := [(65536 * 3 + 65535, 77)] } }, 9, 0xBFFFC, 77, by decide⟩,
    ⟨withPkt State.reset 8 0x90 [5, 1, 0, 0, 10, 0, 0, 0, 0, 0, 0, 0], 1, 0, pkt1 8 0x90 [5, 1, 0, 0, 10, 0, 0, 0, 0, 0,
      0, 0], by decide⟩,
    ⟨withPkt State.reset 8 0x90 [7, 1, 0, 0, 10, 0, 0, 0, 0, 0, 0, 0], 1, 0, pkt1 8 0x90 [7, 1, 0, 0, 10, 0, 0, 0, 0, 0,
      0, 0], by decide⟩,
    ⟨{ State.reset with time := 9, lt := { State.reset.lt with runs := [(6, (8, 9))] } }, 6, 20480, 3, 8, 9, by decide⟩,
    ⟨{ State.reset with time := 8, lt := { State.reset.lt with runs := [(6, (8, 9))] } }, 6, 20480, 3, 8, 9, true, by
      decide⟩,
    ⟨State.reset, 6, 20480, 3, true, by decide⟩⟩

theorem witness_BringUpAndResetMoveTheBlock_1 :
    (∃ (s : State) (straps : Straps), s.boot_ = 0) ∧
    (∃ (s : State) (straps : Straps), s.boot_ ≠ 0) ∧
    (∃ (s : State) (table : CfgTable) (fuses : Fuses), s.boot_ = 1 ∧ tableError table s.cfg.straps.phasesPop false = 0 ∧
      s.isSet .FLT_STATUS_FATAL 0 = false) ∧
    (∃ (s : State) (table : CfgTable) (fuses : Fuses) (e : Nat), s.boot_ = 1 ∧ tableError table s.cfg.straps.phasesPop
      false = e ∧ (e = 1 ∨ e = 2)) ∧
    (∃ (s : State) (table : CfgTable) (fuses : Fuses) (w : Nat), s.boot_ = 1 ∧ w < 992) ∧
    (∃ (s : State), s.boot_ = 2 ∧ s.romMode = false ∧ s.boot.flashAwake = false) ∧
    (∃ (s : State) (bytes : List Nat), s.boot_ = 2 ∧ s.romMode = false ∧ s.boot.flashAwake = true ∧ s.boot.image = none ∧
      (checkImage s.cfg.table bytes).1 = 0) ∧
    (∃ (s : State) (bytes : List Nat), s.boot_ = 2 ∧ s.romMode = false ∧ s.boot.flashAwake = true ∧ s.boot.image = none ∧
      s.boot.backup = false ∧ (checkImage s.cfg.table bytes).1 ≠ 0) :=
  ⟨⟨State.reset, { State.reset.cfg.straps with herdRole := 3, bootMode := 1 }, by decide⟩,
    ⟨mk [(.GLB_BOOT_STATUS_STATE, 0, 6)], { State.reset.cfg.straps with herdRole := 3 }, by decide⟩,
    ⟨mk [(.GLB_BOOT_STATUS_STATE, 0, 1)], State.reset.cfg.table, State.reset.cfg.fuses, by decide⟩,
    ⟨mk [(.GLB_BOOT_STATUS_STATE, 0, 1)], { State.reset.cfg.table with link := 15 }, State.reset.cfg.fuses, 2, by decide⟩,
    ⟨mk [(.GLB_BOOT_STATUS_STATE, 0, 1)], State.reset.cfg.table, State.reset.cfg.fuses, 991, by decide⟩,
    ⟨mk [(.GLB_BOOT_STATUS_STATE, 0, 2)], by decide⟩,
    ⟨{ mk [(.GLB_BOOT_STATUS_STATE, 0, 2)] with boot := { State.reset.boot with flashAwake := true } }, testImage, by
      decide⟩,
    ⟨{ mk [(.GLB_BOOT_STATUS_STATE, 0, 2)] with boot := { State.reset.boot with flashAwake := true } }, [0, 0, 0, 0], by
      decide⟩⟩

theorem witness_BringUpAndResetMoveTheBlock_2 :
    (∃ (s : State) (bytes : List Nat), s.boot_ = 2 ∧ s.romMode = false ∧ s.boot.flashAwake = true ∧ s.boot.image = none ∧
      s.boot.backup = true ∧ (checkImage s.cfg.table bytes).1 ≠ 0) ∧
    (∃ (s : State), s.boot_ = 2 ∧ s.romMode = true ∧ s.isSet .FLT_STATUS_FATAL 0 = false) ∧
    (∃ (s : State), s.boot_ = 2 ∧ s.isSet .FLT_STATUS_FATAL 0 = true ∧ s.romMode = true) ∧
    (∃ (s : State) (init : Nat), s.initClass init = 5 ∧ s.boot_ = 3) ∧
    (∃ (s : State) (init : Nat), s.initClass init ≠ 5) ∧
    (∃ (s : State) (init : Nat), s.initClass init = 5 ∧ s.boot_ = 4 ∧ 4 ≤ s.getF .GLB_BOOT_STATUS_ERR 0 ∧ s.getF
      .GLB_BOOT_STATUS_ERR 0 ≤ 7 ∧ s.isSet .FLT_STATUS_FATAL 0 = false) ∧
    (∃ (s : State) (init : Nat), s.initClass init = 5 ∧ (s.boot_ ≠ 4 ∨ s.getF .GLB_BOOT_STATUS_ERR 0 < 4 ∨ 7 < s.getF
      .GLB_BOOT_STATUS_ERR 0)) ∧
    (∃ (s : State) (init : Nat), s.initClass init = 5) :=
  ⟨⟨{ mk [(.GLB_BOOT_STATUS_STATE, 0, 2)] with boot := { State.reset.boot with flashAwake := true, backup := true } },
      [0, 0, 0, 0], by decide⟩,
    ⟨{ mk [(.GLB_BOOT_STATUS_STATE, 0, 2)] with
        cfg := { State.reset.cfg with straps := { State.reset.cfg.straps with bootMode := 2 } } }, by decide⟩,
    ⟨{ mk [(.GLB_BOOT_STATUS_STATE, 0, 2), (.FLT_STATUS_FATAL, 0, 1)] with
        cfg := { State.reset.cfg with straps := { State.reset.cfg.straps with bootMode := 2 } } }, by decide⟩,
    ⟨mk [(.GLB_BOOT_STATUS_STATE, 0, 3)], 0, by decide⟩,
    ⟨mk [(.GLB_BOOT_STATUS_STATE, 0, 3)], 0xF0, by decide⟩,
    ⟨mk [(.GLB_BOOT_STATUS_STATE, 0, 4), (.GLB_BOOT_STATUS_ERR, 0, 7)], 0, by decide⟩,
    ⟨mk [(.GLB_BOOT_STATUS_STATE, 0, 4), (.GLB_BOOT_STATUS_ERR, 0, 3)], 0, by decide⟩,
    ⟨State.reset, 0, by decide⟩⟩

theorem witness_BringUpAndResetMoveTheBlock_3 :
    (∃ (s : State), s.boot_ = 5 ∧ s.boot.blockStop = false ∧ s.isSet .FLT_STATUS_FATAL 0 = false ∧ s.lt.runs = [] ∧
      s.boot.release = 2 ∧ s.grp 2 = 0) ∧
    (∃ (s : State), s.boot_ = 5 ∧ s.boot.blockStop = false ∧ s.isSet .FLT_STATUS_FATAL 0 = false ∧ s.lt.runs = [] ∧
      s.boot.release = 3 ∧ s.grp 2 = 3 ∧ s.grp 1 = 0) ∧
    (∃ (s : State), s.boot_ = 5 ∧ s.boot.release = 3 ∧ s.grp 2 ≠ 3) ∧
    (∃ (s : State), s.boot_ = 5 ∧ s.boot.blockStop = false ∧ s.isSet .FLT_STATUS_FATAL 0 = false ∧ s.lt.runs = [] ∧
      s.boot.release = 8 ∧ s.grp 0 = 3 ∧ s.grp 1 = 3 ∧ s.grp 2 = 3 ∧ s.grp 3 = 3 ∧ s.poweredLive (fun _ => true) = true) ∧
    (∃ (s : State), s.boot_ = 5 ∧ s.boot.release < 8) :=
  ⟨⟨{ mk [(.GLB_BOOT_STATUS_STATE, 0, 5)] with boot := { State.reset.boot with release := 2 } }, by decide⟩,
    ⟨{ mk [(.GLB_BOOT_STATUS_STATE, 0, 5), (.PHS_GRP_STATUS_STATE, 2, 3)] with
        boot := { State.reset.boot with release := 3 } }, by decide⟩,
    ⟨{ mk [(.GLB_BOOT_STATUS_STATE, 0, 5), (.PHS_GRP_STATUS_STATE, 2, 2)] with
        boot := { State.reset.boot with release := 3 } }, by decide⟩,
    ⟨{ mk ([(.GLB_BOOT_STATUS_STATE, 0, 5), (.PHS_GRP_STATUS_STATE, 0, 3), (.PHS_GRP_STATUS_STATE, 1, 3),
       (.PHS_GRP_STATUS_STATE, 2, 3), (.PHS_GRP_STATUS_STATE, 3, 3)] ++ (List.range 248).map (fun d =>
       (.DOM_STATUS_STATE, d, 2))) with boot := { State.reset.boot with release := 8 } }, by decide⟩,
    ⟨{ mk [(.GLB_BOOT_STATUS_STATE, 0, 5)] with boot := { State.reset.boot with release := 4 } }, by decide⟩⟩

theorem witness_ResetsOfEachScopeAct :
    (∃ (s : State) (init : Nat), (s.initClass init = 5 ∨ s.initClass init = 4) ∧ s.boot.blockStop = false ∧ s.cpActive =
      false) ∧
    (∃ (s : State) (init : Nat), s.initClass init < 4) ∧
    (∃ (s : State) (init : Nat), s.initClass init ≠ 5) ∧
    (∃ (s : State) (init : Nat), s.initClass init = 5 ∧ s.boot.blockStop = false ∧ s.allDown = false ∧ (s.doms.all (fun d
      => decide (s.domSt d = 0 ∨ s.domSt d = 4 ∨ s.domSt d = 5)) = true)) ∧
    (∃ (s : State), s.boot.blockStop = false ∧ s.cpActive = false) ∧
    (∃ (s : State), s.cpActive = true ∧ s.cmd.runs = []) ∧
    (∃ (s : State), s.cpActive = false) :=
  ⟨⟨State.reset, 0, by decide⟩,
    ⟨State.reset, 0xF0, by decide⟩,
    ⟨State.reset, 16, by decide⟩,
    ⟨mk [(.DOM_STATUS_STATE, 3, 4)], 0, by decide⟩,
    ⟨State.reset, by decide⟩,
    ⟨mk [(.GLB_RST_STATUS_CP_ACTIVE, 0, 1)], by decide⟩,
    ⟨State.reset, by decide⟩⟩

theorem witness_FusesTimeBaseAndFabricAct_1 :
    (∃ (s : State) (init word : Nat), s.initClass init = 5 ∧ s.cfg.straps.testEn = 1 ∧ 992 ≤ word ∧ word < 1024 ∧ s.isSet
      .THM_FUSE_FUSE_OK 0 = true ∧ s.boot.progWord = none) ∧
    (∃ (s : State) (init word : Nat), s.initClass init = 5 ∧ s.isSet .THM_FUSE_FUSE_OK 0 = false) ∧
    (∃ (s : State) (init word : Nat), s.initClass init = 5 ∧ (word < 992 ∨ 1024 ≤ word ∨ s.cfg.straps.testEn = 0)) ∧
    (∃ (s : State) (w bits value : Nat), s.boot.progWord = some (w, bits)) ∧
    (∃ (s : State), s.isSet .GLB_TB_STATUS_FALLBACK 0 = false ∧ s.isSet .GLB_TB_STATUS_CAL_OK 0 = true) ∧
    (∃ (s : State), s.isSet .GLB_TB_STATUS_FALLBACK 0 = true) ∧
    (∃ (s : State), s.isSet .GLB_TB_STATUS_FALLBACK 0 = true) ∧
    (∃ (s : State), s.isSet .GLB_TB_STATUS_FALLBACK 0 = false) :=
  ⟨⟨{ mk [(.THM_FUSE_FUSE_OK, 0, 1), (.GLB_FUSE_PDATA_PDATA, 0, 5)] with
        cfg := { State.reset.cfg with straps := { State.reset.cfg.straps with testEn := 1 } } }, 0, 1023, by decide⟩,
    ⟨mk [(.THM_FUSE_FUSE_OK, 0, 0)], 0, 1023, by decide⟩,
    ⟨{ mk [(.THM_FUSE_FUSE_OK, 0, 1)] with
        cfg := { State.reset.cfg with straps := { State.reset.cfg.straps with testEn := 1 } } }, 0, 991, by decide⟩,
    ⟨{ mk [(.GLB_FUSE_STAT_PROG_BUSY, 0, 1)] with
        boot := { State.reset.boot with progWord := some (992, 5), burned := [(992, 2)] } }, 992, 5, 4, by decide⟩,
    ⟨mk [(.GLB_TB_STATUS_CAL_OK, 0, 1), (.GLB_TB_STATUS_FALLBACK, 0, 0)], by decide⟩,
    ⟨mk [(.GLB_TB_STATUS_FALLBACK, 0, 1)], by decide⟩,
    ⟨mk [(.GLB_TB_STATUS_FALLBACK, 0, 1)], by decide⟩,
    ⟨mk [(.GLB_TB_STATUS_FALLBACK, 0, 0)], by decide⟩⟩

theorem witness_FusesTimeBaseAndFabricAct_2 :
    (∃ (s : State) (sender : Nat), s.flt.treeB.contains sender = false) ∧
    (∃ (s : State) (sender : Nat), s.flt.treeB.contains sender = true) ∧
    (∃ (s : State) (d : Nat), d < s.cfg.table.domains ∧ s.domSt d = 0) ∧
    (∃ (s : State) (p : Nat), p < 4) ∧
    (∃ (s : State) (x : Nat), x < s.cfg.table.tsens ∧ s.snsSt x = 0) ∧
    (∃ (s : State) (c : Nat), s.cellIs c = true ∧ s.cellSt c ≠ 5 ∧ s.cellSt c ≠ 4) :=
  ⟨⟨{ State.reset with flt := { State.reset.flt with treeB := [6] } }, 7, by decide⟩,
    ⟨{ State.reset with flt := { State.reset.flt with treeB := [6, 7] } }, 7, by decide⟩,
    ⟨State.reset, 247, by decide⟩,
    ⟨State.reset, 3, by decide⟩,
    ⟨State.reset, 2911, by decide⟩,
    ⟨State.reset, 0, by decide⟩⟩

theorem witness_MisalignedAccessesAreRefused :
    (∃ (s : State) (bus : Bool) (init off size value : Nat), off < 2 ^ 20 ∧ (size ≠ 4 ∨ off % 4 ≠ 0)) ∧
    (∃ (s : State) (init off : Nat), off < 2 ^ 20 ∧ off % 4 ≠ 0) ∧
    (∃ (s : State) (init off typ time : Nat), s.raiseQ =
      [{ sub := 0x0F, code := 2, index := init, master := init, addr := off, typ := typ, time := time }] ∧ s.isSet
      .FLT_FEC_INFO_VALID 0 = false) :=
  ⟨⟨State.reset, true, 9, 0x44, 2, 1, by decide⟩,
    ⟨State.reset, 9, 0x12, by decide⟩,
    ⟨{ State.reset with
        raiseQ := [{ sub := 0x0F, code := 2, index := 9, master := 9, addr := 0x12, typ := 1, time := 7 }] }, 9, 0x12, 1,
      7, by decide⟩⟩

theorem witness_UnassignedOffsetsReadZero :
    (∃ (s : State) (init off : Nat), off < 2 ^ 20 ∧ off % 4 = 0 ∧ regAt off = none ∧ (off < 0x20000 ∨ 0x60000 ≤ off) ∧
      (off < 0x80000 ∨ 0xC000C < off) ∧ (∀ p ∈ s.cmd.hiLatch, p.2.1 ∈ wideRegs)) ∧
    (∃ (s : State) (bus : Bool) (init off value : Nat), off < 2 ^ 20 ∧ off % 4 = 0 ∧ regAt off = none ∧ (off < 0x20000 ∨
      0x40000 ≤ off) ∧ (off < 0x80000 ∨ 0xC000C < off) ∧ (bus = true → init < 0xF0)) :=
  ⟨⟨{ State.reset with cmd := { State.reset.cmd with hiLatch := [(9, 0x10, 5)] } }, 9, 0x5C, by decide⟩,
    ⟨State.reset, true, 9, 0x5C, 77, by decide⟩⟩

theorem witness_WideReadsAreNotTorn :
    (∃ (s : State) (init other off : Nat), off ∈ wideRegs ∧ (∀ p ∈ s.cmd.hiLatch, p.2.1 ∈ wideRegs) ∧ other ≠ init) ∧
    (∃ (s : State) (init other off w : Nat), off ∈ wideRegs ∧ s.latchOf init = some (off, w) ∧ other ≠ init) ∧
    (∃ (s : State) (init off : Nat), off ∈ wideRegs ∧ (s.latchOf init).all (fun q => decide (q.1 ≠ off ∧ q.1 ∈ wideRegs))
      = true) :=
  ⟨⟨{ State.reset with time := 0x500000007, cmd := { State.reset.cmd with hiLatch := [(9, 0x2020, 5), (8, 0x10, 4)] } },
      9, 8, 0x10, by decide⟩,
    ⟨{ State.reset with cmd := { State.reset.cmd with hiLatch := [(9, 0x10, 5), (8, 0x10, 4)] } }, 9, 8, 0x10, 5, by
      decide⟩,
    ⟨{ State.reset with time := 0x500000007, cmd := { State.reset.cmd with hiLatch := [(9, 0x2020, 5), (8, 0x10, 4)] } },
      9, 0x10, by decide⟩⟩

theorem witness_RingIndicesWrap :
    (∃ (s : State) (r : TlmRec) (rest : List TlmRec), s.tlm.queue = r :: rest ∧ (s.getF .TLM_PROD_PROD 0 + 2 ^ 32 -
      s.getF .TLM_CONS_CONS 0) % 2 ^ 32 ≠ 2 ^ clampN 8 20 (s.getF .TLM_CTRL_SIZE_LOG2 0)) ∧
    (∃ (s : State), (s.getF .TLM_PROD_PROD 0 + 2 ^ 32 - s.getF .TLM_CONS_CONS 0) % 2 ^ 32 = 2 ^ clampN 8 20 (s.getF
      .TLM_CTRL_SIZE_LOG2 0)) ∧
    (∃ (s : State) (value : Nat), (s.getF .TLM_PROD_PROD 0 + 2 ^ 32 - value % 2 ^ 32) % 2 ^ 32 ≤ 2 ^ clampN 8 20 (s.getF
      .TLM_CTRL_SIZE_LOG2 0)) ∧
    (∃ (s : State) (value : Nat), 2 ^ clampN 8 20 (s.getF .TLM_CTRL_SIZE_LOG2 0) < (s.getF .TLM_PROD_PROD 0 + 2 ^ 32 -
      value % 2 ^ 32) % 2 ^ 32) :=
  ⟨⟨{ mk [(.TLM_PROD_PROD, 0, 0xFFFFFFFF), (.TLM_CONS_CONS, 0, 0xFFFFFFFF)] with
        tlm := { State.reset.tlm with queue := [{ bytes := [64, 0], born := 0 }], lostBefore := true } },
      { bytes := [64, 0], born := 0 }, [], by decide⟩,
    ⟨{ mk [(.TLM_PROD_PROD, 0, 255), (.TLM_CONS_CONS, 0, 0xFFFFFFFF), (.TLM_CTRL_SIZE_LOG2, 0, 8)] with
        tlm := { State.reset.tlm with queue := [{ bytes := [64, 0], born := 0 }] } }, by decide⟩,
    ⟨mk [(.TLM_PROD_PROD, 0, 7)], 0xFFFFFFFF, by decide⟩,
    ⟨mk [(.TLM_PROD_PROD, 0, 7)], 8, by decide⟩⟩

theorem witness_FinishCompares :
    (∃ (s : State) (u init : Nat), u < 4 ∧ (u = 0 → s.isSet .CRC_LEASE_HELD 0 = true ∧ s.getF .CRC_LEASE_HOLDER 0 = init)
      ∧ (u ≠ 0 → s.committed = false) ∧ s.crcSt u = 1 ∧ s.isSet .CRC_CFG_CMP_EN u = true ∧ crcFinish (s.crcW u) (s.isSet
      .CRC_CFG_REFOUT u) (s.isSet .CRC_CFG_FINAL_INV u) (s.getF .CRC_VALUE_VALUE u) = s.getF .CRC_EXPECT_EXPECT u % 2 ^
      s.crcW u) ∧
    (∃ (s : State) (u init : Nat), u < 4 ∧ (u = 0 → s.isSet .CRC_LEASE_HELD 0 = true ∧ s.getF .CRC_LEASE_HOLDER 0 = init)
      ∧ (u ≠ 0 → s.committed = false) ∧ s.crcSt u = 1 ∧ s.isSet .CRC_CFG_CMP_EN u = true ∧ crcFinish (s.crcW u) (s.isSet
      .CRC_CFG_REFOUT u) (s.isSet .CRC_CFG_FINAL_INV u) (s.getF .CRC_VALUE_VALUE u) ≠ s.getF .CRC_EXPECT_EXPECT u % 2 ^
      s.crcW u) ∧
    (∃ (s : State) (u init : Nat), u < 4 ∧ (u = 0 → s.isSet .CRC_LEASE_HELD 0 = true ∧ s.getF .CRC_LEASE_HOLDER 0 = init)
      ∧ (u ≠ 0 → s.committed = false) ∧ s.crcSt u = 1 ∧ s.isSet .CRC_CFG_CMP_EN u = false) :=
  ⟨⟨mk [(.CRC_LEASE_HELD, 0, 1), (.CRC_LEASE_HOLDER, 0, 0xF1), (.CRC_STATUS_STATE, 0, 1), (.CRC_CFG_CMP_EN, 0, 1),
      (.CRC_CFG_WIDTH_M1, 0, 31), (.CRC_CFG_REFOUT, 0, 0), (.CRC_CFG_FINAL_INV, 0, 0), (.CRC_VALUE_VALUE, 0, 77),
      (.CRC_EXPECT_EXPECT, 0, 77)], 0, 0xF1, by decide⟩,
    ⟨mk [(.CRC_LEASE_HELD, 0, 1), (.CRC_LEASE_HOLDER, 0, 0xF1), (.CRC_STATUS_STATE, 0, 1), (.CRC_CFG_CMP_EN, 0, 1),
      (.CRC_CFG_IRQ_EN, 0, 1), (.CRC_EXPECT_EXPECT, 0, 77)], 0, 0xF1, by decide⟩,
    ⟨mk [(.CRC_LEASE_HELD, 0, 1), (.CRC_LEASE_HOLDER, 0, 0xF1), (.CRC_STATUS_STATE, 0, 1), (.CRC_CFG_CMP_EN, 0, 0)], 0,
      0xF1, by decide⟩⟩

theorem witness_FatalRaiseActsAtOnce :
    (∃ (s : State) (k : Nat) (x : Raise) (rest : List Raise), pickRaise (fun x => decide (x.cls = 3)) [] s.raiseQ k =
      some (x, rest) ∧ x.sub < 256 ∧ x.code < 16 ∧ s.isSet .FLT_STATUS_FATAL 0 = false) ∧
    (∃ (s : State) (k : Nat) (x : Raise) (rest : List Raise), pickRaise (fun x => decide (x.cls = 3)) [] s.raiseQ k =
      some (x, rest) ∧ x.code < 16 ∧ s.isSet .FLT_STATUS_FATAL 0 = true) :=
  ⟨⟨{ mk [(.GLB_BOOT_STATUS_PWR_OK, 0, 1)] with
        raiseQ := [{ sub := 0x10, code := 1, index := 0, master := 0xFE, addr := 0, typ := 0, time := 0 }, { sub := 0x10,
                                                                                                             code := 2,
                                                                                                             index := 3,
                                                                                                             master :=
                                                                                                             0xFE, addr
                                                                                                             := 0, typ :=
                                                                                                             0, time := 0
                                                                                                             }] }, 1,
      { sub := 0x10, code := 2, index := 3, master := 0xFE, addr := 0, typ := 0, time := 0 },
      [{ sub := 0x10, code := 1, index := 0, master := 0xFE, addr := 0, typ := 0, time := 0 }], by decide⟩,
    ⟨{ mk [(.GLB_BOOT_STATUS_PWR_OK, 0, 1), (.FLT_STATUS_FATAL, 0, 1), (.FLT_STATUS_FATAL_SUB, 0, 1)] with
        raiseQ := [{ sub := 0x10, code := 7, index := 3, master := 0xFE, addr := 0, typ := 0, time := 0 }] }, 0,
      { sub := 0x10, code := 7, index := 3, master := 0xFE, addr := 0, typ := 0, time := 0 }, [], by decide⟩⟩

theorem witness_CurrentLimitsConvertToSteps :
    (∃ (s : State) (d st : Nat) (v : Int), st < 16) ∧
    (∃ (s : State) (d st j : Nat), st ≤ j ∧ j < 16) :=
  ⟨⟨State.reset, 7, 15, 500, by decide⟩,
    ⟨State.reset, 7, 0, 15, by decide⟩⟩

theorem witness_FenceAtIsHeldInItsRange :
    (∃ (s : State) (k : Nat), k < 5) :=
  ⟨State.reset, 1, by decide⟩

end Sys2Proof.Tests
end

/-! Steps answer a next state; the state after reset. -/

namespace Sys2Proof.Machine

/-- Every arm of `exec` answers a next state. -/
theorem exec_answers (c : Instr) (s : State) : ∃ t, exec c s = .next t := by
  cases c <;> exact ⟨_, rfl⟩

/-- Every step answers a next state. -/
theorem step_answers (s : State) : s.runs := by
  unfold State.runs step
  cases s.pending with
  | nil => exact ⟨_, rfl⟩
  | cons c rest => exact exec_answers c _

/-- Settles O1: `step` and `exec` are the functions the statement names. -/
theorem stepRunsTheFrontCommand : Obligations.StepRunsTheFrontCommand :=
  ⟨fun _ _ _ => rfl, fun _ _ => rfl⟩

/-- Settles O3: no arm of `exec` refuses or faults. -/
theorem everyCommandCompletes : Obligations.EveryCommandCompletes :=
  ⟨exec_answers, step_answers⟩

/-- Settles O4: the table is empty, and an absent entry reads the reset value. -/
theorem resetStateReadsResetValues : Obligations.ResetStateReadsResetValues :=
  ⟨fun _ _ => rfl, rfl, rfl, rfl, rfl, rfl, rfl, rfl, rfl, rfl⟩

/-- Settles O5: the table and the latches are empty. -/
theorem resetStateIsWellFormed : Obligations.ResetStateIsWellFormed :=
  ⟨⟨List.Pairwise.nil, fun _ h => absurd h List.not_mem_nil⟩, fun _ h => absurd h List.not_mem_nil⟩

end Sys2Proof.Machine

/-! What the operations keep of the high-word latches (R18): the low word of a 64-bit quantity loads a latch in a read of the window
alone (`State.setLatch`), and a block reset empties them. -/

namespace Sys2Proof.Machine

@[simp] theorem hiLatch_ite (c : Prop) [Decidable c] (a b : CmdState) :
    (if c then a else b).hiLatch = if c then a.hiLatch else b.hiLatch := apply_ite CmdState.hiLatch c a b

@[simp] theorem State.each_hiLatch (s : State) (l : List Nat) (f : Nat → State → State)
    (h : ∀ i t, (f i t).cmd.hiLatch = t.cmd.hiLatch) : (s.each l f).cmd.hiLatch = s.cmd.hiLatch :=
  State.each_keeps (fun t => t.cmd.hiLatch) l f h s

@[simp] theorem State.when_hiLatch (s : State) (c : Bool) (f : State → State)
    (h : ∀ t, (f t).cmd.hiLatch = t.cmd.hiLatch) : (s.when c f).cmd.hiLatch = s.cmd.hiLatch :=
  State.when_keeps (fun t => t.cmd.hiLatch) c f s (h s)

@[simp] theorem foldl_hiLatch {α : Type} (l : List α) (f : State → α → State)
    (h : ∀ t x, (f t x).cmd.hiLatch = t.cmd.hiLatch) (s : State) : (l.foldl f s).cmd.hiLatch = s.cmd.hiLatch :=
  foldl_keeps (fun t => t.cmd.hiLatch) l f h s

@[simp] theorem State.putFlight_hiLatch (s : State) (k : Nat) (f : InFlight) :
    (s.putFlight k f).cmd.hiLatch = s.cmd.hiLatch := by
  simp [State.putFlight]

@[simp] theorem State.setPhase_hiLatch (s : State) (k : Nat) (ph : PktPhase) :
    (s.setPhase k ph).cmd.hiLatch = s.cmd.hiLatch := by
  simp [State.setPhase]

@[simp] theorem State.setPartner_hiLatch (s : State) (p : Nat) (x : Partner) :
    (s.setPartner p x).cmd.hiLatch = s.cmd.hiLatch := by
  simp [State.setPartner]

@[simp] theorem State.writeReply_hiLatch (s : State) (k : Nat) (words : List Nat) :
    (s.writeReply k words).cmd.hiLatch = s.cmd.hiLatch := by
  simp [State.writeReply]

@[simp] theorem State.answerSlot_hiLatch (s : State) (k : Nat) (words : List Nat) :
    (s.answerSlot k words).cmd.hiLatch = s.cmd.hiLatch := by
  simp [State.answerSlot]

@[simp] theorem State.failReply_hiLatch (s : State) (k : Nat) (p : Packet) (st : Nat) (payload : List Nat) :
    (s.failReply k p st payload).cmd.hiLatch = s.cmd.hiLatch := by
  simp [State.failReply]

@[simp] theorem State.restartLease_hiLatch (s : State) (set : Nat) :
    (s.restartLease set).cmd.hiLatch = s.cmd.hiLatch := by
  simp [State.restartLease]

@[simp] theorem State.replyRaw_hiLatch (s : State) (k st : Nat) (payload : List Nat) :
    (s.replyRaw k st payload).cmd.hiLatch = s.cmd.hiLatch := by
  unfold State.replyRaw
  repeat' split
  all_goals simp

@[simp] theorem State.passOn_hiLatch (s : State) (k : Nat) : (s.passOn k).cmd.hiLatch = s.cmd.hiLatch := by
  simp [State.passOn]

@[simp] theorem State.takePacket_hiLatch (s : State) (k : Nat) (f : InFlight) :
    (s.takePacket k f).cmd.hiLatch = s.cmd.hiLatch := by
  unfold State.takePacket
  dsimp only
  repeat' split
  all_goals simp

@[simp] theorem State.serveN_hiLatch (n : Nat) (s : State) : (State.serveN n s).cmd.hiLatch = s.cmd.hiLatch := by
  induction n generalizing s with
  | zero => rfl
  | succ n ih =>
    unfold State.serveN
    split
    · rfl
    · simp [ih]

@[simp] theorem State.serveIntake_hiLatch (s : State) : s.serveIntake.cmd.hiLatch = s.cmd.hiLatch := by
  simp [State.serveIntake]

@[simp] theorem State.reply_hiLatch (s : State) (k st : Nat) (payload : List Nat) :
    (s.reply k st payload).cmd.hiLatch = s.cmd.hiLatch := by
  simp [State.reply]

@[simp] theorem State.badParam_hiLatch (s : State) (k off : Nat) :
    (s.badParam k off).cmd.hiLatch = s.cmd.hiLatch := by
  simp [State.badParam]

@[simp] theorem State.replyOp_hiLatch (s : State) (k op st : Nat) (payload : List Nat) :
    (s.replyOp k op st payload).cmd.hiLatch = s.cmd.hiLatch := by
  simp [State.replyOp]

@[simp] theorem State.replyAll_hiLatch (s : State) (op : Nat) (pick : Packet → Bool) (st : Nat) (payload : List Nat) :
    (s.replyAll op pick st payload).cmd.hiLatch = s.cmd.hiLatch := by
  simp [State.replyAll]

@[simp] theorem State.command_hiLatch (s : State) (set slot op : Nat) (masks : List Nat)
    (run : Packet → State → State) (h_run : ∀ p t, (run p t).cmd.hiLatch = t.cmd.hiLatch) :
    (s.command set slot op masks run).cmd.hiLatch = s.cmd.hiLatch := by
  unfold State.command
  repeat' split
  all_goals simp [h_run]

@[simp] theorem State.dropStanding_hiLatch (s : State) (pick : Standing → Bool) :
    (s.dropStanding pick).cmd.hiLatch = s.cmd.hiLatch := by
  simp [State.dropStanding]

@[simp] theorem State.stand_hiLatch (s : State) (k : Nat) (p : Packet) (kind : StandKind) :
    (s.stand k p kind).cmd.hiLatch = s.cmd.hiLatch := by
  simp [State.stand]

@[simp] theorem State.stopRamp_hiLatch (s : State) (g : Nat) (fatal : Bool) :
    (s.stopRamp g fatal).cmd.hiLatch = s.cmd.hiLatch := by
  simp [State.stopRamp]

@[simp] theorem State.groupFatal_hiLatch (s : State) (g : Nat) : (s.groupFatal g).cmd.hiLatch = s.cmd.hiLatch := by
  unfold State.groupFatal
  repeat' split
  all_goals simp

@[simp] theorem State.enterFenced_hiLatch (s : State) (d : Nat) : (s.enterFenced d).cmd.hiLatch = s.cmd.hiLatch := by
  simp [State.enterFenced]

@[simp] theorem State.domEnter_hiLatch (s : State) (d new : Nat) :
    (s.domEnter d new).cmd.hiLatch = s.cmd.hiLatch := by
  simp [State.domEnter]

@[simp] theorem State.domGo_hiLatch (s : State) (d new : Nat) : (s.domGo d new).cmd.hiLatch = s.cmd.hiLatch := by
  simp [State.domGo]

@[simp] theorem State.powerActs_hiLatch (s : State) (d : Nat) : (s.powerActs d).cmd.hiLatch = s.cmd.hiLatch := by
  unfold State.powerActs
  repeat' split
  all_goals simp

@[simp] theorem State.fence_hiLatch (s : State) (d : Nat) (loss : Bool) :
    (s.fence d loss).cmd.hiLatch = s.cmd.hiLatch := by
  unfold State.fence
  repeat' split
  all_goals simp

@[simp] theorem State.quiesceEnd_hiLatch (s : State) (d : Nat) : (s.quiesceEnd d).cmd.hiLatch = s.cmd.hiLatch := by
  simp [State.quiesceEnd]

@[simp] theorem State.endQuiescing_hiLatch (s : State) : s.endQuiescing.cmd.hiLatch = s.cmd.hiLatch := by
  simp [State.endQuiescing]

@[simp] theorem State.fatalQuiesce_hiLatch (s : State) (d : Nat) :
    (s.fatalQuiesce d).cmd.hiLatch = s.cmd.hiLatch := by
  simp [State.fatalQuiesce]

@[simp] theorem State.derateCheck_hiLatch (s : State) (d : Nat) : (s.derateCheck d).cmd.hiLatch = s.cmd.hiLatch := by
  simp [State.derateCheck]

@[simp] theorem State.cellsChanged_hiLatch (s : State) (d : Nat) :
    (s.cellsChanged d).cmd.hiLatch = s.cmd.hiLatch := by
  simp [State.cellsChanged]

@[simp] theorem State.fenceCheck_hiLatch (s : State) (k : Nat) : (s.fenceCheck k).cmd.hiLatch = s.cmd.hiLatch := by
  simp [State.fenceCheck]

@[simp] theorem State.wakeDone_hiLatch (s : State) (d : Nat) : (s.wakeDone d).cmd.hiLatch = s.cmd.hiLatch := by
  simp [State.wakeDone]

@[simp] theorem State.cellFail_hiLatch (s : State) (c cause : Nat) :
    (s.cellFail c cause).cmd.hiLatch = s.cmd.hiLatch := by
  simp [State.cellFail]

@[simp] theorem State.cellTest_hiLatch (s : State) (c : Nat) : (s.cellTest c).cmd.hiLatch = s.cmd.hiLatch := by
  simp [State.cellTest]

@[simp] theorem State.cellSample_hiLatch (s : State) (cells : List (Nat × Int)) :
    (s.cellSample cells).cmd.hiLatch = s.cmd.hiLatch := by
  simp [State.cellSample]

@[simp] theorem State.dsCounted_hiLatch (s : State) (d : Nat) : (s.dsCounted d).cmd.hiLatch = s.cmd.hiLatch := by
  simp [State.dsCounted]

@[simp] theorem State.dsFail_hiLatch (s : State) (x cause : Nat) :
    (s.dsFail x cause).cmd.hiLatch = s.cmd.hiLatch := by
  simp [State.dsFail]

@[simp] theorem State.dsTest_hiLatch (s : State) (x : Nat) : (s.dsTest x).cmd.hiLatch = s.cmd.hiLatch := by
  simp [State.dsTest]

@[simp] theorem State.dsSample_hiLatch (s : State) (l : List DroopReading) :
    (s.dsSample l).cmd.hiLatch = s.cmd.hiLatch := by
  simp [State.dsSample]

@[simp] theorem State.toLocked_hiLatch (s : State) : s.toLocked.cmd.hiLatch = s.cmd.hiLatch := by
  simp [State.toLocked]

@[simp] theorem State.syncOffset_hiLatch (s : State) (o : Int) : (s.syncOffset o).cmd.hiLatch = s.cmd.hiLatch := by
  simp [State.syncOffset]

@[simp] theorem State.joinHerd_hiLatch (s : State) (group stack role ports expect : Nat) :
    (s.joinHerd group stack role ports expect).cmd.hiLatch = s.cmd.hiLatch := by
  simp [State.joinHerd]

@[simp] theorem State.leaveHerd_hiLatch (s : State) : s.leaveHerd.cmd.hiLatch = s.cmd.hiLatch := by
  simp [State.leaveHerd]

@[simp] theorem State.fieldActs_hiLatch (s : State) (p : Piece) : (s.fieldActs p).cmd.hiLatch = s.cmd.hiLatch := by
  unfold State.fieldActs
  repeat' split
  all_goals simp

@[simp] theorem State.takePieces_hiLatch (s : State) (l : List Piece) (cp1 : Bool) :
    (s.takePieces l cp1).cmd.hiLatch = s.cmd.hiLatch := by
  apply State.takePieces_keeps (fun t => t.cmd.hiLatch) <;> intros <;> simp

@[simp] theorem State.applyPieces_hiLatch (s : State) (l : List Piece) (cp1 : Bool) :
    (s.applyPieces l cp1).cmd.hiLatch = s.cmd.hiLatch := by
  simp [State.applyPieces, State.when]

@[simp] theorem State.applyDeferred_hiLatch (s : State) : s.applyDeferred.cmd.hiLatch = s.cmd.hiLatch := by
  simp [State.applyDeferred]

@[simp] theorem State.setSets_hiLatch (s : State) (t : Tbl Nat StagedSet) :
    (s.setSets t).cmd.hiLatch = s.cmd.hiLatch := by
  simp [State.setSets]

@[simp] theorem State.putSet_hiLatch (s : State) (init : Nat) (x : StagedSet) :
    (s.putSet init x).cmd.hiLatch = s.cmd.hiLatch := by
  simp [State.putSet]

theorem State.stageEntry_hiLatch (s : State) (init : Nat) (e : Entry) (t : State) (h : s.stageEntry init e = .ok t) :
    t.cmd.hiLatch = s.cmd.hiLatch := by
  unfold State.stageEntry at h
  dsimp only at h
  split at h
  · cases h
  · cases h; simp

theorem State.stageWrite_hiLatch (s : State) (init off mask val : Nat) (t : State)
    (h : s.stageWrite init off mask val = .ok t) : t.cmd.hiLatch = s.cmd.hiLatch := by
  unfold State.stageWrite at h
  dsimp only at h
  split at h
  · cases h
  · split at h
    · split at h
      · cases h
      · cases h; simp
    · split at h
      · cases h
      · split at h
        · cases h
        · exact State.stageEntry_hiLatch _ _ _ _ h

theorem State.stageOne_hiLatch (s : State) (init : Nat) (l : List Nat) (i : Nat) (t : State)
    (h : s.stageOne init l i = .ok t) : t.cmd.hiLatch = s.cmd.hiLatch := by
  unfold State.stageOne at h
  dsimp only at h
  split at h
  · cases h
  · split at h
    · next u hu => cases h; exact State.stageWrite_hiLatch _ _ _ _ _ _ hu
    · cases h
    · cases h

theorem State.stageAll_hiLatch (s : State) (init : Nat) (l : List Nat) (n : Nat) (t : State)
    (h : s.stageAll init l n = .ok t) : t.cmd.hiLatch = s.cmd.hiLatch :=
  State.stageFold_inv (fun u => u.cmd.hiLatch = s.cmd.hiLatch) init l
    (fun _ _ _ hu e => (State.stageOne_hiLatch _ _ _ _ _ e).trans hu) _ _ (fun _ e => by cases e; rfl) t h

theorem State.stageEntries_hiLatch (s : State) (init : Nat) (l : List Entry) (t : State)
    (h : s.stageEntries init l = some t) : t.cmd.hiLatch = s.cmd.hiLatch := by
  induction l generalizing s with
  | nil => cases h; rfl
  | cons e r ih =>
    unfold State.stageEntries at h
    split at h
    · next u hu => exact (ih _ h).trans (State.stageEntry_hiLatch _ _ _ _ hu)
    · cases h

@[simp] theorem State.putRun_hiLatch (s : State) (r : Run) (st : Nat) :
    (s.putRun r st).cmd.hiLatch = s.cmd.hiLatch := by
  simp [State.putRun]

@[simp] theorem State.startRun_hiLatch (s : State) : s.startRun.cmd.hiLatch = s.cmd.hiLatch := by
  unfold State.startRun
  repeat' split
  all_goals simp

@[simp] theorem State.reportCommit_hiLatch (s : State) (r : Run) (st check entry : Nat) :
    (s.reportCommit r st check entry).cmd.hiLatch = s.cmd.hiLatch := by
  unfold State.reportCommit
  repeat' split
  all_goals simp

@[simp] theorem State.reportAbort_hiLatch (s : State) (r : Run) (st : Nat) :
    (s.reportAbort r st).cmd.hiLatch = s.cmd.hiLatch := by
  unfold State.reportAbort
  repeat' split
  all_goals simp

@[simp] theorem State.answerCp1_hiLatch (s : State) (st : Nat) : (s.answerCp1 st).cmd.hiLatch = s.cmd.hiLatch := by
  simp [State.answerCp1]

@[simp] theorem State.endCpRun_hiLatch (s : State) (r : Run) (st : Nat) :
    (s.endCpRun r st).cmd.hiLatch = s.cmd.hiLatch := by
  simp [State.endCpRun]

@[simp] theorem State.endRun_hiLatch (s : State) (r : Run) (st check entry : Nat) :
    (s.endRun r st check entry).cmd.hiLatch = s.cmd.hiLatch := by
  simp [State.endRun]

@[simp] theorem State.returnSet_hiLatch (s : State) (r : Run) : (s.returnSet r).cmd.hiLatch = s.cmd.hiLatch := by
  simp [State.returnSet]

@[simp] theorem State.enterApply_hiLatch (s : State) (r : Run) : (s.enterApply r).cmd.hiLatch = s.cmd.hiLatch := by
  simp [State.enterApply]

@[simp] theorem State.enterWalkback_hiLatch (s : State) (r : Run) :
    (s.enterWalkback r).cmd.hiLatch = s.cmd.hiLatch := by
  simp [State.enterWalkback]

theorem State.commitRun_hiLatch (s : State) (r : Run) (t : State) (h : s.commitRun r = some t) :
    t.cmd.hiLatch = s.cmd.hiLatch := by
  unfold State.commitRun at h
  dsimp only at h
  split at h
  · cases h
  · cases h; simp

theorem State.commitSet_hiLatch (s : State) (init : Nat) (retune dry : Bool) (expectN : Nat) (direct : Bool)
    (part slot : Option Nat) (t : State × Run) (h : s.commitSet init retune dry expectN direct part slot = some t) :
    t.1.cmd.hiLatch = s.cmd.hiLatch := by
  obtain ⟨u, hu, e⟩ := Option.map_eq_some_iff.1 h
  subst e
  simpa using State.commitRun_hiLatch _ _ _ hu

@[simp] theorem State.orphanSlot_hiLatch (s : State) (k : Nat) : (s.orphanSlot k).cmd.hiLatch = s.cmd.hiLatch := by
  simp [State.orphanSlot]

@[simp] theorem State.capDisarm_hiLatch (s : State) : s.capDisarm.cmd.hiLatch = s.cmd.hiLatch := by
  simp [State.capDisarm]

@[simp] theorem State.handOver_hiLatch (s : State) (k init : Nat) :
    (s.handOver k init).cmd.hiLatch = s.cmd.hiLatch := by
  simp [State.handOver]

@[simp] theorem State.slotWrite_hiLatch (s : State) (init set slot w v : Nat) :
    (s.slotWrite init set slot w v).cmd.hiLatch = s.cmd.hiLatch := by
  simp [State.slotWrite]

@[simp] theorem State.freeRegSlot_hiLatch (s : State) (k : Nat) : (s.freeRegSlot k).cmd.hiLatch = s.cmd.hiLatch := by
  simp [State.freeRegSlot]

@[simp] theorem State.readReply_hiLatch (s : State) (init set slot w : Nat) :
    (s.readReply init set slot w).cmd.hiLatch = s.cmd.hiLatch := by
  simp [State.readReply]

@[simp] theorem State.claimFields_hiLatch (s : State) (init : Nat) (l : List Entry) :
    (s.claimFields init l).cmd.hiLatch = s.cmd.hiLatch := by
  simp [State.claimFields]

@[simp] theorem State.cp1Commit_hiLatch (s : State) : s.cp1Commit.cmd.hiLatch = s.cmd.hiLatch := by
  unfold State.cp1Commit
  split
  · rfl
  · split
    · dsimp only; split
      · rfl
      · simp
    · dsimp only; split
      · simp
      · split
        · next t r h =>
          obtain ⟨u, hu, ht⟩ := Option.bind_eq_some_iff.1 h
          exact (State.commitSet_hiLatch _ _ _ _ _ _ _ _ _ ht).trans ((State.stageEntries_hiLatch _ _ _ _ hu).trans (by simp))
        · rfl

@[simp] theorem State.withdraw_hiLatch (s : State) (r : Standing) : (s.withdraw r).cmd.hiLatch = s.cmd.hiLatch := by
  unfold State.withdraw
  repeat' split
  all_goals simp

@[simp] theorem State.settleStanding_hiLatch (s : State) (p init : Nat) (keep : Bool) :
    (s.settleStanding p init keep).cmd.hiLatch = s.cmd.hiLatch := by
  simp [State.settleStanding]

@[simp] theorem State.abandonSet_hiLatch (s : State) (p : Nat) : (s.abandonSet p).cmd.hiLatch = s.cmd.hiLatch := by
  simp [State.abandonSet]

@[simp] theorem State.releaseSet_hiLatch (s : State) (p : Nat) : (s.releaseSet p).cmd.hiLatch = s.cmd.hiLatch := by
  simp [State.releaseSet]

@[simp] theorem State.fatalTurn_hiLatch (s : State) (l : List Nat) : (s.fatalTurn l).cmd.hiLatch = s.cmd.hiLatch := by
  induction l generalizing s with
  | nil => simp [State.fatalTurn]
  | cons g r ih =>
    unfold State.fatalTurn
    repeat' split
    all_goals simp [ih]

@[simp] theorem State.fatalAdvance_hiLatch (s : State) : s.fatalAdvance.cmd.hiLatch = s.cmd.hiLatch := by
  simp [State.fatalAdvance]

@[simp] theorem State.fatal_hiLatch (s : State) (x : Raise) : (s.fatal x).cmd.hiLatch = s.cmd.hiLatch := by
  simp [State.fatal]

@[simp] theorem State.shutGroup_hiLatch (s : State) (g : Nat) : (s.shutGroup g).cmd.hiLatch = s.cmd.hiLatch := by
  simp [State.shutGroup]

@[simp] theorem State.gooseShuts_hiLatch (s : State) (l : List Nat) :
    (s.gooseShuts l).cmd.hiLatch = s.cmd.hiLatch := by
  simp [State.gooseShuts]

@[simp] theorem State.gooseTrip_hiLatch (s : State) (code index : Nat) :
    (s.gooseTrip code index).cmd.hiLatch = s.cmd.hiLatch := by
  simp [State.gooseTrip]

@[simp] theorem State.breakBox_hiLatch (s : State) (k : Nat) : (s.breakBox k).cmd.hiLatch = s.cmd.hiLatch := by
  simp [State.breakBox]

@[simp] theorem State.haltCp_hiLatch (s : State) (c : Nat) : (s.haltCp c).cmd.hiLatch = s.cmd.hiLatch := by
  simp [State.haltCp]

@[simp] theorem State.rejectQueued_hiLatch (s : State) : s.rejectQueued.cmd.hiLatch = s.cmd.hiLatch := by
  simp [State.rejectQueued]

@[simp] theorem State.stopCp_hiLatch (s : State) (c : Nat) : (s.stopCp c).cmd.hiLatch = s.cmd.hiLatch := by
  simp [State.stopCp]

@[simp] theorem State.crashCp_hiLatch (s : State) (c cause addr comp : Nat) :
    (s.crashCp c cause addr comp).cmd.hiLatch = s.cmd.hiLatch := by
  simp [State.crashCp]

@[simp] theorem State.replyAct_hiLatch (s : State) (a : Activation) (st : Nat) (payload : List Nat) :
    (s.replyAct a st payload).cmd.hiLatch = s.cmd.hiLatch := by
  simp [State.replyAct]

@[simp] theorem State.actNext_hiLatch (s : State) (a : Activation) (left : List Nat) :
    (s.actNext a left).cmd.hiLatch = s.cmd.hiLatch := by
  simp [State.actNext]

@[simp] theorem State.beginSwitch_hiLatch (s : State) (a : Activation) :
    (s.beginSwitch a).cmd.hiLatch = s.cmd.hiLatch := by
  simp [State.beginSwitch]

@[simp] theorem State.engineStart_hiLatch (s : State) : s.engineStart.cmd.hiLatch = s.cmd.hiLatch := by
  simp [State.engineStart]

@[simp] theorem State.releaseNext_hiLatch (s : State) : s.releaseNext.cmd.hiLatch = s.cmd.hiLatch := by
  unfold State.releaseNext
  repeat' split
  all_goals simp

@[simp] theorem State.resetSet_hiLatch (s : State) (p : Nat) : (s.resetSet p).cmd.hiLatch = s.cmd.hiLatch := by
  simp [State.resetSet]

@[simp] theorem State.cpReset_hiLatch (s : State) (last : Nat) : (s.cpReset last).cmd.hiLatch = s.cmd.hiLatch := by
  simp [State.cpReset]

@[simp] theorem State.blockStopDom_hiLatch (s : State) (d : Nat) :
    (s.blockStopDom d).cmd.hiLatch = s.cmd.hiLatch := by
  unfold State.blockStopDom
  repeat' split
  all_goals simp

@[simp] theorem State.loseEndpoint_hiLatch (s : State) (e : Endpoint) :
    (s.loseEndpoint e).cmd.hiLatch = s.cmd.hiLatch := by
  unfold State.loseEndpoint
  repeat' split
  all_goals simp

@[simp] theorem State.stageRegister_hiLatch (s : State) (init off value : Nat) :
    (s.stageRegister init off value).cmd.hiLatch = s.cmd.hiLatch := by
  unfold State.stageRegister
  simp only []
  split
  · rfl
  · split
    · rfl
    · split
      · next u hu => exact State.stageEntry_hiLatch _ _ _ _ hu
      · simp
      · rfl

@[simp] theorem State.abortHead_hiLatch (s : State) (k : Nat) (r : Run) :
    (s.abortHead k r).cmd.hiLatch = s.cmd.hiLatch := by
  unfold State.abortHead
  dsimp only
  repeat' split
  all_goals simp

@[simp] theorem State.dropQueued_hiLatch (s : State) (q : Run) : (s.dropQueued q).cmd.hiLatch = s.cmd.hiLatch := by
  simp [State.dropQueued]

@[simp] theorem State.ownMode_hiLatch (s : State) (r : Run) (l : List Piece) :
    (s.ownMode r l).cmd.hiLatch = s.cmd.hiLatch := by
  unfold State.ownMode
  repeat' split
  all_goals simp

@[simp] theorem State.takeBlock_hiLatch (s : State) (k b : Nat) (p : Packet) :
    (s.takeBlock k b p).cmd.hiLatch = s.cmd.hiLatch := by
  simp [State.takeBlock]

@[simp] theorem State.joinAct_hiLatch (s : State) (k mask : Nat) (a : Activation) :
    (s.joinAct k mask a).cmd.hiLatch = s.cmd.hiLatch := by
  simp [State.joinAct]

@[simp] theorem State.cp1Packet_hiLatch (s : State) (set slot op : Nat) (masks : List Nat)
    (run : Packet → State → State) (h_run : ∀ p t, (run p t).cmd.hiLatch = t.cmd.hiLatch) :
    (s.cp1Packet set slot op masks run).cmd.hiLatch = s.cmd.hiLatch := by
  unfold State.cp1Packet
  dsimp only
  repeat' split
  all_goals simp [h_run]

/-! A block reset empties the latches. -/

theorem State.latchesOk_of_hiLatch_eq {s t : State} (h : t.cmd.hiLatch = s.cmd.hiLatch) (hs : s.latchesOk) : t.latchesOk := by
  unfold State.latchesOk
  rw [h]
  exact hs

theorem State.latchesOk_of_nil {t : State} (h : t.cmd.hiLatch = []) : t.latchesOk := by
  simp [State.latchesOk, h]

@[simp] theorem State.blockResetApply_hiLatch (s : State) (last : Nat) : (s.blockResetApply last).cmd.hiLatch = [] := by
  simp [State.blockResetApply, CmdState.reset]

@[simp] theorem State.aonReset_hiLatch (s : State) : s.aonReset.cmd.hiLatch = [] := rfl

theorem State.stopTurn_latchesOk (s : State) (l : List Nat) (hs : s.latchesOk) : (s.stopTurn l).latchesOk := by
  induction l generalizing s with
  | nil => exact State.latchesOk_of_nil (State.blockResetApply_hiLatch s 2)
  | cons g r ih =>
    unfold State.stopTurn
    split
    · exact ih s hs
    · split
      · exact ih _ (State.latchesOk_of_hiLatch_eq (by simp) hs)
      · split
        · exact hs
        · exact State.latchesOk_of_hiLatch_eq (by simp) hs

theorem State.blockResetAdvance_latchesOk (s : State) (hs : s.latchesOk) : s.blockResetAdvance.latchesOk := by
  unfold State.blockResetAdvance
  split
  · exact State.stopTurn_latchesOk s _ hs
  · exact hs

theorem State.blockStopBegin_latchesOk (s : State) (hs : s.latchesOk) : s.blockStopBegin.latchesOk :=
  State.blockResetAdvance_latchesOk _ (State.latchesOk_of_hiLatch_eq (by simp) hs)

/-! A read of the window records a 64-bit quantity, or nothing. -/

theorem State.setLatch_latchesOk (s : State) (init : Nat) (q : Option (Nat × Nat)) (hq : ∀ x ∈ q, x.1 ∈ wideRegs)
    (hs : s.latchesOk) : (s.setLatch init q).latchesOk := by
  have hold : ∀ p ∈ s.cmd.hiLatch.filter (fun p => p.1 ≠ init), p.2.1 ∈ wideRegs :=
    fun p hp => hs p (List.mem_filter.1 hp).1
  cases q with
  | none => exact hold
  | some x =>
    intro p hp
    rcases List.mem_cons.1 hp with rfl | hp
    · exact hq x rfl
    · exact hold p hp

end Sys2Proof.Machine

/-! What every command keeps: the register table in its canonical form, high-word latches on 64-bit quantities, and the queue. -/

namespace Sys2Proof.Machine

/-- What the next state of a command keeps of the state before it. -/
structure State.Keeps (s t : State) : Prop where
  fields : s.fieldsOk → t.fieldsOk
  latches : s.latchesOk → t.latchesOk
  queue : t.pending = s.pending

theorem State.Keeps.of_hiLatch {s t : State} (hf : s.fieldsOk → t.fieldsOk) (hl : t.cmd.hiLatch = s.cmd.hiLatch)
    (hq : t.pending = s.pending) : s.Keeps t :=
  ⟨hf, State.latchesOk_of_hiLatch_eq hl, hq⟩

theorem State.Keeps.refl (s : State) : s.Keeps s := ⟨id, id, rfl⟩

theorem State.Keeps.trans {s t u : State} (h : s.Keeps t) (h' : t.Keeps u) : s.Keeps u :=
  ⟨h'.fields ∘ h.fields, h'.latches ∘ h.latches, h'.queue.trans h.queue⟩

theorem State.Keeps.each {s t : State} (h : s.Keeps t) (l : List Nat) {f : Nat → State → State}
    (hf : ∀ i (u : State), u.Keeps (f i u)) : s.Keeps (t.each l f) :=
  State.each_inv (fun u => s.Keeps u) l f (fun i u hu => hu.trans (hf i u)) t h

theorem State.Keeps.foldl {α : Type} {s t : State} (h : s.Keeps t) (l : List α) {f : State → α → State}
    (hf : ∀ (u : State) a, u.Keeps (f u a)) : s.Keeps (l.foldl f t) := by
  induction l generalizing t with
  | nil => exact h
  | cons a r ih => exact ih (h.trans (hf t a))

theorem State.Keeps.when {s t : State} (h : s.Keeps t) (c : Bool) {f : State → State} (hf : ∀ u : State, u.Keeps (f u)) :
    s.Keeps (t.when c f) := by
  cases c
  · exact h
  · exact h.trans (hf t)

theorem State.Keeps.command (s : State) (set slot op : Nat) (masks : List Nat) {run : Packet → State → State}
    (h : ∀ (p : Packet) (t : State), t.Keeps (run p t)) : s.Keeps (s.command set slot op masks run) := by
  have hserve : ∀ t : State, t.Keeps t.serveIntake := fun t => .of_hiLatch (by simp +contextual) (by simp) (by simp)
  have hphase : ∀ k, s.Keeps (s.setPhase k .started) := fun k => .of_hiLatch (by simp +contextual) (by simp) (by simp)
  unfold State.command
  split
  · exact .refl s
  · split
    · exact .refl s
    · dsimp only
      split
      · exact .of_hiLatch (fun hok => by simp (maxDischargeDepth := 60) [hok]) (by simp) (by simp)
      · exact ((hphase _).trans (h _ _)).trans (hserve _)

theorem State.Keeps.rxLock (s : State) (p typ : Nat) (m : LockMsg) {f : State → State} (h : ∀ t : State, t.Keeps (f t)) :
    s.Keeps (s.rxLock p typ m f) := by
  unfold State.rxLock State.rxMsg
  split
  · exact .refl s
  · have hport : ∀ b w x, s.Keeps ((s.dutyJob 2 b w).setPort p x) :=
      fun b w x => .of_hiLatch (fun hok => by simp [hok]) (by simp) (by simp)
    have hf : ∀ u : State, u.Keeps (if ¬ u.linkUp p ∨ m.group % 65536 ≠ u.getF .HRD_ID_GROUP_ID 0 then u else f u) := by
      intro u
      split
      · exact .refl u
      · exact h u
    exact (hport _ _ _).trans (hf _)

/-- The state that another command's meaning answers. -/
theorem State.Keeps.then_ {s : State} {f : State → Host.Outcome State Fault Refusal} (h : ∀ t, f s = .next t → s.Keeps t) :
    s.Keeps (s.then_ f) := by
  unfold State.then_
  split
  · next t ht => exact h t ht
  · exact .refl s

/-! ### The ordered stop and the resets -/

theorem State.blockResetAdvance_keeps (s : State) : s.Keeps s.blockResetAdvance :=
  ⟨fun hok => by simp [hok], State.blockResetAdvance_latchesOk s, by simp⟩

theorem State.blockStopBegin_keeps (s : State) : s.Keeps s.blockStopBegin :=
  ⟨fun hok => by simp [hok], State.blockStopBegin_latchesOk s, by simp⟩

theorem State.blockResetApply_keeps (s : State) (last : Nat) : s.Keeps (s.blockResetApply last) :=
  ⟨fun hok => by simp [hok], fun _ => State.latchesOk_of_nil (by simp), by simp⟩

theorem State.aonReset_keeps (s : State) : s.Keeps s.aonReset :=
  ⟨fun hok => by simp [hok], fun _ => State.latchesOk_of_nil (by simp), rfl⟩

theorem State.setLatch_keeps (s : State) (init : Nat) (q : Option (Nat × Nat)) (hq : ∀ x ∈ q, x.1 ∈ wideRegs) :
    s.Keeps (s.setLatch init q) :=
  ⟨fun hok => by simp [hok], State.setLatch_latchesOk s init q hq, by simp⟩

end Sys2Proof.Machine

/-! What the commands that stage or commit, publish temperatures or read the window keep. -/

namespace Sys2Proof.Machine
open Host (Outcome)

/-! ### Commands that stage or commit -/

theorem State.stageAll_keeps {s t : State} {init n : Nat} {l : List Nat} (h : s.stageAll init l n = .ok t) : s.Keeps t :=
  .of_hiLatch (State.stageAll_ok s init l n t h) (State.stageAll_hiLatch s init l n t h)
    (by simp [State.stageAll_parts s init l n t h])

theorem State.commitSet_keeps {s : State} {init expectN : Nat} {retune dry direct : Bool} {part slot : Option Nat}
    {q : State × Run} (h : s.commitSet init retune dry expectN direct part slot = some q) : s.Keeps q.1 :=
  .of_hiLatch (State.commitSet_ok _ _ _ _ _ _ _ _ _ h) (State.commitSet_hiLatch _ _ _ _ _ _ _ _ _ h)
    (by simp [State.commitSet_parts _ _ _ _ _ _ _ _ _ h])

theorem State.reply_keeps (s : State) (k st : Nat) (payload : List Nat) : s.Keeps (s.reply k st payload) :=
  .of_hiLatch (fun hok => by simp [hok]) (by simp) (by simp)

theorem State.showDirect_keeps (s : State) (init st id : Nat) : s.Keeps (s.showDirect init st id) :=
  .of_hiLatch (fun hok => by simp [hok]) (by simp) (by simp)

theorem State.enterApply_keeps (s : State) (r : Run) : s.Keeps (s.enterApply r) :=
  .of_hiLatch (fun hok => by simp [hok]) (by simp) (by simp)

theorem State.putSet_keeps (s : State) (init : Nat) (x : StagedSet) : s.Keeps (s.putSet init x) :=
  .of_hiLatch (fun hok => by simp [hok]) (by simp) (by simp)

theorem execStageConfig_keeps (set slot : Nat) (s t : State) (h : execStageConfig set slot s = .next t) : s.Keeps t := by
  cases h
  refine .command s _ _ _ _ fun p t => ?_
  dsimp only
  split
  · exact .of_hiLatch (fun hok => by simp [hok]) (by simp) (by simp)
  · have hput : t.Keeps (if leAt p.payload 1 1 = 1 then t.putSet p.init { t.stagedSet p.init with entries := [] } else t) := by
      split
      · exact t.putSet_keeps _ _
      · exact .refl t
    split
    · next u hu => exact (hput.trans (State.stageAll_keeps hu)).trans (u.reply_keeps _ _ _)
    · exact .of_hiLatch (fun hok => by simp [hok]) (by simp) (by simp)
    · exact .of_hiLatch (fun hok => by simp [hok]) (by simp) (by simp)

theorem execCommitEpoch_keeps (set slot : Nat) (s t : State) (h : execCommitEpoch set slot s = .next t) : s.Keeps t := by
  cases h
  refine .command s _ _ _ _ fun p t => ?_
  dsimp only
  split
  · split
    · exact t.reply_keeps _ _ _
    · exact (t.reply_keeps _ _ _).trans (State.enterApply_keeps _ _)
  · split
    · exact t.reply_keeps _ _ _
    · next u r hu => exact (State.commitSet_keeps hu).trans (u.reply_keeps _ _ _)

theorem execCmdCommit_keeps (init value : Nat) (s t : State) (h : execCmdCommit init value s = .next t) : s.Keeps t := by
  cases h
  split
  · exact .refl s
  · split
    · split
      · exact s.showDirect_keeps _ _ _
      · exact (s.showDirect_keeps _ _ _).trans (State.enterApply_keeps _ _)
    · split
      · exact s.showDirect_keeps _ _ _
      · next u r hu => exact (State.commitSet_keeps hu).trans (u.showDirect_keeps _ _ _)

theorem State.showFuse_keeps (s : State) : s.Keeps s.showFuse :=
  .of_hiLatch (fun hok => by simp [hok]) (by simp) (by simp)

theorem execTemperaturePublish_keeps (results : List (Nat × Int)) (s t : State)
    (h : execTemperaturePublish results s = .next t) : s.Keeps t := by
  obtain rfl := Outcome.next.inj h
  refine State.Keeps.trans ?_ (State.showFuse_keeps _)
  refine .each (.each (.each (.each (.each (.each (.foldl (.each (.refl s) _ ?_) _ ?_) _ ?_) _ ?_) _ ?_) _ ?_) _ ?_) _ ?_ <;>
    intros <;> exact .of_hiLatch (fun hok => by simp (maxDischargeDepth := 60) [hok]) (by simp) (by simp)

theorem execHighWordLatchRead_keeps (init off : Nat) (s t : State) (h : execHighWordLatchRead init off s = .next t) :
    s.Keeps t := by
  cases h
  have hemit : ∀ m, s.Keeps (s.emit m) := fun m => .of_hiLatch (fun hok => by simp [hok]) (by simp) (by simp)
  split
  · exact .refl s
  · split
    · exact .of_hiLatch (fun hok => by simp [hok]) (by simp) (by simp)
    · split
      · exact .of_hiLatch (fun hok => by simp [hok]) (by simp) (by simp)
      · split
        · exact .of_hiLatch (fun hok => by simp [hok]) (by simp) (by simp)
        · dsimp only
          split
          · next hw =>
            refine (hemit _).trans (State.setLatch_keeps _ _ _ fun x hx => ?_)
            cases hx
            simpa using hw
          · split
            · exact (hemit _).trans (State.setLatch_keeps _ _ _ fun x hx => nomatch hx)
            · exact hemit _
end Sys2Proof.Machine

/-! What the commands keep, family by family: each arm is a composition of operations that keep the table's form, the latches and
the queue. -/

namespace Sys2Proof.Machine
open Host (Outcome)

/-- The phase groups; a ramp that ends lets a held reset through. -/
theorem phases_keeps {c : Instr} {s t : State} (hc : c.family = .phases) (h : exec c s = .next t) : s.Keeps t := by
  cases c <;> cases hc <;> cases h
  case stopRampEnd g vs =>
    split
    · refine State.Keeps.trans ?_ (State.blockResetAdvance_keeps _)
      refine .when ?_ _ fun u => ?_
      · refine State.Keeps.trans (t := (s.sense g vs).setF .PHS_GRP_REF_VREF g 0) ?_ ?_
        · exact .of_hiLatch (fun hok => by simp [hok]) (by simp) (by simp)
        · split <;> exact .of_hiLatch (fun hok => by simp [hok]) (by simp) (by simp)
      · exact .of_hiLatch (fun hok => by simp [hok]) (by simp) (by simp)
    · exact .refl s
  all_goals try dsimp only
  all_goals repeat' split
  all_goals
    exact .of_hiLatch (fun hok => by simp +contextual (maxDischargeDepth := 60) [hok])
      (by simp (maxDischargeDepth := 60)) (by simp (maxDischargeDepth := 60))

/-- The domains; a ramp that ends lets a held reset through. -/
theorem domains_keeps {c : Instr} {s t : State} (hc : c.family = .domains) (h : exec c s = .next t) : s.Keeps t := by
  cases c <;> cases hc <;> cases h
  case rampDownEnd d =>
    split
    · refine State.Keeps.trans ?_ (State.blockResetAdvance_keeps _)
      exact .of_hiLatch (fun hok => by simp +contextual (maxDischargeDepth := 60) [hok]) (by simp) (by simp)
    · exact .refl s
  all_goals try dsimp only
  all_goals repeat' split
  all_goals
    exact .of_hiLatch (fun hok => by simp +contextual (maxDischargeDepth := 60) [hok])
      (by simp (maxDischargeDepth := 60)) (by simp (maxDischargeDepth := 60))

/-- The control engine. -/
theorem engine_keeps {c : Instr} {s t : State} (hc : c.family = .engine) (h : exec c s = .next t) : s.Keeps t := by
  cases c <;> cases hc <;> cases h
  all_goals try dsimp only
  all_goals repeat' split
  all_goals
    exact .of_hiLatch (fun hok => by simp +contextual (maxDischargeDepth := 60) [hok])
      (by simp (maxDischargeDepth := 60)) (by simp (maxDischargeDepth := 60))

/-- Forecasts, barriers and starts. -/
theorem rooster_keeps {c : Instr} {s t : State} (hc : c.family = .rooster) (h : exec c s = .next t) : s.Keeps t := by
  cases c <;> cases hc <;> cases h
  all_goals try dsimp only
  all_goals repeat' split
  all_goals
    exact .of_hiLatch (fun hok => by simp +contextual (maxDischargeDepth := 60) [hok])
      (by simp (maxDischargeDepth := 60)) (by simp (maxDischargeDepth := 60))

/-- The estimate and the budget. -/
theorem power_keeps {c : Instr} {s t : State} (hc : c.family = .power) (h : exec c s = .next t) : s.Keeps t := by
  cases c <;> cases hc <;> cases h
  all_goals try dsimp only
  all_goals repeat' split
  all_goals
    exact .of_hiLatch (fun hok => by simp +contextual (maxDischargeDepth := 60) [hok])
      (by simp (maxDischargeDepth := 60)) (by simp (maxDischargeDepth := 60))

/-- The thermal sensors. -/
theorem thermal_keeps {c : Instr} {s t : State} (hc : c.family = .thermal) (h : exec c s = .next t) : s.Keeps t := by
  cases c <;> cases hc
  case temperaturePublish results => exact execTemperaturePublish_keeps results s t h
  all_goals cases h
  all_goals try dsimp only
  all_goals repeat' split
  all_goals
    exact .of_hiLatch (fun hok => by simp +contextual (maxDischargeDepth := 60) [hok])
      (by simp (maxDischargeDepth := 60)) (by simp (maxDischargeDepth := 60))

/-- The command slots and the partners. -/
theorem packets_keeps {c : Instr} {s t : State} (hc : c.family = .packets) (h : exec c s = .next t) : s.Keeps t := by
  cases c <;> cases hc <;> cases h
  case' registerPartner => refine .command s _ _ _ _ fun p s => ?_
  all_goals try dsimp only
  all_goals repeat' split
  all_goals
    exact .of_hiLatch (fun hok => by simp +contextual (maxDischargeDepth := 60) [hok])
      (by simp (maxDischargeDepth := 60)) (by simp (maxDischargeDepth := 60))

/-- The herd. -/
theorem herd_keeps {c : Instr} {s t : State} (hc : c.family = .herd) (h : exec c s = .next t) : s.Keeps t := by
  cases c <;> cases hc <;> cases h
  case syncReceived m =>
    refine .rxLock s _ _ _ fun t => ?_
    split
    · exact .refl t
    · split
      · exact .refl t
      · exact .of_hiLatch (fun hok => by simp [hok]) (by simp) (by simp)
  all_goals try dsimp only
  all_goals repeat' split
  all_goals
    exact .of_hiLatch (fun hok => by simp +contextual (maxDischargeDepth := 60) [hok])
      (by simp (maxDischargeDepth := 60)) (by simp (maxDischargeDepth := 60))

/-- The converters. -/
theorem adc_keeps {c : Instr} {s t : State} (hc : c.family = .adc) (h : exec c s = .next t) : s.Keeps t := by
  cases c <;> cases hc <;> cases h
  all_goals try dsimp only
  all_goals repeat' split
  all_goals
    exact .of_hiLatch (fun hok => by simp +contextual (maxDischargeDepth := 60) [hok])
      (by simp (maxDischargeDepth := 60)) (by simp (maxDischargeDepth := 60))

/-- Telemetry and capture. -/
theorem telemetry_keeps {c : Instr} {s t : State} (hc : c.family = .telemetry) (h : exec c s = .next t) : s.Keeps t := by
  cases c <;> cases hc <;> cases h
  all_goals try dsimp only
  all_goals repeat' split
  all_goals
    exact .of_hiLatch (fun hok => by simp +contextual (maxDischargeDepth := 60) [hok])
      (by simp (maxDischargeDepth := 60)) (by simp (maxDischargeDepth := 60))

/-- The check-value units. -/
theorem crc_keeps {c : Instr} {s t : State} (hc : c.family = .crc) (h : exec c s = .next t) : s.Keeps t := by
  cases c <;> cases hc <;> cases h
  all_goals repeat' split
  all_goals
    exact .of_hiLatch (fun hok => by simp +contextual (maxDischargeDepth := 60) [hok])
      (by simp (maxDischargeDepth := 60)) (by simp (maxDischargeDepth := 60))

/-- Staged configurations and epochs. -/
theorem epochs_keeps {c : Instr} {s t : State} (hc : c.family = .epochs) (h : exec c s = .next t) : s.Keeps t := by
  cases c <;> cases hc
  case stageConfig set slot => exact execStageConfig_keeps set slot s t h
  case commitEpoch set slot => exact execCommitEpoch_keeps set slot s t h
  case cmdCommit init value => exact execCmdCommit_keeps init value s t h
  all_goals cases h
  case' abortRetune => refine .command s _ _ _ _ fun p s => ?_
  all_goals try dsimp only
  all_goals repeat' split
  all_goals
    exact .of_hiLatch (fun hok => by simp +contextual (maxDischargeDepth := 60) [hok])
      (by simp (maxDischargeDepth := 60)) (by simp (maxDischargeDepth := 60))

/-- Images and processors. -/
theorem firmware_keeps {c : Instr} {s t : State} (hc : c.family = .firmware) (h : exec c s = .next t) : s.Keeps t := by
  cases c <;> cases hc <;> cases h
  case' loadImage | activateImage => refine .command s _ _ _ _ fun p s => ?_
  all_goals try dsimp only
  all_goals repeat' split
  all_goals
    exact .of_hiLatch (fun hok => by simp +contextual (maxDischargeDepth := 60) [hok])
      (by simp (maxDischargeDepth := 60)) (by simp (maxDischargeDepth := 60))

/-- The fault logic. -/
theorem faults_keeps {c : Instr} {s t : State} (hc : c.family = .faults) (h : exec c s = .next t) : s.Keeps t := by
  cases c <;> cases hc <;> cases h
  all_goals try dsimp only
  all_goals repeat' split
  all_goals
    exact .of_hiLatch (fun hok => by simp +contextual (maxDischargeDepth := 60) [hok])
      (by simp (maxDischargeDepth := 60)) (by simp (maxDischargeDepth := 60))

/-- Power-on, bring-up and the resets. -/
theorem boot_keeps {c : Instr} {s t : State} (hc : c.family = .boot) (h : exec c s = .next t) : s.Keeps t := by
  cases c <;> cases hc <;> cases h
  case aonPowerOn selfTest =>
    cases selfTest
    · exact s.aonReset_keeps.trans (.of_hiLatch (fun hok => by simp [hok]) (by simp) (by simp))
    · exact s.aonReset_keeps.trans (.of_hiLatch (fun hok => by simp [hok]) (by simp) (by simp))
  case gooseReset => exact s.aonReset_keeps
  case blRstNLow => exact s.blockResetApply_keeps 1
  case blockRst init held =>
    have hlevel : s.Keeps (s.setB .GLB_RST_STATUS_STACK_HELD 0 held) :=
      .of_hiLatch (fun hok => by simp [hok]) (by simp) (by simp)
    dsimp only
    split
    · split
      · exact hlevel
      · exact hlevel.trans (State.blockStopBegin_keeps _)
    · exact hlevel.trans (.of_hiLatch (fun hok => by simp [hok]) (by simp) (by simp))
  all_goals try dsimp only
  all_goals repeat' split
  all_goals
    exact .of_hiLatch (fun hok => by simp +contextual (maxDischargeDepth := 60) [hok])
      (by simp (maxDischargeDepth := 60)) (by simp (maxDischargeDepth := 60))

end Sys2Proof.Machine

/-! What a register write keeps, and so every command and every step. -/

namespace Sys2Proof.Machine
open Host (Outcome)

/-! ### Register writes -/

/-- Commands other than the accesses. -/
theorem exec_keeps_of_ne_access {c : Instr} {s t : State} (hc : c.family ≠ .access) (h : exec c s = .next t) :
    s.Keeps t := by
  cases hf : c.family
  case phases => exact phases_keeps hf h
  case domains => exact domains_keeps hf h
  case engine => exact engine_keeps hf h
  case rooster => exact rooster_keeps hf h
  case power => exact power_keeps hf h
  case thermal => exact thermal_keeps hf h
  case packets => exact packets_keeps hf h
  case herd => exact herd_keeps hf h
  case adc => exact adc_keeps hf h
  case telemetry => exact telemetry_keeps hf h
  case crc => exact crc_keeps hf h
  case epochs => exact epochs_keeps hf h
  case firmware => exact firmware_keeps hf h
  case faults => exact faults_keeps hf h
  case boot => exact boot_keeps hf h
  case access => exact absurd hf hc

/-- A register's action that is the meaning of a command. -/
theorem State.Keeps.act (c : Instr) (s : State) (hc : c.family ≠ .access := by nofun) : s.Keeps (s.then_ (exec c)) :=
  .then_ fun _ h => exec_keeps_of_ne_access hc h

theorem State.Keeps.act_when (c : Instr) (s : State) (b : Bool) (hc : c.family ≠ .access := by nofun) :
    s.Keeps (s.when b (fun s => s.then_ (exec c))) :=
  .when (.refl s) b fun u => .act c u hc

theorem State.writeField_keeps (s : State) (f : Fld) (i w : Nat) : s.Keeps (s.writeField f i w) := by
  have hset : ∀ v, s.Keeps (s.setF f i v) := fun v => .of_hiLatch (fun hok => by simp [hok]) (by simp) (by simp)
  unfold State.writeField
  split
  · exact .refl s
  · split
    · exact hset _
    · exact hset _
    · split
      · exact .refl s
      · exact hset _
    · exact .refl s

theorem State.crcWrite_keeps (s : State) (init u addr : Nat) (same : Bool) {f : State → State} (h : s.Keeps (f s)) :
    s.Keeps (s.crcWrite init u addr same f) := by
  have hinit : s.Keeps (s.refuseInit init addr) := .of_hiLatch (fun hok => by simp [hok]) (by simp) (by simp)
  have hlocked : s.Keeps (s.refuseLocked init addr) := .of_hiLatch (fun hok => by simp [hok]) (by simp) (by simp)
  unfold State.crcWrite
  split
  · exact .refl s
  · split
    · split
      · exact h
      · exact hinit
    · split
      · split
        · exact .refl s
        · exact hlocked
      · exact h

theorem State.writeCrc_keeps (s : State) (init u reg off w : Nat) : s.Keeps (s.writeCrc init u reg off w) := by
  unfold State.writeCrc
  split
  · exact .act (.crcSettingsWrite init u 0 w) s
  · exact .act (.crcSettingsWrite init u 1 w) s
  · exact .act (.crcSettingsWrite init u 2 w) s
  · exact s.crcWrite_keeps _ _ _ _ (.of_hiLatch (fun hok => by simp [hok]) (by simp) (by simp))
  · refine s.crcWrite_keeps _ _ _ _ (.when (.when (.when (.refl s) _ fun u => ?_) _ fun u => ?_) _ fun u => ?_)
    all_goals exact .of_hiLatch (fun hok => by simp [hok]) (by simp) (by simp)
  · exact .act (.crcData32 init u w) s
  · exact .act (.crcData8 init u w) s
  · exact .act (.crcValueWrite init u w) s
  · exact s.crcWrite_keeps _ _ _ _ (.refl s)
  · exact s.crcWrite_keeps _ _ _ _ (.of_hiLatch (fun hok => by simp +contextual [hok]) (by simp) (by simp))
  · exact .refl s

theorem State.writeBoot_keeps (s : State) (init off w : Nat) : s.Keeps (s.writeBoot init off w) := by
  unfold State.writeBoot
  split
  · exact .refl s
  · split
    · exact .of_hiLatch (fun hok => by simp [hok]) (by simp) (by simp)
    · exact (State.Keeps.act_when (.bootRelease init) s _).trans
        ((State.Keeps.act_when (.useRom init) _ _).trans (State.Keeps.act_when (.cfgCommit init) _ _))

theorem State.writeReset_keeps (s : State) (init w : Nat) : s.Keeps (s.writeReset init w) := by
  unfold State.writeReset
  refine .when (.act_when (.cpRst init) s _) _ fun u => ?_
  have hfresh : u.Keeps u.fresh.2 := .of_hiLatch (fun hok => by simp [hok]) rfl rfl
  exact hfresh.trans (.act (.blockRst init (u.fresh.1 % 2 = 1)) _)

theorem State.regAct_keeps (s : State) (init off w : Nat) (r : RegRow) (i : Nat) : s.Keeps (s.regAct init off w r i) := by
  unfold State.regAct
  split
  · exact s.writeBoot_keeps init off w
  · exact s.writeReset_keeps init w
  · exact .act_when (.watchdogKick init i) s _
  · exact .act (.cmdCommit init w) s
  · exact .act_when (.fuseProgram init (bitsOf w 9 0)) s _
  · exact .act_when (.fltHandle init (bitsOf w 15 8) (bitsOf w 3 0)) s _
  · exact .act_when (.fecValidClear init) s _
  · exact .act_when (.cntClr init (i / 16) (i % 16)) s _
  · exact (State.Keeps.act_when (.crcClaim init) s _).trans (.act_when (.crcRelease init) _ _)
  · exact .of_hiLatch (fun hok => by simp [hok]) (by simp) (by simp)
  · exact .act_when (.adcUrgReq (bitsOf w 23 16) (bitsOf w 15 14) (bitsOf w 5 0)) s _
  · refine State.Keeps.trans ?_ (.act_when (.converterRecheck i) _ _)
    split
    · exact .act (.converterOffline i) s
    · exact .act (.converterOnline i) s
  · exact .act_when (.sensorRecheck i) s _
  · exact .of_hiLatch (fun hok => by simp [hok]) (by simp) (by simp)
  · exact (State.Keeps.act_when (.decideFollow (bitsOf w 15 0)) s _).trans (.act_when (.decideEvict (bitsOf w 15 0)) _ _)
  · exact .of_hiLatch (fun hok => by simp [hok]) (by simp) (by simp)
  · exact .of_hiLatch (fun hok => by simp [hok]) (by simp) (by simp)
  · split <;> exact .of_hiLatch (fun hok => by simp [hok]) (by simp) (by simp)
  · have hton : s.Keeps (s.when (s.grp i ≠ 0) (fun s => s.updTon i)) :=
      .of_hiLatch (fun hok => by simp +contextual [hok]) (by simp) (by simp)
    split
    · exact hton.trans (.act (.groupEnable i) _)
    · exact hton.trans (.act (.groupDisable i) _)
  · refine State.Keeps.trans ?_ (.act_when (.phaseReadmit i) _ _)
    split
    · exact .act (.phaseDisable i) s
    · exact .act (.phaseCheckStart i) s
  · refine State.Keeps.trans ?_ (.act_when (.cellReadmit i) _ _)
    split
    · exact .act (.cellIsolate i) s
    · exact .act (.cellUnisolate i) s
  · exact .act_when (.droopSensorRecheck i) s _
  · exact .of_hiLatch (fun hok => by simp [hok]) (by simp) (by simp)
  · exact .when (.refl s) _ fun u => .of_hiLatch (fun hok => by simp [hok]) (by simp) (by simp)
  · split
    · exact .act (.slotOpen i) s
    · exact .act (.slotClose i) s
  · exact .refl s

theorem State.writeRow_keeps (s : State) (init off w : Nat) (r : RegRow) (i : Nat) : s.Keeps (s.writeRow init off w r i) := by
  unfold State.writeRow
  split
  · exact s.writeCrc_keeps _ _ _ _ _
  · refine State.Keeps.trans ?_ (State.regAct_keeps _ init off w r i)
    refine .when (.foldl (.when (.refl s) _ fun u => ?_) _ fun u f => u.writeField_keeps f i w) _ fun u => ?_
    · exact .of_hiLatch (fun hok => by simp [hok]) (by simp) (by simp)
    · exact .of_hiLatch (fun hok => by simp [hok]) (by simp) (by simp)

theorem State.writeWord_keeps (s : State) (init off w : Nat) : s.Keeps (s.writeWord init off w) := by
  unfold State.writeWord
  split
  · exact .of_hiLatch (fun hok => by simp [hok]) (by simp) (by simp)
  · split
    · exact .of_hiLatch (fun hok => by simp [hok]) (by simp) (by simp)
    · split
      · exact .refl s
      · dsimp only
        split
        · exact s.writeRow_keeps _ _ _ _ _
        · exact .refl s

theorem execRegisterWrite_keeps (bus : Bool) (init off size value : Nat) (s t : State)
    (h : execRegisterWrite bus init off size value s = .next t) : s.Keeps t := by
  obtain rfl := Outcome.next.inj h
  split
  · exact .refl s
  · split
    · exact .of_hiLatch (fun hok => by simp [hok]) (by simp) (by simp)
    · exact s.writeWord_keeps _ _ _

theorem execLinkTest_keeps (set slot : Nat) (s t : State) (h : execLinkTest set slot s = .next t) : s.Keeps t := by
  obtain rfl := Outcome.next.inj h
  refine .command s _ _ _ _ fun p s => ?_
  dsimp only
  repeat' split
  all_goals exact .of_hiLatch (fun hok => by simp [hok]) (by simp) (by simp)

theorem execLinkTestEnd_keeps (link bits errors : Nat) (locked : Bool) (s t : State)
    (h : execLinkTestEnd link bits errors locked s = .next t) : s.Keeps t := by
  obtain rfl := Outcome.next.inj h
  split
  · exact .refl s
  · split
    · exact .refl s
    · exact .of_hiLatch (fun hok => by simp +contextual (maxDischargeDepth := 60) [hok]) (by simp) (by simp)

theorem access_keeps {c : Instr} {s t : State} (hc : c.family = .access) (h : exec c s = .next t) : s.Keeps t := by
  cases c <;> cases hc
  case linkTest set slot => exact execLinkTest_keeps set slot s t h
  case linkTestEnd link bits errors locked => exact execLinkTestEnd_keeps link bits errors locked s t h
  case highWordLatchRead init off => exact execHighWordLatchRead_keeps init off s t h
  case registerWrite bus init off size value => exact execRegisterWrite_keeps bus init off size value s t h

/-- No command breaks the form of the register table, records another quantity in a latch, or touches the queue. -/
theorem exec_keeps {c : Instr} {s t : State} (h : exec c s = .next t) : s.Keeps t := by
  by_cases hc : c.family = .access
  · exact access_keeps hc h
  · exact exec_keeps_of_ne_access hc h

theorem State.advance_keeps (s : State) : s.Keeps s.advance :=
  .of_hiLatch (fun hok => by simp [hok]) (by simp) (by simp)

/-- What a step keeps of the register table and the latches; the queue loses its front. -/
theorem step_keeps {s t : State} (h : step s = .next t) :
    (s.fieldsOk → t.fieldsOk) ∧ (s.latchesOk → t.latchesOk) := by
  unfold step at h
  split at h
  · obtain rfl := Outcome.next.inj h
    exact ⟨s.advance_keeps.fields, s.advance_keeps.latches⟩
  · exact ⟨(exec_keeps h).fields, (exec_keeps h).latches⟩

/-- Settles O6: no step stores a value out of its field's width or an entry out of its place. -/
theorem stepsKeepTheRegisterTable : Obligations.StepsKeepTheRegisterTable :=
  fun _ _ hok h => (step_keeps h).1 hok

/-- Settles O7: HIGH_WORD_LATCH_READ records the low words of wide registers alone, and resets clear the records. -/
theorem stepsKeepTheLatches : Obligations.StepsKeepTheLatches :=
  fun _ _ hok h => (step_keeps h).2 hok

/-- Settles O8: each part of a command that changes the state leaves the queue. -/
theorem commandsKeepTheQueue : Obligations.CommandsKeepTheQueue :=
  fun _ _ _ h => (exec_keeps h).queue

end Sys2Proof.Machine

/-! What the commands of faults, accesses, bring-up and reset leave unchanged. Each operation's frame is a lemma of the laws; a
family's frame puts them together, arm by arm, under the list of the command. -/

namespace Sys2Proof.Machine
open Host (Outcome)

/-- A statement about every part, part by part. -/
theorem Part.forall_iff {P : Part → Prop} : (∀ p, P p) ↔
    P .time ∧ P .cfg ∧ P .raiseQ ∧ P .out ∧ P .freeCtr ∧ P .flt ∧ P .phs ∧ P .dom ∧ P .eng ∧ P .start ∧ P .est ∧ P .bud ∧
      P .thm ∧ P .hrd ∧ P .tlm ∧ P .cmd ∧ P .boot ∧ P .adc ∧ P .fw ∧ P .lt := by
  constructor
  · intro h
    simp [h]
  · rintro ⟨_, _, _, _, _, _, _, _, _, _, _, _, _, _, _, _, _, _, _, _⟩ p
    cases p <;> assumption

/-- The commands of the fault logic. -/
theorem faults_frame {c : Instr} {s t : State} {fs : List Fld} (hc : c.family = .faults) (hw : c.writes = some fs)
    (h : exec c s = .next t) : s.onlyChanges t fs c.parts := by
  cases c <;> cases hc <;> cases hw <;> cases h
  all_goals try dsimp only
  all_goals repeat' split
  all_goals refine ⟨fun f i hf => ?_, by simp (maxDischargeDepth := 60) [Part.forall_iff, Instr.parts, Part.same]⟩
  all_goals
    try simp only [domEnterFields, latchFields, sourceFields, replyFields,
      List.cons_append, List.nil_append, List.mem_cons, not_or] at hf
  all_goals simp (maxDischargeDepth := 60) [hf]

/-- Reads and link tests; a register write lists no fields. -/
theorem access_frame {c : Instr} {s t : State} {fs : List Fld} (hc : c.family = .access) (hw : c.writes = some fs)
    (h : exec c s = .next t) : s.onlyChanges t fs c.parts := by
  cases c <;> cases hc <;> cases hw <;> cases h
  all_goals try dsimp only
  all_goals repeat' split
  all_goals refine ⟨fun f i hf => ?_, by simp (maxDischargeDepth := 60) [Part.forall_iff, Instr.parts, Part.same]⟩
  all_goals
    try simp only [idleFields, offerFields, replyFields,
      List.cons_append, List.nil_append, List.mem_cons, not_or] at hf
  all_goals simp (maxDischargeDepth := 60) [hf]

/-- Bring-up and reset, but for the commands that list no fields. -/
theorem boot_frame {c : Instr} {s t : State} {fs : List Fld} (hc : c.family = .boot) (hw : c.writes = some fs)
    (h : exec c s = .next t) : s.onlyChanges t fs c.parts := by
  cases c <;> cases hc <;> cases hw <;> cases h
  all_goals try dsimp only
  all_goals repeat' split
  all_goals refine ⟨fun f i hf => ?_, by simp (maxDischargeDepth := 60) [Part.forall_iff, Instr.parts, Part.same]⟩
  all_goals
    try simp only [domEnterFields, settleFields, cpFields, rampFields, idleFields, offerFields, dutyFields,
      converterFields, List.cons_append, List.nil_append, List.mem_cons, not_or] at hf
  all_goals simp (maxDischargeDepth := 60) [hf]

/-- Settles O60, family by family. -/
theorem faultsAccessAndBootFrame : Obligations.FaultsAccessAndBootFrame := by
  rintro c s t fs (hc | hc | hc) hw h
  · exact faults_frame hc hw h
  · exact access_frame hc hw h
  · exact boot_frame hc hw h

end Sys2Proof.Machine

/-! Misaligned accesses and the first-error capture (R11, R418). -/

namespace Sys2Proof.Machine
open Host (Outcome)

/-- A free first-error capture takes the raise (R418). -/
theorem State.capture_of_free {s : State} (hfree : s.isSet .FLT_FEC_INFO_VALID 0 = false) (x : Raise) :
    (s.capture x).getF .FLT_FEC_INFO_VALID 0 = 1 ∧
      (s.capture x).getF .FLT_FEC_INFO_MASTER 0 = x.master % 2 ^ Fld.width .FLT_FEC_INFO_MASTER ∧
      (s.capture x).getF .FLT_FEC_INFO_TYPE 0 = x.typ % 2 ^ Fld.width .FLT_FEC_INFO_TYPE ∧
      (s.capture x).getF .FLT_FEC_ADDR_LO_ADDR_LO 0 = x.addr % 2 ^ Fld.width .FLT_FEC_ADDR_LO_ADDR_LO ∧
      (s.capture x).getF .FLT_FEC_INFO_SUB 0 = x.sub % 2 ^ Fld.width .FLT_FEC_INFO_SUB ∧
      (s.capture x).getF .FLT_FEC_INFO_CODE 0 = x.code % 2 ^ Fld.width .FLT_FEC_INFO_CODE := by
  unfold State.capture
  rw [hfree, if_neg Bool.false_ne_true]
  have hwidth : 0 < Fld.width .FLT_FEC_INFO_VALID := by decide
  simp [hwidth]

/-- What the fault logic does with a raise beyond the capture leaves the captured access. -/
theorem execFaultRaise_single {s : State} {x : Raise} (hq : s.raiseQ = [x]) (hcls : x.cls ≠ 3) :
    ∃ t, execFaultRaise 0 s = .next t ∧ ∀ f ∈ ([.FLT_FEC_INFO_VALID, .FLT_FEC_INFO_MASTER, .FLT_FEC_INFO_TYPE,
      .FLT_FEC_INFO_SUB, .FLT_FEC_INFO_CODE, .FLT_FEC_ADDR_LO_ADDR_LO] : List Fld), ∀ i,
      t.getF f i = ((({ s with raiseQ := [] } : State).bumpF .FLT_SRC_RAISES x.key).capture x).getF f i := by
  have hpick : pickRaise (fun x => x.cls ≠ 3) [] s.raiseQ 0 = some (x, []) := by
    rw [hq]
    simp [pickRaise, hcls]
  refine ⟨_, by rw [execFaultRaise, hpick], fun f hf i => ?_⟩
  simp only [List.mem_cons, List.not_mem_nil, or_false] at hf
  obtain rfl | rfl | rfl | rfl | rfl | rfl := hf
  all_goals simp (maxDischargeDepth := 60) [State.takeRaise]

/-- Settles O42: the access is answered before any register is reached, and the capture of its raise keeps what the access gave. -/
theorem misalignedAccessesAreRefused : Obligations.MisalignedAccessesAreRefused := by
  refine ⟨fun s bus init off size value hoff hbad => ?_, fun s init off hoff hbad => ?_, fun s init off typ time hq hfree => ?_⟩
  · have hrefused : size ≠ 4 ∨ off % 4 ≠ 0 ∨ (bus = true ∧ 0xF0 ≤ init) := by tauto
    show execRegisterWrite bus init off size value s = _
    rw [execRegisterWrite, if_neg (Nat.not_le.mpr hoff), if_pos hrefused]
  · show execHighWordLatchRead init off s = _
    rw [execHighWordLatchRead, if_neg (Nat.not_le.mpr hoff), if_pos hbad]
  · obtain ⟨t, ht, hkept⟩ := execFaultRaise_single hq (by decide : sourceClass 0x0F 2 ≠ 3)
    have hfree' : (({ s with raiseQ := [] } : State).bumpF .FLT_SRC_RAISES (16 * 0x0F + 2)).isSet .FLT_FEC_INFO_VALID 0 =
        false := by
      simpa [State.isSet] using hfree
    obtain ⟨hvalid, hmaster, htyp, haddr, hsub, hcode⟩ := State.capture_of_free hfree' _
    refine ⟨t, ht, ?_, (hkept _ (by decide) _).trans hmaster, (hkept _ (by decide) _).trans htyp,
      (hkept _ (by decide) _).trans haddr, (hkept _ (by decide) _).trans hsub, (hkept _ (by decide) _).trans hcode⟩
    rw [State.isSet, (hkept _ (by decide) _).trans hvalid]
    rfl

end Sys2Proof.Machine

/-! Reads of the window and the high-word latches (R11, R13, R18). -/

namespace Sys2Proof.Machine
open Host (Outcome)

/-! ### What a read sees -/

theorem State.emit_view (s : State) (m : OutMsg) (f : Fld) (i : Nat) : (s.emit m).view f i = s.view f i := by
  unfold State.view
  split <;> rfl

theorem State.emit_readWord (s : State) (m : OutMsg) (off : Nat) : (s.emit m).readWord off = s.readWord off := by
  have hitem : ∀ r i, (s.emit m).itemAt r i = s.itemAt r i := fun _ _ => rfl
  have hcfg : (s.emit m).cfg = s.cfg := rfl
  simp only [State.readWord, hitem, hcfg, State.emit_view]

/-! ### The latches -/

theorem State.latchOf_setLatch_same (s : State) (init : Nat) (q : Option (Nat × Nat)) :
    (s.setLatch init q).latchOf init = q := by
  cases q <;> simp [State.latchOf, State.setLatch]

theorem State.latchOf_setLatch_other (s : State) {init other : Nat} (hne : other ≠ init) (q : Option (Nat × Nat)) :
    (s.setLatch init q).latchOf other = s.latchOf other := by
  have hrest : (s.cmd.hiLatch.filter (fun p => p.1 ≠ init)).find? (fun p => p.1 = other) =
      s.cmd.hiLatch.find? (fun p => p.1 = other) := by
    rw [List.find?_filter]
    congr
    funext p
    by_cases hp : p.1 = other <;> simp [hp, hne]
  cases q with
  | none => exact congrArg (Option.map _) hrest
  | some q =>
    have hhead : decide (init = other) = false := by simpa using hne.symm
    simpa [State.latchOf, State.setLatch, List.find?_cons, hhead] using congrArg (Option.map (fun p => p.2)) hrest

theorem State.latchOf_mem {s : State} {init : Nat} {q : Nat × Nat} (h : s.latchOf init = some q) :
    (init, q) ∈ s.cmd.hiLatch := by
  obtain ⟨p, hp, rfl⟩ := Option.map_eq_some_iff.mp h
  have hinit : p.1 = init := by simpa using List.find?_some hp
  exact hinit ▸ List.mem_of_find?_eq_some hp

/-- Where no record is for the word 4 below, a read sees the register itself. -/
theorem State.readBy_eq_readWord {s : State} {init off : Nat} (hdbg : off < 0x80000 ∨ 0xC000C < off)
    (h : ∀ q ∈ s.latchOf init, off ≠ q.1 + 4) : s.readBy init off = s.readWord off := by
  have hsram : ¬ (0x80000 ≤ off ∧ off < 0xC0000) := by omega
  unfold State.readBy
  rw [if_neg hsram]
  split
  · next q w hq => exact if_neg (h (q, w) hq)
  · rfl

theorem State.readBy_latched {s : State} {init off w : Nat} (hdbg : off + 4 < 0x80000) (h : s.latchOf init = some (off, w)) :
    s.readBy init (off + 4) = w := by
  have hsram : ¬ (0x80000 ≤ off + 4 ∧ off + 4 < 0xC0000) := by omega
  unfold State.readBy
  rw [if_neg hsram, h]
  exact if_pos rfl

/-! ### The wide registers -/

/-- The high word of a wide register is a register of the window, and no wide register's low word. -/
theorem wideRegs_high : ∀ off ∈ wideRegs, (regAt (off + 4)).isSome ∧ off + 4 ∉ wideRegs := by decide

/-- Wide registers lie outside the slots and the debug window. -/
theorem wideRegs_area : ∀ off ∈ wideRegs, off % 4 = 0 ∧ off + 4 < 0x80000 ∧ (off + 4 < 0x20000 ∨ 0x60000 ≤ off) ∧
    (regAt off).isSome := by decide

/-! ### An aligned write -/

/-- An aligned 32-bit write, from the bus of an initiator that is not reserved. -/
theorem execRegisterWrite_word {s : State} {bus : Bool} {init off value : Nat} (hoff : off < 2 ^ 20) (halign : off % 4 = 0)
    (hbus : bus = true → init < 0xF0) :
    execRegisterWrite bus init off 4 value s = .next (s.writeWord init off (value % 2 ^ 32)) := by
  have hok : ¬ (4 ≠ 4 ∨ off % 4 ≠ 0 ∨ (bus = true ∧ 0xF0 ≤ init)) := by
    rintro (h | h | ⟨hb, h⟩)
    · exact h rfl
    · exact h halign
    · exact absurd (hbus hb) (Nat.not_lt.mpr h)
  rw [execRegisterWrite, if_neg (Nat.not_le.mpr hoff), if_neg hok]

theorem State.writeWord_of_regAt_none {s : State} {off : Nat} (hnone : regAt off = none)
    (hslot : off < 0x20000 ∨ 0x40000 ≤ off) (hdbg : off < 0x80000 ∨ 0xC000C < off) (init w : Nat) :
    s.writeWord init off w = s := by
  have hslots : ¬ (0x20000 ≤ off ∧ off < 0x40000) := by omega
  unfold State.writeWord
  rw [if_neg hslots]
  split
  · exact if_pos hdbg
  · rw [hnone]

/-! ### A read outside the slots and the debug window -/

section

variable {s : State} {init off : Nat} (hoff : off < 2 ^ 20) (halign : off % 4 = 0) (hslot : off < 0x20000 ∨ 0x60000 ≤ off)
  (hdbg : off < 0x80000 ∨ 0xC000C < off)

include hoff halign hslot hdbg

/-- The read answers what the initiator sees; its latch then takes or loses its record. -/
theorem execHighWordLatchRead_register : execHighWordLatchRead init off s = .next (
    let t := s.emit (.readData init off (s.readBy init off))
    if wideRegs.contains off then t.setLatch init (some (off, s.readWord (off + 4)))
    else if (s.latchOf init).any (fun q => off = q.1 + 4) then t.setLatch init none
    else t) := by
  have hreply : ¬ (0x40000 ≤ off ∧ off < 0x60000) := by omega
  have hopen : s.readOpen init off = false := by
    simp only [State.readOpen, decide_eq_false_iff_not]
    omega
  have hlatch : ∀ m, (s.emit m).latchOf init = s.latchOf init := fun _ => rfl
  simp only [execHighWordLatchRead, Nat.not_le.mpr hoff, halign, hreply, hopen, State.emit_readWord, hlatch, if_false,
    ne_eq, not_true_eq_false, Bool.false_eq_true]

theorem execHighWordLatchRead_low (hw : off ∈ wideRegs) : execHighWordLatchRead init off s =
    .next ((s.emit (.readData init off (s.readBy init off))).setLatch init (some (off, s.readWord (off + 4)))) := by
  rw [execHighWordLatchRead_register hoff halign hslot hdbg]
  exact congrArg Outcome.next (if_pos (by simpa using hw))

theorem execHighWordLatchRead_recorded (hw : off ∉ wideRegs) {q : Nat × Nat} (hrec : s.latchOf init = some q)
    (hq : off = q.1 + 4) : execHighWordLatchRead init off s =
      .next ((s.emit (.readData init off (s.readBy init off))).setLatch init none) := by
  rw [execHighWordLatchRead_register hoff halign hslot hdbg]
  exact congrArg Outcome.next ((if_neg (by simpa using hw)).trans (if_pos (by simp [hrec, hq])))

theorem execHighWordLatchRead_plain (hw : off ∉ wideRegs) (hrec : ∀ q ∈ s.latchOf init, off ≠ q.1 + 4) :
    execHighWordLatchRead init off s = .next (s.emit (.readData init off (s.readWord off))) := by
  have hany : (s.latchOf init).any (fun q => off = q.1 + 4) = false := by
    cases hq : s.latchOf init with
    | none => rfl
    | some q => simpa using hrec q hq
  rw [execHighWordLatchRead_register hoff halign hslot hdbg, hany, State.readBy_eq_readWord hdbg hrec]
  exact congrArg Outcome.next (if_neg (by simpa using hw))

end

/-! ### The statements -/

/-- Settles O43: the table holds no row there, and no latch records the word below. -/
theorem unassignedOffsetsReadZero : Obligations.UnassignedOffsetsReadZero := by
  refine ⟨fun s init off hoff halign hnone hslot hdbg hlatches => ?_,
    fun s bus init off value hoff halign hnone hslot hdbg hbus => ?_⟩
  · have hrec : ∀ q ∈ s.latchOf init, off ≠ q.1 + 4 := by
      rintro q hq rfl
      have hsome := (wideRegs_high q.1 (hlatches _ (State.latchOf_mem hq))).1
      simp [hnone] at hsome
    have hwide : off ∉ wideRegs := fun hw => by simpa [hnone] using (wideRegs_area off hw).2.2.2
    have hzero : s.readWord off = 0 := by simp [State.readWord, hnone]
    rw [← hzero]
    exact execHighWordLatchRead_plain hoff halign hslot hdbg hwide hrec
  · refine (execRegisterWrite_word hoff halign hbus).trans ?_
    rw [State.writeWord_of_regAt_none hnone hslot hdbg]

/-- Settles O44: a low word loads the latch, a recorded high word answers from it and clears it. -/
theorem wideReadsAreNotTorn : Obligations.WideReadsAreNotTorn := by
  refine ⟨fun s init other off hw hlatches hne => ?_, fun s init other off w hw hrec hne => ?_, fun s init off hw hother => ?_⟩
  all_goals
    obtain ⟨halign, hdbg, hslot, -⟩ := wideRegs_area off hw
    have hlow := (wideRegs_high off hw).2
  · have hrec : ∀ q ∈ s.latchOf init, off ≠ q.1 + 4 := by
      rintro q hq rfl
      exact (wideRegs_high q.1 (hlatches _ (State.latchOf_mem hq))).2 hw
    rw [← State.readBy_eq_readWord (by omega) hrec]
    exact ⟨_, execHighWordLatchRead_low (by omega) halign (by omega) (by omega) hw, rfl, State.latchOf_setLatch_same _ _ _,
      State.latchOf_setLatch_other _ hne _, rfl, rfl⟩
  · have hout := execHighWordLatchRead_recorded (off := off + 4) (by omega) (by omega) (by omega) (by omega) hlow hrec rfl
    rw [State.readBy_latched hdbg hrec] at hout
    exact ⟨_, hout, rfl, State.latchOf_setLatch_same _ _ _, State.latchOf_setLatch_other _ hne _, rfl⟩
  · refine execHighWordLatchRead_plain (by omega) (by omega) (by omega) (by omega) hlow fun q hq heq => ?_
    rw [Option.mem_def.mp hq] at hother
    have hne : q.1 ≠ off := (of_decide_eq_true hother).1
    omega

end Sys2Proof.Machine

/-! Writes of registers without an action of their own (R14, R16). -/

namespace Sys2Proof.Machine
open Host (Outcome)

theorem Part.same.refl (p : Part) (s : State) : p.same s s := by
  cases p <;> rfl

theorem Part.same.trans {p : Part} {s t u : State} (h : p.same s t) (h' : p.same t u) : p.same s u := by
  cases p <;> exact Eq.trans h' h

/-! ### One field -/

theorem State.writeField_getF_other (s : State) {f g : Fld} {i j : Nat} (w : Nat) (h : g ≠ f ∨ j ≠ i) :
    (s.writeField f i w).getF g j = s.getF g j := by
  have hset : ∀ v, (s.setF f i v).getF g j = s.getF g j := fun v => by
    rw [State.getF_setF, if_neg (by tauto)]
  unfold State.writeField
  split
  · rfl
  · split
    · exact hset _
    · exact hset _
    · split
      · rfl
      · exact hset _
    · rfl

theorem State.writeField_getF_ro (s : State) (f : Fld) (i w : Nat) {g : Fld} (hg : g.info.acc = .ro) (j : Nat) :
    (s.writeField f i w).getF g j = s.getF g j := by
  by_cases h : g = f
  · subst h
    unfold State.writeField
    rw [hg]
    exact congrArg (State.getF · g j) (ite_self s)
  · exact s.writeField_getF_other w (.inl h)

theorem State.writeField_committed (s : State) (f : Fld) (i w : Nat) : (s.writeField f i w).committed = s.committed := by
  simp only [State.committed, State.isSet, s.writeField_getF_ro f i w (g := .GLB_BOOT_STATUS_CFG_COMMITTED) rfl]

theorem State.holdsOff_congr {s t : State} (hrun : t.getF .TLM_STATUS_RUNNING 0 = s.getF .TLM_STATUS_RUNNING 0)
    (hcap : t.getF .TLM_CAP_STATUS_STATE 0 = s.getF .TLM_CAP_STATUS_STATE 0) (f : Fld) : t.holdsOff f = s.holdsOff f := by
  have hset : t.isSet .TLM_STATUS_RUNNING 0 = s.isSet .TLM_STATUS_RUNNING 0 := by simp only [State.isSet, hrun]
  have hst : t.capSt = s.capSt := hcap
  unfold State.holdsOff
  rw [hset, hst]

theorem State.writeField_holdsOff (s : State) (f : Fld) (i w : Nat) (g : Fld) : (s.writeField f i w).holdsOff g = s.holdsOff g :=
  State.holdsOff_congr (s.writeField_getF_ro f i w rfl 0) (s.writeField_getF_ro f i w rfl 0) g

/-- What a field takes depends on what it reads, the commit and what holds it off. -/
theorem State.writeField_getF_congr {s t : State} {f : Fld} {i : Nat} (w : Nat) (hf : t.getF f i = s.getF f i)
    (hc : t.committed = s.committed) (hh : t.holdsOff f = s.holdsOff f) :
    (t.writeField f i w).getF f i = (s.writeField f i w).getF f i := by
  unfold State.writeField
  rw [hh, hc, hf]
  split
  · exact hf
  · split
    · simp
    · simp
    · split
      · exact hf
      · simp
    · exact hf

theorem State.writeField_parts (s : State) (f : Fld) (i w : Nat) (p : Part) : p.same s (s.writeField f i w) := by
  have hset : ∀ v, p.same s (s.setF f i v) := fun v => by cases p <;> rfl
  unfold State.writeField
  repeat' split
  all_goals simp only [hset, Part.same.refl]

/-- What a write leaves in a field of the register, by the field's type. -/
theorem State.writeField_getF_self {s : State} {f : Fld} (i w : Nat) (hact : f ∉ actingFields) (hheld : s.holdsOff f = false) :
    (s.writeField f i w).getF f i = match f.info.acc with
      | .rw => f.part w
      | .rw1c => (s.getF f i - Nat.land (s.getF f i) (f.part w)) % 2 ^ f.width
      | .rwl => if s.committed then s.getF f i else f.part w
      | _ => s.getF f i := by
  have hpart : f.part w % 2 ^ f.width = f.part w := Nat.mod_mod _ _
  unfold State.writeField
  rw [if_neg (by simp [hact, hheld])]
  cases f.info.acc with
  | rw => simp [hpart]
  | rw1c => simp
  | rwl => cases s.committed <;> simp [hpart]
  | ro => rfl
  | wo => rfl
  | rwe => rfl

/-! ### The fields of a register -/

/-- The fields take the value one after the other. -/
def State.writeFields (s : State) (fs : List Fld) (i w : Nat) : State := fs.foldl (fun t f => t.writeField f i w) s

theorem State.writeFields_getF_other {s : State} {fs : List Fld} {i w : Nat} {g : Fld} {j : Nat} (h : g ∉ fs ∨ j ≠ i) :
    (s.writeFields fs i w).getF g j = s.getF g j := by
  induction fs generalizing s with
  | nil => rfl
  | cons f fs ih =>
    have hrest : g ∉ fs ∨ j ≠ i := h.imp_left fun h hm => h (List.mem_cons_of_mem _ hm)
    have hhead : g ≠ f ∨ j ≠ i := h.imp_left List.ne_of_not_mem_cons
    exact (ih hrest).trans (s.writeField_getF_other w hhead)

theorem State.writeFields_getF_mem {s : State} {fs : List Fld} (hnodup : fs.Nodup) {f : Fld} (hf : f ∈ fs) (i w : Nat) :
    (s.writeFields fs i w).getF f i = (s.writeField f i w).getF f i := by
  induction fs generalizing s with
  | nil => exact absurd hf List.not_mem_nil
  | cons g fs ih =>
    obtain ⟨hg, hfs⟩ := List.nodup_cons.mp hnodup
    obtain rfl | hmem := List.mem_cons.mp hf
    · exact State.writeFields_getF_other (.inl hg)
    · have hne : f ≠ g := fun h => hg (h ▸ hmem)
      refine (ih hfs hmem).trans ?_
      exact State.writeField_getF_congr w (s.writeField_getF_other w (.inl hne)) (s.writeField_committed g i w)
        (s.writeField_holdsOff g i w f)

theorem State.writeFields_parts (s : State) (fs : List Fld) (i w : Nat) (p : Part) : p.same s (s.writeFields fs i w) := by
  induction fs generalizing s with
  | nil => exact .refl p s
  | cons f fs ih =>
    exact (s.writeField_parts f i w p).trans (ih (s.writeField f i w))

/-! ### Rows of the register table -/

theorem regAt_mem {off : Nat} {r : RegRow} {i : Nat} (h : regAt off = some (r, i)) : r ∈ regRows := by
  obtain ⟨r', hr', hmap⟩ := List.exists_of_findSome?_eq_some h
  obtain ⟨j, -, hj⟩ := Option.map_eq_some_iff.mp hmap
  exact (Prod.mk.inj hj).1 ▸ hr'

set_option maxRecDepth 10000 in
/-- No register lists a field twice. -/
theorem regRows_flds_nodup : ∀ r ∈ regRows, r.flds.Nodup := by decide

set_option maxRecDepth 10000 in
/-- The registers of the check-value units act. -/
theorem crcRows_acting : ∀ r ∈ regRows, 0x03000 ≤ r.base ∧ r.base < 0x03040 → r.base ∈ actingRegs := by decide

theorem State.regAct_of_not_acting {s : State} {r : RegRow} (h : r.base ∉ actingRegs) (init off w i : Nat) :
    s.regAct init off w r i = s := by
  unfold State.regAct
  split
  case h_26 => rfl
  all_goals
    next hbase =>
    rw [hbase] at h
    exact absurd (by decide) h

/-- The write of a register that does not act and stages nothing: its fields by their types, and the raise of a locked field. -/
theorem State.writeRow_of_plain {s : State} {r : RegRow} (hr : r ∈ regRows) (hact : r.base ∉ actingRegs)
    (hrwe : r.bits .rwe = 0) (init off w i : Nat) : s.writeRow init off w r i =
      (s.when (s.committed ∧ s.changesLocked r i w) (fun s => s.refuseLocked init off)).writeFields r.flds i w := by
  have hcrc : ¬ (0x03000 ≤ r.base ∧ r.base < 0x03040) := fun h => hact (crcRows_acting r hr h)
  unfold State.writeRow
  rw [if_neg hcrc]
  dsimp only
  rw [State.regAct_of_not_acting hact, hrwe]
  rfl

theorem State.writeWord_of_regAt_some {s : State} {off : Nat} {r : RegRow} {i : Nat} (hreg : regAt off = some (r, i))
    (hslot : off < 0x20000 ∨ 0x40000 ≤ off) (hdbg : off < 0x80000) (init w : Nat) :
    s.writeWord init off w = if unitExists s.cfg.table r (s.itemAt r i) then s.writeRow init off w r (s.itemAt r i) else s := by
  have hslots : ¬ (0x20000 ≤ off ∧ off < 0x40000) := by omega
  unfold State.writeWord
  rw [if_neg hslots, if_neg (Nat.not_le.mpr hdbg), hreg]

/-- Settles O50: the fields of a register are apart, and what holds a field off or locks it is read from
fields that no write takes. -/
theorem plainRegisterWritesTouchOneRegister : Obligations.PlainRegisterWritesTouchOneRegister := by
  refine ⟨fun s bus init off value r i hoff halign hbus hslot hreg hunit hact hrwe => ?_,
    fun s bus init off value r i hoff halign hbus hslot hreg hunit => ?_⟩
  · have hr := regAt_mem hreg
    have hwrite := execRegisterWrite_word (s := s) (value := value) (by omega : off < 2 ^ 20) halign hbus
    rw [State.writeWord_of_regAt_some hreg hslot hoff, if_pos hunit, State.writeRow_of_plain hr hact hrwe] at hwrite
    generalize s.itemAt r i = j at hwrite ⊢
    generalize hu : s.when (s.committed ∧ s.changesLocked r j (value % 2 ^ 32)) (fun s => s.refuseLocked init off) = u at hwrite
    have hget : ∀ f k, u.getF f k = s.getF f k := fun f k => by simp [← hu]
    have hparts : ∀ p : Part, p ≠ .raiseQ → p.same s u := fun p hp => by
      cases p <;> simp_all [← hu, Part.same]
    refine ⟨_, hwrite, fun f k hf => (State.writeFields_getF_other hf).trans (hget f k),
      fun p hp => (hparts p hp).trans (u.writeFields_parts _ _ _ p), fun f hf hfact hheld => ?_⟩
    have hheld' : u.holdsOff f = false := (State.holdsOff_congr (hget _ _) (hget _ _) f).trans hheld
    have hcommitted : u.committed = s.committed := by simp only [State.committed, State.isSet, hget]
    have hfield := (State.writeFields_getF_mem (s := u) (regRows_flds_nodup r hr) hf j (value % 2 ^ 32)).trans
      (State.writeField_getF_self j (value % 2 ^ 32) hfact hheld')
    rw [hcommitted, hget] at hfield
    rw [hfield]
    cases f.info.acc <;> rfl
  · refine (execRegisterWrite_word (by omega) halign hbus).trans ?_
    rw [State.writeWord_of_regAt_some hreg hslot hoff, hunit]
    rfl

end Sys2Proof.Machine

/-! The check-value units in a state out of its canonical form. -/

namespace Sys2Proof.Machine

/-- A state out of the table's canonical form: unit 1 holds a width of 33 bits, which its 5-bit field cannot store. -/
def wideCrcState : State := { State.reset with fields := [(.CRC_CFG_WIDTH_M1, [(1, 32)])] }

/-- VALUE stores 32 bits, whatever the width. -/
theorem crcValueWrite_wideCrcState (t : State) (h : exec (.crcValueWrite 0 1 (2 ^ 32)) wideCrcState = .next t) :
    t.getF .CRC_VALUE_VALUE 1 = 0 := by
  cases h
  decide

/-- Refutes O29: CRC_VALUE_WRITE has no bound on the stored width, and in a state whose width is 33 bits a written value of 2^32 is
cut to the 32 bits of VALUE and not to the width. -/
theorem not_checkValueUnitsCompute : ¬ Obligations.CheckValueUnitsCompute := by
  unfold Obligations.CheckValueUnitsCompute
  rintro ⟨-, -, -, -, -, -, -, -, -, hvalueWrite, -⟩
  obtain ⟨t, ht, -, hvalue⟩ := hvalueWrite wideCrcState 1 0 (2 ^ 32) (by decide) (by decide) (by decide) (by decide)
  have hstored := crcValueWrite_wideCrcState t ht
  have hwidth : 2 ^ 32 % 2 ^ wideCrcState.crcW 1 = 2 ^ 32 := by decide
  omega

end Sys2Proof.Machine

/-! Reads of the debug window under a stray latch. -/

namespace Sys2Proof.Machine

/-- A processor in DEBUG whose one known SRAM word is 7, read by an initiator of class HOST whose latch records a quantity that is
none of the window's, just below the debug window. -/
def strayLatchState : State :=
  { State.reset with
    fields := [(.CMD_PRIV_CLASS, [(0, 5)]), (.GLB_CP_STATUS_STATE, [(0, 5)])]
    fw := { State.reset.fw with sram := [(0, 7)] }
    cmd := { State.reset.cmd with hiLatch := [(0, (0x7FFFC, 0))] } }

/-- The read takes the stray record for the word below and clears it. -/
theorem highWordLatchRead_strayLatchState (t : State) (h : exec (.highWordLatchRead 0 0x80000) strayLatchState = .next t) :
    t.latchOf 0 = none := by
  cases h
  decide

/-- Refutes O38: the clause of the debug window lets a latch record any quantity, and where it records the word below, a read of the
known SRAM word not only answers it but clears the record. -/
theorem not_accessesReachTheirRegisters : ¬ Obligations.AccessesReachTheirRegisters := by
  unfold Obligations.AccessesReachTheirRegisters
  rintro ⟨-, -, -, -, -, -, -, -, hsram, -⟩
  have hread := hsram strayLatchState 0 0x80000 7 (by decide) (by decide) (by decide) (by decide) (by decide) rfl
  have hcleared := highWordLatchRead_strayLatchState _ hread
  have hkept : (strayLatchState.emit (.readData 0 0x80000 7)).latchOf 0 = some (0x7FFFC, 0) := rfl
  rw [hkept] at hcleared
  exact Option.some_ne_none _ hcleared

end Sys2Proof.Machine

/-! Clamps and droop samples in states that no register or fuse check admits (R130, R259, R391). -/

namespace Sys2Proof.Machine

/-- A state out of the table's canonical form: the clamp of domain 0 stands in HOLD with step 16, which its 4-bit field cannot
store, and RELEASE_MS have passed. -/
def wideClampState : State :=
  { State.reset with fields := [(.THM_DOM_CL_STATE, [(0, 2)]), (.THM_DOM_CLAMP, [(0, 16)])], time := 1000000 }

/-- The step that CLAMP_RELEASE_START keeps is stored again, cut to its field. -/
theorem clampReleaseStart_wideClampState (t : State) (h : exec (.clampReleaseStart false 0) wideClampState = .next t) :
    t.clC false 0 = 0 := by
  cases h
  decide

/-- Refutes O24: CLAMP_RELEASE_START keeps the step as its field stores it, and in a state whose CLAMP stands at 16 the release leaves
step 0; the clauses bound the stored step nowhere. -/
theorem not_sensorsTowersAndClampsMove : ¬ Obligations.SensorsTowersAndClampsMove := by
  unfold Obligations.SensorsTowersAndClampsMove
  rintro ⟨-, -, -, -, hrelease, -⟩
  obtain ⟨t, ht, -, hkept⟩ := hrelease wideClampState 0 (by decide) (by decide) (by decide) (by decide) (by decide)
  have hcut := clampReleaseStart_wideClampState t ht
  have hwide : wideClampState.clC false 0 = 16 := by decide
  omega

/-- A LIVE domain under a configuration table whose sizes do not agree, as R391 does not allow: 1,024 droop sensors and no domain.
Sensor 960 is the first of the link domains. -/
def noDomainState : State :=
  { State.reset with
    cfg := { Cfg.reference with table := { CfgTable.reference with domains := 0 } }
    fields := [(.DOM_STATUS_STATE, [(228, 2)])] }

/-- A reading at the top of its field raises no floor: a sample meets the crossings of the table's domains alone. -/
theorem droopSample_noDomainState (t : State)
    (h : exec (.droopSample [{ sensor := 960, headroom := 100, droop := 255 }] [] []) noDomainState = .next t) :
    t.dom.floor = [] := by
  cases h
  decide

/-- Refutes O18: the clause of the crossing bounds the sensor by the table and its domain by nothing, and where the table has fewer
domains than its sensors stand in, the reading at DROOP_TRIP raises no floor. -/
theorem not_droopAndHeadroomSupervision : ¬ Obligations.DroopAndHeadroomSupervision := by
  unfold Obligations.DroopAndHeadroomSupervision
  rintro ⟨-, hcross, -⟩
  obtain ⟨t, ht, hfloor, -⟩ := hcross noDomainState 960 255 (by decide) (by decide) (by decide) (by decide) (by decide)
    (by decide) (by decide) (by decide) (by decide) (by decide)
  rw [droopSample_noDomainState t ht] at hfloor
  exact absurd hfloor.symm (Nat.succ_ne_zero _)

end Sys2Proof.Machine

/-! Fuses, the time base and the fabric (R35, R36, R39, R40, R263, R403, R454). -/

namespace Sys2Proof.Machine

/-! ### Where a domain's entry ends -/

/-- A domain moved to another state shows it: nothing that the entry sets in motion moves the domain on. -/
theorem State.domEnter_domSt {s : State} {d new : Nat} (hne : s.domSt d ≠ new) (hnew : new < 2 ^ Fld.width .DOM_STATUS_STATE) :
    (s.domEnter d new).domSt d = new := by
  unfold State.domEnter
  rw [if_neg hne]
  simp (maxDischargeDepth := 60) [State.domSt, Nat.mod_eq_of_lt hnew]

/-- Only DARK may lead on to WAKING at once (R120). -/
theorem State.domGo_of_ne_zero (s : State) (d : Nat) {new : Nat} (h : new ≠ 0) : s.domGo d new = s.domEnter d new := by
  simp [State.domGo, h]

theorem State.fence_of_dark {s : State} {d : Nat} (h : s.domSt d = 0) (loss : Bool) : s.fence d loss = s.domEnter d 5 := by
  unfold State.fence
  split
  · exact s.domGo_of_ne_zero d (by decide)
  all_goals simp_all

/-! ### Cells out of service -/

/-- What the actions of a fold's own items keep, the fold keeps. -/
theorem State.each_keeps_of_mem {β : Type} (P : State → β) {l : List Nat} {f : Nat → State → State}
    (h : ∀ i ∈ l, ∀ t, P (f i t) = P t) (s : State) : P (s.each l f) = P s := by
  unfold State.each
  induction l generalizing s with
  | nil => rfl
  | cons a r ih =>
    rw [List.foldl_cons, ih (fun i hi => h i (List.mem_cons_of_mem _ hi)), h a List.mem_cons_self]

theorem State.setCell_cellSt_of_ne {c q : Nat} (h : c ≠ q) (s : State) (st : Nat) : (s.setCell q st).cellSt c = s.cellSt c := by
  simp (maxDischargeDepth := 60) [State.cellSt, State.setCell, h]

/-- A domain's cells that enter OFF are those in service (R109). -/
theorem State.cellsOff_cellSt {s : State} {c : Nat} (h : 4 ≤ s.cellSt c) (d : Nat) : (s.cellsOff d).cellSt c = s.cellSt c := by
  refine State.each_keeps_of_mem (fun t => t.cellSt c) (fun q hq t => ?_) s
  have hq3 : s.cellSt q ≤ 3 := by
    have hsel := (List.mem_filter.mp hq).2
    simp only [decide_eq_true_eq] at hsel
    exact hsel.2
  have hne : c ≠ q := by
    rintro rfl
    omega
  exact State.setCell_cellSt_of_ne hne t 0

theorem State.enterDown_cellSt {s : State} {c : Nat} (h : 4 ≤ s.cellSt c) (d : Nat) : (s.enterDown d).cellSt c = s.cellSt c := by
  rw [← State.cellsOff_cellSt h d]
  simp (maxDischargeDepth := 60) [State.cellSt, State.enterDown]

theorem State.domEnter_cellSt {s : State} {c : Nat} (h : 4 ≤ s.cellSt c) (d new : Nat) :
    (s.domEnter d new).cellSt c = s.cellSt c := by
  by_cases hsame : s.domSt d = new
  · rw [State.domEnter, if_pos hsame]
  · have hdown : ∀ (b : Bool) (t : State), t.cellSt c = s.cellSt c →
        (t.when b (fun s => s.enterDown d)).cellSt c = s.cellSt c := fun b t ht =>
      State.when_inv (fun u => u.cellSt c = s.cellSt c) b _ t ht ((State.enterDown_cellSt (ht ▸ h) d).trans ht)
    rw [State.domEnter, if_neg hsame]
    simp (maxDischargeDepth := 60) [State.cellSt]
    exact hdown _ _ (by simp [State.cellSt])

theorem State.domGo_cellSt {s : State} {c : Nat} (h : 4 ≤ s.cellSt c) (d : Nat) {new : Nat} (hnew : new ≠ 0) :
    (s.domGo d new).cellSt c = s.cellSt c := by
  rw [s.domGo_of_ne_zero d hnew, State.domEnter_cellSt h]

theorem State.fence_cellSt {s : State} {c : Nat} (h : 4 ≤ s.cellSt c) (d : Nat) (loss : Bool) :
    (s.fence d loss).cellSt c = s.cellSt c := by
  unfold State.fence
  split
  · exact State.domGo_cellSt h d (by decide)
  · exact State.domGo_cellSt h d (by decide)
  · rfl
  · dsimp only
    split
    · simp (maxDischargeDepth := 60) [State.cellSt]
    · rw [State.domGo_cellSt (by simpa [State.cellSt] using h) d (by decide)]
      simp [State.cellSt]

theorem State.derateCheck_cellSt {s : State} {c : Nat} (h : 4 ≤ s.cellSt c) (d : Nat) :
    (s.derateCheck d).cellSt c = s.cellSt c := by
  unfold State.derateCheck
  split
  · exact State.domGo_cellSt h d (by decide)
  · split
    · exact State.domGo_cellSt h d (by decide)
    · rfl

theorem State.cellsChanged_cellSt {s : State} {c : Nat} (h : 4 ≤ s.cellSt c) (d : Nat) :
    (s.cellsChanged d).cellSt c = s.cellSt c := by
  have hfence : ∀ (b : Bool) (t : State), t.cellSt c = s.cellSt c →
      (t.when b (fun s => s.fence d false)).cellSt c = s.cellSt c := fun b t ht =>
    State.when_inv (fun u => u.cellSt c = s.cellSt c) b _ t ht ((State.fence_cellSt (ht ▸ h) d false).trans ht)
  have hend : ∀ (p : Prop) [Decidable p] (t : State), t.cellSt c = s.cellSt c →
      (if p then t.fence d true else t.derateCheck d).cellSt c = s.cellSt c := by
    intro p _ t ht
    split
    · exact (State.fence_cellSt (ht ▸ h) d true).trans ht
    · exact (State.derateCheck_cellSt (ht ▸ h) d).trans ht
  unfold State.cellsChanged
  exact hend _ _ (hfence _ _ (by simp (maxDischargeDepth := 60) [State.cellSt, State.rearbDom]))

theorem State.wakeDone_cellSt {s : State} {c : Nat} (h : 4 ≤ s.cellSt c) (d : Nat) :
    (s.wakeDone d).cellSt c = s.cellSt c := by
  unfold State.wakeDone
  dsimp only
  split
  · split
    · exact State.domGo_cellSt h d (by decide)
    · exact State.domGo_cellSt h d (by decide)
  · rfl

/-- A cell that a failure meets is out of service, whatever its state was (R109). -/
theorem State.cellFail_cellSt (s : State) (c cause : Nat) : 4 ≤ (s.cellFail c cause).cellSt c := by
  unfold State.cellFail
  split
  · dsimp only
    generalize hu : (((s.setCell c 4).setF .CEL_STATUS_FAIL_CAUSE c cause).cellLoss c).capEvent 3 (s.cfg.table.cellDom c) = u
    have hfailed : u.cellSt c = 4 := by
      have hwidth : 4 % 2 ^ Fld.width .CEL_STATUS_STATE = 4 := by decide
      simp (maxDischargeDepth := 60) [← hu, State.cellSt, State.setCell, hwidth]
    have hchanged := State.cellsChanged_cellSt hfailed.ge (s.cfg.table.cellDom c)
    rw [State.wakeDone_cellSt (by omega), hchanged]
    omega
  · omega

/-! ### Lock links and temperature sensors -/

theorem State.setUp_linkUp (s : State) (p : Nat) (b : Bool) : (s.setUp p b).linkUp p = b := by
  have hwidth : 1 % 2 ^ Fld.width .HRD_PORT_UP = 1 := by decide
  cases b <;> simp [State.linkUp, State.isSet, State.setUp, State.getF_setB, hwidth]

theorem State.linkUp_congr {s t : State} {p : Nat} (h : t.getF .HRD_PORT_UP p = s.getF .HRD_PORT_UP p) :
    t.linkUp p = s.linkUp p := by
  rw [State.linkUp, State.isSet, h, ← State.isSet, ← State.linkUp]

/-- The links that come down on entry to IDLE stay down. -/
theorem State.toIdle_linkUp {s : State} {p : Nat} (h : s.linkUp p = false) : s.toIdle.linkUp p = false := by
  have hports : (s.each [0, 1, 2, 3] (fun q s =>
      (s.setPort q { HrdPort.empty with tested := (s.port q).tested, txSeq := (s.port q).txSeq }).setUp q false)).linkUp p = false := by
    refine State.each_inv (fun t => t.linkUp p = false) _ _ (fun q t ht => ?_) s h
    by_cases hq : p = q
    · exact hq ▸ State.setUp_linkUp _ _ _
    · rw [← ht]
      exact State.linkUp_congr (by simp [State.setUp, State.getF_setB, hq])
  refine (State.linkUp_congr ?_).trans hports
  simp (maxDischargeDepth := 60) [State.toIdle]

/-- A link that is lost is down. -/
theorem State.loseLink_linkUp (s : State) (p : Nat) : (s.loseLink p).linkUp p = false := by
  unfold State.loseLink
  split
  · next hdown => simpa using hdown
  · dsimp only
    generalize hu : (((s.setPort p _).setUp p false).bumpF .HRD_PORT_DROPS p).event .HRD_EVENT_LINK_LOST 0 0x08 p = u
    have hshown : ∀ t : State,
        (((t.setUp p false).bumpF .HRD_PORT_DROPS p).event .HRD_EVENT_LINK_LOST 0 0x08 p).linkUp p = false :=
      fun t => (State.linkUp_congr (by simp)).trans (t.setUp_linkUp p false)
    have hlost : u.linkUp p = false := hu ▸ hshown _
    split
    · split
      · rw [← hlost]
        exact State.linkUp_congr (by simp (maxDischargeDepth := 60))
      · exact hlost
    · split
      · exact State.toIdle_linkUp hlost
      · rw [← hlost]
        exact State.linkUp_congr (by simp (maxDischargeDepth := 60))

theorem State.snsBreak_snsSt (s : State) (x cause : Nat) : (s.snsBreak x cause).snsSt x = 1 := by
  have hwidth : 1 % 2 ^ Fld.width .THM_SNS_STATE = 1 := by decide
  simp (maxDischargeDepth := 60) [State.snsSt, State.snsBreak, State.snsGo, hwidth]

/-! ### What each command answers -/

theorem Fld.width_pos (f : Fld) : 0 < f.width := Nat.succ_pos _

/-- A refused programming shows PROG_FAIL, and FUSE_REF where the fuse gate refuses it (R263, R403). -/
theorem execFuseProgram_refused {s : State} {init word : Nat} (hinit : s.initClass init = 5)
    (h : s.isSet .THM_FUSE_FUSE_OK 0 = false ∨ word < 992 ∨ 1024 ≤ word ∨ s.cfg.straps.testEn = 0) :
    exec (.fuseProgram init word) s = .next
      (((s.setF .GLB_FUSE_STAT_PROG_FAIL 0 1).refuseReset init (fldOffset .GLB_FUSE_PROG_GO 0)).when
        (¬ s.isSet .THM_FUSE_FUSE_OK 0) (fun s => s.event .THM_EVENT_FUSE_REF 0 0x07 0)) := by
  have hrefused : ¬ (s.cfg.straps.testEn = 1 ∧ 992 ≤ word ∧ word < 1024 ∧ s.isSet .THM_FUSE_FUSE_OK 0 ∧
      s.boot.progWord = none) := by
    rintro ⟨htest, hlo, hhi, hok, -⟩
    simp only [hok, Bool.true_eq_false, false_or] at h
    omega
  show execFuseProgram init word s = _
  rw [execFuseProgram, if_neg (not_not.mpr hinit), if_neg hrefused]

/-- A calibrated oscillator takes the time base over, and no port is held down (R39, R40). -/
theorem execRefclkLoss_calibrated {s : State} (hfall : s.isSet .GLB_TB_STATUS_FALLBACK 0 = false)
    (hcal : s.isSet .GLB_TB_STATUS_CAL_OK 0 = true) :
    exec .refclkLoss s = .next ((((s.setF .GLB_TB_STATUS_FALLBACK 0 1).bumpF .GLB_TB_STATUS_FALLBACK_COUNT 0).setF
      .HRD_STATUS_TB_DEG 0 1).raise 0x0F 1 0) := by
  generalize hu : (((s.setF .GLB_TB_STATUS_FALLBACK 0 1).bumpF .GLB_TB_STATUS_FALLBACK_COUNT 0).setF
    .HRD_STATUS_TB_DEG 0 1).raise 0x0F 1 0 = u
  have hfree : u.portsHeld = false := by
    have hsame : u.isSet .GLB_TB_STATUS_CAL_OK 0 = s.isSet .GLB_TB_STATUS_CAL_OK 0 := by simp [← hu, State.isSet]
    simp [State.portsHeld, hsame, hcal]
  show execRefclkLoss s = _
  rw [execRefclkLoss, hfall]
  dsimp only
  rw [hu, hfree]
  rfl

/-- The read-back ends the programming, and a requested bit that reads 0 shows PROG_FAIL (R403). -/
theorem execFuseProgramReadback_busy {s : State} {w bits : Nat} (hprog : s.boot.progWord = some (w, bits)) (value : Nat) :
    exec (.fuseProgramReadback value) s = .next
      ((({ s with boot := { s.boot with
          progWord := none
          burned := Tbl.putD 0 s.boot.burned w (Nat.lor (Tbl.get 0 s.boot.burned w) (value % 2 ^ 32)) } } : State).setF
        .GLB_FUSE_STAT_PROG_BUSY 0 0).when (Nat.land (value % 2 ^ 32) bits ≠ bits) (fun s => s.setF .GLB_FUSE_STAT_PROG_FAIL 0 1)) := by
  show execFuseProgramReadback value s = _
  rw [execFuseProgramReadback, hprog]

/-- A sender on tree A goes over to tree B (R35, R36). -/
theorem execFabricRetry_treeA {s : State} {sender : Nat} (h : s.flt.treeB.contains sender = false) :
    exec (.fabricRetry sender) s = .next
      ((({ s with flt := { s.flt with treeB := s.flt.treeB ++ [sender] } } : State).setF .GLB_FAB_STATUS_TREE_A_OK 0 0).segFail 0) := by
  show execFabricRetry sender s = _
  rw [execFabricRetry, if_neg (Bool.eq_false_iff.mp h)]

/-- Both trees have failed before an endpoint. -/
def State.treesLost (s : State) (index : Nat) : State :=
  ((s.setF .GLB_FAB_STATUS_TREE_A_OK 0 0).setF .GLB_FAB_STATUS_TREE_B_OK 0 0).segFail index

/-- An unreachable endpoint marks both trees and raises the segment's source, before what is behind it is lost (R36, R454). -/
theorem execEndpointUnreachable_eq (e : Endpoint) (s : State) :
    ∃ index, exec (.endpointUnreachable e) s = .next ((s.treesLost index).loseEndpoint e) := ⟨_, rfl⟩

theorem State.treesLost_getF_fld (s : State) (index : Nat) {f : Fld} (i : Nat)
    (h : f ∉ ([.GLB_FAB_STATUS_TREE_A_OK, .GLB_FAB_STATUS_TREE_B_OK, .GLB_FAB_STATUS_SEG_FAIL_COUNT] : List Fld)) :
    (s.treesLost index).getF f i = s.getF f i := by
  simp only [List.mem_cons, List.not_mem_nil, or_false, not_or] at h
  simp [State.treesLost, h]

theorem State.treesLost_shown (s : State) (index : Nat) :
    (s.treesLost index).getF .GLB_FAB_STATUS_TREE_A_OK 0 = 0 ∧ (s.treesLost index).getF .GLB_FAB_STATUS_TREE_B_OK 0 = 0 ∧
      (s.treesLost index).getF .GLB_FAB_STATUS_SEG_FAIL_COUNT 0 =
        min (s.getF .GLB_FAB_STATUS_SEG_FAIL_COUNT 0 + 1) (2 ^ Fld.width .GLB_FAB_STATUS_SEG_FAIL_COUNT - 1) := by
  simp [State.treesLost, State.segFail]

/-! ### The statement -/

/-- Settles O41: each command's answer by its equation, and behind an unreachable endpoint what the loss does to the unit there. -/
theorem fusesTimeBaseAndFabricAct : Obligations.FusesTimeBaseAndFabricAct := by
  refine ⟨fun s init word hinit htest hlo hhi hok hidle => ?_, fun s init word hinit hok => ?_,
    fun s init word hinit hbad => ?_, fun s w bits value hprog => ?_, fun s hfall hcal => ?_, fun s hfall => ?_,
    fun s hfall => ?_, fun s hfall => ?_, fun s sender htree => ?_, fun s sender htree => ?_, fun s d hd hdark => ?_,
    fun s => ?_, fun s p hp => ?_, fun s x hx hgood => ?_, fun s c hc _ _ => ?_⟩
  · refine ⟨_, rfl, ?_⟩
    simp [hinit, htest, hlo, hhi, hok, hidle, Fld.width_pos]
  · refine ⟨_, execFuseProgram_refused hinit (.inl hok), ?_⟩
    simp [hok, Fld.width_pos]
  · refine ⟨_, execFuseProgram_refused hinit (.inr hbad), ?_⟩
    simp [Fld.width_pos]
  · refine ⟨_, execFuseProgramReadback_busy hprog value, ?_⟩
    by_cases hread : Nat.land (value % 2 ^ 32) bits = bits
    · simp only [hread, ne_eq, not_true_eq_false, decide_false, State.when_false, if_true]
      simp
    · simp only [hread, ne_eq, not_false_eq_true, decide_true, State.when_true, if_false]
      simp [Fld.width_pos]
  · refine ⟨_, execRefclkLoss_calibrated hfall hcal, ?_⟩
    simp [Fld.width_pos]
  · show execRefclkLoss s = _
    rw [execRefclkLoss, if_pos hfall]
  · show execRefclkReturn s = _
    rw [execRefclkReturn, if_pos hfall]
  · show execOscCalibration s = _
    rw [execOscCalibration, hfall]
    rfl
  · refine ⟨_, execFabricRetry_treeA htree, ?_⟩
    simp [State.segFail]
  · show execFabricRetry sender s = _
    rw [execFabricRetry, if_pos htree]
  · obtain ⟨index, hexec⟩ := execEndpointUnreachable_eq (.load d) s
    obtain ⟨hA, hB, -⟩ := s.treesLost_shown index
    have hdark' : (s.treesLost index).domSt d = 0 := (s.treesLost_getF_fld index d (by decide)).trans hdark
    have hfence : (s.treesLost index).loseEndpoint (.load d) = (s.treesLost index).domEnter d 5 := by
      rw [← State.fence_of_dark hdark' false]
      exact if_pos (decide_eq_true hd)
    rw [hfence] at hexec
    exact ⟨_, hexec, by simp [hA], by simp [hB], State.domEnter_domSt (by omega) (by decide)⟩
  · obtain ⟨hA, hB, -⟩ := s.treesLost_shown 0
    exact ⟨s.treesLost 0, rfl, hA, hB, rfl⟩
  · obtain ⟨index, hexec⟩ := execEndpointUnreachable_eq (.port p) s
    obtain ⟨-, -, hcount⟩ := s.treesLost_shown index
    have hlink : (s.treesLost index).loseEndpoint (.port p) = (s.treesLost index).loseLink p := if_pos (decide_eq_true hp)
    rw [hlink] at hexec
    exact ⟨_, hexec, State.loseLink_linkUp _ p, by simp [hcount]⟩
  · obtain ⟨index, hexec⟩ := execEndpointUnreachable_eq (.temp x) s
    have hgood' : (s.treesLost index).snsSt x = 0 := (s.treesLost_getF_fld index x (by decide)).trans hgood
    refine ⟨_, hexec, ?_⟩
    have hbreak : (s.treesLost index).loseEndpoint (.temp x) =
        ((s.treesLost index).fresh.2.snsBreak x (1 + (s.treesLost index).fresh.1 % 2)).showFuse := if_pos ⟨hx, hgood'⟩
    rw [hbreak, State.snsSt, State.showFuse_getF _ _ _ (by decide)]
    exact State.snsBreak_snsSt _ x _
  · obtain ⟨index, hexec⟩ := execEndpointUnreachable_eq (.cell c) s
    have hfail : (s.treesLost index).loseEndpoint (.cell c) =
        (s.treesLost index).fresh.2.cellFail c (1 + (s.treesLost index).fresh.1 % 4) := if_pos hc
    rw [hfail] at hexec
    exact ⟨_, hexec, State.cellFail_cellSt _ c _⟩

end Sys2Proof.Machine

/-! An edge of the time base (R37, R222, R282, R284, R285). -/

namespace Sys2Proof.Machine

/-! ### What an exclusion request leaves of the correction -/

/-- The ticks still to correct and the edges since the last correction (R285). -/
def State.correction (s : State) : Int × Nat := (s.hrd.corr, s.hrd.edge)

theorem State.correction_congr {s t : State} (h : t.hrd = s.hrd) : t.correction = s.correction := by
  rw [State.correction, h, State.correction]

theorem State.sendLock_correction (s : State) (p typ flags sender : Nat) (body : List Nat) :
    (s.sendLock p typ flags sender body).correction = s.correction := by
  unfold State.sendLock
  dsimp only
  split
  · rfl
  · simp [State.correction, State.setPort]

theorem State.sendDown_correction (s : State) (typ : Nat) (body : List Nat) : (s.sendDown typ body).correction = s.correction :=
  State.each_keeps State.correction _ _ (fun p t => t.sendLock_correction p typ _ _ body) s

theorem State.rootCheck_correction (s : State) : s.rootCheck.correction = s.correction := by
  unfold State.rootCheck
  split
  · rfl
  · dsimp only
    split
    · split
      · rfl
      · exact State.correction_congr (by simp)
    · split
      · rw [State.sendDown_correction]
        exact State.correction_congr (by simp [State.holdChange])
      · exact State.correction_congr (by simp)

theorem State.offerUpdate_correction (s : State) : s.offerUpdate.correction = s.correction := by
  unfold State.offerUpdate
  dsimp only
  rw [State.rootCheck_correction]
  refine (State.when_keeps State.correction _ _ _ ?_).trans (State.correction_congr (by simp))
  refine (State.when_keeps State.correction _ _ _ ?_).trans rfl
  exact State.sendLock_correction ..

/-- A request decided FOLLOW ends in LOCKED and leaves the correction (R282). -/
theorem State.takeDecide_follow_correction (s : State) (target seq : Nat) : (s.takeDecide target seq 1).correction = s.correction := by
  unfold State.takeDecide
  split
  · rw [if_pos rfl, State.exclEnd, State.offerUpdate_correction]
    rfl
  · rfl

theorem State.rootExclude_correction (s : State) (port stack fOff seq action : Nat) :
    (s.rootExclude port stack fOff seq action).correction = s.correction := by
  unfold State.rootExclude
  dsimp only
  split
  · split
    · rfl
    · rfl
  · split
    · split
      · rw [State.takeDecide_follow_correction, State.sendDecide, State.sendDown_correction]
        rfl
      · simp [State.correction]
    · rfl

theorem State.sendExclude_correction (s : State) (action : Nat) : (s.sendExclude action).correction = s.correction := by
  unfold State.sendExclude
  split
  · exact s.rootExclude_correction ..
  · split
    · exact s.sendLock_correction ..
    · rfl

theorem State.exclCheck_correction (s : State) : s.exclCheck.correction = s.correction := by
  unfold State.exclCheck
  split
  · dsimp only
    rw [State.offerUpdate_correction, State.sendExclude_correction]
    rfl
  · rfl

/-! ### The edge -/

/-- Between corrections an edge counts one tick and one more edge (R37). -/
theorem State.tick_of_none {s : State} (h : s.hrd.corr = 0 ∨ s.hrd.edge + 1 < 16) :
    s.tick = { s with time := (s.time + 1) % 2 ^ 64, hrd := { s.hrd with edge := min 64 (s.hrd.edge + 1) } } := by
  unfold State.tick
  refine if_neg ?_
  rintro ⟨hcorr, hgap⟩
  have hedge : s.hrd.edge + 1 < 16 := h.resolve_left hcorr
  split at hgap <;> omega

/-- Whether 64 edges have passed since the last correction, or 16 in fallback outside a slew (R285). -/
def State.correctionDue (s : State) : Prop :=
  64 ≤ s.hrd.edge + 1 ∨
    (s.isSet .GLB_TB_STATUS_FALLBACK 0 = true ∧ s.isSet .HRD_STATUS_SLEWING 0 = false ∧ 16 ≤ s.hrd.edge + 1)

/-- A correction that is due takes one tick off what is still to correct (R285). -/
theorem State.tick_of_due {s : State} (hcorr : s.hrd.corr ≠ 0) (hdue : s.correctionDue) :
    s.tick.time = (s.time + if 0 < s.hrd.corr then 2 else 0) % 2 ^ 64 ∧
      s.tick.correction = (if 0 < s.hrd.corr then s.hrd.corr - 1 else s.hrd.corr + 1, 0) := by
  have hgap : (if s.isSet .GLB_TB_STATUS_FALLBACK 0 ∧ ¬ s.isSet .HRD_STATUS_SLEWING 0 then 16 else 64) ≤ s.hrd.edge + 1 := by
    obtain hlong | ⟨hfall, hslew, hshort⟩ := hdue
    · split <;> omega
    · simpa [hfall, hslew] using hshort
  unfold State.tick
  rw [if_pos ⟨hcorr, hgap⟩]
  simp [State.correction]

/-- What a window's close and a calibration step leave of an edge. -/
theorem State.closed_parts (s : State) (b : Bool) (was : Nat) :
    ((s.when b State.closeWindow).calTick was).time = s.time ∧ ((s.when b State.closeWindow).calTick was).hrd = s.hrd := by
  simp

theorem State.advance_time (s : State) : s.advance.time = s.tick.time := by
  unfold State.advance
  dsimp only
  rw [State.when_keeps State.time _ _ _ (by simp), (s.tick.closed_parts _ _).1]

/-- What follows an edge leaves the correction as the edge has set it. -/
theorem State.advance_correction (s : State) : s.advance.correction = s.tick.correction := by
  unfold State.advance
  dsimp only
  rw [State.when_keeps State.correction _ _ _ (State.exclCheck_correction _),
    State.correction_congr (s.tick.closed_parts _ _).2]

/-- An edge that begins a window keeps what stands at it for R222. -/
theorem State.advance_close {s : State} (h : s.tick.time / 100 ≠ s.time / 100) : s.advance.est.close = some s.tick.winNow := by
  unfold State.advance
  dsimp only
  rw [State.when_keeps State.est _ _ _ (by simp), decide_eq_true h, State.when_true]
  simp [State.closeWindow]

/-- An edge with nothing due is the tick alone. -/
theorem State.advance_of_quiet {s : State} (hwin : s.tick.time / 100 = s.time / 100) (hstep : s.adc.step = none)
    (hbar : s.hrd.barUntil ≤ s.time) : s.advance = s.tick := by
  have hcal : s.tick.calTick s.time = s.tick := by
    have hnone : s.tick.adc.step = none := by simpa using hstep
    rw [State.calTick, hnone]
  have hnobar : ¬ (s.time < s.hrd.barUntil ∧ s.hrd.barUntil ≤ s.tick.time) := fun hb => absurd hb.1 (Nat.not_lt.mpr hbar)
  unfold State.advance
  dsimp only
  rw [decide_eq_false (not_not.mpr hwin), State.when_false, hcal, decide_eq_false hnobar, State.when_false]

theorem step_of_empty {s : State} (h : s.pending = []) : step s = .next s.advance := by
  rw [step, h]

/-- Settles O2: an edge is the tick of the time base, and what follows it in the same step leaves count and correction. -/
theorem emptyQueueStepsTheTimeBase : Obligations.EmptyQueueStepsTheTimeBase := by
  refine ⟨fun s hq => ⟨_, step_of_empty hq, by simp [hq], fun p hp => ?_, State.advance_getF s⟩,
    fun s hq hcorr hwin hstep hbar => ?_, fun s hq hcorr => ?_, fun s hq hcorr hdue => ?_, fun s hq hcorr hdue => ?_,
    fun s hq hcorr hedge => ?_, fun s hq hwin => ⟨_, step_of_empty hq, State.advance_close hwin⟩⟩
  · cases p <;> simp_all [Part.same]
  · have htick := State.tick_of_none (.inl hcorr)
    rw [step_of_empty hq, State.advance_of_quiet (by rw [htick]; exact hwin) hstep hbar, htick]
  · exact ⟨_, step_of_empty hq, by rw [State.advance_time, State.tick_of_none (.inl hcorr)]⟩
  · obtain ⟨htime, hafter⟩ := State.tick_of_due hcorr.ne' hdue
    rw [← State.advance_time, if_pos hcorr] at htime
    rw [← State.advance_correction, if_pos hcorr] at hafter
    exact ⟨_, step_of_empty hq, htime, congrArg Prod.fst hafter, congrArg Prod.snd hafter⟩
  · obtain ⟨htime, hafter⟩ := State.tick_of_due hcorr.ne hdue
    rw [← State.advance_time, if_neg hcorr.not_gt] at htime
    rw [← State.advance_correction, if_neg hcorr.not_gt] at hafter
    exact ⟨_, step_of_empty hq, htime, congrArg Prod.fst hafter, congrArg Prod.snd hafter⟩
  · have htick := State.tick_of_none (.inr hedge)
    have hafter := s.advance_correction
    rw [htick] at hafter
    exact ⟨_, step_of_empty hq, by rw [State.advance_time, htick], congrArg Prod.fst hafter, congrArg Prod.snd hafter⟩

end Sys2Proof.Machine

/-! What an evaluation of the control engine stores in its element (R134, R137, R138, R144, R145, R157, R159). -/

namespace Sys2Proof.Machine

/-! ### What tracking moves -/

theorem State.elem_setElem_self (s : State) (n k : Nat) (e : Elem) : (s.setElem n k e).elem n k = e := by
  simp [State.elem, State.setElem]

theorem State.elem_setF (s : State) (f : Fld) (i v n k : Nat) : (s.setF f i v).elem n k = s.elem n k := rfl

theorem State.elem_congr {s t : State} (h : t.eng = s.eng) (n k : Nat) : t.elem n k = s.elem n k := by
  rw [State.elem, h, State.elem]

/-- An element without what tracking moves (R155). -/
def Elem.untracked (e : Elem) : Elem := { e with y := 0, act := 0, integ := 0, tracking := false, changedAt := none }

/-- The elements, by key, without what tracking moves. -/
def State.untracked (s : State) (key : Nat) : Elem := (Tbl.get Elem.empty s.eng.elems key).untracked

theorem State.untracked_congr {s t : State} (h : t.eng = s.eng) : t.untracked = s.untracked := by
  funext key
  rw [State.untracked, h, State.untracked]

theorem State.setElem_untracked {s : State} {n k : Nat} {e : Elem} (h : e.untracked = (s.elem n k).untracked) :
    (s.setElem n k e).untracked = s.untracked := by
  funext key
  by_cases hkey : key = elemKey n k
  · simpa [State.untracked, State.setElem, State.elem, hkey] using h
  · simp [State.untracked, State.setElem, hkey]

theorem State.setAct_untracked (s : State) (n k : Nat) (a : Int) : (s.setAct n k a).untracked = s.untracked := by
  unfold State.setAct
  dsimp only
  rw [State.when_keeps State.untracked _ _ _ (State.untracked_congr (by simp))]
  exact (State.setElem_untracked (by rfl)).trans rfl

theorem State.moveAct_untracked (s : State) (n k : Nat) (a : Int) : (s.moveAct n k a).untracked = s.untracked := by
  unfold State.moveAct
  dsimp only
  split
  · split
    · rfl
    · exact (State.setElem_untracked (by rfl)).trans (s.setAct_untracked n k _)
  · exact s.setAct_untracked n k a

theorem State.trackElem_untracked (s : State) (n k : Nat) : (s.trackElem n k).untracked = s.untracked := by
  have hoff : (if (s.elem n k).tracking then s.setElem n k { s.elem n k with tracking := false } else s).untracked =
      s.untracked := by
    split
    · exact State.setElem_untracked rfl
    · rfl
  unfold State.trackElem
  dsimp only
  split
  · exact hoff
  · split
    · exact hoff
    · split
      · exact (State.setElem_untracked (by rfl)).trans (s.moveAct_untracked n k _)
      · split
        · rfl
        · exact hoff

theorem State.settle_untracked (s : State) (kind i : Nat) : (s.settle kind i).untracked = s.untracked := by
  have htrack : ∀ (l : List (Nat × Nat)) (t : State), (l.foldl (fun t e => t.trackElem e.1 e.2) t).untracked = t.untracked :=
    fun l t => foldl_keeps State.untracked l _ (fun t e => t.trackElem_untracked e.1 e.2) t
  have hrearb : (s.rearb kind i).untracked = s.untracked := State.untracked_congr (by simp)
  unfold State.settle
  dsimp only
  split
  · rw [htrack, htrack, hrearb]
  · rw [htrack, hrearb]

/-! ### What an evaluation stores -/

/-- The state after an evaluation has stored its element: saturation shows, and the actuators settle (R145, R153). -/
def State.settleElem (s : State) (kind n k : Nat) (e : Elem) (saturated : Bool) : State :=
  let s := ((s.setElem n k e).when saturated (fun s => s.setF .CE_SLOT_STATUS_SAT n 1)).when (n = 0) State.showPre
  s.each ((s.targets n k).filter (fun i => s.targetUp kind i)) (fun i s => s.settle kind i)

theorem State.settleElem_untracked (s : State) (kind n k : Nat) (e : Elem) (saturated : Bool) :
    ((s.settleElem kind n k e saturated).elem n k).untracked = e.untracked := by
  have hkeep : (s.settleElem kind n k e saturated).untracked = (s.setElem n k e).untracked := by
    unfold State.settleElem
    dsimp only
    rw [State.each_keeps State.untracked _ _ (fun i t => t.settle_untracked _ i),
      State.when_keeps State.untracked _ _ _ (State.untracked_congr (by simp)),
      State.when_keeps State.untracked _ _ _ (State.untracked_congr (by simp))]
  have hkey := congrFun hkeep (elemKey n k)
  have hself := s.elem_setElem_self n k e
  rw [State.elem] at hself
  rwa [State.untracked, State.untracked, hself] at hkey

/-- What one evaluation with valid inputs stores, whatever its law makes of them. -/
theorem State.evalWith_eq (s : State) (n k : Nat) (l : List Int) (aux : List (Int × Nat × Int)) :
    ∃ e sat, s.evalWith n k l aux = (s.prevOf n k).2.settleElem (s.slotKind n) n k e sat ∧ e.prevX = some (l.headD 0) ∧
      e.invalid = false ∧ e.evals = (if (s.elem n k).reopen then 1 else min 2 ((s.elem n k).evals + 1)) := by
  rw [← State.elem_congr (by simp : (s.prevOf n k).2.eng = s.eng) n k]
  exact ⟨_, _, by rfl, by rfl, by rfl, by rfl⟩

/-- An evaluation with valid inputs stores its last input and its count, and its element is valid (R144, R145, R171). -/
theorem State.evalWith_elem (s : State) (n k : Nat) (l : List Int) (aux : List (Int × Nat × Int)) :
    ((s.evalWith n k l aux).elem n k).prevX = some (l.headD 0) ∧ ((s.evalWith n k l aux).elem n k).invalid = false ∧
      ((s.evalWith n k l aux).elem n k).evals = (if (s.elem n k).reopen then 1 else min 2 ((s.elem n k).evals + 1)) := by
  obtain ⟨e, sat, heq, hprev, hvalid, hcount⟩ := s.evalWith_eq n k l aux
  have hkeep := (s.prevOf n k).2.settleElem_untracked (s.slotKind n) n k e sat
  rw [← heq] at hkeep
  exact ⟨(congrArg Elem.prevX hkeep).trans hprev, (congrArg Elem.invalid hkeep).trans hvalid,
    (congrArg Elem.evals hkeep).trans hcount⟩

/-- Whether an element presents and its slot is evaluated (R139, R159). -/
structure State.Evaluates (s : State) (n k : Nat) : Prop where
  running : s.eng.running = true
  used : s.slotClass n ≠ 0
  present : k < s.slotElems n
  started : (s.elem n k).started = true
  closed : Tbl.get false s.eng.opened n = false

theorem State.Evaluates.not_skipped {s : State} {n k : Nat} (h : s.Evaluates n k) :
    ¬ (¬ s.eng.running ∨ s.slotClass n = 0 ∨ s.slotElems n ≤ k ∨ ¬ (s.elem n k).started ∨ Tbl.get false s.eng.opened n) := by
  obtain ⟨hrun, hused, hk, hstarted, hclosed⟩ := h
  simp [hrun, hused, hk, hstarted, hclosed]

theorem State.evalElem_of_valid {s : State} {n k : Nat} {l : List Int} {aux : List (Int × Nat × Int)} (h : s.Evaluates n k)
    (hl : s.sources (s.getF .CE_SD_IN_IN_KIND n) (s.primaries n k) = some l) (haux : s.auxes n k = some aux) :
    s.evalElem n k = s.evalWith n k l aux := by
  rw [State.evalElem, if_neg h.not_skipped, hl, haux]

theorem State.evalElem_of_invalid {s : State} {n k : Nat} (h : s.Evaluates n k)
    (hl : s.sources (s.getF .CE_SD_IN_IN_KIND n) (s.primaries n k) = none) : s.evalElem n k = s.holdInvalid n k := by
  rw [State.evalElem, if_neg h.not_skipped, hl]

/-- A headroom loop apart, an element with an invalid input keeps its output (R59, R144). -/
theorem State.holdInvalid_of_kind {s : State} {n : Nat} (hkind : s.slotKind n ≠ 0) (k : Nat) :
    s.holdInvalid n k = s.setElem n k { s.elem n k with tracking := false, invalid := true } := by
  rw [State.holdInvalid, if_neg fun h => hkind h.1]

/-- The first sample of a period evaluates an element and stamps its slot (R137, R138). -/
theorem execFastElementEvaluation_eq {s : State} {n k : Nat} (hfast : s.slotClass n = 1) (h : s.Evaluates n k)
    (hfirst : (s.elem n k).fastAt ≠ some (s.time / 100)) :
    exec (.fastElementEvaluation n k) s = .next (((s.evalElem n k).setElem n k
      { (s.evalElem n k).elem n k with fastAt := some (s.time / 100) }).setF .CE_SLOT_EVAL_TICK_LO n s.time) := by
  have hkey : (s.evalKeys n).contains k = true := by
    simp [State.evalKeys, h.closed, h.present, h.started]
  have htime : (s.evalElem n k).time = s.time := by simp
  show execFastElementEvaluation n k s = _
  rw [execFastElementEvaluation, if_pos ⟨hfast, hkey, hfirst⟩]
  dsimp only
  rw [htime]

/-- The one element of a slot is evaluated, and the slot stamped, where it does not miss (R136, R138). -/
theorem State.evalSlotBut_single {s : State} {n : Nat} (hone : s.slotElems n = 1) {missed : List (Nat × Nat)}
    (hfits : missed.contains (n, 0) = false) :
    s.evalSlotBut missed n = (s.evalElem n 0).setF .CE_SLOT_EVAL_TICK_LO n s.time := by
  have hkeys : (List.range 1).filter (fun k => ¬ missed.contains (n, k)) = [0] := by
    rw [List.range_one, List.filter_cons_of_pos (by simp only [hfits]; decide)]
    rfl
  rw [State.evalSlotBut, hone, hkeys]
  rfl

theorem State.evalSlotBut_missed {s : State} {n : Nat} (hone : s.slotElems n = 1) : s.evalSlotBut [(n, 0)] n = s := by
  rw [State.evalSlotBut, hone]
  simp [State.each]

/-- With no evaluation late, the one slot of a class with one element is evaluated and stamped. -/
theorem State.evalClass_single {s : State} {c n : Nat} (hclass : s.classSlots c = [n]) (hone : s.slotElems n = 1) :
    s.evalClass c 0 = (s.evalElem n 0).setF .CE_SLOT_EVAL_TICK_LO n s.time := by
  have hnone : s.missing c 0 = [] := by simp [State.missing]
  rw [State.evalClass, hnone, hclass]
  exact State.evalSlotBut_single hone rfl

theorem State.slotClass_of_classSlots {s : State} {c n : Nat} (hclass : s.classSlots c = [n]) : s.slotClass n = c := by
  have hmem : n ∈ s.classSlots c := by simp [hclass]
  simpa using (List.mem_filter.mp hmem).2

/-- What a class tick stores of the one element of its one slot. -/
theorem State.evalClass_elem {s : State} {c n : Nat} {l : List Int} {aux : List (Int × Nat × Int)}
    (hclass : s.classSlots c = [n]) (hc : c ≠ 0) (hone : s.slotElems n = 1) (hrun : s.eng.running = true)
    (hstarted : (s.elem n 0).started = true) (hclosed : Tbl.get false s.eng.opened n = false)
    (hl : s.sources (s.getF .CE_SD_IN_IN_KIND n) (s.primaries n 0) = some l)
    (haux : s.auxes n 0 = some aux) :
    ((s.evalClass c 0).elem n 0).prevX = some (l.headD 0) ∧
      ((s.evalClass c 0).elem n 0).evals = (if (s.elem n 0).reopen then 1 else min 2 ((s.elem n 0).evals + 1)) ∧
      (s.evalClass c 0).getF .CE_SLOT_EVAL_TICK_LO n = s.time % 2 ^ 32 := by
  have hused : s.slotClass n ≠ 0 := by rwa [State.slotClass_of_classSlots hclass]
  obtain ⟨hprev, -, hcount⟩ := s.evalWith_elem n 0 l aux
  rw [State.evalClass_single hclass hone,
    State.evalElem_of_valid ⟨hrun, hused, by omega, hstarted, hclosed⟩ hl haux]
  exact ⟨hprev, hcount, State.getF_setF_self ..⟩

/-! ### The one element of the slope actuator -/

theorem accAdd_fst (a : Int × Bool) (x : Int) : (accAdd a x).1 = sat40 (a.1 + x) := rfl

theorem accShl_fst (x : Int) (k : Nat) : (accShl x k).1 = sat40 (x * 2 ^ k) := rfl

theorem sat40_sat40 (x : Int) : sat40 (sat40 x) = sat40 x := by
  unfold sat40 clampI
  split_ifs <;> omega

theorem sat40_zero : sat40 0 = 0 := rfl

theorem State.compensation_of_none {s : State} {n : Nat} (hoff : s.isSet .CE_SD_CTRL_COMP_OFF n = false)
    (hrip : s.isSet .CE_SD_CTRL_COMP_RIP n = false) (k : Nat) : s.compensation n k = 0 := by
  simp [State.compensation, hoff, hrip]

theorem State.prevOf_state {s : State} {n : Nat} (hdirect : s.getF .CE_SD_IN_IN_RED n = 0) (k : Nat) : (s.prevOf n k).2 = s := by
  unfold State.prevOf
  split
  · rfl
  · rw [hdirect]
    rfl

/-- What the law of R145 makes of one direct input, with a feedback law alone. -/
theorem State.evalWith_law {s : State} {n : Nat} {x : Int} (hkind : s.slotKind n = 5)
    (hreopen : (s.elem n 0).reopen = false) (hdirect : s.getF .CE_SD_IN_IN_RED n = 0)
    (hprof : s.isSet .CE_SD_CTRL_PROF_EN n = false) (hoff : s.isSet .CE_SD_CTRL_COMP_OFF n = false)
    (hrip : s.isSet .CE_SD_CTRL_COMP_RIP n = false) (hsign : s.isSet .CE_SD_CTRL_SIGN n = false)
    (hfrozen : s.clampFrozen n 0 = false) (htable : s.zeroTable n (s.getF .CE_SD_LAW_GTAB n) = false) :
    ∃ e sat, s.evalWith n 0 [x] [] = s.settleElem 5 n 0 e sat ∧ e.started = (s.elem n 0).started ∧ e.tracking = false ∧
      e.integ = sat40 ((s.elem n 0).integ + sat40 (interpGain (s.gtab n (s.getF .CE_SD_LAW_GTAB n)) (sat16 (s.elemRef n 0 - x)) *
        sat16 (s.elemRef n 0 - x) * 2 ^ s.getF .CE_SD_LAW_GSHIFT n)) ∧
      e.y = sat16 (rne (sat40 (e.integ + sat40 (s.getS .CE_SD_LAW_KP n * sat16 (s.elemRef n 0 - x) *
        2 ^ s.getF .CE_SD_LAW_PSHIFT n))) 15) ∧
      e.act = actOf (s.getS .CE_SD_OUT_OUT_BASE n) (s.getF .CE_SD_MAP_OUT_SCALE n) e.y := by
  have hcomp := State.compensation_of_none hoff hrip 0
  have hpaced : s.slotPaced n = false := by simp [State.slotPaced, hkind]
  unfold State.evalWith
  simp only [State.prevOf_state hdirect, hkind]
  refine ⟨_, _, by rfl, by rfl, by rfl, ?_, ?_, ?_⟩
  · simp [hreopen, hprof, hsign, hfrozen, htable, hdirect, reduceIn, accAdd_fst, accShl_fst]
  · simp [hreopen, hprof, hsign, hfrozen, htable, hdirect, hcomp, reduceIn, accAdd_fst, accShl_fst, sat40_sat40, sat40_zero]
  · simp [hpaced]

/-- A row of the register table is left by a store to another field. -/
theorem State.setF_row (s : State) {f g : Fld} (i v : Nat) (h : g ≠ f) :
    Tbl.get [] (s.setF f i v).fields g = Tbl.get [] s.fields g := Tbl.get_set_ne _ _ _ _ h

/-- A slot whose one element is the only one that presents to the slope actuator. -/
structure State.SlopeAlone (s : State) (n : Nat) : Prop where
  kind : s.slotKind n = 5
  targets : s.targets n 0 = [0]
  presenters : s.presenters 5 0 = [(n, 0)]

/-- Who presents to the slope actuator is read from the descriptors and from the elements that have started. -/
theorem State.SlopeAlone.congr {s t : State} {n : Nat} (h : s.SlopeAlone n)
    (hrow : Tbl.get [] t.fields .CE_SD_CTRL_CLASS = Tbl.get [] s.fields .CE_SD_CTRL_CLASS)
    (hget : ∀ f ∈ ([.CE_SD_CTRL_ACT_KIND, .CE_SD_CTRL_ACT_BASE, .CE_SD_CTRL_ELEMS_M1, .CE_SD_MAP_GROUP_M1, .CE_SD_MAP_FAN_M1] :
      List Fld), ∀ i, t.getF f i = s.getF f i)
    (hstarted : ∀ m k, (t.elem m k).started = (s.elem m k).started) : t.SlopeAlone n := by
  simp only [List.forall_mem_cons, List.not_mem_nil, false_implies, implies_true, and_true] at hget
  obtain ⟨hkind, hbase, helems, hgroup, hfan⟩ := hget
  obtain ⟨hk, ht, hp⟩ := h
  refine ⟨?_, ?_, ?_⟩
  · rw [State.slotKind, hkind, ← State.slotKind, hk]
  · rw [State.targets, hbase, hgroup, hfan, ← State.targets, ht]
  · rw [← hp]
    simp only [State.presenters, State.usedSlots, State.slotKind, State.slotElems, hrow, hkind, hbase, helems,
      hgroup, hfan, hstarted]
    rfl

theorem State.SlopeAlone.setF {s : State} {n : Nat} (h : s.SlopeAlone n) {f : Fld} (i v : Nat)
    (hf : f ∈ ([.CE_SLOT_STATUS_SAT, .DOM_START_STATUS_PRE_ACTIVE, .DOM_START_STATUS_SLOPE_EFF] : List Fld)) :
    (s.setF f i v).SlopeAlone n := by
  simp only [List.mem_cons, List.not_mem_nil, or_false] at hf
  refine h.congr (s.setF_row i v ?_) (fun g hg j => s.getF_setF_fld i j v ?_) (fun m k => rfl)
  · rintro rfl
    simp at hf
  · rintro rfl
    obtain rfl | rfl | rfl := hf <;> simp at hg

theorem State.rearb_slope (s : State) : ∃ v, s.rearb 5 0 = s.setF .DOM_START_STATUS_SLOPE_EFF 0 v := by
  have hrearb : s.rearb 5 0 = match s.applied 5 0 with
      | some v => s.drive 5 0 v
      | none => s.drive 5 0 s.roosterSlope := rfl
  rw [hrearb]
  split
  · exact ⟨_, rfl⟩
  · exact ⟨_, rfl⟩

theorem State.SlopeAlone.rearb {s : State} {n : Nat} (h : s.SlopeAlone n) : (s.rearb 5 0).SlopeAlone n := by
  obtain ⟨v, hv⟩ := s.rearb_slope
  rw [hv]
  exact h.setF 0 v (by decide)

theorem State.SlopeAlone.setElem {s : State} {n : Nat} (h : s.SlopeAlone n) {m k : Nat} {e : Elem}
    (he : e.started = (s.elem m k).started) : (s.setElem m k e).SlopeAlone n := by
  refine h.congr rfl (fun f _ i => rfl) (fun m' k' => ?_)
  by_cases hkey : elemKey m' k' = elemKey m k
  · simp [State.elem, State.setElem, hkey, he]
  · simp [State.elem, State.setElem, hkey]

/-- An element that alone presents to the slope actuator has no winner to track (R155). -/
theorem State.SlopeAlone.trackElem {s : State} {n : Nat} (h : s.SlopeAlone n) (htrack : (s.elem n 0).tracking = false) :
    s.trackElem n 0 = s := by
  have hwinner : s.stage1 5 0 = some ((s.elem n 0).act, n, 0) := by
    simp [State.stage1, State.presented, h.presenters, lowest]
  unfold State.trackElem
  simp only [h.kind, h.targets, State.targetUp, List.filter_cons_of_pos, List.filter_nil, List.filterMap_cons,
    hwinner, Option.map_some, List.filterMap_nil, htrack]
  have hown : ¬ (s.elem n 0).act + (s.getF .CE_SD_OUT_TRACK n : Nat) < (s.elem n 0).act := by omega
  simp [hown]

theorem State.SlopeAlone.settle {s : State} {n : Nat} (h : s.SlopeAlone n) (htrack : (s.elem n 0).tracking = false) :
    s.settle 5 0 = s.rearb 5 0 := by
  have hsame : (s.rearb 5 0).elem n 0 = s.elem n 0 := State.elem_congr (by simp) n 0
  unfold State.settle
  dsimp only
  rw [h.rearb.presenters, if_neg (by decide)]
  exact h.rearb.trackElem (hsame ▸ htrack)

/-- What an evaluation stores of the only element of the slope actuator stands. -/
theorem State.SlopeAlone.settleElem {s : State} {n : Nat} (h : s.SlopeAlone n) {e : Elem}
    (hstarted : e.started = (s.elem n 0).started) (htrack : e.tracking = false) (sat : Bool) :
    (s.settleElem 5 n 0 e sat).elem n 0 = e := by
  unfold State.settleElem
  dsimp only
  generalize hu : ((s.setElem n 0 e).when sat (fun s => s.setF .CE_SLOT_STATUS_SAT n 1)).when (n = 0) State.showPre = u
  have hstored : (s.setElem n 0 e).SlopeAlone n := h.setElem hstarted
  have halone : u.SlopeAlone n := by
    rw [← hu]
    have hshown : ((s.setElem n 0 e).when sat (fun s => s.setF .CE_SLOT_STATUS_SAT n 1)).SlopeAlone n :=
      State.when_inv (State.SlopeAlone · n) _ _ _ hstored (hstored.setF n 1 (by decide))
    exact State.when_inv (State.SlopeAlone · n) _ _ _ hshown (hshown.setF 0 _ (by decide))
  have helem : u.elem n 0 = e := by
    rw [← hu]
    rw [State.elem_congr (s := s.setElem n 0 e) (by simp), State.elem_setElem_self]
  have hup : u.targetUp 5 0 = true := rfl
  rw [halone.targets, List.filter_cons_of_pos hup, List.filter_nil]
  show (u.settle 5 0).elem n 0 = e
  rw [halone.settle (helem ▸ htrack)]
  exact (State.elem_congr (by simp) n 0).trans helem

/-! ### The statement -/

/-- Settles O19: what an evaluation stores stays through tracking, and the only element of its actuator has none to track. -/
theorem engineEvaluatesElements : Obligations.EngineEvaluatesElements := by
  refine ⟨fun s n k l aux hclass hrun hk _ hstarted hopen hfirst hl haux => ?_,
    fun s n x hclass hkind hrun hone htargets hpresenters hstarted hreopen _ hopen hfirst hdirect hl haux
      hprof hoff hrip hsign hfrozen htable => ?_,
    fun s n k hclass hrun hk _ hstarted hopen hfirst hl hkind => ?_,
    fun s n k hclass hopen => ?_,
    fun s n l aux htick hslots hrun hone hstarted hopen hl haux => ?_,
    fun s n htick hslots hone hlate => ?_,
    fun s n l aux htick hdefer hslots hrun hone hstarted hopen hl haux => ?_⟩
  · have heval : s.Evaluates n k := ⟨hrun, by omega, hk, hstarted, hopen⟩
    obtain ⟨hprev, hvalid, hcount⟩ := s.evalWith_elem n k l aux
    rw [← State.evalElem_of_valid heval hl haux] at hprev hvalid hcount
    refine ⟨_, execFastElementEvaluation_eq hclass heval hfirst, ?_⟩
    rw [State.elem_setF, State.elem_setElem_self]
    exact ⟨hprev, hvalid, hcount, State.getF_setF_self ..⟩
  · have heval : s.Evaluates n 0 := ⟨hrun, by omega, by omega, hstarted, hopen⟩
    have halone : s.SlopeAlone n := ⟨hkind, htargets, hpresenters⟩
    obtain ⟨e, sat, heq, hestarted, hetrack, hinteg, hy, hact⟩ :=
      State.evalWith_law (x := x) hkind hreopen hdirect hprof hoff hrip hsign hfrozen htable
    have helem : (s.evalElem n 0).elem n 0 = e := by
      rw [State.evalElem_of_valid heval hl haux, heq]
      exact halone.settleElem hestarted hetrack sat
    refine ⟨_, execFastElementEvaluation_eq hclass heval hfirst, ?_⟩
    rw [State.elem_setF, State.elem_setElem_self, helem]
    exact ⟨hinteg, hy, hact⟩
  · have heval : s.Evaluates n k := ⟨hrun, by omega, hk, hstarted, hopen⟩
    have heq : s.evalElem n k = s.setElem n k { s.elem n k with tracking := false, invalid := true } := by
      rw [State.evalElem_of_invalid heval hl, State.holdInvalid_of_kind hkind]
    refine ⟨_, execFastElementEvaluation_eq hclass heval hfirst, ?_, State.getF_setF_self ..⟩
    rw [State.elem_setF, State.elem_setElem_self, heq, State.elem_setElem_self]
  · show execFastElementEvaluation n k s = _
    rw [execFastElementEvaluation, if_neg]
    simp [State.evalKeys, hopen]
  · refine ⟨s.evalClass 2 0, ?_, State.evalClass_elem hslots (by decide) hone hrun hstarted hopen hl haux⟩
    show execMediumEvaluation 0 s = _
    rw [execMediumEvaluation, htick, State.when_true]
  · refine ⟨s, ?_, rfl, rfl⟩
    have hmissing : s.missing 2 1 = [(n, 0)] := by simp [State.missing, hlate]
    show execMediumEvaluation 1 s = _
    rw [execMediumEvaluation, htick, State.when_true, State.evalClass, hmissing, hslots]
    exact congrArg _ (State.evalSlotBut_missed hone)
  · have hdeferred : s.applyDeferred = { s with eng := { s.eng with defer := [], held := [] } } := if_pos hdefer
    refine ⟨s.applyDeferred.evalClass 3 0, ?_, ?_⟩
    · show execSlowEvaluation 0 s = _
      rw [execSlowEvaluation, htick, State.when_true]
    · rw [hdeferred]
      exact State.evalClass_elem (s := { s with eng := { s.eng with defer := [], held := [] } }) hslots
        (by decide) hone hrun hstarted hopen hl haux

end Sys2Proof.Machine

/-! The PMBus host and the supervision of the intermediate bus (R45, R82, R95 to R99, R127). -/

namespace Sys2Proof.Machine

/-! ### Items of a fold -/

/-- A fact that the actions of a fold's own items keep, the fold keeps. -/
theorem State.each_inv_of_mem {P : State → Prop} {l : List Nat} {f : Nat → State → State}
    (h : ∀ i ∈ l, ∀ t, P t → P (f i t)) {s : State} (hs : P s) : P (s.each l f) := by
  unfold State.each
  induction l generalizing s with
  | nil => exact hs
  | cons a r ih => exact ih (fun i hi => h i (List.mem_cons_of_mem _ hi)) (h a List.mem_cons_self s hs)

/-- In a fold over items that do not repeat, what one item's action brings about from a fact that the others keep stands at the
end, where the others keep that too. -/
theorem State.each_at {P Q : State → Prop} {l : List Nat} {f : Nat → State → State} {i : Nat} (hnodup : l.Nodup) (hi : i ∈ l)
    (before : ∀ j, j ≠ i → ∀ t, P t → P (f j t)) (act : ∀ t, P t → Q (f i t)) (after : ∀ j, j ≠ i → ∀ t, Q t → Q (f j t))
    {s : State} (hs : P s) : Q (s.each l f) := by
  induction l generalizing s with
  | nil => simp at hi
  | cons j r ih =>
    obtain ⟨hj, hr⟩ := List.nodup_cons.mp hnodup
    rcases List.mem_cons.mp hi with rfl | hmem
    · exact State.each_inv_of_mem (fun k hk => after k (fun e => hj (e ▸ hk))) (act s hs)
    · exact ih hr hmem (before j (fun e => hj (e ▸ hmem)) s hs)

/-! ### Raises that wait -/

/-- What a condition guards drops no raise that waits, where the action drops none. -/
theorem State.when_raises (s : State) (c : Bool) {f : State → State} (h : s.raiseQ <+: (f s).raiseQ) :
    s.raiseQ <+: (s.when c f).raiseQ :=
  State.when_inv (fun t => s.raiseQ <+: t.raiseQ) c f s (by rfl) h

/-- A fold drops no raise that waits, where none of its actions does. -/
theorem State.each_raises {f : Nat → State → State} (h : ∀ i t, t.raiseQ <+: (f i t).raiseQ) (l : List Nat) (s : State) :
    s.raiseQ <+: (s.each l f).raiseQ :=
  State.each_inv (fun t => s.raiseQ <+: t.raiseQ) l f (fun i t ht => ht.trans (h i t)) s (by rfl)

/-! ### A fatal cause and the phase groups (R45, R82) -/

theorem State.setGrp_grp (s : State) (g st k : Nat) :
    (s.setGrp g st).grp k = if k = g then st % 2 ^ Fld.width .PHS_GRP_STATUS_STATE else s.grp k := by
  simp (maxDischargeDepth := 60) [State.grp, State.setGrp, State.getF_setF]

theorem State.cutCheck_fatal (s : State) (p : Nat) : (s.cutCheck p).phs.fatal = s.phs.fatal := by
  unfold State.cutCheck
  split
  · simp [State.setPhTest]
  · rfl

/-- A group's entry into a state ends checks and tests of its phases, and leaves which groups a fatal cause has met. -/
@[simp] theorem State.setGrp_fatal (s : State) (g st : Nat) : (s.setGrp g st).phs.fatal = s.phs.fatal := by
  have hcut : ∀ (l : List Nat) (t : State), (t.each l (fun p s => s.cutCheck p)).phs.fatal = t.phs.fatal := fun l =>
    State.each_keeps (fun t => t.phs.fatal) l _ fun p t => t.cutCheck_fatal p
  have hrestart : ∀ (l : List Nat) (t : State), (t.each l (fun p s => s.restartTests p)).phs.fatal = t.phs.fatal := fun l =>
    State.each_keeps (fun t => t.phs.fatal) l _ fun p t => rfl
  simp (maxDischargeDepth := 60) only [State.setGrp, State.when_phs, State.ilSet_parts, implies_true, State.setB_phs]
  rw [State.when_keeps (fun t => t.phs.fatal) _ _ _ (hrestart _ _), State.when_keeps (fun t => t.phs.fatal) _ _ _ (hcut _ _)]
  rfl

@[simp] theorem State.latchOff_fatal (s : State) (g : Nat) : (s.latchOff g).phs.fatal = s.phs.fatal := by
  simp [State.latchOff]

@[simp] theorem State.latchOff_grp (s : State) (g k : Nat) : (s.latchOff g).grp k = if k = g then 6 else s.grp k := by
  have hset : (s.latchOff g).grp k = (s.setGrp g 6).grp k := by simp [State.latchOff, State.grp]
  have hwidth : 6 % 2 ^ Fld.width .PHS_GRP_STATUS_STATE = 6 := by decide
  rw [hset, State.setGrp_grp, hwidth]

theorem State.latchOff_latched (s : State) (g k : Nat) :
    (s.latchOff g).getF .PHS_GRP_EVENT_LATCHED k = if k = g then 1 else s.getF .PHS_GRP_EVENT_LATCHED k := by
  have hwidth : 1 % 2 ^ Fld.width .PHS_GRP_EVENT_LATCHED = 1 := by decide
  simp [State.latchOff, State.getF_event, State.getF_setF, hwidth]

theorem State.latchOff_raises (s : State) (g : Nat) : s.raiseQ <+: (s.latchOff g).raiseQ := by
  simp [State.latchOff]

@[simp] theorem State.stopRamp_grp (s : State) (g : Nat) (fatal : Bool) (k : Nat) :
    (s.stopRamp g fatal).grp k = if k = g then 7 else s.grp k := by
  have hset : (s.stopRamp g fatal).grp k = (s.setGrp g 7).grp k := by simp [State.stopRamp, State.grp]
  have hwidth : 7 % 2 ^ Fld.width .PHS_GRP_STATUS_STATE = 7 := by decide
  rw [hset, State.setGrp_grp, hwidth]

@[simp] theorem State.stopRamp_fatal (s : State) (g : Nat) (fatal : Bool) (k : Nat) :
    Tbl.get false (s.stopRamp g fatal).phs.fatal k = if k = g then fatal else Tbl.get false s.phs.fatal k := by
  simp [State.stopRamp]

theorem State.stopRamp_latched (s : State) (g : Nat) (fatal : Bool) (k : Nat) :
    (s.stopRamp g fatal).getF .PHS_GRP_EVENT_LATCHED k = s.getF .PHS_GRP_EVENT_LATCHED k := by
  simp [State.stopRamp]

theorem State.stopRamp_raiseQ (s : State) (g : Nat) (fatal : Bool) : (s.stopRamp g fatal).raiseQ = s.raiseQ := by
  simp [State.stopRamp]

theorem State.stopRamp_domSt (s : State) (g : Nat) (fatal : Bool) (d : Nat) : (s.stopRamp g fatal).domSt d = s.domSt d := by
  simp [State.stopRamp, State.domSt]

/-- What a fatal cause does to a group, by the state it stands in. -/
theorem State.groupFatal_cases (s : State) (g : Nat) :
    ((s.grp g = 1 ∨ s.grp g = 5) ∧ s.groupFatal g = s.latchOff g) ∨
    ((s.grp g = 2 ∨ s.grp g = 3 ∨ s.grp g = 4) ∧ s.groupFatal g = s.stopRamp g true) ∨
    (s.grp g = 7 ∧ s.groupFatal g = { s with phs := { s.phs with fatal := s.phs.fatal.put g true } }) ∨
    ((s.grp g = 0 ∨ s.grp g = 6 ∨ 8 ≤ s.grp g) ∧ s.groupFatal g = s) := by
  unfold State.groupFatal
  split
  all_goals simp_all
  omega

/-- A fatal cause that meets one group leaves the others. -/
theorem State.groupFatal_of_ne {k g : Nat} (h : k ≠ g) (s : State) :
    (s.groupFatal g).grp k = s.grp k ∧ Tbl.get false (s.groupFatal g).phs.fatal k = Tbl.get false s.phs.fatal k ∧
      (s.groupFatal g).getF .PHS_GRP_EVENT_LATCHED k = s.getF .PHS_GRP_EVENT_LATCHED k := by
  rcases s.groupFatal_cases g with ⟨-, he⟩ | ⟨-, he⟩ | ⟨-, he⟩ | ⟨-, he⟩ <;> rw [he]
  · simp [h, State.latchOff_latched]
  · simp [h, State.stopRamp_latched]
  · simp [h, State.grp]
  · simp

theorem State.groupFatal_domSt (s : State) (g d : Nat) : (s.groupFatal g).domSt d = s.domSt d := by
  rcases s.groupFatal_cases g with ⟨-, he⟩ | ⟨-, he⟩ | ⟨-, he⟩ | ⟨-, he⟩ <;> rw [he]
  · simp [State.domSt]
  · exact s.stopRamp_domSt g true d
  · rfl

theorem State.groupFatal_raises (s : State) (g : Nat) : s.raiseQ <+: (s.groupFatal g).raiseQ := by
  rcases s.groupFatal_cases g with ⟨-, he⟩ | ⟨-, he⟩ | ⟨-, he⟩ | ⟨-, he⟩ <;> rw [he]
  · exact s.latchOff_raises g
  · rw [State.stopRamp_raiseQ]

theorem State.groupFatal_stops {s : State} {g : Nat} (h : s.grp g = 2 ∨ s.grp g = 3 ∨ s.grp g = 4) :
    s.groupFatal g = s.stopRamp g true := by
  rcases s.groupFatal_cases g with ⟨hst, he⟩ | ⟨-, he⟩ | ⟨hst, he⟩ | ⟨hst, he⟩
  · omega
  · exact he
  · omega
  · omega

theorem State.groupFatal_latches {s : State} {g : Nat} (h : s.grp g = 1 ∨ s.grp g = 5) : s.groupFatal g = s.latchOff g := by
  rcases s.groupFatal_cases g with ⟨-, he⟩ | ⟨hst, he⟩ | ⟨hst, he⟩ | ⟨hst, he⟩
  · exact he
  · omega
  · omega
  · omega

/-! ### Fence requests -/

@[simp] theorem fenceReq_ite (c : Prop) [Decidable c] (a b : DomState) :
    (if c then a else b).fenceReq = if c then a.fenceReq else b.fenceReq := apply_ite DomState.fenceReq c a b

@[simp] theorem State.when_fenceReq (s : State) (c : Bool) (f : State → State)
    (h : ∀ t, (f t).dom.fenceReq = t.dom.fenceReq) : (s.when c f).dom.fenceReq = s.dom.fenceReq :=
  State.when_keeps (fun t => t.dom.fenceReq) c f s (h s)

@[simp] theorem foldl_fenceReq {α : Type} (l : List α) (f : State → α → State)
    (h : ∀ t x, (f t x).dom.fenceReq = t.dom.fenceReq) (s : State) : (l.foldl f s).dom.fenceReq = s.dom.fenceReq :=
  foldl_keeps (fun t => t.dom.fenceReq) l f h s

@[simp] theorem State.drive_fenceReq (s : State) (kind i : Nat) (v : Int) : (s.drive kind i v).dom.fenceReq = s.dom.fenceReq := by
  unfold State.drive
  split
  all_goals simp

@[simp] theorem State.rearb_fenceReq (s : State) (kind i : Nat) : (s.rearb kind i).dom.fenceReq = s.dom.fenceReq := by
  unfold State.rearb
  repeat' split
  all_goals simp

@[simp] theorem State.startDomain_fenceReq (s : State) (d : Nat) : (s.startDomain d).dom.fenceReq = s.dom.fenceReq := by
  simp [State.startDomain]

@[simp] theorem State.showWaves_fenceReq (s : State) : s.showWaves.dom.fenceReq = s.dom.fenceReq := by
  simp [State.showWaves]

@[simp] theorem State.setWaves_fenceReq (s : State) (ws : List Wave) : (s.setWaves ws).dom.fenceReq = s.dom.fenceReq := by
  simp [State.setWaves]

@[simp] theorem State.endWave_fenceReq (s : State) (bid : Nat) : (s.endWave bid).dom.fenceReq = s.dom.fenceReq := by
  simp [State.endWave]

@[simp] theorem State.checkWaves_fenceReq (s : State) : s.checkWaves.dom.fenceReq = s.dom.fenceReq := by
  simp [State.checkWaves]

@[simp] theorem State.denyDomain_fenceReq (s : State) (d : Nat) : (s.denyDomain d).dom.fenceReq = s.dom.fenceReq := by
  simp [State.denyDomain]

@[simp] theorem State.setFloor_fenceReq (s : State) (d h : Nat) (falls : Bool) :
    (s.setFloor d h falls).dom.fenceReq = s.dom.fenceReq := by
  simp [State.setFloor]

@[simp] theorem State.cellsOff_fenceReq (s : State) (d : Nat) : (s.cellsOff d).dom.fenceReq = s.dom.fenceReq := by
  simp [State.cellsOff]

@[simp] theorem State.enterQuiesce_fenceReq (s : State) (d : Nat) : (s.enterQuiesce d).dom.fenceReq = s.dom.fenceReq := by
  simp [State.enterQuiesce]

/-- A domain that enters DARK or FENCED drops its own fence request. -/
@[simp] theorem State.enterDown_fenceReq (s : State) (d : Nat) :
    (s.enterDown d).dom.fenceReq = s.dom.fenceReq.put d false := by
  simp [State.enterDown]

theorem State.domEnter_fenceReq (s : State) (d new : Nat) :
    (s.domEnter d new).dom.fenceReq =
      if s.domSt d ≠ new ∧ (new = 0 ∨ new = 5) then s.dom.fenceReq.put d false else s.dom.fenceReq := by
  by_cases hsame : s.domSt d = new
  · simp [State.domEnter, hsame]
  · rw [State.domEnter, if_neg hsame]
    by_cases hdown : new = 0 ∨ new = 5
    · simp (maxDischargeDepth := 60) [hsame, hdown]
    · simp (maxDischargeDepth := 60) [hsame, hdown]

/-! ### A fatal cause and the domains (R45, R127) -/

theorem State.domEnter_domSt_of_ne {e d : Nat} (h : e ≠ d) (s : State) (new : Nat) : (s.domEnter d new).domSt e = s.domSt e := by
  by_cases hsame : s.domSt d = new
  · rw [State.domEnter, if_pos hsame]
  · rw [State.domEnter, if_neg hsame]
    simp (maxDischargeDepth := 60) [State.domSt, h]

theorem State.domEnter_fenceReq_of_ne {e d : Nat} (h : e ≠ d) (s : State) (new : Nat) :
    Tbl.get false (s.domEnter d new).dom.fenceReq e = Tbl.get false s.dom.fenceReq e := by
  rw [State.domEnter_fenceReq]
  split
  · simp [h]
  · rfl

/-- A domain's entry into a state raises its own events after what waits. -/
theorem State.domEnter_raises (s : State) (d new : Nat) : s.raiseQ <+: (s.domEnter d new).raiseQ := by
  by_cases hsame : s.domSt d = new
  · rw [State.domEnter, if_pos hsame]
  · rw [State.domEnter, if_neg hsame]
    simp (maxDischargeDepth := 60)
    refine List.IsPrefix.trans (List.IsPrefix.trans ?_ (State.when_raises _ _ ?_)) (State.when_raises _ _ ?_)
    · simp (maxDischargeDepth := 60)
    · simp
    · simp [State.enterFenced]

/-- A fence request of a domain is pending; `loss` marks the cell-loss fence (R114, R128). -/
def State.requestFence (s : State) (d : Nat) (loss : Bool) : State :=
  { s with dom := { s.dom with
      fenceReq := s.dom.fenceReq.put d true,
      lossFence := if loss then s.dom.lossFence.put d true else s.dom.lossFence } }

/-- What a fence request does to a domain, by the state it stands in. -/
theorem State.fence_cases (s : State) (d : Nat) (loss : Bool) :
    ((s.domSt d = 0 ∨ s.domSt d = 1) ∧ s.fence d loss = s.domEnter d 5) ∨
    (s.domSt d = 5 ∧ s.fence d loss = s) ∨
    (s.domSt d = 4 ∧ s.fence d loss = (s.requestFence d loss).rearb 4 d) ∨
    ((s.domSt d = 2 ∨ s.domSt d = 3 ∨ 6 ≤ s.domSt d) ∧ s.fence d loss = (s.requestFence d loss).domEnter d 4) := by
  unfold State.fence
  split
  · next h => exact .inl ⟨.inl h, s.domGo_of_ne_zero d (by decide)⟩
  · next h => exact .inl ⟨.inr h, s.domGo_of_ne_zero d (by decide)⟩
  · next h => exact .inr (.inl ⟨h, rfl⟩)
  · next h0 h1 h5 =>
    simp only [imp_false] at h0 h1 h5
    by_cases h4 : s.domSt d = 4
    · exact .inr (.inr (.inl ⟨h4, if_pos h4⟩))
    · refine .inr (.inr (.inr ⟨by omega, ?_⟩))
      rw [← State.domGo_of_ne_zero _ d (by decide)]
      exact if_neg h4

/-- A fence request that meets one domain leaves the others. -/
theorem State.fence_of_ne {e d : Nat} (h : e ≠ d) (s : State) (loss : Bool) :
    (s.fence d loss).domSt e = s.domSt e ∧
      Tbl.get false (s.fence d loss).dom.fenceReq e = Tbl.get false s.dom.fenceReq e := by
  rcases s.fence_cases d loss with ⟨-, he⟩ | ⟨-, he⟩ | ⟨-, he⟩ | ⟨-, he⟩ <;> rw [he]
  · exact ⟨State.domEnter_domSt_of_ne h s 5, State.domEnter_fenceReq_of_ne h s 5⟩
  · exact ⟨rfl, rfl⟩
  · simp [State.requestFence, State.domSt, h]
  · rw [State.domEnter_domSt_of_ne h, State.domEnter_fenceReq_of_ne h]
    simp [State.requestFence, State.domSt, h]

theorem State.fence_raises (s : State) (d : Nat) (loss : Bool) : s.raiseQ <+: (s.fence d loss).raiseQ := by
  rcases s.fence_cases d loss with ⟨-, he⟩ | ⟨-, he⟩ | ⟨-, he⟩ | ⟨-, he⟩ <;> rw [he]
  · exact s.domEnter_raises d 5
  · simp [State.requestFence]
  · exact (s.requestFence d loss).domEnter_raises d 4

/-- A live or derated domain that a fence request meets quiesces, and FENCED is its end state (R118, R128). -/
theorem State.fence_of_live {s : State} {d : Nat} (h : s.domSt d = 2 ∨ s.domSt d = 3) (loss : Bool) :
    (s.fence d loss).domSt d = 4 ∧ Tbl.get false (s.fence d loss).dom.fenceReq d = true := by
  have hlive : (s.requestFence d loss).domSt d = s.domSt d := rfl
  rcases s.fence_cases d loss with ⟨hst, -⟩ | ⟨hst, -⟩ | ⟨hst, -⟩ | ⟨-, he⟩
  · omega
  · omega
  · omega
  · rw [he]
    refine ⟨State.domEnter_domSt (by omega) (by decide), ?_⟩
    rw [State.domEnter_fenceReq, if_neg (by omega)]
    simp [State.requestFence]

theorem State.fatalQuiesce_of_ne {e d : Nat} (h : e ≠ d) (s : State) :
    (s.fatalQuiesce d).domSt e = s.domSt e ∧
      Tbl.get false (s.fatalQuiesce d).dom.fenceReq e = Tbl.get false s.dom.fenceReq e := by
  unfold State.fatalQuiesce
  split
  · exact State.fence_of_ne h s false
  · exact ⟨rfl, rfl⟩

theorem State.fatalQuiesce_raises (s : State) (d : Nat) : s.raiseQ <+: (s.fatalQuiesce d).raiseQ := by
  unfold State.fatalQuiesce
  split
  · exact s.fence_raises d false
  · rfl

theorem State.fatalQuiesce_of_live {s : State} {d : Nat} (h : s.domSt d = 2 ∨ s.domSt d = 3) :
    (s.fatalQuiesce d).domSt d = 4 ∧ Tbl.get false (s.fatalQuiesce d).dom.fenceReq d = true := by
  rw [State.fatalQuiesce, if_pos (by omega)]
  exact State.fence_of_live h false

/-! ### Ranges of the bus (R45) -/

/-- The fatal cause meets every group. -/
def State.groupsFatal (s : State) : State := s.each [0, 1, 2, 3] (fun g s => s.groupFatal g)

/-- The fatal cause meets every domain. -/
def State.domainsFatal (s : State) : State := s.each (List.range s.cfg.table.domains) (fun d s => s.fatalQuiesce d)

theorem execBusFatal_fatal {vbus : Nat} (h : vbus < 9000 ∨ 14000 < vbus) (s : State) :
    exec (.busFatal vbus) s = .next (s.raise 0x01 12 0).groupsFatal.domainsFatal := by
  show execBusFatal vbus s = _
  rw [execBusFatal, if_pos h]
  rfl

/-- What the fatal cause brings about in one group stands at the end, where the other groups' turns keep it. -/
theorem State.groupsFatal_at {P Q : State → Prop} {s : State} {g : Nat} (hg : g < 4)
    (before : ∀ k, k ≠ g → ∀ t, P t → P (t.groupFatal k)) (act : ∀ t, P t → Q (t.groupFatal g))
    (after : ∀ k, k ≠ g → ∀ t, Q t → Q (t.groupFatal k)) (hs : P s) : Q s.groupsFatal :=
  State.each_at (by decide) (by simp; omega) before act after hs

theorem State.groupsFatal_stops {s : State} {g : Nat} (hg : g < 4) (h : s.grp g = 2 ∨ s.grp g = 3 ∨ s.grp g = 4) :
    s.groupsFatal.grp g = 7 ∧ Tbl.get false s.groupsFatal.phs.fatal g = true := by
  refine State.groupsFatal_at (P := fun t => t.grp g = 2 ∨ t.grp g = 3 ∨ t.grp g = 4)
    (Q := fun t => t.grp g = 7 ∧ Tbl.get false t.phs.fatal g = true) hg
    (fun k hk t ht => ?_) (fun t ht => ?_) (fun k hk t ht => ?_) h
  · obtain ⟨hgrp, -, -⟩ := t.groupFatal_of_ne hk.symm
    rwa [hgrp]
  · simp [State.groupFatal_stops ht]
  · obtain ⟨hgrp, hfatal, -⟩ := t.groupFatal_of_ne hk.symm
    rwa [hgrp, hfatal]

theorem State.groupsFatal_latches {s : State} {g : Nat} (hg : g < 4) (h : s.grp g = 1 ∨ s.grp g = 5) :
    s.groupsFatal.grp g = 6 ∧ s.groupsFatal.getF .PHS_GRP_EVENT_LATCHED g = 1 := by
  refine State.groupsFatal_at (P := fun t => t.grp g = 1 ∨ t.grp g = 5)
    (Q := fun t => t.grp g = 6 ∧ t.getF .PHS_GRP_EVENT_LATCHED g = 1) hg
    (fun k hk t ht => ?_) (fun t ht => ?_) (fun k hk t ht => ?_) h
  · obtain ⟨hgrp, -, -⟩ := t.groupFatal_of_ne hk.symm
    rwa [hgrp]
  · simp [State.groupFatal_latches ht, State.latchOff_latched]
  · obtain ⟨hgrp, -, hlatched⟩ := t.groupFatal_of_ne hk.symm
    rwa [hgrp, hlatched]

theorem State.groupsFatal_domSt (s : State) (d : Nat) : s.groupsFatal.domSt d = s.domSt d :=
  State.each_keeps (fun t => t.domSt d) _ _ (fun g t => t.groupFatal_domSt g d) s

theorem State.groupsFatal_cfg (s : State) : s.groupsFatal.cfg = s.cfg := by
  simp [State.groupsFatal]

/-- A fatal cause that meets the domains moves no group. -/
theorem State.domainsFatal_groups (s : State) (g : Nat) :
    s.domainsFatal.grp g = s.grp g ∧ s.domainsFatal.phs = s.phs ∧
      s.domainsFatal.getF .PHS_GRP_EVENT_LATCHED g = s.getF .PHS_GRP_EVENT_LATCHED g := by
  simp [State.domainsFatal, State.grp]

theorem State.domainsFatal_quiesces {s : State} {d : Nat} (hd : d < s.cfg.table.domains) (h : s.domSt d = 2 ∨ s.domSt d = 3) :
    s.domainsFatal.domSt d = 4 ∧ Tbl.get false s.domainsFatal.dom.fenceReq d = true := by
  refine State.each_at (P := fun t => t.domSt d = 2 ∨ t.domSt d = 3)
    (Q := fun t => t.domSt d = 4 ∧ Tbl.get false t.dom.fenceReq d = true) (i := d) List.nodup_range (List.mem_range.mpr hd)
    (fun e he t ht => ?_) (fun t ht => State.fatalQuiesce_of_live ht) (fun e he t ht => ?_) h
  · obtain ⟨hst, -⟩ := t.fatalQuiesce_of_ne he.symm
    rwa [hst]
  · obtain ⟨hst, hreq⟩ := t.fatalQuiesce_of_ne he.symm
    rwa [hst, hreq]

/-- The raise of the fatal source stands before what the groups and domains raise after it. -/
theorem State.busFatal_raises (s : State) : s.raiseQ <+: s.groupsFatal.domainsFatal.raiseQ :=
  (State.each_raises (fun g t => t.groupFatal_raises g) _ s).trans
    (State.each_raises (fun d t => t.fatalQuiesce_raises d) _ s.groupsFatal)

theorem execBusOutOfRange_contained {vbus : Nat} (h : (9000 ≤ vbus ∧ vbus < 10800) ∨ (13200 < vbus ∧ vbus ≤ 14000)) (s : State) :
    exec (.busOutOfRange vbus) s = .next ((s.setF .GLB_VSTK_STATUS_BUS_OOR 0 1).raise 0x01 11 0) := by
  show execBusOutOfRange vbus s = _
  rw [execBusOutOfRange, if_pos h]

/-! ### PMBus reads (R95 to R99) -/

/-- The read in front starts with its address, speed, command and length (R95). -/
theorem State.pmbIssue_cons {s : State} {cmd : Nat} {rest : List Nat} (h : s.phs.pmbReads = cmd :: rest) :
    s.pmbIssue = s.emit (.pmbusRead (s.getF .PHS_PMB_CTRL_ADDR 0) (s.isSet .PHS_PMB_CTRL_SPEED 0) cmd (pmbBytes cmd)) := by
  simp [State.pmbIssue, h]

/-- The end of a read takes it from the queue, whether or not a cycle ends with it. -/
theorem State.pmbNext_reads (s : State) : s.pmbNext.phs.pmbReads = s.phs.pmbReads.drop 1 ∧ s.pmbNext.phs.pmbRetried = false := by
  unfold State.pmbNext
  dsimp only
  repeat' split
  all_goals simp

theorem State.setPmbVal_reads (s : State) (cmd : Nat) (v : Int × Int) : (s.setPmbVal cmd v).phs.pmbReads = s.phs.pmbReads := rfl

theorem State.pmbStore_reads (s : State) (cmd data : Nat) : (s.pmbStore cmd data).phs.pmbReads = s.phs.pmbReads := by
  unfold State.pmbStore
  split
  case h_2 =>
    exact State.when_keeps (fun t => t.phs.pmbReads) _ _ _ rfl
  all_goals simp [State.setPmbVal_reads]

/-- The registers of the words read (R96, R97). -/
def pmbWordRegs : List (Nat × Fld) :=
  [(0x79, .PHS_PMB_DATA3_STATUS_WORD), (0x8B, .PHS_PMB_DATA1_READ_VOUT), (0x8C, .PHS_PMB_DATA1_READ_IOUT),
    (0x8D, .PHS_PMB_DATA2_READ_TEMPERATURE_1), (0x88, .PHS_PMB_DATA0_READ_VIN), (0x89, .PHS_PMB_DATA0_READ_IIN),
    (0x96, .PHS_PMB_DATA3_READ_POUT), (0x8E, .PHS_PMB_DATA2_READ_TEMPERATURE_2)]

theorem State.pmbStore_word {cmd : Nat} {f : Fld} (h : (cmd, f) ∈ pmbWordRegs) (s : State) (data : Nat) :
    (s.pmbStore cmd data).getF f 0 = data % 2 ^ f.width := by
  simp only [pmbWordRegs, List.mem_cons, Prod.mk.injEq, List.not_mem_nil, or_false] at h
  rcases h with ⟨rfl, rfl⟩ | ⟨rfl, rfl⟩ | ⟨rfl, rfl⟩ | ⟨rfl, rfl⟩ | ⟨rfl, rfl⟩ | ⟨rfl, rfl⟩ | ⟨rfl, rfl⟩ | ⟨rfl, rfl⟩
  all_goals simp [State.pmbStore]

/-- VOUT_MODE is stored, and LINEAR_OK tells whether its mode bits are those of the linear format (R97). -/
theorem State.pmbStore_mode (s : State) (data : Nat) :
    (s.pmbStore 0x20 data).getF .PHS_PMB_STATUS_VOUT_MODE 0 = data % 2 ^ 8 ∧
      (s.pmbStore 0x20 data).getF .PHS_PMB_STATUS_LINEAR_OK 0 = if data / 32 % 8 = 0 then 1 else 0 := by
  have hmode : Fld.width .PHS_PMB_STATUS_VOUT_MODE = 8 := by decide
  have hok : Fld.width .PHS_PMB_STATUS_LINEAR_OK = 1 := by decide
  by_cases hlinear : data / 32 % 8 = 0
  · simp [State.pmbStore, hlinear, hmode, hok]
  · simp [State.pmbStore, hlinear, hmode, hok]

/-- An acknowledged read with the right PEC is stored, and the next one starts (R97, R98). -/
theorem execPmbusTransactionDone_good {s : State} {cmd : Nat} {rest : List Nat} (h : s.phs.pmbReads = cmd :: rest) (data : Nat) :
    exec (.pmbusTransactionDone true data (pmbPec (s.getF .PHS_PMB_CTRL_ADDR 0) cmd data)) s =
      .next (s.pmbStore cmd data).pmbNext := by
  show execPmbusTransactionDone _ _ _ s = _
  simp [execPmbusTransactionDone, h]

/-- The read in front is marked as retried. -/
def State.pmbMarkRetried (s : State) : State := { s with phs := { s.phs with pmbRetried := true } }

/-- A read that failed twice is counted and raised, and its slot has failed. -/
def State.pmbFail (s : State) : State :=
  { (s.bumpF .PHS_PMB_STATUS_PEC_ERRORS 0).raise 0x01 8 0 with phs := { s.phs with pmbSlotFailed := true } }

/-- A bad read is retried once, and a second failure ends it (R98). -/
theorem execPmbusTransactionDone_bad {s : State} {cmd : Nat} {rest : List Nat} (h : s.phs.pmbReads = cmd :: rest)
    {ack : Bool} {data pec : Nat} (hbad : ack = false ∨ pec ≠ pmbPec (s.getF .PHS_PMB_CTRL_ADDR 0) cmd data) :
    exec (.pmbusTransactionDone ack data pec) s =
      .next (if s.phs.pmbRetried then s.pmbFail.pmbNext else s.pmbMarkRetried.pmbIssue) := by
  have hnot : ¬ (ack = true ∧ pec = pmbPec (s.getF .PHS_PMB_CTRL_ADDR 0) cmd data) := by
    rintro ⟨hack, hpec⟩
    simp [hack, hpec] at hbad
  show execPmbusTransactionDone ack data pec s = _
  rw [execPmbusTransactionDone, h]
  dsimp only
  rw [if_neg hnot]
  cases s.phs.pmbRetried <;> rfl

/-- The reads of a poll cycle stand behind those that wait (R96). -/
def State.pmbQueueCycle (s : State) : State :=
  { s with phs := { s.phs with
    pmbReads := s.phs.pmbReads ++ [0x79, 0x8B, 0x8C, 0x8D, pmbRotating s.phs.pmbRot], pmbCycle := true,
    pmbRot := (s.phs.pmbRot + 1) % 4, pmbSlotFailed := false, pmbRetried := false } }

theorem execPmbusPollCycle_polls {s : State} (hpoll : s.isSet .PHS_PMB_CTRL_POLL_EN 0 = true)
    (hheld : s.isSet .PHS_PMB_STATUS_HELD 0 = false) (htest : ∀ r ∈ s.lt.runs, r.1 ≠ 5) :
    exec .pmbusPollCycle s = .next (s.pmbQueueCycle.when (s.phs.pmbReads = []) State.pmbIssue) := by
  have hruns : ¬ s.lt.runs.any (fun p => p.1 = 5) = true := by
    rw [List.any_eq_true]
    rintro ⟨r, hr, h5⟩
    exact htest r hr (of_decide_eq_true h5)
  show execPmbusPollCycle s = _
  rw [execPmbusPollCycle, if_pos ⟨hpoll, by simp [hheld], hruns⟩]
  rfl

/-- The host drops the reads that wait and the cycle they belong to. -/
def State.pmbDropReads (s : State) : State :=
  { s with phs := { s.phs with pmbReads := [], pmbCycle := false, pmbRetried := false } }

theorem execPmbusBusHeld_free {s : State} (hfree : s.isSet .PHS_PMB_STATUS_HELD 0 = false) :
    exec .pmbusBusHeld s = .next ((s.setF .PHS_PMB_STATUS_HELD 0 1).raise 0x01 9 0).pmbDropReads := by
  show execPmbusBusHeld s = _
  rw [execPmbusBusHeld, hfree]
  rfl

/-- A held bus that is free again reads VOUT_MODE first (R96, R99). -/
theorem execPmbusBusFree_held {s : State} (hheld : s.isSet .PHS_PMB_STATUS_HELD 0 = true) :
    exec .pmbusBusFree s =
      .next (({ (s.setF .PHS_PMB_STATUS_HELD 0 0).bumpF .PHS_PMB_STATUS_BUS_RESETS 0 with
        phs := { s.phs with pmbReads := [0x20], pmbCycle := false, pmbRetried := false } } : State).emit
          (.pmbusRead (s.getF .PHS_PMB_CTRL_ADDR 0) (s.isSet .PHS_PMB_CTRL_SPEED 0) 0x20 1)) := by
  show execPmbusBusFree s = _
  rw [execPmbusBusFree, if_pos hheld]
  simp [State.pmbAsk, State.pmbIssue, State.isSet, pmbBytes]

/-! ### The statement -/

/-- Settles O15: PMBus reads by what the end of a read does, and a fatal range of the bus by what the fatal cause does to one group
and to one domain, which the turns of the others leave. -/
theorem pmbusHostAndBusSupervision : Obligations.PmbusHostAndBusSupervision := by
  refine ⟨fun s hpoll hheld htest => ?_, fun s data cmd rest hfront => ?_, fun s ack data pec cmd rest hfront hbad hfirst => ?_,
    fun s ack data pec cmd rest hfront hbad hsecond => ?_, fun s hfree => ?_, fun s hheld => ?_, fun s hheld => ?_,
    fun s vbus hrange => ?_, fun s vbus g hrange hg hst => ?_, fun s vbus d hrange hd hst => ?_, fun s vbus g hrange hg hst => ?_⟩
  · have hphs : (s.pmbQueueCycle.when (s.phs.pmbReads = []) State.pmbIssue).phs = s.pmbQueueCycle.phs := by simp
    refine ⟨_, execPmbusPollCycle_polls hpoll hheld htest, by rw [hphs]; rfl, by rw [hphs]; rfl, by rw [hphs]; rfl, fun hidle => ?_⟩
    have hfront : s.pmbQueueCycle.phs.pmbReads = 0x79 :: [0x8B, 0x8C, 0x8D, pmbRotating s.phs.pmbRot] := by
      simp [State.pmbQueueCycle, hidle]
    rw [decide_eq_true hidle, State.when_true, State.pmbIssue_cons hfront]
    rfl
  · have hword : ∀ f, (cmd, f) ∈ pmbWordRegs → ((s.pmbStore cmd data).pmbNext).getF f 0 = data % 2 ^ f.width := fun f hf => by
      rw [State.pmbNext_getF _ _ _ (by simp), State.pmbStore_word hf]
    have hreads := (State.pmbNext_reads (s.pmbStore cmd data)).1
    rw [State.pmbStore_reads, hfront] at hreads
    refine ⟨_, execPmbusTransactionDone_good hfront data, ?_, ?_, ?_, ?_, ?_, ?_, ?_, ?_, ?_, hreads⟩
    case refine_9 =>
      rintro rfl
      simpa using s.pmbStore_mode data
    all_goals
      rintro rfl
      exact hword _ (by decide)
  · refine ⟨s.pmbMarkRetried.pmbIssue, by rw [execPmbusTransactionDone_bad hfront hbad, hfirst]; rfl, ?_⟩
    rw [State.pmbIssue_cons (s := s.pmbMarkRetried) hfront]
    exact ⟨rfl, rfl, rfl, rfl⟩
  · refine ⟨s.pmbFail.pmbNext, by rw [execPmbusTransactionDone_bad hfront hbad, hsecond]; rfl, ?_⟩
    obtain ⟨hreads, hretried⟩ := s.pmbFail.pmbNext_reads
    refine ⟨?_, fun f hf => ?_, ?_, hretried⟩
    · simp [State.pmbFail]
    · have hcount : f ≠ .PHS_PMB_STATUS_PEC_ERRORS := by
        rintro rfl
        exact absurd hf (by decide)
      simp [State.pmbFail, hcount]
    · rw [hreads]
      simp [State.pmbFail, hfront]
  · refine ⟨_, execPmbusBusHeld_free hfree, ?_, rfl, rfl⟩
    simp [State.pmbDropReads, Fld.width_pos]
  · show execPmbusBusReset s = _
    rw [execPmbusBusReset, if_pos hheld]
  · refine ⟨_, execPmbusBusFree_held hheld, ?_, ?_, rfl, rfl⟩
    · simp
    · simp
  · refine ⟨_, execBusOutOfRange_contained hrange s, ?_, rfl⟩
    simp [Fld.width_pos]
  · obtain ⟨hgrp, hfatal⟩ := State.groupsFatal_stops (s := s.raise 0x01 12 0) hg hst
    obtain ⟨hkeep, hphs, -⟩ := (s.raise 0x01 12 0).groupsFatal.domainsFatal_groups g
    exact ⟨_, execBusFatal_fatal hrange s, hkeep.trans hgrp, by rw [hphs, hfatal], State.busFatal_raises _⟩
  · have hd' : d < (s.raise 0x01 12 0).groupsFatal.cfg.table.domains := by
      rwa [State.groupsFatal_cfg]
    have hlive := (s.raise 0x01 12 0).groupsFatal_domSt d
    exact ⟨_, execBusFatal_fatal hrange s, State.domainsFatal_quiesces hd' (by rw [hlive]; exact hst)⟩
  · obtain ⟨hgrp, hlatched⟩ := State.groupsFatal_latches (s := s.raise 0x01 12 0) hg hst
    obtain ⟨hkeep, -, hevent⟩ := (s.raise 0x01 12 0).groupsFatal.domainsFatal_groups g
    exact ⟨_, execBusFatal_fatal hrange s, hkeep.trans hgrp, hevent.trans hlatched⟩

end Sys2Proof.Machine

/-! What the commands of phase groups, phases and PMBus leave unchanged (R68, R70, R79, R82, R85, R93). -/

namespace Sys2Proof.Machine
open Host (Outcome)

/-- Each command composes operations whose frames the laws give; its list names the fields of those it may run. The end of a stop
ramp lists none. -/
theorem phases_frame {c : Instr} {s t : State} {fs : List Fld} (hc : c.family = .phases) (hw : c.writes = some fs)
    (h : exec c s = .next t) : s.onlyChanges t fs c.parts := by
  cases c <;> cases hc <;> cases hw <;> cases h
  all_goals try dsimp only
  all_goals repeat' split
  all_goals refine ⟨fun f i hf => ?_, by simp (maxDischargeDepth := 60) [Part.forall_iff, Instr.parts, Part.same]⟩
  all_goals
    try simp only [domEnterFields, latchFields, sourceFields, driveFields,
      List.cons_append, List.nil_append, List.mem_cons, not_or] at hf
  all_goals simp (maxDischargeDepth := 60) [hf]

/-- Settles O53: the family of phase groups, phases and PMBus in one. -/
theorem phasesFrame : Obligations.PhasesFrame :=
  fun _ _ _ _ hc hw h => phases_frame hc hw h

end Sys2Proof.Machine

/-! Rules of the phase groups: what entering a state, a reading, a reference and a ramp leave of a group and of its phases
(R68, R82 to R84, R93). -/

namespace Sys2Proof.Machine

/-! ### Fields of a group -/

@[simp] theorem width_grpState : Fld.width .PHS_GRP_STATUS_STATE = 4 := rfl

@[simp] theorem State.setF_grp (s : State) {f : Fld} (i v g : Nat) (h : .PHS_GRP_STATUS_STATE ≠ f) :
    (s.setF f i v).grp g = s.grp g := s.getF_setF_fld i g v h

theorem State.setGrp_grp_self (s : State) (g : Nat) {st : Nat} (h : st < 8) : (s.setGrp g st).grp g = st := by
  rw [State.setGrp_grp, if_pos rfl, width_grpState, Nat.mod_eq_of_lt (by omega)]

theorem State.updTon_grp (s : State) (g k : Nat) : (s.updTon g).grp k = s.grp k := by
  simp [State.grp]

theorem State.grpOff_grp (s : State) (g : Nat) : (s.grpOff g).grp g = 0 := by
  rw [State.grpOff, State.updTon_grp, State.setF_grp _ _ _ _ (by decide), State.setF_grp _ _ _ _ (by decide),
    State.setGrp_grp_self _ _ (by decide)]

theorem State.grpOff_attempts (s : State) (g : Nat) : (s.grpOff g).getF .PHS_GRP_STATUS_ATTEMPTS g = 0 := by
  simp [State.grpOff]

theorem State.sense_vsense (s : State) (g : Nat) {vs : Nat} (h : vs < 2 ^ 13) :
    (s.sense g vs).getF .PHS_GRP_REF_VSENSE g = vs := by
  have hwidth : Fld.width .PHS_GRP_REF_VSENSE = 13 := rfl
  rw [State.sense, State.getF_setF_self, hwidth, Nat.mod_eq_of_lt h]

/-- A group that enters RAMP starts it at the voltage measured. -/
theorem State.enterRamp_starts (s : State) (g : Nat) {vs : Nat} (h : vs < 2 ^ 13) :
    (s.enterRamp g vs).grp g = 2 ∧ (s.enterRamp g vs).getF .PHS_GRP_REF_VSENSE g = vs ∧
      Tbl.get 0 (s.enterRamp g vs).phs.rampFrom g = vs * 500 ∧ Tbl.get 0 (s.enterRamp g vs).phs.rampAt g = s.time := by
  refine ⟨?_, ?_, ?_, ?_⟩
  · rw [← State.setGrp_grp_self s g (st := 2) (by decide)]
    simp [State.enterRamp, State.sense, State.grp]
  · rw [State.enterRamp, State.startRampAt_getF _ _ _ _ _ (by decide), State.sense_vsense _ _ h]
  · simp [State.enterRamp, State.startRampAt]
  · simp [State.enterRamp, State.startRampAt, State.sense]

end Sys2Proof.Machine

/-! Enabling, disabling and starting a phase group (R82 to R86). -/

namespace Sys2Proof.Machine
open Host (Outcome)

theorem execGroupEnable_off {s : State} {g : Nat} (hg : g < 4) (hoff : s.grp g = 0) (htest : ∀ r ∈ s.lt.runs, r.1 ≠ 4) :
    exec (.groupEnable g) s = .next ((s.setF .PHS_GRP_CTRL_EN g 1).setGrp g 1) := by
  have hruns : ¬ s.lt.runs.any (fun p => p.1 = 4) = true := by
    rw [List.any_eq_true]
    rintro ⟨r, hr, h4⟩
    exact htest r hr (of_decide_eq_true h4)
  show execGroupEnable g s = _
  rw [execGroupEnable, if_pos ⟨hg, hoff, hruns⟩]

/-- A group in DELAY to HICCUP_WAIT is disabled where VSTK's own condition is met (R86). -/
theorem execGroupDisable_on {s : State} {g : Nat} (hg : g < 4) (hon : 1 ≤ s.grp g ∧ s.grp g ≤ 5)
    (hdown : g = 0 → s.allDown = true) :
    exec (.groupDisable g) s = .next (if s.grp g = 1 ∨ s.grp g = 5 then (s.setF .PHS_GRP_CTRL_EN g 0).grpOff g
      else (s.setF .PHS_GRP_CTRL_EN g 0).stopRamp g false) := by
  show execGroupDisable g s = _
  rw [execGroupDisable, if_neg (by omega), if_neg (fun h => h.2 (hdown h.1))]
  dsimp only
  rw [State.setF_grp _ _ _ _ (by decide)]

theorem execGroupDisable_refused {s : State} (hon : 1 ≤ s.grp 0 ∧ s.grp 0 ≤ 5) (hup : s.allDown = false) :
    exec (.groupDisable 0) s = .next (s.raise 0x01 13 0) := by
  show execGroupDisable 0 s = _
  rw [execGroupDisable, if_neg (by omega), if_pos ⟨rfl, by simp [hup]⟩]

theorem execStartDelayElapsed_due {s : State} {g : Nat} (hg : g < 4) (hst : s.grp g = 1)
    (hdue : 10000 * s.getF .PHS_GRP_SOFT_START_DELAY g ≤ s.grpFor g) (vs : Nat) :
    exec (.startDelayElapsed g vs) s = .next (s.enterRamp g vs) := by
  show execStartDelayElapsed g vs s = _
  rw [execStartDelayElapsed, delayTicks, if_pos ⟨hg, hst, hdue⟩]

theorem execHiccupWaitElapsed_due {s : State} {g : Nat} (hg : g < 4) (hst : s.grp g = 5) (hdue : 5000000 ≤ s.grpFor g)
    (vs : Nat) : exec (.hiccupWaitElapsed g vs) s = .next (s.enterRamp g vs) := by
  show execHiccupWaitElapsed g vs s = _
  rw [execHiccupWaitElapsed, if_pos ⟨hg, hst, hdue⟩]

/-- Settles O12, command by command: a group's entry into each state keeps EN, and a ramp starts at the voltage measured. -/
theorem groupCommandsMoveTheGroup : Obligations.GroupCommandsMoveTheGroup := by
  refine ⟨fun s g hg hoff htest => ?_, fun s g hg hst hdown => ?_, fun s g hg hst hdown => ?_, fun s hlo hhi hup => ?_,
    fun s g vs hg hvs hst hdue => ?_, fun s g vs hg hvs hst hdue => ?_⟩
  · refine ⟨_, execGroupEnable_off hg hoff htest, State.setGrp_grp_self _ _ (by decide), ?_⟩
    rw [State.setGrp_getF _ _ _ _ _ (by decide), State.getF_setF_self]
    rfl
  · refine ⟨_, execGroupDisable_on hg (by omega) hdown, ?_⟩
    rw [if_pos hst]
    refine ⟨State.grpOff_grp _ _, ?_, State.grpOff_attempts _ _⟩
    rw [State.grpOff_getF _ _ _ _ (by decide), State.getF_setF_self, Nat.zero_mod]
  · refine ⟨_, execGroupDisable_on hg (by omega) hdown, ?_⟩
    rw [if_neg (by omega)]
    refine ⟨by rw [State.stopRamp_grp, if_pos rfl], ?_⟩
    rw [State.stopRamp_getF _ _ _ _ _ (by decide), State.getF_setF_self, Nat.zero_mod]
  · exact execGroupDisable_refused ⟨hlo, hhi⟩ hup
  · exact ⟨_, execStartDelayElapsed_due hg hst hdue vs, s.enterRamp_starts g hvs⟩
  · exact ⟨_, execHiccupWaitElapsed_due hg hst hdue vs, s.enterRamp_starts g hvs⟩

end Sys2Proof.Machine

/-! A command to one phase group leaves the state of the other groups (R68, R79, R82, R85). -/

namespace Sys2Proof.Machine
open Host (Outcome)

/-- The fields that say where a group stands. -/
def groupFields : List Fld :=
  [.PHS_GRP_STATUS_STATE, .PHS_GRP_STATUS_ATTEMPTS, .PHS_GRP_REF_VREF, .PHS_GRP_REF_VSENSE, .PHS_GRP_TON_TON_BASE,
    .PHS_GRP_CTRL_EN]

/-- From `s` to `t` group `k` stands as it did. -/
def State.KeepsGroup (s : State) (k : Nat) (t : State) : Prop := ∀ f ∈ groupFields, t.getF f k = s.getF f k

theorem State.KeepsGroup.refl (s : State) (k : Nat) : s.KeepsGroup k s := fun _ _ => rfl

theorem State.KeepsGroup.trans {s t u : State} {k : Nat} (h : s.KeepsGroup k t) (h' : t.KeepsGroup k u) : s.KeepsGroup k u :=
  fun f hf => (h' f hf).trans (h f hf)

section
variable {k g : Nat} (s : State)

theorem State.KeepsGroup.setF (h : k ≠ g) (f : Fld) (v : Nat) : s.KeepsGroup k (s.setF f g v) :=
  fun f' _ => s.getF_setF_item f f' v h

theorem State.KeepsGroup.event (h : k ≠ g) (f : Fld) (a b : Nat) : s.KeepsGroup k (s.event f g a b) :=
  .setF s h f 1

theorem State.KeepsGroup.setGrp (h : k ≠ g) (st : Nat) : s.KeepsGroup k (s.setGrp g st) := fun f hf => by
  by_cases hstate : f = .PHS_GRP_STATUS_STATE
  · subst hstate
    exact (s.setGrp_grp g st k).trans (if_neg h)
  · refine s.setGrp_getF g st f k ?_
    simp only [groupFields, List.mem_cons, List.not_mem_nil, or_false] at hf
    rcases hf with rfl | rfl | rfl | rfl | rfl | rfl
    · exact absurd rfl hstate
    all_goals decide

theorem State.KeepsGroup.updTon (h : k ≠ g) : s.KeepsGroup k (s.updTon g) :=
  (State.KeepsGroup.setF s h _ _).trans (.setF _ h _ _)

theorem State.KeepsGroup.startRampAt (h : k ≠ g) (v : Nat) : s.KeepsGroup k (s.startRampAt g v) := fun f hf => by
  rw [State.startRampAt, State.KeepsGroup.updTon _ h f hf]
  rfl

theorem State.KeepsGroup.enterRamp (h : k ≠ g) (vs : Nat) : s.KeepsGroup k (s.enterRamp g vs) :=
  ((State.KeepsGroup.setGrp s h 2).trans (.setF _ h _ _)).trans (.startRampAt _ h _)

theorem State.KeepsGroup.startFall (k g : Nat) : s.KeepsGroup k (s.startFall g) := fun _ _ => rfl

theorem State.KeepsGroup.enterRunIfReady (k : Nat) : s.KeepsGroup k s.enterRunIfReady := fun f hf => by
  refine s.enterRunIfReady_getF f k ?_
  simp only [groupFields, List.mem_cons, List.not_mem_nil, or_false] at hf
  rcases hf with rfl | rfl | rfl | rfl | rfl | rfl <;> decide

/-- A command whose conditions are not met changes nothing. -/
theorem State.KeepsGroup.ite {s t : State} (h : s.KeepsGroup k t) (c : Prop) [Decidable c] :
    s.KeepsGroup k (if c then t else s) := by
  split
  · exact h
  · exact .refl s k

end

/-- Settles O52: each command composes operations on its own group's fields, where its conditions are met, and changes nothing
where they are not. -/
theorem phaseGroupsAreApart : Obligations.PhaseGroupsAreApart := by
  intro s t g k x c hk hc h
  show s.KeepsGroup k t
  simp only [List.mem_cons, List.not_mem_nil, or_false] at hc
  rcases hc with rfl | rfl | rfl | rfl | rfl | rfl | rfl <;> cases h
  · exact .ite ((State.KeepsGroup.setF s hk _ _).trans (.setGrp _ hk 1)) _
  · exact .ite (.enterRamp s hk x) _
  · exact .ite (((State.KeepsGroup.setF s hk _ _).trans (.setGrp _ hk 4)).trans (.event _ hk _ _ _)) _
  · exact .ite (((State.KeepsGroup.setF s hk _ _).trans (.setGrp _ hk 3)).trans (.enterRunIfReady _ k)) _
  · exact .ite (.enterRamp s hk x) _
  · exact .ite (.startFall s k g) _
  · exact .ite (.setF s hk _ _) _

end Sys2Proof.Machine

/-! The state table of a phase group, from the ramp end to the stop (R82, R84, R85, R94). -/

namespace Sys2Proof.Machine
open Host (Outcome)

/-! ### What a reading leaves -/

@[simp] theorem State.sense_grp (s : State) (g vs k : Nat) : (s.sense g vs).grp k = s.grp k :=
  s.setF_grp _ _ _ (by decide)

theorem State.sense_liveCount (s : State) (g vs : Nat) : (s.sense g vs).liveCount g = s.liveCount g := by
  have hph : (s.sense g vs).ph = s.ph := funext fun p => s.getF_setF_fld g p vs (by decide)
  rw [State.liveCount, State.liveCount, hph]
  rfl

theorem State.sense_below (s : State) (g vs num : Nat) : (s.sense g vs).below g vs num = s.below g vs num := by
  simp [State.below, State.targetUV, State.sense]

theorem State.below_iff {s : State} {g vs num : Nat} : s.below g vs num = true ↔ vs * 500 * 100 < s.targetUV g * num :=
  decide_eq_true_iff

/-! ### Entries with an event -/

theorem State.event_grp (s : State) {f : Fld} (i a b g : Nat) (h : .PHS_GRP_STATUS_STATE ≠ f) :
    (s.event f i a b).grp g = s.grp g := s.getF_event_fld i g a b h

theorem State.latchOff_self (s : State) (g : Nat) :
    (s.latchOff g).grp g = 6 ∧ (s.latchOff g).getF .PHS_GRP_EVENT_LATCHED g = 1 := by
  simp [State.latchOff_latched]

/-! ### RAMP, REGULATE and FOLDBACK -/

theorem execRampEnd_atTarget {s : State} {g : Nat} (hg : g < 4) (hst : s.grp g = 2) (href : s.rampUV g = s.targetUV g)
    (vs : Nat) : exec (.rampEnd g vs) s = .next (
      if s.liveCount g = 0 then ((s.sense g vs).setGrp g 3).latchOff g
      else if s.below g vs 90 then (((s.sense g vs).setGrp g 4).updTon g).event .PHS_GRP_EVENT_FOLDBACK g 0x01 g
      else (((s.sense g vs).setGrp g 3).updTon g).enterRunIfReady) := by
  show execRampEnd g vs s = _
  rw [execRampEnd, if_pos ⟨hg, hst, href⟩]
  dsimp only
  rw [State.sense_liveCount, State.sense_below]

theorem execFoldbackEntry_held {s : State} {g vs : Nat} (hg : g < 4) (hst : s.grp g = 3)
    (hlow : vs * 500 * 100 < s.targetUV g * 90) (hheld : ∃ p ∈ s.rotation g, Tbl.get false s.phs.held p = true) :
    exec (.foldbackEntry g vs) s = .next (((s.sense g vs).setGrp g 4).event .PHS_GRP_EVENT_FOLDBACK g 0x01 g) := by
  show execFoldbackEntry g vs s = _
  rw [execFoldbackEntry, if_pos ⟨hg, hst, State.below_iff.mpr hlow, List.any_eq_true.mpr hheld⟩]

theorem execFoldbackRecovery_met {s : State} {g vs : Nat} (hg : g < 4) (hst : s.grp g = 4)
    (hmet : s.targetUV g * 92 ≤ vs * 500 * 100) :
    exec (.foldbackRecovery g vs) s = .next ((s.sense g vs).setGrp g 3).enterRunIfReady := by
  show execFoldbackRecovery g vs s = _
  rw [execFoldbackRecovery, if_pos ⟨hg, hst, by rw [State.below_iff]; omega⟩]

theorem execFbLong_due {s : State} {g : Nat} (hg : g < 4) (hst : s.grp g = 4) (hdue : 1000000 ≤ s.grpFor g) :
    exec (.fbLong g) s = .next (s.event .PHS_GRP_EVENT_FB_LONG g 0x01 g) := by
  show execFbLong g s = _
  rw [execFbLong, if_pos ⟨hg, hst, hdue⟩]

theorem execHiccupEntry_low {s : State} {g vs : Nat} (hg : g < 4) (hst : s.grp g = 4)
    (hlow : vs * 500 * 100 < s.targetUV g * 50) :
    exec (.hiccupEntry g vs) s = .next (
      if 2 ≤ s.getF .PHS_GRP_STATUS_ATTEMPTS g then (s.sense g vs).latchOff g
      else (((s.sense g vs).setGrp g 5).setF .PHS_GRP_STATUS_ATTEMPTS g (s.getF .PHS_GRP_STATUS_ATTEMPTS g + 1)).event
        .PHS_GRP_EVENT_HICCUP g 0x01 g) := by
  have hsense : (s.sense g vs).getF .PHS_GRP_STATUS_ATTEMPTS g = s.getF .PHS_GRP_STATUS_ATTEMPTS g :=
    s.getF_setF_fld g g vs (by decide)
  show execHiccupEntry g vs s = _
  rw [execHiccupEntry, if_pos ⟨hg, hst, State.below_iff.mpr hlow⟩]
  dsimp only
  rw [hsense]

theorem execAttemptsClear_due {s : State} {g : Nat} (hg : g < 4) (hst : s.grp g = 3) (hdue : 100000000 ≤ s.grpFor g) :
    exec (.attemptsClear g) s = .next (s.setF .PHS_GRP_STATUS_ATTEMPTS g 0) := by
  show execAttemptsClear g s = _
  rw [execAttemptsClear, if_pos ⟨hg, hst, hdue⟩]

/-! ### STOP_RAMP -/

theorem execStopDelayElapsed_due {s : State} {g : Nat} (hg : g < 4) (hst : s.grp g = 7)
    (hgo : Tbl.get false s.phs.stopGo g = false) (hdue : 10000 * s.getF .PHS_GRP_SOFT_STOP_DELAY g ≤ s.grpFor g) :
    exec (.stopDelayElapsed g) s = .next (s.startFall g) := by
  show execStopDelayElapsed g s = _
  rw [execStopDelayElapsed, delayTicks, if_pos ⟨hg, hst, by simp [hgo], hdue⟩]

/-- A group that has stopped reads no reference, and is latched off where a fatal cause is pending. -/
def State.stopped (s : State) (g vs : Nat) : State :=
  if Tbl.get false s.phs.fatal g then ((s.sense g vs).setF .PHS_GRP_REF_VREF g 0).latchOff g
  else ((s.sense g vs).setF .PHS_GRP_REF_VREF g 0).grpOff g

theorem execStopRampEnd_stopped {s : State} {g vs : Nat} (hg : g < 4) (hst : s.grp g = 7)
    (hgo : Tbl.get false s.phs.stopGo g = true) (hend : 20 * vs < Tbl.get 0 s.phs.vEntry g ∨ s.rampUV g = 0) :
    exec (.stopRampEnd g vs) s = .next ((s.stopped g vs).when (g = 0) State.endQuiescing).blockResetAdvance := by
  show execStopRampEnd g vs s = _
  rw [execStopRampEnd, if_pos ⟨hg, hst, hgo, by simpa [State.stopEnds] using hend⟩]
  rfl

theorem State.blockResetAdvance_of_noStop {s : State} (h : s.boot.blockStop = false) : s.blockResetAdvance = s := by
  rw [State.blockResetAdvance, if_neg (by simp [h])]

@[simp] theorem State.latchOff_blockStop (s : State) (g : Nat) : (s.latchOff g).boot.blockStop = s.boot.blockStop := by
  have hset : ((s.setGrp g 6).event .PHS_GRP_EVENT_LATCHED g 0x01 g).boot = s.boot := by simp
  rw [State.latchOff]
  exact (State.when_keeps (fun t => t.boot.blockStop) _ _ _ (by simp [State.enterSafe])).trans (by rw [hset])

theorem State.stopped_blockStop (s : State) (g vs : Nat) : (s.stopped g vs).boot.blockStop = s.boot.blockStop := by
  unfold State.stopped
  split
  · simp [State.sense]
  · simp [State.sense]

theorem State.stopped_grp (s : State) (g vs : Nat) :
    (s.stopped g vs).grp g = if Tbl.get false s.phs.fatal g then 6 else 0 := by
  unfold State.stopped
  split
  · simp
  · rw [State.grpOff_grp]

/-- The reference of a group without output stands (R68). -/
theorem State.updTon_vref_zero {s : State} {g : Nat} (hst : s.grp g = 0) (href : s.getF .PHS_GRP_REF_VREF g = 0) :
    (s.updTon g).getF .PHS_GRP_REF_VREF g = 0 := by
  have hzero : s.refUV g = 0 := by simp [State.refUV, hst, href]
  simp [State.updTon, hzero, rneDiv]

theorem State.grpOff_vref (s : State) (g : Nat) : (s.grpOff g).getF .PHS_GRP_REF_VREF g = 0 := by
  rw [State.grpOff]
  refine State.updTon_vref_zero ?_ (by simp)
  rw [State.setF_grp _ _ _ _ (by decide), State.setF_grp _ _ _ _ (by decide), State.setGrp_grp_self _ _ (by decide)]

theorem State.stopped_vref (s : State) (g vs : Nat) : (s.stopped g vs).getF .PHS_GRP_REF_VREF g = 0 := by
  unfold State.stopped
  split
  · simp
  · exact State.grpOff_vref _ g

/-! ### What the end of the quiesces leaves of V_ref

A domain's entry re-forms the trees of cells, steps and slope; the reference moves with the tree of VSTK alone (R68, R153). -/

theorem State.drive_vref {kind : Nat} (h : kind ≠ 0) (s : State) (i : Nat) (v : Int) (k : Nat) :
    (s.drive kind i v).getF .PHS_GRP_REF_VREF k = s.getF .PHS_GRP_REF_VREF k := by
  unfold State.drive
  split
  · exact absurd rfl h
  all_goals simp (maxDischargeDepth := 60)

@[simp] theorem State.rearb_vref {kind : Nat} (h : kind ≠ 0) (s : State) (i k : Nat) :
    (s.rearb kind i).getF .PHS_GRP_REF_VREF k = s.getF .PHS_GRP_REF_VREF k := by
  unfold State.rearb
  repeat' split
  all_goals simp [State.drive_vref, h]

@[simp] theorem State.startDomain_vref (s : State) (d k : Nat) :
    (s.startDomain d).getF .PHS_GRP_REF_VREF k = s.getF .PHS_GRP_REF_VREF k := by
  simp [State.startDomain]

@[simp] theorem State.showWaves_vref (s : State) (k : Nat) :
    s.showWaves.getF .PHS_GRP_REF_VREF k = s.getF .PHS_GRP_REF_VREF k := by
  simp [State.showWaves]

@[simp] theorem State.setWaves_vref (s : State) (ws : List Wave) (k : Nat) :
    (s.setWaves ws).getF .PHS_GRP_REF_VREF k = s.getF .PHS_GRP_REF_VREF k := by
  simp [State.setWaves]

@[simp] theorem State.endWave_vref (s : State) (bid k : Nat) :
    (s.endWave bid).getF .PHS_GRP_REF_VREF k = s.getF .PHS_GRP_REF_VREF k := by
  simp [State.endWave]

@[simp] theorem State.checkWaves_vref (s : State) (k : Nat) :
    s.checkWaves.getF .PHS_GRP_REF_VREF k = s.getF .PHS_GRP_REF_VREF k := by
  simp [State.checkWaves]

@[simp] theorem State.denyDomain_vref (s : State) (d k : Nat) :
    (s.denyDomain d).getF .PHS_GRP_REF_VREF k = s.getF .PHS_GRP_REF_VREF k := by
  simp [State.denyDomain]

@[simp] theorem State.setFloor_vref (s : State) (d h : Nat) (falls : Bool) (k : Nat) :
    (s.setFloor d h falls).getF .PHS_GRP_REF_VREF k = s.getF .PHS_GRP_REF_VREF k := by
  simp [State.setFloor]

@[simp] theorem State.enterDown_vref (s : State) (d k : Nat) :
    (s.enterDown d).getF .PHS_GRP_REF_VREF k = s.getF .PHS_GRP_REF_VREF k := by
  simp [State.enterDown]

@[simp] theorem State.domEnter_vref (s : State) (d new k : Nat) :
    (s.domEnter d new).getF .PHS_GRP_REF_VREF k = s.getF .PHS_GRP_REF_VREF k := by
  simp (maxDischargeDepth := 60) [State.domEnter]

theorem State.endQuiescing_vref (s : State) (k : Nat) :
    s.endQuiescing.getF .PHS_GRP_REF_VREF k = s.getF .PHS_GRP_REF_VREF k := by
  simp [State.endQuiescing, State.quiesceEnd, State.domGo]

theorem State.endQuiescing_grp (s : State) (k : Nat) : s.endQuiescing.grp k = s.grp k :=
  s.endQuiescing_getF _ k (by decide)

/-! ### The statement -/

/-- Settles O13, command by command; that a stopped group's reference stays 0 V rests on what the end of the quiesces leaves. -/
theorem groupEventsMoveTheGroup : Obligations.GroupEventsMoveTheGroup := by
  refine ⟨fun s g vs hg hvs hst href hlive hmet => ?_, fun s g vs hg hst href hlive hlow => ?_,
    fun s g vs hg hst href hlive => ?_, fun s g vs hg hst hlow hheld => ?_, fun s g vs hg hst hmet => ?_,
    fun s g hg hst hdue => execFbLong_due hg hst hdue, fun s g vs hg hst hlow hfew => ?_, fun s g vs hg hst hlow hmany => ?_,
    fun s g hg hst hgo hdue => ?_, fun s g vs hg hst hgo hend hstop => ?_,
    fun s g hg hst hdue => execAttemptsClear_due hg hst hdue⟩
  · have hbelow : ¬ s.below g vs 90 = true := by rw [State.below_iff]; omega
    refine ⟨_, execRampEnd_atTarget hg hst href vs, ?_⟩
    rw [if_neg (by omega), if_neg hbelow]
    constructor
    · rw [State.grp, State.enterRunIfReady_getF _ _ _ (by decide)]
      exact (State.updTon_grp _ g g).trans (State.setGrp_grp_self _ _ (by decide))
    · rw [State.enterRunIfReady_getF _ _ _ (by decide), State.updTon_getF _ _ _ _ (by decide),
        State.setGrp_getF _ _ _ _ _ (by decide), State.sense_vsense _ _ hvs]
  · refine ⟨_, execRampEnd_atTarget hg hst href vs, ?_⟩
    rw [if_neg (by omega), if_pos (State.below_iff.mpr hlow)]
    refine ⟨?_, State.getF_event_self _ _ g _ _⟩
    rw [State.event_grp _ _ _ _ _ (by decide), State.updTon_grp, State.setGrp_grp_self _ _ (by decide)]
  · refine ⟨_, execRampEnd_atTarget hg hst href vs, ?_⟩
    rw [if_pos hlive]
    exact State.latchOff_self _ g
  · refine ⟨_, execFoldbackEntry_held hg hst hlow hheld, ?_, State.getF_event_self _ _ g _ _⟩
    rw [State.event_grp _ _ _ _ _ (by decide), State.setGrp_grp_self _ _ (by decide)]
  · refine ⟨_, execFoldbackRecovery_met hg hst hmet, ?_⟩
    rw [State.grp, State.enterRunIfReady_getF _ _ _ (by decide)]
    exact State.setGrp_grp_self _ _ (by decide)
  · have hwidth : Fld.width .PHS_GRP_STATUS_ATTEMPTS = 2 := rfl
    refine ⟨_, execHiccupEntry_low hg hst hlow, ?_⟩
    rw [if_neg (by omega)]
    refine ⟨?_, ?_, State.getF_event_self _ _ g _ _⟩
    · rw [State.event_grp _ _ _ _ _ (by decide), State.setF_grp _ _ _ _ (by decide), State.setGrp_grp_self _ _ (by decide)]
    · rw [State.getF_event_fld _ _ _ _ _ (by decide), State.getF_setF_self, hwidth, Nat.mod_eq_of_lt (by omega)]
  · refine ⟨_, execHiccupEntry_low hg hst hlow, ?_⟩
    rw [if_pos hmany]
    exact State.latchOff_self _ g
  · refine ⟨_, execStopDelayElapsed_due hg hst hgo hdue, ?_, ?_, hst⟩
    · simp [State.startFall]
    · simp [State.startFall]
  · have hboot : ((s.stopped g vs).when (g = 0) State.endQuiescing).boot.blockStop = false := by
      rw [State.when_boot _ _ _ (by simp), State.stopped_blockStop, hstop]
    refine ⟨_, execStopRampEnd_stopped hg hst hgo hend, ?_⟩
    rw [State.blockResetAdvance_of_noStop hboot]
    constructor
    · rw [← s.stopped_grp g vs]
      exact State.when_keeps (fun t => t.grp g) _ _ _ (State.endQuiescing_grp _ g)
    · rw [← s.stopped_vref g vs]
      exact State.when_keeps (fun t => t.getF .PHS_GRP_REF_VREF g) _ _ _ (State.endQuiescing_vref _ g)

end Sys2Proof.Machine

/-! Rules of one phase: what its group's entries and its own leaving of the rotation leave of its state and its trim (R62, R78,
R87, R93). -/

namespace Sys2Proof.Machine

@[simp] theorem width_phState : Fld.width .PHS_PH_STATUS_PH_STATE = 3 := rfl

@[simp] theorem State.setF_ph (s : State) {f : Fld} (i v p : Nat) (h : .PHS_PH_STATUS_PH_STATE ≠ f) :
    (s.setF f i v).ph p = s.ph p := s.getF_setF_fld i p v h

@[simp] theorem State.phTest_setPhTest (s : State) (p : Nat) (t : PhaseTest) : (s.setPhTest p t).phTest p = t := by
  simp [State.phTest, State.setPhTest]

@[simp] theorem State.setPhTest_ph (s : State) (p : Nat) (t : PhaseTest) (q : Nat) : (s.setPhTest p t).ph q = s.ph q := rfl

theorem State.getS_congr {s t : State} {f : Fld} {i : Nat} (h : t.getF f i = s.getF f i) : t.getS f i = s.getS f i :=
  congrArg (toS f.width) h

theorem State.getS_setS_coldTrim (s : State) (p : Nat) :
    (s.setS .PHS_PH_STATUS_TRIM p (-64)).getS .PHS_PH_STATUS_TRIM p = -64 := by
  rw [State.getS, State.setS, State.getF_setF_self]
  decide

/-! ### A group's entry into a state -/

/-- A check that is cut is that of a phase in CHECKING. -/
theorem State.cutCheck_ph {s : State} {p : Nat} (h : s.ph p ≠ 5) (q : Nat) : (s.cutCheck q).ph p = s.ph p := by
  unfold State.cutCheck
  split
  · next hq =>
    have hne : p ≠ q := by
      rintro rfl
      exact h hq
    simp [State.ph, hne]
  · rfl

theorem State.cutCheck_trim_zero {s : State} {p : Nat} (h : s.getF .PHS_PH_STATUS_TRIM p = 0) (q : Nat) :
    (s.cutCheck q).getF .PHS_PH_STATUS_TRIM p = 0 := by
  unfold State.cutCheck
  split
  · simp [State.getF_setF, h]
  · exact h

/-- What the cutting of checks keeps of a phase's fields, a group's entry into a state keeps. -/
theorem State.setGrp_getF_inv {f : Fld} {p : Nat} {P : Nat → Prop}
    (hf : f ∉ ([.GLB_FW_IL_GROUP, .GLB_FW_IL_SET, .PHS_GRP_STATUS_STATE] : List Fld))
    (hcut : ∀ (t : State) (q : Nat), P (t.getF f p) → P ((t.cutCheck q).getF f p)) {s : State} (hs : P (s.getF f p))
    (g st : Nat) : P ((s.setGrp g st).getF f p) := by
  simp only [List.mem_cons, not_or, List.not_mem_nil, not_false_eq_true, and_true] at hf
  obtain ⟨hgroup, hset, hstate⟩ := hf
  have hrestart : ∀ t : State,
      (t.each (t.cfg.table.groupPhases g) fun q u => u.restartTests q).getF f p = t.getF f p := fun t =>
    t.getF_each _ _ f p fun q u => u.restartTests_getF q f p List.not_mem_nil
  simp only [State.setGrp, State.getF_when, State.ilSet_getF, State.getF_setB_fld, hrestart,
    List.mem_cons, List.not_mem_nil, or_false, not_false_eq_true, ne_eq, hgroup, hset, implies_true]
  refine State.when_inv (fun t => P (t.getF f p)) _ _ _ ?_
    (State.each_inv (fun t => P (t.getF f p)) _ _ (fun q t => hcut t q) _ ?_)
  all_goals simpa [hstate] using hs

theorem State.setGrp_ph {s : State} {p : Nat} (h : s.ph p ≠ 5) (g st : Nat) : (s.setGrp g st).ph p = s.ph p :=
  State.setGrp_getF_inv (f := .PHS_PH_STATUS_PH_STATE) (P := fun v => v = s.ph p) (by decide)
    (fun t q ht => (State.cutCheck_ph (by rw [State.ph, ht]; exact h) q).trans ht) rfl g st

theorem State.setGrp_trim_zero {s : State} {p : Nat} (h : s.getF .PHS_PH_STATUS_TRIM p = 0) (g st : Nat) :
    (s.setGrp g st).getF .PHS_PH_STATUS_TRIM p = 0 :=
  State.setGrp_getF_inv (P := fun v => v = 0) (by decide) (fun _ q ht => State.cutCheck_trim_zero ht q) h g st

theorem State.latchOff_ph {s : State} {p : Nat} (h : s.ph p ≠ 5) (g : Nat) : (s.latchOff g).ph p = s.ph p := by
  rw [← State.setGrp_ph h g 6]
  simp [State.latchOff, State.ph]

theorem State.latchOff_trim_zero {s : State} {p : Nat} (h : s.getF .PHS_PH_STATUS_TRIM p = 0) (g : Nat) :
    (s.latchOff g).getF .PHS_PH_STATUS_TRIM p = 0 := by
  rw [← State.setGrp_trim_zero h g 6]
  simp [State.latchOff]

/-! ### A phase leaves its state -/

/-- A count of the live phases changes a phase by the group's latch alone. -/
theorem State.recount_ph {s : State} {p : Nat} (h : s.ph p ≠ 5) (g : Nat) : (s.recount g).ph p = s.ph p := by
  have hlatch : ∀ t : State, t.ph p = s.ph p → (t.latchOff g).ph p = s.ph p := fun t ht =>
    (State.latchOff_ph (by rwa [ht]) g).trans ht
  unfold State.recount
  refine State.when_inv (fun t => t.ph p = s.ph p) _ _ _ ?_ (hlatch _ ?_)
  all_goals simp [State.ph]

theorem State.recount_trim_zero {s : State} {p : Nat} (h : s.getF .PHS_PH_STATUS_TRIM p = 0) (g : Nat) :
    (s.recount g).getF .PHS_PH_STATUS_TRIM p = 0 := by
  unfold State.recount
  refine State.when_inv (fun t => t.getF .PHS_PH_STATUS_TRIM p = 0) _ _ _ ?_ (State.latchOff_trim_zero ?_ g)
  all_goals simpa using h

theorem State.phaseOut_ph (s : State) (p : Nat) {st : Nat} (h : st < 5) : (s.phaseOut p st).ph p = st := by
  have hcut : st % 8 = st := Nat.mod_eq_of_lt (by omega)
  unfold State.phaseOut
  rw [State.recount_ph]
  all_goals simp [State.ph, hcut]
  omega

theorem State.phaseOut_trim (s : State) (p st : Nat) : (s.phaseOut p st).getF .PHS_PH_STATUS_TRIM p = 0 := by
  unfold State.phaseOut
  exact State.recount_trim_zero (by simp) _

/-- A check starts at trim −64, and notes the state that the phase came from (R93). -/
theorem State.startCheck_starts (s : State) (p : Nat) :
    (s.startCheck p).ph p = 5 ∧ (s.startCheck p).getS .PHS_PH_STATUS_TRIM p = -64 ∧
      ((s.startCheck p).phTest p).origin = s.ph p := by
  refine ⟨?_, ?_, ?_⟩
  · simp [State.startCheck, State.ph]
  · exact (State.getS_congr (by simp [State.startCheck])).trans
      (State.getS_setS_coldTrim (s.setF .PHS_PH_STATUS_PH_STATE p 5) p)
  · simp [State.startCheck]

end Sys2Proof.Machine

/-! What the commands of one phase do (R68 to R71, R73, R79, R80, R83, R87 to R89, R92, R93). -/

namespace Sys2Proof.Machine
open Host (Outcome)

/-! ### Pulses (R68, R71, R73) -/

/-- The angle of a phase among the live phases of its group (R71). -/
def State.liveAngle (s : State) (g p : Nat) : Nat :=
  ((s.cfg.table.groupPhases g).filter (fun q => decide (s.ph q = 1 ∧ q < p))).length * 64 /
    ((s.cfg.table.groupPhases g).filter (fun q => decide (s.ph q = 1))).length

theorem State.setAngle_live {s : State} {p : Nat} (h : s.ph p = 1) (g : Nat) :
    s.setAngle g p = s.setF .PHS_GRP_STATUS_ROT_ANGLE g (s.liveAngle g p) := by
  rw [State.setAngle, if_pos h, State.liveAngle, List.filter_filter]
  congr 4
  exact List.filter_congr fun q _ => by simp [and_comm]

theorem State.liveAngle_congr {s t : State} (hcfg : t.cfg = s.cfg) (hph : t.ph = s.ph) : t.liveAngle = s.liveAngle := by
  funext g p
  rw [State.liveAngle, State.liveAngle, hcfg, hph]

theorem State.conduction_congr {s t : State} {g : Nat} (hst : t.grp g = s.grp g)
    (hlo : t.getF .PHS_GRP_OCL_VALLEY_LO g = s.getF .PHS_GRP_OCL_VALLEY_LO g)
    (hhi : t.getF .PHS_GRP_OCL_VALLEY_HI g = s.getF .PHS_GRP_OCL_VALLEY_HI g) : t.conduction g = s.conduction g := by
  rw [State.conduction, State.conduction, hst, hlo, hhi]

/-- A group's reference follows, and its pulse's position and angle are shown. -/
def State.showPulse (s : State) (g p : Nat) : State :=
  ((s.updTon g).setF .PHS_GRP_STATUS_ROT_POS g (p - s.cfg.table.groupFirst g)).setAngle g p

theorem State.pulseTo_out_showPulse (s : State) (g p : Nat) :
    (s.pulseTo g p).out = (s.showPulse g p).out ++ [.pulse p
      (pulseCode ((s.showPulse g p).getF .PHS_GRP_TON_TON_BASE g) ((s.showPulse g p).getS .PHS_PH_STATUS_TRIM p))
      (s.pulseStart g) ((s.showPulse g p).conduction g)] := by
  simp [State.pulseTo, State.showPulse]

theorem State.pulseTo_getF_showPulse (s : State) (g p : Nat) (f : Fld) (i : Nat) :
    (s.pulseTo g p).getF f i = (s.showPulse g p).getF f i := by
  rw [State.pulseTo, State.getF_emit, State.notePulse_getF _ _ _ _ _ _ _ List.not_mem_nil,
    State.setPass_getF _ _ _ _ _ List.not_mem_nil]
  rfl

theorem State.showPulse_angle {s : State} {p : Nat} (h : s.ph p = 1) (g : Nat) :
    (s.showPulse g p).getF .PHS_GRP_STATUS_ROT_ANGLE g = s.liveAngle g p % 64 := by
  have hph : ((s.updTon g).setF .PHS_GRP_STATUS_ROT_POS g (p - s.cfg.table.groupFirst g)).ph = s.ph := by
    funext q
    simp [State.ph]
  rw [State.showPulse, State.setAngle_live (by rw [hph, h]), State.getF_setF_self, State.liveAngle_congr (by simp) hph]
  rfl

theorem State.showPulse_position (s : State) (g p : Nat) :
    (s.showPulse g p).getF .PHS_GRP_STATUS_ROT_POS g = (p - s.cfg.table.groupFirst g) % 128 := by
  rw [State.showPulse, State.setAngle_getF _ _ _ _ _ (by decide), State.getF_setF_self]
  rfl

/-- A pulse leaves with the code of the reference of its time, as the group's state says. -/
theorem State.pulseTo_out (s : State) (g p : Nat) :
    (s.pulseTo g p).out = s.out ++ [.pulse p (pulseCode ((s.updTon g).getF .PHS_GRP_TON_TON_BASE g)
      (s.getS .PHS_PH_STATUS_TRIM p)) (s.pulseStart g) (s.conduction g)] := by
  have hfield : ∀ f i, f ∉ ([.PHS_GRP_REF_VREF, .PHS_GRP_STATUS_ROT_ANGLE, .PHS_GRP_STATUS_ROT_POS,
      .PHS_GRP_TON_TON_BASE] : List Fld) → (s.showPulse g p).getF f i = s.getF f i := fun f i hf =>
    (s.pulseTo_getF_showPulse g p f i).symm.trans (s.pulseTo_getF g p f i hf)
  have hbase : (s.showPulse g p).getF .PHS_GRP_TON_TON_BASE g = (s.updTon g).getF .PHS_GRP_TON_TON_BASE g := by
    simp [State.showPulse]
  have htrim : (s.showPulse g p).getS .PHS_PH_STATUS_TRIM p = s.getS .PHS_PH_STATUS_TRIM p :=
    State.getS_congr (hfield .PHS_PH_STATUS_TRIM p (by decide))
  have hcond : (s.showPulse g p).conduction g = s.conduction g :=
    State.conduction_congr (hfield .PHS_GRP_STATUS_STATE g (by decide)) (hfield .PHS_GRP_OCL_VALLEY_LO g (by decide))
      (hfield .PHS_GRP_OCL_VALLEY_HI g (by decide))
  have hout : (s.showPulse g p).out = s.out := by simp [State.showPulse]
  rw [State.pulseTo_out_showPulse, hbase, htrim, hcond, hout]

theorem execPhasePulse_given {s : State} {g p : Nat} (hg : g < 4)
    (hst : s.grp g = 2 ∨ s.grp g = 3 ∨ s.grp g = 4 ∨ s.grp g = 7) (hnext : s.nextPhase g = some p)
    (hgive : s.givesPulse g p = true) : exec (.phasePulse g) s = .next (s.pulseTo g p) := by
  show execPhasePulse g s = _
  rw [execPhasePulse, if_pos ⟨hg, by simpa [pulses] using hst⟩, hnext]
  dsimp only
  rw [if_pos hgive]

/-! ### The valley limit (R79, R80) -/

theorem State.foldF_sense_fst (s : State) (g vs target : Nat) : ((s.sense g vs).foldF vs target).1 = (s.foldF vs target).1 := by
  unfold State.foldF State.openDiv
  dsimp only
  split <;> rfl

/-- The limit is that of R80 for the reading's fold. -/
theorem execValleyLimitUpdate_limits {s : State} {g : Nat} (hg : g < 4) (vs : Nat) :
    ∃ t, exec (.valleyLimitUpdate g vs) s = .next t ∧
      Tbl.get 0 t.phs.valley g = valleyLimit (s.getF .PHS_GRP_OCL_VALLEY_HI g) (s.getF .PHS_GRP_OCL_VALLEY_LO g)
        (s.foldF vs (s.targetUV g)).1 ∧
      t.getF .PHS_GRP_REF_VSENSE g = vs % 2 ^ 13 := by
  have htarget : (s.sense g vs).targetUV g = s.targetUV g := by simp [State.targetUV]
  refine ⟨_, (congrArg Outcome.next (if_pos hg) : execValleyLimitUpdate g vs s = _), ?_, ?_⟩
  · simp [htarget, State.foldF_sense_fst]
  · simp [State.sense]
    rfl

theorem execValleyHold_compares {s : State} {p : Nat} (h : s.cfg.populated p = true) (imon : Int) :
    ∃ t, exec (.valleyHold p imon) s = .next t ∧ Tbl.get false t.phs.held p =
      decide (((Tbl.get 0 s.phs.valley (s.cfg.table.phaseGroup p) * 16 : Nat) : Int) < imon) := by
  refine ⟨_, (congrArg Outcome.next (if_pos h) : execValleyHold p imon s = _), ?_⟩
  simp

/-! ### The pulse-rise detector (R87, R88) -/

/-- The runs of a phase's tests after one report. -/
def PhaseTest.counted (t : PhaseTest) (rose ripple : Bool) : PhaseTest :=
  { t with openRun := if rose ∨ ripple then 0 else t.openRun + 1, senseRun := if ¬ rose ∧ ripple then t.senseRun + 1 else 0 }

theorem execPulseRiseReport_live {s : State} {p : Nat} (hpop : s.cfg.populated p = true)
    (hruns : s.checksRun (s.cfg.table.phaseGroup p) = true) (hlive : s.ph p = 1) (rose ripple : Bool) :
    exec (.pulseRiseReport p rose ripple) s = .next (
      if 16 ≤ ((s.phTest p).counted rose ripple).openRun then (s.setPhTest p ((s.phTest p).counted rose ripple)).openDrop p
      else if 16 ≤ ((s.phTest p).counted rose ripple).senseRun then
        (s.setPhTest p ((s.phTest p).counted rose ripple)).senseFail p
      else s.setPhTest p ((s.phTest p).counted rose ripple)) := by
  show execPulseRiseReport p rose ripple s = _
  rw [execPulseRiseReport, if_pos ⟨hpop, hruns, .inl hlive⟩]
  dsimp only
  rw [State.setPhTest_ph, if_neg (by omega)]
  rfl

/-- A phase that has failed open leaves the rotation with its event and a loss counted. -/
theorem State.openDrop_drops (s : State) (p : Nat) :
    (s.openDrop p).ph p = 2 ∧ (s.openDrop p).getF .PHS_GRP_EVENT_PHASE_OPEN (s.cfg.table.phaseGroup p) = 1 ∧
      (s.openDrop p).getF .PHS_PH_STATUS_LOSS_COUNT p =
        min (s.getF .PHS_PH_STATUS_LOSS_COUNT p + 1) (2 ^ Fld.width .PHS_PH_STATUS_LOSS_COUNT - 1) := by
  refine ⟨State.phaseOut_ph _ p (by decide), ?_, ?_⟩
  · rw [State.openDrop, State.phaseOut_getF _ _ _ _ _ (by decide)]
    exact State.getF_event_self _ _ _ _ _
  · rw [State.openDrop, State.phaseOut_getF _ _ _ _ _ (by decide), State.getF_event_fld _ _ _ _ _ (by decide),
      State.getF_bumpF_self]

theorem State.senseFail_declares (s : State) (p : Nat) :
    ((s.senseFail p).phTest p).declared = true ∧ (s.senseFail p).ph p = s.ph p := by
  unfold State.senseFail
  split
  · next hdeclared => exact ⟨hdeclared, rfl⟩
  · refine ⟨?_, by simp [State.ph]⟩
    exact congrArg PhaseTest.declared (s.phTest_setPhTest p _)

/-! ### Phases that leave the rotation, and checks (R89, R92, R93) -/

theorem execPhaseSenseDisable_declared {s : State} {p : Nat} (hpop : s.cfg.populated p = true) (hlive : s.ph p = 1)
    (hdeclared : (s.phTest p).declared = true) :
    ∃ l, exec (.phaseSenseDisable p) s = .next ((((s.bumpF .PHS_PH_STATUS_LOSS_COUNT p).phaseOut p 3).setF .PHS_PH_STATUS_TRIM p
      (s.getF .PHS_PH_STATUS_TRIM p)).setPass (s.cfg.table.phaseGroup p) l) := by
  have hcfg : (((s.bumpF .PHS_PH_STATUS_LOSS_COUNT p).phaseOut p 3).setF .PHS_PH_STATUS_TRIM p
      (s.getF .PHS_PH_STATUS_TRIM p)).cfg = s.cfg := by simp
  have hrun : exec (.phaseSenseDisable p) s = execPhaseSenseDisable p s := rfl
  rw [hrun, execPhaseSenseDisable, if_pos ⟨hpop, hlive, hdeclared⟩]
  dsimp only
  rw [hcfg]
  exact ⟨_, rfl⟩

theorem execTmonHotForce_hot {s : State} {p tmon : Nat} (hpop : s.cfg.populated p = true) (hhot : 165 ≤ tmon)
    (hpair : s.getF .ADC_PAIR_STATUS_STATE (chHome (96 + p) / 2) ≠ 3) :
    exec (.tmonHotForce p tmon) s = .next
      ((((s.setF .PHS_PH_MEAS_TMON p tmon).setS .PHS_PH_STATUS_TRIM p (-64)).setF .PHS_PH_STATUS_TMON_HOT p 1).event
        .PHS_GRP_EVENT_TMON_HOT (s.cfg.table.phaseGroup p) 0x01 p) := by
  show execTmonHotForce p tmon s = _
  rw [execTmonHotForce, if_pos ⟨hpop, hhot, hpair⟩]

theorem execPhaseDisable_live {s : State} {p : Nat} (hp : p < s.cfg.table.phTotal) (hlive : s.ph p = 1) :
    exec (.phaseDisable p) s = .next ((s.setF .PHS_PH_CTRL_DISABLE p 1).phaseOut p 4) := by
  show execPhaseDisable p s = _
  rw [execPhaseDisable, if_pos hp]
  dsimp only
  rw [State.setF_ph _ _ _ _ (by decide), if_pos (.inl hlive)]

theorem execPhaseCheckStart_off {s : State} {p : Nat} (hp : p < s.cfg.table.phTotal)
    (hdis : s.isSet .PHS_PH_CTRL_DISABLE p = true) (hreg : s.grp (s.cfg.table.phaseGroup p) = 3)
    (hst : 2 ≤ s.ph p ∧ s.ph p ≤ 4) :
    exec (.phaseCheckStart p) s = .next ((s.setF .PHS_PH_CTRL_DISABLE p 0).startCheck p) := by
  show execPhaseCheckStart p s = _
  rw [execPhaseCheckStart, if_pos ⟨hp, hdis, hreg⟩]
  dsimp only
  rw [State.setF_ph _ _ _ _ (by decide), if_pos hst]

theorem execPhaseReadmit_out {s : State} {p : Nat} (hp : p < s.cfg.table.phTotal) (hst : s.ph p = 2 ∨ s.ph p = 3)
    (hreg : s.grp (s.cfg.table.phaseGroup p) = 3) : exec (.phaseReadmit p) s = .next (s.startCheck p) := by
  show execPhaseReadmit p s = _
  rw [execPhaseReadmit, if_pos ⟨hp, hst, hreg⟩]

theorem execPhaseCheckEnd_checking {s : State} {p : Nat} (hp : p < s.cfg.table.phTotal) (hst : s.ph p = 5) :
    exec (.phaseCheckEnd p) s = .next (
      if (s.phTest p).faulty then (s.bumpF .PHS_PH_STATUS_LOSS_COUNT p).phaseOut p (s.phTest p).origin
      else ((s.phaseOut p 1).startOn 1 p).setF .PHS_PH_STATUS_TRIM p 0) := by
  show execPhaseCheckEnd p s = _
  rw [execPhaseCheckEnd, if_pos ⟨hp, hst⟩]

/-! ### The statement -/

/-- Settles O14, command by command: a phase that leaves its state keeps the state and the trim it is given, whether or not its
group latches off with it. -/
theorem phasesTakePulsesAndFail : Obligations.PhasesTakePulsesAndFail := by
  refine ⟨fun s g p hg hst hnext hlive hgive => ?_, fun s g vs hg => execValleyLimitUpdate_limits hg vs,
    fun s p imon hpop => execValleyHold_compares hpop imon, fun s p hpop hruns hlive => ?_, fun s p hpop hruns hlive hopen => ?_,
    fun s p hpop hruns hlive hsense hopen => ?_, fun s p hpop hlive hdeclared => ?_, fun s p tmon hpop hhot hpair => ?_,
    fun s p hp hlive => ?_, fun s p hp hdis hreg hlo hhi => ?_, fun s p hp hst hreg => ?_, fun s p hp hst => ?_⟩
  · refine ⟨_, execPhasePulse_given hg hst hnext hgive, s.pulseTo_out g p, ?_, ?_⟩
    · rw [State.pulseTo_getF_showPulse, State.showPulse_position]
    · rw [State.pulseTo_getF_showPulse, State.showPulse_angle hlive]
      rfl
  · refine ⟨_, execPulseRiseReport_live hpop hruns hlive true false, ?_⟩
    simp [PhaseTest.counted, hlive]
  · refine ⟨_, execPulseRiseReport_live hpop hruns hlive false false, ?_⟩
    rw [if_pos (by simp [PhaseTest.counted, hopen])]
    exact State.openDrop_drops _ p
  · refine ⟨_, execPulseRiseReport_live hpop hruns hlive false true, ?_⟩
    rw [if_neg (by simp [PhaseTest.counted]), if_pos (by simp [PhaseTest.counted, hsense]), ← hlive]
    exact State.senseFail_declares _ p
  · obtain ⟨l, hnext⟩ := execPhaseSenseDisable_declared hpop hlive hdeclared
    refine ⟨_, hnext, ?_, ?_⟩
    · have hout := State.phaseOut_ph (s.bumpF .PHS_PH_STATUS_LOSS_COUNT p) p (st := 3) (by decide)
      simpa [State.ph] using hout
    · simp
  · refine ⟨_, execTmonHotForce_hot hpop hhot hpair, ?_, ?_, State.getF_event_self _ _ _ _ _⟩
    · exact (State.getS_congr (by simp)).trans (State.getS_setS_coldTrim (s.setF .PHS_PH_MEAS_TMON p tmon) p)
    · rw [State.getF_event_fld _ _ _ _ _ (by decide), State.getF_setF_self]
      rfl
  · refine ⟨_, execPhaseDisable_live hp hlive, ?_, State.phaseOut_ph _ p (by decide), State.phaseOut_trim _ p 4⟩
    rw [State.phaseOut_getF _ _ _ _ _ (by decide), State.getF_setF_self]
    rfl
  · obtain ⟨hph, htrim, -⟩ := (s.setF .PHS_PH_CTRL_DISABLE p 0).startCheck_starts p
    refine ⟨_, execPhaseCheckStart_off hp hdis hreg ⟨hlo, hhi⟩, ?_, hph, htrim⟩
    rw [State.startCheck_getF _ _ _ _ (by decide), State.getF_setF_self, Nat.zero_mod]
  · exact ⟨_, execPhaseReadmit_out hp hst hreg, s.startCheck_starts p⟩
  · refine ⟨_, execPhaseCheckEnd_checking hp hst, ?_⟩
    cases hfault : (s.phTest p).faulty with
    | false =>
      have hlive : ((s.phaseOut p 1).startOn 1 p).ph p = 1 :=
        ((s.phaseOut p 1).startOn_getF 1 p _ p (by decide)).trans (s.phaseOut_ph p (by decide))
      simp [hlive]
    | true =>
      rw [if_pos rfl]
      refine ⟨fun h => absurd h (by decide), fun _ horigin => ⟨State.phaseOut_ph _ p horigin, ?_⟩,
        State.phaseOut_trim _ p _⟩
      rw [State.phaseOut_getF _ _ _ _ _ (by decide), State.getF_bumpF_self]

end Sys2Proof.Machine

/-! What the commands of cells and domains leave unchanged (R109, R112, R116, R118, R127, R129). -/

namespace Sys2Proof.Machine
open Host (Outcome)

/-- Each command composes operations whose frames the laws give; its list names the fields of those it may run. The end of a
ramp-down lists none. -/
theorem domains_frame {c : Instr} {s t : State} {fs : List Fld} (hc : c.family = .domains) (hw : c.writes = some fs)
    (h : exec c s = .next t) : s.onlyChanges t fs c.parts := by
  cases c <;> cases hc <;> cases hw <;> cases h
  all_goals try dsimp only
  all_goals repeat' split
  all_goals refine ⟨fun f i hf => ?_, by simp (maxDischargeDepth := 60) [Part.forall_iff, Instr.parts, Part.same]⟩
  all_goals
    try simp only [domEnterFields, driveFields,
      List.cons_append, List.nil_append, List.mem_cons, not_or] at hf
  all_goals simp (maxDischargeDepth := 60) [hf]

/-- Settles O54: the family of cells and domains in one. -/
theorem domainsFrame : Obligations.DomainsFrame :=
  fun _ _ _ _ hc hw h => domains_frame hc hw h

end Sys2Proof.Machine

/-! A lost cell that its domain does not count (R49, R109, R113, R391). -/

namespace Sys2Proof.Machine

/-- A LIVE domain of the fabric class with FENCE_AT 3, under a configuration table without link domains, as R391 does not allow: the
numbering of cells still sets 32 aside for links, and cell 1104, the first of them, feeds a domain whose own cells begin at 1136. -/
def linklessState : State :=
  { State.reset with
    cfg := { Cfg.reference with table := { CfgTable.reference with link := 0 } }
    fields := [(.DOM_STATUS_STATE, [(228, 2)]), (.DOM_CLS_CFG_FENCE_AT, [(4, 3)])] }

/-- The domain still has its four cells, and stays LIVE. -/
theorem cellFailure_linklessState (t : State) (h : exec (.cellFailure 1104 2) linklessState = .next t) : t.domSt 228 = 2 := by
  cases h
  decide

/-- Refutes O16: the clause of the cell-loss fence bounds the cell by the table's CELLS alone, and where the table has fewer link
domains than the numbering of cells, a lost cell is none of those its domain counts, which stays above FENCE_AT. -/
theorem not_cellCommandsMoveTheCell : ¬ Obligations.CellCommandsMoveTheCell := by
  unfold Obligations.CellCommandsMoveTheCell
  rintro ⟨-, -, -, -, -, hfence, -⟩
  obtain ⟨t, ht, hquiesces, -⟩ := hfence linklessState 1104 2 (by decide) (by decide) (by decide) (by decide) (by decide)
    (by decide) (by decide)
  have hdom : linklessState.cfg.table.cellDom 1104 = 228 := by decide
  rw [hdom, cellFailure_linklessState t ht] at hquiesces
  exact absurd hquiesces (by decide)

end Sys2Proof.Machine

/-! FENCE_AT in use (R115). -/

namespace Sys2Proof.Machine

theorem clampN_of_mem {lo hi x : Nat} (hlo : lo ≤ x) (hhi : x ≤ hi) : clampN lo hi x = x := by
  rw [clampN, if_neg (by omega), if_neg (by omega)]

theorem clampN_of_lt {lo hi x : Nat} (h : x < lo) : clampN lo hi x = lo := if_pos h

/-- The lowest FENCE_AT in use of each class, which is its reset value. -/
theorem fenceAtFloor_eq {k : Nat} (hk : k < 5) : [2, 2, 0, 0, 0].getD k 0 = if k < 2 then 2 else 0 := by
  interval_cases k <;> rfl

/-- Settles O49: FENCE_AT in use is the stored value held between the reset value and the cells of the class less one. -/
theorem fenceAtIsHeldInItsRange : Obligations.FenceAtIsHeldInItsRange := by
  intro s k hk
  have hfloor := fenceAtFloor_eq hk
  refine ⟨hfloor, fun hlow => ?_, fun ⟨hlo, hhi⟩ => ?_⟩
  · rw [State.fenceAt, hfloor, clampN_of_lt hlow]
  · rw [State.fenceAt, hfloor, clampN_of_mem hlo hhi]

end Sys2Proof.Machine

/-! A domain that reaches DARK with POWER set wakes at once (R118, R120). -/

namespace Sys2Proof.Machine

/-! ### What the waves leave of cells and domains -/

/-- Only the trees of steps and of their limits touch cells and domains beside their registers. -/
theorem State.rearb_dom (s : State) {kind : Nat} (h3 : kind ≠ 3) (h4 : kind ≠ 4) (i : Nat) : (s.rearb kind i).dom = s.dom := by
  have hdrive : ∀ v, (s.drive kind i v).dom = s.dom := by
    intro v
    unfold State.drive
    split
    case h_4 => exact absurd rfl h4
    all_goals simp
  unfold State.rearb
  split
  · exact absurd rfl h3
  · split
    · next v _ => exact hdrive v
    · exact hdrive _
  · split
    · next v _ => exact hdrive v
    · rfl

@[simp] theorem State.showWaves_dom (s : State) : s.showWaves.dom = s.dom := by
  rw [State.showWaves, State.rearb_dom _ (by decide) (by decide)]
  simp

@[simp] theorem State.endWave_dom (s : State) (bid : Nat) : (s.endWave bid).dom = s.dom := by
  simp [State.endWave, State.setWaves]

@[simp] theorem State.checkWaves_dom (s : State) : s.checkWaves.dom = s.dom := by
  simp [State.checkWaves]

@[simp] theorem State.denyDomain_dom (s : State) (d : Nat) : (s.denyDomain d).dom = s.dom := by
  simp [State.denyDomain]

/-! ### The powering of the release sequence -/

@[simp] theorem State.when_powerGo (s : State) (c : Bool) (f : State → State) (h : ∀ t, (f t).dom.powerGo = t.dom.powerGo) :
    (s.when c f).dom.powerGo = s.dom.powerGo :=
  State.when_keeps (fun t => t.dom.powerGo) c f s (h s)

@[simp] theorem State.drive_powerGo (s : State) (kind i : Nat) (v : Int) : (s.drive kind i v).dom.powerGo = s.dom.powerGo := by
  unfold State.drive
  split
  all_goals simp

@[simp] theorem State.rearb_powerGo (s : State) (kind i : Nat) : (s.rearb kind i).dom.powerGo = s.dom.powerGo := by
  unfold State.rearb
  repeat' split
  all_goals simp

@[simp] theorem State.startDomain_powerGo (s : State) (d : Nat) : (s.startDomain d).dom.powerGo = s.dom.powerGo := by
  unfold State.startDomain
  split
  · simp
  · rfl

@[simp] theorem State.cellsOff_powerGo (s : State) (d : Nat) : (s.cellsOff d).dom.powerGo = s.dom.powerGo := by
  simp [State.cellsOff]

@[simp] theorem State.setFloor_powerGo (s : State) (d h : Nat) (falls : Bool) :
    (s.setFloor d h falls).dom.powerGo = s.dom.powerGo := by
  simp [State.setFloor]

@[simp] theorem State.enterDown_powerGo (s : State) (d : Nat) : (s.enterDown d).dom.powerGo = s.dom.powerGo := by
  simp [State.enterDown]

@[simp] theorem State.enterQuiesce_powerGo (s : State) (d : Nat) : (s.enterQuiesce d).dom.powerGo = s.dom.powerGo := by
  simp [State.enterQuiesce]

theorem State.domEnter_powerGo (s : State) (d new : Nat) : (s.domEnter d new).dom.powerGo = s.dom.powerGo := by
  by_cases hsame : s.domSt d = new
  · rw [State.domEnter, if_pos hsame]
  · rw [State.domEnter, if_neg hsame]
    split <;> simp (maxDischargeDepth := 60)

/-- No entry of a domain into a state moves the powering. -/
theorem State.domEnter_mayPower (s : State) (d new e : Nat) : (s.domEnter d new).mayPower e = s.mayPower e := by
  simp [State.mayPower, State.domEnter_powerGo]

/-! ### From DARK to WAKING -/

theorem State.domEnter_power (s : State) (d new e : Nat) :
    (s.domEnter d new).isSet .DOM_CTRL_POWER e = s.isSet .DOM_CTRL_POWER e := by
  rw [State.isSet, State.domEnter_getF _ _ _ _ _ (by decide), ← State.isSet]

/-- A domain that goes DARK wakes at once where POWER is set and the powering has come to it (R120). -/
theorem State.domGo_dark {s : State} {d : Nat} (hne : s.domSt d ≠ 0) :
    s.domGo d 0 = (s.domEnter d 0).when (s.isSet .DOM_CTRL_POWER d && s.mayPower d) (fun t => t.domEnter d 1) := by
  have hdark : (s.domEnter d 0).domSt d = 0 := State.domEnter_domSt hne (by decide)
  rw [State.domGo, State.domEnter_power, State.domEnter_mayPower]
  generalize s.domEnter d 0 = u at hdark
  simp [hdark]

theorem State.domGo_dark_stays {s : State} {d : Nat} (hne : s.domSt d ≠ 0) (hpower : s.isSet .DOM_CTRL_POWER d = false) :
    s.domGo d 0 = s.domEnter d 0 := by
  rw [State.domGo_dark hne, hpower, Bool.false_and, State.when_false]

theorem State.domGo_dark_wakes {s : State} {d : Nat} (hne : s.domSt d ≠ 0) (hpower : s.isSet .DOM_CTRL_POWER d = true)
    (hmay : s.mayPower d = true) : s.domGo d 0 = (s.domEnter d 0).domEnter d 1 := by
  rw [State.domGo_dark hne, hpower, hmay, Bool.true_and, State.when_true]

/-- A domain moved to WAKING shows that it waits for its wake (R118). -/
theorem State.domEnter_waking {s : State} {d : Nat} (hne : s.domSt d ≠ 1) :
    (s.domEnter d 1).domSt d = 1 ∧ (s.domEnter d 1).getF .DOM_STATUS_WAKE_WAIT d = 1 := by
  refine ⟨State.domEnter_domSt hne (by decide), ?_⟩
  have hwidth : 1 % 2 ^ Fld.width .DOM_STATUS_WAKE_WAIT = 1 := by decide
  rw [State.domEnter, if_neg hne]
  simp (maxDischargeDepth := 60) [State.getF_setB, hwidth]

theorem State.domGo_dark_waking {s : State} {d : Nat} (hne : s.domSt d ≠ 0) (hpower : s.isSet .DOM_CTRL_POWER d = true)
    (hmay : s.mayPower d = true) : (s.domGo d 0).domSt d = 1 ∧ (s.domGo d 0).getF .DOM_STATUS_WAKE_WAIT d = 1 := by
  have hdark : (s.domEnter d 0).domSt d = 0 := State.domEnter_domSt hne (by decide)
  rw [State.domGo_dark_wakes hne hpower hmay]
  exact State.domEnter_waking (by omega)

end Sys2Proof.Machine

/-! Waking and quiescing of a domain (R109, R118, R119, R125 to R127, R197). -/

namespace Sys2Proof.Machine

/-! ### A domain that goes down -/

theorem State.setCell_cellSt_self (s : State) (c : Nat) {st : Nat} (h : st < 2 ^ Fld.width .CEL_STATUS_STATE) :
    (s.setCell c st).cellSt c = st := by
  simp (maxDischargeDepth := 60) [State.cellSt, State.setCell, Nat.mod_eq_of_lt h]

/-- Cells that are switched off one after another stay off. -/
theorem State.each_setCell_zero {c : Nat} (l : List Nat) (s : State) (h : c ∈ l ∨ s.cellSt c = 0) :
    (s.each l (fun q t => t.setCell q 0)).cellSt c = 0 := by
  induction l generalizing s with
  | nil => exact h.resolve_left List.not_mem_nil
  | cons q r ih =>
    refine ih (s.setCell q 0) ?_
    by_cases hq : c = q
    · exact .inr (hq ▸ State.setCell_cellSt_self s q (by decide))
    · rw [State.setCell_cellSt_of_ne hq]
      exact h.imp_left fun hmem => (List.mem_cons.mp hmem).resolve_left hq

/-- Every cell of a domain that has not failed is OFF once the domain's cells are. -/
theorem State.cellsOff_cellSt_zero {s : State} {c d : Nat} (hc : c ∈ s.cfg.table.domCells d) (h : s.cellSt c ≤ 3) :
    (s.cellsOff d).cellSt c = 0 := by
  refine State.each_setCell_zero _ s ?_
  by_cases hzero : s.cellSt c = 0
  · exact .inr hzero
  · exact .inl (List.mem_filter.mpr ⟨hc, decide_eq_true ⟨by omega, h⟩⟩)

theorem State.enterDown_cellSt_zero {s : State} {c d : Nat} (hc : c ∈ s.cfg.table.domCells d) (h : s.cellSt c ≤ 3) :
    (s.enterDown d).cellSt c = 0 := by
  rw [← State.cellsOff_cellSt_zero hc h]
  simp (maxDischargeDepth := 60) [State.cellSt, State.enterDown]

/-- A domain that enters DARK or FENCED is not READY, and its cells that have not failed are OFF (R118, R119). -/
theorem State.domEnter_down {s : State} {d new : Nat} (hne : s.domSt d ≠ new) (hdown : new = 0 ∨ new = 5) :
    (s.domEnter d new).domSt d = new ∧ (s.domEnter d new).getF .DOM_STATUS_READY d = 0 ∧
      ∀ c ∈ s.cfg.table.domCells d, s.cellSt c ≤ 3 → (s.domEnter d new).cellSt c = 0 := by
  have hwidth : 2 ^ Fld.width .DOM_STATUS_STATE = 8 := by decide
  refine ⟨State.domEnter_domSt hne (by omega), ?_, fun c hc hst => ?_⟩
  · have hlive : ¬ (new = 2 ∨ new = 3) := by omega
    rw [State.domEnter, if_neg hne]
    simp (maxDischargeDepth := 60) [State.getF_setB, hlive]
  · have hoff : ∀ (b : Bool) (t : State), b = true → t.cfg = s.cfg → t.cellSt c = s.cellSt c →
        (t.when b (fun s => s.enterDown d)).cellSt c = 0 := fun b t hb hcfg hcell => by
      rw [hb, State.when_true]
      exact State.enterDown_cellSt_zero (hcfg ▸ hc) (hcell ▸ hst)
    rw [State.domEnter, if_neg hne]
    simp (maxDischargeDepth := 60) [State.cellSt]
    exact hoff _ _ (by simpa using hdown) (by simp) (by simp [State.cellSt])

/-! ### What each command answers -/

/-- A waking domain whose wake is admitted and whose every cell in service is in ON goes LIVE, or DERATED (R118). -/
theorem State.wakeDone_live {s : State} {c d : Nat} (hst : s.domSt d = 1) (hadmit : Tbl.get false s.dom.admitted d = true)
    (hc : c ∈ s.cfg.table.domCells d) (hon : s.cellSt c = 2)
    (hall : ∀ q ∈ s.cfg.table.domCells d, s.cellSt q = 2 ∨ 4 ≤ s.cellSt q) :
    (s.wakeDone d).domSt d = if s.derated d then 3 else 2 := by
  have hne : (s.cfg.table.domCells d).filter (fun q => s.cellSt q ≤ 3) ≠ [] :=
    List.ne_nil_of_mem (List.mem_filter.mpr ⟨hc, decide_eq_true (by omega)⟩)
  have hon' : ((s.cfg.table.domCells d).filter (fun q => s.cellSt q ≤ 3)).all (fun q => s.cellSt q = 2) = true := by
    rw [List.all_eq_true]
    intro q hq
    obtain ⟨hmem, hle⟩ := List.mem_filter.mp hq
    have hle' := of_decide_eq_true hle
    exact decide_eq_true ((hall q hmem).resolve_right (by omega))
  rw [State.wakeDone, if_pos ⟨hst, hadmit, hne, hon'⟩]
  split
  · rw [State.domGo_of_ne_zero _ _ (by decide), State.domEnter_domSt (by omega) (by decide)]
  · rw [State.domGo_of_ne_zero _ _ (by decide), State.domEnter_domSt (by omega) (by decide)]

/-- A cell enters ON from PRECHARGE, before its domain wakes. -/
def State.precharged (s : State) (c : Nat) : State :=
  State.setCell { s with dom := { s.dom with rejoin := s.dom.rejoin.put c false } } c 2

theorem State.precharged_keeps (s : State) (c : Nat) :
    (s.precharged c).cfg = s.cfg ∧ (s.precharged c).dom.admitted = s.dom.admitted ∧
      (∀ f i, f ≠ .CEL_STATUS_STATE → (s.precharged c).getF f i = s.getF f i) ∧ (s.precharged c).cellSt c = 2 ∧
      ∀ q, q ≠ c → (s.precharged c).cellSt q = s.cellSt q := by
  refine ⟨?_, ?_, fun f i hf => ?_, State.setCell_cellSt_self _ _ (by decide), fun q hq => ?_⟩
  · simp [State.precharged]
  · simp [State.precharged]
  · simp [State.precharged, hf]
  · exact State.setCell_cellSt_of_ne hq _ 2

theorem execPrechargeComplete_eq {s : State} {c : Nat} (hc : c < s.cfg.table.cells) (hst : s.cellSt c = 1) :
    exec (.prechargeComplete c) s =
      .next ((s.precharged c).wakeDone (s.cfg.table.cellDom c)).enterRunIfReady := by
  show execPrechargeComplete c s = _
  rw [execPrechargeComplete, if_pos ⟨decide_eq_true hc, hst⟩]
  rfl

/-- The domain's cells have ramped it to 0.45 V (R119). -/
def State.rampedDown (s : State) (d : Nat) : State :=
  (s.setF .DOM_SETPT_VEFF d 360).each ((s.cfg.table.domCells d).filter (fun c => s.cellSt c ≤ 3)) (fun c s =>
    s.setF .CEL_STATUS_SETPT c 360)

theorem State.rampedDown_parts (s : State) (d : Nat) :
    (s.rampedDown d).cfg = s.cfg ∧ (s.rampedDown d).dom = s.dom ∧ (s.rampedDown d).boot = s.boot := by
  simp [State.rampedDown]

theorem State.rampedDown_shown (s : State) (d : Nat) :
    (s.rampedDown d).domSt d = s.domSt d ∧ (∀ c, (s.rampedDown d).cellSt c = s.cellSt c) ∧
      (s.rampedDown d).isSet .DOM_CTRL_POWER d = s.isSet .DOM_CTRL_POWER d := by
  simp [State.rampedDown, State.domSt, State.cellSt, State.isSet]

theorem State.quiesceEnd_boot (s : State) (d : Nat) : (s.quiesceEnd d).boot = s.boot := by
  simp [State.quiesceEnd]

/-- The ramp-down ends the quiesce, where no ordered block reset waits for it (R405). -/
theorem execRampDownEnd_eq {s : State} {d : Nat} (hst : s.domSt d = 4) (hramp : Tbl.get false s.dom.ramping d = true)
    (hstop : s.boot.blockStop = false) : exec (.rampDownEnd d) s = .next ((s.rampedDown d).quiesceEnd d) := by
  obtain ⟨-, -, hboot⟩ := s.rampedDown_parts d
  have hexec : exec (.rampDownEnd d) s = .next ((s.rampedDown d).quiesceEnd d).blockResetAdvance := by
    show execRampDownEnd d s = _
    rw [execRampDownEnd, if_pos ⟨hst, hramp⟩]
    rfl
  rw [hexec, State.blockResetAdvance_of_noStop (by rw [State.quiesceEnd_boot, hboot, hstop])]

/-- A quiesce that ends with a fence request pending, or with POWER clear, takes the domain down (R118, R127). -/
theorem State.quiesceEnd_down {s : State} {d : Nat} (hst : s.domSt d = 4)
    (h : s.isSet .DOM_CTRL_POWER d = false ∨ Tbl.get false s.dom.fenceReq d = true) :
    (s.quiesceEnd d).domSt d = (if Tbl.get false s.dom.fenceReq d then 5 else 0) ∧
      (s.quiesceEnd d).getF .DOM_STATUS_READY d = 0 ∧
      ∀ c ∈ s.cfg.table.domCells d, s.cellSt c ≤ 3 → (s.quiesceEnd d).cellSt c = 0 := by
  by_cases hreq : Tbl.get false s.dom.fenceReq d = true
  · rw [State.quiesceEnd, if_pos hreq, State.domGo_of_ne_zero _ _ (by decide)]
    exact State.domEnter_down (by omega) (.inr rfl)
  · rw [State.quiesceEnd, if_neg hreq, State.domGo_dark_stays (by omega) (h.resolve_right hreq)]
    exact State.domEnter_down (by omega) (.inl rfl)

/-! ### The statement -/

/-- Settles O17: a domain's entry into the state its command names, by what that entry sets. -/
theorem wakingDomainGoesLive : Obligations.WakingDomainGoesLive := by
  refine ⟨fun s c hc hst hdom hadmit hmem hall => ?_, fun s d hst hadmit hqueue htree hheadroom => ?_, fun s d hst => ?_,
    fun s d hst hramp => ?_, fun s d hst hramp => ?_, fun s d hst hramp hstop hdown => ?_,
    fun s d hst hramp hstop hpower hreq hmay => ?_⟩
  · obtain ⟨hcfg, hadmitted, hother, hon, hcell⟩ := s.precharged_keeps c
    have hlive : ((s.precharged c).wakeDone (s.cfg.table.cellDom c)).domSt (s.cfg.table.cellDom c) =
        if (s.precharged c).derated (s.cfg.table.cellDom c) then 3 else 2 := by
      refine State.wakeDone_live (c := c) ?_ ?_ (hcfg ▸ hmem) hon fun q hq => ?_
      · rw [State.domSt, hother _ _ (by decide), ← State.domSt, hdom]
      · rw [hadmitted, hadmit]
      · rcases eq_or_ne q c with rfl | hne
        · exact .inl hon
        · rw [hcell q hne]
          exact (hall q (hcfg ▸ hq)).resolve_left hne
    refine ⟨_, execPrechargeComplete_eq hc hst, ?_⟩
    rw [State.domSt, State.enterRunIfReady_getF _ _ _ (by decide), ← State.domSt, hlive, State.derated,
      hother _ _ (by decide), hother _ _ (by decide), ← State.derated]
  · refine ⟨s.setQueue (s.start.queue ++ [s.wakeReq d]), ?_, rfl, ?_⟩
    · show execWakeHeadroomMet d s = _
      rw [execWakeHeadroomMet, if_pos ⟨hst, by simp [hadmit], by simpa using hqueue, htree, hheadroom⟩]
    · rw [← hst]
      simp [State.setQueue, State.domSt]
  · show execWakeLate d s = _
    rw [execWakeLate, if_pos hst]
  · refine ⟨s.startRamp d, ?_, ?_, hst, rfl⟩
    · show execQuiesceAck d s = _
      rw [execQuiesceAck, if_pos ⟨hst, by simp [hramp]⟩]
    · simp [State.startRamp]
  · refine ⟨(({ s with dom := { s.dom with forced := s.dom.forced.put d true } } : State).event .DOM_EVENT_QTMO d 0x02 d).startRamp d,
      ?_, ?_, ?_, ?_, rfl⟩
    · show execQuiesceTimeout d s = _
      rw [execQuiesceTimeout, if_pos ⟨hst, by simp [hramp]⟩]
    · simp [State.startRamp]
    · simp [State.startRamp, State.event]
    · simp [State.startRamp, Fld.width_pos]
  · obtain ⟨hcfg, hdom, -⟩ := s.rampedDown_parts d
    obtain ⟨hst', hcell, hpower⟩ := s.rampedDown_shown d
    refine ⟨_, execRampDownEnd_eq hst hramp hstop, ?_⟩
    have hends := State.quiesceEnd_down (s := s.rampedDown d) (d := d) (by rw [hst', hst]) (by rwa [hpower, hdom])
    rw [hdom, hcfg] at hends
    simpa only [hcell] using hends
  · obtain ⟨hcfg, hdom, -⟩ := s.rampedDown_parts d
    obtain ⟨hst', -, hpower'⟩ := s.rampedDown_shown d
    have hmay' : (s.rampedDown d).mayPower d = true := by rw [State.mayPower, hdom, hcfg, ← State.mayPower, hmay]
    refine ⟨_, execRampDownEnd_eq hst hramp hstop, ?_⟩
    rw [State.quiesceEnd, if_neg (by rw [hdom, hreq]; decide)]
    exact State.domGo_dark_waking (by omega) (by rw [hpower', hpower]) hmay'

end Sys2Proof.Machine

/-! UNFENCE_DOMAIN of a domain with POWER set (R118, R120, R351). -/

namespace Sys2Proof.Machine
open Host (Outcome)

/-- A packet ready to execute whose reserved bits are clear runs its opcode (R343, R351). -/
theorem State.command_ready {s : State} {set slot op : Nat} {masks : List Nat} {p : Packet} (hset : set < 64) (hslot : slot < 8)
    (hready : s.ready (8 * set + slot) op = some p) (hbits : firstBad masks p.payload = none)
    (run : Packet → State → State) :
    s.command set slot op masks run = (run p (s.setPhase (8 * set + slot) .started)).serveIntake := by
  rw [State.command, if_neg (by omega), hready]
  dsimp only
  rw [hbits]

theorem State.navail_congr {s t : State} (hcfg : t.cfg = s.cfg) (hcell : ∀ c, t.cellSt c = s.cellSt c) (d : Nat) :
    t.navail d = s.navail d := by
  simp only [State.navail, hcfg, hcell]

/-- A permitted UNFENCE_DOMAIN moves its domain toward DARK, and the reply and the packets taken after it leave the domain there
(R118). -/
theorem execUnfenceDomain_domSt {s : State} {set slot d : Nat} {p : Packet} (hset : set < 64) (hslot : slot < 8)
    (hready : s.ready (8 * set + slot) 0x81 = some p) (hbits : firstBad [255, 255, 0, 0] p.payload = none)
    (hd : leAt p.payload 0 2 = d) (hdoms : d < s.cfg.table.domains) (hst : s.domSt d = 5)
    (havail : s.fenceAt (s.cfg.table.domClass d) < s.navail d) :
    ∃ t, exec (.unfenceDomain set slot) s = .next t ∧
      t.domSt d = ((s.setPhase (8 * set + slot) .started).domGo d 0).domSt d := by
  refine ⟨_, congrArg Outcome.next (State.command_ready hset hslot hready hbits _), ?_⟩
  dsimp only
  generalize hu : s.setPhase (8 * set + slot) .started = u
  have hcfg : u.cfg = s.cfg := by simp [← hu]
  have hfld : ∀ f i, u.getF f i = s.getF f i := by simp [← hu]
  have hst' : u.domSt d = 5 := (hfld _ d).trans hst
  have hfence : u.fenceAt (u.cfg.table.domClass d) = s.fenceAt (s.cfg.table.domClass d) := by
    simp only [State.fenceAt, hcfg, hfld]
  have hnavail : u.navail d = s.navail d := State.navail_congr hcfg (hfld _) d
  rw [hd, if_neg (by rw [hcfg]; omega), if_neg (by omega)]
  simp [State.domSt]

/-- Domain 0 is FENCED with its five cells available, POWER 1 and the release sequence done; partner 1 has handed over an
UNFENCE_DOMAIN of it. -/
def unfencingState : State :=
  { State.reset with
    fields := [(.DOM_STATUS_STATE, [(0, 5)])]
    dom := { DomState.reset with powerGo := 2 }
    cmd := { CmdState.reset with
      inflight := [(8, { pkt := { init := 0, op := 0x81, flags := 0, pid := 1, ver := 1, tag := 1, len := 4, epoch := 0, crc := 0,
                                  payload := [0, 0, 0, 0], order := 0 }, phase := .taken, began := 0, passed := 0 })] } }

/-- The domain does not stay DARK: its wake begins at once (R120). -/
theorem unfenceDomain_unfencingState (t : State) (h : exec (.unfenceDomain 1 0) unfencingState = .next t) : t.domSt 0 = 1 := by
  obtain ⟨u, hu, hst⟩ := execUnfenceDomain_domSt (s := unfencingState) (set := 1) (slot := 0) (d := 0) (by decide) (by decide) rfl
    (by decide) (by decide) (by decide) (by decide) (by decide)
  obtain rfl : u = t := Outcome.next.inj (hu.symm.trans h)
  obtain ⟨hwaking, -⟩ := State.domGo_dark_waking (s := unfencingState.setPhase 8 .started) (d := 0) (by decide) (by decide) (by decide)
  exact hst.trans hwaking

/-- Refutes O33: the clause of UNFENCE_DOMAIN bounds neither POWER nor the powering of the release sequence, and a domain with POWER
set that reaches DARK enters WAKING in the same step. -/
theorem not_packetsSetPointsAndUnits : ¬ Obligations.PacketsSetPointsAndUnits := by
  unfold Obligations.PacketsSetPointsAndUnits
  rintro ⟨-, -, -, -, -, -, -, -, -, -, -, hunfence⟩
  obtain ⟨t, ht, hdark, -⟩ := hunfence unfencingState 1 0 0 _ (by decide) (by decide) rfl (by decide) (by decide) (by decide)
    (by decide) (by decide)
  rw [unfenceDomain_unfencingState t ht] at hdark
  exact absurd hdark (by decide)

end Sys2Proof.Machine

/-! Current limits and steps (R107, R152). -/

namespace Sys2Proof.Machine

/-- A fold of `min` from a member of the list ends at its least member. -/
theorem foldl_min_isLeast {l : List Nat} {a : Nat} (ha : a ∈ l) : IsLeast {x | x ∈ l} (l.foldl min a) := by
  obtain ⟨m, hm⟩ := Option.isSome_iff_exists.mp (List.isSome_min?_of_mem ha)
  obtain ⟨hmem, hle⟩ := List.min?_eq_some_iff.mp hm
  rw [List.foldl_min, hm, Option.getD_some, min_eq_right (hle a ha)]
  exact ⟨hmem, hle⟩

/-- A fold of `max` from a member of the list ends at its greatest member. -/
theorem foldl_max_isGreatest {l : List Nat} {a : Nat} (ha : a ∈ l) : IsGreatest {x | x ∈ l} (l.foldl max a) := by
  obtain ⟨m, hm⟩ := Option.isSome_iff_exists.mp (List.isSome_max?_of_mem ha)
  obtain ⟨hmem, hle⟩ := List.max?_eq_some_iff.mp hm
  rw [List.foldl_max, hm, Option.getD_some, max_eq_right (hle a ha)]
  exact ⟨hmem, hle⟩

/-! ### The current limit of a step (R107) -/

/-- The limits written for the steps from `st` to 15. -/
def State.ladderFrom (s : State) (k st : Nat) : List Nat := (List.range (16 - st)).map (fun j => s.ladderRaw k (st + j))

theorem State.mem_ladderFrom {s : State} {k st x : Nat} :
    x ∈ s.ladderFrom k st ↔ ∃ j, st ≤ j ∧ j < 16 ∧ s.ladderRaw k j = x := by
  simp only [State.ladderFrom, List.mem_map, List.mem_range]
  constructor
  · rintro ⟨j, hj, rfl⟩
    exact ⟨st + j, by omega, by omega, rfl⟩
  · rintro ⟨j, hst, hj, rfl⟩
    exact ⟨j - st, by omega, by rw [Nat.add_sub_cancel' hst]⟩

theorem State.ilimClass_eq (s : State) (k st : Nat) :
    s.ilimClass k st = (s.ladderFrom k st).foldl min (s.ladderRaw k 15) := rfl

/-- The limit of a step is the lowest written for it and the steps above. -/
theorem State.ilimClass_isLeast (s : State) (k : Nat) {st : Nat} (hst : st < 16) :
    IsLeast {x | ∃ j, st ≤ j ∧ j < 16 ∧ s.ladderRaw k j = x} (s.ilimClass k st) := by
  have htop : s.ladderRaw k 15 ∈ s.ladderFrom k st := State.mem_ladderFrom.mpr ⟨15, by omega, by omega, rfl⟩
  simpa only [State.ilimClass_eq, State.mem_ladderFrom] using foldl_min_isLeast htop

/-- The limits rise with the steps. -/
theorem State.ilim_mono (s : State) (d : Nat) {a b : Nat} (hab : a ≤ b) (hb : b < 16) : s.ilim d a ≤ s.ilim d b := by
  obtain ⟨j, hj, hj16, heq⟩ := (s.ilimClass_isLeast (s.cfg.table.domClass d) hb).1
  exact (s.ilimClass_isLeast (s.cfg.table.domClass d) (by omega)).2 ⟨j, by omega, hj16, heq⟩

/-! ### The step of a current limit (R152) -/

/-- Where step 0 allows a value, it converts to the highest step that does. -/
theorem State.stepOf_isGreatest {s : State} {d : Nat} {v : Int} (h : (s.ilim d 0 : Int) ≤ v) :
    IsGreatest {st | st < 16 ∧ (s.ilim d st : Int) ≤ v} (s.stepOf d v) := by
  have hmem : ∀ st, st ∈ (List.range 16).filter (fun st => (s.ilim d st : Int) ≤ v) ↔ st < 16 ∧ (s.ilim d st : Int) ≤ v := by
    simp
  simpa only [State.stepOf, hmem] using foldl_max_isGreatest ((hmem 0).mpr ⟨by omega, h⟩)

/-- A value below every limit converts to step 0. -/
theorem State.stepOf_below {s : State} {d : Nat} {v : Int} (h : v < (s.ilim d 0 : Int)) : s.stepOf d v = 0 := by
  have hnone : (List.range 16).filter (fun st => (s.ilim d st : Int) ≤ v) = [] := by
    refine List.filter_eq_nil_iff.mpr fun st hst => ?_
    have hmono := s.ilim_mono d (Nat.zero_le st) (List.mem_range.mp hst)
    simp only [decide_eq_true_eq]
    omega
  rw [State.stepOf, hnone, List.foldl_nil]

/-! ### The statement -/

/-- Settles O48: the limits rise with the steps, so the steps that a value reaches are those up to the highest. -/
theorem currentLimitsConvertToSteps : Obligations.CurrentLimitsConvertToSteps := by
  refine ⟨fun s d st v hst => ?_, fun s d st j hst hj => ?_⟩
  · rcases lt_or_ge v (s.ilim d 0 : Int) with hbelow | hreached
    · have hmono := s.ilim_mono d (Nat.zero_le st) hst
      rw [State.stepOf_below hbelow]
      exact ⟨by omega, fun h => h, fun h => by omega, fun _ => rfl⟩
    · obtain ⟨⟨hlt, hle⟩, hgreatest⟩ := State.stepOf_isGreatest hreached
      exact ⟨hlt, fun _ => hle, fun h => hgreatest ⟨hst, h⟩, fun h => by omega⟩
  · obtain ⟨⟨m, hm, hm16, heq⟩, hleast⟩ := s.ilimClass_isLeast (s.cfg.table.domClass d) (st := st) (by omega)
    refine ⟨hleast ⟨j, hst, hj, rfl⟩, List.any_eq_true.mpr ⟨m, List.mem_range.mpr hm16, ?_⟩⟩
    exact decide_eq_true ⟨hm, heq.symm⟩

end Sys2Proof.Machine

/-! SLOT_CLOSE of an element that tracks (R155, R161). -/

namespace Sys2Proof.Machine

/-- The first element of slot 0 presents and tracks although the slot is open. -/
def trackingOpenState : State :=
  { State.reset with
    eng := { EngState.reset with
      opened := [(0, true)]
      elems := [(elemKey 0 0, { Elem.empty with started := true, tracking := true })] } }

/-- The close ends the tracking. -/
theorem slotClose_trackingOpenState (t : State) (h : exec (.slotClose 0) trackingOpenState = .next t) :
    (t.elem 0 0).tracking = false := by
  cases h
  decide

/-- Refutes O20: an element of a slot put in or out of evaluation stops tracking, and the last clause has SLOT_CLOSE leave all of
the first element but REOPEN, in states whose open slot holds an element that tracks too. -/
theorem not_engineSlotsAndLanes : ¬ Obligations.EngineSlotsAndLanes := by
  unfold Obligations.EngineSlotsAndLanes
  rintro ⟨-, -, -, -, hclose⟩
  obtain ⟨t, ht, -, -, helem⟩ := hclose trackingOpenState 0 (by decide) (by decide)
  have htracking := slotClose_trackingOpenState t ht
  rw [helem (by decide)] at htracking
  exact absurd htracking (by decide)

end Sys2Proof.Machine

/-! What the commands of the control engine and the Rooster leave unchanged (R133, R136, R153, R177, R192, R197). -/

namespace Sys2Proof.Machine

/-- Settles O55: each command composes operations whose frames the laws give, and its list names the fields of those it may run. The
slow tick lists none. -/
theorem engineAndRoosterFrame : Obligations.EngineAndRoosterFrame := by
  rintro c s t fs (hc | hc) hw h
  all_goals cases c <;> cases hc <;> cases hw <;> cases h
  all_goals try dsimp only
  -- one goal for each branch of a command
  all_goals repeat' split
  all_goals refine ⟨fun f i hf => ?_, by simp (maxDischargeDepth := 60) [Part.forall_iff, Instr.parts, Part.same]⟩
  all_goals
    simp only [driveFields, waveFields, List.cons_append, List.nil_append, List.mem_cons, not_or] at hf
  all_goals simp (maxDischargeDepth := 60) [hf]

end Sys2Proof.Machine

/-! What the Rooster's operations leave and show (R185 to R190, R197). -/

namespace Sys2Proof.Machine

/-! ### What the waves leave of the Rooster and of the messages -/

theorem State.drive_start {kind : Nat} (h : kind ≠ 4) (s : State) (i : Nat) (v : Int) : (s.drive kind i v).start = s.start := by
  unfold State.drive
  split
  case h_4 => exact absurd rfl h
  all_goals simp

/-- Only the trees of steps and of their limits touch what the Rooster holds beside its registers: a step that moves spoils the
profile checks of its tile (R200). -/
theorem State.rearb_start (s : State) {kind : Nat} (h3 : kind ≠ 3) (h4 : kind ≠ 4) (i : Nat) :
    (s.rearb kind i).start = s.start := by
  unfold State.rearb
  split
  · exact absurd rfl h3
  · split <;> exact State.drive_start (by decide) ..
  · split
    · exact State.drive_start h4 ..
    · rfl

@[simp] theorem State.rearb_slope_out (s : State) : (s.rearb 5 0).out = s.out := by
  obtain ⟨v, hv⟩ := s.rearb_slope
  rw [hv, State.setF_out]

@[simp] theorem State.showWaves_start (s : State) : s.showWaves.start = s.start := by
  rw [State.showWaves, State.rearb_start _ (by decide) (by decide)]
  simp

@[simp] theorem State.showWaves_out (s : State) : s.showWaves.out = s.out := by
  simp [State.showWaves]

@[simp] theorem State.setWaves_start (s : State) (ws : List Wave) : (s.setWaves ws).start = { s.start with waves := ws } :=
  State.showWaves_start _

@[simp] theorem State.setWaves_out (s : State) (ws : List Wave) : (s.setWaves ws).out = s.out :=
  State.showWaves_out _

@[simp] theorem State.putWave_waves (s : State) (w : Wave) :
    (s.putWave w).start.waves = s.start.waves.map (fun x => if x.slot = w.slot then w else x) := by
  simp [State.putWave]

@[simp] theorem State.endWave_waves (s : State) (bid : Nat) :
    (s.endWave bid).start.waves = s.start.waves.filter (fun w => decide (w.bid ≠ bid)) := by
  simp [State.endWave]

@[simp] theorem State.endWave_queue (s : State) (bid : Nat) : (s.endWave bid).start.queue = s.start.queue := by
  simp [State.endWave]

@[simp] theorem State.endWave_out (s : State) (bid : Nat) : (s.endWave bid).out = s.out := by
  simp [State.endWave]

theorem queue_foldl {α : Type} (l : List α) (f : State → α → State) (h : ∀ t x, (f t x).start.queue = t.start.queue)
    (s : State) :
    (l.foldl f s).start.queue = s.start.queue :=
  foldl_keeps (fun t => t.start.queue) l f h s

@[simp] theorem State.checkWaves_queue (s : State) : s.checkWaves.start.queue = s.start.queue := by
  simp [State.checkWaves, queue_foldl]

@[simp] theorem State.checkWaves_out (s : State) : s.checkWaves.out = s.out := by
  simp [State.checkWaves]

/-- While no wave has its engines granted, none ends (R189). -/
theorem State.checkWaves_of_short {s : State} (h : ∀ w ∈ s.start.waves, w.granted < s.waveE w) :
    s.checkWaves = s.showWaves := by
  have hdone : s.start.waves.filter (fun w => s.waveE w ≤ w.granted) = [] := by
    simpa [List.filter_eq_nil_iff] using h
  rw [State.checkWaves, hdone, List.foldl_nil]

/-! ### What events and the wave registers show -/

theorem State.roosterEvent_self (s : State) (f : Fld) : (s.roosterEvent f).getF f 0 = 1 := by
  simp [State.roosterEvent, Fld.width_pos]

theorem State.tokenEvent_self (s : State) (f : Fld) (id : Nat) : (s.tokenEvent f id).getF f 0 = 1 := by
  simp [State.tokenEvent, Fld.width_pos]

theorem State.showPre_active {s : State} (h : s.start.waves ≠ []) : s.showPre.getF .DOM_START_STATUS_PRE_ACTIVE 0 = 1 := by
  simp [State.showPre, State.setB_eq, h, Fld.width_pos]

theorem State.showWaves_preActive {s : State} (h : s.start.waves ≠ []) :
    s.showWaves.getF .DOM_START_STATUS_PRE_ACTIVE 0 = 1 := by
  simp [State.showWaves, State.showPre_active, h]

theorem State.showWaves_armed {s : State} (h : s.start.waves.any (fun w => w.armed) = true) :
    s.showWaves.getF .DOM_START_STATUS_ARMED 0 = 1 := by
  simp [State.showWaves, State.setB_eq, h, Fld.width_pos]

theorem State.showWave_barrierId {s : State} {k : Nat} {w : Wave} (h : s.start.waves.find? (fun w => w.slot = k) = some w) :
    (s.showWave k).getF .DOM_WAVE_ID_BARRIER_ID k = w.bid % 2 ^ Fld.width .DOM_WAVE_ID_BARRIER_ID := by
  simp [State.showWave, h]

theorem State.showWave_barrierId_of_ne {j k : Nat} (h : k ≠ j) (s : State) :
    (s.showWave j).getF .DOM_WAVE_ID_BARRIER_ID k = s.getF .DOM_WAVE_ID_BARRIER_ID k := by
  unfold State.showWave
  split <;> simp [h]

/-- The register pair of a wave's slot shows its barrier. -/
theorem State.showWaves_barrierId {s : State} {k : Nat} {w : Wave} (hk : k ∈ [0, 1, 2, 3])
    (h : s.start.waves.find? (fun w => w.slot = k) = some w) :
    s.showWaves.getF .DOM_WAVE_ID_BARRIER_ID k = w.bid % 2 ^ Fld.width .DOM_WAVE_ID_BARRIER_ID := by
  have hslots : (s.each [0, 1, 2, 3] (fun k s => s.showWave k)).getF .DOM_WAVE_ID_BARRIER_ID k =
      w.bid % 2 ^ Fld.width .DOM_WAVE_ID_BARRIER_ID := by
    refine State.each_at (P := fun t => t.start = s.start)
      (Q := fun t => t.getF .DOM_WAVE_ID_BARRIER_ID k = w.bid % 2 ^ Fld.width .DOM_WAVE_ID_BARRIER_ID) (by decide) hk
      (fun j _ t ht => ?_) (fun t ht => State.showWave_barrierId (ht ▸ h)) (fun j hj t ht => ?_) rfl
    · simpa using ht
    · rw [State.showWave_barrierId_of_ne hj.symm, ht]
  simp [State.showWaves, hslots]

end Sys2Proof.Machine

/-! Tokens, announcements, waves and pre-bias floors (R177, R178, R180, R181, R185 to R189). -/

namespace Sys2Proof.Machine
open Host (Outcome)

/-! ### Activity tokens -/

theorem State.setTiles_congr {s t : State} (h : t.cfg = s.cfg) (set : TileSet) : t.setTiles set = s.setTiles set := by
  rw [State.setTiles, h, ← State.setTiles]

/-- A token has been heard: its tiles are checked against the tile count and its energy enters the forecast (R177, R180, R184). -/
def State.tokenHeard (s : State) (fmt : Nat) (set : TileSet) (start m n k id : Nat) : State :=
  let t := s.when (s.setBad set) (fun s => s.tokenEvent .DOM_START_EVENT_MSG_BAD id)
  t.forecast (t.setTiles set) start (t.tokenStep fmt m n k).1 (t.tokenStep fmt m n k).2

/-- A token counts as late (R181). -/
def State.tokenLate (s : State) (id : Nat) : State :=
  (s.bumpF .DOM_START_COUNT_LATE_TOKENS 0).tokenEvent .DOM_START_EVENT_TOKEN_LATE id

section
variable (s : State) (fmt start m n k id : Nat) (set : TileSet)

theorem State.tokenHeard_parts : (s.tokenHeard fmt set start m n k id).time = s.time ∧
    (s.tokenHeard fmt set start m n k id).start = s.start := by
  simp [State.tokenHeard]

theorem State.tokenHeard_getF {f : Fld} (h : f ≠ .DOM_START_EVENT_MSG_BAD) (i : Nat) :
    (s.tokenHeard fmt set start m n k id).getF f i = s.getF f i := by
  simp [State.tokenHeard, h]

theorem State.tokenHeard_raiseQ (h : s.setBad set = false) : (s.tokenHeard fmt set start m n k id).raiseQ = s.raiseQ := by
  simp [State.tokenHeard, h]

end

theorem execActivityToken_passed {s : State} {start : Nat} (h : start < s.time) (fmt m n k id : Nat) (set : TileSet) :
    exec (.activityToken fmt set start m n k id) s = .next ((s.tokenHeard fmt set start m n k id).tokenLate id) := by
  have htime := (s.tokenHeard_parts fmt start m n k id set).1
  exact congrArg Outcome.next (if_pos (htime.symm ▸ h))

theorem execActivityToken_early {s : State} {start : Nat} (h : s.time + 10 * s.getF .DOM_START_PRE_PREBIAS_LEAD 0 ≤ start)
    (fmt m n k id : Nat) (set : TileSet) :
    exec (.activityToken fmt set start m n k id) s =
      .next ((s.tokenHeard fmt set start m n k id).addFloors (s.setTiles set) start false false) := by
  have htime := (s.tokenHeard_parts fmt start m n k id set).1
  have hlead := s.tokenHeard_getF fmt start m n k id set (f := .DOM_START_PRE_PREBIAS_LEAD) (by decide) 0
  refine congrArg Outcome.next ((if_neg ?_).trans ((if_neg ?_).trans ?_))
  · show ¬ start < (s.tokenHeard fmt set start m n k id).time
    omega
  · show ¬ start - (s.tokenHeard fmt set start m n k id).time <
      10 * (s.tokenHeard fmt set start m n k id).getF .DOM_START_PRE_PREBIAS_LEAD 0
    omega
  · exact congrArg (fun tiles => (s.tokenHeard fmt set start m n k id).addFloors tiles start false false)
      (State.setTiles_congr (by simp) set)

theorem State.addFloors_floors (s : State) (tiles : List Nat) (start : Nat) (wave acting : Bool) :
    (s.addFloors tiles start wave acting).start.floors = s.start.floors ++
      [{ key := s.start.nextFloor, start := start, wave := wave, tiles := tiles.filter (fun d => s.domLive d), acting := acting,
         heights := [], covered := [] }] := rfl

theorem State.domLive_congr {s t : State} (h : ∀ d, t.getF .DOM_STATUS_STATE d = s.getF .DOM_STATUS_STATE d) :
    t.domLive = s.domLive := by
  funext d
  simp only [State.domLive, h]

/-! ### Announcements -/

/-- An announcement has been heard: its tiles are checked against the tile count (R180). -/
def State.announcementHeard (s : State) (set : TileSet) : State :=
  s.when (s.setBad set) (fun s => s.roosterEvent .DOM_START_EVENT_MSG_BAD)

theorem State.announcementHeard_parts (s : State) (set : TileSet) :
    (s.announcementHeard set).cfg = s.cfg ∧ (s.announcementHeard set).start = s.start := by
  simp [State.announcementHeard]

theorem State.announcementHeard_getF (s : State) (set : TileSet) {f : Fld} (h : f ≠ .DOM_START_EVENT_MSG_BAD) (i : Nat) :
    (s.announcementHeard set).getF f i = s.getF f i := by
  simp [State.announcementHeard, h]

/-- The wave that an announcement begins in wave slot 0. -/
def State.firstWave (s : State) (set : TileSet) (release bid engines : Nat) : Wave :=
  { slot := 0, bid := bid, floors := s.start.nextFloor, release := release, tiles := s.setTiles set,
    engines := min engines (16 * set.count), granted := 0, armed := false, released := false }

/-- The wave has engines left after its tiles that are down. -/
theorem State.firstWave_waveE_pos {s t : State} (hlive : t.domLive = s.domLive) {set : TileSet} {engines : Nat}
    (hleft : 16 * ((s.setTiles set).filter (fun d => decide (s.domLive d = false))).length < min engines (16 * set.count))
    (release bid : Nat) : 0 < t.waveE (s.firstWave set release bid engines) := by
  rw [State.waveE, hlive]
  simp only [State.firstWave, Bool.not_eq_true]
  omega

/-- With no wave active an announcement takes wave slot 0 (log entry 22). -/
theorem execBarrierAnnouncement_first {s : State} (h : s.start.waves = []) (release bid engines : Nat) (set : TileSet) :
    exec (.barrierAnnouncement set release bid engines) s =
      .next ((((s.announcementHeard set).addFloors (s.setTiles set) release true false).setWaves
        [s.firstWave set release bid engines]).checkWaves) := by
  obtain ⟨hcfg, hstart⟩ := s.announcementHeard_parts set
  have hnone : (s.announcementHeard set).findWave bid = none := by simp [State.findWave, hstart, h]
  show execBarrierAnnouncement set release bid engines s = _
  rw [execBarrierAnnouncement, ← State.announcementHeard]
  dsimp only
  rw [hnone, State.setTiles_congr hcfg]
  simp [State.firstWave, State.addFloors, hstart, h]

theorem execBarrierAnnouncement_full {s : State} {bid : Nat} (hslots : s.start.waves.map (fun w => w.slot) = [0, 1, 2, 3])
    (hnone : s.findWave bid = none) (release engines : Nat) (set : TileSet) :
    exec (.barrierAnnouncement set release bid engines) s =
      .next (((s.announcementHeard set).bumpF .DOM_START_COUNT_DROPPED_ANN 0).roosterEvent .DOM_START_EVENT_ANN_DROPPED) := by
  obtain ⟨-, hstart⟩ := s.announcementHeard_parts set
  have hnone' : (s.announcementHeard set).findWave bid = none := by rw [State.findWave, hstart, ← State.findWave, hnone]
  have htaken : [0, 1, 2, 3].find? (fun k => ¬ s.start.waves.any (fun w => w.slot = k)) = none := by
    refine List.find?_eq_none.mpr fun k hk => ?_
    obtain ⟨w, hw, rfl⟩ := List.mem_map.mp (hslots ▸ hk)
    simpa using ⟨w, hw, rfl⟩
  show execBarrierAnnouncement set release bid engines s = _
  rw [execBarrierAnnouncement, ← State.announcementHeard]
  dsimp only
  rw [hnone', hstart, htaken]

/-! ### Pre-bias floors -/

/-- The floors of one message act (R185). -/
def State.floorsActing (s : State) (key : Nat) : State :=
  { s with start := { s.start with floors := s.start.floors.map (fun f => if f.key = key then { f with acting := true } else f) } }

theorem execPrebiasFloorStart_waiting {s : State} {key : Nat} {f : FloorSet}
    (h : s.start.floors.find? (fun f => decide (f.key = key ∧ ¬ f.acting = true)) = some f) :
    exec (.prebiasFloorStart key) s = .next ((s.floorsActing key).each f.tiles (fun d s => s.rearb 2 d)) := by
  show execPrebiasFloorStart key s = _
  rw [execPrebiasFloorStart, h]
  rfl

/-- The floor of one tile falls to a height above stage 1. -/
def FloorSet.loweredTo (f : FloorSet) (tile h : Nat) : FloorSet := { f with heights := f.heights.put tile h }

theorem State.floorHeight_loweredTo (s : State) {f : FloorSet} {tile : Nat} (hact : f.acting = true)
    (htile : f.tiles.contains tile = true) (h : Nat) : s.floorHeight (f.loweredTo tile h) tile = h := by
  simp [State.floorHeight, FloorSet.loweredTo, hact, List.contains_iff_mem.mp htile]

theorem State.prebias_of_single {s : State} {f : FloorSet} (h : s.start.floors = [f]) (d : Nat) :
    s.prebias d = s.floorHeight f d := by
  simp [State.prebias, h]

/-- The only floors held, those of a token, fall over one tile and stay above stage 1 (R185). -/
theorem execPrebiasFloorFall_token {s : State} {f : FloorSet} {tile : Nat} (hfloors : s.start.floors = [f])
    (hact : f.acting = true) (htile : f.tiles.contains tile = true) (htoken : f.wave = false)
    (hheight : 2 ≤ s.floorHeight f tile) :
    exec (.prebiasFloorFall f.key tile) s = .next (State.rearb
      { s with start := { s.start with floors := [f.loweredTo tile (s.floorHeight f tile - 1)] } } 2 tile) := by
  have hne : s.floorHeight f tile - 1 ≠ 0 := by omega
  have htiles : f.tiles ≠ [] := List.ne_nil_of_mem (List.contains_iff_mem.mp htile)
  have hfind : s.start.floors.find? (fun g => g.key = f.key ∧ g.acting ∧ g.tiles.contains tile) = some f := by
    simp [hfloors, hact, List.contains_iff_mem.mp htile]
  show execPrebiasFloorFall f.key tile s = _
  rw [execPrebiasFloorFall, hfind]
  simp [htoken, hne, hfloors, FloorSet.loweredTo, htiles]

/-! ### Waves -/

theorem execBarrierCancel_active {s : State} {bid : Nat} (h : (s.findWave bid).isSome = true) :
    exec (.barrierCancel bid) s = .next (s.endWave bid) :=
  congrArg Outcome.next (if_pos h)

theorem execWaveArm_due {s : State} {h : Int} (hwaves : s.start.waves ≠ []) (hgate : s.dom.hrGate = some h)
    (hdue : (s.hTarget : Int) - 320 ≤ 64 * h) :
    exec .waveArm s = .next (s.setWaves (s.start.waves.map (fun w => { w with armed := true }))) := by
  show execWaveArm s = _
  rw [execWaveArm, hgate]
  exact congrArg Outcome.next (if_pos ⟨hwaves, hdue⟩)

theorem execWaveRelease_active {s : State} {bid : Nat} {w : Wave} (h : s.findWave bid = some w) :
    exec (.waveRelease bid) s = .next ((s.putWave { w with released := true }).capEvent 7 0) := by
  show execWaveRelease bid s = _
  rw [execWaveRelease, h]

theorem execWaveTimeout_released {s : State} {bid : Nat} {w : Wave} (h : s.findWave bid = some w) (hrel : w.released = true) :
    exec (.waveTimeout bid) s =
      .next (((s.bumpF .DOM_START_COUNT_WAVE_TMOS 0).roosterEvent .DOM_START_EVENT_WAVE_TMO).endWave bid) := by
  show execWaveTimeout bid s = _
  rw [execWaveTimeout, h]
  exact congrArg Outcome.next (if_pos hrel)

/-! ### The statement -/

/-- Settles O21: each command's answer by its equation, and what its operations show. -/
theorem forecastsAndBarriersAct : Obligations.ForecastsAndBarriersAct := by
  refine ⟨fun s fmt start m n k id set hpast => ?_, fun s fmt start m n k id set hearly => ?_,
    fun s release bid engines set hwaves hbid hleft => ?_, fun s release bid engines set hslots hnone => ?_,
    fun s bid hsome => ?_, fun s key f hwait => ?_, fun s key tile f hfloors hkey hact htile htoken hheight => ?_,
    fun s h hwaves hgate hdue => ?_, fun s bid w hw => ?_, fun s bid w hw hrel => ?_, fun s tile => rfl⟩
  · obtain ⟨htime, hstart⟩ := s.tokenHeard_parts fmt start m n k id set
    refine ⟨_, execActivityToken_passed hpast fmt m n k id set, ?_, State.tokenEvent_self .., fun hgood => ?_, ?_⟩
    · simp [State.tokenLate, State.tokenHeard_getF]
    · simp [State.tokenLate, State.tokenEvent, s.tokenHeard_raiseQ fmt start m n k id set hgood, htime]
    · simp [State.tokenLate, hstart]
  · obtain ⟨-, hstart⟩ := s.tokenHeard_parts fmt start m n k id set
    have hlive : (s.tokenHeard fmt set start m n k id).domLive = s.domLive :=
      State.domLive_congr (s.tokenHeard_getF fmt start m n k id set (by decide))
    refine ⟨_, execActivityToken_early hearly fmt m n k id set, ?_, ?_⟩
    · rw [State.addFloors_floors, hstart, hlive]
    · simp [State.tokenHeard_getF]
  · have hlive : (((s.announcementHeard set).addFloors (s.setTiles set) release true false).setWaves
        [s.firstWave set release bid engines]).domLive = s.domLive :=
      State.domLive_congr fun d => by simp [State.announcementHeard_getF]
    have hbid' : bid % 2 ^ Fld.width .DOM_WAVE_ID_BARRIER_ID = bid := Nat.mod_eq_of_lt (hbid.trans (by decide))
    refine ⟨_, execBarrierAnnouncement_first hwaves release bid engines set, ?_⟩
    rw [State.checkWaves_of_short]
    · refine ⟨?_, ?_, State.showWaves_preActive ?_⟩
      · rw [State.showWaves_start, State.setWaves_start]
        rfl
      · rw [State.showWaves_barrierId (w := s.firstWave set release bid engines) (by decide)]
        · exact hbid'
        · simp [State.firstWave]
      · simp
    · rw [State.setWaves_start]
      exact List.forall_mem_singleton.mpr (State.firstWave_waveE_pos hlive hleft release bid)
  · obtain ⟨-, hstart⟩ := s.announcementHeard_parts set
    refine ⟨_, execBarrierAnnouncement_full hslots hnone release engines set, ?_, ?_, State.roosterEvent_self ..⟩
    · simp [hstart]
    · simp [State.announcementHeard_getF]
  · exact ⟨_, execBarrierCancel_active hsome, State.endWave_waves ..⟩
  · refine ⟨_, execPrebiasFloorStart_waiting hwait, ?_⟩
    rw [State.each_start _ _ _ (fun d t => t.rearb_start (by decide) (by decide) d)]
    rfl
  · subst hkey
    refine ⟨_, execPrebiasFloorFall_token hfloors hact htile htoken hheight, ?_, ?_⟩
    · rw [State.rearb_start _ (by decide) (by decide)]
      rfl
    · rw [State.prebias_of_single (f := f.loweredTo tile (s.floorHeight f tile - 1)), State.floorHeight_loweredTo _ hact htile,
        State.prebias_of_single hfloors]
      rw [State.rearb_start _ (by decide) (by decide)]
  · refine ⟨_, execWaveArm_due hwaves hgate hdue, ?_, State.showWaves_armed ?_⟩
    · rw [State.setWaves_start]
    · obtain ⟨w, hw⟩ := List.exists_mem_of_ne_nil _ hwaves
      exact List.any_eq_true.mpr ⟨_, List.mem_map_of_mem hw, rfl⟩
  · refine ⟨_, execWaveRelease_active hw, ?_⟩
    simp
  · refine ⟨_, execWaveTimeout_released hw hrel, ?_, ?_, ?_⟩
    · simp
    · simp
    · rw [State.endWave_getF _ _ _ _ (by decide), State.roosterEvent_self]

end Sys2Proof.Machine

/-! Start requests, the bucket and permits (R190, R192 to R194, R196, R197, R199, R200). -/

namespace Sys2Proof.Machine
open Host (Outcome)

/-! ### What a permit leaves of the queue and of the messages -/

@[simp] theorem State.setQueue_start (s : State) (q : List StartReq) : (s.setQueue q).start = { s.start with queue := q } := rfl

@[simp] theorem State.putWave_queue (s : State) (w : Wave) : (s.putWave w).start.queue = s.start.queue := by
  simp [State.putWave]

@[simp] theorem State.putWave_out (s : State) (w : Wave) : (s.putWave w).out = s.out :=
  State.setWaves_out ..

@[simp] theorem State.openCheck_queue (s : State) (r : StartReq) (c : Nat) (last : Option Nat) :
    (s.openCheck r c last).start.queue = s.start.queue := by
  unfold State.openCheck
  split <;> rfl

@[simp] theorem State.countGrant_queue (s : State) (r : StartReq) : (s.countGrant r).start.queue = s.start.queue := by
  unfold State.countGrant
  repeat' split
  all_goals simp

@[simp] theorem State.countGrant_out (s : State) (r : StartReq) : (s.countGrant r).out = s.out := by
  unfold State.countGrant
  repeat' split
  all_goals simp

theorem State.sendPermit_queue (s : State) (r : StartReq) (c : Nat) : (s.sendPermit r c).start.queue = s.start.queue := by
  simp [State.sendPermit, State.coverFloors, State.spoilChecks]

theorem State.sendPermit_out (s : State) (r : StartReq) (c : Nat) :
    (s.sendPermit r c).out = s.out ++ [.permit r.dom r.reqId c s.time] := by
  simp [State.sendPermit]

/-! ### START_REQ -/

/-- The epoch of a request is looked up, and an unknown one shows EPOCH_BAD and raises EPOCH_UNKNOWN (R199). -/
def State.epochHeard (s : State) (port epoch : Nat) : State :=
  let known := (s.profileOf port (epoch % 16)).2.2.2
  (s.setB .DOM_TILE_MAP_EPOCH_BAD port (¬ known)).when (¬ known) (fun s => s.event .DOM_START_EVENT_EPOCH_UNKNOWN 0 0x04 port)

theorem State.epochHeard_parts (s : State) (port epoch : Nat) : (s.epochHeard port epoch).time = s.time ∧
    (s.epochHeard port epoch).out = s.out ∧ (s.epochHeard port epoch).start = s.start := by
  simp [State.epochHeard]

/-- The request of a tile, with its profile (R190, R194, R198). -/
def State.tileReq (s : State) (pr : Nat × Nat × Nat × Bool) (port wclass reqId : Nat) (barrier : Bool) (engines step bid : Nat) :
    StartReq :=
  { dom := port, wake := false, reqId := reqId, wclass := if barrier ∧ (s.findWave bid).isSome then 0 else min 2 wclass,
    arrival := s.time, bid := if barrier then some bid else none, engines := engines, step := step, scale := pr.1,
    delay := pr.2.1, rise := pr.2.2.1, known := pr.2.2.2, moved := false }

section
variable {s : State} {port : Nat} (wclass reqId epoch engines step bid : Nat) (barrier : Bool)

/-- With nothing waiting, a ready tile's request of a free start is permitted at once, and any other waits (R192). -/
theorem execStartReq_ready (hport : port < s.cfg.table.tiles) (hqueue : s.start.queue = [])
    (hready : s.isSet .DOM_STATUS_READY port = true) :
    exec (.startReq port port wclass reqId epoch barrier engines step bid) s = .next (
      let t := s.epochHeard port epoch
      let r := t.tileReq (s.profileOf port (epoch % 16)) port wclass reqId barrier engines step bid
      if step ≤ 5 then t.sendPermit r 0 else t.setQueue (t.start.queue ++ [r])) :=
  congrArg Outcome.next ((if_neg (by omega)).trans ((if_neg (by simp [hqueue])).trans (if_neg (by simp [hready]))))

theorem execStartReq_notReady (hport : port < s.cfg.table.tiles) (hqueue : s.start.queue = [])
    (hready : s.isSet .DOM_STATUS_READY port = false) :
    exec (.startReq port port wclass reqId epoch barrier engines step bid) s = .next (s.sendDeny port reqId 1) :=
  congrArg Outcome.next ((if_neg (by omega)).trans ((if_neg (by simp [hqueue])).trans (if_pos (by simp [hready]))))

theorem execStartReq_otherTile {tile : Nat} (hport : port < s.cfg.table.tiles) (htile : tile ≠ port) :
    exec (.startReq port tile wclass reqId epoch barrier engines step bid) s =
      .next (((s.bumpF .DOM_START_COUNT_BAD_REQ 0).event .DOM_START_EVENT_REQ_BAD 0 0x04 port).sendDeny port reqId 3) :=
  congrArg Outcome.next ((if_neg (by omega)).trans (if_pos (.inl htile)))

end

/-! ### START_CANCEL and MAP_NOTICE -/

theorem execStartCancel_waiting {s : State} {tile reqId : Nat} (htile : tile < s.cfg.table.tiles)
    (hwait : s.start.queue.any (fun r => decide (r.dom = tile ∧ ¬ r.wake ∧ r.reqId = reqId)) = true) :
    exec (.startCancel tile reqId) s = .next (((s.spoilChecks tile).setQueue
      (s.start.queue.filter (fun r => ¬ (r.dom = tile ∧ ¬ r.wake ∧ r.reqId = reqId)))).sendDeny tile reqId 2) :=
  congrArg Outcome.next ((if_neg (by omega)).trans (if_pos hwait))

/-! ### PERMIT_GRANT -/

/-- A request's charge is taken off the level and the request leaves the queue (R193). -/
def State.charged (s : State) (r : StartReq) : State :=
  let t := (s.setF .DOM_START_BUCKET_LEVEL 0 (s.getF .DOM_START_BUCKET_LEVEL 0 - s.charge r)).when (s.charge r ≠ 0)
    (fun s => (s.incF .DOM_START_GRANTS_GRANTS 0).accPermit r.dom)
  t.setQueue (t.start.queue.erase r)

theorem State.charged_parts (s : State) (r : StartReq) : (s.charged r).time = s.time ∧ (s.charged r).cfg = s.cfg ∧
    (s.charged r).flt = s.flt ∧ (s.charged r).out = s.out ∧ (s.charged r).start.queue = s.start.queue.erase r := by
  simp [State.charged]

theorem State.charged_level (s : State) (r : StartReq) : (s.charged r).getF .DOM_START_BUCKET_LEVEL 0 =
    (s.getF .DOM_START_BUCKET_LEVEL 0 - s.charge r) % 2 ^ Fld.width .DOM_START_BUCKET_LEVEL := by
  simp [State.charged]

theorem State.charged_cellSt (s : State) (r : StartReq) (c : Nat) : (s.charged r).cellSt c = s.cellSt c := by
  simp [State.charged, State.cellSt]

theorem execPermitGrant_covered {s : State} {r : StartReq} (hfirst : s.firstReq = some r)
    (hcover : s.charge r ≤ s.getF .DOM_START_BUCKET_LEVEL 0) :
    exec .permitGrant s = .next (if r.wake then (s.charged r).admitWake r.dom else (s.charged r).sendPermit r (s.charge r)) := by
  show execPermitGrant s = _
  rw [execPermitGrant, hfirst]
  exact congrArg Outcome.next (if_neg (by omega))

theorem execPermitGrant_short {s : State} {r : StartReq} (hfirst : s.firstReq = some r)
    (hshort : s.getF .DOM_START_BUCKET_LEVEL 0 < s.charge r) : exec .permitGrant s = .next s := by
  show execPermitGrant s = _
  rw [execPermitGrant, hfirst]
  exact congrArg Outcome.next (if_pos hshort)

/-! ### An admitted wake (R109, R197) -/

/-- Cells moved to one state one after another stand in it. -/
theorem State.each_setCell_cellSt {c st : Nat} (hst : st < 2 ^ Fld.width .CEL_STATUS_STATE) (l : List Nat) (s : State)
    (h : c ∈ l ∨ s.cellSt c = st) : (s.each l (fun q t => t.setCell q st)).cellSt c = st := by
  induction l generalizing s with
  | nil => exact h.resolve_left List.not_mem_nil
  | cons q r ih =>
    refine ih (s.setCell q st) ?_
    by_cases hq : c = q
    · exact .inr (hq ▸ State.setCell_cellSt_self s q hst)
    · rw [State.setCell_cellSt_of_ne hq]
      exact h.imp_left fun hmem => (List.mem_cons.mp hmem).resolve_left hq

theorem State.admitWake_admitted (s : State) (d : Nat) : Tbl.get false (s.admitWake d).dom.admitted d = true := by
  simp [State.admitWake]

theorem State.admitWake_wakeWait (s : State) (d : Nat) : (s.admitWake d).getF .DOM_STATUS_WAKE_WAIT d = 0 := by
  simp [State.admitWake]

/-- The cells in OFF enter PRECHARGE, where the Goose holds none open. -/
theorem State.admitWake_cellSt {s : State} {c d : Nat} (hc : c ∈ s.cfg.table.domCells d) (hoff : s.cellSt c = 0)
    (hgoose : s.flt.gooseShut = []) : (s.admitWake d).cellSt c = 1 := by
  refine State.each_setCell_cellSt (by decide) _ _ (.inl (List.mem_filter.mpr ⟨hc, ?_⟩))
  rw [State.cellSt] at hoff
  simp [State.gooseOpens, hgoose, hoff]

/-! ### PROFILE_CHECK -/

theorem execProfileCheck_mismatch {s : State} {c : ProfCheck} {i : Int} (hchecks : s.start.checks = [c])
    (hafter : c.after = some i) (hclean : c.disturbed = false)
    (hout : (max 1 (s.getF .DOM_START_WAVE_MISMATCH_TOL 0) : Int) * (10 * c.charge) <
      (i - c.before - 10 * c.charge).natAbs * 100) :
    ∃ ratio, exec (.profileCheck c.tile) s = .next (
      let t := ({ s with start := { s.start with checks := [] } } : State).fresh.2
      ((t.bumpF .DOM_TILE_MAP_MISMATCH_COUNT c.tile).setF .DOM_TILE_MAP_LAST_RATIO c.tile ratio).event
        .DOM_START_EVENT_MISMATCH 0 0x04 c.tile) := by
  have hfind : s.start.checks.find? (fun d => d.tile = c.tile) = some c := by simp [hchecks]
  have herase : s.start.checks.erase c = [] := by simp [hchecks]
  show ∃ ratio, execProfileCheck c.tile s = _
  rw [execProfileCheck, hfind]
  dsimp only
  rw [hafter]
  dsimp only
  rw [if_neg, herase]
  · exact ⟨_, rfl⟩
  · rintro (h | ⟨h, -⟩)
    · simp [hclean] at h
    · exact absurd h (not_le.mpr hout)

/-! ### The statement -/

/-- Settles O22: each command's answer by its equation, and what a permit, an admitted wake and a check leave. -/
theorem startsAreChargedAndGranted : Obligations.StartsAreChargedAndGranted := by
  refine ⟨fun s port wclass reqId epoch engines step bid barrier hport hqueue hready hstep _ => ?_,
    fun s port wclass reqId epoch engines step bid barrier hport hqueue hready hstep => ?_,
    fun s port wclass reqId epoch engines step bid barrier hport hqueue hready =>
      execStartReq_notReady wclass reqId epoch engines step bid barrier hport hqueue hready,
    fun s port tile wclass reqId epoch engines step bid barrier hport htile => ?_,
    fun s tile reqId htile hwait => ?_,
    fun s tile epoch map htile => congrArg Outcome.next (if_neg (by omega)), fun s => rfl,
    fun s r hfirst hcover hwake => ?_, fun s r c hfirst hcover hwake hgoose hc hoff => ?_,
    fun s r hfirst hshort => execPermitGrant_short hfirst hshort,
    fun s tile c i hchecks htile hafter hclean hout => ?_⟩
  · obtain ⟨htime, -, hstart⟩ := s.epochHeard_parts port epoch
    refine ⟨_, execStartReq_ready wclass reqId epoch engines step bid barrier hport hqueue hready, ?_⟩
    dsimp only
    rw [if_neg (by omega), hstart, hqueue]
    refine ⟨?_, ?_, ?_⟩
    · simp [State.tileReq, htime]
    · simp [State.tileReq, State.findWave, hstart]
    · simp [State.setQueue, Fld.width_pos]
  · obtain ⟨htime, hout, hstart⟩ := s.epochHeard_parts port epoch
    refine ⟨_, execStartReq_ready wclass reqId epoch engines step bid barrier hport hqueue hready, ?_⟩
    dsimp only
    rw [if_pos hstep, State.sendPermit_out, State.sendPermit_queue, htime, hout, hstart]
    exact ⟨rfl, hqueue⟩
  · refine ⟨_, execStartReq_otherTile wclass reqId epoch engines step bid barrier hport htile, ?_, ?_, ?_, ?_⟩
    · simp
    · simp [Fld.width_pos]
    · simp [State.sendDeny]
    · simp
  · refine ⟨_, execStartCancel_waiting htile (by simpa using hwait), ?_, ?_⟩
    · simp
    · simp [State.sendDeny]
  · obtain ⟨htime, -, -, hout, hqueue⟩ := s.charged_parts r
    refine ⟨(s.charged r).sendPermit r (s.charge r), ?_, ?_, ?_, ?_⟩
    · rw [execPermitGrant_covered hfirst hcover, if_neg (by simp [hwake])]
    · rw [State.sendPermit_out, hout, htime]
    · rw [State.sendPermit_queue, hqueue]
    · rw [State.sendPermit_getF _ _ _ _ _ (by decide), State.charged_level]
  · obtain ⟨-, hcfg, hflt, -, -⟩ := s.charged_parts r
    refine ⟨(s.charged r).admitWake r.dom, ?_, State.admitWake_admitted .., ?_, State.admitWake_wakeWait ..⟩
    · rw [execPermitGrant_covered hfirst hcover, if_pos hwake]
    · exact State.admitWake_cellSt (hcfg ▸ hc) (by rw [State.charged_cellSt, hoff]) (by rw [hflt, hgoose])
  · subst htile
    obtain ⟨ratio, hexec⟩ := execProfileCheck_mismatch hchecks hafter hclean hout
    refine ⟨_, hexec, ?_, ?_, ?_⟩
    · simp
    · simp
    · simp [Fld.width_pos]

end Sys2Proof.Machine

/-! What the commands of estimation, budget and thermal leave unchanged (R202, R215, R247, R250, R256). -/

namespace Sys2Proof.Machine
open Host (Outcome)

/-- Settles O56: each command answers one state, which composes operations whose frames the laws give, and its list names the fields
of those it may run. -/
theorem powerAndThermalFrame : Obligations.PowerAndThermalFrame := by
  rintro c s t fs (hc | hc) hw h
  all_goals cases c <;> cases hc <;> cases hw
  all_goals
    obtain rfl := Outcome.next.inj h
    clear h
  all_goals try dsimp only
  -- one goal for each branch of a command
  all_goals repeat' split
  all_goals refine ⟨fun f i hf => ?_, by simp (maxDischargeDepth := 60) [Part.forall_iff, Instr.parts, Part.same]⟩
  -- some commands list no field
  all_goals try simp only [driveFields, List.cons_append, List.nil_append, List.mem_cons, not_or] at hf
  all_goals simp (maxDischargeDepth := 60) [hf]

end Sys2Proof.Machine

/-! Counter sets (R202, R204). -/

namespace Sys2Proof.Machine
open Host (Outcome)

/-! ### Estimation records -/

@[simp] theorem State.setEst_estDom_self (s : State) (d : Nat) (e : EstDom) : (s.setEst d e).estDom d = e := by
  simp [State.estDom, State.setEst]

@[simp] theorem State.setEst_estDom_of_ne {d k : Nat} (h : k ≠ d) (s : State) (e : EstDom) :
    (s.setEst d e).estDom k = s.estDom k := by
  simp [State.estDom, State.setEst, h]

theorem State.estDom_congr {s t : State} (h : t.est = s.est) (d : Nat) : t.estDom d = s.estDom d := by
  rw [State.estDom, State.estDom, h]

theorem State.domMeasured_congr {s t : State} (h : ∀ d, t.getF .DOM_STATUS_STATE d = s.getF .DOM_STATUS_STATE d) :
    t.domMeasured = s.domMeasured := by
  funext d
  simp only [State.domMeasured, h]

/-! ### Counter sets (R202, R204) -/

theorem State.staleSet_estDom_self (s : State) (d : Nat) : (s.staleSet d).estDom d =
    { s.estDom d with decided := true, arrived := none, staleRun := (s.estDom d).staleRun + 1 } := by
  rw [State.staleSet, State.estDom_congr (State.event_est ..), State.setEst_estDom_self]

@[simp] theorem State.staleSet_estDom_of_ne {d k : Nat} (h : k ≠ d) (s : State) : (s.staleSet d).estDom k = s.estDom k := by
  rw [State.staleSet, State.estDom_congr (State.event_est ..), State.setEst_estDom_of_ne h]

theorem State.staleSet_event (s : State) (d : Nat) : (s.staleSet d).getF .DOM_EST_EVENT_STALE 0 = 1 :=
  State.getF_event_self ..

theorem State.decideSet_arrived {s : State} {d : Nat} {c : List Nat} (hopen : (s.estDom d).decided = false)
    (hset : (s.estDom d).arrived = some c) :
    s.decideSet d = s.setEst d { s.estDom d with decided := true, counts := c, staleRun := 0 } := by
  simp [State.decideSet, hopen, hset]

theorem State.decideSet_missing {s : State} {d : Nat} (hopen : (s.estDom d).decided = false) (hset : (s.estDom d).arrived = none) :
    s.decideSet d = s.staleSet d := by
  simp [State.decideSet, hopen, hset]

@[simp] theorem State.decideSet_estDom_of_ne {d k : Nat} (h : k ≠ d) (s : State) : (s.decideSet d).estDom k = s.estDom k := by
  unfold State.decideSet
  dsimp only
  repeat' split
  · rfl
  · exact State.setEst_estDom_of_ne h ..
  · exact State.staleSet_estDom_of_ne h ..

/-- The decision on a counter set leaves whether a cell of the domain has failed in the window. -/
theorem State.decideSet_failedCell (s : State) (d : Nat) : ((s.decideSet d).estDom d).failedCell = (s.estDom d).failedCell := by
  unfold State.decideSet
  dsimp only
  repeat' split
  · rfl
  · rw [State.setEst_estDom_self]
  · rw [State.staleSet_estDom_self]

/-- A port takes a message: its domain is metered, the window has closed, the deadline is ahead and nothing is decided (R204). -/
def State.portOpen (s : State) (port : Nat) : Prop :=
  port < s.cfg.table.domains ∧ s.domMeasured port ∧ 100 ≤ s.time ∧ s.time % 100 ≤ 50 ∧ ¬ (s.estDom port).decided

section
variable {s : State} {port dom window : Nat} {counts : List Nat}

theorem execCounterMessage_first (hopen : s.portOpen port) (hnone : (s.estDom port).arrived = none) (hdom : dom % 512 = port)
    (hwindow : window % 2 ^ 32 = s.window % 2 ^ 32) :
    exec (.counterMessage port true dom window counts) s = .next (s.setEst port
      { s.estDom port with arrived := some ((List.range 32).map (fun i => counts.getD i 0 % 4096)) }) :=
  congrArg Outcome.next ((if_pos hopen).trans ((if_pos ⟨rfl, hdom, hwindow⟩).trans (if_pos hnone)))

theorem execCounterMessage_bad {valid : Bool} (hopen : s.portOpen port)
    (hbad : valid = false ∨ dom % 512 ≠ port ∨ window % 2 ^ 32 ≠ s.window % 2 ^ 32) :
    exec (.counterMessage port valid dom window counts) s = .next (s.staleSet port) := by
  refine congrArg Outcome.next ((if_pos hopen).trans (if_neg ?_))
  rintro ⟨hvalid, hdom, hwindow⟩
  rcases hbad with h | h | h
  · simp [h] at hvalid
  · exact h hdom
  · exact h hwindow

theorem execCounterMessage_discarded (valid : Bool) (hshut : ¬ s.portOpen port) :
    exec (.counterMessage port valid dom window counts) s = .next s :=
  congrArg Outcome.next (if_neg hshut)

end

/-- With one metered domain the stale decision is that domain's. -/
theorem execCounterStaleDecision_single {s : State} {d : Nat} (hone : s.doms.filter (fun x => s.domMeasured x) = [d]) :
    exec .counterStaleDecision s = .next (s.decideSet d) := by
  show execCounterStaleDecision s = _
  rw [execCounterStaleDecision, hone]
  rfl

end Sys2Proof.Machine

/-! The windows of the power estimation (R205, R209, R210). -/

namespace Sys2Proof.Machine
open Host (Outcome)

/-! ### One domain's window -/

theorem State.isSet_setB_self (s : State) (f : Fld) (i : Nat) (b : Bool) : (s.setB f i b).isSet f i = b := by
  have hone : 1 % 2 ^ f.width = 1 := Nat.mod_eq_of_lt (Nat.one_lt_two_pow f.width_pos.ne')
  cases b <;> simp [State.isSet, State.getF_setB, hone]

@[simp] theorem State.windowSum_decideSet (s : State) (l : List (Nat × Nat)) (d k : Nat) :
    (s.decideSet k).windowSum l d = s.windowSum l d := by
  simp [State.windowSum]

theorem State.measBad_congr {s t : State} (l : List (Nat × Nat)) {d : Nat} (hcfg : t.cfg = s.cfg)
    (hcell : ∀ c, t.cellSt c = s.cellSt c) (hfailed : (t.estDom d).failedCell = (s.estDom d).failedCell) :
    t.measBad l d = s.measBad l d := by
  simp only [State.measBad, hcfg, hcell, hfailed]

@[simp] theorem State.measBad_decideSet (s : State) (l : List (Nat × Nat)) (d : Nat) :
    (s.decideSet d).measBad l d = s.measBad l d :=
  State.measBad_congr l (by simp) (fun c => by simp [State.cellSt]) (s.decideSet_failedCell d)

/-- A published window replaces the record of its own domain, which notes whether the measurement was invalid. -/
theorem State.publishDom_est (s : State) (l : List (Nat × Nat)) (d n : Nat) :
    ∃ e : EstDom, e.substituted = s.measBad l d ∧ (s.publishDom l d n).est = ((s.decideSet d).setEst d e).est := by
  refine ⟨?e, ?sub, ?est⟩
  case est =>
    simp (maxDischargeDepth := 60) only [State.publishDom, State.accWindow_parts, State.when_est, State.event_est, State.setB_est,
      State.setF_est, implies_true]
    rfl
  case sub => exact s.measBad_decideSet l d

/-- What a published window shows of its domain (R209, R210). -/
theorem State.publishDom_shows (s : State) (l : List (Nat × Nat)) (d n : Nat) :
    (s.publishDom l d n).getF .DOM_MEAS_I_DOM d = s.windowSum l d % 2 ^ Fld.width .DOM_MEAS_I_DOM ∧
      (s.publishDom l d n).isSet .DOM_EST_STATUS_MEAS_INVALID d = s.measBad l d ∧
      ((s.publishDom l d n).estDom d).substituted = s.measBad l d := by
  refine ⟨?_, ?_, ?_⟩
  · simp (maxDischargeDepth := 60) [State.publishDom]
  · rw [← State.isSet_setB_self s .DOM_EST_STATUS_MEAS_INVALID d (s.measBad l d)]
    simp (maxDischargeDepth := 60) [State.publishDom, State.isSet, State.getF_setB]
  · obtain ⟨e, hsub, hest⟩ := s.publishDom_est l d n
    rw [State.estDom_congr hest, State.setEst_estDom_self, hsub]

@[simp] theorem State.publishDom_estDom_of_ne {d k : Nat} (h : k ≠ d) (s : State) (l : List (Nat × Nat)) (n : Nat) :
    (s.publishDom l d n).estDom k = s.estDom k := by
  obtain ⟨e, -, hest⟩ := s.publishDom_est l d n
  rw [State.estDom_congr hest, State.setEst_estDom_of_ne h, State.decideSet_estDom_of_ne h]

@[simp] theorem State.publishNone_estDom_of_ne {d k : Nat} (h : k ≠ d) (s : State) : (s.publishNone d).estDom k = s.estDom k := by
  rw [← State.setEst_estDom_of_ne h s]
  exact State.estDom_congr rfl k

/-! ### The turns of the domains -/

/-- The turn of one domain as the windows are published (R205). -/
def State.publishTurn (s : State) (cells : List (Nat × Nat)) (n d : Nat) : State :=
  if s.domMeasured d then s.publishDom cells d n else if s.estDom d = EstDom.empty then s else s.publishNone d

/-- The domains have published a window, each in its turn. -/
def State.domsPublished (s : State) (cells : List (Nat × Nat)) : State :=
  s.each s.doms (fun d t => t.publishTurn cells s.window d)

theorem execEstimatePublish_eq {s : State} (htime : 100 ≤ s.time) (hnew : s.est.published ≠ some s.window)
    (cells : List (Nat × Nat)) : exec (.estimatePublish cells) s = .next (
      let t := (s.domsPublished cells).publishStack.dropParams s.window
      { t with est := { t.est with published := some s.window } }) := by
  refine congrArg Outcome.next (if_neg ?_)
  rintro (h | h)
  · omega
  · exact hnew h

/-- The fields that the turn of one domain may write. -/
def turnFields : List Fld :=
  [.DOM_EST_CUR_EST_I, .DOM_EST_CUR_LEAK_I, .DOM_EST_EVENT_BOTH_INVALID, .DOM_EST_EVENT_STALE, .DOM_EST_EVENT_SUBST,
    .DOM_EST_PWR_P_EST, .DOM_EST_SCALE_SCALE, .DOM_EST_STATUS_EST_INVALID, .DOM_EST_STATUS_MEAS_INVALID,
    .DOM_EST_STATUS_STALE_ST, .DOM_MEAS_I_DOM]

theorem State.publishTurn_keeps (s : State) (cells : List (Nat × Nat)) (n d : Nat) :
    (s.publishTurn cells n d).cfg = s.cfg ∧ ∀ f i, f ∉ turnFields → (s.publishTurn cells n d).getF f i = s.getF f i := by
  unfold State.publishTurn
  repeat' split
  · exact ⟨by simp, fun f i hf => State.publishDom_getF _ _ _ _ _ _ hf⟩
  · exact ⟨rfl, fun _ _ _ => rfl⟩
  · refine ⟨by simp, fun f i hf => ?_⟩
    simp only [turnFields, List.mem_cons, not_or] at hf
    simp (maxDischargeDepth := 60) [hf]

/-- The turn of one domain leaves the record of another, and what its registers show. -/
theorem State.publishTurn_of_ne {d k : Nat} (h : k ≠ d) (s : State) (cells : List (Nat × Nat)) (n : Nat) :
    (s.publishTurn cells n d).estDom k = s.estDom k ∧
      ∀ f ∉ ([.DOM_EST_EVENT_BOTH_INVALID, .DOM_EST_EVENT_STALE, .DOM_EST_EVENT_SUBST] : List Fld),
        (s.publishTurn cells n d).getF f k = s.getF f k := by
  simp only [List.mem_cons, not_or]
  unfold State.publishTurn
  repeat' split
  · refine ⟨State.publishDom_estDom_of_ne h .., fun f hf => ?_⟩
    simp (maxDischargeDepth := 60) [hf, h, State.publishDom, State.setB_eq]
  · exact ⟨rfl, fun _ _ => rfl⟩
  · refine ⟨State.publishNone_estDom_of_ne h .., fun f hf => ?_⟩
    simp [h, State.publishNone]

/-- A state in which a domain's turn lies ahead: the turns before it have left its record and what its window reads. -/
def State.turnAhead (s : State) (d : Nat) (t : State) : Prop :=
  t.cfg = s.cfg ∧ (∀ f i, f ∉ turnFields → t.getF f i = s.getF f i) ∧ t.estDom d = s.estDom d

theorem State.turnAhead.publishTurn {s t : State} {d k : Nat} (ht : s.turnAhead d t) (h : k ≠ d) (cells : List (Nat × Nat)) (n : Nat) :
    s.turnAhead d (t.publishTurn cells n k) := by
  obtain ⟨hcfg, hfld, hest⟩ := ht
  obtain ⟨hcfg', hfld'⟩ := t.publishTurn_keeps cells n k
  exact ⟨hcfg'.trans hcfg, fun f i hf => (hfld' f i hf).trans (hfld f i hf), (t.publishTurn_of_ne h.symm cells n).1.trans hest⟩

theorem State.turnAhead.domMeasured {s t : State} {d : Nat} (ht : s.turnAhead d t) : t.domMeasured = s.domMeasured :=
  State.domMeasured_congr fun i => ht.2.1 _ i (by decide)

/-- What the turn of one domain brings about, and the turns of the others keep, stands once all have published. -/
theorem State.domsPublished_at (Q : State → Prop) {s : State} {d : Nat} (hd : d < s.cfg.table.domains) (cells : List (Nat × Nat))
    (act : ∀ t, s.turnAhead d t → Q (t.publishTurn cells s.window d))
    (after : ∀ j, j ≠ d → ∀ t, Q t → Q (t.publishTurn cells s.window j)) : Q (s.domsPublished cells) :=
  State.each_at (P := s.turnAhead d) List.nodup_range (List.mem_range.mpr hd) (fun _ hj _ ht => ht.publishTurn hj cells s.window)
    act after ⟨rfl, fun _ _ _ => rfl, rfl⟩

/-- The current of a metered domain is the sum of its cells' window readings (R209, R210). -/
theorem State.domsPublished_measured {s : State} {d : Nat} (hd : d < s.cfg.table.domains) (hmeas : s.domMeasured d = true)
    (cells : List (Nat × Nat)) :
    (s.domsPublished cells).getF .DOM_MEAS_I_DOM d = s.windowSum cells d % 2 ^ Fld.width .DOM_MEAS_I_DOM ∧
      (s.domsPublished cells).isSet .DOM_EST_STATUS_MEAS_INVALID d = s.measBad cells d ∧
      ((s.domsPublished cells).estDom d).substituted = s.measBad cells d := by
  refine State.domsPublished_at (fun u => u.getF .DOM_MEAS_I_DOM d = s.windowSum cells d % 2 ^ Fld.width .DOM_MEAS_I_DOM ∧
    u.isSet .DOM_EST_STATUS_MEAS_INVALID d = s.measBad cells d ∧ (u.estDom d).substituted = s.measBad cells d) hd cells
    (fun t ht => ?_) fun j hj t => ?_
  · have hmetered := ht.domMeasured
    obtain ⟨hcfg, hfld, hest⟩ := ht
    have hsum : t.windowSum cells d = s.windowSum cells d := by rw [State.windowSum, State.windowSum, hcfg]
    have hbad : t.measBad cells d = s.measBad cells d :=
      State.measBad_congr cells hcfg (fun c => hfld _ c (by decide)) (by rw [hest])
    rw [State.publishTurn, hmetered, if_pos hmeas, ← hsum, ← hbad]
    exact t.publishDom_shows cells d s.window
  · obtain ⟨hest, hfld⟩ := t.publishTurn_of_ne hj.symm cells s.window
    rw [State.isSet, State.isSet, hest, hfld _ (by decide), hfld _ (by decide)]
    exact id

/-- A domain that is not metered shows zeros, once its record has been one (R205). -/
theorem State.domsPublished_none {s : State} {d : Nat} (hd : d < s.cfg.table.domains) (hmeas : s.domMeasured d = false)
    (hrecord : s.estDom d ≠ EstDom.empty) (cells : List (Nat × Nat)) :
    ∀ f ∈ ([.DOM_EST_CUR_EST_I, .DOM_EST_CUR_LEAK_I, .DOM_EST_PWR_P_EST, .DOM_MEAS_I_DOM] : List Fld),
      (s.domsPublished cells).getF f d = 0 := by
  refine State.domsPublished_at (fun u => ∀ f ∈ _, u.getF f d = 0) hd cells (fun t ht f hf => ?_) fun j hj t ht f hf => ?_
  · have hmetered := ht.domMeasured
    obtain ⟨-, -, hest⟩ := ht
    rw [State.publishTurn, hmetered, if_neg (by simp [hmeas]), if_neg (by rwa [hest])]
    fin_cases hf <;> simp [State.publishNone]
  · rw [(t.publishTurn_of_ne hj.symm cells s.window).2 f (by fin_cases hf <;> decide)]
    exact ht f hf

theorem State.domsPublished_keeps (s : State) (cells : List (Nat × Nat)) :
    (s.domsPublished cells).cfg = s.cfg ∧ (s.domsPublished cells).domMeasured = s.domMeasured :=
  ⟨State.each_keeps State.cfg _ _ (fun d t => (t.publishTurn_keeps cells s.window d).1) s,
    State.domMeasured_congr fun i => State.each_keeps (fun t => t.getF .DOM_STATUS_STATE i) _ _
      (fun d t => (t.publishTurn_keeps cells s.window d).2 _ i (by decide)) s⟩

/-! ### The stack -/

/-- The substituted domains among the metered (R210). -/
theorem State.publishStack_subst (s : State) : s.publishStack.getF .DOM_EST_STACK_SUBST_DOMS 0 =
    ((s.doms.filter (fun d => s.domMeasured d)).filter (fun d => (s.estDom d).substituted)).length %
      2 ^ Fld.width .DOM_EST_STACK_SUBST_DOMS := by
  simp [State.publishStack, State.estDom, State.doms, State.domMeasured]

theorem State.domsPublished_subst {s : State} {d : Nat} (hone : s.doms.filter (fun x => s.domMeasured x) = [d])
    (hd : d < s.cfg.table.domains) (hmeas : s.domMeasured d = true) (cells : List (Nat × Nat)) :
    (s.domsPublished cells).publishStack.getF .DOM_EST_STACK_SUBST_DOMS 0 = if s.measBad cells d = true then 1 else 0 := by
  obtain ⟨hcfg, hmetered⟩ := s.domsPublished_keeps cells
  obtain ⟨-, -, hsub⟩ := State.domsPublished_measured hd hmeas cells
  have hdoms : (s.domsPublished cells).doms = s.doms := by rw [State.doms, State.doms, hcfg]
  have hwidth : 2 ^ Fld.width .DOM_EST_STACK_SUBST_DOMS = 512 := by decide
  rw [State.publishStack_subst, hmetered, hdoms, hone, hwidth]
  cases hbad : s.measBad cells d <;> simp [hsub, hbad]

end Sys2Proof.Machine

/-! The calibration of the estimates (R214 to R219). -/

namespace Sys2Proof.Machine

/-! ### What leaves a domain's record -/

@[simp] theorem State.setF_estDom (s : State) (f : Fld) (i v k : Nat) : (s.setF f i v).estDom k = s.estDom k := (rfl)

@[simp] theorem State.bumpF_estDom (s : State) (f : Fld) (i k : Nat) : (s.bumpF f i).estDom k = s.estDom k := (rfl)

@[simp] theorem State.event_estDom (s : State) (f : Fld) (i a b k : Nat) : (s.event f i a b).estDom k = s.estDom k := (rfl)

@[simp] theorem State.keepParam_estDom (s : State) (f : Fld) (i upto k : Nat) : (s.keepParam f i upto).estDom k = s.estDom k := (rfl)

@[simp] theorem State.when_estDom (s : State) (c : Bool) (f : State → State) (k : Nat) (h : ∀ t, (f t).estDom k = t.estDom k) :
    (s.when c f).estDom k = s.estDom k :=
  State.when_keeps (fun t => t.estDom k) c f s (h s)

@[simp] theorem State.lmsUpdate_estDom_of_ne {d k : Nat} (h : k ≠ d) (s : State) (upto : Nat) :
    (s.lmsUpdate d upto).estDom k = s.estDom k := by
  unfold State.lmsUpdate
  dsimp only
  split
  · rfl
  · rw [foldl_keeps (fun t => t.estDom k)]
    · exact State.setEst_estDom_of_ne h ..
    · intro t p
      split <;> rfl

/-! ### One domain's millisecond -/

theorem State.standingHolds_congr {s t : State} (d : Nat)
    (h : ∀ f ∈ ([.DOM_STATUS_STATE, .DOM_EST_CTRL_FREEZE, .DOM_EST_ADAPT_ADAPT_EN] : List Fld), ∀ i, t.getF f i = s.getF f i) :
    t.standingHolds d = s.standingHolds d := by
  simp only [List.forall_mem_cons] at h
  obtain ⟨hstate, hfreeze, hadapt, -⟩ := h
  have hfreeze' : t.isSet .DOM_EST_CTRL_FREEZE d = s.isSet .DOM_EST_CTRL_FREEZE d := by rw [State.isSet, State.isSet, hfreeze]
  have hadapt' : t.isSet .DOM_EST_ADAPT_ADAPT_EN 0 = s.isSet .DOM_EST_ADAPT_ADAPT_EN 0 := by rw [State.isSet, State.isSet, hadapt]
  rw [State.standingHolds, State.standingHolds, State.domLive_congr hstate, hfreeze', hadapt']

/-- The mean estimate and the mean measurement of the millisecond, in mA (R214). -/
def State.msMeans (s : State) (d : Nat) : Nat × Nat :=
  ((rne (s.estDom d).sumEst 4).toNat / 1000, (rne (s.estDom d).sumMeas 4).toNat / 1000)

/-- The hold causes of the millisecond (R216). -/
def State.msHolds (s : State) (d : Nat) : List Nat := (s.estDom d).holds ++ s.standingHolds d

/-- Whether the millisecond is held (R216). -/
def State.msHeld (s : State) (d : Nat) : Bool := s.msHolds d ≠ []

/-- A domain's record with the runs that its millisecond leaves (R218). -/
def State.msRuns (s : State) (d : Nat) : EstDom :=
  let e := s.estDom d
  let cls := s.msClass (s.msMeans d).1 (s.msMeans d).2
  if ¬ (s.msHolds d).all (fun h => h = 4 ∨ h = 5) then e
  else { e with disRun := if cls = 1 then e.disRun + 1 else 0, agrRun := if cls = 2 then e.agrRun + 1 else 0 }

/-- The state of R219 that the millisecond leads to. -/
def State.msNext (s : State) (d : Nat) : Nat :=
  nextAdapt (s.getF .DOM_EST_STATUS_STATE d) (s.msRuns d).disRun (s.msRuns d).agrRun (max 1 (s.getF .DOM_EST_CFG_DIS_MS 0))
    (max 1 (s.getF .DOM_EST_CFG_AGREE_MS 0)) (s.msHeld d)

/-- The millisecond has been judged: the state moves, and the weights where the domain adapts (R217 to R219). -/
def State.msJudged (s : State) (d : Nat) : State :=
  let s' := (s.setEst d (s.msRuns d)).setF .DOM_EST_STATUS_STATE d (s.msNext d)
  (s'.when (s.msNext d = 2 ∧ s.getF .DOM_EST_STATUS_STATE d ≠ 2) (fun t =>
    (t.bumpF .DOM_EST_STATUS_DIS_COUNT d).event .DOM_EST_EVENT_DISAGREE 0 0x05 d)).when (s.msNext d = 0 ∧ ¬ s.msHeld d)
      (fun t => t.lmsUpdate d (t.time / 100 + 1))

/-- The millisecond is shown. -/
def State.msShown (s t : State) (d : Nat) : State :=
  (((t.setF .DOM_EST_STATUS_HOLD_CAUSE d ((s.msHolds d).foldl min ((s.msHolds d).headD 0))).setF .DOM_EST_STATUS_RUN d
    (min 255 (if s.msNext d = 2 then (s.msRuns d).agrRun else (s.msRuns d).disRun))).setF .DOM_EST_MEAN_MEAN_EST d
      (min 65535 (s.msMeans d).1)).setF .DOM_EST_MEAN_MEAN_MEAS d (min 65535 (s.msMeans d).2)

theorem State.calibrate_eq (s : State) (d : Nat) :
    s.calibrate d =
      let t := s.msShown (s.msJudged d) d
      t.setEst d { t.estDom d with sumEst := 0, sumMeas := 0, sumErr := 0, sumCounts := [], holds := t.standingHolds d } :=
  rfl

/-- The calibration of one domain leaves the record of another, and what its registers show. -/
theorem State.calibrate_of_ne {d k : Nat} (h : k ≠ d) (s : State) :
    (s.calibrate d).estDom k = s.estDom k ∧
      ∀ f ∉ ([.DOM_EST_EVENT_DISAGREE, .DOM_EST_W_W0, .DOM_EST_W_W1, .DOM_EST_W_W2, .DOM_EST_W_W3] : List Fld),
        (s.calibrate d).getF f k = s.getF f k := by
  simp only [List.mem_cons, not_or]
  refine ⟨by simp (maxDischargeDepth := 60) [State.calibrate_eq, State.msShown, State.msJudged, h], fun f hf => ?_⟩
  simp (maxDischargeDepth := 60) [hf, h, State.calibrate_eq, State.msShown, State.msJudged, State.bumpF]

@[simp] theorem State.calibrate_standingHolds (s : State) (d k : Nat) : (s.calibrate d).standingHolds k = s.standingHolds k :=
  State.standingHolds_congr k fun f hf i => State.calibrate_getF _ _ _ _ (by fin_cases hf <;> decide)

/-- A domain that is calibrated begins its millisecond without sums and with the hold causes that stand (R214, R216). -/
theorem State.calibrate_restarts (s : State) (d : Nat) :
    ((s.calibrate d).estDom d).sumEst = 0 ∧ ((s.calibrate d).estDom d).sumMeas = 0 ∧ ((s.calibrate d).estDom d).sumErr = 0 ∧
      ((s.calibrate d).estDom d).sumCounts = [] ∧ ((s.calibrate d).estDom d).holds = s.standingHolds d := by
  rw [State.calibrate_eq]
  dsimp only
  rw [State.setEst_estDom_self]
  refine ⟨rfl, rfl, rfl, rfl, State.standingHolds_congr d fun f hf i => ?_⟩
  fin_cases hf <;> simp [State.msShown, State.msJudged]

theorem State.calibrate_means (s : State) (d : Nat) :
    (s.calibrate d).getF .DOM_EST_MEAN_MEAN_EST d = min 65535 ((rne (s.estDom d).sumEst 4).toNat / 1000) ∧
      (s.calibrate d).getF .DOM_EST_MEAN_MEAN_MEAS d = min 65535 ((rne (s.estDom d).sumMeas 4).toNat / 1000) := by
  have hest : 2 ^ Fld.width .DOM_EST_MEAN_MEAN_EST = 65536 := by decide
  have hmeas : 2 ^ Fld.width .DOM_EST_MEAN_MEAN_MEAS = 65536 := by decide
  refine ⟨?_, ?_⟩
  · simp [State.calibrate_eq, State.msShown, State.msMeans, hest]
  · simp [State.calibrate_eq, State.msShown, State.msMeans, hmeas]

/-- A valid millisecond without a hold cause that disagrees and makes the run DIS_MS (R218, R219). -/
def State.msDisagrees (s : State) (d : Nat) : Prop :=
  s.standingHolds d = [] ∧ (s.estDom d).holds = [] ∧ s.getF .DOM_EST_STATUS_STATE d = 0 ∧
    s.msClass ((rne (s.estDom d).sumEst 4).toNat / 1000) ((rne (s.estDom d).sumMeas 4).toNat / 1000) = 1 ∧
    max 1 (s.getF .DOM_EST_CFG_DIS_MS 0) ≤ (s.estDom d).disRun + 1

theorem State.calibrate_msDisagrees {s : State} {d : Nat} (h : s.msDisagrees d) :
    (s.calibrate d).getF .DOM_EST_STATUS_STATE d = 2 ∧
      (s.calibrate d).getF .DOM_EST_STATUS_DIS_COUNT d =
        min (s.getF .DOM_EST_STATUS_DIS_COUNT d + 1) (2 ^ Fld.width .DOM_EST_STATUS_DIS_COUNT - 1) ∧
      (s.calibrate d).getF .DOM_EST_EVENT_DISAGREE 0 = 1 := by
  obtain ⟨hstanding, hholds, hst, hclass, hrun⟩ := h
  have hnone : s.msHolds d = [] := by rw [State.msHolds, hholds, hstanding, List.append_nil]
  have hruns : (s.msRuns d).disRun = (s.estDom d).disRun + 1 := by simp [State.msRuns, State.msMeans, hnone, hclass]
  have hnext : s.msNext d = 2 := by
    rw [State.msNext, hst, hruns, nextAdapt, if_neg (by decide), if_pos hrun]
  have hstate : 2 ^ Fld.width .DOM_EST_STATUS_STATE = 4 := by decide
  have hevent : 2 ^ Fld.width .DOM_EST_EVENT_DISAGREE = 2 := by decide
  refine ⟨?_, ?_, ?_⟩
  all_goals simp [State.calibrate_eq, State.msShown, State.msJudged, hnext, hst, hstate, hevent]

/-- An event of DISAGREE that stands stays through the calibration of any domain. -/
theorem State.calibrate_event {s : State} (h : s.getF .DOM_EST_EVENT_DISAGREE 0 = 1) (d : Nat) :
    (s.calibrate d).getF .DOM_EST_EVENT_DISAGREE 0 = 1 := by
  have hwidth : 2 ^ Fld.width .DOM_EST_EVENT_DISAGREE = 2 := by decide
  simp only [State.calibrate_eq, State.msShown, State.msJudged]
  cases decide (s.msNext d = 2 ∧ s.getF .DOM_EST_STATUS_STATE d ≠ 2) <;> simp [h, hwidth]

/-! ### Every domain's millisecond -/

theorem execCalibrationUpdate_at (Q : State → Prop) {P : State → Prop} {s : State} {d : Nat} (hd : d < s.cfg.table.domains)
    (before : ∀ j, j ≠ d → ∀ t, P t → P (t.calibrate j)) (act : ∀ t, P t → Q (t.calibrate d))
    (after : ∀ j, j ≠ d → ∀ t, Q t → Q (t.calibrate j)) (hs : P s) : ∃ t, exec .calibrationUpdate s = .next t ∧ Q t :=
  ⟨_, rfl, State.each_at List.nodup_range (List.mem_range.mpr hd) before act after hs⟩

/-- The calibrations of the other domains leave what a domain's own reads. -/
theorem State.msDisagrees.calibrate {s : State} {d k : Nat} (h : s.msDisagrees d) (hne : k ≠ d) : (s.calibrate k).msDisagrees d := by
  obtain ⟨hest, hfld⟩ := s.calibrate_of_ne hne.symm
  have hclass : (s.calibrate k).msClass = s.msClass := by
    funext a b
    simp [State.msClass]
  rw [State.msDisagrees, hest, hfld _ (by decide), State.calibrate_standingHolds, hclass, State.calibrate_getF _ _ _ _ (by decide)]
  exact h

theorem execCalibrationUpdate_restarts {s : State} {d : Nat} (hd : d < s.cfg.table.domains) :
    ∃ t, exec .calibrationUpdate s = .next t ∧ (t.estDom d).sumEst = 0 ∧ (t.estDom d).sumMeas = 0 ∧ (t.estDom d).sumErr = 0 ∧
      (t.estDom d).sumCounts = [] ∧ (t.estDom d).holds = t.standingHolds d ∧
      t.getF .DOM_EST_MEAN_MEAN_EST d = min 65535 ((rne (s.estDom d).sumEst 4).toNat / 1000) ∧
      t.getF .DOM_EST_MEAN_MEAN_MEAS d = min 65535 ((rne (s.estDom d).sumMeas 4).toNat / 1000) := by
  refine execCalibrationUpdate_at _ (P := fun t => t.estDom d = s.estDom d) hd (fun j hj t ht => ?_) (fun t ht => ?_)
    (fun j hj t ht => ?_) rfl
  · rw [(t.calibrate_of_ne hj.symm).1, ht]
  · obtain ⟨hest, hmeas, herr, hcounts, hholds⟩ := t.calibrate_restarts d
    obtain ⟨hmeanEst, hmeanMeas⟩ := t.calibrate_means d
    rw [ht] at hmeanEst hmeanMeas
    exact ⟨hest, hmeas, herr, hcounts, hholds.trans (t.calibrate_standingHolds d d).symm, hmeanEst, hmeanMeas⟩
  · obtain ⟨hest, hfld⟩ := t.calibrate_of_ne hj.symm
    rw [hest, hfld _ (by decide), hfld _ (by decide), State.calibrate_standingHolds]
    exact ht

theorem execCalibrationUpdate_disagrees {s : State} {d : Nat} (hd : d < s.cfg.table.domains) (h : s.msDisagrees d) :
    ∃ t, exec .calibrationUpdate s = .next t ∧ t.getF .DOM_EST_STATUS_STATE d = 2 ∧
      t.getF .DOM_EST_STATUS_DIS_COUNT d =
        min (s.getF .DOM_EST_STATUS_DIS_COUNT d + 1) (2 ^ Fld.width .DOM_EST_STATUS_DIS_COUNT - 1) ∧
      t.getF .DOM_EST_EVENT_DISAGREE 0 = 1 := by
  refine execCalibrationUpdate_at _
    (P := fun t => t.msDisagrees d ∧ t.getF .DOM_EST_STATUS_DIS_COUNT d = s.getF .DOM_EST_STATUS_DIS_COUNT d) hd
    (fun j hj t ht => ?_) (fun t ht => ?_) (fun j hj t ht => ?_) ⟨h, rfl⟩
  · exact ⟨ht.1.calibrate hj, ((t.calibrate_of_ne hj.symm).2 _ (by decide)).trans ht.2⟩
  · rw [← ht.2]
    exact State.calibrate_msDisagrees ht.1
  · obtain ⟨-, hfld⟩ := t.calibrate_of_ne hj.symm
    obtain ⟨hst, hcount, hevent⟩ := ht
    exact ⟨(hfld _ (by decide)).trans hst, (hfld _ (by decide)).trans hcount, State.calibrate_event hevent j⟩

end Sys2Proof.Machine

/-! The pulse, the average and the governor (R222, R223, R239, R241 to R243). -/

namespace Sys2Proof.Machine
open Host (Outcome)

/-! ### Pulses (R241) -/

theorem State.endPulse_ends (s : State) : s.endPulse.bud.pulseStart = none ∧ s.endPulse.getF .DOM_BUD_GOV_PULSE 0 = 0 := by
  simp [State.endPulse]

theorem execPulseEnd_rested {s : State} (hpulse : s.bud.pulseStart ≠ none)
    (hrest : s.bud.restSince.any (fun r => decide (100000 ≤ s.time - r)) = true) : exec .pulseEnd s = .next s.endPulse :=
  congrArg Outcome.next (if_pos ⟨hpulse, hrest⟩)

theorem execPulseEnd_unrested {s : State}
    (h : s.bud.pulseStart = none ∨ s.bud.restSince.any (fun r => decide (100000 ≤ s.time - r)) = false) :
    exec .pulseEnd s = .next s := by
  refine congrArg Outcome.next (if_neg ?_)
  rintro ⟨hpulse, hrest⟩
  rcases h with h | h
  · exact hpulse h
  · rw [h] at hrest
    contradiction

/-! ### The average (R222, R223) -/

/-- The millisecond's means are formed and its sums start again (R222). -/
def State.meansFormed (s : State) : State :=
  let pMs := rneDiv s.bud.sumP (62500 * s.bud.windows)
  let pOther := rneDiv s.bud.sumOther (62500 * s.bud.windows)
  let t : State := { s with bud := { s.bud with sumP := 0, sumOther := 0, windows := 0, pMs := pMs, pOther := pOther } }
  (t.setF .DOM_BUD_MS_P_MS 0 (clampI 0 65535 (rneDiv pMs 64)).toNat).setF .DOM_BUD_MS_P_OTHER 0
    (clampI 0 65535 (rneDiv pOther 64)).toNat

/-- The windowed average after a millisecond, which the first one sets (R223). -/
def State.nextAverage (s : State) : Int :=
  if s.bud.avgSet then
    s.getF .DOM_BUD_AVG_AVG 0 + rne ((s.bud.pMs - s.getF .DOM_BUD_AVG_AVG 0) *
      rneDiv (2 ^ 24) (100 * clampN 10 300 (s.getF .DOM_BUD_CAP_WINDOW 0))) 24
  else s.bud.pMs

/-- The windowed average moves (R223). -/
def State.averaged (s : State) : State :=
  ({ s with bud := { s.bud with avgSet := true } } : State).setF .DOM_BUD_AVG_AVG 0 s.nextAverage.toNat

theorem execAverageUpdate_eq (s : State) :
    exec .averageUpdate s =
      .next (let t := s.when (s.bud.windows ≠ 0) State.meansFormed; t.when t.boot.released State.averaged) := by
  show execAverageUpdate s = _
  rw [execAverageUpdate]
  rfl

theorem State.averaged_keeps (s : State) : s.averaged.bud = { s.bud with avgSet := true } ∧
    s.averaged.getF .DOM_BUD_MS_P_MS 0 = s.getF .DOM_BUD_MS_P_MS 0 := by
  simp [State.averaged]

theorem clampI_toNat_lt (x : Int) : (clampI 0 65535 x).toNat < 65536 := by
  unfold clampI
  split
  · decide
  · split <;> omega

theorem State.meansFormed_shows (s : State) :
    s.meansFormed.getF .DOM_BUD_MS_P_MS 0 = (clampI 0 65535 (rneDiv s.meansFormed.bud.pMs 64)).toNat := by
  have hwidth : 2 ^ Fld.width .DOM_BUD_MS_P_MS = 65536 := by decide
  simp [State.meansFormed, hwidth, Nat.mod_eq_of_lt (clampI_toNat_lt _)]

theorem State.averaged_shows {s : State} (hlo : 0 ≤ s.nextAverage) (hhi : s.nextAverage < 2 ^ Fld.width .DOM_BUD_AVG_AVG) :
    (s.averaged.getF .DOM_BUD_AVG_AVG 0 : Int) = s.nextAverage := by
  have hfits : s.nextAverage.toNat < 2 ^ Fld.width .DOM_BUD_AVG_AVG := (Int.toNat_lt hlo).mpr (by exact_mod_cast hhi)
  rw [State.averaged, State.getF_setF_self, Nat.mod_eq_of_lt hfits, Int.toNat_of_nonneg hlo]

/-! ### The governor (R242, R243) -/

@[simp] theorem State.drive_pulseStart (s : State) (kind i : Nat) (v : Int) :
    (s.drive kind i v).bud.pulseStart = s.bud.pulseStart := by
  unfold State.drive
  split
  all_goals simp

@[simp] theorem State.rearb_pulseStart (s : State) (kind i : Nat) : (s.rearb kind i).bud.pulseStart = s.bud.pulseStart := by
  unfold State.rearb
  repeat' split
  all_goals simp

@[simp] theorem State.settle_pulseStart (s : State) (kind i : Nat) : (s.settle kind i).bud.pulseStart = s.bud.pulseStart := by
  simp [State.settle]

@[simp] theorem State.setFG_pulseStart (s : State) (f : Nat) : (s.setFG f).bud.pulseStart = s.bud.pulseStart := by
  unfold State.setFG
  split
  · rfl
  · exact State.each_keeps (fun t => t.bud.pulseStart) _ _ (fun d t => t.settle_pulseStart 3 d) _

/-- What F_TIME and F_PEAK make of the governor leaves GOVERNED, its count, its event and the pulse. -/
theorem State.govern_keeps (s : State) : s.govern.bud.pulseStart = s.governedMove.bud.pulseStart ∧
    ∀ f ∈ ([.DOM_BUD_GOV_GOVERNED, .DOM_BUD_COUNT_GOV_COUNT, .DOM_BUD_EVENT_GOVERNED_EV] : List Fld),
      s.govern.getF f 0 = s.governedMove.getF f 0 := by
  refine ⟨by simp [State.govern], fun f hf => ?_⟩
  fin_cases hf <;> simp [State.govern]

theorem State.governedMove_late {s : State} (hfree : s.isSet .DOM_BUD_GOV_GOVERNED 0 = false) (hlate : s.pulseLate = true) :
    s.governedMove =
      ((s.setF .DOM_BUD_GOV_GOVERNED 0 1).bumpF .DOM_BUD_COUNT_GOV_COUNT 0).event .DOM_BUD_EVENT_GOVERNED_EV 0 0x06 0 := by
  rw [State.governedMove, if_neg (by simp [hfree]), if_pos hlate]

theorem State.governedMove_rested {s : State} (hgoverned : s.isSet .DOM_BUD_GOV_GOVERNED 0 = true) (hrested : s.rested = true) :
    s.governedMove = (s.setF .DOM_BUD_GOV_GOVERNED 0 0).endPulse := by
  rw [State.governedMove, if_pos hgoverned, if_pos hrested]

theorem execGovernorUpdate_tick {s : State} (htick : s.onTick 1000 = true) : exec .governorUpdate s = .next s.govern := by
  show execGovernorUpdate s = _
  rw [execGovernorUpdate, htick, State.when_true]

/-! ### Fixed frequency (R239) -/

theorem execFixedLost_below {s : State} {tile : Nat} (hmode : s.isSet .DOM_BUD_CTRL_MODE 0 = true) (htile : tile < s.cfg.table.tiles)
    (hlive : s.domLive tile = true) (hbelow : s.getF .DOM_STATUS_STEP tile < s.getF .DOM_BUD_CTRL_FIXED_STEP 0)
    (hnew : s.bud.fixedLost.contains tile = false) :
    exec (.fixedLost tile) s = .next (
      let t : State := { s with bud := { s.bud with fixedLost := s.bud.fixedLost ++ [tile] } }
      (t.bumpF .DOM_BUD_COUNT_FIXED_LOST_COUNT 0).event .DOM_BUD_EVENT_FIXED_LOST 0 0x06 tile) :=
  congrArg Outcome.next (if_pos ⟨hmode, htile, hlive, hbelow, by simpa using hnew⟩)

theorem execFixedLost_counted {s : State} {tile : Nat} (hcounted : s.bud.fixedLost.contains tile = true) :
    exec (.fixedLost tile) s = .next s := by
  refine congrArg Outcome.next (if_neg ?_)
  rintro ⟨-, -, -, -, hnew⟩
  exact hnew hcounted

end Sys2Proof.Machine

/-! What estimation and the power budget do (R202 to R223, R239 to R243). -/

namespace Sys2Proof.Machine

/-- Settles O23: each command's answer by its equation, and the turn of one domain among those of the others. -/
theorem estimatesAndBudgetWork : Obligations.EstimatesAndBudgetWork := by
  refine ⟨fun s port dom window counts hport hmeas htime hdue hopen hnone hdom hwindow =>
      execCounterMessage_first ⟨hport, hmeas, htime, hdue, by simp [hopen]⟩ hnone hdom hwindow,
    fun s port dom window valid counts hport hmeas htime hdue hopen hbad =>
      ⟨_, execCounterMessage_bad ⟨hport, hmeas, htime, hdue, by simp [hopen]⟩ hbad, ?_⟩,
    fun s port dom window valid counts hshut => execCounterMessage_discarded valid ?_,
    fun s d c hone hopen hset => ?_, fun s d hone hopen hset => ⟨s.staleSet d, ?_⟩,
    fun s cells d htime hnew hd hone hfits => ⟨_, execEstimatePublish_eq htime hnew cells, ?_⟩,
    fun s cells d htime hnew hd hmeas hrecord => ⟨_, execEstimatePublish_eq htime hnew cells, ?_⟩,
    fun s d hd => execCalibrationUpdate_restarts hd,
    fun s d hd hstanding hholds hst hclass hrun => execCalibrationUpdate_disagrees hd ⟨hstanding, hholds, hst, hclass, hrun⟩,
    fun s hpulse hrest => ⟨_, execPulseEnd_rested hpulse hrest, s.endPulse_ends⟩, fun s h => execPulseEnd_unrested h,
    fun s hwindows => ⟨_, execAverageUpdate_eq s, ?_⟩,
    fun s hrel hwindows hset hlo hhi => ⟨_, execAverageUpdate_eq s, ?_⟩,
    fun s htick hfree hlate => ⟨_, execGovernorUpdate_tick htick, ?_⟩,
    fun s htick hgoverned hrested => ⟨_, execGovernorUpdate_tick htick, ?_⟩,
    fun s tile hmode htile hlive hbelow hnew => ⟨_, execFixedLost_below hmode htile hlive hbelow hnew, ?_⟩,
    fun s tile hcounted => execFixedLost_counted hcounted⟩
  · rw [State.staleSet_estDom_self]
    exact ⟨rfl, rfl, rfl, s.staleSet_event port, rfl⟩
  · rintro ⟨-, hmeas, -, hdue, hopen⟩
    rcases hshut with h | h | h
    · simp [h] at hmeas
    · omega
    · exact hopen h
  · rw [execCounterStaleDecision_single hone, State.decideSet_arrived hopen hset]
  · rw [execCounterStaleDecision_single hone, State.decideSet_missing hopen hset, State.staleSet_estDom_self]
    exact ⟨rfl, rfl, rfl, s.staleSet_event d⟩
  · have hmeas : s.domMeasured d = true := (List.mem_filter.mp (hone ▸ List.mem_singleton_self d)).2
    obtain ⟨hsum, hbad, -⟩ := State.domsPublished_measured hd hmeas cells
    rw [Nat.mod_eq_of_lt hfits] at hsum
    rw [State.isSet] at hbad
    have hsubst := State.domsPublished_subst hone hd hmeas cells
    refine ⟨?_, ?_, ?_⟩
    · simpa using hsum
    · simpa [State.isSet] using hbad
    · simpa using hsubst
  · have hzero := State.domsPublished_none hd hmeas hrecord cells
    simp only [List.forall_mem_cons] at hzero
    obtain ⟨hest, hleak, hpwr, hcur, -⟩ := hzero
    simp [hest, hleak, hpwr, hcur]
  · obtain ⟨hbud, hshown⟩ := s.meansFormed.averaged_keeps
    have hmeans := s.meansFormed_shows
    rw [decide_eq_true hwindows, State.when_true]
    dsimp only
    cases s.meansFormed.boot.released
    · exact ⟨rfl, rfl, rfl, rfl, hmeans⟩
    · rw [State.when_true, hbud, hshown]
      exact ⟨rfl, rfl, rfl, rfl, hmeans⟩
  · have hnext : s.nextAverage = s.getF .DOM_BUD_AVG_AVG 0 + rne ((s.bud.pMs - s.getF .DOM_BUD_AVG_AVG 0) *
        rneDiv (2 ^ 24) (100 * clampN 10 300 (s.getF .DOM_BUD_CAP_WINDOW 0))) 24 := if_pos hset
    rw [← hnext] at hlo hhi ⊢
    rw [decide_eq_false (not_not_intro hwindows), State.when_false]
    dsimp only
    rw [hrel, State.when_true]
    exact State.averaged_shows hlo hhi
  · obtain ⟨-, hkeeps⟩ := s.govern_keeps
    rw [hkeeps _ (by simp), hkeeps _ (by simp), hkeeps _ (by simp), State.governedMove_late hfree hlate]
    simp [Fld.width_pos]
  · obtain ⟨hpulse, hkeeps⟩ := s.govern_keeps
    rw [hpulse, hkeeps _ (by simp), State.governedMove_rested hgoverned hrested]
    exact ⟨by simp, (State.endPulse_ends _).1⟩
  · refine ⟨rfl, ?_, ?_⟩
    · simp
    · simp [Fld.width_pos]

end Sys2Proof.Machine

/-! Messages of the lock links as the ports take and send them (R273 to R276, R327). -/

namespace Sys2Proof.Machine

/-! ### Check-value jobs -/

/-- Membership in the fields of a duty's job, for `simp` to decide. -/
@[simp] theorem mem_dutyFields {f : Fld} : f ∈ dutyFields ↔
    f ∈ ([.CRC_EVENT_MISMATCH, .CRC_RESULT_RESULT, .CRC_STATUS_MATCH, .CRC_STATUS_MISMATCH, .CRC_STATUS_MISMATCH_COUNT,
      .CRC_STATUS_STATE, .CRC_VALUE_VALUE] : List Fld) :=
  Iff.rfl

/-- A job without an expected value tells the surroundings nothing. -/
theorem State.dutyJob_none_out (s : State) (duty : Nat) (l : List Nat) : (s.dutyJob duty l none).out = s.out := by
  unfold State.dutyJob
  dsimp only
  split <;> rfl

/-- A comparison that agrees interrupts nobody (R332). -/
theorem State.crcOutcome_same_out (s : State) (u duty : Nat) : (s.crcOutcome u duty true).out = s.out := by
  unfold State.crcOutcome
  split <;> rfl

/-- A job whose bytes carry their own check value tells the surroundings nothing. -/
theorem State.dutyJob_match_out (s : State) (duty : Nat) (l : List Nat) : (s.dutyJob duty l (some (crc32c l))).out = s.out := by
  have hsame : decide (crcFinish 32 true true (crc32cReg l) = crc32c l) = true := decide_eq_true rfl
  unfold State.dutyJob
  dsimp only
  split
  · rfl
  · rw [hsame]
    exact State.crcOutcome_same_out ..

/-! ### Ports -/

@[simp] theorem State.setPort_port_self (s : State) (p : Nat) (x : HrdPort) : (s.setPort p x).port p = x := by
  simp [State.port, State.setPort]

@[simp] theorem State.setPort_port_of_ne {p q : Nat} (h : q ≠ p) (s : State) (x : HrdPort) :
    (s.setPort p x).port q = s.port q := by
  simp [State.port, State.setPort, h]

theorem State.port_congr {s t : State} (h : t.hrd = s.hrd) (p : Nat) : t.port p = s.port p := by
  rw [State.port, State.port, h]

/-- A port that is not shut is under no test, and the ports are not held down (R40, R276). -/
theorem State.portShut_false {s : State} {p : Nat} (h : s.portShut p = false) :
    (s.port p).tested = false ∧ s.portsHeld = false := by
  simp only [State.portShut, decide_eq_false_iff_not, not_or, Bool.not_eq_true] at h
  obtain ⟨-, -, htested, hheld⟩ := h
  exact ⟨htested, hheld⟩

/-! ### Messages received -/

/-- The state after the check of a message that passes its CRC on a port (R273, R276, R327). -/
def State.received (s : State) (p typ : Nat) (m : LockMsg) : State :=
  (s.dutyJob 2 (lockBytes typ m.flags m.group m.sender m.seq m.body)
    (some (crc32c (lockBytes typ m.flags m.group m.sender m.seq m.body)))).setPort p { s.port p with crcRun := 0 }

section
variable {s : State} {p typ : Nat} {m : LockMsg} {f : State → State}

theorem State.rxMsg_shut (h : s.portShut p = true) : s.rxMsg p typ m f = s := if_pos h

theorem State.rxMsg_open (h : s.portShut p = false) : s.rxMsg p typ m f = f (s.received p typ m) :=
  if_neg (Bool.eq_false_iff.mp h)

end

@[simp] theorem State.received_getF (s : State) (p typ : Nat) (m : LockMsg) (f : Fld) (i : Nat) (h : f ∉ dutyFields) :
    (s.received p typ m).getF f i = s.getF f i := by
  rw [State.received, State.setPort_getF _ _ _ _ _ List.not_mem_nil, State.dutyJob_getF _ _ _ _ _ _ h]

@[simp] theorem State.received_time (s : State) (p typ : Nat) (m : LockMsg) : (s.received p typ m).time = s.time := by
  simp [State.received]

@[simp] theorem State.received_out (s : State) (p typ : Nat) (m : LockMsg) : (s.received p typ m).out = s.out := by
  simp [State.received, State.dutyJob_match_out]

@[simp] theorem State.received_port_of_ne {p q : Nat} (h : q ≠ p) (s : State) (typ : Nat) (m : LockMsg) :
    (s.received p typ m).port q = s.port q := by
  rw [State.received, State.setPort_port_of_ne h]
  exact State.port_congr (by simp) q

/-! ### Messages taken -/

/-- A port takes a message: it is not shut, its link is up, and the message names this stack's group (R273). -/
def State.takes (s : State) (p : Nat) (m : LockMsg) : Prop :=
  s.portShut p = false ∧ s.linkUp p = true ∧ m.group % 65536 = s.getF .HRD_ID_GROUP_ID 0

/-- The link of a port is up or down after a message's check as before. -/
@[simp] theorem State.received_linkUp (s : State) (p q typ : Nat) (m : LockMsg) : (s.received p typ m).linkUp q = s.linkUp q :=
  State.linkUp_congr (by simp)

@[simp] theorem State.received_portsHeld (s : State) (p typ : Nat) (m : LockMsg) :
    (s.received p typ m).portsHeld = s.portsHeld := by
  simp [State.portsHeld, State.isSet]

theorem State.rxLock_of_takes {s : State} {p : Nat} {m : LockMsg} (h : s.takes p m) (typ : Nat) (f : State → State) :
    s.rxLock p typ m f = f (s.received p typ m) := by
  obtain ⟨hshut, hup, hgroup⟩ := h
  rw [State.rxLock, State.rxMsg_open hshut]
  refine if_neg ?_
  simp [hup, hgroup]

/-! ### Messages sent -/

section
variable {s : State} {p : Nat}

/-- A message leaves with the SEQ of its port and its CRC (R273, R274). -/
theorem State.sendLock_out (htested : (s.port p).tested = false) (hheld : s.portsHeld = false) (typ flags sender : Nat)
    (body : List Nat) : (s.sendLock p typ flags sender body).out = s.out ++
      [.lock p ((fun b => b ++ leBytes 4 (crc32c b))
        (lockBytes typ flags (s.getF .HRD_ID_GROUP_ID 0) sender (s.port p).txSeq body))] := by
  unfold State.sendLock
  dsimp only
  rw [if_neg (by simp [htested, hheld])]
  simp [State.dutyJob_none_out]

end

end Sys2Proof.Machine

/-! A HELLO for a stack of LEVEL 15 (R276). -/

namespace Sys2Proof.Machine

/-- On a down port of a stack whose LEVEL is above 14 a HELLO counts for nothing (R276). -/
theorem State.takeHello_of_deep {s : State} {p : Nat} (hp : p ≠ 0) (hdeep : 14 < s.getF .HRD_STATUS_LEVEL 0) (m : LockMsg) :
    s.takeHello p m = s := by
  unfold State.takeHello
  refine if_pos (.inl ?_)
  simp [hp, hdeep]

/-- A down link of such a stack stays down when a HELLO arrives. -/
theorem helloReceived_linkUp_of_deep {s t : State} {p : Nat} {m : LockMsg} (hp : p ≠ 0)
    (hdeep : 14 < s.getF .HRD_STATUS_LEVEL 0) (hdown : s.linkUp p = false) (h : exec (.helloReceived p m) s = .next t) :
    t.linkUp p = false := by
  cases h
  cases hshut : s.portShut p
  · rw [State.rxMsg_open hshut]
    have hanswer : ∀ u : State, (u.sendHello p).linkUp p = u.linkUp p := fun u => State.linkUp_congr (by simp)
    have hreceived : (s.received p 0x66 m).linkUp p = false := by simpa using hdown
    rw [State.takeHello_of_deep hp (by simpa using hdeep)]
    split
    · rw [hanswer, hreceived]
    · split
      · exact hreceived
      · split
        · exact State.loseLink_linkUp ..
        · dsimp only
          split
          · rw [hanswer, hreceived]
          · exact hreceived
  · rw [State.rxMsg_shut hshut]
    exact hdown

/-- A member in LOCKED of LEVEL 15 whose down port 1 is enabled and has sent HELLO. -/
def deepestState : State :=
  { State.reset with
    cfg := { State.reset.cfg with straps := { State.reset.cfg.straps with herdRole := 3 } }
    fields := [(.GLB_TB_STATUS_CAL_OK, [(0, 1)]), (.HRD_STATUS_STATE, [(0, 2)]), (.HRD_STATUS_LEVEL, [(0, 15)])]
    hrd := { HrdState.reset with ports := [(1, { HrdPort.empty with enabled := true, sent := true })] } }

/-- A HELLO of the group of that member, from a stack that names LEVEL 16. -/
def deeperHello : LockMsg := { flags := 0, group := 0, sender := 1, seq := 0, body := [2, 16] }

/-- Refutes O25: R276 bounds the LEVEL of a link's up side by 14, and the clause that brings the link up has no such bound, so that
a HELLO of LEVEL 16 meets it at a stack of LEVEL 15, where the link stays down. -/
theorem not_herdLinksComeUpAndGo : ¬ Obligations.HerdLinksComeUpAndGo := by
  unfold Obligations.HerdLinksComeUpAndGo
  rintro ⟨-, hhello, -⟩
  obtain ⟨t, ht, hup, -⟩ := hhello deepestState deeperHello (by decide) (by decide) (by decide) (by decide) (by decide)
    (by decide) (by decide)
  rw [helloReceived_linkUp_of_deep (by decide) (by decide) (by decide) ht] at hup
  exact absurd hup (by decide)

end Sys2Proof.Machine

/-! What the Herd lock holds beside its ports and its offers (R275, R279, R280, R282, R283). -/

namespace Sys2Proof.Machine

/-! ### What messages and offers leave -/

/-- What messages and offers leave of the Herd lock: all but the next SEQ of the ports and the last OFFER sent. -/
def State.herdView (s : State) : HrdState × (Nat → HrdPort) :=
  ({ s.hrd with ports := [], lastOffer := none }, fun p => { s.port p with txSeq := 0 })

theorem State.herdView_congr {s t : State} (h : t.hrd = s.hrd) : t.herdView = s.herdView := by
  rw [State.herdView, State.herdView, h, funext (State.port_congr h)]

theorem State.setPort_herdView {s : State} {p : Nat} {x : HrdPort} (h : { x with txSeq := 0 } = { s.port p with txSeq := 0 }) :
    (s.setPort p x).herdView = s.herdView := by
  refine Prod.ext rfl (funext fun q => ?_)
  by_cases hq : q = p
  · subst hq
    simpa [State.herdView] using h
  · simp [State.herdView, hq]

theorem State.setPort_herdView_fst (s : State) (p : Nat) (x : HrdPort) : (s.setPort p x).herdView.1 = s.herdView.1 := rfl

theorem State.sendLock_herdView (s : State) (p typ flags sender : Nat) (body : List Nat) :
    (s.sendLock p typ flags sender body).herdView = s.herdView := by
  unfold State.sendLock
  dsimp only
  split
  · rfl
  · generalize hu : s.dutyJob 2 _ none = u
    have hsame : u.hrd = s.hrd := by simp [← hu]
    calc ((u.setPort p _).emit _).herdView = (u.setPort p _).herdView := rfl
      _ = u.herdView := State.setPort_herdView (by rw [State.port_congr hsame])
      _ = s.herdView := State.herdView_congr hsame

theorem State.sendDown_herdView (s : State) (typ : Nat) (body : List Nat) : (s.sendDown typ body).herdView = s.herdView :=
  State.each_keeps State.herdView _ _ (fun p t => t.sendLock_herdView p typ _ _ body) s

theorem State.forwardDown_herdView (s : State) (typ : Nat) (m : LockMsg) : (s.forwardDown typ m).herdView = s.herdView :=
  State.each_keeps State.herdView _ _ (fun p t => t.sendLock_herdView p typ _ _ _) s

theorem State.rootCheck_herdView (s : State) : s.rootCheck.herdView = s.herdView := by
  unfold State.rootCheck
  dsimp only
  split
  · rfl
  · split
    · split
      · rfl
      · exact State.herdView_congr (by simp)
    · split
      · rw [State.sendDown_herdView]
        exact State.herdView_congr (by simp)
      · exact State.herdView_congr (by simp)

theorem State.offerUpdate_herdView (s : State) : s.offerUpdate.herdView = s.herdView := by
  unfold State.offerUpdate
  dsimp only
  rw [State.rootCheck_herdView]
  refine (State.when_keeps State.herdView _ _ _ ?_).trans (State.herdView_congr (by simp))
  exact State.when_keeps State.herdView _ _ _ (State.sendLock_herdView ..)

/-- The check of a message leaves the Herd lock but for its ports. -/
theorem State.received_herdView (s : State) (p typ : Nat) (m : LockMsg) : (s.received p typ m).herdView.1 = s.herdView.1 := by
  rw [State.received, State.setPort_herdView_fst]
  exact congrArg Prod.fst (State.herdView_congr (by simp))

/-- A port that only messages and offers have met differs in its next SEQ alone. -/
theorem State.port_of_herdView {s t : State} (h : t.herdView = s.herdView) (p : Nat) :
    t.port p = { s.port p with txSeq := (t.port p).txSeq } :=
  congrArg (fun x : HrdPort => { x with txSeq := (t.port p).txSeq }) (congrFun (congrArg Prod.snd h) p)

/-! ### Messages passed on -/

/-- A message of the parent after its check, passed on to the children (R274). -/
def State.relayed (s : State) (typ : Nat) (m : LockMsg) : State := (s.received 0 typ m).forwardDown typ m

@[simp] theorem State.relayed_getF (s : State) (typ : Nat) (m : LockMsg) (f : Fld) (i : Nat)
    (h : f ∉ dutyFields) :
    (s.relayed typ m).getF f i = s.getF f i := by
  rw [State.relayed, State.forwardDown_getF _ _ _ _ _ h, State.received_getF _ _ _ _ _ _ h]

@[simp] theorem State.relayed_time (s : State) (typ : Nat) (m : LockMsg) : (s.relayed typ m).time = s.time := by
  simp [State.relayed]

theorem State.relayed_herdView (s : State) (typ : Nat) (m : LockMsg) : (s.relayed typ m).herdView.1 = s.herdView.1 := by
  rw [State.relayed, State.forwardDown_herdView, State.received_herdView]

end Sys2Proof.Machine

/-! The states of a member and its exclusion requests (R277, R280, R282, R283, R286). -/

namespace Sys2Proof.Machine

/-! ### The root's check and an exclusion condition that meet nothing -/

theorem State.rootCheck_of_member {s : State} (h : s.isSet .HRD_STATUS_IS_ROOT 0 = false) : s.rootCheck = s :=
  if_pos (Bool.eq_false_iff.mp h)

theorem State.exclCheck_of_not_locked {s : State} (h : s.herdSt ≠ 2) : s.exclCheck = s :=
  if_neg fun hraise => h hraise.1

theorem State.setF_herdSt {st : Nat} (hst : st < 8) (s : State) : (s.setF .HRD_STATUS_STATE 0 st).herdSt = st :=
  (State.getF_setF_self ..).trans (Nat.mod_eq_of_lt hst)

@[simp] theorem State.offerUpdate_herdSt (s : State) : s.offerUpdate.herdSt = s.herdSt := by
  simp [State.herdSt]

section
variable (s : State)

theorem State.offerUpdate_reqOpen : s.offerUpdate.hrd.reqOpen = s.hrd.reqOpen :=
  congrArg (fun v => v.1.reqOpen) s.offerUpdate_herdView

theorem State.offerUpdate_reqSeq : s.offerUpdate.hrd.reqSeq = s.hrd.reqSeq :=
  congrArg (fun v => v.1.reqSeq) s.offerUpdate_herdView

theorem State.offerUpdate_barCt : s.offerUpdate.hrd.barCt = s.hrd.barCt :=
  congrArg (fun v => v.1.barCt) s.offerUpdate_herdView

end

/-! ### The end of EXCL_PENDING -/

/-- The request is closed in LOCKED, with the bar where the end asks for it (R282). -/
theorem State.exclEnd_shows (s : State) (barred : Bool) : (s.exclEnd barred).herdSt = 2 ∧ (s.exclEnd barred).hrd.reqOpen = false ∧
    (s.exclEnd barred).hrd.barCt = (s.hrd.barCt || barred) := by
  unfold State.exclEnd
  extract_lets -lift _ closed
  refine ⟨?_, State.offerUpdate_reqOpen _, (State.offerUpdate_barCt _).trans ?_⟩
  · rw [State.offerUpdate_herdSt, State.setF_herdSt (by decide)]
  · show decide (s.hrd.barCt = true ∨ barred = true) = _
    simp [Bool.decide_or]

/-- A RELAY has no open request (R277). -/
theorem State.toRelay_shows (s : State) : s.toRelay.herdSt = 4 ∧ s.toRelay.hrd.reqOpen = false := by
  unfold State.toRelay
  extract_lets -lift relay steady _ closed
  refine ⟨?_, closed.offerUpdate_reqOpen.trans rfl⟩
  calc closed.offerUpdate.herdSt = closed.herdSt := State.offerUpdate_herdSt closed
    _ = steady.getF .HRD_STATUS_STATE 0 := State.getF_mk ..
    _ = relay.getF .HRD_STATUS_STATE 0 := State.endSlew_getF _ _ _ (by decide)
    _ = (s.setF .HRD_STATUS_STATE 0 4).herdSt := by simp [relay, State.herdSt]
    _ = 4 := State.setF_herdSt (by decide) s

/-- A decision names this member's open request (R282, R283). -/
def State.ownRequest (s : State) (target seq : Nat) : Prop :=
  s.herdSt = 3 ∧ s.hrd.reqOpen = true ∧ target = s.getF .HRD_ID_STACK_ID 0 ∧ seq = s.hrd.reqSeq

theorem State.takeDecide_follow {s : State} {target seq : Nat} (h : s.ownRequest target seq) :
    s.takeDecide target seq 1 = s.exclEnd true := (if_pos h).trans (if_pos rfl)

theorem State.takeDecide_evict {s : State} {target seq : Nat} (h : s.ownRequest target seq) :
    s.takeDecide target seq 2 = s.toRelay := (if_pos h).trans ((if_neg (by decide)).trans (if_pos rfl))

theorem State.takeDecide_of_not_pending {s : State} (h : s.herdSt ≠ 3) (target seq code : Nat) :
    s.takeDecide target seq code = s := if_neg fun hown => h hown.1

/-- A decision that a member passes on still names its request. -/
theorem State.ownRequest.relayed {s : State} {target seq : Nat} (h : s.ownRequest target seq) (typ : Nat) (m : LockMsg) :
    (s.relayed typ m).ownRequest target seq := by
  obtain ⟨hst, hopen, htarget, hseq⟩ := h
  have hview := s.relayed_herdView typ m
  refine ⟨?_, (congrArg HrdState.reqOpen hview).trans hopen, ?_, hseq.trans (congrArg HrdState.reqSeq hview).symm⟩
  · rw [State.herdSt, State.relayed_getF _ _ _ _ _ (by decide), ← State.herdSt, hst]
  · rw [htarget, State.relayed_getF _ _ _ _ _ (by decide)]

/-! ### A new request -/

theorem State.sendExclude_member_herdView {s : State} (h : s.isSet .HRD_STATUS_IS_ROOT 0 = false) (action : Nat) :
    (s.sendExclude action).herdView = s.herdView := by
  rw [State.sendExclude, if_neg (Bool.eq_false_iff.mp h)]
  split
  · exact State.sendLock_herdView ..
  · rfl

theorem State.sendExclude_member_getF {s : State} (h : s.isSet .HRD_STATUS_IS_ROOT 0 = false) (action : Nat) (f : Fld) (i : Nat)
    (hf : f ∉ dutyFields) :
    (s.sendExclude action).getF f i = s.getF f i := by
  rw [State.sendExclude, if_neg (Bool.eq_false_iff.mp h)]
  split
  · exact State.sendOwn_getF _ _ _ _ _ _ hf
  · rfl

/-- A member raises a new request where its exclusion condition holds and nothing bars it (R282). -/
theorem State.exclCheck_raises {s : State} (hst : s.herdSt = 2) (hlow : s.exclLow = true) (hbar : s.hrd.barCt = false)
    (huntil : s.hrd.barUntil ≤ s.time) (hmember : s.isSet .HRD_STATUS_IS_ROOT 0 = false) :
    s.exclCheck.herdSt = 3 ∧ s.exclCheck.hrd.reqOpen = true ∧ s.exclCheck.hrd.reqSeq = (s.hrd.reqSeq + 1) % 65536 ∧
      s.exclCheck.getF .HRD_EVENT_EXCL_REQ 0 = 1 := by
  unfold State.exclCheck
  rw [if_pos ⟨hst, hlow, by simp [hbar], huntil⟩]
  extract_lets -lift _ opened sent
  have hopened : ∀ f i, opened.getF f i = s.getF f i := fun f i => State.getF_mk ..
  obtain ⟨u, hu⟩ : ∃ u, (opened.setF .HRD_STATUS_STATE 0 3).event .HRD_EVENT_EXCL_REQ 0 0x08 0 = u := ⟨_, rfl⟩
  have hsent : sent = u.sendExclude 1 := congrArg (State.sendExclude · 1) hu
  have humember : u.isSet .HRD_STATUS_IS_ROOT 0 = false := by
    rw [← hmember, State.isSet, State.isSet, ← hopened, ← hu]
    simp
  have hview := congrArg Prod.fst (State.sendExclude_member_herdView humember 1)
  rw [hsent]
  refine ⟨?_, (State.offerUpdate_reqOpen _).trans ((congrArg HrdState.reqOpen hview).trans ?_),
    (State.offerUpdate_reqSeq _).trans ((congrArg HrdState.reqSeq hview).trans ?_), ?_⟩
  · rw [State.offerUpdate_herdSt, State.herdSt, State.sendExclude_member_getF humember _ _ _ (by decide), ← hu,
      State.getF_event_fld _ _ _ _ _ (by decide), ← State.herdSt, State.setF_herdSt (by decide)]
  · rw [← hu]; rfl
  · rw [← hu]; rfl
  · rw [State.offerUpdate_getF _ _ _ (by decide), State.sendExclude_member_getF humember _ _ _ (by decide), ← hu,
      State.getF_event_self]
    rfl

/-! ### The root's entries -/

/-- A stack without an entry takes the free one (R283). -/
theorem State.rootExclude_new {s : State} {stack i : Nat}
    (hnone : (List.range 16).find? (fun i => decide (s.getF .HRD_EXCL_STATE i ≠ 0 ∧ s.getF .HRD_EXCL_STACK_ID i = stack)) = none)
    (hfree : (List.range 16).find? (fun i => decide (s.getF .HRD_EXCL_STATE i = 0)) = some i) (port fOff seq : Nat) :
    ∃ u : State, s.rootExclude port stack fOff seq 1 = (u.event .HRD_EVENT_EXCL_REQ 0 0x08 port).notice 6 stack ∧
      ∀ f j, u.getF f j =
        (((s.setF .HRD_EXCL_STATE i 1).setF .HRD_EXCL_F_OFF i fOff).setF .HRD_EXCL_STACK_ID i stack).getF f j := by
  unfold State.rootExclude
  dsimp only
  rw [hnone, hfree, if_neg (by decide), if_pos rfl, Option.none_or]
  exact ⟨_, rfl, fun f j => State.getF_mk ..⟩

/-- A decision of the root names the REQ_SEQ of the entry, and EVICT marks it (R283). -/
theorem State.decideSent_entry {s : State} {stack i : Nat}
    (hentry : (List.range 16).find? (fun i =>
      decide (s.getF .HRD_EXCL_STATE i = 1 ∧ s.getF .HRD_EXCL_STACK_ID i = stack)) = some i)
    (hroot : s.isSet .HRD_STATUS_IS_ROOT 0 = true) (code : Nat) :
    s.decideSent stack code = ((s.when (code = 2) (fun s => s.setF .HRD_EXCL_STATE i 2)).sendDecide stack
      (Tbl.get 0 s.hrd.exclSeq i) code).takeDecide stack (Tbl.get 0 s.hrd.exclSeq i) code := by
  unfold State.decideSent
  rw [hentry]
  exact if_neg (not_not_intro hroot)

theorem State.sendDecide_herdSt (s : State) (target seq code : Nat) : (s.sendDecide target seq code).herdSt = s.herdSt := by
  simp [State.herdSt]

theorem State.sendDown_none {s : State} (h : s.downLinks = []) (typ : Nat) (body : List Nat) : s.sendDown typ body = s := by
  rw [State.sendDown, h]
  rfl

theorem State.sendDown_one {s : State} {p : Nat} (h : s.downLinks = [p]) (typ : Nat) (body : List Nat) :
    s.sendDown typ body = s.sendOwn p typ body := by
  rw [State.sendDown, h]
  rfl

/-! ### IDLE -/

theorem State.toIdle_shows (s : State) : s.toIdle.herdSt = 0 ∧ s.toIdle.getF .GLB_TB_STATUS_HERD_SHARED 0 = 0 := by
  unfold State.toIdle
  extract_lets -lift _ links entries status freq shared _
  constructor
  · calc _ = shared.getF .HRD_STATUS_STATE 0 := State.getF_mk ..
      _ = 0 := by simp [shared, freq, status]
  · calc _ = shared.getF .GLB_TB_STATUS_HERD_SHARED 0 := State.getF_mk ..
      _ = 0 := by simp [shared]

/-- Every link is down on entry to IDLE (R277). -/
theorem State.toIdle_linkUp_port {p : Nat} (hp : p < 4) (s : State) : s.toIdle.linkUp p = false := by
  unfold State.toIdle
  extract_lets -lift _ links entries status freq shared _
  have hlinks : links.linkUp p = false :=
    State.each_at (P := fun _ => True) (Q := fun t => t.linkUp p = false) (i := p) (by decide) (by simp; omega)
      (fun _ _ _ _ => trivial) (fun t _ => State.setUp_linkUp _ p false)
      (fun q hq t ht => (State.linkUp_congr (by simp [State.setUp, State.getF_setB, hq.symm])).trans ht) trivial
  have hentries : entries.linkUp p = links.linkUp p := State.linkUp_congr (State.getF_each _ _ _ _ _ fun i t => by
    split <;> simp)
  have hshared : shared.linkUp p = entries.linkUp p := State.linkUp_congr (by simp [shared, freq, status])
  rw [← hlinks, ← hentries, ← hshared]
  exact State.linkUp_congr (State.getF_mk ..)

/-- A Herd that disbands ends in IDLE with its event, and its time is shared no more (R286, R287). -/
theorem State.disband_shows (s : State) : s.disband.herdSt = 0 ∧ s.disband.getF .HRD_EVENT_DISBAND 0 = 1 ∧
    s.disband.getF .GLB_TB_STATUS_HERD_SHARED 0 = 0 := by
  unfold State.disband
  obtain ⟨hst, hshared⟩ := State.toIdle_shows ((s.sendDown 0x68 []).event .HRD_EVENT_DISBAND 0 0x08 0)
  exact ⟨hst, (State.toIdle_getF _ _ _ (by decide)).trans (State.getF_event_self ..), hshared⟩

end Sys2Proof.Machine

/-! The commands of offers, changes, exclusion and the end of a Herd (R277 to R280, R282, R283, R286). -/

namespace Sys2Proof.Machine
open Host (Outcome)

/-! ### What each command answers -/

section
variable {s : State} {port : Nat} {m : LockMsg}

theorem execOfferReceived_taken (hlo : 1 ≤ port) (hhi : port ≤ 3) (h : s.takes port m) :
    exec (.offerReceived port m) s = .next ((s.received port 0x60 m).setPort port
      { (s.received port 0x60 m).port port with
        fMin := leAt m.body 0 2 % 4096, minId := leAt m.body 2 2, members := leAt m.body 4 4 % 2 ^ 17
        exclN := leAt m.body 8 2 }).offerUpdate :=
  congrArg Outcome.next ((if_pos ⟨hlo, hhi⟩).trans (State.rxLock_of_takes h ..))

theorem State.ownCt_congr {s t : State}
    (h : ∀ f, f ∈ ([.HRD_STATUS_OFFSET_MODE, .HRD_OFFSET_LO_OFS_LO, .HRD_OFFSET_HI_OFS_HI] : List Fld) → t.getF f 0 = s.getF f 0)
    (ct : Nat) : t.ownCt ct = s.ownCt ct := by
  simp only [List.forall_mem_cons] at h
  obtain ⟨hmode, hlo, hhi, -⟩ := h
  have hset : t.isSet .HRD_STATUS_OFFSET_MODE 0 = s.isSet .HRD_STATUS_OFFSET_MODE 0 := by rw [State.isSet, hmode, ← State.isSet]
  have hheld : t.heldOffset = s.heldOffset := by rw [State.heldOffset, hlo, hhi, ← State.heldOffset]
  rw [State.ownCt, hset, hheld, ← State.ownCt]

/-- A member in LOCKED passes its first change on and holds it, while its CT is still to come (R280). -/
theorem execChangeReceived_held (h : s.takes 0 m) (hfirst : s.hrd.lastSeq = none) (hst : s.herdSt = 2)
    (hahead : (s.time : Int) ≤ s.ownCt (leAt m.body 4 8)) :
    exec (.changeReceived m) s = .next
      ((s.relayed 0x61 m).holdChange (leAt m.body 0 2 % 4096) (leAt m.body 2 2) (leAt m.body 4 8)) := by
  refine congrArg Outcome.next ((State.rxLock_of_takes h ..).trans ?_)
  have hseq : (s.received 0 0x61 m).hrd.lastSeq = none := (congrArg HrdState.lastSeq (s.received_herdView 0 0x61 m)).trans hfirst
  have hlocked : (s.relayed 0x61 m).herdSt = 2 := by simp [State.herdSt, ← hst]
  dsimp only
  rw [hseq, ← State.relayed, if_neg (by simp), if_pos (.inl hlocked)]
  refine if_neg ?_
  rw [State.ownCt_congr (s := s) (by simp)]
  simpa using hahead

/-- The next change of a member in HOLDOVER is applied when due, and changes nothing else (R280). -/
theorem execChangeTick_holdover (hpend : s.isSet .HRD_FREQ_PEND 0 = true) (hmember : s.isSet .HRD_STATUS_IS_ROOT 0 = false)
    (hst : s.herdSt = 5) (hdue : s.changeDue = true) : exec .changeTick s = .next s.applyChange := by
  have hsame : ∀ f, f ∉ ([.HRD_FREQ_F_GRP, .HRD_FREQ_PEND] : List Fld) → s.applyChange.getF f 0 = s.getF f 0 :=
    fun f hf => State.applyChange_getF _ _ _ hf
  show execChangeTick s = _
  rw [execChangeTick, if_pos ⟨hpend, hdue⟩, State.exclCheck_of_not_locked, State.rootCheck_of_member]
  · rw [State.isSet, hsame _ (by decide), ← State.isSet, hmember]
  · rw [State.herdSt, hsame _ (by decide), ← State.herdSt, hst]
    decide

theorem execChangeTick_unheld (h : s.isSet .HRD_FREQ_PEND 0 = false) : exec .changeTick s = .next s :=
  congrArg Outcome.next (if_neg fun hheld => Bool.eq_false_iff.mp h hheld.1)

theorem execExcludeReceived_root (hlo : 1 ≤ port) (hhi : port ≤ 3) (h : s.takes port m)
    (hroot : s.isSet .HRD_STATUS_IS_ROOT 0 = true) :
    exec (.excludeReceived port m) s = .next ((s.received port 0x65 m).rootExclude port (m.sender % 65536)
      (leAt m.body 0 2 % 4096) (leAt m.body 4 2) (leAt m.body 6 1)) := by
  refine congrArg Outcome.next ((if_pos ⟨hlo, hhi⟩).trans ((State.rxLock_of_takes h ..).trans (if_pos ?_)))
  simpa [State.isSet] using hroot

theorem execExcludeReceived_member (hlo : 1 ≤ port) (hhi : port ≤ 3) (h : s.takes port m)
    (hmember : s.isSet .HRD_STATUS_IS_ROOT 0 = false) (hup : s.linkUp 0 = true) :
    exec (.excludeReceived port m) s = .next ((s.received port 0x65 m).sendLock 0 0x65 m.flags m.sender m.body) := by
  refine congrArg Outcome.next ((if_pos ⟨hlo, hhi⟩).trans ((State.rxLock_of_takes h ..).trans ((if_neg ?_).trans (if_pos ?_))))
  · simpa [State.isSet] using hmember
  · rwa [State.received_linkUp]

theorem execDecideReceived_taken (h : s.takes 0 m) : exec (.decideReceived m) s = .next
    ((s.relayed 0x67 m).takeDecide (leAt m.body 0 2) (leAt m.body 2 2) (leAt m.body 4 1)) :=
  congrArg Outcome.next (State.rxLock_of_takes h ..)

theorem execDisbandReceived_taken (h : s.takes 0 m) : exec (.disbandReceived m) s = .next
    ((s.relayed 0x68 m).event .HRD_EVENT_DISBAND 0 0x08 0).toIdle :=
  congrArg Outcome.next (State.rxLock_of_takes h ..)

end

section
variable {s : State}

theorem execOfferRecompute_idle (h : s.herdSt = 0) : exec .offerRecompute s = .next (s.setF .HRD_FREQ_F_OFF 0 s.offer) := by
  refine congrArg Outcome.next (if_pos ?_)
  simpa [State.herdSt] using h

theorem execOfferRecompute_herd (h : s.herdSt ≠ 0) :
    exec .offerRecompute s = .next (s.setF .HRD_FREQ_F_OFF 0 s.offer).exclCheck.offerUpdate := by
  refine congrArg Outcome.next (if_neg ?_)
  simpa [State.herdSt] using h

theorem execExclusionRecovery_pending (h : s.herdSt = 3) (hlow : s.exclLow = false) :
    exec .exclusionRecovery s = .next ((s.sendExclude 2).exclEnd false) :=
  congrArg Outcome.next (if_pos ⟨h, Bool.eq_false_iff.mp hlow⟩)

theorem execExclWaitExpiry_pending (h : s.herdSt = 3) : exec .exclWaitExpiry s = .next (s.exclEnd true) :=
  congrArg Outcome.next (if_pos h)

theorem execJoinTimeout_joining (h : s.herdSt = 1) : exec .joinTimeout s = .next
    ((s.toIdle.event .HRD_EVENT_JOIN_TMO 0 0x08 0).replyAll 0x70 (fun _ => true) stTimeout []) :=
  congrArg Outcome.next (if_pos h)

theorem execHoldTmoExpiry_holdover (h : s.herdSt = 5) : exec .holdTmoExpiry s = .next s.disband :=
  congrArg Outcome.next (if_pos h)

end

end Sys2Proof.Machine

/-! What the commands of offers, changes, exclusion and the end of a Herd do (R277 to R280, R282, R283, R286). -/

namespace Sys2Proof.Machine
open Host (Outcome)

/-! ### What the commands show -/

/-- A change held shows its frequency, its number and its tick (R280). -/
theorem State.holdChange_shows (s : State) (fNew seq ct : Nat) :
    (s.holdChange fNew seq ct).getF .HRD_FREQ_PEND 0 = 1 ∧ (s.holdChange fNew seq ct).getF .HRD_PEND_F_NEW 0 = fNew % 4096 ∧
      (s.holdChange fNew seq ct).getF .HRD_PEND_CHG_SEQ 0 = seq % 65536 ∧
      (s.holdChange fNew seq ct).getF .HRD_PEND_TICK_LO_CT_LO 0 = ct % 2 ^ 32 ∧
      (s.holdChange fNew seq ct).getF .HRD_PEND_TICK_HI_CT_HI 0 = ct / 2 ^ 32 % 2 ^ 32 := by
  have hwidths : Fld.width .HRD_FREQ_PEND = 1 ∧ Fld.width .HRD_PEND_F_NEW = 12 ∧ Fld.width .HRD_PEND_CHG_SEQ = 16 ∧
      Fld.width .HRD_PEND_TICK_LO_CT_LO = 32 ∧ Fld.width .HRD_PEND_TICK_HI_CT_HI = 32 := by decide
  obtain ⟨hpend, hnew, hseq, hlo, hhi⟩ := hwidths
  simp [State.holdChange, hpend, hnew, hseq, hlo, hhi]

/-- A change applied gives F_GRP and is held no more (R280). -/
theorem State.applyChange_shows (s : State) : s.applyChange.getF .HRD_FREQ_F_GRP 0 = s.getF .HRD_PEND_F_NEW 0 % 4096 ∧
    s.applyChange.getF .HRD_FREQ_PEND 0 = 0 ∧ s.applyChange.hrd.lastSeq = some (s.getF .HRD_PEND_CHG_SEQ 0) ∧
    s.applyChange.hrd.agreed = true := by
  have hwidth : Fld.width .HRD_FREQ_F_GRP = 12 := by decide
  unfold State.applyChange
  extract_lets -lift applied _
  have hshown : applied.getF .HRD_FREQ_F_GRP 0 = s.getF .HRD_PEND_F_NEW 0 % 4096 ∧ applied.getF .HRD_FREQ_PEND 0 = 0 ∧
      applied.getF .HRD_PEND_CHG_SEQ 0 = s.getF .HRD_PEND_CHG_SEQ 0 := by simp [applied, hwidth]
  obtain ⟨hgrp, hpend, hseq⟩ := hshown
  exact ⟨hgrp, hpend, congrArg some hseq, rfl⟩

/-- The entry that a stack takes, and the event (R283). -/
theorem State.rootExclude_shows {s : State} {stack i : Nat}
    (hnone : (List.range 16).find? (fun i => decide (s.getF .HRD_EXCL_STATE i ≠ 0 ∧ s.getF .HRD_EXCL_STACK_ID i = stack)) = none)
    (hfree : (List.range 16).find? (fun i => decide (s.getF .HRD_EXCL_STATE i = 0)) = some i) (port fOff seq : Nat) :
    (s.rootExclude port stack fOff seq 1).getF .HRD_EXCL_STATE i = 1 ∧
      (s.rootExclude port stack fOff seq 1).getF .HRD_EXCL_STACK_ID i = stack % 65536 ∧
      (s.rootExclude port stack fOff seq 1).getF .HRD_EXCL_F_OFF i = fOff % 4096 ∧
      (s.rootExclude port stack fOff seq 1).getF .HRD_EVENT_EXCL_REQ 0 = 1 := by
  have hwidths : Fld.width .HRD_EXCL_STATE = 2 ∧ Fld.width .HRD_EXCL_STACK_ID = 16 ∧ Fld.width .HRD_EXCL_F_OFF = 12 ∧
      Fld.width .HRD_EVENT_EXCL_REQ = 1 := by decide
  obtain ⟨hst, hid, hoff, hevent⟩ := hwidths
  obtain ⟨u, heq, hu⟩ := State.rootExclude_new hnone hfree port fOff seq
  simp [heq, hu, hst, hid, hoff, hevent]

/-- A join that times out ends in IDLE with its event (R277). -/
theorem State.joinTimedOut_shows (s : State) (st : Nat) (payload : List Nat) :
    ((s.toIdle.event .HRD_EVENT_JOIN_TMO 0 0x08 0).replyAll 0x70 (fun _ => true) st payload).herdSt = 0 ∧
      ((s.toIdle.event .HRD_EVENT_JOIN_TMO 0 0x08 0).replyAll 0x70 (fun _ => true) st payload).getF .HRD_EVENT_JOIN_TMO 0 = 1 := by
  have hwidth : Fld.width .HRD_EVENT_JOIN_TMO = 1 := by decide
  constructor
  · simpa [State.herdSt] using s.toIdle_shows.1
  · simp [hwidth]

section
variable {s : State} {stack i : Nat}
  (hentry : (List.range 16).find? (fun i =>
    decide (s.getF .HRD_EXCL_STATE i = 1 ∧ s.getF .HRD_EXCL_STACK_ID i = stack % 65536)) = some i)
  (hroot : s.isSet .HRD_STATUS_IS_ROOT 0 = true)
include hentry hroot

/-- FOLLOW goes down, where the root has no open request of its own (R283). -/
theorem execDecideFollow_entry (hst : s.herdSt ≠ 3) :
    exec (.decideFollow stack) s = .next (s.sendDecide (stack % 65536) (Tbl.get 0 s.hrd.exclSeq i) 1) := by
  refine congrArg Outcome.next ((State.decideSent_entry hentry hroot 1).trans (State.takeDecide_of_not_pending ?_ ..))
  rwa [State.sendDecide_herdSt]

/-- EVICT marks the entry and goes down, where the root has no open request of its own (R283). -/
theorem execDecideEvict_entry (hst : s.herdSt ≠ 3) : exec (.decideEvict stack) s = .next
    ((s.setF .HRD_EXCL_STATE i 2).sendDecide (stack % 65536) (Tbl.get 0 s.hrd.exclSeq i) 2) := by
  refine congrArg Outcome.next ((State.decideSent_entry hentry hroot 2).trans (State.takeDecide_of_not_pending ?_ ..))
  rw [State.sendDecide_herdSt]
  simpa [State.herdSt] using hst

end

/-! ### The statement -/

/-- Settles O26: each command's answer by its equation, with what messages and offers leave of the Herd lock. -/
theorem herdAgreesAndExcludes : Obligations.HerdAgreesAndExcludes := by
  refine ⟨fun s port m hlo hhi hup hshut hgroup _ => ⟨_, execOfferReceived_taken hlo hhi ⟨hshut, hup, hgroup⟩, ?_⟩,
    fun s m hup hshut hgroup hfirst hst hahead => ⟨_, execChangeReceived_held ⟨hshut, hup, hgroup⟩ hfirst hst hahead, ?_⟩,
    fun s hpend hmember hst hdue => ⟨_, execChangeTick_holdover hpend hmember hst hdue, s.applyChange_shows⟩,
    fun s => execChangeTick_unheld,
    fun s port i m hlo hhi hup hshut hgroup hroot haction hnone hfree =>
      ⟨_, execExcludeReceived_root hlo hhi ⟨hshut, hup, hgroup⟩ hroot, ?_⟩,
    fun s port m hlo hhi hup hshut hgroup hmember hparent htested =>
      ⟨_, execExcludeReceived_member hlo hhi ⟨hshut, hup, hgroup⟩ hmember hparent, ?_⟩,
    fun s m hup hshut hgroup hst hopen htarget hseq hcode => ⟨_, execDecideReceived_taken ⟨hshut, hup, hgroup⟩, ?_⟩,
    fun s m hup hshut hgroup hst hopen htarget hseq hcode => ⟨_, execDecideReceived_taken ⟨hshut, hup, hgroup⟩, ?_⟩,
    fun s m hup hshut hgroup => ⟨_, execDisbandReceived_taken ⟨hshut, hup, hgroup⟩, ?_⟩,
    fun s hup => congrArg Outcome.next (if_pos hup), fun s => execOfferRecompute_idle,
    fun s hst hbar huntil hlow hmember => ⟨_, execOfferRecompute_herd (by omega), ?_⟩,
    fun s hst hlow hmember => ⟨_, execExclusionRecovery_pending hst hlow, ?_⟩,
    fun s hst => ⟨_, execExclWaitExpiry_pending hst, ?_⟩,
    fun s hst => ⟨_, execJoinTimeout_joining hst, s.joinTimedOut_shows ..⟩,
    fun s hst => ⟨_, execHoldTmoExpiry_holdover hst, s.disband_shows⟩,
    fun s stack i hentry hroot hnone hst => ?_,
    fun s stack i hentry hroot hone hst htested hheld => ⟨_, execDecideFollow_entry hentry hroot (by omega), ?_⟩,
    fun s stack i hentry hroot hst => ⟨_, execDecideEvict_entry hentry hroot (by omega), ?_⟩,
    fun s entry hlt hroot hopen => congrArg Outcome.next (if_pos ⟨hlt, hroot, hopen⟩)⟩
  · rw [State.port_of_herdView (State.offerUpdate_herdView _), State.setPort_port_self]
    exact ⟨rfl, rfl, rfl, rfl⟩
  · obtain ⟨hpend, hnew, hseq, hlo, hhi⟩ :=
      (s.relayed 0x61 m).holdChange_shows (leAt m.body 0 2 % 4096) (leAt m.body 2 2) (leAt m.body 4 8)
    exact ⟨hpend, by rw [hnew, Nat.mod_mod], hseq, hlo, hhi, by simp⟩
  · have hshown := State.rootExclude_shows (s := s.received port 0x65 m) (by simpa using hnone) (by simpa using hfree) port
      (leAt m.body 0 2 % 4096) (leAt m.body 4 2)
    simpa [haction] using hshown
  · have hother : (0 : Nat) ≠ port := by omega
    rw [State.sendLock_out]
    · simp [hother]
    · rwa [State.received_port_of_ne hother]
    · rw [State.received_portsHeld]
      exact (State.portShut_false hshut).2
  · have hown : s.ownRequest (leAt m.body 0 2) (leAt m.body 2 2) := ⟨hst, hopen, htarget, hseq⟩
    rw [hcode, State.takeDecide_follow (hown.relayed 0x67 m)]
    obtain ⟨hlocked, hclosed, hbar⟩ := (s.relayed 0x67 m).exclEnd_shows true
    exact ⟨hlocked, hclosed, by rw [hbar, Bool.or_true]⟩
  · have hown : s.ownRequest (leAt m.body 0 2) (leAt m.body 2 2) := ⟨hst, hopen, htarget, hseq⟩
    rw [hcode, State.takeDecide_evict (hown.relayed 0x67 m)]
    exact State.toRelay_shows _
  · refine ⟨(State.toIdle_shows _).1, State.toIdle_linkUp_port (by decide) _, ?_⟩
    rw [State.toIdle_getF _ _ _ (by decide), State.getF_event_self]
    rfl
  · obtain ⟨hpending, hopen, hseq, hevent⟩ := State.exclCheck_raises (s := s.setF .HRD_FREQ_F_OFF 0 s.offer)
      (by simpa [State.herdSt] using hst) hlow hbar huntil (by simpa [State.isSet] using hmember)
    refine ⟨(State.offerUpdate_herdSt _).trans hpending, (State.offerUpdate_reqOpen _).trans hopen,
      (State.offerUpdate_reqSeq _).trans hseq, ?_⟩
    rw [State.offerUpdate_getF _ _ _ (by decide), hevent]
  · obtain ⟨hlocked, hclosed, -⟩ := (s.sendExclude 2).exclEnd_shows false
    exact ⟨hlocked, hclosed⟩
  · obtain ⟨hlocked, hclosed, hbar⟩ := s.exclEnd_shows true
    exact ⟨hlocked, hclosed, by rw [hbar, Bool.or_true]⟩
  · rw [execDecideFollow_entry hentry hroot hst, State.sendDecide, State.sendDown_none hnone]
  · rw [State.sendDecide, State.sendDown_one hone]
    exact State.sendLock_out htested hheld ..
  · have hwidth : Fld.width .HRD_EXCL_STATE = 2 := by decide
    constructor
    · simp [hwidth]
    · rw [State.sendDecide_herdSt]
      simpa [State.herdSt] using hst

end Sys2Proof.Machine

/-! What the commands of the converters, telemetry and the check-value units leave unchanged (R293, R301, R313, R316, R330, R332). -/

namespace Sys2Proof.Machine
open Host (Outcome)

/-- The commands of the converters. -/
theorem adc_frame {c : Instr} {s t : State} {fs : List Fld} (hc : c.family = .adc) (hw : c.writes = some fs)
    (h : exec c s = .next t) : s.onlyChanges t fs c.parts := by
  cases c <;> cases hc <;> cases hw
  all_goals
    obtain rfl := Outcome.next.inj h
    clear h
  all_goals try dsimp only
  -- one goal for each branch of a command
  all_goals repeat' split
  all_goals refine ⟨fun f i hf => ?_, by simp (maxDischargeDepth := 60) [Part.forall_iff, Instr.parts, Part.same]⟩
  all_goals
    try simp only [converterFields, driveFields, replyFields, List.cons_append, List.nil_append, List.mem_cons, not_or] at hf
  all_goals simp (maxDischargeDepth := 60) [hf]

/-- The commands of telemetry and the capture. -/
theorem telemetry_frame {c : Instr} {s t : State} {fs : List Fld} (hc : c.family = .telemetry) (hw : c.writes = some fs)
    (h : exec c s = .next t) : s.onlyChanges t fs c.parts := by
  cases c <;> cases hc <;> cases hw
  all_goals
    obtain rfl := Outcome.next.inj h
    clear h
  all_goals try dsimp only
  -- one goal for each branch of a command
  all_goals repeat' split
  all_goals refine ⟨fun f i hf => ?_, by simp (maxDischargeDepth := 60) [Part.forall_iff, Instr.parts, Part.same]⟩
  all_goals
    try simp only [replyFields, dutyFields, List.cons_append, List.nil_append, List.mem_cons, not_or] at hf
  all_goals simp (maxDischargeDepth := 60) [hf]

/-- The commands of the check-value units. -/
theorem crc_frame {c : Instr} {s t : State} {fs : List Fld} (hc : c.family = .crc) (hw : c.writes = some fs)
    (h : exec c s = .next t) : s.onlyChanges t fs c.parts := by
  cases c <;> cases hc <;> cases hw
  all_goals
    obtain rfl := Outcome.next.inj h
    clear h
  -- one goal for each branch of a command
  all_goals repeat' split
  all_goals refine ⟨fun f i hf => ?_, by simp (maxDischargeDepth := 60) [Part.forall_iff, Instr.parts, Part.same]⟩
  all_goals simp only [List.mem_cons, not_or] at hf
  all_goals simp (maxDischargeDepth := 60) [hf]

/-- Settles O58, family by family. -/
theorem measurementFrame : Obligations.MeasurementFrame := by
  rintro c s t fs (hc | hc | hc) hw h
  · exact adc_frame hc hw h
  · exact telemetry_frame hc hw h
  · exact crc_frame hc hw h

end Sys2Proof.Machine

/-! A calibration step in a state out of its canonical form (R301). -/

namespace Sys2Proof.Machine

/-- A state out of the table's canonical form: GAIN of channel 0 stands at 2^15, which its 15-bit field cannot store, and the
conversions of an OFS step on that channel are done. -/
def wideGainState : State :=
  { State.reset with
    fields := [(.ADC_CAL_GAIN, [(0, 2 ^ 15)])]
    adc := { AdcState.reset with
      step := some { ch := 0, step := 3, target := 0, slot := 0, at_ := 0, due := false, n := 64, sum := 0 } } }

/-- The GAIN that the OFS step keeps is stored again, cut to its field. -/
theorem calibrationStepDone_wideGainState (t : State) (h : exec .calibrationStepDone wideGainState = .next t) :
    t.getF .ADC_CAL_GAIN 0 = 0 := by
  cases h
  decide

/-- Refutes O28: an OFS step keeps GAIN as its field stores it, and in a state whose GAIN stands at 2^15 the step leaves 0; the
clause bounds the stored GAIN nowhere. -/
theorem not_converterHealthMoves : ¬ Obligations.ConverterHealthMoves := by
  unfold Obligations.ConverterHealthMoves
  rintro ⟨-, -, -, -, -, -, -, -, -, -, -, -, hofs, -⟩
  obtain ⟨t, ht, -, hkept, -⟩ := hofs wideGainState _ rfl rfl le_rfl
  have hcut := calibrationStepDone_wideGainState t ht
  have hwide : wideGainState.getF .ADC_CAL_GAIN 0 = 2 ^ 15 := by decide
  exact absurd (hcut.symm.trans (hkept.trans hwide)) (by decide)

end Sys2Proof.Machine

/-! Rules of the converters: what reading a converter gives after an update, and what rounds and conversions leave of the measurement
state beside the converters (R292 to R297). -/

namespace Sys2Proof.Machine

/-! ### Reading a converter -/

@[simp] theorem State.setCv_cv_self (s : State) (c : Nat) (x : AdcCv) : (s.setCv c x).cv c = x := by
  simp [State.cv, State.setCv]

theorem State.setCv_cv (s : State) (c k : Nat) (x : AdcCv) : (s.setCv c x).cv k = if k = c then x else s.cv k := by
  simp [State.cv, State.setCv]

@[simp] theorem State.setF_cv (s : State) (f : Fld) (i v c : Nat) : (s.setF f i v).cv c = s.cv c := (rfl)

@[simp] theorem State.event_cv (s : State) (f : Fld) (i a b c : Nat) : (s.event f i a b).cv c = s.cv c := (rfl)

@[simp] theorem State.bumpF_cv (s : State) (f : Fld) (i c : Nat) : (s.bumpF f i).cv c = s.cv c := (rfl)

theorem State.isSet_congr {s t : State} {f : Fld} {i : Nat} (h : t.getF f i = s.getF f i) : t.isSet f i = s.isSet f i := by
  rw [State.isSet, h, ← State.isSet]

@[simp] theorem State.when_cv (s : State) (b : Bool) (f : State → State) (c : Nat) (h : ∀ t, (f t).cv c = t.cv c) :
    (s.when b f).cv c = s.cv c := State.when_keeps (fun t => t.cv c) b f s (h s)

/-- A converter's calibrated values rest on what it took at its conversion's start (R301). -/
theorem State.calOf_congr {s t : State} {c : Nat} (h : (t.cv c).cal = (s.cv c).cal) (m : Int) : t.calOf c m = s.calOf c m := by
  rw [State.calOf, h, ← State.calOf]

theorem State.cvServes_congr {s t : State} {c : Nat} (h : t.cvSt c = s.cvSt c) : t.cvServes c = s.cvServes c := by
  rw [State.cvServes, h, ← State.cvServes]

/-! ### What rounds and conversions leave -/

/-- The measurement state beside the converters. -/
def State.adcRest (s : State) : AdcState := { s.adc with cv := [] }

@[simp] theorem State.setF_adcRest (s : State) (f : Fld) (i v : Nat) : (s.setF f i v).adcRest = s.adcRest := (rfl)

@[simp] theorem State.setCv_adcRest (s : State) (c : Nat) (x : AdcCv) : (s.setCv c x).adcRest = s.adcRest := (rfl)

@[simp] theorem State.convert_adcRest (s : State) (c ch : Nat) (v : Conv) : (s.convert c ch v).adcRest = s.adcRest := by
  cases v <;> rfl

@[simp] theorem State.serve_adcRest (s : State) (c : Nat) : (s.serve c).adcRest = s.adcRest := by
  unfold State.serve
  dsimp only
  repeat' split
  all_goals simp

@[simp] theorem State.seekEntry_adcRest (s : State) (c e fuel : Nat) : (s.seekEntry c e fuel).adcRest = s.adcRest := by
  induction fuel generalizing s e with
  | zero => rfl
  | succ n ih =>
    unfold State.seekEntry
    dsimp only
    repeat' split
    all_goals simp [ih]

@[simp] theorem State.beginRound_adcRest (s : State) (c r : Nat) : (s.beginRound c r).adcRest = s.adcRest := by
  simp [State.beginRound]

@[simp] theorem State.nextEntry_adcRest (s : State) (c : Nat) : (s.nextEntry c).adcRest = s.adcRest := by
  unfold State.nextEntry
  dsimp only
  split <;> simp

theorem State.urgCh_of_adcRest {s t : State} (h : t.adcRest = s.adcRest) : t.adc.urgCh = s.adc.urgCh := by
  change t.adcRest.urgCh = s.adcRest.urgCh
  rw [h]

theorem State.skips_of_adcRest {s t : State} (h : t.adcRest = s.adcRest) : t.adc.skips = s.adc.skips := by
  change t.adcRest.skips = s.adcRest.skips
  rw [h]

/-! ### NO_TRIG -/

/-- A round sets NO_TRIG and never clears it (R294). -/
theorem State.seekEntry_noTrig {s : State} {ch : Nat} (h : s.getF .ADC_RES_ST_NO_TRIG ch = 1) (c e fuel : Nat) :
    (s.seekEntry c e fuel).getF .ADC_RES_ST_NO_TRIG ch = 1 := by
  have hwidth : Fld.width .ADC_RES_ST_NO_TRIG = 1 := rfl
  induction fuel generalizing s e with
  | zero => exact h
  | succ n ih =>
    unfold State.seekEntry
    dsimp only
    repeat' split
    · exact h
    · exact ih h _
    · simpa using h
    · refine ih ?_ _
      simp [State.getF_setF, hwidth, h]
    · simpa using h

theorem State.nextEntry_noTrig {s : State} {ch : Nat} (h : s.getF .ADC_RES_ST_NO_TRIG ch = 1) (c : Nat) :
    (s.nextEntry c).getF .ADC_RES_ST_NO_TRIG ch = 1 := by
  unfold State.nextEntry
  dsimp only
  have hseek := State.seekEntry_noTrig h c (s.getF .ADC_CV_STATUS_POS c + 1) 17
  split
  · unfold State.beginRound
    dsimp only
    rw [State.serve_getF _ _ _ _ (by decide)]
    refine State.seekEntry_noTrig ?_ ..
    simpa using hseek
  · exact hseek

/-! ### Taking up a conversion -/

section
variable {s : State} {c : Nat} (hserves : s.cvServes c = true) (hfree : (s.cv c).cur = none)
  (hawake : s.isSet .ADC_CV_STATUS_PD c = false)
include hserves hfree hawake

/-- A waiting urgent timer comes before all else (R296). -/
theorem State.serve_timer {o : Nat} {l : List Nat} (h : (s.cv c).timers = o :: l) : s.serve c =
    (s.setCv c { s.cv c with timers := l }).convert c (s.getF .ADC_CV_UT_UT_CH o) (.timer o) := by
  simp [State.serve, hserves, hfree, hawake, h]

/-- With nothing before it, the entry whose value is held is converted (R294, R297). -/
theorem State.serve_entry (htimers : (s.cv c).timers = []) (hahead : s.utAhead c (s.cvTicks c) = false)
    (hcross : (s.cv c).cross = none) (hstep : s.adc.step = none) (hurg : s.adc.urgCh = none)
    (hround : (s.cv c).inRound = true) (hready : (s.cv c).ready = true) :
    s.serve c = (s.setCv c { s.cv c with ready := false, waits := false }).convert c
      (s.seqCh (s.cv c).seqOf (s.getF .ADC_CV_STATUS_POS c)) (.entry (s.getF .ADC_CV_STATUS_POS c)) := by
  simp [State.serve, hserves, hfree, hawake, htimers, hahead, hcross, hstep, hurg, hround, hready]

end

/-- The ticks of urgent timers ahead rest on those taken, and on nothing else of the converters (R296). -/
theorem State.setCv_utAhead {s : State} {c : Nat} {x : AdcCv} (h : x.utAt = (s.cv c).utAt) (k n : Nat) :
    (s.setCv c x).utAhead k n = s.utAhead k n := by
  have htaken : ∀ o, ((s.setCv c x).cv o).utAt = (s.cv o).utAt := fun o => by
    rw [State.setCv_cv]
    split_ifs with ho
    · rw [h, ho]
    · rfl
  simp only [State.utAhead, htaken]
  rfl

/-- What a conversion shows of its converter: it runs from now on, with GAIN and OFS of its channel (R292, R301). -/
theorem State.convert_shows (s : State) (c ch : Nat) (v : Conv) : ((s.convert c ch v).cv c).cur = some v ∧
    ((s.convert c ch v).cv c).start = s.time ∧
    ((s.convert c ch v).cv c).cal = (s.getF .ADC_CAL_GAIN ch, s.getS .ADC_CAL_OFS ch) := by
  unfold State.convert
  dsimp only
  split <;> simp

end Sys2Proof.Machine

/-! The results of conversions (R290, R295, R297, R300). -/

namespace Sys2Proof.Machine
open Host (Outcome)

/-! ### Codes and values -/

theorem rawCode_le (v : Int) (gain : Nat) : rawCode v gain ≤ 4095 := by
  unfold rawCode clampI
  split_ifs <;> omega

theorem State.calOf_lt (s : State) (c : Nat) (m : Int) : s.calOf c m < 65536 := clampI_toNat_lt _

/-! ### Published results -/

/-- What a channel shows of its last result: RESULT, CAL, OVR and VALID (R295, R300). -/
def State.shows (s : State) (ch result cal : Nat) (ovr valid : Bool) : Prop :=
  s.getF .ADC_RES_RESULT ch = result ∧ s.getF .ADC_RES_CAL ch = cal ∧ s.isSet .ADC_RES_ST_OVR ch = ovr ∧
    s.isSet .ADC_RES_ST_VALID ch = valid

/-- A state that reads a result's fields as before shows the same. -/
theorem State.shows.congr {s t : State} {ch result cal : Nat} {ovr valid : Bool} (h : s.shows ch result cal ovr valid)
    (hsame : ∀ f, f ∈ ([.ADC_RES_RESULT, .ADC_RES_CAL, .ADC_RES_ST_OVR, .ADC_RES_ST_VALID] : List Fld) →
      t.getF f ch = s.getF f ch) :
    t.shows ch result cal ovr valid := by
  obtain ⟨hresult, hcal, hovr, hvalid⟩ := h
  exact ⟨(hsame _ (by decide)).trans hresult, (hsame _ (by decide)).trans hcal,
    (State.isSet_congr (hsame _ (by decide))).trans hovr, (State.isSet_congr (hsame _ (by decide))).trans hvalid⟩

/-- A converter that is not suspect publishes; what consumes the value leaves the result (R300, R302). -/
theorem State.publishRes_shows {s : State} {c result : Nat} (hst : s.cvSt c ≠ 2) (hresult : result ≤ 65535) (ch : Nat)
    (m16 : Int) (ovr : Bool) :
    (s.publishRes c ch result m16 ovr).shows ch result (s.calOf c m16) ovr (!s.isSet .ADC_RES_ST_CAL_BUSY ch) := by
  have hcal := s.calOf_lt c m16
  have hwidths : Fld.width .ADC_RES_RESULT = 16 ∧ Fld.width .ADC_RES_CAL = 16 := by decide
  obtain ⟨hwresult, hwcal⟩ := hwidths
  unfold State.publishRes
  rw [if_neg hst]
  extract_lets -lift cal k busy values flags _ published raised
  have hshown : flags.shows ch result cal ovr (!busy) := by
    refine ⟨?_, ?_, (State.isSet_congr ?_).trans (values.isSet_setB_self .ADC_RES_ST_OVR ch ovr), State.isSet_setB_self ..⟩
    · simp [flags, values, hwresult]
      omega
    · simp [flags, values, hwcal]
      omega
    · simp [flags]
  refine hshown.congr fun f hf => ?_
  simp only [List.mem_cons, List.not_mem_nil, or_false] at hf
  rcases hf with rfl | rfl | rfl | rfl <;> simp [raised, published]

/-- A sample of a LOST pair (R306). -/
theorem State.lostSample_shows (s : State) (ch : Nat) :
    (s.lostSample ch).getF .ADC_RES_ST_OVR ch = 1 ∧ (s.lostSample ch).getF .ADC_RES_ST_VALID ch = 0 := by
  have hwidth : Fld.width .ADC_RES_ST_OVR = 1 := rfl
  simp [State.lostSample, hwidth]

/-- The converter whose running conversion has ended, free again. -/
def State.freed (s : State) (c : Nat) : State :=
  (s.setCv c { s.cv c with cur := none }).setF .ADC_CV_STATUS_URG c 0

@[simp] theorem State.freed_getF {f : Fld} (h : f ≠ .ADC_CV_STATUS_URG) (s : State) (c i : Nat) :
    (s.freed c).getF f i = s.getF f i := by
  simp [State.freed, h]

@[simp] theorem State.freed_isSet {f : Fld} (h : f ≠ .ADC_CV_STATUS_URG) (s : State) (c i : Nat) :
    (s.freed c).isSet f i = s.isSet f i := State.isSet_congr (State.freed_getF h ..)

@[simp] theorem State.freed_cvSt (s : State) (c k : Nat) : (s.freed c).cvSt k = s.cvSt k := State.freed_getF (by decide) ..

@[simp] theorem State.freed_seqCh (s : State) (c q e : Nat) : (s.freed c).seqCh q e = s.seqCh q e :=
  State.freed_getF (by decide) ..

@[simp] theorem State.freed_seqOf (s : State) (c : Nat) : ((s.freed c).cv c).seqOf = (s.cv c).seqOf := by
  simp [State.freed]

@[simp] theorem State.freed_calOf (s : State) (c : Nat) (m : Int) : (s.freed c).calOf c m = s.calOf c m :=
  State.calOf_congr (by simp [State.freed]) m

/-- An entry whose conversion has ended: its NO_TRIG and its run of skips are cleared (R294). -/
def State.entryCleared (s : State) (c e : Nat) : State :=
  { s.setF .ADC_RES_ST_NO_TRIG (s.seqCh (s.cv c).seqOf e) 0 with
    adc := { s.adc with skips := Tbl.putD 0 s.adc.skips (16 * (s.cv c).seqOf + e) 0 } }

theorem State.entryCleared_getF {s : State} {f : Fld} (h : f ≠ .ADC_RES_ST_NO_TRIG) (c e i : Nat) :
    (s.entryCleared c e).getF f i = s.getF f i := by
  simp [State.entryCleared, h]

/-- An entry without averaging publishes its result at once (R295). -/
theorem State.entryResult_single {s : State} {c e ch : Nat} (hst : s.cvSt c ≤ 1) (hseq : s.seqCh (s.cv c).seqOf e = ch)
    (hch : ch < 228) (havg : s.getF .ADC_SEQ_AVGL (16 * (s.cv c).seqOf + e) = 0) (raw : Nat) (ovr : Bool) :
    s.entryResult c e raw ovr = (s.entryCleared c e).publishRes c ch
      (raw / 2 ^ min 8 (s.getF .ADC_SEQ_SHIFT (16 * (s.cv c).seqOf + e))) (16 * raw) ovr := by
  have hsame : ∀ f i, f ≠ .ADC_RES_ST_NO_TRIG → (s.entryCleared c e).getF f i = s.getF f i :=
    fun f i hf => State.entryCleared_getF hf c e i
  have hserving : (s.entryCleared c e).cvSt c = s.cvSt c := hsame _ _ (by decide)
  unfold State.entryResult
  extract_lets -lift q i ch' cleared _ counted read k sh
  have hread : read = s.entryCleared c e := by
    have hcheck : decide (228 ≤ ch') = false := by simpa [ch', q, hseq] using hch
    simp only [read, hcheck, State.when_false]
    rfl
  have hk : k = 0 := by simp [k, hread, hsame, i, q, havg]
  rw [hread, if_neg (by omega), if_pos hk]
  simp [sh, hread, hsame, i, q, ch', hseq]

theorem State.entryResult_shows {s : State} {c e ch : Nat} (hst : s.cvSt c ≤ 1) (hseq : s.seqCh (s.cv c).seqOf e = ch)
    (hch : ch < 228) (havg : s.getF .ADC_SEQ_AVGL (16 * (s.cv c).seqOf + e) = 0) {raw : Nat} (hraw : raw ≤ 65535) (ovr : Bool) :
    (s.entryResult c e raw ovr).shows ch (raw / 2 ^ min 8 (s.getF .ADC_SEQ_SHIFT (16 * (s.cv c).seqOf + e)))
      (s.calOf c (16 * raw)) ovr (!s.isSet .ADC_RES_ST_CAL_BUSY ch) := by
  have hserving : (s.entryCleared c e).cvSt c ≠ 2 := by
    rw [State.cvSt, State.entryCleared_getF (by decide), ← State.cvSt]
    omega
  have hbusy : (s.entryCleared c e).isSet .ADC_RES_ST_CAL_BUSY ch = s.isSet .ADC_RES_ST_CAL_BUSY ch :=
    State.isSet_congr (State.entryCleared_getF (by decide) ..)
  have hcal : (s.entryCleared c e).calOf c (16 * raw) = s.calOf c (16 * raw) := State.calOf_congr rfl _
  rw [State.entryResult_single hst hseq hch havg, ← hbusy, ← hcal]
  exact State.publishRes_shows hserving ((Nat.div_le_self ..).trans hraw) ..

/-- What ends a converter's entry and takes up what follows: no result changes (R293, R297, R303). -/
def State.entryEnded (s : State) (c e raw : Nat) : State :=
  if s.cvServes c then ((s.crossRequest c e raw).nextEntry c).serve c else s

theorem State.shows.entryEnded {s : State} {ch result cal : Nat} {ovr valid : Bool} (h : s.shows ch result cal ovr valid)
    (c e raw : Nat) : (s.entryEnded c e raw).shows ch result cal ovr valid := by
  refine h.congr fun f hf => ?_
  unfold State.entryEnded
  simp only [List.mem_cons, List.not_mem_nil, or_false] at hf
  rcases hf with rfl | rfl | rfl | rfl <;> simp

theorem State.shows.serve {s : State} {ch result cal : Nat} {ovr valid : Bool} (h : s.shows ch result cal ovr valid)
    (c : Nat) : (s.serve c).shows ch result cal ovr valid := by
  refine h.congr fun f hf => State.serve_getF _ _ _ _ ?_
  simp only [List.mem_cons, List.not_mem_nil, or_false] at hf
  rcases hf with rfl | rfl | rfl | rfl <;> decide

/-! ### The result of ADC_URG_REQ -/

/-- A converter that is not suspect gives the result (R297). -/
theorem State.urgResult_shows {s : State} {c raw : Nat} (hc : c < 16) (hst : s.cvSt c ≠ 2) (hraw : raw ≤ 4095) (ovr : Bool) :
    (s.urgResult c raw ovr).getF .ADC_URG_RES_DONE 0 = 1 ∧ (s.urgResult c raw ovr).getF .ADC_URG_RES_CONV 0 = c ∧
      (s.urgResult c raw ovr).getF .ADC_URG_RES_RAW 0 = raw ∧ (s.urgResult c raw ovr).isSet .ADC_URG_RES_OVR 0 = ovr := by
  have hwidths : Fld.width .ADC_URG_RES_DONE = 1 ∧ Fld.width .ADC_URG_RES_CONV = 4 ∧
      Fld.width .ADC_URG_RES_RAW = 12 := by decide
  obtain ⟨hwdone, hwconv, hwraw⟩ := hwidths
  unfold State.urgResult
  dsimp only
  rw [if_neg (by simpa [State.cvSt] using hst)]
  refine ⟨?_, ?_, ?_, (State.isSet_congr ?_).trans (s.isSet_setB_self .ADC_URG_RES_OVR 0 ovr)⟩
  · simp [hwdone]
  · simp [hwconv]
    omega
  · simp [hwraw]
    omega
  · simp [State.getF_setB]

/-- A suspect converter's result is withheld (R302). -/
theorem State.urgResult_withheld {s : State} {c : Nat} (hst : s.cvSt c = 2) (raw : Nat) (ovr : Bool) :
    s.urgResult c raw ovr = ({ s with adc := { s.adc with urgCh := none } } : State).setF .ADC_URG_RES_BUSY 0 0 := by
  unfold State.urgResult
  dsimp only
  exact if_pos (by simpa [State.cvSt] using hst)

theorem State.urgResult_ends (s : State) (c raw : Nat) (ovr : Bool) :
    (s.urgResult c raw ovr).getF .ADC_URG_RES_BUSY 0 = 0 ∧ (s.urgResult c raw ovr).adc.urgCh = none := by
  unfold State.urgResult
  dsimp only
  split <;> simp

/-! ### What CONVERSION_DONE answers -/

section
variable {s : State} {c : Nat} (v : Int) (hc : c < 16)
include hc

theorem execConversionDone_recheck (hst : s.cvSt c = 5) : exec (.conversionDone c v) s = .next (s.setCv c { s.cv c with
    rcN := min 64 ((s.cv c).rcN + 1)
    rcBad := (s.cv c).rcBad || !s.chkOk (c / 2) (rawCode v (s.getF .ADC_SEQ_GAIN (16 * c))) }) :=
  congrArg Outcome.next ((if_neg (by omega)).trans (if_pos hst))

variable (hst : s.cvSt c ≠ 5)
include hst

theorem execConversionDone_free (hcur : (s.cv c).cur = none) : exec (.conversionDone c v) s = .next s := by
  refine congrArg Outcome.next ((if_neg (by omega)).trans ((if_neg hst).trans ?_))
  rw [hcur]

theorem execConversionDone_urgent (hcur : (s.cv c).cur = some .urgent) : exec (.conversionDone c v) s = .next
    (((s.freed c).urgResult c (rawCode v (s.getF .ADC_URG_REQ_GAIN 0)) (rawOvr v (s.getF .ADC_URG_REQ_GAIN 0))).serve c) := by
  refine congrArg Outcome.next ((if_neg (by omega)).trans ((if_neg hst).trans ?_))
  rw [hcur]
  rfl

theorem execConversionDone_timer {o : Nat} (hcur : (s.cv c).cur = some (.timer o)) : exec (.conversionDone c v) s = .next
    (((s.freed c).publishRes c (s.getF .ADC_CV_UT_UT_CH o) (rawCode v (s.getF .ADC_CV_UT_UT_GAIN o))
      (16 * rawCode v (s.getF .ADC_CV_UT_UT_GAIN o)) (rawOvr v (s.getF .ADC_CV_UT_UT_GAIN o))).serve c) := by
  refine congrArg Outcome.next ((if_neg (by omega)).trans ((if_neg hst).trans ?_))
  rw [hcur]
  rfl

theorem execConversionDone_entry {e g : Nat} (hcur : (s.cv c).cur = some (.entry e))
    (hg : s.getF .ADC_SEQ_GAIN (16 * (s.cv c).seqOf + e) = g) : exec (.conversionDone c v) s = .next
    (((s.freed c).entryResult c e (rawCode v g) (rawOvr v g)).entryEnded c e (rawCode v g)) := by
  refine congrArg Outcome.next ((if_neg (by omega)).trans ((if_neg hst).trans ?_))
  rw [hcur, ← hg]
  rfl

end

end Sys2Proof.Machine

/-! Rounds, results, held values and urgent conversions of the converters (R290, R293 to R297, R300, R302, R304 to R307). -/

namespace Sys2Proof.Machine
open Host (Outcome)

/-! ### Rounds -/

theorem State.setPair_pairSt (s : State) (k : Nat) {st : Nat} (h : st < 4) : (s.setPair k st).pairSt k = st := by
  have hwidth : Fld.width .ADC_PAIR_STATUS_STATE = 2 := rfl
  simp [State.pairSt, State.setPair, hwidth]
  omega

theorem State.cvReturn_cvSt (s : State) (c : Nat) : (s.cvReturn c).cvSt c = s.cvNormal := by
  have hwidth : Fld.width .ADC_CV_STATUS_STATE = 3 := rfl
  have hmod : s.cvNormal % 8 = s.cvNormal := by
    unfold State.cvNormal
    split <;> rfl
  simpa [State.cvReturn, State.cvSt, hwidth] using hmod

/-- A converter that has passed its recheck is in service, its pair is not LOST, and no round runs on it (R305). -/
theorem State.cvReturn_serves (s : State) (c : Nat) :
    (s.cvReturn c).cvServes c = true ∧ (s.cvReturn c).pairSt (c / 2) ≠ 3 ∧ ((s.cvReturn c).cv c).inRound = false := by
  refine ⟨?_, ?_, ?_⟩
  · have hnormal : s.cvNormal ≤ 2 := by
      unfold State.cvNormal
      split <;> decide
    rw [State.cvServes, State.cvReturn_cvSt]
    exact decide_eq_true hnormal
  · unfold State.cvReturn
    dsimp only
    split_ifs
    all_goals
      rw [State.setPair_pairSt _ _ (by decide)]
      decide
  · simp [State.cvReturn, State.setPair, AdcCv.empty]

/-- A converter in service is not one that has passed its recheck. -/
theorem State.serving_not_returning {s : State} {c : Nat} (hst : s.cvSt c ≤ 2) :
    decide (s.cvSt c = 5 ∧ (s.cv c).rcDone = true) = false :=
  decide_eq_false fun h => by omega

section
variable {s : State} {c : Nat} (hc : c < 16)
include hc

theorem execRoundStart_overrun (hst : s.cvSt c ≤ 2) (hpair : s.pairSt (c / 2) ≠ 3) (hround : (s.cv c).inRound = true) :
    exec (.roundStart c) s = .next (let t := (s.setCv c { s.cv c with late := true }).bumpF .ADC_CV_STATUS_OVERRUNS c
      t.when (¬ t.isSet .ADC_STATUS_LP_ACTIVE 0) (fun t => t.event .ADC_EVENT_OVERRUN 0 0x09 c)) := by
  refine congrArg Outcome.next ((if_neg (by omega)).trans ?_)
  dsimp only
  rw [State.serving_not_returning hst, State.when_false, if_neg hpair, if_neg (by simpa [State.cvServes] using hst), if_pos hround]

theorem execRoundStart_free (hst : s.cvSt c ≤ 2) (hpair : s.pairSt (c / 2) ≠ 3) (hround : (s.cv c).inRound = false) :
    exec (.roundStart c) s = .next (s.beginRound c (s.roundNo c)) := by
  refine congrArg Outcome.next ((if_neg (by omega)).trans ?_)
  dsimp only
  rw [State.serving_not_returning hst, State.when_false, if_neg hpair, if_neg (by simpa [State.cvServes] using hst), if_neg (by simp [hround])]

theorem execRoundStart_returned (hst : s.cvSt c = 5) (hdone : (s.cv c).rcDone = true) :
    exec (.roundStart c) s = .next ((s.cvReturn c).beginRound c (s.roundNo c)) := by
  have hback : decide (s.cvSt c = 5 ∧ (s.cv c).rcDone = true) = true := by simp [hst, hdone]
  obtain ⟨hserves, hpair, hround⟩ := s.cvReturn_serves c
  refine congrArg Outcome.next ((if_neg (by omega)).trans ?_)
  dsimp only
  rw [hback, State.when_true, if_neg hpair, if_neg (by simp [hserves]), if_neg (by simp [hround])]

end

/-! ### Triggers -/

/-- The hold instant reaches the entry of a converter that is free and awake with nothing before it: the entry is converted (R294,
R297). -/
theorem State.holdReached_shows {s : State} {c : Nat} (hserves : s.cvServes c = true) (hfree : (s.cv c).cur = none)
    (hawake : s.isSet .ADC_CV_STATUS_PD c = false) (htimers : (s.cv c).timers = [])
    (hahead : s.utAhead c (s.cvTicks c) = false) (hcross : (s.cv c).cross = none) (hstep : s.adc.step = none)
    (hurg : s.adc.urgCh = none) (hround : (s.cv c).inRound = true) :
    let t := (s.setCv c { s.cv c with ready := true }).serve c
    (t.cv c).cur = some (.entry (s.getF .ADC_CV_STATUS_POS c)) ∧ (t.cv c).start = s.time := by
  dsimp only
  generalize hu : s.setCv c { s.cv c with ready := true } = u
  have hcv : u.cv c = { s.cv c with ready := true } := by rw [← hu, State.setCv_cv_self]
  have hreads : ∀ f i, u.getF f i = s.getF f i := fun f i => by simp [← hu]
  have hahead' : u.utAhead c (u.cvTicks c) = false := by
    rw [State.cvTicks, State.cvSt, hreads, ← State.cvSt, ← State.cvTicks, ← hahead, ← hu, State.setCv_utAhead]
    rfl
  have hparts : u.adc.step = s.adc.step ∧ u.adc.urgCh = s.adc.urgCh ∧ u.time = s.time := by simp [← hu, State.setCv]
  obtain ⟨hstep', hurg', htime⟩ := hparts
  rw [State.serve_entry ((State.cvServes_congr (hreads ..)).trans hserves) (by rw [hcv, hfree])
    ((State.isSet_congr (hreads ..)).trans hawake) (by rw [hcv, htimers]) hahead' (by rw [hcv, hcross]) (hstep'.trans hstep)
    (hurg'.trans hurg) (by rw [hcv, hround]) (by rw [hcv]), hreads]
  obtain ⟨hcur, hstart, -⟩ := State.convert_shows (u.setCv c { u.cv c with ready := false, waits := false }) c
    (u.seqCh (u.cv c).seqOf (s.getF .ADC_CV_STATUS_POS c)) (.entry (s.getF .ADC_CV_STATUS_POS c))
  exact ⟨hcur, hstart.trans htime⟩

/-- A skip of the entry a converter waits on: its run of skips and NO_TRIG of its channel (R294). -/
def State.entrySkipped (s : State) (c : Nat) : State :=
  let i := 16 * (s.cv c).seqOf + s.getF .ADC_CV_STATUS_POS c
  ({ s with adc := { s.adc with skips := s.adc.skips.put i (Tbl.get 0 s.adc.skips i + 1) } } : State).setF .ADC_RES_ST_NO_TRIG
    (s.seqCh (s.cv c).seqOf (s.getF .ADC_CV_STATUS_POS c)) 1

section
variable {s : State} {c : Nat} (hc : c < 16) (hserves : s.cvServes c = true) (hround : (s.cv c).inRound = true)
  (hwaits : (s.cv c).waits = true) (hready : (s.cv c).ready = false)
include hc hserves hround hwaits hready

theorem execTriggerHold_waiting : exec (.triggerHold c) s = .next ((s.setCv c { s.cv c with ready := true }).serve c) :=
  congrArg Outcome.next (if_pos ⟨hc, hserves, hround, hwaits, by simp [hready]⟩)

/-- The fourth skip in a row raises NO_TRIG, and the converter goes on (R294). -/
theorem execTriggerTimeout_fourth
    (hskips : Tbl.get 0 s.adc.skips (16 * (s.cv c).seqOf + s.getF .ADC_CV_STATUS_POS c) = 3) :
    exec (.triggerTimeout c) s = .next (((((s.entrySkipped c).event .ADC_EVENT_NO_TRIG 0 0x09
      (s.seqCh (s.cv c).seqOf (s.getF .ADC_CV_STATUS_POS c))).nextEntry c).serve c)) := by
  have hfourth : decide (Tbl.get 0 s.adc.skips (16 * (s.cv c).seqOf + s.getF .ADC_CV_STATUS_POS c) + 1 = 4) = true := by
    simp [hskips]
  refine congrArg Outcome.next ((if_pos ⟨hc, hserves, hround, hwaits, by simp [hready]⟩).trans ?_)
  dsimp only
  rw [hfourth, State.when_true, State.entrySkipped]

end

/-! ### Urgent timers -/

/-- The tick of an urgent timer is taken (R296). -/
def State.timerTaken (s : State) (c : Nat) : State := s.setCv c { s.cv c with utAt := some s.time }

/-- An urgent timer waits at the converter that takes it, which is awake (R296, R307). -/
def State.timerWaits (s : State) (c b : Nat) : State :=
  (s.setF .ADC_CV_STATUS_PD b 0).setCv b { s.cv b with timers := (s.cv b).timers ++ [c] }

section
variable {s : State} {c : Nat} (hc : c < 16) (hruns : s.utRuns c = true) (htick : s.onTick (s.utTicks c) = true)
  (hfresh : (s.cv c).utAt ≠ some s.time)
include hc hruns htick hfresh

theorem execUrgentTimerConversion_lost (hpair : s.pairSt (c / 2) = 3) :
    exec (.urgentTimerConversion c) s = .next ((s.timerTaken c).lostSample (s.getF .ADC_CV_UT_UT_CH c)) :=
  congrArg Outcome.next ((if_pos ⟨hc, hruns, htick, hfresh⟩).trans (if_pos hpair))

theorem execUrgentTimerConversion_taken (hpair : s.pairSt (c / 2) ≠ 3) :
    exec (.urgentTimerConversion c) s = .next (((s.timerTaken c).timerWaits c (s.utBy c)).serve (s.utBy c)) :=
  congrArg Outcome.next ((if_pos ⟨hc, hruns, htick, hfresh⟩).trans (if_neg hpair))

end

theorem execUrgentTimerConversion_off {s : State} {c : Nat} (h : s.isSet .ADC_CV_UT_UT_EN c = false) :
    exec (.urgentTimerConversion c) s = .next s := by
  have hstill : s.utRuns c = false := by simp [State.utRuns, h]
  exact congrArg Outcome.next (if_neg (by simp [hstill]))

theorem State.timerTaken_cv (s : State) (c b : Nat) :
    (s.timerTaken c).cv b = { s.cv b with utAt := ((s.timerTaken c).cv b).utAt } := by
  unfold State.timerTaken
  rw [State.setCv_cv]
  split_ifs with h
  · rw [h]
  · rfl

/-- A free converter starts the timer's conversion at once, awake (R296, R307). -/
theorem State.timerWaits_shows {s : State} {b : Nat} (hserves : s.cvServes b = true) (hfree : (s.cv b).cur = none)
    (hnone : (s.cv b).timers = []) (c : Nat) :
    let t := (s.timerWaits c b).serve b
    (t.cv b).cur = some (.timer c) ∧ (t.cv b).start = s.time ∧
      (t.cv b).cal = (s.getF .ADC_CAL_GAIN (s.getF .ADC_CV_UT_UT_CH c), s.getS .ADC_CAL_OFS (s.getF .ADC_CV_UT_UT_CH c)) ∧
      t.getF .ADC_CV_STATUS_PD b = 0 := by
  dsimp only
  generalize hu : s.timerWaits c b = u
  have hcv : u.cv b = { s.cv b with timers := [c] } := by
    rw [← hu, State.timerWaits, State.setCv_cv_self, hnone, List.nil_append]
  have hreads : ∀ f i, f ≠ .ADC_CV_STATUS_PD → u.getF f i = s.getF f i := fun f i hf => by simp [← hu, State.timerWaits, hf]
  have hpd : u.getF .ADC_CV_STATUS_PD b = 0 := by simp [← hu, State.timerWaits]
  have htime : u.time = s.time := by simp [← hu, State.timerWaits]
  have hstill : u.cvServes b = true := (State.cvServes_congr (hreads _ _ (by decide))).trans hserves
  rw [State.serve_timer hstill (by rw [hcv, hfree]) (by simp [State.isSet, hpd]) (by rw [hcv])]
  obtain ⟨hcur, hstart, hcal⟩ := State.convert_shows (u.setCv b { u.cv b with timers := [] }) b
    (u.getF .ADC_CV_UT_UT_CH c) (.timer c)
  refine ⟨hcur, hstart.trans htime, hcal.trans ?_, ?_⟩
  · simp [State.getS, hreads]
  · rw [State.convert_getF _ _ _ _ _ _ (by decide), State.setCv_getF _ _ _ _ _ (by decide), hpd]

/-! ### Urgent requests -/

/-- GO stores its operands and clears what the last request left (R297). -/
def State.urgAsked (s : State) (ch gain smp : Nat) : State :=
  (((((s.setF .ADC_URG_REQ_CHANNEL 0 ch).setF .ADC_URG_REQ_GAIN 0 gain).setF .ADC_URG_REQ_SMP 0 (clampN 10 60 smp)).setF
    .ADC_URG_RES_DONE 0 0).setF .ADC_URG_RES_REFUSED 0 0)

theorem State.cvFor_congr {s t : State} (h : ∀ c, t.cvSt c = s.cvSt c) (ch : Nat) : t.cvFor ch = s.cvFor ch := by
  have hserves : t.cvServes = s.cvServes := funext fun c => State.cvServes_congr (h c)
  rw [State.cvFor, hserves, ← State.cvFor]

theorem State.urgAsked_cvFor (s : State) (ch gain smp k : Nat) : (s.urgAsked ch gain smp).cvFor k = s.cvFor k :=
  State.cvFor_congr (fun c => by simp [State.cvSt, State.urgAsked]) k

theorem execAdcUrgReq_busy {s : State} (h : s.isSet .ADC_URG_RES_BUSY 0 = true) (ch gain smp : Nat) :
    exec (.adcUrgReq ch gain smp) s = .next s := congrArg Outcome.next (if_pos h)

section
variable {s : State} {ch : Nat} (hidle : s.isSet .ADC_URG_RES_BUSY 0 = false) (gain smp : Nat)
include hidle

theorem execAdcUrgReq_served {c : Nat} (hch : chDefined s.cfg.table (ch % 256) = true) (hcv : s.cvFor (ch % 256) = some c) :
    exec (.adcUrgReq ch gain smp) s = .next ((({ s.urgAsked ch gain smp with
      adc := { s.adc with urgCh := some (ch % 256) } } : State).setF .ADC_URG_RES_BUSY 0 1).serve c) := by
  refine congrArg Outcome.next ((if_neg (by simp [hidle])).trans ?_)
  have hwhich : (if chDefined (s.urgAsked ch gain smp).cfg.table (ch % 256) = true then
      (s.urgAsked ch gain smp).cvFor (ch % 256) else none) = some c :=
    (if_pos hch).trans ((s.urgAsked_cvFor ..).trans hcv)
  unfold State.urgAsked at hwhich ⊢
  dsimp only
  rw [hwhich]
  rfl

theorem execAdcUrgReq_refused (h : chDefined s.cfg.table (ch % 256) = false ∨ s.cvFor (ch % 256) = none) :
    exec (.adcUrgReq ch gain smp) s = .next ((s.urgAsked ch gain smp).setF .ADC_URG_RES_REFUSED 0 1) := by
  refine congrArg Outcome.next ((if_neg (by simp [hidle])).trans ?_)
  have hwhich : (if chDefined (s.urgAsked ch gain smp).cfg.table (ch % 256) = true then
      (s.urgAsked ch gain smp).cvFor (ch % 256) else none) = none := by
    rw [State.urgAsked_cvFor]
    rcases h with hch | hcv
    · exact if_neg (by simpa [State.urgAsked] using hch)
    · rw [hcv, ite_self]
  unfold State.urgAsked at hwhich ⊢
  dsimp only
  rw [hwhich]

end

/-! ### The statement -/

/-- Settles O27: each command's answer by its equation, with what rounds and conversions leave of the results and of the measurement
state. -/
theorem convertersConvertAndFail : Obligations.ConvertersConvertAndFail := by
  refine ⟨fun s c hc hst hpair hround => ⟨_, execRoundStart_overrun hc hst hpair hround, ?_⟩,
    fun s c hc hst hpair hround => execRoundStart_free hc hst hpair hround,
    fun s c hc hst hdone _ => execRoundStart_returned hc hst hdone,
    fun s c v hc hst => execConversionDone_recheck v hc hst,
    fun s c v hc hst hcur => ⟨_, execConversionDone_urgent v hc (by omega) hcur, ?_⟩,
    fun s c v hc hst hcur => ⟨_, execConversionDone_urgent v hc (by omega) hcur, ?_⟩,
    fun s c e ch g v hc hst hcur hseq hg _ hch _ havg => ⟨_, execConversionDone_entry v hc (by omega) hcur hg, ?_⟩,
    fun s c o ch v hc hst hcur hseq _ _ _ => ⟨_, execConversionDone_timer v hc (by omega) hcur, ?_⟩,
    fun s c v hc hst hcur => execConversionDone_free v hc hst hcur,
    fun s c hc hserves hround hwaits hready hfree htimers hcross hawake hahead hstep hurg =>
      ⟨_, execTriggerHold_waiting hc hserves hround hwaits hready, ?_⟩,
    fun s c ch hc hserves hround hwaits hready _ hseq hskips =>
      ⟨_, execTriggerTimeout_fourth hc hserves hround hwaits hready hskips, ?_⟩,
    fun s c hc hround hwaits hready => congrArg Outcome.next (if_pos ⟨hc, hround, hwaits, hready⟩),
    fun s c b hc hruns htick hfresh hpair hby hserves hfree hnone =>
      ⟨_, execUrgentTimerConversion_taken hc hruns htick hfresh hpair, ?_⟩,
    fun s c hc hruns htick hfresh hpair => ⟨_, execUrgentTimerConversion_lost hc hruns htick hfresh hpair, ?_⟩,
    fun s c => execUrgentTimerConversion_off,
    fun s ch gain smp hbusy => execAdcUrgReq_busy hbusy ch gain smp,
    fun s ch gain smp c hidle hch hcv => ⟨_, execAdcUrgReq_served hidle gain smp hch hcv, ?_⟩,
    fun s ch gain smp hidle hnone => ⟨_, execAdcUrgReq_refused hidle gain smp hnone, ?_⟩⟩
  · simp [hround]
  · obtain ⟨hbusy, hurg⟩ := (s.freed c).urgResult_ends c (rawCode v (s.getF .ADC_URG_REQ_GAIN 0))
      (rawOvr v (s.getF .ADC_URG_REQ_GAIN 0))
    obtain ⟨hdone, hconv, hraw, hovr⟩ := State.urgResult_shows (s := s.freed c) hc (by simp; omega)
      (rawCode_le v (s.getF .ADC_URG_REQ_GAIN 0)) (rawOvr v (s.getF .ADC_URG_REQ_GAIN 0))
    have hserve : ∀ f, f ≠ .ADC_CV_STATUS_URG → ∀ t : State, (t.serve c).getF f 0 = t.getF f 0 :=
      fun f hf t => State.serve_getF _ _ _ _ (by simpa using hf)
    exact ⟨(hserve _ (by decide) _).trans hbusy, (hserve _ (by decide) _).trans hdone, (hserve _ (by decide) _).trans hconv,
      (hserve _ (by decide) _).trans hraw, (State.isSet_congr (hserve _ (by decide) _)).trans hovr,
      (State.urgCh_of_adcRest (State.serve_adcRest ..)).trans hurg⟩
  · rw [State.urgResult_withheld (by simpa using hst)]
    refine ⟨?_, ?_, ?_, ?_⟩
    · simp
    · simp
    · simp
    · rw [State.urgCh_of_adcRest (State.serve_adcRest ..), State.setF_adc]
  · have hshown := State.entryResult_shows (s := s.freed c) (by simpa using hst) (by simpa using hseq) hch (by simpa using havg)
      ((rawCode_le v g).trans (by decide)) (rawOvr v g)
    simp only [State.freed_seqOf, State.freed_calOf, ne_eq, reduceCtorEq, not_false_eq_true, State.freed_getF,
      State.freed_isSet] at hshown
    exact hshown.entryEnded c e (rawCode v g)
  · subst hseq
    have hshown := State.publishRes_shows (s := s.freed c) (c := c) (by simp; omega)
      ((rawCode_le v (s.getF .ADC_CV_UT_UT_GAIN o)).trans (by decide)) (s.getF .ADC_CV_UT_UT_CH o)
      (16 * rawCode v (s.getF .ADC_CV_UT_UT_GAIN o)) (rawOvr v (s.getF .ADC_CV_UT_UT_GAIN o))
    rw [State.freed_calOf, State.freed_isSet (by decide)] at hshown
    exact hshown.serve c
  · exact State.holdReached_shows hserves hfree hawake htimers hahead hcross hstep hurg hround
  · subst hseq
    refine ⟨?_, ?_, ?_⟩
    · rw [State.serve_getF _ _ _ _ (by decide)]
      refine State.nextEntry_noTrig ?_ c
      rw [State.getF_event_fld _ _ _ _ _ (by decide), State.entrySkipped, State.getF_setF_self]
      rfl
    · rw [State.serve_getF _ _ _ _ (by decide), State.nextEntry_getF _ _ _ _ (by decide), State.getF_event_self]
      rfl
    · rw [State.skips_of_adcRest ((State.serve_adcRest ..).trans (State.nextEntry_adcRest ..))]
      simp [State.entrySkipped, hskips]
  · subst hby
    have htaken := s.timerTaken_cv c (s.utBy c)
    have hstill : (s.timerTaken c).cvServes (s.utBy c) = true := hserves
    exact State.timerWaits_shows hstill (by rw [htaken, hfree]) (by rw [htaken, hnone]) c
  · exact State.lostSample_shows ..
  · have hwidths : Fld.width .ADC_URG_RES_BUSY = 1 ∧ Fld.width .ADC_URG_REQ_CHANNEL = 8 := by decide
    obtain ⟨hwbusy, hwch⟩ := hwidths
    refine ⟨?_, ?_, ?_, ?_, ?_⟩
    · simp [hwbusy]
    · simp [State.urgAsked]
    · simp [State.urgAsked]
    · simp [State.urgAsked, hwch]
    · exact State.urgCh_of_adcRest (State.serve_adcRest ..)
  · have hwidth : Fld.width .ADC_URG_RES_REFUSED = 1 := rfl
    refine ⟨?_, ?_, ?_, rfl⟩
    · simpa [State.urgAsked, State.isSet] using hidle
    · simp [State.urgAsked]
    · simp [hwidth]

end Sys2Proof.Machine

/-! A record behind a notice that is due (R313, R317). -/

namespace Sys2Proof.Machine

/-- While a notice is due, no record can be written, whether or not the ring has room (R317). -/
theorem State.recordReady_eq_false_of_noticeReady {s : State} (h : s.noticeReady = true) : s.recordReady = false := by
  simp [State.recordReady, h]

/-- An acknowledgment finds no write to answer where no record can be written. -/
theorem execRecordWriteAck_of_not_ready {s : State} (h : s.recordReady = false) : exec .recordWriteAck s = .next s := by
  show execRecordWriteAck s = .next s
  unfold execRecordWriteAck
  cases s.tlm.queue with
  | nil => rfl
  | cons r rest => simp [h]

/-- A window's notice is due with all its records written, and the next window's record already waits behind it; the ring is
empty. -/
def noticeDueState : State :=
  { State.reset with
    fields := [(.TLM_CTRL_NOTIFY_MS, [(0, 1)])]
    tlm := { TlmState.reset with queue := [{ bytes := List.replicate 60 0, born := 0 }], notices := [0] } }

/-- Refutes O45: a record of a window after a due notice waits for that notice, and the first clause has it written wherever the ring
has room. -/
theorem not_ringIndicesWrap : ¬ Obligations.RingIndicesWrap := by
  unfold Obligations.RingIndicesWrap
  rintro ⟨hwritten, -⟩
  obtain ⟨t, ht, hprod, -⟩ := hwritten noticeDueState _ _ rfl (by decide)
  have hwaits : exec .recordWriteAck noticeDueState = .next noticeDueState :=
    execRecordWriteAck_of_not_ready (State.recordReady_eq_false_of_noticeReady (by decide))
  obtain rfl : noticeDueState = t := Host.Outcome.next.inj (hwaits.symm.trans ht)
  exact absurd hprod (by decide)

end Sys2Proof.Machine

/-! Replies after a recorded reply that is longer than a slot (R337, R345, R351). -/

namespace Sys2Proof.Machine
open Host (Outcome)

/-! ### Words of a reply (R337, R340) -/

/-- A run of words put into a memory reads back word by word. -/
theorem get_putWords (m : Tbl Nat Nat) (a : Nat) {l : List Nat} {j : Nat} (hj : j < l.length) :
    Tbl.get 0 (putWords m a l) (a + j) = l.getD j 0 := by
  induction l using List.reverseRecOn with
  | nil => simp at hj
  | append_singleton l x ih =>
    have hput : putWords m a (l ++ [x]) = Tbl.putD 0 (putWords m a l) (a + l.length) x := by
      simp [putWords, List.zipIdx_append]
    rw [hput, Tbl.get_putD]
    by_cases hlast : j = l.length
    · simp [hlast]
    · have hj' : j < l.length := by simp at hj; omega
      rw [if_neg (by omega), ih hj', List.getD_append _ _ _ _ hj']

/-- An answer stands in the reply memory from its slot's first word on, whatever its length (R340). -/
theorem State.get_answerSlot_replyMem (s : State) (k : Nat) {words : List Nat} {j : Nat} (hj : j < words.length) :
    Tbl.get 0 (s.answerSlot k words).cmd.replyMem (64 * k + j) = words.getD j 0 := by
  have hmem : (s.answerSlot k words).cmd.replyMem = putWords s.cmd.replyMem (64 * k) words := rfl
  rw [hmem, get_putWords _ _ hj]

/-- A reply leaves the command slots and the other partners, and it ends its packet or leaves it pending (R340). -/
theorem State.replyRaw_cmd {s : State} {k : Nat} {g : InFlight} (hpkt : s.slotPkt k = some g) (st : Nat) (payload : List Nat) :
    (s.replyRaw k st payload).cmd.slotMem = s.cmd.slotMem ∧
    (∀ p, p ≠ k / 8 → (s.replyRaw k st payload).partner p = s.partner p) ∧
    (s.replyRaw k st payload).cmd.inflight = if statusFinal st then s.cmd.inflight.erase k
      else s.cmd.inflight.map (fun q => if q.1 = k then (q.1, { q.2 with phase := .pending }) else q) := by
  unfold State.replyRaw
  rw [hpkt]
  dsimp only
  cases statusFinal st
  · refine ⟨?_, fun p _ => ?_, ?_⟩ <;> simp [State.setPhase, State.writeReply, State.partner]
  · generalize decide (k / 8 ≠ 0 ∧ g.pkt.tag ≠ 0) = records
    refine ⟨?_, fun p hp => ?_, ?_⟩
    · cases records <;> simp [State.setPartner, State.writeReply]
    · cases records <;> simp [State.setPartner, State.writeReply, State.partner, hp]
    · cases records <;> simp [State.setPartner, State.writeReply]

/-! ### Which packet intake takes -/

/-- Intake takes nothing where no packet waits for it. -/
theorem State.nextTaken_eq_none {s : State} (h : ∀ q ∈ s.cmd.inflight, q.2.phase ≠ .intake) : s.nextTaken = none := by
  unfold State.nextTaken
  split
  · rfl
  · refine List.find?_eq_none.mpr fun q hq => ?_
    simp [State.mayTake, h q hq]

theorem State.serveN_of_none {s : State} (h : s.nextTaken = none) (n : Nat) : s.serveN n = s := by
  cases n with
  | zero => rfl
  | succ n => simp [State.serveN, h]

/-- The one packet that waits for intake goes to hardware and is first of its partner: it is taken (R343, R344). -/
theorem State.nextTaken_of_head {s : State} {k : Nat} {f : InFlight} {rest : Tbl Nat InFlight}
    (hinflight : s.cmd.inflight = (k, f) :: rest) (hwaits : f.phase = .intake) (hop : opHardware f.pkt.op = true)
    (hrest : ∀ q ∈ rest, q.1 / 8 ≠ k / 8 ∧ q.2.phase = .pending) : s.nextTaken = some (k, f) := by
  have horder : s.inOrder k f = true := by
    rw [State.inOrder, hinflight, List.all_eq_true]
    intro q hq
    rcases List.mem_cons.mp hq with rfl | hq
    · exact decide_eq_true (.inr (.inl le_rfl))
    · exact decide_eq_true (.inl (hrest q hq).1)
  have htake : s.mayTake k f = true := decide_eq_true ⟨hwaits, horder, .inl hop⟩
  have hothers : ∀ q ∈ rest, s.mayTake q.1 q.2 = false := fun q hq => by simp [State.mayTake, (hrest q hq).2]
  have hfirst : s.cmd.inflight.all (fun r => ¬ s.mayTake r.1 r.2 ∨ s.turns (k / 8) ≤ s.turns (r.1 / 8)) = true := by
    rw [hinflight, List.all_eq_true]
    intro q hq
    rcases List.mem_cons.mp hq with rfl | hq
    · exact decide_eq_true (.inr le_rfl)
    · exact decide_eq_true (.inl (by simp [hothers q hq]))
  have hidle : s.cmd.inflight.any (fun q => q.2.phase = .taken) = false := by
    rw [hinflight, List.any_eq_false]
    intro q hq
    rcases List.mem_cons.mp hq with rfl | hq
    · simp [hwaits]
    · simp [(hrest q hq).2]
  rw [State.nextTaken, hidle, if_neg Bool.false_ne_true]
  conv_lhs => arg 2; rw [hinflight]
  exact List.find?_cons_of_pos (decide_eq_true ⟨htake, hfirst⟩)

/-! ### The repeat of a recorded packet (R345) -/

/-- A registered partner's packet passes the checks of R341 by its own bytes, the epoch of its partner and the class. -/
theorem State.firstCheck_congr {s t : State} {k : Nat} (hset : k / 8 ≠ 0)
    (hepoch : (t.partner (k / 8)).epoch = (s.partner (k / 8)).epoch)
    (hclass : t.getF .CMD_PART_ID_CLASS (k / 8) = s.getF .CMD_PART_ID_CLASS (k / 8)) (p : Packet) (crcOk : Bool) :
    t.firstCheck k p crcOk = s.firstCheck k p crcOk := by
  simp only [State.firstCheck, if_neg hset, hepoch, hclass]

/-- A restarted lease moves no partner's epoch and no recorded tag (R347). -/
theorem State.restartLease_partner (s : State) (set p : Nat) :
    ∃ last, (s.restartLease set).partner p = { s.partner p with last := last } := by
  unfold State.restartLease
  split
  · exact ⟨_, rfl⟩
  · refine ⟨if p = set then s.time else (s.partner p).last, ?_⟩
    by_cases hp : p = set <;> simp [State.partner, State.setPartner, hp]

/-- A packet that passes the checks of R341 and repeats a recorded tag with the recorded CRC (R345). -/
structure State.Repeats (s : State) (k : Nat) (f : InFlight) (t : TagRec) : Prop where
  registered : k / 8 ≠ 0
  tagged : f.pkt.tag ≠ 0
  sealed : crc32c ((s.slotBytes k).take 12 ++ f.pkt.payload) = f.pkt.crc
  passes : s.firstCheck k f.pkt true = none
  recorded : (s.partner (k / 8)).tags.find? (fun t => t.tag = f.pkt.tag) = some t
  same : t.crc = f.pkt.crc

/-- The state in which the checks of R341 find a packet: intake's turn, the check value of unit 1 and the restarted lease. -/
def State.intaken (s : State) (k : Nat) (f : InFlight) (crcOk : Bool) : State :=
  let s : State := { s with cmd := { s.cmd with intakeTurn := k / 8 } }
  let s := s.when (f.pkt.len % 4 = 0 ∧ f.pkt.len ≤ 240) (fun t =>
    t.dutyJob 1 ((s.slotBytes k).take 12 ++ f.pkt.payload) (some f.pkt.crc))
  s.when (s.accepted k f.pkt crcOk) (fun s => s.restartLease (k / 8))

theorem State.intaken_partner (s : State) (k : Nat) (f : InFlight) (crcOk : Bool) (p : Nat) :
    ∃ last, (s.intaken k f crcOk).partner p = { s.partner p with last := last } := by
  unfold State.intaken
  dsimp only
  generalize hu : State.when _ (decide (f.pkt.len % 4 = 0 ∧ f.pkt.len ≤ 240)) _ = u
  have hpartner : u.partner p = s.partner p := by
    have hcmd : u.cmd = { s.cmd with intakeTurn := k / 8 } := by simp [← hu]
    simp [State.partner, hcmd]
  cases u.accepted k f.pkt crcOk
  · exact ⟨_, hpartner⟩
  · rw [State.when_true, ← hpartner]
    exact u.restartLease_partner _ _

/-- Intake answers the repeat of a recorded packet with the recorded reply (R345). -/
theorem State.Repeats.takePacket {s : State} {k : Nat} {f : InFlight} {t : TagRec} (h : s.Repeats k f t) :
    s.takePacket k f = (s.intaken k f true).answerSlot k t.reply := by
  obtain ⟨last, hpartner⟩ := s.intaken_partner k f true (k / 8)
  have hcheck : (s.intaken k f true).firstCheck k f.pkt true = none := by
    rw [State.firstCheck_congr (s := s) h.registered (by rw [hpartner]) (by simp [State.intaken]), h.passes]
  have hrec : ((s.intaken k f true).partner (k / 8)).tags.find? (fun t => t.tag = f.pkt.tag) = some t := by
    rw [hpartner]
    exact h.recorded
  have hsealed : decide (crc32c ((State.slotBytes { s with cmd := { s.cmd with intakeTurn := k / 8 } } k).take 12 ++
      f.pkt.payload) = f.pkt.crc) = true := decide_eq_true h.sealed
  unfold State.takePacket
  dsimp only
  rw [hsealed]
  unfold State.intaken at hcheck hrec ⊢
  dsimp only at hcheck hrec
  rw [hcheck]
  dsimp only
  rw [if_pos (by simp [h.registered, h.tagged]), hrec]
  dsimp only
  rw [if_pos h.same]

@[simp] theorem State.intaken_inflight (s : State) (k : Nat) (f : InFlight) (crcOk : Bool) :
    (s.intaken k f crcOk).cmd.inflight = s.cmd.inflight := by
  unfold State.intaken
  dsimp only
  generalize hu : State.when _ (decide (f.pkt.len % 4 = 0 ∧ f.pkt.len ≤ 240)) _ = u
  have hcmd : u.cmd = { s.cmd with intakeTurn := k / 8 } := by simp [← hu]
  rw [State.when_keeps (fun t => t.cmd.inflight) _ _ _ ?_, hcmd]
  unfold State.restartLease
  split
  · rfl
  · rw [State.when_keeps (fun t => t.cmd.inflight) _ _ _ rfl]
    rfl

/-- What a packet repeats depends on its slot, on its partner's record and on the class alone. -/
theorem State.Repeats.congr {s u : State} {k : Nat} {f : InFlight} {t : TagRec} (h : s.Repeats k f t)
    (hslots : u.cmd.slotMem = s.cmd.slotMem) (hpartner : u.partner (k / 8) = s.partner (k / 8))
    (hclass : u.getF .CMD_PART_ID_CLASS (k / 8) = s.getF .CMD_PART_ID_CLASS (k / 8)) : u.Repeats k f t where
  registered := h.registered
  tagged := h.tagged
  sealed := by simpa only [State.slotBytes, hslots] using h.sealed
  passes := by rw [State.firstCheck_congr h.registered (by rw [hpartner]) hclass, h.passes]
  recorded := by rw [hpartner, h.recorded]
  same := h.same

/-- The repeat of a recorded packet is answered with the record, and no other packet is taken. -/
theorem State.Repeats.serveIntake {s : State} {k : Nat} {f : InFlight} {t : TagRec} {rest : Tbl Nat InFlight}
    (h : s.Repeats k f t) (hinflight : s.cmd.inflight = (k, f) :: rest) (hwaits : f.phase = .intake)
    (hop : opHardware f.pkt.op = true) (hrest : ∀ q ∈ rest, q.1 / 8 ≠ k / 8 ∧ q.2.phase = .pending) :
    s.serveIntake = (s.intaken k f true).answerSlot k t.reply ∧ s.serveIntake.nextTaken = none := by
  have hnext := State.nextTaken_of_head hinflight hwaits hop hrest
  have hdone : ((s.intaken k f true).answerSlot k t.reply).nextTaken = none := by
    refine State.nextTaken_eq_none fun q hq => ?_
    have hleft : q ∈ (s.cmd.inflight.erase k : Tbl Nat InFlight) := by simpa [State.answerSlot, State.writeReply] using hq
    obtain ⟨hmem, -⟩ : q ∈ rest ∧ ¬ q.1 = k := by simpa [Tbl.erase, hinflight] using hleft
    simp [(hrest q hmem).2]
  have hserve : s.serveIntake = (s.intaken k f true).answerSlot k t.reply := by
    rw [State.serveIntake, hinflight, List.length_cons, State.serveN, hnext]
    dsimp only
    rw [h.takePacket, State.serveN_of_none hdone]
  exact ⟨hserve, by rw [hserve, hdone]⟩

/-- A recorded reply of more than 64 words, repeated while the packet in the slot after it is answered, overwrites that answer: a
reply slot has 64 words (R337, R345). -/
theorem State.Repeats.overwritesNext {s : State} {k : Nat} {f g : InFlight} {t : TagRec} (h : s.Repeats k f t)
    (hinflight : s.cmd.inflight = [(k, f), (k + 1, g)]) (hwaits : f.phase = .intake) (hop : opHardware f.pkt.op = true)
    (hother : (k + 1) / 8 ≠ k / 8) (hlong : 64 < t.reply.length) (st : Nat) (payload : List Nat) :
    Tbl.get 0 (s.reply (k + 1) st payload).serveIntake.cmd.replyMem (64 * (k + 1)) = t.reply.getD 64 0 := by
  have hpkt : s.slotPkt (k + 1) = some g := by simp [State.slotPkt, hinflight]
  obtain ⟨hslots, hpartner, hleft⟩ := State.replyRaw_cmd hpkt st payload
  have hrepeats := h.congr hslots (hpartner _ hother.symm) (by simp)
  obtain ⟨rest, hrest, hpending⟩ : ∃ rest : Tbl Nat InFlight,
      (s.replyRaw (k + 1) st payload).cmd.inflight = (k, f) :: rest ∧
      ∀ q ∈ rest, q.1 / 8 ≠ k / 8 ∧ q.2.phase = .pending := by
    rw [hleft, hinflight]
    cases statusFinal st
    · exact ⟨[(k + 1, { g with phase := .pending })], by simp, by simpa using hother⟩
    · exact ⟨[], by simp [Tbl.erase], by simp⟩
  obtain ⟨hanswer, hdone⟩ := hrepeats.serveIntake hrest hwaits hop hpending
  have hserve : (s.reply (k + 1) st payload).serveIntake = s.reply (k + 1) st payload := State.serveN_of_none hdone _
  rw [hserve, State.reply, hanswer]
  exact State.get_answerSlot_replyMem _ k hlong

/-! ### What the commands answer -/

/-- TELEMETRY_SETUP with a SIZE_LOG2 outside 8 to 20 answers BAD_PARAM with the offset of its byte (R312, R351). -/
theorem execTelemetrySetup_badSize {s : State} {set slot : Nat} {p : Packet} (hset : set < 64) (hslot : slot < 8)
    (hready : s.ready (8 * set + slot) 0x40 = some p)
    (hbits : firstBad ([0, 240] ++ whole 6 ++ [31, 255, 3, 0, 252] ++ whole 7 ++ [0, 0, 0, 0]) p.payload = none)
    (hsize : leAt p.payload 8 1 < 8 ∨ 20 < leAt p.payload 8 1) :
    exec (.telemetrySetup set slot) s =
      .next (((s.setPhase (8 * set + slot) .started).reply (8 * set + slot) stBadParam (leBytes 2 8 ++ [0, 0])).serveIntake) := by
  refine (congrArg Outcome.next (State.command_ready hset hslot hready hbits _)).trans ?_
  dsimp only
  rw [if_pos hsize, State.badParam]

/-- CAPTURE_WAVEFORM in IDLE with a channel on is answered ACCEPTED_PENDING, in a state that has the command slots, the partners and
the packets in flight as they were (R351). -/
theorem execCaptureWaveform_pending {s : State} {set slot : Nat} {p : Packet} (hset : set < 64) (hslot : slot < 8)
    (hready : s.ready (8 * set + slot) 0x41 = some p)
    (hbits : firstBad ([7, 0, 255, 1, 255, 3, 255, 255, 0, 240] ++ whole 14 ++ (List.replicate 8 [255, 7, 7, 0]).flatten)
      p.payload = none)
    (hidle : s.capSt = 0)
    (hon : (List.range 8).any (fun c => decide (1 ≤ leAt p.payload (26 + 4 * c) 1 ∧ leAt p.payload (26 + 4 * c) 1 ≤ 4)) = true) :
    ∃ u : State, exec (.captureWaveform set slot) s = .next ((u.reply (8 * set + slot) stPending []).serveIntake) ∧
      u.cmd.slotMem = s.cmd.slotMem ∧ u.cmd.partners = s.cmd.partners ∧
      u.cmd.inflight = (s.setPhase (8 * set + slot) .started).cmd.inflight ∧
      ∀ i, u.getF .CMD_PART_ID_CLASS i = s.getF .CMD_PART_ID_CLASS i := by
  have hst : (s.setPhase (8 * set + slot) .started).capSt = 0 := by simpa [State.capSt] using hidle
  have hrun : exec (.captureWaveform set slot) s = _ := congrArg Outcome.next (State.command_ready hset hslot hready hbits _)
  dsimp only at hrun
  rw [if_neg (by simp [hst]), hon, if_neg (by decide)] at hrun
  refine ⟨_, hrun, ?_, ?_, ?_, fun i => ?_⟩ <;> simp [State.stand, State.dropStanding, State.setPhase]

/-! ### A record of 65 words -/

/-- RENEW_LEASE of partner 1 under tag 1, with the check value of a slot without words. -/
def repeatedFlight : InFlight :=
  { pkt := { init := 0, op := 0x02, flags := 0, pid := 1, ver := 1, tag := 1, len := 0, epoch := 0,
             crc := crc32c ((State.reset.slotBytes 15).take 12), payload := [], order := 0 },
    phase := .intake, began := 0, passed := 0 }

/-- The record of that packet with a reply of 65 words, one more than a reply slot has. -/
def overlongRecord : TagRec := { tag := 1, crc := repeatedFlight.pkt.crc, reply := List.replicate 65 (256 * stBusy) }

/-- A packet of partner 2. -/
def secondPacket (op : Nat) (payload : List Nat) : Packet :=
  { init := 0, op := op, flags := 0, pid := 2, ver := 1, tag := 1, len := payload.length, epoch := 0, crc := 0, payload := payload,
    order := 0 }

/-- A state that no run reaches: partner 1 has the overlong record, and its last slot repeats the packet and waits for intake, while a
packet of partner 2 stands ready to execute in the slot after it. -/
def overlongState (op : Nat) (payload : List Nat) : State :=
  { State.reset with
    fields := [(.CMD_PART_ID_CLASS, [(1, 5)])]
    cmd := { CmdState.reset with
      partners := [(1, { Partner.empty with tags := [overlongRecord] })]
      inflight := [(15, repeatedFlight), (16, { pkt := secondPacket op payload, phase := .taken, began := 0, passed := 0 })] } }

theorem overlongState_repeats (op : Nat) (payload : List Nat) :
    (overlongState op payload).Repeats 15 repeatedFlight overlongRecord where
  registered := by decide
  tagged := by decide
  sealed := rfl
  passes := rfl
  recorded := rfl
  same := rfl

/-- The answer to the second packet does not keep its status: the repeat of the first is answered next. -/
theorem overlongState_overwritten {op : Nat} {payload : List Nat} {u : State} {k : Nat} (hk : k = 16)
    (hslots : u.cmd.slotMem = (overlongState op payload).cmd.slotMem)
    (hpartners : u.cmd.partners = (overlongState op payload).cmd.partners)
    (hinflight : u.cmd.inflight = ((overlongState op payload).setPhase k .started).cmd.inflight)
    (hclass : u.getF .CMD_PART_ID_CLASS 1 = (overlongState op payload).getF .CMD_PART_ID_CLASS 1) (st : Nat)
    (reply : List Nat) :
    Tbl.get 0 (u.reply k st reply).serveIntake.cmd.replyMem (64 * k) = 256 * stBusy := by
  subst hk
  have hrepeats : u.Repeats 15 repeatedFlight overlongRecord :=
    (overlongState_repeats op payload).congr hslots (by rw [State.partner, hpartners]; rfl) hclass
  rw [hrepeats.overwritesNext hinflight rfl rfl (by decide) (by simp [overlongRecord]) st reply]
  rfl

/-! ### The statements -/

/-- TELEMETRY_SETUP with a SIZE_LOG2 of 0. -/
def smallRing : List Nat := List.replicate 24 0

/-- Refutes O30: the clauses of TELEMETRY_SETUP bound the recorded replies nowhere, and where one is longer than a slot, the repeat of
its packet overwrites the status in the next slot. -/
theorem not_telemetryRunsItsRing : ¬ Obligations.TelemetryRunsItsRing := by
  unfold Obligations.TelemetryRunsItsRing
  rintro ⟨-, -, -, -, -, -, -, -, -, -, -, -, -, hsize⟩
  obtain ⟨t, ht, -, hstatus, -⟩ := hsize (overlongState 0x40 smallRing) 2 0 (secondPacket 0x40 smallRing) (by decide) (by decide)
    rfl (by decide) (by decide)
  have hrun := execTelemetrySetup_badSize (s := overlongState 0x40 smallRing) (set := 2) (slot := 0)
    (p := secondPacket 0x40 smallRing) (by decide) (by decide) rfl (by decide) (by decide)
  have hword : Tbl.get 0 t.cmd.replyMem (64 * (8 * 2 + 0)) = 256 * stBusy := by
    rw [← Outcome.next.inj (hrun.symm.trans ht)]
    exact overlongState_overwritten (op := 0x40) (payload := smallRing) (by decide) (by rfl) (by rfl) (by rfl) (by simp) _ _
  rw [hword] at hstatus
  exact absurd hstatus (by decide)

/-- CAPTURE_WAVEFORM of one channel, of KIND 1. -/
def oneChannel : List Nat := List.replicate 26 0 ++ [1] ++ List.replicate 29 0

/-- Refutes O31: the clause of CAPTURE_WAVEFORM bounds the recorded replies nowhere either, and the repeat overwrites the status of the
capture that stays pending. -/
theorem not_captureRecordsAndDumps : ¬ Obligations.CaptureRecordsAndDumps := by
  unfold Obligations.CaptureRecordsAndDumps
  rintro ⟨-, -, -, -, -, -, -, -, -, -, hcapture⟩
  obtain ⟨t, ht, -, -, -, -, hstatus⟩ := hcapture (overlongState 0x41 oneChannel) 2 0 (secondPacket 0x41 oneChannel) (by decide)
    (by decide) rfl rfl (by decide) (by decide)
  obtain ⟨u, hrun, hslots, hpartners, hinflight, hclass⟩ := execCaptureWaveform_pending (s := overlongState 0x41 oneChannel)
    (set := 2) (slot := 0) (p := secondPacket 0x41 oneChannel) (by decide) (by decide) rfl rfl (by decide) (by decide)
  have hword : Tbl.get 0 t.cmd.replyMem (64 * (8 * 2 + 0)) = 256 * stBusy := by
    rw [← Outcome.next.inj (hrun.symm.trans ht)]
    exact overlongState_overwritten (by decide) hslots hpartners hinflight (hclass 1) stPending []
  rw [hword] at hstatus
  exact absurd hstatus (by decide)

end Sys2Proof.Machine

/-! What the commands of partners, packets, the herd, epochs and firmware leave unchanged (R273, R277, R283, R337, R339, R348, R354,
R355, R373, R376, R380, R384). -/

namespace Sys2Proof.Machine
open Host (Outcome)

/-! ### Parts outside a list -/

/-- Every part, in the order of the state's fields. -/
def Part.all : List Part :=
  [.time, .cfg, .raiseQ, .out, .freeCtr, .flt, .phs, .dom, .eng, .start, .est, .bud, .thm, .hrd, .tlm, .cmd, .boot, .adc, .fw, .lt]

/-- The parts of `l` outside `ps` are the same in two states: a conjunction that computes from the two lists. -/
def Part.sameOutside (ps : List Part) (s t : State) (l : List Part) : Prop :=
  match l with
  | [] => True
  | p :: r => (bif ps.any (fun q => q.ctorIdx == p.ctorIdx) then True else p.same s t) ∧ Part.sameOutside ps s t r

theorem Part.eq_of_ctorIdx_eq {p q : Part} (h : q.ctorIdx = p.ctorIdx) : q = p := by
  rw [← Part.ofNat_ctorIdx q, h, Part.ofNat_ctorIdx]

theorem Part.sameOutside.same {ps l : List Part} {s t : State} (h : Part.sameOutside ps s t l) {p : Part} (hl : p ∈ l)
    (hp : p ∉ ps) : p.same s t := by
  induction l with
  | nil => exact absurd hl List.not_mem_nil
  | cons q r ih =>
    obtain ⟨hq, hr⟩ := h
    rcases List.mem_cons.1 hl with rfl | hl
    · have hany : ps.any (fun q => q.ctorIdx == p.ctorIdx) = false := by
        rw [List.any_eq_false]
        intro q hmem hidx
        exact hp (Part.eq_of_ctorIdx_eq (beq_iff_eq.1 hidx) ▸ hmem)
      rwa [hany] at hq
    · exact ih hr hl

theorem Part.same_of_outside {ps : List Part} {s t : State} (h : Part.sameOutside ps s t Part.all) (p : Part) (hp : p ∉ ps) :
    p.same s t :=
  h.same (by cases p <;> decide) hp

/-! ### Changes put together -/

theorem State.onlyChanges.refl (s : State) (fs : List Fld) (ps : List Part) : s.onlyChanges s fs ps :=
  ⟨fun _ _ _ => rfl, fun p _ => by cases p <;> rfl⟩

theorem State.onlyChanges.trans {s t u : State} {fs : List Fld} {ps : List Part} (h : s.onlyChanges t fs ps)
    (h' : t.onlyChanges u fs ps) : s.onlyChanges u fs ps := by
  refine ⟨fun f i hf => (h'.1 f i hf).trans (h.1 f i hf), fun p hp => ?_⟩
  have hst := h.2 p hp
  have htu := h'.2 p hp
  cases p <;> exact Eq.trans htu hst

theorem State.onlyChanges.mono {s t : State} {fs gs : List Fld} {ps qs : List Part} (h : s.onlyChanges t fs ps)
    (hfs : fs ⊆ gs) (hps : ps ⊆ qs) : s.onlyChanges t gs qs :=
  ⟨fun f i hf => h.1 f i fun hm => hf (hfs hm), fun p hp => h.2 p fun hm => hp (hps hm)⟩

/-- A packet's command changes what its run changes, and answers. -/
theorem State.onlyChanges.command {s : State} {set slot op : Nat} {masks : List Nat} {run : Packet → State → State}
    {fs : List Fld} {ps : List Part} (hfs : replyFields ⊆ fs) (hout : .out ∈ ps) (hcmd : .cmd ∈ ps)
    (h : ∀ (p : Packet) (t : State), t.onlyChanges (run p t) fs ps) : s.onlyChanges (s.command set slot op masks run) fs ps := by
  refine ⟨fun f i hf => State.command_getF _ _ _ _ _ _ _ _ (fun hr => hf (hfs hr)) fun p t => (h p t).1 f i hf, fun p hp => ?_⟩
  have hkeep : ∀ q t, p.same t (run q t) := fun q t => (h q t).2 p hp
  cases p
  case out => exact absurd hout hp
  case cmd => exact absurd hcmd hp
  all_goals simp only [Part.same] at hkeep ⊢
  all_goals simp [hkeep]

/-- A lock-link message changes what taking it changes, and its check-value job. -/
theorem State.onlyChanges.rxLock {s : State} {p typ : Nat} {m : LockMsg} {f : State → State}
    {fs : List Fld} {ps : List Part} (hfs : dutyFields ⊆ fs) (hout : .out ∈ ps) (hhrd : .hrd ∈ ps)
    (h : ∀ t : State, t.onlyChanges (f t) fs ps) : s.onlyChanges (s.rxLock p typ m f) fs ps := by
  refine ⟨fun g i hg => State.rxLock_getF _ _ _ _ _ _ _ (fun hr => hg (hfs hr)) fun t => (h t).1 g i hg, fun q hq => ?_⟩
  have hkeep : ∀ t, q.same t (f t) := fun t => (h t).2 q hq
  cases q
  case out => exact absurd hout hq
  case hrd => exact absurd hhrd hq
  all_goals simp only [Part.same] at hkeep ⊢
  all_goals simp [hkeep]

/-! ### Operations of the staging store and its answers -/

theorem State.reply_frame (s : State) (k st : Nat) (payload : List Nat) :
    s.onlyChanges (s.reply k st payload) replyFields [.out, .cmd] := by
  refine ⟨fun f i hf => ?_, by simp [Part.forall_iff, Part.same]⟩
  simp only [replyFields, List.mem_cons, not_or] at hf
  simp [hf]

theorem State.stageAll_frame {s t : State} {init n : Nat} {l : List Nat} (h : s.stageAll init l n = .ok t) :
    s.onlyChanges t [.CMD_STATUS_QUEUED, .CMD_STATUS_STORE_USED] [.cmd] :=
  ⟨fun f i hf => State.stageAll_getF s init l n t h f i hf,
    by simp [Part.forall_iff, Part.same, State.stageAll_parts s init l n t h]⟩

theorem State.commitSet_frame {s : State} {init expectN : Nat} {retune dry direct : Bool} {part slot : Option Nat}
    {q : State × Run} (h : s.commitSet init retune dry expectN direct part slot = some q) :
    s.onlyChanges q.1 rampFields [.cmd] :=
  ⟨fun f i hf => State.commitSet_getF _ _ _ _ _ _ _ _ _ h f i hf,
    by simp [Part.forall_iff, Part.same, State.commitSet_parts _ _ _ _ _ _ _ _ _ h]⟩
/-- STAGE_CONFIG: whatever is cleared, staged or refused stands in the store. -/
theorem execStageConfig_frame {set slot : Nat} {s t : State} {fs : List Fld} (hw : (Instr.stageConfig set slot).writes = some fs)
    (h : execStageConfig set slot s = .next t) : s.onlyChanges t fs (Instr.stageConfig set slot).parts := by
  cases hw
  obtain rfl := Outcome.next.inj h
  refine .command (List.subset_append_right _ _) (by simp [Instr.parts]) (by simp [Instr.parts]) fun p s => ?_
  have hanswer : ∀ (u : State) k st payload, u.onlyChanges (u.reply k st payload)
      ([.CMD_EVENT_STORE_FULL, .CMD_STATUS_QUEUED, .CMD_STATUS_STORE_USED] ++ replyFields) (Instr.stageConfig set slot).parts :=
    fun u k st payload => (u.reply_frame k st payload).mono (List.subset_append_right _ _) (by simp [Instr.parts])
  have hclear : s.onlyChanges (if leAt p.payload 1 1 = 1 then s.putSet p.init { s.stagedSet p.init with entries := [] } else s)
      [.CMD_STATUS_QUEUED, .CMD_STATUS_STORE_USED] [.cmd] := by
    refine ⟨fun f i hf => ?_, by simp [Part.forall_iff, Part.same]⟩
    simp only [List.mem_cons, not_or] at hf
    simp [hf]
  have hfull : s.onlyChanges (s.storeFull set) [.CMD_EVENT_STORE_FULL] [.raiseQ] := by
    refine ⟨fun f i hf => ?_, by simp [Part.forall_iff, Part.same]⟩
    simp only [List.mem_cons, not_or] at hf
    simp [hf]
  dsimp only
  split
  · exact hanswer s _ _ _
  · split
    · next u hu =>
      refine .trans (.mono (hclear.trans (State.stageAll_frame hu)) ?_ ?_) (hanswer u _ _ _)
      · simp
      · simp [Instr.parts]
    · refine .trans (hfull.mono ?_ ?_) (hanswer _ _ _ _)
      · simp
      · simp [Instr.parts]
    · exact hanswer s _ _ _

theorem State.enterApply_frame (s : State) (r : Run) : s.onlyChanges (s.enterApply r) rampFields [.cmd] := by
  refine ⟨fun f i hf => ?_, by simp [Part.forall_iff, Part.same]⟩
  simp only [rampFields, List.mem_cons, not_or] at hf
  simp [hf]

theorem State.showDirect_frame (s : State) (init st id : Nat) : s.onlyChanges (s.showDirect init st id)
    [.CMD_COMMIT_ST_INITIATOR, .CMD_COMMIT_ST_RUN_ID, .CMD_COMMIT_ST_STATUS] [] := by
  refine ⟨fun f i hf => ?_, by simp [Part.forall_iff, Part.same]⟩
  simp only [List.mem_cons, not_or] at hf
  simp [hf]

/-- COMMIT_EPOCH: a set becomes a run or a halted run goes on, and the packet is answered. -/
theorem execCommitEpoch_frame {set slot : Nat} {s t : State} {fs : List Fld} (hw : (Instr.commitEpoch set slot).writes = some fs)
    (h : execCommitEpoch set slot s = .next t) : s.onlyChanges t fs (Instr.commitEpoch set slot).parts := by
  cases hw
  obtain rfl := Outcome.next.inj h
  refine .command (List.subset_append_left _ _) (by simp [Instr.parts]) (by simp [Instr.parts]) fun p s => ?_
  have hanswer : ∀ (u : State) k st payload,
      u.onlyChanges (u.reply k st payload) (replyFields ++ rampFields) (Instr.commitEpoch set slot).parts :=
    fun u k st payload => (u.reply_frame k st payload).mono (List.subset_append_left _ _) (by simp [Instr.parts])
  have hramp : ∀ {u v : State}, u.onlyChanges v rampFields [.cmd] →
      u.onlyChanges v (replyFields ++ rampFields) (Instr.commitEpoch set slot).parts :=
    fun hu => hu.mono (List.subset_append_right _ _) (by simp [Instr.parts])
  dsimp only
  split
  · split
    · exact hanswer s _ _ _
    · exact (hanswer s _ _ _).trans (hramp (State.enterApply_frame _ _))
  · split
    · exact hanswer s _ _ _
    · next u r hu => exact (hramp (State.commitSet_frame hu)).trans (hanswer u _ _ _)

/-- GO: as COMMIT_EPOCH, with the answer in the direct commit's status. -/
theorem execCmdCommit_frame {init value : Nat} {s t : State} {fs : List Fld} (hw : (Instr.cmdCommit init value).writes = some fs)
    (h : execCmdCommit init value s = .next t) : s.onlyChanges t fs (Instr.cmdCommit init value).parts := by
  cases hw
  obtain rfl := Outcome.next.inj h
  have hshow : ∀ (u : State) st id, u.onlyChanges (u.showDirect init st id)
      ([.CMD_COMMIT_ST_INITIATOR, .CMD_COMMIT_ST_RUN_ID, .CMD_COMMIT_ST_STATUS] ++ rampFields) (Instr.cmdCommit init value).parts :=
    fun u st id => (u.showDirect_frame init st id).mono (List.subset_append_left _ _) (List.nil_subset _)
  have hramp : ∀ {u v : State}, u.onlyChanges v rampFields [.cmd] → u.onlyChanges v
      ([.CMD_COMMIT_ST_INITIATOR, .CMD_COMMIT_ST_RUN_ID, .CMD_COMMIT_ST_STATUS] ++ rampFields) (Instr.cmdCommit init value).parts :=
    fun hu => hu.mono (List.subset_append_right _ _) (by simp [Instr.parts])
  split
  · exact .refl s _ _
  · split
    · split
      · exact hshow s _ _
      · exact (hshow s _ _).trans (hramp (State.enterApply_frame _ _))
    · split
      · exact hshow s _ _
      · next u r hu => exact (hramp (State.commitSet_frame hu)).trans (hshow u _ _)

/-! ### The families -/

/-- The commands of partners and packets. REGISTER_PARTNER looks for a free set, so its run splits below the packet. -/
theorem packets_frame {c : Instr} {s t : State} {fs : List Fld} (hc : c.family = .packets) (hw : c.writes = some fs)
    (h : exec c s = .next t) : s.onlyChanges t fs c.parts := by
  cases c
  all_goals try exact Family.noConfusion hc
  all_goals cases hw
  all_goals
    obtain rfl := Outcome.next.inj h
    clear h
  case' registerPartner =>
    refine .command (fun _ hr => by simp [hr]) (by simp [Instr.parts]) (by simp [Instr.parts]) fun p s => ?_
  all_goals try dsimp only
  -- one goal for each branch of a command
  all_goals repeat' split
  all_goals refine ⟨fun f i hf => ?_, Part.same_of_outside (by
    dsimp only [Part.sameOutside, Part.all, Instr.parts, Part.same, List.any, reduceCtorIdx, Nat.reduceBEq, Bool.or, cond]
    simp (maxDischargeDepth := 60))⟩
  -- some commands list no field
  all_goals
    try simp only [exclFields, settleFields, replyFields, domEnterFields, idleFields, rampFields,
      List.cons_append, List.nil_append, List.mem_cons, not_or] at hf
  all_goals try simp (maxDischargeDepth := 60) [hf]

/-- The herd. SYNC is taken only with a measured delay, so its run splits below the message. -/
theorem herd_frame {c : Instr} {s t : State} {fs : List Fld} (hc : c.family = .herd) (hw : c.writes = some fs)
    (h : exec c s = .next t) : s.onlyChanges t fs c.parts := by
  cases c
  all_goals try exact Family.noConfusion hc
  all_goals cases hw
  all_goals
    obtain rfl := Outcome.next.inj h
    clear h
  case' syncReceived => refine .rxLock (by decide) (by simp [Instr.parts]) (by simp [Instr.parts]) fun s => ?_
  all_goals try dsimp only
  -- one goal for each branch of a command
  all_goals repeat' split
  all_goals refine ⟨fun f i hf => ?_, Part.same_of_outside (by
    dsimp only [Part.sameOutside, Part.all, Instr.parts, Part.same, List.any, reduceCtorIdx, Nat.reduceBEq, Bool.or, cond]
    simp (maxDischargeDepth := 60))⟩
  all_goals
    try simp only [exclFields, offerFields, dutyFields, replyFields, idleFields,
      List.cons_append, List.nil_append, List.mem_cons, not_or] at hf
  all_goals try simp (maxDischargeDepth := 60) [hf]

/-- The commands of staged sets and runs. -/
theorem epochs_frame {c : Instr} {s t : State} {fs : List Fld} (hc : c.family = .epochs) (hw : c.writes = some fs)
    (h : exec c s = .next t) : s.onlyChanges t fs c.parts := by
  cases c
  all_goals try exact Family.noConfusion hc
  case stageConfig set slot => exact execStageConfig_frame hw h
  case commitEpoch set slot => exact execCommitEpoch_frame hw h
  case cmdCommit init value => exact execCmdCommit_frame hw h
  all_goals cases hw
  all_goals
    obtain rfl := Outcome.next.inj h
    clear h
  case' abortRetune =>
    refine .command (fun _ hr => by simp [hr]) (by simp [Instr.parts]) (by simp [Instr.parts]) fun p s => ?_
  all_goals try dsimp only
  -- one goal for each branch of a command
  all_goals repeat' split
  all_goals refine ⟨fun f i hf => ?_, Part.same_of_outside (by
    dsimp only [Part.sameOutside, Part.all, Instr.parts, Part.same, List.any, reduceCtorIdx, Nat.reduceBEq, Bool.or, cond]
    simp (maxDischargeDepth := 60))⟩
  -- some commands list no field
  all_goals
    try simp only [replyFields, rampFields, List.cons_append, List.nil_append, List.mem_cons, not_or] at hf
  all_goals try simp (maxDischargeDepth := 60) [hf]

/-- The commands of images and processors. -/
theorem firmware_frame {c : Instr} {s t : State} {fs : List Fld} (hc : c.family = .firmware) (hw : c.writes = some fs)
    (h : exec c s = .next t) : s.onlyChanges t fs c.parts := by
  cases c
  all_goals try exact Family.noConfusion hc
  all_goals cases hw
  all_goals
    obtain rfl := Outcome.next.inj h
    clear h
  case' loadImage | activateImage =>
    refine .command (fun _ hr => by simp [hr]) (by simp [Instr.parts]) (by simp [Instr.parts]) fun p s => ?_
  all_goals try dsimp only
  -- one goal for each branch of a command
  all_goals repeat' split
  all_goals refine ⟨fun f i hf => ?_, Part.same_of_outside (by
    dsimp only [Part.sameOutside, Part.all, Instr.parts, Part.same, List.any, reduceCtorIdx, Nat.reduceBEq, Bool.or, cond]
    simp (maxDischargeDepth := 60))⟩
  -- some commands list no field
  all_goals
    try simp only [cpFields, replyFields, rampFields, List.cons_append, List.nil_append, List.mem_cons, not_or] at hf
  all_goals try simp (maxDischargeDepth := 60) [hf]

/-- Settles O57, family by family. -/
theorem packetsAndHerdFrame : Obligations.PacketsAndHerdFrame := by
  rintro c s t fs (hc | hc) hw h
  · exact packets_frame hc hw h
  · exact herd_frame hc hw h

/-- Settles O59, family by family. -/
theorem epochsAndFirmwareFrame : Obligations.EpochsAndFirmwareFrame := by
  rintro c s t fs (hc | hc) hw h
  · exact epochs_frame hc hw h
  · exact firmware_frame hc hw h

end Sys2Proof.Machine

/-! A command to one check-value unit leaves the other units (R328 to R330, R332). -/

namespace Sys2Proof.Machine
open Host (Outcome)

/-- The fields of a unit's check and of its settings. -/
def unitFields : List Fld :=
  [.CRC_STATUS_STATE, .CRC_STATUS_MATCH, .CRC_STATUS_MISMATCH, .CRC_STATUS_MISMATCH_COUNT, .CRC_STATUS_DROPPED,
    .CRC_VALUE_VALUE, .CRC_RESULT_RESULT, .CRC_EXPECT_EXPECT, .CRC_CFG_WIDTH_M1, .CRC_CFG_CMP_EN, .CRC_CFG_IRQ_EN,
    .CRC_CFG_REFIN, .CRC_CFG_REFOUT, .CRC_CFG_FINAL_INV, .CRC_POLY_POLY, .CRC_INIT_INIT]

/-- From `s` to `t` unit `v` stands as it did. -/
def State.KeepsUnit (s : State) (v : Nat) (t : State) : Prop := ∀ f ∈ unitFields, t.getF f v = s.getF f v

theorem State.KeepsUnit.refl (s : State) (v : Nat) : s.KeepsUnit v s := fun _ _ => rfl

theorem State.KeepsUnit.trans {s t w : State} {v : Nat} (h : s.KeepsUnit v t) (h' : t.KeepsUnit v w) : s.KeepsUnit v w :=
  fun f hf => (h' f hf).trans (h f hf)

section
variable {u v : Nat} (s : State)

theorem State.KeepsUnit.setF (h : v ≠ u) (f : Fld) (x : Nat) : s.KeepsUnit v (s.setF f u x) :=
  fun f' _ => s.getF_setF_item f f' x h

/-- Fields outside a unit's are no matter. -/
theorem State.KeepsUnit.setF_other {f : Fld} (h : f ∉ unitFields) (i x : Nat) : s.KeepsUnit v (s.setF f i x) :=
  fun _ hf => s.getF_setF_fld i v x fun heq => h (heq ▸ hf)

theorem State.KeepsUnit.when {s t : State} (h : s.KeepsUnit v t) (c : Bool) {f : State → State}
    (hf : ∀ w : State, w.KeepsUnit v (f w)) : s.KeepsUnit v (t.when c f) := by
  cases c
  · exact h
  · exact h.trans (hf t)

theorem State.KeepsUnit.ite {s t w : State} (c : Prop) [Decidable c] (ht : s.KeepsUnit v t) (hw : s.KeepsUnit v w) :
    s.KeepsUnit v (if c then t else w) := by
  split
  · exact ht
  · exact hw

theorem State.KeepsUnit.crcIrq (duty : Nat) : s.KeepsUnit v (s.crcIrq duty) :=
  .ite _ (fun _ _ => rfl) (.ite _ (.refl s v) fun _ _ => rfl)

theorem State.KeepsUnit.crcMismatch (h : v ≠ u) (duty : Nat) : s.KeepsUnit v (s.crcMismatch u duty) :=
  .when ((State.KeepsUnit.setF s h _ _).trans (.setF_other _ (by decide) _ _)) _ fun w => .crcIrq w duty

theorem State.KeepsUnit.crcOutcome (h : v ≠ u) (duty : Nat) (same : Bool) : s.KeepsUnit v (s.crcOutcome u duty same) :=
  .ite _ (.when ((State.KeepsUnit.setF s h _ _).trans (.setF _ h _ _)) _ fun w => .crcMismatch w h duty)
    ((State.KeepsUnit.setF s h _ _).trans (.setF _ h _ _))

theorem State.KeepsUnit.crcGo (h : v ≠ u) (x : Nat) : s.KeepsUnit v (s.crcGo u x) :=
  .ite _ (.refl s v) ((State.KeepsUnit.setF s h _ _).trans (.setF _ h _ _))

theorem State.KeepsUnit.crcIdle (h : v ≠ u) : s.KeepsUnit v (s.crcIdle u) :=
  .ite _ (.refl s v) ((State.KeepsUnit.setF s.fresh.2 h _ _).trans (.setF _ h _ _))

theorem State.KeepsUnit.crcFeed (h : v ≠ u) (l : List Nat) : s.KeepsUnit v (s.crcFeed u l) :=
  .ite _ (.refl s v) (.ite _ (.setF s h _ _) (.setF s h _ _))

theorem State.KeepsUnit.crcEnd (h : v ≠ u) : s.KeepsUnit v (s.crcEnd u) :=
  .ite _ (.setF s h _ _)
    (.ite _ (((State.KeepsUnit.setF s h _ _).trans (.setF _ h _ _)).trans (.crcOutcome _ h _ _)) (.refl s v))

theorem State.KeepsUnit.crcHide (h : v ≠ u) : s.KeepsUnit v (s.crcHide u) :=
  .when (.refl s v) _ fun w => (State.KeepsUnit.setF w h _ _).trans (.setF _ h _ _)

theorem State.KeepsUnit.crcSettings (h : v ≠ u) (reg x : Nat) : s.KeepsUnit v (s.crcSettings u reg x) := by
  unfold State.crcSettings
  split
  · exact ((((((State.KeepsUnit.setF s h _ _).trans (.setF _ h _ _)).trans (.setF _ h _ _)).trans (.setF _ h _ _)).trans
      (.setF _ h _ _)).trans (.setF _ h _ _)).trans (.crcHide _ h)
  · exact .setF s h _ _
  · exact .setF s h _ _

/-- A write to a unit is taken, or is refused and recorded. -/
theorem State.KeepsUnit.crcWrite (init addr : Nat) (same : Bool) {f : State → State} (hf : s.KeepsUnit v (f s)) :
    s.KeepsUnit v (s.crcWrite init u addr same f) :=
  .ite _ (.refl s v) (.ite _ (.ite _ hf fun _ _ => rfl) (.ite _ (.ite _ (.refl s v) fun _ _ => rfl) hf))

end

/-- Settles O51: each command writes at its own unit's item, where it is taken; beside it, a mismatch marks the one event register. -/
theorem checkValueUnitsAreApart : Obligations.CheckValueUnitsAreApart := by
  intro s t init u v x reg c hv hc h
  show s.KeepsUnit v t
  simp only [List.mem_cons, List.not_mem_nil, or_false] at hc
  rcases hc with rfl | rfl | rfl | rfl | rfl | rfl | rfl <;> cases h
  · exact .crcWrite s init _ _ (.crcGo s hv _)
  · exact .crcWrite s init _ _ (.crcEnd s hv)
  · exact .crcWrite s init _ _ (.crcIdle s hv)
  · exact .crcWrite s init _ _ (.crcFeed s hv _)
  · exact .crcWrite s init _ _ (.crcFeed s hv _)
  · exact .crcWrite s init _ _ (.crcGo s hv _)
  · exact .ite _ (.refl s v) (.crcWrite s init _ _ (.ite _ (.crcSettings s hv reg x) (.setF s hv _ _)))

end Sys2Proof.Machine

/-! A registration beside another, and an epoch off the medium tick (R338, R343, R345, R358). -/

namespace Sys2Proof.Machine
open Host (Outcome)

/-- REGISTER_PARTNER of initiator 0 with a lease of 3 s. -/
def registration : Packet :=
  { init := 0, op := 0x01, flags := 0, pid := 0, ver := 1, tag := 1, len := 8, epoch := 0, crc := 0, payload := [3, 0, 0, 0, 0, 0, 0, 0],
    order := 0 }

/-- A packet of initiator 1 whose length is no multiple of 4. -/
def shortRegistration : Packet := { registration with init := 1, len := 6, payload := [3, 0, 0, 0, 0, 0], order := 1 }

/-- Intake has taken the registration in slot 0 of the registration set, and the short packet waits in slot 1. -/
def registeringState : State :=
  { State.reset with
    fields := [(.CMD_PRIV_CLASS, [(0, 5)])]
    cmd := { CmdState.reset with
      latch := [(0, 0), (1, 1)], orderCtr := 2
      inflight := [(0, { pkt := registration, phase := .taken, began := 0, passed := 0 }),
        (1, { pkt := shortRegistration, phase := .intake, began := 0, passed := 0 })] } }

/-- A packet whose length is no multiple of 4 fails the first check (R341). -/
theorem State.takePacket_of_oddLength (s : State) (k : Nat) {f : InFlight} (hlen : f.pkt.len % 4 ≠ 0) :
    s.takePacket k f = State.failReply { s with cmd := { s.cmd with intakeTurn := k / 8 } } k f.pkt stBadLength [] := by
  simp [State.takePacket, State.accepted, State.firstCheck, hlen]

/-- A failed packet of the registration set leaves its slot to be read (R338, R341). -/
theorem State.failReply_registration (s : State) {k : Nat} (hk : k / 8 = 0) (p : Packet) (st : Nat) (payload : List Nat) :
    (s.failReply k p st payload).cmd.readBack = s.cmd.readBack ++ [k] ∧
      (s.failReply k p st payload).cmd.inflight = s.cmd.inflight.erase k := by
  constructor <;> simp [State.failReply, State.answerSlot, State.writeReply, hk]

/-- So does a final reply (R338, R340). -/
theorem State.replyRaw_registration {s : State} {k st : Nat} {g : InFlight} (hpkt : s.slotPkt k = some g) (hk : k / 8 = 0)
    (hfinal : statusFinal st = true) (payload : List Nat) :
    (s.replyRaw k st payload).cmd.readBack = s.cmd.readBack ++ [k] := by
  simp [State.replyRaw, hpkt, hfinal, hk, State.writeReply]

/-- A registration that waits alone with a length that is no multiple of 4 is answered, and its slot waits to be read. -/
theorem State.serveIntake_oddLength {s : State} {k : Nat} {f : InFlight} (hk : k / 8 = 0) (hinflight : s.cmd.inflight = [(k, f)])
    (hwaits : f.phase = .intake) (hop : opHardware f.pkt.op = true) (hlen : f.pkt.len % 4 ≠ 0) :
    s.serveIntake.cmd.readBack = s.cmd.readBack ++ [k] ∧ s.serveIntake.cmd.inflight = [] := by
  have hnext := State.nextTaken_of_head hinflight hwaits hop (by simp)
  have hserve : s.serveIntake = s.takePacket k f := by
    rw [State.serveIntake, hinflight, List.length_singleton, State.serveN, hnext]
    rfl
  obtain ⟨hread, hleft⟩ :=
    State.failReply_registration { s with cmd := { s.cmd with intakeTurn := k / 8 } } hk f.pkt stBadLength []
  rw [hserve, State.takePacket_of_oddLength s k hlen]
  exact ⟨hread, hleft.trans (by simp [hinflight, Tbl.erase])⟩

/-- The final reply to the registration lets intake take the short packet, so that two slots wait to be read. -/
theorem State.reply_beside_shortRegistration {s : State} (hread : s.cmd.readBack = [])
    (hinflight : s.cmd.inflight = (registeringState.setPhase 0 .started).cmd.inflight) {st : Nat}
    (hfinal : statusFinal st = true) (payload : List Nat) : (s.reply 0 st payload).serveIntake.cmd.readBack = [0, 1] := by
  have hpkt : s.slotPkt 0 = some { pkt := registration, phase := .started, began := 0, passed := 0 } := by
    rw [State.slotPkt, hinflight]
    rfl
  have hreply := State.replyRaw_registration hpkt rfl hfinal payload
  have hleft : (s.replyRaw 0 st payload).cmd.inflight =
      [(1, { pkt := shortRegistration, phase := .intake, began := 0, passed := 0 })] := by
    rw [(State.replyRaw_cmd hpkt st payload).2.2, hfinal, hinflight]
    rfl
  obtain ⟨hboth, hnone⟩ := State.serveIntake_oddLength rfl hleft rfl rfl (by decide)
  have hdone : (s.reply 0 st payload).serveIntake = s.reply 0 st payload := by
    rw [State.serveIntake, State.reply, hnone]
    rfl
  rw [hdone, State.reply, hboth, hreply, hread]
  rfl

/-- REGISTER_PARTNER of a permitted initiator with a free set is answered OK, in a state that has the slots as they were (R346). -/
theorem execRegisterPartner_registers {s : State} {set slot q : Nat} {p : Packet} (hset : set < 64) (hslot : slot < 8)
    (hready : s.ready (8 * set + slot) 0x01 = some p) (hbits : firstBad ([255, 255, 3, 0] ++ whole 4) p.payload = none)
    (hlow : 2 ≤ leAt p.payload 0 2) (hhigh : leAt p.payload 0 2 ≤ 60) (hcls : s.initClass p.init ≠ 0)
    (hfree : ((List.range 64).drop 1).find? (fun q => decide (s.partSt q = 0)) = some q) :
    ∃ (u : State) (bytes : List Nat),
      exec (.registerPartner set slot) s = .next ((u.reply (8 * set + slot) stOk bytes).serveIntake) ∧
      u.cmd.readBack = s.cmd.readBack ∧ u.cmd.inflight = (s.setPhase (8 * set + slot) .started).cmd.inflight := by
  have hcls' : (s.setPhase (8 * set + slot) .started).initClass p.init = s.initClass p.init := rfl
  have hfree' : ((List.range 64).drop 1).find?
      (fun q => decide ((s.setPhase (8 * set + slot) .started).partSt q = 0)) = some q := hfree
  have hrun : exec (.registerPartner set slot) s = _ :=
    congrArg Outcome.next (State.command_ready hset hslot hready hbits _)
  dsimp only at hrun
  rw [if_neg (show leAt p.payload 0 2 ≠ 0 by omega), if_neg (by omega), hcls', if_neg hcls, hfree'] at hrun
  exact ⟨_, _, hrun, by simp [State.setPartner, State.setPhase], by simp [State.setPartner]⟩

/-- Refutes O32: the clause of REGISTER_PARTNER has the read-back slots end with its own, and where another registration slot holds a
packet that fails a check of R341, that one is answered in the same step. -/
theorem not_partnersComeAndGo : ¬ Obligations.PartnersComeAndGo := by
  unfold Obligations.PartnersComeAndGo
  rintro ⟨-, -, -, -, -, -, -, -, -, hregister, -⟩
  obtain ⟨t, ht, -, -, -, -, -, -, -, hread⟩ := hregister registeringState 0 1 registration (by decide) rfl (by decide) (by decide)
    (by decide) (by decide) (by decide)
  obtain ⟨u, bytes, hrun, hempty, hinflight⟩ := execRegisterPartner_registers (s := registeringState) (set := 0) (slot := 0)
    (q := 1) (p := registration) (by decide) (by decide) rfl (by decide) (by decide) (by decide) (by decide) (by decide)
  rw [← Outcome.next.inj (hrun.symm.trans ht), State.reply_beside_shortRegistration hempty hinflight rfl] at hread
  exact absurd hread (by decide)

/-- The first epoch of a run: DIS_MS becomes 5. -/
def epochPiece : Piece := { entry := 0, fld := .DOM_EST_CFG_DIS_MS, item := 0, mask := 2 ^ Fld.width .DOM_EST_CFG_DIS_MS - 1, val := 5 }

/-- A run of that one epoch, in APPLY. -/
def applyingRun : Run :=
  { id := 1, retune := false, dry := false, expectN := 0, init := 0, direct := true, part := none, slot := none, entries := [],
    pieces := [epochPiece], epochs := [[epochPiece]], journal := [[]], abortSlot := none, abortHeld := false, undone := 0,
    back := false, settling := false, barred := false, appliedAt := 0 }

/-- The run in APPLY one tick after a medium tick. -/
def offTickState : State :=
  { State.reset with time := 1001, cmd := { CmdState.reset with runs := [applyingRun], runState := 2 } }

/-- Refutes O34: the clause of EPOCH_APPLY leaves the time open, and an epoch applies at medium ticks alone. -/
theorem not_stagedSetsBecomeRuns : ¬ Obligations.StagedSetsBecomeRuns := by
  unfold Obligations.StagedSetsBecomeRuns
  rintro ⟨-, -, -, -, -, -, -, -, -, -, -, -, happly, -⟩
  obtain ⟨t, ht, hstate, -⟩ := happly offTickState applyingRun [] epochPiece rfl rfl rfl rfl rfl rfl rfl rfl
  obtain rfl : offTickState = t := Outcome.next.inj ((rfl : .next offTickState = exec .epochApply offTickState).trans ht)
  exact absurd hstate (by decide)

end Sys2Proof.Machine

/-! Replies of images, mailboxes and faults after a recorded reply that is longer than a slot (R337, R345, R417, R431). -/

namespace Sys2Proof.Machine
open Host (Outcome)

/-- QUERY_IMAGE answers OK (R374). -/
theorem execQueryImage_answers {s : State} {set slot : Nat} {p : Packet} (hset : set < 64) (hslot : slot < 8)
    (hready : s.ready (8 * set + slot) 0x32 = some p) :
    ∃ bytes, exec (.queryImage set slot) s =
      .next (((s.setPhase (8 * set + slot) .started).reply (8 * set + slot) stOk bytes).serveIntake) :=
  ⟨_, congrArg Outcome.next (State.command_ready hset hslot hready rfl _)⟩

/-- FAULT_QUERY answers OK (R417). -/
theorem execFaultQuery_answers {s : State} {set slot : Nat} {p : Packet} (hset : set < 64) (hslot : slot < 8)
    (hready : s.ready (8 * set + slot) 0x50 = some p) (hbits : firstBad (whole 4) p.payload = none) :
    ∃ bytes, exec (.faultQuery set slot) s =
      .next (((s.setPhase (8 * set + slot) .started).reply (8 * set + slot) stOk bytes).serveIntake) :=
  ⟨_, congrArg Outcome.next (State.command_ready hset hslot hready hbits _)⟩

/-- The answer to the second packet, which has changed nothing else, does not keep its status. -/
theorem overlongState_answer (op : Nat) (payload : List Nat) (st : Nat) (bytes : List Nat) :
    Tbl.get 0 (((overlongState op payload).setPhase (8 * 2 + 0) .started).reply (8 * 2 + 0) st bytes).serveIntake.cmd.replyMem
      (64 * (8 * 2 + 0)) = 256 * stBusy :=
  overlongState_overwritten (op := op) (payload := payload) (by decide) (by rfl) (by rfl) (by rfl) (by rfl) st bytes

/-- Refutes O35: the clause of QUERY_IMAGE bounds the recorded replies nowhere, and where one is longer than a slot, the repeat of its
packet overwrites the status in the next slot. -/
theorem not_imagesLoadAndProcessorsRun : ¬ Obligations.ImagesLoadAndProcessorsRun := by
  unfold Obligations.ImagesLoadAndProcessorsRun
  rintro ⟨-, -, -, -, -, -, hquery, -⟩
  obtain ⟨t, ht, -, hstatus, -⟩ := hquery (overlongState 0x32 []) 2 0 (secondPacket 0x32 []) (by decide) (by decide) rfl
  obtain ⟨bytes, hrun⟩ := execQueryImage_answers (s := overlongState 0x32 []) (set := 2) (slot := 0) (p := secondPacket 0x32 [])
    (by decide) (by decide) rfl
  rw [← Outcome.next.inj (hrun.symm.trans ht), overlongState_answer] at hstatus
  exact absurd hstatus (by decide)

/-- FAULT_QUERY from record 0. -/
def fromFirstRecord : List Nat := [0, 0, 0, 0]

/-- Refutes O37: nor does the clause of FAULT_QUERY. -/
theorem not_faultsAreTakenAndRecorded : ¬ Obligations.FaultsAreTakenAndRecorded := by
  unfold Obligations.FaultsAreTakenAndRecorded
  rintro ⟨-, -, -, -, -, -, -, -, -, -, -, -, -, hquery, -⟩
  obtain ⟨t, ht, -, hstatus, -⟩ := hquery (overlongState 0x50 fromFirstRecord) 2 0 (secondPacket 0x50 fromFirstRecord) (by decide)
    (by decide) rfl (by decide)
  obtain ⟨bytes, hrun⟩ := execFaultQuery_answers (s := overlongState 0x50 fromFirstRecord) (set := 2) (slot := 0)
    (p := secondPacket 0x50 fromFirstRecord) (by decide) (by decide) rfl (by decide)
  rw [← Outcome.next.inj (hrun.symm.trans ht), overlongState_answer] at hstatus
  exact absurd hstatus (by decide)

/-- A packet of partner 2 lies in CP1's mailbox, beside the repeat of partner 1. -/
def boxedState : State := (overlongState 0x10 []).setPhase 16 .boxed

def boxedFlight : InFlight := { pkt := secondPacket 0x10 [], phase := .boxed, began := 0, passed := 0 }

/-- Emptying the box answers its packet, and the repeat answered next overwrites the status. -/
theorem boxedState_breakBox : Tbl.get 0 (boxedState.breakBox 16).cmd.replyMem (64 * 16) = 256 * stBusy := by
  have hpkt : boxedState.slotPkt 16 = some boxedFlight := rfl
  obtain ⟨hslots, hpartner, hleft⟩ := State.replyRaw_cmd hpkt stAbandoned []
  have hrepeats : (((boxedState.replyRaw 16 stAbandoned []).orphanSlot 16).raise 0x0F 6 0).Repeats 15 repeatedFlight overlongRecord :=
    (overlongState_repeats 0x10 []).congr hslots ((hpartner 1 (by decide)).trans rfl) (by simp [boxedState])
  have hinflight : (((boxedState.replyRaw 16 stAbandoned []).orphanSlot 16).raise 0x0F 6 0).cmd.inflight = [(15, repeatedFlight)] :=
    hleft.trans rfl
  obtain ⟨hanswer, -⟩ := hrepeats.serveIntake hinflight rfl rfl (by simp)
  rw [State.breakBox, hanswer]
  exact State.get_answerSlot_replyMem _ 15 (j := 64) (by simp [overlongRecord])

/-- Refutes O36: nor does the clause of MAILBOX_TIMEOUT. -/
theorem not_processorsCrashAndAreWatched : ¬ Obligations.ProcessorsCrashAndAreWatched := by
  unfold Obligations.ProcessorsCrashAndAreWatched
  rintro ⟨-, -, -, -, -, -, -, -, -, -, hmailbox, -⟩
  obtain ⟨t, ht, -, hstatus, -⟩ := hmailbox boxedState 16 boxedFlight rfl rfl
  have hrun : exec (.mailboxTimeout 16) boxedState = .next (boxedState.breakBox 16) := congrArg Outcome.next (if_pos rfl)
  rw [← Outcome.next.inj (hrun.symm.trans ht), boxedState_breakBox] at hstatus
  exact absurd hstatus (by decide)

end Sys2Proof.Machine

/-! What the wide commands and so every command but a register write keep: the parts outside the command's list. -/

namespace Sys2Proof.Machine
open Host (Outcome)

theorem State.aonReset_parts (s : State) (p : Part) (hp : p ∉ Instr.gooseReset.parts) : p.same s s.aonReset := by
  refine Part.same_of_outside ?_ p hp
  dsimp only [Part.sameOutside, Part.all, Instr.parts, Part.same, List.any, reduceCtorIdx, Nat.reduceBEq, Bool.or, cond]
  simp [State.aonReset]

theorem stopRampEnd_parts {g vs : Nat} {s t : State} {p : Part} (h : exec (.stopRampEnd g vs) s = .next t)
    (hp : p ∉ (Instr.stopRampEnd g vs).parts) : p.same s t := by
  obtain rfl := Outcome.next.inj h
  refine Part.same_of_outside ?_ p hp
  dsimp only [Part.sameOutside, Part.all, Instr.parts, Part.same, List.any, reduceCtorIdx, Nat.reduceBEq, Bool.or, cond]
  split <;> simp (maxDischargeDepth := 60)

theorem rampDownEnd_parts {d : Nat} {s t : State} {p : Part} (h : exec (.rampDownEnd d) s = .next t)
    (hp : p ∉ (Instr.rampDownEnd d).parts) : p.same s t := by
  obtain rfl := Outcome.next.inj h
  refine Part.same_of_outside ?_ p hp
  dsimp only [Part.sameOutside, Part.all, Instr.parts, Part.same, List.any, reduceCtorIdx, Nat.reduceBEq, Bool.or, cond]
  split <;> simp (maxDischargeDepth := 60)

theorem slowEvaluation_parts {n : Nat} {s t : State} {p : Part} (h : exec (.slowEvaluation n) s = .next t)
    (hp : p ∉ (Instr.slowEvaluation n).parts) : p.same s t := by
  obtain rfl := Outcome.next.inj h
  refine Part.same_of_outside ?_ p hp
  dsimp only [Part.sameOutside, Part.all, Instr.parts, Part.same, List.any, reduceCtorIdx, Nat.reduceBEq, Bool.or, cond]
  simp (maxDischargeDepth := 60)

theorem epochApply_parts {s t : State} {p : Part} (h : exec .epochApply s = .next t)
    (hp : p ∉ Instr.epochApply.parts) : p.same s t := by
  obtain rfl := Outcome.next.inj h
  refine Part.same_of_outside ?_ p hp
  dsimp only [Part.sameOutside, Part.all, Instr.parts, Part.same, List.any, reduceCtorIdx, Nat.reduceBEq, Bool.or, cond]
  repeat' split
  all_goals simp

/-- The wide commands of bring-up and reset. -/
theorem boot_parts_of_writes_none {c : Instr} {s t : State} {p : Part} (hc : c.family = .boot) (hw : c.writes = none)
    (h : exec c s = .next t) (hp : p ∉ c.parts) : p.same s t := by
  cases c
  all_goals try exact Family.noConfusion hc
  all_goals cases hw
  case gooseReset =>
    obtain rfl := Outcome.next.inj h
    exact s.aonReset_parts p hp
  all_goals
    obtain rfl := Outcome.next.inj h
    refine Part.same_of_outside ?_ p hp
    dsimp only [Part.sameOutside, Part.all, Instr.parts, Part.same, List.any, reduceCtorIdx, Nat.reduceBEq, Bool.or, cond]
  all_goals repeat' split
  all_goals simp (maxDischargeDepth := 60)

/-- A command whose changed fields the model lists. -/
theorem exec_parts_of_writes {c : Instr} {s t : State} {fs : List Fld} {p : Part} (hw : c.writes = some fs)
    (h : exec c s = .next t) (hp : p ∉ c.parts) : p.same s t := by
  have hframe : s.onlyChanges t fs c.parts := by
    cases hf : c.family
    case phases => exact phases_frame hf hw h
    case domains => exact domains_frame hf hw h
    case engine => exact engineAndRoosterFrame c s t fs (.inl hf) hw h
    case rooster => exact engineAndRoosterFrame c s t fs (.inr hf) hw h
    case power => exact powerAndThermalFrame c s t fs (.inl hf) hw h
    case thermal => exact powerAndThermalFrame c s t fs (.inr hf) hw h
    case packets => exact packets_frame hf hw h
    case herd => exact herd_frame hf hw h
    case adc => exact adc_frame hf hw h
    case telemetry => exact telemetry_frame hf hw h
    case crc => exact crc_frame hf hw h
    case epochs => exact epochs_frame hf hw h
    case firmware => exact firmware_frame hf hw h
    case faults => exact faults_frame hf hw h
    case access => exact access_frame hf hw h
    case boot => exact boot_frame hf hw h
  exact hframe.2 p hp

/-- The commands whose changed fields the model does not list. -/
theorem Instr.wide_cases {c : Instr} (hw : c.writes = none) :
    c.family = .boot ∨ (∃ g vs, c = .stopRampEnd g vs) ∨ (∃ d, c = .rampDownEnd d) ∨ (∃ n, c = .slowEvaluation n) ∨
      c = .epochApply ∨ ∃ bus init off size value, c = .registerWrite bus init off size value := by
  cases c
  all_goals try exact absurd hw (Option.some_ne_none _)
  case stopRampEnd g vs => exact .inr (.inl ⟨g, vs, rfl⟩)
  case rampDownEnd d => exact .inr (.inr (.inl ⟨d, rfl⟩))
  case slowEvaluation n => exact .inr (.inr (.inr (.inl ⟨n, rfl⟩)))
  case epochApply => exact .inr (.inr (.inr (.inr (.inl rfl))))
  case registerWrite bus init off size value => exact .inr (.inr (.inr (.inr (.inr ⟨bus, init, off, size, value, rfl⟩))))
  all_goals exact .inl rfl

/-- Every command but a register write keeps the parts outside its own. -/
theorem exec_parts_of_ne_access {c : Instr} {s t : State} {p : Part} (hc : c.family ≠ .access) (h : exec c s = .next t)
    (hp : p ∉ c.parts) : p.same s t := by
  cases hw : c.writes with
  | some fs => exact exec_parts_of_writes hw h hp
  | none =>
    rcases Instr.wide_cases hw with hb | ⟨g, vs, rfl⟩ | ⟨d, rfl⟩ | ⟨n, rfl⟩ | rfl | ⟨bus, init, off, size, value, rfl⟩
    · exact boot_parts_of_writes_none hb hw h hp
    · exact stopRampEnd_parts h hp
    · exact rampDownEnd_parts h hp
    · exact slowEvaluation_parts h hp
    · exact epochApply_parts h hp
    · exact absurd rfl hc

end Sys2Proof.Machine

/-! The burned fuse words: no operation but the read-back of a programmed word stores them (R403). -/

namespace Sys2Proof.Machine
open Host (Outcome)

/-! ### The operations -/

@[simp] theorem burned_ite (c : Prop) [Decidable c] (a b : BootState) :
    (if c then a else b).burned = if c then a.burned else b.burned := apply_ite BootState.burned c a b

@[simp] theorem State.each_burned (s : State) (l : List Nat) (f : Nat → State → State)
    (h : ∀ i t, (f i t).boot.burned = t.boot.burned) : (s.each l f).boot.burned = s.boot.burned :=
  State.each_keeps (fun t => t.boot.burned) l f h s

@[simp] theorem State.when_burned (s : State) (c : Bool) (f : State → State)
    (h : ∀ t, (f t).boot.burned = t.boot.burned) : (s.when c f).boot.burned = s.boot.burned :=
  State.when_keeps (fun t => t.boot.burned) c f s (h s)

@[simp] theorem State.enterSafe_burned (s : State) (e : Nat) : (s.enterSafe e).boot.burned = s.boot.burned := by
  simp [State.enterSafe]

@[simp] theorem State.latchOff_burned (s : State) (g : Nat) : (s.latchOff g).boot.burned = s.boot.burned := by
  simp [State.latchOff]

@[simp] theorem State.stopRamp_burned (s : State) (g : Nat) (b : Bool) : (s.stopRamp g b).boot.burned = s.boot.burned := by
  simp [State.stopRamp]

@[simp] theorem State.groupFatal_burned (s : State) (g : Nat) : (s.groupFatal g).boot.burned = s.boot.burned := by
  unfold State.groupFatal
  split <;> simp

@[simp] theorem State.recount_burned (s : State) (g : Nat) : (s.recount g).boot.burned = s.boot.burned := by
  simp [State.recount]

@[simp] theorem State.busSample_burned (s : State) (v : Nat) : (s.busSample v).boot.burned = s.boot.burned := by
  simp [State.busSample]

@[simp] theorem State.blockResetApply_burned (s : State) (last : Nat) : (s.blockResetApply last).boot.burned = s.boot.burned := by
  simp [State.blockResetApply]

@[simp] theorem State.aonReset_burned (s : State) : s.aonReset.boot.burned = s.boot.burned := rfl

@[simp] theorem State.stopTurn_burned (s : State) (l : List Nat) : (s.stopTurn l).boot.burned = s.boot.burned := by
  induction l generalizing s with
  | nil => simp [State.stopTurn]
  | cons g r ih => simp [State.stopTurn, ih]

@[simp] theorem State.blockResetAdvance_burned (s : State) : s.blockResetAdvance.boot.burned = s.boot.burned := by
  simp [State.blockResetAdvance]

@[simp] theorem State.consume_burned (s : State) (ch cal : Nat) (ovr : Bool) :
    (s.consume ch cal ovr).boot.burned = s.boot.burned := by
  simp [State.consume]

@[simp] theorem State.publishRes_burned (s : State) (c ch r : Nat) (m : Int) (ovr : Bool) :
    (s.publishRes c ch r m ovr).boot.burned = s.boot.burned := by
  simp [State.publishRes]

@[simp] theorem State.entryResult_burned (s : State) (c e raw : Nat) (ovr : Bool) :
    (s.entryResult c e raw ovr).boot.burned = s.boot.burned := by
  simp [State.entryResult]

@[simp] theorem State.fatalDone_burned (s : State) : s.fatalDone.boot.burned = s.boot.burned := by
  simp [State.fatalDone]

@[simp] theorem State.fatalTurn_burned (s : State) (l : List Nat) : (s.fatalTurn l).boot.burned = s.boot.burned := by
  induction l generalizing s with
  | nil => simp [State.fatalTurn]
  | cons g r ih => simp [State.fatalTurn, ih]

@[simp] theorem State.fatalAdvance_burned (s : State) : s.fatalAdvance.boot.burned = s.boot.burned := by
  simp [State.fatalAdvance]

@[simp] theorem State.fatal_burned (s : State) (x : Raise) : (s.fatal x).boot.burned = s.boot.burned := by
  simp [State.fatal]

@[simp] theorem State.shutGroup_burned (s : State) (g : Nat) : (s.shutGroup g).boot.burned = s.boot.burned := by
  simp [State.shutGroup]

@[simp] theorem State.gooseShuts_burned (s : State) (l : List Nat) : (s.gooseShuts l).boot.burned = s.boot.burned := by
  simp [State.gooseShuts]

@[simp] theorem State.gooseTrip_burned (s : State) (code index : Nat) :
    (s.gooseTrip code index).boot.burned = s.boot.burned := by
  simp [State.gooseTrip]

@[simp] theorem State.enterImageLoad_burned (s : State) (romOnly : Bool) :
    (s.enterImageLoad romOnly).boot.burned = s.boot.burned := by
  simp [State.enterImageLoad]

@[simp] theorem State.enterRelease_burned (s : State) : s.enterRelease.boot.burned = s.boot.burned := by
  simp [State.enterRelease]

@[simp] theorem State.releaseNext_burned (s : State) : s.releaseNext.boot.burned = s.boot.burned := by
  unfold State.releaseNext
  split <;> simp

@[simp] theorem State.blockStopBegin_burned (s : State) : s.blockStopBegin.boot.burned = s.boot.burned := by
  simp [State.blockStopBegin]

@[simp] theorem State.phaseOut_burned (s : State) (p st : Nat) : (s.phaseOut p st).boot.burned = s.boot.burned := by
  simp [State.phaseOut]

@[simp] theorem State.openDrop_burned (s : State) (p : Nat) : (s.openDrop p).boot.burned = s.boot.burned := by
  simp [State.openDrop]

@[simp] theorem State.pmbStore_burned (s : State) (cmd data : Nat) : (s.pmbStore cmd data).boot.burned = s.boot.burned := by
  unfold State.pmbStore
  split <;> simp

/-! ### The commands -/

/-- A command that leaves the boot part leaves the burned words. -/
theorem burned_of_not_mem {c : Instr} {s t : State} (hc : c.family ≠ .access) (hp : Part.boot ∉ c.parts)
    (h : exec c s = .next t) : t.boot.burned = s.boot.burned :=
  congrArg BootState.burned (exec_parts_of_ne_access (p := .boot) hc h hp)

theorem phases_burned {c : Instr} {s t : State} (hc : c.family = .phases) (hp : Part.boot ∈ c.parts)
    (h : exec c s = .next t) : t.boot.burned = s.boot.burned := by
  cases c
  all_goals try exact Family.noConfusion hc
  all_goals simp [Instr.parts] at hp
  all_goals cases h
  all_goals try dsimp only
  all_goals repeat' split
  all_goals simp

theorem faults_burned {c : Instr} {s t : State} (hc : c.family = .faults) (hp : Part.boot ∈ c.parts)
    (h : exec c s = .next t) : t.boot.burned = s.boot.burned := by
  cases c
  all_goals try exact Family.noConfusion hc
  all_goals simp [Instr.parts] at hp
  all_goals cases h
  all_goals repeat' split
  all_goals simp

theorem boot_burned {c : Instr} {s t : State} (hc : c.family = .boot) (hp : Part.boot ∈ c.parts)
    (hprog : ∀ v, c ≠ .fuseProgramReadback v) (h : exec c s = .next t) : t.boot.burned = s.boot.burned := by
  cases c
  all_goals try exact Family.noConfusion hc
  case fuseProgramReadback v => exact absurd rfl (hprog v)
  all_goals simp [Instr.parts] at hp
  all_goals cases h
  all_goals try dsimp only
  all_goals repeat' split
  all_goals simp

theorem rampDownEnd_burned {d : Nat} {s t : State} (h : exec (.rampDownEnd d) s = .next t) :
    t.boot.burned = s.boot.burned := by
  cases h
  split <;> simp

theorem conversionDone_burned {c : Nat} {v : Int} {s t : State} (h : exec (.conversionDone c v) s = .next t) :
    t.boot.burned = s.boot.burned := by
  cases h
  repeat' split
  all_goals simp

/-- The commands that may change the boot part. -/
theorem Instr.boot_cases {c : Instr} (hp : Part.boot ∈ c.parts) :
    c.family ∈ [Family.phases, .faults, .boot] ∨ (∃ d, c = .rampDownEnd d) ∨ (∃ ch v, c = .conversionDone ch v) ∨
      ∃ bus init off size value, c = .registerWrite bus init off size value := by
  have helem := List.elem_eq_true_of_mem hp
  clear hp
  cases c
  all_goals try exact absurd helem Bool.false_ne_true
  case rampDownEnd d => exact .inr (.inl ⟨d, rfl⟩)
  case conversionDone ch v => exact .inr (.inr (.inl ⟨ch, v, rfl⟩))
  case registerWrite bus init off size value => exact .inr (.inr (.inr ⟨bus, init, off, size, value, rfl⟩))
  all_goals exact .inl (List.mem_of_elem_eq_true rfl)

/-- The families with commands that may change the boot part. -/
theorem families_burned {c : Instr} {s t : State} (hf : c.family ∈ [Family.phases, .faults, .boot])
    (hp : Part.boot ∈ c.parts) (hprog : ∀ v, c ≠ .fuseProgramReadback v) (h : exec c s = .next t) :
    t.boot.burned = s.boot.burned := by
  simp only [List.mem_cons, List.not_mem_nil, or_false] at hf
  rcases hf with hf | hf | hf
  · exact phases_burned hf hp h
  · exact faults_burned hf hp h
  · exact boot_burned hf hp hprog h

theorem exec_burned_of_ne_access {c : Instr} {s t : State} (hc : c.family ≠ .access)
    (hprog : ∀ v, c ≠ .fuseProgramReadback v) (h : exec c s = .next t) : t.boot.burned = s.boot.burned := by
  by_cases hp : Part.boot ∈ c.parts
  · rcases Instr.boot_cases hp with hf | ⟨d, rfl⟩ | ⟨ch, v, rfl⟩ | ⟨bus, init, off, size, value, rfl⟩
    · exact families_burned hf hp hprog h
    · exact rampDownEnd_burned h
    · exact conversionDone_burned h
    · exact absurd rfl hc
  · exact burned_of_not_mem hc hp h

end Sys2Proof.Machine

/-! What a register write keeps besides the queue: the time, the configuration and the burned fuse words. -/

namespace Sys2Proof.Machine
open Host (Outcome)

/-- The next state has the time, the configuration and the burned fuse words of the state before it. -/
structure State.KeepsSetup (s t : State) : Prop where
  time : t.time = s.time
  cfg : t.cfg = s.cfg
  burned : t.boot.burned = s.boot.burned

theorem State.KeepsSetup.of_boot {s t : State} (ht : t.time = s.time) (hc : t.cfg = s.cfg) (hb : t.boot = s.boot) :
    s.KeepsSetup t := ⟨ht, hc, congrArg BootState.burned hb⟩

theorem State.KeepsSetup.refl (s : State) : s.KeepsSetup s := ⟨rfl, rfl, rfl⟩

theorem State.KeepsSetup.trans {s t u : State} (h : s.KeepsSetup t) (h' : t.KeepsSetup u) : s.KeepsSetup u :=
  ⟨h'.time.trans h.time, h'.cfg.trans h.cfg, h'.burned.trans h.burned⟩

theorem State.KeepsSetup.when {s t : State} (h : s.KeepsSetup t) (c : Bool) {f : State → State}
    (hf : ∀ u : State, u.KeepsSetup (f u)) : s.KeepsSetup (t.when c f) := by
  cases c
  · exact h
  · exact h.trans (hf t)

/-- A register's action that is the meaning of a command. -/
theorem State.KeepsSetup.act (c : Instr) (s : State) (hc : c.family ≠ .access := by nofun)
    (hprog : ∀ v, c ≠ .fuseProgramReadback v := by nofun) (ht : Part.time ∉ c.parts := by simp [Instr.parts])
    (hcfg : Part.cfg ∉ c.parts := by simp [Instr.parts]) : s.KeepsSetup (s.then_ (exec c)) := by
  unfold State.then_
  split
  · next t h =>
    exact ⟨exec_parts_of_ne_access (p := .time) hc h ht, exec_parts_of_ne_access (p := .cfg) hc h hcfg,
      exec_burned_of_ne_access hc hprog h⟩
  · exact .refl s

theorem State.KeepsSetup.act_when (c : Instr) (s : State) (b : Bool) (hc : c.family ≠ .access := by nofun)
    (hprog : ∀ v, c ≠ .fuseProgramReadback v := by nofun) (ht : Part.time ∉ c.parts := by simp [Instr.parts])
    (hcfg : Part.cfg ∉ c.parts := by simp [Instr.parts]) : s.KeepsSetup (s.when b (fun s => s.then_ (exec c))) :=
  .when (.refl s) b fun u => .act c u hc hprog ht hcfg

/-! ### Register writes -/

theorem State.crcWrite_keepsSetup (s : State) (init u addr : Nat) (same : Bool) {f : State → State}
    (h : s.KeepsSetup (f s)) : s.KeepsSetup (s.crcWrite init u addr same f) := by
  have hinit : s.KeepsSetup (s.refuseInit init addr) := .of_boot (by simp) (by simp) (by simp)
  have hlocked : s.KeepsSetup (s.refuseLocked init addr) := .of_boot (by simp) (by simp) (by simp)
  unfold State.crcWrite
  split
  · exact .refl s
  · split
    · split
      · exact h
      · exact hinit
    · split
      · split
        · exact .refl s
        · exact hlocked
      · exact h

theorem State.writeCrc_keepsSetup (s : State) (init u reg off w : Nat) : s.KeepsSetup (s.writeCrc init u reg off w) := by
  unfold State.writeCrc
  split
  · exact .act (.crcSettingsWrite init u 0 w) s
  · exact .act (.crcSettingsWrite init u 1 w) s
  · exact .act (.crcSettingsWrite init u 2 w) s
  · exact s.crcWrite_keepsSetup _ _ _ _ (.of_boot (by simp) (by simp) (by simp))
  · exact s.crcWrite_keepsSetup _ _ _ _ (.of_boot (by simp) (by simp) (by simp))
  · exact .act (.crcData32 init u w) s
  · exact .act (.crcData8 init u w) s
  · exact .act (.crcValueWrite init u w) s
  · exact s.crcWrite_keepsSetup _ _ _ _ (.refl s)
  · exact s.crcWrite_keepsSetup _ _ _ _ (.of_boot (by simp) (by simp) (by simp))
  · exact .refl s

theorem State.writeBoot_keepsSetup (s : State) (init off w : Nat) : s.KeepsSetup (s.writeBoot init off w) := by
  unfold State.writeBoot
  split
  · exact .refl s
  · split
    · exact .of_boot (by simp) (by simp) (by simp)
    · exact (State.KeepsSetup.act_when (.bootRelease init) s _).trans
        ((State.KeepsSetup.act_when (.useRom init) _ _).trans (State.KeepsSetup.act_when (.cfgCommit init) _ _))

theorem State.writeReset_keepsSetup (s : State) (init w : Nat) : s.KeepsSetup (s.writeReset init w) := by
  unfold State.writeReset
  refine .when (.act_when (.cpRst init) s _) _ fun u => ?_
  have hfresh : u.KeepsSetup u.fresh.2 := .of_boot (by simp) (by simp) (by simp)
  exact hfresh.trans (.act (.blockRst init (u.fresh.1 % 2 = 1)) _)

theorem State.regAct_keepsSetup (s : State) (init off w : Nat) (r : RegRow) (i : Nat) :
    s.KeepsSetup (s.regAct init off w r i) := by
  unfold State.regAct
  split
  · exact s.writeBoot_keepsSetup init off w
  · exact s.writeReset_keepsSetup init w
  · exact .act_when (.watchdogKick init i) s _
  · exact .act (.cmdCommit init w) s
  · exact .act_when (.fuseProgram init (bitsOf w 9 0)) s _
  · exact .act_when (.fltHandle init (bitsOf w 15 8) (bitsOf w 3 0)) s _
  · exact .act_when (.fecValidClear init) s _
  · exact .act_when (.cntClr init (i / 16) (i % 16)) s _
  · exact (State.KeepsSetup.act_when (.crcClaim init) s _).trans (.act_when (.crcRelease init) _ _)
  · exact .of_boot (by simp) (by simp) (by simp)
  · exact .act_when (.adcUrgReq (bitsOf w 23 16) (bitsOf w 15 14) (bitsOf w 5 0)) s _
  · refine State.KeepsSetup.trans ?_ (.act_when (.converterRecheck i) _ _)
    split
    · exact .act (.converterOffline i) s
    · exact .act (.converterOnline i) s
  · exact .act_when (.sensorRecheck i) s _
  · exact .of_boot (by simp) (by simp) (by simp)
  · exact (State.KeepsSetup.act_when (.decideFollow (bitsOf w 15 0)) s _).trans
      (.act_when (.decideEvict (bitsOf w 15 0)) _ _)
  · exact .of_boot (by simp) (by simp) (by simp)
  · exact .of_boot (by simp) (by simp) (by simp)
  · split <;> exact .of_boot (by simp) (by simp) (by simp)
  · have hton : s.KeepsSetup (s.when (s.grp i ≠ 0) (fun s => s.updTon i)) := .of_boot (by simp) (by simp) (by simp)
    split
    · exact hton.trans (.act (.groupEnable i) _)
    · exact hton.trans (.act (.groupDisable i) _)
  · refine State.KeepsSetup.trans ?_ (.act_when (.phaseReadmit i) _ _)
    split
    · exact .act (.phaseDisable i) s
    · exact .act (.phaseCheckStart i) s
  · refine State.KeepsSetup.trans ?_ (.act_when (.cellReadmit i) _ _)
    split
    · exact .act (.cellIsolate i) s
    · exact .act (.cellUnisolate i) s
  · exact .act_when (.droopSensorRecheck i) s _
  · exact .of_boot (by simp) (by simp) (by simp)
  · exact .of_boot (by simp) (by simp) (by simp)
  · split
    · exact .act (.slotOpen i) s
    · exact .act (.slotClose i) s
  · exact .refl s

theorem State.writeFields_keepsSetup (s : State) (fs : List Fld) (i w : Nat) : s.KeepsSetup (s.writeFields fs i w) :=
  .of_boot (s.writeFields_parts fs i w .time) (s.writeFields_parts fs i w .cfg) (s.writeFields_parts fs i w .boot)

theorem State.writeRow_keepsSetup (s : State) (init off w : Nat) (r : RegRow) (i : Nat) :
    s.KeepsSetup (s.writeRow init off w r i) := by
  have hlocked : s.KeepsSetup (s.when (s.committed ∧ s.changesLocked r i w) (fun s => s.refuseLocked init off)) :=
    .of_boot (by simp) (by simp) (by simp)
  unfold State.writeRow
  split
  · exact s.writeCrc_keepsSetup _ _ _ _ _
  · refine State.KeepsSetup.trans ?_ (State.regAct_keepsSetup _ init off w r i)
    refine .when (hlocked.trans (State.writeFields_keepsSetup _ _ _ _)) _ fun u => ?_
    exact .of_boot (by simp) (by simp) (by simp)

theorem State.writeWord_keepsSetup (s : State) (init off w : Nat) : s.KeepsSetup (s.writeWord init off w) := by
  unfold State.writeWord
  split
  · exact .of_boot (by simp) (by simp) (by simp)
  · split
    · exact .of_boot (by simp) (by simp) (by simp)
    · split
      · exact .refl s
      · dsimp only
        split
        · exact s.writeRow_keepsSetup _ _ _ _ _
        · exact .refl s

theorem execRegisterWrite_keepsSetup {bus : Bool} {init off size value : Nat} {s t : State}
    (h : exec (.registerWrite bus init off size value) s = .next t) : s.KeepsSetup t := by
  obtain rfl := Outcome.next.inj h
  split
  · exact .refl s
  · split
    · exact .of_boot (by simp) (by simp) (by simp)
    · exact s.writeWord_keepsSetup _ _ _

/-! ### Every command -/

/-- A register write's parts are all but the time and the configuration. -/
theorem execRegisterWrite_parts {bus : Bool} {init off size value : Nat} {s t : State} {p : Part}
    (h : exec (.registerWrite bus init off size value) s = .next t)
    (hp : p ∉ (Instr.registerWrite bus init off size value).parts) : p.same s t := by
  have hkeep := execRegisterWrite_keepsSetup h
  refine Part.same_of_outside ?_ p hp
  dsimp only [Part.sameOutside, Part.all, Instr.parts, Part.same, List.any, reduceCtorIdx, Nat.reduceBEq, Bool.or, cond]
  simp [hkeep.time, hkeep.cfg]

/-- Every command keeps the parts of the state outside its own. -/
theorem exec_parts {c : Instr} {s t : State} {p : Part} (h : exec c s = .next t) (hp : p ∉ c.parts) : p.same s t := by
  by_cases hc : c.family = .access
  · cases hw : c.writes with
    | some fs => exact exec_parts_of_writes hw h hp
    | none =>
      rcases Instr.wide_cases hw with hb | ⟨g, vs, rfl⟩ | ⟨d, rfl⟩ | ⟨n, rfl⟩ | rfl | ⟨bus, init, off, size, value, rfl⟩
      · exact Family.noConfusion (hb.symm.trans hc)
      · exact stopRampEnd_parts h hp
      · exact rampDownEnd_parts h hp
      · exact slowEvaluation_parts h hp
      · exact epochApply_parts h hp
      · exact execRegisterWrite_parts h hp
  · exact exec_parts_of_ne_access hc h hp

/-- Settles O11: the commands whose parts the model lists keep the others, register writes included. -/
theorem resetsKeepWhatTheyDoNotReset : Obligations.ResetsKeepWhatTheyDoNotReset :=
  fun _ _ _ _ _ h hp => exec_parts h hp

/-- Settles O9: the configuration is a part of four commands alone. -/
theorem configurationIsLoadedOnlyAtPowerOn : Obligations.ConfigurationIsLoadedOnlyAtPowerOn := by
  intro c s t h
  by_cases hp : Part.cfg ∈ c.parts
  · right
    have helem := List.elem_eq_true_of_mem hp
    clear hp h
    cases c
    all_goals try exact absurd helem Bool.false_ne_true
    all_goals trivial
  · exact .inl (exec_parts (p := .cfg) h hp)

/-- Every command but the read-back of a programmed word leaves the burned words. -/
theorem exec_burned {c : Instr} {s t : State} (hprog : ∀ v, c ≠ .fuseProgramReadback v) (h : exec c s = .next t) :
    t.boot.burned = s.boot.burned := by
  by_cases hp : Part.boot ∈ c.parts
  · rcases Instr.boot_cases hp with hf | ⟨d, rfl⟩ | ⟨ch, v, rfl⟩ | ⟨bus, init, off, size, value, rfl⟩
    · exact families_burned hf hp hprog h
    · exact rampDownEnd_burned h
    · exact conversionDone_burned h
    · exact (execRegisterWrite_keepsSetup h).burned
  · exact congrArg BootState.burned (exec_parts (p := .boot) h hp)

/-- A bit of a word is a bit of its union with another. -/
theorem bitOf_lor_left {a : Nat} (b : Nat) {i : Nat} (h : bitOf a i = true) : bitOf (Nat.lor a b) i = true := by
  have hbit : ∀ w, bitOf w i = w.testBit i := fun w => by simp [bitOf, Nat.testBit_eq_decide_div_mod_eq]
  rw [hbit] at h ⊢
  exact (Nat.testBit_or a b i).trans (by rw [h, Bool.true_or])

/-- The read-back joins the word it read to the burned one (R403). -/
theorem fuseProgramReadback_burned {v : Nat} {s t : State} (h : exec (.fuseProgramReadback v) s = .next t) {w b : Nat}
    (hb : bitOf (Tbl.get 0 s.boot.burned w) b = true) : bitOf (Tbl.get 0 t.boot.burned w) b = true := by
  obtain rfl := Outcome.next.inj h
  split
  · exact hb
  · next w' bits _ =>
    by_cases hw : w = w'
    · subst hw
      simpa using bitOf_lor_left _ hb
    · simpa [hw] using hb

/-- Settles O10: programming joins bits to a word, and no other command, nor the passing of time, stores one. -/
theorem programmedBitsStay : Obligations.ProgrammedBitsStay := by
  intro s t w b h hb
  unfold step at h
  split at h
  · obtain rfl := Outcome.next.inj h
    simpa using hb
  · next c rest hc =>
    by_cases hprog : ∃ v, c = .fuseProgramReadback v
    · obtain ⟨v, rfl⟩ := hprog
      exact fuseProgramReadback_burned h hb
    · rw [exec_burned (fun v hv => hprog ⟨v, hv⟩) h]
      exact hb

end Sys2Proof.Machine

/-! A fatal raise acts at once (R422, R423): the gates stay closed, and BL_PWR_OK stays down, while the stop begins. -/

namespace Sys2Proof.Machine
open Host (Outcome)

/-! ### The mark that every gate is closed -/

@[simp] theorem gateAll_ite (c : Prop) [Decidable c] (a b : DomState) :
    (if c then a else b).gateAll = if c then a.gateAll else b.gateAll := apply_ite DomState.gateAll c a b

@[simp] theorem State.when_gateAll (s : State) (c : Bool) (f : State → State)
    (h : ∀ t, (f t).dom.gateAll = t.dom.gateAll) : (s.when c f).dom.gateAll = s.dom.gateAll :=
  State.when_keeps (fun t => t.dom.gateAll) c f s (h s)

@[simp] theorem State.each_gateAll (s : State) (l : List Nat) (f : Nat → State → State)
    (h : ∀ i t, (f i t).dom.gateAll = t.dom.gateAll) : (s.each l f).dom.gateAll = s.dom.gateAll :=
  State.each_keeps (fun t => t.dom.gateAll) l f h s

@[simp] theorem foldl_gateAll {α : Type} (l : List α) (f : State → α → State)
    (h : ∀ t x, (f t x).dom.gateAll = t.dom.gateAll) (s : State) : (l.foldl f s).dom.gateAll = s.dom.gateAll :=
  foldl_keeps (fun t => t.dom.gateAll) l f h s

@[simp] theorem State.drive_gateAll (s : State) (kind i : Nat) (v : Int) : (s.drive kind i v).dom.gateAll = s.dom.gateAll := by
  unfold State.drive
  split
  all_goals simp

@[simp] theorem State.rearb_gateAll (s : State) (kind i : Nat) : (s.rearb kind i).dom.gateAll = s.dom.gateAll := by
  unfold State.rearb
  repeat' split
  all_goals simp

@[simp] theorem State.startDomain_gateAll (s : State) (d : Nat) : (s.startDomain d).dom.gateAll = s.dom.gateAll := by
  simp [State.startDomain]

@[simp] theorem State.showWaves_gateAll (s : State) : s.showWaves.dom.gateAll = s.dom.gateAll := by
  simp [State.showWaves]

@[simp] theorem State.setWaves_gateAll (s : State) (ws : List Wave) : (s.setWaves ws).dom.gateAll = s.dom.gateAll := by
  simp [State.setWaves]

@[simp] theorem State.endWave_gateAll (s : State) (bid : Nat) : (s.endWave bid).dom.gateAll = s.dom.gateAll := by
  simp [State.endWave]

@[simp] theorem State.checkWaves_gateAll (s : State) : s.checkWaves.dom.gateAll = s.dom.gateAll := by
  simp [State.checkWaves]

@[simp] theorem State.denyDomain_gateAll (s : State) (d : Nat) : (s.denyDomain d).dom.gateAll = s.dom.gateAll := by
  simp [State.denyDomain]

@[simp] theorem State.setFloor_gateAll (s : State) (d h : Nat) (falls : Bool) :
    (s.setFloor d h falls).dom.gateAll = s.dom.gateAll := by
  simp [State.setFloor]

@[simp] theorem State.cellsOff_gateAll (s : State) (d : Nat) : (s.cellsOff d).dom.gateAll = s.dom.gateAll := by
  simp [State.cellsOff]

@[simp] theorem State.enterDown_gateAll (s : State) (d : Nat) : (s.enterDown d).dom.gateAll = s.dom.gateAll := by
  simp [State.enterDown]

@[simp] theorem State.enterQuiesce_gateAll (s : State) (d : Nat) : (s.enterQuiesce d).dom.gateAll = s.dom.gateAll := by
  simp [State.enterQuiesce]

@[simp] theorem State.domEnter_gateAll (s : State) (d new : Nat) : (s.domEnter d new).dom.gateAll = s.dom.gateAll := by
  simp (maxDischargeDepth := 60) [State.domEnter]

/-! ### Gates that stay closed -/

theorem State.showGate_of_gateAll {s : State} (hall : s.dom.gateAll = true) (e d : Nat) :
    (s.showGate e).getF .DOM_STATUS_GATE_CLOSED d = if d = e then 1 else s.getF .DOM_STATUS_GATE_CLOSED d := by
  have hone : 1 % 2 ^ Fld.width .DOM_STATUS_GATE_CLOSED = 1 := by decide
  simp [State.showGate, State.getF_setB, hall, hone]

theorem State.setFloor_of_gateAll {s : State} (hall : s.dom.gateAll = true) (e height : Nat) (falls : Bool) (d : Nat) :
    (s.setFloor e height falls).getF .DOM_STATUS_GATE_CLOSED d =
      if d = e then 1 else s.getF .DOM_STATUS_GATE_CLOSED d := by
  have hone : 1 % 2 ^ Fld.width .DOM_STATUS_GATE_CLOSED = 1 := by decide
  simp [State.setFloor, State.showGate, State.getF_setB, hall, hone]

theorem State.enterDown_of_gateAll {s : State} (hall : s.dom.gateAll = true) (e d : Nat) :
    (s.enterDown e).getF .DOM_STATUS_GATE_CLOSED d = if d = e then 1 else s.getF .DOM_STATUS_GATE_CLOSED d := by
  have hcells : (s.cellsOff e).dom.gateAll = true := by simpa using hall
  simp [State.enterDown, State.setFloor_of_gateAll hcells]

/-- Every gate is closed by a fatal fault, and the gate of domain `d` shows so. -/
def State.gateShut (s : State) (d : Nat) : Prop := s.dom.gateAll = true ∧ s.getF .DOM_STATUS_GATE_CLOSED d = 1

theorem State.gateShut.congr {s t : State} {d : Nat} (h : s.gateShut d) (hall : t.dom.gateAll = s.dom.gateAll)
    (hgate : t.getF .DOM_STATUS_GATE_CLOSED d = s.getF .DOM_STATUS_GATE_CLOSED d) : t.gateShut d :=
  ⟨hall.trans h.1, hgate.trans h.2⟩

theorem State.gateShut.enterDown {s : State} {d : Nat} (h : s.gateShut d) (e : Nat) : (s.enterDown e).gateShut d := by
  obtain ⟨hall, hgate⟩ := h
  exact ⟨by simpa using hall, by simp [State.enterDown_of_gateAll hall, hgate]⟩

/-- A domain that enters a state opens no gate: what it does on the way down shows its gate again, closed. -/
theorem State.gateShut.domEnter {s : State} {d : Nat} (h : s.gateShut d) (e new : Nat) : (s.domEnter e new).gateShut d := by
  obtain ⟨hall, hgate⟩ := h
  refine ⟨by simpa using hall, ?_⟩
  by_cases hsame : s.domSt e = new
  · rwa [State.domEnter, if_pos hsame]
  · rw [State.domEnter, if_neg hsame]
    by_cases hdown : new = 0 ∨ new = 5
    · simp (maxDischargeDepth := 60) [hdown, State.enterDown_of_gateAll, hall, hgate]
    · simp (maxDischargeDepth := 60) [hdown, hgate]

@[simp] theorem State.fatalQuiesce_gateAll (s : State) (d : Nat) : (s.fatalQuiesce d).dom.gateAll = s.dom.gateAll := by
  unfold State.fatalQuiesce
  split
  · rcases s.fence_cases d false with ⟨-, he⟩ | ⟨-, he⟩ | ⟨-, he⟩ | ⟨-, he⟩ <;> simp [he, State.requestFence]
  · rfl

theorem State.gateShut.fatalQuiesce {s : State} {d : Nat} (h : s.gateShut d) (e : Nat) : (s.fatalQuiesce e).gateShut d := by
  have hrequest : (s.requestFence e false).gateShut d := h.congr rfl rfl
  unfold State.fatalQuiesce
  split
  · rcases s.fence_cases e false with ⟨-, he⟩ | ⟨-, he⟩ | ⟨-, he⟩ | ⟨-, he⟩ <;> rw [he]
    · exact h.domEnter e 5
    · exact h
    · exact hrequest.congr (by simp) (by simp)
    · exact hrequest.domEnter e 4
  · exact h

/-! ### What the stop of the groups leaves -/

/-- The fields that a fatal stop's turn of the groups may touch: a group latches, or ramps down with its reference (R82). -/
def stopTurnFields : List Fld := latchFields ++ [.PHS_GRP_REF_VREF, .PHS_GRP_TON_TON_BASE]

theorem State.groupFatal_getF_of_turn {f : Fld} (hf : f ∉ stopTurnFields) (s : State) (g i : Nat) :
    (s.groupFatal g).getF f i = s.getF f i := by
  simp only [stopTurnFields, latchFields, List.cons_append, List.nil_append, List.mem_cons, not_or] at hf
  rcases s.groupFatal_cases g with ⟨-, he⟩ | ⟨-, he⟩ | ⟨-, he⟩ | ⟨-, he⟩ <;> rw [he]
  · simp [hf]
  · simp [State.stopRamp, hf]
  · simp

@[simp] theorem State.groupFatal_dom (s : State) (g : Nat) : (s.groupFatal g).dom = s.dom := by
  rcases s.groupFatal_cases g with ⟨-, he⟩ | ⟨-, he⟩ | ⟨-, he⟩ | ⟨-, he⟩ <;> rw [he]
  · simp
  · simp [State.stopRamp]

theorem State.fatalDone_getF_of_turn {f : Fld} (hf : f ∉ stopTurnFields) (s : State) (i : Nat) :
    s.fatalDone.getF f i = s.getF f i := by
  simp only [stopTurnFields, latchFields, List.cons_append, List.nil_append, List.mem_cons, not_or] at hf
  simp [hf]

/-- What every group's stop and the stop's end keep, the turn of the groups keeps. -/
theorem State.fatalTurn_inv {P : State → Prop} (hgroup : ∀ g t, P t → P (t.groupFatal g))
    (hdone : ∀ t, P t → P t.fatalDone) (l : List Nat) {s : State} (h : P s) : P (s.fatalTurn l) := by
  induction l generalizing s with
  | nil => exact hdone s h
  | cons g r ih =>
    unfold State.fatalTurn
    repeat' split
    · exact ih h
    · exact h
    · exact ih (hgroup g s h)
    · exact hgroup g s h

theorem State.fatalAdvance_inv {P : State → Prop} (hgroup : ∀ g t, P t → P (t.groupFatal g))
    (hdone : ∀ t, P t → P t.fatalDone) {s : State} (h : P s) : P s.fatalAdvance := by
  unfold State.fatalAdvance
  split
  · exact State.fatalTurn_inv hgroup hdone _ h
  · exact h

theorem State.fatalAdvance_getF_of_turn {f : Fld} (hf : f ∉ stopTurnFields) (s : State) (i : Nat) :
    s.fatalAdvance.getF f i = s.getF f i :=
  State.fatalAdvance_inv (P := fun t => t.getF f i = s.getF f i)
    (fun g t h => (t.groupFatal_getF_of_turn hf g i).trans h) (fun t h => (t.fatalDone_getF_of_turn hf i).trans h) rfl

/-- BL_PWR_OK is down. -/
def State.pwrDown (s : State) : Prop := s.getF .GLB_BOOT_STATUS_PWR_OK 0 = 0

theorem State.enterSafe_pwrDown (s : State) (err : Nat) : (s.enterSafe err).pwrDown := by
  simp [State.pwrDown, State.enterSafe]

theorem State.pwrDown.latchOff {s : State} (h : s.pwrDown) (g : Nat) : (s.latchOff g).pwrDown := by
  have hlatch : ((s.setGrp g 6).event .PHS_GRP_EVENT_LATCHED g 0x01 g).pwrDown := by simpa [State.pwrDown] using h
  unfold State.latchOff
  exact State.when_inv State.pwrDown _ _ _ hlatch (State.enterSafe_pwrDown _ 8)

theorem State.pwrDown.groupFatal {s : State} (h : s.pwrDown) (g : Nat) : (s.groupFatal g).pwrDown := by
  rcases s.groupFatal_cases g with ⟨-, he⟩ | ⟨-, he⟩ | ⟨-, he⟩ | ⟨-, he⟩ <;> rw [he]
  · exact h.latchOff g
  · simpa [State.pwrDown, State.stopRamp] using h
  · exact h
  · exact h

theorem State.pwrDown.fatalDone {s : State} (h : s.pwrDown) : s.fatalDone.pwrDown := by
  unfold State.fatalDone
  exact State.when_inv State.pwrDown _ _ _ h (State.enterSafe_pwrDown _ 9)

/-! ### The fatal raise -/

/-- A source that stands in LATCHED asserts the error pair (R424). -/
theorem State.setSrc_latched (s : State) (key : Nat) :
    (s.setSrc key 4).srcSt key = 4 ∧ (s.setSrc key 4).getF .FLT_STATUS_PAIR_ASSERT 0 = 1 := by
  have hwidth : 4 % 2 ^ Fld.width .FLT_SRC_STATE = 4 := by decide
  have hone : 1 % 2 ^ Fld.width .FLT_STATUS_PAIR_ASSERT = 1 := by decide
  have hset : (s.setF .FLT_SRC_STATE key 4).getF .FLT_SRC_STATE key = 4 := by simp [hwidth]
  have hrow : (key, 4) ∈ Tbl.get [] (s.setF .FLT_SRC_STATE key 4).fields .FLT_SRC_STATE := by
    have hmem := Tbl.mem_get (Fld.rst s.cfg .FLT_SRC_STATE key)
      (Tbl.get [] (s.setF .FLT_SRC_STATE key 4).fields .FLT_SRC_STATE) key
    have hget : Tbl.get (Fld.rst s.cfg .FLT_SRC_STATE key)
      (Tbl.get [] (s.setF .FLT_SRC_STATE key 4).fields .FLT_SRC_STATE) key = 4 := hset
    rw [hget] at hmem
    exact hmem.resolve_left (show 4 ≠ (Fld.info .FLT_SRC_STATE).rst by decide)
  have hany : (Tbl.get [] (s.setF .FLT_SRC_STATE key 4).fields .FLT_SRC_STATE).any (fun q => q.2 = 2 ∨ q.2 = 4) = true :=
    List.any_eq_true.2 ⟨_, hrow, rfl⟩
  refine ⟨by simpa [State.srcSt, State.setSrc] using hset, ?_⟩
  unfold State.setSrc State.showPair
  rw [hany]
  dsimp only
  split <;> simp [State.getF_setB, hone]

theorem State.doms_congr {s t : State} (h : t.cfg = s.cfg) : t.doms = s.doms := by
  rw [State.doms, h, ← State.doms]

theorem State.showGate_gateShut {s : State} (hall : s.dom.gateAll = true) (d : Nat) : (s.showGate d).gateShut d :=
  ⟨hall, by simp [State.showGate_of_gateAll hall]⟩

theorem State.gateShut.showGate {s : State} {d : Nat} (h : s.gateShut d) (e : Nat) : (s.showGate e).gateShut d :=
  ⟨h.1, by simp [State.showGate_of_gateAll h.1, h.2]⟩

/-- Every gate shuts in the turn of its domain, and the turns of the others leave it shut. -/
theorem State.showGates_gateShut {s : State} (hall : s.dom.gateAll = true) {d : Nat} (hd : d ∈ s.doms) :
    (s.each s.doms (fun d s => s.showGate d)).gateShut d :=
  State.each_at (P := fun t => t.dom.gateAll = true) (Q := fun t => t.gateShut d) (f := fun d s => s.showGate d)
    List.nodup_range hd
    (fun _ _ _ ht => ht) (fun _ ht => State.showGate_gateShut ht d) (fun e _ _ ht => ht.showGate e) hall

/-- What a fatal raise marks: its source latched, the first such recorded, BL_PWR_OK down and the mark that every gate is
closed. -/
def State.fatalMarks (s : State) (x : Raise) : State :=
  let s' := ((s.setSrc x.key 4).setF .FLT_STATUS_FATAL 0 1).when (¬ s.isSet .FLT_STATUS_FATAL 0) (fun s =>
    (s.setF .FLT_STATUS_FATAL_SUB 0 x.sub).setF .FLT_STATUS_FATAL_CODE 0 x.code)
  let s' := s'.setF .GLB_BOOT_STATUS_PWR_OK 0 0
  { s' with dom := { s'.dom with gateAll := true } }

/-- The state of a fatal raise before the stop begins: the gates show that they are closed. -/
def State.fatalShown (s : State) (x : Raise) : State :=
  (s.fatalMarks x).each (s.fatalMarks x).doms (fun d s => s.showGate d)

/-- The state of a fatal raise whose stop has begun: the domains that are up quiesce. -/
def State.fatalStopping (s : State) (x : Raise) : State :=
  ({ s.fatalShown x with flt := { (s.fatalShown x).flt with stop := true } } : State).each (s.fatalShown x).doms
    (fun d s => s.fatalQuiesce d)

theorem State.fatal_eq (s : State) (x : Raise) :
    s.fatal x = if x.key = 0x107 then s.fatalShown x else (s.fatalStopping x).fatalAdvance := rfl

/-- What the marks bring about and the stop keeps holds of the fatal raise. -/
theorem State.fatal_inv {P : State → Prop} {s : State} {x : Raise} (hshown : P (s.fatalShown x))
    (hstop : ∀ t b, P t → P { t with flt := { t.flt with stop := b } }) (hquiesce : ∀ d t, P t → P (t.fatalQuiesce d))
    (hgroup : ∀ g t, P t → P (t.groupFatal g)) (hdone : ∀ t, P t → P t.fatalDone) : P (s.fatal x) := by
  rw [State.fatal_eq]
  split
  · exact hshown
  · exact State.fatalAdvance_inv hgroup hdone (State.each_inv P _ _ hquiesce _ (hstop _ _ hshown))

theorem State.fatal_getF_of_shown {f : Fld} (hdom : f ∉ domEnterFields) (hturn : f ∉ stopTurnFields) (s : State) (x : Raise)
    (i : Nat) : (s.fatal x).getF f i = (s.fatalShown x).getF f i := by
  refine State.fatal_inv (P := fun t => t.getF f i = (s.fatalShown x).getF f i) rfl (fun _ _ h => h) (fun d t h => ?_)
    (fun g t h => (t.groupFatal_getF_of_turn hturn g i).trans h) (fun t h => (t.fatalDone_getF_of_turn hturn i).trans h)
  simp only [domEnterFields, List.mem_cons, not_or] at hdom
  simpa [hdom] using h

theorem State.fatalShown_getF {f : Fld} (hf : f ≠ .DOM_STATUS_GATE_CLOSED) (s : State) (x : Raise) (i : Nat) :
    (s.fatalShown x).getF f i = (s.fatalMarks x).getF f i := by
  simp [State.fatalShown, hf]

theorem State.fatal_pwrDown (s : State) (x : Raise) : (s.fatal x).pwrDown := by
  refine State.fatal_inv ?_ (fun _ _ h => h) (fun d t h => by simpa [State.pwrDown] using h) (fun g _ h => h.groupFatal g)
    (fun _ h => h.fatalDone)
  have hmarks : (s.fatalMarks x).pwrDown := by simp [State.pwrDown, State.fatalMarks]
  exact (State.fatalShown_getF (by decide) s x 0).trans hmarks

theorem State.fatal_gateAll (s : State) (x : Raise) : (s.fatal x).dom.gateAll = true :=
  State.fatal_inv (P := fun t => t.dom.gateAll = true) (by simp [State.fatalShown, State.fatalMarks]) (fun _ _ h => h)
    (fun d t h => by simpa using h) (fun g t h => by simpa using h) (fun t h => by simpa using h)

theorem State.fatal_gateShut (s : State) (x : Raise) {d : Nat} (hd : d ∈ s.doms) : (s.fatal x).gateShut d := by
  have hdoms : (s.fatalMarks x).doms = s.doms := State.doms_congr (by simp [State.fatalMarks])
  refine State.fatal_inv (P := fun t => t.gateShut d) (State.showGates_gateShut rfl (by rwa [hdoms])) (fun _ _ h => h)
    (fun e _ h => h.fatalQuiesce e) (fun g t h => ?_) (fun t h => ?_)
  · exact h.congr (by simp) (t.groupFatal_getF_of_turn (by decide) g d)
  · exact h.congr (by simp) (t.fatalDone_getF_of_turn (by decide) d)

/-- What a fatal raise leaves in the fault logic's registers (R422). -/
theorem State.fatal_registers (s : State) (x : Raise) :
    (s.fatal x).srcSt x.key = 4 ∧ (s.fatal x).getF .FLT_STATUS_FATAL 0 = 1 ∧
      (s.fatal x).getF .FLT_STATUS_FATAL_SUB 0 =
        (if s.isSet .FLT_STATUS_FATAL 0 then s.getF .FLT_STATUS_FATAL_SUB 0 else x.sub % 2 ^ Fld.width .FLT_STATUS_FATAL_SUB) ∧
      (s.fatal x).getF .FLT_STATUS_FATAL_CODE 0 =
        (if s.isSet .FLT_STATUS_FATAL 0 then s.getF .FLT_STATUS_FATAL_CODE 0
          else x.code % 2 ^ Fld.width .FLT_STATUS_FATAL_CODE) ∧
      (s.fatal x).getF .FLT_STATUS_PAIR_ASSERT 0 = 1 := by
  have hmark : ∀ f ∈ [Fld.FLT_SRC_STATE, .FLT_STATUS_FATAL, .FLT_STATUS_FATAL_SUB, .FLT_STATUS_FATAL_CODE,
      .FLT_STATUS_PAIR_ASSERT], ∀ i, (s.fatal x).getF f i = (s.fatalMarks x).getF f i := fun f hf i => by
    have hlists : ∀ f ∈ [Fld.FLT_SRC_STATE, .FLT_STATUS_FATAL, .FLT_STATUS_FATAL_SUB, .FLT_STATUS_FATAL_CODE,
      .FLT_STATUS_PAIR_ASSERT], f ∉ domEnterFields ∧ f ∉ stopTurnFields ∧ f ≠ .DOM_STATUS_GATE_CLOSED := by decide
    obtain ⟨hdom, hturn, hgate⟩ := hlists f hf
    rw [State.fatal_getF_of_shown hdom hturn, State.fatalShown_getF hgate]
  obtain ⟨hsrc, hpair⟩ := s.setSrc_latched x.key
  have hone : 1 % 2 ^ Fld.width .FLT_STATUS_FATAL = 1 := by decide
  refine ⟨?_, ?_, ?_, ?_, ?_⟩
  · rw [State.srcSt, hmark _ (by decide)]
    simpa [State.fatalMarks, State.srcSt] using hsrc
  · rw [hmark _ (by decide)]
    simp [State.fatalMarks, hone]
  · rw [hmark _ (by decide)]
    cases h : s.isSet .FLT_STATUS_FATAL 0 <;> simp [State.fatalMarks, h]
  · rw [hmark _ (by decide)]
    cases h : s.isSet .FLT_STATUS_FATAL 0 <;> simp [State.fatalMarks, h]
  · rw [hmark _ (by decide)]
    simpa [State.fatalMarks] using hpair

/-- A raise of class fatal that is taken is counted and recorded before it acts. -/
theorem execFatalRaise_of_pick {s : State} {k : Nat} {x : Raise} {rest : List Raise}
    (h : pickRaise (fun x => decide (x.cls = 3)) [] s.raiseQ k = some (x, rest)) :
    exec (.fatalRaise k) s = .next ((({ s with raiseQ := rest } : State).takeRaise x).fatal x) := by
  show execFatalRaise k s = _
  rw [execFatalRaise, h]

/-- Settles O47: the raise marks its source, the record and the gates, and the stop that begins opens no gate and raises
BL_PWR_OK for no group. -/
theorem fatalRaiseActsAtOnce : Obligations.FatalRaiseActsAtOnce := by
  have hgates : ∀ (s : State) (x : Raise), (s.fatal x).dom.gateAll = true ∧
      (s.fatal x).doms.all (fun d => (s.fatal x).isSet .DOM_STATUS_GATE_CLOSED d) = true := fun s x => by
    have hdoms : (s.fatal x).doms = s.doms := State.doms_congr (by simp)
    refine ⟨s.fatal_gateAll x, List.all_eq_true.2 fun d hd => ?_⟩
    rw [hdoms] at hd
    rw [State.isSet, (s.fatal_gateShut x hd).2]
    rfl
  refine ⟨fun s k x rest hpick hsub hcode hfirst => ?_, fun s k x rest hpick hcode hagain => ?_⟩
  · refine ⟨_, execFatalRaise_of_pick hpick, ?_⟩
    obtain ⟨hsrc, hfatal, hs, hc, hpair⟩ := (({ s with raiseQ := rest } : State).takeRaise x).fatal_registers x
    obtain ⟨hall, hshut⟩ := hgates (({ s with raiseQ := rest } : State).takeRaise x) x
    have hset : (({ s with raiseQ := rest } : State).takeRaise x).isSet .FLT_STATUS_FATAL 0 = false := by
      rw [← hfirst]
      exact State.isSet_congr (by simp)
    rw [hset] at hs hc
    refine ⟨hsrc, hfatal, ?_, ?_, hpair, State.fatal_pwrDown _ x, hall, hshut⟩
    · exact hs.trans (Nat.mod_eq_of_lt hsub)
    · exact hc.trans (Nat.mod_eq_of_lt hcode)
  · refine ⟨_, execFatalRaise_of_pick hpick, ?_⟩
    obtain ⟨hsrc, hfatal, hs, hc, hpair⟩ := (({ s with raiseQ := rest } : State).takeRaise x).fatal_registers x
    obtain ⟨hall, hshut⟩ := hgates (({ s with raiseQ := rest } : State).takeRaise x) x
    have hset : (({ s with raiseQ := rest } : State).takeRaise x).isSet .FLT_STATUS_FATAL 0 = true := by
      rw [← hagain]
      exact State.isSet_congr (by simp)
    rw [hset] at hs hc
    refine ⟨hsrc, hfatal, ?_, ?_, hpair, State.fatal_pwrDown _ x, hall, hshut⟩
    · simpa using hs
    · simpa using hc

end Sys2Proof.Machine

/-! The resets of each scope (R404 to R409). -/

namespace Sys2Proof.Machine
open Host (Outcome)

/-! ### What a control-plane reset leaves of the staged sets -/

@[simp] theorem sets_ite (c : Prop) [Decidable c] (a b : CmdState) :
    (if c then a else b).sets = if c then a.sets else b.sets := apply_ite CmdState.sets c a b

@[simp] theorem State.each_sets (s : State) (l : List Nat) (f : Nat → State → State)
    (h : ∀ i t, (f i t).cmd.sets = t.cmd.sets) : (s.each l f).cmd.sets = s.cmd.sets :=
  State.each_keeps (fun t => t.cmd.sets) l f h s

@[simp] theorem State.when_sets (s : State) (c : Bool) (f : State → State)
    (h : ∀ t, (f t).cmd.sets = t.cmd.sets) : (s.when c f).cmd.sets = s.cmd.sets :=
  State.when_keeps (fun t => t.cmd.sets) c f s (h s)

@[simp] theorem State.replyRaw_sets (s : State) (k st : Nat) (payload : List Nat) :
    (s.replyRaw k st payload).cmd.sets = s.cmd.sets := by
  unfold State.replyRaw
  repeat' split
  all_goals simp [State.setPhase, State.setPartner, State.writeReply]

@[simp] theorem State.answerSlot_sets (s : State) (k : Nat) (words : List Nat) :
    (s.answerSlot k words).cmd.sets = s.cmd.sets := by
  simp [State.answerSlot, State.writeReply]

@[simp] theorem State.failReply_sets (s : State) (k : Nat) (p : Packet) (st : Nat) (payload : List Nat) :
    (s.failReply k p st payload).cmd.sets = s.cmd.sets := by
  simp [State.failReply]

@[simp] theorem State.restartLease_sets (s : State) (set : Nat) : (s.restartLease set).cmd.sets = s.cmd.sets := by
  simp [State.restartLease, State.setPartner]

@[simp] theorem State.setPhase_sets (s : State) (k : Nat) (ph : PktPhase) : (s.setPhase k ph).cmd.sets = s.cmd.sets := rfl

@[simp] theorem State.passOn_sets (s : State) (k : Nat) : (s.passOn k).cmd.sets = s.cmd.sets := rfl

@[simp] theorem State.takePacket_sets (s : State) (k : Nat) (f : InFlight) :
    (s.takePacket k f).cmd.sets = s.cmd.sets := by
  unfold State.takePacket
  dsimp only
  repeat' split
  all_goals simp

@[simp] theorem State.serveN_sets (n : Nat) (s : State) : (State.serveN n s).cmd.sets = s.cmd.sets := by
  induction n generalizing s with
  | zero => rfl
  | succ n ih =>
    unfold State.serveN
    split
    · rfl
    · simp [ih]

@[simp] theorem State.serveIntake_sets (s : State) : s.serveIntake.cmd.sets = s.cmd.sets := by
  simp [State.serveIntake]

@[simp] theorem State.breakBox_sets (s : State) (k : Nat) : (s.breakBox k).cmd.sets = s.cmd.sets := by
  simp [State.breakBox, State.orphanSlot]

@[simp] theorem State.haltCp_sets (s : State) (c : Nat) : (s.haltCp c).cmd.sets = s.cmd.sets := by
  simp [State.haltCp, State.orphanSlot]

/-- A partner set that a reset frees keeps its standing requests, and no set is staged or dropped. -/
@[simp] theorem State.resetSet_sets (s : State) (p : Nat) : (s.resetSet p).cmd.sets = s.cmd.sets := by
  simp [State.resetSet, State.settleStanding]

/-! ### The control-plane reset -/

/-- A control-plane reset that is not void opens its interval, counts it, and drops the staged sets and checkpoints (R406 to
R409). -/
theorem State.cpReset_begins {s : State} (hstop : s.boot.blockStop = false) (hactive : s.cpActive = false) {last : Nat}
    (hlast : last < 8) :
    (s.cpReset last).getF .GLB_RST_STATUS_CP_ACTIVE 0 = 1 ∧ (s.cpReset last).getF .GLB_RST_STATUS_LAST 0 = last ∧
      (s.cpReset last).getF .GLB_RST_STATUS_CP_COUNT 0 =
        min (s.getF .GLB_RST_STATUS_CP_COUNT 0 + 1) (2 ^ Fld.width .GLB_RST_STATUS_CP_COUNT - 1) ∧
      (s.cpReset last).cmd.sets = [] ∧ (s.cpReset last).fw.ckpt = [] := by
  have hone : 1 % 2 ^ Fld.width .GLB_RST_STATUS_CP_ACTIVE = 1 := by decide
  have hcode : last % 2 ^ Fld.width .GLB_RST_STATUS_LAST = last := Nat.mod_eq_of_lt hlast
  rw [State.cpReset, if_neg (by simp [hstop, hactive])]
  refine ⟨?_, ?_, ?_, ?_, rfl⟩
  · simpa using hone
  · simpa using hcode
  · simp
  · simp [State.setSets]

theorem execCpRst_resets {s : State} {init : Nat} (h : s.initClass init = 5 ∨ s.initClass init = 4) :
    exec (.cpRst init) s = .next (s.cpReset 3) := by
  show execCpRst init s = _
  rw [execCpRst, if_pos h]

theorem execCpRst_refused {s : State} {init : Nat} (h : s.initClass init < 4) :
    exec (.cpRst init) s = .next (s.refuseReset init (fldOffset .GLB_RST_CTRL_CP_RST 0)) := by
  show execCpRst init s = _
  rw [execCpRst, if_neg (by omega)]

theorem execBlCprstNLow_eq (s : State) :
    exec .blCprstNLow s =
      .next ((s.cpReset 4).when (s.cpReset 4).cpActive (fun s => { s with boot := { s.boot with cpPin := true } })) := rfl

theorem execCpIntervalEnd_idle {s : State} (h : s.cpActive = false) : exec .cpIntervalEnd s = .next s := by
  show execCpIntervalEnd s = _
  rw [execCpIntervalEnd, h]
  rfl

/-- The interval ends, and its pin no longer holds the control plane. -/
def State.intervalEnded (s : State) : State :=
  { s.setF .GLB_RST_STATUS_CP_ACTIVE 0 0 with
    boot := { s.boot with cpPin := false },
    cmd := { s.cmd with runs := s.cmd.runs.map (fun r => ({ r with barred := false } : Run)) } }

theorem execCpIntervalEnd_active {s : State} (h : s.cpActive = true) :
    exec .cpIntervalEnd s = .next s.intervalEnded.startRun := by
  show execCpIntervalEnd s = _
  rw [execCpIntervalEnd, h]
  rfl

/-! ### The ordered stop -/

/-- The powering is withdrawn and the block stop begins (R405). -/
def State.stopOrdered (s : State) : State :=
  (({ s with boot := { s.boot with blockStop := true, cpPin := false }, dom := { s.dom with powerGo := 0 } } : State).setF
    .GLB_BOOT_STATUS_PWR_OK 0 0).setF .GLB_RST_STATUS_CP_ACTIVE 0 0

theorem State.stopOrdered_domSt (s : State) (d : Nat) : s.stopOrdered.domSt d = s.domSt d := by
  simp [State.stopOrdered, State.domSt]

theorem State.blockStopDom_of_quiet {s : State} {d : Nat} (h : s.domSt d = 0 ∨ s.domSt d = 4 ∨ s.domSt d = 5) :
    s.blockStopDom d = s := by
  unfold State.blockStopDom
  rcases h with h | h | h <;> rw [h] <;> rfl

/-- Domains that are down or quiescing already have nothing to do, and the groups wait for them. -/
theorem State.blockStopBegin_of_quiet {s : State} (hdown : s.allDown = false)
    (h : s.doms.all (fun d => decide (s.domSt d = 0 ∨ s.domSt d = 4 ∨ s.domSt d = 5)) = true) :
    s.blockStopBegin = s.stopOrdered := by
  have hdoms : s.stopOrdered.each s.stopOrdered.doms (fun d s => s.blockStopDom d) = s.stopOrdered :=
    State.each_inv_of_mem (P := fun t => t = s.stopOrdered) (fun d hd t ht => by
      subst ht
      refine State.blockStopDom_of_quiet ?_
      rw [State.stopOrdered_domSt]
      exact of_decide_eq_true (List.all_eq_true.1 h d hd)) rfl
  have hall : s.stopOrdered.allDown = false := by
    have hdoms : s.stopOrdered.doms = s.doms := rfl
    simpa [State.allDown, State.stopOrdered_domSt, hdoms] using hdown
  rw [show s.blockStopBegin = (s.stopOrdered.each s.stopOrdered.doms (fun d s => s.blockStopDom d)).blockResetAdvance from rfl,
    hdoms, State.blockResetAdvance, hall]
  simp

theorem execBlockRst_begins {s : State} {init : Nat} (hinit : s.initClass init = 5) (hstop : s.boot.blockStop = false) :
    exec (.blockRst init true) s = .next (s.setB .GLB_RST_STATUS_STACK_HELD 0 true).blockStopBegin := by
  have hclass : (s.setB .GLB_RST_STATUS_STACK_HELD 0 true).initClass init = 5 := by simpa [State.initClass] using hinit
  show execBlockRst init true s = _
  rw [execBlockRst, if_pos ⟨hclass, rfl⟩, if_neg (by simp [hstop])]

theorem execBlockRst_refused {s : State} {init : Nat} (hinit : s.initClass init ≠ 5) :
    exec (.blockRst init true) s =
      .next ((s.setB .GLB_RST_STATUS_STACK_HELD 0 true).refuseReset init (fldOffset .GLB_RST_CTRL_BLOCK_RST 0)) := by
  have hclass : (s.setB .GLB_RST_STATUS_STACK_HELD 0 true).initClass init = s.initClass init := by simp [State.initClass]
  show execBlockRst init true s = _
  rw [execBlockRst, if_neg (by rw [hclass]; simp [hinit])]

/-! ### The block reset -/

/-- A row map that keeps keys and the rows of one key keeps what that key reads. -/
theorem Tbl.get_filterMap_of_some {κ α : Type} [DecidableEq κ] {d : α} {g : κ × α → Option (κ × α)} {k : κ}
    (hkey : ∀ p q, g p = some q → q.1 = p.1) (h : ∀ v, g (k, v) = some (k, v)) (t : Tbl κ α) :
    Tbl.get d (t.filterMap g) k = Tbl.get d t k := by
  induction t with
  | nil => rfl
  | cons p r ih =>
    obtain ⟨j, v⟩ := p
    by_cases hj : j = k
    · subst hj
      simp [h, Tbl.get]
    · cases hg : g (j, v) with
      | none => simpa [List.filterMap_cons, hg, Tbl.get, hj] using ih
      | some q => simpa [List.filterMap_cons, hg, Tbl.get, hkey _ _ hg, hj] using ih

/-- A row map that keeps keys and drops the rows of one key leaves that key unlisted. -/
theorem Tbl.get_filterMap_of_none {κ α : Type} [DecidableEq κ] {d : α} {g : κ × α → Option (κ × α)} {k : κ}
    (hkey : ∀ p q, g p = some q → q.1 = p.1) (h : ∀ v, g (k, v) = none) (t : Tbl κ α) :
    Tbl.get d (t.filterMap g) k = d := by
  induction t with
  | nil => rfl
  | cons p r ih =>
    obtain ⟨j, v⟩ := p
    by_cases hj : j = k
    · subst hj
      simpa [List.filterMap_cons, h] using ih
    · cases hg : g (j, v) with
      | none => simpa [List.filterMap_cons, hg] using ih
      | some q => simpa [List.filterMap_cons, hg, Tbl.get, hkey _ _ hg, hj] using ih

/-- What a block reset makes of one row of the register table (R407). -/
def keptRow (p : Fld × Tbl Nat Nat) : Option (Fld × Tbl Nat Nat) :=
  if p.1.kept then some p
  else if p.1 = .PHS_GRP_STATUS_STATE then some (p.1, p.2.filter (fun q => q.2 = 6))
  else if p.1 = .FLT_SRC_STATE then some (p.1, p.2.filter (fun q => q.2 = 4))
  else if p.1 = .CRC_STATUS_STATE then some (p.1, crcFailed p.2)
  else if p.1 = .CRC_STATUS_DUTY then some (p.1, movedDuty p.2)
  else none

theorem keptFields_eq (t : Tbl Fld (Tbl Nat Nat)) : keptFields t = t.filterMap keptRow := rfl

theorem keptRow_key (p q : Fld × Tbl Nat Nat) (h : keptRow p = some q) : q.1 = p.1 := by
  unfold keptRow at h
  repeat' split at h
  all_goals cases h
  all_goals rfl

theorem get_keptFields_of_kept {f : Fld} (h : f.kept = true) (t : Tbl Fld (Tbl Nat Nat)) :
    Tbl.get [] (keptFields t) f = Tbl.get [] t f :=
  Tbl.get_filterMap_of_some keptRow_key (fun v => by simp [keptRow, h]) t

theorem get_keptFields_of_not_kept {f : Fld} (h : ∀ v, keptRow (f, v) = none) (t : Tbl Fld (Tbl Nat Nat)) :
    Tbl.get [] (keptFields t) f = [] :=
  Tbl.get_filterMap_of_none keptRow_key h t

/-- The register table as a block reset leaves it. -/
def State.keepFields (s : State) : State := { s with fields := keptFields s.fields }

theorem State.keepFields_getF_kept {f : Fld} (h : f.kept = true) (s : State) (i : Nat) : s.keepFields.getF f i = s.getF f i := by
  show Tbl.get (Fld.rst s.cfg f i) (Tbl.get [] (keptFields s.fields) f) i = _
  rw [get_keptFields_of_kept h]
  rfl

theorem State.keepFields_getF_reset {f : Fld} (h : ∀ v, keptRow (f, v) = none) (s : State) (i : Nat) :
    s.keepFields.getF f i = Fld.rst s.cfg f i := by
  show Tbl.get (Fld.rst s.cfg f i) (Tbl.get [] (keptFields s.fields) f) i = _
  rw [get_keptFields_of_not_kept h, Tbl.get_nil]

theorem State.blockResetApply_getF_of_keepFields {f : Fld}
    (hf : f ∉ [Fld.GLB_RST_STATUS_LAST, .FLT_STATUS_PAIR_ASSERT, .FLT_STATUS_PAIR_C, .FLT_STATUS_PAIR_T]) (s : State)
    (last i : Nat) : (s.blockResetApply last).getF f i = (s.bumpF .GLB_RST_STATUS_BLK_COUNT 0).keepFields.getF f i := by
  simp only [List.mem_cons, not_or] at hf
  simp [State.blockResetApply, hf]
  rfl

/-- What a block reset leaves in the registers (R407). -/
theorem State.blockResetApply_registers (s : State) {last : Nat} (hlast : last < 8) :
    (s.blockResetApply last).boot_ = 0 ∧ (s.blockResetApply last).getF .GLB_RST_STATUS_LAST 0 = last ∧
      (s.blockResetApply last).getF .GLB_RST_STATUS_BLK_COUNT 0 =
        min (s.getF .GLB_RST_STATUS_BLK_COUNT 0 + 1) (2 ^ Fld.width .GLB_RST_STATUS_BLK_COUNT - 1) ∧
      (s.blockResetApply last).getF .FLT_STATUS_FATAL 0 = s.getF .FLT_STATUS_FATAL 0 := by
  have hcode : last % 2 ^ Fld.width .GLB_RST_STATUS_LAST = last := Nat.mod_eq_of_lt hlast
  refine ⟨?_, ?_, ?_, ?_⟩
  · rw [State.boot_, State.blockResetApply_getF_of_keepFields (by decide), State.keepFields_getF_reset (fun _ => rfl)]
    rfl
  · simpa [State.blockResetApply] using hcode
  · rw [State.blockResetApply_getF_of_keepFields (by decide), State.keepFields_getF_kept rfl, State.getF_bumpF_self]
  · rw [State.blockResetApply_getF_of_keepFields (by decide), State.keepFields_getF_kept rfl]
    simp

/-! ### The statement -/

/-- Settles O40: each reset through the lemma that says what its operation leaves. -/
theorem resetsOfEachScopeAct : Obligations.ResetsOfEachScopeAct := by
  refine ⟨fun s init hinit hstop hactive => ?_, fun s init hinit => execCpRst_refused hinit,
    fun s init hinit => execBlockRst_refused hinit, fun s init hinit hstop hdown hquiet => ?_, fun s => ?_,
    fun s hstop hactive => ?_, fun s hactive hruns => ?_, fun s hidle => execCpIntervalEnd_idle hidle⟩
  · exact ⟨_, execCpRst_resets hinit, State.cpReset_begins hstop hactive (by decide)⟩
  · refine ⟨_, execBlockRst_begins hinit hstop, ?_⟩
    have hst : ∀ d, (s.setB .GLB_RST_STATUS_STACK_HELD 0 true).domSt d = s.domSt d := fun d => by simp [State.domSt]
    rw [State.blockStopBegin_of_quiet (by simpa [State.allDown, State.doms, hst] using hdown)
      (by simpa [State.doms, hst] using hquiet)]
    have hone : 1 % 2 ^ Fld.width .GLB_RST_STATUS_STACK_HELD = 1 := by decide
    exact ⟨rfl, rfl, by simp [State.stopOrdered], by simpa [State.stopOrdered, State.getF_setB] using hone⟩
  · obtain ⟨hboot, hlast, hcount, hfatal⟩ := s.blockResetApply_registers (last := 1) (by decide)
    exact ⟨_, rfl, hboot, hlast, hcount, by simp [State.blockResetApply], hfatal, by simp [State.blockResetApply],
      by simp, by simp⟩
  · obtain ⟨hbegun, hlast, -⟩ := State.cpReset_begins (last := 4) hstop hactive (by decide)
    have hset : (s.cpReset 4).cpActive = true := by simp [State.cpActive, State.isSet, hbegun]
    refine ⟨_, execBlCprstNLow_eq s, ?_⟩
    rw [hset]
    exact ⟨hbegun, hlast, rfl⟩
  · have hhead : s.intervalEnded.headRun = none := by simp [State.headRun, State.intervalEnded, hruns]
    refine ⟨_, execCpIntervalEnd_active hactive, ?_, ?_⟩
    · rw [State.startRun, hhead]
      simp [State.intervalEnded]
    · rw [State.startRun, hhead]
      simp [State.intervalEnded]

end Sys2Proof.Machine

/-! Power-on, fuses, images and the release sequence (R390 to R400). -/

namespace Sys2Proof.Machine
open Host (Outcome)

/-! ### From AON power to IMAGE_LOAD -/

theorem State.aonReset_getF (s : State) (f : Fld) (i : Nat) : s.aonReset.getF f i = State.reset.getF f i := rfl

/-- The state of a Goose that has tested itself and armed (R389, R427). -/
def State.armed (s : State) : State := (s.setF .FLT_GOOSE_STATUS_SELFTEST_OK 0 1).setF .FLT_GOOSE_STATUS_ARMED 0 1

theorem execAonPowerOn_passed (s : State) : exec (.aonPowerOn true) s = .next s.aonReset.armed := rfl

theorem execAonPowerOn_failed (s : State) : exec (.aonPowerOn false) s = .next (s.aonReset.gooseTrip 6 0) := rfl

theorem State.armed_registers (s : State) :
    s.armed.boot_ = s.boot_ ∧ s.armed.getF .FLT_GOOSE_STATUS_ARMED 0 = 1 ∧
      s.armed.getF .FLT_GOOSE_STATUS_SELFTEST_OK 0 = 1 := by
  have harm : 1 % 2 ^ Fld.width .FLT_GOOSE_STATUS_ARMED = 1 := by decide
  have htest : 1 % 2 ^ Fld.width .FLT_GOOSE_STATUS_SELFTEST_OK = 1 := by decide
  refine ⟨?_, ?_, ?_⟩
  · simp [State.armed, State.boot_]
  · simpa [State.armed] using harm
  · simpa [State.armed] using htest

/-- A Goose that has not tripped records the cause of its trip. -/
theorem State.gooseTrip_records {s : State} (h : s.isSet .FLT_GOOSE_STATUS_TRIPPED 0 = false) {code : Nat}
    (hcode : code < 2 ^ Fld.width .FLT_GOOSE_STATUS_CAUSE) (index : Nat) :
    (s.gooseTrip code index).getF .FLT_GOOSE_STATUS_TRIPPED 0 = 1 ∧
      (s.gooseTrip code index).getF .FLT_GOOSE_STATUS_CAUSE 0 = code := by
  have hone : 1 % 2 ^ Fld.width .FLT_GOOSE_STATUS_TRIPPED = 1 := by decide
  have hwidth : code % 2 ^ Fld.width .FLT_GOOSE_STATUS_CAUSE = code := Nat.mod_eq_of_lt hcode
  refine ⟨?_, ?_⟩
  · simpa (maxDischargeDepth := 60) [State.gooseTrip, h] using hone
  · simpa (maxDischargeDepth := 60) [State.gooseTrip, h] using hwidth

/-! ### The straps -/

/-- The straps are sampled, and the fuse load begins (R386, R398). -/
def State.strapped (s : State) (straps : Straps) : State :=
  ({ s with cfg := { s.cfg with straps := straps } } : State).setF .GLB_BOOT_STATUS_STATE 0 1

theorem execPowerOnEnd_powerOn {s : State} (h : s.boot_ = 0) (straps : Straps) :
    exec (.powerOnEnd straps) s = .next (s.strapped straps) := by
  show execPowerOnEnd straps s = _
  rw [execPowerOnEnd, if_pos h]
  rfl

theorem execPowerOnEnd_other {s : State} (h : s.boot_ ≠ 0) (straps : Straps) : exec (.powerOnEnd straps) s = .next s := by
  show execPowerOnEnd straps s = _
  rw [execPowerOnEnd, if_neg h]

/-! ### The fuse load -/

/-- What a fuse load reads: the table and the fuses, with the code of the table's fault (R390, R391). -/
def State.fuseLoaded (s : State) (table : CfgTable) (fuses : Fuses) (uncorrectable : List Nat) (e : Nat) : State :=
  { s with
    cfg := { s.cfg with
      table := table, valid := e = 0,
      fuses := { fuses with words := loadedWords fuses.words s.boot.burned uncorrectable } },
    flt := { s.flt with powerOn := false } }

/-- What the registers of the fuse load then show, and the error pair (R411, R424). -/
def State.fuseShown (s : State) (uncorr : Bool) (word : Nat) : State :=
  ((((s.setF .GLB_FUSE_STAT_LOADED 0 1).setB .GLB_FUSE_STAT_UNCORR 0 uncorr).setF .GLB_FUSE_STAT_BAD_WORD 0 word).setF
    .GLB_FUSE_STAT_CORR_COUNT 0 0).showPair

theorem execFuseLoadDone_clean {s : State} (h : s.boot_ = 1) (table : CfgTable) (fuses : Fuses) :
    exec (.fuseLoadDone table fuses [] []) s = .next (
      let e := tableError table s.cfg.straps.phasesPop false
      let t := (s.fuseLoaded table fuses [] e).fuseShown false 0
      if e = 0 then t.enterImageLoad false
      else if e = 3 then (t.enterSafe 3).raise 0x0E 5 0
      else (t.fresh.2.enterSafe e).raise 0x0E 5 (t.fresh.1 % 65536)) := by
  show execFuseLoadDone table fuses [] [] s = _
  rw [execFuseLoadDone, if_neg (by simp [h])]
  rfl

/-- One uncorrectable word of the factory's makes the table unreadable (R390, R391). -/
theorem execFuseLoadDone_unreadable {s : State} (h : s.boot_ = 1) (table : CfgTable) (fuses : Fuses) {w : Nat} (hw : w < 992) :
    exec (.fuseLoadDone table fuses [] [w]) s =
      .next ((((s.fuseLoaded table fuses [w] 3).fuseShown true w).enterSafe 3).raise 0x0E 5 w) := by
  show execFuseLoadDone table fuses [] [w] s = _
  rw [execFuseLoadDone, if_neg (by simp [h])]
  have hbad : [w].filter (fun w => decide (w < 992)) = [w] := by simp [hw]
  simp only [hbad]
  simp [tableError, State.fuseShown, State.fuseLoaded, State.each]

theorem State.fuseShown_registers (s : State) (uncorr : Bool) {w : Nat} (hw : w < 1024) :
    (s.fuseShown uncorr w).getF .GLB_FUSE_STAT_LOADED 0 = 1 ∧
      (s.fuseShown uncorr w).getF .GLB_FUSE_STAT_UNCORR 0 = (if uncorr then 1 else 0) ∧
      (s.fuseShown uncorr w).getF .GLB_FUSE_STAT_BAD_WORD 0 = w := by
  have hone : 1 % 2 ^ Fld.width .GLB_FUSE_STAT_LOADED = 1 := by decide
  have hbit : (if uncorr then 1 else 0) % 2 ^ Fld.width .GLB_FUSE_STAT_UNCORR = if uncorr then 1 else 0 := by
    cases uncorr <;> decide
  have hword : w % 2 ^ Fld.width .GLB_FUSE_STAT_BAD_WORD = w := Nat.mod_eq_of_lt hw
  refine ⟨?_, ?_, ?_⟩
  · simpa [State.fuseShown] using hone
  · simpa [State.fuseShown, State.getF_setB] using hbit
  · simpa [State.fuseShown] using hword

/-! ### Entering IMAGE_LOAD and SAFE -/

theorem State.enterImageLoad_loads {s : State} (h : s.isSet .FLT_STATUS_FATAL 0 = false) (romOnly : Bool) :
    (s.enterImageLoad romOnly).boot_ = 2 ∧ (s.enterImageLoad romOnly).getF .GLB_BOOT_STATUS_ERR 0 = 0 ∧
      (s.enterImageLoad romOnly).boot.romOnly = romOnly := by
  have hstate : 2 % 2 ^ Fld.width .GLB_BOOT_STATUS_STATE = 2 := by decide
  rw [State.enterImageLoad, h]
  refine ⟨?_, ?_, rfl⟩
  · simpa [State.boot_] using hstate
  · simp

theorem State.enterSafe_shows (s : State) (err : Nat) :
    (s.enterSafe err).boot_ = 4 ∧ (s.enterSafe err).getF .GLB_BOOT_STATUS_ERR 0 = err % 2 ^ Fld.width .GLB_BOOT_STATUS_ERR := by
  have hstate : 4 % 2 ^ Fld.width .GLB_BOOT_STATUS_STATE = 4 := by decide
  refine ⟨?_, ?_⟩
  · simpa [State.boot_, State.enterSafe] using hstate
  · simp [State.enterSafe]

/-! ### The ends of the fuse load -/

theorem State.raise_boot_ (s : State) (sub code index : Nat) : (s.raise sub code index).boot_ = s.boot_ := rfl

theorem State.fuseLoaded_fatal (s : State) (table : CfgTable) (fuses : Fuses) (l : List Nat) (e : Nat) :
    (s.fuseLoaded table fuses l e).getF .FLT_STATUS_FATAL 0 = s.getF .FLT_STATUS_FATAL 0 := rfl

theorem State.fuseShown_cfg (s : State) (uncorr : Bool) (w : Nat) : (s.fuseShown uncorr w).cfg = s.cfg := by
  simp [State.fuseShown]

/-- A valid table lets the block load its images (R391, R398). -/
theorem State.fuseLoaded_enterImageLoad {s : State} (hfatal : s.isSet .FLT_STATUS_FATAL 0 = false) (table : CfgTable)
    (fuses : Fuses) :
    let t := ((s.fuseLoaded table fuses [] 0).fuseShown false 0).enterImageLoad false
    t.boot_ = 2 ∧ t.cfg.table = table ∧ t.cfg.valid = true ∧ t.getF .GLB_FUSE_STAT_LOADED 0 = 1 ∧
      t.getF .GLB_BOOT_STATUS_ERR 0 = 0 := by
  have hclear : ((s.fuseLoaded table fuses [] 0).fuseShown false 0).isSet .FLT_STATUS_FATAL 0 = false := by
    have hkeep : ((s.fuseLoaded table fuses [] 0).fuseShown false 0).getF .FLT_STATUS_FATAL 0 =
        (s.fuseLoaded table fuses [] 0).getF .FLT_STATUS_FATAL 0 := by simp [State.fuseShown]
    exact (State.isSet_congr (hkeep.trans (s.fuseLoaded_fatal table fuses [] 0))).trans hfatal
  obtain ⟨hloaded, -, -⟩ := (s.fuseLoaded table fuses [] 0).fuseShown_registers false (w := 0) (by decide)
  obtain ⟨hstate, herr, -⟩ := State.enterImageLoad_loads hclear false
  have hcfg : (((s.fuseLoaded table fuses [] 0).fuseShown false 0).enterImageLoad false).cfg =
      (s.fuseLoaded table fuses [] 0).cfg := by simp [State.fuseShown_cfg]
  refine ⟨hstate, by rw [hcfg]; rfl, by rw [hcfg]; rfl, ?_, herr⟩
  rw [State.enterImageLoad_getF _ _ _ _ (by decide)]
  exact hloaded

/-- A table of an unfit size or sum takes the block to SAFE with its code (R391, R398). -/
theorem State.fuseLoaded_badTable (s : State) (table : CfgTable) (fuses : Fuses) {e : Nat} (he : e = 1 ∨ e = 2) :
    let t := (s.fuseLoaded table fuses [] e).fuseShown false 0
    let u := (t.fresh.2.enterSafe e).raise 0x0E 5 (t.fresh.1 % 65536)
    u.boot_ = 4 ∧ u.getF .GLB_BOOT_STATUS_ERR 0 = e ∧ u.cfg.valid = false := by
  have hcode : e % 2 ^ Fld.width .GLB_BOOT_STATUS_ERR = e := by rcases he with rfl | rfl <;> decide
  have hvalid : (s.fuseLoaded table fuses [] e).cfg.valid = false := decide_eq_false (by omega)
  obtain ⟨hsafe, herr⟩ := ((s.fuseLoaded table fuses [] e).fuseShown false 0).fresh.2.enterSafe_shows e
  dsimp only
  rw [State.raise_boot_, State.getF_raise]
  refine ⟨hsafe, herr.trans hcode, ?_⟩
  simpa [State.fuseShown_cfg] using hvalid

/-- An unreadable table takes the block to SAFE with ERR 3, and the word shows (R390, R391, R411). -/
theorem State.fuseLoaded_unreadable (s : State) (table : CfgTable) (fuses : Fuses) {w : Nat} (hw : w < 992) :
    let t := (((s.fuseLoaded table fuses [w] 3).fuseShown true w).enterSafe 3).raise 0x0E 5 w
    t.boot_ = 4 ∧ t.getF .GLB_BOOT_STATUS_ERR 0 = 3 ∧ t.getF .GLB_FUSE_STAT_UNCORR 0 = 1 ∧
      t.getF .GLB_FUSE_STAT_BAD_WORD 0 = w := by
  obtain ⟨hsafe, herr⟩ := ((s.fuseLoaded table fuses [w] 3).fuseShown true w).enterSafe_shows 3
  obtain ⟨-, huncorr, hword⟩ := (s.fuseLoaded table fuses [w] 3).fuseShown_registers true (w := w) (by omega)
  dsimp only
  rw [State.raise_boot_, State.getF_raise, State.getF_raise, State.getF_raise]
  refine ⟨hsafe, herr, ?_, ?_⟩
  · rw [State.enterSafe_getF _ _ _ _ (by decide)]
    exact huncorr
  · rw [State.enterSafe_getF _ _ _ _ (by decide)]
    exact hword

/-! ### Images -/

theorem execFlashWake_wakes {s : State} (hboot : s.boot_ = 2) (hrom : s.romMode = false) (hasleep : s.boot.flashAwake = false) :
    exec .flashWake s =
      .next ((({ s with boot := { s.boot with flashAwake := true } } : State).emit (.flash 0xAB 0)).emit (.flash 0x03 0)) := by
  show execFlashWake s = _
  rw [execFlashWake, if_pos (by simp [hboot, hrom, hasleep])]

/-- The check value of an image is formed as its bytes are read (R327). -/
def State.imageRead (s : State) (bytes : List Nat) : State :=
  s.dutyJob 0 (bytes.take (bytes.length - 4)) (some (leAt bytes (bytes.length - 4) 4))

theorem execFlashImageReadDone_reads {s : State} (hboot : s.boot_ = 2) (hrom : s.romMode = false)
    (hawake : s.boot.flashAwake = true) (hnone : s.boot.image = none) (bytes : List Nat) :
    exec (.flashImageReadDone bytes) s = .next (
      let t := s.imageRead bytes
      let c := checkImage s.cfg.table bytes
      if c.1 = 0 then { t with boot := { t.boot with image := some c.2 } }
      else
        let t := t.setF .GLB_BOOT_STATUS_ERR 0 c.1
        if s.boot.backup then (t.enterSafe c.1).raise 0x0E 3 0
        else ({ t with boot := { t.boot with backup := true } } : State).emit (.flash 0x03 0x40000)) := by
  have hcfg : (s.imageRead bytes).cfg = s.cfg := by simp [State.imageRead]
  have hkeep : (s.imageRead bytes).boot = s.boot := by simp [State.imageRead]
  show execFlashImageReadDone bytes s = _
  rw [execFlashImageReadDone, if_pos (by simp [hboot, hrom, hawake, hnone])]
  rw [← hcfg, ← hkeep]
  rfl

/-- The image applied, or none in the ROM modes, and where it came from (R396, R397). -/
def State.imageApplied (s : State) (src : Nat) : State :=
  let img := s.boot.image.getD { version := 0, len := 0, words := [] }
  let t := (img.words.foldl (fun t w => t.imageWrite w.1 w.2) s.applyRom).noteCal
  let t := ((t.setF .GLB_IMG_INFO_VERSION 0 img.version).setF .GLB_IMG_INFO_LEN_KIB 0 (ceilDiv img.len 1024)).setF
    .GLB_BOOT_STATUS_SRC 0 src
  let t := t.when (src = 1) (fun s => s.raise 0x0E 1 0)
  { t with boot := { t.boot with image := none } }

theorem execImageApplyDone_rom {s : State} (hboot : s.boot_ = 2) (hrom : s.romMode = true)
    (hfatal : s.isSet .FLT_STATUS_FATAL 0 = false) :
    exec .imageApplyDone s = .next (if (s.imageApplied 2).cfg.straps.bootMode % 2 = 1
      then (s.imageApplied 2).setF .GLB_BOOT_STATUS_STATE 0 3 else (s.imageApplied 2).enterRelease) := by
  show execImageApplyDone s = _
  rw [execImageApplyDone, if_neg (by simp [hboot, hrom]), hfatal, hrom]
  rfl

theorem execImageApplyDone_fatal {s : State} (hboot : s.boot_ = 2) (hrom : s.romMode = true)
    (hfatal : s.isSet .FLT_STATUS_FATAL 0 = true) : exec .imageApplyDone s = .next (s.enterSafe 9) := by
  show execImageApplyDone s = _
  rw [execImageApplyDone, if_neg (by simp [hboot, hrom]), hfatal]
  rfl

theorem State.imageApplied_shows (s : State) :
    (s.imageApplied 2).getF .GLB_BOOT_STATUS_SRC 0 = 2 ∧ (s.imageApplied 2).cfg = s.cfg ∧
      (s.imageApplied 2).boot.image = none := by
  have hsrc : 2 % 2 ^ Fld.width .GLB_BOOT_STATUS_SRC = 2 := by decide
  refine ⟨?_, ?_, rfl⟩
  · simpa [State.imageApplied] using hsrc
  · simp [State.imageApplied]

/-! ### Release -/

theorem State.enterRelease_begins (s : State) :
    s.enterRelease.boot_ = 5 ∧ s.enterRelease.boot.release = 1 ∧ s.enterRelease.boot.image = s.boot.image := by
  have hstate : 5 % 2 ^ Fld.width .GLB_BOOT_STATUS_STATE = 5 := by decide
  refine ⟨?_, ?_, ?_⟩
  · simpa [State.enterRelease, State.boot_] using hstate
  · simp [State.enterRelease]
  · simp [State.enterRelease]

theorem execBootRelease_hold {s : State} {init : Nat} (hinit : s.initClass init = 5) (hboot : s.boot_ = 3) :
    exec (.bootRelease init) s = .next s.enterRelease := by
  show execBootRelease init s = _
  rw [execBootRelease, if_neg (by simp [hinit]), if_pos hboot]

theorem execBootRelease_refused {s : State} {init : Nat} (hinit : s.initClass init ≠ 5) :
    exec (.bootRelease init) s = .next (s.refuseInit init (fldOffset .GLB_BOOT_CTRL_RELEASE 0)) := by
  show execBootRelease init s = _
  rw [execBootRelease, if_pos hinit]

theorem execUseRom_loads {s : State} {init : Nat} (hinit : s.initClass init = 5) (hboot : s.boot_ = 4)
    (hlow : 4 ≤ s.getF .GLB_BOOT_STATUS_ERR 0) (hhigh : s.getF .GLB_BOOT_STATUS_ERR 0 ≤ 7) :
    exec (.useRom init) s = .next (s.enterImageLoad true) := by
  show execUseRom init s = _
  rw [execUseRom, if_neg (by simp [hinit]), if_pos ⟨hboot, hlow, hhigh⟩]

theorem execUseRom_other {s : State} {init : Nat} (hinit : s.initClass init = 5)
    (h : s.boot_ ≠ 4 ∨ s.getF .GLB_BOOT_STATUS_ERR 0 < 4 ∨ 7 < s.getF .GLB_BOOT_STATUS_ERR 0) :
    exec (.useRom init) s = .next s := by
  show execUseRom init s = _
  rw [execUseRom, if_neg (by simp [hinit]), if_neg (by omega)]

theorem execCfgCommit_commits {s : State} {init : Nat} (hinit : s.initClass init = 5) :
    exec (.cfgCommit init) s = .next (s.setF .GLB_BOOT_STATUS_CFG_COMMITTED 0 1) := by
  show execCfgCommit init s = _
  rw [execCfgCommit, if_neg (by simp [hinit])]

theorem execReleaseSequenceStep_goes {s : State} (hboot : s.boot_ = 5) (hstop : s.boot.blockStop = false)
    (hfatal : s.isSet .FLT_STATUS_FATAL 0 = false) (hruns : s.lt.runs = []) :
    exec .releaseSequenceStep s = .next s.releaseNext := by
  show execReleaseSequenceStep s = _
  rw [execReleaseSequenceStep, if_pos (by simp [hboot, hstop, hfatal, hruns])]

/-- The release sequence stands at a step. -/
def State.atStep (s : State) (n : Nat) : State := { s with boot := { s.boot with release := n } }

theorem State.releaseNext_two {s : State} (h : s.boot.release = 2) : s.releaseNext = (s.atStep 3).releaseGroup 2 := by
  unfold State.releaseNext
  rw [h]
  rfl

theorem State.releaseNext_three {s : State} (h : s.boot.release = 3) :
    s.releaseNext = if s.grp 2 = 3 then (s.atStep 4).releaseGroup 1 else s := by
  unfold State.releaseNext
  rw [h]
  rfl

theorem State.releaseNext_eight {s : State} (h : s.boot.release = 8) : s.releaseNext = s.enterRunIfReady := by
  unfold State.releaseNext
  rw [h]
  rfl

/-- A group in OFF that the sequence enables starts (R82, R399). -/
theorem State.releaseGroup_starts {s : State} {g : Nat} (h : s.grp g = 0) :
    (s.releaseGroup g).grp g = 1 ∧ (s.releaseGroup g).getF .PHS_GRP_CTRL_EN g = 1 ∧ (s.releaseGroup g).boot = s.boot := by
  have hstate : 1 % 2 ^ Fld.width .PHS_GRP_STATUS_STATE = 1 := by decide
  have hone : 1 % 2 ^ Fld.width .PHS_GRP_CTRL_EN = 1 := by decide
  rw [State.releaseGroup, if_pos h]
  refine ⟨?_, ?_, ?_⟩
  · rw [State.setGrp_grp, if_pos rfl, hstate]
  · simpa using hone
  · simp

theorem State.enterRunIfReady_ready {s : State} (hboot : s.boot_ = 5) (hstep : s.boot.release = 8)
    (hfatal : s.isSet .FLT_STATUS_FATAL 0 = false) (hgrps : [0, 1, 2, 3].all (fun g => decide (s.grp g = 3)) = true)
    (hlive : s.poweredLive (fun _ => true) = true) :
    s.enterRunIfReady.boot_ = 6 ∧ s.enterRunIfReady.getF .GLB_BOOT_STATUS_PWR_OK 0 = 1 := by
  have hstate : 6 % 2 ^ Fld.width .GLB_BOOT_STATUS_STATE = 6 := by decide
  have hone : 1 % 2 ^ Fld.width .GLB_BOOT_STATUS_PWR_OK = 1 := by decide
  rw [State.enterRunIfReady, if_pos ⟨hboot, hstep, by simp [hfatal], hgrps, hlive⟩]
  exact ⟨by simpa [State.boot_] using hstate, by simpa using hone⟩

theorem execPwrOkTmoExpiry_early {s : State} (hboot : s.boot_ = 5) (hstep : s.boot.release < 8) :
    exec .pwrOkTmoExpiry s = .next ((s.setF .GLB_BOOT_STATUS_ERR 0 10).raise 0x0E 4 0) := by
  have hwait : s.enterRunIfReady = s := by
    rw [State.enterRunIfReady, if_neg (by omega)]
  show execPwrOkTmoExpiry s = _
  rw [execPwrOkTmoExpiry, hwait, if_pos hboot]

/-! ### The statement -/

/-- Settles O39: each command through the equation that says what it does in the state named. -/
theorem bringUpAndResetMoveTheBlock : Obligations.BringUpAndResetMoveTheBlock := by
  refine ⟨fun s => ?_, fun s => ?_, fun s => rfl, fun s straps hboot => ?_,
    fun s straps hboot => execPowerOnEnd_other hboot straps,
    fun s table fuses hboot hok hfatal => ?_, fun s table fuses e hboot he hbad => ?_, fun s table fuses w hboot hw => ?_,
    fun s hboot hrom hasleep => ?_, fun s bytes hboot hrom hawake hnone hgood => ?_,
    fun s bytes hboot hrom hawake hnone hprimary hbad => ?_, fun s bytes hboot hrom hawake hnone hbackup hbad => ?_,
    fun s hboot hrom hfatal => ?_, fun s hboot hfatal hrom => ?_, fun s init hinit hboot => ?_,
    fun s init hinit => execBootRelease_refused hinit, fun s init hinit hboot hlow hhigh hfatal => ?_,
    fun s init hinit h => execUseRom_other hinit h, fun s init hinit => execCfgCommit_commits hinit,
    fun s hboot hstop hfatal hruns hstep hgrp => ?_, fun s hboot hstop hfatal hruns hstep hvio hgrp => ?_,
    fun s hboot hstep hgrp => ?_, fun s hboot hstop hfatal hruns hstep h0 h1 h2 h3 hlive => ?_, fun s hboot hstep => ?_⟩
  · obtain ⟨hboot, harm, htest⟩ := s.aonReset.armed_registers
    exact ⟨_, execAonPowerOn_passed s, hboot, rfl, harm, htest, rfl, rfl⟩
  · have harmed : (s.aonReset.gooseTrip 6 0).getF .FLT_GOOSE_STATUS_ARMED 0 = 0 := by
      rw [State.gooseTrip_getF _ _ _ _ _ (by decide), State.aonReset_getF]
      rfl
    exact ⟨_, execAonPowerOn_failed s, harmed, State.gooseTrip_records rfl (by decide) 0⟩
  · have hstate : 1 % 2 ^ Fld.width .GLB_BOOT_STATUS_STATE = 1 := by decide
    exact ⟨_, execPowerOnEnd_powerOn hboot straps, by simpa [State.strapped, State.boot_] using hstate, rfl, rfl⟩
  · refine ⟨_, execFuseLoadDone_clean hboot table fuses, ?_⟩
    dsimp only
    rw [hok, if_pos rfl]
    exact State.fuseLoaded_enterImageLoad hfatal table fuses
  · refine ⟨_, execFuseLoadDone_clean hboot table fuses, ?_⟩
    dsimp only
    rw [he, if_neg (by omega), if_neg (by omega)]
    exact State.fuseLoaded_badTable s table fuses hbad
  · exact ⟨_, execFuseLoadDone_unreadable hboot table fuses hw, State.fuseLoaded_unreadable s table fuses hw⟩
  · refine ⟨_, execFlashWake_wakes hboot hrom hasleep, rfl, ?_⟩
    simp [State.emit]
  · refine ⟨_, execFlashImageReadDone_reads hboot hrom hawake hnone bytes, ?_⟩
    dsimp only
    rw [if_pos hgood]
    exact ⟨rfl, by simpa [State.boot_, State.imageRead] using hboot⟩
  · refine ⟨_, execFlashImageReadDone_reads hboot hrom hawake hnone bytes, ?_⟩
    dsimp only
    rw [if_neg hbad, hprimary, if_neg Bool.false_ne_true]
    refine ⟨rfl, ?_, ?_⟩
    · simp
    · simpa [State.boot_, State.imageRead] using hboot
  · refine ⟨_, execFlashImageReadDone_reads hboot hrom hawake hnone bytes, ?_⟩
    dsimp only
    rw [if_neg hbad, hbackup, if_pos rfl]
    obtain ⟨hsafe, herr⟩ := ((s.imageRead bytes).setF .GLB_BOOT_STATUS_ERR 0 (checkImage s.cfg.table bytes).1).enterSafe_shows
      (checkImage s.cfg.table bytes).1
    rw [State.raise_boot_, State.getF_raise]
    exact ⟨hsafe, herr⟩
  · obtain ⟨hsrc, hcfg, himage⟩ := s.imageApplied_shows
    refine ⟨_, execImageApplyDone_rom hboot hrom hfatal, ?_⟩
    rw [hcfg]
    split
    · have hstate : 3 % 2 ^ Fld.width .GLB_BOOT_STATUS_STATE = 3 := by decide
      exact ⟨by simpa [State.boot_] using hstate, by simpa using hsrc, himage⟩
    · obtain ⟨hstate, -, hkeep⟩ := (s.imageApplied 2).enterRelease_begins
      exact ⟨hstate, by simpa [State.enterRelease] using hsrc, hkeep.trans himage⟩
  · obtain ⟨hsafe, herr⟩ := s.enterSafe_shows 9
    exact ⟨_, execImageApplyDone_fatal hboot hrom hfatal, hsafe, herr⟩
  · obtain ⟨hstate, hstep, -⟩ := s.enterRelease_begins
    exact ⟨_, execBootRelease_hold hinit hboot, hstate, hstep⟩
  · obtain ⟨hstate, herr, hrom⟩ := State.enterImageLoad_loads hfatal true
    exact ⟨_, execUseRom_loads hinit hboot hlow hhigh, hstate, by simp [State.romMode, hrom], herr⟩
  · obtain ⟨hon, hen, hkeep⟩ := State.releaseGroup_starts (s := s.atStep 3) hgrp
    refine ⟨_, execReleaseSequenceStep_goes hboot hstop hfatal hruns, ?_⟩
    rw [State.releaseNext_two hstep]
    exact ⟨by rw [hkeep]; rfl, hon, hen⟩
  · obtain ⟨hon, -, hkeep⟩ := State.releaseGroup_starts (s := s.atStep 4) hgrp
    refine ⟨_, execReleaseSequenceStep_goes hboot hstop hfatal hruns, ?_⟩
    rw [State.releaseNext_three hstep, if_pos hvio]
    exact ⟨by rw [hkeep]; rfl, hon⟩
  · show execReleaseSequenceStep s = _
    rw [execReleaseSequenceStep, State.releaseNext_three hstep, if_neg hgrp, ite_self]
  · refine ⟨_, execReleaseSequenceStep_goes hboot hstop hfatal hruns, ?_⟩
    rw [State.releaseNext_eight hstep]
    exact State.enterRunIfReady_ready hboot hstep hfatal (by simp [h0, h1, h2, h3]) hlive
  · have herr : 10 % 2 ^ Fld.width .GLB_BOOT_STATUS_ERR = 10 := by decide
    exact ⟨_, execPwrOkTmoExpiry_early hboot hstep, by simpa [State.boot_] using hboot, by simpa using herr, rfl⟩

end Sys2Proof.Machine
